-- ==== Sys2Proof/Word.lean ====
section
/-! DEFINITION. The words of the module (00 R6): bytes, 32-bit supervisor registers, 64-bit core registers and
128-bit instruction words, and the wide values of keys and tags. -/
namespace Sys2Proof

/-- One byte. -/
abbrev Byte := BitVec 8
/-- A supervisor register (00 R6). -/
abbrev W32 := BitVec 32
/-- A core-space register (05 R646). -/
abbrev W64 := BitVec 64
/-- An instruction word (11 R272). -/
abbrev W128 := BitVec 128
/-- A sequence of bytes, the first at the lowest address. -/
abbrev Bytes := List Byte

/-- What a mailbox frame carries besides its type and body (23 Table 23-1): the host number, the sequence number and the
frame minor.  A message row stands for an authentic frame of major 1 that is decided alone in its tick. -/
structure Hdr where
  host : Fin 16
  seq : BitVec 32
  minor : Fin 16
  deriving DecidableEq, Repr

/-- A WR of one 64-bit core register (05 R646, 06 Table 6-9): the port and partition it carries, its tag, byte enables
and data. -/
structure CoreWr where
  port : Fin 18
  part : Fin 16
  tag : BitVec 16
  be : BitVec 8
  data : BitVec 64
  deriving DecidableEq, Repr

/-- What every Q request carries (06 Table 6-8): port, partition, tag and address. -/
structure QHdr where
  port : Fin 18
  part : Fin 16
  tag : BitVec 16
  addr : BitVec 64
  deriving DecidableEq, Repr

/-- The fields of an LM INIT (06 Table 6-6). -/
structure InitMsg where
  txid : Byte
  version : Byte
  role : Byte
  kind : Byte
  ackd : Bool
  resume : Bool
  q : Byte
  s : Byte
  m : Byte
  next : BitVec 16
  ack : BitVec 16
  deriving DecidableEq, Repr

/-- What the Pails report of the reads of an instruction (09 R226): corrected errors of the A-, S- and C-Pail, and whether
an uncorrectable error stands in the word it reads next. -/
structure PailRep where
  aCe : Byte
  sCe : Byte
  cCe : Byte
  ue : Bool
  deriving DecidableEq, Repr

/-- What a read of one 64-byte unit of the Vat finds (14 R381). -/
inductive UnitErr where
  | clean | ceStack | ceCtl | ue
  deriving DecidableEq, Repr

/-- A detector named by block code, instance and type, with the address its event would carry (21 Table 21-3). -/
structure DetRef where
  code : Byte
  inst : Byte
  typ : Byte
  addr : BitVec 64
  deriving DecidableEq, Repr

end Sys2Proof
end

