-- ==== Sys2Proof/Syntax.lean ====
section
/-! DEFINITION. The commands of the module: one constructor per row of spec/opcode_table.json, in the table's order,
with the operands its rule gives it.  A command is what the world outside the model does to the module, or the moment at
which something inside it ends; log entry 4 says how a row stands for its event. -/
namespace Sys2Proof

/-- How a frame fares on the Milk chain (16 R414, R419): how many monitors the ring holds, which of its segments are parted (segment 0
lies before position 1, the last one before CHAIN_RET), the segment on which other bytes take the frame's place, if any, and which
monitors (bit p - 1) are repeating a frame the other way as it comes. -/
structure MilkLine where
  n : Fin 13
  cut : BitVec 13
  hit : Option (Fin 13 × List Byte)
  busy : BitVec 12
  deriving DecidableEq, Repr

/-- What comes back in a frame to the cartridge (07 R168): `CAR_STAT`, and the data of the frame before it where that was a read. -/
structure CarFrame where
  stat : BitVec 16
  data : BitVec 16
  deriving DecidableEq, Repr

/-- A laser that fails (07 R172): its wavelength, and whether the cartridge has set its `CAR_FAIL` bit. -/
structure LaserLoss where
  n : Fin 20
  car : Bool
  deriving DecidableEq, Repr

/-- The commands. -/
inductive Instr where
  /-- AUX_POWER_UP (R42). -/
  | auxPowerUp
  /-- RESET_END (R84). -/
  | resetEnd
  /-- AUX_DROP_IN_RESET (R42). -/
  | auxDropInReset
  /-- AUX_POWER_FAIL_WARNING (R47). -/
  | auxPowerFailWarning
  /-- HOLDUP_END (R42). -/
  | holdupEnd (auxHigh : Bool)
  /-- INPUTS_STAGE_END (R46). -/
  | inputsStageEnd (ok : Bool)
  /-- RECORDER_SCAN_DONE (R590). -/
  | recorderScanDone
  /-- MAIN_FEED_LOST (R73). -/
  | mainFeedLost (ovr : Bool)
  /-- MAIN_OK_RESTORED (R72). -/
  | mainOkRestored
  /-- AON_PD_REQ_WRITE (R59). -/
  | aonPdReqWrite (h : Hdr) (v : BitVec 32)
  /-- DOMAIN_READY (R55). -/
  | domainReady (d : Fin 23)
  /-- DOMAIN_OFF (R55). -/
  | domainOff (d : Fin 23)
  /-- CORE_RAIL_DISCHARGED (R74). -/
  | coreRailDischarged
  /-- TG_IDLE_EXPIRY (R63). -/
  | tgIdleExpiry (g : Fin 8)
  /-- ENG_IDLE_EXPIRY (R63). -/
  | engIdleExpiry (e : Fin 4)
  /-- RECORDER_IDLE_OFF (R57). -/
  | recorderIdleOff
  /-- HERD_GATED_WAKE (R58). -/
  | herdGatedWake
  /-- CLK_TG_FREQ_WRITE (R66). -/
  | clkTgFreqWrite (h : Hdr) (g : Fin 8) (v : BitVec 32)
  /-- FREQ_STEP_DONE (R66). -/
  | freqStepDone (g : Fin 8)
  /-- CK00_FAIL (R68). -/
  | ck00Fail
  /-- CK00_RECOVER (R68). -/
  | ck00Recover
  /-- CK08_FAIL (R68). -/
  | ck08Fail
  /-- CK09_FAIL (R68). -/
  | ck09Fail
  /-- CK10_OVERFREQ (R68). -/
  | ck10Overfreq
  /-- TG_CLOCK_OVERFREQ (R68). -/
  | tgClockOverfreq (g : Fin 8)
  /-- TG_RAIL_OVERVOLTAGE (R75). -/
  | tgRailOvervoltage (g : Fin 8)
  /-- CORE_JUNCTION_TRIP (R75). -/
  | coreJunctionTrip (tj : BitVec 16)
  /-- THERMAL_DIODE_READ (R75). -/
  | thermalDiodeRead (t0 t1 t2 t3 t4 : BitVec 16)
  /-- SUP_JUNCTION_TRIP (R75). -/
  | supJunctionTrip (tj : BitVec 16)
  /-- SUP_JUNCTION_RELEASE (R75). -/
  | supJunctionRelease (tj : BitVec 16)
  /-- SAFETY_INPUT_DEMAND (R530). -/
  | safetyInputDemand (n : Fin 8) (chB : Bool)
  /-- SAFETY_INPUT_CLEAR (R530). -/
  | safetyInputClear (n : Fin 8)
  /-- INPUT_SHORT (R529). -/
  | inputShort (n : Fin 8) (chB : Bool)
  /-- INPUT_CROSS (R529). -/
  | inputCross (n : Fin 8) (chB : Bool)
  /-- INPUT_DISCREPANCY (R529). -/
  | inputDiscrepancy (n : Fin 8)
  /-- SVC_KEY_CHANGE (R21). -/
  | svcKeyChange (on : Bool)
  /-- WAKE_IN_CHANGE (R69). -/
  | wakeInChange (on : Bool)
  /-- LIGHT_CHANGE (R183). -/
  | lightChange (p : Fin 16) (on : Bool)
  /-- LSC_PRES_CHANGE (R51). -/
  | lscPresChange (mated : Bool)
  /-- FIELD_CONNECTOR_CHANGE (R49). -/
  | fieldConnectorChange (mated : Bool)
  /-- BATTERY_HARNESS_CHANGE (R50). -/
  | batteryHarnessChange (hpres bjl : Bool)
  /-- COPPER_CABLE_CHANGE (R52). -/
  | copperCableChange (c : Fin 2) (present : Bool)
  /-- NID_STRAP_CHANGE (R54). -/
  | nidStrapChange (nid : Fin 16)
  /-- FLT_WIRE_SET (R41). -/
  | fltWireSet (read : BitVec 2)
  /-- FLT_WIRE_CLEAR (R41). -/
  | fltWireClear (read : BitVec 2)
  /-- QUAL_SELFTEST_DONE (R86). -/
  | qualSelftestDone (g : Fin 8) (rows cols : BitVec 32)
  /-- QUAL_RAMP_DONE (R86). -/
  | qualRampDone (g : Fin 8) (pass : Bool)
  /-- T_WIDEN_EXPIRY (R136). -/
  | tWidenExpiry (k : Fin 16)
  /-- DECISION_TICK (R118). -/
  | decisionTick
  /-- FRAME_RECEIVE (R604, R610): a MAC frame on the bus, with its check sequence as received. -/
  | frameReceive (dst src : BitVec 48) (etherType : BitVec 16) (payload : List Byte) (fcs : BitVec 32)
  /-- HELLO (R614). -/
  | hello (h : Hdr) (feat : BitVec 128) (src : BitVec 48)
  /-- CAPS (R615). -/
  | caps (h : Hdr)
  /-- REG_READ (R616). -/
  | regRead (h : Hdr) (idx : BitVec 16) (count : Byte)
  /-- REG_WRITE (R616). -/
  | regWrite (h : Hdr) (idx : BitVec 16) (vals : List (BitVec 32))
  /-- TIME_READ (R616). -/
  | timeRead (h : Hdr)
  /-- RECORD_READ (R591). -/
  | recordRead (h : Hdr) (start : BitVec 32) (count : Byte)
  /-- SAFETY_CFG_READ (R616). -/
  | safetyCfgRead (h : Hdr)
  /-- STEWARD_CLAIM (R113). -/
  | stewardClaim (h : Hdr) (force : Bool)
  /-- STEWARD_RENEW (R113). -/
  | stewardRenew (h : Hdr)
  /-- STEWARD_RELEASE (R113). -/
  | stewardRelease (h : Hdr)
  /-- LEASE_EXPIRY (R113). -/
  | leaseExpiry
  /-- WAKE (R69). -/
  | wake (h : Hdr) (mask : BitVec 32)
  /-- SLEEP_HINT (R71). -/
  | sleepHint (h : Hdr) (mask : BitVec 32) (vat : Byte) (core : Bool)
  /-- CONTACTOR_CMD (R482). -/
  | contactorCmd (h : Hdr) (c : Fin 4) (close force : Bool)
  /-- LSW_CMD (R502). -/
  | lswCmd (h : Hdr) (n : Fin 16) (on cfg : Bool) (ilim : BitVec 16) (blank : Byte)
  /-- LOOP_SET (R507). -/
  | loopSet (h : Hdr) (n : Fin 4) (microamps : BitVec 32)
  /-- POWER_SHARE_SET (R395). -/
  | powerShareSet (h : Hdr) (p reserve : BitVec 16)
  /-- LIMITSET_LOAD (R463). -/
  | limitsetLoad (h : Hdr) (image : List Byte)
  /-- MODEL_LOAD (R452). -/
  | modelLoad (h : Hdr) (image : List Byte)
  /-- SAFETY_CFG_LOAD (R543). -/
  | safetyCfgLoad (h : Hdr) (image : List Byte)
  /-- FAULT_ACK (R561). -/
  | faultAck (h : Hdr) (code inst : Byte)
  /-- MGT_PLCA_WRITE (R602). -/
  | mgtPlcaWrite (h : Hdr) (v : BitVec 32)
  /-- PLCA_FAIL (R603). -/
  | plcaFail
  /-- MGT_KEY_COMMIT (R619). -/
  | mgtKeyCommit (h : Hdr) (auth : Bool) (key : List Byte) (slot : Fin 16)
  /-- MGT_KEY_ERASE (R619). -/
  | mgtKeyErase (h : Hdr) (slot : Fin 16)
  /-- MIRROR_WRITE (R16). -/
  | mirrorWrite (w : CoreWr) (idx : BitVec 16)
  /-- RS_LOW_READ (R592). -/
  | rsLowRead (port : Bool) (req : Fin 18) (idx : BitVec 16)
  /-- PARTITION_OPEN (R105). -/
  | partitionOpen (w : CoreWr) (p : Fin 16)
  /-- PARTITION_RECLAIM (R109). -/
  | partitionReclaim (w : CoreWr) (p : Fin 16)
  /-- PT_TILES_WRITE (R109). -/
  | ptTilesWrite (w : CoreWr) (p : Fin 16)
  /-- PAGE_OWN_WRITE (R107). -/
  | pageOwnWrite (w : CoreWr) (page : Fin 147456)
  /-- PAGE_CLEAR_DONE (R109). -/
  | pageClearDone (page : Fin 147456)
  /-- TILE_ZEROING_DONE (R109). -/
  | tileZeroingDone (t : Fin 64)
  /-- PT_PORTS_WRITE (R111). -/
  | ptPortsWrite (w : CoreWr) (p : Fin 16)
  /-- SEP_PC_ADMIT (R111). -/
  | sepPcAdmit (w : CoreWr)
  /-- SEP_STW_PROVE (R115). -/
  | sepStwProve (w : CoreWr)
  /-- RD (R146). -/
  | rd (q : QHdr) (len : BitVec 16)
  /-- WR (R646). -/
  | wr (q : QHdr) (beFirst beLast : BitVec 4) (data : List Byte)
  /-- FADD64 (R146). -/
  | fadd64 (q : QHdr) (addend : BitVec 64)
  /-- CAS64 (R146). -/
  | cas64 (q : QHdr) (cmp swap : BitVec 64)
  /-- RD_RSP (R146). -/
  | rdRsp (k : Fin 18) (tag : BitVec 16)
  /-- WR_RSP (R146). -/
  | wrRsp (k : Fin 18) (tag : BitVec 16)
  /-- ATOM_RSP (R146). -/
  | atomRsp (k : Fin 18) (tag : BitVec 16)
  /-- LNK_EN_WRITE (R134). -/
  | lnkEnWrite (w : CoreWr) (k : Fin 18)
  /-- LNK_RETRAIN_WRITE (R138). -/
  | lnkRetrainWrite (w : CoreWr) (k : Fin 18)
  /-- LNK_LOOP_REQ_WRITE (R142). -/
  | lnkLoopReqWrite (w : CoreWr) (k : Fin 18)
  /-- FLIT_RECEIVE (R131). -/
  | flitReceive (k : Fin 18) (flit : List Byte)
  /-- NAK_TIMEOUT (R132). -/
  | nakTimeout (k : Fin 18)
  /-- REPLAY_TIMEOUT (R133). -/
  | replayTimeout (k : Fin 18)
  /-- INIT (R135). -/
  | init (k : Fin 18) (m : InitMsg)
  /-- T_INIT_EXPIRY (R135). -/
  | tInitExpiry (k : Fin 18)
  /-- WIDTH_REQ (R137). -/
  | widthReq (k : Fin 18) (txid : Byte) (mask : BitVec 16) (sent : Byte)
  /-- WIDTH_ACK (R137). -/
  | widthAck (k : Fin 18) (txid : Byte) (mask : BitVec 16) (m : Byte)
  /-- WIDTH_SWITCH (R137). -/
  | widthSwitch (k : Fin 18) (rx : Bool)
  /-- REMAP_REQ (R140). -/
  | remapReq (k : Fin 18) (txid : Byte) (theyReceive fail : Bool) (lane b : Byte)
  /-- REMAP_RDY (R140). -/
  | remapRdy (k : Fin 18) (txid lane b sent : Byte)
  /-- REMAP_SW (R140). -/
  | remapSw (k : Fin 18) (txid lane b m : Byte)
  /-- REMAP_SWITCH (R140). -/
  | remapSwitch (k : Fin 18) (rx : Bool)
  /-- REMAP_ABORT (R140). -/
  | remapAbort (k : Fin 18) (txid lane reason : Byte)
  /-- LOOP_REQ (R142). -/
  | loopReq (k : Fin 18)
  /-- LOOP_ACK (R142). -/
  | loopAck (k : Fin 18) (txid : Byte)
  /-- RETRAIN (R138). -/
  | retrain (k : Fin 18) (txid : Byte)
  /-- T_ACQ_EXPIRY (R134). -/
  | tAcqExpiry (k : Fin 18)
  /-- T_ALIGN_EXPIRY (R134). -/
  | tAlignExpiry (k : Fin 18)
  /-- T_LM_EXPIRY (R137). -/
  | tLmExpiry (k : Fin 18) (hs : Fin 3)
  /-- T_REMAP_EXPIRY (R140). -/
  | tRemapExpiry (k : Fin 18) (rx : Bool)
  /-- T_RETRY_EXPIRY (R134). -/
  | tRetryExpiry (k : Fin 18)
  /-- LANE_LOS (R210). -/
  | laneLos (k : Fin 18) (lane : Fin 20)
  /-- LANE_LOS_CLEAR (R210). -/
  | laneLosClear (k : Fin 18) (lane : Fin 20)
  /-- LANE_LOCK (R210). -/
  | laneLock (k : Fin 18) (lane : Fin 20)
  /-- LANE_LOCK_LOSS (R210). -/
  | laneLockLoss (k : Fin 18) (lane : Fin 20)
  /-- FWD_CLOCK_LOCK_LOSS (R219). -/
  | fwdClockLockLoss (k : Fin 18)
  /-- MARKER_ALIGNED (R202). -/
  | markerAligned (k : Fin 18) (lane : Fin 20)
  /-- MARKER_ALIGNMENT_LOSS (R202). -/
  | markerAlignmentLoss (k : Fin 18) (lane : Fin 20)
  /-- LOS_BLANKING_END (R211). -/
  | losBlankingEnd (k : Fin 16) (los : Bool)
  /-- LNK_TXEQ_WRITE (R207). -/
  | lnkTxeqWrite (w : CoreWr) (k : Fin 18)
  /-- LNK_SSC_WRITE (R206). -/
  | lnkSscWrite (w : CoreWr) (k : Fin 18)
  /-- DFE_RESET (R218). -/
  | dfeReset (w : CoreWr) (k : Fin 18)
  /-- DFE_FREEZE_WRITE (R208). -/
  | dfeFreezeWrite (w : CoreWr) (k : Fin 18)
  /-- DFE_TAP_SATURATED (R208). -/
  | dfeTapSaturated (k : Fin 18) (lane : Fin 20) (tap : Fin 5)
  /-- PYU_RESET (R194). -/
  | pyuReset (w : CoreWr) (e : Fin 4)
  /-- ENGINE_RESET_DONE (R194). -/
  | engineResetDone (e : Fin 4)
  /-- LSC_READY_TIMEOUT (R185). -/
  | lscReadyTimeout (e : Fin 4) (carId : BitVec 16)
  /-- BANK_LOCK (R184). -/
  | bankLock (e : Fin 4) (failed : BitVec 20)
  /-- BANK_FAULT (R174). -/
  | bankFault (e : Fin 4)
  /-- LASER_FAIL_DECLARE (R172). -/
  | laserFailDeclare (e : Fin 4) (x : LaserLoss)
  /-- RING_CALIBRATION_DONE (R177). -/
  | ringCalibrationDone (k : Fin 16) (rx : Bool) (wl : Fin 20)
  /-- SPARE_RECAL_TIMER (R177). -/
  | spareRecalTimer (k : Fin 16) (rx : Bool) (wl : Fin 20)
  /-- ROTATION_START (R178). -/
  | rotationStart (k : Fin 16) (rx : Bool) (low : Option (Fin 16))
  /-- RING_RANGE_END (R176). -/
  | ringRangeEnd (k : Fin 16) (rx : Bool) (wl : Fin 20)
  /-- LAMBDA16_LOS (R180). -/
  | lambda16Los (k : Fin 16)
  /-- PROBE_BURST (R180). -/
  | probeBurst (k : Fin 16)
  /-- PROBE_BURST_END (R180). -/
  | probeBurstEnd (k : Fin 16)
  /-- LEN_DROP (R191). -/
  | lenDrop (lineB : Bool)
  /-- LSC_POLL (R168). -/
  | lscPoll (x : CarFrame)
  /-- LSC_WIN_WRITE (R170). -/
  | lscWinWrite (w : CoreWr)
  /-- LSC_FRAME_DONE (R168). -/
  | lscFrameDone (stat data : BitVec 16)
  /-- NOP (R274). -/
  | nop (t : Fin 64)
  /-- LDV (R286). -/
  | ldv (t : Fin 64) (ch : Bool) (n : Fin 4097)
  /-- STV (R286). -/
  | stv (t : Fin 64) (ch : Bool) (n : Fin 4097)
  /-- SLD (R292). -/
  | sld (t : Fin 64)
  /-- MPASS (R297). -/
  | mpass (t : Fin 64) (n : Fin 4097)
  /-- RBSET (R296). -/
  | rbset (t : Fin 64)
  /-- VOP (R314). -/
  | vop (t : Fin 64) (n : Fin 4097)
  /-- VRED (R316). -/
  | vred (t : Fin 64) (n : Fin 4097)
  /-- VCVT (R318). -/
  | vcvt (t : Fin 64) (n : Fin 4097)
  /-- VTOPK (R319). -/
  | vtopk (t : Fin 64) (n : Fin 4097)
  /-- XSIG (R321). -/
  | xsig (t : Fin 64)
  /-- XSIG_DELIVER (R334). -/
  | xsigDeliver (t : Fin 64)
  /-- BAR (R322). -/
  | bar (t : Fin 64)
  /-- BARRIER_COMPLETE (R322). -/
  | barrierComplete (p : Fin 16) (b : Fin 16)
  /-- TCLR (R323). -/
  | tclr (t : Fin 64)
  /-- LOOP (R324). -/
  | loop (t : Fin 64)
  /-- RFENCE (R327). -/
  | rfence (p : Fin 16) (r : Fin 8)
  /-- CPL (R328). -/
  | cpl (t : Fin 64)
  /-- HMSG (R329). -/
  | hmsg (t : Fin 64) (rep : PailRep)
  /-- INSTRUCTION_COMPLETE (R277). -/
  | instructionComplete (t : Fin 64) (k : Fin 32) (rep : PailRep)
  /-- SHADOW_LOAD_DONE (R227). -/
  | shadowLoadDone (t : Fin 64) (rep : PailRep)
  /-- RAMP_DOWN (R240). -/
  | rampDown (t : Fin 64)
  /-- RAMP_GRANT (R404). -/
  | rampGrant (t : Fin 64)
  /-- RING_FETCH (R343). -/
  | ringFetch (p : Fin 16) (t : Fin 64)
  /-- PREEMPTION_RESUME (R353). -/
  | preemptionResume (t : Fin 64)
  /-- SEP_RING_EN_WRITE (R340). -/
  | sepRingEnWrite (w : CoreWr) (r : Fin 8)
  /-- SEP_RING_DB (R341). -/
  | sepRingDb (w : CoreWr) (r : Fin 8)
  /-- SEP_CQ_EN_WRITE (R346). -/
  | sepCqEnWrite (w : CoreWr)
  /-- SEP_CQ_CONS_WRITE (R348). -/
  | sepCqConsWrite (w : CoreWr)
  /-- PERF_CLEAR (R361). -/
  | perfClear (w : CoreWr)
  /-- TELEMETRY_PERIOD (R362). -/
  | telemetryPeriod (p : Fin 16) (count : BitVec 64)
  /-- VAT_PC_KEY_WRITE (R378). -/
  | vatPcKeyWrite (w : CoreWr) (m : Fin 8)
  /-- KEY_COMMIT (R378). -/
  | keyCommit (w : CoreWr)
  /-- SCRUB_BURST (R384). -/
  | scrubBurst (q : Fin 128) (e0 e1 e2 e3 : UnitErr)
  /-- FORCED_SCRUB (R385). -/
  | forcedScrub (q : Fin 128) (e0 e1 e2 e3 : UnitErr)
  /-- GOVERNOR_UPDATE (R401). -/
  | governorUpdate (sample tj : BitVec 16) (fails : Bool)
  /-- ASSIST_LOST (R398). -/
  | assistLost
  /-- OVER_BUDGET (R402). -/
  | overBudget
  /-- IDLE_TRIP (R403). -/
  | idleTrip
  /-- IDLE_TRIP_RELEASE (R403). -/
  | idleTripRelease
  /-- MILK_ROUND_START (R427). -/
  | milkRoundStart (out ret : MilkLine)
  /-- SYNC_MEASURE (R422). -/
  | syncMeasure (p : Fin 12) (cells temps : List (BitVec 16)) (wire recent : Bool)
  /-- READ (R423). -/
  | read (ret : Bool) (us : BitVec 16) (line : MilkLine)
  /-- DATA (R429). -/
  | data (ret : Bool) (rx : Option (List Byte))
  /-- RESPONSE_TIMEOUT (R429). -/
  | responseTimeout (ret : Bool)
  /-- ECHO_TIMEOUT (R431). -/
  | echoTimeout
  /-- MILK_ROUND_COMPLETE (R430). -/
  | milkRoundComplete (dur : BitVec 16)
  /-- ENUM (R421). -/
  | enum (ret : Bool) (line : MilkLine)
  /-- ENUM_RSP (R426). -/
  | enumRsp (ret : Bool) (rx : Option (List Byte))
  /-- SETUP (R421). -/
  | setup (a : Fin 12) (line : MilkLine) (lost : Bool) (rx : Option (List Byte))
  /-- RESET (R421). -/
  | resetMon (out ret : MilkLine)
  /-- SLEEP (R421). -/
  | sleep (out ret : MilkLine)
  /-- PING (R417). -/
  | ping (line : MilkLine)
  /-- ENUMERATION (R426). -/
  | enumeration
  /-- HRD_ENUM_WRITE (R426). -/
  | hrdEnumWrite (h : Hdr) (v : BitVec 32)
  /-- HRD_RUN_WRITE (R447). -/
  | hrdRunWrite (h : Hdr) (v : BitVec 32)
  /-- MONITOR_STANDBY (R424). -/
  | monitorStandby (p : Fin 12)
  /-- MONITOR_SLEEP (R424). -/
  | monitorSleep (p : Fin 12)
  /-- MONITOR_WAKE (R424). -/
  | monitorWake (p : Fin 12) (powerUp : Bool) (uid : BitVec 32) (maker : BitVec 16)
  /-- ISO_DWELL_END (R438). -/
  | isoDwellEnd
  /-- AUTO_GAIN_UP (R434). -/
  | autoGainUp
  /-- PKM_CFG_WRITE (R435). -/
  | pkmCfgWrite (h : Hdr) (c : Fin 6) (v : BitVec 32)
  /-- SYNC_SAMPLE_TIMEOUT (R436). -/
  | syncSampleTimeout (c : Fin 6)
  /-- CONDITION_CONFIRM (R465). -/
  | conditionConfirm (n : Fin 21)
  /-- BRK_WAIT_EXPIRY (R467). -/
  | brkWaitExpiry
  /-- CHARGE_ONLY_OVERCURRENT (R468). -/
  | chargeOnlyOvercurrent
  /-- SOH_RESET (R459). -/
  | sohReset (h : Hdr)
  /-- SOC_REINIT (R456). -/
  | socReinit (h : Hdr)
  /-- ESTIMATION_STATE_RECORD (R459). -/
  | estimationStateRecord
  /-- AUX_CONTACT_CHANGE (R481). -/
  | auxContactChange (c : Fin 4) (closed : Bool)
  /-- TEST_WINDOW_EXPIRY (R483). -/
  | testWindowExpiry
  /-- PRECHARGE_TIMEOUT (R483). -/
  | prechargeTimeout
  /-- COIL_PEAK_END (R480). -/
  | coilPeakEnd (c : Fin 4)
  /-- COIL_SHORT (R480). -/
  | coilShort (c : Fin 4)
  /-- COIL_OPEN (R480). -/
  | coilOpen (c : Fin 4)
  /-- AUX_MISMATCH (R481). -/
  | auxMismatch (c : Fin 4)
  /-- WELD_CHECK (R485). -/
  | weldCheck (c : Fin 4)
  /-- DOUBLE_WELD_CHECK (R485). -/
  | doubleWeldCheck
  /-- DROPOUT (R486). -/
  | dropout
  /-- COOL_DOWN_END (R484). -/
  | coolDownEnd
  /-- LSW_OVERCURRENT_LATCH (R501). -/
  | lswOvercurrentLatch (n : Fin 16)
  /-- LSW_THERMAL_LATCH (R501). -/
  | lswThermalLatch (n : Fin 16)
  /-- BLANKING_END (R501). -/
  | blankingEnd (n : Fin 16)
  /-- OPEN_LOAD_SET (R505). -/
  | openLoadSet (n : Fin 16)
  /-- OPEN_LOAD_CLEAR (R505). -/
  | openLoadClear (n : Fin 16)
  /-- VFLD_UNDERVOLTAGE (R506). -/
  | vfldUndervoltage (vfld : BitVec 16)
  /-- VFLD_RESTORE (R506). -/
  | vfldRestore
  /-- LOOP_COMPLIANCE (R508). -/
  | loopCompliance (n : Fin 4)
  /-- LIS_FOLDBACK (R512). -/
  | lisFoldback (n : Fin 4)
  /-- LIS_RETRY (R512). -/
  | lisRetry (n : Fin 4) (ok : Bool)
  /-- TOUCH_KEY_TOUCH (R513). -/
  | touchKeyTouch (k : Fin 4)
  /-- TOUCH_KEY_RELEASE (R513). -/
  | touchKeyRelease (k : Fin 4)
  /-- TOUCH_KEY_STUCK (R514). -/
  | touchKeyStuck (k : Fin 4)
  /-- STO_OFF_PULSE (R535). -/
  | stoOffPulse (k : Fin 2) (e : Fin 3) (ok : Bool)
  /-- STO_RESET (R537). -/
  | stoReset (h : Hdr) (rst : BitVec 2)
  /-- STO_ON_REQUEST (R537). -/
  | stoOnRequest (h : Hdr) (on : BitVec 2)
  /-- STO_ENERGISE (R537). -/
  | stoEnergise (k : Fin 2) (ok : Bool)
  /-- CROSS_LINK_LOSS (R538). -/
  | crossLinkLoss
  /-- CHANNEL_FAULT (R541). -/
  | channelFault
  /-- CONFIG_CRC_CHECK (R539). -/
  | configCrcCheck (ok : Bool)
  /-- QUIET_EXPIRY (R568). -/
  | quietExpiry (code : Byte) (inst : Byte)
  /-- FLT_ACK_WRITE (R561). -/
  | fltAckWrite (w : CoreWr) (code : Byte) (inst : Byte)
  /-- SHADOW_END (R573). -/
  | shadowEnd (kind : Fin 6) (inst : Byte) (still : List DetRef)
  /-- PAGE_PROGRAM_START (R585). -/
  | pageProgramStart
  /-- PAGE_PROGRAM_DONE (R585). -/
  | pageProgramDone (ok : Bool)
  /-- SECTOR_ERASE_DONE (R581). -/
  | sectorEraseDone (ok : Bool)
  /-- TIME_STORE_WRITE (R588). -/
  | timeStoreWrite
  /-- GC_OVERFLOW (R593). -/
  | gcOverflow (n : Fin 4)
  /-- TIM_GC_LDHI (R593). -/
  | timGcLdhi (h : Hdr) (n : Fin 4) (v : BitVec 32)
  /-- TIM_GC_LDLO (R593). -/
  | timGcLdlo (h : Hdr) (n : Fin 4) (v : BitVec 32)
  /-- PACK_SAMPLE (R439). -/
  | packSample (c : Fin 6) (raw : BitVec 24) (ovr bad : Bool) (n : BitVec 16) (hall early half : Bool)
  /-- CK08_RECOVER (R623). -/
  | ck08Recover
  /-- PLCA_STATUS_CHANGE (R603). -/
  | plcaStatusChange (ok : Bool)
  /-- STO_READBACK_FAULT (R535). -/
  | stoReadbackFault (k : Fin 2) (off : Bool)
  /-- STO_CURRENT_LIMIT (R534). -/
  | stoCurrentLimit (k : Fin 2)
  /-- BAL_TIME_EXPIRY (R423). -/
  | balTimeExpiry (p : Fin 12)
  /-- LOOP_MEASUREMENT (R508). -/
  | loopMeasurement (o0 o1 o2 o3 i0 i1 i2 i3 : BitVec 16)
  /-- COPPER_ACQUIRE_WAIT (R134). -/
  | copperAcquireWait (k : Fin 18)
  deriving DecidableEq, Repr

end Sys2Proof
end

