-- ==== Sys2Proof/Decode.lean ====
section
/-! DEFINITION. The commands that words spell by the bits of spec/opcode_table.json: its rows give no bits, so no word
spells a command.  What the specification does encode in bits (tile instructions, flits, frames) is decoded in Machine/. -/
namespace Sys2Proof

/-- The command that a word of `nbits` bits spells by the table: none, for every row's fields are empty. -/
def decodeTableWord (_nbits _w : Nat) : Option Instr := none

end Sys2Proof
end

