-- ==== Sys2Proof/Machine/Tab.lean ====
section
/-! DEFINITION. Finite tables: plain sparse data by key, kept sorted, in which no entry equals the value that an
unlisted key reads as.  Registers, ports, tiles and every other indexed family of the module live in such tables, so
that equal contents are equal data. -/
namespace Sys2Proof.Machine

/-- A key of a table: up to three indices. -/
structure Key where
  a : Nat
  b : Nat := 0
  c : Nat := 0
  deriving DecidableEq, Repr

/-- Strict lexicographic order of keys. -/
def Key.lt (x y : Key) : Bool :=
  x.a < y.a || (x.a == y.a && (x.b < y.b || (x.b == y.b && x.c < y.c)))

/-- A sparse table. -/
structure Tab (α : Type) where
  cells : List (Key × α) := []
  deriving DecidableEq, Repr

/-- The first entry of key `k`. -/
def findKey {α : Type} (k : Key) : List (Key × α) → Option α
  | [] => none
  | (j, v) :: t => if j = k then some v else findKey k t

/-- Every entry but those of key `k`. -/
def dropKey {α : Type} (k : Key) : List (Key × α) → List (Key × α)
  | [] => []
  | (j, v) :: t => if j = k then dropKey k t else (j, v) :: dropKey k t

/-- Put an entry before the first entry of a greater key. -/
def insKey {α : Type} (k : Key) (v : α) : List (Key × α) → List (Key × α)
  | [] => [(k, v)]
  | (j, w) :: t => if k.lt j then (k, v) :: (j, w) :: t else (j, w) :: insKey k v t

/-- The value at `k`; `d` is what an unlisted key reads as. -/
def Tab.get {α : Type} (t : Tab α) (d : α) (k : Key) : α := (findKey k t.cells).getD d

/-- The table with `v` at `k`; a value equal to `d` leaves no entry. -/
def Tab.set {α : Type} [DecidableEq α] (t : Tab α) (d : α) (k : Key) (v : α) : Tab α :=
  if v = d then ⟨dropKey k t.cells⟩ else ⟨insKey k v (dropKey k t.cells)⟩

/-- The table without the keys that have a property. -/
def Tab.without {α : Type} (t : Tab α) (p : Key → Bool) : Tab α := ⟨t.cells.filter fun x => !p x.1⟩

/-- The keys of a table strictly rise. -/
def keysRise {α : Type} : List (Key × α) → Bool
  | [] => true
  | [_] => true
  | (j, _) :: (k, w) :: t => j.lt k && keysRise ((k, w) :: t)

/-- The entries whose value has a property, as keys. -/
def Tab.keysWith {α : Type} (t : Tab α) (p : Key → α → Bool) : List Key :=
  (t.cells.filter fun x => p x.1 x.2).map (·.1)

end Sys2Proof.Machine
end

