-- ==== Sys2Proof/Machine/Bits.lean ====
section
/-! DEFINITION. Bit fields of natural numbers, masks, saturation, signed fields and little-endian bytes (00 R6). -/
namespace Sys2Proof.Machine

/-- Bits [lsb + w - 1 : lsb] of a word. -/
def bitField (x lsb w : Nat) : Nat := (x / 2 ^ lsb) % 2 ^ w

/-- Bit `n` of a mask. -/
def hasBit (x n : Nat) : Bool := (x / 2 ^ n) % 2 == 1

/-- A mask with bit `n` set to `v`. -/
def putBit (x n : Nat) (v : Bool) : Nat :=
  if hasBit x n then (if v then x else x - 2 ^ n) else (if v then x + 2 ^ n else x)

/-- 1 for true, 0 for false. -/
def b2n (b : Bool) : Nat := if b then 1 else 0

/-- The bit numbers below `n` that are set in a mask, ascending. -/
def bitsSet (x n : Nat) : List Nat := (List.range n).filter (hasBit x)

/-- The number of bits below `n` that are set. -/
def popCount (x n : Nat) : Nat := (bitsSet x n).length

/-- The lowest bit below `n` that is set. -/
def lowestBit (x n : Nat) : Option Nat := (bitsSet x n).head?

/-- The mask whose bits `0 … n - 1` are those for which `p` holds. -/
def maskOf (n : Nat) (p : Nat → Bool) : Nat := (List.range n).foldl (fun m i => if p i then m + 2 ^ i else m) 0

/-- A value held inside a range. -/
def clampN (lo hi x : Nat) : Nat := if x < lo then lo else if hi < x then hi else x

/-- An integer held inside a range. -/
def clampZ (lo hi x : Int) : Int := if x < lo then lo else if hi < x then hi else x

/-- A count that saturates at the greatest value of `w` bits. -/
def incSat (w x : Nat) : Nat := if x + 1 < 2 ^ w then x + 1 else 2 ^ w - 1

/-- A sum that saturates at the greatest value of `w` bits. -/
def addSat (w x y : Nat) : Nat := if x + y < 2 ^ w then x + y else 2 ^ w - 1

/-- The two's complement value of the low `w` bits. -/
def toSigned (w x : Nat) : Int :=
  let y := x % 2 ^ w
  if y < 2 ^ (w - 1) then (y : Int) else (y : Int) - (2 ^ w : Nat)

/-- The low `w` bits of an integer, two's complement. -/
def ofSigned (w : Nat) (x : Int) : Nat := (x % ((2 ^ w : Nat) : Int)).toNat

/-- The first `n` bytes of a number, least significant first. -/
def leBytes : Nat → Nat → Bytes
  | 0, _ => []
  | n + 1, x => BitVec.ofNat 8 x :: leBytes n (x / 256)

/-- The number that little-endian bytes spell. -/
def leNat : Bytes → Nat
  | [] => 0
  | b :: t => b.toNat + 256 * leNat t

/-- Bytes `off … off + n - 1` of a string, as a little-endian number. -/
def leAt (bs : Bytes) (off n : Nat) : Nat := leNat ((bs.drop off).take n)

/-- A string cut or filled with zeros to exactly `n` bytes. -/
def padTo (n : Nat) (bs : Bytes) : Bytes := bs.take n ++ List.replicate (n - bs.length) 0

/-- Division of integers rounding half away from zero, for positive divisors. -/
def roundDiv (x : Int) (d : Int) : Int :=
  if x ≥ 0 then (2 * x + d) / (2 * d) else -((2 * (-x) + d) / (2 * d))

/-- Division truncating toward zero. -/
def truncDiv (x d : Int) : Int := Int.tdiv x d

/-- The list with element `i` replaced. -/
def setNth {α : Type} (l : List α) (i : Nat) (v : α) : List α := l.set i v

/-- Greatest of a list of integers, with a value for the empty list. -/
def maxZ (d : Int) : List Int → Int
  | [] => d
  | [x] => x
  | x :: t => let m := maxZ d t; if x < m then m else x

/-- Least of a list of integers, with a value for the empty list. -/
def minZ (d : Int) : List Int → Int
  | [] => d
  | [x] => x
  | x :: t => let m := minZ d t; if m < x then m else x

end Sys2Proof.Machine
end

