-- ==== Sys2Proof/Machine/State.lean ====
section
/-! DEFINITION. The state of the module: plain data, one structure per chapter of spec/.  Every register word that the
module keeps as such stands in `regs`, by field (Machine/RegMap.lean transcribes the tables and their reset values);
the structures here hold what the registers only show and what lies behind them. -/
namespace Sys2Proof.Machine

/-- Access codes of register fields (00 R7, Table 0-4). -/
inductive Access where
  | ro | rw | w1c | wo | rs
  deriving DecidableEq, Repr

/-- One field of a register table: the key of its stored value, its place, its access code and its reset value, which
is `resetLo` for instances below `split` and `resetHi` from there on. -/
structure RField where
  id : Nat
  lsb : Nat
  width : Nat
  acc : Access
  resetLo : Nat
  split : Nat
  resetHi : Nat
  deriving DecidableEq, Repr

/-- One register, or a family of them `stride` apart: where it lies and its fields; every other bit is reserved. -/
structure RegDesc where
  base : Nat
  stride : Nat
  count : Nat
  fields : List RField
  deriving DecidableEq, Repr

/-- A fault that stops the machine.  The module has no behaviour that stops it: no meaning raises one.  The type is
inhabited so that a later reading can name a stop (safe: nothing rests on it). -/
inductive Fault where
  /-- Reserved: raised by no meaning. -/
  | stopped
  deriving DecidableEq, Repr

/-- Why a step has no meaning. -/
inductive Refusal where
  /-- The command has no meaning yet.  Raised only by Dispatch (safe: nothing is claimed of the command). -/
  | notModelled (mnemonic : String)
  /-- The command's operands are no operands of its row (WellFormed); raised by every meaning that checks them (safe:
  no neighbour of the module can send such a command). -/
  | illFormed (mnemonic : String)
  deriving DecidableEq, Repr

/-! ### Power, clocks and pins (02, 03) -/

/-- Pin phases (02 R42, Table 2-10).  Phase A, a module that is not installed, has no row. -/
inductive PinPhase where
  | u | x | s | b | f
  deriving DecidableEq, Repr

/-- State of a power domain (03 R55): off, waking, on, or on its way off (R76). -/
inductive PdSt where
  | off | waking | on | falling
  deriving DecidableEq, Repr

/-- State of PD09 (03 Table 3-1, Table 3-10). -/
inductive VatSt where
  | off | wakeFromOff | retain | wakeFromRetain | on | toRetain | toOff
  deriving DecidableEq, Repr

/-- Power state behind the registers of 03. -/
structure Pow where
  /-- Pin phase, R42.  Reset: X. -/
  phase : PinPhase := .x
  /-- PD03 to PD05, on from the end of phase X (Table 3-10), PD08 and PD10 to PD22; unlisted is off. -/
  pd : Tab PdSt := ⟨[(⟨3, 0, 0⟩, .on), (⟨4, 0, 0⟩, .on), (⟨5, 0, 0⟩, .on)]⟩
  /-- PD09. -/
  vat : VatSt := .off
  /-- Core hard-limit hold (R75). -/
  hold : Bool := false
  /-- A core shutdown other than that of a SLEEP_HINT is under way (R74, R79). -/
  shut : Bool := false
  /-- The core shutdown of a SLEEP_HINT is under way, and PD09 has yet to follow the groups (R74, Table 3-8; 13 R368). -/
  sleep : Bool := false
  /-- Core domains that are off with a rail above 1.0 V (R74), mask by domain number. -/
  rails : Nat := 0
  /-- A supervisor junction trip holds the outputs off (Table 3-9). -/
  supHot : Bool := false
  /-- CK00 has failed and OPTIME counts from CK01 (R68). -/
  slow : Bool := false
  /-- CK08 has failed (R68). -/
  xsFail : Bool := false
  /-- A rejected cartridge counts as a missing LSC until LSC_PRES breaks (07 R185). -/
  rejected : Bool := false
  /-- NID straps as they stand at the pins (R54). -/
  nid : Nat := 0
  /-- PD04 and PD05 are on for the next Milk round or a safety input change, though gating holds (R58, R69). -/
  roundWake : Bool := false
  /-- Bits of `AON_PD_STAT`.`ON` (Table 3-10): a bit falls as its domain goes off, not as it starts to (R55).  Bit 9 says that the
  blocks of PD09 have power, which its own bit, ON as against RETAIN, does not show. -/
  ready : Nat := 0xFF
  /-- Groups whose `TG_REQ` the idle rule cleared in this decision tick: a doorbell of the tick still wins (R78), mask. -/
  idleCut : Nat := 0
  /-- Core domains on which a hard limit of Table 3-9 has acted since the last decision tick (05 R121), mask; bit 23: a supervisor
  junction trip. -/
  tripped : Nat := 0
  /-- Safety inputs whose change the front registers show once PD03 has woken (01 R25), mask. -/
  siChg : Nat := 0
  /-- Frequency toward which a group that is on moves, by group, in 10 MHz (R66). -/
  tgt : Tab Nat := {}
  deriving DecidableEq, Repr

/-! ### Qualification and service (04) -/

/-- Where a tile group stands in qualification (04 R86). -/
inductive QualSt where
  | idle | selftest | ramping | heldSkim
  deriving DecidableEq, Repr

/-- Qualification state behind AON_QUAL (04 R86 to R88, R97). -/
structure Qual where
  /-- A qualification run is under way. -/
  running : Bool := false
  /-- The run since aux power-up, or since a core junction trip, is complete. -/
  done : Bool := false
  /-- Groups still to be self-tested in this run, ascending. -/
  todo : List Nat := []
  /-- State of each group. -/
  st : Tab QualSt := {}
  /-- A group is held as the Skim group. -/
  skimHeld : Bool := false
  /-- Groups to be requalified alone at their next power-up (R87), mask. -/
  requal : Nat := 0
  /-- Soft repairs of each physical tile, held until aux power-up: spare rows and spare columns in use (09 R242). -/
  soft : Tab (Nat × Nat) := {}
  /-- Spare rows and columns of each physical tile that fuses switched in at manufacture (09 R242, log entry 9). -/
  fuse : Tab (Nat × Nat) := {}
  deriving DecidableEq, Repr

/-! ### Faults (21) -/

/-- One fault block (21 R555 to R570): its registers and the state behind them. -/
structure FltBlk where
  unack : Nat := 0
  /-- `last` of R558 by type. -/
  last : Tab Nat := {}
  recov : Nat := 0
  lastSrc : Nat := 0
  latched : Bool := false
  active : Bool := false
  level : Nat := 0
  /-- An event at DEGRADE or above other than FLT_WIRE since entry (R564). -/
  nonWire : Bool := false
  addr : Nat := 0
  mId : Nat := 0
  mKind : Nat := 0
  mPart : Nat := 255
  valid : Bool := false
  more : Bool := false
  fLevel : Nat := 0
  fType : Nat := 0
  fPcyc : Nat := 0
  fOptime : Nat := 0
  shadowed : Nat := 0
  seq : Nat := 0
  events : Nat := 0
  pairDeg : Bool := false
  rlim : Nat := 0
  quiet : Nat := 10
  win : Nat := 1000
  cnt : Nat := 16
  /-- Type and OPTIME of past events, newest first (R558, R575). -/
  times : List (Nat × Nat) := []
  /-- OPTIME of past exits, newest first (R569). -/
  exits : List Nat := []
  deriving DecidableEq, Repr

/-- A detector: block code, instance, type (21 R567). -/
structure Det where
  code : Nat
  inst : Nat
  typ : Nat
  deriving DecidableEq, Repr

/-- Which reaction declared a shadow (21 Table 21-5), with its instance. -/
structure ShadowKey where
  /-- 0 engine reset, 1 engine power-down, 2 core shutdown or main feed lost, 3 tile group off, 4 string isolate,
  5 load switches off. -/
  kind : Nat
  inst : Nat
  deriving DecidableEq, Repr

/-- A reaction shadow in force (21 R566, R567). -/
structure Shadow where
  key : ShadowKey
  fid : Nat
  dets : List Det
  /-- Detectors with an event recorded in this shadow. -/
  recorded : List Det := []
  /-- Detectors that an earlier shadow already covered as this one started, with the FID that their records carry (21 R573). -/
  older : List (Det × Nat) := []
  deriving DecidableEq, Repr

/-! ### Recorder and time (22) -/

/-- A record offered to the recorder (22 R582, Table 22-1 without SEQ and CRC). -/
structure LogRec where
  optime : Nat
  pcyc : Nat
  src : Nat
  inst : Nat
  kind : Nat
  payload : Bytes
  deriving DecidableEq, Repr

/-- A time-store entry (22 R588). -/
structure TimeEnt where
  optime : Nat
  pcyc : Nat
  kind : Nat
  ok : Bool := true
  deriving DecidableEq, Repr

/-- Recorder state (22 R578 to R590). -/
structure Rec where
  /-- Records pending, oldest first. -/
  queue : List LogRec := []
  /-- Page memory, 4 MiB by byte; an unlisted byte reads 0xFF (erased). -/
  pages : List Host.Cell := []
  /-- Page under programming and the records being programmed into it. -/
  prog : Option (Nat × List (Nat × LogRec)) := none
  /-- Sector under erase. -/
  erase : Option Nat := none
  /-- The running erase repeats a failed one (R581). -/
  eraseRetry : Bool := false
  /-- Sectors skipped after a failed erase (R581). -/
  skipped : List Nat := []
  /-- Sequence number of the next slot. -/
  next : Nat := 0
  /-- Records dropped since the last DROP record, and OPTIME of the first (R582). -/
  drops : Nat := 0
  dropFirst : Nat := 0
  /-- Records that the running command has offered: the last ones of the queue (R595). -/
  fresh : Nat := 0
  /-- The sequence of R589 runs. -/
  lastGasp : Bool := false
  /-- Records of an estimation-state set that wait for room in the queue (R584). -/
  sets : List LogRec := []
  /-- SET number of the last estimation-state set (R584). -/
  setNo : Nat := 0
  deriving DecidableEq, Repr

/-- Time base (22 R587, R588, R592, R593). -/
structure Tim where
  optime : Nat := 0
  pcyc : Nat := 0
  /-- PCYC of the power-up before this one, none where the store holds no valid entry (22 Table 22-2, LG_FOUND). -/
  was : Option Nat := none
  /-- Time store, 16 entries, in rotation: newest first. -/
  store : List TimeEnt := []
  /-- Milliseconds since the last whole second of OPTIME are `optime % 1000`; counters by number. -/
  gc : Tab Nat := {}
  /-- Staged high bits of each counter. -/
  gcHi : Tab Nat := {}
  /-- Snapshots: requester (16 hosts, then 18 ports), register of the pair's high word; absent reads its reset. -/
  snaps : Tab Nat := {}
  deriving DecidableEq, Repr
/-! ### Mailbox (23) -/

/-- The message types of 23 Table 23-4, parsed. -/
inductive Order where
  | hello (feat : Nat)
  | caps
  | regRead (idx count : Nat)
  | regWrite (idx : Nat) (vals : List W32)
  | timeRead
  | recordRead (start count : Nat)
  | safetyCfgRead
  | claim (force : Bool)
  | renew
  | release
  | wake (mask : Nat)
  | sleepHint (mask vat : Nat) (core : Bool)
  | contactorCmd (c : Nat) (close force : Bool)
  | lswCmd (n : Nat) (on cfg : Bool) (ilim blank : Nat)
  | loopSet (n : Nat) (microamps : Nat)
  | powerShare (p reserve : Nat)
  | limitsetLoad (image : Bytes)
  | modelLoad (image : Bytes)
  | safetyCfgLoad (image : Bytes)
  | faultAck (code inst : Nat)
  /-- A body of the wrong length or with a field out of range, of a known type. -/
  | bad (typ : Nat)
  /-- A type that Table 23-4 does not list. -/
  | unknown (typ : Nat)
  deriving DecidableEq, Repr

/-- A reply in the transmit queue (23 R605, R616). -/
structure Reply where
  host : Nat
  seq : Nat
  typ : Nat
  auth : Bool
  status : Nat
  reason : Nat
  body : Bytes
  addr : Nat := 0
  /-- Minor of the frame (R613), and the key it is authenticated under, empty where `AUTH` = 0 (R607, R619). -/
  minor : Nat := 0
  key : Bytes := []
  deriving DecidableEq, Repr

/-- A frame in the receive queue (23 R610). -/
structure Frame where
  host : Nat
  seq : Nat
  /-- Frame minor (R613). -/
  minor : Nat
  /-- `AUTH` of the frame, which its reply repeats (R607). -/
  auth : Bool
  /-- Source address, for the reply and for EVENT_NOTIFY (R604, R614). -/
  addr : Nat
  order : Order
  /-- The stored reply of a retried order, which answers it (R609). -/
  stored : Option Reply := none
  deriving DecidableEq, Repr

/-- An EVENT_NOTIFY in a host's queue (23 R617). -/
structure Notif where
  host : Nat
  seq : Nat
  cls : Nat
  code : Nat
  inst : Nat
  typ : Nat
  level : Nat
  lost : Nat
  rseq : Nat
  data : Bytes
  addr : Nat := 0
  /-- Negotiated minor of the host, and the key it is authenticated under (R607, R613). -/
  minor : Nat := 0
  key : Bytes := []
  deriving DecidableEq, Repr

/-- What the module holds of one host (23 R609, R614, R617). -/
structure HostSt where
  last : Nat := 0
  /-- The eight newest accepted SEQs, newest first, with the order-class reply where one is stored. -/
  held : List (Nat × Option Reply) := []
  /-- Negotiated intersection; bit 0 before HELLO. -/
  feat : Nat := 1
  addr : Nat := 0
  evCount : Nat := 0
  lost : Nat := 0
  /-- AUTH_FAIL and MALFORMED replies already sent since the last tick. -/
  authReplied : Bool := false
  malReplied : Bool := false
  deriving DecidableEq, Repr

/-- Mailbox state. -/
structure Mgt where
  /-- Key slots, 32 bytes each, non-volatile; an empty list is an empty slot (R618). -/
  keys : Tab Bytes := {}
  /-- A key change that takes effect after this tick: slot and new contents (R619). -/
  keyNext : List (Nat × Bytes) := []
  hosts : Tab HostSt := {}
  rxq : List Frame := []
  txq : List Reply := []
  notes : List Notif := []
  /-- The frames that left since the last decision tick began, as bytes (23 R605). -/
  sent : List Bytes := []
  /-- A write of MGT_PLCA waits for the tick after its reply (R602). -/
  plcaNext : Option Nat := none
  /-- PLCA status of the node: true reads OK. -/
  plcaOk : Bool := true
  deriving DecidableEq, Repr

/-! ### Sharing (05) -/

/-- Steward lease state behind MGT_STW_STAT (05 R113). -/
structure Lease where
  held : Bool := false
  holder : Nat := 0
  forced : Bool := false
  epoch : Nat := 0
  /-- OPTIME of the last accepted claim or renewal. -/
  since : Nat := 0
  /-- Mailbox key of the holder as it stood at the grant: the proofs of R115 are computed then. -/
  proofKey : Bytes := []
  /-- A lease ended otherwise than by release in this tick (R116). -/
  lost : Bool := false
  deriving DecidableEq, Repr

/-- States of a page (05 Table 5-14). -/
inductive PageSt where
  | free | clearing | mapped
  deriving DecidableEq, Repr

/-- One physical page of the Vat (05 R107, 14 R374): its entry as written, its state, and whether it was overwritten
since it last held data. -/
structure PageEnt where
  valid : Bool := false
  part : Nat := 0
  ppage : Nat := 0
  st : PageSt := .free
  /-- The clean mark (14 R374). -/
  clean : Bool := false
  deriving DecidableEq, Repr

/-! ### Links, lanes and engines (06, 07, 08) -/

/-- A sequenced TXN flit held until it is acknowledged (06 R130, R133). -/
structure TxFlit where
  seq : Nat
  /-- Class: 1 S, 2 M, 3 B (Table 6-2). -/
  cls : Nat
  first : Bool
  last : Bool
  payload : Bytes
  deriving DecidableEq, Repr

/-- A message waiting to be sent: its class is that of the queue it stands in (06 R145, Table 6-8). -/
structure Msg where
  op : Nat
  part : Nat
  tag : Nat := 0
  lenb : Nat := 0
  status : Nat := 0
  addr : Nat := 0
  aux : Nat := 0
  data : Bytes := []
  deriving DecidableEq, Repr

/-- A Q request (06 Table 6-9). -/
inductive QOp where
  | rd (len : Nat)
  | wr (beFirst beLast : Nat) (data : Bytes)
  | fadd (v : Nat)
  | cas (cmp swap : Nat)
  deriving DecidableEq, Repr

/-- A request the Separator has accepted and whose response has not been sent (06 R146). -/
structure Req where
  part : Nat
  tag : Nat
  addr : Nat
  op : QOp
  /-- The access waits for a Vat wake or a page clear (03 R64, 05 R109). -/
  stalled : Bool := false
  /-- The port went down: the response is discarded (06 R139). -/
  dead : Bool := false
  status : Nat := 0
  reason : Nat := 0
  data : Bytes := []
  /-- Partition key at its acceptance, under which a Vat access runs (14 R391), and its place in the order of arrival at the
  Separator (14 R373, R387). -/
  key : Bytes := []
  seq : Nat := 0
  /-- Flit buffers of class Q that it holds until it is served (06 R144). -/
  held : Nat := 0
  deriving DecidableEq, Repr

/-- An open width handshake: the receiver's (this end waits for WIDTH_ACK) or the transmitter's (this end waits for
marker M), with the mask (06 R137). -/
structure WidthHs where
  txid : Nat
  mask : Nat
  /-- Marker count M once known. -/
  m : Option Nat := none
  tries : Nat := 1
  deriving DecidableEq, Repr

/-- An open remap of one direction (06 R140). -/
structure RemapHs where
  txid : Nat
  /-- The module opened it. -/
  own : Bool
  /-- FAIL mode; DUP otherwise. -/
  fail : Bool
  lane : Nat
  b : Nat
  /-- REMAP_RDY has been sent or received. -/
  rdy : Bool := false
  /-- The receiving ring is under calibration and REMAP_RDY waits (07 R188). -/
  m : Option Nat := none
  /-- It is a rotation (07 R178). -/
  rot : Bool := false
  deriving DecidableEq, Repr

/-- An open far-end loop request (06 R142). -/
structure LoopHs where
  txid : Nat
  tries : Nat := 1
  deriving DecidableEq, Repr

/-- The lane maps and active sets of both directions of a port (06 Tables 6-15, 6-18). -/
structure LaneSets where
  tx0 : Nat
  tx1 : Nat
  rx0 : Nat
  rx1 : Nat
  txset : Nat
  rxset : Nat
  deriving DecidableEq, Repr

/-- Link-layer state of one port (06 R130 to R149). -/
structure Port where
  /-- SEQ of the next new TXN flit. -/
  next : Nat := 0
  /-- SEQ of the last TXN flit accepted in order. -/
  ack : Nat := 4095
  /-- NAK is being sent: flits are discarded until the expected one (R132). -/
  nak : Bool := false
  /-- NAKs sent since the first of this error. -/
  naks : Nat := 0
  /-- Sent and unacknowledged flits, oldest first. -/
  unacked : List TxFlit := []
  /-- Unacknowledged flits that have yet to go onto the line, the newest ones: those of the message being sent, or of a replay
  (R133). -/
  wire : Nat := 0
  /-- ACK for which a replay is under way (R133). -/
  replaying : Option Nat := none
  /-- Replays since the last advance of ACK. -/
  stuck : Nat := 0
  /-- Cumulative Q credits returned, modulo 256 (R144). -/
  ccq : Nat := 0
  sCred : Nat := 0
  mCred : Nat := 0
  sSeen : Nat := 0
  mSeen : Nat := 0
  /-- Payload of the Q message being received, and the flit buffers that it holds. -/
  rxMsg : Bytes := []
  rxHeld : Nat := 0
  /-- 8-byte blocks of the flit that is going onto the line (R127), in stream order. -/
  outw : List Nat := []
  reqs : List Req := []
  sq : List Msg := []
  mq : List Msg := []
  bq : List Msg := []
  /-- ALIGN: markers aligned and lanes deskewed, INIT received, INIT with ACKD received, INIT with ACKD sent. -/
  deskewed : Bool := false
  initGot : Bool := false
  initAckd : Bool := false
  initSentAckd : Bool := false
  /-- RESUME, next SEQ and ACK of the last valid INIT (R138). -/
  peer : Bool × Nat × Nat := (false, 0, 4095)
  /-- This ALIGN follows a retrain, and RESUME is offered (R138). -/
  resume : Bool := false
  wRx : Option WidthHs := none
  wTx : Option WidthHs := none
  /-- Width handshakes that have their answer and were followed by another before their marker passed, oldest first (R137). -/
  dueRx : List WidthHs := []
  dueTx : List WidthHs := []
  /-- Lane maps and active sets as they were before the last completed switch (R157). -/
  before : Option LaneSets := none
  rTx : Option RemapHs := none
  rRx : Option RemapHs := none
  loop : Option LoopHs := none
  /-- Next TXID of a handshake the module opens (R141). -/
  txid : Nat := 0
  /-- OPTIME of past retrains (RETRAIN_MAX). -/
  retrains : List Nat := []
  /-- LM messages sent by the last step on this port, as payload bytes (Table 6-6). -/
  lmOut : List Bytes := []
  /-- An optical port in its first-UP phase at width 4 (R134, R136). -/
  firstUp : Bool := false
  /-- λ16 LOS is blanked after entry to ACQUIRE (08 R211). -/
  blank : Bool := false
  /-- Held in DOWN by a HALT of its block (21 Table 21-4). -/
  held : Bool := false
  /-- Written transmit coefficients wait for ACQUIRE (08 R207). -/
  txeqPend : Bool := false
  /-- `PRE` and `POST` in force (08 R207, R217); none: the defaults of Table 8-3. -/
  fir : Option (Nat × Nat) := none
  /-- Spread settings in force (08 R206): FREQ, DEPTH, SSC_EN. -/
  ssc : Nat × Nat × Nat := (32, 50, 0)
  /-- T_RETRY has passed since entry to DOWN (copper). -/
  retry : Bool := false
  /-- 1 ms has passed since entry to ACQUIRE (copper, Table 6-5). -/
  waited : Bool := false
  /-- Failed wavelengths of each direction, as marked by FAIL remaps (R140): transmit, receive. -/
  failTx : Nat := 0
  failRx : Nat := 0
  deriving DecidableEq, Repr

/-- One microring (07 R164): transmit 0 PARK, 1 DATA, 2 CLOCK, 3 IDLE, 4 CAL; receive 0 STANDBY, 1 LOCK, 4 CAL. -/
structure Ring where
  st : Nat := 0
  /-- OPTIME of the last calibration. -/
  calAt : Nat := 0
  /-- Calibrated since the engine powered up. -/
  cal : Bool := false
  /-- Stopped tracking at the end of its range (R176). -/
  lost : Bool := false
  /-- Waits for one of the five places of its port and direction to be calibrated (R177). -/
  due : Bool := false
  deriving DecidableEq, Repr

/-- The line of one lane in one direction (08 R197 to R208, R213). -/
structure Line where
  /-- The last 58 scrambled bits, bit 0 the newest (R197). -/
  scr : Nat := 2 ^ 58 - 1
  /-- How many line bits before the next are identical, and their value (R199). -/
  run : Nat := 0
  last : Bool := false
  /-- Stuffed bits since the previous marker, and the deficit carried (R201). -/
  stuffed : Nat := 0
  deficit : Nat := 0
  /-- Data blocks since the previous marker, and COUNT of the next one (R200). -/
  blocks : Nat := 0
  count : Nat := 0
  /-- The block received last met a stuffing violation (R199). -/
  errored : Bool := false
  /-- Bad markers in a row (R202). -/
  bad : Nat := 0
  /-- The equaliser adapts although `DFE_FREEZE` = 1: the lane entered lock since, and no switch has passed (R208). -/
  adapt : Bool := false
  /-- PRBS31 (R213): the last 31 bits, error-free bits in a row, whether synchronised, the errors among the last 256 bits as a
  mask, and errors not yet counted in `LOOP_ERR`. -/
  prbs : Nat := 0
  clean : Nat := 0
  sync : Bool := false
  errs : Nat := 0
  loopErr : Nat := 0
  /-- Transmit: the line bits of the last block sent, with the marker that followed it. -/
  wire : List Bool := []
  deriving DecidableEq, Repr

/-- Engine state (07 R184 to R195). -/
structure Eng where
  /-- The bank works (not R174). -/
  bankOk : Bool := true
  resetting : Bool := false
  deriving DecidableEq, Repr

/-- LSC interface state (07 R168 to R171). -/
structure Lsc where
  /-- Cartridge registers by address; unlisted read their reset value. -/
  car : Tab Nat := {}
  /-- A frame of LSC_WIN is in progress: write, address, data. -/
  frame : Option (Bool × Nat × Nat) := none
  /-- The module has sent its read of `CAR_ID`, whose data come with the next frame (07 R168, R184). -/
  idRead : Bool := false
  /-- What the cartridge was made with, `CAR_ID`, `CAR_MAKER` and `CAR_SER`, by address, plus 1; 0 until it was read (07 R168,
  Table 7-11). -/
  ids : Tab Nat := {}
  deriving DecidableEq, Repr
/-! ### Tiles (09, 11, 12, 13) -/

/-- A stationary image (09 R228 to R231, 11 R291, 13 R358): its bytes as the S-Pail or A-Pail held them, by offset in
the image (an unlisted byte is 0), with its shape, format and half, and the S-Pail byte address it came from. -/
structure Image where
  shape : Nat := 0
  fmt : Nat := 0
  half : Nat := 0
  /-- S-Pail address of the load; none for the zero image and for an image that a V pass wrote. -/
  src : Option Nat := none
  cells : List Host.Cell := []
  deriving DecidableEq, Repr

/-- An instruction in a tile, from its entry into the inbound buffer on (11 R279, 13 R351, R358). -/
structure PEnt where
  word : W128
  ring : Nat
  /-- Submission-ring index of its bundle. -/
  idx : Nat
  /-- Slot in the bundle. -/
  slot : Nat
  /-- `PRIO` of its ring when it was fetched (R370). -/
  lvl : Nat
  /-- A loop offset took a Pail address outside its Pail (12 R324). -/
  oob : Bool := false
  /-- It has issued. -/
  issued : Bool := false
  /-- Its wait tokens were consumed (ISSUED of Table 13-3). -/
  taken : Bool := false
  /-- Rows, vectors or Ladle rows finished so far; RESUME of a record. -/
  done : Nat := 0
  /-- Bytes of the Ladle row in progress that lie before the page it waits for (11 R305), and its arrival at the Vat plus 1, 0 where
  none waits (14 R373). -/
  part : Nat := 0
  seq : Nat := 0
  /-- Bundles that the partition had fetched before its own (12 R327). -/
  born : Nat := 0
  /-- Its place in the order in which instructions entered the Parlour, from 1 on (13 R353). -/
  ord : Nat := 0
  /-- Sub-pass of a BF16 or FP16 pass, 1 to 4. -/
  sub : Nat := 0
  /-- The image an MPASS uses, from its issue on. -/
  img : Option Image := none
  /-- A stationary load that writes the active registers (R229, R230). -/
  direct : Bool := false
  /-- A BAR whose tokens were poisoned (12 R322). -/
  poisoned : Bool := false
  /-- An XSIG that waits for the power-up of its target group. -/
  waits : Bool := false
  /-- A BF16 or FP16 pass that is saved at the end of its sub-pass (13 R351). -/
  cut : Bool := false
  /-- Running values of a reduced pass: none yet, else value and index by problem column. -/
  red : Tab (Nat × Nat) := {}
  deriving DecidableEq, Repr

/-- A token (11 R275). -/
structure Token where
  count : Nat := 0
  poison : Bool := false
  deriving DecidableEq, Repr

/-- The inner loop of a loop buffer: where its body starts, its length, iterations, offsets and iteration (12 R326). -/
structure InnerLoop where
  start : Nat
  len : Nat
  cnt : Nat
  word : W128
  it : Nat := 0
  deriving DecidableEq, Repr

/-- The loop buffer of a tile (12 R324, R326, R336): the LOOP, the body collected so far, and where copying stands. -/
structure LoopBuf where
  /-- The LOOP itself, for its ring and index. -/
  ent : PEnt
  body : List PEnt := []
  /-- The whole body has been collected. -/
  full : Bool := false
  pc : Nat := 0
  it : Nat := 0
  inner : Option InnerLoop := none
  deriving DecidableEq, Repr

/-- The pass record of one level (13 R353, R358). -/
structure PassRec where
  ents : List PEnt := []
  loop : Option LoopBuf := none
  /-- The slots of the inbound bundles. -/
  inb : List PEnt := []
  deriving DecidableEq, Repr

/-- The last stopped instruction (13 Table 13-14). -/
structure StopRec where
  ring : Nat := 0
  sub : Nat := 0
  how : Nat := 0
  opc : Nat := 0
  resume : Nat := 0
  deriving DecidableEq, Repr

/-- The increment of an XSIG that waits for a power-up (12 R334): the token, whether it is poisoned, the sending tile, and the
instruction with its ring index. -/
structure Xsig where
  tok : Nat
  poison : Bool
  src : Nat
  word : W128
  idx : Nat
  deriving DecidableEq, Repr

/-- Shadow states of Table 9-11. -/
inductive ShadowSt where
  | empty | loading | loaded
  deriving DecidableEq, Repr

/-- One logical tile (09 R220). -/
structure Tile where
  /-- A-Pail, S-Pail and C-Pail by byte; an unlisted byte is 0. -/
  a : List Host.Cell := []
  sp : List Host.Cell := []
  c : List Host.Cell := []
  /-- Vector registers by byte: register * 1024 + lane * 4 (12 R310). -/
  vr : List Host.Cell := []
  toks : Tab Token := {}
  act : Image := {}
  actValid : Bool := true
  shd : Image := {}
  shdSt : ShadowSt := .empty
  /-- Transposed flag and shape of the running or last pass (R228). -/
  transp : Bool := false
  lastShape : Nat := 0
  /-- Column groups enabled (R240). -/
  groups : Nat := 0
  rampDown : Bool := false
  rbase : Nat := 0
  xbase : Nat := 0
  /-- Instructions ended ABORTED since the last CPL, the last exception and way (12 R328, Table 13-1). -/
  aborts : Nat := 0
  lastExc : Nat := 0
  lastStop : Nat := 0
  excCnt : Nat := 0
  excOpc : Nat := 0
  excCode : Nat := 0
  /-- The Parlour, oldest first, and how many instructions have entered it. -/
  ents : List PEnt := []
  entered : Nat := 0
  /-- Resumed instructions that wait for a Parlour entry (13 R353). -/
  back : List PEnt := []
  loop : Option LoopBuf := none
  /-- Results of the vector unit not yet written, oldest first: space, address, bytes (12 R313). -/
  vpend : List (Nat × Nat × Bytes) := []
  /-- Inbound buffer: the slots left of at most two bundles (13 R343), and the slots of a resumed level that enter before them
  (R353). -/
  inb : List (List PEnt) := []
  again : List PEnt := []
  saved : Tab PassRec := {}
  stop : StopRec := {}
  /-- Corrected errors of the A-, S- and C-Pail and uncorrectable errors (Table 9-13). -/
  aCe : Nat := 0
  sCe : Nat := 0
  cCe : Nat := 0
  ue : Nat := 0
  /-- XSIG increments that wait for the power-up of this tile's group (12 R334). -/
  xsigs : List Xsig := []
  /-- Zeroing under 05 R109 runs. -/
  zeroing : Bool := false
  /-- Held by a HALT of its block (21 Table 21-4). -/
  halted : Bool := false
  deriving DecidableEq, Repr

/-! ### The Separator: partitions, rings, barriers; the Vat (05, 12, 13, 14) -/

/-- One barrier of a partition (12 R322). -/
structure Barrier where
  /-- CNT of the open generation; 0 where none is open. -/
  cnt : Nat := 0
  /-- Tiles with an arrival pending, in arrival order, and whether it carried a poisoned token. -/
  tiles : List (Nat × Bool) := []
  /-- Generations whose arrivals have all been made and that complete next, oldest first. -/
  full : List (List (Nat × Bool)) := []
  deriving DecidableEq, Repr

/-- A segment of a submission ring (13 R341). -/
structure Seg where
  tile : Nat
  count : Nat
  deriving DecidableEq, Repr

/-- One submission ring beside its registers (13 R339 to R345). -/
structure SubRing where
  segs : List Seg := []
  /-- FENCED: for each ring of RMASK, the bundles that the partition had fetched when the fence was met (12 R327). -/
  fence : List (Nat × Nat) := []
  fenced : Bool := false
  /-- CPLW of the fence (12 R327). -/
  cplw : Bool := false
  error : Bool := false
  deriving DecidableEq, Repr

/-- A completion entry (13 Table 13-1). -/
structure CqEnt where
  tag : Nat
  tile : Nat
  ring : Nat
  aborts : Nat
  lastExc : Nat
  lastStop : Nat
  index : Nat
  deriving DecidableEq, Repr

/-- A completion entry that is reserved and not yet written: its number, and whether a CQ_NOTIFY follows it (13 R347). -/
structure Posted where
  n : Nat
  ent : CqEnt
  notify : Bool
  /-- Its place in the order of arrival at the Vat (14 R373). -/
  seq : Nat := 0
  /-- Bundles that the partition had fetched before that of the CPL (12 R327). -/
  born : Nat := 0
  deriving DecidableEq, Repr

/-- A partition beside its registers (05, 12, 13, 14). -/
structure Part where
  /-- Bundles fetched so far (12 R327). -/
  fetched : Nat := 0
  bars : Tab Barrier := {}
  rings : Tab SubRing := {}
  /-- `PROD` at the last CQ_NOTIFY, and the posted writes of entries whose page stalls (13 R347, 05 R109), oldest first. -/
  notified : Nat := 0
  posted : List Posted := []
  /-- Instructions ended for an unavailable tile since its last such entry (13 R344). -/
  gone : Tab Nat := {}
  /-- Telemetry sequence number (13 R362). -/
  telSeq : Nat := 0
  /-- Tiles under zeroing and pages under clearing for which a reclaim waits (05 R109). -/
  zeroing : List Nat := []
  clearing : List Nat := []
  /-- Tenant key, 64 bytes; empty where none is loaded (14 R377). -/
  key : Bytes := []
  /-- Staged key words with the port that wrote each (14 R378). -/
  stage : Tab (Option (Nat × Nat)) := {}
  deriving DecidableEq, Repr

/-- Errors that stand in the storage of a unit until it is read or written (14 R381): one that the stack's on-die ECC
corrects, and the number of bytes that the controller code finds erroneous. -/
structure UnitErrs where
  die : Bool := false
  bytes : Nat := 0
  deriving DecidableEq, Repr

/-- The Vat (14). -/
structure Vat where
  /-- Data as stored, by physical byte, page * 2 MiB + offset: ciphertext in a page of a SEALED partition (R377); an unlisted
  byte is 0 (R375). -/
  mem : List Host.Cell := []
  /-- The metadata byte of each unit (R382), by physical unit number: `CLEAN` in bit 0, `POISON` in bit 1; an unlisted unit
  is clean.  The check bytes are a function of data and metadata (`State.vatWord`). -/
  mdata : Tab Nat := {}
  /-- Errors in the storage, by unit. -/
  errs : Tab UnitErrs := {}
  /-- Pages that wait for their clear, in the order of the entries (05 R109). -/
  clears : List Nat := []
  /-- A clear was in progress as PD09 left ON for RETAIN, and completes first; accesses from `shutAt` on arrived after that, and
  `drains` is set while an earlier one is served (R387). -/
  clearLast : Bool := false
  shutAt : Nat := 0
  drains : Bool := false
  /-- Requests that have reached the Separator, for the order of arrival (R373). -/
  arrived : Nat := 0
  /-- Next burst of each channel's pass (R384). -/
  burst : Tab Nat := {}
  /-- Completed passes of each channel. -/
  passes : Tab Nat := {}
  deriving DecidableEq, Repr

/-- Compute to idle in force, by cause (13 R356; 15 R403; 20 R531; 21 Table 21-4). -/
structure Idle where
  /-- The governor's idle trip. -/
  trip : Bool := false
  /-- Rind's quick stop or another cabinet order. -/
  rind : Bool := false
  /-- A core shutdown under way. -/
  shut : Bool := false
  /-- The order is in force: tiles were stopped and partitions told. -/
  on : Bool := false
  deriving DecidableEq, Repr

/-! ### The governor (15) -/

/-- The governor's inputs and memory behind its registers. -/
structure Gov where
  /-- P_share last decided, in W; before any order the share without a Steward (05 Table 5-9). -/
  share : Nat := 1000
  /-- P_assist last delivered, in W. -/
  assist : Nat := 0
  /-- A delivery is held (R398). -/
  live : Bool := false
  /-- Safety cap that Rind asks for, in W. -/
  cap : Nat := 4200
  /-- Ride-through reserve SOC, Q0.16 (R397). -/
  reserve : Nat := 0
  /-- A POWER_SHARE_SET has been decided (04 R91). -/
  shared : Bool := false
  /-- Assist is stopped by the reserve (R397). -/
  stopped : Bool := false
  /-- Sum and number of the samples of this tick (R396). -/
  psum : Nat := 0
  pcnt : Nat := 0
  /-- Tiles that wait for a ramp grant, in the order of their requests (R404). -/
  ramps : List Nat := []
  deriving DecidableEq, Repr

/-! ### The Herd: the Milk chain (16) -/

/-- A frame of the Milk chain without its preamble and CRC (16 Table 16-2). -/
structure MilkFrame where
  typ : Nat
  addr : Nat
  seq : Nat
  payload : Bytes
  deriving DecidableEq, Repr

/-- Results a monitor holds of one SYNC_MEASURE: their ROUND, 20 cell words and four temperature words (16 R418). -/
structure MilkRes where
  round : Nat
  cells : List Nat
  temps : List Nat
  deriving DecidableEq, Repr

/-- A cartridge monitor, by its position from the OUT end (16 R419 to R424).  Before it is powered up it sleeps. -/
structure Mon where
  /-- Its identity, which ENUM_RSP reports (16 Table 16-3). -/
  uid : Nat := 0
  maker : Nat := 0
  awake : Bool := false
  /-- Standby of R424. -/
  standby : Bool := false
  /-- 0 while unaddressed. -/
  addr : Nat := 0
  hopA : Nat := 255
  hopB : Nat := 255
  /-- MSTAT bits 0 to 4, bit 3 inverted: a SYNC_MEASURE was received since the last READ. -/
  late : Bool := false
  openWire : Bool := false
  restarted : Bool := false
  synced : Bool := false
  coll : Bool := false
  /-- Balance switches that are on. -/
  bal : Nat := 0
  /-- APER and ROUND of a SYNC_MEASURE whose results are not ready yet. -/
  due : Option (Nat × Nat) := none
  /-- The SYNC_MEASURE of the last round did not reach it. -/
  missed : Bool := false
  res : Option MilkRes := none
  deriving DecidableEq, Repr

/-- What came back on RET of a frame sent on OUT (16 R426, R431). -/
inductive MilkEcho where
  | missing | damaged | intact
  deriving DecidableEq, Repr

/-- One end of the chain in the read phase of a round (16 R429, R431). -/
structure HSide where
  /-- The address to be read, 0 when the end is done. -/
  cur : Nat := 0
  /-- The READ is the retry of R429. -/
  retry : Bool := false
  /-- The command that waits for an answer, and the bytes of an answer on their way. -/
  cmd : Option MilkFrame := none
  ans : Option Bytes := none
  deriving DecidableEq, Repr

/-- Where the Herd's sequencer stands (16 R426, R427). -/
inductive HPhase where
  | idle | due | reset | enumOut | ping | enumRet | setup | round | probe
  deriving DecidableEq, Repr

/-- The Herd's sequencer and what it holds of the chain. -/
structure Herd where
  ph : HPhase := .idle
  /-- The round period in force, and OPTIME of the last write of `PERIOD` (16 R427). -/
  per : Nat := 20
  perAt : Nat := 0
  /-- Milliseconds from the start of the running round to that of the next, as the round found it (16 R442). -/
  gap : Nat := 20
  /-- SEQ of the next frame, and the echo of the last one on OUT. -/
  seq : Nat := 0
  echo : MilkEcho := .missing
  /-- The chain must be woken (16 R447), enumerated again (16 R426), or sent SLEEP. -/
  needWake : Bool := false
  needEnum : Bool := false
  sleepDue : Bool := false
  /-- A PING came back: RING mode from the next round (16 R431). -/
  toRing : Bool := false
  /-- The chain stage has begun, and has ended with its first round (04 R84). -/
  stage : Bool := false
  ready : Bool := false
  /-- OPTIME plus 1 of the tick in which the last round began. -/
  startAt : Nat := 0
  /-- Round number. -/
  r : Nat := 0
  /-- Enumeration counts of 16 R426, the count C it works with, and its `ring`. -/
  k : Nat := 0
  j : Nat := 0
  c : Nat := 12
  ring : Bool := false
  /-- The last enumeration or round left the chain in BROKEN mode. -/
  broken : Bool := false
  /-- Addresses that wait for SETUP. -/
  todo : List Nat := []
  out : HSide := {}
  ret : HSide := {}
  /-- Enumerated addresses, bit a - 1. -/
  addrs : Nat := 0
  /-- Addresses answered in this round, bit a - 1. -/
  got : Nat := 0
  /-- Highest address reached from OUT in this round. -/
  outMax : Nat := 0
  /-- The PING of a BROKEN round was sent. -/
  pinged : Bool := false
  /-- OPTIME of the last frame sent. -/
  lastTx : Nat := 0
  /-- Addresses whose UID is recorded, bit a - 1. -/
  known : Nat := 0
  /-- Consecutive rounds without an answer, by address. -/
  miss : Tab Nat := {}
  /-- Addresses that reported OPEN_WIRE in their last answer, bit a - 1. -/
  wires : Nat := 0
  /-- Balancing granted in this round and in the one before: mask of cells and BAL_TIME, by address (17 R449). -/
  grant : Tab (Nat × Nat) := {}
  granted : Tab (Nat × Nat) := {}
  /-- The monitors, by position 1 to 12. -/
  mons : Tab Mon := {}
  deriving DecidableEq, Repr

/-! ### Pack measurement (16) -/

/-- Pack section behind the `PKM_` registers. -/
structure Pack where
  /-- Gain of channel 0 now: 0 for ×1, 1 for ×4, 2 for ×16, and OPTIME since which every sample of it lies within 40 % of the range of the
  next higher gain (16 R434). -/
  gain : Nat := 0
  calm : Option Nat := none
  /-- Samples that will still carry SETTLE, by channel (16 Table 16-7). -/
  settle : Tab Nat := {}
  /-- Channels in a run of OVERRANGE samples, mask. -/
  ovr : Nat := 0
  /-- The running OVERRANGE run of channel 0 has set CC_SAT. -/
  sat : Bool := false
  /-- Channels without a synchronised sample since SYNC, mask. -/
  syncWait : Nat := 0
  /-- The coulomb counter in µC, and its residue in 0.1 nC (16 R439). -/
  cc : Int := 0
  residue : Int := 0
  /-- The run of samples that waits to be bridged, oldest first: modulator periods of each (16 R440). -/
  run : List Nat := []
  /-- The run is longer than 16 samples. -/
  gap : Bool := false
  /-- Last VALID current, mA. -/
  ia : Option Int := none
  /-- Sums of this tick (16 R437), and the means of the last one, in mA and mV. -/
  iSum : Int := 0
  iNum : Nat := 0
  vSum : Int := 0
  vNum : Nat := 0
  iMean : Int := 0
  vMean : Int := 0
  /-- Isolation monitor (16 R438): VALID samples of the second half of the dwell, and V0 to V3 in mV. -/
  isoSum : Int := 0
  isoNum : Nat := 0
  isoV : List Nat := [0, 0, 0, 0]
  deriving DecidableEq, Repr

/-! ### Battery state, limits and conditions (17) -/

/-- A model set (17 Table 17-2): tables by temperature breakpoint, then SOC point. -/
structure Model where
  id : Nat
  /-- QNOM in A·s. -/
  qnom : Nat
  /-- TBP0 to TBP4 in 1/16 °C. -/
  tbp : List Int
  ocv : List Nat
  rs : List Nat
  rp : List Nat
  cp : List Nat
  deriving DecidableEq, Repr

/-- A limit set (17 Table 17-3), at its defaults until one is accepted. -/
structure Limits where
  ncart : Nat := 12
  id : Nat := 0
  vHiWarn : Nat := 3600
  vHiDisc : Nat := 3650
  vLoWarn : Nat := 2700
  vLoDisc : Nat := 2500
  vSopMax : Nat := 3600
  vSopMin : Nat := 2600
  tHiWarn : Int := 50
  tHiDisc : Int := 60
  tLoDisc : Int := -15
  tChgMin : Int := 0
  iDisMax : Nat := 600
  iChgMax : Nat := 200
  breakLim : Nat := 400
  isoWarn : Nat := 500
  isoDisc : Nat := 100
  dV : Nat := 2000
  dT : Nat := 5000
  dI : Nat := 1000
  dStale : Nat := 1000
  brkWait : Nat := 2000
  deriving DecidableEq, Repr

/-- A cell under estimation (17 R450, R455 to R458). -/
structure EstCell where
  init : Bool := false
  /-- Q0.32. -/
  soc : Nat := 0
  /-- u / 65,536. -/
  vp : Int := 0
  /-- Q2.14. -/
  sohC : Nat := 16384
  sohR : Nat := 16384
  /-- Rest point: soc0 and qacc in µC. -/
  rest : Option (Nat × Int) := none
  /-- Voltage of the round before in u, where its word was VALID. -/
  last : Option Int := none
  /-- rs, rp, tau and qc of its last estimation step (17 R455, R460). -/
  rs : Int := 0
  rp : Int := 0
  tau : Int := 0
  qc : Int := 0
  deriving DecidableEq, Repr

/-- A battery condition (17 R465). -/
structure Cond where
  /-- OPTIME of the first of the evaluations in a row at which it was met. -/
  since : Option Nat := none
  /-- Their number. -/
  runs : Nat := 0
  /-- It was met at its last evaluation (17 R469). -/
  met : Bool := false
  /-- The words (cell or sensor numbers) that met it, and that stood against its clearing, when each was last tested, masks. -/
  hot : Nat := 0
  warm : Nat := 0
  deriving DecidableEq, Repr

/-- The estimation engine behind the `EST_` registers. -/
structure Est where
  /-- Model set in force (none: the default set), one accepted that waits for a round to begin, and the one that takes
  effect with the round that has begun (04 R101, 17 R452). -/
  model : Option Model := none
  modelNext : Option Model := none
  modelDue : Option Model := none
  lim : Limits := {}
  /-- Limit set that applies from the next decision tick. -/
  limNext : Option Limits := none
  /-- Cells 0 to 239. -/
  cells : Tab EstCell := {}
  /-- Last VALID temperature by 4(a - 1) + sensor, in 1/16 °C; before any, 25 °C. -/
  temps : Tab Int := {}
  /-- OPTIME of the last round with samples, its coulomb count and its VALID I_sync (17 R449, R458). -/
  lastAt : Option Nat := none
  lastCc : Int := 0
  lastI : Option Int := none
  /-- `SOC_REINIT` waits for the next round to begin, and takes effect with the round that has begun (17 R456, R475). -/
  reinit : Bool := false
  reinitDue : Bool := false
  conds : Tab Cond := {}
  /-- I_dis and I_chg of the 10 s horizon, in mA (17 R460). -/
  allowDis : Nat := 0
  allowChg : Nat := 0
  /-- OPTIME since which neither channel of condition 20 was OVERRANGE. -/
  clearAt : Option Nat := none
  /-- OPTIME since which the tick-mean current lies within ±2,000 mA, and that the first round of this rest is over
  (17 R457). -/
  restAt : Option Nat := none
  restDone : Bool := false
  /-- CHARGE_ONLY (17 R468): OPTIME since which the current is above 5 A, and since which every cell stands at
  V_LO_WARN. -/
  overAt : Option Nat := none
  fullAt : Option Nat := none
  deriving DecidableEq, Repr

/-! ### Contactors (18) -/

/-- Contactors behind the `CTR_` registers; 0 CTP, 1 CTN, 2 CTC, 3 CTX. -/
structure Ctr where
  /-- OPTIME at which the sequence and its present step began. -/
  start : Nat := 0
  stepAt : Nat := 0
  /-- V_bus in mV at the start of the step, and OPTIME at which the step's auxiliary contact reported. -/
  vbus0 : Int := 0
  auxAt : Option Nat := none
  /-- The step's test has passed; the next decision tick begins the next step. -/
  passed : Bool := false
  /-- V_bus has risen since the step's contact reported (R483). -/
  risen : Bool := false
  /-- V_bus has reached 95 % of V_pack within 5 ms of that report. -/
  fast : Bool := false
  /-- OPTIME since which the pre-charge current is above the limit. -/
  ovr : Option Nat := none
  /-- `PC_TIMEOUT` in ms and `PC_IMAX` in A of the running sequence (18 R500). -/
  timeout : Nat := 500
  imax : Nat := 40
  /-- The running sequence leads into CHARGE_ONLY (17 R468). -/
  chargeOnly : Bool := false
  /-- Consecutive pre-charge failures. -/
  fails : Nat := 0
  /-- A break wait: opening cause of Table 18-3 and OPTIME at which it began (18 R490). -/
  wait : Option (Nat × Nat) := none
  /-- Fault identifier of the event that asked for it, 0 for none (21 R567). -/
  waitFid : Nat := 0
  /-- A string isolate was issued and its 50 ms check is due (18 R485). -/
  check : Bool := false
  /-- DOUBLE_WELD stands until it is acknowledged (18 R487, 21 R568). -/
  dw : Bool := false
  /-- OPTIME of the last command to each coil (18 R481). -/
  cmd : Tab Nat := {}
  /-- Coils in their 100 ms peak, mask. -/
  peak : Nat := 0
  /-- Coil inhibits of Rind, mask of CTP, CTN, CTC (20 R526), set until the Inputs stage ends (R540). -/
  inhibit : Nat := 7
  /-- A close of CTP, CTN or CTC, and one of CTX, that waits for PD04 (03 R82, 18 R498). -/
  closeDue : Bool := false
  closeDueX : Bool := false
  deriving DecidableEq, Repr

/-! ### Field outputs (19) -/

/-- Field I/O behind the `LSW_`, `LOOP_` and `TCH_` registers. -/
structure Field where
  /-- Decided states of the load switches, mask (19 R506). -/
  decided : Nat := 0
  /-- Switches in their inrush blanking, and switches latched off by heat, masks. -/
  blank : Nat := 0
  thermal : Nat := 0
  /-- Switches that come back one by one after an undervoltage, ascending (19 R506). -/
  restore : List Nat := []
  /-- Measurements in a row with an error above 200 µA, and at or below it, by output (19 R508, R509). -/
  bad : Tab Nat := {}
  good : Tab Nat := {}
  /-- Outputs whose running timer has expired, mask. -/
  fired : Nat := 0
  /-- The last ten measurements of each loop input, newest first, each with `VFLD_UV` (19 R511). -/
  ins : Tab (List (Nat × Bool)) := {}
  deriving DecidableEq, Repr


/-! ### Rind (20) -/

/-- A safety configuration (20 Table 20-5), at the default of 20 R533. -/
structure SafetyCfg where
  id : Nat := 0
  /-- Cap in W. -/
  cap : Nat := 1200
  /-- Outputs in sourcing mode, mask. -/
  modes : Nat := 0
  /-- Reset source: 0 the host, else the input. -/
  rstSrc : Nat := 0
  /-- Input types: 0 disabled, 1 NC/NC, 2 NC/NO. -/
  types : List Nat := [1, 1, 1, 1, 1, 1, 1, 1]
  funcs : List Nat := [0x37, 0x41, 0x02, 0x04, 0x08, 0, 0, 0]
  lsw : List Nat := [0, 0, 0, 0, 0, 0, 0, 0]
  /-- Discrepancy times in ms, and the off-pulse width in µs. -/
  disc : List Nat := [100, 100, 100, 100, 100, 100, 100, 100]
  opw : Nat := 300
  deriving DecidableEq, Repr

/-- Rind behind the `RND_` registers. -/
structure RindSt where
  /-- Record in force. -/
  cfg : SafetyCfg := {}
  /-- Its image; empty for the default. -/
  img : Bytes := []
  /-- Non-volatile copies of channels A and B; empty where every cell is erased (20 R545). -/
  copyA : Bytes := []
  copyB : Bytes := []
  /-- Pending record (20 R543). -/
  pend : Option Bytes := none
  /-- Inputs with a latched fault whose contacts have been seen together in the demand state since (20 R530), mask. -/
  seen : Nat := 0
  /-- OPTIME at which the reset input began to demand (20 R537). -/
  rstAt : Option Nat := none
  /-- The start-up self-test has failed (20 Table 20-4): the field outputs are not released in this power-up. -/
  failed : Bool := false
  /-- The Inputs stage runs: the outputs are held back, and a demand counts as one of the power-up (20 R540, 04 R103). -/
  waits : Bool := false
  /-- OPTIME of that power-up (01 R29). -/
  bootAt : Nat := 0
  /-- Functions and load switches that a demand has held since the last decision tick (01 R24, 05 R121), masks. -/
  hadFunc : Nat := 0
  hadLsw : Nat := 0
  /-- OPTIME at which the readback of each STO output last showed another than the off state (20 R536). -/
  rbAt : Tab Nat := {}
  deriving DecidableEq, Repr

/-! ### The state -/

/-- The module. -/
structure State where
  /-- The register fields of Machine/RegMap.lean, by field and instance; an unlisted field holds its reset value. -/
  regs : Tab Nat := {}
  pow : Pow := {}
  qual : Qual := {}
  flt : Tab FltBlk := {}
  /-- Reaction shadows in force, oldest first. -/
  shadows : List Shadow := []
  rcd : Rec := {}
  tim : Tim := {}
  mgt : Mgt := {}
  lease : Lease := {}
  ports : Tab Port := {}
  rings : Tab Ring := {}
  /-- The lines of the lanes, by port, direction and wavelength or pair. -/
  lines : Tab Line := {}
  engs : Tab Eng := {}
  lsc : Lsc := {}
  tiles : Tab Tile := {}
  parts : Tab Part := {}
  /-- The page-owner table and the state of every page. -/
  pages : Tab PageEnt := {}
  vmem : Vat := {}
  idle : Idle := {}
  /-- Last ring served for each tile, partition * 8 + ring (13 R343). -/
  rot : Tab Nat := {}
  gov : Gov := {}
  herd : Herd := {}
  pack : Pack := {}
  est : Est := {}
  ctr : Ctr := {}
  field : Field := {}
  rnd : RindSt := {}
  /-- Physical tiles that are disabled by fuse (00 R4, R5), ascending: none on a BX64, eight on a BX56, sixteen on a BX48
  (Table 0-1).  No command changes them. -/
  fused : List Nat := []
  /-- Index of the next free value (Config): the model's own field, not the specification's. -/
  freeIx : Nat := 0
  /-- The commands that wait, first in first out. -/
  pending : List Instr := []
  deriving DecidableEq, Repr

/-- The module in phase X, right after AUX24 entered its range for the first time: every register at its reset value,
nothing stored, no command waiting. -/
def State.reset : State := {}

end Sys2Proof.Machine
end

