-- ==== Sys2Proof/WellFormed.lean ====
section
/-! DEFINITION. Which commands are commands of their rows: the checks that the operand types do not make.  A meaning refuses
an ill-formed command by name; no neighbour of the module can send one. -/
namespace Sys2Proof

/-- An Ethernet payload holds at most 1,500 bytes (23 R605). -/
def payloadFits (b : List Byte) : Bool := b.length ≤ 1500

/-- A body of a mailbox frame holds at most 1,468 bytes (23 R605). -/
def bodyFits (b : List Byte) : Bool := b.length ≤ 1468

/-- A mailbox key is 256 bits (23 R618). -/
def keyFits (b : List Byte) : Bool := b.length == 32

/-- A flit is 128 bytes (06 R128). -/
def flitFits (b : List Byte) : Bool := b.length == 128

/-- The data of a Q message is counted in 16 bits (06 Table 6-8). -/
def dataFits (b : List Byte) : Bool := b.length < 65536

/-- A monitor measures 20 cells and 4 temperatures (16 R418). -/
def measFits (cells temps : List (BitVec 16)) : Bool := cells.length == 20 && temps.length == 4

/-- Ports P0 to P15 have twenty wavelengths, C0 and C1 eight lanes (06, 07, 08). -/
def laneExists (k : Fin 18) (lane : Fin 20) : Bool := k.val < 16 || lane.val < 8

/-- Taps h1 and h2 exist on every lane, h3 to h5 on copper alone (08 R208). -/
def tapExists (k : Fin 18) (tap : Fin 5) : Bool := 16 ≤ k.val || tap.val < 2

/-- A requester of a mirrored register: a port, or one of sixteen hosts (22 R592). -/
def requesterExists (port : Bool) (req : Fin 18) : Bool := port || req.val < 16

/-- The fault blocks and their instances (21 Table 21-1). -/
def faultBlocks : List (Nat × Nat) :=
  [(1, 1), (2, 1), (3, 1), (4, 1), (5, 1), (6, 1), (7, 1), (8, 1), (9, 1), (10, 1), (11, 1), (12, 1), (16, 1), (17, 1), (18, 8),
    (19, 4), (20, 1), (21, 18), (22, 16), (23, 64)]

/-- A fault block is one of Table 21-1. -/
def blockNamed (code inst : Byte) : Bool := faultBlocks.any fun x => x.1 == code.toNat && inst.toNat < x.2

/-- The checks of a command beyond its operand types. -/
def Instr.wellFormed : Instr → Bool
  | .frameReceive _ _ _ b _ => payloadFits b
  | .limitsetLoad _ b => bodyFits b
  | .modelLoad _ b => bodyFits b
  | .safetyCfgLoad _ b => bodyFits b
  | .mgtKeyCommit _ _ key _ => keyFits key
  | .rsLowRead port req _ => requesterExists port req
  | .wr _ _ _ d => dataFits d
  | .flitReceive _ b => flitFits b
  | .laneLos k n => laneExists k n
  | .laneLosClear k n => laneExists k n
  | .laneLock k n => laneExists k n
  | .laneLockLoss k n => laneExists k n
  | .markerAligned k n => laneExists k n
  | .markerAlignmentLoss k n => laneExists k n
  | .dfeTapSaturated k n tap => laneExists k n && tapExists k tap
  | .syncMeasure _ cells temps _ _ => measFits cells temps
  | .quietExpiry code inst => blockNamed code inst
  | .fltAckWrite _ code inst => blockNamed code inst
  | _ => true

end Sys2Proof
end

