-- ==== Sys2Proof/Machine/Exec.lean ====
section
/-! DEFINITION. What a meaning answers. -/
namespace Sys2Proof.Machine

/-- The outcome of a command. -/
abbrev Result := Host.Outcome State Fault Refusal

/-- A command whose operands pass its row's check goes on; any other is refused by name. -/
def wfElse (ok : Bool) (mnemonic : String) (t : State) : Result :=
  if ok then .next t else .refused (.illFormed mnemonic)

end Sys2Proof.Machine
end

