-- ==== Sys2Proof/Machine/Crypto.lean ====
section
/-! DEFINITION. The checks and codes the specification takes from standards: CRC-32 of IEEE 802.3 (06 R128, 22), the
reflected CRC-16 (16), SHA-256 (FIPS 180-4) and HMAC (05 R115, 23 R607), AES-256 (FIPS 197, 14 R379) and its XTS
mode (IEEE 1619, 14 R377), and the xorshift generator of 10 R260. -/
namespace Sys2Proof.Machine

/-! ### Cyclic redundancy checks -/

/-- One bit of a reflected CRC with polynomial `p`. -/
def crcBit (p : Nat) (r : Nat) : Nat := if r % 2 = 1 then (r / 2) ^^^ p else r / 2

/-- One byte of a reflected CRC. -/
def crcByte (p : Nat) (r : Nat) (b : Byte) : Nat :=
  let x := r ^^^ b.toNat
  crcBit p (crcBit p (crcBit p (crcBit p (crcBit p (crcBit p (crcBit p (crcBit p x)))))))

/-- CRC-32 of IEEE 802.3: reflected, initial value all ones, complemented at the end (06 R128). -/
def crc32 (bs : Bytes) : Nat := (bs.foldl (crcByte 0xEDB88320) 0xFFFFFFFF) ^^^ 0xFFFFFFFF

/-- A reflected CRC-16 with the reversed polynomial `p` and a given initial value (16). -/
def crc16 (p init : Nat) (bs : Bytes) : Nat := bs.foldl (crcByte p) init

/-! ### SHA-256 and HMAC -/

/-- The 64 round constants of SHA-256, eight words a row, the first word highest. -/
def shaTable : List Nat := [
  0x428a2f9871374491b5c0fbcfe9b5dba53956c25b59f111f1923f82a4ab1c5ed5,
  0xd807aa9812835b01243185be550c7dc372be5d7480deb1fe9bdc06a7c19bf174,
  0xe49b69c1efbe47860fc19dc6240ca1cc2de92c6f4a7484aa5cb0a9dc76f988da,
  0x983e5152a831c66db00327c8bf597fc7c6e00bf3d5a7914706ca635114292967,
  0x27b70a852e1b21384d2c6dfc53380d13650a7354766a0abb81c2c92e92722c85,
  0xa2bfe8a1a81a664bc24b8b70c76c51a3d192e819d6990624f40e3585106aa070,
  0x19a4c1161e376c082748774c34b0bcb5391c0cb34ed8aa4a5b9cca4f682e6ff3,
  0x748f82ee78a5636f84c878148cc7020890befffaa4506cebbef9a3f7c67178f2]
/-- The initial hash value, as one row. -/
def shaStart : Nat := 0x6a09e667bb67ae853c6ef372a54ff53a510e527f9b05688c1f83d9ab5be0cd19

/-- The eight 32-bit words of a row. -/
def rowWords (r : Nat) : List W32 := (List.range 8).map fun i => BitVec.ofNat 32 (r / 2 ^ (32 * (7 - i)))

/-- The big-endian words of a string. -/
def beWords : Bytes → List W32
  | a :: b :: c :: d :: t => (a ++ b ++ c ++ d : W32) :: beWords t
  | _ => []

/-- The big-endian bytes of `n` bytes of a number. -/
def beBytes (n x : Nat) : Bytes := (leBytes n x).reverse

/-- The sum of two rotations of a word to the right and a third value: the functions Σ and σ of the standard. -/
def shaSigma (i j : Nat) (x third : W32) : W32 := third ^^^ x.rotateRight j ^^^ x.rotateRight i

/-- The word that enters the sixteen-word window of the message schedule as its first one leaves. -/
def shaNext (win : List W32) : W32 :=
  let u := win.getD 1 0
  let v := win.getD 14 0
  win.headD 0 + win.getD 9 0 + shaSigma 7 18 u (u >>> 3) + shaSigma 17 19 v (v >>> 10)

/-- One round on the eight working variables, with the sum `kw` of its constant and its schedule word. -/
def shaRound (kw : W32) (st : List W32) : List W32 :=
  match st with
  | [a, b, c, d, e, f, g, h] =>
    let t := kw + h + (g ^^^ (e &&& (f ^^^ g))) + shaSigma 6 11 e (e.rotateRight 25)
    [t + ((a &&& b) ||| (c &&& (a ||| b))) + shaSigma 2 13 a (a.rotateRight 22), a, b, c, t + d, e, f, g]
  | _ => st

/-- The rounds of the constants left, the schedule window moving along. -/
def shaRounds : List W32 → List W32 → List W32 → List W32
  | [], _, st => st
  | k :: ks, win, st => shaRounds ks (win.drop 1 ++ [shaNext win]) (shaRound (k + win.headD 0) st)

/-- The hash value after one 64-byte block. -/
def shaBlock (h : List W32) (blk : Bytes) : List W32 :=
  (h.zip (shaRounds (shaTable.flatMap rowWords) (beWords blk) h)).map fun x => x.1 + x.2

/-- The hash value after `n` blocks of a padded message. -/
def shaBlocks : Nat → Bytes → List W32 → List W32
  | 0, _, h => h
  | n + 1, bs, h => shaBlocks n (bs.drop 64) (shaBlock h (bs.take 64))

/-- SHA-256: the message, a one bit, zeros up to 8 bytes before the end of a block, and its length in bits. -/
def sha256 (m : Bytes) : Bytes :=
  let whole := m ++ 0x80 :: List.replicate ((119 - m.length % 64) % 64) 0 ++ beBytes 8 (8 * m.length)
  (shaBlocks (whole.length / 64) whole (rowWords shaStart)).flatMap fun w => beBytes 4 w.toNat

/-- HMAC-SHA-256 under a key of at most 64 bytes. -/
def hmac (key m : Bytes) : Bytes :=
  let k := padTo 64 key
  sha256 ((k.map fun b => b ^^^ 0x5C) ++ sha256 ((k.map fun b => b ^^^ 0x36) ++ m))

/-! ### AES-256 -/

/-- Multiplication by x in GF(2^8) of FIPS 197. -/
def gfX (b : Byte) : Byte := if b.getMsbD 0 then (b <<< 1) ^^^ 0x1B else b <<< 1

/-- Multiplication in GF(2^8): the low `n` bits of `b`. -/
def gfMulN : Nat → Byte → Byte → Byte
  | 0, _, _ => 0
  | n + 1, a, b => (if b.getLsbD 0 then a else 0) ^^^ gfMulN n (gfX a) (b >>> 1)

/-- Multiplication in GF(2^8). -/
def gfMul (a b : Byte) : Byte := gfMulN 8 a b

/-- The inverse in GF(2^8), 0 for 0: the power 254. -/
def gfInv (a : Byte) : Byte :=
  let a2 := gfMul a a
  let a4 := gfMul a2 a2
  let a8 := gfMul a4 a4
  let a16 := gfMul a8 a8
  let a32 := gfMul a16 a16
  let a64 := gfMul a32 a32
  let a128 := gfMul a64 a64
  gfMul a128 (gfMul a64 (gfMul a32 (gfMul a16 (gfMul a8 (gfMul a4 a2)))))

/-- The S-box. -/
def aesS (a : Byte) : Byte :=
  let b := gfInv a
  b ^^^ b.rotateLeft 1 ^^^ b.rotateLeft 2 ^^^ b.rotateLeft 3 ^^^ b.rotateLeft 4 ^^^ 0x63

/-- Byte-wise sum. -/
def xorBytes : Bytes → Bytes → Bytes
  | a :: s, b :: t => (a ^^^ b) :: xorBytes s t
  | _, _ => []

/-- The next four-byte word of the key schedule of AES-256, words newest first; `i` is its number. -/
def aesWord (i : Nat) (w : List Bytes) (rcon : Byte) : Bytes :=
  let t := w.getD 0 []
  let t1 := if i % 8 = 0 then
      match t with
      | [a, b, c, d] => [aesS b ^^^ rcon, aesS c, aesS d, aesS a]
      | _ => t
    else if i % 8 = 4 then t.map aesS else t
  xorBytes (w.getD 7 []) t1

/-- `n` more words. -/
def aesExpand : Nat → Nat → List Bytes → Byte → List Bytes
  | 0, _, w, _ => w
  | n + 1, i, w, rcon => aesExpand n (i + 1) (aesWord i w rcon :: w) (if i % 8 = 0 then gfX rcon else rcon)

/-- The string cut into pieces of four. -/
def fours : Nat → Bytes → List Bytes
  | 0, _ => []
  | n + 1, bs => bs.take 4 :: fours n (bs.drop 4)

/-- The fifteen round keys of AES-256. -/
def aesKeys (key : Bytes) : List Bytes :=
  let ws := (aesExpand 52 8 (fours 8 key).reverse 1).reverse
  (List.range 15).map fun r => ((ws.drop (4 * r)).take 4).flatten

/-- ShiftRows on a column-major state. -/
def aesShift (st : Bytes) : Bytes :=
  (List.range 16).map fun i => st.getD ((i + 4 * (i % 4)) % 16) 0

/-- MixColumns of one column. -/
def aesMixCol (c : Bytes) : Bytes :=
  let g (i : Nat) : Byte := c.getD i 0
  let t (a b d e : Byte) : Byte := gfX a ^^^ (gfX b ^^^ b) ^^^ d ^^^ e
  [t (g 0) (g 1) (g 2) (g 3), t (g 1) (g 2) (g 3) (g 0), t (g 2) (g 3) (g 0) (g 1), t (g 3) (g 0) (g 1) (g 2)]

/-- The rounds under the round keys left; the last has no MixColumns. -/
def aesRounds : List Bytes → Bytes → Bytes
  | [], st => st
  | [k], st => xorBytes (aesShift (st.map aesS)) k
  | k :: ks, st => aesRounds ks (xorBytes ((fours 4 (aesShift (st.map aesS))).flatMap aesMixCol) k)

/-- AES-256 of one block. -/
def aes256 (key blk : Bytes) : Bytes :=
  match aesKeys key with
  | [] => []
  | k :: ks => aesRounds ks (xorBytes blk k)

/-- ShiftRows taken back: it has order 4. -/
def aesUnshift (st : Bytes) : Bytes := aesShift (aesShift (aesShift st))

/-- The inverse of the S-box: its affine map is taken back before the inverse. -/
def aesUnS (a : Byte) : Byte := gfInv (a.rotateLeft 1 ^^^ a.rotateLeft 3 ^^^ a.rotateLeft 6 ^^^ 0x05)

/-- MixColumns of a column taken back: it has order 4. -/
def aesUnmix (c : Bytes) : Bytes := aesMixCol (aesMixCol (aesMixCol c))

/-- Rounds taken back, last round key first; the first of them has no MixColumns. -/
def aesUnrounds : List Bytes → Bool → Bytes → Bytes
  | [], _, st => st
  | k :: ks, mixed, st =>
    let x := xorBytes st k
    aesUnrounds ks true ((aesUnshift (if mixed then (fours 4 x).flatMap aesUnmix else x)).map aesUnS)

/-- The block whose AES-256 is `blk`. -/
def aes256Inv (key blk : Bytes) : Bytes :=
  match aesKeys key with
  | [] => []
  | k :: ks => xorBytes (aesUnrounds ks.reverse false blk) k

/-! ### AES-256-XTS of a 64-byte unit (14 R377) -/

/-- A tweak times x in the field of IEEE 1619, on the number whose bytes it is. -/
def xtsDouble (t : Nat) : Nat := (2 * t % 2 ^ 128) ^^^ (if 2 ^ 127 ≤ t then 0x87 else 0)

/-- `n` blocks of a data unit under the tweak `t`, each through `f`. -/
def xtsBlocks (f : Bytes → Bytes) : Nat → Nat → Bytes → Bytes
  | 0, _, _ => []
  | n + 1, t, bs =>
    let m := leBytes 16 t
    xorBytes (f (xorBytes (bs.take 16) m)) m ++ xtsBlocks f n (xtsDouble t) (bs.drop 16)

/-- The tweak of the unit of P-address `64 * u` under Key2, as a number. -/
def xtsTweak (key : Bytes) (u : Nat) : Nat := leNat (aes256 (key.drop 32) (leBytes 16 u))

/-- A unit as stored under a partition key of 64 bytes, Key1 and then Key2; without a key, as it stands. -/
def xtsEnc (key : Bytes) (u : Nat) (bs : Bytes) : Bytes :=
  if key = [] then bs else xtsBlocks (aes256 (key.take 32)) 4 (xtsTweak key u) bs

/-- A unit as read under a partition key. -/
def xtsDec (key : Bytes) (u : Nat) (bs : Bytes) : Bytes :=
  if key = [] then bs else xtsBlocks (aes256Inv (key.take 32)) 4 (xtsTweak key u) bs

/-! ### The generator of 10 R260 -/

/-- One advance of the 32-bit xorshift generator. -/
def xorshift (x : BitVec 32) : BitVec 32 :=
  let a := x ^^^ (x <<< 13)
  let b := a ^^^ (a >>> 17)
  b ^^^ (b <<< 5)

/-- The seed of lane `l` (10 R260). -/
def laneSeed (seed l : Nat) : BitVec 32 := (BitVec.ofNat 32 (seed + l * 0x9E3779B9)) ||| 1

end Sys2Proof.Machine
end

