-- ==== Sys2Proof/Config.lean ====
section
/-! DEFINITION. Values the specification leaves open: free constants without a body, so that a statement holds whatever
they are. -/
namespace Sys2Proof.Config

/-- The free value number `n` of a run: a value the specification leaves open, taken modulo the width where it is used
(the session value of 23 R606, measured values, the torn byte of 22 R586; log entry 6). -/
opaque freeValue : Nat → Nat

/-- How far a transcendental result lies from the nearest value of the exact one (12 R315: within 2 ulp, GELU within 4),
by function and operand; taken modulo what the rule allows (log entry 22). -/
opaque vopUlp : Nat → Nat → Nat

/-- The result of a transcendental function of an operand for which the specification states none: the logarithm of 0,
an infinity (log entry 22). -/
opaque vopOpen : Nat → Nat → Nat

/-- The seven check bytes of a Vat unit, as one number, from its 64 data bytes and its metadata byte (14 R381 names a
shortened Reed-Solomon code of distance 8 over GF(2^8) and gives no generator; log entry 74). -/
opaque vatCheck : List (BitVec 8) → Nat → BitVec 56

/-- The measurement dividers of the isolation monitor in kΩ above 20 MΩ, for HV+ and HV− (02 R45 gives only the lower
bound; log entry 29). -/
opaque isoDivider : Nat → Nat

/-- The default model set's temperature breakpoints and tables (17 R453: not published), by table (OCV, RS, RP, CP) and
entry (log entry 27). -/
opaque modelTbp : Nat → Int
opaque modelTable : Nat → Nat → Nat

/-- The partitions of a host, mask, by host number (03 Table 3-5 names "its partitions" without saying how the supervisor
knows them; log entry 36). -/
opaque hostParts : Nat → Nat

end Sys2Proof.Config
end

