-- ==== Sys2Proof/Machine/RegMap.lean ====
section
/-! DEFINITION. The register tables of spec/ (00 Table 0-5 to 23 Table 23-9): every field of the registers that the
module keeps as words, its place, access code and reset value, one definition per field, named as the table names it,
and the layout of the registers of each space.  A field whose reset cell reads input state, measured, restored or by
grade has the value that log entries 5 to 9 name (DESIGN CHOICE).  Registers that only show other state (the fault
registers of 21, the tile registers of 09, 11 to 13, the page-owner table, the wide counters) are views, elsewhere. -/
namespace Sys2Proof.Machine
namespace F
/-- ID_DEVICE `VENDOR`, Table 0-5. -/
def ID_DEVICE_VENDOR : RField := ⟨1, 16, 16, .ro, 18516, 0, 18516⟩
/-- ID_DEVICE `PART`, Table 0-5. -/
def ID_DEVICE_PART : RField := ⟨2, 0, 16, .ro, 45156, 0, 45156⟩
/-- ID_GRADE `TILES`, Table 0-6: a read shows the enabled tiles of the part (Views.lean). -/
def ID_GRADE_TILES : RField := ⟨3, 0, 7, .ro, 64, 0, 64⟩
/-- ID_STEPPING `STEP`, Table 0-7. -/
def ID_STEPPING_STEP : RField := ⟨4, 0, 8, .ro, 176, 0, 176⟩
/-- AON_FRONT_STAT `LIGHT`, Table 1-5. -/
def AON_FRONT_STAT_LIGHT : RField := ⟨5, 16, 16, .ro, 0, 0, 0⟩
/-- AON_FRONT_STAT `WAKE_IN`, Table 1-5. -/
def AON_FRONT_STAT_WAKE_IN : RField := ⟨6, 15, 1, .ro, 0, 0, 0⟩
/-- AON_FRONT_STAT `SVC_KEY`, Table 1-5. -/
def AON_FRONT_STAT_SVC_KEY : RField := ⟨7, 14, 1, .ro, 0, 0, 0⟩
/-- AON_FRONT_STAT `LSC_PRESENT`, Table 1-5: shows `LSC_STAT`.`PRES`. -/
def AON_FRONT_STAT_LSC_PRESENT : RField := ⟨148, 12, 1, .ro, 0, 0, 0⟩
/-- AON_FRONT_STAT `TK_ACTIVE`, Table 1-5: shows `TCH_STAT`.`ACTIVE`. -/
def AON_FRONT_STAT_TK_ACTIVE : RField := ⟨384, 8, 4, .ro, 0, 0, 0⟩
/-- AON_FRONT_STAT `SI_DEMAND`, Table 1-5: `RND_SI_STAT`.`DEMAND` as last written to the front registers (01 R25). -/
def AON_FRONT_STAT_SI_DEMAND : RField := ⟨503, 0, 8, .ro, 0, 0, 0⟩
/-- AON_FRONT_EVT `LIGHT_CHG`, Table 1-6. -/
def AON_FRONT_EVT_LIGHT_CHG : RField := ⟨11, 16, 16, .w1c, 0, 0, 0⟩
/-- AON_FRONT_EVT `WAKE_CHG`, Table 1-6. -/
def AON_FRONT_EVT_WAKE_CHG : RField := ⟨12, 14, 1, .w1c, 0, 0, 0⟩
/-- AON_FRONT_EVT `SVC_CHG`, Table 1-6. -/
def AON_FRONT_EVT_SVC_CHG : RField := ⟨13, 13, 1, .w1c, 0, 0, 0⟩
/-- AON_FRONT_EVT `LSC_CHG`, Table 1-6. -/
def AON_FRONT_EVT_LSC_CHG : RField := ⟨14, 12, 1, .w1c, 0, 0, 0⟩
/-- AON_FRONT_EVT `TK_CHG`, Table 1-6. -/
def AON_FRONT_EVT_TK_CHG : RField := ⟨15, 8, 4, .w1c, 0, 0, 0⟩
/-- AON_FRONT_EVT `SI_CHG`, Table 1-6. -/
def AON_FRONT_EVT_SI_CHG : RField := ⟨16, 0, 8, .w1c, 0, 0, 0⟩
/-- AON_PIN_PHASE `HOLDUP`, Table 2-13. -/
def AON_PIN_PHASE_HOLDUP : RField := ⟨17, 9, 1, .ro, 0, 0, 0⟩
/-- AON_PIN_PHASE `FIELD_EN`, Table 2-13. -/
def AON_PIN_PHASE_FIELD_EN : RField := ⟨18, 8, 1, .ro, 0, 0, 0⟩
/-- AON_PIN_PHASE `CORE_PHASE`, Table 2-13. -/
def AON_PIN_PHASE_CORE_PHASE : RField := ⟨19, 0, 2, .ro, 1, 0, 1⟩
/-- AON_CONN_STAT `FLT_WIRE`, Table 2-14. -/
def AON_CONN_STAT_FLT_WIRE : RField := ⟨20, 18, 1, .ro, 0, 0, 0⟩
/-- AON_CONN_STAT `FLT_READ`, Table 2-14. -/
def AON_CONN_STAT_FLT_READ : RField := ⟨21, 16, 2, .ro, 0, 0, 0⟩
/-- AON_CONN_STAT `CPRES`, Table 2-14. -/
def AON_CONN_STAT_CPRES : RField := ⟨22, 12, 2, .ro, 0, 0, 0⟩
/-- AON_CONN_STAT `HPRES`, Table 2-14. -/
def AON_CONN_STAT_HPRES : RField := ⟨23, 10, 1, .ro, 0, 0, 0⟩
/-- AON_CONN_STAT `BJL_PRES`, Table 2-14. -/
def AON_CONN_STAT_BJL_PRES : RField := ⟨24, 9, 1, .ro, 0, 0, 0⟩
/-- AON_CONN_STAT `FLD_PRES`, Table 2-14. -/
def AON_CONN_STAT_FLD_PRES : RField := ⟨25, 8, 1, .ro, 0, 0, 0⟩
/-- AON_CONN_STAT `MGT_NID`, Table 2-14. -/
def AON_CONN_STAT_MGT_NID : RField := ⟨26, 0, 5, .ro, 1, 0, 1⟩
/-- AON_PD_STAT `VAT_STATE`, Table 3-10. -/
def AON_PD_STAT_VAT_STATE : RField := ⟨27, 23, 2, .ro, 0, 0, 0⟩
/-- AON_PD_STAT `ON`, Table 3-10. -/
def AON_PD_STAT_ON : RField := ⟨28, 0, 23, .ro, 255, 0, 255⟩
/-- AON_PD_REQ `TG_REQ`, Table 3-11. -/
def AON_PD_REQ_TG_REQ : RField := ⟨29, 15, 8, .rw, 0, 0, 0⟩
/-- AON_PD_REQ `ENG_REQ`, Table 3-11. -/
def AON_PD_REQ_ENG_REQ : RField := ⟨30, 10, 4, .rw, 0, 0, 0⟩
/-- AON_PD_REQ `VAT_REQ`, Table 3-11. -/
def AON_PD_REQ_VAT_REQ : RField := ⟨31, 8, 2, .rw, 0, 0, 0⟩
/-- AON_PD_REQ `SEP_REQ`, Table 3-11. -/
def AON_PD_REQ_SEP_REQ : RField := ⟨32, 7, 1, .rw, 0, 0, 0⟩
/-- AON_PD_CFG `ENG_IDLE`, Table 3-12. -/
def AON_PD_CFG_ENG_IDLE : RField := ⟨33, 24, 8, .rw, 60, 0, 60⟩
/-- AON_PD_CFG `TG_IDLE`, Table 3-12. -/
def AON_PD_CFG_TG_IDLE : RField := ⟨34, 8, 8, .rw, 10, 0, 10⟩
/-- AON_PD_CFG `HERD_GATE`, Table 3-12. -/
def AON_PD_CFG_HERD_GATE : RField := ⟨35, 0, 1, .rw, 0, 0, 0⟩
/-- AON_WAKE_CFG `WAKEIN_ENG`, Table 3-13. -/
def AON_WAKE_CFG_WAKEIN_ENG : RField := ⟨36, 16, 4, .rw, 15, 0, 15⟩
/-- AON_WAKE_CFG `WAKEIN_TG`, Table 3-13. -/
def AON_WAKE_CFG_WAKEIN_TG : RField := ⟨37, 8, 8, .rw, 0, 0, 0⟩
/-- AON_WAKE_CFG `SI_EN`, Table 3-13. -/
def AON_WAKE_CFG_SI_EN : RField := ⟨38, 5, 1, .ro, 1, 0, 1⟩
/-- AON_WAKE_CFG `MILK_EN`, Table 3-13. -/
def AON_WAKE_CFG_MILK_EN : RField := ⟨39, 4, 1, .rw, 1, 0, 1⟩
/-- AON_WAKE_CFG `DOORBELL_EN`, Table 3-13. -/
def AON_WAKE_CFG_DOORBELL_EN : RField := ⟨40, 3, 1, .rw, 1, 0, 1⟩
/-- AON_WAKE_CFG `WAKEIN_EN`, Table 3-13. -/
def AON_WAKE_CFG_WAKEIN_EN : RField := ⟨41, 2, 1, .rw, 1, 0, 1⟩
/-- AON_WAKE_CFG `LIGHT_EN`, Table 3-13. -/
def AON_WAKE_CFG_LIGHT_EN : RField := ⟨42, 1, 1, .rw, 1, 0, 1⟩
/-- AON_WAKE_CFG `MSG_EN`, Table 3-13. -/
def AON_WAKE_CFG_MSG_EN : RField := ⟨43, 0, 1, .ro, 1, 0, 1⟩
/-- AON_WAKE_SRC `REFUSED_TRIP`, Table 3-14. -/
def AON_WAKE_SRC_REFUSED_TRIP : RField := ⟨44, 10, 1, .w1c, 0, 0, 0⟩
/-- AON_WAKE_SRC `REFUSED_RIND`, Table 3-14. -/
def AON_WAKE_SRC_REFUSED_RIND : RField := ⟨45, 9, 1, .w1c, 0, 0, 0⟩
/-- AON_WAKE_SRC `REFUSED_MAIN`, Table 3-14. -/
def AON_WAKE_SRC_REFUSED_MAIN : RField := ⟨46, 8, 1, .w1c, 0, 0, 0⟩
/-- AON_WAKE_SRC `SRC`, Table 3-14. -/
def AON_WAKE_SRC_SRC : RField := ⟨47, 0, 6, .w1c, 0, 0, 0⟩
/-- AON_SUPPLY `VMAIN`, Table 3-15. -/
def AON_SUPPLY_VMAIN : RField := ⟨48, 16, 16, .ro, 0, 0, 0⟩
/-- AON_SUPPLY `VAUX`, Table 3-15. -/
def AON_SUPPLY_VAUX : RField := ⟨49, 0, 16, .ro, 0, 0, 0⟩
/-- AON_SUP_STAT `CORE_DISCH`, Table 3-16. -/
def AON_SUP_STAT_CORE_DISCH : RField := ⟨50, 3, 1, .ro, 0, 0, 0⟩
/-- AON_SUP_STAT `MAIN_OV`, Table 3-16. -/
def AON_SUP_STAT_MAIN_OV : RField := ⟨51, 2, 1, .ro, 0, 0, 0⟩
/-- AON_SUP_STAT `MAIN_OK`, Table 3-16. -/
def AON_SUP_STAT_MAIN_OK : RField := ⟨52, 1, 1, .ro, 0, 0, 0⟩
/-- AON_SUP_STAT `AUX_OK`, Table 3-16. -/
def AON_SUP_STAT_AUX_OK : RField := ⟨53, 0, 1, .ro, 1, 0, 1⟩
/-- AON_TEMP `TJ_CORE`, Table 3-17. -/
def AON_TEMP_TJ_CORE : RField := ⟨54, 16, 16, .ro, 32768, 0, 32768⟩
/-- AON_TEMP `TJ_SUP`, Table 3-17. -/
def AON_TEMP_TJ_SUP : RField := ⟨55, 0, 16, .ro, 0, 0, 0⟩
/-- AON_HARD_LIM `TJ_TRIP_CORE`, Table 3-18. -/
def AON_HARD_LIM_TJ_TRIP_CORE : RField := ⟨56, 24, 8, .ro, 110, 0, 110⟩
/-- AON_HARD_LIM `TJ_TRIP_SUP`, Table 3-18. -/
def AON_HARD_LIM_TJ_TRIP_SUP : RField := ⟨57, 16, 8, .ro, 125, 0, 125⟩
/-- AON_HARD_LIM `FMAX`, Table 3-18. -/
def AON_HARD_LIM_FMAX : RField := ⟨58, 8, 8, .ro, 150, 0, 150⟩
/-- AON_HARD_LIM `VMAX`, Table 3-18. -/
def AON_HARD_LIM_VMAX : RField := ⟨59, 0, 8, .ro, 180, 0, 180⟩
/-- AON_HARD_EVT `MAIN_OV`, Table 3-19. -/
def AON_HARD_EVT_MAIN_OV : RField := ⟨60, 4, 1, .w1c, 0, 0, 0⟩
/-- AON_HARD_EVT `MAIN_UV`, Table 3-19. -/
def AON_HARD_EVT_MAIN_UV : RField := ⟨61, 3, 1, .w1c, 0, 0, 0⟩
/-- AON_HARD_EVT `VTG_OV`, Table 3-19. -/
def AON_HARD_EVT_VTG_OV : RField := ⟨62, 2, 1, .w1c, 0, 0, 0⟩
/-- AON_HARD_EVT `TJ_SUP_TRIP`, Table 3-19. -/
def AON_HARD_EVT_TJ_SUP_TRIP : RField := ⟨63, 1, 1, .w1c, 0, 0, 0⟩
/-- AON_HARD_EVT `TJ_CORE_TRIP`, Table 3-19. -/
def AON_HARD_EVT_TJ_CORE_TRIP : RField := ⟨64, 0, 1, .w1c, 0, 0, 0⟩
/-- CLK_TG_FREQ `ACT`, Table 3-20. -/
def CLK_TG_FREQ_ACT : RField := ⟨65, 16, 8, .ro, 0, 0, 0⟩
/-- CLK_TG_FREQ `SET`, Table 3-20. -/
def CLK_TG_FREQ_SET : RField := ⟨66, 0, 8, .rw, 135, 0, 135⟩
/-- CLK_DOM_STAT0 `RUN0`, Table 3-21. -/
def CLK_DOM_STAT0_RUN0 : RField := ⟨67, 0, 32, .ro, 511, 0, 511⟩
/-- CLK_DOM_STAT1 `RUN1`, Table 3-21. -/
def CLK_DOM_STAT1_RUN1 : RField := ⟨68, 0, 28, .ro, 0, 0, 0⟩
/-- CLK_MON_EVT `SLOW_FAIL`, Table 3-22. -/
def CLK_MON_EVT_SLOW_FAIL : RField := ⟨69, 11, 1, .w1c, 0, 0, 0⟩
/-- CLK_MON_EVT `XS_FAIL`, Table 3-22. -/
def CLK_MON_EVT_XS_FAIL : RField := ⟨70, 10, 1, .w1c, 0, 0, 0⟩
/-- CLK_MON_EVT `REF_FAIL`, Table 3-22. -/
def CLK_MON_EVT_REF_FAIL : RField := ⟨71, 9, 1, .w1c, 0, 0, 0⟩
/-- CLK_MON_EVT `SEP_OVF`, Table 3-22. -/
def CLK_MON_EVT_SEP_OVF : RField := ⟨72, 8, 1, .w1c, 0, 0, 0⟩
/-- CLK_MON_EVT `TG_OVF`, Table 3-22. -/
def CLK_MON_EVT_TG_OVF : RField := ⟨73, 0, 8, .w1c, 0, 0, 0⟩
/-- AON_SVC_STAT `OPT_NARROW`, Table 4-6. -/
def AON_SVC_STAT_OPT_NARROW : RField := ⟨74, 16, 16, .ro, 0, 0, 0⟩
/-- AON_SVC_STAT `ASSIST_ON`, Table 4-6. -/
def AON_SVC_STAT_ASSIST_ON : RField := ⟨75, 15, 1, .ro, 0, 0, 0⟩
/-- AON_SVC_STAT `ASSIST_BLK`, Table 4-6. -/
def AON_SVC_STAT_ASSIST_BLK : RField := ⟨76, 10, 5, .ro, 31, 0, 31⟩
/-- AON_SVC_STAT `EST_LOADED`, Table 4-6. -/
def AON_SVC_STAT_EST_LOADED : RField := ⟨77, 9, 1, .ro, 0, 0, 0⟩
/-- AON_SVC_STAT `COMPUTE`, Table 4-6. -/
def AON_SVC_STAT_COMPUTE : RField := ⟨78, 6, 2, .ro, 0, 0, 0⟩
/-- AON_SVC_STAT `CHAIN_READY`, Table 4-6. -/
def AON_SVC_STAT_CHAIN_READY : RField := ⟨79, 2, 1, .ro, 0, 0, 0⟩
/-- AON_SVC_STAT `REC_READY`, Table 4-6. -/
def AON_SVC_STAT_REC_READY : RField := ⟨80, 1, 1, .ro, 0, 0, 0⟩
/-- AON_SVC_STAT `SKIM`, Table 4-6. -/
def AON_SVC_STAT_SKIM : RField := ⟨81, 0, 1, .ro, 1, 0, 1⟩
/-- AON_QUAL `QUAL_FAIL`, Table 4-7. -/
def AON_QUAL_QUAL_FAIL : RField := ⟨82, 16, 8, .ro, 0, 0, 0⟩
/-- AON_QUAL `QUAL_DONE`, Table 4-7. -/
def AON_QUAL_QUAL_DONE : RField := ⟨83, 8, 8, .ro, 0, 0, 0⟩
/-- AON_QUAL `SKIM_GRP`, Table 4-7. -/
def AON_QUAL_SKIM_GRP : RField := ⟨84, 0, 3, .ro, 0, 0, 0⟩
/-- MGT_STW_STAT `REMAIN`, Table 5-6. -/
def MGT_STW_STAT_REMAIN : RField := ⟨85, 20, 12, .ro, 0, 0, 0⟩
/-- MGT_STW_STAT `HOLDER`, Table 5-6. -/
def MGT_STW_STAT_HOLDER : RField := ⟨86, 16, 4, .ro, 0, 0, 0⟩
/-- MGT_STW_STAT `HELD`, Table 5-6. -/
def MGT_STW_STAT_HELD : RField := ⟨87, 15, 1, .ro, 0, 0, 0⟩
/-- MGT_STW_STAT `FORCED`, Table 5-6. -/
def MGT_STW_STAT_FORCED : RField := ⟨88, 14, 1, .ro, 0, 0, 0⟩
/-- MGT_STW_EPOCH `EPOCH`, Table 5-7. -/
def MGT_STW_EPOCH_EPOCH : RField := ⟨89, 0, 16, .ro, 0, 0, 0⟩
/-- MGT_STW_ELIG `ELIG`, Table 5-8. -/
def MGT_STW_ELIG_ELIG : RField := ⟨90, 0, 16, .rw, 65535, 0, 65535⟩
/-- MGT_STW_DEF `LOOP_POL`, Table 5-9. -/
def MGT_STW_DEF_LOOP_POL : RField := ⟨91, 18, 1, .rw, 0, 0, 0⟩
/-- MGT_STW_DEF `LSW_POL`, Table 5-9. -/
def MGT_STW_DEF_LSW_POL : RField := ⟨92, 17, 1, .rw, 0, 0, 0⟩
/-- MGT_STW_DEF `CT_POL`, Table 5-9. -/
def MGT_STW_DEF_CT_POL : RField := ⟨93, 16, 1, .rw, 0, 0, 0⟩
/-- MGT_STW_DEF `SHARE`, Table 5-9. -/
def MGT_STW_DEF_SHARE : RField := ⟨94, 0, 10, .rw, 100, 0, 100⟩
/-- MGT_RIGHTS `CT`, Table 5-10. -/
def MGT_RIGHTS_CT : RField := ⟨95, 20, 4, .rw, 0, 0, 0⟩
/-- MGT_RIGHTS `LOOP`, Table 5-10. -/
def MGT_RIGHTS_LOOP : RField := ⟨96, 16, 4, .rw, 0, 0, 0⟩
/-- MGT_RIGHTS `LSW`, Table 5-10. -/
def MGT_RIGHTS_LSW : RField := ⟨97, 0, 16, .rw, 0, 0, 0⟩
/-- MGT_ARB_LAST `RES`, Table 5-11. -/
def MGT_ARB_LAST_RES : RField := ⟨98, 24, 8, .ro, 0, 0, 0⟩
/-- MGT_ARB_LAST `WINNER`, Table 5-11. -/
def MGT_ARB_LAST_WINNER : RField := ⟨99, 20, 4, .ro, 0, 0, 0⟩
/-- MGT_ARB_LAST `LOSER`, Table 5-11. -/
def MGT_ARB_LAST_LOSER : RField := ⟨100, 16, 4, .ro, 0, 0, 0⟩
/-- MGT_ARB_LAST `COUNT`, Table 5-11. -/
def MGT_ARB_LAST_COUNT : RField := ⟨101, 0, 16, .ro, 0, 0, 0⟩
/-- SEP_STW_PROVE `PROOF`, Table 5-12. -/
def SEP_STW_PROVE_PROOF : RField := ⟨102, 0, 64, .wo, 0, 0, 0⟩
/-- SEP_STW_PORTS `PORTS`, Table 5-12. -/
def SEP_STW_PORTS_PORTS : RField := ⟨103, 0, 18, .ro, 0, 0, 0⟩
/-- SEP_PT_CTL `RECLAIM`, Table 5-13. -/
def SEP_PT_CTL_RECLAIM : RField := ⟨104, 12, 1, .wo, 0, 0, 0⟩
/-- SEP_PT_CTL `OPEN`, Table 5-13. -/
def SEP_PT_CTL_OPEN : RField := ⟨105, 8, 1, .wo, 0, 0, 0⟩
/-- SEP_PT_CTL `STATE`, Table 5-13. -/
def SEP_PT_CTL_STATE : RField := ⟨106, 0, 2, .ro, 0, 0, 0⟩
/-- SEP_PT_TILES `TILES`, Table 5-13. -/
def SEP_PT_TILES_TILES : RField := ⟨107, 0, 64, .rw, 0, 0, 0⟩
/-- SEP_PT_NPAGES `NPAGES`, Table 5-13. -/
def SEP_PT_NPAGES_NPAGES : RField := ⟨108, 0, 18, .ro, 0, 0, 0⟩
/-- SEP_PT_PORTS `ACTIVE`, Table 5-13. -/
def SEP_PT_PORTS_ACTIVE : RField := ⟨109, 32, 18, .ro, 0, 0, 0⟩
/-- SEP_PT_PORTS `REQ`, Table 5-13. -/
def SEP_PT_PORTS_REQ : RField := ⟨110, 0, 18, .rw, 0, 0, 0⟩
/-- SEP_PC_ADMIT `PORT`, Table 5-15. -/
def SEP_PC_ADMIT_PORT : RField := ⟨111, 0, 5, .wo, 0, 0, 0⟩
/-- LNK_CTL `LOOP_REQ`, Table 6-14. -/
def LNK_CTL_LOOP_REQ : RField := ⟨112, 2, 2, .rw, 0, 0, 0⟩
/-- LNK_CTL `RETRAIN`, Table 6-14. -/
def LNK_CTL_RETRAIN : RField := ⟨113, 1, 1, .wo, 0, 0, 0⟩
/-- LNK_CTL `EN`, Table 6-14. -/
def LNK_CTL_EN : RField := ⟨114, 0, 1, .rw, 1, 0, 1⟩
/-- LNK_STAT `SPARE`, Table 6-15. -/
def LNK_STAT_SPARE : RField := ⟨115, 44, 20, .ro, 0, 0, 0⟩
/-- LNK_STAT `RXSET`, Table 6-15. -/
def LNK_STAT_RXSET : RField := ⟨116, 24, 16, .ro, 0, 0, 0⟩
/-- LNK_STAT `TXSET`, Table 6-15. -/
def LNK_STAT_TXSET : RField := ⟨117, 8, 16, .ro, 0, 0, 0⟩
/-- LNK_STAT `WIDTH`, Table 6-15. -/
def LNK_STAT_WIDTH : RField := ⟨118, 3, 5, .ro, 0, 0, 0⟩
/-- LNK_STAT `STATE`, Table 6-15. -/
def LNK_STAT_STATE : RField := ⟨119, 0, 3, .ro, 0, 0, 0⟩
/-- LNK_CREDIT `M_PEER`, Table 6-16. -/
def LNK_CREDIT_M_PEER : RField := ⟨120, 24, 8, .ro, 0, 0, 0⟩
/-- LNK_CREDIT `S_PEER`, Table 6-16. -/
def LNK_CREDIT_S_PEER : RField := ⟨121, 16, 8, .ro, 0, 0, 0⟩
/-- LNK_CREDIT `Q_ADV`, Table 6-16. -/
def LNK_CREDIT_Q_ADV : RField := ⟨122, 0, 8, .ro, 192, 0, 192⟩
/-- LNK_ERRCNT `M_DROP`, Table 6-17. -/
def LNK_ERRCNT_M_DROP : RField := ⟨123, 52, 12, .ro, 0, 0, 0⟩
/-- LNK_ERRCNT `PROTO_ERR`, Table 6-17. -/
def LNK_ERRCNT_PROTO_ERR : RField := ⟨124, 44, 8, .ro, 0, 0, 0⟩
/-- LNK_ERRCNT `DOWNS`, Table 6-17. -/
def LNK_ERRCNT_DOWNS : RField := ⟨125, 36, 8, .ro, 0, 0, 0⟩
/-- LNK_ERRCNT `RETRAINS`, Table 6-17. -/
def LNK_ERRCNT_RETRAINS : RField := ⟨126, 28, 8, .ro, 0, 0, 0⟩
/-- LNK_ERRCNT `REPLAYS`, Table 6-17. -/
def LNK_ERRCNT_REPLAYS : RField := ⟨127, 14, 14, .ro, 0, 0, 0⟩
/-- LNK_ERRCNT `CRC_ERR`, Table 6-17. -/
def LNK_ERRCNT_CRC_ERR : RField := ⟨128, 0, 14, .ro, 0, 0, 0⟩
/-- PYU_CTL `ROT_GAP`, Table 7-5. -/
def PYU_CTL_ROT_GAP : RField := ⟨129, 16, 16, .rw, 1000, 0, 1000⟩
/-- PYU_CTL `ROT_EN`, Table 7-5. -/
def PYU_CTL_ROT_EN : RField := ⟨130, 1, 1, .rw, 1, 0, 1⟩
/-- PYU_CTL `RESET`, Table 7-5. -/
def PYU_CTL_RESET : RField := ⟨131, 0, 1, .wo, 0, 0, 0⟩
/-- PYU_STAT `FAIL`, Table 7-6. -/
def PYU_STAT_FAIL : RField := ⟨132, 32, 20, .ro, 0, 0, 0⟩
/-- PYU_STAT `BANK_FAIL`, Table 7-6. -/
def PYU_STAT_BANK_FAIL : RField := ⟨133, 2, 1, .ro, 0, 0, 0⟩
/-- PYU_STAT `STATE`, Table 7-6. -/
def PYU_STAT_STATE : RField := ⟨134, 0, 2, .ro, 0, 0, 0⟩
/-- PYU_RING_SEL `PORT`, Table 7-7. -/
def PYU_RING_SEL_PORT : RField := ⟨135, 8, 2, .rw, 0, 0, 0⟩
/-- PYU_RING_SEL `DIR`, Table 7-7. -/
def PYU_RING_SEL_DIR : RField := ⟨136, 7, 1, .rw, 0, 0, 0⟩
/-- PYU_RING_SEL `WL`, Table 7-7. -/
def PYU_RING_SEL_WL : RField := ⟨137, 0, 5, .rw, 0, 0, 0⟩
/-- LSC_STAT `BANK_LOCK`, Table 7-9. -/
def LSC_STAT_BANK_LOCK : RField := ⟨138, 16, 4, .ro, 0, 0, 0⟩
/-- LSC_STAT `BANK_ON`, Table 7-9. -/
def LSC_STAT_BANK_ON : RField := ⟨139, 12, 4, .ro, 0, 0, 0⟩
/-- LSC_STAT `BANK_FLT`, Table 7-9. -/
def LSC_STAT_BANK_FLT : RField := ⟨140, 8, 4, .ro, 0, 0, 0⟩
/-- LSC_STAT `BAD_CAR`, Table 7-9. -/
def LSC_STAT_BAD_CAR : RField := ⟨141, 7, 1, .ro, 0, 0, 0⟩
/-- LSC_STAT `CAR_READY`, Table 7-9. -/
def LSC_STAT_CAR_READY : RField := ⟨142, 6, 1, .ro, 0, 0, 0⟩
/-- LSC_STAT `VDD_OK`, Table 7-9. -/
def LSC_STAT_VDD_OK : RField := ⟨143, 5, 1, .ro, 0, 0, 0⟩
/-- LSC_STAT `LEN_B`, Table 7-9. -/
def LSC_STAT_LEN_B : RField := ⟨144, 4, 1, .ro, 0, 0, 0⟩
/-- LSC_STAT `LEN_A`, Table 7-9. -/
def LSC_STAT_LEN_A : RField := ⟨145, 3, 1, .ro, 0, 0, 0⟩
/-- LSC_STAT `LATCH_B`, Table 7-9. -/
def LSC_STAT_LATCH_B : RField := ⟨146, 2, 1, .ro, 0, 0, 0⟩
/-- LSC_STAT `LATCH_A`, Table 7-9. -/
def LSC_STAT_LATCH_A : RField := ⟨147, 1, 1, .ro, 0, 0, 0⟩
/-- LSC_STAT `PRES`, Table 7-9. -/
def LSC_STAT_PRES : RField := ⟨148, 0, 1, .ro, 0, 0, 0⟩
/-- LSC_WIN `BUSY`, Table 7-10. -/
def LSC_WIN_BUSY : RField := ⟨149, 63, 1, .ro, 0, 0, 0⟩
/-- LSC_WIN `ERR`, Table 7-10. -/
def LSC_WIN_ERR : RField := ⟨150, 62, 1, .ro, 0, 0, 0⟩
/-- LSC_WIN `W`, Table 7-10. -/
def LSC_WIN_W : RField := ⟨151, 31, 1, .rw, 0, 0, 0⟩
/-- LSC_WIN `ADDR`, Table 7-10. -/
def LSC_WIN_ADDR : RField := ⟨152, 16, 15, .rw, 0, 0, 0⟩
/-- LSC_WIN `DATA`, Table 7-10. -/
def LSC_WIN_DATA : RField := ⟨153, 0, 16, .rw, 0, 0, 0⟩
/-- LNK_LANE_SEL `LANE`, Table 8-7. -/
def LNK_LANE_SEL_LANE : RField := ⟨154, 0, 5, .rw, 0, 0, 0⟩
/-- LNK_DFE `SAT`, Table 8-8. -/
def LNK_DFE_SAT : RField := ⟨155, 40, 5, .ro, 0, 0, 0⟩
/-- LNK_DFE `H5`, Table 8-8. -/
def LNK_DFE_H5 : RField := ⟨156, 32, 8, .ro, 0, 0, 0⟩
/-- LNK_DFE `H4`, Table 8-8. -/
def LNK_DFE_H4 : RField := ⟨157, 24, 8, .ro, 0, 0, 0⟩
/-- LNK_DFE `H3`, Table 8-8. -/
def LNK_DFE_H3 : RField := ⟨158, 16, 8, .ro, 0, 0, 0⟩
/-- LNK_DFE `H2`, Table 8-8. -/
def LNK_DFE_H2 : RField := ⟨159, 8, 8, .ro, 0, 0, 0⟩
/-- LNK_DFE `H1`, Table 8-8. -/
def LNK_DFE_H1 : RField := ⟨160, 0, 8, .ro, 0, 0, 0⟩
/-- LNK_LANE_ERR `LOOP_ERR`, Table 8-9. -/
def LNK_LANE_ERR_LOOP_ERR : RField := ⟨161, 32, 32, .ro, 0, 0, 0⟩
/-- LNK_LANE_ERR `STUFF_ERR`, Table 8-9. -/
def LNK_LANE_ERR_STUFF_ERR : RField := ⟨162, 24, 8, .ro, 0, 0, 0⟩
/-- LNK_LANE_ERR `MARKER_ERR`, Table 8-9. -/
def LNK_LANE_ERR_MARKER_ERR : RField := ⟨163, 16, 8, .ro, 0, 0, 0⟩
/-- LNK_LANE_ERR `LOS_EVT`, Table 8-9. -/
def LNK_LANE_ERR_LOS_EVT : RField := ⟨164, 8, 8, .ro, 0, 0, 0⟩
/-- LNK_LANE_ERR `LOL_EVT`, Table 8-9. -/
def LNK_LANE_ERR_LOL_EVT : RField := ⟨165, 0, 8, .ro, 0, 0, 0⟩
/-- LNK_LANE_STAT `MALIGN`, Table 8-10. -/
def LNK_LANE_STAT_MALIGN : RField := ⟨166, 42, 20, .ro, 0, 0, 0⟩
/-- LNK_LANE_STAT `CLK_LOL`, Table 8-10. -/
def LNK_LANE_STAT_CLK_LOL : RField := ⟨167, 40, 1, .ro, 1, 16, 0⟩
/-- LNK_LANE_STAT `LOL`, Table 8-10. -/
def LNK_LANE_STAT_LOL : RField := ⟨168, 20, 20, .ro, 1048575, 0, 1048575⟩
/-- LNK_LANE_STAT `LOS`, Table 8-10. -/
def LNK_LANE_STAT_LOS : RField := ⟨169, 0, 20, .ro, 1048575, 0, 1048575⟩
/-- LNK_TXEQ `MAIN`, Table 8-11. -/
def LNK_TXEQ_MAIN : RField := ⟨170, 16, 6, .ro, 60, 16, 48⟩
/-- LNK_TXEQ `POST`, Table 8-11. -/
def LNK_TXEQ_POST : RField := ⟨171, 8, 5, .rw, 4, 16, 12⟩
/-- LNK_TXEQ `PRE`, Table 8-11. -/
def LNK_TXEQ_PRE : RField := ⟨172, 0, 4, .rw, 0, 16, 4⟩
/-- LNK_RXCTL `DFE_RESET`, Table 8-12. -/
def LNK_RXCTL_DFE_RESET : RField := ⟨173, 1, 1, .wo, 0, 0, 0⟩
/-- LNK_RXCTL `DFE_FREEZE`, Table 8-12. -/
def LNK_RXCTL_DFE_FREEZE : RField := ⟨174, 0, 1, .rw, 0, 0, 0⟩
/-- LNK_SSC `FREQ`, Table 8-13. -/
def LNK_SSC_FREQ : RField := ⟨175, 16, 8, .rw, 32, 0, 32⟩
/-- LNK_SSC `DEPTH`, Table 8-13. -/
def LNK_SSC_DEPTH : RField := ⟨176, 8, 8, .rw, 50, 0, 50⟩
/-- LNK_SSC `PENDING`, Table 8-13. -/
def LNK_SSC_PENDING : RField := ⟨177, 1, 1, .ro, 0, 0, 0⟩
/-- LNK_SSC `SSC_EN`, Table 8-13. -/
def LNK_SSC_SSC_EN : RField := ⟨178, 0, 1, .rw, 0, 0, 0⟩
/-- LNK_LOOP_STAT `LOOP_FAIL`, Table 8-14. -/
def LNK_LOOP_STAT_LOOP_FAIL : RField := ⟨179, 16, 1, .ro, 0, 0, 0⟩
/-- LNK_LOOP_STAT `SYNC`, Table 8-14. -/
def LNK_LOOP_STAT_SYNC : RField := ⟨180, 0, 16, .ro, 0, 0, 0⟩
/-- SEP_RING_BASE `BASE`, Table 13-6. -/
def SEP_RING_BASE_BASE : RField := ⟨181, 12, 36, .rw, 0, 0, 0⟩
/-- SEP_RING_CFG `SIZE`, Table 13-7. -/
def SEP_RING_CFG_SIZE : RField := ⟨182, 16, 4, .rw, 6, 0, 6⟩
/-- SEP_RING_CFG `PRIO`, Table 13-7. -/
def SEP_RING_CFG_PRIO : RField := ⟨183, 8, 3, .rw, 0, 0, 0⟩
/-- SEP_RING_CFG `PCLASS`, Table 13-7. -/
def SEP_RING_CFG_PCLASS : RField := ⟨184, 4, 1, .rw, 0, 0, 0⟩
/-- SEP_RING_CFG `EN`, Table 13-7. -/
def SEP_RING_CFG_EN : RField := ⟨185, 0, 1, .rw, 0, 0, 0⟩
/-- SEP_RING_DB `TILE`, Table 13-8. -/
def SEP_RING_DB_TILE : RField := ⟨186, 32, 6, .wo, 0, 0, 0⟩
/-- SEP_RING_DB `TAIL`, Table 13-8. -/
def SEP_RING_DB_TAIL : RField := ⟨187, 0, 17, .wo, 0, 0, 0⟩
/-- SEP_RING_STAT `TAIL`, Table 13-9. -/
def SEP_RING_STAT_TAIL : RField := ⟨188, 32, 17, .ro, 0, 0, 0⟩
/-- SEP_RING_STAT `DB_DROP`, Table 13-9. -/
def SEP_RING_STAT_DB_DROP : RField := ⟨189, 30, 1, .w1c, 0, 0, 0⟩
/-- SEP_RING_STAT `STATE`, Table 13-9. -/
def SEP_RING_STAT_STATE : RField := ⟨190, 28, 2, .ro, 0, 0, 0⟩
/-- SEP_RING_STAT `SEGS`, Table 13-9. -/
def SEP_RING_STAT_SEGS : RField := ⟨191, 17, 5, .ro, 0, 0, 0⟩
/-- SEP_RING_STAT `HEAD`, Table 13-9. -/
def SEP_RING_STAT_HEAD : RField := ⟨192, 0, 17, .ro, 0, 0, 0⟩
/-- SEP_CQ_BASE `BASE`, Table 13-10. -/
def SEP_CQ_BASE_BASE : RField := ⟨193, 12, 36, .rw, 0, 0, 0⟩
/-- SEP_CQ_CFG `SIZE`, Table 13-10. -/
def SEP_CQ_CFG_SIZE : RField := ⟨194, 16, 4, .rw, 6, 0, 6⟩
/-- SEP_CQ_CFG `EN`, Table 13-10. -/
def SEP_CQ_CFG_EN : RField := ⟨195, 0, 1, .rw, 0, 0, 0⟩
/-- SEP_CQ_PROD `RSV`, Table 13-10. -/
def SEP_CQ_PROD_RSV : RField := ⟨196, 32, 17, .ro, 0, 0, 0⟩
/-- SEP_CQ_PROD `PROD`, Table 13-10. -/
def SEP_CQ_PROD_PROD : RField := ⟨197, 0, 17, .ro, 0, 0, 0⟩
/-- SEP_CQ_CONS `CONS`, Table 13-10. -/
def SEP_CQ_CONS_CONS : RField := ⟨198, 0, 17, .rw, 0, 0, 0⟩
/-- SEP_PC_PERF `COUNT`, Table 13-11. -/
def SEP_PC_PERF_COUNT : RField := ⟨199, 0, 64, .ro, 0, 0, 0⟩
/-- SEP_PC_PERF_CTL `TEL_DROP`, Table 13-12. -/
def SEP_PC_PERF_CTL_TEL_DROP : RField := ⟨200, 32, 16, .ro, 0, 0, 0⟩
/-- SEP_PC_PERF_CTL `TPER`, Table 13-12. -/
def SEP_PC_PERF_CTL_TPER : RField := ⟨201, 16, 16, .rw, 1000, 0, 1000⟩
/-- SEP_PC_PERF_CTL `TEL_EN`, Table 13-12. -/
def SEP_PC_PERF_CTL_TEL_EN : RField := ⟨202, 2, 1, .rw, 0, 0, 0⟩
/-- SEP_PC_PERF_CTL `FREEZE`, Table 13-12. -/
def SEP_PC_PERF_CTL_FREEZE : RField := ⟨203, 1, 1, .rw, 0, 0, 0⟩
/-- SEP_PC_PERF_CTL `CLEAR`, Table 13-12. -/
def SEP_PC_PERF_CTL_CLEAR : RField := ⟨204, 0, 1, .wo, 0, 0, 0⟩
/-- VAT_SCRUB_CFG `PERIOD`, Table 14-4. -/
def VAT_SCRUB_CFG_PERIOD : RField := ⟨205, 8, 8, .rw, 24, 0, 24⟩
/-- VAT_SCRUB_CFG `EN`, Table 14-4. -/
def VAT_SCRUB_CFG_EN : RField := ⟨206, 0, 1, .rw, 1, 0, 1⟩
/-- VAT_STAT `TEMP`, Table 14-5. -/
def VAT_STAT_TEMP : RField := ⟨207, 56, 8, .ro, 0, 0, 0⟩
/-- VAT_STAT `REFRESH_2X`, Table 14-5. -/
def VAT_STAT_REFRESH_2X : RField := ⟨208, 8, 1, .ro, 0, 0, 0⟩
/-- VAT_STAT `STATE`, Table 14-5. -/
def VAT_STAT_STATE : RField := ⟨209, 0, 2, .ro, 0, 0, 0⟩
/-- VAT_ECC_CNT `UE`, Table 14-6. -/
def VAT_ECC_CNT_UE : RField := ⟨210, 48, 16, .ro, 0, 0, 0⟩
/-- VAT_ECC_CNT `CE_CTL`, Table 14-6. -/
def VAT_ECC_CNT_CE_CTL : RField := ⟨211, 24, 24, .ro, 0, 0, 0⟩
/-- VAT_ECC_CNT `CE_STACK`, Table 14-6. -/
def VAT_ECC_CNT_CE_STACK : RField := ⟨212, 0, 24, .ro, 0, 0, 0⟩
/-- VAT_SCRUB_STAT `PASSES`, Table 14-7. -/
def VAT_SCRUB_STAT_PASSES : RField := ⟨213, 48, 16, .ro, 0, 0, 0⟩
/-- VAT_SCRUB_STAT `FORCED`, Table 14-7. -/
def VAT_SCRUB_STAT_FORCED : RField := ⟨214, 32, 16, .ro, 0, 0, 0⟩
/-- VAT_SCRUB_STAT `POSITION`, Table 14-7. -/
def VAT_SCRUB_STAT_POSITION : RField := ⟨215, 0, 24, .ro, 0, 0, 0⟩
/-- VAT_PC_KEY `KEY`, Table 14-8. -/
def VAT_PC_KEY_KEY : RField := ⟨216, 0, 64, .wo, 0, 0, 0⟩
/-- VAT_PC_KEY_CTL `COMMIT`, Table 14-9. -/
def VAT_PC_KEY_CTL_COMMIT : RField := ⟨217, 0, 1, .wo, 0, 0, 0⟩
/-- VAT_PC_KEY_STAT `KCV`, Table 14-9. -/
def VAT_PC_KEY_STAT_KCV : RField := ⟨218, 32, 32, .ro, 0, 0, 0⟩
/-- VAT_PC_KEY_STAT `STAGED`, Table 14-9. -/
def VAT_PC_KEY_STAT_STAGED : RField := ⟨219, 8, 8, .ro, 0, 0, 0⟩
/-- VAT_PC_KEY_STAT `REFUSE`, Table 14-9. -/
def VAT_PC_KEY_STAT_REFUSE : RField := ⟨220, 5, 3, .ro, 0, 0, 0⟩
/-- VAT_PC_KEY_STAT `LOADER`, Table 14-9. -/
def VAT_PC_KEY_STAT_LOADER : RField := ⟨221, 0, 5, .ro, 0, 0, 0⟩
/-- GOV_STAT `BUDGET`, Table 15-3. -/
def GOV_STAT_BUDGET : RField := ⟨222, 48, 16, .ro, 0, 0, 0⟩
/-- GOV_STAT `P_MEAS`, Table 15-3. -/
def GOV_STAT_P_MEAS : RField := ⟨223, 32, 16, .ro, 0, 0, 0⟩
/-- GOV_STAT `LIMIT`, Table 15-3. -/
def GOV_STAT_LIMIT : RField := ⟨224, 24, 3, .ro, 0, 0, 0⟩
/-- GOV_STAT `LEVEL`, Table 15-3. -/
def GOV_STAT_LEVEL : RField := ⟨225, 0, 7, .ro, 0, 0, 0⟩
/-- GOV_INPUTS `P_SHARE`, Table 15-4. -/
def GOV_INPUTS_P_SHARE : RField := ⟨226, 48, 16, .ro, 0, 0, 0⟩
/-- GOV_INPUTS `P_ASSIST`, Table 15-4. -/
def GOV_INPUTS_P_ASSIST : RField := ⟨227, 32, 16, .ro, 0, 0, 0⟩
/-- GOV_INPUTS `P_THERMAL`, Table 15-4. -/
def GOV_INPUTS_P_THERMAL : RField := ⟨228, 16, 16, .ro, 4200, 0, 4200⟩
/-- GOV_INPUTS `P_CAP`, Table 15-4. -/
def GOV_INPUTS_P_CAP : RField := ⟨229, 0, 16, .ro, 4200, 0, 4200⟩
/-- GOV_CFG `ASSIST_CAP`, Table 15-5. -/
def GOV_CFG_ASSIST_CAP : RField := ⟨230, 48, 16, .rw, 4200, 0, 4200⟩
/-- GOV_CFG `TKNEE`, Table 15-5. -/
def GOV_CFG_TKNEE : RField := ⟨231, 40, 8, .rw, 95, 0, 95⟩
/-- GOV_CFG `TSLOPE`, Table 15-5. -/
def GOV_CFG_TSLOPE : RField := ⟨232, 32, 8, .rw, 30, 0, 30⟩
/-- GOV_CFG `RG_GAP`, Table 15-5. -/
def GOV_CFG_RG_GAP : RField := ⟨233, 22, 10, .rw, 20, 0, 20⟩
/-- GOV_CFG `UP_STEP`, Table 15-5. -/
def GOV_CFG_UP_STEP : RField := ⟨234, 16, 4, .rw, 4, 0, 4⟩
/-- GOV_CFG `HYST`, Table 15-5. -/
def GOV_CFG_HYST : RField := ⟨235, 8, 8, .rw, 50, 0, 50⟩
/-- GOV_CFG `MARGIN`, Table 15-5. -/
def GOV_CFG_MARGIN : RField := ⟨236, 0, 8, .rw, 10, 0, 10⟩
/-- GOV_EVT `MEAS_FAIL`, Table 15-6. -/
def GOV_EVT_MEAS_FAIL : RField := ⟨237, 4, 1, .w1c, 0, 0, 0⟩
/-- GOV_EVT `IDLE_TRIP`, Table 15-6. -/
def GOV_EVT_IDLE_TRIP : RField := ⟨238, 3, 1, .w1c, 0, 0, 0⟩
/-- GOV_EVT `HARD_TRIP`, Table 15-6. -/
def GOV_EVT_HARD_TRIP : RField := ⟨239, 2, 1, .w1c, 0, 0, 0⟩
/-- GOV_EVT `OVER_BUDGET`, Table 15-6. -/
def GOV_EVT_OVER_BUDGET : RField := ⟨240, 1, 1, .w1c, 0, 0, 0⟩
/-- GOV_EVT `ASSIST_LOST`, Table 15-6. -/
def GOV_EVT_ASSIST_LOST : RField := ⟨241, 0, 1, .w1c, 0, 0, 0⟩
/-- GOV_CNT `ASSIST_LOST`, Table 15-7. -/
def GOV_CNT_ASSIST_LOST : RField := ⟨242, 48, 16, .ro, 0, 0, 0⟩
/-- GOV_CNT `HARD_TRIPS`, Table 15-7. -/
def GOV_CNT_HARD_TRIPS : RField := ⟨243, 32, 16, .ro, 0, 0, 0⟩
/-- GOV_CNT `RESERVE_STOPS`, Table 15-7. -/
def GOV_CNT_RESERVE_STOPS : RField := ⟨244, 16, 16, .ro, 0, 0, 0⟩
/-- GOV_CNT `CAP_EVENTS`, Table 15-7. -/
def GOV_CNT_CAP_EVENTS : RField := ⟨245, 0, 16, .ro, 0, 0, 0⟩
/-- GOV_ASSIST `SOP2S`, Table 15-9. -/
def GOV_ASSIST_SOP2S : RField := ⟨246, 48, 16, .ro, 0, 0, 0⟩
/-- GOV_ASSIST `P_OTHER`, Table 15-9. -/
def GOV_ASSIST_P_OTHER : RField := ⟨247, 32, 16, .ro, 0, 0, 0⟩
/-- GOV_ASSIST `P_IN`, Table 15-9. -/
def GOV_ASSIST_P_IN : RField := ⟨248, 16, 16, .ro, 0, 0, 0⟩
/-- GOV_ASSIST `AGE`, Table 15-9. -/
def GOV_ASSIST_AGE : RField := ⟨249, 0, 12, .ro, 0, 0, 0⟩
/-- HRD_CTL `PERIOD`, Table 16-9. -/
def HRD_CTL_PERIOD : RField := ⟨250, 8, 8, .rw, 20, 0, 20⟩
/-- HRD_CTL `ENUM`, Table 16-9. -/
def HRD_CTL_ENUM : RField := ⟨251, 1, 1, .wo, 0, 0, 0⟩
/-- HRD_CTL `RUN`, Table 16-9. -/
def HRD_CTL_RUN : RField := ⟨252, 0, 1, .rw, 1, 0, 1⟩
/-- HRD_STAT `MISSING`, Table 16-10. -/
def HRD_STAT_MISSING : RField := ⟨253, 20, 12, .ro, 0, 0, 0⟩
/-- HRD_STAT `MON_CHANGE`, Table 16-10. -/
def HRD_STAT_MON_CHANGE : RField := ⟨254, 16, 1, .w1c, 0, 0, 0⟩
/-- HRD_STAT `BREAK_POS`, Table 16-10. -/
def HRD_STAT_BREAK_POS : RField := ⟨255, 12, 4, .ro, 0, 0, 0⟩
/-- HRD_STAT `COUNT`, Table 16-10. -/
def HRD_STAT_COUNT : RField := ⟨256, 8, 4, .ro, 0, 0, 0⟩
/-- HRD_STAT `MODE`, Table 16-10. -/
def HRD_STAT_MODE : RField := ⟨257, 0, 3, .ro, 0, 0, 0⟩
/-- HRD_ROUND `DUR`, Table 16-11. -/
def HRD_ROUND_DUR : RField := ⟨258, 16, 16, .ro, 0, 0, 0⟩
/-- HRD_ROUND `ROUND`, Table 16-11. -/
def HRD_ROUND_ROUND : RField := ⟨259, 0, 16, .ro, 0, 0, 0⟩
/-- HRD_ERR `REENUM`, Table 16-11. -/
def HRD_ERR_REENUM : RField := ⟨260, 24, 8, .ro, 0, 0, 0⟩
/-- HRD_ERR `BREAKS`, Table 16-11. -/
def HRD_ERR_BREAKS : RField := ⟨261, 16, 8, .ro, 0, 0, 0⟩
/-- HRD_ERR `NO_RSP`, Table 16-11. -/
def HRD_ERR_NO_RSP : RField := ⟨262, 8, 8, .ro, 0, 0, 0⟩
/-- HRD_ERR `CRC_ERR`, Table 16-11. -/
def HRD_ERR_CRC_ERR : RField := ⟨263, 0, 8, .ro, 0, 0, 0⟩
/-- HRD_MON_INFO `MAKER`, Table 16-12. -/
def HRD_MON_INFO_MAKER : RField := ⟨264, 16, 16, .ro, 0, 0, 0⟩
/-- HRD_MON_INFO `IFVER`, Table 16-12. -/
def HRD_MON_INFO_IFVER : RField := ⟨265, 8, 8, .ro, 0, 0, 0⟩
/-- HRD_MON_INFO `REACH_A`, Table 16-12. -/
def HRD_MON_INFO_REACH_A : RField := ⟨266, 7, 1, .ro, 0, 0, 0⟩
/-- HRD_MON_INFO `REACH_B`, Table 16-12. -/
def HRD_MON_INFO_REACH_B : RField := ⟨267, 6, 1, .ro, 0, 0, 0⟩
/-- HRD_MON_INFO `MISS`, Table 16-12. -/
def HRD_MON_INFO_MISS : RField := ⟨268, 5, 1, .ro, 0, 0, 0⟩
/-- HRD_MON_INFO `CELLS`, Table 16-12. -/
def HRD_MON_INFO_CELLS : RField := ⟨269, 0, 5, .ro, 0, 0, 0⟩
/-- HRD_MON_UID `UID`, Table 16-12. -/
def HRD_MON_UID_UID : RField := ⟨270, 0, 32, .ro, 0, 0, 0⟩
/-- PKM_CFG `EN`, Table 16-14. -/
def PKM_CFG_EN : RField := ⟨271, 8, 1, .rw, 1, 0, 1⟩
/-- PKM_CFG `GAIN`, Table 16-14. -/
def PKM_CFG_GAIN : RField := ⟨272, 4, 2, .rw, 0, 0, 0⟩
/-- PKM_CFG `OSR`, Table 16-14. -/
def PKM_CFG_OSR : RField := ⟨273, 0, 3, .rw, 2, 0, 2⟩
/-- PKM_SAMP `WORD`, Table 16-15. -/
def PKM_SAMP_WORD : RField := ⟨274, 0, 32, .ro, 3221225472, 0, 3221225472⟩
/-- PKM_SYNCS `WORD`, Table 16-15. -/
def PKM_SYNCS_WORD : RField := ⟨275, 0, 32, .ro, 3221225472, 0, 3221225472⟩
/-- PKM_ISO_CFG `ISO_EN`, Table 16-15. -/
def PKM_ISO_CFG_ISO_EN : RField := ⟨276, 16, 1, .rw, 1, 0, 1⟩
/-- PKM_ISO_CFG `DWELL`, Table 16-15. -/
def PKM_ISO_CFG_DWELL : RField := ⟨277, 0, 16, .rw, 1000, 0, 1000⟩
/-- PKM_ISO_STAT `STATE`, Table 16-15. -/
def PKM_ISO_STAT_STATE : RField := ⟨278, 0, 2, .ro, 0, 0, 0⟩
/-- PKM_ISO_LP `R_LP`, Table 16-15. -/
def PKM_ISO_LP_R_LP : RField := ⟨279, 0, 32, .ro, 4294967295, 0, 4294967295⟩
/-- PKM_ISO_LN `R_LN`, Table 16-15. -/
def PKM_ISO_LN_R_LN : RField := ⟨280, 0, 32, .ro, 4294967295, 0, 4294967295⟩
/-- PKM_CC_LO `CC`, Table 16-15. -/
def PKM_CC_LO_CC : RField := ⟨281, 0, 32, .rs, 0, 0, 0⟩
/-- PKM_CC_HI `CC`, Table 16-15. -/
def PKM_CC_HI_CC : RField := ⟨282, 0, 32, .ro, 0, 0, 0⟩
/-- PKM_CC_STAT `HALL_SUBST`, Table 16-15. -/
def PKM_CC_STAT_HALL_SUBST : RField := ⟨283, 16, 16, .ro, 0, 0, 0⟩
/-- PKM_CC_STAT `BRIDGED`, Table 16-15. -/
def PKM_CC_STAT_BRIDGED : RField := ⟨284, 0, 16, .ro, 0, 0, 0⟩
/-- PKM_CC_EVT `CC_GAP`, Table 16-15. -/
def PKM_CC_EVT_CC_GAP : RField := ⟨285, 1, 1, .w1c, 0, 0, 0⟩
/-- PKM_CC_EVT `CC_SAT`, Table 16-15. -/
def PKM_CC_EVT_CC_SAT : RField := ⟨286, 0, 1, .w1c, 0, 0, 0⟩
/-- PKM_HALL_SCALE `SCALE`, Table 16-15. -/
def PKM_HALL_SCALE_SCALE : RField := ⟨287, 0, 16, .rw, 1667, 0, 1667⟩
/-- EST_STAT `ROUND`, Table 17-6. -/
def EST_STAT_ROUND : RField := ⟨288, 16, 16, .ro, 0, 0, 0⟩
/-- EST_STAT `REST`, Table 17-6. -/
def EST_STAT_REST : RField := ⟨289, 11, 1, .ro, 0, 0, 0⟩
/-- EST_STAT `INIT_ALL`, Table 17-6. -/
def EST_STAT_INIT_ALL : RField := ⟨290, 10, 1, .ro, 0, 0, 0⟩
/-- EST_STAT `LIM_LOADED`, Table 17-6. -/
def EST_STAT_LIM_LOADED : RField := ⟨291, 9, 1, .ro, 0, 0, 0⟩
/-- EST_STAT `EST_LOADED`, Table 17-6: shows `AON_SVC_STAT`.`EST_LOADED`. -/
def EST_STAT_EST_LOADED : RField := ⟨77, 8, 1, .ro, 0, 0, 0⟩
/-- EST_STAT `NCELLS`, Table 17-6. -/
def EST_STAT_NCELLS : RField := ⟨293, 0, 8, .ro, 0, 0, 0⟩
/-- EST_MODEL_ID `MODEL_ID`, Table 17-7. -/
def EST_MODEL_ID_MODEL_ID : RField := ⟨294, 0, 32, .ro, 0, 0, 0⟩
/-- EST_LIMIT_ID `LIMIT_ID`, Table 17-7. -/
def EST_LIMIT_ID_LIMIT_ID : RField := ⟨295, 0, 32, .ro, 0, 0, 0⟩
/-- EST_LOAD_STAT `LIM_REFUSE`, Table 17-7. -/
def EST_LOAD_STAT_LIM_REFUSE : RField := ⟨296, 8, 8, .ro, 0, 0, 0⟩
/-- EST_LOAD_STAT `MOD_REFUSE`, Table 17-7. -/
def EST_LOAD_STAT_MOD_REFUSE : RField := ⟨297, 0, 8, .ro, 0, 0, 0⟩
/-- EST_SOC_MINMAX `SOC_MAX`, Table 17-7. -/
def EST_SOC_MINMAX_SOC_MAX : RField := ⟨298, 16, 16, .ro, 0, 0, 0⟩
/-- EST_SOC_MINMAX `SOC_MIN`, Table 17-7. -/
def EST_SOC_MINMAX_SOC_MIN : RField := ⟨299, 0, 16, .ro, 0, 0, 0⟩
/-- EST_SOC_MEAN `MAX_CELL`, Table 17-7. -/
def EST_SOC_MEAN_MAX_CELL : RField := ⟨300, 24, 8, .ro, 0, 0, 0⟩
/-- EST_SOC_MEAN `MIN_CELL`, Table 17-7. -/
def EST_SOC_MEAN_MIN_CELL : RField := ⟨301, 16, 8, .ro, 0, 0, 0⟩
/-- EST_SOC_MEAN `SOC_MEAN`, Table 17-7. -/
def EST_SOC_MEAN_SOC_MEAN : RField := ⟨302, 0, 16, .ro, 0, 0, 0⟩
/-- EST_SOH `SOH_R_MAX`, Table 17-7. -/
def EST_SOH_SOH_R_MAX : RField := ⟨303, 16, 16, .ro, 16384, 0, 16384⟩
/-- EST_SOH `SOH_C_MIN`, Table 17-7. -/
def EST_SOH_SOH_C_MIN : RField := ⟨304, 0, 16, .ro, 16384, 0, 16384⟩
/-- EST_SOP `P`, Table 17-7. -/
def EST_SOP_P : RField := ⟨305, 0, 32, .ro, 0, 0, 0⟩
/-- EST_SOPI `I`, Table 17-7. -/
def EST_SOPI_I : RField := ⟨306, 0, 16, .ro, 0, 0, 0⟩
/-- EST_ALLOW `I_CHG_ALLOW`, Table 17-7. -/
def EST_ALLOW_I_CHG_ALLOW : RField := ⟨307, 16, 16, .ro, 0, 0, 0⟩
/-- EST_ALLOW `I_DIS_ALLOW`, Table 17-7. -/
def EST_ALLOW_I_DIS_ALLOW : RField := ⟨308, 0, 16, .ro, 0, 0, 0⟩
/-- EST_CTL `SOH_RESET`, Table 17-8. -/
def EST_CTL_SOH_RESET : RField := ⟨309, 1, 1, .wo, 0, 0, 0⟩
/-- EST_CTL `SOC_REINIT`, Table 17-8. -/
def EST_CTL_SOC_REINIT : RField := ⟨310, 0, 1, .wo, 0, 0, 0⟩
/-- EST_COND_ACT `ACT`, Table 17-8. -/
def EST_COND_ACT_ACT : RField := ⟨311, 0, 21, .ro, 0, 0, 0⟩
/-- EST_COND_CONF `CONF`, Table 17-8. -/
def EST_COND_CONF_CONF : RField := ⟨312, 0, 21, .ro, 0, 0, 0⟩
/-- EST_COND_EVT `EVT`, Table 17-8. -/
def EST_COND_EVT_EVT : RField := ⟨313, 0, 21, .w1c, 0, 0, 0⟩
/-- EST_DISC `HARD_LATCH`, Table 17-8. -/
def EST_DISC_HARD_LATCH : RField := ⟨314, 16, 1, .ro, 0, 0, 0⟩
/-- EST_DISC `CAUSE`, Table 17-8. -/
def EST_DISC_CAUSE : RField := ⟨315, 8, 8, .ro, 0, 0, 0⟩
/-- EST_DISC `STATE`, Table 17-8. -/
def EST_DISC_STATE : RField := ⟨316, 0, 3, .ro, 0, 0, 0⟩
/-- EST_CNT `SOFT_DISC`, Table 17-8. -/
def EST_CNT_SOFT_DISC : RField := ⟨317, 16, 16, .ro, 0, 0, 0⟩
/-- EST_CNT `HARD_DISC`, Table 17-8. -/
def EST_CNT_HARD_DISC : RField := ⟨318, 8, 8, .ro, 0, 0, 0⟩
/-- EST_CNT `BRK_FORCED`, Table 17-8. -/
def EST_CNT_BRK_FORCED : RField := ⟨319, 0, 8, .ro, 0, 0, 0⟩
/-- EST_CELL `SOH_R8`, Table 17-9. -/
def EST_CELL_SOH_R8 : RField := ⟨320, 24, 8, .ro, 0, 0, 0⟩
/-- EST_CELL `SOH_C8`, Table 17-9. -/
def EST_CELL_SOH_C8 : RField := ⟨321, 16, 8, .ro, 0, 0, 0⟩
/-- EST_CELL `SOC`, Table 17-9. -/
def EST_CELL_SOC : RField := ⟨322, 0, 16, .ro, 0, 0, 0⟩
/-- CTR_STAT `COOL`, Table 18-6. -/
def CTR_STAT_COOL : RField := ⟨323, 18, 1, .ro, 0, 0, 0⟩
/-- CTR_STAT `PC_LOCK`, Table 18-6. -/
def CTR_STAT_PC_LOCK : RField := ⟨324, 17, 1, .ro, 0, 0, 0⟩
/-- CTR_STAT `WELD_LATCH`, Table 18-6. -/
def CTR_STAT_WELD_LATCH : RField := ⟨325, 16, 1, .ro, 0, 0, 0⟩
/-- CTR_STAT `AUX`, Table 18-6. -/
def CTR_STAT_AUX : RField := ⟨326, 12, 4, .ro, 0, 0, 0⟩
/-- CTR_STAT `COIL`, Table 18-6. -/
def CTR_STAT_COIL : RField := ⟨327, 8, 4, .ro, 0, 0, 0⟩
/-- CTR_STAT `SEQ`, Table 18-6. -/
def CTR_STAT_SEQ : RField := ⟨328, 0, 4, .ro, 0, 0, 0⟩
/-- CTR_CFG `PC_COOL`, Table 18-7. -/
def CTR_CFG_PC_COOL : RField := ⟨329, 24, 8, .rw, 60, 0, 60⟩
/-- CTR_CFG `PC_IMAX`, Table 18-7. -/
def CTR_CFG_PC_IMAX : RField := ⟨330, 17, 7, .rw, 40, 0, 40⟩
/-- CTR_CFG `X_ISO`, Table 18-7. -/
def CTR_CFG_X_ISO : RField := ⟨331, 16, 1, .rw, 1, 0, 1⟩
/-- CTR_CFG `PC_TIMEOUT`, Table 18-7. -/
def CTR_CFG_PC_TIMEOUT : RField := ⟨332, 0, 12, .rw, 500, 0, 500⟩
/-- CTR_SEQ_RES `DUR`, Table 18-8. -/
def CTR_SEQ_RES_DUR : RField := ⟨333, 16, 16, .ro, 0, 0, 0⟩
/-- CTR_SEQ_RES `WELD_SKIP`, Table 18-8. -/
def CTR_SEQ_RES_WELD_SKIP : RField := ⟨334, 8, 1, .ro, 0, 0, 0⟩
/-- CTR_SEQ_RES `RESULT`, Table 18-8. -/
def CTR_SEQ_RES_RESULT : RField := ⟨335, 0, 8, .ro, 0, 0, 0⟩
/-- CTR_EVT `DROPOUT`, Table 18-9. -/
def CTR_EVT_DROPOUT : RField := ⟨336, 13, 1, .w1c, 0, 0, 0⟩
/-- CTR_EVT `DOUBLE_WELD`, Table 18-9. -/
def CTR_EVT_DOUBLE_WELD : RField := ⟨337, 12, 1, .w1c, 0, 0, 0⟩
/-- CTR_EVT `WELD`, Table 18-9. -/
def CTR_EVT_WELD : RField := ⟨338, 8, 4, .w1c, 0, 0, 0⟩
/-- CTR_EVT `AUX_MIS`, Table 18-9. -/
def CTR_EVT_AUX_MIS : RField := ⟨339, 4, 4, .w1c, 0, 0, 0⟩
/-- CTR_EVT `COIL_SHORT`, Table 18-9. -/
def CTR_EVT_COIL_SHORT : RField := ⟨340, 3, 1, .w1c, 0, 0, 0⟩
/-- CTR_EVT `COIL_OPEN`, Table 18-9. -/
def CTR_EVT_COIL_OPEN : RField := ⟨341, 2, 1, .w1c, 0, 0, 0⟩
/-- CTR_EVT `PC_FAIL`, Table 18-9. -/
def CTR_EVT_PC_FAIL : RField := ⟨342, 1, 1, .w1c, 0, 0, 0⟩
/-- CTR_EVT `EMERG`, Table 18-9. -/
def CTR_EVT_EMERG : RField := ⟨343, 0, 1, .w1c, 0, 0, 0⟩
/-- CTR_LAST_OPEN `I_BRK`, Table 18-10. -/
def CTR_LAST_OPEN_I_BRK : RField := ⟨344, 16, 16, .ro, 0, 0, 0⟩
/-- CTR_LAST_OPEN `MASK`, Table 18-10. -/
def CTR_LAST_OPEN_MASK : RField := ⟨345, 12, 4, .ro, 0, 0, 0⟩
/-- CTR_LAST_OPEN `EMERG`, Table 18-10. -/
def CTR_LAST_OPEN_EMERG : RField := ⟨346, 8, 1, .ro, 0, 0, 0⟩
/-- CTR_LAST_OPEN `CAUSE`, Table 18-10. -/
def CTR_LAST_OPEN_CAUSE : RField := ⟨347, 0, 8, .ro, 0, 0, 0⟩
/-- CTR_CLOSE_CNT `CLOSES`, Table 18-11. -/
def CTR_CLOSE_CNT_CLOSES : RField := ⟨348, 0, 32, .ro, 0, 0, 0⟩
/-- CTR_EMERG_CNT `EMERG`, Table 18-11. -/
def CTR_EMERG_CNT_EMERG : RField := ⟨349, 0, 16, .ro, 0, 0, 0⟩
/-- LSW_STAT `LATCHED`, Table 19-4. -/
def LSW_STAT_LATCHED : RField := ⟨350, 16, 16, .ro, 0, 0, 0⟩
/-- LSW_STAT `ON`, Table 19-4. -/
def LSW_STAT_ON : RField := ⟨351, 0, 16, .ro, 0, 0, 0⟩
/-- LSW_EVT `TH_EVT`, Table 19-4. -/
def LSW_EVT_TH_EVT : RField := ⟨352, 16, 16, .w1c, 0, 0, 0⟩
/-- LSW_EVT `OC_EVT`, Table 19-4. -/
def LSW_EVT_OC_EVT : RField := ⟨353, 0, 16, .w1c, 0, 0, 0⟩
/-- LSW_OL `OL_EN`, Table 19-4. -/
def LSW_OL_OL_EN : RField := ⟨354, 16, 16, .rw, 65535, 0, 65535⟩
/-- LSW_OL `OPEN`, Table 19-4. -/
def LSW_OL_OPEN : RField := ⟨355, 0, 16, .ro, 0, 0, 0⟩
/-- LSW_SUPPLY `I_TOTAL`, Table 19-4. -/
def LSW_SUPPLY_I_TOTAL : RField := ⟨356, 16, 16, .ro, 0, 0, 0⟩
/-- LSW_SUPPLY `VFLD`, Table 19-4. -/
def LSW_SUPPLY_VFLD : RField := ⟨357, 0, 16, .ro, 0, 0, 0⟩
/-- LSW_SUP_STAT `VFLD_UV`, Table 19-4. -/
def LSW_SUP_STAT_VFLD_UV : RField := ⟨358, 0, 1, .ro, 0, 0, 0⟩
/-- LSW_CFG `BLANK`, Table 19-4. -/
def LSW_CFG_BLANK : RField := ⟨359, 24, 7, .rw, 10, 0, 10⟩
/-- LSW_CFG `ILIM`, Table 19-4. -/
def LSW_CFG_ILIM : RField := ⟨360, 0, 7, .rw, 40, 8, 120⟩
/-- LSW_I `I`, Table 19-4. -/
def LSW_I_I : RField := ⟨361, 0, 16, .ro, 0, 0, 0⟩
/-- LOOP_CFG `FB_EN`, Table 19-5. -/
def LOOP_CFG_FB_EN : RField := ⟨362, 31, 1, .rw, 0, 0, 0⟩
/-- LOOP_CFG `FB_I`, Table 19-5. -/
def LOOP_CFG_FB_I : RField := ⟨363, 0, 16, .rw, 3600, 0, 3600⟩
/-- LOOP_CMD `CMD`, Table 19-5. -/
def LOOP_CMD_CMD : RField := ⟨364, 0, 16, .ro, 0, 0, 0⟩
/-- LOOP_DEL `COMP_I`, Table 19-5. -/
def LOOP_DEL_COMP_I : RField := ⟨365, 16, 16, .ro, 0, 0, 0⟩
/-- LOOP_DEL `DELIV`, Table 19-5. -/
def LOOP_DEL_DELIV : RField := ⟨366, 0, 16, .ro, 0, 0, 0⟩
/-- LOOP_STAT `FALLBACK`, Table 19-5. -/
def LOOP_STAT_FALLBACK : RField := ⟨367, 4, 4, .ro, 0, 0, 0⟩
/-- LOOP_STAT `COMPLY`, Table 19-5. -/
def LOOP_STAT_COMPLY : RField := ⟨368, 0, 4, .ro, 0, 0, 0⟩
/-- LOOP_EVT `LOOP_COMPLIANCE`, Table 19-5. -/
def LOOP_EVT_LOOP_COMPLIANCE : RField := ⟨369, 0, 4, .w1c, 0, 0, 0⟩
/-- LOOP_IN `STATUS`, Table 19-5. -/
def LOOP_IN_STATUS : RField := ⟨370, 30, 2, .ro, 3, 0, 3⟩
/-- LOOP_IN `OPEN`, Table 19-5. -/
def LOOP_IN_OPEN : RField := ⟨371, 18, 1, .ro, 0, 0, 0⟩
/-- LOOP_IN `HIGH`, Table 19-5. -/
def LOOP_IN_HIGH : RField := ⟨372, 17, 1, .ro, 0, 0, 0⟩
/-- LOOP_IN `LOW`, Table 19-5. -/
def LOOP_IN_LOW : RField := ⟨373, 16, 1, .ro, 0, 0, 0⟩
/-- LOOP_IN `I`, Table 19-5. -/
def LOOP_IN_I : RField := ⟨374, 0, 16, .ro, 0, 0, 0⟩
/-- LIS_CTL `LIS_OC`, Table 19-5. -/
def LIS_CTL_LIS_OC : RField := ⟨375, 4, 4, .ro, 0, 0, 0⟩
/-- LIS_CTL `LIS_EN`, Table 19-5. -/
def LIS_CTL_LIS_EN : RField := ⟨376, 0, 4, .rw, 15, 0, 15⟩
/-- TCH_CFG `FN`, Table 19-6. -/
def TCH_CFG_FN : RField := ⟨377, 28, 4, .rw, 1, 0, 1⟩
/-- TCH_CFG `TGT`, Table 19-6. -/
def TCH_CFG_TGT : RField := ⟨378, 24, 4, .rw, 0, 0, 0⟩
/-- TCH_CFG `DEB`, Table 19-6. -/
def TCH_CFG_DEB : RField := ⟨379, 16, 4, .rw, 4, 0, 4⟩
/-- TCH_CFG `TH`, Table 19-6. -/
def TCH_CFG_TH : RField := ⟨380, 0, 16, .rw, 100, 0, 100⟩
/-- TCH_RAW `BASE`, Table 19-6. -/
def TCH_RAW_BASE : RField := ⟨381, 16, 16, .ro, 0, 0, 0⟩
/-- TCH_RAW `RAW`, Table 19-6. -/
def TCH_RAW_RAW : RField := ⟨382, 0, 16, .ro, 0, 0, 0⟩
/-- TCH_STAT `STUCK`, Table 19-6. -/
def TCH_STAT_STUCK : RField := ⟨383, 4, 4, .ro, 0, 0, 0⟩
/-- TCH_STAT `ACTIVE`, Table 19-6. -/
def TCH_STAT_ACTIVE : RField := ⟨384, 0, 4, .ro, 0, 0, 0⟩
/-- RND_STAT `CFG_BAD`, Table 20-8. -/
def RND_STAT_CFG_BAD : RField := ⟨385, 4, 1, .ro, 0, 0, 0⟩
/-- RND_STAT `PENDING`, Table 20-8. -/
def RND_STAT_PENDING : RField := ⟨386, 3, 1, .ro, 0, 0, 0⟩
/-- RND_STAT `STATE`, Table 20-8. -/
def RND_STAT_STATE : RField := ⟨387, 0, 2, .ro, 0, 0, 0⟩
/-- RND_SI_STAT `DEMAND`, Table 20-8. -/
def RND_SI_STAT_DEMAND : RField := ⟨388, 16, 8, .ro, 0, 0, 0⟩
/-- RND_SI_STAT `CB`, Table 20-8. -/
def RND_SI_STAT_CB : RField := ⟨389, 8, 8, .ro, 0, 0, 0⟩
/-- RND_SI_STAT `CA`, Table 20-8. -/
def RND_SI_STAT_CA : RField := ⟨390, 0, 8, .ro, 0, 0, 0⟩
/-- RND_SI_FLT `DISCREP`, Table 20-8. -/
def RND_SI_FLT_DISCREP : RField := ⟨391, 16, 8, .ro, 0, 0, 0⟩
/-- RND_SI_FLT `CROSS`, Table 20-8. -/
def RND_SI_FLT_CROSS : RField := ⟨392, 8, 8, .ro, 0, 0, 0⟩
/-- RND_SI_FLT `SHORT`, Table 20-8. -/
def RND_SI_FLT_SHORT : RField := ⟨393, 0, 8, .ro, 0, 0, 0⟩
/-- RND_STO_STAT `STO_FLT`, Table 20-8. -/
def RND_STO_STAT_STO_FLT : RField := ⟨394, 12, 2, .ro, 0, 0, 0⟩
/-- RND_STO_STAT `MODE`, Table 20-8. -/
def RND_STO_STAT_MODE : RField := ⟨395, 10, 2, .ro, 0, 0, 0⟩
/-- RND_STO_STAT `PERM`, Table 20-8. -/
def RND_STO_STAT_PERM : RField := ⟨396, 8, 2, .ro, 0, 0, 0⟩
/-- RND_STO_STAT `ON`, Table 20-8. -/
def RND_STO_STAT_ON : RField := ⟨397, 6, 2, .ro, 0, 0, 0⟩
/-- RND_STO_STAT `RB_L`, Table 20-8. -/
def RND_STO_STAT_RB_L : RField := ⟨398, 4, 2, .ro, 0, 0, 0⟩
/-- RND_STO_STAT `RB_H`, Table 20-8. -/
def RND_STO_STAT_RB_H : RField := ⟨399, 2, 2, .ro, 3, 0, 3⟩
/-- RND_ACT `LSW`, Table 20-8. -/
def RND_ACT_LSW : RField := ⟨400, 16, 16, .ro, 0, 0, 0⟩
/-- RND_ACT `FUNC`, Table 20-8. -/
def RND_ACT_FUNC : RField := ⟨401, 0, 7, .ro, 0, 0, 0⟩
/-- RND_CFG_ID `CFG_ID`, Table 20-8. -/
def RND_CFG_ID_CFG_ID : RField := ⟨402, 0, 32, .ro, 0, 0, 0⟩
/-- RND_CFG_CRC `CRC`, Table 20-8. -/
def RND_CFG_CRC_CRC : RField := ⟨403, 0, 32, .ro, 1421741555, 0, 1421741555⟩
/-- RND_CFG_STAT `LOAD_REFUSE`, Table 20-8. -/
def RND_CFG_STAT_LOAD_REFUSE : RField := ⟨404, 0, 3, .ro, 0, 0, 0⟩
/-- RND_CNT `DEMANDS`, Table 20-8. -/
def RND_CNT_DEMANDS : RField := ⟨405, 16, 16, .ro, 0, 0, 0⟩
/-- RND_CNT `RESETS`, Table 20-8. -/
def RND_CNT_RESETS : RField := ⟨406, 8, 8, .ro, 0, 0, 0⟩
/-- RND_CNT `RST_IGN`, Table 20-8. -/
def RND_CNT_RST_IGN : RField := ⟨407, 0, 8, .ro, 0, 0, 0⟩
/-- AON_STO_REQ `RST`, Table 20-8. -/
def AON_STO_REQ_RST : RField := ⟨408, 2, 2, .wo, 0, 0, 0⟩
/-- AON_STO_REQ `ON`, Table 20-8. -/
def AON_STO_REQ_ON : RField := ⟨409, 0, 2, .rw, 0, 0, 0⟩
/-- AON_PAIR_SRC `HOLDUP`, Table 21-16. -/
def AON_PAIR_SRC_HOLDUP : RField := ⟨410, 31, 1, .ro, 0, 0, 0⟩
/-- AON_PAIR_SRC `CORE`, Table 21-16. -/
def AON_PAIR_SRC_CORE : RField := ⟨411, 16, 1, .ro, 0, 0, 0⟩
/-- AON_PAIR_SRC `SUP`, Table 21-16. -/
def AON_PAIR_SRC_SUP : RField := ⟨412, 1, 12, .ro, 0, 0, 0⟩
/-- SEP_FLT_SUM `CORE`, Table 21-16. -/
def SEP_FLT_SUM_CORE : RField := ⟨413, 0, 8, .ro, 0, 0, 0⟩
/-- TIM_OPTIME_LO `OPTIME`, Table 22-4. -/
def TIM_OPTIME_LO_OPTIME : RField := ⟨414, 0, 32, .rs, 0, 0, 0⟩
/-- TIM_OPTIME_HI `SLOW`, Table 22-4. -/
def TIM_OPTIME_HI_SLOW : RField := ⟨415, 8, 1, .ro, 0, 0, 0⟩
/-- TIM_OPTIME_HI `OPTIME`, Table 22-4. -/
def TIM_OPTIME_HI_OPTIME : RField := ⟨416, 0, 8, .ro, 0, 0, 0⟩
/-- TIM_PCYC `SAT`, Table 22-4. -/
def TIM_PCYC_SAT : RField := ⟨417, 20, 1, .ro, 0, 0, 0⟩
/-- TIM_PCYC `PCYC`, Table 22-4. -/
def TIM_PCYC_PCYC : RField := ⟨418, 0, 20, .ro, 0, 0, 0⟩
/-- TIM_BOOT `LAST_DOWN`, Table 22-4. -/
def TIM_BOOT_LAST_DOWN : RField := ⟨419, 0, 2, .ro, 0, 0, 0⟩
/-- TIM_GC_CFG `SRC`, Table 22-5. -/
def TIM_GC_CFG_SRC : RField := ⟨420, 0, 3, .rw, 0, 0, 0⟩
/-- TIM_GC_EVT `OVF`, Table 22-5. -/
def TIM_GC_EVT_OVF : RField := ⟨421, 0, 4, .w1c, 0, 0, 0⟩
/-- TIM_GC_LDLO `LOAD`, Table 22-5. -/
def TIM_GC_LDLO_LOAD : RField := ⟨422, 0, 32, .wo, 0, 0, 0⟩
/-- TIM_GC_LDHI `LOAD`, Table 22-5. -/
def TIM_GC_LDHI_LOAD : RField := ⟨423, 0, 16, .wo, 0, 0, 0⟩
/-- REC_STAT `QUEUE`, Table 22-6. -/
def REC_STAT_QUEUE : RField := ⟨424, 8, 6, .ro, 0, 0, 0⟩
/-- REC_STAT `LAST_GASP`, Table 22-6. -/
def REC_STAT_LAST_GASP : RField := ⟨425, 3, 1, .ro, 0, 0, 0⟩
/-- REC_STAT `ERASE`, Table 22-6. -/
def REC_STAT_ERASE : RField := ⟨426, 2, 1, .ro, 0, 0, 0⟩
/-- REC_STAT `PROG`, Table 22-6. -/
def REC_STAT_PROG : RField := ⟨427, 1, 1, .ro, 0, 0, 0⟩
/-- REC_STAT `READY`, Table 22-6: shows `AON_SVC_STAT`.`REC_READY`. -/
def REC_STAT_READY : RField := ⟨80, 0, 1, .ro, 0, 0, 0⟩
/-- REC_HEAD `HEAD`, Table 22-6. -/
def REC_HEAD_HEAD : RField := ⟨429, 0, 32, .ro, 0, 0, 0⟩
/-- REC_OLDEST `OLDEST`, Table 22-6. -/
def REC_OLDEST_OLDEST : RField := ⟨430, 0, 32, .ro, 0, 0, 0⟩
/-- REC_CNT `DROPPED`, Table 22-6. -/
def REC_CNT_DROPPED : RField := ⟨431, 16, 16, .ro, 0, 0, 0⟩
/-- REC_CNT `TORN`, Table 22-6. -/
def REC_CNT_TORN : RField := ⟨432, 8, 8, .ro, 0, 0, 0⟩
/-- REC_CNT `SKIPPED`, Table 22-6. -/
def REC_CNT_SKIPPED : RField := ⟨433, 0, 8, .ro, 0, 0, 0⟩
/-- REC_ERASES `ERASES`, Table 22-6. -/
def REC_ERASES_ERASES : RField := ⟨434, 0, 32, .ro, 0, 0, 0⟩
/-- MGT_STAT `XS_FAIL`, Table 23-9: shows `CLK_MON_EVT`.`XS_FAIL`. -/
def MGT_STAT_XS_FAIL : RField := ⟨70, 3, 1, .ro, 0, 0, 0⟩
/-- MGT_STAT `PLCA`, Table 23-9. -/
def MGT_STAT_PLCA : RField := ⟨436, 1, 2, .ro, 0, 0, 0⟩
/-- MGT_STAT `ACTIVE`, Table 23-9. -/
def MGT_STAT_ACTIVE : RField := ⟨437, 0, 1, .ro, 0, 0, 0⟩
/-- MGT_PLCA `BURST_TMR`, Table 23-9. -/
def MGT_PLCA_BURST_TMR : RField := ⟨438, 24, 8, .rw, 128, 0, 128⟩
/-- MGT_PLCA `MAX_BC`, Table 23-9. -/
def MGT_PLCA_MAX_BC : RField := ⟨439, 16, 3, .rw, 0, 0, 0⟩
/-- MGT_PLCA `PLCA_EN`, Table 23-9. -/
def MGT_PLCA_PLCA_EN : RField := ⟨440, 8, 1, .rw, 1, 0, 1⟩
/-- MGT_PLCA `TO_TMR`, Table 23-9. -/
def MGT_PLCA_TO_TMR : RField := ⟨441, 0, 8, .rw, 32, 0, 32⟩
/-- MGT_CNT `AUTH_FAIL`, Table 23-9. -/
def MGT_CNT_AUTH_FAIL : RField := ⟨442, 24, 8, .ro, 0, 0, 0⟩
/-- MGT_CNT `QUEUE_DROP`, Table 23-9. -/
def MGT_CNT_QUEUE_DROP : RField := ⟨443, 16, 8, .ro, 0, 0, 0⟩
/-- MGT_CNT `REPLAY`, Table 23-9. -/
def MGT_CNT_REPLAY : RField := ⟨444, 8, 8, .ro, 0, 0, 0⟩
/-- MGT_CNT `RETRY`, Table 23-9. -/
def MGT_CNT_RETRY : RField := ⟨445, 0, 8, .ro, 0, 0, 0⟩
/-- MGT_CNT2 `RX`, Table 23-9. -/
def MGT_CNT2_RX : RField := ⟨446, 16, 16, .ro, 0, 0, 0⟩
/-- MGT_CNT2 `EVT_LOST`, Table 23-9. -/
def MGT_CNT2_EVT_LOST : RField := ⟨447, 0, 16, .ro, 0, 0, 0⟩
/-- MGT_HELLO `DONE`, Table 23-9. -/
def MGT_HELLO_DONE : RField := ⟨448, 0, 16, .ro, 0, 0, 0⟩
/-- MGT_SESS `SESS`, Table 23-9. -/
def MGT_SESS_SESS : RField := ⟨449, 0, 32, .ro, 0, 0, 0⟩
/-- MGT_KEY_STAT `LOADED`, Table 23-9. -/
def MGT_KEY_STAT_LOADED : RField := ⟨450, 0, 16, .ro, 0, 0, 0⟩
/-- MGT_FEAT `FEAT`, Table 23-9. -/
def MGT_FEAT_FEAT : RField := ⟨451, 0, 32, .ro, 255, 1, 0⟩
/-- MGT_KEY_LOAD `KEY`, Table 23-9. -/
def MGT_KEY_LOAD_KEY : RField := ⟨452, 0, 32, .wo, 0, 0, 0⟩
/-- MGT_KEY_CTL `SLOT`, Table 23-9. -/
def MGT_KEY_CTL_SLOT : RField := ⟨453, 16, 4, .wo, 0, 0, 0⟩
/-- MGT_KEY_CTL `ERASE`, Table 23-9. -/
def MGT_KEY_CTL_ERASE : RField := ⟨454, 1, 1, .wo, 0, 0, 0⟩
/-- MGT_KEY_CTL `COMMIT`, Table 23-9. -/
def MGT_KEY_CTL_COMMIT : RField := ⟨455, 0, 1, .wo, 0, 0, 0⟩
/-- LNK_TXMAP0 `MAP`, Table 6-18. -/
def LNK_TXMAP0_MAP : RField := ⟨456, 0, 40, .ro, 247132686368, 0, 247132686368⟩
/-- LNK_TXMAP1 `MAP`, Table 6-18. -/
def LNK_TXMAP1_MAP : RField := ⟨457, 0, 40, .ro, 530877622568, 0, 530877622568⟩
/-- LNK_RXMAP0 `MAP`, Table 6-18. -/
def LNK_RXMAP0_MAP : RField := ⟨458, 0, 40, .ro, 247132686368, 0, 247132686368⟩
/-- LNK_RXMAP1 `MAP`, Table 6-18. -/
def LNK_RXMAP1_MAP : RField := ⟨459, 0, 40, .ro, 530877622568, 0, 530877622568⟩
/-- HRD_BAL `MASK`, Table 16-12. -/
def HRD_BAL_MASK : RField := ⟨460, 0, 20, .rw, 0, 0, 0⟩
/-- HRD_MSTAT `ROUND`, Table 16-12. -/
def HRD_MSTAT_ROUND : RField := ⟨461, 16, 16, .ro, 0, 0, 0⟩
/-- HRD_MSTAT `MSTAT`, Table 16-12. -/
def HRD_MSTAT_MSTAT : RField := ⟨462, 0, 16, .ro, 0, 0, 0⟩
/-- HRD_BAL_CFG `BAL_TMAX`, Table 16-13. -/
def HRD_BAL_CFG_BAL_TMAX : RField := ⟨463, 16, 8, .rw, 55, 0, 55⟩
/-- HRD_BAL_CFG `BAL_VMIN`, Table 16-13. -/
def HRD_BAL_CFG_BAL_VMIN : RField := ⟨464, 0, 16, .rw, 3400, 0, 3400⟩
/-- HRD_TEMP `ROUND`, Table 16-13. -/
def HRD_TEMP_ROUND : RField := ⟨465, 16, 16, .ro, 0, 0, 0⟩
/-- HRD_TEMP `WORD`, Table 16-13. -/
def HRD_TEMP_WORD : RField := ⟨466, 0, 16, .ro, 49152, 0, 49152⟩
/-- HRD_CELL `ROUND`, Table 16-13. -/
def HRD_CELL_ROUND : RField := ⟨467, 16, 16, .ro, 0, 0, 0⟩
/-- HRD_CELL `WORD`, Table 16-13. -/
def HRD_CELL_WORD : RField := ⟨468, 0, 16, .ro, 49152, 0, 49152⟩
/-- CTR_COIL_I `I0`, Table 18-11. -/
def CTR_COIL_I_I0 : RField := ⟨469, 0, 8, .ro, 0, 0, 0⟩
/-- CTR_COIL_I `I1`, Table 18-11. -/
def CTR_COIL_I_I1 : RField := ⟨470, 8, 8, .ro, 0, 0, 0⟩
/-- CTR_COIL_I `I2`, Table 18-11. -/
def CTR_COIL_I_I2 : RField := ⟨471, 16, 8, .ro, 0, 0, 0⟩
/-- CTR_COIL_I `I3`, Table 18-11. -/
def CTR_COIL_I_I3 : RField := ⟨472, 24, 8, .ro, 0, 0, 0⟩
/-- LSW_LCNT `CNT_HI`, Table 19-4. -/
def LSW_LCNT_CNT_HI : RField := ⟨473, 16, 16, .ro, 0, 0, 0⟩
/-- LSW_LCNT `CNT_LO`, Table 19-4. -/
def LSW_LCNT_CNT_LO : RField := ⟨474, 0, 16, .ro, 0, 0, 0⟩
/-- TCH_CNT `TOUCHES0`, Table 19-6. -/
def TCH_CNT_TOUCHES0 : RField := ⟨475, 0, 8, .ro, 0, 0, 0⟩
/-- TCH_CNT `TOUCHES1`, Table 19-6. -/
def TCH_CNT_TOUCHES1 : RField := ⟨476, 8, 8, .ro, 0, 0, 0⟩
/-- TCH_CNT `TOUCHES2`, Table 19-6. -/
def TCH_CNT_TOUCHES2 : RField := ⟨477, 16, 8, .ro, 0, 0, 0⟩
/-- TCH_CNT `TOUCHES3`, Table 19-6. -/
def TCH_CNT_TOUCHES3 : RField := ⟨478, 24, 8, .ro, 0, 0, 0⟩
/-- MGT_NEG `MINOR0`, Table 23-9. -/
def MGT_NEG_MINOR0 : RField := ⟨479, 0, 4, .ro, 0, 0, 0⟩
/-- MGT_NEG `MINOR1`, Table 23-9. -/
def MGT_NEG_MINOR1 : RField := ⟨480, 4, 4, .ro, 0, 0, 0⟩
/-- MGT_NEG `MINOR2`, Table 23-9. -/
def MGT_NEG_MINOR2 : RField := ⟨481, 8, 4, .ro, 0, 0, 0⟩
/-- MGT_NEG `MINOR3`, Table 23-9. -/
def MGT_NEG_MINOR3 : RField := ⟨482, 12, 4, .ro, 0, 0, 0⟩
/-- MGT_NEG `MINOR4`, Table 23-9. -/
def MGT_NEG_MINOR4 : RField := ⟨483, 16, 4, .ro, 0, 0, 0⟩
/-- MGT_NEG `MINOR5`, Table 23-9. -/
def MGT_NEG_MINOR5 : RField := ⟨484, 20, 4, .ro, 0, 0, 0⟩
/-- MGT_NEG `MINOR6`, Table 23-9. -/
def MGT_NEG_MINOR6 : RField := ⟨485, 24, 4, .ro, 0, 0, 0⟩
/-- MGT_NEG `MINOR7`, Table 23-9. -/
def MGT_NEG_MINOR7 : RField := ⟨486, 28, 4, .ro, 0, 0, 0⟩
/-- GOV_LEVEL `LEVEL0`, Table 15-8. -/
def GOV_LEVEL_LEVEL0 : RField := ⟨487, 0, 7, .ro, 0, 0, 0⟩
/-- GOV_LEVEL `LEVEL1`, Table 15-8. -/
def GOV_LEVEL_LEVEL1 : RField := ⟨488, 8, 7, .ro, 0, 0, 0⟩
/-- GOV_LEVEL `LEVEL2`, Table 15-8. -/
def GOV_LEVEL_LEVEL2 : RField := ⟨489, 16, 7, .ro, 0, 0, 0⟩
/-- GOV_LEVEL `LEVEL3`, Table 15-8. -/
def GOV_LEVEL_LEVEL3 : RField := ⟨490, 24, 7, .ro, 0, 0, 0⟩
/-- GOV_LEVEL `LEVEL4`, Table 15-8. -/
def GOV_LEVEL_LEVEL4 : RField := ⟨491, 32, 7, .ro, 0, 0, 0⟩
/-- GOV_LEVEL `LEVEL5`, Table 15-8. -/
def GOV_LEVEL_LEVEL5 : RField := ⟨492, 40, 7, .ro, 0, 0, 0⟩
/-- GOV_LEVEL `LEVEL6`, Table 15-8. -/
def GOV_LEVEL_LEVEL6 : RField := ⟨493, 48, 7, .ro, 0, 0, 0⟩
/-- GOV_LEVEL `LEVEL7`, Table 15-8. -/
def GOV_LEVEL_LEVEL7 : RField := ⟨494, 56, 7, .ro, 0, 0, 0⟩
/-- PYU_PORT_STAT `ROTATIONS`, Table 7-8. -/
def PYU_PORT_STAT_ROTATIONS : RField := ⟨495, 40, 24, .ro, 0, 0, 0⟩
/-- PYU_PORT_STAT `D2D_CRC`, Table 7-8. -/
def PYU_PORT_STAT_D2D_CRC : RField := ⟨496, 24, 16, .ro, 0, 0, 0⟩
/-- PYU_PORT_STAT `PROBES`, Table 7-8. -/
def PYU_PORT_STAT_PROBES : RField := ⟨497, 8, 16, .ro, 0, 0, 0⟩
/-- PYU_PORT_STAT `ROT_OPEN`, Table 7-8. -/
def PYU_PORT_STAT_ROT_OPEN : RField := ⟨498, 4, 1, .ro, 0, 0, 0⟩
/-- PYU_PORT_STAT `CAL_BUSY`, Table 7-8. -/
def PYU_PORT_STAT_CAL_BUSY : RField := ⟨499, 3, 1, .ro, 0, 0, 0⟩
/-- PYU_PORT_STAT `LOS`, Table 7-8. -/
def PYU_PORT_STAT_LOS : RField := ⟨500, 2, 1, .ro, 0, 0, 0⟩
/-- PYU_PORT_STAT `PROBE`, Table 7-8. -/
def PYU_PORT_STAT_PROBE : RField := ⟨501, 1, 1, .ro, 0, 0, 0⟩
/-- PYU_PORT_STAT `SHUTTER`, Table 7-8. -/
def PYU_PORT_STAT_SHUTTER : RField := ⟨502, 0, 1, .ro, 0, 0, 0⟩
end F

/-- Register layout, space `sup`, part 0. -/
def supRegs0 : List RegDesc := [
  ⟨0x0, 1, 1, [F.ID_DEVICE_VENDOR, F.ID_DEVICE_PART]⟩,
  ⟨0x1, 1, 1, [F.ID_GRADE_TILES]⟩,
  ⟨0x2, 1, 1, [F.ID_STEPPING_STEP]⟩,
  ⟨0x140, 1, 1, [F.AON_FRONT_STAT_LIGHT, F.AON_FRONT_STAT_WAKE_IN, F.AON_FRONT_STAT_SVC_KEY, F.AON_FRONT_STAT_LSC_PRESENT, F.AON_FRONT_STAT_TK_ACTIVE, F.AON_FRONT_STAT_SI_DEMAND]⟩,
  ⟨0x141, 1, 1, [F.AON_FRONT_EVT_LIGHT_CHG, F.AON_FRONT_EVT_WAKE_CHG, F.AON_FRONT_EVT_SVC_CHG, F.AON_FRONT_EVT_LSC_CHG, F.AON_FRONT_EVT_TK_CHG, F.AON_FRONT_EVT_SI_CHG]⟩,
  ⟨0x142, 1, 1, [F.AON_PIN_PHASE_HOLDUP, F.AON_PIN_PHASE_FIELD_EN, F.AON_PIN_PHASE_CORE_PHASE]⟩,
  ⟨0x143, 1, 1, [F.AON_CONN_STAT_FLT_WIRE, F.AON_CONN_STAT_FLT_READ, F.AON_CONN_STAT_CPRES, F.AON_CONN_STAT_HPRES, F.AON_CONN_STAT_BJL_PRES, F.AON_CONN_STAT_FLD_PRES, F.AON_CONN_STAT_MGT_NID]⟩,
  ⟨0x100, 1, 1, [F.AON_PD_STAT_VAT_STATE, F.AON_PD_STAT_ON]⟩,
  ⟨0x101, 1, 1, [F.AON_PD_REQ_TG_REQ, F.AON_PD_REQ_ENG_REQ, F.AON_PD_REQ_VAT_REQ, F.AON_PD_REQ_SEP_REQ]⟩,
  ⟨0x102, 1, 1, [F.AON_PD_CFG_ENG_IDLE, F.AON_PD_CFG_TG_IDLE, F.AON_PD_CFG_HERD_GATE]⟩,
  ⟨0x103, 1, 1, [F.AON_WAKE_CFG_WAKEIN_ENG, F.AON_WAKE_CFG_WAKEIN_TG, F.AON_WAKE_CFG_SI_EN, F.AON_WAKE_CFG_MILK_EN, F.AON_WAKE_CFG_DOORBELL_EN, F.AON_WAKE_CFG_WAKEIN_EN, F.AON_WAKE_CFG_LIGHT_EN, F.AON_WAKE_CFG_MSG_EN]⟩,
  ⟨0x104, 1, 1, [F.AON_WAKE_SRC_REFUSED_TRIP, F.AON_WAKE_SRC_REFUSED_RIND, F.AON_WAKE_SRC_REFUSED_MAIN, F.AON_WAKE_SRC_SRC]⟩,
  ⟨0x105, 1, 1, [F.AON_SUPPLY_VMAIN, F.AON_SUPPLY_VAUX]⟩,
  ⟨0x106, 1, 1, [F.AON_SUP_STAT_CORE_DISCH, F.AON_SUP_STAT_MAIN_OV, F.AON_SUP_STAT_MAIN_OK, F.AON_SUP_STAT_AUX_OK]⟩,
  ⟨0x107, 1, 1, [F.AON_TEMP_TJ_CORE, F.AON_TEMP_TJ_SUP]⟩,
  ⟨0x108, 1, 1, [F.AON_HARD_LIM_TJ_TRIP_CORE, F.AON_HARD_LIM_TJ_TRIP_SUP, F.AON_HARD_LIM_FMAX, F.AON_HARD_LIM_VMAX]⟩,
  ⟨0x109, 1, 1, [F.AON_HARD_EVT_MAIN_OV, F.AON_HARD_EVT_MAIN_UV, F.AON_HARD_EVT_VTG_OV, F.AON_HARD_EVT_TJ_SUP_TRIP, F.AON_HARD_EVT_TJ_CORE_TRIP]⟩,
  ⟨0x200, 1, 8, [F.CLK_TG_FREQ_ACT, F.CLK_TG_FREQ_SET]⟩,
  ⟨0x210, 1, 1, [F.CLK_DOM_STAT0_RUN0]⟩,
  ⟨0x211, 1, 1, [F.CLK_DOM_STAT1_RUN1]⟩]
/-- Register layout, space `sup`, part 1. -/
def supRegs1 : List RegDesc := [
  ⟨0x212, 1, 1, [F.CLK_MON_EVT_SLOW_FAIL, F.CLK_MON_EVT_XS_FAIL, F.CLK_MON_EVT_REF_FAIL, F.CLK_MON_EVT_SEP_OVF, F.CLK_MON_EVT_TG_OVF]⟩,
  ⟨0x110, 1, 1, [F.AON_SVC_STAT_OPT_NARROW, F.AON_SVC_STAT_ASSIST_ON, F.AON_SVC_STAT_ASSIST_BLK, F.AON_SVC_STAT_EST_LOADED, F.AON_SVC_STAT_COMPUTE, F.AON_SVC_STAT_CHAIN_READY, F.AON_SVC_STAT_REC_READY, F.AON_SVC_STAT_SKIM]⟩,
  ⟨0x111, 1, 1, [F.AON_QUAL_QUAL_FAIL, F.AON_QUAL_QUAL_DONE, F.AON_QUAL_SKIM_GRP]⟩,
  ⟨0x1410, 1, 1, [F.MGT_STW_STAT_REMAIN, F.MGT_STW_STAT_HOLDER, F.MGT_STW_STAT_HELD, F.MGT_STW_STAT_FORCED]⟩,
  ⟨0x1411, 1, 1, [F.MGT_STW_EPOCH_EPOCH]⟩,
  ⟨0x1412, 1, 1, [F.MGT_STW_ELIG_ELIG]⟩,
  ⟨0x1413, 1, 1, [F.MGT_STW_DEF_LOOP_POL, F.MGT_STW_DEF_LSW_POL, F.MGT_STW_DEF_CT_POL, F.MGT_STW_DEF_SHARE]⟩,
  ⟨0x1420, 1, 16, [F.MGT_RIGHTS_CT, F.MGT_RIGHTS_LOOP, F.MGT_RIGHTS_LSW]⟩,
  ⟨0x1430, 1, 1, [F.MGT_ARB_LAST_RES, F.MGT_ARB_LAST_WINNER, F.MGT_ARB_LAST_LOSER, F.MGT_ARB_LAST_COUNT]⟩,
  ⟨0x800, 1, 1, [F.HRD_CTL_PERIOD, F.HRD_CTL_ENUM, F.HRD_CTL_RUN]⟩,
  ⟨0x801, 1, 1, [F.HRD_STAT_MISSING, F.HRD_STAT_MON_CHANGE, F.HRD_STAT_BREAK_POS, F.HRD_STAT_COUNT, F.HRD_STAT_MODE]⟩,
  ⟨0x802, 1, 1, [F.HRD_ROUND_DUR, F.HRD_ROUND_ROUND]⟩,
  ⟨0x803, 1, 1, [F.HRD_ERR_REENUM, F.HRD_ERR_BREAKS, F.HRD_ERR_NO_RSP, F.HRD_ERR_CRC_ERR]⟩,
  ⟨0x810, 1, 12, [F.HRD_MON_INFO_MAKER, F.HRD_MON_INFO_IFVER, F.HRD_MON_INFO_REACH_A, F.HRD_MON_INFO_REACH_B, F.HRD_MON_INFO_MISS, F.HRD_MON_INFO_CELLS]⟩,
  ⟨0x820, 1, 12, [F.HRD_MON_UID_UID]⟩,
  ⟨0xa00, 1, 6, [F.PKM_CFG_EN, F.PKM_CFG_GAIN, F.PKM_CFG_OSR]⟩,
  ⟨0xa08, 1, 6, [F.PKM_SAMP_WORD]⟩,
  ⟨0xa10, 1, 6, [F.PKM_SYNCS_WORD]⟩,
  ⟨0xa18, 1, 1, [F.PKM_ISO_CFG_ISO_EN, F.PKM_ISO_CFG_DWELL]⟩,
  ⟨0xa19, 1, 1, [F.PKM_ISO_STAT_STATE]⟩]
/-- Register layout, space `sup`, part 2. -/
def supRegs2 : List RegDesc := [
  ⟨0xa1a, 1, 1, [F.PKM_ISO_LP_R_LP]⟩,
  ⟨0xa1b, 1, 1, [F.PKM_ISO_LN_R_LN]⟩,
  ⟨0xa20, 1, 1, [F.PKM_CC_LO_CC]⟩,
  ⟨0xa21, 1, 1, [F.PKM_CC_HI_CC]⟩,
  ⟨0xa22, 1, 1, [F.PKM_CC_STAT_HALL_SUBST, F.PKM_CC_STAT_BRIDGED]⟩,
  ⟨0xa23, 1, 1, [F.PKM_CC_EVT_CC_GAP, F.PKM_CC_EVT_CC_SAT]⟩,
  ⟨0xa24, 1, 1, [F.PKM_HALL_SCALE_SCALE]⟩,
  ⟨0xc00, 1, 1, [F.EST_STAT_ROUND, F.EST_STAT_REST, F.EST_STAT_INIT_ALL, F.EST_STAT_LIM_LOADED, F.EST_STAT_EST_LOADED, F.EST_STAT_NCELLS]⟩,
  ⟨0xc01, 1, 1, [F.EST_MODEL_ID_MODEL_ID]⟩,
  ⟨0xc02, 1, 1, [F.EST_LIMIT_ID_LIMIT_ID]⟩,
  ⟨0xc03, 1, 1, [F.EST_LOAD_STAT_LIM_REFUSE, F.EST_LOAD_STAT_MOD_REFUSE]⟩,
  ⟨0xc04, 1, 1, [F.EST_SOC_MINMAX_SOC_MAX, F.EST_SOC_MINMAX_SOC_MIN]⟩,
  ⟨0xc05, 1, 1, [F.EST_SOC_MEAN_MAX_CELL, F.EST_SOC_MEAN_MIN_CELL, F.EST_SOC_MEAN_SOC_MEAN]⟩,
  ⟨0xc06, 1, 1, [F.EST_SOH_SOH_R_MAX, F.EST_SOH_SOH_C_MIN]⟩,
  ⟨0xc08, 1, 6, [F.EST_SOP_P]⟩,
  ⟨0xc10, 1, 6, [F.EST_SOPI_I]⟩,
  ⟨0xc16, 1, 1, [F.EST_ALLOW_I_CHG_ALLOW, F.EST_ALLOW_I_DIS_ALLOW]⟩,
  ⟨0xc17, 1, 1, [F.EST_CTL_SOH_RESET, F.EST_CTL_SOC_REINIT]⟩,
  ⟨0xc18, 1, 1, [F.EST_COND_ACT_ACT]⟩,
  ⟨0xc19, 1, 1, [F.EST_COND_CONF_CONF]⟩]
/-- Register layout, space `sup`, part 3. -/
def supRegs3 : List RegDesc := [
  ⟨0xc1a, 1, 1, [F.EST_COND_EVT_EVT]⟩,
  ⟨0xc1b, 1, 1, [F.EST_DISC_HARD_LATCH, F.EST_DISC_CAUSE, F.EST_DISC_STATE]⟩,
  ⟨0xc1c, 1, 1, [F.EST_CNT_SOFT_DISC, F.EST_CNT_HARD_DISC, F.EST_CNT_BRK_FORCED]⟩,
  ⟨0xc20, 1, 240, [F.EST_CELL_SOH_R8, F.EST_CELL_SOH_C8, F.EST_CELL_SOC]⟩,
  ⟨0xe00, 1, 1, [F.CTR_STAT_COOL, F.CTR_STAT_PC_LOCK, F.CTR_STAT_WELD_LATCH, F.CTR_STAT_AUX, F.CTR_STAT_COIL, F.CTR_STAT_SEQ]⟩,
  ⟨0xe01, 1, 1, [F.CTR_CFG_PC_COOL, F.CTR_CFG_PC_IMAX, F.CTR_CFG_X_ISO, F.CTR_CFG_PC_TIMEOUT]⟩,
  ⟨0xe02, 1, 1, [F.CTR_SEQ_RES_DUR, F.CTR_SEQ_RES_WELD_SKIP, F.CTR_SEQ_RES_RESULT]⟩,
  ⟨0xe03, 1, 1, [F.CTR_EVT_DROPOUT, F.CTR_EVT_DOUBLE_WELD, F.CTR_EVT_WELD, F.CTR_EVT_AUX_MIS, F.CTR_EVT_COIL_SHORT, F.CTR_EVT_COIL_OPEN, F.CTR_EVT_PC_FAIL, F.CTR_EVT_EMERG]⟩,
  ⟨0xe04, 1, 1, [F.CTR_LAST_OPEN_I_BRK, F.CTR_LAST_OPEN_MASK, F.CTR_LAST_OPEN_EMERG, F.CTR_LAST_OPEN_CAUSE]⟩,
  ⟨0xe08, 1, 4, [F.CTR_CLOSE_CNT_CLOSES]⟩,
  ⟨0xe0c, 1, 4, [F.CTR_EMERG_CNT_EMERG]⟩,
  ⟨0x1000, 1, 1, [F.LSW_STAT_LATCHED, F.LSW_STAT_ON]⟩,
  ⟨0x1001, 1, 1, [F.LSW_EVT_TH_EVT, F.LSW_EVT_OC_EVT]⟩,
  ⟨0x1002, 1, 1, [F.LSW_OL_OL_EN, F.LSW_OL_OPEN]⟩,
  ⟨0x1003, 1, 1, [F.LSW_SUPPLY_I_TOTAL, F.LSW_SUPPLY_VFLD]⟩,
  ⟨0x1004, 1, 1, [F.LSW_SUP_STAT_VFLD_UV]⟩,
  ⟨0x1010, 1, 16, [F.LSW_CFG_BLANK, F.LSW_CFG_ILIM]⟩,
  ⟨0x1020, 1, 16, [F.LSW_I_I]⟩,
  ⟨0x1100, 1, 4, [F.LOOP_CFG_FB_EN, F.LOOP_CFG_FB_I]⟩,
  ⟨0x1104, 1, 4, [F.LOOP_CMD_CMD]⟩]
/-- Register layout, space `sup`, part 4. -/
def supRegs4 : List RegDesc := [
  ⟨0x1108, 1, 4, [F.LOOP_DEL_COMP_I, F.LOOP_DEL_DELIV]⟩,
  ⟨0x110c, 1, 1, [F.LOOP_STAT_FALLBACK, F.LOOP_STAT_COMPLY]⟩,
  ⟨0x110d, 1, 1, [F.LOOP_EVT_LOOP_COMPLIANCE]⟩,
  ⟨0x1110, 1, 4, [F.LOOP_IN_STATUS, F.LOOP_IN_OPEN, F.LOOP_IN_HIGH, F.LOOP_IN_LOW, F.LOOP_IN_I]⟩,
  ⟨0x1114, 1, 1, [F.LIS_CTL_LIS_OC, F.LIS_CTL_LIS_EN]⟩,
  ⟨0x1180, 1, 4, [F.TCH_CFG_FN, F.TCH_CFG_TGT, F.TCH_CFG_DEB, F.TCH_CFG_TH]⟩,
  ⟨0x1184, 1, 4, [F.TCH_RAW_BASE, F.TCH_RAW_RAW]⟩,
  ⟨0x1188, 1, 1, [F.TCH_STAT_STUCK, F.TCH_STAT_ACTIVE]⟩,
  ⟨0x1200, 1, 1, [F.RND_STAT_CFG_BAD, F.RND_STAT_PENDING, F.RND_STAT_STATE]⟩,
  ⟨0x1201, 1, 1, [F.RND_SI_STAT_DEMAND, F.RND_SI_STAT_CB, F.RND_SI_STAT_CA]⟩,
  ⟨0x1202, 1, 1, [F.RND_SI_FLT_DISCREP, F.RND_SI_FLT_CROSS, F.RND_SI_FLT_SHORT]⟩,
  ⟨0x1203, 1, 1, [F.RND_STO_STAT_STO_FLT, F.RND_STO_STAT_MODE, F.RND_STO_STAT_PERM, F.RND_STO_STAT_ON, F.RND_STO_STAT_RB_L, F.RND_STO_STAT_RB_H]⟩,
  ⟨0x1204, 1, 1, [F.RND_ACT_LSW, F.RND_ACT_FUNC]⟩,
  ⟨0x1205, 1, 1, [F.RND_CFG_ID_CFG_ID]⟩,
  ⟨0x1206, 1, 1, [F.RND_CFG_CRC_CRC]⟩,
  ⟨0x1207, 1, 1, [F.RND_CFG_STAT_LOAD_REFUSE]⟩,
  ⟨0x1208, 1, 1, [F.RND_CNT_DEMANDS, F.RND_CNT_RESETS, F.RND_CNT_RST_IGN]⟩,
  ⟨0x150, 1, 1, [F.AON_STO_REQ_RST, F.AON_STO_REQ_ON]⟩,
  ⟨0x144, 1, 1, [F.AON_PAIR_SRC_HOLDUP, F.AON_PAIR_SRC_CORE, F.AON_PAIR_SRC_SUP]⟩,
  ⟨0x300, 1, 1, [F.TIM_OPTIME_LO_OPTIME]⟩]
/-- Register layout, space `sup`, part 5. -/
def supRegs5 : List RegDesc := [
  ⟨0x301, 1, 1, [F.TIM_OPTIME_HI_SLOW, F.TIM_OPTIME_HI_OPTIME]⟩,
  ⟨0x302, 1, 1, [F.TIM_PCYC_SAT, F.TIM_PCYC_PCYC]⟩,
  ⟨0x303, 1, 1, [F.TIM_BOOT_LAST_DOWN]⟩,
  ⟨0x310, 1, 4, [F.TIM_GC_CFG_SRC]⟩,
  ⟨0x314, 1, 1, [F.TIM_GC_EVT_OVF]⟩,
  ⟨0x322, 4, 4, [F.TIM_GC_LDLO_LOAD]⟩,
  ⟨0x323, 4, 4, [F.TIM_GC_LDHI_LOAD]⟩,
  ⟨0x400, 1, 1, [F.REC_STAT_QUEUE, F.REC_STAT_LAST_GASP, F.REC_STAT_ERASE, F.REC_STAT_PROG, F.REC_STAT_READY]⟩,
  ⟨0x401, 1, 1, [F.REC_HEAD_HEAD]⟩,
  ⟨0x402, 1, 1, [F.REC_OLDEST_OLDEST]⟩,
  ⟨0x403, 1, 1, [F.REC_CNT_DROPPED, F.REC_CNT_TORN, F.REC_CNT_SKIPPED]⟩,
  ⟨0x404, 1, 1, [F.REC_ERASES_ERASES]⟩,
  ⟨0x1400, 1, 1, [F.MGT_STAT_XS_FAIL, F.MGT_STAT_PLCA, F.MGT_STAT_ACTIVE]⟩,
  ⟨0x1401, 1, 1, [F.MGT_PLCA_BURST_TMR, F.MGT_PLCA_MAX_BC, F.MGT_PLCA_PLCA_EN, F.MGT_PLCA_TO_TMR]⟩,
  ⟨0x1402, 1, 1, [F.MGT_CNT_AUTH_FAIL, F.MGT_CNT_QUEUE_DROP, F.MGT_CNT_REPLAY, F.MGT_CNT_RETRY]⟩,
  ⟨0x1403, 1, 1, [F.MGT_CNT2_RX, F.MGT_CNT2_EVT_LOST]⟩,
  ⟨0x1404, 1, 1, [F.MGT_HELLO_DONE]⟩,
  ⟨0x1405, 1, 1, [F.MGT_SESS_SESS]⟩,
  ⟨0x1406, 1, 1, [F.MGT_KEY_STAT_LOADED]⟩,
  ⟨0x140c, 1, 4, [F.MGT_FEAT_FEAT]⟩]
/-- Register layout, space `sup`, part 6. -/
def supRegs6 : List RegDesc := [
  ⟨0x1440, 1, 8, [F.MGT_KEY_LOAD_KEY]⟩,
  ⟨0x1448, 1, 1, [F.MGT_KEY_CTL_SLOT, F.MGT_KEY_CTL_ERASE, F.MGT_KEY_CTL_COMMIT]⟩,
  ⟨0x830, 1, 12, [F.HRD_BAL_MASK]⟩,
  ⟨0x880, 1, 12, [F.HRD_MSTAT_ROUND, F.HRD_MSTAT_MSTAT]⟩,
  ⟨0x840, 1, 1, [F.HRD_BAL_CFG_BAL_TMAX, F.HRD_BAL_CFG_BAL_VMIN]⟩,
  ⟨0x850, 1, 48, [F.HRD_TEMP_ROUND, F.HRD_TEMP_WORD]⟩,
  ⟨0x900, 1, 240, [F.HRD_CELL_ROUND, F.HRD_CELL_WORD]⟩,
  ⟨0xe10, 1, 1, [F.CTR_COIL_I_I0, F.CTR_COIL_I_I1, F.CTR_COIL_I_I2, F.CTR_COIL_I_I3]⟩,
  ⟨0x1030, 1, 8, [F.LSW_LCNT_CNT_HI, F.LSW_LCNT_CNT_LO]⟩,
  ⟨0x1189, 1, 1, [F.TCH_CNT_TOUCHES0, F.TCH_CNT_TOUCHES1, F.TCH_CNT_TOUCHES2, F.TCH_CNT_TOUCHES3]⟩,
  ⟨0x1408, 1, 2, [F.MGT_NEG_MINOR0, F.MGT_NEG_MINOR1, F.MGT_NEG_MINOR2, F.MGT_NEG_MINOR3, F.MGT_NEG_MINOR4, F.MGT_NEG_MINOR5, F.MGT_NEG_MINOR6, F.MGT_NEG_MINOR7]⟩]
/-- Every register of space `sup` that holds words of its own. -/
def supRegs : List RegDesc := supRegs0 ++ supRegs1 ++ supRegs2 ++ supRegs3 ++ supRegs4 ++ supRegs5 ++ supRegs6
/-- Register layout, space `glob`, part 0. -/
def globRegs0 : List RegDesc := [
  ⟨0x100, 1, 1, [F.SEP_STW_PROVE_PROOF]⟩,
  ⟨0x108, 1, 1, [F.SEP_STW_PORTS_PORTS]⟩,
  ⟨0x10000, 256, 16, [F.SEP_PT_CTL_RECLAIM, F.SEP_PT_CTL_OPEN, F.SEP_PT_CTL_STATE]⟩,
  ⟨0x10008, 256, 16, [F.SEP_PT_TILES_TILES]⟩,
  ⟨0x10010, 256, 16, [F.SEP_PT_NPAGES_NPAGES]⟩,
  ⟨0x10018, 256, 16, [F.SEP_PT_PORTS_ACTIVE, F.SEP_PT_PORTS_REQ]⟩,
  ⟨0x300000, 256, 18, [F.LNK_CTL_LOOP_REQ, F.LNK_CTL_RETRAIN, F.LNK_CTL_EN]⟩,
  ⟨0x300008, 256, 18, [F.LNK_STAT_SPARE, F.LNK_STAT_RXSET, F.LNK_STAT_TXSET, F.LNK_STAT_WIDTH, F.LNK_STAT_STATE]⟩,
  ⟨0x300010, 256, 18, [F.LNK_CREDIT_M_PEER, F.LNK_CREDIT_S_PEER, F.LNK_CREDIT_Q_ADV]⟩,
  ⟨0x300018, 256, 18, [F.LNK_ERRCNT_M_DROP, F.LNK_ERRCNT_PROTO_ERR, F.LNK_ERRCNT_DOWNS, F.LNK_ERRCNT_RETRAINS, F.LNK_ERRCNT_REPLAYS, F.LNK_ERRCNT_CRC_ERR]⟩,
  ⟨0x340000, 4096, 4, [F.PYU_CTL_ROT_GAP, F.PYU_CTL_ROT_EN, F.PYU_CTL_RESET]⟩,
  ⟨0x340008, 4096, 4, [F.PYU_STAT_FAIL, F.PYU_STAT_BANK_FAIL, F.PYU_STAT_STATE]⟩,
  ⟨0x340040, 4096, 4, [F.PYU_RING_SEL_PORT, F.PYU_RING_SEL_DIR, F.PYU_RING_SEL_WL]⟩,
  ⟨0x380000, 1, 1, [F.LSC_STAT_BANK_LOCK, F.LSC_STAT_BANK_ON, F.LSC_STAT_BANK_FLT, F.LSC_STAT_BAD_CAR, F.LSC_STAT_CAR_READY, F.LSC_STAT_VDD_OK, F.LSC_STAT_LEN_B, F.LSC_STAT_LEN_A, F.LSC_STAT_LATCH_B, F.LSC_STAT_LATCH_A, F.LSC_STAT_PRES]⟩,
  ⟨0x380008, 1, 1, [F.LSC_WIN_BUSY, F.LSC_WIN_ERR, F.LSC_WIN_W, F.LSC_WIN_ADDR, F.LSC_WIN_DATA]⟩,
  ⟨0x300040, 256, 18, [F.LNK_LANE_SEL_LANE]⟩,
  ⟨0x300048, 256, 18, [F.LNK_DFE_SAT, F.LNK_DFE_H5, F.LNK_DFE_H4, F.LNK_DFE_H3, F.LNK_DFE_H2, F.LNK_DFE_H1]⟩,
  ⟨0x300050, 256, 18, [F.LNK_LANE_ERR_LOOP_ERR, F.LNK_LANE_ERR_STUFF_ERR, F.LNK_LANE_ERR_MARKER_ERR, F.LNK_LANE_ERR_LOS_EVT, F.LNK_LANE_ERR_LOL_EVT]⟩,
  ⟨0x300058, 256, 18, [F.LNK_LANE_STAT_MALIGN, F.LNK_LANE_STAT_CLK_LOL, F.LNK_LANE_STAT_LOL, F.LNK_LANE_STAT_LOS]⟩,
  ⟨0x300060, 256, 18, [F.LNK_TXEQ_MAIN, F.LNK_TXEQ_POST, F.LNK_TXEQ_PRE]⟩]
/-- Register layout, space `glob`, part 1. -/
def globRegs1 : List RegDesc := [
  ⟨0x300068, 256, 18, [F.LNK_RXCTL_DFE_RESET, F.LNK_RXCTL_DFE_FREEZE]⟩,
  ⟨0x300070, 256, 18, [F.LNK_SSC_FREQ, F.LNK_SSC_DEPTH, F.LNK_SSC_PENDING, F.LNK_SSC_SSC_EN]⟩,
  ⟨0x300078, 256, 18, [F.LNK_LOOP_STAT_LOOP_FAIL, F.LNK_LOOP_STAT_SYNC]⟩,
  ⟨0x3c8000, 1, 1, [F.VAT_SCRUB_CFG_PERIOD, F.VAT_SCRUB_CFG_EN]⟩,
  ⟨0x3c0000, 4096, 8, [F.VAT_STAT_TEMP, F.VAT_STAT_REFRESH_2X, F.VAT_STAT_STATE]⟩,
  ⟨0x3c0008, 4096, 8, [F.VAT_ECC_CNT_UE, F.VAT_ECC_CNT_CE_CTL, F.VAT_ECC_CNT_CE_STACK]⟩,
  ⟨0x3c0010, 4096, 8, [F.VAT_SCRUB_STAT_PASSES, F.VAT_SCRUB_STAT_FORCED, F.VAT_SCRUB_STAT_POSITION]⟩,
  ⟨0x400000, 1, 1, [F.GOV_STAT_BUDGET, F.GOV_STAT_P_MEAS, F.GOV_STAT_LIMIT, F.GOV_STAT_LEVEL]⟩,
  ⟨0x400008, 1, 1, [F.GOV_INPUTS_P_SHARE, F.GOV_INPUTS_P_ASSIST, F.GOV_INPUTS_P_THERMAL, F.GOV_INPUTS_P_CAP]⟩,
  ⟨0x400010, 1, 1, [F.GOV_CFG_ASSIST_CAP, F.GOV_CFG_TKNEE, F.GOV_CFG_TSLOPE, F.GOV_CFG_RG_GAP, F.GOV_CFG_UP_STEP, F.GOV_CFG_HYST, F.GOV_CFG_MARGIN]⟩,
  ⟨0x400018, 1, 1, [F.GOV_EVT_MEAS_FAIL, F.GOV_EVT_IDLE_TRIP, F.GOV_EVT_HARD_TRIP, F.GOV_EVT_OVER_BUDGET, F.GOV_EVT_ASSIST_LOST]⟩,
  ⟨0x400020, 1, 1, [F.GOV_CNT_ASSIST_LOST, F.GOV_CNT_HARD_TRIPS, F.GOV_CNT_RESERVE_STOPS, F.GOV_CNT_CAP_EVENTS]⟩,
  ⟨0x400030, 1, 1, [F.GOV_ASSIST_SOP2S, F.GOV_ASSIST_P_OTHER, F.GOV_ASSIST_P_IN, F.GOV_ASSIST_AGE]⟩,
  ⟨0x110, 1, 1, [F.SEP_FLT_SUM_CORE]⟩,
  ⟨0x300020, 256, 18, [F.LNK_TXMAP0_MAP]⟩,
  ⟨0x300028, 256, 18, [F.LNK_TXMAP1_MAP]⟩,
  ⟨0x300030, 256, 18, [F.LNK_RXMAP0_MAP]⟩,
  ⟨0x300038, 256, 18, [F.LNK_RXMAP1_MAP]⟩,
  ⟨0x400028, 1, 1, [F.GOV_LEVEL_LEVEL0, F.GOV_LEVEL_LEVEL1, F.GOV_LEVEL_LEVEL2, F.GOV_LEVEL_LEVEL3, F.GOV_LEVEL_LEVEL4, F.GOV_LEVEL_LEVEL5, F.GOV_LEVEL_LEVEL6, F.GOV_LEVEL_LEVEL7]⟩]
/-- Every register of space `glob` that holds words of its own. -/
def globRegs : List RegDesc := globRegs0 ++ globRegs1
/-- Register layout, space `part`, part 0. -/
def partRegs0 : List RegDesc := [
  ⟨0x2008, 1, 1, [F.SEP_PC_ADMIT_PORT]⟩,
  ⟨0x1000, 64, 8, [F.SEP_RING_BASE_BASE]⟩,
  ⟨0x1008, 64, 8, [F.SEP_RING_CFG_SIZE, F.SEP_RING_CFG_PRIO, F.SEP_RING_CFG_PCLASS, F.SEP_RING_CFG_EN]⟩,
  ⟨0x1010, 64, 8, [F.SEP_RING_DB_TILE, F.SEP_RING_DB_TAIL]⟩,
  ⟨0x1018, 64, 8, [F.SEP_RING_STAT_TAIL, F.SEP_RING_STAT_DB_DROP, F.SEP_RING_STAT_STATE, F.SEP_RING_STAT_SEGS, F.SEP_RING_STAT_HEAD]⟩,
  ⟨0x1200, 1, 1, [F.SEP_CQ_BASE_BASE]⟩,
  ⟨0x1208, 1, 1, [F.SEP_CQ_CFG_SIZE, F.SEP_CQ_CFG_EN]⟩,
  ⟨0x1210, 1, 1, [F.SEP_CQ_PROD_RSV, F.SEP_CQ_PROD_PROD]⟩,
  ⟨0x1218, 1, 1, [F.SEP_CQ_CONS_CONS]⟩,
  ⟨0x2200, 8, 12, [F.SEP_PC_PERF_COUNT]⟩,
  ⟨0x2280, 1, 1, [F.SEP_PC_PERF_CTL_TEL_DROP, F.SEP_PC_PERF_CTL_TPER, F.SEP_PC_PERF_CTL_TEL_EN, F.SEP_PC_PERF_CTL_FREEZE, F.SEP_PC_PERF_CTL_CLEAR]⟩,
  ⟨0x2400, 8, 8, [F.VAT_PC_KEY_KEY]⟩,
  ⟨0x2440, 1, 1, [F.VAT_PC_KEY_CTL_COMMIT]⟩,
  ⟨0x2448, 1, 1, [F.VAT_PC_KEY_STAT_KCV, F.VAT_PC_KEY_STAT_STAGED, F.VAT_PC_KEY_STAT_REFUSE, F.VAT_PC_KEY_STAT_LOADER]⟩]
/-- Every register of space `part` that holds words of its own. -/
def partRegs : List RegDesc := partRegs0
/-- Register layout, space `ppst`, part 0. -/
def ppstRegs0 : List RegDesc := [
  ⟨0x340100, 64, 16, [F.PYU_PORT_STAT_ROTATIONS, F.PYU_PORT_STAT_D2D_CRC, F.PYU_PORT_STAT_PROBES, F.PYU_PORT_STAT_ROT_OPEN, F.PYU_PORT_STAT_CAL_BUSY, F.PYU_PORT_STAT_LOS, F.PYU_PORT_STAT_PROBE, F.PYU_PORT_STAT_SHUTTER]⟩]
/-- Every register of space `ppst` that holds words of its own. -/
def ppstRegs : List RegDesc := ppstRegs0
end Sys2Proof.Machine
end

