-- ==== Sys2Proof/Machine/Regs.lean ====
section
/-! DEFINITION. Reading and writing the fields of registers: the one home of every register word (00 R7, R8), and the
generic read and write of a whole register by its layout. -/
namespace Sys2Proof.Machine

/-- The reset value of field `f` in instance `i`. -/
def RField.resetAt (f : RField) (i : Nat) : Nat := if i < f.split then f.resetLo else f.resetHi

/-- The key of field `f`, instance `i`, sub-instance `j`. -/
def RField.key (f : RField) (i j : Nat) : Key := ⟨f.id, i, j⟩

/-- The value of a field. -/
def State.fld (s : State) (f : RField) (i : Nat := 0) (j : Nat := 0) : Nat :=
  s.regs.get (f.resetAt i) (f.key i j)

/-- The state with a field set; a value too wide keeps its low bits. -/
def State.put (s : State) (f : RField) (v : Nat) (i : Nat := 0) (j : Nat := 0) : State :=
  { s with regs := s.regs.set (f.resetAt i) (f.key i j) (v % 2 ^ f.width) }

/-- A one-bit field as a truth value. -/
def State.flag (s : State) (f : RField) (i : Nat := 0) (j : Nat := 0) : Bool := s.fld f i j == 1

/-- Set a one-bit field. -/
def State.putFlag (s : State) (f : RField) (v : Bool) (i : Nat := 0) (j : Nat := 0) : State := s.put f (b2n v) i j

/-- Bit `n` of a mask field. -/
def State.bit (s : State) (f : RField) (n : Nat) (i : Nat := 0) (j : Nat := 0) : Bool := hasBit (s.fld f i j) n

/-- Set bit `n` of a mask field. -/
def State.putBitOf (s : State) (f : RField) (n : Nat) (v : Bool) (i : Nat := 0) (j : Nat := 0) : State :=
  s.put f (putBit (s.fld f i j) n v) i j

/-- Add to a count that saturates. -/
def State.count (s : State) (f : RField) (n : Nat := 1) (i : Nat := 0) (j : Nat := 0) : State :=
  s.put f (addSat f.width (s.fld f i j) n) i j

/-- Add to a count that wraps. -/
def State.countWrap (s : State) (f : RField) (i : Nat := 0) (j : Nat := 0) : State := s.put f (s.fld f i j + 1) i j

/-- Set a field back to its reset value. -/
def State.clr (s : State) (f : RField) (i : Nat := 0) (j : Nat := 0) : State := s.put f (f.resetAt i) i j

/-- The register that holds index `idx` of a layout, with its instance. -/
def findReg (idx : Nat) : List RegDesc → Option (RegDesc × Nat)
  | [] => none
  | d :: t =>
    if d.base ≤ idx ∧ (idx - d.base) % d.stride = 0 ∧ (idx - d.base) / d.stride < d.count then
      some (d, (idx - d.base) / d.stride)
    else findReg idx t

/-- The word that the stored fields of a register show; write-only fields read 0 (Table 0-4). -/
def State.readFields (s : State) (i j : Nat) : List RField → Nat
  | [] => 0
  | f :: t => (if f.acc = .wo then 0 else s.fld f i j * 2 ^ f.lsb) + s.readFields i j t

/-- Write the fields of a register (Table 0-4, R8): `en` masks the enabled bits (05 R646), all ones on the supervisor.
A read-only field ignores the write, a write-1-to-clear field clears the bits written as 1, a write-only field stores
nothing here (its action is its register's own). -/
def State.writeFields (s : State) (i j en v : Nat) : List RField → State
  | [] => s
  | f :: t =>
    let old := s.fld f i j
    let x := bitField v f.lsb f.width
    let m := bitField en f.lsb f.width
    let s1 := match f.acc with
      | .rw => s.put f ((List.range f.width).foldl (fun a b => if hasBit m b then putBit a b (hasBit x b) else a) old) i j
      | .w1c => s.put f ((List.range f.width).foldl (fun a b => if hasBit m b && hasBit x b then putBit a b false else a) old) i j
      | _ => s
    s1.writeFields i j en v t

/-- The value written to field `f` of a register word, enabled bits only; unenabled bits count as 0. -/
def wroteFld (f : RField) (en v : Nat) : Nat :=
  (List.range f.width).foldl (fun a b => if hasBit en (f.lsb + b) then putBit a b (hasBit v (f.lsb + b)) else a) 0

/-- Take the next free value (Config). -/
def State.free (s : State) : Nat × State := (Config.freeValue s.freeIx, { s with freeIx := s.freeIx + 1 })

end Sys2Proof.Machine
end

