-- ==== Sys2Proof/Machine/Frames.lean ====
section
/-! DEFINITION. The frames on the management bus: the node's address, what it accepts, and the bytes of every frame that it sends
(23 R604 to R607, R613, R617). -/
namespace Sys2Proof.Machine

/-- The node's MAC address: 02-48-54-B0-64 and the node ID (R604). -/
def State.macAddr (s : State) : Nat := 0x024854B06400 + s.fld F.AON_CONN_STAT_MGT_NID

/-- The EtherType of the mailbox (R604). -/
def mailEtherType : Nat := 0x88B5

/-- The bytes of a MAC frame up to its check sequence: addresses and EtherType with the high byte first (PRESUMED, IEEE 802.3, log entry
85), then the payload. -/
def macBody (dst src etherType : Nat) (payload : Bytes) : Bytes := beBytes 6 dst ++ beBytes 6 src ++ beBytes 2 etherType ++ payload

/-- The frame check sequence of IEEE 802.3 (PRESUMED, log entry 85). -/
def macFcs (body : Bytes) : Nat := crc32 body

/-- The node accepts a frame (R604): it is addressed to the node, of the mailbox's EtherType, with a valid check sequence. -/
def State.macAccepts (s : State) (dst src etherType : Nat) (payload : Bytes) (fcs : Nat) : Bool :=
  dst == s.macAddr && etherType == mailEtherType && fcs == macFcs (macBody dst src etherType payload)

/-- A frame that the module sends, before its bytes are formed: the fields of Table 23-1 that vary, and the key it is authenticated
under; none where `AUTH` = 0 (R607). -/
structure OutFrame where
  addr : Nat
  minor : Nat
  typ : Nat
  host : Nat
  seq : Nat
  status : Nat
  reason : Nat
  body : Bytes
  key : Option Bytes
  deriving DecidableEq, Repr

/-- The header (Table 23-1): major 1, `REPLY` = 1, and the module's session value (R606). -/
def OutFrame.header (o : OutFrame) (sess : Nat) : Bytes :=
  [BitVec.ofNat 8 (16 + o.minor), BitVec.ofNat 8 o.typ, BitVec.ofNat 8 (b2n o.key.isSome + 2), BitVec.ofNat 8 o.host] ++ leBytes 4 o.seq ++
    leBytes 4 sess ++ leBytes 2 o.body.length ++ [BitVec.ofNat 8 o.status, BitVec.ofNat 8 o.reason]

/-- Header, body and, where `AUTH` = 1, the tag (R605). -/
def OutFrame.payload (o : OutFrame) (sess : Nat) : Bytes :=
  let m := o.header sess ++ o.body
  match o.key with
  | some k => m ++ (hmac k m).take 16
  | none => m

/-- The whole MAC frame, padded with zeros to the Ethernet minimum. -/
def State.frameBytes (s : State) (o : OutFrame) : Bytes :=
  let p := o.payload (s.fld F.MGT_SESS_SESS)
  let m := macBody o.addr s.macAddr mailEtherType (if p.length < 46 then padTo 46 p else p)
  m ++ leBytes 4 (macFcs m)

/-- A reply as a frame (R605, R607). -/
def Reply.out (r : Reply) : OutFrame :=
  ⟨r.addr, r.minor, r.typ, r.host, r.seq, r.status, r.reason, r.body, if r.auth then some r.key else none⟩

/-- An EVENT_NOTIFY as a frame (R617): its body ends with the eight bytes of DATA. -/
def Notif.out (n : Notif) : OutFrame :=
  ⟨n.addr, n.minor, 0x40, n.host, n.seq, 0, 0,
    [BitVec.ofNat 8 n.cls, BitVec.ofNat 8 n.code, BitVec.ofNat 8 n.inst, BitVec.ofNat 8 n.typ, BitVec.ofNat 8 n.level,
      BitVec.ofNat 8 n.lost, 0, 0] ++ leBytes 4 n.rseq ++ padTo 8 n.data, some n.key⟩

/-- The queued replies leave. -/
def State.repliesLeave (s : State) : State :=
  { s with mgt := { s.mgt with sent := s.mgt.sent ++ s.mgt.txq.map fun r => s.frameBytes r.out, txq := [] } }

/-- What was queued since the last tick leaves, replies first. -/
def State.mailLeaves (s : State) : State :=
  { s with mgt := { s.mgt with
      sent := (s.mgt.txq.map fun r => s.frameBytes r.out) ++ s.mgt.notes.map fun n => s.frameBytes n.out
      txq := []
      notes := [] } }

end Sys2Proof.Machine
end

