-- ==== Sys2Proof/Machine/Line.lean ====
section
/-! DEFINITION. The line coding of one lane (08 R196 to R202, R213): bit order, scrambler, bit stuffing, marker blocks and
their pads, and the PRBS31 generator and checker. -/
namespace Sys2Proof.Machine

/-- One lane of port `k` in one direction, by wavelength or pair. -/
def State.line (s : State) (k : Nat) (rx : Bool) (n : Nat) : Line := s.lines.get {} ⟨k, b2n rx, n⟩
/-- Set a lane's line. -/
def State.setLine (s : State) (k : Nat) (rx : Bool) (n : Nat) (x : Line) : State :=
  { s with lines := s.lines.set {} ⟨k, b2n rx, n⟩ x }

/-- The low `len` bits of a block in line order, bit 0 first (R196). -/
def wordBits (len w : Nat) : List Bool := (List.range len).map (hasBit w)

/-- The word that bits in line order spell. -/
def bitsWord : List Bool → Nat
  | [] => 0
  | b :: t => b2n b + 2 * bitsWord t

/-! ### Scrambler and PRBS31 -/

/-- The newest 58 scrambled bits after bit `x` (R197). -/
def scrPush (st : Nat) (x : Bool) : Nat := (2 * st + b2n x) % 2 ^ 58

/-- What the scrambler adds to the next bit: s(i - 39) ⊕ s(i - 58) (R197). -/
def scrTap (st : Nat) : Bool := hasBit st 38 != hasBit st 57

/-- Scramble data bits. -/
def scramble (st : Nat) : List Bool → List Bool × Nat
  | [] => ([], st)
  | d :: t =>
    let x := d != scrTap st
    let r := scramble (scrPush st x) t
    (x :: r.1, r.2)

/-- Descramble received bits. -/
def descramble (st : Nat) : List Bool → List Bool × Nat
  | [] => ([], st)
  | x :: t =>
    let r := descramble (scrPush st x) t
    ((x != scrTap st) :: r.1, r.2)

/-- The next bit of PRBS31, x³¹ + x²⁸ + 1 (R213), from its last 31 bits, bit 0 the newest (log entry 76). -/
def prbsBit (st : Nat) : Bool := hasBit st 30 != hasBit st 27

/-- The last 31 bits after bit `x`. -/
def prbsPush (st : Nat) (x : Bool) : Nat := (2 * st + b2n x) % 2 ^ 31

/-- `n` bits of PRBS31. -/
def prbsTake : Nat → Nat → List Bool × Nat
  | 0, st => ([], st)
  | n + 1, st =>
    let x := prbsBit st
    let r := prbsTake n (prbsPush st x)
    (x :: r.1, r.2)

/-- The seed of logical lane `l` (R213). -/
def prbsSeed (l : Nat) : Nat := (0x7FFFFFF0 + l) % 2 ^ 31

/-! ### Stuffing -/

/-- Identical line bits at the end after one more bit. -/
def Line.runOn (l : Line) (x : Bool) : Line := { l with run := if x = l.last then l.run + 1 else 1, last := x }

/-- Line bits for coded bits: after 24 identical ones a bit of the opposite value goes in, and starts a new run (R199). -/
def Line.stuff (l : Line) : List Bool → Line × List Bool
  | [] => (l, [])
  | x :: t =>
    let a := l.runOn x
    if a.run = 24 then
      let r := Line.stuff { a with run := 1, last := !x, stuffed := a.stuffed + 1 } t
      (r.1, x :: (!x) :: r.2)
    else
      let r := a.stuff t
      (r.1, x :: r.2)

/-- What a receiver takes from the line: the lane after it, the coded bits, the stuffing violations, the bits left over. -/
structure Taken where
  line : Line
  bits : List Bool := []
  bad : Nat := 0
  rest : List Bool := []
  deriving DecidableEq, Repr

/-- Take `n` coded bits from received line bits (R199): the bit after 24 identical ones is removed and starts a new run, also where
they end with the last of the coded bits (R201); one that equals them is a violation. -/
def Line.take (l : Line) : Nat → List Bool → Taken
  | n, [] => { line := l, bits := List.replicate n false }
  | 0, x :: t =>
    if l.run = 24 then { line := { l with run := 1, last := x, stuffed := l.stuffed + 1 }, bad := b2n (x == l.last), rest := t }
    else { line := l, rest := x :: t }
  | n + 1, x :: t =>
    if l.run = 24 then
      let r := Line.take { l with run := 1, last := x, stuffed := l.stuffed + 1 } (n + 1) t
      { r with bad := r.bad + b2n (x == l.last) }
    else
      let r := (l.runOn x).take n t
      { r with bits := x :: r.bits }

/-! ### Markers -/

/-- A marker block (Table 8-1). -/
def markerWord (count lane phys : Nat) : Nat :=
  0x965A3C + count * 2 ^ 24 + lane * 2 ^ 32 + phys * 2 ^ 37 + 0x2A * 2 ^ 42 + 0x5555 * 2 ^ 48

/-- Bits of the marker to come: the pad is shorter by the stuffed bits and the deficit, sixteen at most (R201). -/
def Line.markerLen (l : Line) : Nat := 64 - min (l.stuffed + l.deficit) 16

/-- The lane as its marker begins: the deficit carried on, and stuffed bits counted anew, those inside the marker among them
(R201, R216). -/
def Line.markerStart (l : Line) : Line := { l with deficit := l.stuffed + l.deficit - 16, stuffed := 0 }

/-- Data blocks sent or received since COUNT was 0, modulo 256 markers. -/
def Line.place (l : Line) : Nat := l.count * 4096 + l.blocks

/-- The lane moved to another place of its direction. -/
def Line.moved (l : Line) (p : Nat) : Line := { l with count := p / 4096 % 256, blocks := p % 4096 }

/-- Two lanes whose markers of one COUNT lie within the 32 blocks of the deskew buffer (R204). -/
def Line.near (a b : Line) : Bool :=
  (a.place + 2 ^ 20 - b.place) % 2 ^ 20 ≤ 32 || (b.place + 2 ^ 20 - a.place) % 2 ^ 20 ≤ 32

/-- Send a data block: coded bits through the stuffer; after 4,096 of them the marker follows (R196, R200). -/
def Line.send (l : Line) (lane phys : Nat) (bits : List Bool) : Line :=
  let a := l.stuff bits
  let b : Line := { a.1 with blocks := a.1.blocks + 1 }
  if b.blocks < 4096 then { b with wire := a.2 }
  else
    let m := b.markerStart.stuff (wordBits b.markerLen (markerWord b.count lane phys))
    { m.1 with wire := a.2 ++ m.2, blocks := 0, count := (b.count + 1) % 256 }

/-- Send a scrambled data word. -/
def Line.sendWord (l : Line) (lane phys w : Nat) : Line :=
  let r := scramble l.scr (wordBits 64 w)
  Line.send { l with scr := r.2 } lane phys r.1

/-- Send a block of the test pattern, unscrambled (R213). -/
def Line.sendPrbs (l : Line) (lane phys : Nat) : Line :=
  let r := prbsTake 64 l.prbs
  Line.send { l with prbs := r.2 } lane phys r.1

/-! ### The checker of a test loop (R213) -/

/-- One bit at the checker: out of synchronism it follows the received bits until 64 are free of error; in synchronism it
compares with its own sequence until 32 of 256 bits differ. -/
def Line.check (l : Line) (x : Bool) : Line :=
  let bad := x != prbsBit l.prbs
  if l.sync then
    let e := (2 * l.errs + b2n bad) % 2 ^ 256
    let a := { l with prbs := prbsPush l.prbs (prbsBit l.prbs), errs := e, loopErr := l.loopErr + b2n bad }
    if bad && 32 ≤ popCount e 256 then { a with sync := false, clean := 0, errs := 0 } else a
  else
    let c := if bad then 0 else l.clean + 1
    { l with prbs := prbsPush l.prbs x, clean := c, sync := c == 64, errs := 0 }

end Sys2Proof.Machine
end

