-- ==== Sys2Proof/Machine/Msgs.lean ====
section
/-! DEFINITION. Ports and the messages that leave through them (06 R134, R143 to R149): states, the flits of a message,
the queues of classes S, M and B, and the choice of the next message that credits and the replay buffer allow. -/
namespace Sys2Proof.Machine

/-- Port `k`. -/
def State.port (s : State) (k : Nat) : Port := s.ports.get {} ⟨k, 0, 0⟩
/-- Set port `k`. -/
def State.setPort (s : State) (k : Nat) (p : Port) : State := { s with ports := s.ports.set {} ⟨k, 0, 0⟩ p }

/-- Link states of Table 6-5 as `LNK_STAT`.`STATE` codes them. -/
def lnkDown : Nat := 0
def lnkAcquire : Nat := 1
def lnkAlign : Nat := 2
def lnkUp : Nat := 3
def lnkDegraded : Nat := 4
def lnkLoop : Nat := 5

/-- The state of port `k`. -/
def State.lnk (s : State) (k : Nat) : Nat := s.fld F.LNK_STAT_STATE k

/-- Ports P0 to P15 are optical, C0 = 16 and C1 = 17 copper (06). -/
def optical (k : Nat) : Bool := k < 16

/-- A port in UP or DEGRADED carries transactions (Table 6-5). -/
def State.live (s : State) (k : Nat) : Bool := s.lnk k == lnkUp || s.lnk k == lnkDegraded

/-- Flits of a message with `n` data bytes (R145). -/
def msgFlits (n : Nat) : Nat := if n ≤ 96 then 1 else 1 + (n - 96 + 115) / 116

/-- Bytes of a message: its 20-byte header (Table 6-8) and its data. -/
def Msg.bytes (m : Msg) : Bytes :=
  [BitVec.ofNat 8 m.op, BitVec.ofNat 8 m.part] ++ leBytes 2 m.tag ++ leBytes 2 m.lenb ++
  [BitVec.ofNat 8 m.status, 0] ++ leBytes 8 m.addr ++ leBytes 4 m.aux ++ m.data

/-- The number of flits of a message. -/
def Msg.flits (m : Msg) : Nat := msgFlits m.data.length

/-- The flits of a string of `n` pieces of at most 116 bytes, from sequence number `sq` on. -/
def cutFlits (cls : Nat) : Nat → Bool → Nat → Bytes → List TxFlit
  | 0, _, _, _ => []
  | n + 1, first, sq, bs =>
    ⟨sq % 4096, cls, first, n == 0, bs.take 116⟩ :: cutFlits cls n false (sq + 1) (bs.drop 116)

/-- Send one message: its flits join the replay buffer (R130) and those that wait for the line. -/
def Port.send (p : Port) (cls : Nat) (m : Msg) : Port :=
  { p with unacked := p.unacked ++ cutFlits cls m.flits true p.next m.bytes, next := (p.next + m.flits) % 4096
           wire := p.wire + m.flits }

/-- The replay buffer of 1,024 flits has room for `n` more (R130). -/
def Port.room (p : Port) (n : Nat) : Bool := p.unacked.length + n ≤ 1024

/-- Begin the B record that waits first, which uses no credits (Table 6-7). -/
def Port.nextB (p : Port) : Port :=
  match p.bq with
  | b :: t => if p.room b.flits then { p.send 3 b with bq := t } else p
  | [] => p

/-- Begin the M message that waits first, or a B record where M has no credits for it (R144); a message that waits for the replay
buffer alone lets none behind it pass (R151). -/
def Port.nextM (p : Port) : Port :=
  match p.mq with
  | m :: t =>
    if p.mCred < m.flits then p.nextB
    else if p.room m.flits then { p.send 2 m with mq := t, mCred := p.mCred - m.flits } else p
  | [] => p.nextB

/-- Begin the next message: S before M before B (R143, R151, Table 6-11).  It is chosen when the line is free for its first flit. -/
def Port.nextMsg (p : Port) : Port :=
  match p.sq with
  | m :: t =>
    if p.sCred < m.flits then p.nextM
    else if p.room m.flits then { p.send 1 m with sq := t, sCred := p.sCred - m.flits } else p
  | [] => p.nextM

/-- Flits of the M queue of a port, in all and of one partition (R149). -/
def mFlits (q : List Msg) : Nat := (q.map Msg.flits).foldl (· + ·) 0
def mFlitsOf (q : List Msg) (p : Nat) : Nat := mFlits (q.filter fun m => m.part == p)

/-- The port that carries the M messages of partition `p` (R149): the lowest active one in UP or DEGRADED. -/
def State.msgPort (s : State) (p : Nat) : Option Nat :=
  ((List.range 18).filter fun k => s.bit F.SEP_PT_PORTS_ACTIVE k p && s.live k).head?

/-- M slots that the posted completion entries of partition `p` hold for their CQ_NOTIFY (12 R328). -/
def State.mReserved (s : State) (p : Nat) : Nat := ((s.parts.get {} ⟨p, 0, 0⟩).posted.filter (·.notify)).length

/-- A slot for an M message of `n` flits can be reserved for partition `p` beside those that are (R149). -/
def State.mRoom (s : State) (p n : Nat) : Bool :=
  match s.msgPort p with
  | none => true
  | some k =>
    let held := (((List.range 16).filter fun q => s.msgPort q == some k).map s.mReserved).sum
    mFlits (s.port k).mq + held + n ≤ 256 && mFlitsOf (s.port k).mq p + s.mReserved p + n ≤ 64

/-- Send an M message of partition `p`; with no eligible port, or no room for a message that reserves none, it is
dropped and counted on the lowest port of the partition (R149, log entry 20). -/
def State.mPush (s : State) (p : Nat) (m : Msg) : State :=
  match s.msgPort p with
  | some k =>
    if s.mRoom p m.flits then
      let q := s.port k
      s.setPort k { q with mq := q.mq ++ [m] }
    else s.count F.LNK_ERRCNT_M_DROP 1 k
  | none => s.count F.LNK_ERRCNT_M_DROP 1 ((lowestBit (s.fld F.SEP_PT_PORTS_ACTIVE p) 18).getD 0)

/-- A PART_EVENT to partition `p` (21 R571, Table 21-7). -/
def State.partEvent (s : State) (p code lvl addr : Nat) : State :=
  s.mPush p { op := 0x83, part := p, addr := addr, aux := code + 256 * lvl }

end Sys2Proof.Machine
end

