-- ==== Sys2Proof/Machine/Events.lean ====
section
/-! DEFINITION. Records, notifications and the classification of events (21, 22, 23): what every chapter uses to report.
`event` carries out R558 to R560 and R567 without the reactions of Table 21-4, which Machine/Faults.lean adds. -/
namespace Sys2Proof.Machine

/-! ### Block codes (21 Table 21-1) -/
def bAON : Nat := 0x01
def bTIM : Nat := 0x02
def bREC : Nat := 0x03
def bHRD : Nat := 0x04
def bPKM : Nat := 0x05
def bEST : Nat := 0x06
def bCTR : Nat := 0x07
def bLSW : Nat := 0x08
def bLOOP : Nat := 0x09
def bTCH : Nat := 0x0A
def bRND : Nat := 0x0B
def bMGT : Nat := 0x0C
def bSEP : Nat := 0x10
def bGOV : Nat := 0x11
def bVAT : Nat := 0x12
def bPYU : Nat := 0x13
def bLSC : Nat := 0x14
def bLNK : Nat := 0x15
def bPC : Nat := 0x16
def bTIL : Nat := 0x17

/-- Levels (21 R556). -/
def lNote : Nat := 0
def lDegrade : Nat := 1
def lSevere : Nat := 2
def lHalt : Nat := 3

/-- Fault block `c`, instance `i`. -/
def State.blk (s : State) (c i : Nat) : FltBlk := s.flt.get {} ⟨c, i, 0⟩
/-- Set a fault block. -/
def State.setBlk (s : State) (c i : Nat) (b : FltBlk) : State := { s with flt := s.flt.set {} ⟨c, i, 0⟩ b }

/-- Host `h` of the mailbox. -/
def State.host (s : State) (h : Nat) : HostSt := s.mgt.hosts.get {} ⟨h, 0, 0⟩
/-- Set a host. -/
def State.setHost (s : State) (h : Nat) (x : HostSt) : State :=
  { s with mgt := { s.mgt with hosts := s.mgt.hosts.set {} ⟨h, 0, 0⟩ x } }

/-! ### The recorder queue (22 R582) -/

/-- Offer a record with a given time; what finds no room is dropped once the command is over (`State.recsOut`). -/
def State.offerAt (s : State) (optime pcyc src inst kind : Nat) (payload : Bytes) : State :=
  { s with rcd := { s.rcd with queue := s.rcd.queue ++ [⟨optime, pcyc, src, inst, kind, payload⟩], fresh := s.rcd.fresh + 1 } }

/-- Offer a record of an event detected now. -/
def State.offer (s : State) (src inst kind : Nat) (payload : Bytes) : State :=
  s.offerAt s.tim.optime s.tim.pcyc src inst kind payload

/-- `RSEQ` where an event has no record. -/
def noRseq : Nat := 0xFFFFFFFF

/-- The sequence number the next offered record will carry, should every pending one be programmed in turn; none before the scan of
the power-up has found the head of the log (log entry 21). -/
def State.nextRseq (s : State) : Nat :=
  if s.flag F.AON_SVC_STAT_REC_READY then (s.rcd.next + s.rcd.queue.length) % 2 ^ 32 else noRseq

/-! ### Notifications (23 R617) -/

/-- The management node can send: it is active and CK08 runs (03 R68, 23 R623). -/
def State.nodeUp (s : State) : Bool := s.flag F.MGT_STAT_ACTIVE && !s.pow.xsFail

/-- The fields of `MGT_NEGm`, by host modulo 8 (23 Table 23-9). -/
def negFields : List RField := [F.MGT_NEG_MINOR0, F.MGT_NEG_MINOR1, F.MGT_NEG_MINOR2, F.MGT_NEG_MINOR3, F.MGT_NEG_MINOR4,
  F.MGT_NEG_MINOR5, F.MGT_NEG_MINOR6, F.MGT_NEG_MINOR7]

/-- Negotiated minor of host `h`. -/
def State.minorOf (s : State) (h : Nat) : Nat := s.fld (negFields.getD (h % 8) F.MGT_NEG_MINOR0) (h / 8)

/-- Mailbox key of host `h`; empty where the slot is. -/
def State.keyOf (s : State) (h : Nat) : Bytes := s.mgt.keys.get [] ⟨h, 0, 0⟩

/-- `n` notifications to host `h` are dropped (R617). -/
def State.noteLost (s : State) (h n : Nat) : State :=
  let x := s.host h
  (s.setHost h { x with lost := addSat 8 x.lost n }).count F.MGT_CNT2_EVT_LOST

/-- Queue one EVENT_NOTIFY for host `h`; below minor 3 its `RSEQ` reads 0 (R613).  One that finds its queue full, or CK08 failed, is
dropped and counted (R617, R623, log entry 63). -/
def State.notifyHost (s : State) (h cls code inst typ lvl rseq : Nat) (data : Bytes) : State :=
  if s.bit F.MGT_HELLO_DONE h && hasBit (s.host h).feat 1 then
    let x := s.host h
    let n := (x.evCount + 1) % 2 ^ 32
    if s.nodeUp && (s.mgt.notes.filter fun m => m.host == h).length < 16 then
      let note : Notif := ⟨h, n, cls, code, inst, typ, lvl, x.lost, if s.minorOf h < 3 then 0 else rseq, data, x.addr,
        s.minorOf h, s.keyOf h⟩
      let s1 := s.setHost h { x with evCount := n, lost := 0 }
      { s1 with mgt := { s1.mgt with notes := s1.mgt.notes ++ [note] } }
    else (s.setHost h { x with evCount := n }).noteLost h 1
  else s

/-- Send an EVENT_NOTIFY to every host with EVENTS in its intersection. -/
def State.notify (s : State) (cls code inst typ lvl rseq : Nat) (data : Bytes) : State :=
  (List.range 16).foldl (fun a h => a.notifyHost h cls code inst typ lvl rseq data) s

/-! ### Events (21 R556 to R560) -/

/-- An event at its detection: block, instance, type, stated level, captured address and master (Table 21-3). -/
structure Ev where
  code : Nat
  inst : Nat
  typ : Nat
  lvl : Nat
  addr : Nat := 0
  kind : Nat := 0
  id : Nat := 0
  part : Nat := 255
  deriving DecidableEq, Repr

/-- The register in which a source of a supervisor block shows, where one does (Table 21-3, log entry 32). -/
def supIndex (code typ : Nat) : Nat :=
  if code = bAON then (if typ ≤ 5 then 0x0212 else if typ ≤ 9 then 0x0109 else 0x0143)
  else if code = bTIM then 0x0302
  else if code = bREC then (if typ = 2 then 0 else 0x0403)
  else if code = bCTR then 0x0E03
  else if code = bLSW then (if typ ≤ 2 then 0x1001 else if typ = 3 then 0x1002 else 0x1004)
  else if code = bLOOP then (if typ = 1 then 0x110D else 0x1114)
  else if code = bTCH then 0x1188
  else if code = bRND then (if typ = 1 then 0x1202 else if typ = 2 then 0x1203 else 0x1200)
  else if code = bMGT then (if typ = 3 then 0x1400 else 0x1402)
  else 0

/-- An event of a supervisor block whose address is a register index. -/
def supEvent (code typ lvl : Nat) : Ev := ⟨code, 0, typ, lvl, supIndex code typ, 0, 0, 255⟩

/-- The fault identifier (R560). -/
def fidOf (code inst typ seq : Nat) : Nat := code * 2 ^ 24 + inst * 2 ^ 16 + typ * 2 ^ 8 + seq

/-- Every source of a block, as a listed detector of Table 21-5. -/
def allSources : Nat := 255

/-- A list of detectors holds detector `d`, by itself or with every source of its block. -/
def Det.among (d : Det) (l : List Det) : Bool := l.contains d || l.contains { d with typ := allSources }

/-- FID that the records of detector `d` carry under a shadow: that of the first of the shadows that overlapped on it (R573). -/
def Shadow.fidFor (sh : Shadow) (d : Det) : Nat :=
  ((sh.older.find? fun x => d.among [x.1]).map (·.2)).getD sh.fid

/-- The shadow an event falls under: the one in force that started first (R567, R573). -/
def State.shadowOf (s : State) (d : Det) : Option Shadow := s.shadows.find? fun sh => d.among sh.dets

/-- Record an event of detector `d` under shadow `sh` (R567): counted always, recorded where it is the detector's first in some
shadow in force. -/
def State.shadowed (s : State) (e : Ev) (d : Det) (sh : Shadow) : State :=
  let b := s.blk e.code e.inst
  let s1 := s.setBlk e.code e.inst { b with shadowed := incSat 16 b.shadowed }
  let first (x : Shadow) : Bool := d.among x.dets && !x.recorded.contains d
  if s1.shadows.any first then
    State.offer { s1 with shadows := s1.shadows.map fun x => if first x then { x with recorded := d :: x.recorded } else x }
      e.code e.inst 0x06 ([BitVec.ofNat 8 e.typ, 0, 0, 0] ++ leBytes 4 (sh.fidFor d) ++ leBytes 8 e.addr)
  else s1

/-- What classification says of an event (R558, R559, R569). -/
structure Verdict where
  lvl : Nat
  promoted : Bool
  first : Bool
  entry : Bool
  rise : Bool
  latch : Bool
  deriving DecidableEq, Repr

/-- Events of type `t` in the last `W` ms, this one included (R558). -/
def FltBlk.windowCount (b : FltBlk) (now t : Nat) : Nat :=
  1 + (b.times.filter fun x => x.1 == t && now < x.2 + b.win).length

/-- Exits within the preceding 24 h of OPTIME (R569), of the last RLIM. -/
def FltBlk.exitsIn24h (b : FltBlk) (now : Nat) : Nat := ((b.exits.take b.rlim).filter fun x => now ≤ x + 86400000).length

/-- Classify an event of type `t` stated at level `stated` (R558, R559, R569). -/
def FltBlk.judge (b : FltBlk) (now t stated : Nat) : Verdict :=
  let n := if b.cnt = 0 then 1 else b.cnt
  let promoted := stated < lSevere && n ≤ b.windowCount now t
  let lvl := if promoted then lSevere
    else if stated ≥ lDegrade ∧ hasBit b.unack t then min lHalt (max stated (b.last.get 0 ⟨t, 0, 0⟩) + 1) else stated
  let entry := lvl ≥ lDegrade && !b.active
  { lvl := lvl, promoted := promoted, first := !b.valid, entry := entry, rise := b.active && lvl > b.level,
    latch := entry && b.rlim != 0 && b.rlim ≤ b.exitsIn24h now && !b.latched }

/-- The block after an event (R558 to R560, R569). -/
def FltBlk.take (b : FltBlk) (now pcyc : Nat) (e : Ev) (v : Verdict) : FltBlk :=
  let esc := !v.promoted && v.lvl ≥ lDegrade
  { b with
    unack := if esc then putBit b.unack e.typ true else b.unack
    last := if esc then b.last.set 0 ⟨e.typ, 0, 0⟩ v.lvl else b.last
    lastSrc := e.typ
    active := b.active || v.entry
    level := if v.entry then v.lvl else if v.rise then v.lvl else b.level
    latched := b.latched || v.latch
    nonWire := (b.active && b.nonWire) || (v.lvl ≥ lDegrade && !(e.code == bAON && e.typ == 0x0A))
    addr := if v.first then e.addr else b.addr
    mId := if v.first then e.id else b.mId
    mKind := if v.first then e.kind else b.mKind
    mPart := if v.first then e.part else b.mPart
    valid := true
    more := if v.first then false else true
    fLevel := if v.first then v.lvl else b.fLevel
    fType := if v.first then e.typ else b.fType
    fPcyc := if v.first then pcyc else b.fPcyc
    fOptime := if v.first then now else b.fOptime
    seq := (b.seq + 1) % 256
    events := incSat 32 b.events
    times := (e.typ, now) :: b.times.filter fun x => now < x.2 + 3600000 }

/-- A FAULT record (22 Table 22-2, KIND 0x05). -/
def faultPayload (fid lvl reason mask addr id kind part : Nat) : Bytes :=
  leBytes 4 fid ++ [BitVec.ofNat 8 lvl, BitVec.ofNat 8 reason, BitVec.ofNat 8 mask, 0] ++ leBytes 8 addr ++
  [BitVec.ofNat 8 id, BitVec.ofNat 8 kind, BitVec.ofNat 8 part]

/-- Mask and strongest of the reasons of a record, in the order latched, entry, rise, promotion, first (R559). -/
def Verdict.mask (v : Verdict) : Nat :=
  b2n v.first + 2 * b2n v.entry + 4 * b2n v.rise + 8 * b2n v.promoted + 32 * b2n v.latch
def Verdict.reason (v : Verdict) : Nat :=
  if v.latch then 5 else if v.entry then 1 else if v.rise then 2 else if v.promoted then 3 else 0

/-- The partition that a PART_EVENT of a TIL_ or SEP_PC_ block goes to, with its code and address (R571). -/
def State.partOfBlock (s : State) (code inst : Nat) : Option Nat :=
  if code = bPC then some inst
  else if code = bTIL then ((List.range 16).filter fun p => s.bit F.SEP_PT_TILES_TILES inst p).head?
  else none

/-- Classify, count, capture, record and notify one event (R558 to R560, R567, R571). -/
def State.event (s : State) (e : Ev) : State :=
  match s.shadowOf ⟨e.code, e.inst, e.typ⟩ with
  | some sh => s.shadowed e ⟨e.code, e.inst, e.typ⟩ sh
  | none =>
    let b := s.blk e.code e.inst
    let v := b.judge s.tim.optime e.typ e.lvl
    let b1 := b.take s.tim.optime s.tim.pcyc e v
    let fid := fidOf e.code e.inst e.typ b1.seq
    let rs := s.nextRseq
    let writes := v.first || v.entry || v.rise || v.promoted || v.latch
    let s1 := s.setBlk e.code e.inst b1
    let s2 := if writes then s1.offer e.code e.inst 0x05 (faultPayload fid v.lvl v.reason v.mask e.addr e.id e.kind e.part) else s1
    if v.entry || v.rise then
      let s3 := s2.notify 3 e.code e.inst e.typ v.lvl rs (leBytes 4 fid)
      match s.partOfBlock e.code e.inst with
      | some p => s3.partEvent p (if e.code = bTIL then 0x01 else 0x05) v.lvl (if e.code = bTIL then e.inst else e.typ)
      | none => s3
    else s2

/-! ### The records of one command (R582, R595) -/

/-- A command begins: it has offered no record yet. -/
def State.recsIn (s : State) : State := { s with rcd := { s.rcd with fresh := 0 } }

/-- Block code and instance of a record come no later than those of another. -/
def LogRec.upTo (a b : LogRec) : Bool := a.src < b.src || (a.src == b.src && a.inst ≤ b.inst)

/-- Put a record, with its place in order of detection, before the first one of a higher block. -/
def recInsertBy (x : Nat × LogRec) : List (Nat × LogRec) → List (Nat × LogRec)
  | [] => [x]
  | y :: t => if x.2.upTo y.2 then x :: y :: t else y :: recInsertBy x t

/-- Records with their places in order of detection, by ascending block code and instance; those of a block keep their order. -/
def recSort : Nat → List LogRec → List (Nat × LogRec)
  | _, [] => []
  | n, r :: t => recInsertBy (n, r) (recSort (n + 1) t)

/-- Place in `l` of the record detected as number `n`; past its end where there is none. -/
def placeIn (l : List (Nat × LogRec)) (n : Nat) : Nat := l.findIdx fun x => x.1 == n

/-- The records of one command join the queue in ascending block code (R595), and the notifications sent with them name the
sequence numbers that they get. -/
def State.recsOrder (s : State) : State :=
  let q := s.rcd.queue
  let k := q.length - s.rcd.fresh
  let l := recSort 0 (q.drop k)
  let base := s.rcd.next + k
  let seqOf (r : Nat) : Nat :=
    let n := (2 ^ 32 - base % 2 ^ 32 + r) % 2 ^ 32
    if n < l.length then (base + placeIn l n) % 2 ^ 32 else r
  { s with
    rcd := { s.rcd with queue := q.take k ++ l.map (·.2) }
    mgt := { s.mgt with notes := s.mgt.notes.map fun m => if m.minor < 3 then m else { m with rseq := seqOf m.rseq } } }

/-- Classify `n` queue overflows of the recorder. -/
def State.overflows : Nat → State → State
  | 0, s => s
  | n + 1, s => State.overflows n (s.event (supEvent bREC 0x04 lDegrade))

/-- The records that stood at places `k` to `k + n - 1` of the queue are dropped: the notifications sent with them name none (R617). -/
def State.rseqDrop (s : State) (k n : Nat) : State :=
  let base := (s.rcd.next + k) % 2 ^ 32
  let gone (m : Notif) : Bool := 3 ≤ m.minor && (2 ^ 32 - base + m.rseq) % 2 ^ 32 < n
  { s with mgt := { s.mgt with notes := s.mgt.notes.map fun m => if gone m then { m with rseq := noRseq } else m } }

/-- Records of the command beyond the 32 that the queue holds are dropped and counted, each with a QUEUE_OVF event (R582).  The
records of those events find no room either; after eight rounds of such events the rest is dropped alone (log entry 58). -/
def State.recsTrim : Nat → State → State
  | 0, s =>
    let k := max 32 (s.rcd.queue.length - s.rcd.fresh)
    let t := s.rseqDrop k (s.rcd.queue.length - k)
    { t with rcd := { t.rcd with queue := t.rcd.queue.take k } }
  | f + 1, s =>
    let r := s.rcd
    let n := min r.fresh (r.queue.length - 32)
    if n = 0 then s
    else
      let lost := r.queue.drop (r.queue.length - n)
      let at_ := (lost.head?.map (·.optime)).getD s.tim.optime
      let t := s.rseqDrop (r.queue.length - n) n
      let s1 := State.count { t with rcd := { r with
        queue := r.queue.take (r.queue.length - n)
        fresh := r.fresh - n
        drops := r.drops + n
        dropFirst := if r.drops = 0 then at_ else r.dropFirst } } F.REC_CNT_DROPPED n
      State.recsTrim f (State.overflows n s1)

/-- A command is over: its records stand in the queue as R582 and R595 have them. -/
def State.recsOut (s : State) : State := if s.rcd.fresh = 0 then s else (State.recsTrim 8 s.recsOrder).recsIn

/-- Level that an event reaches, as `event` will classify it; none where it is shadowed. -/
def State.levelOf (s : State) (e : Ev) : Option Nat :=
  match s.shadowOf ⟨e.code, e.inst, e.typ⟩ with
  | some _ => none
  | none => some ((s.blk e.code e.inst).judge s.tim.optime e.typ e.lvl).lvl

/-! ### The fault pair (21 R564, R565) -/

/-- Physical numbers of the enabled tiles, by logical number (00 R4). -/
def State.enabled (s : State) : List Nat := (List.range 64).filter fun p => !s.fused.contains p

/-- The enabled tiles of the part, N of 00 R4. -/
def State.tileCount (s : State) : Nat := s.enabled.length

/-- The logical tiles. -/
def State.tileList (s : State) : List Nat := List.range s.tileCount

/-- Tile group of logical tile `t` (03 Table 3-1: physical tiles 8g to 8g + 7). -/
def State.groupOf (s : State) (t : Nat) : Nat := s.enabled.getD t 0 / 8

/-- The logical tiles of group `g`. -/
def State.groupTiles (s : State) (g : Nat) : List Nat := s.tileList.filter fun t => s.groupOf t == g

/-- The power domain of a core block; none for a supervisor block (03 Table 3-1, log entry 33). -/
def State.blkDomain (s : State) (c i : Nat) : Option Nat :=
  if c = bVAT then some 9 else if c = bPYU then some (10 + i) else if c = bTIL then some (15 + s.groupOf i)
  else if c < bSEP then none else some 8

/-- The domain of a block has power: it has come up and is not off again, so not in a wake, nor after one that was cut short
(03 R79). -/
def State.blkPowered (s : State) (c i : Nat) : Bool :=
  match s.blkDomain c i with
  | none => true
  | some d => hasBit s.pow.ready d

/-- Block `c`, instance `i` asserts the fault pair (R564), which a block without power cannot (R570). -/
def State.blkAsserts (s : State) (c i : Nat) : Bool :=
  s.blkPowered c i &&
  let b := s.blk c i
  let quietWire := c == bAON && !b.nonWire
  !quietWire && (b.latched ||
    (b.active &&
      (if c = bPC ∨ c = bTIL then b.level == lHalt
       else b.level ≥ lSevere || (b.level == lDegrade && b.pairDeg))))

/-- Instances of a block code (Table 21-1); tiles that the part does not have are none (00 R5). -/
def State.instancesOf (s : State) (c : Nat) : Nat :=
  if c = bVAT then 8 else if c = bPYU then 4 else if c = bLNK then 18 else if c = bPC then 16
  else if c = bTIL then s.tileCount else 1

/-- Some instance of block code `c` asserts. -/
def State.codeAsserts (s : State) (c : Nat) : Bool := (List.range (s.instancesOf c)).any (s.blkAsserts c)

/-- Some block asserts, or hold-up runs (R565): the pair is (0,1), else (1,0), from phase S on (02 R41). -/
def State.pairAsserted (s : State) : Bool :=
  s.flag F.AON_PIN_PHASE_HOLDUP ||
  ([1, 2, 3, 4, 5, 6, 7, 8, 9, 10, 11, 12, 16, 17, 18, 19, 20, 21, 22, 23]).any s.codeAsserts

/-- The driven state of FLTA and FLTB (02 R41): bit 1 FLTA, bit 0 FLTB. -/
def State.pairDriven (s : State) : Nat :=
  match s.pow.phase with
  | .u | .x => 0
  | _ => if s.pairAsserted then 1 else 2

/-! ### Shadows (21 R566) -/

/-- Fault identifier of the newest classified event of a block (R560, R567). -/
def State.lastFid (s : State) (c i : Nat) : Nat := fidOf c i (s.blk c i).lastSrc (s.blk c i).seq

/-- The detectors of `dets` that shadow `r` covers too, with the FID that their records carry under it. -/
def Shadow.shared (r : Shadow) (dets : List Det) : List (Det × Nat) :=
  ((r.dets.filter fun d => d.among dets) ++ dets.filter fun d => d.among r.dets).map fun d => (d, r.fidFor d)

/-- Declare a shadow, also where one of the same reaction still runs (R566, R573). -/
def State.declareShadow (s : State) (kind inst fid : Nat) (dets : List Det) : State :=
  { s with shadows := s.shadows ++ [⟨⟨kind, inst⟩, fid, dets, [], s.shadows.flatMap fun r => r.shared dets⟩] }

end Sys2Proof.Machine
end

