-- ==== Sys2Proof/Machine/Service.lean ====
section
/-! DEFINITION. Skim and full service (04 R89 to R93): ASSIST_ON and SKIM follow their conditions, and each change of the
reported fields is recorded and notified once. -/
namespace Sys2Proof.Machine

/-- The stored word of supervisor register `idx`. -/
def State.supStored (s : State) (idx : Nat) : Nat :=
  match findReg idx supRegs with
  | some (d, i) => s.readFields i 0 d.fields
  | none => 0

/-- PD08 is on, or on its way off after it was on: the governor runs (15 R413). -/
def State.govRuns (s : State) : Bool := hasBit s.pow.ready 8

/-- ASSIST_ON and SKIM as R91, R92 and 15 R413 have them. -/
def State.svcSettle (s : State) : State :=
  let s1 := s.putFlag F.AON_SVC_STAT_ASSIST_ON (s.fld F.AON_SVC_STAT_ASSIST_BLK == 0 && s.govRuns)
  s1.putFlag F.AON_SVC_STAT_SKIM
    (s1.fld F.AON_SVC_STAT_COMPUTE ≤ 1 || s1.fld F.AON_SVC_STAT_OPT_NARROW != 0 ||
     !s1.flag F.AON_SVC_STAT_EST_LOADED || s1.fld F.AON_SVC_STAT_ASSIST_BLK != 0)

/-- Some field that R93 reports differs, or an OPT_NARROW bit has cleared. -/
def svcChanged (a b : State) : Bool :=
  a.fld F.AON_SVC_STAT_COMPUTE != b.fld F.AON_SVC_STAT_COMPUTE ||
  a.fld F.AON_SVC_STAT_EST_LOADED != b.fld F.AON_SVC_STAT_EST_LOADED ||
  a.fld F.AON_SVC_STAT_ASSIST_ON != b.fld F.AON_SVC_STAT_ASSIST_ON ||
  a.fld F.AON_SVC_STAT_SKIM != b.fld F.AON_SVC_STAT_SKIM ||
  (List.range 16).any fun n => a.bit F.AON_SVC_STAT_OPT_NARROW n && !b.bit F.AON_SVC_STAT_OPT_NARROW n

/-- The SERVICE record and the notification of class 2 (R93). -/
def State.svcReport (s : State) : State :=
  let w := leBytes 4 (s.supStored 0x110)
  (s.offer bAON 0 0x08 w).notify 2 bAON 0 0 0 s.nextRseq w

/-- Do something that `AON_SVC_STAT` shows: ASSIST_ON and SKIM follow. -/
def State.withSvc (s : State) (f : State → State) : State := (f s).svcSettle

/-- What happened at one instant, from `was` on, is reported as one change of the service (R93). -/
def State.serviced (was s : State) : State := if svcChanged was s then s.svcReport else s

/-! ### Actions at the front (01 R21) -/

/-- `AON_FRONT_EVT` bits that report a change of the bits `d` of `AON_FRONT_STAT`. -/
def frontBits (d : Nat) : Nat :=
  bitField d 16 16 * 2 ^ 16 + bitField d 15 1 * 2 ^ 14 + bitField d 14 1 * 2 ^ 13 + bitField d 12 1 * 2 ^ 12 +
  bitField d 8 4 * 2 ^ 8 + bitField d 0 8

/-- Set the event bits of a front action. -/
def State.frontEvt (s : State) (d : Nat) : State :=
  let e := frontBits d
  let g (a : State) (f : RField) : State := a.put f (a.fld f ||| bitField e f.lsb f.width)
  g (g (g (g (g (g s F.AON_FRONT_EVT_LIGHT_CHG) F.AON_FRONT_EVT_WAKE_CHG) F.AON_FRONT_EVT_SVC_CHG) F.AON_FRONT_EVT_LSC_CHG)
    F.AON_FRONT_EVT_TK_CHG) F.AON_FRONT_EVT_SI_CHG

/-- Report a change from `was` to `s` at the front: event bits, a FRONT record and a notification of class 1 (R21). -/
def State.frontReport (was s : State) : State :=
  let n := s.supStored 0x140
  let d := was.supStored 0x140 ^^^ n
  if d = 0 then s
  else
    let b := leBytes 4 n ++ leBytes 4 d
    ((s.frontEvt d).offer bAON 0 0x07 b).notify 1 bAON 0 0 0 s.nextRseq b

/-! ### General counters (22 R593, R594) -/

/-- Value of counter `n`. -/
def State.gc (s : State) (n : Nat) : Nat := s.tim.gc.get 0 ⟨n, 0, 0⟩

/-- Counter `n` counts once; from 2^48 - 1 it goes to 0, sets OVF and notifies (R593). -/
def State.gcOne (s : State) (n : Nat) : State :=
  let v := s.gc n + 1
  let s1 : State := { s with tim := { s.tim with gc := s.tim.gc.set 0 ⟨n, 0, 0⟩ (v % 2 ^ 48) } }
  if v = 2 ^ 48 then (s1.putBitOf F.TIM_GC_EVT_OVF n true).notify 9 bTIM 0 n 0 noRseq [BitVec.ofNat 8 n] else s1

/-- GC_OVERFLOW: the event that takes a counter with a source past 2^48 - 1 (R593). -/
def State.gcWraps (s : State) (n : Nat) : State :=
  if s.fld F.TIM_GC_CFG_SRC n ≠ 0 ∧ s.gc n = 2 ^ 48 - 1 then s.gcOne n else s

/-- One event of source `src` (Table 22-5): every counter that selects it counts. -/
def State.gcSrc (s : State) (src : Nat) : State :=
  (List.range 4).foldl (fun a n => if a.fld F.TIM_GC_CFG_SRC n = src then a.gcOne n else a) s

/-- `k` events of a source. -/
def State.gcSrcN : Nat → Nat → State → State
  | 0, _, s => s
  | k + 1, src, s => State.gcSrcN k src (s.gcSrc src)

end Sys2Proof.Machine
end

