-- ==== Sys2Proof/Machine/LinkOps.lean ====
section
/-! DEFINITION. The link states and the operations that move a port between them (06 R134 to R142, 07 R180, 08 R207 to
R212), with the events of the LNK_ block and its HALT reaction (21 Table 21-4). -/
namespace Sys2Proof.Machine

/-- The engine of an optical port (07 R162). -/
def engOf (k : Nat) : Nat := k / 4

/-- Engine `e`. -/
def State.eng (s : State) (e : Nat) : Eng := s.engs.get {} ⟨e, 0, 0⟩
/-- Set an engine. -/
def State.setEng (s : State) (e : Nat) (x : Eng) : State := { s with engs := s.engs.set {} ⟨e, 0, 0⟩ x }
/-- A power domain's state; PD00 to PD02, PD06 and PD07 are on in every phase from S on (03 R56). -/
def State.dom (s : State) (d : Nat) : PdSt := s.pow.pd.get .off ⟨d, 0, 0⟩
/-- The bit of `AON_PD_STAT` after a change of a domain's state: it falls when the domain is off (03 R55). -/
def pdBit (was : Bool) : PdSt → Bool
  | .on => true
  | .falling => was
  | .off | .waking => false
/-- Set a power domain's state. -/
def State.setDom (s : State) (d : Nat) (x : PdSt) : State :=
  { s with pow := { s.pow with pd := s.pow.pd.set .off ⟨d, 0, 0⟩ x, ready := putBit s.pow.ready d (pdBit (hasBit s.pow.ready d) x) } }

/-- Engine `e` is ready: on and not resetting (07 R184, R194). -/
def State.engReady (s : State) (e : Nat) : Bool := s.dom (10 + e) == .on && !(s.eng e).resetting

/-- Ring `n` of port `k` in one direction. -/
def State.ring (s : State) (k : Nat) (rx : Bool) (n : Nat) : Ring := s.rings.get {} ⟨k, b2n rx, n⟩
/-- Set a ring. -/
def State.setRing (s : State) (k : Nat) (rx : Bool) (n : Nat) (x : Ring) : State :=
  { s with rings := s.rings.set {} ⟨k, b2n rx, n⟩ x }

/-- Put a ring into a state (07 R164). -/
def State.ringSt (s : State) (k : Nat) (rx : Bool) (n st : Nat) : State :=
  s.setRing k rx n { s.ring k rx n with st := st }

/-- Every ring of one direction of a port. -/
def State.ringsSt (s : State) (k : Nat) (rx : Bool) (f : Nat → Nat) : State :=
  (List.range 20).foldl (fun a n => a.ringSt k rx n (f n)) s

/-! ### Lane maps, lanes and widths -/

/-- Wavelength or pair of logical lane `l` (06 Table 6-18). -/
def State.mapOf (s : State) (k : Nat) (rx : Bool) (l : Nat) : Nat :=
  bitField (s.fld (if rx then (if l < 8 then F.LNK_RXMAP0_MAP else F.LNK_RXMAP1_MAP)
    else (if l < 8 then F.LNK_TXMAP0_MAP else F.LNK_TXMAP1_MAP)) k) (5 * (l % 8)) 5

/-- Map logical lane `l` to wavelength `b`. -/
def State.setMap (s : State) (k : Nat) (rx : Bool) (l b : Nat) : State :=
  let f := if rx then (if l < 8 then F.LNK_RXMAP0_MAP else F.LNK_RXMAP1_MAP)
    else (if l < 8 then F.LNK_TXMAP0_MAP else F.LNK_TXMAP1_MAP)
  let old := s.fld f k
  s.put f (old - bitField old (5 * (l % 8)) 5 * 2 ^ (5 * (l % 8)) + (b % 32) * 2 ^ (5 * (l % 8))) k

/-- Reset both maps of a port to the identity (R126). -/
def State.mapIdentity (s : State) (k : Nat) : State :=
  (((s.clr F.LNK_TXMAP0_MAP k).clr F.LNK_TXMAP1_MAP k).clr F.LNK_RXMAP0_MAP k).clr F.LNK_RXMAP1_MAP k

/-- Data lanes of a port (R126). -/
def lanesOf (k : Nat) : Nat := if optical k then 16 else 8

/-- Wavelength or pair `n` is locked in the sense of 08 R210. -/
def State.locked (s : State) (k n : Nat) : Bool :=
  !s.bit F.LNK_LANE_STAT_LOS n k && !s.bit F.LNK_LANE_STAT_LOL n k &&
  (!optical k || (!s.flag F.LNK_LANE_STAT_CLK_LOL k && (s.ring k true n).st == 1 && !(s.ring k true n).lost))

/-- The lanes whose receiver is locked, as a mask. -/
def State.lockedLanes (s : State) (k : Nat) : Nat := maskOf (lanesOf k) fun l => s.locked k (s.mapOf k true l)

/-- The line of the lowest active lane of a direction, whose markers count for the direction (R127). -/
def State.refLine (s : State) (k : Nat) (rx : Bool) : Line :=
  s.line k rx (s.mapOf k rx ((lowestBit (s.fld (if rx then F.LNK_STAT_RXSET else F.LNK_STAT_TXSET) k) 16).getD 0))

/-- COUNT of the next marker that the module sends (R127). -/
def State.nextMark (s : State) (k : Nat) : Nat := (s.refLine k false).count

/-- Marker `m` of a direction has passed: its lanes keep their skew (R127). -/
def State.markPassed (s : State) (k : Nat) (rx : Bool) (m : Nat) : State :=
  let d := (m + 1) % 256 * 4096 + 2 ^ 20 - (s.refLine k rx).place
  (List.range 20).foldl (fun a n => a.setLine k rx n ((a.line k rx n).moved ((a.line k rx n).place + d))) s

/-- Of receive wavelengths or pairs in order, those that lie within the deskew buffer of every one kept before them (08 R204). -/
def State.keepNear (s : State) (k : Nat) : List Nat → List Nat → List Nat
  | kept, [] => kept
  | kept, n :: t => s.keepNear k (if kept.all fun m => (s.line k true n).near (s.line k true m) then kept ++ [n] else kept) t

/-- The markers of wavelength or pair `n` lie within the deskew buffer of those of every aligned lane (08 R204). -/
def State.deskews (s : State) (k n : Nat) : Bool :=
  (List.range (lanesOf k)).all fun l =>
    let m := s.mapOf k true l
    !s.bit F.LNK_LANE_STAT_MALIGN m k || (s.line k true n).near (s.line k true m)

/-- The lanes that are locked, marker-aligned and within reach of the deskew buffer (R136, 08 R204), as a mask. -/
def State.goodLanes (s : State) (k : Nat) : Nat :=
  let ok (n : Nat) : Bool := s.locked k n && s.bit F.LNK_LANE_STAT_MALIGN n k
  let kept := s.keepNear k [] (((List.range (lanesOf k)).map (s.mapOf k true)).filter ok)
  maskOf (lanesOf k) fun l => kept.contains (s.mapOf k true l)

/-- The width a mask allows: the largest of 16, 15, 8 and 4 (optical) or 8 and 4 (copper) (R137). -/
def widthFor (k n : Nat) : Nat :=
  if optical k then (if n ≥ 16 then 16 else if n = 15 then 15 else if n ≥ 8 then 8 else if n ≥ 4 then 4 else 0)
  else if n ≥ 8 then 8 else if n ≥ 4 then 4 else 0

/-- The active set of a mask: that many of its lowest lanes (R137). -/
def activeOf (k mask : Nat) : Nat :=
  let ls := bitsSet mask (lanesOf k)
  (ls.take (widthFor k ls.length)).foldl (fun m l => m + 2 ^ l) 0

/-- The full set of a port. -/
def fullSet (k : Nat) : Nat := 2 ^ lanesOf k - 1

/-- Wavelengths of λ0 to λ15 and λ17 to λ19 that are neither mapped nor failed in a direction (R140, 07 R173). -/
def State.spares (s : State) (k : Nat) (rx : Bool) : List Nat :=
  let p := s.port k
  let fl := if rx then p.failRx else p.failTx
  (List.range 20).filter fun n => n != 16 && !hasBit fl n && !s.bit F.PYU_STAT_FAIL n (engOf k) &&
    !((List.range 16).any fun l => s.mapOf k rx l == n)

/-- Ring `n` carries λ16 or a mapped lane of its direction. -/
def State.carries (s : State) (k : Nat) (rx : Bool) (n : Nat) : Bool :=
  n == 16 || (List.range 16).any fun l => s.mapOf k rx l == n

/-! ### Rings (07 R164, R173, R177, R180) -/

/-- The state of ring `n` while it is not under calibration.  Transmit: in DOWN parked but in a probe burst; else λ16 its
clock, a working mapped lane its data or, outside the active set and below UP, scrambled idle; the wavelength that an open
remap names what the mode has it send; every other ring parked.  Receive: in DOWN and on a spare STANDBY; else LOCK. -/
def State.ringRole (s : State) (k : Nat) (rx : Bool) (n : Nat) : Nat :=
  let p := s.port k
  let fail := s.bit F.PYU_STAT_FAIL n (engOf k)
  let lane := ((List.range 16).filter fun l => s.mapOf k rx l == n).head?
  if s.lnk k = lnkDown then
    (if rx || !s.flag F.PYU_PORT_STAT_SHUTTER k then 0 else if n = 16 then 2 else if n < 16 && !fail then 3 else 0)
  else if rx then (if n = 16 || lane.isSome || p.rRx.any (fun h => h.b == n) then 1 else 0)
  else if n = 16 then 2
  else if fail then 0
  else
    match lane with
    | some l =>
      if (s.ring k false n).lost then 0
      else if s.lnk k = lnkLoop || (s.live k && s.bit F.LNK_STAT_TXSET l k) then 1 else 3
    | none =>
      match p.rTx with
      | some h => if h.b = n then (if h.fail then 3 else 1) else 0
      | none => 0

/-- Every ring of an optical port that is not under calibration takes the state that its part asks for. -/
def State.ringsSettle (s : State) (k : Nat) : State :=
  if optical k then
    (List.range 20).foldl (fun a n => [false, true].foldl (fun b rx =>
      if (b.ring k rx n).st = 4 then b else b.ringSt k rx n (s.ringRole k rx n)) a) s
  else s

/-- Some ring of a port is under calibration. -/
def State.calBusy (s : State) (k : Nat) : Bool :=
  (List.range 20).any fun n => (s.ring k false n).st == 4 || (s.ring k true n).st == 4

/-- `CAL_BUSY` follows the rings. -/
def State.calShow (s : State) (k : Nat) : State := s.putFlag F.PYU_PORT_STAT_CAL_BUSY (s.calBusy k) k

/-- Rings under calibration in one direction of a port. -/
def State.calCount (s : State) (k : Nat) (rx : Bool) : Nat :=
  ((List.range 20).filter fun n => (s.ring k rx n).st == 4).length

/-- Calibrate ring `n`, now or, where five calibrate in its port and direction, after one of them (R177). -/
def State.calStart (s : State) (k : Nat) (rx : Bool) (n : Nat) : State :=
  let r := s.ring k rx n
  if r.st = 4 then s
  else if s.calCount k rx < 5 then (s.setRing k rx n { r with st := 4, due := false }).calShow k
  else s.setRing k rx n { r with due := true }

/-- The next ring that waits for its calibration starts, λ16 first; none that carries λ16 or a lane in UP or DEGRADED
(R177). -/
def State.calNext (s : State) (k : Nat) (rx : Bool) : State :=
  match (16 :: List.range 20).filter (fun n => (s.ring k rx n).due && !(s.live k && s.carries k rx n)) with
  | n :: _ => if s.calCount k rx < 5 then s.calStart k rx n else s
  | [] => s

/-- Rings that wait for a calibration take the places that are free. -/
def State.calFill (s : State) (k : Nat) : State :=
  ((List.range 5).foldl (fun a _ => (a.calNext k false).calNext k true) s).calShow k

/-- Every ring of a port with a working laser is to be calibrated (R177, R194); the first five of each direction start. -/
def State.calAll (s : State) (k : Nat) : State :=
  let s1 := (List.range 20).foldl (fun a n => [false, true].foldl (fun b rx =>
    b.setRing k rx n { b.ring k rx n with st := 0, due := !s.bit F.PYU_STAT_FAIL n (engOf k) }) a) s
  s1.calFill k

/-- Every ring of a port is dark: parked or in STANDBY, none waiting for a calibration (R182, R186). -/
def State.ringsOff (s : State) (k : Nat) : State :=
  ((List.range 20).foldl (fun a n => [false, true].foldl (fun b rx =>
    b.setRing k rx n { b.ring k rx n with st := 0, due := false }) a) s).calShow k

/-- The DFE taps of a lane reset to 0 (08 R208). -/
def State.dfeZero (s : State) (k n : Nat) : State :=
  (((((s.put F.LNK_DFE_H1 0 k n).put F.LNK_DFE_H2 0 k n).put F.LNK_DFE_H3 0 k n).put F.LNK_DFE_H4 0 k n).put F.LNK_DFE_H5 0 k n).put
    F.LNK_DFE_SAT 0 k n

/-- A wavelength begins to carry a lane of the transmit direction: its markers come with those of the direction, which has come to
`place` (06 R127, 08 R196, R200, R204). -/
def State.lineStart (s : State) (k n place : Nat) : State :=
  s.setLine k false n ({ s.line k false n with stuffed := 0, deficit := 0, run := 0, wire := [] }.moved place)

/-- A receive wavelength goes into lock for a lane that it did not carry: its tracker locks, its markers are found and its taps
adapt anew (08 R208, R209; DEDUCED, log entry 81). -/
def State.lockAnew (s : State) (k n : Nat) : State :=
  (((s.dfeZero k n).setLine k true n {}).putBitOf F.LNK_LANE_STAT_LOL n true k).putBitOf F.LNK_LANE_STAT_MALIGN n false k

/-- No ring that carries a data lane stays under calibration, or waits for one (07 R177). -/
def State.calStop (s : State) (k : Nat) (rx : Bool) (n : Nat) : State :=
  if n != 16 && s.carries k rx n then s.setRing k rx n { s.ring k rx n with st := if (s.ring k rx n).st = 4 then 0 else (s.ring k rx n).st, due := false }
  else s

/-- After the maps of a port have changed all at once from those of `old`: wavelengths that carry a lane now and did not before
start anew, a transmit one where the lanes of the old maps have come to, rings that carry one end their calibration, and those that became spares are calibrated (07 R177). -/
def State.mapsFollow (old s : State) (k : Nat) : State :=
  (List.range 20).foldl (fun a n => [false, true].foldl (fun b rx =>
    if n = 16 then b
    else if b.carries k rx n then
      let c := if old.carries k rx n then b else if rx then b.lockAnew k n else b.lineStart k n (old.refLine k false).place
      c.calStop k rx n
    else if old.carries k rx n && (b.spares k rx).contains n then b.calStart k rx n else b) a) s

/-- No ring that carries a data lane of the port stays under calibration, or waits for one (07 R177). -/
def State.calStops (s : State) (k : Nat) : State :=
  if optical k then ((List.range 20).foldl (fun a n => (a.calStop k false n).calStop k true n) s).calFill k else s

/-- A λ16 ring of the port is under calibration, or waits for its own (07 R177). -/
def State.cal16 (s : State) (k : Nat) (rx : Bool) : Bool := (s.ring k rx 16).st == 4 || (s.ring k rx 16).due

/-- Both maps go back to the identity (R126, R138). -/
def State.mapsReset (s : State) (k : Nat) : State :=
  if optical k then (s.mapsFollow (s.mapIdentity k) k).calFill k else s.mapIdentity k

/-- The lane maps and active sets of a port. -/
def State.laneSets (s : State) (k : Nat) : LaneSets :=
  { tx0 := s.fld F.LNK_TXMAP0_MAP k, tx1 := s.fld F.LNK_TXMAP1_MAP k, rx0 := s.fld F.LNK_RXMAP0_MAP k, rx1 := s.fld F.LNK_RXMAP1_MAP k
    txset := s.fld F.LNK_STAT_TXSET k, rxset := s.fld F.LNK_STAT_RXSET k }

/-- A switch is about to complete: the maps and sets before it are kept (R157). -/
def State.setsKeep (s : State) (k : Nat) : State := s.setPort k { s.port k with before := some (s.laneSets k) }

/-- Under a surviving resume the maps and active sets stand as they were before the last completed switch (R157). -/
def State.setsBack (s : State) (k : Nat) : State :=
  match (s.port k).before with
  | some x =>
    let s1 := (((s.put F.LNK_TXMAP0_MAP x.tx0 k).put F.LNK_TXMAP1_MAP x.tx1 k).put F.LNK_RXMAP0_MAP x.rx0 k).put F.LNK_RXMAP1_MAP x.rx1 k
    let s2 := (s1.put F.LNK_STAT_TXSET x.txset k).put F.LNK_STAT_RXSET x.rxset k
    if optical k then (State.mapsFollow s s2 k).calFill k else s2
  | none => s

/-! ### LM messages (06 R141, Table 6-6) -/

/-- Send an LM message: it stands in `lmOut` until the next step on the port. -/
def State.lm (s : State) (k : Nat) (b : Bytes) : State :=
  let p := s.port k
  s.setPort k { p with lmOut := p.lmOut ++ [b] }

/-- Bytes of an LM message by position (Table 6-6). -/
def lmBytes (typ txid b2 b3 b4 b5 b6 b7 : Nat) : Bytes :=
  [typ, txid, b2, b3, b4, b5, b6, b7].map (BitVec.ofNat 8)

/-- The INIT this side sends (R135). -/
def State.initBytes (s : State) (k : Nat) (ackd : Bool) : Bytes :=
  let p := s.port k
  [1, BitVec.ofNat 8 p.txid, 1, 0, BitVec.ofNat 8 (b2n (!optical k)), BitVec.ofNat 8 (b2n ackd + 2 * b2n p.resume),
    192, 0, 0, 0] ++ leBytes 2 p.next ++ leBytes 2 p.ack ++ [0, 0] ++
  (List.range 16).map fun l => BitVec.ofNat 8 (if l < lanesOf k then s.mapOf k false l else 0)

/-- A new TXID for a handshake the module opens. -/
def State.newTxid (s : State) (k : Nat) : Nat × State :=
  let p := s.port k
  (p.txid, s.setPort k { p with txid := (p.txid + 1) % 256 })

/-! ### Events of the port's block -/

/-- An event of LNK_ block `k`. -/
def State.lnkEv (s : State) (k typ lvl : Nat) : State := s.event ⟨bLNK, k, typ, lvl, 0, 0, 0, 255⟩

/-- Count a protocol error (R135, R143) and report it. -/
def State.protoErr (s : State) (k : Nat) : State := (s.count F.LNK_ERRCNT_PROTO_ERR 1 k).lnkEv k 0x03 lNote

/-! ### Leaving service -/

/-- What no down or unresumed port keeps (R139): replay buffer, unsent messages, credits, SEP_STW_PORTS; accepted
requests complete and their responses are discarded. -/
def State.linkFresh (s : State) (k : Nat) : State :=
  let p := s.port k
  let s1 := s.setPort k { p with
    next := 0, ack := 4095, nak := false, naks := 0, unacked := [], wire := 0, replaying := none, stuck := 0, ccq := 0,
    sCred := 0, mCred := 0, sSeen := 0, mSeen := 0, rxMsg := [], rxHeld := 0, outw := [], sq := [], mq := [], bq := [],
    before := none
    reqs := (p.reqs.filter (·.stalled)).map fun r => { r with dead := true, held := 0 } }
  s1.putBitOf F.SEP_STW_PORTS_PORTS k false

/-- Drop every open handshake (R157, 08 R215). -/
def Port.noHandshakes (p : Port) : Port :=
  { p with wRx := none, wTx := none, dueRx := [], dueTx := [], rTx := none, rRx := none, loop := none }

/-- `ROT_OPEN` while a rotation of either direction is open (07 R178). -/
def State.rotShow (s : State) (k : Nat) : State :=
  let open_ (o : Option RemapHs) : Bool := o.any (·.rot)
  s.putFlag F.PYU_PORT_STAT_ROT_OPEN (open_ (s.port k).rTx || open_ (s.port k).rRx) k

/-- The port may send probe bursts (07 R174, R180). -/
def State.probeOk (s : State) (k : Nat) : Bool :=
  optical k && s.flag F.LNK_CTL_EN k && s.engReady (engOf k) && (s.eng (engOf k)).bankOk && !(s.port k).held

/-- The local port and engine of an optical port, as `PYU_PORT_STAT` indexes them. -/
def State.putPort (s : State) (f : RField) (v : Nat) (k : Nat) : State := s.put f v k

/-- Entry to DOWN (R134, R139, R160; 07 R180; 08 R206; 04 R102).  The blanking of λ16 LOS runs on to its end (08 R211). -/
def State.enterDown (s : State) (k : Nat) : State :=
  let was := s.lnk k
  let p := s.port k
  let s1 := s.setPort k { p.noHandshakes with
    retry := false, firstUp := false, deskewed := false, initGot := false,
    initAckd := false, initSentAckd := false, resume := false,
    ssc := if optical k then p.ssc else (s.fld F.LNK_SSC_FREQ k, s.fld F.LNK_SSC_DEPTH k, s.fld F.LNK_SSC_SSC_EN k) }
  let s2 := (((s1.put F.LNK_STAT_STATE lnkDown k).put F.LNK_STAT_WIDTH 0 k).put F.LNK_STAT_TXSET 0 k).put F.LNK_STAT_RXSET 0 k
  let s3 := (s2.putFlag F.LNK_SSC_PENDING false k).linkFresh k
  let s4 := if optical k then
      (((s3.putFlag F.PYU_PORT_STAT_SHUTTER false k).putFlag F.PYU_PORT_STAT_PROBE (s3.probeOk k) k).rotShow k).ringsSettle k
    else s3
  let s5 := if was = lnkDown then s4 else s4.count F.LNK_ERRCNT_DOWNS 1 k
  let s6 := if was = lnkUp ∨ was = lnkDegraded then s5.lnkEv k 0x01 lNote else s5
  if optical k then s6.withSvc fun a => a.putBitOf F.AON_SVC_STAT_OPT_NARROW k false else s6

/-- The main coefficient that goes with `PRE` and `POST` in force (08 R207). -/
def State.mainOf (s : State) (k : Nat) : Nat :=
  let f := (s.port k).fir.getD (if optical k then (0, 4) else (4, 12))
  64 - f.1 - f.2

/-- A HALT of a port's block holds the port in DOWN (21 Table 21-4). -/
def State.lnkHold (s : State) (k : Nat) : State :=
  let b := s.blk bLNK k
  if b.active && b.level == lHalt && !(s.port k).held then
    (s.setPort k { s.port k with held := true }).enterDown k
  else s

/-- In ALIGN the lanes of the set to come are all marker-aligned: they are deskewed by COUNT and INIT starts (08 R204, R212).
A lane beyond the deskew buffer loses its alignment (R204). -/
def State.tryDeskew (s : State) (k : Nat) : State :=
  if s.lnk k = lnkAlign then
    let ls := bitsSet (s.lockedLanes k) (lanesOf k)
    let need := (ls.take (if optical k then 4 else if ls.length ≥ 8 then 8 else 4)).map (s.mapOf k true)
    if need.length ≥ 4 && need.all (fun n => s.bit F.LNK_LANE_STAT_MALIGN n k) then
      let kept := s.keepNear k [] need
      let far := need.filter fun n => !kept.contains n
      if far.isEmpty then s.setPort k { s.port k with deskewed := true }
      else far.foldl (fun a n => a.putBitOf F.LNK_LANE_STAT_MALIGN n false k) s
    else s
  else s

/-- Entry to ALIGN from ACQUIRE (R134). -/
def State.enterAlign (s : State) (k : Nat) : State :=
  let p := s.port k
  State.tryDeskew ((s.setPort k { p with deskewed := false, initGot := false, initAckd := false, initSentAckd := false, resume := false }).put
    F.LNK_STAT_STATE lnkAlign k) k

/-- In ACQUIRE the lock condition of Table 6-5 leads to ALIGN, on an optical port once the transmit λ16 ring, which sends no clock
while it is calibrated, is ready too (07 R177). -/
def State.tryAlign (s : State) (k : Nat) : State :=
  if s.lnk k = lnkAcquire then
    let m := s.lockedLanes k
    if optical k then
      if !s.flag F.LNK_LANE_STAT_CLK_LOL k && (s.ring k true 16).st == 1 && !s.cal16 k false && popCount m 16 ≥ 4 then s.enterAlign k
      else s
    else if m % 256 = 255 ∨ (m % 16 = 15 ∧ (s.port k).waited = true) then s.enterAlign k else s
  else s

/-- Entry to ACQUIRE (R126, R139; 07 R177, R180; 08 R197, R200, R207, R208, R211, R212): both maps are the identity, the
lanes start anew with marker count 0, a pending FIR is in force, and λ16 is calibrated in both directions.  Pairs of a copper port
that are in lock already lead on to ALIGN (Table 6-5). -/
def State.enterAcquire (s : State) (k : Nat) : State :=
  let p := s.port k
  let s1 := s.setPort k { p.noHandshakes with
    deskewed := false, initGot := false, initAckd := false,
    initSentAckd := false, resume := false, firstUp := false, txeqPend := false, blank := optical k, waited := false,
    fir := if p.txeqPend then some (s.fld F.LNK_TXEQ_PRE k, s.fld F.LNK_TXEQ_POST k) else p.fir }
  let s2 := (((s1.put F.LNK_STAT_STATE lnkAcquire k).put F.LNK_STAT_WIDTH 0 k).put F.LNK_STAT_TXSET 0 k).put F.LNK_STAT_RXSET 0 k
  let s3 := ((s2.mapsReset k).linkFresh k).put F.LNK_TXEQ_MAIN (s1.mainOf k) k
  let s4 := (List.range 20).foldl (fun a n =>
    ((((((a.dfeZero k n).put F.LNK_LANE_ERR_STUFF_ERR 0 k n).put F.LNK_LANE_ERR_MARKER_ERR 0 k n).put F.LNK_LANE_ERR_LOS_EVT 0 k n).put
      F.LNK_LANE_ERR_LOL_EVT 0 k n).setLine k false n {}).setLine k true n {}) s3
  let s5 := s4.put F.LNK_LANE_STAT_MALIGN 0 k
  if optical k then
    let s6 := ((((s5.putFlag F.PYU_PORT_STAT_SHUTTER true k).putFlag F.PYU_PORT_STAT_PROBE false k).rotShow k).putBitOf
      F.LNK_LANE_STAT_LOS 16 false k).putFlag F.PYU_PORT_STAT_LOS false k
    (((s6.calStart k false 16).calStart k true 16).ringsSettle k)
  else s5.tryAlign k

/-- The λ16 receive ring stands in STANDBY and its detector, no longer blanked, sees light (08 R211). -/
def State.lit (s : State) (k : Nat) : Bool :=
  !s.bit F.LNK_LANE_STAT_LOS 16 k && !(s.port k).blank && (s.ring k true 16).st == 0

/-- An optical port in DOWN that receives λ16 enters ACQUIRE (Table 6-5, 07 R174, R180). -/
def State.tryLight (s : State) (k : Nat) : State :=
  if s.lnk k == lnkDown && s.probeOk k && s.lit k then s.enterAcquire k else s

/-- A copper port leaves DOWN once PD08 is ready, EN = 1, a cable is there and T_RETRY has passed (Table 6-5). -/
def State.tryCopper (s : State) (k : Nat) : State :=
  if !optical k && s.lnk k == lnkDown && s.dom 8 == .on && s.flag F.LNK_CTL_EN k && s.bit F.AON_CONN_STAT_CPRES (k - 16) &&
      (s.port k).retry && !(s.port k).held then s.enterAcquire k else s

/-- What held a port in DOWN has gone: an optical port probes, or enters ACQUIRE where it receives λ16 (07 R180, R184). -/
def State.comeUp (s : State) (k : Nat) : State :=
  if optical k then (s.putFlag F.PYU_PORT_STAT_PROBE (s.lnk k == lnkDown && s.probeOk k) k).tryLight k else s.tryCopper k

/-- The retrains of a port in the last second of OPTIME. -/
def Port.recentRetrains (p : Port) (now : Nat) : List Nat := p.retrains.filter fun t => now < t + 1000

/-- A retrain (R138, R157): from UP or DEGRADED to ALIGN with every handshake aborted, or to DOWN beyond RETRAIN_MAX; lanes
that are still marker-aligned deskew at once.  The maps and active sets of the surviving resume take force at its end
(State.setsBack; DEDUCED, log entry 78). -/
def State.retrain (s : State) (k : Nat) : State :=
  if s.live k then
    let p := s.port k
    let recent := p.recentRetrains s.tim.optime
    let s1 := (s.setPort k { p.noHandshakes with
        retrains := s.tim.optime :: recent, deskewed := false, initGot := false, initAckd := false,
        initSentAckd := false, resume := true, firstUp := false }).count F.LNK_ERRCNT_RETRAINS 1 k
    let s2 := (s1.put F.LNK_STAT_STATE lnkAlign k).put F.LNK_STAT_WIDTH 0 k
    let s3 := (s2.lnkEv k 0x02 lNote).withSvc fun a => if optical k then a.putBitOf F.AON_SVC_STAT_OPT_NARROW k false else a
    let s4 := (s3.rotShow k).ringsSettle k
    if recent.length ≥ 3 then ((s4.lnkEv k 0x07 lDegrade).enterDown k).lnkHold k else s4.tryDeskew k
  else s

/-- A retrain the module starts also sends LM RETRAIN. -/
def State.retrainOwn (s : State) (k : Nat) : State :=
  if s.live k then
    let (x, s1) := s.newTxid k
    (s1.lm k (lmBytes 0x0A x 0 0 0 0 0 0)).retrain k
  else s

/-- The ACK that the far end has last sent: the one before the oldest unacknowledged flit. -/
def Port.peerAck (p : Port) : Nat := ((p.unacked.head?.map (·.seq)).getD p.next + 4095) % 4096

/-- Start a replay of every unacknowledged flit (R133), or retrain after REPLAY_MAX without progress.  A replay is under way
until the last of those flits has gone onto the line, at once where there is none.  A NAK with no unacknowledged flit counts as a
replay too, of no flits (DESIGN CHOICE, log entry 81). -/
def State.startReplay (s : State) (k : Nat) : State :=
  let p := s.port k
  if p.stuck ≥ 4 then s.retrainOwn k
  else
    (s.setPort k { p with
      replaying := if p.unacked.isEmpty then none else some p.peerAck
      wire := p.unacked.length, stuck := p.stuck + 1 }).count F.LNK_ERRCNT_REPLAYS 1 k

/-! ### Widths -/

/-- UP or DEGRADED by the active sets (Table 6-5): in its first-UP phase an optical port stays UP. -/
def State.widthState (s : State) (k : Nat) : State :=
  if s.live k then
    let tx := popCount (s.fld F.LNK_STAT_TXSET k) 16
    let rx := popCount (s.fld F.LNK_STAT_RXSET k) 16
    let full := lanesOf k
    let s1 := s.put F.LNK_STAT_WIDTH (min tx rx) k
    if tx = full ∧ rx = full then
      let p := s1.port k
      ((s1.setPort k { p with firstUp := false }).put F.LNK_STAT_STATE lnkUp k).withSvc fun a =>
        if optical k then a.putBitOf F.AON_SVC_STAT_OPT_NARROW k false else a
    else if (s1.port k).firstUp then s1
    else s1.put F.LNK_STAT_STATE lnkDegraded k
  else s

/-- A new active set of one direction takes effect (R137): too few lanes force a retrain, a narrowing ends the first-UP
phase. -/
def State.applyWidth (s : State) (k : Nat) (rx : Bool) (mask : Nat) : State :=
  let f := if rx then F.LNK_STAT_RXSET else F.LNK_STAT_TXSET
  let act := activeOf k mask
  if act = 0 then s.retrainOwn k
  else
    let old := popCount (s.fld f k) 16
    let s1 := s.put f act k
    let p := s1.port k
    let s2 := if popCount act 16 < old && p.firstUp then
        (s1.setPort k { p with firstUp := false }).withSvc fun a => if optical k then a.putBitOf F.AON_SVC_STAT_OPT_NARROW k false else a
      else s1
    s2.widthState k

/-- The receiver asks for the lanes of a mask (R136, R137): WIDTH_REQ, or a retrain with fewer than four good lanes. -/
def State.widthReqOwn (s : State) (k mask : Nat) : State :=
  if s.live k then
    if popCount mask 16 < 4 then s.retrainOwn k
    else
      let (x, s1) := s.newTxid k
      let p := s1.port k
      (s1.setPort k { p with wRx := some { txid := x, mask := mask } }).lm k
        (lmBytes 0x02 x 0 0 (mask % 256) (mask / 256) 0 0)
  else s

/-- The receiver asks for a wider set (R136, R140): in the first-UP phase for full width once every lane is good, afterwards for
the lanes that are good where they allow more than the present set. -/
def State.widenIfReady (s : State) (k : Nat) : State :=
  let good := s.goodLanes k
  if s.live k && (s.port k).wRx.isNone && (s.port k).dueRx.isEmpty && (!(s.port k).firstUp || good == fullSet k) &&
      popCount (s.fld F.LNK_STAT_RXSET k) 16 < popCount (activeOf k good) 16 then
    s.widthReqOwn k good
  else s

/-- The lanes to ask for without lane `l` and every other bad lane (08 R214). -/
def State.lanesLess (s : State) (k l : Nat) : Nat := maskOf (lanesOf k) fun i => i != l && hasBit (s.goodLanes k) i

/-- A WIDTH_REQ that has no answer yet is sent again for fewer lanes, under its TXID (08 R214, log entry 79). -/
def State.widthLess (s : State) (k mask : Nat) (h : WidthHs) : State :=
  if popCount mask 16 < 4 then s.retrainOwn k
  else
    State.lm (s.setPort k { s.port k with wRx := some { h with mask := mask, tries := 1 } }) k
      (lmBytes 0x02 h.txid 0 0 (mask % 256) (mask / 256) 0 0)

/-- A lane of the active set fails (R137): WIDTH_REQ at once without it and without every other bad lane.  Lanes that fail together
share one WIDTH_REQ (08 R214, log entry 79); beside a request that has its answer and waits for its marker, a new one goes out. -/
def State.laneFailed (s : State) (k l : Nat) : State :=
  if s.live k && s.bit F.LNK_STAT_RXSET l k then
    match (s.port k).wRx with
    | some h =>
      if !hasBit h.mask l then s
      else if h.m.isNone then s.widthLess k (s.lanesLess k l) h
      else
        let p := s.port k
        State.widthReqOwn (s.setPort k { p with wRx := none, dueRx := p.dueRx ++ [h] }) k (s.lanesLess k l)
    | none => s.widthReqOwn k (s.lanesLess k l)
  else s

/-- After a switch of the receive direction: bad lanes in the new set are asked out of it, or more lanes into it. -/
def State.widthFollow (s : State) (k : Nat) : State :=
  let set := s.fld F.LNK_STAT_RXSET k
  let good := s.goodLanes k
  if s.live k && (s.port k).wRx.isNone && (s.port k).dueRx.isEmpty &&
      (List.range 16).any (fun l => hasBit set l && !hasBit good l) then s.widthReqOwn k good
  else s.widenIfReady k

/-! ### UP -/

/-- Both sides' RESUME and windows let the link state survive (R138). -/
def State.resumes (s : State) (k : Nat) : Bool :=
  let p := s.port k
  let (r, nx, ak) := p.peer
  p.resume && r && (nx + 8191 - p.ack) % 4096 ≤ 1024 && (p.next + 8191 - ak) % 4096 ≤ p.unacked.length

/-- Entry to UP at the end of the INIT exchange (R134, R135, R138, R157).  Where link state survives, the replay goes on from the far
end's ACK; else the link starts afresh, on the identity maps.  The next flit starts on the lowest lane (R127). -/
def State.enterUp (s : State) (k : Nat) : State :=
  let p := s.port k
  if s.resumes k then
    let gone := p.unacked.length - (p.next + 8191 - p.peer.2.2) % 4096
    let s1 := s.setPort k { p with
      resume := false, unacked := p.unacked.drop gone, nak := false, wire := 0, replaying := none, stuck := 0, outw := [] }
    let s2 := (((s1.setsBack k).calStops k).put F.LNK_STAT_STATE lnkUp k).widthState k
    let s3 := if (s2.port k).unacked.isEmpty then s2 else s2.startReplay k
    (s3.ringsSettle k).widthFollow k
  else
    let s1 := (s.linkFresh k).mapsReset k
    let q := s1.port k
    let s2 := s1.setPort k { q with
      resume := false, sCred := s.fld F.LNK_CREDIT_S_PEER k, mCred := s.fld F.LNK_CREDIT_M_PEER k,
      firstUp := optical k }
    let ls := bitsSet (s2.lockedLanes k) (lanesOf k)
    let n := if optical k then 4 else if ls.length ≥ 8 then 8 else 4
    let act := (ls.take n).foldl (fun m l => m + 2 ^ l) 0
    let s3 := (((s2.put F.LNK_STAT_STATE lnkUp k).put F.LNK_STAT_TXSET act k).put F.LNK_STAT_RXSET act k)
    let s4 := if optical k then s3.withSvc fun a => a.putBitOf F.AON_SVC_STAT_OPT_NARROW k true else s3
    let s5 := s4.ringsSettle k
    if ls.length < 4 then s5.retrainOwn k else (s5.widthState k).widenIfReady k

end Sys2Proof.Machine
end

