-- ==== Sys2Proof/Machine/PyuOps.lean ====
section
/-! DEFINITION. The Pyuri engines and the LSC (07): going dark, resetting, bank state, and the events of their blocks. -/
namespace Sys2Proof.Machine

/-- The ports of engine `e` (R162). -/
def portsOf (e : Nat) : List Nat := [4 * e, 4 * e + 1, 4 * e + 2, 4 * e + 3]

/-- Detectors that an engine reset shadows (21 Table 21-5). -/
def engineDets (e : Nat) : List Det :=
  [⟨bPYU, e, 1⟩, ⟨bPYU, e, 2⟩, ⟨bPYU, e, 3⟩, ⟨bPYU, e, 5⟩] ++ (portsOf e).map fun k => ⟨bLNK, k, 1⟩

/-- The detector that stands for LASER_FAIL of bank `e` alone. -/
def laserDet (e : Nat) : Det := ⟨bLSC, 0, 0x01 + 32 * (e + 1)⟩

/-- All four ports of an engine enter DOWN. -/
def State.engPortsDown (s : State) (e : Nat) : State := (portsOf e).foldl (fun a k => a.enterDown k) s

/-- Engine reset (R194): ports DOWN with shutters closed, every ring to calibration, five at a time in each port and direction
(R177), the bank lit; shadow of 5 ms. -/
def State.engineReset (s : State) (e fid : Nat) : State :=
  if s.dom (10 + e) = .on then
    let s1 := s.declareShadow 0 e fid (engineDets e)
    let s2 := (s1.setEng e { s1.eng e with resetting := true }).put F.PYU_STAT_STATE 3 e
    (portsOf e).foldl (fun a k => a.calAll k) (s2.engPortsDown e)
  else s

/-- An event of PYU_ block `e`, with its one-shot reaction at HALT (21 R562, Table 21-4). -/
def State.pyuEv (s : State) (e typ lvl addr : Nat) : State :=
  let ev : Ev := ⟨bPYU, e, typ, lvl, addr, 0, 0, 255⟩
  let l := s.levelOf ev
  let s1 := s.event ev
  if l = some lHalt then s1.engineReset e (fidOf bPYU e typ (s1.blk bPYU e).seq) else s1

/-- The address of a lane's event (21 Table 21-3): local port, direction, wavelength. -/
def laneAddr (k : Nat) (rx : Bool) (n : Nat) : Nat := (if optical k then k % 4 else k - 16) * 64 + b2n rx * 32 + n

/-- Bank `e` goes dark: its BANK_ON bit clears (R169, R186). -/
def State.bankOff (s : State) (e : Nat) : State :=
  (s.putBitOf F.LSC_STAT_BANK_ON e false).putBitOf F.LSC_STAT_BANK_LOCK e false

/-- The light of an engine goes out (R27, R182, R186, R191): shutters close, rings park, the bank is asked off, ports DOWN and
not in probe mode; a shadow of 5 ms (21 Table 21-5). -/
def State.engineDark (s : State) (e fid : Nat) : State :=
  let s1 := s.declareShadow 1 e fid (engineDets e ++ [laserDet e])
  let s2 := (s1.engPortsDown e).bankOff e
  (portsOf e).foldl (fun a k => (a.ringsOff k).putFlag F.PYU_PORT_STAT_PROBE false k) s2

/-- An SI4 demand, and an SI0 demand: of any input mapped to LASER, or to OFF (20 R532). -/
def State.si4 (s : State) : Bool := s.bit F.RND_ACT_FUNC 3
/-- ISO demands: the coils are inhibited (20 R532). -/
def State.si3 (s : State) : Bool := s.bit F.RND_ACT_FUNC 2
def State.si0 (s : State) : Bool := s.bit F.RND_ACT_FUNC 5

/-- Function `f` of Rind acts, or has acted since the last decision tick: an order that contradicts its reaction loses (01 R24,
05 R121). -/
def State.funcHeld (s : State) (f : Nat) : Bool := s.bit F.RND_ACT_FUNC f || hasBit s.rnd.hadFunc f

/-- Load switch `n` is held off by Rind, or has been since the last decision tick. -/
def State.lswHeld (s : State) (n : Nat) : Bool := s.bit F.RND_ACT_LSW n || hasBit s.rnd.hadLsw n

/-- The LSC counts as present: LSC_PRES mated and not rejected (03 R60, R185). -/
def State.lscThere (s : State) : Bool := s.flag F.LSC_STAT_PRES && !s.pow.rejected

/-- The LSC block stands at HALT: lasers off and engine requests refused (21 Table 21-4). -/
def State.lscHalt (s : State) : Bool :=
  let b := s.blk bLSC 0
  b.active && b.level == lHalt

/-- Hold-up runs, and `MAIN_OK`. -/
def State.holdup (s : State) : Bool := s.flag F.AON_PIN_PHASE_HOLDUP
def State.mainOk (s : State) : Bool := s.flag F.AON_SUP_STAT_MAIN_OK

/-! ### Requests (03 R59, R60, R69) -/

/-- Tile group `g`, engine `e` and the Separator are requested. -/
def State.tgReq (s : State) (g : Nat) : Bool := s.bit F.AON_PD_REQ_TG_REQ g
def State.engReq (s : State) (e : Nat) : Bool := s.bit F.AON_PD_REQ_ENG_REQ e
def State.vatReq (s : State) : Nat := s.fld F.AON_PD_REQ_VAT_REQ

/-- What refuses every core request now: `MAIN_OK` = 0, an SI0 demand, a core hard-limit hold. -/
def State.coreRefused (s : State) : Bool := !s.mainOk || s.si0 || s.pow.hold

/-- What refuses engine requests besides: SI4, a missing LSC, or a HALT of the LSC block. -/
def State.engRefused (s : State) : Bool := s.si4 || !s.lscThere || s.lscHalt

/-- The REFUSED bits of a refused request (R60); `eng` that it named an engine. -/
def State.refusedBits (s : State) (eng : Bool) : State :=
  let s1 := if !s.mainOk then s.putFlag F.AON_WAKE_SRC_REFUSED_MAIN true else s
  let s2 := if s.si0 || (eng && (s.si4 || !s.lscThere)) then s1.putFlag F.AON_WAKE_SRC_REFUSED_RIND true else s1
  if s.pow.hold then s2.putFlag F.AON_WAKE_SRC_REFUSED_TRIP true else s2

/-- Reason of a refused request: 1 RIND, 2 LIMIT (R60; 21 R577 for a HALT of the LSC block). -/
def State.refuseReason (s : State) (eng : Bool) : Nat := if s.si0 || (eng && (s.si4 || !s.lscThere)) then 1 else 2

/-- Clear every request bit. -/
def State.reqClear (s : State) : State :=
  ((s.put F.AON_PD_REQ_SEP_REQ 0).put F.AON_PD_REQ_ENG_REQ 0).put F.AON_PD_REQ_TG_REQ 0

/-- What a wake source sets (R69, Table 3-5): the requests it names, refused as R60 states, and none during hold-up. -/
def State.request (s : State) (sep vat : Bool) (eng tg : Nat) : State :=
  let v := vat && s.vatReq == 1
  if s.holdup || !(sep || v || eng != 0 || tg != 0) then s
  else if s.coreRefused then s.refusedBits (eng != 0)
  else
    let no := eng != 0 && s.engRefused
    let s1 := if no then s.refusedBits true else s
    let s2 := if sep then s1.putFlag F.AON_PD_REQ_SEP_REQ true else s1
    let s3 := if v then s2.put F.AON_PD_REQ_VAT_REQ 2 else s2
    let s4 := s3.put F.AON_PD_REQ_TG_REQ (s3.fld F.AON_PD_REQ_TG_REQ ||| tg)
    if no then s4 else s4.put F.AON_PD_REQ_ENG_REQ (s4.fld F.AON_PD_REQ_ENG_REQ ||| eng)

/-! ### What Rind and the hard limits hold -/

/-- The Inputs stage has ended, its self-test passed: the outputs that Rind holds back in it are free (02 R46, 20 R539, R540). -/
def State.rindFree (s : State) : Bool := s.fld F.RND_STAT_STATE != 0 && !s.rnd.waits && !s.rnd.failed

/-- The field outputs may be on: Rind has released them, and neither the supervisor junction limit nor hold-up holds them off
(02 R46, R47, 03 Table 3-9). -/
def State.fieldFree (s : State) : Bool := s.rindFree && !s.pow.supHot && !s.holdup

/-- The coils that Rind and the hard limits inhibit (20 R526, R540, Table 20-2): all, or none. -/
def State.inhibitNow (s : State) : Nat := if s.fieldFree && !s.si3 then 0 else 7

/-- The supervisor junction limit acts, or has acted since the last decision tick (05 R121): bit 23 of the mask, beside the core
domains. -/
def State.supHeld (s : State) : Bool := s.pow.supHot || hasBit s.pow.tripped 23

/-- LEN_A and LEN_B as Rind holds them (R171). -/
def State.lenSettle (s : State) : State :=
  let v := !s.si4 && s.flag F.LSC_STAT_PRES && s.dom 14 == .on && s.fieldFree
  ((s.putFlag F.LSC_STAT_LEN_A v).putFlag F.LSC_STAT_LEN_B v).putFlag F.LSC_STAT_VDD_OK (s.dom 14 == .on)

/-- The R174 state of an engine: ports DOWN dark, no probe bursts. -/
def State.bankFail (s : State) (e : Nat) : State :=
  let s1 := (s.setEng e { s.eng e with bankOk := false }).putFlag F.PYU_STAT_BANK_FAIL true e
  (s1.engPortsDown e)

/-- An engine becomes ready (R184, R194): rings hold fresh calibrations; of its ports with EN = 1 one that receives λ16 enters
ACQUIRE and the others start to probe. -/
def State.engineUp (s : State) (e : Nat) : State :=
  let s1 := (s.setEng e { s.eng e with resetting := false }).put F.PYU_STAT_STATE 2 e
  (portsOf e).foldl (fun a k =>
    let a1 := (List.range 20).foldl (fun b n =>
      (b.setRing k false n { calAt := b.tim.optime, cal := true }).setRing k true n { calAt := b.tim.optime, cal := true }) a
    (a1.calShow k).comeUp k) s1

/-- The receivers of an engine have no power (log entry 75): no light, no lock. -/
def State.engineBlind (s : State) (e : Nat) : State :=
  (portsOf e).foldl (fun a k => (((a.clr F.LNK_LANE_STAT_LOS k).clr F.LNK_LANE_STAT_LOL k).clr F.LNK_LANE_STAT_CLK_LOL k).put
    F.LNK_LANE_STAT_MALIGN 0 k) s

/-- Wavelengths that FAIL remaps marked are tested afresh at a power-up of their engine (R172). -/
def State.failMarksClear (s : State) (e : Nat) : State :=
  (portsOf e).foldl (fun a k => a.setPort k { a.port k with failTx := 0, failRx := 0 }) s

/-- Counts of the ports of an engine clear at its power-up (Table 7-8). -/
def State.engCountsClear (s : State) (e : Nat) : State :=
  (portsOf e).foldl (fun a k => ((a.put F.PYU_PORT_STAT_ROTATIONS 0 k).put F.PYU_PORT_STAT_D2D_CRC 0 k).put F.PYU_PORT_STAT_PROBES 0 k) s

/-- After a DUP switch the freed wavelength is a spare and is calibrated, unless its laser has failed (R173, R177, R178). -/
def State.switchRings (s : State) (k : Nat) (rx : Bool) (old : Nat) : State :=
  let s1 := s.ringsSettle k
  if optical k && (s1.spares k rx).contains old then s1.calStart k rx old else s1

/-- Wavelength `b` of a remap starts to send, or goes into lock (06 R140 steps 2 and 3). -/
def State.remapStart (s : State) (k : Nat) (rx : Bool) (b : Nat) : State :=
  (if rx then s.lockAnew k b else s.lineStart k b (s.refLine k false).place).ringsSettle k

/-- Send REMAP_REQ for lane `l` onto wavelength `b` (06 R140). -/
def State.remapOpen (s : State) (k : Nat) (rx fail : Bool) (l b : Nat) (rot : Bool) : State :=
  let (x, s1) := s.newTxid k
  let h : RemapHs := { txid := x, own := true, fail := fail, lane := l, b := b, rot := rot }
  let p := s1.port k
  let s2 := s1.setPort k (if rx then { p with rRx := some h } else { p with rTx := some h })
  let s3 := s2.lm k (lmBytes 0x04 x (b2n rx) (b2n fail) l b 0 0)
  (s3.rotShow k).remapStart k rx b

/-- End an open remap with REMAP_ABORT (R140, R155): the lane stays as it was. -/
def State.remapAbortOwn (s : State) (k : Nat) (rx : Bool) (reason : Nat) : State :=
  let p := s.port k
  match (if rx then p.rRx else p.rTx) with
  | none => s
  | some h =>
    let s1 := s.setPort k (if rx then { p with rRx := none } else { p with rTx := none })
    ((s1.lm k (lmBytes 0x07 h.txid 0 0 h.lane 0 0 reason)).rotShow k).ringsSettle k

end Sys2Proof.Machine
end

