-- ==== Sys2Proof/Machine/Pack.lean ====
section
/-! DEFINITION. Pack measurement (16 R433 to R440): sample words, SYNC, gain, the coulomb counter and the isolation
monitor. -/
namespace Sys2Proof.Machine

/-- Status codes of measurement words (R425). -/
def stVALID : Nat := 0
def stSETTLE : Nat := 1
def stOVER : Nat := 2
def stSTALE : Nat := 3

/-- Status and value of a sample word (R433). -/
def wordSt (w : Nat) : Nat := w / 2 ^ 30
def wordVal (w : Nat) : Int := toSigned 24 w
def mkWord (st : Nat) (v : Int) : Nat := st * 2 ^ 30 + ofSigned 24 v

/-- Latest sample word of channel `c`. -/
def State.samp (s : State) (c : Nat) : Nat := s.fld F.PKM_SAMP_WORD c

/-- An event of the pack block. -/
def State.pkmEv (s : State) (typ lvl addr : Nat) : State := s.event ⟨bPKM, 0, typ, lvl, addr, 0, 0, 255⟩

/-- Range limits of channel `c` (Table 16-6). -/
def packRange (c gain : Nat) : Int × Int :=
  if c = 0 then (if gain = 0 then (-1000000, 1000000) else if gain = 1 then (-250000, 250000) else (-62500, 62500))
  else if c = 1 then (-1200000, 1200000)
  else if c = 2 then (0, 1000000)
  else (-1000000, 1000000)

/-- SETTLE samples still owed by channel `c`, and the count raised to at least `n`: overlapping changes run out together
(R435). -/
def Pack.owed (p : Pack) (c : Nat) : Nat := p.settle.get 0 ⟨c, 0, 0⟩
def Pack.settleFor (p : Pack) (c n : Nat) : Pack := { p with settle := p.settle.set 0 ⟨c, 0, 0⟩ (max n (p.owed c)) }
def Pack.settled (p : Pack) (c : Nat) : Pack := { p with settle := p.settle.set 0 ⟨c, 0, 0⟩ (p.owed c - 1) }

/-- The decimators of the enabled channels restart (R435). -/
def State.packRestart (s : State) : State :=
  { s with pack := (List.range 6).foldl (fun p c => if s.flag F.PKM_CFG_EN c then p.settleFor c 2 else p) s.pack }

/-- SYNC at the sample instant of a round (R435, R436). -/
def State.packSync (s : State) : State :=
  if s.dom 5 = .on then
    let t := s.packRestart
    { t with pack := { t.pack with syncWait := 63 } }
  else s

/-! ### The coulomb counter (R439, R440) -/

/-- Integrate one value over `n` modulator periods (R439). -/
def Pack.ccAdd (p : Pack) (i : Int) (n : Nat) : Pack :=
  let x := p.residue + i * n
  let q := truncDiv x 10000
  { p with cc := p.cc + q, residue := x - q * 10000, iSum := p.iSum + i * n, iNum := p.iNum + n }

/-- Integrate the bridged values of a run of `m` samples between `ia` and `ib`, from the `j`-th on (R440). -/
def Pack.bridge (ia ib : Int) (m : Nat) : Nat → List Nat → Pack → Pack
  | _, [], p => p
  | j, n :: t, p => Pack.bridge ia ib m (j + 1) t (p.ccAdd (truncDiv (ia * (m + 1) + (ib - ia) * j) (m + 1)) n)

/-- A VALID current: the run before it is bridged, then it is integrated itself. -/
def State.ccValid (s : State) (v : Int) (n : Nat) : State :=
  let p := s.pack
  let m := p.run.length
  let p1 := Pack.bridge (p.ia.getD v) v m 1 p.run { p with run := [], gap := false, ia := some v }
  State.count { s with pack := p1.ccAdd v n } F.PKM_CC_STAT_BRIDGED m

/-- A SETTLE or STALE current waits to be bridged; the seventeenth of a run ends the wait (R440). -/
def State.ccHold (s : State) (n : Nat) : State :=
  let p := s.pack
  if p.gap then { s with pack := p.ccAdd (p.ia.getD 0) n }
  else if p.run.length < 16 then { s with pack := { p with run := p.run ++ [n] } }
  else
    let p1 := (p.run ++ [n]).foldl (fun a k => a.ccAdd (p.ia.getD 0) k) { p with run := [], gap := true }
    (State.putFlag { s with pack := p1 } F.PKM_CC_EVT_CC_GAP true).pkmEv 0x03 lDegrade 0x0A23

/-- Both channels are OVERRANGE: the saturated value counts, and CC_SAT is set, with one event a run (R439). -/
def State.ccSaturated (s : State) (v : Int) (n : Nat) : State :=
  let s1 := s.putFlag F.PKM_CC_EVT_CC_SAT true
  let s2 := if s1.pack.sat then s1 else State.pkmEv { s1 with pack := { s1.pack with sat := true } } 0x04 lDegrade 0x0A23
  s2.ccValid v n

/-- The counter takes a channel 0 sample; `hall` says that the latest Hall sample ends in the same cycle (R439). -/
def State.ccTake (s : State) (st : Nat) (v : Int) (n : Nat) (hall : Bool) : State :=
  if st = stOVER then
    let h := s.samp 1
    if hall && wordSt h == stVALID then (s.count F.PKM_CC_STAT_HALL_SUBST).ccValid (wordVal h) n
    else if hall && wordSt h == stOVER then s.ccSaturated v n
    else s.ccValid v n
  else
    let s1 : State := { s with pack := { s.pack with sat := false } }
    if st = stVALID then s1.ccValid v n else s1.ccHold n

/-! ### Sample words -/

/-- Set the gain of channel 0 (R434, Table 16-7). -/
def State.setGain (s : State) (g : Nat) : State :=
  if g = s.pack.gain then s else { s with pack := ({ s.pack with gain := g, calm := none } : Pack).settleFor 0 3 }

/-- A sample of channel 0 that does not lie within 40 % of the next higher gain's range begins the wait of R434 anew. -/
def State.gainWatch (s : State) (st : Nat) (v : Int) : State :=
  let near := st != stOVER && decide (5 * (v.natAbs : Int) ≤ 2 * (packRange 0 (s.pack.gain + 1)).2)
  { s with pack := { s.pack with calm := if near then some (s.pack.calm.getD s.tim.optime) else none } }

/-- The Hall current in mA of a sensor voltage in µV (Table 16-6, `HALL_SCALE`); free where the scale is 0, for which the
specification states no result (log entry 28). -/
def State.hallCurrent (s : State) (uv : Int) : Int × State :=
  let k := s.fld F.PKM_HALL_SCALE_SCALE
  if k = 0 then
    let f := s.free
    (toSigned 24 f.1, f.2)
  else (truncDiv (uv * 1000) k, s)

/-- The status of a fresh sample of channel `c` (R434, R435): `early` within 50 µs of an isolation switch, `half` in the
second half of the dwell. -/
def State.freshSt (s : State) (c : Nat) (ovr early half : Bool) : Nat :=
  if ovr then stOVER
  else if 0 < s.pack.owed c then stSETTLE
  else if c = 5 && (early || (!half && s.fld F.PKM_ISO_STAT_STATE != 1)) then stSETTLE
  else stVALID

/-- The detector that stands for OVERRANGE of channel `c` alone (21 Table 21-5). -/
def overDet (c : Nat) : Det := ⟨bPKM, 0, 0x02 + 32 * c⟩

/-- An OVERRANGE event of channel `c`; a string isolate shadows those of channels 3 and 4 (21 Table 21-5). -/
def State.overEv (s : State) (c : Nat) : State :=
  match s.shadowOf (overDet c) with
  | some sh => s.shadowed ⟨bPKM, 0, 0x02, lNote, 0x0A08 + c, 0, 0, 255⟩ (overDet c) sh
  | none => s.pkmEv 0x02 lNote (0x0A08 + c)

/-- A sample word is delivered: it is shown, taken as the synchronised sample where one is due, and an OVERRANGE run
counts once. -/
def State.packWord (s : State) (c w : Nat) : State :=
  let s1 := s.put F.PKM_SAMP_WORD w c
  let s2 := if hasBit s1.pack.syncWait c && wordSt w == stVALID then
      State.put { s1 with pack := { s1.pack with syncWait := putBit s1.pack.syncWait c false } } F.PKM_SYNCS_WORD w c
    else s1
  let o := wordSt w == stOVER
  let was := hasBit s2.pack.ovr c
  let s3 : State := { s2 with pack := { s2.pack with ovr := putBit s2.pack.ovr c o } }
  if o && !was then s3.overEv c else s3

/-- What the sections behind a channel do with its word. -/
def State.packUse (s : State) (c st : Nat) (v : Int) (n : Nat) (hall half : Bool) : State :=
  if c = 0 then
    let s1 := (s.ccTake st v n hall).gainWatch st v
    if st = stOVER ∧ s1.fld F.PKM_CFG_GAIN 0 = 3 then s1.setGain (s1.pack.gain - 1) else s1
  else if c = 2 then
    if st = stVALID then { s with pack := { s.pack with vSum := s.pack.vSum + v, vNum := s.pack.vNum + 1 } } else s
  else if c = 5 then
    if st = stVALID ∧ half = true then { s with pack := { s.pack with isoSum := s.pack.isoSum + v, isoNum := s.pack.isoNum + 1 } }
    else s
  else s

/-- PACK_SAMPLE: an output of the decimator of channel `c` (R433 to R436, R439).  `raw` is its value in the channel's
unit (µV for the Hall sensor), `ovr` that its input exceeded 105 % of the range, `bad` that the word failed the link
check. -/
def State.packSample (s : State) (c : Nat) (raw : Int) (ovr bad : Bool) (n : Nat) (hall early half : Bool) : State :=
  if s.dom 5 = .on ∧ s.flag F.PKM_CFG_EN c = true then
    let h := if c = 1 then s.hallCurrent raw else (raw, s)
    let lim := packRange c h.2.pack.gain
    let v := if ovr then (if raw < 0 then lim.1 else lim.2) else h.1
    let st := h.2.freshSt c ovr early half
    let s1 : State := if c = 5 && early then h.2 else { h.2 with pack := h.2.pack.settled c }
    if bad then
      let v0 := wordVal (s1.samp c)
      ((s1.pkmEv 0x01 lNote (0x0A08 + c)).packWord c (mkWord stSTALE v0)).packUse c stSTALE v0 n hall half
    else (s1.packWord c (mkWord st v)).packUse c st v n hall half
  else s

/-- SYNC_SAMPLE_TIMEOUT (R436): the last sample is held, STALE. -/
def State.syncTimeout (s : State) (c : Nat) : State :=
  if hasBit s.pack.syncWait c then
    State.put { s with pack := { s.pack with syncWait := putBit s.pack.syncWait c false } } F.PKM_SYNCS_WORD
      (mkWord stSTALE (wordVal (s.samp c))) c
  else s

/-- AUTO_GAIN_UP (R434): every sample of 10 ms has lain within 40 % of the higher gain's range. -/
def State.gainUp (s : State) : State :=
  match s.pack.calm with
  | some t =>
    if s.dom 5 = .on ∧ s.fld F.PKM_CFG_GAIN 0 = 3 ∧ s.pack.gain < 2 ∧ t + 10 ≤ s.tim.optime then s.setGain (s.pack.gain + 1) else s
  | none => s

/-- I_sync of R436: status and value in mA. -/
def State.iSync (s : State) : Nat × Int :=
  let a := s.fld F.PKM_SYNCS_WORD 0
  let w := if wordSt a = stVALID then a else s.fld F.PKM_SYNCS_WORD 1
  (wordSt w, wordVal w)

/-- The tick means (R437): kept where a tick delivered nothing. -/
def State.packTick (s : State) : State :=
  let p := s.pack
  { s with pack := { p with
      iMean := if p.iNum = 0 then p.iMean else truncDiv p.iSum p.iNum
      vMean := if p.vNum = 0 then p.vMean else truncDiv p.vSum p.vNum
      iSum := 0
      iNum := 0
      vSum := 0
      vNum := 0 } }

/-- Actions of a write of `PKM_CFGc` (R433 to R435): `was` is the state before the write. -/
def State.pkmCfgActs (was s : State) (c : Nat) : State :=
  let s1 := s.put F.PKM_CFG_OSR (min 4 (s.fld F.PKM_CFG_OSR c)) c
  let s2 := if c = 0 then s1 else s1.put F.PKM_CFG_GAIN 0 c
  let en := s2.flag F.PKM_CFG_EN c
  let s3 := if en && (!was.flag F.PKM_CFG_EN c || was.fld F.PKM_CFG_OSR c != s2.fld F.PKM_CFG_OSR c) && s2.dom 5 == .on then
      { s2 with pack := s2.pack.settleFor c 2 }
    else s2
  if c = 0 ∧ s3.fld F.PKM_CFG_GAIN 0 < 3 then s3.setGain (s3.fld F.PKM_CFG_GAIN 0) else s3

/-! ### The isolation monitor (R438) -/

/-- A leakage resistance in kΩ from the quotient `num / den` of R438 in units of Rb = 2 MΩ, with the loading of the
module's own divider removed; `rd` is that divider in kΩ (log entry 29).  Over a voltage of 0 the quotient exceeds every value. -/
def leakage (num den : Int) (rd : Nat) (low : Bool) : Nat :=
  if low then 0
  else if den = 0 then 0xFFFFFFFF
  else
    let r := truncDiv (2000 * num) den
    if r < 0 then 0
    else if (rd : Int) ≤ r then 0xFFFFFFFF
    else
      let x := truncDiv (r * rd) (rd - r)
      if 100000 < x then 0xFFFFFFFF else x.toNat

/-- The two leakage resistances R_LP and R_LN of V0 to V3 and V_pack, in mV: each is 0 where a denominator of its own is below 1 V. -/
def isoResult (v : List Nat) (vp : Int) : Nat × Nat :=
  let g (i : Nat) : Int := v.getD i 0
  let d2 := vp - g 2
  let d3 := vp - g 3
  (leakage (g 0 * g 3 - g 1 * d3) (g 1 * d3) (20000 + Config.isoDivider 0) (g 1 < 1000 || d3 < 1000),
   leakage (g 2 * g 1 - d2 * g 0) (d2 * g 0) (20000 + Config.isoDivider 1) (g 1 < 1000 || d2 < 1000))

/-- R_LN where V0 and V2 are both 0: b / a is then no number, and the specification states no result (log entry 29). -/
def isoOpen (v : List Nat) (vp : Int) : Bool := v.getD 0 0 == 0 && v.getD 2 0 == 0 && 1000 ≤ v.getD 1 0 && decide (1000 ≤ vp)

/-- V_m of the dwell that ends: the magnitude of the mean, free where no sample was VALID (log entry 29). -/
def State.isoMean (s : State) : Nat × State :=
  if s.pack.isoNum = 0 then
    let f := s.free
    (f.1 % 1000001, f.2)
  else ((truncDiv s.pack.isoSum s.pack.isoNum).natAbs, s)

/-- ISO_DWELL_END (R438): V_m is taken and the next state begins; the end of M3 gives the results. -/
def State.isoEnd (s : State) : State :=
  if s.dom 5 = .on ∧ s.flag F.PKM_ISO_CFG_ISO_EN = true then
    let m := s.fld F.PKM_ISO_STAT_STATE
    let a := s.isoMean
    let p := a.2.pack
    let p1 : Pack := { p with isoV := p.isoV.set m a.1, isoSum := 0, isoNum := 0 }
    let s1 := State.put { a.2 with pack := p1.settleFor 5 3 } F.PKM_ISO_STAT_STATE (m + 1)
    if m = 3 then
      let vp := wordVal (s1.samp 2)
      let r := isoResult p1.isoV vp
      let x := if isoOpen p1.isoV vp then s1.free else (r.2, s1)
      (x.2.put F.PKM_ISO_LP_R_LP r.1).put F.PKM_ISO_LN_R_LN x.1
    else s1
  else s

end Sys2Proof.Machine
end

