-- ==== Sys2Proof/Machine/Milk.lean ====
section
/-! DEFINITION. Frames of the Milk chain (16 R414 to R424): their bytes, how far they travel, what a cartridge monitor does with
one, and what the Herd makes of an answer. -/
namespace Sys2Proof.Machine

/-! ### Frames (R416, R417) -/

/-- Header and payload of a frame. -/
def MilkFrame.body (f : MilkFrame) : Bytes :=
  leBytes 1 f.typ ++ leBytes 1 f.addr ++ leBytes 1 f.payload.length ++ leBytes 1 f.seq ++ f.payload

/-- The CRC of a frame. -/
def milkCrc (b : Bytes) : Nat := crc16 0x8408 0xFFFF b ^^^ 0xFFFF

/-- Preamble and SFD. -/
def milkStartBytes : Bytes := [0x55, 0x55, 0xD5]

/-- The bytes of a frame (Table 16-2). -/
def MilkFrame.bytes (f : MilkFrame) : Bytes := milkStartBytes ++ f.body ++ leBytes 2 (milkCrc f.body)

/-- What a receiver makes of bytes; one with a bad CRC, a LEN above 64 or another length than LEN says is discarded. -/
def milkTake (bs : Bytes) : Option MilkFrame :=
  let b := bs.drop 3
  let n := leAt b 2 1
  if bs.take 3 = milkStartBytes ∧ n ≤ 64 ∧ b.length = n + 6 ∧ leAt b (n + 4) 2 = milkCrc (b.take (n + 4)) then
    some ⟨leAt b 0 1, leAt b 1 1, leAt b 3 1, (b.drop 4).take n⟩
  else none

/-- A frame answers a command (R417): its TYPE and SEQ, and the address asked, which ENUM leaves open. -/
def MilkFrame.answers (x c : MilkFrame) : Bool :=
  x.typ == c.typ + 0x80 && x.seq == c.seq && (c.addr == 0x3F || x.addr == c.addr)

/-- A command frame of the Herd; its SEQs count up (log entry 83). -/
def Herd.frame (h : Herd) (typ addr : Nat) (payload : Bytes) : MilkFrame := ⟨typ, addr, h.seq % 256, payload⟩

/-! ### The monitors (R419 to R424) -/

/-- The monitor at position `p`, 1 to 12. -/
def State.mon (s : State) (p : Nat) : Mon := s.herd.mons.get {} ⟨p, 0, 0⟩
def State.setMon (s : State) (p : Nat) (m : Mon) : State :=
  { s with herd := { s.herd with mons := s.herd.mons.set {} ⟨p, 0, 0⟩ m } }

/-- A monitor receives a valid frame: it leaves standby (R424). -/
def Mon.heard (m : Mon) : Mon := { m with standby := false }

/-- A monitor that is unaddressed and sleeps (R424). -/
def Mon.asleep (m : Mon) : Mon := { m with awake := false, standby := false, addr := 0, hopA := 255, hopB := 255, bal := 0 }

/-- A monitor after waking or power-up (R424). -/
def Mon.fresh (uid maker : Nat) : Mon := { uid := uid, maker := maker, awake := true, restarted := true }

/-- MSTAT of R418. -/
def Mon.mstat (m : Mon) : Nat :=
  b2n m.late + 2 * b2n m.openWire + 4 * b2n m.restarted + 8 * b2n (!m.synced) + 16 * b2n m.coll

/-- A measurement word with at least status `st` (R425). -/
def worse (st w : Nat) : Nat := max st (w / 2 ^ 14) * 2 ^ 14 + w % 2 ^ 14

/-- SYNC_MEASURE reaches a monitor (R422, R423): it begins to sample, and its switches go off; on a port without a hop value it
ignores the frame. -/
def Mon.sync (m : Mon) (portB : Bool) (aper round : Nat) : Mon :=
  if (if portB then m.hopB else m.hopA) = 255 then m
  else { m with synced := true, missed := false, late := m.bal != 0, bal := 0, due := some (aper, round) }

/-- The results of a SYNC_MEASURE are ready (R422, R423): the cell words are SETTLE where a switch was on in the 1.0 ms before the
sample instant. -/
def Mon.sampled (m : Mon) (cells temps : List Nat) (wire recent : Bool) : Mon :=
  match m.due with
  | some (_, round) =>
    let late := m.late || recent
    { m with
      late := late
      openWire := wire
      due := none
      res := some ⟨round, cells.map (worse (if late then stSETTLE else stVALID)), temps⟩ }
  | none => m

/-- The DATA answer of a monitor (R418, R423): where no result is ready or a SYNC was missed, the last ones are STALE, under their own
ROUND. -/
def Mon.answer (m : Mon) : Bytes :=
  let r := m.res.getD ⟨0, List.replicate 20 0, List.replicate 4 0⟩
  let f := if m.missed || m.due.isSome || m.res.isNone then worse stSTALE else fun w => w
  leBytes 2 r.round ++ (r.cells ++ r.temps).flatMap (fun w => leBytes 2 (f w)) ++ leBytes 2 m.mstat

/-- READ reaches the monitor it addresses (R423): the switches are set, and what MSTAT reported starts again. -/
def Mon.read (m : Mon) (mask time : Nat) : Mon :=
  { m with bal := if time = 0 then 0 else mask, restarted := false, synced := false, coll := false }

/-- What a monitor does with a valid frame on a port, and its answer (R417, R420, R421): a TYPE that Table 16-3 does not list is
ignored.  The address of an ENUM_RSP is read by nobody (log entry 83). -/
def Mon.take (m : Mon) (portB : Bool) (f : MilkFrame) : Mon × Option MilkFrame :=
  let h := m.heard
  let p (off n : Nat) : Nat := leAt f.payload off n
  let mine := m.addr != 0 && f.addr == m.addr
  if f.typ = 0x01 ∧ f.addr = 0 then (h.sync portB (p 0 2) (p 2 2), none)
  else if f.typ = 0x02 ∧ mine = true then (h.read (p 0 3) (p 3 2), some ⟨0x82, m.addr, f.seq, h.answer⟩)
  else if f.typ = 0x03 ∧ f.addr = 0x3F ∧ m.addr = 0 then
    (if p 0 1 = 0 then h else { h with addr := p 0 1, hopA := if portB then 255 else p 1 1, hopB := if portB then p 1 1 else 255 },
     some ⟨0x83, 0, f.seq, leBytes 4 m.uid ++ leBytes 2 m.maker ++ [1, 20]⟩)
  else if f.typ = 0x04 ∧ mine = true then ({ h with hopA := p 0 1, hopB := p 1 1 }, some ⟨0x84, m.addr, f.seq, []⟩)
  else if f.typ = 0x05 ∧ f.addr = 0 then ({ h with addr := 0, hopA := 255, hopB := 255, bal := 0 }, none)
  else if f.typ = 0x06 ∧ f.addr = 0 then (h.asleep, none)
  else (h, none)

/-! ### How far a frame travels (R414, R419) -/

/-- The addressed monitor at position `p` is busy repeating a frame the other way. -/
def State.milkBusy (s : State) (l : MilkLine) (p : Nat) : Bool := (s.mon p).addr != 0 && hasBit l.busy.toNat (p - 1)

/-- The monitor at position `p` repeats a frame: it is awake and addressed, and not busy with one the other way. -/
def State.repeats (s : State) (l : MilkLine) (p : Nat) : Bool :=
  (s.mon p).awake && (s.mon p).addr != 0 && !s.milkBusy l p

/-- Positions that a frame passes before it comes to `p`, and segments that it crosses. -/
def milkBefore (l : MilkLine) (ret : Bool) (p : Nat) : List Nat :=
  (List.range (l.n.val + 1)).filter fun q => if ret then p < q else 1 ≤ q && q < p
def milkWhole (l : MilkLine) (ret : Bool) (p : Nat) : Bool :=
  (List.range (l.n.val + 1)).all fun i => !(if ret then p ≤ i else i < p) || !hasBit l.cut.toNat i

/-- A frame from an end comes to position `p`; position 0 is CHAIN_OUT and the one behind the last monitor CHAIN_RET. -/
def State.reaches (s : State) (ret : Bool) (l : MilkLine) (p : Nat) : Bool :=
  p ≤ l.n.val + 1 && milkWhole l ret p && (milkBefore l ret p).all (s.repeats l)

/-- The bytes that arrive at a position: repeated whole, even where they are damaged on the way. -/
def milkBytesAt (l : MilkLine) (ret : Bool) (p : Nat) (f : MilkFrame) : Bytes :=
  match l.hit with
  | some (k, bs) => if (if ret then p ≤ k.val else k.val < p) then bs else f.bytes
  | none => f.bytes

/-- An event of the Herd chain block about address `a`, or about none (0). -/
def State.hrdEv (s : State) (typ lvl a : Nat) : State := s.event ⟨bHRD, 0, typ, lvl, 20 * (a - 1), 0, 0, 255⟩

/-- The Herd discards a frame (R416, Table 16-11). -/
def State.crcErr (s : State) : State := (s.count F.HRD_ERR_CRC_ERR).hrdEv 0x01 lNote 0

/-- An answer of address `a` is missing, late or no match (Table 16-11). -/
def State.noRsp (s : State) (a : Nat) : State := (s.count F.HRD_ERR_NO_RSP).hrdEv 0x02 lNote a

/-- An end of the chain. -/
def Herd.side (h : Herd) (ret : Bool) : HSide := if ret then h.ret else h.out
def State.setSide (s : State) (ret : Bool) (x : HSide) : State :=
  { s with herd := if ret then { s.herd with ret := x } else { s.herd with out := x } }

/-- A frame comes to the monitor at position `p`: `busy` repeating another, it reports that (R419); else it acts on it, and
its answer goes back. -/
def State.milkAt (s : State) (ret : Bool) (l : MilkLine) (f : MilkFrame) (busy : Bool) (p : Nat) : State :=
  let m := s.mon p
  if !m.awake then s
  else if busy then s.setMon p { m with coll := true }
  else
    match milkTake (milkBytesAt l ret p f) with
    | some g =>
      let r := m.take ret g
      let t := s.setMon p r.1
      match r.2 with
      | some x => t.setSide ret { t.herd.side ret with ans := some x.bytes }
      | none => t
    | none => s

/-- The chain is sent something. -/
def State.milkTx (s : State) : State := { s with herd := { s.herd with lastTx := s.tim.optime } }

/-- The Herd sends a frame on one end: every monitor that it reaches takes it, and what arrives at the other end is the echo (R431). -/
def State.milkSend (s : State) (ret : Bool) (l : MilkLine) (f : MilkFrame) : State :=
  let ps := ((List.range (l.n.val + 1)).filter fun p => 1 ≤ p && s.reaches ret l p)
  let far := if ret then 0 else l.n.val + 1
  let echo : MilkEcho := if !s.reaches ret l far then .missing
    else match milkTake (milkBytesAt l ret far f) with
      | some g => if g = f then .intact else .missing
      | none => .damaged
  let t := State.milkTx (ps.foldl (fun a p => a.milkAt ret l f (s.milkBusy l p) p) s)
  let u : State := { t with herd := { t.herd with seq := (s.herd.seq + 1) % 256, echo := if ret then t.herd.echo else echo } }
  if echo = .damaged then u.crcErr else u

/-- A command that an end expects an answer to. -/
def State.milkAsk (s : State) (ret : Bool) (l : MilkLine) (c : MilkFrame) : State :=
  (s.setSide ret { s.herd.side ret with cmd := some c, ans := none }).milkSend ret l c

/-- One frame on both ends together: where the copies meet, a monitor that repeats one is busy for the other, also where the
copy it repeats takes its address (R419). -/
def State.milkBoth (s : State) (lo lr : MilkLine) (f : MilkFrame) : State :=
  let ps := (List.range (lr.n.val + 1)).filter fun p => 1 ≤ p && s.reaches true lr p
  ps.foldl (fun a p => a.milkAt true lr f (s.milkBusy lr p) p) (s.milkSend false lo f)

/-- What the Herd receives on an end. -/
inductive MilkGot where
  | nothing | discarded | other
  | answer (payload : Bytes)
  deriving DecidableEq, Repr

/-- What arrives on an end where command `c` waits for an answer of `n` payload bytes: the monitor's own, or the bytes `rx` in its
place. -/
def State.milkGot (s : State) (ret : Bool) (rx : Option Bytes) (c : MilkFrame) (n : Nat) : MilkGot :=
  match (match rx with | some b => some b | none => (s.herd.side ret).ans) with
  | none => .nothing
  | some b =>
    match milkTake b with
    | none => .discarded
    | some x => if x.answers c && x.payload.length == n then .answer x.payload else .other

end Sys2Proof.Machine
end

