-- ==== Sys2Proof/Machine/Herd.lean ====
section
/-! DEFINITION. The Milk chain (16 R414 to R432, R441 to R448): the monitors, enumeration, the Milk round, breaks and
changes, and the conditions of battery assist (04 R91). -/
namespace Sys2Proof.Machine

/-- Address `a` is enumerated. -/
def State.enumd (s : State) (a : Nat) : Bool := 1 ≤ a && hasBit s.herd.addrs (a - 1)
/-- The enumerated addresses, ascending. -/
def State.addrList (s : State) : List Nat := (bitsSet s.herd.addrs 12).map (· + 1)

/-- Each bit of `ASSIST_BLK` follows its condition (04 R91, R432). -/
def State.assistSettle (s : State) : State :=
  let lim := s.flag F.EST_STAT_LIM_LOADED
  let seq := s.fld F.CTR_STAT_SEQ
  let chain := lim && s.fld F.HRD_STAT_COUNT == s.est.lim.ncart && s.fld F.HRD_STAT_MISSING == 0
  s.put F.AON_SVC_STAT_ASSIST_BLK
    (b2n (!s.flag F.AON_SVC_STAT_EST_LOADED) + 2 * b2n (!lim) + 4 * b2n (!s.gov.shared) +
      8 * b2n (!(seq == 7 || seq == 8)) + 16 * b2n (!chain))

/-- `MODE`; `BREAK_POS` is 0 outside BROKEN mode (Table 16-10). -/
def State.herdMode (s : State) (m : Nat) : State :=
  let t := s.put F.HRD_STAT_MODE m
  if m = 4 then t else t.put F.HRD_STAT_BREAK_POS 0

/-! ### Words and registers of an address -/

/-- The words of address `a` become STALE (R429, R432). -/
def State.staleWords (s : State) (a : Nat) : State :=
  let t := (List.range 20).foldl (fun x i =>
    let n := 20 * (a - 1) + i
    x.put F.HRD_CELL_WORD (worse stSTALE (x.fld F.HRD_CELL_WORD n)) n) s
  (List.range 4).foldl (fun x i =>
    let n := 4 * (a - 1) + i
    x.put F.HRD_TEMP_WORD (worse stSTALE (x.fld F.HRD_TEMP_WORD n)) n) t

/-- The words of every enumerated address become STALE. -/
def State.staleAll (s : State) : State := s.addrList.foldl (fun a n => a.staleWords n) s

/-- Every word of an answer replaces its register whole (R448). -/
def State.storeWords (s : State) (a round : Nat) (cells temps : List Nat) : State :=
  let t := (List.range 20).foldl (fun x i =>
    (x.put F.HRD_CELL_WORD (cells.getD i 0) (20 * (a - 1) + i)).put F.HRD_CELL_ROUND round (20 * (a - 1) + i)) s
  (List.range 4).foldl (fun x i =>
    (x.put F.HRD_TEMP_WORD (temps.getD i 0) (4 * (a - 1) + i)).put F.HRD_TEMP_ROUND round (4 * (a - 1) + i)) t

/-- MON_CHANGE: the chain is enumerated again in place of the next round (R432). -/
def State.monChange (s : State) : State :=
  State.putFlag { s with herd := { s.herd with needEnum := true } } F.HRD_STAT_MON_CHANGE true

/-- The Herd enters BROKEN mode (R431). -/
def State.toBroken (s : State) : State :=
  let h : Herd := { s.herd with broken := true }
  ((State.herdMode { s with herd := h } 4).count F.HRD_ERR_BREAKS).hrdEv 0x03 lDegrade 0

/-! ### The read phase (R429, R431) -/

/-- The address an end reads after `cur`; 0 at its end, or where the other end has read it. -/
def State.nextRead (s : State) (ret : Bool) (cur : Nat) : Nat :=
  let c := if ret then (s.addrList.filter (· < cur)).getLast? else (s.addrList.filter (cur < ·)).head?
  match c with
  | some a => if hasBit s.herd.got (a - 1) then 0 else a
  | none => 0

/-- The OUT string has stopped in BROKEN mode: BREAK_POS shows how far it came. -/
def State.breakPos (s : State) : State :=
  if s.fld F.HRD_STAT_MODE = 4 ∧ s.herd.out.cur = 0 then s.put F.HRD_STAT_BREAK_POS s.herd.outMax else s

/-- An end whose READ is still to be sent stops at an address that the other end has read (R431). -/
def State.stopRead (s : State) (ret : Bool) : State :=
  let x := s.herd.side ret
  if x.cur ≠ 0 ∧ x.cmd = none ∧ hasBit s.herd.got (x.cur - 1) = true then s.setSide ret {} else s

/-- An end goes on to its next address. -/
def State.advance (s : State) (ret : Bool) : State :=
  let c := (s.herd.side ret).cur
  ((s.setSide ret { cur := s.nextRead ret c }).stopRead (!ret)).breakPos

/-- The balance mask that a READ of address `a` carries (R429). -/
def State.balMask (s : State) (a : Nat) : Nat :=
  let hot := (List.range 4).any fun i =>
    decide (16 * (s.fld F.HRD_BAL_CFG_BAL_TMAX : Int) < toSigned 14 (s.fld F.HRD_TEMP_WORD (4 * (a - 1) + i)))
  if hot then 0
  else maskOf 20 fun i =>
    let w := s.fld F.HRD_CELL_WORD (20 * (a - 1) + i)
    hasBit (s.fld F.HRD_BAL_MASK (a - 1)) i && w / 2 ^ 14 == stVALID && 16 * s.fld F.HRD_BAL_CFG_BAL_VMIN ≤ 5 * (w % 2 ^ 14)

/-- BAL_TIME of a READ that ends `us` after the start of its round, where the next round begins `gap` ms after it (Table
16-4). -/
def balTime (gap us : Nat) : Nat := (1000 * gap + 152 - 1500 - us) / 100

/-- READ (R423, R429): the Herd reads the next address of an end; `us` is when the frame ends in the round. -/
def State.milkRead (s : State) (ret : Bool) (us : Nat) (l : MilkLine) : State :=
  let x := s.herd.side ret
  if s.herd.ph = .round ∧ x.cur ≠ 0 ∧ x.cmd = none then
    let m := s.balMask x.cur
    let t := balTime s.herd.gap us
    let s1 : State := { s with herd := { s.herd with grant := s.herd.grant.set (0, 0) ⟨x.cur, 0, 0⟩ (m, t) } }
    s1.milkAsk ret l (s.herd.frame 0x02 x.cur (leBytes 3 m ++ leBytes 2 t))
  else s

/-- A READ has failed: it is retried once, then the address's words are STALE; in BROKEN mode the string stops (R429,
R431). -/
def State.readFailed (s : State) (ret : Bool) : State :=
  let x := s.herd.side ret
  if x.cur = 0 then s
  else if x.retry then
    let s1 := if hasBit s.herd.got (x.cur - 1) then s else s.staleWords x.cur
    if s1.fld F.HRD_STAT_MODE = 4 then (s1.setSide ret {}).breakPos else s1.advance ret
  else s.setSide ret { cur := x.cur, retry := true }

/-- The `n` 16-bit words of a payload from byte `off` on. -/
def wordsAt (b : Bytes) (off n : Nat) : List Nat := (List.range n).map fun i => leAt b (off + 2 * i) 2

/-- The payload of a DATA that answers the READ of address `a` on an end (R429, R432, Table 16-3). -/
def State.takeData (s : State) (ret : Bool) (a : Nat) (b : Bytes) : State :=
  let round := leAt b 0 2
  let mstat := leAt b 50 2
  let h := s.herd
  let h1 : Herd := { h with
      got := putBit h.got (a - 1) true
      outMax := if ret then h.outMax else max h.outMax a
      wires := putBit h.wires (a - 1) (hasBit mstat 1) }
  let s1 := (State.storeWords { s with herd := h1 } a round (wordsAt b 2 20) (wordsAt b 42 4))
  let s2 := ((s1.put F.HRD_MSTAT_ROUND round (a - 1)).put F.HRD_MSTAT_MSTAT mstat (a - 1)).putFlag F.HRD_MON_INFO_REACH_A (!ret) (a - 1)
  let s3 := s2.putFlag F.HRD_MON_INFO_REACH_B ret (a - 1)
  let s4 := if round = h.r % 65536 then s3 else s3.noRsp a
  let s5 := if hasBit mstat 2 then s4.monChange else s4
  let s6 := if hasBit mstat 1 && !hasBit h.wires (a - 1) then s5.hrdEv 0x06 lDegrade a else s5
  s6.advance ret

/-- DATA (R429): a frame arrives on an end while a READ waits there: the monitor's own answer, or the bytes `rx` in its place.  One
that a receiver discards, or that is no answer to the READ, fails it. -/
def State.milkData (s : State) (ret : Bool) (rx : Option Bytes) : State :=
  let x := s.herd.side ret
  match s.herd.ph, x.cmd with
  | .round, some c =>
    match s.milkGot ret rx c 52 with
    | .nothing => s
    | .discarded => s.crcErr.readFailed ret
    | .other => (s.noRsp c.addr).readFailed ret
    | .answer b => s.takeData ret c.addr b
  | _, _ => s

/-! ### Enumeration (R426) -/

/-- The enumeration ends (R426, R432, Table 16-12). -/
def State.enumEnd (s : State) : State :=
  let h := s.herd
  let addrs := maskOf 12 fun i => i < h.k || (h.c - h.j ≤ i && i < h.c)
  let s1 : State := { s with herd := { h with
      ph := .idle
      addrs := addrs
      miss := {}
      wires := 0
      toRing := false
      got := 0 } }
  let s2 := (s1.put F.HRD_STAT_COUNT (h.k + h.j)).put F.HRD_STAT_MISSING 0
  let s3 := (List.range 12).foldl (fun a i =>
    let b := (a.put F.HRD_BAL_MASK 0 i).putFlag F.HRD_MON_INFO_MISS false i
    if hasBit addrs i then b
    else (((b.put F.HRD_MON_INFO_MAKER 0 i).put F.HRD_MON_INFO_IFVER 0 i).put F.HRD_MON_INFO_CELLS 0 i).putFlag
      F.HRD_MON_INFO_REACH_A false i |>.putFlag F.HRD_MON_INFO_REACH_B false i) s2
  let s4 := if h.ring then State.herdMode { s3 with herd := { s3.herd with broken := false } } 3
    else (if h.broken then s3.herdMode 4 else s3.toBroken).put F.HRD_STAT_BREAK_POS h.k
  s4.withSvc fun a => a.assistSettle

/-- SETUP begins: every enumerated address in turn. -/
def State.enumSetup (s : State) : State :=
  let h := s.herd
  let todo := (List.range h.k).map (· + 1) ++ (List.range h.j).reverse.map (fun i => h.c - i)
  let s1 : State := { s with herd := { h with ph := .setup, todo := todo, out := {}, ret := {} } }
  if todo.isEmpty then s1.enumEnd else s1

/-- The OUT string is enumerated: the ring is closed, or RET goes on. -/
def State.enumOutDone (s : State) (ring : Bool) : State :=
  let s1 : State := { s with herd := { s.herd with ring := ring, j := 0, out := {}, ret := {} } }
  if !ring && s1.herd.k < s1.herd.c then { s1 with herd := { s1.herd with ph := .enumRet } } else s1.enumSetup

/-- ENUMERATION (R426): the chain is awake, and RESET is due. -/
def State.enumStart (s : State) : State :=
  if s.herd.ph = .due then
    let h := s.herd
    State.herdMode { s with herd := { h with
        ph := .reset
        needEnum := false
        needWake := false
        k := 0
        j := 0
        c := s.est.lim.ncart
        ring := false } } 2
  else s

/-- RESET (R421, R426), on both ends; the first ENUM follows. -/
def State.milkReset (s : State) (lo lr : MilkLine) : State :=
  if s.herd.ph = .reset then
    let t := s.milkBoth lo lr (s.herd.frame 0x05 0 [])
    { t with herd := { t.herd with ph := .enumOut, out := {}, ret := {} } }
  else s

/-- The NEWADDR and HOP that the Herd's ENUM carries on an end, where one is out (R426, Table 16-4). -/
def Herd.asks (h : Herd) (ret : Bool) : Option (Nat × Nat) :=
  match h.ph with
  | .enumOut => if ret then none else some (h.k + 1, h.k)
  | .enumRet => if ret then some (h.c - h.j, h.j) else none
  | .probe => some (0, 0)
  | _ => none

/-- ENUM (R421, R426): the Herd sends it on an end where one is due. -/
def State.milkEnum (s : State) (ret : Bool) (l : MilkLine) : State :=
  match s.herd.asks ret, (s.herd.side ret).cmd with
  | some (na, hop), none => s.milkAsk ret l (s.herd.frame 0x03 0x3F (leBytes 1 na ++ leBytes 1 hop))
  | _, _ => s

/-- Record an ENUM_RSP for address `a`; a new UID sets MON_CHANGE and reinitialises its cells (R432, 17 R456). -/
def State.recordMon (s : State) (a : Nat) (b : Bytes) : State :=
  let i := a - 1
  let uid := leAt b 0 4
  let had := hasBit s.herd.known i
  let same := had && s.fld F.HRD_MON_UID_UID i == uid
  let s1 : State := { s with herd := { s.herd with known := putBit s.herd.known i true } }
  let s2 := (((s1.put F.HRD_MON_INFO_MAKER (leAt b 4 2) i).put F.HRD_MON_INFO_IFVER (leAt b 6 1) i).put F.HRD_MON_INFO_CELLS
    (leAt b 7 1) i).put F.HRD_MON_UID_UID uid i
  let s3 := if had && !same then s2.monChange else s2
  if same then s3
  else
    let cells := (List.range 20).foldl (fun t c =>
      let k : Key := ⟨20 * i + c, 0, 0⟩
      t.set {} k { t.get {} k with init := false, last := none }) s3.est.cells
    { s3 with est := { s3.est with cells := cells } }

/-- No ENUM_RSP has come on an end: its string is enumerated; a probe has drawn nothing (R426). -/
def State.enumNone (s : State) (ret : Bool) : State :=
  match s.herd.ph with
  | .enumOut => if ret then s else s.enumOutDone (s.herd.echo == .intact)
  | .enumRet => if ret then s.enumSetup else s
  | .probe => s.setSide ret {}
  | _ => s

/-- An ENUM_RSP with payload `b` answers the ENUM of an end (R426, R432). -/
def State.takeEnum (s : State) (ret : Bool) (b : Bytes) : State :=
  let s1 := s.setSide ret {}
  match s.herd.ph with
  | .enumOut =>
    let s2 := s1.recordMon (s.herd.k + 1) b
    let s3 : State := { s2 with herd := { s2.herd with k := s.herd.k + 1 } }
    if s3.herd.k = 12 then { s3 with herd := { s3.herd with ph := .ping } } else s3
  | .enumRet =>
    let s2 := s1.recordMon (s.herd.c - s.herd.j) b
    let s3 : State := { s2 with herd := { s2.herd with j := s.herd.j + 1 } }
    if s3.herd.c - s3.herd.j ≤ s3.herd.k then s3.enumSetup else s3
  | .probe => s1.monChange
  | _ => s1

/-- ENUM_RSP (R426, R432): a frame arrives on an end while an ENUM waits there; as for DATA. -/
def State.enumRsp (s : State) (ret : Bool) (rx : Option Bytes) : State :=
  match s.herd.asks ret, (s.herd.side ret).cmd with
  | some _, some c =>
    match s.milkGot ret rx c 8 with
    | .nothing => s
    | .discarded => s.crcErr.enumNone ret
    | .other => (s.noRsp 0).enumNone ret
    | .answer b => s.takeEnum ret b
  | _, _ => s

/-- The SETUP of address `a` is done: go on to the next, or end. -/
def State.setupNext (s : State) (a : Nat) : State :=
  let s1 : State := { s with herd := { s.herd with todo := s.herd.todo.filter (· != a) } }
  if s1.herd.todo.isEmpty then s1.enumEnd else s1

/-- SETUP of address `a` (R421, R426, which gives the addresses no order), and its ACK, unless that is lost: as the monitor sent it, or
the bytes `rx` in its place. -/
def State.milkSetup (s : State) (a : Nat) (l : MilkLine) (lost : Bool) (rx : Option Bytes) : State :=
  let h := s.herd
  if h.ph == .setup && h.todo.contains a && h.out.cmd.isNone && h.ret.cmd.isNone then
    let ret := !(decide (a ≤ h.k))
    let ha := if a ≤ h.k then a - 1 else 255
    let hb := if h.ring then h.k - a else if a ≤ h.k then 255 else h.c - a
    let c := h.frame 0x04 a (leBytes 1 ha ++ leBytes 1 hb)
    let t := s.milkAsk ret l c
    if lost then t
    else
      let u := t.setSide ret {}
      match t.milkGot ret rx c 0 with
      | .nothing => t
      | .discarded => u.crcErr.setupNext a
      | .other => (u.noRsp a).setupNext a
      | .answer _ => u.setupNext a
  else s

/-- RESPONSE_TIMEOUT (R426, R429): no answer has come on an end where a command waits for one. -/
def State.rspTimeout (s : State) (ret : Bool) : State :=
  match (s.herd.side ret).cmd with
  | none => s
  | some c =>
    match s.herd.ph with
    | .setup => ((s.setSide ret {}).noRsp c.addr).setupNext c.addr
    | .round => (s.noRsp c.addr).readFailed ret
    | _ => s.enumNone ret

/-- PING on OUT (R417, R426, R431). -/
def State.milkPing (s : State) (l : MilkLine) : State :=
  let t := s.milkSend false l (s.herd.frame 0x07 0 [])
  let back := t.herd.echo == .intact
  match s.herd.ph with
  | .ping => t.enumOutDone back
  | .probe => { t with herd := { t.herd with toRing := back, pinged := true } }
  | _ => s

/-! ### The round (R427, R430, R431) -/

/-- `PERIOD` at a tick: a change takes effect at the first multiple of it after the write (R427). -/
def State.roundDue (s : State) : Option Nat :=
  let n := s.fld F.HRD_CTL_PERIOD
  let o := s.tim.optime
  if n ≠ s.herd.per ∧ s.herd.perAt < o ∧ o % n = 0 then some n
  else if o % s.herd.per = 0 then some s.herd.per
  else none

/-- Milliseconds from OPTIME, at which a round of period `n` begins, to the next round: a change of `PERIOD` that waits takes effect at the
first multiple of it (R427). -/
def State.roundGap (s : State) (n : Nat) : Nat :=
  let p := s.fld F.HRD_CTL_PERIOD
  if p = n then n else min n (p - s.tim.optime % p)

/-- The chain is to be woken: ones are sent, and ENUMERATION follows (R426). -/
def State.wakeChain (s : State) : State :=
  State.herdMode (State.milkTx { s with herd := { s.herd with ph := .due, needWake := true } }) 1

/-- APER of a round in µs (Table 16-4): the window of the shunt's synchronised sample. -/
def State.aper (s : State) : Nat := (3 * (64 * 2 ^ s.fld F.PKM_CFG_OSR 0) + 9) / 10

/-- SYNC_MEASURE goes out on OUT, in BROKEN mode on both ends, and the read phase opens (R427, R431, R435).  A monitor that it does
not reach has missed it. -/
def State.roundOpen (s : State) (lo lr : MilkLine) : State :=
  let h := s.herd
  let s1 := if h.toRing then State.herdMode { s with herd := { h with toRing := false, broken := false } } 3 else s
  let s2 : State := { s1 with herd := { s1.herd with
      ph := .round
      got := 0
      outMax := 0
      pinged := false
      granted := s1.herd.grant
      grant := {}
      out := { cur := s1.addrList.head?.getD 0 }
      ret := { cur := if s1.fld F.HRD_STAT_MODE = 4 then s1.addrList.getLast?.getD 0 else 0 } } }
  let s3 := (List.range 12).foldl (fun a i =>
    if (a.mon (i + 1)).awake then a.setMon (i + 1) { a.mon (i + 1) with missed := true, due := none } else a) s2
  let c := s3.herd.frame 0x01 0 (leBytes 2 s3.aper ++ leBytes 2 (s3.herd.r % 65536))
  (if s3.fld F.HRD_STAT_MODE = 4 then s3.milkBoth lo lr c else s3.milkSend false lo c).packSync

/-- The Herd runs rounds: PD04 and PD05 are on, `RUN` is set, the chain stage has begun, and the auxiliary feed is there (R447). -/
def State.herdRuns (s : State) : Bool :=
  s.dom 4 == .on && s.dom 5 == .on && s.flag F.HRD_CTL_RUN && s.herd.stage && !s.flag F.AON_PIN_PHASE_HOLDUP

/-- MILK_ROUND_START (R426, R427, R432, R441): a round opens; or the chain is woken or enumerated in its place; or the
Herd is busy.  `milkStale` says which rounds deliver no samples. -/
def State.milkStart (s : State) (lo lr : MilkLine) : State :=
  match s.roundDue with
  | none => s
  | some n =>
    if s.herdRuns && s.herd.startAt != s.tim.optime + 1 then
      let h := s.herd
      let s1 : State := { s with herd := { h with
          per := n
          gap := s.roundGap n
          startAt := s.tim.optime + 1
          r := s.tim.optime / n } }
      if h.ph ≠ .idle then s1.staleAll
      else if h.needWake || h.lastTx + 500 ≤ s.tim.optime then
        ((s1.staleAll.count F.HRD_ERR_REENUM).hrdEv 0x05 lNote 0).wakeChain
      else if h.needEnum then
        let s2 := (s1.staleAll.count F.HRD_ERR_REENUM).hrdEv 0x05 lNote 0
        { s2 with herd := { s2.herd with ph := .due } }
      else s1.roundOpen lo lr
    else s

/-- The round that MILK_ROUND_START just began delivers no samples. -/
def State.milkStale (was s : State) : Bool := was.herd.startAt != s.herd.startAt && s.herd.ph != .round

/-- ECHO_TIMEOUT (R431): the echo of the last command is missing or damaged. -/
def State.echoTimeout (s : State) : State :=
  if s.fld F.HRD_STAT_MODE = 3 ∧ s.herd.ph = .round ∧ s.herd.echo ≠ .intact then
    let t := s.toBroken
    let last := (t.addrList.filter fun a => !hasBit t.herd.got (a - 1)).getLast?.getD 0
    (t.setSide true { cur := last }).breakPos
  else s

/-- Both strings have stopped: probes on each end follow in BROKEN mode (Table 16-4). -/
def State.probeStart (s : State) : State :=
  if s.herd.ph = .round ∧ s.herd.out.cur = 0 ∧ s.herd.ret.cur = 0 ∧ s.fld F.HRD_STAT_MODE = 4 then
    { s with herd := { s.herd with ph := .probe, out := {}, ret := {} } }
  else s

/-- What a completed round says of each address: its words where it did not answer, and MISSING after three rounds
(R429, R431). -/
def State.missOne (s : State) (a : Nat) : State :=
  let k : Key := ⟨a, 0, 0⟩
  if hasBit s.herd.got (a - 1) then
    let s1 : State := { s with herd := { s.herd with miss := s.herd.miss.set 0 k 0 } }
    (s1.putBitOf F.HRD_STAT_MISSING (a - 1) false).putFlag F.HRD_MON_INFO_MISS false (a - 1)
  else
    let n := min 3 (s.herd.miss.get 0 k + 1)
    let s1 := State.staleWords { s with herd := { s.herd with miss := s.herd.miss.set 0 k n } } a
    if n = 3 && !s1.bit F.HRD_STAT_MISSING (a - 1) then
      ((s1.putBitOf F.HRD_STAT_MISSING (a - 1) true).putFlag F.HRD_MON_INFO_MISS true (a - 1)).hrdEv 0x04 lDegrade a
    else s1

/-- The round can complete: every read is over, and in BROKEN mode the PING too (R430). -/
def State.roundOver (s : State) : Bool :=
  (s.herd.ph == .round && s.herd.out.cur == 0 && s.herd.ret.cur == 0 && s.fld F.HRD_STAT_MODE != 4) ||
  (s.herd.ph == .probe && s.herd.pinged)

/-- MILK_ROUND_COMPLETE (R430, R431), without the estimation that follows it; `dur` in µs. -/
def State.milkEnd (s : State) (dur : Nat) : State :=
  let s1 := s.addrList.foldl (fun a n => a.missOne n) s
  let s2 := (s1.put F.HRD_ROUND_ROUND s1.herd.r).put F.HRD_ROUND_DUR dur
  let s3 : State := { s2 with herd := { s2.herd with ph := .idle, out := {}, ret := {}, ready := true } }
  ((s3.putFlag F.AON_SVC_STAT_CHAIN_READY true).gcSrc 2).withSvc fun a => a.assistSettle

/-! ### Control (R426, R447) -/

/-- The chain falls silent (R447): with `RUN` = 0 SLEEP is sent first, at a loss of the auxiliary feed it is not. -/
def State.chainSilent (s : State) (sleep : Bool) : State :=
  State.herdMode { s with herd := { s.herd with ph := .idle, needWake := true, sleepDue := sleep, out := {}, ret := {} } } 0

/-- Actions of a write of `HRD_CTL` (R426, R427, R447): `was` is the state before it, `enum` that `ENUM` was written 1. -/
def State.hrdCtlActs (was s : State) (enum : Bool) : State :=
  let n := clampN 10 100 (s.fld F.HRD_CTL_PERIOD)
  let s1 := s.put F.HRD_CTL_PERIOD n
  let s2 : State := { s1 with herd := { s1.herd with
      perAt := if n = s.herd.per then s.herd.perAt else s.tim.optime
      needEnum := s.herd.needEnum || enum } }
  if was.flag F.HRD_CTL_RUN && !s2.flag F.HRD_CTL_RUN then s2.chainSilent true else s2

/-- SLEEP on both ends (R421, R447). -/
def State.milkSleep (s : State) (lo lr : MilkLine) : State :=
  if s.herd.sleepDue then
    let t := s.milkBoth lo lr (s.herd.frame 0x06 0 [])
    { t with herd := { t.herd with sleepDue := false } }
  else s

/-- MONITOR_STANDBY, MONITOR_SLEEP, MONITOR_WAKE and BAL_TIME_EXPIRY at position `p` (R423, R424, R445); `power` stands
for a power-up or a restart of a monitor with the given identity. -/
def State.monStandby (s : State) (p : Nat) : State :=
  let m := s.mon p
  if m.awake then s.setMon p { m with standby := true, bal := 0 } else s
def State.monSleep (s : State) (p : Nat) : State :=
  let m := s.mon p
  if m.awake && m.standby then s.setMon p m.asleep else s
def State.monWake (s : State) (p : Nat) (power : Bool) (uid maker : Nat) : State :=
  let m := s.mon p
  if power then s.setMon p (Mon.fresh uid maker)
  else if m.awake then s else s.setMon p (Mon.fresh m.uid m.maker)
def State.balExpiry (s : State) (p : Nat) : State := s.setMon p { s.mon p with bal := 0 }

/-- SYNC_MEASURE at position `p`, which received the frame: its results are ready (R422). -/
def State.milkSync (s : State) (p : Nat) (cells temps : List Nat) (wire recent : Bool) : State :=
  s.setMon p ((s.mon p).sampled cells temps wire recent)

end Sys2Proof.Machine
end

