-- ==== Sys2Proof/Machine/Contactor.lean ====
section
/-! DEFINITION. Contactors, pre-charge and string isolate (18 R477 to R500).  Contactors are numbered CTP 0, CTN 1, CTC 2,
CTX 3. -/
namespace Sys2Proof.Machine

/-- An event of the contactor block. -/
def State.ctrEv (s : State) (typ lvl : Nat) : State := s.event (supEvent bCTR typ lvl)

/-- Coil and auxiliary contact of contactor `c`, and the sequence state of Table 18-6. -/
def State.coil (s : State) (c : Nat) : Bool := s.bit F.CTR_STAT_COIL c
def State.aux (s : State) (c : Nat) : Bool := s.bit F.CTR_STAT_AUX c
def State.seq (s : State) : Nat := s.fld F.CTR_STAT_SEQ

/-- The coil current shown for contactor `c`, in 20 mA. -/
def State.setCoilI (s : State) (c v : Nat) : State :=
  if c = 0 then s.put F.CTR_COIL_I_I0 v else if c = 1 then s.put F.CTR_COIL_I_I1 v
  else if c = 2 then s.put F.CTR_COIL_I_I2 v else s.put F.CTR_COIL_I_I3 v

/-- Energise coil `c`: it regulates to 2.5 to 2.9 A, measured freely within them (R480). -/
def State.energise (s : State) (c : Nat) : State :=
  let f := s.free
  let s1 := f.2.putBitOf F.CTR_STAT_COIL c true
  State.setCoilI { s1 with ctr := { s1.ctr with
    peak := putBit s1.ctr.peak c true
    cmd := s1.ctr.cmd.set 0 ⟨c, 0, 0⟩ s.tim.optime } } c (125 + f.1 % 21)

/-- De-energise coil `c`. -/
def State.coilOff (s : State) (c : Nat) : State :=
  let s1 := s.putBitOf F.CTR_STAT_COIL c false
  State.setCoilI { s1 with ctr := { s1.ctr with
    peak := putBit s1.ctr.peak c false
    cmd := s1.ctr.cmd.set 0 ⟨c, 0, 0⟩ s.tim.optime } } c 0

/-- COIL_PEAK_END (R480): the coil holds at 0.6 to 0.7 A. -/
def State.peakEnd (s : State) (c : Nat) : State :=
  if hasBit s.ctr.peak c then
    let f := s.free
    State.setCoilI { f.2 with ctr := { f.2.ctr with peak := putBit f.2.ctr.peak c false } } c (30 + f.1 % 6)
  else s

/-- Latest current in mA: the shunt, or the Hall sensor where the shunt is OVERRANGE (R489). -/
def State.iNow (s : State) : Int :=
  let a := s.samp 0
  if wordSt a = stOVER then wordVal (s.samp 1) else wordVal a

/-- A contactor record (22 Table 22-2): 1 closing, 2 opening, 3 sequence end. -/
def State.ctrRec (s : State) (ev : Nat) : State :=
  s.offer bCTR 0 0x0B ([BitVec.ofNat 8 ev, 0, 0, 0] ++ leBytes 4 (s.supStored 0xE04) ++ leBytes 4 (s.supStored 0xE02))

/-- The coils of `mask` are switched off as one opening under `cause` (R489): classified by the break current, counted
and recorded once for each contactor that opens (01 Example 1-1, 22 Example 22-1); CTX alone has no current. Nothing where
none of them was on. -/
def State.openCoils (s : State) (mask cause : Nat) : State :=
  let on := maskOf 4 fun c => hasBit mask c && s.coil c
  if on = 0 then s
  else
    let main := on % 8
    let i := if main = 0 then 0 else s.iNow
    let emerg := main != 0 && decide (1000 * s.est.lim.breakLim < i.natAbs)
    let s1 := (bitsSet on 4).foldl (fun a c => a.coilOff c) s
    let s2 := (((s1.put F.CTR_LAST_OPEN_I_BRK (ofSigned 16 (truncDiv i 1000))).put F.CTR_LAST_OPEN_MASK on).putFlag
      F.CTR_LAST_OPEN_EMERG emerg).put F.CTR_LAST_OPEN_CAUSE cause
    let s3 := if emerg then
        (bitsSet main 3).foldl (fun a c => a.count F.CTR_EMERG_CNT_EMERG 1 c) ((s2.putFlag F.CTR_EVT_EMERG true).gcSrc 7)
      else s2
    (bitsSet on 4).foldl (fun a _ => a.ctrRec 2) s3

/-- A sequence ends with `result` (R483, R484): record and notification of class 7. -/
def State.seqEnd (s : State) (result : Nat) : State :=
  let d := min 65535 (s.tim.optime - s.ctr.start)
  let s1 := (s.put F.CTR_SEQ_RES_RESULT result).put F.CTR_SEQ_RES_DUR d
  let s2 := s1.ctrRec 3
  s2.notify 7 bCTR 0 result 0 s1.nextRseq (leBytes 4 (s2.supStored 0xE02))

/-- A sequence runs. -/
def State.seqRuns (s : State) : Bool := 1 ≤ s.seq && s.seq ≤ 6

/-- What an opening of the string means to the estimation block (17 R467, R468, R470): `STATE` 1 becomes 2, and CHARGE_ONLY
ends. -/
def State.estOpened (s : State) (cause : Nat) : State :=
  let st := s.fld F.EST_DISC_STATE
  if st = 1 ∧ cause ≠ 5 then s.put F.EST_DISC_STATE 2
  else if st = 4 then
    State.put { s with est := { s.est with overAt := none, fullAt := none } } F.EST_DISC_STATE (if cause = 4 then 2 else 0)
  else s

/-- Detectors that a string isolate shadows (21 Table 21-5). -/
def isolateDets : List Det := [overDet 3, overDet 4, ⟨bCTR, 0, 0x06⟩]

/-- String isolate at once (R488, R493), under the shadow of event `fid` (0 for none): every coil of the string, and CTX
under `X_ISO` or where `all` says so, in one tick; a running sequence ends.  The string is looked at again 50 ms later where a
coil of it was on, and after a weld also where none was (R485: cause 10). -/
def State.isolate (s0 : State) (cause : Nat) (fid : Nat := 0) (all : Bool := false) : State :=
  let s := s0.declareShadow 4 0 fid isolateDets
  let runs := s.seqRuns
  let any := s.coil 0 || s.coil 1 || s.coil 2
  let x := s.flag F.CTR_CFG_X_ISO || all
  let s1 := s.openCoils (7 + 8 * b2n x) cause
  let s2 : State := { s1 with ctr := { s1.ctr with
      wait := none, closeDue := false, closeDueX := s1.ctr.closeDueX && !x, check := s1.ctr.check || any || cause == 10 } }
  let s3 := (s2.put F.CTR_STAT_SEQ 0).estOpened cause
  let s4 := if runs then s3.seqEnd (if cause = 3 then 3 else if cause = 10 then 12 else 2) else s3
  s4.withSvc fun a => a.assistSettle

/-- Order string isolate under the break wait (17 R467, 18 R490): a string that is not connected needs none (R493). -/
def State.isolateWait (s : State) (cause : Nat) (fid : Nat := 0) : State :=
  if s.seq = 7 then
    State.put { s with ctr := { s.ctr with wait := some (cause, s.tim.optime), waitFid := fid, closeDue := false } } F.CTR_STAT_SEQ 8
  else if s.seq = 8 then s
  else s.isolate cause fid

/-- The break wait at a decision tick: the mean current has fallen, or BRK_WAIT has passed (R467, R490). -/
def State.waitTick (s : State) : State :=
  match s.ctr.wait with
  | some (cause, t) =>
    if s.pack.iMean.natAbs ≤ 1000 * s.est.lim.breakLim then s.isolate cause s.ctr.waitFid
    else if t + s.est.lim.brkWait ≤ s.tim.optime then (s.count F.EST_CNT_BRK_FORCED).isolate cause s.ctr.waitFid
    else s
  | none => s

/-- BRK_WAIT_EXPIRY (R467). -/
def State.brkExpiry (s : State) : State :=
  match s.ctr.wait with
  | some (cause, _) => (s.count F.EST_CNT_BRK_FORCED).isolate cause s.ctr.waitFid
  | none => s

/-! ### Welds (R485) -/

/-- Contactor `c` is welded: every other contactor opens, or stays open, so that the string is isolated at the other pole.  A contact
fault of CTX leaves a connected string alone (R499). -/
def State.weld (s : State) (c : Nat) : State :=
  let s1 := ((s.putBitOf F.CTR_EVT_WELD c true).putFlag F.CTR_STAT_WELD_LATCH true).ctrEv 0x04 lSevere
  if c = 3 ∧ (s1.seq = 7 ∨ s1.seq = 8) then s1 else s1.isolate 10 (s1.lastFid bCTR 0) true

/-! ### The connect sequence (R482 to R484) -/

/-- Latest voltages in mV. -/
def State.vPack (s : State) : Int := wordVal (s.samp 2)
def State.vBus (s : State) : Int := wordVal (s.samp 3)

/-- Sum of the cell voltages in units of 0.3125 mV, over the enumerated cells. -/
def State.cellSum (s : State) : Nat :=
  s.addrList.foldl (fun t a => (List.range 20).foldl (fun u i => u + s.fld F.HRD_CELL_WORD (20 * (a - 1) + i) % 2 ^ 14) t) 0

/-- Every enumerated cell word is VALID. -/
def State.cellsValid (s : State) : Bool :=
  s.addrList.all fun a => (List.range 20).all fun i => s.fld F.HRD_CELL_WORD (20 * (a - 1) + i) / 2 ^ 14 == stVALID

/-- The voltage check of R482: V_pack and every cell VALID, and |V_pack − Σ cells| at most 2 % of V_pack + 2 V. -/
def State.voltsOk (s : State) : Bool :=
  wordSt (s.samp 2) == stVALID && s.cellsValid &&
  decide ((16 * s.vPack - 5 * (s.cellSum : Int)).natAbs * 50 ≤ (16 * (s.vPack + 100000)).toNat)

/-- V_pack − V_bus is at most 2 % of V_pack. -/
def State.busClose (s : State) : Bool := decide (50 * (s.vPack - s.vBus) ≤ s.vPack)

/-- V_bus has risen by max(2 % of V_pack, 10 V) since the step began (R483). -/
def State.rise (s : State) : Bool :=
  decide (s.vPack ≤ 50 * (s.vBus - s.ctr.vbus0) ∧ 10000 ≤ s.vBus - s.ctr.vbus0)

/-- V_bus has reached 95 % of V_pack. -/
def State.bus95 (s : State) : Bool := decide (95 * s.vPack ≤ 100 * s.vBus)

/-- Step `n` begins. -/
def State.stepTo (s : State) (n : Nat) : State :=
  State.put { s with ctr := { s.ctr with
    stepAt := s.tim.optime
    vbus0 := s.vBus
    auxAt := none
    passed := false
    risen := false
    fast := false
    ovr := none } } F.CTR_STAT_SEQ n

/-- A closing of contactor `c`: its contact reports closed while its coil is driven; it is counted and recorded (Table
18-7, 22 Table 22-2). -/
def State.closed (s : State) (c : Nat) : State :=
  if s.coil c then (s.count F.CTR_CLOSE_CNT_CLOSES 1 c).ctrRec 1 else s

/-- The sequence fails (R484): every coil off in the same tick, with the consequences of its result. -/
def State.seqFail (s : State) (result cause : Nat) : State :=
  let s1 := s.openCoils 7 cause
  let s2 := (s1.put F.CTR_STAT_SEQ 0)
  let s4 := s2.seqEnd result
  let s5 := if 4 ≤ result && result ≤ 6 then
      let n := s4.ctr.fails + 1
      let a := (State.putFlag { s4 with ctr := { s4.ctr with fails := n } } F.CTR_EVT_PC_FAIL true).putFlag F.CTR_STAT_COOL true
      (if 3 ≤ n then a.putFlag F.CTR_STAT_PC_LOCK true else a).ctrEv 0x03 lDegrade
    else s4
  s5.withSvc fun a => a.assistSettle

/-- A sequence fails with a weld of contactor `c` (R484, R485). -/
def State.seqWeld (s : State) (result c : Nat) : State := (s.seqFail result 10).weld c

/-- Start the sequence at S0 and S1 (R483). -/
def State.seqStart (s : State) : State :=
  let skip := decide (s.vPack - s.vBus < 50000)
  let c := { s.ctr with
    start := s.tim.optime
    timeout := s.fld F.CTR_CFG_PC_TIMEOUT
    imax := s.fld F.CTR_CFG_PC_IMAX
    closeDue := false
    wait := none }
  let s1 := State.putFlag { s with ctr := c } F.CTR_SEQ_RES_WELD_SKIP skip
  if s1.fld F.CTR_STAT_AUX = 0 then (s1.stepTo 1).energise 2 else s1.seqFail 11 9

/-- The string enters CHARGE_ONLY: no current and no power may be drawn from it (17 R468). -/
def State.chargeOnly (s : State) : State :=
  let t := (List.range 3).foldl (fun a h => (a.put F.EST_SOP_P 0 h).put F.EST_SOPI_I 0 h) (s.put F.EST_DISC_STATE 4)
  State.put { t with est := { t.est with allowDis := 0 } } F.EST_ALLOW_I_DIS_ALLOW 0

/-- The sequence is CONNECTED (R483, R484, 17 R468). -/
def State.seqDone (s : State) : State :=
  let s1 := (s.stepTo 7)
  let s2 : State := { s1 with ctr := { s1.ctr with fails := 0 } }
  let s3 := (if s2.ctr.chargeOnly then s2.chargeOnly else s2.put F.EST_DISC_STATE 0).seqEnd 1
  s3.withSvc fun a => a.assistSettle

/-- The next step of a sequence whose present step has ended (Table 18-2). -/
def State.stepNext (s : State) : State :=
  match s.seq with
  | 1 => (s.coilOff 2).stepTo 2
  | 2 => (s.stepTo 3).energise 1
  | 3 => (s.stepTo 4).energise 2
  | 4 => (s.stepTo 5).energise 0
  | 5 => (s.coilOff 2).stepTo 6
  | 6 => s.seqDone
  | _ => s

/-- The step's test is passed at this tick: the window has passed, the contact reports, or the voltage has come (Table
18-2). -/
def State.stepPassed (s : State) : Bool :=
  match s.seq with
  | 1 => s.ctr.passed
  | 2 => !s.aux 2
  | 3 => s.ctr.passed
  | 4 => wordSt (s.samp 3) == stVALID && s.bus95
  | 5 => s.aux 0 && s.busClose
  | 6 => !s.aux 2
  | _ => false

/-- CONNECT_SEQUENCE_STEP (R483): the sequence at a decision tick.  S5 fails where the contact of CTP is closed and the voltage
is not there 50 ms after the CTP command, the time by which R481 looks for the contact (DESIGN CHOICE, log entry 84: Table 18-2 gives the voltage no time). -/
def State.seqTick (s : State) : State :=
  if s.seqRuns then
    if s.stepPassed then s.stepNext
    else if s.seq = 5 then (if s.aux 0 && s.ctr.stepAt + 50 ≤ s.tim.optime then s.seqFail 10 9 else s)
    else if s.seq = 4 then
      let hot := decide (1000 * s.ctr.imax < s.iNow.natAbs)
      let o := if hot then some (s.ctr.ovr.getD s.tim.optime) else none
      let s1 : State := { s with ctr := { s.ctr with ovr := o } }
      if s1.ctr.ovr.any fun t => t + 10 ≤ s1.tim.optime then s1.seqFail 6 9
      else if s1.ctr.auxAt.any fun t => t + 50 ≤ s1.tim.optime && !s1.ctr.risen then s1.seqFail 5 9
      else s1
    else s
  else s

/-- What a decision tick sees of V_bus in a step: a rise, and 95 % of V_pack within 5 ms of the contact's report (R483,
Table 18-2). -/
def State.riseWatch (s : State) : State :=
  let soon := match s.ctr.auxAt with
    | some t => decide (s.tim.optime ≤ t + 5)
    | none => false
  let c := { s.ctr with
    risen := s.ctr.risen || (s.ctr.auxAt.isSome && s.rise)
    fast := s.ctr.fast || (soon && s.bus95) }
  if s.seqRuns then { s with ctr := c } else s

/-- TEST_WINDOW_EXPIRY (R483): the rise test of S1 or S3 is judged over its window, where the weld tests are informative. -/
def State.windowEnd (s0 : State) : State :=
  let s := s0.riseWatch
  if (s.seq = 1 ∨ s.seq = 3) ∧ s.ctr.auxAt.isSome ∧ s.ctr.passed = false then
    if s.flag F.CTR_SEQ_RES_WELD_SKIP || !s.ctr.risen then { s with ctr := { s.ctr with passed := true } }
    else if s.seq = 1 then s.seqWeld 7 1
    else if s.ctr.fast then s.seqWeld 8 0
    else s.seqWeld 9 2
  else s

/-- PRECHARGE_TIMEOUT (R483). -/
def State.pcTimeout (s : State) : State := if s.seq = 4 ∧ s.stepPassed = false then s.seqFail 4 9 else s

/-- COOL_DOWN_END (R484). -/
def State.coolEnd (s : State) : State := s.putFlag F.CTR_STAT_COOL false

/-! ### Contacts and coils (R480, R481, R485, R486) -/

/-- The contactor whose contact the present step waits for. -/
def seqAux (n : Nat) : Option (Nat × Bool) :=
  match n with
  | 1 => some (2, true)
  | 2 => some (2, false)
  | 3 => some (1, true)
  | 4 => some (2, true)
  | 5 => some (0, true)
  | 6 => some (2, false)
  | _ => none

/-- AUX_MISMATCH (R481, R483): 50 ms after a coil command the contact disagrees with it. -/
def State.auxMismatch (s : State) (c : Nat) : State :=
  if s.aux c = s.coil c then s
  else
    let s1 := (s.putBitOf F.CTR_EVT_AUX_MIS c true).ctrEv 0x07 lDegrade
    if s1.seqRuns && c < 3 then s1.seqFail (if s1.seq = 5 && c == 0 then 10 else 11) 9
    else if c = 3 && s1.coil 3 then s1.openCoils 8 10
    else s1

/-- A contact changes 50 ms or more after its coil's last command, and against it (R481). -/
def State.auxLate (s : State) (c : Nat) : State :=
  if s.ctr.cmd.get 0 ⟨c, 0, 0⟩ + 50 ≤ s.tim.optime then s.auxMismatch c else s

/-- A dropout (R486): its event, then what `f` raises in the same cycle (21 R572), then the isolate, which a shadowed event does not
start (21 R567). -/
def State.dropoutWith (s : State) (f : State → State) : State :=
  if s.seq = 7 ∨ s.seq = 8 then
    let s1 := (s.putFlag F.CTR_EVT_DROPOUT true).ctrEv 0x06 lDegrade
    let s2 := f s1
    if (s.shadowOf ⟨bCTR, 0, 0x06⟩).isSome then s2 else s2.isolate 11 (s1.lastFid bCTR 0)
  else f s

/-- DROPOUT. -/
def State.dropout (s : State) : State := s.dropoutWith id

/-- AUX_CONTACT_CHANGE (R481, R483, R486). -/
def State.auxChange (s : State) (c : Nat) (closed : Bool) : State :=
  let s0 := s.putBitOf F.CTR_STAT_AUX c closed
  let s2 := if closed && !s.aux c then s0.closed c else s0
  let s1 := if !s2.seqRuns && !closed && c < 2 then s2.dropoutWith fun a => a.auxLate c else s2.auxLate c
  if s1.seqRuns then
    if seqAux s1.seq = some (c, closed) && s1.ctr.auxAt.isNone then
      { s1 with ctr := { s1.ctr with auxAt := some s1.tim.optime } }
    else s1
  else s1

/-- WELD_CHECK (R485): the contact still reads closed 50 ms after its coil was de-energised. -/
def State.weldCheck (s : State) (c : Nat) : State :=
  if s.aux c && !s.coil c then
    if s.seqRuns then s.seqWeld 11 c else s.weld c
  else s

/-- DOUBLE_WELD_CHECK (R485): current flows 50 ms after an isolate. -/
def State.doubleWeld (s : State) : State :=
  if s.ctr.check then
    let s1 : State := { s with ctr := { s.ctr with check := false } }
    if 2000 < s.iNow.natAbs then
      (State.putFlag { s1 with ctr := { s1.ctr with dw := true } } F.CTR_EVT_DOUBLE_WELD true).ctrEv 0x05 lHalt
    else s1
  else s

/-- A coil fault (R480, R493, R499): a short, or a coil that draws too little.  It ends a sequence and orders string isolate; one of CTX
leaves a connected string alone, but for a short under `X_ISO`. -/
def State.coilFault (s : State) (c : Nat) (short : Bool) : State :=
  if s.coil c then
    let s1 := if short then s.putFlag F.CTR_EVT_COIL_SHORT true else s.putFlag F.CTR_EVT_COIL_OPEN true
    let str := c != 3 || (short && s1.flag F.CTR_CFG_X_ISO) || !(s1.seq == 7 || s1.seq == 8)
    let s2 := s1.ctrEv (if short then 0x01 else 0x02) lSevere
    let s3 := if str then s2.isolate 10 (s2.lastFid bCTR 0) else s2
    if c = 3 then s3.openCoils 8 10 else s3
  else s

/-! ### Orders (R482, R488, R490) -/

/-- What rule R468 says of a close: 0 it proceeds, 1 it proceeds into CHARGE_ONLY, 2 it is refused. -/
def State.closeVerdict (s : State) : Nat :=
  let act := s.fld F.EST_COND_ACT_ACT
  let hard := maskOf 21 fun n => hasBit act n && [1, 3, 5, 6, 7, 8, 9, 13, 14, 16, 17, 18, 19, 20].contains n
  if s.flag F.EST_DISC_HARD_LATCH then 2 else if hard = 0 then 0 else if hard = 8 then 1 else 2

/-- The ISO function of Rind acts, or has acted in this decision tick (20 Table 20-2, 01 R24), or the coils are inhibited. -/
def State.isoDemand (s : State) : Bool := s.funcHeld 2 || s.ctr.inhibit != 0

/-- The reason for which rule 1 of R119 refuses a close (05 R121, 17 R468, R472): Rind, or a limit; none where it does not. -/
def State.closeForbidden (s : State) (c : Nat) : Option Nat :=
  if s.supHeld then some 2
  else if c = 3 then
    if s.fld F.RND_STAT_STATE = 0 ∨ (s.funcHeld 2 && s.flag F.CTR_CFG_X_ISO) = true then some 1 else none
  else if s.isoDemand then some 1
  else if s.closeVerdict = 2 then some 2
  else none

/-- Status and reason (23 Table 23-3) of a close that rule 1 of R119 or R482 turns away; none where it may go on. -/
def State.closeRefusal (s : State) (c : Nat) : Option (Nat × Nat) :=
  if let some r := s.closeForbidden c then some (3, r)
  else if !(s.flag F.AON_CONN_STAT_BJL_PRES && s.flag F.AON_CONN_STAT_HPRES) then some (3, 3)
  else if c = 3 then none
  else if s.seqRuns || s.seq = 7 || s.seq = 8 then none
  else if s.flag F.CTR_STAT_WELD_LATCH || s.flag F.CTR_STAT_PC_LOCK then some (3, 3)
  else if s.flag F.CTR_STAT_COOL then some (2, 0)
  else if !s.voltsOk then some (3, 2)
  else none

/-- Carry out an accepted close (R482, R498): CTX is energised; CTP, CTN or CTC start the sequence; either once PD04 is
ready (03 R58, R82). -/
def State.closeOrder (s : State) (c : Nat) : State :=
  if c = 3 then
    if s.coil 3 then s
    else if s.dom 4 = .on then s.energise 3
    else { s with ctr := { s.ctr with closeDueX := true } }
  else if s.seqRuns || s.seq = 7 || s.seq = 8 then s
  else
    let s1 : State := { s with ctr := { s.ctr with chargeOnly := s.closeVerdict == 1 } }
    if s1.dom 4 = .on then s1.seqStart else { s1 with ctr := { s1.ctr with closeDue := true } }

/-- A close of CTX that waited for PD04 is acted on once it is ready (R82, R498). -/
def State.closeTickX (s : State) : State :=
  if s.ctr.closeDueX && s.dom 4 == .on then
    State.energise { s with ctr := { s.ctr with closeDueX := false } } 3
  else s

/-- A close that waited for PD04 is acted on once it is ready (R82, R498): it was accepted as if PD04 had been on. -/
def State.closeTick (s : State) : State :=
  let s1 := s.closeTickX
  if s1.ctr.closeDue && s1.dom 4 == .on then s1.seqStart else s1

/-- Carry out an open order (R488, R490, R496): `force` only of the Steward; without it the tick of the decision is the first whose mean
current counts. -/
def State.openOrder (s : State) (c : Nat) (force : Bool) : State :=
  if c = 3 then State.openCoils { s with ctr := { s.ctr with closeDueX := false } } 8 (if force then 2 else 1)
  else if force then s.isolate 2
  else (s.isolateWait 1).waitTick

/-- Every coil is de-energised for a cause that holds the junction as a whole (02 R47, R50, 03 R75). -/
def State.coilsLost (s : State) (cause : Nat) (fid : Nat := 0) : State :=
  if s.coil 0 || s.coil 1 || s.coil 2 || s.seqRuns || s.seq == 7 || s.seq == 8 then s.isolate cause fid true
  else State.openCoils { s with ctr := { s.ctr with closeDue := false, closeDueX := false } } 15 cause

/-- Coil inhibits of Rind (20 R526): they de-energise the coils whatever the Herd commands. -/
def State.setInhibit (s : State) (mask : Nat) : State := { s with ctr := { s.ctr with inhibit := mask } }

/-- Actions of a write of `CTR_CFG`: fields saturated to their ranges (Table 18-7). -/
def State.ctrCfgSat (s : State) : State :=
  ((s.put F.CTR_CFG_PC_COOL (clampN 10 255 (s.fld F.CTR_CFG_PC_COOL))).put F.CTR_CFG_PC_IMAX
    (clampN 5 100 (s.fld F.CTR_CFG_PC_IMAX))).put F.CTR_CFG_PC_TIMEOUT (clampN 100 3000 (s.fld F.CTR_CFG_PC_TIMEOUT))

/-- FAULT_ACK of the contactor block (R487): refused while `DOUBLE_WELD` is 1 and current flows, else the latches clear; the count of
consecutive failures stays (R484). -/
def State.ctrAck (s : State) : Option State :=
  if s.flag F.CTR_EVT_DOUBLE_WELD && decide (2000 < s.iNow.natAbs) then none
  else
    let s1 := (s.putFlag F.CTR_STAT_WELD_LATCH false).putFlag F.CTR_STAT_PC_LOCK false
    some { s1 with ctr := { s1.ctr with dw := false } }

end Sys2Proof.Machine
end

