-- ==== Sys2Proof/Machine/Mem.lean ====
section
/-! DEFINITION. Byte memories: a sorted list of address and byte pairs in which no entry equals what an unlisted address
reads as, so that equal memories are equal data (00 R6).  The Vat, the Pails and the recorder's pages are such lists. -/
namespace Sys2Proof.Machine

/-- The byte at address `a`; `d` is what an unlisted address reads as. -/
def cellGet (d : Byte) (a : Nat) : List Host.Cell → Byte
  | [] => d
  | (x, v) :: t => if x = a then v else cellGet d a t

/-- Every entry but those of address `a`. -/
def cellDrop (a : Nat) : List Host.Cell → List Host.Cell
  | [] => []
  | (x, v) :: t => if x = a then cellDrop a t else (x, v) :: cellDrop a t

/-- Put an entry before the first entry of a greater address. -/
def cellIns (a : Nat) (v : Byte) : List Host.Cell → List Host.Cell
  | [] => [(a, v)]
  | (x, w) :: t => if a < x then (a, v) :: (x, w) :: t else (x, w) :: cellIns a v t

/-- The memory with `v` at `a`; writing what an unlisted address reads as leaves no entry. -/
def cellPut (d : Byte) (a : Nat) (v : Byte) (m : List Host.Cell) : List Host.Cell :=
  if v = d then cellDrop a m else cellIns a v (cellDrop a m)

/-- `n` bytes from address `a` on. -/
def memRead (d : Byte) (m : List Host.Cell) (a : Nat) : Nat → Bytes
  | 0 => []
  | n + 1 => cellGet d a m :: memRead d m (a + 1) n

/-- Bytes written from address `a` on. -/
def memWrite (d : Byte) (m : List Host.Cell) (a : Nat) : Bytes → List Host.Cell
  | [] => m
  | b :: t => memWrite d (cellPut d a b m) (a + 1) t

/-- Every address of `lo … lo + n - 1` reads as unlisted. -/
def memClear (m : List Host.Cell) (lo n : Nat) : List Host.Cell := m.filter fun x => x.1 < lo || lo + n ≤ x.1

/-- The entries of `lo … lo + n - 1`, counted from `lo`. -/
def memSlice (m : List Host.Cell) (lo n : Nat) : List Host.Cell :=
  (m.filter fun x => lo ≤ x.1 && x.1 < lo + n).map fun x => (x.1 - lo, x.2)

/-- Addresses strictly rise and no entry equals `d`. -/
def cellsRise (d : Byte) : List Host.Cell → Bool
  | [] => true
  | [x] => x.2 != d
  | x :: y :: t => x.2 != d && x.1 < y.1 && cellsRise d (y :: t)

/-- A little-endian word of `n` bytes. -/
def memWord (d : Byte) (m : List Host.Cell) (a n : Nat) : Nat := leNat (memRead d m a n)

end Sys2Proof.Machine
end

