-- ==== Sys2Proof/Machine/Recorder.lean ====
section
/-! DEFINITION. The event recorder (22 R578 to R590): the log in its page memory, programs, erases, the scan and the last
gasp.  The unlisted byte of the page memory is erased, 0xFF. -/
namespace Sys2Proof.Machine

/-- The 64 bytes of a record (Table 22-1). -/
def recBytes (seq : Nat) (r : LogRec) : Bytes :=
  let b := leBytes 4 seq ++ leBytes 5 r.optime ++ leBytes 3 (r.pcyc % 2 ^ 20) ++
    [BitVec.ofNat 8 r.src, BitVec.ofNat 8 r.inst, BitVec.ofNat 8 r.kind, BitVec.ofNat 8 (min 44 r.payload.length)] ++ padTo 44 r.payload
  b ++ leBytes 4 (crc32 b)

/-- The 64 bytes of slot `n`. -/
def Rec.slot (r : Rec) (n : Nat) : Bytes := memRead 0xFF r.pages (64 * n) 64

/-- A slot holds a valid record (R578). -/
def slotValid (b : Bytes) : Bool := leAt b 60 4 == crc32 (b.take 60) && leAt b 14 1 != 0xFF

/-- The slots with a byte that is not erased, as they stand in the page memory. -/
def usedSlots : List Host.Cell → List Nat
  | [] => []
  | c :: t =>
    match usedSlots t with
    | n :: l => if n = c.1 / 64 then n :: l else (c.1 / 64) :: n :: l
    | [] => [c.1 / 64]

/-- Every valid record in the log, by slot. -/
def Rec.valid (r : Rec) : List Bytes := ((usedSlots r.pages).map r.slot).filter slotValid

/-- Sequence number, SEQ of R578. -/
def slotSeq (b : Bytes) : Nat := leAt b 0 4

/-- The sequence number after `q` that no skipped sector holds (R579, R581). -/
def unskipped (sk : List Nat) : Nat → Nat → Nat
  | 0, q => q
  | n + 1, q => if sk.contains (q / 64 % 1024) then unskipped sk n (q / 64 * 64 + 64) else q

/-- The next sector after `sec` that is not skipped, with the number of sectors passed over (R580). -/
def nextSector (sk : List Nat) : Nat → Nat → Nat → Nat × Nat
  | 0, k, sec => (sec, k)
  | n + 1, k, sec => if sk.contains sec then nextSector sk n (k + 1) ((sec + 1) % 1024) else (sec, k)

/-- Begin the erase of sector `e`: its records are discarded at once (R580). -/
def State.eraseStart (s : State) (e : Nat) (retry : Bool) : State :=
  State.count { s with rcd := { s.rcd with pages := memClear s.rcd.pages (4096 * e) 4096, erase := some e, eraseRetry := retry } }
    F.REC_ERASES_ERASES

/-- The later of two sequence numbers, modulo 2^32 (R590). -/
def seqAfter (a b : Nat) : Bool := 0 < (2 ^ 32 - b + a) % 2 ^ 32 && (2 ^ 32 - b + a) % 2 ^ 32 < 2 ^ 31

/-- The first slot of a sector is programmed: the next sector that is not skipped is erased, and `OLDEST` advances past the
records of the lap before in it, and past the skipped sectors before and behind it, where it does not lie later (R580). -/
def State.sectorOpen (s : State) (q : Nat) : State :=
  let n := nextSector s.rcd.skipped 1024 0 ((q / 64 + 1) % 1024)
  let s1 := s.eraseStart n.1 false
  let first := unskipped s.rcd.skipped 1024 (q + 64 * (2 + n.2) + 2 ^ 32 - 65536) % 2 ^ 32
  if seqAfter first (s.fld F.REC_OLDEST_OLDEST) then s1.put F.REC_OLDEST_OLDEST first else s1

/-- Records with their sequence numbers from `q` on. -/
def number : Nat → List LogRec → List (Nat × LogRec)
  | _, [] => []
  | q, r :: t => (q, r) :: number (q + 1) t

/-- One DROP record for all the records dropped since the last, where the queue has room (R582). -/
def State.dropRec (s : State) : State :=
  if 0 < s.rcd.drops ∧ s.rcd.queue.length < 32 then
    let r : LogRec := ⟨s.tim.optime, s.tim.pcyc, bREC, 0, 0x03, leBytes 4 s.rcd.drops ++ leBytes 5 s.rcd.dropFirst⟩
    { s with rcd := { s.rcd with queue := s.rcd.queue ++ [r], drops := 0 } }
  else s

/-- Records of an estimation-state set join the queue while it is less than half full (log entry 30), and during hold-up once
nothing else is pending (R589). -/
def State.setDrain (s : State) : State :=
  let n := if s.rcd.lastGasp && !s.rcd.queue.isEmpty then 0 else 16 - s.rcd.queue.length
  { s with rcd := { s.rcd with queue := s.rcd.queue ++ s.rcd.sets.take n, sets := s.rcd.sets.drop n } }

/-- The recorder can program: it is ready, idle, and the sector it comes to is not under erase (R585, R597). -/
def State.canProg (s : State) : Bool :=
  let q := unskipped s.rcd.skipped 1024 s.rcd.next
  s.flag F.AON_SVC_STAT_REC_READY && s.dom 3 == .on && s.rcd.prog.isNone && !s.rcd.queue.isEmpty && !(s.rcd.erase == some (q / 64 % 1024))

/-- The records `l` of one page, from slot `q` on, are programmed; `HEAD` advances to the last of them (R580, R585). -/
def State.pageProg (s : State) (q : Nat) (l : List LogRec) : State :=
  let s1 := if q % 64 = 0 then s.sectorOpen q else s
  let rs := number q l
  let pages := rs.foldl (fun m x => memWrite 0xFF m (64 * (x.1 % 65536)) (recBytes (x.1 % 2 ^ 32) x.2)) s1.rcd.pages
  let s2 : State := { s1 with rcd := { s1.rcd with
      pages := pages
      prog := some (q / 4 % 16384, rs)
      next := q + l.length } }
  s2.put F.REC_HEAD_HEAD (q + l.length - 1)

/-- PAGE_PROGRAM_START (R580, R585): the pending records of one page. -/
def State.progStart (s : State) : State :=
  if s.canProg then
    let q := unskipped s.rcd.skipped 1024 s.rcd.next
    let now := s.rcd.queue.take (4 - q % 4)
    let s1 := s.pageProg q now
    ((State.dropRec { s1 with rcd := { s1.rcd with queue := s1.rcd.queue.drop now.length } })).setDrain
  else s

/-- The bytes of a slot whose content nothing gives: free values. -/
def freeBytes : Nat → Nat → Bytes
  | 0, _ => []
  | n + 1, i => BitVec.ofNat 8 (Config.freeValue i) :: freeBytes n (i + 1)

/-- A program that fails verification (R581): what its slots hold is open, the rest of the page is skipped, and the same
records wait first in line. -/
def State.progFail (s : State) (rs : List (Nat × LogRec)) : State :=
  let r := s.rcd
  let a := rs.foldl (fun (m : List Host.Cell × Nat) x =>
    (memWrite 0xFF m.1 (64 * (x.1 % 65536)) (freeBytes 64 m.2), m.2 + 64)) (r.pages, s.freeIx)
  let s1 : State := { s with
    freeIx := a.2
    rcd := { r with pages := a.1, prog := none, queue := rs.map (·.2) ++ r.queue, next := (r.next + 3) / 4 * 4 } }
  s1.event (supEvent bREC 0x02 lDegrade)

/-- PAGE_PROGRAM_DONE (R581, R585). -/
def State.progDone (s : State) (ok : Bool) : State :=
  match s.rcd.prog with
  | some (_, rs) =>
    if ok then State.gcSrcN rs.length 3 { s with rcd := { s.rcd with prog := none } }
    else s.progFail rs
  | none => s

/-- SECTOR_ERASE_DONE (R581): a failure is repeated once, then the sector is skipped for good. -/
def State.eraseDone (s : State) (ok : Bool) : State :=
  match s.rcd.erase with
  | some e =>
    if ok then { s with rcd := { s.rcd with erase := none, eraseRetry := false } }
    else if s.rcd.eraseRetry then
      let s1 : State := { s with rcd := { s.rcd with erase := none, eraseRetry := false, skipped := e :: s.rcd.skipped } }
      (s1.count F.REC_CNT_SKIPPED).event (supEvent bREC 0x03 lDegrade)
    else s.eraseStart e true
  | none => s

/-! ### The scan (R590) -/

/-- The head of the log: SEQ 0xFFFF_FFFF where no record is valid. -/
def headSeq (l : List Bytes) : Nat :=
  match l with
  | [] => 0xFFFFFFFF
  | b :: t => t.foldl (fun h x => if seqAfter (slotSeq x) h then slotSeq x else h) (slotSeq b)

/-- Mask of the bad slots of page `p` at or after slot `lo`. -/
def Rec.badMask (r : Rec) (p lo : Nat) : Nat :=
  maskOf 4 fun i => lo ≤ 4 * p + i && (usedSlots r.pages).contains (4 * p + i)

/-- The torn pages after the head, with their masks, in order (R590 step 2). -/
def Rec.torn (r : Rec) (head : Nat) (none : Bool) : List (Nat × Nat) :=
  if none then []
  else
    let slot := head % 65536
    let lastP := slot / 64 * 16 + 15
    ((List.range (lastP + 1 - slot / 4)).map fun i => (slot / 4 + i, r.badMask (slot / 4 + i) (slot + 1))).filter fun x => x.2 != 0

/-- The records of the scan are programmed within it (R590 step 4), page after page; one whose sector is erased in step 3 waits for
the end of that erase. -/
def State.scanWrite : Nat → List LogRec → State → State
  | 0, _, s => s
  | f + 1, l, s =>
    if l.isEmpty then s
    else
      let q := unskipped s.rcd.skipped 1024 s.rcd.next
      let k := min l.length (4 - q % 4)
      let s0 : State := if s.rcd.erase = some (q / 64 % 1024) then { s with rcd := { s.rcd with erase := none } } else s
      let s1 := s0.pageProg q (l.take k)
      State.scanWrite f (l.drop k) (State.gcSrcN k 3 { s1 with rcd := { s1.rcd with prog := none } })

/-- RECORDER_SCAN_DONE (R590, 04 R84): TORN_PAGE and POWER_UP records are written before what waits, and the log is ready;
OPTIME moves forward (R588). -/
def State.scanDone (s : State) : State :=
  let r := s.rcd
  let vs := r.valid
  let head := headSeq vs
  let torn := r.torn head vs.isEmpty
  let base := head / 65536 * 65536
  let lg := vs.any fun b => leAt b 14 1 == 0x04 && some (leAt b 9 3 % 2 ^ 20) == s.tim.was
  let rec1 (k : Nat) (pl : Bytes) : LogRec := ⟨s.tim.optime, s.tim.pcyc, bREC, 0, k, pl⟩
  let tornRecs := torn.map fun x =>
    rec1 0x02 (leBytes 2 x.1 ++ [BitVec.ofNat 8 x.2, 0] ++ leBytes 4 ((base + 4 * x.1) % 2 ^ 32))
  let up := rec1 0x01 ([BitVec.ofNat 8 (s.fld F.TIM_BOOT_LAST_DOWN), if lg then 1 else 0, BitVec.ofNat 8 (min 255 torn.length), 0] ++
    leBytes 4 (s.fld F.RND_CFG_ID_CFG_ID))
  let next := match torn.getLast? with
    | some x => (base + 4 * x.1 + 4) % 2 ^ 32
    | none => (head + 1) % 2 ^ 32
  let esec := nextSector r.skipped 1024 0 (if vs.isEmpty then 0 else (head / 64 + 1) % 1024)
  let kept := ((vs.map slotSeq).filter fun q => q / 64 % 1024 != esec.1).foldl (fun o q => if seqAfter o q then q else o) head
  let sets := vs.filter fun b => leAt b 14 1 == 0x10
  let setNo := leAt ((sets.drop 1).foldl (fun x y => if seqAfter (slotSeq y) (slotSeq x) then y else x) (sets.head?.getD [])) 16 2
  let s1 : State := { s with rcd := { r with next := next, setNo := setNo } }
  let s2 := if (memSlice r.pages (4096 * esec.1) 4096).isEmpty then s1 else s1.eraseStart esec.1 false
  let s3 := ((s2.put F.REC_HEAD_HEAD (if vs.isEmpty then 0 else head)).put F.REC_OLDEST_OLDEST (if vs.isEmpty then 0 else kept)).put
    F.REC_CNT_TORN (min 255 torn.length)
  let s4 := torn.foldl (fun a _ => a.event (supEvent bREC 0x01 lNote))
    (State.putFlag (State.scanWrite 65 (tornRecs ++ [up]) s3) F.AON_SVC_STAT_REC_READY true)
  let newest := (vs.filter fun b => slotSeq b == head).foldl (fun m b => max m (leAt b 4 5)) 0
  let opt := if !vs.isEmpty && s4.tim.optime < newest then min (2 ^ 40 - 1) (newest + 1) else s4.tim.optime
  { s4 with tim := { s4.tim with optime := opt } }

/-! ### The last gasp (R589, R596) -/

/-- A power loss cuts a running program short at byte `cut` of its bytes: that byte reads any value, later ones are erased
(R586). -/
def State.progCut (s : State) (cut : Nat) : State :=
  match s.rcd.prog with
  | some (_, rs) =>
    let lo := rs.foldl (fun m x => min m (64 * (x.1 % 65536))) 4194304
    let n := 64 * rs.length
    if cut < n then
      let p := memClear s.rcd.pages (lo + cut) (n - cut)
      { s with
        freeIx := s.freeIx + 1
        rcd := { s.rcd with pages := memWrite 0xFF p (lo + cut) (freeBytes 1 s.freeIx), prog := none } }
    else { s with rcd := { s.rcd with prog := none } }
  | none => s

/-- `AON_PAIR_SRC` (21 R565): the sources that assert the fault pair. -/
def State.pairSrcWord (s : State) : Nat :=
  2 ^ 31 * b2n (s.flag F.AON_PIN_PHASE_HOLDUP) + 2 ^ 16 * b2n ((List.range 8).any fun i => s.codeAsserts (0x10 + i)) +
  maskOf 13 fun c => 1 ≤ c && s.codeAsserts c

/-- The LAST_GASP record goes first (R589). -/
def State.lastGasp (s : State) : State :=
  let pm := if s.govRuns then s.fld F.GOV_STAT_P_MEAS else 0
  let pl := leBytes 4 (s.supStored 0x140) ++ leBytes 4 (s.supStored 0xE00) ++ leBytes 4 (ofSigned 32 s.pack.iMean) ++
    leBytes 4 (ofSigned 32 s.pack.vMean) ++ leBytes 2 pm ++ leBytes 4 s.pairSrcWord ++
    [BitVec.ofNat 8 s.rcd.queue.length, BitVec.ofNat 8 (s.fld F.RND_ACT_FUNC)]
  let lg : LogRec := ⟨s.tim.optime, s.tim.pcyc, bAON, 0, 0x04, pl⟩
  { s with rcd := { s.rcd with
      queue := lg :: s.rcd.queue
      sets := []
      lastGasp := true
      erase := none
      eraseRetry := false } }

end Sys2Proof.Machine
end

