-- ==== Sys2Proof/Machine/Estimate.lean ====
section
/-! DEFINITION. Battery state, limits and the disconnect decision (17 R449 to R476). -/
namespace Sys2Proof.Machine

/-! ### Model sets (R451 to R454) -/

/-- The default model set (R453): its tables are not published, so they are free. -/
def defaultModel : Model where
  id := 0
  qnom := 360000
  tbp := (List.range 5).map Config.modelTbp
  ocv := (List.range 105).map (Config.modelTable 0)
  rs := (List.range 55).map (Config.modelTable 1)
  rp := (List.range 55).map (Config.modelTable 2)
  cp := (List.range 55).map (Config.modelTable 3)

/-- The model set in force. -/
def State.model (s : State) : Model := s.est.model.getD defaultModel

/-- lerp of R454. -/
def lerp (a b : Int) (f : Nat) : Int := a + ((b - a) * f) / 65536

/-- tpos of R454: kt and ft for temperature `t`. -/
def tpos (tbp : List Int) (t : Int) : Nat × Nat :=
  let g (k : Nat) : Int := tbp.getD k 0
  if t ≤ g 0 then (0, 0)
  else if g 4 ≤ t then (3, 65536)
  else
    let k := ((List.range 4).filter fun k => g k ≤ t).getLast?.getD 0
    (k, (truncDiv ((t - g k) * 65536) (g (k + 1) - g k)).toNat)

/-- Entry (t, i) of a table of `n + 1` columns. -/
def entry (x : List Nat) (n t i : Nat) : Int := x.getD ((n + 1) * t + i) 0

/-- tab of R454, for a table of `n + 1` SOC points at (kt, ft). -/
def tab (x : List Nat) (n : Nat) (k : Nat × Nat) (soc : Nat) : Int :=
  let ks := soc * n / 2 ^ 32
  let fs := soc * n % 2 ^ 32 / 2 ^ 16
  lerp (lerp (entry x n k.1 ks) (entry x n k.1 (ks + 1)) fs) (lerp (entry x n (k.1 + 1) ks) (entry x n (k.1 + 1) (ks + 1)) fs) k.2

/-- slope of R454. -/
def slope (ocv : List Nat) (k : Nat × Nat) (soc : Nat) : Int :=
  let ks := soc * 20 / 2 ^ 32
  lerp (entry ocv 20 k.1 (ks + 1) - entry ocv 20 k.1 ks) (entry ocv 20 (k.1 + 1) (ks + 1) - entry ocv 20 (k.1 + 1) ks) k.2

/-- satU32 of R450. -/
def satU32 (x : Int) : Nat := (clampZ 0 4294967295 x).toNat

/-- Inversion of a voltage (R456). -/
def invert (ocv : List Nat) (k : Nat × Nat) (w : Int) : Nat :=
  let row (i : Nat) : Int := lerp (entry ocv 20 k.1 i) (entry ocv 20 (k.1 + 1) i) k.2
  if w < row 0 then 0
  else if row 20 ≤ w then 4294967295
  else
    let i := ((List.range 20).filter fun i => row i ≤ w).getLast?.getD 0
    (truncDiv ((i : Int) * 2 ^ 32 + truncDiv ((w - row i) * 2 ^ 32) (row (i + 1) - row i)) 20).toNat

/-- ocv, slope, rs, rp, tau and qc of a cell (R455, R460). -/
structure CellVals where
  ocv : Int
  s : Int
  rs : Int
  rp : Int
  tau : Int
  qc : Int

def cellVals (m : Model) (k : Nat × Nat) (c : EstCell) : CellVals :=
  let rp := tab m.rp 10 k c.soc
  { ocv := tab m.ocv 20 k c.soc
    s := slope m.ocv k c.soc
    rs := (tab m.rs 10 k c.soc * c.sohR) / 2 ^ 14
    rp := rp
    tau := rp * tab m.cp 10 k c.soc * 10
    qc := truncDiv (m.qnom * 10 ^ 6 * c.sohC) 16384 }

/-- What R460 takes from the step. -/
def EstCell.keep (c : EstCell) (x : CellVals) : EstCell := { c with rs := x.rs, rp := x.rp, tau := x.tau, qc := x.qc }

/-- The values R460 works with: ocv and s at the corrected SOC, the others as the step had them. -/
def sopVals (m : Model) (k : Nat × Nat) (c : EstCell) : CellVals :=
  { ocv := tab m.ocv 20 k c.soc
    s := slope m.ocv k c.soc
    rs := c.rs
    rp := c.rp
    tau := c.tau
    qc := c.qc }

/-- The estimation step of an initialised cell (R455): Δt, dq, the current, and the cell's voltage where its word and
I_sync are VALID. -/
def stepCell (m : Model) (k : Nat × Nat) (dt dq i : Int) (v : Option Int) (c : EstCell) : EstCell :=
  let qc := truncDiv (m.qnom * 10 ^ 6 * c.sohC) 16384
  let c0 := { c with soc := satU32 (c.soc - truncDiv (dq * 2 ^ 32) qc) }
  let x := cellVals m k c0
  let c1 := c0.keep x
  let f := min 65536 (truncDiv (dt * 65536) x.tau)
  let vp := c.vp + ((truncDiv (i * x.rp) 62500 * 65536 - c.vp) * f) / 65536
  let vpred := x.ocv - truncDiv (i * x.rs) 62500 - vp / 65536
  let rest := c.rest.map fun r => (r.1, r.2 + dq)
  match v with
  | some u =>
    let e := clampZ (-4096) 4096 (u - vpred)
    { c1 with vp := vp, rest := rest, soc := satU32 (c1.soc + truncDiv (e * 20 * x.s * 2 ^ 26) (400 * x.s * x.s + 102400)) }
  | none => { c1 with vp := vp, rest := rest }

/-- The SOH_R update of R458, where both currents and both voltages are VALID. -/
def sohRStep (m : Model) (k : Nat × Nat) (i i0 v v0 : Int) (c : EstCell) : EstCell :=
  if 50000 ≤ (i - i0).natAbs then
    let rm := truncDiv ((v0 - v) * 62500) (i - i0)
    if 0 < rm then
      { c with sohR := (clampZ 8192 65535 (c.sohR + truncDiv (truncDiv (rm * 16384) (tab m.rs 10 k c.soc) - c.sohR) 16)).toNat }
    else c
  else c

/-- The rest update of R457 from the cell's VALID voltage. -/
def restCell (m : Model) (k : Nat × Nat) (v : Int) (c : EstCell) : EstCell :=
  let soc1 := invert m.ocv k v
  if slope m.ocv k soc1 < 64 then c
  else
    let c1 := match c.rest with
      | some (soc0, q) =>
        let d : Int := (soc0 : Int) - soc1
        if 0x66666666 ≤ d.natAbs && decide (0 < q * d) then
          { c with sohC := (clampZ 8192 20480 (c.sohC +
              truncDiv (truncDiv (truncDiv (q * 2 ^ 32) d * 16384) (m.qnom * 10 ^ 6) - c.sohC) 8)).toNat }
        else c
      | none => c
    { c1 with soc := soc1, rest := some (soc1, 0) }

/-- Initialisation of a cell (R456). -/
def initCell (m : Model) (k : Nat × Nat) (i v : Int) (c : EstCell) : EstCell :=
  let rs := (tab m.rs 10 k (invert m.ocv k v) * c.sohR) / 2 ^ 14
  let c1 := { c with init := true, vp := 0, soc := invert m.ocv k (v + truncDiv (i * rs) 62500) }
  c1.keep (cellVals m k c1)

/-! ### The engine's state -/

/-- Cell `c`, and the last VALID temperature of the sensor it takes (R449, R454). -/
def State.cell (s : State) (c : Nat) : EstCell := s.est.cells.get {} ⟨c, 0, 0⟩
def State.setCell (s : State) (c : Nat) (x : EstCell) : State :=
  { s with est := { s.est with cells := s.est.cells.set {} ⟨c, 0, 0⟩ x } }
def State.cellTemp (s : State) (c : Nat) : Int := s.est.temps.get 400 ⟨4 * (c / 20) + c % 20 / 5, 0, 0⟩

/-- The cells of the enumerated addresses, ascending (R449). -/
def State.cellList (s : State) : List Nat := s.addrList.flatMap fun a => (List.range 20).map fun i => 20 * (a - 1) + i
/-- Their temperature sensors. -/
def State.tempList (s : State) : List Nat := s.addrList.flatMap fun a => (List.range 4).map fun i => 4 * (a - 1) + i

/-- Cell word and temperature word. -/
def State.cellWord (s : State) (c : Nat) : Nat := s.fld F.HRD_CELL_WORD c
def State.tempWord (s : State) (n : Nat) : Nat := s.fld F.HRD_TEMP_WORD n

/-- Set every cell by a function of its number. -/
def State.mapCells (s : State) (f : Nat → EstCell → EstCell) : State :=
  { s with est := { s.est with cells := (List.range 240).foldl (fun t c =>
      t.set {} ⟨c, 0, 0⟩ (f c (t.get {} ⟨c, 0, 0⟩))) s.est.cells } }

/-- A round begins: the model set and the reinitialisation that wait for it are its own from now on; what comes while it
runs waits for the next (04 R101, R452, R475). -/
def State.estArm (s : State) : State :=
  { s with est := { s.est with
      modelDue := s.est.modelNext <|> s.est.modelDue
      modelNext := none
      reinitDue := s.est.reinitDue || s.est.reinit
      reinit := false } }

/-- The model set and the reinitialisation of this round take effect (R452, R456, R475). -/
def State.estPrepare (s : State) : State :=
  let s1 := match s.est.modelDue with
    | some m =>
      let a : State := State.put { s with est := { s.est with model := some m, modelDue := none } } F.EST_MODEL_ID_MODEL_ID m.id
      if m.id = s.model.id then a else a.mapCells fun _ c => { c with sohC := 16384, sohR := 16384, rest := none }
    | none => s
  if s1.est.reinitDue then
    let a := s1.mapCells fun _ c => { c with init := false }
    { a with est := { a.est with reinitDue := false } }
  else s1

/-- The VALID temperatures of the round are taken (R454). -/
def State.takeTemps (s : State) : State :=
  { s with est := { s.est with temps := s.tempList.foldl (fun t n =>
      let w := s.tempWord n
      if w / 2 ^ 14 = stVALID then t.set 400 ⟨n, 0, 0⟩ (toSigned 14 w) else t) s.est.temps } }

/-- BAL_TIME granted to cell `c` in the round before (R449). -/
def State.balOf (s : State) (c : Nat) : Nat :=
  let g := s.herd.granted.get (0, 0) ⟨c / 20 + 1, 0, 0⟩
  if hasBit g.1 (c % 20) then g.2 else 0

/-- One cell at a round with samples (R455, R456, R458); `dt` and `dq` are none at the first such round. -/
def State.estCell (s : State) (dd : Option (Int × Int)) (c : Nat) : State :=
  let x := s.cell c
  let w := s.cellWord c
  let k := tpos s.model.tbp (s.cellTemp c)
  let i := s.iSync
  let iok := i.1 == stVALID
  let v : Option Int := if w / 2 ^ 14 = stVALID then some (5 * (w % 2 ^ 14 : Nat)) else none
  let y :=
    if x.init then
      match dd with
      | some (dt, dq) =>
        let c1 := stepCell s.model k dt (dq + 15 * s.balOf c) i.2 (if iok then v else none) x
        match v, x.last, s.est.lastI with
        | some u, some u0, some i0 => if iok then sohRStep s.model k i.2 i0 u u0 c1 else c1
        | _, _, _ => c1
      | none => x
    else
      match v with
      | some u => initCell s.model k i.2 u x
      | none => x
  s.setCell c { y with last := v }

/-- The string is at rest (R457). -/
def State.atRest (s : State) : Bool :=
  match s.est.restAt with
  | some t => t + 1800000 ≤ s.tim.optime
  | none => false

/-- REST_DETECT (R457): at the first round of a rest every initialised cell with a VALID word is anchored. -/
def State.restRound (s : State) : State :=
  if s.atRest && !s.est.restDone then
    let s1 := s.cellList.foldl (fun a c =>
      let x := a.cell c
      let w := a.cellWord c
      if x.init && w / 2 ^ 14 == stVALID then
        a.setCell c (restCell a.model (tpos a.model.tbp (a.cellTemp c)) (5 * (w % 2 ^ 14 : Nat)) x)
      else a) s
    { s1 with est := { s1.est with restDone := true } }
  else s

/-! ### State of power and aggregates (R460, R461) -/

/-- What R460 computes of a cell for horizon `h` in µs: ocv − vpd, reff, and the two currents. -/
def sopCell (lim : Limits) (h : Int) (x : CellVals) (vp : Int) : Int × Int × Int × Int :=
  let d := truncDiv (65536 * x.tau) (x.tau + h)
  let reff := max 1 (x.rs + (x.rp * (65536 - d)) / 65536 + truncDiv (x.s * 1250 * h) x.qc)
  let vpd := (vp * d) / 2 ^ 32
  (x.ocv - vpd, reff, max 0 (truncDiv ((x.ocv - vpd - 16 * lim.vSopMin) * 62500) reff),
    max 0 (truncDiv ((16 * lim.vSopMax - x.ocv + vpd) * 62500) reff))

/-- Current and power of a horizon: discharge, then charge, in mA and W (R460). -/
def sopString (lim : Limits) (disOk chgOk : Bool) (l : List (Int × Int × Int × Int)) : (Int × Int) × (Int × Int) :=
  let mx (d : Int) (xs : List Int) : Int := xs.foldl min d
  let id := if disOk then mx (1000 * lim.iDisMax) (l.map fun x => x.2.2.1) else 0
  let ic := if chgOk then mx (1000 * lim.iChgMax) (l.map fun x => x.2.2.2) else 0
  let sd := (l.map fun x => x.1 - truncDiv (id * x.2.1) 62500).foldl (· + ·) 0
  let sc := (l.map fun x => x.1 + truncDiv (ic * x.2.1) 62500).foldl (· + ·) 0
  ((id, max 0 (truncDiv (id * sd) 16000000)), (ic, max 0 (truncDiv (ic * sc) 16000000)))

/-- SOP and the allowed currents (R460). -/
def State.estSop (s : State) : State :=
  let cs := s.cellList
  let lim := s.est.lim
  let ok := !cs.isEmpty && cs.all fun c => (s.cell c).init
  let ts := cs.map s.cellTemp
  let disOk := ok && s.fld F.EST_DISC_STATE != 4 && ts.all fun t => decide (16 * lim.tLoDisc ≤ t ∧ t ≤ 16 * lim.tHiDisc)
  let chgOk := ok && ts.all fun t => decide (16 * lim.tChgMin ≤ t ∧ t ≤ 16 * lim.tHiDisc)
  let m := s.model
  let vals := cs.map fun c => (sopVals m (tpos m.tbp (s.cellTemp c)) (s.cell c), (s.cell c).vp)
  let one (h : Int) := sopString lim disOk chgOk (vals.map fun x => sopCell lim h x.1 x.2)
  let put (a : State) (j : Nat) (x : (Int × Int) × (Int × Int)) : State :=
    (((a.put F.EST_SOP_P x.1.2.toNat j).put F.EST_SOPI_I (min 65535 (x.1.1.toNat / 100)) j).put F.EST_SOP_P x.2.2.toNat (3 + j)).put
      F.EST_SOPI_I (min 65535 (x.2.1.toNat / 100)) (3 + j)
  let r := one 10000000
  let s1 := put (put (put s 0 (one 2000000)) 1 r) 2 (one 30000000)
  let s2 : State := { s1 with est := { s1.est with allowDis := r.1.1.toNat, allowChg := r.2.1.toNat } }
  (s2.put F.EST_ALLOW_I_DIS_ALLOW (min 65535 (r.1.1.toNat / 100))).put F.EST_ALLOW_I_CHG_ALLOW (min 65535 (r.2.1.toNat / 100))

/-- The initialised cells, the one with the lowest SOC and the one with the highest, the lower number among equals. -/
def State.initList (s : State) : List Nat := s.cellList.filter fun c => (s.cell c).init
def State.minCell (s : State) (l : List Nat) (c0 : Nat) : Nat := l.foldl (fun b c => if (s.cell c).soc < (s.cell b).soc then c else b) c0
def State.maxCell (s : State) (l : List Nat) (c0 : Nat) : Nat := l.foldl (fun b c => if (s.cell b).soc < (s.cell c).soc then c else b) c0

/-- The string values of R461 and the counts of Table 17-6. -/
def State.estAggregate (s : State) : State :=
  let l := s.initList
  let n := s.cellList.length
  let s1 := (s.put F.EST_STAT_NCELLS n).putFlag F.EST_STAT_INIT_ALL (n != 0 && l.length == n)
  match l with
  | [] =>
    [F.EST_SOC_MINMAX_SOC_MAX, F.EST_SOC_MINMAX_SOC_MIN, F.EST_SOC_MEAN_MAX_CELL, F.EST_SOC_MEAN_MIN_CELL, F.EST_SOC_MEAN_SOC_MEAN,
      F.EST_SOH_SOH_R_MAX, F.EST_SOH_SOH_C_MIN].foldl (fun a f => a.clr f) s1
  | c0 :: t =>
    let lo := s.minCell t c0
    let hi := s.maxCell t c0
    let sum := (l.map fun c => (s.cell c).soc / 65536).foldl (· + ·) 0
    let s2 := (((s1.put F.EST_SOC_MINMAX_SOC_MIN ((s.cell lo).soc / 65536)).put F.EST_SOC_MINMAX_SOC_MAX ((s.cell hi).soc / 65536)).put
      F.EST_SOC_MEAN_MIN_CELL lo).put F.EST_SOC_MEAN_MAX_CELL hi
    ((s2.put F.EST_SOC_MEAN_SOC_MEAN (sum / l.length)).put F.EST_SOH_SOH_C_MIN
      (l.foldl (fun m c => min m (s.cell c).sohC) (s.cell c0).sohC)).put F.EST_SOH_SOH_R_MAX
      (l.foldl (fun m c => max m (s.cell c).sohR) (s.cell c0).sohR)

/-! ### Conditions (R465 to R471) -/

/-- Reactions of Table 17-4: 0 warn, 1 request, 2 soft, 3 hard. -/
def condReaction (n : Nat) : Nat :=
  if [0, 2, 4, 12, 15].contains n then 0 else if n = 10 ∨ n = 11 then 1 else if 16 ≤ n then 3 else 2

/-- Delay of condition `n` in ms; none where the second consecutive evaluation confirms (Table 17-4). -/
def State.condDelay (s : State) (n : Nat) : Option Nat :=
  let l := s.est.lim
  if n ≤ 3 then some l.dV
  else if n ≤ 6 then some l.dT
  else if n ≤ 9 then some l.dI
  else if n ≤ 11 then some 1000
  else if n = 12 then some 0
  else if n = 14 then some (max l.dStale (3 * s.herd.per))
  else if n = 15 then some 60000
  else none

/-- A condition, its confirmation or clearing record and its notification of class 6 (R466). -/
def State.cond (s : State) (n : Nat) : Cond := s.est.conds.get {} ⟨n, 0, 0⟩
def State.setCond (s : State) (n : Nat) (c : Cond) : State :=
  { s with est := { s.est with conds := s.est.conds.set {} ⟨n, 0, 0⟩ c } }
def State.condReport (s : State) (n : Nat) (confirmed : Bool) : State :=
  let d := leBytes 4 (s.supStored 0xC1B)
  (s.offer bEST 0 0x0C ([BitVec.ofNat 8 n, if confirmed then 1 else 0, 0, 0] ++ d)).notify 6 bEST 0 n 0 s.nextRseq d

/-- An active condition clears, confirmed or not (R466). -/
def State.condClear (s : State) (n : Nat) : State :=
  ((s.putBitOf F.EST_COND_ACT_ACT n false).putBitOf F.EST_COND_CONF_CONF n false).condReport n false

/-- The delay of a met condition has passed (R465). -/
def State.condDue (s : State) (n : Nat) : Bool :=
  let c := s.cond n
  match s.condDelay n, c.since with
  | some d, some t => t + d ≤ s.tim.optime
  | none, some _ => 2 ≤ c.runs
  | _, none => false

/-- One evaluation of condition `n`: `met` is none where no word tells; `clr` that its clearing test holds.  Conditions
newly confirmed join the list (R465). -/
def State.condEval (n : Nat) (met : Option Bool) (clr : Bool) (x : State × List Nat) : State × List Nat :=
  let s := x.1
  let c := s.cond n
  match met with
  | some true =>
    let s1 := (s.setCond n { c with since := some (c.since.getD s.tim.optime), runs := c.runs + 1, met := true }).putBitOf
      F.EST_COND_ACT_ACT n true
    if s1.condDue n && !s1.bit F.EST_COND_CONF_CONF n then
      ((s1.putBitOf F.EST_COND_CONF_CONF n true).putBitOf F.EST_COND_EVT_EVT n true, x.2 ++ [n])
    else (s1, x.2)
  | some false =>
    let s1 := s.setCond n { c with since := none, runs := 0, met := false }
    (if s1.bit F.EST_COND_ACT_ACT n && clr then s1.condClear n else s1, x.2)
  | none => (s.setCond n { c with met := false }, x.2)

/-- An event of the estimation block about condition `n`, with the first of the cells that meet it, or its code (21 Table 21-3; which
of several cells, DESIGN CHOICE, log entry 84). -/
def State.estEv (s : State) (typ lvl n : Nat) : State :=
  let a := if [0, 1, 2, 3, 16, 17].contains n then (bitsSet (s.cond n).hot 240).head?.getD n else n
  s.event ⟨bEST, 0, typ, lvl, a, 0, 0, 255⟩

/-- The string is not isolated: a coil of it is energised, or a sequence runs or is due (18 R493). -/
def State.stringOn (s : State) : Bool :=
  s.coil 0 || s.coil 1 || s.coil 2 || s.seqRuns || s.seq == 7 || s.seq == 8 || s.ctr.closeDue

/-- A soft disconnection with cause `n` (R466, R467, R471). -/
def State.softDisc (s : State) (n : Nat) : State :=
  let s1 := s.count F.EST_CNT_SOFT_DISC
  if s1.fld F.EST_DISC_STATE = 1 then s1.estEv 0x03 lDegrade n
  else
    let s2 := s1.put F.EST_DISC_CAUSE n
    if s2.stringOn then
      let s3 := (s2.put F.EST_DISC_STATE 1).estEv 0x03 lDegrade n
      s3.isolateWait 4 (s3.lastFid bEST 0)
    else (s2.put F.EST_DISC_STATE 2).estEv 0x03 lDegrade n

/-- A hard disconnection with cause `n` (R466, R470). -/
def State.hardDisc (s : State) (n : Nat) : State :=
  let s1 := (((s.count F.EST_CNT_HARD_DISC).putFlag F.EST_DISC_HARD_LATCH true).put F.EST_DISC_CAUSE n).put F.EST_DISC_STATE 3
  let s2 := s1.estEv 0x04 lSevere n
  if s2.stringOn then s2.isolate 5 (s2.lastFid bEST 0) else s2

/-- The conditions confirmed at one evaluation react: the strongest reaction once, its lowest code the cause (R466, R471). -/
def State.condReact (x : State × List Nat) : State :=
  match x.2 with
  | [] => x.1
  | l =>
    let r := l.foldl (fun m n => max m (condReaction n)) 0
    let n := ((l.filter fun n => condReaction n == r).foldl min 21)
    let s1 := if r = 3 then x.1.hardDisc n else if r = 2 then x.1.softDisc n
      else x.1.estEv (if r = 1 then 0x02 else 0x01) lNote n
    l.foldl (fun a c => a.condReport c true) s1

/-- A measurement word under test: the number of its cell or sensor, its status and its value. -/
abbrev TestWord := Nat × Nat × Int

/-- The words of the enumerated cells in u, and of their temperatures in 1/16 °C. -/
def State.cellWords (s : State) : List TestWord :=
  s.cellList.map fun c => (c, s.cellWord c / 2 ^ 14, 5 * ((s.cellWord c % 2 ^ 14 : Nat) : Int))
def State.tempWords (s : State) : List TestWord := s.tempList.map fun n => (n, s.tempWord n / 2 ^ 14, toSigned 14 (s.tempWord n))

/-- A word is tested: it is VALID, or OVERRANGE and above every limit (R465).  `low` marks a low limit, which an OVERRANGE word never
meets. -/
def tested (x : TestWord) : Bool := x.2.1 == stVALID || x.2.1 == stOVER
def wordMeets (low : Bool) (p : Int → Bool) (x : TestWord) : Bool := if x.2.1 = stOVER then !low else p x.2.2

/-- The words of a mask after this evaluation: those tested have the property now, the others keep what they had. -/
def heldMask (l : List TestWord) (m : Nat) (p : TestWord → Bool) : Nat :=
  l.foldl (fun a x => putBit a x.1 (if tested x then p x else hasBit m x.1)) 0

/-- One evaluation of a condition on measurement words (R465).  SETTLE and STALE words neither meet nor interrupt it: it is not met where
a word was tested, none met it and none of the untested ones had met it when it was tested last; nor does it clear while one of
those stood against that (DEDUCED, log entry 84). -/
def wordEval (c : Cond) (l : List TestWord) (low : Bool) (p clr : Int → Bool) : Option Bool × Bool × Cond :=
  let hot := heldMask l c.hot (wordMeets low p)
  let warm := heldMask l c.warm fun x => if x.2.1 = stOVER then !low else !clr x.2.2
  let met : Option Bool := if l.any fun x => tested x && wordMeets low p x then some true
    else if hot != 0 || !l.any tested then none else some false
  (met, warm == 0, { c with hot := hot, warm := warm })

/-- Evaluate condition `n` on measurement words. -/
def State.condWords (n : Nat) (l : List TestWord) (low : Bool) (p clr : Int → Bool) (x : State × List Nat) : State × List Nat :=
  let e := wordEval (x.1.cond n) l low p clr
  State.condEval n e.1 e.2.1 (x.1.setCond n e.2.2, x.2)

/-- Every cell of the string stands at or above `v` mV: none where a word does not tell. -/
def cellsAbove (l : List TestWord) (v : Nat) : Option Bool :=
  if l.any fun x => x.2.1 == stVALID && decide (x.2.2 < 16 * (v : Int)) then some false
  else if l.all tested then some true
  else none

/-- SOC spread of the string, Q0.32. -/
def State.socSpread (s : State) : Nat :=
  match s.initList with
  | [] => 0
  | c :: t => (s.cell (s.maxCell t c)).soc - (s.cell (s.minCell t c)).soc

/-- The round conditions 0 to 6 and 14 to 19 (Table 17-4). -/
def State.roundConds (s : State) : State :=
  let l := s.est.lim
  let cw := s.cellWords
  let tw := s.tempWords
  let hiV (n : Nat) (v : Nat) := State.condWords n cw false (fun x => decide (16 * (v : Int) < x)) fun x => decide (x ≤ 16 * (v : Int) - 320)
  let loV (n : Nat) (v : Nat) := State.condWords n cw true (fun x => decide (x < 16 * (v : Int))) fun x => decide (16 * (v : Int) + 320 ≤ x)
  let hiT (n : Nat) (v : Int) := State.condWords n tw false (fun x => decide (16 * v < x)) fun x => decide (x ≤ 16 * v - 32)
  let loT (n : Nat) (v : Int) := State.condWords n tw true (fun x => decide (x < 16 * v)) fun x => decide (16 * v + 32 ≤ x)
  let fuse (n : Nat) (ws : List TestWord) (low : Bool) (p : Int → Bool) := State.condWords n ws low p fun x => !p x
  let all := cw ++ tw
  let stale := all.any (fun x => x.2.1 == stSTALE) || s.fld F.HRD_STAT_MISSING != 0
  let fresh := all.all (fun x => x.2.1 == stVALID || x.2.1 == stSETTLE) && s.fld F.HRD_STAT_MISSING == 0
  let d := s.socSpread
  State.condReact
    (fuse 19 tw true (fun x => decide (x ≤ -320)) <| fuse 18 tw false (fun x => decide (1040 ≤ x)) <|
     fuse 17 cw true (fun x => decide (x ≤ 32000)) <| fuse 16 cw false (fun x => decide (60000 ≤ x)) <|
     State.condEval 15 (some (decide (2 ^ 32 < 10 * d))) (decide (100 * d ≤ 8 * 2 ^ 32)) <|
     State.condEval 14 (some stale) fresh <|
     loT 6 l.tLoDisc <| hiT 5 l.tHiDisc <| hiT 4 l.tHiWarn <| loV 3 l.vLoDisc <| loV 2 l.vLoWarn <| hiV 1 l.vHiDisc <|
     hiV 0 l.vHiWarn (s, []))

/-- CHARGE_ONLY ends once every cell has stood at V_LO_WARN for D_V (R468). -/
def State.chargeEnd (s : State) : State :=
  if s.fld F.EST_DISC_STATE = 4 then
    match cellsAbove s.cellWords s.est.lim.vLoWarn with
    | some false => { s with est := { s.est with fullAt := none } }
    | some true =>
      let t := s.est.fullAt.getD s.tim.optime
      if t + s.est.lim.dV ≤ s.tim.optime then
        State.put { s with est := { s.est with fullAt := none, overAt := none } } F.EST_DISC_STATE 0
      else { s with est := { s.est with fullAt := some t } }
    | none => s
  else s

/-- A round without samples: its words are STALE, so the next one finds no voltage and no current of the round before it (R458). -/
def State.roundLost (s : State) : State :=
  let t := s.mapCells fun _ c => { c with last := none }
  { t with est := { t.est with lastI := none } }

/-- ESTIMATION_RUN (R449, R455): the engine at the end of a round, `fresh` where it delivered samples. -/
def State.estRound (s : State) (fresh : Bool) : State :=
  let s0 := s.estPrepare
  let s1 := if fresh then
      let t := s0.takeTemps
      let now := t.herd.startAt - 1
      let dd := t.est.lastAt.map fun x => (((1000 * (now - x) : Nat) : Int), t.pack.cc - t.est.lastCc)
      let u := t.cellList.foldl (fun a c => a.estCell dd c) t
      let i := u.iSync
      let e : Est := { u.est with
        lastAt := some now
        lastCc := u.pack.cc
        lastI := if i.1 = stVALID then some i.2 else none }
      let v := (State.restRound { u with est := e }).estSop
      let w := v.put F.EST_STAT_ROUND v.herd.r
      if w.est.model.isSome then w.withSvc fun a => (a.putFlag F.AON_SVC_STAT_EST_LOADED true).assistSettle else w
    else s0.roundLost
  (s1.estAggregate.roundConds).chargeEnd

/-- The tick conditions 7 to 11 from the tick means (Table 17-4), with those newly confirmed. -/
def State.tickEval (s : State) : State × List Nat :=
  let l := s.est.lim
  let i := s.pack.iMean
  let cold := wordEval (s.cond 7) s.tempWords true (fun x => decide (x < 16 * l.tChgMin)) fun x => decide (16 * l.tChgMin ≤ x)
  let chg := decide (i < -2000)
  let ovr (n : Nat) (x lim clr : Int) := State.condEval n (some (decide (lim < x))) (decide (x ≤ clr))
  (ovr 11 (-i) s.est.allowChg s.est.allowChg <| ovr 10 i s.est.allowDis s.est.allowDis <|
     ovr 9 (-i) (1000 * l.iChgMax) (950 * l.iChgMax) <| ovr 8 i (1000 * l.iDisMax) (950 * l.iDisMax) <|
     State.condEval 7 (if chg then cold.1 else some false) (!chg || cold.2.1) (s.setCond 7 cold.2.2, []))

/-- The isolation conditions 12 and 13, at the end of M3 (Table 17-4). -/
def State.isoConds (s : State) : State :=
  let l := s.est.lim
  let p := s.fld F.PKM_ISO_LP_R_LP
  let n := s.fld F.PKM_ISO_LN_R_LN
  let one (k lim : Nat) := State.condEval k (some (decide (min p n < lim))) (decide (11 * lim ≤ 10 * p ∧ 11 * lim ≤ 10 * n))
  State.condReact (one 13 l.isoDisc (one 12 l.isoWarn (s, [])))

/-- Condition 20 on a sample of channel 0 (Table 17-4); `gain0` that channel 0 stood at ×1. -/
def State.measCond (s : State) (gain0 : Bool) : State :=
  let c := s.cond 20
  if gain0 && wordSt (s.samp 0) == stOVER && wordSt (s.samp 1) == stOVER then
    let s1 := (s.setCond 20 { since := some (c.since.getD s.tim.optime), runs := 1, met := true }).putBitOf F.EST_COND_ACT_ACT 20 true
    { s1 with est := { s1.est with clearAt := none } }
  else
    let t := s.est.clearAt.getD s.tim.optime
    let s1 := s.setCond 20 {}
    if !s1.bit F.EST_COND_ACT_ACT 20 then s1
    else if t + 10 < s.tim.optime then State.condClear { s1 with est := { s1.est with clearAt := none } } 20
    else { s1 with est := { s1.est with clearAt := some t } }

/-- CONDITION_CONFIRM (R465): the delay of an active condition has passed with it met throughout. -/
def State.condConfirm (s : State) (n : Nat) : State :=
  if (s.cond n).since.isSome && !s.bit F.EST_COND_CONF_CONF n && (n == 20 || s.condDue n) then
    State.condReact ((s.putBitOf F.EST_COND_CONF_CONF n true).putBitOf F.EST_COND_EVT_EVT n true, [n])
  else s

/-- CHARGE_ONLY_OVERCURRENT (R468): the current has stood above 5 A for 1,000 ms. -/
def State.chargeOver (s : State) : State :=
  if s.fld F.EST_DISC_STATE = 4 then State.softDisc { s with est := { s.est with overAt := none, fullAt := none } } 3 else s

/-- The engine at a decision tick: a limit set takes effect, rest and CHARGE_ONLY are watched, the tick conditions are
judged (R457, R463, R465, R468), events in ascending type (21 R572). -/
def State.estTick (s : State) : State :=
  let s1 := match s.est.limNext with
    | some l =>
      (State.put { s with est := { s.est with lim := l, limNext := none } } F.EST_LIMIT_ID_LIMIT_ID l.id).withSvc fun a =>
        (a.putFlag F.EST_STAT_LIM_LOADED true).assistSettle
    | none => s
  let i := s1.pack.iMean
  let calm := i.natAbs ≤ 2000
  let now := s1.tim.optime
  let s2 : State := { s1 with est := { s1.est with
      restAt := if calm then some (s1.est.restAt.getD now) else none
      restDone := calm && s1.est.restDone
      overAt := if s1.fld F.EST_DISC_STATE = 4 ∧ 5000 < i then some (s1.est.overAt.getD now) else none } }
  let s3 := s2.putFlag F.EST_STAT_REST s2.atRest
  let x := s3.tickEval
  if !(s3.est.overAt.any fun t => t + 1000 ≤ now) then State.condReact x
  else if x.2.any fun n => condReaction n == 2 then State.condReact (x.1.chargeOver, x.2)
  else (State.condReact x).chargeOver

/-- FAULT_ACK of the estimation block (R469): refused with reason LIMIT while a fused condition is met, else the latch
clears. -/
def State.estAck (s : State) : Option State :=
  if s.flag F.EST_DISC_HARD_LATCH then
    if [16, 17, 18, 19, 20].any fun n => (s.cond n).met then none
    else some (s.putFlag F.EST_DISC_HARD_LATCH false)
  else some s

/-! ### Control and loads (R451, R452, R459, R463) -/

/-- Actions of a write of `EST_CTL` (R456, R459). -/
def State.sohReset (s : State) : State := s.mapCells fun _ c => { c with sohC := 16384, sohR := 16384, rest := none }
def State.socReinit (s : State) : State := { s with est := { s.est with reinit := true } }

/-- A strictly ascending list. -/
def rising (l : List Int) : Bool := (l.zip (l.drop 1)).all fun x => decide (x.1 < x.2)
/-- The `n` little-endian 16-bit values from byte `off` on. -/
def halfs (b : Bytes) (off n : Nat) : List Nat := (List.range n).map fun i => leAt b (off + 2 * i) 2
/-- Bytes `off … off + n - 1` are 0. -/
def zeros (b : Bytes) (off n : Nat) : Bool := leAt b off n == 0

/-- A model set image (R451), checked as R452 says: the reason of the first failed check, or the set. -/
def parseModel (b : Bytes) : Except Nat Model :=
  if b.length ≠ 576 ∨ leAt b 0 2 ≠ 0x4D53 ∨ leAt b 2 1 ≠ 1 then .error 2
  else if leAt b 572 4 ≠ crc32 (b.take 572) then .error 1
  else
    let m : Model := {
      id := leAt b 4 4
      qnom := leAt b 8 4
      tbp := (halfs b 16 5).map (toSigned 16)
      ocv := halfs b 32 105
      rs := halfs b 242 55
      rp := halfs b 352 55
      cp := halfs b 462 55 }
    let z := zeros b 3 1 && zeros b 12 4 && zeros b 26 6
    let r := m.id != 0 && 3600 ≤ m.qnom && m.qnom ≤ 3600000 && m.tbp.all (fun t => decide (-640 ≤ t ∧ t ≤ 1360)) &&
      m.ocv.all (fun x => x ≤ 60000) && (m.rs ++ m.rp ++ m.cp).all fun x => x != 0
    let rows := (List.range 5).map fun t => ((m.ocv.drop (21 * t)).take 21).map Int.ofNat
    if !(z && r) then .error 3
    else if !(rising m.tbp && rows.all rising) then .error 4
    else .ok m

/-- A limit set image (R463), checked as R452 says. -/
def parseLimits (b : Bytes) : Except Nat Limits :=
  if b.length ≠ 64 ∨ leAt b 0 2 ≠ 0x4C53 ∨ leAt b 2 1 ≠ 1 then .error 2
  else if leAt b 60 4 ≠ crc32 (b.take 60) then .error 1
  else
    let h (o : Nat) := leAt b o 2
    let t (o : Nat) := toSigned 8 (leAt b o 1)
    let l : Limits := {
      ncart := leAt b 3 1
      id := leAt b 4 4
      vHiWarn := h 8
      vHiDisc := h 10
      vLoWarn := h 12
      vLoDisc := h 14
      vSopMax := h 16
      vSopMin := h 18
      tHiWarn := t 20
      tHiDisc := t 21
      tLoDisc := t 22
      tChgMin := t 23
      iDisMax := h 24
      iChgMax := h 26
      breakLim := h 28
      isoWarn := h 30
      isoDisc := h 32
      dV := h 34
      dT := h 36
      dI := h 38
      dStale := h 40
      brkWait := h 42 }
    let inR (lo hi x : Nat) := lo ≤ x && x ≤ hi
    let r := inR 4 12 l.ncart && [l.vHiWarn, l.vHiDisc, l.vLoWarn, l.vLoDisc, l.vSopMax, l.vSopMin].all (inR 2010 3740) &&
      [l.tHiWarn, l.tHiDisc, l.tLoDisc, l.tChgMin].all (fun x => decide (-19 ≤ x ∧ x ≤ 64)) &&
      [l.iDisMax, l.iChgMax].all (inR 1 1000) && inR 50 400 l.breakLim && [l.isoWarn, l.isoDisc].all (inR 10 10000) &&
      [l.dV, l.dT, l.dI].all (inR 100 60000) && inR 100 5000 l.dStale && inR 100 10000 l.brkWait && zeros b 44 16
    let o := decide (l.vLoDisc < l.vLoWarn ∧ l.vLoWarn < l.vHiWarn ∧ l.vHiWarn < l.vHiDisc ∧ l.vLoDisc ≤ l.vSopMin ∧
      l.vSopMin < l.vSopMax ∧ l.vSopMax ≤ l.vHiDisc ∧ l.tLoDisc ≤ l.tChgMin ∧ l.tChgMin < l.tHiWarn ∧ l.tHiWarn < l.tHiDisc ∧
      l.isoDisc < l.isoWarn)
    if !r then .error 3 else if !o then .error 4 else .ok l

/-- MODEL_LOAD and LIMITSET_LOAD (R452): the state after, and the reason of a refusal. -/
def State.modelLoad (s : State) (b : Bytes) : State × Option Nat :=
  match parseModel b with
  | .ok m => ({ s with est := { s.est with modelNext := some m } }, none)
  | .error e => (s.put F.EST_LOAD_STAT_MOD_REFUSE e, some e)
def State.limitLoad (s : State) (b : Bytes) : State × Option Nat :=
  match parseLimits b with
  | .ok l => ({ s with est := { s.est with limNext := some l } }, none)
  | .error e => (s.put F.EST_LOAD_STAT_LIM_REFUSE e, some e)

/-! ### Estimation-state sets (R459, 22 R584) -/

/-- A cell entry of a set. -/
def cellEntry (c : EstCell) : Bytes :=
  leBytes 2 c.sohC ++ leBytes 2 c.sohR ++
  match c.rest with
  | some (soc0, q) => leBytes 2 (soc0 / 65536) ++ leBytes 4 (ofSigned 32 (truncDiv q 1000))
  | none => leBytes 2 0 ++ leBytes 4 0x80000000

/-- The records of one set. -/
def State.estSet (s : State) (n : Nat) : List LogRec :=
  let mk (k : Nat) (pl : Bytes) : LogRec := ⟨s.tim.optime, s.tim.pcyc, bEST, 0, k, pl⟩
  s.addrList.flatMap fun a =>
    mk 0x10 (leBytes 2 n ++ [BitVec.ofNat 8 a, 0] ++ leBytes 4 (s.fld F.HRD_MON_UID_UID (a - 1)) ++ leBytes 4 s.model.id) ::
    (List.range 5).map fun f =>
      mk 0x11 (leBytes 2 n ++ [BitVec.ofNat 8 a, BitVec.ofNat 8 (4 * f)] ++
        (List.range 4).flatMap fun i => cellEntry (s.cell (20 * (a - 1) + 4 * f + i)))

/-- ESTIMATION_STATE_RECORD (R459): a set is written. -/
def State.estRecord (s : State) : State :=
  let n := (s.rcd.setNo + 1) % 65536
  State.setDrain { s with rcd := { s.rcd with setNo := n, sets := s.rcd.sets ++ s.estSet n } }

/-- The restored cell of a set's entry. -/
def entryCell (b : Bytes) (c : EstCell) : EstCell :=
  let q := leAt b 6 4
  { c with
    sohC := leAt b 0 2
    sohR := leAt b 2 2
    rest := if q = 0x80000000 then none else some (leAt b 4 2 * 65536, toSigned 32 q * 1000) }

/-- The five cell records of SET `n` and address `a`, where all are valid, the newest each. -/
def setCells (l : List Bytes) (n a : Nat) : Option (List Bytes) :=
  let one (f : Nat) := l.find? fun b => leAt b 14 1 == 0x11 && leAt b 16 2 == n && leAt b 18 1 == a && leAt b 19 1 == 4 * f
  match one 0, one 1, one 2, one 3, one 4 with
  | some b0, some b1, some b2, some b3, some b4 => some [b0, b1, b2, b3, b4]
  | _, _, _, _, _ => none

/-- The newest complete set of address `a` with this UID and MODEL_ID, among valid records. -/
def newestSet (l : List Bytes) (a uid mid : Nat) : Option (List Bytes) :=
  let c := l.filter fun b => leAt b 14 1 == 0x10 && leAt b 18 1 == a && leAt b 20 4 == uid && leAt b 24 4 == mid &&
    (setCells l (leAt b 16 2) a).isSome
  match c with
  | [] => none
  | b :: t => setCells l (leAt (t.foldl (fun x y => if seqAfter (slotSeq y) (slotSeq x) then y else x) b) 16 2) a

/-- The values of address `a` are restored from the recorder at its first enumeration after aux power-up (R459). -/
def State.estRestore (s : State) (a : Nat) : State :=
  match newestSet s.rcd.valid a (s.fld F.HRD_MON_UID_UID (a - 1)) s.model.id with
  | some rs =>
    (List.range 20).foldl (fun t i =>
      let c := 20 * (a - 1) + i
      t.setCell c (entryCell (((rs.getD (i / 4) []).drop (20 + 10 * (i % 4))).take 10) (t.cell c))) s
  | none => s

/-- The address that an enumeration step has made known for the first time, if any. -/
def newlyKnown (was s : State) : Option Nat :=
  (((List.range 12).filter fun i => hasBit s.herd.known i && !hasBit was.herd.known i).head?).map (· + 1)

/-- ENUM_RSP with the restoration that a first answer brings. -/
def State.enumAnswer (s : State) (ret : Bool) (rx : Option Bytes) : State :=
  let t := s.enumRsp ret rx
  match newlyKnown s t with
  | some a => t.estRestore a
  | none => t

end Sys2Proof.Machine
end

