-- ==== Sys2Proof/Machine/Wire.lean ====
section
/-! DEFINITION. The transmit side of a port (06 R127 to R133, R143, 08 R196 to R201): the bytes of a flit, the choice of the next
one, and the blocks that the lanes send. -/
namespace Sys2Proof.Machine

/-! ### The flit (Tables 6-1, 6-2) -/

/-- Fields of a flit header. -/
structure FlitHdr where
  ft : Nat
  seq : Nat
  ack : Nat
  nak : Bool
  cls : Nat
  first : Bool
  last : Bool
  len : Nat
  ccq : Nat
  ccs : Nat
  ccm : Nat
  deriving DecidableEq, Repr

/-- Read the header word. -/
def flitHdr (b : Bytes) : FlitHdr :=
  let w := leAt b 0 8
  { ft := bitField w 60 4, seq := bitField w 48 12, ack := bitField w 36 12, nak := hasBit w 35, cls := bitField w 33 2
    first := hasBit w 32, last := hasBit w 31, len := bitField w 26 5, ccq := bitField w 16 8, ccs := bitField w 8 8, ccm := bitField w 0 8 }

/-- The CRC of a flit holds and its type is one of Table 6-3 (R128, R129). -/
def flitOk (b : Bytes) : Bool := leAt b 124 4 == crc32 (b.take 124) && (flitHdr b).ft < 3

/-- A header word (Table 6-2); reserved bits are 0. -/
def FlitHdr.word (h : FlitHdr) : Nat :=
  h.ft * 2 ^ 60 + h.seq * 2 ^ 48 + h.ack * 2 ^ 36 + b2n h.nak * 2 ^ 35 + h.cls * 2 ^ 33 + b2n h.first * 2 ^ 32 + b2n h.last * 2 ^ 31 +
    h.len * 2 ^ 26 + h.ccq * 2 ^ 16 + h.ccs * 2 ^ 8 + h.ccm

/-- A flit as it is sent (Table 6-1): header, payload filled with zeros, CRC-32 (R128). -/
def flitOf (h : FlitHdr) (payload : Bytes) : Bytes :=
  let b := leBytes 8 h.word ++ padTo 116 payload
  b ++ leBytes 4 (crc32 b)

/-- The header of a flit sent now: the present ACK, NAK and Q credits (R130, R131); the module returns no S or M credits. -/
def Port.hdr (p : Port) (ft seq : Nat) : FlitHdr :=
  { ft := ft, seq := seq, ack := p.ack, nak := p.nak, cls := 0, first := false, last := false, len := 0, ccq := p.ccq, ccs := 0, ccm := 0 }

/-- A TXN flit as it is sent now, new or replayed (R130). -/
def Port.txnBytes (p : Port) (t : TxFlit) : Bytes :=
  flitOf { p.hdr 1 t.seq with cls := t.cls, first := t.first, last := t.last, len := (t.payload.length + 3) / 4 } t.payload

/-- SEQ that the next TXN flit on the line will carry (Table 6-2). -/
def Port.nextSeq (p : Port) : Nat := ((p.unacked.drop (p.unacked.length - p.wire)).head?.map (·.seq)).getD p.next

/-- The next flit for the line: an LM message that waits, the next TXN flit of the message or replay in progress or of the message
that comes next (R143), or IDLE (Table 6-3).  A replay ends with its last flit (R133). -/
def Port.nextFlit (p0 : Port) : Bytes × Port :=
  let p := if p0.lmOut.isEmpty && p0.wire == 0 then p0.nextMsg else p0
  match p.lmOut, p.unacked.drop (p.unacked.length - p.wire) with
  | m :: r, _ => (flitOf (p.hdr 2 p.nextSeq) m, { p with lmOut := r })
  | [], t :: r => (p.txnBytes t, { p with wire := r.length, replaying := if r.isEmpty then none else p.replaying })
  | [], [] => (flitOf (p.hdr 0 p.next) [], p)

/-! ### Sending (06 R127, 08 R196 to R201) -/

/-- The next `w` blocks of a port's stream of flits (R127); a new flit is taken up where the blocks of the last one run out. -/
def State.takeBlocks (s : State) (k w : Nat) : List Nat × State :=
  let p := s.port k
  let q := if p.outw.length < w then
      let f := p.nextFlit
      { f.2 with outw := p.outw ++ (List.range 16).map fun i => leAt f.1 (8 * i) 8 }
    else p
  (q.outw.take w, s.setPort k { q with outw := q.outw.drop w })

/-- What one lane sends in a block time: the test pattern in LOOP, else a word through the scrambler (R197, R198, R213). -/
def State.sendBlock (s : State) (k n l w : Nat) : State :=
  let x := s.line k false n
  s.setLine k false n (if s.lnk k = lnkLoop then x.sendPrbs l n else x.sendWord l n w)

/-- The active lanes of the transmit direction, in order; none below UP. -/
def State.txLanes (s : State) (k : Nat) : List Nat := if s.live k then bitsSet (s.fld F.LNK_STAT_TXSET k) (lanesOf k) else []

/-- One block time of the lanes: block j of `ws` goes to the j-th active lane (R127), every other mapped lane sends scrambled idle,
and so does the wavelength of an open FAIL remap; that of a DUP remap sends its lane's block (R140). -/
def State.sendBlocks (s : State) (k : Nat) (ws : List Nat) : State :=
  let act := s.txLanes k
  let word (l : Nat) : Nat := match act.idxOf? l with
    | some i => ws.getD i 0
    | none => 0
  let s1 := (List.range (lanesOf k)).foldl (fun a l => a.sendBlock k (s.mapOf k false l) l (word l)) s
  match (s.port k).rTx with
  | some h => s1.sendBlock k h.b h.lane (if h.fail then 0 else word h.lane)
  | none => s1

/-- One block time of the transmit direction.  Below UP every block is zero (08 R198): an INIT of ALIGN stays in `lmOut`, where the
next step on the port sees it (DESIGN CHOICE, log entry 81). -/
def State.txTime (s : State) (k : Nat) : State :=
  let w := (s.txLanes k).length
  if w = 0 then s.sendBlocks k []
  else
    let x := s.takeBlocks k w
    x.2.sendBlocks k x.1

/-- A block time of a probe burst (07 R180, 08 R198): scrambled idle on λ0 to λ15 in identity, but on failed wavelengths. -/
def State.probeTime (s : State) (k : Nat) : State :=
  (List.range 16).foldl (fun a n => if a.bit F.PYU_STAT_FAIL n (engOf k) then a else a.sendBlock k n n 0) s

/-- The flit in progress goes out to its end on the active set that it began on; the lanes that its last block time leaves free send
zeros (R137, and the next flit starts on the lowest lane: R127). -/
def State.flitEnd : Nat → State → Nat → State
  | 0, s, _ => s
  | f + 1, s, k =>
    let p := s.port k
    let w := (s.txLanes k).length
    if p.outw.isEmpty || w == 0 then s
    else State.flitEnd f ((s.setPort k { p with outw := p.outw.drop w }).sendBlocks k (p.outw.take w)) k

/-- The flit in progress goes out to its end, and the next follows on the same lanes (R140 step 5). -/
def State.flitOut : Nat → State → Nat → State
  | 0, s, _ => s
  | f + 1, s, k =>
    let n := (s.port k).outw.length
    let w := (s.txLanes k).length
    if n = 0 ∨ w = 0 then s else if n ≤ w then s.txTime k else State.flitOut f (s.txTime k) k

/-- A near-end loop: what the port sends comes back to its own receivers (08 R213, Table 8-6). -/
def State.nearLoop (s : State) (k : Nat) : Bool :=
  s.lnk k == lnkLoop && (s.fld F.LNK_CTL_LOOP_REQ k == 1 || s.fld F.LNK_CTL_LOOP_REQ k == 2)

/-- The line bits of the last block that leave the port on wavelength or pair `n`: none through a closed shutter, nor from a copper
transmitter squelched in a near-end loop (Table 8-6). -/
def State.towardFar (s : State) (k n : Nat) : List Bool :=
  if (if optical k then !s.flag F.PYU_PORT_STAT_SHUTTER k else s.nearLoop k) then [] else (s.line k false n).wire

end Sys2Proof.Machine
end

