-- ==== Sys2Proof/Machine/Lanes.lean ====
section
/-! DEFINITION. Link management and lanes (06 R134 to R142, R154 to R157; 08): what each LM message, timer and lane
detector does to its port. -/
namespace Sys2Proof.Machine

/-- Start a step on port `k`: the LM messages of the last step have gone. -/
def State.lmClear (s : State) (k : Nat) : State := s.setPort k { s.port k with lmOut := [] }

/-- The logical lane that wavelength or pair `n` carries in the receive direction. -/
def State.laneOf (s : State) (k n : Nat) : Option Nat :=
  ((List.range (lanesOf k)).filter fun l => s.mapOf k true l == n).head?

/-! ### Loops (R142, 08 R213, R215) -/

/-- Entry to LOOP: every handshake ends without a message, `LOOP_ERR` clears, a near-end loop darkens the port, generators take
their seeds and checkers start anew. -/
def State.enterLoop (s : State) (k : Nat) : State :=
  let s1 := (s.setPort k { (s.port k).noHandshakes with firstUp := false }).put F.LNK_STAT_STATE lnkLoop k
  let s2 := (List.range 20).foldl (fun a n => a.put F.LNK_LANE_ERR_LOOP_ERR 0 k n) s1
  let s3 := ((s2.put F.LNK_STAT_WIDTH 0 k).put F.LNK_LOOP_STAT_SYNC 0 k).rotShow k
  let s4 := if optical k && s.fld F.LNK_CTL_LOOP_REQ k != 3 then s3.putFlag F.PYU_PORT_STAT_SHUTTER false k else s3
  let s5 := (List.range 20).foldl (fun a n =>
    let l := (List.range 16).find? fun l => s4.mapOf k false l == n
    (a.setLine k false n { a.line k false n with prbs := prbsSeed (l.getD 0) }).setLine k true n
      { a.line k true n with prbs := 0, clean := 0, sync := false, errs := 0, loopErr := 0 }) s4
  (s5.ringsSettle k).withSvc fun a => if optical k then a.putBitOf F.AON_SVC_STAT_OPT_NARROW k false else a

/-- Ask the far end for its loop (R142). -/
def State.loopAsk (s : State) (k : Nat) : State :=
  let (x, s1) := s.newTxid k
  ((s1.setPort k { s1.port k with loop := some { txid := x } }).putFlag F.LNK_LOOP_STAT_LOOP_FAIL false k).lm k
    (lmBytes 0x08 x 1 0 0 0 0 0)

/-- What `LOOP_REQ` asks for (Table 6-5, R142).  A far-end loop ends with the module's entry to ACQUIRE alone: when LOOP_REQ leave
(Table 6-6, byte 2 = 0) is sent is not stated, and the module never sends it (DESIGN CHOICE, log entry 78). -/
def State.loopReqChanged (s : State) (k : Nat) : State :=
  let v := s.fld F.LNK_CTL_LOOP_REQ k
  if v = 0 then
    if s.lnk k = lnkLoop then s.enterAcquire k else s.setPort k { s.port k with loop := none }
  else if s.live k then (if v = 3 then s.loopAsk k else s.enterLoop k)
  else s

/-- The far end acknowledges the loop: the module enters LOOP (R142). -/
def State.gotLoopAck (s : State) (k txid : Nat) : State :=
  match (s.port k).loop with
  | some h => if h.txid == txid && s.live k then s.enterLoop k else s
  | none => s

/-- A port that comes up under a standing `LOOP_REQ` goes on into its loop (Table 6-5). -/
def State.loopStanding (s : State) (k : Nat) : State :=
  if s.fld F.LNK_CTL_LOOP_REQ k = 0 then s else s.loopReqChanged k

/-! ### INIT (R135) -/

/-- Enter UP once an INIT with ACKD was received and one was sent (R135), and no λ16 ring of the port is under calibration (07
R177). -/
def State.tryUp (s : State) (k : Nat) : State :=
  let p := s.port k
  if s.lnk k = lnkAlign && p.initAckd && p.initSentAckd && !s.cal16 k false && !s.cal16 k true then (s.enterUp k).loopStanding k else s

/-- LM INIT (R135). -/
def State.gotInit (s : State) (k : Nat) (m : InitMsg) : State :=
  if s.lnk k = lnkAlign then
    if m.version.toNat = 1 ∧ m.role.toNat ≠ 0 ∧ m.s.toNat ≥ 3 ∧ m.m.toNat ≥ 4 ∧ m.q.toNat = 0 then
      let s1 := (s.put F.LNK_CREDIT_S_PEER m.s.toNat k).put F.LNK_CREDIT_M_PEER m.m.toNat k
      let p := s1.port k
      (s1.setPort k { p with
        initGot := true
        initAckd := p.initAckd || m.ackd
        peer := (m.resume, m.next.toNat % 4096, m.ack.toNat % 4096) }).tryUp k
    else s.protoErr k
  else s

/-- T_INIT passes in ALIGN after deskew: another INIT, with ACKD once a valid INIT was received (R135). -/
def State.sendInit (s0 : State) (k : Nat) : State :=
  let s := s0.tryDeskew k
  let p := s.port k
  if s.lnk k = lnkAlign && p.deskewed then
    let s1 := s.lm k (s.initBytes k p.initGot)
    let q := s1.port k
    (s1.setPort k { q with initSentAckd := q.initSentAckd || q.initGot }).tryUp k
  else s

/-! ### Width handshake (R137) -/

/-- Transmit wavelength `n` of an optical port has failed: its laser, or its ring at the end of its range (07 R173, R176). -/
def State.txDead (s : State) (k n : Nat) : Bool := optical k && (s.bit F.PYU_STAT_FAIL n (engOf k) || (s.ring k false n).lost)

/-- The lanes the module can drive: those whose transmit wavelength works (07 R172, R173, R176). -/
def State.driveable (s : State) (k : Nat) : Nat := maskOf (lanesOf k) fun l => !s.txDead k (s.mapOf k false l)

/-- LM WIDTH_REQ: the transmitter answers with the mask it will use and a marker two ahead of the last sent, `sent` (R137); an
earlier answer whose marker has not passed stands. -/
def State.gotWidthReq (s : State) (k txid mask sent : Nat) : State :=
  if s.live k then
    let use := maskOf (lanesOf k) fun l => hasBit mask l && hasBit (s.driveable k) l
    let m := (sent + 2) % 256
    let s := s.markPassed k false sent
    let p := s.port k
    let due := match p.wTx with
      | some h => if h.txid = txid then p.dueTx else p.dueTx ++ [h]
      | none => p.dueTx
    (s.setPort k { p with wTx := some { txid := txid, mask := use, m := some m }, dueTx := due }).lm k
      (lmBytes 0x03 txid 0 0 (use % 256) (use / 256) m 0)
  else s

/-- LM WIDTH_ACK of an open handshake (R141: others are ignored). -/
def State.gotWidthAck (s : State) (k txid mask m : Nat) : State :=
  let p := s.port k
  match p.wRx with
  | some h => if s.live k && h.txid == txid then s.setPort k { p with wRx := some { h with mask := mask, m := some m } } else s
  | none => s

/-- After a transmit narrowing, a removed lane whose wavelength has failed asks for a FAIL remap (07 R173, R176); `skip` is a
lane whose own FAIL remap has just ended without effect and which stays as it was (R140). -/
def State.failRemap (s : State) (k : Nat) (skip : Option Nat := none) : State :=
  if optical k && s.live k && (s.port k).rTx.isNone then
    let gone := (List.range 16).filter fun l => !s.bit F.LNK_STAT_TXSET l k && s.txDead k (s.mapOf k false l) && skip != some l
    match gone, s.spares k false with
    | l :: _, b :: _ => s.remapOpen k false true l b false
    | _, _ => s
  else s

/-- The lane to leave alone once remap `h` has ended by an abort. -/
def RemapHs.leave (h : RemapHs) : Option Nat := if h.fail then some h.lane else none

/-- Equalisers under `DFE_FREEZE` hold from the first data block after a switch (08 R208). -/
def State.adaptEnd (s : State) (k : Nat) : State :=
  (List.range 20).foldl (fun a n => a.setLine k true n { a.line k true n with adapt := false }) s

/-- Marker M of a width handshake passes (R137), the earliest that waits for its marker: the flit in progress ends on the old set,
and the new set applies from the next.  A remap switch at the same marker is aborted (R155). -/
def State.widthSwitched (s : State) (k : Nat) (rx : Bool) : State :=
  let p := s.port k
  let due := if rx then p.dueRx else p.dueTx
  match due.head?.or (if rx then p.wRx else p.wTx) with
  | some h =>
    if h.m.isSome && s.live k then
      let rm := if rx then p.rRx else p.rTx
      let clash := match rm with
        | some r => r.m.isSome && r.m == h.m
        | none => false
      let s0 := s.setsKeep k
      let q := s0.port k
      let s1 := s0.setPort k (match due with
        | _ :: t => if rx then { q with dueRx := t } else { q with dueTx := t }
        | [] => if rx then { q with wRx := none } else { q with wTx := none })
      let s2 := s1.markPassed k rx (h.m.getD 0)
      let s3 := ((if rx then s2 else s2.flitEnd 16 k).applyWidth k rx h.mask).ringsSettle k
      let s4 := if clash then s3.remapAbortOwn k rx 4 else s3
      if rx then (s4.adaptEnd k).widthFollow k else s4.failRemap k
    else s
  | none => s

/-! ### Remap handshake (R140) -/

/-- Send REMAP_RDY where the receive wavelength is locked, aligned with the COUNT of every lane and not under calibration
(08 R209, 07 R188). -/
def State.tryRdy (s : State) (k : Nat) : State :=
  let p := s.port k
  match p.rRx with
  | some h =>
    if !h.rdy && s.locked k h.b && s.bit F.LNK_LANE_STAT_MALIGN h.b k && s.deskews k h.b && s.live k then
      (s.setPort k { p with rRx := some { h with rdy := true } }).lm k (lmBytes 0x05 h.txid 0 0 h.lane h.b 0 0)
    else s
  | none => s

/-- LM REMAP_REQ from the host adapter (R140, R155, R156; 07 R175, R188): the module's own open handshake proceeds.  R188 and R175 give
the answer for a failed wavelength; one that is mapped, λ16 or above 19, or a lane above 15, has the same (DESIGN CHOICE, log
entry 81). -/
def State.gotRemapReq (s : State) (k txid : Nat) (theyReceive fail : Bool) (l b : Nat) : State :=
  if s.live k && optical k then
    let p := s.port k
    if theyReceive then
      if p.rTx.isSome then s
      else if (s.spares k false).contains b && l < 16 then
        (s.setPort k { p with rTx := some { txid := txid, own := false, fail := fail, lane := l, b := b } }).remapStart k false b
      else s.lm k (lmBytes 0x07 txid 0 0 l 0 0 1)
    else if p.rRx.isSome then s
    else if (s.spares k true).contains b && l < 16 then
      (s.setPort k { p with rRx := some { txid := txid, own := false, fail := fail, lane := l, b := b } }).remapStart k true b
    else s.lm k (lmBytes 0x07 txid 0 0 l 0 0 2)
  else s

/-- LM REMAP_RDY: the transmitter fixes the marker (R140 step 4).  A ring under calibration sends nothing that the far end could have
locked to; from here on the ring waits for none (07 R177). -/
def State.gotRemapRdy (s : State) (k txid l b sent : Nat) : State :=
  let p := s.port k
  match p.rTx with
  | some h =>
    if h.txid == txid && h.lane == l && h.b == b && s.live k && (s.ring k false b).st != 4 then
      let m := (sent + 2) % 256
      let s1 := s.setRing k false b { s.ring k false b with due := false }
      ((s1.markPassed k false sent).setPort k { p with rTx := some { h with rdy := true, m := some m } }).lm k (lmBytes 0x06 txid 0 0 l b m 0)
    else s
  | none => s

/-- LM REMAP_SW: the receiver learns the marker. -/
def State.gotRemapSw (s : State) (k txid l b m : Nat) : State :=
  let p := s.port k
  match p.rRx with
  | some h =>
    if h.txid == txid && h.lane == l && h.b == b && h.rdy && s.live k then
      s.setPort k { p with rRx := some { h with m := some m } }
    else s
  | none => s

/-- Marker M of a remap passes: from the next flit the lane is carried on the new wavelength (R140 step 5; 07 R178).  A width change at the same
marker takes effect first and aborts the remap (R155). -/
def State.remapSwitched (s : State) (k : Nat) (rx : Bool) : State :=
  let p := s.port k
  match (if rx then p.rRx else p.rTx) with
  | some h =>
    if h.m.isSome && s.live k then
      if ((if rx then p.dueRx else p.dueTx).head?.or (if rx then p.wRx else p.wTx)).any (fun w => w.m == h.m) then s.widthSwitched k rx
      else
        let old := s.mapOf k rx h.lane
        let s0 := (s.setsKeep k).markPassed k rx (h.m.getD 0)
        let s00 := if rx then s0 else s0.flitOut 16 k
        let p0 := s00.port k
        let s1 := (s00.setPort k (if rx then { p0 with rRx := none } else { p0 with rTx := none })).setMap k rx h.lane h.b |>.calStop k rx h.b
        let q := s1.port k
        let s2 := if h.fail then
            (s1.setPort k (if rx then { q with failRx := putBit q.failRx old true } else { q with failTx := putBit q.failTx old true })).ringsSettle k
          else s1.switchRings k rx old
        let s3 := (s2.rotShow k).calShow k
        let s4 := if h.rot then s3.count F.PYU_PORT_STAT_ROTATIONS 1 k else s3
        if rx then (s4.adaptEnd k).widenIfReady k else s4.failRemap k
    else s
  | none => s

/-- LM REMAP_ABORT of an open remap: the lane stays as it was (R140); a lane that waited for the direction may be remapped now
(07 R173). -/
def State.gotRemapAbort (s : State) (k txid l : Nat) : State :=
  let p := s.port k
  let hit (o : Option RemapHs) : Bool := match o with
    | some h => h.txid == txid && h.lane == l
    | none => false
  if hit p.rTx then
    (((s.setPort k { p with rTx := none }).rotShow k).ringsSettle k).failRemap k (p.rTx.bind (·.leave))
  else if hit p.rRx then ((s.setPort k { p with rRx := none }).rotShow k).ringsSettle k
  else s

/-! ### What writes of the lane and link control registers do -/

/-- `LNK_CTL` written: EN, RETRAIN and LOOP_REQ act (Table 6-14, R134, R138, R142); each write that leaves `LOOP_REQ` nonzero
asks anew. -/
def State.lnkCtlActs (s0 s : State) (k : Nat) (retrain : Bool) : State :=
  let s1 := if s.flag F.LNK_CTL_EN k then s.comeUp k else s.enterDown k
  let s2 := if retrain then s1.retrainOwn k else s1
  let v := s.fld F.LNK_CTL_LOOP_REQ k
  if v = s0.fld F.LNK_CTL_LOOP_REQ k ∧ v = 0 then s2 else s2.loopReqChanged k

/-- `LNK_TXEQ` written: saturated to Table 8-3 and held until the next entry to ACQUIRE; the FIR in force stands (08 R207, R217). -/
def State.txeqActs (s : State) (k : Nat) : State :=
  let s1 := s.put F.LNK_TXEQ_PRE (min (s.fld F.LNK_TXEQ_PRE k) (if optical k then 8 else 12)) k
  let s2 := s1.put F.LNK_TXEQ_POST (min (s.fld F.LNK_TXEQ_POST k) (if optical k then 16 else 24)) k
  s2.setPort k { s2.port k with txeqPend := true }

/-- `LNK_SSC` written (08 R206): in force at once in DOWN, else pending; an optical port has no such register. -/
def State.sscActs (s : State) (k : Nat) : State :=
  let s1 := (s.put F.LNK_SSC_FREQ (clampN 30 33 (s.fld F.LNK_SSC_FREQ k)) k).put F.LNK_SSC_DEPTH (min 50 (s.fld F.LNK_SSC_DEPTH k)) k
  if s1.lnk k = lnkDown then
    s1.setPort k { s1.port k with ssc := (s1.fld F.LNK_SSC_FREQ k, s1.fld F.LNK_SSC_DEPTH k, s1.fld F.LNK_SSC_SSC_EN k) }
  else s1.putFlag F.LNK_SSC_PENDING true k

/-- `DFE_RESET` = 1: the taps of every locked lane clear (08 R218); they reconverge with the time that passes (State.dfeTime). -/
def State.dfeResetActs (s : State) (k : Nat) : State :=
  (List.range 20).foldl (fun a n => if a.locked k n then a.dfeZero k n else a) s

/-- The taps of a lane hold (08 R208): `DFE_FREEZE` = 1, and the lane did not enter lock since. -/
def State.dfeHeld (s : State) (k n : Nat) : Bool := s.flag F.LNK_RXCTL_DFE_FREEZE k && !(s.line k true n).adapt

/-- `LNK_RXCTL` written (08 R208, R218): a freeze holds the taps of every lane that is in lock. -/
def State.rxctlActs (s0 s : State) (k : Nat) (reset : Bool) : State :=
  let s1 := if s.flag F.LNK_RXCTL_DFE_FREEZE k && !s0.flag F.LNK_RXCTL_DFE_FREEZE k then s.adaptEnd k else s
  if reset then s1.dfeResetActs k else s1

/-- The taps that a lane converges to once it has locked (08 R208): values the specification leaves open; taps h3 to h5 exist on
copper alone.  Under `DFE_FREEZE` it adapts until the next switch. -/
def State.dfeAdapt (s : State) (k n : Nat) : State :=
  let tap (a : State) (f : RField) (lim : Nat) : State :=
    let (v, b) := a.free
    b.put f (ofSigned 8 ((v % (2 * lim) : Nat) - (lim : Int))) k n
  let s1 := tap (tap s F.LNK_DFE_H1 128) F.LNK_DFE_H2 64
  let s2 := if optical k then s1 else tap (tap (tap s1 F.LNK_DFE_H3 64) F.LNK_DFE_H4 64) F.LNK_DFE_H5 64
  s2.setLine k true n { s2.line k true n with adapt := true }

/-- Tap `j` of a lane, and the size of its range (08 R208). -/
def tapField (j : Nat) : RField := [F.LNK_DFE_H1, F.LNK_DFE_H2, F.LNK_DFE_H3, F.LNK_DFE_H4, F.LNK_DFE_H5].getD j F.LNK_DFE_H1
def tapLim (j : Nat) : Int := if j = 0 then 128 else 64

/-- DFE_TAP_SATURATED: tap `j` of a locked lane has sat at one end of its range for 1 ms (08 R208); which end is free.  A tap that
is held stays where it is, and sits at an end only if it was there.  A `SAT` bit stays set until the taps reset, also once the tap
has left its limit (DESIGN CHOICE, log entry 81). -/
def State.dfeSaturated (s : State) (k n j : Nat) : State :=
  if s.locked k n then
    let f := tapField j
    let v := toSigned 8 (s.fld f k n)
    if s.dfeHeld k n then
      (if v = tapLim j - 1 ∨ v = -tapLim j then s.putBitOf F.LNK_DFE_SAT j true k n else s)
    else
      let (x, b) := s.free
      (b.put f (ofSigned 8 (if x % 2 = 0 then tapLim j - 1 else -tapLim j)) k n).putBitOf F.LNK_DFE_SAT j true k n
  else s

/-! ### Lane detectors (08 R210) -/

/-- The fault event of a lane detector: counted only on the active set of a port in UP or DEGRADED (07 R194). -/
def State.laneEv (s : State) (k n : Nat) (los : Bool) : State :=
  match s.laneOf k n with
  | some l =>
    if s.live k && s.bit F.LNK_STAT_RXSET l k then
      if optical k then s.pyuEv (engOf k) (if los then 0x01 else 0x02) lNote (laneAddr k true n)
      else s.event ⟨bLNK, k, if los then 0x04 else 0x05, lNote, laneAddr k true n, 0, 0, 255⟩
    else s
  | none => s

/-- A failed lane ends a remap that names it (R155) and is removed from the active set (R137). -/
def State.laneGone (s : State) (k n : Nat) : State :=
  let p := s.port k
  let s1 := match p.rRx with
    | some h => if h.b == n || s.mapOf k true h.lane == n then s.remapAbortOwn k true 2 else s
    | none => s
  match s1.laneOf k n with
  | some l => s1.laneFailed k l
  | none => s1

/-- LOS asserts on a lane; the λ16 detector reports none while it is blanked (R211). -/
def State.laneLos (s : State) (k n : Nat) : State :=
  let s1 := (s.putBitOf F.LNK_LANE_STAT_LOS n true k).count F.LNK_LANE_ERR_LOS_EVT 1 k n
  if optical k ∧ n = 16 then (if (s.port k).blank then s else s1.putFlag F.PYU_PORT_STAT_LOS true k)
  else (s1.laneEv k n true).laneGone k n

/-- LOS clears on a lane; λ16 at a ring in STANDBY takes a port in DOWN to ACQUIRE (Table 6-5, R211). -/
def State.laneLosClear (s : State) (k n : Nat) : State :=
  let s1 := s.putBitOf F.LNK_LANE_STAT_LOS n false k
  if optical k ∧ n = 16 then (s1.putFlag F.PYU_PORT_STAT_LOS false k).tryLight k
  else (s1.tryAlign k).widenIfReady k

/-- A lane locks; lane 16 of an optical port is its forwarded clock. -/
def State.laneLock (s : State) (k n : Nat) : State :=
  let s1 := s.putBitOf F.LNK_LANE_STAT_LOL n false k
  let s2 := if optical k ∧ n = 16 then s1.putFlag F.LNK_LANE_STAT_CLK_LOL false k else s1.dfeAdapt k n
  ((s2.tryAlign k).tryRdy k).widenIfReady k

/-- A lane loses lock. -/
def State.laneUnlock (s : State) (k n : Nat) : State :=
  let s1 := (s.putBitOf F.LNK_LANE_STAT_LOL n true k).count F.LNK_LANE_ERR_LOL_EVT 1 k n
  if optical k ∧ n = 16 then s1 else (s1.laneEv k n false).laneGone k n

/-- The forwarded clock of an optical port loses lock: the port goes to DOWN (Table 6-5, R219). -/
def State.clockUnlock (s : State) (k : Nat) : State :=
  if optical k && !s.flag F.LNK_LANE_STAT_CLK_LOL k then
    let s1 := s.putFlag F.LNK_LANE_STAT_CLK_LOL true k
    let s2 := if s.live k then s1.pyuEv (engOf k) 0x03 lDegrade (laneAddr k true 16) else s1
    if s2.lnk k = lnkDown then s2 else s2.enterDown k
  else s

/-- A lane finds its markers (R202), with the COUNT that the aligned lanes of its direction have (log entry 76); in a near-end loop
they are the port's own (R213), and else the COUNT that the first lane finds is free.  Stuffed bits count anew (R201). -/
def State.markerFound (s : State) (k n : Nat) : State :=
  let ref := ((List.range (lanesOf k)).map (s.mapOf k true)).find? fun m => m != n && s.bit F.LNK_LANE_STAT_MALIGN m k
  let x := s.free
  let a := if s.nearLoop k || ref.isSome then s else x.2
  let l := s.line k true n
  let y :=
    if s.nearLoop k then l.moved (s.line k false n).place
    else match ref with
      | some m => l.moved (s.line k true m).place
      | none => { l with blocks := 0, count := x.1 % 256 }
  let s1 := a.setLine k true n { y with bad := 0, errored := false, stuffed := 0, deficit := 0 }
  (((s1.putBitOf F.LNK_LANE_STAT_MALIGN n true k).tryDeskew k).tryRdy k).widenIfReady k

/-- A lane is no longer marker-aligned, and fails (R202, R204). -/
def State.alignLost (s : State) (k n : Nat) : State :=
  ((s.setLine k true n { s.line k true n with bad := 0 }).putBitOf F.LNK_LANE_STAT_MALIGN n false k).laneGone k n

/-- Three bad markers in a row cost a lane its alignment (R202); each is counted, once. -/
def State.markerLost (s : State) (k n : Nat) : State :=
  (s.count F.LNK_LANE_ERR_MARKER_ERR (3 - (s.line k true n).bad) k n).alignLost k n

/-! ### Replay and flits (06 R129 to R133, R144) -/

/-- A sequence error: NAK goes out at the first (R132). -/
def State.seqError (s : State) (k : Nat) : State :=
  let p := s.port k
  if p.nak then s else s.setPort k { p with nak := true, naks := 1 }

/-- ACK, NAK and credit fields of an accepted header (R131, R133, R144). -/
def State.takeHeader (s : State) (k ack ccs ccm : Nat) (nak : Bool) : State :=
  let p := s.port k
  let outstanding := (p.next + 8191 - ack) % 4096
  let p1 := if outstanding < p.unacked.length then
      { p with unacked := p.unacked.drop (p.unacked.length - outstanding), wire := min p.wire outstanding, stuck := 0, replaying := none }
    else p
  let p2 := { p1 with
    sCred := p1.sCred + (ccs + 256 - p1.sSeen) % 256
    mCred := p1.mCred + (ccm + 256 - p1.mSeen) % 256
    sSeen := ccs
    mSeen := ccm }
  let s1 := s.setPort k p2
  if nak then
    (if (s1.port k).replaying = some (s1.port k).peerAck then s1 else s1.startReplay k)
  else s1

end Sys2Proof.Machine
end

