-- ==== Sys2Proof/Machine/Field.lean ====
section
/-! DEFINITION. Field outputs: load switches, current loops and touch keys (19 R501 to R524). -/
namespace Sys2Proof.Machine

/-! ### Load switches -/

/-- Switch `n` is on. -/
def State.lswOn (s : State) (n : Nat) : Bool := s.bit F.LSW_STAT_ON n

/-- A touched HOLD_OFF key holds switch `n` off (R516, R524). -/
def State.heldOff (s : State) (n : Nat) : Bool :=
  (List.range 4).any fun k => s.bit F.AON_FRONT_STAT_TK_ACTIVE k && s.fld F.TCH_CFG_FN k == 2 && s.fld F.TCH_CFG_TGT k == n

/-- Switch off the switches of `mask` without latching; decided states stay. -/
def State.lswDrop (s : State) (mask : Nat) : State :=
  let s1 := s.put F.LSW_STAT_ON (maskOf 16 fun n => s.lswOn n && !hasBit mask n)
  { s1 with field := { s1.field with blank := maskOf 16 fun n => hasBit s1.field.blank n && !hasBit mask n } }

/-- Switch off without latching, with the decided states off (R515, R518, R520). -/
def State.lswOff (s : State) (mask : Nat) : State :=
  let t := s.lswDrop mask
  { t with field := { t.field with decided := maskOf 16 fun n => hasBit t.field.decided n && !hasBit mask n } }

/-- The shadow of a reaction that switches load switches off (21 Table 21-5). -/
def State.lswShadow (s : State) (fid : Nat) : State := s.declareShadow 5 0 fid [⟨bLSW, 0, 0x03⟩]

/-- An event of the load-switch block, with its reaction where the event takes `LEVEL` to HALT (R518; 21 R562, Table 21-4): every
load switch off without latching, and decided off. -/
def State.lswEv (s : State) (typ lvl : Nat) : State :=
  let s1 := s.event (supEvent bLSW typ lvl)
  let b := s1.blk bLSW 0
  if b.active && b.level == lHalt && !((s.blk bLSW 0).active && (s.blk bLSW 0).level == lHalt) then
    (s1.lswOff 0xFFFF).lswShadow (s1.lastFid bLSW 0)
  else s1

/-- An on-order for switch `n` is decided: it is no longer latched, and decided on (R503, R506). -/
def State.lswDecide (s : State) (n : Nat) : State :=
  let s1 := s.putBitOf F.LSW_STAT_LATCHED n false
  { s1 with field := { s1.field with
      decided := putBit s1.field.decided n true
      thermal := putBit s1.field.thermal n false } }

/-- Switch `n` goes on, with fresh blanking (R501, R503). -/
def State.lswStart (s : State) (n : Nat) : State :=
  let s1 := s.putBitOf F.LSW_STAT_ON n true
  { s1 with field := { s1.field with blank := putBit s1.field.blank n (s.fld F.LSW_CFG_BLANK n != 0) } }

/-- `ILIM` and `BLANK` of switch `n`, saturated to their ranges (R502). -/
def State.lswCfg (s : State) (n ilim blank : Nat) : State :=
  (s.put F.LSW_CFG_ILIM (clampN 2 (if n < 8 then 40 else 120) ilim) n).put F.LSW_CFG_BLANK (min 100 blank) n

/-- Status and reason of an on-order for switch `n` that is turned away (04 R96; R503, R516, R518, R520): a switch latched by heat is
busy while its junction is above 130 °C, which nothing reports, so that answer is free (log entry 31). -/
def State.lswRefusal (s : State) (n : Nat) : Option (Nat × Nat) × State :=
  if s.lswHeld n then (some (3, 1), s)
  else if !s.flag F.AON_PIN_PHASE_FIELD_EN || !s.flag F.AON_CONN_STAT_FLD_PRES || s.heldOff n then (some (2, 0), s)
  else if hasBit s.field.thermal n then
    let f := s.free
    (if f.1 % 2 = 1 then some (2, 0) else none, f.2)
  else (none, s)

/-- Carry out an LSW_CMD that won (R502, R503, R506): while VFLD is low the switch comes on when the supply returns. -/
def State.lswOrder (s : State) (n : Nat) (on : Bool) (cfg : Option (Nat × Nat)) : State :=
  let s1 := match cfg with
    | some c => s.lswCfg n c.1 c.2
    | none => s
  if on then
    let s2 := s1.lswDecide n
    if s2.lswOn n || s2.flag F.LSW_SUP_STAT_VFLD_UV then s2 else s2.lswStart n
  else s1.lswOff (2 ^ n)

/-- The latch count of switch `n`. -/
def State.lswCount (s : State) (n : Nat) : State :=
  if n % 2 = 1 then s.count F.LSW_LCNT_CNT_HI 1 (n / 2) else s.count F.LSW_LCNT_CNT_LO 1 (n / 2)

/-- A switch latches off: LSW_OVERCURRENT_LATCH outside blanking, LSW_THERMAL_LATCH always (R501, R503). -/
def State.lswLatch (s : State) (n : Nat) (thermal : Bool) : State :=
  if s.lswOn n && (thermal || !hasBit s.field.blank n) then
    let s1 := ((s.lswOff (2 ^ n)).putBitOf F.LSW_STAT_LATCHED n true).lswCount n
    let s2 : State := { s1 with field := { s1.field with thermal := putBit s1.field.thermal n thermal } }
    if thermal then (s2.putBitOf F.LSW_EVT_TH_EVT n true).lswEv 0x02 lDegrade
    else (s2.putBitOf F.LSW_EVT_OC_EVT n true).lswEv 0x01 lDegrade
  else s

/-- BLANKING_END (R501). -/
def State.blankEnd (s : State) (n : Nat) : State := { s with field := { s.field with blank := putBit s.field.blank n false } }

/-- Open-load detection of switch `n` runs (R505, R523). -/
def State.olRuns (s : State) (n : Nat) : Bool :=
  s.bit F.LSW_OL_OL_EN n && !s.lswOn n && !s.bit F.LSW_STAT_LATCHED n && !s.flag F.LSW_SUP_STAT_VFLD_UV && !s.heldOff n

/-- OPEN_LOAD_SET and OPEN_LOAD_CLEAR (R505). -/
def State.openLoad (s : State) (n : Nat) (is : Bool) : State :=
  if s.olRuns n then
    let s1 := s.putBitOf F.LSW_OL_OPEN n is
    if is && !s.bit F.LSW_OL_OPEN n then s1.lswEv 0x03 lNote else s1
  else s

/-- VFLD_UNDERVOLTAGE (R506); `vfld` in 10 mV. -/
def State.vfldLow (s : State) (vfld : Nat) : State :=
  if s.flag F.LSW_SUP_STAT_VFLD_UV then s
  else
    let t := (s.lswDrop 0xFFFF).putFlag F.LSW_SUP_STAT_VFLD_UV true
    let s1 : State := { t with field := { t.field with restore := [] } }
    (s1.offer bLSW 0 0x0E ([1, 0, 0, 0] ++ leBytes 4 vfld)).lswEv 0x04 lDegrade

/-- The next switch that comes back after an undervoltage, where it may (R506). -/
def State.restoreNext (s : State) : State :=
  match s.field.restore with
  | n :: t =>
    let s1 : State := { s with field := { s.field with restore := t } }
    if hasBit s1.field.decided n && !s1.lswOn n && !s1.bit F.RND_ACT_LSW n && !s1.heldOff n then s1.lswStart n else s1
  | [] => s

/-- VFLD_RESTORE (R506): the switches decided on return in ascending number, the first now and one at each tick. -/
def State.vfldHigh (s : State) : State :=
  if s.flag F.LSW_SUP_STAT_VFLD_UV then
    let s1 := s.putFlag F.LSW_SUP_STAT_VFLD_UV false
    State.restoreNext { s1 with field := { s1.field with restore := bitsSet s1.field.decided 16 } }
  else s

/-! ### Current loops -/

/-- An event of the loop block. -/
def State.loopEv (s : State) (typ lvl : Nat) : State := s.event (supEvent bLOOP typ lvl)

/-- The compliance timer of output `n` restarts (R508); how long its error has been small stands (R509). -/
def State.loopRestart (s : State) (n : Nat) : State :=
  { s with field := { s.field with
      bad := s.field.bad.set 0 ⟨n, 0, 0⟩ 0
      fired := putBit s.field.fired n false } }

/-- Carry out a LOOP_SET that won (R507, R509, R522). -/
def State.loopSet (s : State) (n ua : Nat) : State :=
  let s1 := s.put F.LOOP_CMD_CMD (min 24000 ua) n
  let s2 := if s1.bit F.LOOP_STAT_FALLBACK n then
      (s1.putBitOf F.LOOP_STAT_FALLBACK n false).putBitOf F.LOOP_STAT_COMPLY n false
    else s1
  s2.loopRestart n

/-- Every loop output at 0 mA and out of fallback (R46, R519, R520). -/
def State.loopsZero (s : State) : State :=
  (List.range 4).foldl (fun a n => (((a.put F.LOOP_CMD_CMD 0 n).putBitOf F.LOOP_STAT_FALLBACK n false).putBitOf
    F.LOOP_STAT_COMPLY n false).loopRestart n) s

/-- Lease loss under `LOOP_POL` (R521): each output at its `FB_I`, as a commanded value, but for outputs that are not released
(02 R46) or not mated (R520), which stay at 0 mA. -/
def State.loopsFallback (s : State) : State :=
  if s.flag F.AON_PIN_PHASE_FIELD_EN && s.flag F.AON_CONN_STAT_FLD_PRES then
    (List.range 4).foldl (fun a n => ((a.put F.LOOP_CMD_CMD (a.fld F.LOOP_CFG_FB_I n) n).putBitOf F.LOOP_STAT_FALLBACK n false).loopRestart n) s
  else s

/-- One measurement of output `n` in µA (R508, R509). -/
def State.loopMeas (s : State) (n d : Nat) : State :=
  let s1 := s.put F.LOOP_DEL_DELIV d n
  if s1.bit F.LOOP_STAT_FALLBACK n then s1
  else
    let k : Key := ⟨n, 0, 0⟩
    let c := s1.fld F.LOOP_CMD_CMD n
    let err := if c < d then d - c else c - d
    if 200 < err then
      { s1 with field := { s1.field with bad := s1.field.bad.set 0 k (min 21 (s1.field.bad.get 0 k + 1)), good := s1.field.good.set 0 k 0 } }
    else
      let g := min 21 (s1.field.good.get 0 k + 1)
      let s2 : State := { s1 with field := { s1.field with
          bad := s1.field.bad.set 0 k 0
          good := s1.field.good.set 0 k g
          fired := putBit s1.field.fired n false } }
      if g = 21 then s2.putBitOf F.LOOP_STAT_COMPLY n false else s2

/-- One measurement of input `n` in µA: the mean of the last ten and its flags (R511). -/
def State.loopIn (s : State) (n i : Nat) : State :=
  let k : Key := ⟨n, 0, 0⟩
  let l := ((i, s.flag F.LSW_SUP_STAT_VFLD_UV) :: s.field.ins.get [] k).take 10
  let s1 : State := { s with field := { s.field with ins := s.field.ins.set [] k l } }
  if l.length < 10 then s1
  else
    let ovr := l.any fun x => 25000 < x.1
    let m := if ovr then 25000 else (l.map (·.1)).foldl (· + ·) 0 / 10
    let st := if l.any (·.2) then stSTALE else if ovr then stOVER else stVALID
    ((((s1.put F.LOOP_IN_I m n).put F.LOOP_IN_STATUS st n).putFlag F.LOOP_IN_LOW (m < 3600) n).putFlag F.LOOP_IN_HIGH (21000 < m) n).putFlag
      F.LOOP_IN_OPEN (m < 500) n

/-- LOOP_MEASUREMENT (R508, R511): the four outputs and the four inputs, in µA. -/
def State.loopMeasure (s : State) (outs ins : List Nat) : State :=
  let s1 := (List.range 4).foldl (fun a n => a.loopMeas n (outs.getD n 0)) s
  (List.range 4).foldl (fun a n => a.loopIn n (ins.getD n 0)) s1

/-- LOOP_COMPLIANCE of output `n` (R508, R509): 20 ms have passed since the first of its measurements in a row above
200 µA. -/
def State.loopExpiry (s : State) (n : Nat) : State :=
  if s.field.bad.get 0 ⟨n, 0, 0⟩ = 21 ∧ hasBit s.field.fired n = false ∧ s.bit F.LOOP_STAT_FALLBACK n = false then
    let ci := s.fld F.LOOP_DEL_DELIV n
    let s1 : State := { s with field := { s.field with fired := putBit s.field.fired n true } }
    let s2 := ((s1.putBitOf F.LOOP_EVT_LOOP_COMPLIANCE n true).putBitOf F.LOOP_STAT_COMPLY n true).put F.LOOP_DEL_COMP_I ci n
    let s3 := (s2.offer bLOOP 0 0x0E ([2, BitVec.ofNat 8 n, 0, 0] ++ leBytes 4 ci)).notify 8 bLOOP 0 n 0 s2.nextRseq
      ([BitVec.ofNat 8 n] ++ leBytes 2 ci)
    let s4 := s3.loopEv 0x01 lDegrade
    if s4.flag F.LOOP_CFG_FB_EN n then s4.putBitOf F.LOOP_STAT_FALLBACK n true else s4
  else s

/-- A loop supply is on (R512). -/
def State.lisOn (s : State) (n : Nat) : Bool := s.flag F.AON_PIN_PHASE_FIELD_EN && s.bit F.LIS_CTL_LIS_EN n

/-- LIS_FOLDBACK and LIS_RETRY (R512). -/
def State.lisFold (s : State) (n : Nat) : State :=
  if s.lisOn n && !s.bit F.LIS_CTL_LIS_OC n then (s.putBitOf F.LIS_CTL_LIS_OC n true).loopEv 0x02 lNote else s
def State.lisRetry (s : State) (n : Nat) (ok : Bool) : State :=
  if s.lisOn n && ok then s.putBitOf F.LIS_CTL_LIS_OC n false else s

/-! ### Touch keys -/

/-- The counted touches of key `k`. -/
def State.tchCount (s : State) (k : Nat) : State :=
  if k = 0 then s.count F.TCH_CNT_TOUCHES0 else if k = 1 then s.count F.TCH_CNT_TOUCHES1
  else if k = 2 then s.count F.TCH_CNT_TOUCHES2 else s.count F.TCH_CNT_TOUCHES3

/-- The functions that report a touch (Table 19-3). -/
def State.tchReports (s : State) (k : Nat) : Bool := s.fld F.TCH_CFG_FN k == 1 || s.fld F.TCH_CFG_FN k == 2

/-- A touch or a release of key `k`: `TK_ACTIVE`, `TK_CHG` and what its function reports (R513, R515). -/
def State.tchSet (s : State) (k : Nat) (on : Bool) : State :=
  let s1 := s.putBitOf F.AON_FRONT_STAT_TK_ACTIVE k on
  if s1.tchReports k then
    (State.frontReport s s1).offer bTCH 0 0x0E [if on then 3 else 4, BitVec.ofNat 8 k, 0, 0, 0, 0, 0, 0]
  else s1.putBitOf F.AON_FRONT_EVT_TK_CHG k true

/-- A measurement of key `k`: any value from `lo` up to below `hi` (R513). -/
def State.tchMeasure (s : State) (k lo hi : Nat) : State :=
  let f := s.free
  f.2.put F.TCH_RAW_RAW (min 0xFFFF (lo + f.1 % (hi - lo))) k

/-- One scan of key `k` (R513): `RAW` is measured, and at each 256th millisecond the `BASE` of a released key goes one count toward
it. -/
def State.tchScanKey (s : State) (k : Nat) : State :=
  let s1 := s.tchMeasure k 0 0x10000
  let b := s1.fld F.TCH_RAW_BASE k
  let r := s1.fld F.TCH_RAW_RAW k
  if s1.tim.optime % 256 = 0 ∧ s1.bit F.AON_FRONT_STAT_TK_ACTIVE k = false then
    s1.put F.TCH_RAW_BASE (if b < r then b + 1 else if r < b then b - 1 else b) k
  else s1

/-- The scan of a millisecond (R513). -/
def State.tchScan (s : State) : State := (List.range 4).foldl State.tchScanKey s

/-- The scan starts: each baseline is what its key measures (Table 19-6). -/
def State.tchBegin (s : State) : State :=
  (List.range 4).foldl (fun a k =>
    let b := a.tchMeasure k 0 0x10000
    b.put F.TCH_RAW_BASE (b.fld F.TCH_RAW_RAW k) k) s

/-- TOUCH_KEY_TOUCH (R513, R515): the last measurement stands at least `TH` above the baseline. -/
def State.touch (s : State) (k : Nat) : State :=
  if s.bit F.AON_FRONT_STAT_TK_ACTIVE k then s
  else
    let s0 := s.tchMeasure k (s.fld F.TCH_RAW_BASE k + s.fld F.TCH_CFG_TH k) 0x20000
    let s1 := (s0.tchSet k true).tchCount k
    if s1.fld F.TCH_CFG_FN k = 2 then s1.lswOff (2 ^ s1.fld F.TCH_CFG_TGT k) else s1

/-- TOUCH_KEY_RELEASE (R513, R514): the last measurement stands less than half of `TH` above the baseline.  A key that was declared
stuck is no longer; one that is touched is released. -/
def State.release (s : State) (k : Nat) : State :=
  if s.bit F.TCH_STAT_STUCK k || s.bit F.AON_FRONT_STAT_TK_ACTIVE k then
    let s0 := s.tchMeasure k 0 (s.fld F.TCH_RAW_BASE k + s.fld F.TCH_CFG_TH k / 2)
    let s1 := s0.putBitOf F.TCH_STAT_STUCK k false
    if s1.bit F.AON_FRONT_STAT_TK_ACTIVE k then s1.tchSet k false else s1
  else s

/-- TOUCH_KEY_STUCK (R514): the key counts as released, and what it measures is its new baseline. -/
def State.stuck (s : State) (k : Nat) : State :=
  if s.bit F.AON_FRONT_STAT_TK_ACTIVE k then
    let s0 := s.tchMeasure k 0 0x10000
    let s1 := s0.put F.TCH_RAW_BASE (s0.fld F.TCH_RAW_RAW k) k
    ((s1.tchSet k false).putBitOf F.TCH_STAT_STUCK k true).event (supEvent bTCH 0x01 lNote)
  else s

/-! ### Whole-field reactions -/

/-- Every switch and loop off, nothing latched: release and supervisor reactions (02 R46, R47, 03 R75, R519). -/
def State.fieldOff (s : State) : State :=
  let s1 := ((s.lswOff 0xFFFF).loopsZero).put F.LSW_STAT_LATCHED 0
  { s1 with field := { s1.field with restore := [], thermal := 0 } }

/-- The field connector is not mated (R520). -/
def State.fieldGone (s : State) : State := (s.lswOff 0xFFFF).loopsZero

/-- Writes of the field registers: fields saturated to their ranges (Tables 19-1, 19-5, 19-6). -/
def State.lswCfgSat (s : State) (n : Nat) : State := s.lswCfg n (s.fld F.LSW_CFG_ILIM n) (s.fld F.LSW_CFG_BLANK n)
def State.loopCfgSat (s : State) (n : Nat) : State := s.put F.LOOP_CFG_FB_I (min 24000 (s.fld F.LOOP_CFG_FB_I n)) n
def State.tchCfgSat (s : State) (k : Nat) : State :=
  (s.put F.TCH_CFG_DEB (clampN 2 15 (s.fld F.TCH_CFG_DEB k)) k).put F.TCH_CFG_TH (clampN 20 2000 (s.fld F.TCH_CFG_TH k)) k

end Sys2Proof.Machine
end

