-- ==== Sys2Proof/Machine/Num.lean ====
section
/-! DEFINITION. Number formats (10): decoding, exact sums and products, rounding and conversion.  A finite value is an
exact dyadic number with a sign, so that every rounding happens exactly where the specification rounds. -/
namespace Sys2Proof.Machine

/-- A value of a float format, or an integer: finite values are `(-1)^neg * m * 2^e`, zeros keep their sign. -/
inductive Num where
  | nan
  | inf (neg : Bool)
  | fin (neg : Bool) (m : Nat) (e : Int)
  deriving DecidableEq, Repr

/-- +0. -/
def Num.zero : Num := .fin false 0 0

/-- The layout of a float format (10 Table 10-2): significand bits, least normal exponent, total width, the magnitude code
of the largest finite value, that of infinity where there is one, and the NaN that is written. -/
structure FloatFmt where
  p : Nat
  emin : Int
  width : Nat
  maxCode : Nat
  infCode : Option Nat
  nanCode : Nat
  deriving DecidableEq, Repr

def fE4M3 : FloatFmt := ⟨4, -6, 8, 0x7E, none, 0x7F⟩
def fE5M2 : FloatFmt := ⟨3, -14, 8, 0x7B, some 0x7C, 0x7F⟩
def fBF16 : FloatFmt := ⟨8, -126, 16, 0x7F7F, some 0x7F80, 0x7FC0⟩
def fFP16 : FloatFmt := ⟨11, -14, 16, 0x7BFF, some 0x7C00, 0x7E00⟩
def fFP32 : FloatFmt := ⟨24, -126, 32, 0x7F7FFFFF, some 0x7F800000, 0x7FC00000⟩
/-- The B4 element E2M1: no infinity and no NaN. -/
def fE2M1 : FloatFmt := ⟨2, 0, 4, 7, none, 8⟩

/-- The exponent of the last place of the subnormals. -/
def FloatFmt.umin (f : FloatFmt) : Int := f.emin - (f.p - 1 : Nat)

/-- The value a code stands for (R254). -/
def FloatFmt.decode (f : FloatFmt) (bits : Nat) : Num :=
  let s := hasBit bits (f.width - 1)
  let body := bits % 2 ^ (f.width - 1)
  let special := match f.infCode with
    | some c => if body = c then some (Num.inf s) else if body > c then some Num.nan else none
    | none => if body > f.maxCode then some Num.nan else none
  match special with
  | some v => v
  | none =>
    let m := body % 2 ^ (f.p - 1)
    let e := body / 2 ^ (f.p - 1)
    if e = 0 then .fin s m f.umin else .fin s (m + 2 ^ (f.p - 1)) (f.umin + (e : Int) - 1)

/-- Signed value of a finite number at a common exponent `e0 ≤ e`. -/
def scaleTo (neg : Bool) (m : Nat) (e e0 : Int) : Int :=
  let x : Int := (m * 2 ^ (e - e0).toNat : Nat)
  if neg then -x else x

/-- The exact sum; +0 for a sum of +0 and -0 or of opposite values (R257). -/
def Num.add : Num → Num → Num
  | .nan, _ => .nan
  | _, .nan => .nan
  | .inf a, .inf b => if a = b then .inf a else .nan
  | .inf a, _ => .inf a
  | _, .inf b => .inf b
  | .fin s m e, .fin t n k =>
    let e0 := min e k
    let z := scaleTo s m e e0 + scaleTo t n k e0
    if z = 0 then .fin (s && t) 0 e0 else .fin (z < 0) z.natAbs e0

/-- The exact product; infinity times zero is NaN (R258). -/
def Num.mul : Num → Num → Num
  | .nan, _ => .nan
  | _, .nan => .nan
  | .inf a, .inf b => .inf (a != b)
  | .inf a, .fin t n _ => if n = 0 then .nan else .inf (a != t)
  | .fin s m _, .inf b => if m = 0 then .nan else .inf (s != b)
  | .fin s m e, .fin t n k => .fin (s != t) (m * n) (e + k)

/-- The negative. -/
def Num.neg : Num → Num
  | .nan => .nan
  | .inf a => .inf (!a)
  | .fin s m e => .fin (!s) m e

/-- The magnitude. -/
def Num.abs : Num → Num
  | .nan => .nan
  | .inf _ => .inf false
  | .fin _ m e => .fin false m e

/-- `a < b`, false where either is NaN; both zeros are equal. -/
def Num.lt : Num → Num → Bool
  | .nan, _ => false
  | _, .nan => false
  | .inf a, .inf b => a && !b
  | .inf a, _ => a
  | _, .inf b => !b
  | .fin s m e, .fin t n k => let e0 := min e k; scaleTo s m e e0 < scaleTo t n k e0

/-- `a ≥ b`, false where either is NaN. -/
def Num.ge (a b : Num) : Bool := a != .nan && b != .nan && !a.lt b

/-- An integer as a number. -/
def Num.ofInt (x : Int) : Num := .fin (x < 0) x.natAbs 0

/-- A number times a power of two. -/
def Num.scale (x : Num) (k : Int) : Num :=
  match x with
  | .fin s m e => .fin s m (e + k)
  | y => y

/-- Floor of the base-2 logarithm of a positive number, 0 for 0. -/
def log2N (m : Nat) : Nat := Nat.log2 m

/-! ### Rounding -/

/-- Rounding of a conversion (R259): nearest even, toward zero, or stochastic with the 16-bit `r` of R260. -/
inductive Rnd where
  | rne | rtz | sr (r : Nat)
  deriving DecidableEq, Repr

/-- `m / 2^d` rounded. -/
def roundShift (rnd : Rnd) (m d : Nat) : Nat :=
  let q := m / 2 ^ d
  let r := m % 2 ^ d
  match rnd with
  | .rtz => q
  | .sr k => (m * 65536 + k * 2 ^ d) / 2 ^ (d + 16)
  | .rne => if d = 0 then q else if r > 2 ^ (d - 1) then q + 1 else if r < 2 ^ (d - 1) then q else q + q % 2

/-- The magnitude code that a positive finite value rounds to, not yet limited to the largest finite code. -/
def FloatFmt.roundMag (f : FloatFmt) (rnd : Rnd) (m : Nat) (e : Int) : Nat :=
  if m = 0 then 0
  else
    let top : Int := (log2N m : Int) + e
    let u : Int := max (top - (f.p - 1 : Nat)) f.umin
    let q := if u ≤ e then m * 2 ^ (e - u).toNat else roundShift rnd m (u - e).toNat
    (u - f.umin).toNat * 2 ^ (f.p - 1) + q

/-- A code with its sign. -/
def FloatFmt.signed (f : FloatFmt) (neg : Bool) (mag : Nat) : Nat := if neg then mag + 2 ^ (f.width - 1) else mag

/-- Rounding under IEEE 754, to infinity on overflow (RNE32 of R257 and the vector unit of 12 R315). -/
def FloatFmt.ieee (f : FloatFmt) : Num → Nat
  | .nan => f.nanCode
  | .inf s => f.signed s (f.infCode.getD f.maxCode)
  | .fin s m e =>
    let c := f.roundMag .rne m e
    f.signed s (if c > f.maxCode then f.infCode.getD f.maxCode else c)

/-- RNE32: the FP32 word of an exact value. -/
def rne32 (x : Num) : Nat := fFP32.ieee x

/-- The value of an FP32 word. -/
def fp32 (w : Nat) : Num := fFP32.decode w

/-- Conversion to a float format (R259, Table 10-3).  To FP32, which Table 10-3 has no column for, a finite value beyond the largest
saturates to it (DESIGN CHOICE, log entry 24). -/
def FloatFmt.convert (f : FloatFmt) (rnd : Rnd) : Num → Nat
  | .nan => f.nanCode
  | .inf s => f.signed s (f.infCode.getD f.maxCode)
  | .fin s m e => f.signed s (min f.maxCode (f.roundMag rnd m e))

/-- Conversion to an integer of `w` bits (R259, Table 10-3), as its two's complement code. -/
def convertInt (w : Nat) (rnd : Rnd) : Num → Nat
  | .nan => 0
  | .inf s => ofSigned w (if s then -(2 ^ (w - 1) : Nat) else ((2 ^ (w - 1) : Nat) : Int) - 1)
  | .fin s m e =>
    let q := if 0 ≤ e then m * 2 ^ e.toNat else roundShift rnd m (-e).toNat
    let z : Int := if s then -(q : Int) else q
    ofSigned w (clampZ (-(2 ^ (w - 1) : Nat)) (((2 ^ (w - 1) : Nat) : Int) - 1) z)

/-- Saturation to the INT32 range (R257). -/
def sat32 (x : Int) : Int := clampZ (-2147483648) 2147483647 x

/-! ### Formats by code (R252, Table 10-1) -/

/-- The float format of a code. -/
def floatOf (c : Nat) : Option FloatFmt :=
  if c = 2 then some fE4M3 else if c = 3 then some fE5M2 else if c = 4 then some fBF16
  else if c = 5 then some fFP16 else if c = 8 then some fFP32 else none

/-- Bits of one element. -/
def elemBits (c : Nat) : Nat :=
  if c = 1 ∨ c = 6 then 4 else if c = 4 ∨ c = 5 then 16 else if c = 8 ∨ c = 9 then 32 else 8

/-- The value of an element code of a format other than B4. -/
def decodeElem (c x : Nat) : Num :=
  match floatOf c with
  | some f => f.decode x
  | none => Num.ofInt (toSigned (elemBits c) x)

/-- Element `j` of a vector laid out at the start of a string (R253): its code. -/
def elemAt (c j : Nat) (bs : Bytes) : Nat :=
  let b := elemBits c
  if b = 4 then let x := (bs.getD (j / 2) 0).toNat; if j % 2 = 0 then x % 16 else x / 16
  else leAt bs (j * (b / 8)) (b / 8)

/-- Bytes of a vector of `n` elements (R253, R255). -/
def vecBytes (c n : Nat) : Nat := if c = 6 then n / 2 + n / 32 else n * elemBits c / 8

/-- The value of a B4 element under its scale (R255). -/
def b4Value (scale code : Nat) : Num :=
  if scale = 255 then .nan else (fE2M1.decode code).scale ((scale : Int) - 127)

/-- The value of element `j` of a vector of `n` elements of format `c`. -/
def vecElem (c n j : Nat) (bs : Bytes) : Num :=
  if c = 6 then b4Value (bs.getD (n / 2 + j / 32) 0).toNat (elemAt 6 j bs)
  else decodeElem c (elemAt c j bs)

/-- The scale of a B4 block (R261): the least `s` with `a ≤ 6 * 2^(s - 127)`, clamped, for the largest magnitude
`a = m * 2^e`. -/
def b4Scale (m : Nat) (e : Int) : Nat :=
  if m = 0 then 0
  else
    -- ceil(log2(m / 6)): the least k with m <= 6 * 2^k
    let l := log2N m
    let k0 : Int := (l : Int) - 3
    let fits (k : Int) : Bool := if 0 ≤ k then m ≤ 6 * 2 ^ k.toNat else m * 2 ^ (-k).toNat ≤ 6
    let k := if fits k0 then k0 else if fits (k0 + 1) then k0 + 1 else k0 + 2
    (clampZ 0 254 (k + e + 127)).toNat

/-- The scale of a block of values (R261, R270). -/
def blockScale (xs : List Num) : Nat :=
  if xs.any (· == .nan) then 255
  else if xs.any (fun x => x == .inf true || x == .inf false) then 254
  else xs.foldl (fun s x => match x with
    | .fin _ m e => max s (b4Scale m e)
    | _ => s) 0

/-- Pack 4-bit codes two per byte (R253). -/
def packNibbles : List Nat → Bytes
  | a :: b :: t => BitVec.ofNat 8 (a % 16 + 16 * (b % 16)) :: packNibbles t
  | [a] => [BitVec.ofNat 8 (a % 16)]
  | [] => []

/-! ### The transcendental functions of the vector unit (12 R315)

Their results lie within a stated distance of the exact value and are otherwise open: the nearest FP32 value, computed
here with 200 binary places, moved by a free number of units in the last place. -/

/-- Binary places of the computation. -/
def fxBits : Nat := 200
/-- One in fixed point. -/
def fxOne : Int := (2 ^ fxBits : Nat)
/-- A product in fixed point. -/
def fxMul (a b : Int) : Int := a * b / fxOne
/-- A quotient in fixed point. -/
def fxDiv (a b : Int) : Int := a * fxOne / b

/-- Horner evaluation of `1 + x/1 (1 + x/2 (1 + ...))`, `n` terms from term `k`. -/
def expTerms : Nat → Nat → Int → Int
  | 0, _, _ => fxOne
  | n + 1, k, x => fxOne + fxMul x (expTerms n (k + 1) x) / (k : Int)

/-- Sum of `x^(2i+1)/(2i+1)`, `n` terms. -/
def atanhTerms : Nat → Nat → Int → Int → Int
  | 0, _, _, _ => 0
  | n + 1, k, x2, p => p / (k : Int) + atanhTerms n (k + 2) x2 (fxMul p x2)

/-- Inverse hyperbolic tangent of a small fixed-point number. -/
def fxAtanh (x : Int) : Int := atanhTerms 130 1 (fxMul x x) x

/-- The natural logarithm of 2. -/
def fxLn2 : Int := 2 * fxAtanh (fxOne / 3)

/-- e^x for a fixed-point x, as a mantissa in [1, 2) and a power of two. -/
def fxExp (x : Int) : Int × Int :=
  let k := x / fxLn2
  (expTerms 60 1 (x - k * fxLn2), k)

/-- The fixed-point value of a number, floor. -/
def toFx (neg : Bool) (m : Nat) (e : Int) : Int :=
  let x := scaleTo neg m 0 0
  if 0 ≤ e + (fxBits : Int) then x * (2 ^ (e + (fxBits : Int)).toNat : Nat)
  else x / (2 ^ (-(e + (fxBits : Int))).toNat : Nat)

/-- A fixed-point number as a value. -/
def ofFx (x : Int) : Num := .fin (x < 0) x.natAbs (-(fxBits : Int))

/-- e^x as a value. -/
def expNum (x : Int) : Num := let (m, k) := fxExp x; (ofFx m).scale k

/-- The natural logarithm of `m * 2^e`, m > 0. -/
def logNum (m : Nat) (e : Int) : Num :=
  let l := log2N m
  -- m = y * 2^l with y in [1, 2)
  let y : Int := if l ≤ fxBits then (m : Int) * (2 ^ (fxBits - l) : Nat) else (m : Int) / (2 ^ (l - fxBits) : Nat)
  ofFx (2 * fxAtanh (fxDiv (y - fxOne) (y + fxOne)) + ((l : Int) + e) * fxLn2)

/-- The quotient of two positive naturals to `fxBits` places. -/
def ratioNum (neg : Bool) (a b : Nat) : Num := .fin neg (a * 2 ^ fxBits / b) (-(fxBits : Int))

/-- 1 / (1 + e^(-x)) in fixed point, |x| < 200. -/
def fxSigmoid (x : Int) : Int :=
  let (m, k) := fxExp (if 0 ≤ x then -x else x)
  -- t = e^(-|x|) = m * 2^k with k <= 0
  let t := m / (2 ^ (-k).toNat : Nat)
  if 0 ≤ x then fxDiv fxOne (fxOne + t) else fxDiv t (fxOne + t)

/-- tanh of a fixed-point number through the sigmoid. -/
def fxTanh (x : Int) : Int := 2 * fxSigmoid (2 * x) - fxOne

/-- The root of a ratio: `sqrt(a / b)` to `fxBits` places. -/
def isqrt (n : Nat) : Nat := Nat.sqrt n

/-- A value beyond the range of FP32, and one far below its least subnormal. -/
def Num.huge : Num := .fin false 1 200
def Num.tiny (neg : Bool) : Num := .fin neg 1 (-300)

/-- The nearest value of a transcendental function of a finite operand, where the function is stated there: EXP, LOG,
RSQRT, RECIP, TANH, SIGMOID, GELU (FN 0x10 to 0x16). -/
def transNum (fn : Nat) (s : Bool) (m : Nat) (e : Int) : Option Num :=
  let big : Bool := (log2N m : Int) + e ≥ 8
  let x := toFx s m e
  if fn = 0x10 then (if m = 0 then some (Num.ofInt 1) else if big then some (if s then Num.tiny false else Num.huge) else some (expNum x))
  else if fn = 0x11 then (if m = 0 || s then none else some (logNum m e))
  else if fn = 0x12 then
    (if m = 0 || s then none
     else
       let m2 := if e % 2 = 0 then m else 2 * m
       let e2 := if e % 2 = 0 then e else e - 1
       some ((Num.fin false (isqrt (2 ^ (2 * fxBits) / m2)) (-(fxBits : Int))).scale (-(e2 / 2))))
  else if fn = 0x13 then (if m = 0 then none else some ((ratioNum s 1 m).scale (-e)))
  else if fn = 0x14 then
    (if m = 0 then some (.fin s 0 0) else if big then some (.fin s 1 0)
     else if (log2N m : Int) + e < -60 then some (.fin s m e) else some (ofFx (fxTanh x)))
  else if fn = 0x15 then (if big then some (if s then Num.tiny false else Num.ofInt 1) else some (ofFx (fxSigmoid x)))
  else if fn = 0x16 then
    (if m = 0 then some (.fin s 0 0) else if big then some (if s then Num.tiny true else .fin s m e)
     else
       -- 0.5 x (1 + tanh(u)), u = sqrt(2/pi) (x + 0.044715 x^3); (1 + tanh u) / 2 = sigmoid(2 u)
       let c : Int := fxDiv (7978845608028654 * fxOne) (10000000000000000 * fxOne)
       let d : Int := fxDiv (44715 * fxOne) (1000000 * fxOne)
       let u := fxMul c (x + fxMul d (fxMul x (fxMul x x)))
       if u < 120 * fxOne ∧ -(120 * fxOne) < u then
         some ((Num.fin s m e).mul (ofFx (fxSigmoid (2 * u))))
       else some (if s then Num.tiny true else .fin s m e))
  else none

/-- The largest distance from the exact value in units in the last place (R315). -/
def transUlp (fn : Nat) : Nat := if fn = 0x16 then 4 else 2

/-- An FP32 word moved by `d` codes, not past zero or the largest finite value. -/
def nudge (w : Nat) (d : Int) : Nat :=
  let s : Nat := w / 2 ^ 31
  let body : Nat := w % 2 ^ 31
  s * 2 ^ 31 + (clampZ 0 0x7F7FFFFF ((body : Int) + d)).toNat

/-- The codes within `k` units in the last place of an exact value, from `k` below the nearest to `k` above. -/
def nearCodes (k : Nat) (v : Num) : List Nat :=
  let c := rne32 v
  let e := (c % 2 ^ 31) / 2 ^ 23
  let lim : Num := .fin false k ((max e 1 : Nat) - 150)
  let ds : List Int := (List.range (2 * k + 1)).map fun (i : Nat) => (i : Int) - (k : Int)
  (ds.map (nudge c)).filter fun x => lim.ge ((fp32 x).add v.neg).abs

/-- The result of a transcendental function (R315): within its distance of the exact value, by a free choice that is the
same for equal operands on every tile; NaN for NaN; free where the specification states no result. -/
def transcendental (fn w : Nat) : Nat :=
  match fp32 w with
  | .nan => 0x7FC00000
  | .inf _ => Config.vopOpen fn w % 2 ^ 32
  | .fin s m e =>
    match transNum fn s m e with
    | none => Config.vopOpen fn w % 2 ^ 32
    | some v =>
      let near := nearCodes (transUlp fn) v
      near.getD (Config.vopUlp fn w % near.length) (rne32 v)

end Sys2Proof.Machine
end

