-- ==== Sys2Proof/Machine/Isa.lean ====
section
/-! DEFINITION. The tile instructions (11, 12): fields, issue queues, the ranges an instruction reads and writes, the
checks of its fields, and the fields that loop offsets move.  Everything here is a function of the 128-bit word. -/
namespace Sys2Proof.Machine

/-- Bits [lsb + n - 1 : lsb] of an instruction. -/
def wf (w : W128) (lsb n : Nat) : Nat := bitField w.toNat lsb n

/-- Opcode (Table 11-1). -/
def wOpc (w : W128) : Nat := wf w 120 8
/-- Wait and signal tokens (Table 11-1). -/
def wW0 (w : W128) : Nat := wf w 114 6
def wW1 (w : W128) : Nat := wf w 108 6
def wSg (w : W128) : Nat := wf w 102 6

/-! ### Opcodes (Table 12-1) -/
def oNOP : Nat := 0x00
def oLDV : Nat := 0x10
def oSTV : Nat := 0x11
def oSLD : Nat := 0x20
def oMPASS : Nat := 0x28
def oRBSET : Nat := 0x2C
def oVOP : Nat := 0x40
def oVRED : Nat := 0x44
def oVCVT : Nat := 0x48
def oVTOPK : Nat := 0x4C
def oXSIG : Nat := 0x60
def oBAR : Nat := 0x61
def oTCLR : Nat := 0x62
def oLOOP : Nat := 0x68
def oRFENCE : Nat := 0x70
def oCPL : Nat := 0x78
def oHMSG : Nat := 0x79

/-- The opcode map: every other opcode raises OPCODE (R309). -/
def opcodes : List Nat :=
  [oNOP, oLDV, oSTV, oSLD, oMPASS, oRBSET, oVOP, oVRED, oVCVT, oVTOPK, oXSIG, oBAR, oTCLR, oLOOP, oRFENCE, oCPL, oHMSG]

/-- Issue queues (R278): Ladle channels 0 and 1, array, vector, control. -/
inductive Queue where
  | ladle0 | ladle1 | array | vector | control
  deriving DecidableEq, Repr

/-- The queue of an instruction; an unassigned opcode, and RFENCE where it acts as NOP, issue from control (log entry
23). -/
def queueOf (w : W128) : Queue :=
  let o := wOpc w
  if o = oLDV ∨ o = oSTV then (if wf w 101 1 = 0 then .ladle0 else .ladle1)
  else if o = oSLD ∨ o = oMPASS ∨ o = oRBSET then .array
  else if o = oVOP ∨ o = oVRED ∨ o = oVCVT ∨ o = oVTOPK then .vector
  else .control

/-! ### Spaces and ranges -/

/-- Bytes of a space: A-Pail, S-Pail, C-Pail, vector registers (09 Table 9-1, 12 R310). -/
def spaceSize (sp : Nat) : Nat :=
  if sp = 0 then 4194304 else if sp = 1 then 1048576 else if sp = 2 then 2097152 else 8192

/-- A range of bytes of a space, `hi` excluded. -/
structure Rng where
  sp : Nat
  lo : Nat
  hi : Nat
  deriving DecidableEq, Repr

/-- The grain of a space in bytes (R280, R312): 64, one C-Pail row, one register. -/
def grain (sp : Nat) : Nat := if sp ≤ 1 then 64 else 1024

/-- Two ranges share a grain. -/
def Rng.meets (x y : Rng) : Bool :=
  x.sp == y.sp && x.lo < x.hi && y.lo < y.hi &&
  (x.lo / grain x.sp) * grain x.sp < y.hi && (y.lo / grain y.sp) * grain y.sp < x.hi

/-- Some range of one list meets one of another. -/
def anyMeets (xs ys : List Rng) : Bool := xs.any fun x => ys.any x.meets

/-- Byte address of an operand specifier (R311). -/
def specLo (s : Nat) : Nat := if s / 65536 = 3 then (s % 8) * 1024 else (s % 65536) * 64

/-- The range of `n` bytes at an operand specifier. -/
def specRng (s n : Nat) : Rng := ⟨s / 65536, specLo s, specLo s + n⟩

/-- FIELD faults of an operand specifier for `n` bytes (R311).  A source in the S-Pail has none: R311 gives every specifier space 1,
while Table 9-2 lists no vector read path of the S-Pail; the model serves such a read (DESIGN CHOICE, log entry 57). -/
def specBad (s n : Nat) : Bool :=
  if s / 65536 = 3 then (s % 65536) / 8 != 0 || 8192 < specLo s + n
  else s / 65536 == 2 && (s % 65536) % 16 != 0

/-- Up to the next multiple of 64. -/
def up64 (n : Nat) : Nat := (n + 63) / 64 * 64

/-! ### LDV and STV (Table 11-5) -/

/-- A Ladle instruction. -/
structure Ladle where
  pail : Nat
  padr : Nat
  vadr : Nat
  rlen : Nat
  rows : Nat
  vstr : Nat
  deriving DecidableEq, Repr

def ladleOf (w : W128) : Ladle :=
  ⟨wf w 99 2, wf w 83 16 * 64, wf w 41 42 * 64, (wf w 31 10 + 1) * 64, wf w 19 12 + 1, wf w 0 19 * 64⟩

/-- The Pail range (R286). -/
def Ladle.rng (l : Ladle) : Rng := ⟨l.pail, l.padr, l.padr + l.rows * l.rlen⟩

/-! ### Stationary loads (Table 11-6) -/

/-- A stationary load. -/
structure Load where
  mode : Nat
  shape : Nat
  fmt : Nat
  half : Nat
  sadr : Nat
  deriving DecidableEq, Repr

def loadOf (w : W128) : Load := ⟨wf w 100 2, wf w 97 3, wf w 93 4, wf w 91 2, wf w 77 14 * 64⟩

/-- Bytes of a stationary image (R291). -/
def imageBytes (fmt : Nat) : Nat := if fmt = 6 then 69632 else if fmt = 4 ∨ fmt = 5 then 131072 else 65536

/-- BF16 and FP16 (R239). -/
def isWide (fmt : Nat) : Bool := fmt == 4 || fmt == 5

/-! ### Passes (Table 11-7, Table 9-3) -/

/-- A matrix pass. -/
structure Pass where
  shape : Nat
  fmt : Nat
  sr : Nat
  acc : Bool
  red : Bool
  t : Bool
  swp : Bool
  m : Nat
  aadr : Nat
  astr : Nat
  crow : Nat
  pmask : Nat
  oadr : Nat
  rinc : Bool
  deriving DecidableEq, Repr

/-- Problems, and cell rows and columns of one problem (Table 9-3). -/
def shapeP (s : Nat) : Nat := if s = 1 then 2 else if s = 2 then 4 else if s = 3 then 16 else 1
def shapeK (s : Nat) : Nat := if s = 2 then 128 else if s = 3 then 64 else 256
def shapeN (s : Nat) : Nat := if s = 1 ∨ s = 2 then 128 else if s = 3 then 64 else 256

/-- INT4 and B4 hold two elements a cell (R231). -/
def isTwo (fmt : Nat) : Bool := fmt == 1 || fmt == 6

/-- Depth in elements of a problem (Table 9-3). -/
def depthK (s fmt : Nat) : Nat := if isTwo fmt then 2 * shapeK s else shapeK s

/-- Elements of one problem in a streamed row (R294). -/
def kPrime (s fmt : Nat) (t : Bool) : Nat := if t then shapeN s else depthK s fmt

/-- Bytes of a streamed row. -/
def rowBytes (s fmt : Nat) (t : Bool) : Nat := vecBytes fmt (shapeP s * kPrime s fmt t)

def passOf (w : W128) : Pass :=
  let sh := wf w 99 3
  let fm := wf w 95 4
  let t := wf w 89 1 == 1
  let st := wf w 52 8
  { shape := sh, fmt := fm, sr := wf w 92 3, acc := wf w 91 1 == 1, red := wf w 90 1 == 1, t := t
    swp := wf w 88 1 == 1, m := wf w 76 12 + 1, aadr := wf w 60 16 * 64
    astr := if st = 0 then up64 (rowBytes sh fm t) else st * 64
    crow := wf w 41 11, pmask := wf w 25 16, oadr := wf w 9 16 * 64, rinc := wf w 8 1 == 1 }

/-- C-Pail rows that one result row of every problem takes (R224). -/
def rowsPer (s : Nat) : Nat := shapeP s * shapeN s / 256

/-- A transposed INT4 or B4 pass delivers two sub-rows a row (R263). -/
def Pass.twoSub (p : Pass) : Bool := p.t && isTwo p.fmt

/-- Footprint in C-Pail rows (R224, R238, R263). -/
def Pass.footprint (p : Pass) : Nat :=
  if p.red then 2 * rowsPer p.shape else (if p.twoSub then 2 else 1) * p.m * rowsPer p.shape

/-- The longest pass (Table 9-3, R263). -/
def Pass.longest (p : Pass) : Nat :=
  if p.shape = 4 then 8
  else if p.red then 4096
  else if p.twoSub then (if p.shape = 0 then 1024 else 512)
  else if p.shape = 2 then 1024 else if p.shape = 3 then 512 else 2048

/-- The A-Pail span of the streamed rows (R294). -/
def Pass.span (p : Pass) : Rng := ⟨0, p.aadr, p.aadr + (p.m - 1) * p.astr + rowBytes p.shape p.fmt p.t⟩

/-- The C-Pail range of the footprint. -/
def Pass.out (p : Pass) : Rng := ⟨2, p.crow * 1024, (p.crow + p.footprint) * 1024⟩

/-- The operand image of V, or the G image of BF16 and FP16 (R298, R299). -/
def Pass.oRng (p : Pass) : List Rng :=
  if p.shape = 4 then [⟨0, p.oadr, p.oadr + imageBytes p.fmt⟩]
  else if isWide p.fmt then [⟨1, p.oadr, p.oadr + imageBytes p.fmt⟩] else []

/-- Format, semiring, shape and kind go together (Table 9-9, R237, Table 10-4). -/
def Pass.accepted (p : Pass) : Bool :=
  (p.fmt ≤ 6) && (p.sr ≤ 5) && (p.shape ≤ 4) &&
  (p.sr == 0 || p.fmt ≤ 3) && (!(p.sr == 3 || p.sr == 4) || p.fmt != 1) &&
  (!p.t || p.shape == 0 || p.shape == 2 || (p.shape == 3 && !isTwo p.fmt)) &&
  !(isWide p.fmt && (p.red || p.shape == 4))

/-! ### Vector instructions (Tables 12-2 to 12-4, R316, R319) -/

/-- VOP. -/
structure Vop where
  fn : Nat
  ft : Nat
  d : Nat
  a : Nat
  b : Nat
  c : Nat
  bmode : Nat
  rows : Nat
  deriving DecidableEq, Repr

def vopOf (w : W128) : Vop :=
  ⟨wf w 96 6, wf w 95 1, wf w 77 18, wf w 59 18, wf w 41 18, wf w 23 18, wf w 21 2, wf w 9 12 + 1⟩

/-- FN uses B, or C (Table 12-3). -/
def vopUsesB (fn : Nat) : Bool := fn ≤ 5 || fn == 0x0A || fn == 0x0B || (0x20 ≤ fn && fn ≤ 0x24)
def vopUsesC (fn : Nat) : Bool := fn == 3 || fn == 0x0B

/-- FN exists with FT (Table 12-3). -/
def vopOk (fn ft : Nat) : Bool :=
  fn ≤ 0x0B || (0x10 ≤ fn && fn ≤ 0x16 && ft == 0) || (0x20 ≤ fn && fn ≤ 0x24 && ft == 1)

/-- Bytes of operand B (R314; log entry 23 on BMODE 2 and 3). -/
def Vop.bBytes (v : Vop) : Nat :=
  if v.bmode = 0 then v.rows * 1024 else if v.bmode = 1 then 1024 else if v.bmode = 2 then 4 else v.rows * 4

/-- VRED. -/
structure Vred where
  fn : Nat
  ft : Nat
  d : Nat
  a : Nat
  rows : Nat
  deriving DecidableEq, Repr

def vredOf (w : W128) : Vred := ⟨wf w 100 2, wf w 99 1, wf w 81 18, wf w 63 18, wf w 51 12 + 1⟩

/-- VCVT. -/
structure Vcvt where
  sfmt : Nat
  dfmt : Nat
  rnd : Nat
  act : Nat
  d : Nat
  a : Nat
  sreg : Nat
  smode : Nat
  cen : Bool
  creg : Nat
  vlen : Nat
  rows : Nat
  dstr : Nat
  seed : Nat
  deriving DecidableEq, Repr

def vcvtOf (w : W128) : Vcvt :=
  let df := wf w 94 4
  let vl := wf w 43 2 + 1
  let ds := wf w 23 8
  { sfmt := wf w 98 4, dfmt := df, rnd := wf w 92 2, act := wf w 90 2, d := wf w 72 18, a := wf w 54 18
    sreg := wf w 51 3, smode := wf w 49 2, cen := wf w 48 1 == 1, creg := wf w 45 3, vlen := vl
    rows := wf w 31 12 + 1, dstr := if ds = 0 then up64 (vecBytes df (256 * vl)) else ds * 64, seed := wf w 7 16 }

/-- Formats of VCVT (R317). -/
def cvtFmt (c : Nat) : Bool := c ≤ 6 || c == 8 || c == 9

/-- Bytes of a source vector, rounded up to 64 (R317). -/
def Vcvt.sstr (v : Vcvt) : Nat := up64 (vecBytes v.sfmt (256 * v.vlen))
/-- The source and destination spans. -/
def Vcvt.srcBytes (v : Vcvt) : Nat := (v.rows - 1) * v.sstr + vecBytes v.sfmt (256 * v.vlen)
def Vcvt.dstBytes (v : Vcvt) : Nat := (v.rows - 1) * v.dstr + vecBytes v.dfmt (256 * v.vlen)

/-- VTOPK. -/
structure Vtopk where
  largest : Bool
  k : Nat
  ft : Nat
  init : Bool
  a : Nat
  vb : Nat
  rows : Nat
  ibase : Nat
  deriving DecidableEq, Repr

def vtopkOf (w : W128) : Vtopk :=
  ⟨wf w 101 1 == 1, wf w 99 2 + 1, wf w 98 1, wf w 97 1 == 1, wf w 79 18, wf w 76 3, wf w 64 12 + 1, wf w 32 32⟩

/-! ### Ranges read and written (R280) -/

/-- The registers from `r` on, `n` of them. -/
def regRng (r n : Nat) : Rng := ⟨3, r * 1024, (r + n) * 1024⟩

/-- What an instruction reads: of each Pail only what Table 9-2 gives its unit a path to (09 R225). -/
def readsOf (w : W128) : List Rng :=
  let o := wOpc w
  if o = oSTV then [(ladleOf w).rng]
  else if o = oSLD then let l := loadOf w; [⟨1, l.sadr, l.sadr + imageBytes l.fmt⟩]
  else if o = oMPASS then
    let p := passOf w
    [p.span] ++ p.oRng ++ (if p.acc then [p.out] else [])
  else if o = oVOP then
    let v := vopOf w
    [specRng v.a (v.rows * 1024)] ++ (if vopUsesB v.fn then [specRng v.b v.bBytes] else []) ++
    (if vopUsesC v.fn then [specRng v.c (v.rows * 1024)] else [])
  else if o = oVRED then let v := vredOf w; [specRng v.a (v.rows * 1024)]
  else if o = oVCVT then
    let v := vcvtOf w
    [specRng v.a v.srcBytes] ++ (if v.smode = 0 then [] else [regRng v.sreg 1]) ++ (if v.cen then [regRng v.creg 1] else [])
  else if o = oVTOPK then
    let v := vtopkOf w
    if v.init then [] else [specRng v.a (v.rows * 1024), regRng v.vb (2 * v.k)]
  else if o = oHMSG then [⟨wf w 100 2, wf w 82 18 * 16, wf w 82 18 * 16 + 16⟩]
  else []

/-- What an instruction writes, on the paths of Table 9-2 (09 R225). -/
def writesOf (w : W128) : List Rng :=
  let o := wOpc w
  if o = oLDV then [(ladleOf w).rng]
  else if o = oMPASS then [(passOf w).out]
  else if o = oVOP then let v := vopOf w; [specRng v.d (v.rows * 1024)]
  else if o = oVRED then let v := vredOf w; [specRng v.d (v.rows * 4)]
  else if o = oVCVT then let v := vcvtOf w; [specRng v.d v.dstBytes]
  else if o = oVTOPK then let v := vtopkOf w; [regRng v.vb (2 * v.k)]
  else []

/-! ### Issue-time checks (R282, R284, R287, R292, R297, R298, R299, R311, R314 to R322, R327 to R330) -/

def xOPCODE : Nat := 0x01
def xFIELD : Nat := 0x02
def xPAIL_RANGE : Nat := 0x03
def xFOOTPRINT : Nat := 0x04
def xIMAGE : Nat := 0x05
def xSHADOW_BUSY : Nat := 0x06
def xVAT_RANGE : Nat := 0x07
def xVAT_UE : Nat := 0x08
def xPAGE_LOST : Nat := 0x09
def xPAIL_UE : Nat := 0x0A
def xPOISONED : Nat := 0x0B
def xTOKEN_OVF : Nat := 0x0C
def xBAR_COUNT : Nat := 0x10
def xXTILE : Nat := 0x11
def xLOOP_NEST : Nat := 0x12
def xFENCE_PLACE : Nat := 0x13
def xSOURCE_LOST : Nat := 0x14

/-- A token field is 0 to 31 or 0x3F (R276). -/
def tokOk (t : Nat) : Bool := t ≤ 31 || t == 0x3F

/-- No tokens. -/
def tokNone (w : W128) : Bool := wW0 w == 0x3F && wW1 w == 0x3F && wSg w == 0x3F

/-- Some range passes the end of its space. -/
def rangeBad (rs : List Rng) : Bool := rs.any fun r => r.sp ≤ 2 && spaceSize r.sp < r.hi

/-- A FIELD fault of an instruction's own fields. -/
def fieldBad (w : W128) : Bool :=
  let o := wOpc w
  if o = oNOP then wf w 0 102 != 0
  else if o = oLDV ∨ o = oSTV then wf w 99 2 == 3
  else if o = oSLD then
    let l := loadOf w
    l.mode == 3 || 3 < l.shape || l.fmt == 7 || 8 ≤ l.fmt || l.half == 3 ||
    (l.half == 0 && isWide l.fmt) || (l.half != 0 && !isWide l.fmt) || wf w 0 77 != 0
  else if o = oMPASS then
    let p := passOf w
    let st := wf w 52 8
    !p.accepted || (p.red && p.t) || p.pmask == 0 || 2 ^ shapeP p.shape ≤ p.pmask ||
    (st != 0 && p.astr < rowBytes p.shape p.fmt p.t) || (p.rinc && !p.red) ||
    (p.oadr != 0 && p.shape != 4 && !isWide p.fmt) || (p.shape == 4 && (p.swp || p.t || p.red)) ||
    (isWide p.fmt && p.swp) || wf w 0 8 != 0
  else if o = oRBSET then wf w 32 70 != 0
  else if o = oVOP then
    let v := vopOf w
    !vopOk v.fn v.ft || specBad v.d (v.rows * 1024) || specBad v.a (v.rows * 1024) ||
    (if vopUsesB v.fn then specBad v.b v.bBytes else v.b != 0 || v.bmode != 0) ||
    (if vopUsesC v.fn then specBad v.c (v.rows * 1024) else v.c != 0) || wf w 0 9 != 0
  else if o = oVRED then
    let v := vredOf w
    v.fn == 3 || specBad v.d (v.rows * 4) || specBad v.a (v.rows * 1024) || wf w 0 51 != 0
  else if o = oVCVT then
    let v := vcvtOf w
    !cvtFmt v.sfmt || !cvtFmt v.dfmt || v.rnd == 3 || 2 ≤ v.act ||
    (v.rnd == 2 && !(v.dfmt == 2 || v.dfmt == 3 || v.dfmt == 6)) || (v.rnd != 2 && v.seed != 0) ||
    (v.smode == 3 && 256 < v.rows) || specBad v.d v.dstBytes || specBad v.a v.srcBytes || wf w 0 7 != 0
  else if o = oVTOPK then
    let v := vtopkOf w
    8 < v.vb + 2 * v.k || wf w 0 32 != 0 ||
    (if v.init then v.a != 0 || wf w 64 12 != 0 else v.ibase != 0 || specBad v.a (v.rows * 1024))
  else if o = oXSIG then wf w 0 91 != 0
  else if o = oBAR then wf w 91 7 == 0 || 64 < wf w 91 7 || wf w 0 91 != 0
  else if o = oTCLR then wf w 0 70 != 0
  else if o = oLOOP then !tokNone w || wf w 0 20 != 0
  else if o = oRFENCE then !tokNone w || wf w 0 93 != 0
  else if o = oCPL then wf w 0 69 != 0
  else if o = oHMSG then wf w 100 2 == 3 || wf w 0 82 != 0
  else false

/-- The lowest issue-time exception of the word itself, with the tiles its partition owns; 0 for none. -/
def wordExc (e : PEnt) (owned : Nat → Bool) (nOwned : Nat) : Nat :=
  let w := e.word
  let o := wOpc w
  if !opcodes.contains o then xOPCODE
  else if !tokOk (wW0 w) || !tokOk (wW1 w) || !tokOk (wSg w) || fieldBad w then xFIELD
  else if e.oob || rangeBad (if o = oMPASS then (readsOf w).filter (·.sp != 2) else readsOf w ++ writesOf w) then xPAIL_RANGE
  else if o = oMPASS then
    let p := passOf w
    if p.longest < p.m || 2048 < p.crow + p.footprint then xFOOTPRINT else 0
  else if o = oBAR then (if nOwned < wf w 91 7 then xBAR_COUNT else 0)
  else if o = oXSIG then (if owned (wf w 96 6) then 0 else xXTILE)
  else if o = oRFENCE then (if e.slot = 0 then 0 else xFENCE_PLACE)
  else 0

/-! ### Loop offsets (R324, R325, Table 12-6) -/

/-- The offsets of a LOOP. -/
structure LoopOfs where
  a : Int
  s : Int
  c : Int
  v : Int
  deriving DecidableEq, Repr

def loopOfs (w : W128) : LoopOfs :=
  ⟨toSigned 16 (wf w 70 16), toSigned 14 (wf w 56 14), toSigned 12 (wf w 44 12), toSigned 24 (wf w 20 24)⟩

/-- `i` times one level's offsets and `j` times another's. -/
def LoopOfs.comb (x : LoopOfs) (i : Nat) (y : LoopOfs) (j : Nat) : LoopOfs :=
  ⟨x.a * i + y.a * j, x.s * i + y.s * j, x.c * i + y.c * j, x.v * i + y.v * j⟩

/-- Replace a field of a word. -/
def putField (w : W128) (lsb n v : Nat) : W128 :=
  BitVec.ofNat 128 (w.toNat - wf w lsb n * 2 ^ lsb + (v % 2 ^ n) * 2 ^ lsb)

/-- Add to an address field; true where the result leaves `0 … lim - 1`. -/
def moveField (w : W128) (lsb n : Nat) (d : Int) (lim : Nat) : W128 × Bool :=
  let x : Int := (wf w lsb n : Int) + d
  (putField w lsb n (ofSigned n x), x < 0 || (lim : Int) ≤ x)

/-- Add to an operand specifier at `lsb` by its space. -/
def moveSpec (w : W128) (lsb : Nat) (o : LoopOfs) : W128 × Bool :=
  let sp := wf w (lsb + 16) 2
  if sp = 0 then moveField w lsb 16 o.a 65536
  else if sp = 1 then moveField w lsb 16 o.s 16384
  else if sp = 2 then moveField w lsb 16 (16 * o.c) 32768
  else (w, false)

/-- Apply moves one after another. -/
def moves (ms : List (W128 → W128 × Bool)) (w : W128) : W128 × Bool :=
  ms.foldl (fun x f => let y := f x.1; (y.1, x.2 || y.2)) (w, false)

/-- A copy of an instruction with its offsets (R324, Table 12-6). -/
def moved (w : W128) (o : LoopOfs) : W128 × Bool :=
  let op := wOpc w
  if op = oLDV ∨ op = oSTV then
    let pail := wf w 99 2
    moves [fun x => if pail = 0 then moveField x 83 16 o.a 65536 else if pail = 1 then moveField x 83 16 o.s 16384
        else if pail = 2 then moveField x 83 16 (16 * o.c) 32768 else (x, false),
      fun x => ((moveField x 41 42 o.v (2 ^ 42)).1, false)] w
  else if op = oSLD then moveField w 77 14 o.s 16384
  else if op = oMPASS then
    let p := passOf w
    moves [fun x => moveField x 60 16 o.a 65536, fun x => moveField x 41 11 o.c 2048,
      fun x => if p.shape = 4 then moveField x 9 16 o.a 65536 else if isWide p.fmt then moveField x 9 16 o.s 16384 else (x, false)] w
  else if op = oVOP then
    let v := vopOf w
    moves [fun x => moveSpec x 77 o, fun x => moveSpec x 59 o, fun x => if vopUsesB v.fn then moveSpec x 41 o else (x, false),
      fun x => if vopUsesC v.fn then moveSpec x 23 o else (x, false)] w
  else if op = oVRED then moves [fun x => moveSpec x 81 o, fun x => moveSpec x 63 o] w
  else if op = oVCVT then moves [fun x => moveSpec x 72 o, fun x => moveSpec x 54 o] w
  else if op = oVTOPK then (if wf w 97 1 = 1 then (w, false) else moveSpec w 79 o)
  else if op = oHMSG then
    let pail := wf w 100 2
    if pail = 0 then moveField w 82 18 (4 * o.a) 262144
    else if pail = 1 then moveField w 82 18 (4 * o.s) 65536
    else if pail = 2 then moveField w 82 18 (64 * o.c) 131072 else (w, false)
  else (w, false)

end Sys2Proof.Machine
end

