-- ==== Sys2Proof/Machine/Vat.lean ====
section
/-! DEFINITION. The Vat and its pages (05 R107 to R109, 14 R371 to R377, R381, R382): where a P-address lies, reads and writes
under a partition's key, the metadata of a unit and the errors in it, clears. -/
namespace Sys2Proof.Machine

/-- Bytes of a page (R371). -/
def pageSize : Nat := 2097152
/-- Pages of the Vat (R371). -/
def pageCount : Nat := 147456

/-- Page `i`. -/
def State.page (s : State) (i : Nat) : PageEnt := s.pages.get {} ⟨i, 0, 0⟩
/-- Set a page. -/
def State.setPage (s : State) (i : Nat) (e : PageEnt) : State := { s with pages := s.pages.set {} ⟨i, 0, 0⟩ e }

/-- Partition `p`. -/
def State.part (s : State) (p : Nat) : Part := s.parts.get {} ⟨p, 0, 0⟩
/-- Set a partition. -/
def State.setPart (s : State) (p : Nat) (x : Part) : State := { s with parts := s.parts.set {} ⟨p, 0, 0⟩ x }

/-! ### Partition states (05 Table 5-1) -/
def ptDisabled : Nat := 0
def ptOpen : Nat := 1
def ptSealed : Nat := 2
def ptReclaim : Nat := 3

/-- The state of partition `p`. -/
def State.ptState (s : State) (p : Nat) : Nat := s.fld F.SEP_PT_CTL_STATE p

/-- Valid entries of partition `p` (R107). -/
def State.npages (s : State) (p : Nat) : Nat :=
  (s.pages.keysWith fun _ e => e.valid && e.part == p).length

/-- The page that holds P-page `pp` of partition `p`. -/
def State.pageOf (s : State) (p pp : Nat) : Option Nat :=
  ((s.pages.keysWith fun _ e => e.valid && e.part == p && e.ppage == pp).map (·.a)).head?

/-- What stands at a P-address for the work of its partition. -/
inductive VLoc where
  /-- Physical byte address. -/
  | phys (a : Nat)
  /-- The access waits: the page is in CLEARING or the Vat is not ON (05 R109, 03 R64). -/
  | stall
  /-- At or above `NPAGES` * 2 MiB. -/
  | range
  /-- Below it, and no page is mapped there. -/
  | gone
  deriving DecidableEq, Repr

/-- The controllers serve an access: PD09 is ON, or it is on its way to RETAIN and the access arrived before that (14 R387). -/
def State.vatServes (s : State) : Bool := s.pow.vat == .on || (s.pow.vat == .toRetain && s.vmem.drains)

/-- Where P-address `a` of partition `p` lies. -/
def State.vloc (s : State) (p a : Nat) : VLoc :=
  if s.npages p ≤ a / pageSize then .range
  else match s.pageOf p (a / pageSize) with
    | none => .gone
    | some i =>
      if s.vatServes = true ∧ (s.page i).st = .mapped then .phys (i * pageSize + a % pageSize) else .stall

/-- The units of `n` bytes from physical address `a` on. -/
def unitsOf (a n : Nat) : List Nat := (List.range ((a + n + 63) / 64 - a / 64)).map (a / 64 + ·)

/-! ### Units (R371, R375, R377, R381, R382) -/

/-- The metadata byte of unit `u`; an unlisted one is that of a clean unit. -/
def State.unitMeta (s : State) (u : Nat) : Nat := s.vmem.mdata.get 1 ⟨u, 0, 0⟩

/-- `CLEAN` and `POISON` of unit `u`. -/
def State.isClean (s : State) (u : Nat) : Bool := hasBit (s.unitMeta u) 0
def State.isPoisoned (s : State) (u : Nat) : Bool := hasBit (s.unitMeta u) 1

/-- The errors that stand in unit `u`. -/
def State.unitErrs (s : State) (u : Nat) : UnitErrs := s.vmem.errs.get {} ⟨u, 0, 0⟩

/-- A read of unit `u` is uncorrectable: it is poisoned, or four of its bytes or more are in error. -/
def State.unitBad (s : State) (u : Nat) : Bool := s.isPoisoned u || 4 ≤ (s.unitErrs u).bytes

/-- The 64 data bytes of unit `u` as stored. -/
def State.unitData (s : State) (u : Nat) : Bytes := memRead 0 s.vmem.mem (64 * u) 64

/-- The code word of unit `u` (Table 14-1): data, metadata and check bytes. -/
def State.vatWord (s : State) (u : Nat) : Bytes × Nat × BitVec 56 :=
  (s.unitData u, s.unitMeta u, Config.vatCheck (s.unitData u) (s.unitMeta u))

/-- The data of unit `u` for a requester under `key`, where it is unit `pu` of the P-addresses: zeros where it is clean, else
decrypted (R375, R377). -/
def State.unitPlain (s : State) (key : Bytes) (pu u : Nat) : Bytes :=
  if s.isClean u then List.replicate 64 0 else xtsDec key pu (s.unitData u)

/-- `n` bytes from P-address `pa` on under `key`, at physical address `a` of its page. -/
def State.vread (s : State) (key : Bytes) (pa a n : Nat) : Bytes :=
  (((unitsOf a n).flatMap fun u => s.unitPlain key (pa / 64 + (u - a / 64)) u).drop (a % 64)).take n

/-- What a write of `bs` at physical address `a` puts into unit `u`, byte by byte: none where no byte is enabled. -/
def unitPart (a : Nat) (bs : List (Byte × Bool)) (u : Nat) : List (Option Byte) :=
  (List.range 64).map fun j =>
    if a ≤ 64 * u + j then
      match bs[64 * u + j - a]? with
      | some (b, true) => some b
      | _ => none
    else none

/-- Units that a write touches without enabling every byte of them: they are read first. -/
def partUnits (a : Nat) (bs : List (Byte × Bool)) : List Nat :=
  (unitsOf a bs.length).filter fun u => (unitPart a bs u).any (·.isSome) && (unitPart a bs u).any (·.isNone)

/-- Write unit `u`, unit `pu` of the P-addresses, under `key`: what the write leaves out keeps its value, the unit is stored
encrypted with `CLEAN` = 0 and `POISON` = 0, and no error stands in it any longer (R375, R377, R382). -/
def State.unitWrite (s : State) (key : Bytes) (pu u : Nat) (ws : List (Option Byte)) : State :=
  if ws.any (·.isSome) then
    let data := (ws.zip (s.unitPlain key pu u)).map fun x => x.1.getD x.2
    { s with vmem := { s.vmem with
        mem := memWrite 0 s.vmem.mem (64 * u) (xtsEnc key pu data)
        mdata := s.vmem.mdata.set 1 ⟨u, 0, 0⟩ 0
        errs := s.vmem.errs.set {} ⟨u, 0, 0⟩ {} } }
  else s

/-- Write the enabled bytes of `bs` at P-address `pa` under `key`, at physical address `a` of its page. -/
def State.vwriteOn (s : State) (key : Bytes) (pa a : Nat) (bs : List (Byte × Bool)) : State :=
  (unitsOf a bs.length).foldl (fun b u => b.unitWrite key (pa / 64 + (u - a / 64)) u (unitPart a bs u)) s

/-- Write every byte of `bs`. -/
def State.vwrite (s : State) (key : Bytes) (pa a : Nat) (bs : Bytes) : State := s.vwriteOn key pa a (bs.map fun b => (b, true))

/-- Insert into an ascending list without repeats. -/
def insNat (x : Nat) : List Nat → List Nat
  | [] => [x]
  | y :: t => if x < y then x :: y :: t else if x = y then y :: t else y :: insNat x t

/-- An uncorrectable unit is written back with `POISON` = 1 (R382). -/
def State.vpoison (s : State) (u : Nat) : State :=
  { s with vmem := { s.vmem with mdata := s.vmem.mdata.set 1 ⟨u, 0, 0⟩ 2, errs := s.vmem.errs.set {} ⟨u, 0, 0⟩ {} } }

/-- Errors arise in the storage of unit `u`. -/
def State.vplant (s : State) (u : Nat) (e : UnitErrs) : State :=
  { s with vmem := { s.vmem with errs := s.vmem.errs.set {} ⟨u, 0, 0⟩ e } }

/-- Unit `u` lies in page `i`. -/
def inPage (i u : Nat) : Bool := u * 64 / pageSize == i

/-- Every unit of page `i` holds zeros with `CLEAN` = 1 and `POISON` = 0 (R375, R392). -/
def State.vclear (s : State) (i : Nat) : State :=
  { s with vmem := { s.vmem with
      mem := memClear s.vmem.mem (i * pageSize) pageSize
      mdata := s.vmem.mdata.without fun k => inPage i k.a
      errs := s.vmem.errs.without fun k => inPage i k.a } }

/-- Keep `NPAGES` of a partition (R107). -/
def State.putNpages (s : State) (p : Nat) : State := s.put F.SEP_PT_NPAGES_NPAGES (s.npages p) p

/-- The controller of a physical address, and its stack (R371, R372). -/
def stackOf (a : Nat) : Nat := ((a % pageSize / 256 + a / pageSize) % 128) / 16

end Sys2Proof.Machine
end

