-- ==== Sys2Proof/Machine/TileOps.lean ====
section
/-! DEFINITION. The Parlour of a tile (11 R275 to R284, 12 R320 to R327, 13 R349 to R360): tokens, exceptions, the ways an
instruction ends, the entry of slots and loop copies, stops, zeroing, and compute to idle. -/
namespace Sys2Proof.Machine

/-- Logical tile `t`. -/
def State.tile (s : State) (t : Nat) : Tile := s.tiles.get {} ⟨t, 0, 0⟩
/-- Set a tile. -/
def State.setTile (s : State) (t : Nat) (x : Tile) : State := { s with tiles := s.tiles.set {} ⟨t, 0, 0⟩ x }

/-- Partition `p` owns tile `t` (05 R104). -/
def State.owns (s : State) (p t : Nat) : Bool := s.bit F.SEP_PT_TILES_TILES t p
/-- The partition that owns tile `t`. -/
def State.ownerOf (s : State) (t : Nat) : Option Nat := ((List.range 16).filter fun p => s.owns p t).head?
/-- Tiles of partition `p`. -/
def State.tilesOf (s : State) (p : Nat) : List Nat := bitsSet (s.fld F.SEP_PT_TILES_TILES p) 64

/-- The group of tile `t` is powered. -/
def State.tileOn (s : State) (t : Nat) : Bool := s.dom (15 + s.groupOf t) == .on
/-- Tile `t` can run instructions. -/
def State.tileLive (s : State) (t : Nat) : Bool :=
  s.tileOn t && !(s.tile t).zeroing && !(s.tile t).halted && !s.idle.on

/-! ### Performance counters (13 Table 13-4) -/
def pfBUNDLES : Nat := 0
def pfISSUED : Nat := 1
def pfROWS : Nat := 2
def pfARRAY_BUSY : Nat := 3
def pfBUBBLES : Nat := 4
def pfVEC_ROWS : Nat := 5
def pfLADLE_BYTES : Nat := 6
def pfPREEMPT : Nat := 7
def pfRESUME : Nat := 8
def pfABORTED : Nat := 9
def pfCPL : Nat := 10
def pfDB_DROP : Nat := 11

/-- Count on partition `p` (R361). -/
def State.perf (s : State) (p i : Nat) (n : Nat := 1) : State :=
  if s.flag F.SEP_PC_PERF_CTL_FREEZE 0 p then s else s.count F.SEP_PC_PERF_COUNT n i p

/-- Count on the partition of tile `t`. -/
def State.tilePerf (s : State) (t i : Nat) (n : Nat := 1) : State :=
  match s.ownerOf t with
  | some p => s.perf p i n
  | none => s

/-! ### Tokens (R275 to R277) -/

/-- Token `k`. -/
def Tile.tok (x : Tile) (k : Nat) : Token := x.toks.get {} ⟨k, 0, 0⟩
/-- Set a token. -/
def Tile.setTok (x : Tile) (k : Nat) (v : Token) : Tile := { x with toks := x.toks.set {} ⟨k, 0, 0⟩ v }

/-- How many of the two wait fields name token `k`. -/
def wNeeds (w : W128) (k : Nat) : Nat := b2n (wW0 w == k) + b2n (wW1 w == k)

/-- Tokens that an instruction waits on. -/
def wTokens (w : W128) : List Nat := (List.range 32).filter fun k => wNeeds w k != 0

/-- Every token it names has a sufficient count (R276). -/
def Tile.ready (x : Tile) (w : W128) : Bool := (wTokens w).all fun k => wNeeds w k ≤ (x.tok k).count

/-- Consume the tokens of an instruction; true where one was poisoned (R276). -/
def Tile.consume (x : Tile) (w : W128) : Tile × Bool :=
  (wTokens w).foldl (fun (a : Tile × Bool) k =>
    let v := a.1.tok k
    let n := v.count - wNeeds w k
    (a.1.setTok k { count := n, poison := v.poison && n != 0 }, a.2 || v.poison)) (x, false)

/-- An exception of tile `t` (R283): `TIL_EXC` and an event of its block, whose address is the bundle's ring index. -/
def State.tilExc (s : State) (t : Nat) (e : PEnt) (code : Nat) : State :=
  let x := s.tile t
  let s1 := s.setTile t { x with excCnt := incSat 16 x.excCnt, excOpc := wOpc e.word, excCode := code }
  s1.event ⟨bTIL, t, code, if code = xPAIL_UE then lDegrade else lNote, e.idx, 3, t, (s.ownerOf t).getD 255⟩

/-- Signal token `k` of tile `t`; the instruction `e` of tile `it` signals (R277). -/
def State.signal (s : State) (t k : Nat) (poison : Bool) (it : Nat) (e : PEnt) : State :=
  let x := s.tile t
  let v := x.tok k
  if v.count < 15 then s.setTile t (x.setTok k { count := v.count + 1, poison := v.poison || poison })
  else (s.setTile t (x.setTok k { count := 15, poison := true })).tilExc it e xTOKEN_OVF

/-! ### Barriers (12 R322, R333) -/

/-- Barrier `b` of partition `p`. -/
def State.bar (s : State) (p b : Nat) : Barrier := (s.part p).bars.get {} ⟨b, 0, 0⟩
/-- Set a barrier; one without arrivals has no open generation. -/
def State.setBar (s : State) (p b : Nat) (x : Barrier) : State :=
  s.setPart p { s.part p with bars := (s.part p).bars.set {} ⟨b, 0, 0⟩ (if x.tiles.isEmpty then { full := x.full } else x) }

/-- Withdraw the arrival of tile `t` at barrier `b`; a generation whose arrivals have all been made still completes for the
others (R322). -/
def State.withdraw (s : State) (p b t : Nat) : State :=
  let x := s.bar p b
  s.setBar p b { x with
    tiles := x.tiles.filter fun y => y.1 != t
    full := x.full.map fun g => g.filter fun y => y.1 != t }

/-- The barrier of a BAR. -/
def wBid (w : W128) : Nat := wf w 98 4

/-- Withdraw the arrival of an issued BAR. -/
def State.unbar (s : State) (t : Nat) (e : PEnt) : State :=
  match s.ownerOf t with
  | some p => if e.issued && wOpc e.word == oBAR then s.withdraw p (wBid e.word) t else s
  | none => s

/-! ### Remote signals (12 R321, R334) -/

/-- Target tile and token of an XSIG. -/
def wXtile (w : W128) : Nat := wf w 96 6
def wXtok (w : W128) : Nat := wf w 91 5

/-- Remove the first entry that has a property. -/
def dropFirst {α : Type} (p : α → Bool) : List α → List α
  | [] => []
  | x :: t => if p x then t else x :: dropFirst p t

/-- Take back the increment of an XSIG of tile `t` that waits for a power-up. -/
def State.unsend (s : State) (t : Nat) (e : PEnt) : State :=
  if e.waits then
    let g := wXtile e.word
    let x := s.tile g
    s.setTile g { x with xsigs := dropFirst (fun y => y.tok == wXtok e.word && !y.poison && y.src == t && y.idx == e.idx) x.xsigs }
  else s

/-- Deliver to a token of another tile, or keep the increment until that tile's group has powered up, which it asks for like any
other source of a request (R334, 03 R60): refused, the increment waits for a power-up that something else brings. -/
def State.send (s : State) (t : Nat) (e : PEnt) (poison : Bool) : State :=
  let g := wXtile e.word
  if s.tileOn g then s.signal g (wXtok e.word) poison t e
  else
    let x := s.tile g
    (s.setTile g { x with xsigs := x.xsigs ++ [⟨wXtok e.word, poison, t, e.word, e.idx⟩] }).request false false 0 (2 ^ s.groupOf g)

/-- The poisoned increment of an XSIG that ends ABORTED (R321), where its target belongs to the partition. -/
def State.xsigAbort (s : State) (t : Nat) (e : PEnt) : State :=
  match s.ownerOf t with
  | some p => if s.owns p (wXtile e.word) then (s.unsend t e).send t e true else s
  | none => s

/-! ### Ends -/

/-- Signal the SG token of an instruction. -/
def State.signalSg (s : State) (t : Nat) (e : PEnt) (poison : Bool) : State :=
  if wSg e.word ≤ 31 then s.signal t (wSg e.word) poison t e else s

/-- Results a pass of a shape leaves unwritten behind the row entered last: L - 1 of Table 9-3, where L counts cell rows whatever the
format (09 R222, R231). -/
def passDepth (shape : Nat) : Nat := shapeK shape + shapeN shape + 11

/-- Rows of a stopped pass that had entered the array and are discarded are counted too (13 R357, R361, Table 13-4).  With row
j the first one unwritten and no bubble they are the next L - 1; before the first result, and under bubbles, their number is
a free value (log entry 25). -/
def State.rowsLost (s : State) (t : Nat) (e : PEnt) : State :=
  let p := passOf e.word
  if e.issued = true ∧ wOpc e.word = oMPASS then
    let most := min (p.m - e.done) (passDepth p.shape)
    if 0 < e.done ∧ s.fld F.GOV_STAT_LEVEL = 0 then s.tilePerf t pfROWS most
    else let f := s.free; f.2.tilePerf t pfROWS (f.1 % (most + 1))
  else s

/-- The resume point of an instruction (Table 13-3): 0 for a reduced pass (R357). -/
def PEnt.resumeRow (e : PEnt) : Nat := if wOpc e.word = oMPASS ∧ (passOf e.word).red = true then 0 else e.done

/-- An instruction that has left the Parlour ends ABORTED: `code` its exception, or 0 for a reaction stop (R277, R282,
R328, Table 13-1, Table 13-14). -/
def State.endAborted (s : State) (t : Nat) (e : PEnt) (code : Nat) : State :=
  let s1 := if code = 0 then s else s.tilExc t e code
  let x := s1.tile t
  let s2 := s1.setTile t { x with
    aborts := incSat 8 x.aborts
    lastExc := if code = 0 then x.lastExc else code
    lastStop := if code = 0 then 2 else 1
    stop := ⟨e.ring, e.sub, if code = 0 then 3 else 2, wOpc e.word, e.resumeRow⟩ }
  let s3 := (((s2.tilePerf t pfABORTED).rowsLost t e).unbar t e).signalSg t e true
  if wOpc e.word = oXSIG ∧ code ≠ xXTILE then s3.xsigAbort t e else s3

/-- Bytes of a space of a tile. -/
def Tile.space (x : Tile) (sp : Nat) : List Host.Cell := if sp = 0 then x.a else if sp = 1 then x.sp else if sp = 2 then x.c else x.vr
/-- Set a space. -/
def Tile.setSpace (x : Tile) (sp : Nat) (m : List Host.Cell) : Tile :=
  if sp = 0 then { x with a := m } else if sp = 1 then { x with sp := m } else if sp = 2 then { x with c := m } else { x with vr := m }

/-- Write bytes into a space. -/
def Tile.put (x : Tile) (sp a : Nat) (bs : Bytes) : Tile := x.setSpace sp (memWrite 0 (x.space sp) a bs)

/-- Every result of the vector unit that is on its way is written (Table 13-2). -/
def Tile.vflush (x : Tile) : Tile :=
  { x.vpend.foldl (fun (a : Tile) w => a.put w.1 w.2.1 w.2.2) x with vpend := [] }

/-- What stopping an issued instruction does to the tile (R245, Table 13-2): stopping a pass or a shadow load abandons the shadow
load under way, whichever instruction asked for it, and the shadow becomes EMPTY; a direct load or a V stream leaves `ACT_VALID` at 0, which it is while they run; rows read are written. -/
def Tile.quench (x : Tile) (e : PEnt) : Tile :=
  if !e.issued then x
  else if queueOf e.word = .vector then x.vflush
  else if (wOpc e.word = oSLD ∧ e.direct = false) ∨ wOpc e.word = oMPASS then
    (if x.shdSt = .loading then { x with shdSt := .empty, shd := {} } else x)
  else x

/-- An issued instruction becomes a record entry: a load, and a reduced pass, lose their progress (R304, R365). -/
def PEnt.recorded (e : PEnt) : PEnt :=
  if !e.issued then e
  else
    { e with issued := false, direct := false, red := {}, cut := false, waits := false, part := 0, seq := 0
             done := if wOpc e.word = oSLD then 0 else e.resumeRow }

/-- Put an entry among others in the order in which they entered the Parlour (R353). -/
def insOrd (e : PEnt) : List PEnt → List PEnt
  | [] => [e]
  | x :: t => if e.ord < x.ord then e :: x :: t else x :: insOrd e t

/-- Add to the record of a level. -/
def Tile.record (x : Tile) (l : Nat) (f : PassRec → PassRec) : Tile :=
  { x with saved := x.saved.set {} ⟨l, 0, 0⟩ (f (x.saved.get {} ⟨l, 0, 0⟩)) }

/-- Levels that hold a record. -/
def Tile.savedLevels (x : Tile) : List Nat := (x.saved.keysWith fun _ _ => true).map (·.a)

/-- The entries without the one at `i`. -/
def dropAt {α : Type} : Nat → List α → List α
  | _, [] => []
  | 0, _ :: t => t
  | n + 1, x :: t => x :: dropAt n t

/-- A vector instruction that reads C-Pail rows an older MPASS `m` writes follows it from its issue on (R312), also where it was
stopped, has been resumed and has yet to issue again (R332). -/
def follows (f m : PEnt) : Bool :=
  (f.issued || f.taken) && queueOf f.word == .vector && wOpc m.word == oMPASS && anyMeets (readsOf f.word) (writesOf m.word)

/-- Position of the first entry with a property. -/
def posOf (p : PEnt → Bool) : Nat → List PEnt → Option Nat
  | _, [] => none
  | n, e :: t => if p e then some n else posOf p (n + 1) t

/-- An SLD whose shadow load was abandoned with a stopped pass ends ABORTED (R245, R307): an issued one without a load under
way.  It took no exception: it ends as for a reaction stop (log entry 58). -/
def State.dropLoads (s : State) (t : Nat) : State :=
  let x := s.tile t
  match posOf (fun e => e.issued && wOpc e.word == oSLD && !e.direct && x.shdSt != .loading) 0 x.ents with
  | some i =>
    match x.ents[i]? with
    | some e => (s.setTile t { x with ents := dropAt i x.ents }).endAborted t e 0
    | none => s
  | none => s

/-- The entry at `i` leaves and ends ABORTED with an exception. -/
def State.abortOne (s : State) (t i code : Nat) : State :=
  let x := s.tile t
  match x.ents[i]? with
  | some e => (s.setTile t { x.quench e with ents := dropAt i x.ents }).endAborted t e code
  | none => s

/-- Every follower of an aborted MPASS, an entry at `k` or behind it, ends with SOURCE_LOST (R332). -/
def State.loseFollowers (m : PEnt) (t k : Nat) : Nat → State → State
  | 0, s => s
  | n + 1, s =>
    match posOf (follows · m) k ((s.tile t).ents.drop k) with
    | some i => State.loseFollowers m t k n (s.abortOne t i xSOURCE_LOST)
    | none => s

/-- Every stopped follower of an aborted MPASS that stands in a record or waits to re-enter ends with SOURCE_LOST (R332). -/
def State.loseStopped (m : PEnt) (t : Nat) (s : State) : State :=
  let x := s.tile t
  let lost (f : PEnt) : Bool := m.ord < f.ord && follows f m
  let ls := x.savedLevels
  let gone := (x.back ++ ls.flatMap fun l => (x.saved.get {} ⟨l, 0, 0⟩).ents).filter lost
  let y := ls.foldl (fun (a : Tile) l => a.record l fun r => { r with ents := r.ents.filter fun f => !lost f })
    { x with back := x.back.filter fun f => !lost f }
  if gone.isEmpty then s else gone.foldl (fun a f => a.endAborted t f xSOURCE_LOST) (s.setTile t y)

/-- The entry at `i` ends ABORTED with an exception; the followers of an MPASS, issued or stopped, and a shadow load that its stop
abandoned end with it. -/
def State.abortAt (s : State) (t i code : Nat) : State :=
  match (s.tile t).ents[i]? with
  | some e =>
    let s1 := s.abortOne t i code
    if wOpc e.word = oMPASS then (State.loseStopped e t (State.loseFollowers e t i 32 s1)).dropLoads t else s1
  | none => s

/-! ### Entry into the Parlour (R272, R279, R324, R326, R353) -/

/-- Length and count of a LOOP. -/
def loopLen (w : W128) : Nat := wf w 98 4 + 1
def loopCnt (w : W128) : Nat := wf w 86 12 + 1

/-- A LOOP that opens: its fields are well formed. -/
def PEnt.nests (e : PEnt) : Bool := wOpc e.word == oLOOP && !fieldBad e.word

/-- A body that R326 forbids. -/
def nestBad (body : List PEnt) : Bool :=
  (List.range body.length).any fun k =>
    match body[k]? with
    | some e => wOpc e.word == oRFENCE ||
        (e.nests && (body.length < k + 1 + loopLen e.word || ((body.drop (k + 1)).take (loopLen e.word)).any PEnt.nests))
    | none => false

/-- Bring a loop to its next copy; none where every copy has been passed. -/
def LoopBuf.settle : Nat → LoopBuf → Option LoopBuf
  | 0, _ => none
  | n + 1, lb =>
    match lb.inner with
    | some i =>
      if lb.pc < i.start + i.len then some lb
      else if i.it + 1 < i.cnt then LoopBuf.settle n { lb with pc := i.start, inner := some { i with it := i.it + 1 } }
      else LoopBuf.settle n { lb with inner := none }
    | none =>
      match lb.body[lb.pc]? with
      | none => if lb.it + 1 < loopCnt lb.ent.word then LoopBuf.settle n { lb with pc := 0, it := lb.it + 1 } else none
      | some e =>
        if e.nests then
          LoopBuf.settle n { lb with
            inner := some { start := lb.pc + 1, len := loopLen e.word, cnt := loopCnt e.word, word := e.word }
            pc := lb.pc + 1 }
        else some lb

/-- The copy a loop passes next, with the offsets of both levels. -/
def LoopBuf.copy (lb : LoopBuf) : Option PEnt :=
  match lb.body[lb.pc]? with
  | some e =>
    let inner := match lb.inner with
      | some i => (loopOfs i.word, i.it)
      | none => (⟨0, 0, 0, 0⟩, 0)
    let m := moved e.word ((loopOfs lb.ent.word).comb lb.it inner.1 inner.2)
    some { e with word := m.1, oob := m.2 }
  | none => none

/-- The first slot of the inbound buffer whose level is not saved, and the buffer without it. -/
def firstSlot (saved : List Nat) : List (List PEnt) → Option (PEnt × List (List PEnt))
  | [] => none
  | [] :: bs => firstSlot saved bs
  | (e :: r) :: bs =>
    if saved.contains e.lvl then (firstSlot saved bs).map fun y => (y.1, (e :: r) :: y.2)
    else some (e, if r.isEmpty then bs else r :: bs)

/-- Take the next slot: those of a resumed level go first (R353), then the inbound buffer, where slots of a level that is saved wait
behind the saved instructions and hold back no other level (R351). -/
def Tile.takeSlot (x : Tile) : Option (PEnt × Tile) :=
  match x.again with
  | e :: r => some (e, { x with again := r })
  | [] => (firstSlot x.savedLevels x.inb).map fun y => (y.1, { x with inb := y.2 })

/-- An instruction enters the Parlour behind the others, and takes its place in their order unless it has one. -/
def Tile.letIn (x : Tile) (e : PEnt) : Tile :=
  if e.ord = 0 then { x with ents := x.ents ++ [{ e with ord := x.entered + 1 }], entered := x.entered + 1 }
  else { x with ents := x.ents ++ [e] }

/-- Several instructions end ABORTED with one exception, in order. -/
def State.abortAll (s : State) (t code : Nat) (es : List PEnt) : State := es.foldl (fun a e => a.endAborted t e code) s

/-- One slot or loop copy moves toward the Parlour; none where nothing can. -/
def State.enterOne (s : State) (t : Nat) : Option State :=
  let x := s.tile t
  match x.back with
  | e :: r => if x.ents.length < 32 then some (s.setTile t ({ x with back := r }.letIn e)) else none
  | [] =>
    match x.loop with
    | some lb =>
      if lb.full then
        match LoopBuf.settle 8 lb with
        | none => some (s.setTile t { x with loop := none })
        | some lc =>
          match lc.copy with
          | none => none
          | some e =>
            if wOpc e.word = oLOOP then
              some ((s.setTile t { x with loop := some { lc with pc := lc.pc + 1 } }).endAborted t e xFIELD)
            else if x.ents.length < 32 then
              some (s.setTile t ({ x with loop := some { lc with pc := lc.pc + 1 } }.letIn e))
            else none
      else
        match x.takeSlot with
        | none => none
        | some (e, y) =>
          let body := lb.body ++ [e]
          if body.length < loopLen lb.ent.word then some (s.setTile t { y with loop := some { lb with body := body } })
          else if nestBad body then
            some ((s.setTile t { y with loop := none }).abortAll t xLOOP_NEST (lb.ent :: body))
          else some (s.setTile t { y with loop := some { lb with body := body, full := true } })
    | none =>
      match x.takeSlot with
      | none => none
      | some (e, y) =>
        if wOpc e.word = oLOOP then none
        else if x.ents.length < 32 then some (s.setTile t (y.letIn e))
        else none

/-- Slots enter while they can. -/
def State.enterSlots (t : Nat) : Nat → State → State
  | 0, s => s
  | n + 1, s =>
    match s.enterOne t with
    | some s1 => State.enterSlots t n s1
    | none => s

/-- Let slots enter tile `t`. -/
def State.enter (s : State) (t : Nat) : State := State.enterSlots t 128 s

/-- The entry at `i` completes OK. -/
def State.completeAt (s : State) (t i : Nat) : State :=
  let x := s.tile t
  match x.ents[i]? with
  | some e => ((s.setTile t { x with ents := dropAt i x.ents }).signalSg t e false).enter t
  | none => s

/-- The entry at `i` ends ABORTED, and slots enter behind it. -/
def State.abortEnter (s : State) (t i code : Nat) : State := (s.abortAt t i code).enter t

/-! ### Issue (R276, R278, R280, R281, R284, R312) -/

/-- What the dynamic conditions of an instruction say. -/
inductive Dyn where
  | go
  | wait
  | exc (code : Nat)
  deriving DecidableEq, Repr

/-- The older instruction `o` holds the younger `e` back. -/
def holds (o e : W128) : Bool :=
  let ww := anyMeets (writesOf o) (writesOf e)
  let rw := anyMeets (readsOf o) (writesOf e)
  if wOpc o = oMPASS ∧ wOpc e = oMPASS ∧ (passOf o).shape = (passOf e).shape ∧ (passOf o).t = (passOf e).t then false
  else if wOpc o = oMPASS ∧ queueOf e = .vector then ww || rw
  else ww || rw || anyMeets (writesOf o) (readsOf e)

/-- Some older entry holds the one at `i` back. -/
def Tile.blocked (x : Tile) (i : Nat) (e : PEnt) : Bool := (x.ents.take i).any fun o => holds o.word e.word

/-- The oldest unissued entry of a queue. -/
def Tile.head (x : Tile) (q : Queue) : Option Nat := posOf (fun e => !e.issued && queueOf e.word == q) 0 x.ents

/-- The head of queue `q` entered before the entry `e` at `i`, could issue, and waits on a token whose count does not cover
both: it issues first (R301).  The rule does not say whether an older head that cannot issue keeps the token: one that the interlock
holds back lets the younger take it, one that waits on its own conditions does not (DESIGN CHOICE, log entry 82). -/
def Tile.goesFirst (x : Tile) (i : Nat) (e : PEnt) (q : Queue) : Bool :=
  match x.head q with
  | some j =>
    (match x.ents[j]? with
    | some o => decide (j < i) && !o.taken && x.ready o.word && !x.blocked j o &&
        (wTokens e.word).any fun k => wNeeds o.word k != 0 && (x.tok k).count < wNeeds o.word k + wNeeds e.word k
    | none => false)
  | none => false

/-- Some older head of another queue takes a token of the entry at `i` first (R301). -/
def Tile.outrun (x : Tile) (i : Nat) (e : PEnt) : Bool :=
  !e.taken && [Queue.ladle0, .ladle1, .array, .vector, .control].any (x.goesFirst i e)

/-- What the head of a queue comes to. -/
inductive HeadRes where
  | waits
  /-- It ends with an exception; the tile after its tokens were consumed. -/
  | ends (x : Tile) (i code : Nat)
  /-- It issues, as the entry stood and with the tile after its tokens were consumed. -/
  | goes (x : Tile) (i : Nat) (e : PEnt) (poisoned : Bool)

/-- The head of a queue of tile `t` where its opcode is one that the command names: tokens, POISONED first of all, then the lowest
exception of the word, then the interlock and the instruction's own conditions.  An instruction that an exception of its word or
of its conditions ends has consumed its tokens, and is ended before the interlock is looked at; R276 and R282 do not say either
(DESIGN CHOICE, log entry 82). -/
def State.headRes (s : State) (t : Nat) (q : Queue) (isOp : Nat → Bool) (dyn : State → Nat → PEnt → Dyn) : HeadRes :=
  let x := s.tile t
  match x.head q with
  | none => .waits
  | some i =>
    match x.ents[i]? with
    | none => .waits
    | some e =>
      if !isOp (wOpc e.word) || !s.tileLive t || !(e.taken || x.ready e.word) || x.outrun i e then .waits
      else
        let c := if e.taken then (x, false) else x.consume e.word
        let p := s.ownerOf t
        let bad := wordExc e (fun g => match p with
            | some p => s.owns p g
            | none => false) (match p with
            | some p => (s.tilesOf p).length
            | none => 0)
        -- a BAR carries the poison of its tokens to its barrier where nothing else ends it, and arrives again when resumed
        let code :=
          if wOpc e.word = oBAR then (if bad = 0 then 0 else if c.2 || e.poisoned then xPOISONED else bad)
          else if e.taken then 0 else if c.2 then xPOISONED else bad
        if code ≠ 0 then .ends c.1 i code
        else if x.blocked i e then .waits
        else
          match dyn s i e with
          | .wait => .waits
          | .exc k => .ends c.1 i (if wOpc e.word = oBAR ∧ (c.2 || e.poisoned) = true then xPOISONED else k)
          | .go => .goes c.1 i e c.2

/-- Issue the head of a queue of tile `t`, where it does; `act` does the rest, with the entry as it stood. -/
def State.issueHead (s : State) (t : Nat) (q : Queue) (isOp : Nat → Bool) (dyn : State → Nat → PEnt → Dyn)
    (act : State → Nat → PEnt → State) : State :=
  match s.headRes t q isOp dyn with
  | .waits => s
  | .ends x i k => (s.setTile t x).abortEnter t i k
  | .goes x i e po =>
    let e1 := { e with issued := true, taken := true, poisoned := e.poisoned || po }
    act ((s.setTile t { x with ents := setNth x.ents i e1 }).tilePerf t pfISSUED) i e

/-- Change the entry at `i`. -/
def State.setEnt (s : State) (t i : Nat) (f : PEnt → PEnt) : State :=
  let x := s.tile t
  match x.ents[i]? with
  | some e => s.setTile t { x with ents := setNth x.ents i (f e) }
  | none => s

/-! ### Stops (13 R355, R356; 05 R109; 11 R308) -/

/-- Every instruction of a tile: in the Parlour, waiting to re-enter, in the loop buffer, in the inbound buffer, saved. -/
def Tile.allEnts (x : Tile) : List PEnt :=
  let lp (l : Option LoopBuf) : List PEnt := match l with
    | some lb => if lb.full then lb.body.filter (fun e => wOpc e.word != oLOOP) else lb.ent :: lb.body
    | none => []
  x.ents ++ x.back ++ lp x.loop ++ x.again ++ x.inb.flatten ++
  ([7, 6, 5, 4, 3, 2, 1, 0].flatMap fun l =>
    let r := x.saved.get {} ⟨l, 0, 0⟩
    r.ents ++ lp r.loop ++ r.inb)

/-- A tile without instructions. -/
def Tile.emptied (x : Tile) : Tile :=
  { x.ents.foldl Tile.quench x with ents := [], back := [], loop := none, again := [], inb := [], saved := {} }

/-- A ramp grant queued for tile `t` is withdrawn (15 R412). -/
def State.unramp (s : State) (t : Nat) : State :=
  { s with gov := { s.gov with ramps := s.gov.ramps.filter fun x => x != t } }

/-- Reaction stop of tile `t`: every instruction ends ABORTED, `LAST_STOP` = 2 (Table 13-2). -/
def State.tileStop (s : State) (t : Nat) : State :=
  let x := s.tile t
  x.allEnts.foldl (fun a e => a.endAborted t e 0) ((s.setTile t x.emptied).unramp t)

/-- Arrivals and waiting remote signals of a tile's instructions are taken back, without a signal (R308, R333). -/
def State.retract (s : State) (t : Nat) : State :=
  (s.tile t).ents.foldl (fun a e => (a.unbar t e).unsend t e) s

/-- XSIGs that wait for the power-up of tile `t`, which leaves its partition, end with XTILE (R321, R334). -/
def State.loseXsigs (t : Nat) : List Xsig → State → State
  | [], s => s
  | y :: r, s =>
    let s1 := if y.poison then s else
      match posOf (fun e => e.waits && wXtile e.word == t) 0 (s.tile y.src).ents with
      | some i => s.abortEnter y.src i xXTILE
      | none => s
    State.loseXsigs t r s1

/-- Open generations that the owned tiles cannot fill end with BAR_COUNT (R333). -/
def State.barTrim (s : State) (p : Nat) : State :=
  (List.range 16).foldl (fun a b =>
    let x := a.bar p b
    if (a.tilesOf p).length < x.cnt then
      x.tiles.foldl (fun c y =>
        match posOf (fun e => e.issued && wOpc e.word == oBAR && wBid e.word == b) 0 (c.tile y.1).ents with
        | some i => c.abortEnter y.1 i xBAR_COUNT
        | none => c) a
    else a) s

/-- Zeroing of a tile that leaves partition `p` begins (R109, R249, R308, Table 13-2): its instructions end ABORTED as for a
reaction stop, and nothing is signalled. -/
def State.tileZero (s : State) (t : Nat) : State :=
  let waiting := (s.tile t).xsigs
  let s1 := State.loseXsigs t waiting ((s.retract t).unramp t)
  let x := s1.tile t
  let es := x.allEnts
  let s2 := es.foldl (fun a e => a.rowsLost t e) (s1.tilePerf t pfABORTED es.length)
  s2.setTile t { x.emptied with
    a := [], sp := [], c := [], vr := [], toks := {}, act := {}, actValid := true, shd := {}, shdSt := .empty
    xsigs := [], vpend := []
    aborts := addSat 8 x.aborts es.length
    lastStop := if es.isEmpty then x.lastStop else 2
    stop := match es.getLast? with
      | some e => ⟨e.ring, e.sub, 3, wOpc e.word, e.resumeRow⟩
      | none => x.stop
    rampDown := x.groups != 0, zeroing := true }

/-- A tile loses power (R250, R308, R369): everything it holds goes; it comes back as at reset.  Increments that other tiles
have sent it wait for the power-up all the same (12 R334). -/
def State.tileLost (s : State) (t : Nat) : State :=
  let zeroing := (s.tile t).zeroing
  let s1 := (s.retract t).unramp t
  s1.setTile t { zeroing := zeroing, xsigs := (s1.tile t).xsigs }

/-- The tiles of group `g` lose power. -/
def State.groupLost (s : State) (g : Nat) : State := (s.groupTiles g).foldl State.tileLost s

/-- A HALT of the TIL_ block of tile `t` (21 Table 21-4). -/
def State.tileHalt (s : State) (t : Nat) : State :=
  (s.setTile t { s.tile t with halted := true }).tileStop t

/-- An event of a TIL_ block at a level that can reach HALT. -/
def State.tilEv (s : State) (t typ lvl addr : Nat) : State :=
  let ev : Ev := ⟨bTIL, t, typ, lvl, addr, 3, t, (s.ownerOf t).getD 255⟩
  let l := s.levelOf ev
  let s1 := s.event ev
  if l = some lHalt then s1.tileHalt t else s1

/-- Block `c`, instance `i` stands at HALT. -/
def State.atHalt (s : State) (c i : Nat) : Bool := (s.blk c i).active && (s.blk c i).level == lHalt

/-- PAIL_UE may have brought the block to HALT: the reaction follows the abort. -/
def State.tilSettle (s : State) (t : Nat) : State :=
  if s.atHalt bTIL t && !(s.tile t).halted then s.tileHalt t else s

/-- An event of partition `p`'s block, with its HALT reaction: its tiles stop (21 Table 21-4). -/
def State.pcEv (s : State) (p typ lvl addr kind id : Nat) : State :=
  let ev : Ev := ⟨bPC, p, typ, lvl, addr, kind, id, p⟩
  let l := s.levelOf ev
  let s1 := s.event ev
  if l = some lHalt then (s1.tilesOf p).foldl State.tileStop s1 else s1

/-! ### Compute to idle (13 R356, 21 R571) -/

/-- Some cause orders compute to idle. -/
def State.idleWanted (s : State) : Bool :=
  s.idle.trip || s.idle.rind || s.idle.shut || s.atHalt bSEP 0 || s.atHalt bGOV 0 ||
  (List.range 8).any fun i => s.atHalt bVAT i

/-- Start or end the order where its causes ask: every tile is stopped as it starts, and partitions are told. -/
def State.idleSettle (s : State) : State :=
  let w := s.idleWanted
  if w = s.idle.on then s
  else
    let s1 := { s with idle := { s.idle with on := w } }
    let s2 := if w then s1.tileList.foldl (fun a t => if a.tileOn t then a.tileStop t else a) s1 else s1
    (List.range 16).foldl (fun a p => if a.ptState p = ptDisabled then a else a.partEvent p 0x07 lNote (b2n w)) s2

/-- Change the causes of compute to idle. -/
def State.idleCause (s : State) (f : Idle → Idle) : State := State.idleSettle { s with idle := f s.idle }

/-- An event of the SEP_, GOV_ or VAT_ block, with its HALT reaction. -/
def State.coreEv (s : State) (e : Ev) : State := (s.event e).idleSettle

/-! ### Uncorrectable units of the Vat (14 R382, Table 14-2) -/

/-- The owner of a physical page, with the P-page. -/
def State.pageOwner (s : State) (i : Nat) : Option (Nat × Nat) :=
  let e := s.page i
  if e.valid then some (e.part, e.ppage) else none

/-- An uncorrectable unit is counted, recorded, and its owner told (21 R571). -/
def State.ueReport (s : State) (u kind id part : Nat) : State :=
  let st := stackOf (64 * u)
  let ev : Ev := ⟨bVAT, st, 0x02, lDegrade, 64 * u, kind, id, part⟩
  let l := (s.levelOf ev).getD lDegrade
  let s1 := (s.count F.VAT_ECC_CNT_UE 1 st).event ev
  let s2 := match s1.pageOwner (64 * u / pageSize) with
    | some (p, pp) => s1.partEvent p 0x04 l (pp * pageSize + 64 * u % pageSize)
    | none => s1
  s2.idleSettle

/-- A unit has been found uncorrectable: it is poisoned and reported. -/
def State.vatUe (s : State) (u kind id part : Nat) : State := (s.vpoison u).ueReport u kind id part

/-- A read of unit `u` by the master `kind`, `id`, `part` corrects what it finds for the requester and in the storage, or
finds the unit uncorrectable (R381 to R383). -/
def State.unitRead (s : State) (u kind id part : Nat) : State :=
  let st := stackOf (64 * u)
  let x := s.unitErrs u
  let s1 := if x.die then (s.count F.VAT_ECC_CNT_CE_STACK 1 st).coreEv ⟨bVAT, st, 0x03, lNote, 64 * u, kind, id, part⟩ else s
  if s.unitBad u then s1.vatUe u kind id part
  else if x = {} then s1
  else
    let s2 := s1.vplant u {}
    if x.bytes = 0 then s2
    else (s2.count F.VAT_ECC_CNT_CE_CTL 1 st).coreEv ⟨bVAT, st, 0x01, lNote, 64 * u, kind, id, part⟩

/-- Reads of several units. -/
def State.unitsRead (s : State) (us : List Nat) (kind id part : Nat) : State :=
  us.foldl (fun a u => a.unitRead u kind id part) s

/-- The Vat is asked for where it is in RETAIN or was asked to go there. -/
def State.vatAsk (s : State) : State := if s.fld F.AON_PD_REQ_VAT_REQ = 1 then s.put F.AON_PD_REQ_VAT_REQ 2 else s

/-- An access that finds the Vat in RETAIN asks for it (03 R64); one that arrives on the way there stalls, and asks once RETAIN is
reached (14 R387). -/
def State.vatWake (s : State) : State := if s.pow.vat = .toRetain then s else s.vatAsk

end Sys2Proof.Machine
end

