-- ==== Sys2Proof/Machine/Governor.lean ====
section
/-! DEFINITION. The power-credit governor (15 R395 to R413): the budget, the throttle level, the trips, and the delivery of
the Herd's assist. -/
namespace Sys2Proof.Machine

/-- The fused limit in W (03 Table 3-9). -/
def fusedW : Nat := 4200

/-- P_thermal in W, rounded down (R399); `t16` the hottest core sensor in 1/16 °C. -/
def pThermal (t16 : Int) (knee slope : Nat) : Nat :=
  if t16 ≤ 16 * (knee : Int) then fusedW
  else ((4200 * 16 - 10 * (slope : Int) * (t16 - 16 * knee)) / 16).toNat

/-- The budget and the term that sets it (R395): the lower code among equals. -/
def budgetOf (share thermal cap : Nat) : Nat × Nat :=
  let b := min (min share thermal) (min cap fusedW)
  (b, if share = b then 0 else if thermal = b then 1 else if cap = b then 2 else 3)

/-- The level rule (R401). -/
def nextLevel (p b margin hyst up level : Nat) : Nat :=
  if fusedW < p then 64
  else if (b : Int) - margin * 10 < p then min 64 (level + up)
  else if (p : Int) < (b : Int) - margin * 10 - hyst then level - 1
  else level

/-- An event of the governor block. -/
def State.govEv (s : State) (typ lvl : Nat) : State := s.coreEv ⟨bGOV, 0, typ, lvl, 0, 0, 0, 255⟩

/-- The terms taken at an update, and the budget (R395). -/
def State.govTerms (s : State) : State :=
  let th := pThermal (toSigned 16 (s.fld F.AON_TEMP_TJ_CORE)) (s.fld F.GOV_CFG_TKNEE) (s.fld F.GOV_CFG_TSLOPE)
  let s1 := if s.gov.cap < fusedW ∧ s.fld F.GOV_INPUTS_P_CAP = fusedW then s.count F.GOV_CNT_CAP_EVENTS else s
  let s2 := (((s1.put F.GOV_INPUTS_P_SHARE s.gov.share).put F.GOV_INPUTS_P_ASSIST s.gov.assist).put F.GOV_INPUTS_P_THERMAL th).put
    F.GOV_INPUTS_P_CAP s.gov.cap
  let b := budgetOf (s.gov.share + s.gov.assist) th s.gov.cap
  (s2.put F.GOV_STAT_BUDGET b.1).put F.GOV_STAT_LIMIT b.2

/-- GOVERNOR_UPDATE (R395, R399, R400, R401, R403, R406): one sample of the input power in W, and the hottest core sensor
in 1/16 °C. -/
def State.govUpdate (s : State) (sample tj : Nat) (fails : Bool) : State :=
  if s.govRuns = false then s
  else
    let s1 := (s.put F.AON_TEMP_TJ_CORE tj).govTerms
    let p := if fails then fusedW else sample
    let g := { s1.gov with psum := s1.gov.psum + p, pcnt := s1.gov.pcnt + 1 }
    let s2 := (({ s1 with gov := g } : State).put F.GOV_STAT_P_MEAS p).put F.GOV_ASSIST_AGE (min 4095 (s1.fld F.GOV_ASSIST_AGE + 10))
    let s3 := if fails then (s2.putFlag F.GOV_EVT_MEAS_FAIL true).govEv 0x02 lSevere else s2
    let s4 := if fusedW < p then (s3.putFlag F.GOV_EVT_HARD_TRIP true).count F.GOV_CNT_HARD_TRIPS else s3
    let l := nextLevel p (s4.fld F.GOV_STAT_BUDGET) (s4.fld F.GOV_CFG_MARGIN) (s4.fld F.GOV_CFG_HYST) (s4.fld F.GOV_CFG_UP_STEP)
      (s4.fld F.GOV_STAT_LEVEL)
    s4.put F.GOV_STAT_LEVEL (if s4.si0 then 64 else l)

/-- ASSIST_LOST (R398): no delivery has arrived for 1.5 ms. -/
def State.assistLost (s : State) : State :=
  if s.govRuns = true ∧ s.gov.live = true then
    let s1 : State := { s with gov := { s.gov with assist := 0, live := false } }
    ((s1.putFlag F.GOV_EVT_ASSIST_LOST true).count F.GOV_CNT_ASSIST_LOST).govEv 0x01 lDegrade
  else s

/-- OVER_BUDGET (R402). -/
def State.overBudget (s : State) : State :=
  if s.govRuns = true ∧ s.fld F.GOV_STAT_LEVEL = 64 ∧ s.fld F.GOV_STAT_BUDGET < s.fld F.GOV_STAT_P_MEAS then
    (s.putFlag F.GOV_EVT_OVER_BUDGET true).govEv 0x03 lDegrade
  else s

/-- IDLE_TRIP (R403). -/
def State.idleTrip (s : State) : State :=
  if s.govRuns = true ∧ s.fld F.GOV_STAT_LEVEL = 64 ∧ fusedW < s.fld F.GOV_STAT_P_MEAS ∧ s.idle.trip = false then
    ((s.putFlag F.GOV_EVT_IDLE_TRIP true).idleCause fun x => { x with trip := true }).govEv 0x04 lHalt
  else s

/-- IDLE_TRIP_RELEASE (R403). -/
def State.idleRelease (s : State) : State :=
  if s.govRuns = true ∧ s.fld F.GOV_STAT_P_MEAS ≤ 4000 ∧ s.idle.trip = true then s.idleCause fun x => { x with trip := false }
  else s

/-- Mean input power of the tick that ends (R396), and its count begins again. -/
def State.pIn (s : State) : Nat := if s.gov.pcnt = 0 then 0 else s.gov.psum / s.gov.pcnt

/-- The Herd's delivery (R396): assist, SOP of 2 s, other loads and the mean input power, in W. -/
def State.assistIn (s : State) (assist sop other : Nat) : State :=
  let pin := s.pIn
  let s1 : State := { s with gov := { s.gov with psum := 0, pcnt := 0 } }
  if s.govRuns then
    let s2 : State := { s1 with gov := { s1.gov with assist := assist, live := true } }
    (((s2.put F.GOV_ASSIST_SOP2S (min 65535 sop)).put F.GOV_ASSIST_P_OTHER (min 65535 other)).put F.GOV_ASSIST_P_IN (min 65535 pin)).put
      F.GOV_ASSIST_AGE 0
  else s1

/-- The governor's registers but `GOV_CFG` go to their reset values (R413, 21 R570). -/
def State.govReset (s : State) : State :=
  let fs := [F.GOV_STAT_BUDGET, F.GOV_STAT_P_MEAS, F.GOV_STAT_LIMIT, F.GOV_STAT_LEVEL, F.GOV_INPUTS_P_SHARE, F.GOV_INPUTS_P_ASSIST,
    F.GOV_INPUTS_P_THERMAL, F.GOV_INPUTS_P_CAP, F.GOV_EVT_MEAS_FAIL, F.GOV_EVT_IDLE_TRIP, F.GOV_EVT_HARD_TRIP,
    F.GOV_EVT_OVER_BUDGET, F.GOV_EVT_ASSIST_LOST, F.GOV_CNT_ASSIST_LOST, F.GOV_CNT_HARD_TRIPS, F.GOV_CNT_RESERVE_STOPS,
    F.GOV_CNT_CAP_EVENTS, F.GOV_ASSIST_SOP2S, F.GOV_ASSIST_P_OTHER, F.GOV_ASSIST_P_IN, F.GOV_ASSIST_AGE]
  let s1 := fs.foldl (fun a f => a.clr f) s
  { s1 with gov := { s1.gov with assist := 0, live := false, psum := 0, pcnt := 0, ramps := [] } }

/-- `GOV_CFG` takes its defaults (R413). -/
def State.govCfgReset (s : State) : State :=
  [F.GOV_CFG_ASSIST_CAP, F.GOV_CFG_TKNEE, F.GOV_CFG_TSLOPE, F.GOV_CFG_RG_GAP, F.GOV_CFG_UP_STEP, F.GOV_CFG_HYST,
    F.GOV_CFG_MARGIN].foldl (fun a f => a.clr f) s

/-- `GOV_CFG` after a write: every field saturated to its range (Table 15-5). -/
def State.govCfgSat (s : State) : State :=
  let c (a : State) (f : RField) (lo hi : Nat) : State := a.put f (clampN lo hi (a.fld f))
  c (c (c (c (c s F.GOV_CFG_ASSIST_CAP 0 4200) F.GOV_CFG_TKNEE 80 105) F.GOV_CFG_TSLOPE 10 100) F.GOV_CFG_RG_GAP 0 1000)
    F.GOV_CFG_UP_STEP 1 8

end Sys2Proof.Machine
end

