-- ==== Sys2Proof/Machine/Keys.lean ====
section
/-! DEFINITION. Tenant keys and patrol scrub (14 R377 to R394). -/
namespace Sys2Proof.Machine

/-- A staged word (R378). -/
def State.staged (s : State) (p m : Nat) : Option (Nat × Nat) := (s.part p).stage.get none ⟨m, 0, 0⟩

/-- Write a key register (R378, R380): `en` masks its bits, and the bytes that are not enabled become 0 (05 R646). -/
def State.keyWrite (s : State) (p m port en v : Nat) : State :=
  if s.ptState p = ptSealed ∨ s.ptState p = ptReclaim then s.pcEv p 0x06 lNote (0x7F0000002400 + 8 * m) 1 port
  else
    let x := (List.range 64).foldl (fun a b => if hasBit en b then putBit a b (hasBit v b) else a) 0
    let q := s.part p
    (s.setPart p { q with stage := q.stage.set none ⟨m, 0, 0⟩ (some (x, port)) }).putBitOf F.VAT_PC_KEY_STAT_STAGED m true 0 p

/-- The staging buffer is zeroed. -/
def State.stageClear (s : State) (p : Nat) : State :=
  (s.setPart p { s.part p with stage := {} }).put F.VAT_PC_KEY_STAT_STAGED 0 0 p

/-- Key bytes of the staged words `lo … lo + 3`. -/
def State.stagedKey (s : State) (p lo : Nat) : Bytes :=
  (List.range 4).flatMap fun k => leBytes 8 (match s.staged p (lo + k) with
    | some x => x.1
    | none => 0)

/-- Why a commit is refused; 0 where it is accepted (R378, Table 14-9). -/
def State.commitReason (s : State) (p port : Nat) : Nat :=
  let st := (List.range 8).map fun m => s.staged p m
  if s.ptState p ≠ ptOpen then 1
  else if st.any (·.isNone) then 2
  else if st.any (fun x => match x with
    | some y => y.2 != port
    | none => true) then 3
  else if s.stagedKey p 0 = s.stagedKey p 4 then 4
  else 0

/-- Key check value (R379). -/
def kcvOf (key1 : Bytes) : Nat := leNat ((aes256 key1 (List.replicate 16 0)).take 4)

/-- KEY_COMMIT (R378). -/
def State.keyCommit (s : State) (p port : Nat) : State :=
  let r := s.commitReason p port
  if r = 0 then
    let k1 := s.stagedKey p 0
    let s1 := s.stageClear p
    let s2 := s1.setPart p { s1.part p with key := k1 ++ s.stagedKey p 4 }
    ((s2.put F.SEP_PT_CTL_STATE ptSealed p).put F.VAT_PC_KEY_STAT_KCV (kcvOf k1) 0 p).put F.VAT_PC_KEY_STAT_LOADER port 0 p
  else ((s.stageClear p).put F.VAT_PC_KEY_STAT_REFUSE r 0 p).pcEv p 0x04 lNote 0x7F0000002440 1 port

/-- The key is erased (R380). -/
def State.keyErase (s : State) (p : Nat) : State :=
  let s1 := (s.stageClear p).setPart p { (s.stageClear p).part p with key := [] }
  (s1.put F.VAT_PC_KEY_STAT_KCV 0 0 p).put F.VAT_PC_KEY_STAT_LOADER 0 0 p

/-! ### Scrub -/

/-- Bursts of a channel (R384). -/
def burstCount : Nat := 9437184

/-- Physical address of burst `k` of channel `q` (R372, R384). -/
def burstAddr (q k : Nat) : Nat :=
  let i := k / 64
  i * pageSize + 256 * ((q + 128 - i % 128) % 128 + 128 * (k % 64))

/-- The errors of a unit with those that a burst meets: the command names what the spec leaves to chance. -/
def UnitErrs.with (x : UnitErrs) : UnitErr → UnitErrs
  | .clean => x
  | .ceStack => { x with die := true }
  | .ceCtl => { x with bytes := max 1 x.bytes }
  | .ue => { x with bytes := max 4 x.bytes }

/-- A scrub reads unit `u`, in which the errors `e` have arisen. -/
def State.scrubUnit (s : State) (u : Nat) (e : UnitErr) : State := (s.vplant u ((s.unitErrs u).with e)).unitRead u 0 0 255

/-- SCRUB_BURST (R384, R385): the due burst of channel `q`. -/
def State.scrub (s : State) (q : Nat) (es : List UnitErr) (forced : Bool) : State :=
  if s.pow.vat = .on ∧ s.flag F.VAT_SCRUB_CFG_EN = true then
    let k := s.vmem.burst.get 0 ⟨q, 0, 0⟩
    let u := burstAddr q k / 64
    let s1 := (es.zipIdx).foldl (fun a x => a.scrubUnit (u + x.2) x.1) s
    let next := if k + 1 < burstCount then k + 1 else 0
    let v := { s1.vmem with burst := s1.vmem.burst.set 0 ⟨q, 0, 0⟩ next }
    let w := if next = 0 then { v with passes := v.passes.set 0 ⟨q, 0, 0⟩ (v.passes.get 0 ⟨q, 0, 0⟩ + 1) } else v
    let s2 : State := { s1 with vmem := w }
    let st := q / 16
    let chans := (List.range 16).map (16 * st + ·)
    let pos := chans.foldl (fun m c => min m (w.burst.get 0 ⟨c, 0, 0⟩)) burstCount
    let passes := chans.foldl (fun m c => min m (w.passes.get 0 ⟨c, 0, 0⟩)) 65535
    let s3 := (s2.put F.VAT_SCRUB_STAT_POSITION pos st).put F.VAT_SCRUB_STAT_PASSES passes st
    if forced then s3.count F.VAT_SCRUB_STAT_FORCED 1 st else s3
  else s

end Sys2Proof.Machine
end

