-- ==== Sys2Proof/Machine/Array.lean ====
section
/-! DEFINITION. What the array computes (09 R221 to R239, 10 R256 to R265): the semirings, the order of every reduction,
placement of problems and results, reduced passes.  Every function is pure. -/
namespace Sys2Proof.Machine

/-- First cell row and column of problem `p` (R232). -/
def cellRow0 (s p : Nat) : Nat := if s = 2 then p / 2 * 128 else if s = 3 then p / 4 * 64 else 0
def cellCol0 (s p : Nat) : Nat :=
  if s = 1 then 128 * p else if s = 2 then p % 2 * 128 else if s = 3 then p % 4 * 64 else 0

/-- The code of stationary element `W[k][n]` of problem `p` in an image (11 R291). -/
def Image.code (im : Image) (s p k n : Nat) : Nat :=
  let col := cellCol0 s p + n
  if isTwo im.fmt then
    let x := (cellGet 0 ((cellRow0 s p + k / 2) * 256 + col) im.cells).toNat
    if k % 2 = 0 then x % 16 else x / 16 % 16
  else if isWide im.fmt then
    let o := (cellRow0 s p + k) * 512 + 2 * col
    (cellGet 0 o im.cells).toNat + 256 * (cellGet 0 (o + 1) im.cells).toNat
  else (cellGet 0 ((cellRow0 s p + k) * 256 + col) im.cells).toNat

/-- The scale of stationary element `W[k][n]` of a B4 image (10 R256): the block's byte in the scale plane.  R256 gives row b,
byte n for one operand, and 11 R291 only the plane's size: the scales of a problem of a packed shape lie from row cellRow0 / 16
and byte cellCol0 on, as its cells do (DESIGN CHOICE, log entry 24). -/
def Image.scale (im : Image) (s p k n : Nat) : Nat :=
  (cellGet 0 (65536 + (cellRow0 s p / 16 + k / 32) * 256 + cellCol0 s p + n) im.cells).toNat

/-- The value of stationary element `W[k][n]`. -/
def Image.val (im : Image) (s p k n : Nat) : Num :=
  if im.fmt = 6 then b4Value (im.scale s p k n) (im.code s p k n) else decodeElem im.fmt (im.code s p k n)

/-- The code and value of streamed element `k` of problem `p` (11 R294). -/
def Pass.aCode (ps : Pass) (row : Bytes) (p k : Nat) : Nat := elemAt ps.fmt (p * kPrime ps.shape ps.fmt ps.t + k) row
def Pass.aVal (ps : Pass) (row : Bytes) (p k : Nat) : Num :=
  vecElem ps.fmt (shapeP ps.shape * kPrime ps.shape ps.fmt ps.t) (p * kPrime ps.shape ps.fmt ps.t + k) row

/-- Results are INT32: INT8, INT4 and CNTGE (Table 9-9; log entry 24 on CNTGE). -/
def Pass.intResult (ps : Pass) : Bool := ps.fmt ≤ 1 || ps.sr == 5

/-- The identity of the reduction, as a result word (Table 9-9). -/
def Pass.identity (ps : Pass) : Nat :=
  if ps.sr = 3 then (if ps.intResult then 0x80000000 else 0xFF800000)
  else if ps.sr = 4 then (if ps.intResult then 0x7FFFFFFF else 0x7F800000)
  else 0

/-- One INT step (R257): `acc` and the result are INT32 values. -/
def intStep (sr : Nat) (acc a w : Int) : Int :=
  if sr = 0 then sat32 (acc + a * w)
  else if sr = 1 then sat32 (acc + (if a < w then w - a else a - w))
  else if sr = 2 then sat32 (acc + (a - w) * (a - w))
  else if sr = 3 then (if acc < a + w then sat32 (a + w) else acc)
  else if sr = 4 then (if a + w < acc then sat32 (a + w) else acc)
  else sat32 (acc + (if a < w then 0 else 1))

/-- One FP8 step (R257, R258): `acc` is an FP32 word; equal values keep the accumulator (log entry 24). -/
def fpStep (sr : Nat) (acc : Nat) (a w : Num) : Nat :=
  if sr = 0 then rne32 ((fp32 acc).add (a.mul w))
  else if sr = 1 then rne32 ((fp32 acc).add (a.add w.neg).abs)
  else if sr = 2 then let d := a.add w.neg; rne32 ((fp32 acc).add (d.mul d))
  else
    let y := rne32 (a.add w)
    match fp32 acc, fp32 y with
    | .nan, _ => 0x7FC00000
    | _, .nan => 0x7FC00000
    | u, v => if (if sr = 3 then u.lt v else v.lt u) then y else acc

/-- The integer that a number stands for, toward zero. -/
def Num.toInt : Num → Int
  | .fin s m e =>
    let q : Int := if 0 ≤ e then (m * 2 ^ e.toNat : Nat) else (m / 2 ^ (-e).toNat : Nat)
    if s then -q else q
  | _ => 0

/-- One CNTGE step of an FP8 pass: 1 where `a ≥ w`, false for NaN (R258), added under RNE32 (R257); the result is INT32
(Table 9-9), so a sum rounded beyond its range is held at the range's end. -/
def cntStep (acc : Int) (a w : Num) : Int := sat32 (fp32 (rne32 (Num.ofInt (acc + (if a.ge w then 1 else 0))))).toInt

/-- The high or low part of a BF16 or FP16 operand (R264). -/
def widePart (fmt : Nat) (hi : Bool) (x : Num) : Num :=
  let b := if fmt = 4 then 16 else 32
  match x with
  | .fin s m e => if hi then .fin s (m / b * b) e else .fin s (m % b) e
  | y => y

/-- A value is NaN or infinite. -/
def Num.special : Num → Bool
  | .fin _ _ _ => false
  | _ => true

/-- One step of sub-pass `sub` (1 to 4) of a BF16 or FP16 pass (R264, R265). -/
def wideStep (fmt sub : Nat) (acc : Nat) (a w : Num) : Nat :=
  if a.special || w.special then (if sub = 1 then rne32 ((fp32 acc).add (a.mul w)) else acc)
  else rne32 ((fp32 acc).add ((widePart fmt (sub == 1 || sub == 3) a).mul (widePart fmt (sub == 1 || sub == 2) w)))

/-- The exact sum of one block of a B4 pass (R257).  The sum of 32 products that are all -0 is +0: the rule gives no sign for it (DESIGN
CHOICE, log entry 82). -/
def b4Block (ps : Pass) (im : Image) (row : Bytes) (p n b : Nat) : Num :=
  let tot := shapeP ps.shape * kPrime ps.shape ps.fmt ps.t
  let sa := (row.getD (tot / 2 + (p * kPrime ps.shape ps.fmt ps.t + 32 * b) / 32) 0).toNat
  let sw := im.scale ps.shape p (32 * b) n
  if sa = 255 ∨ sw = 255 then .nan
  else
    ((List.range 32).foldl (fun (s : Num) i =>
      s.add ((fE2M1.decode (ps.aCode row p (32 * b + i))).mul (fE2M1.decode (im.code ps.shape p (32 * b + i) n))))
      Num.zero).scale ((sa : Int) + sw - 254)

/-- The result word of output `o` of problem `p`, from the accumulator's start (R221, R235, R257): output column `o`, or
cell row in a transposed pass. -/
def Pass.result (ps : Pass) (im : Image) (row : Bytes) (sub p o start : Nat) : Nat :=
  let n := kPrime ps.shape ps.fmt ps.t
  let w (i : Nat) : Num := if ps.t then im.val ps.shape p o i else im.val ps.shape p i o
  let a (i : Nat) : Num := ps.aVal row p i
  if isWide ps.fmt then (List.range n).foldl (fun acc i => wideStep ps.fmt sub acc (a i) (w i)) start
  else if ps.sr = 5 ∧ 2 ≤ ps.fmt then
    ofSigned 32 ((List.range n).foldl (fun acc i => cntStep acc (a i) (w i)) (toSigned 32 start))
  else if ps.fmt ≤ 1 then
    let wi (i : Nat) : Int := toSigned (elemBits ps.fmt) (if ps.t then im.code ps.shape p o i else im.code ps.shape p i o)
    let ai (i : Nat) : Int := toSigned (elemBits ps.fmt) (ps.aCode row p i)
    ofSigned 32 ((List.range n).foldl (fun acc i => intStep ps.sr acc (ai i) (wi i)) (toSigned 32 start))
  else if ps.fmt = 6 then
    if ps.t then (List.range n).foldl (fun acc i => rne32 ((fp32 acc).add ((a i).mul (w i)))) start
    else (List.range (n / 32)).foldl (fun acc b => rne32 ((fp32 acc).add (b4Block ps im row p o b))) start
  else (List.range n).foldl (fun acc i => fpStep ps.sr acc (a i) (w i)) start

/-- Outputs of one problem: columns, or cell rows' elements in a transposed pass (R235, R263). -/
def Pass.outputs (ps : Pass) : Nat := if ps.t then depthK ps.shape ps.fmt else shapeN ps.shape

/-- C-Pail byte address of output `o` of problem `p` in result row `r` (R224, R263). -/
def Pass.place (ps : Pass) (r p o : Nat) : Nat :=
  let n := shapeN ps.shape
  let h := o / n
  let row := if ps.twoSub then (2 * r + h) * rowsPer ps.shape else r * rowsPer ps.shape
  (ps.crow + row + p * n / 256) * 1024 + (p * n % 256 + o % n) * 4

/-- The problems a pass uses. -/
def Pass.used (ps : Pass) : List Nat := bitsSet ps.pmask (shapeP ps.shape)

/-- Write one 32-bit word. -/
def putW32 (m : List Host.Cell) (a v : Nat) : List Host.Cell := memWrite 0 m a (leBytes 4 v)

/-- The C-Pail after result row `r` (R222): `start` holds what the accumulation starts from. -/
def Pass.rowInto (ps : Pass) (im : Image) (row : Bytes) (sub r : Nat) (c : List Host.Cell) : List Host.Cell :=
  let fresh : Bool := !ps.acc && (sub ≤ 1)
  ps.used.foldl (fun c1 p => (List.range ps.outputs).foldl (fun c2 o =>
    let a := ps.place r p o
    putW32 c2 a (ps.result im row sub p o (if fresh then ps.identity else memWord 0 c a 4))) c1) c

/-- A value replaces a kept one in a reduced pass (R238, R258): strictly better, or a number over NaN. -/
def Pass.better (ps : Pass) (new old : Nat) : Bool :=
  let min := ps.sr == 1 || ps.sr == 2 || ps.sr == 4
  if ps.intResult then
    let x := toSigned 32 new
    let y := toSigned 32 old
    if min then x < y else y < x
  else
    match fp32 new, fp32 old with
    | .nan, _ => false
    | _, .nan => true
    | x, y => if min then x.lt y else y.lt x

/-- A result word is a NaN. -/
def Pass.isNan (ps : Pass) (v : Nat) : Bool := !ps.intResult && fp32 v == .nan

/-- The running values of a reduced pass after streamed row `i` with index `ix` (R238, R304). -/
def Pass.reduceRow (ps : Pass) (im : Image) (row : Bytes) (ix : Nat) (kept : Tab (Nat × Nat)) : Tab (Nat × Nat) :=
  ps.used.foldl (fun k1 p => (List.range ps.outputs).foldl (fun k2 o =>
    let v := ps.result im row 0 p o ps.identity
    let key : Key := ⟨p, o, 0⟩
    -- an unlisted key has kept nothing yet: index one past every index
    let old := k2.get (0, 2 ^ 32) key
    -- of equal values the one with the lower index is kept; a NaN never replaces a kept value (R258)
    let tie := old.2 < 2 ^ 32 && ix < old.2 && !ps.better old.1 v && !ps.isNan v
    if old.2 = 2 ^ 32 ∨ ps.better v old.1 ∨ tie = true then k2.set (0, 2 ^ 32) key (v, ix) else k2) k1) kept

/-- What an accumulating reduced pass starts from: the values and indices in place, marked (plus 2^33) as ones that a tie
keeps (R238). -/
def Pass.reduceStart (ps : Pass) (c : List Host.Cell) : Tab (Nat × Nat) :=
  if ps.acc then
    ps.used.foldl (fun k1 p => (List.range ps.outputs).foldl (fun k2 o =>
      let a := ps.place 0 p o
      k2.set (0, 2 ^ 32) ⟨p, o, 0⟩ (memWord 0 c a 4, 2 ^ 33 + memWord 0 c (a + rowsPer ps.shape * 1024) 4)) k1) {}
  else {}

/-- The values and indices written at completion (R238, R304). -/
def Pass.reduceInto (ps : Pass) (kept : Tab (Nat × Nat)) (c : List Host.Cell) : List Host.Cell :=
  ps.used.foldl (fun c1 p => (List.range ps.outputs).foldl (fun c2 o =>
    let a := ps.place 0 p o
    let x := kept.get (0, 2 ^ 32) ⟨p, o, 0⟩
    putW32 (putW32 c2 a x.1) (a + rowsPer ps.shape * 1024) (x.2 % 2 ^ 32)) c1) c

end Sys2Proof.Machine
end

