-- ==== Sys2Proof/Machine/Matrix.lean ====
section
/-! DEFINITION. Stationary loads and passes (09 R227 to R251, 11 R290 to R299, R304, R307, 13 R359, R360), the shadow, and
the activity ramp. -/
namespace Sys2Proof.Machine

/-- The image at an S-Pail address (R291). -/
def Tile.sImage (x : Tile) (shape fmt half adr : Nat) : Image :=
  { shape := shape, fmt := fmt, half := half, src := some adr, cells := memSlice x.sp adr (imageBytes fmt) }

/-- The operand of a V pass (R298). -/
def Tile.vImage (x : Tile) (p : Pass) : Image :=
  { shape := 4, fmt := p.fmt, half := 0, src := none, cells := memSlice x.a p.oadr (imageBytes p.fmt) }

/-- An image suits a pass (R297): shape, format, and the H image for BF16 and FP16. -/
def Image.suits (im : Image) (p : Pass) : Bool :=
  im.shape == p.shape && im.fmt == p.fmt && im.half == (if isWide p.fmt then 1 else 0)

/-- An image is the one a record names (R359, R360): same address, shape, format and half, and not written by V. -/
def Image.same (x y : Image) : Bool :=
  x.src == y.src && x.shape == y.shape && x.fmt == y.fmt && x.half == y.half && x.shape != 4

/-- A pass has delivered every row of its last sub-pass. -/
def passDone (e : PEnt) : Bool :=
  let p := passOf e.word
  p.m ≤ e.done && (!isWide p.fmt || e.sub == 4)

/-- An issued pass with rows to go. -/
def passOpen (e : PEnt) : Bool := e.issued && wOpc e.word == oMPASS && !passDone e

/-- What keeps the array from a new load or pass: a direct load or V stream under way, or a pass with rows to go. -/
def arrayBusy (es : List PEnt) : Bool :=
  es.any fun e => e.issued &&
    ((wOpc e.word == oSLD && e.direct) || (wOpc e.word == oMPASS && ((passOf e.word).shape == 4 || !passDone e)))

/-- An older reduced pass has not completed. -/
def redOlder (es : List PEnt) : Bool := es.any fun e => wOpc e.word == oMPASS && (passOf e.word).red

/-- An issued BF16 or FP16 pass that has still to swap its G image in. -/
def wideSwaps (es : List PEnt) : Bool :=
  es.any fun e => e.issued && wOpc e.word == oMPASS && isWide (passOf e.word).fmt && e.sub ≤ 2

/-- Ask for a ramp grant where a load or pass would issue and every group is disabled (R240, 15 R404). -/
def State.askRamp (s : State) (t : Nat) (opc : Nat) (dyn : State → Nat → PEnt → Dyn) : State :=
  if (s.tile t).groups ≠ 0 ∨ s.gov.ramps.contains t = true then s
  else
    match s.headRes t .array (· == opc) dyn with
    | .goes _ _ _ _ => { s with gov := { s.gov with ramps := s.gov.ramps ++ [t] } }
    | _ => s

/-- What would issue while every group is disabled waits for its ramp grant (R240, 15 R404). -/
def rampDyn (t : Nat) (dyn : State → Nat → PEnt → Dyn) (s : State) (i : Nat) (e : PEnt) : Dyn :=
  match dyn s i e with
  | .go => if (s.tile t).groups = 0 then .wait else .go
  | d => d

/-- The groups are enabled, or enabled again during a ramp-down (R240, R247). -/
def Tile.rampOn (x : Tile) : Tile := { x with groups := 0xFF, rampDown := false }

/-! ### SLD -/

/-- A stationary load in mode "either" writes the active registers where the shadow is not EMPTY (R230). -/
def Tile.loadsDirect (x : Tile) (l : Load) : Bool := l.mode == 1 || (l.mode == 2 && x.shdSt != .empty)

/-- Conditions of SLD (R229, R230, R292).  A direct load waits until every row of the older passes is delivered, not until the last
reduced pass among them has written its values: R292 names the last result row, and a reduced pass writes none (DESIGN
CHOICE, log entry 82). -/
def sldDyn (s : State) (t : Nat) (i : Nat) (e : PEnt) : Dyn :=
  let x := s.tile t
  let l := loadOf e.word
  if x.loadsDirect l then (if arrayBusy (x.ents.take i) then .wait else .go)
  else
    match x.shdSt with
    | .empty => .go
    | .loading => .wait
    | .loaded => if wideSwaps (x.ents.take i) then .wait else .exc xSHADOW_BUSY

/-- SLD issues (R227, R229): the image is read from the S-Pail (R225), from the range that it holds until it completes. -/
def State.sldAct (s : State) (t i : Nat) (e : PEnt) : State :=
  let x := s.tile t
  let l := loadOf e.word
  let im := x.sImage l.shape l.fmt l.half l.sadr
  if x.loadsDirect l then
    (s.setTile t { x.rampOn with actValid := false }).setEnt t i fun y => { y with direct := true, img := some im }
  else s.setTile t { x.rampOn with shd := im, shdSt := .loading }

/-- SLD. -/
def State.sld (s : State) (t : Nat) : State :=
  (s.askRamp t oSLD (sldDyn · t)).issueHead t .array (· == oSLD) (rampDyn t (sldDyn · t)) fun a i e => a.sldAct t i e

/-- Counts of a Pail report (R226, Table 9-13). -/
def Tile.reported (x : Tile) (r : PailRep) : Tile :=
  { x with
    aCe := addSat 16 x.aCe r.aCe.toNat
    sCe := addSat 16 x.sCe r.sCe.toNat
    cCe := addSat 16 x.cCe r.cCe.toNat
    ue := if r.ue then incSat 16 x.ue else x.ue }

/-- The instruction whose shadow load is under way: an SLD, or a BF16 or FP16 pass. -/
def shadowLoader (e : PEnt) : Bool :=
  e.issued && ((wOpc e.word == oSLD && !e.direct) || (wOpc e.word == oMPASS && isWide (passOf e.word).fmt && e.sub ≤ 2))

/-- A shadow load ends: LOADED, and its SLD completes; or a Pail error leaves the shadow EMPTY and ends the instruction
(R227, R251, R307). -/
def State.shadowLoadDone (s : State) (t : Nat) (r : PailRep) : State :=
  let x := s.tile t
  if x.shdSt = .loading ∧ s.tileLive t = true then
    match posOf shadowLoader 0 x.ents with
    | some i =>
      let s1 := s.setTile t (x.reported r)
      if r.ue then (s1.abortEnter t i xPAIL_UE).tilSettle t
      else
        let s2 := s1.setTile t { s1.tile t with shdSt := .loaded }
        match x.ents[i]? with
        | some e => if wOpc e.word = oSLD then s2.completeAt t i else s2
        | none => s2
    | none => s
  else s

/-! ### MPASS -/

/-- Conditions of MPASS (R228, R230, R295, R297, R299).  A BF16 or FP16 pass resumed in sub-pass 1 or 2 that finds its own G
image LOADED goes on without a new shadow load, and one that finds another image LOADED ends SHADOW_BUSY: R268 has it
shadow-load G, which R227 allows from EMPTY only (DESIGN CHOICE, log entry 58).  Every younger pass, reduced or not, waits for the
completion of a reduced pass, at which alone R296 moves the row base (DESIGN CHOICE, log entry 82). -/
def mpassDyn (s : State) (t : Nat) (i : Nat) (e : PEnt) : Dyn :=
  let x := s.tile t
  let p := passOf e.word
  let older := x.ents.take i
  if arrayBusy older = true ∨ redOlder older = true then .wait
  else
    let image : Dyn :=
      if e.taken ∨ p.shape = 4 then .go
      else if p.swp then
        (match x.shdSt with
        | .loading => .wait
        | .empty => .exc xIMAGE
        | .loaded => if x.shd.suits p then .go else .exc xIMAGE)
      else if x.actValid && x.act.suits p then .go else .exc xIMAGE
    match image with
    | .go =>
      if isWide p.fmt ∧ (e.taken = false ∨ e.sub ≤ 2) then
        match x.shdSt with
        | .empty => .go
        | .loading => .wait
        | .loaded =>
          if e.taken ∧ x.shd.same (x.sImage p.shape p.fmt 2 p.oadr) = true then .go else .exc xSHADOW_BUSY
      else .go
    | d => d

/-- A pass issues, or goes on from its record: the image it uses, the sub-pass, and what a reduced pass starts from
(R295, R298, R299, R304, R359).  A BF16 or FP16 pass loads the image of its stopped sub-pass from the S-Pail whatever the
active registers hold (R268). -/
def State.mpassAct (s : State) (t i : Nat) (e : PEnt) : State :=
  let x := s.tile t
  let p := passOf e.word
  -- the image in the active registers after the swap, reload or stream
  let a : Image × Bool :=
    if p.shape = 4 then (x.vImage p, false)
    else match (if e.taken then e.img else none) with
      | some im =>
        if x.actValid && x.act.same im && !isWide p.fmt then (x.act, true)
        else (match im.src with
          | some adr => (x.sImage im.shape im.fmt im.half adr, true)
          | none => (im, true))
      | none => if p.swp then (x.shd, true) else (x.act, true)
  let sub := if isWide p.fmt then (if e.taken ∧ e.sub ≠ 0 then e.sub else 1) else 0
  let y := { x.rampOn with
    act := if p.shape = 4 then x.act else a.1
    actValid := a.2
    transp := p.t
    lastShape := p.shape }
  let z := if p.swp ∧ e.taken = false then { y with shdSt := .empty, shd := {} }
    else if isWide p.fmt ∧ sub ≤ 2 ∧ x.shdSt = .empty then
      { y with shdSt := .loading, shd := x.sImage p.shape p.fmt 2 p.oadr }
    else y
  (s.setTile t z).setEnt t i fun v =>
    { v with img := some a.1, sub := sub, red := if p.red then p.reduceStart x.c else {} }

/-- The result rows of one streamed row: sub-pass, accumulation and place (R222, R224, R238, R264).  The operand stream of a V pass is
complete before its first result row comes out, and stands in the active registers from then on (R233, R245).  A V pass stopped
before that row counts as stopped within its stream, and leaves `ACT_VALID` at 0 (R245; DESIGN CHOICE, log entry 82).  The row
comes from the A-Pail and the result goes to the C-Pail, on the paths of Table 9-2 alone (R225). -/
def State.passRow (s : State) (t i : Nat) (e : PEnt) : State :=
  let p := passOf e.word
  let im := e.img.getD {}
  let x := if p.shape = 4 then { s.tile t with act := im, actValid := true } else s.tile t
  let row := memRead 0 x.a (p.aadr + e.done * p.astr) (rowBytes p.shape p.fmt p.t)
  if p.red then
    s.setEnt t i fun v => { v with done := v.done + 1, red := p.reduceRow im row ((x.rbase + e.done) % 2 ^ 32) v.red }
  else
    (s.setTile t { x with c := p.rowInto im row e.sub e.done x.c }).setEnt t i fun v => { v with done := v.done + 1 }

/-- The next sub-pass of a BF16 or FP16 pass begins: before the third, the G image is swapped in (R239, R264, R299). -/
def State.nextSub (s : State) (t i : Nat) (e : PEnt) : State :=
  let x := s.tile t
  let p := passOf e.word
  if e.sub = 2 then
    (s.setTile t { x with act := x.shd, actValid := true, shd := {}, shdSt := .empty }).setEnt t i fun v =>
      { v with sub := 3, done := 0, img := some x.shd }
  else s.setEnt t i fun v => { v with sub := v.sub + 1, done := if p.m ≤ v.done then 0 else v.done }

/-- A BF16 or FP16 pass that was cut leaves the Parlour for the record of its level, with its followers, in the order in which
they entered (R351, R353, R332).  It ran to the end of its sub-pass and is not stopped under R244: a shadow load under way is
abandoned only where it is the pass's own, of its G image. -/
def State.saveCut (s : State) (t i : Nat) : State :=
  let x := s.tile t
  match x.ents[i]? with
  | none => s
  | some e =>
    let fs := (x.ents.drop (i + 1)).filter (follows · e)
    let y := fs.foldl Tile.quench (if e.sub ≤ 2 then x.quench e else x)
    let saved := { e with issued := false, cut := false } :: fs.map PEnt.recorded
    let r := y.saved.get {} ⟨e.lvl, 0, 0⟩
    let s1 := s.setTile t { y with
      ents := y.ents.take i ++ (y.ents.drop (i + 1)).filter fun v => !follows v e
      saved := y.saved.set {} ⟨e.lvl, 0, 0⟩ { r with ents := saved.foldl (fun l v => insOrd v l) r.ents }
      stop := ⟨e.ring, e.sub, 1, oMPASS, e.done⟩ }
    (if r.ents.isEmpty && r.inb.isEmpty && r.loop.isNone then s1.tilePerf t pfPREEMPT else s1).enter t

/-- Up to `n` rows of the pass at `i`.  A pass that is saved at the end of its sub-pass is recorded as the next sub-pass at row
0, after the second one with the G image swapped in; the spec does not say which of the two names the point has (DESIGN
CHOICE, log entry 58). -/
def State.passRows (t i : Nat) : Nat → State → State
  | 0, s => s
  | k + 1, s =>
    match (s.tile t).ents[i]? with
    | none => s
    | some e =>
      let p := passOf e.word
      if e.done < p.m then State.passRows t i k ((s.passRow t i e).tilePerf t pfROWS)
      else if isWide p.fmt ∧ e.sub < 4 then
        if e.cut then (if e.sub = 2 ∧ (s.tile t).shdSt ≠ .loaded then s else (s.nextSub t i e).saveCut t i)
        else if e.sub = 2 ∧ (s.tile t).shdSt ≠ .loaded then s
        else State.passRows t i k (s.nextSub t i e)
      else s

/-- Cycles of the array and of throttle bubbles that a command took: the specification gives them by the clock, which the
model does not have, so they are free values (log entry 25). -/
def State.arrayCycles (s : State) (t : Nat) : State :=
  let a := s.free
  let b := a.2.free
  (b.2.tilePerf t pfARRAY_BUSY (a.1 % 2 ^ 64)).tilePerf t pfBUBBLES (if b.2.fld F.GOV_STAT_LEVEL = 0 then 0 else b.1 % 2 ^ 64)

/-- MPASS: the pass in progress, else the head of the array queue, delivers up to `n` rows. -/
def State.mpass (s : State) (t n : Nat) : State :=
  match posOf passOpen 0 (s.tile t).ents with
  | some i => if s.tileLive t then (State.passRows t i n s).arrayCycles t else s
  | none =>
    (s.askRamp t oMPASS (mpassDyn · t)).issueHead t .array (· == oMPASS) (rampDyn t (mpassDyn · t))
      fun a i e => (State.passRows t i n (a.mpassAct t i e)).arrayCycles t

/-- A pass completes: a reduced pass writes its values and indices and moves the row base; a V pass leaves its operand
active (R238, R296, R298, R304). -/
def State.passEnd (s : State) (t i : Nat) (e : PEnt) : State :=
  let x := s.tile t
  let p := passOf e.word
  let y := if p.red then
      { x with c := p.reduceInto e.red x.c, rbase := if p.rinc then (x.rbase + p.m) % 2 ^ 32 else x.rbase }
    else if p.shape = 4 then { x with act := e.img.getD {}, actValid := true }
    else x
  (s.setTile t y).completeAt t i

/-- A direct load completes (R229, R292). -/
def State.directEnd (s : State) (t i : Nat) (e : PEnt) : State :=
  (s.setTile t { s.tile t with act := e.img.getD {}, actValid := true }).completeAt t i

/-! ### RBSET, ramps -/

/-- RBSET (R296). -/
def State.rbset (s : State) (t : Nat) : State :=
  s.issueHead t .array (· == oRBSET)
    (fun a i _ => if redOlder ((a.tile t).ents.take i) then .wait else .go)
    fun a i e => (a.setTile t { a.tile t with rbase := wf e.word 0 32 }).completeAt t i

/-- Ramp-down: with no row, swap or load waiting, the highest enabled group is disabled (R240).  What waits is any SLD or
MPASS in the Parlour, also one that has not issued and waits on a token or the interlock (DESIGN CHOICE, log entry 58). -/
def State.rampDown (s : State) (t : Nat) : State :=
  let x := s.tile t
  if s.tileOn t ∧ x.groups ≠ 0 ∧ (x.ents.any fun e => queueOf e.word == .array && wOpc e.word != oRBSET) = false then
    let g := maskOf 8 fun j => hasBit x.groups j && (List.range 8).any fun k => j < k && hasBit x.groups k
    s.setTile t { x with groups := g, rampDown := g != 0 }
  else s

/-- Conditions of a load or pass, but for the groups. -/
def arrayDyn (t : Nat) (s : State) (i : Nat) (e : PEnt) : Dyn := if wOpc e.word = oSLD then sldDyn s t i e else mpassDyn s t i e

/-- The governor grants the ramp that was requested first: the load or pass issues, and the groups with it (R240, 15 R404).  A head
that would no longer issue leaves the groups disabled (log entry 82). -/
def State.rampGrant (s : State) (t : Nat) : State :=
  match s.gov.ramps with
  | g :: r =>
    if g = t ∧ s.tileLive t = true then
      let s1 : State := { s with gov := { s.gov with ramps := r } }
      let isOp (o : Nat) : Bool := o == oSLD || o == oMPASS
      match s1.headRes t .array isOp (arrayDyn t) with
      | .goes _ _ _ _ => s1.issueHead t .array isOp (arrayDyn t) fun a i e =>
          if wOpc e.word = oSLD then a.sldAct t i e else a.mpassAct t i e
      | _ => s1
    else s
  | [] => s

end Sys2Proof.Machine
end

