-- ==== Sys2Proof/Machine/VecOps.lean ====
section
/-! DEFINITION. What the vector unit computes (12 R315 to R319, 10 R259 to R261): lanes, reductions, conversions and top-k
selection.  Every function is pure. -/
namespace Sys2Proof.Machine

/-- Canonical NaN of a result (R315). -/
def nanWord : Nat := 0x7FC00000

/-- Maximum or minimum of two FP32 words: NaN for a NaN; between zeros of opposite sign MAX gives +0 and MIN -0 (log entry
24). -/
def fpExtreme (mx : Bool) (a b : Nat) : Nat :=
  match fp32 a, fp32 b with
  | .nan, _ => nanWord
  | _, .nan => nanWord
  | x, y =>
    if x.lt y then (if mx then b else a)
    else if y.lt x then (if mx then a else b)
    else if (a < 2 ^ 31) == mx then a else b

/-- One FP32 lane (Table 12-3). -/
def vopFp (fn a b c : Nat) : Nat :=
  let x := fp32 a
  let y := fp32 b
  if fn = 0x00 then rne32 (x.add y)
  else if fn = 0x01 then rne32 (x.add y.neg)
  else if fn = 0x02 then rne32 (x.mul y)
  else if fn = 0x03 then rne32 ((x.mul y).add (fp32 c))
  else if fn = 0x04 then fpExtreme true a b
  else if fn = 0x05 then fpExtreme false a b
  else if fn = 0x06 then (if x = .nan then nanWord else a % 2 ^ 31)
  else if fn = 0x07 then (if x = .nan then nanWord else (a + 2 ^ 31) % 2 ^ 32)
  else if fn = 0x08 then fpExtreme true a 0
  else if fn = 0x09 then a
  else if fn = 0x0A then (if x.ge y then 0x3F800000 else 0)
  else if fn = 0x0B then (match y with
    | .fin _ 0 _ => if fp32 c = .nan then nanWord else c
    | _ => if x = .nan then nanWord else a)
  else transcendental fn a

/-- One INT32 lane (Table 12-3); FMA saturates its exact result, shifts move bits (log entry 24). -/
def vopInt (fn a b c : Nat) : Nat :=
  let x := toSigned 32 a
  let y := toSigned 32 b
  let z := toSigned 32 c
  let s (v : Int) : Nat := ofSigned 32 (sat32 v)
  if fn = 0x00 then s (x + y)
  else if fn = 0x01 then s (x - y)
  else if fn = 0x02 then s (x * y)
  else if fn = 0x03 then s (x * y + z)
  else if fn = 0x04 then (if x < y then b else a)
  else if fn = 0x05 then (if y < x then b else a)
  else if fn = 0x06 then s (if x < 0 then -x else x)
  else if fn = 0x07 then s (-x)
  else if fn = 0x08 then (if x < 0 then 0 else a)
  else if fn = 0x09 then a
  else if fn = 0x0A then (if x < y then 0 else 1)
  else if fn = 0x0B then (if b = 0 then c else a)
  else if fn = 0x20 then a * 2 ^ (b % 32) % 2 ^ 32
  else if fn = 0x21 then ofSigned 32 (x / ((2 ^ (b % 32) : Nat) : Int))
  else if fn = 0x22 then a &&& b
  else if fn = 0x23 then a ||| b
  else a ^^^ b

/-- One lane of VOP. -/
def vopLane (fn ft a b c : Nat) : Nat := if ft = 0 then vopFp fn a b c else vopInt fn a b c

/-- Pairwise sums of neighbours. -/
def sumPairs (ft : Nat) : List Nat → List Nat
  | a :: b :: t => vopLane 0 ft a b 0 :: sumPairs ft t
  | l => l

/-- `n` levels of the fixed tree (R316). -/
def sumTree (ft : Nat) : Nat → List Nat → List Nat
  | 0, l => l
  | n + 1, l => sumTree ft n (sumPairs ft l)

/-- The reduction of a row of 256 lanes (R316).  The rule fixes the tree for FP32; an INT32 SUM saturates at each node of the
same tree (DESIGN CHOICE, log entry 24). -/
def vredRow (fn ft : Nat) (l : List Nat) : Nat :=
  if fn = 0 then (sumTree ft 8 l).headD 0
  else match l with
    | [] => 0
    | a :: t => t.foldl (fun m x => vopLane (if fn = 1 then 4 else 5) ft m x 0) (vopLane (if fn = 1 then 4 else 5) ft a a 0)

/-! ### Conversion -/

/-- The generators of one conversion instruction (10 R260): one per lane, advanced before each element (log entry 24). -/
def srBits (g : BitVec 32) : Nat := g.toNat / 65536

/-- Step 1 and 2 of a conversion (R318): the scaled, offset and rectified value. -/
def cvtPre (v : Vcvt) (x : Num) (s c : Nat) : Num :=
  if v.smode = 0 ∧ v.cen = false ∧ v.act = 0 then x
  else
    let y := if v.smode = 0 then x else x.mul (fp32 s)
    let z := fp32 (rne32 (y.add (if v.cen then fp32 c else Num.zero)))
    if v.act = 1 then (match z with
      | .fin true _ _ => Num.zero
      | .inf true => Num.zero
      | u => u) else z

/-- Rounding of an element: the selected mode with its lane's bits. -/
def cvtRnd (rnd r : Nat) : Rnd := if rnd = 0 then .rne else if rnd = 1 then .rtz else .sr r

/-- The code of an element in a format other than B4 (R259). -/
def cvtElem (dfmt : Nat) (rnd : Rnd) (x : Num) : Nat :=
  match floatOf dfmt with
  | some f => f.convert rnd x
  | none => convertInt (elemBits dfmt) rnd x

/-- The code of a B4 element under scale `s` (R261). -/
def b4Elem (s : Nat) (rnd : Rnd) (x : Num) : Nat :=
  if s = 255 then 0 else fE2M1.convert rnd (x.scale (127 - (s : Int)))

/-- The blocks of a vector: pieces of 32. -/
def chunks {α : Type} (n : Nat) : Nat → List α → List (List α)
  | 0, _ => []
  | k + 1, l => l.take n :: chunks n k (l.drop n)

/-- The bytes of a destination vector (R253, R255, R261), with the 16-bit random values of its elements. -/
def cvtPack (dfmt rnd : Nat) (xs : List (Num × Nat)) : Bytes :=
  if dfmt = 6 then
    let blocks := chunks 32 (xs.length / 32) xs
    let scales := blocks.map fun b => blockScale (b.map (·.1))
    packNibbles ((blocks.zip scales).flatMap fun b => b.1.map fun x => b4Elem b.2 (cvtRnd rnd x.2) x.1) ++
      scales.map (BitVec.ofNat 8)
  else
    let codes := xs.map fun x => cvtElem dfmt (cvtRnd rnd x.2) x.1
    if dfmt = 1 then packNibbles codes else codes.flatMap fun c => leBytes (elemBits dfmt / 8) c

/-- One vector of VCVT (R317, R318): `src` its source bytes, `sc` the scale word of an element, `of` the offset word, `gs`
the lanes' generators as the vector begins; answers its bytes and the generators after it. -/
def cvtVector (v : Vcvt) (src : Bytes) (sc of : Nat → Nat) (gs : List (BitVec 32)) : Bytes × List (BitVec 32) :=
  let n := 256 * v.vlen
  -- segment after segment, each advancing every lane's generator once
  let segs := (List.range v.vlen).foldl (fun (st : List (List (Num × Nat)) × List (BitVec 32)) q =>
    let g := if v.rnd = 2 then st.2.map xorshift else st.2
    let row := (g.zip (List.range 256)).map fun x =>
      (cvtPre v (vecElem v.sfmt n (256 * q + x.2) src) (sc x.2) (of x.2), srBits x.1)
    (st.1 ++ [row], g)) ([], gs)
  (cvtPack v.dfmt v.rnd segs.1.flatten, segs.2)

/-! ### Top-k -/

/-- `x` ranks before `y` in a list (R319): better, or equal with the lower index; a NaN never enters. -/
def topBetter (largest : Bool) (ft : Nat) (x y : Nat × Nat) : Bool :=
  if ft = 0 then
    let a := fp32 x.1
    let b := fp32 y.1
    a != .nan && (if largest then b.lt a else a.lt b) || (a != .nan && !a.lt b && !b.lt a && b != .nan && x.2 < y.2)
  else
    let a := toSigned 32 x.1
    let b := toSigned 32 y.1
    (if largest then b < a else a < b) || (a = b && x.2 < y.2)

/-- Insert a candidate by rank. -/
def topInsert (largest : Bool) (ft : Nat) (x : Nat × Nat) : List (Nat × Nat) → List (Nat × Nat)
  | [] => [x]
  | y :: t => if topBetter largest ft x y then x :: y :: t else y :: topInsert largest ft x t

/-- The worst value of the initialisation (R319). -/
def topWorst (largest : Bool) (ft : Nat) : Nat :=
  if ft = 0 then (if largest then 0xFF800000 else 0x7F800000) else (if largest then 0x80000000 else 0x7FFFFFFF)

end Sys2Proof.Machine
end

