-- ==== Sys2Proof/Machine/Vector.lean ====
section
/-! DEFINITION. The vector unit at work (12 R310 to R319, R332, R338): rows read in order, no row of a running pass before it
is readable, results written 18 cycles after their read. -/
namespace Sys2Proof.Machine

/-- C-Pail rows of a pass that have not been written yet (R222, R238): all of a reduced pass until it completes, all of a
BF16 or FP16 pass before its last sub-pass. -/
def unwritten (e : PEnt) : Rng :=
  let p := passOf e.word
  let n := if p.red ∨ (isWide p.fmt = true ∧ e.sub ≠ 4) then 0 else e.done
  ⟨2, (p.crow + n * rowsPer p.shape * (if p.twoSub then 2 else 1)) * 1024, (p.crow + p.footprint) * 1024⟩

/-- A range meets rows that older passes have still to write. -/
def Tile.notReadable (x : Tile) (i : Nat) (r : List Rng) : Bool :=
  (x.ents.take i).any fun o => wOpc o.word == oMPASS && anyMeets r [unwritten o]

/-- Bytes of an operand. -/
def Tile.getB (x : Tile) (sp a n : Nat) : Bytes := memRead 0 (x.space sp) a n

/-- Word `k` of a string. -/
def w32At (bs : Bytes) (k : Nat) : Nat := leAt bs (4 * k) 4

/-- Rows of a vector instruction, 0 for VTOPK with INIT. -/
def vecRows (w : W128) : Nat :=
  let o := wOpc w
  if o = oVOP then (vopOf w).rows
  else if o = oVRED then (vredOf w).rows
  else if o = oVCVT then (vcvtOf w).rows
  else if (vtopkOf w).init then 0 else (vtopkOf w).rows

/-- Cycles between two reads (R313). -/
def vecStep (w : W128) : Nat :=
  if wOpc w = oVOP ∧ 0x10 ≤ (vopOf w).fn ∧ (vopOf w).fn ≤ 0x16 then 4
  else if wOpc w = oVCVT then (vcvtOf w).vlen else 1

/-- What row `i` reads. -/
def vecReads (w : W128) (i : Nat) : List Rng :=
  let o := wOpc w
  let at_ (s off n : Nat) : Rng := ⟨s / 65536, specLo s + off, specLo s + off + n⟩
  if o = oVOP then
    let v := vopOf w
    [at_ v.a (1024 * i) 1024] ++
    (if vopUsesB v.fn then
      [if v.bmode = 0 then at_ v.b (1024 * i) 1024 else if v.bmode = 1 then at_ v.b 0 1024
       else if v.bmode = 2 then at_ v.b 0 4 else at_ v.b (4 * i) 4] else []) ++
    (if vopUsesC v.fn then [at_ v.c (1024 * i) 1024] else [])
  else if o = oVRED then [at_ (vredOf w).a (1024 * i) 1024]
  else if o = oVCVT then let v := vcvtOf w; [at_ v.a (i * v.sstr) (vecBytes v.sfmt (256 * v.vlen))]
  else [at_ (vtopkOf w).a (1024 * i) 1024]

/-- The lanes' generators before vector `n` (10 R260). -/
def gensAt (v : Vcvt) (n : Nat) : List (BitVec 32) :=
  (List.range (n * v.vlen)).foldl (fun gs _ => gs.map xorshift) ((List.range 256).map (laneSeed v.seed))

/-- The 256 lanes of a VOP operand in row `i`. -/
def Tile.lanesB (x : Tile) (v : Vop) (i l : Nat) : Nat :=
  let sp := v.b / 65536
  let a := specLo v.b
  leNat (x.getB sp (if v.bmode = 0 then a + 1024 * i + 4 * l else if v.bmode = 1 then a + 4 * l
    else if v.bmode = 2 then a else a + 4 * i) 4)

/-- Result of row `i` of VOP, VRED or VCVT: space, address, bytes, from and to the spaces that its fields name (09 R225; log entry 57 on
the S-Pail). -/
def Tile.vecRow (x : Tile) (w : W128) (i : Nat) : Nat × Nat × Bytes :=
  let o := wOpc w
  if o = oVOP then
    let v := vopOf w
    let a := x.getB (v.a / 65536) (specLo v.a + 1024 * i) 1024
    let c := if vopUsesC v.fn then x.getB (v.c / 65536) (specLo v.c + 1024 * i) 1024 else []
    (v.d / 65536, specLo v.d + 1024 * i, (List.range 256).flatMap fun l =>
      leBytes 4 (vopLane v.fn v.ft (w32At a l) (if vopUsesB v.fn then x.lanesB v i l else 0) (w32At c l)))
  else if o = oVRED then
    let v := vredOf w
    let a := x.getB (v.a / 65536) (specLo v.a + 1024 * i) 1024
    (v.d / 65536, specLo v.d + 4 * i, leBytes 4 (vredRow v.fn v.ft ((List.range 256).map (w32At a))))
  else
    let v := vcvtOf w
    let src := x.getB (v.a / 65536) (specLo v.a + i * v.sstr) (vecBytes v.sfmt (256 * v.vlen))
    let sc (l : Nat) : Nat := leNat (x.getB 3 (v.sreg * 1024 + 4 * (if v.smode = 1 then l else if v.smode = 2 then 0 else i)) 4)
    let of (l : Nat) : Nat := leNat (x.getB 3 (v.creg * 1024 + 4 * l) 4)
    (v.d / 65536, specLo v.d + i * v.dstr, (cvtVector v src sc of (if v.rnd = 2 then gensAt v i else [] ++ List.replicate 256 0)).1)

/-- Row `i` of VTOPK: in every lane the value is offered with its index (R319). -/
def Tile.topRow (x : Tile) (v : Vtopk) (i : Nat) : Tile :=
  let a := x.getB (v.a / 65536) (specLo v.a + 1024 * i) 1024
  let ix := (x.xbase + i) % 2 ^ 32
  let vals := (List.range v.k).map fun r => x.getB 3 ((v.vb + r) * 1024) 1024
  let idxs := (List.range v.k).map fun r => x.getB 3 ((v.vb + v.k + r) * 1024) 1024
  let lists := (List.range 256).map fun l =>
    (topInsert v.largest v.ft (w32At a l, ix) (((vals.map (w32At · l)).zip (idxs.map (w32At · l))))).take v.k
  (List.range v.k).foldl (fun (y : Tile) r =>
    (y.put 3 ((v.vb + r) * 1024) (lists.flatMap fun q => leBytes 4 (q.getD r (0, 0)).1)).put 3 ((v.vb + v.k + r) * 1024)
      (lists.flatMap fun q => leBytes 4 (q.getD r (0, 0)).2)) x

/-- The initial lists of VTOPK (R319). -/
def Tile.topInit (x : Tile) (v : Vtopk) : Tile :=
  let y := (List.range v.k).foldl (fun (y : Tile) r =>
    (y.put 3 ((v.vb + r) * 1024) ((List.range 256).flatMap fun _ => leBytes 4 (topWorst v.largest v.ft))).put 3
      ((v.vb + v.k + r) * 1024) ((List.range 256).flatMap fun _ => leBytes 4 0xFFFFFFFF)) x
  { y with xbase := v.ibase }

/-- Write out results until at most `n` are on their way. -/
def Tile.vdrain (n : Nat) : Nat → Tile → Tile
  | 0, x => x
  | k + 1, x =>
    if x.vpend.length ≤ n then x
    else match x.vpend with
      | w :: t => Tile.vdrain n k ({ x with vpend := t }.put w.1 w.2.1 w.2.2)
      | [] => x

/-- Up to `n` rows of the vector instruction at `i`.  A result is written 18 cycles after its row was read: a row that is read
in that very cycle is read as it was before (DESIGN CHOICE, log entry 57; the spec orders no read against a write of one
cycle). -/
def State.vecGo (t i : Nat) : Nat → State → State
  | 0, s => s
  | k + 1, s =>
    let x := s.tile t
    match x.ents[i]? with
    | none => s
    | some e =>
      if vecRows e.word ≤ e.done ∨ x.notReadable i (vecReads e.word e.done) = true then s
      else
        let y :=
          if wOpc e.word = oVTOPK then x.topRow (vtopkOf e.word) e.done
          -- the results of rows read more than 18 cycles ago have been written
          else
            let z := Tile.vdrain (18 / vecStep e.word) 64 x
            { z with vpend := z.vpend ++ [z.vecRow e.word e.done] }
        State.vecGo t i k (((s.setTile t y).setEnt t i fun v => { v with done := v.done + 1 }).tilePerf t pfVEC_ROWS)

/-- An issued vector instruction with rows to read. -/
def vecOpen (e : PEnt) : Bool := e.issued && queueOf e.word == .vector && e.done < vecRows e.word

/-- Conditions of a vector instruction (R312, R313): one reads at a time; a VTOPK follows the older one's row base. -/
def vecDyn (s : State) (t i : Nat) (e : PEnt) : Dyn :=
  let older := (s.tile t).ents.take i
  if (older.any fun o => o.issued && queueOf o.word == .vector && (vecOpen o || wOpc o.word == oVTOPK && wOpc e.word == oVTOPK)) = true then .wait
  else .go

/-- A vector instruction issues; one with INIT completes in its cycle. -/
def State.vecAct (s : State) (t n i : Nat) (e : PEnt) : State :=
  let v := vtopkOf e.word
  if wOpc e.word = oVTOPK ∧ v.init = true then (s.setTile t ((s.tile t).vflush.topInit v)).completeAt t i
  else
    let s1 := s.setTile t (s.tile t).vflush
    -- a stochastic conversion starts again from its first vector, whatever its record says (R269, R359)
    State.vecGo t i n
      (if wOpc e.word = oVCVT ∧ (vcvtOf e.word).rnd = 2 then s1.setEnt t i fun x => { x with done := 0 } else s1)

/-- VOP, VRED, VCVT and VTOPK: the instruction in progress, else the head of the vector queue, reads up to `n` rows. -/
def State.vector (s : State) (t opc n : Nat) : State :=
  match posOf vecOpen 0 (s.tile t).ents with
  | some i =>
    match (s.tile t).ents[i]? with
    | some e => if wOpc e.word = opc ∧ s.tileLive t = true then State.vecGo t i n s else s
    | none => s
  | none => s.issueHead t .vector (· == opc) (vecDyn · t) fun a i e => a.vecAct t n i e

/-- A vector instruction completes: its last results are written, and VTOPK moves the row base (R313, R319). -/
def State.vecEnd (s : State) (t i : Nat) (e : PEnt) : State :=
  let x := (s.tile t).vflush
  let y := if wOpc e.word = oVTOPK then { x with xbase := (x.xbase + vecRows e.word) % 2 ^ 32 } else x
  (s.setTile t y).completeAt t i

/-! ### INSTRUCTION_COMPLETE (R277, R282) -/

/-- Nothing of an issued instruction remains but its completion. -/
def workDone (e : PEnt) : Bool :=
  match queueOf e.word with
  | .ladle0 | .ladle1 => (ladleOf e.word).rows ≤ e.done
  | .array => if wOpc e.word = oSLD then e.direct else passDone e
  | .vector => vecRows e.word ≤ e.done
  | .control => false

/-- An instruction that reads Pails in the background can meet an uncorrectable word. -/
def readsPail (e : PEnt) : Bool := queueOf e.word != .control && wOpc e.word != oLDV

/-- The entry at `i` of tile `t` completes, or ends on an uncorrectable Pail word (R226, R251). -/
def State.instrComplete (s : State) (t i : Nat) (r : PailRep) : State :=
  match (s.tile t).ents[i]? with
  | none => s
  | some e =>
    if !e.issued || !s.tileLive t then s
    else if r.ue then
      if readsPail e && (if wOpc e.word = oSLD then e.direct else !workDone e) then
        ((s.setTile t ((s.tile t).reported r)).abortEnter t i xPAIL_UE).tilSettle t
      else s
    else if !workDone e then s
    else
      let s1 := s.setTile t ((s.tile t).reported r)
      if wOpc e.word = oMPASS then s1.passEnd t i e
      else if wOpc e.word = oSLD then s1.directEnd t i e
      else if queueOf e.word = .vector then s1.vecEnd t i e
      else s1.completeAt t i

end Sys2Proof.Machine
end

