-- ==== Sys2Proof/Machine/Control.lean ====
section
/-! DEFINITION. The control instructions (12 R320 to R329, R334, R335, R337): NOP, XSIG, BAR, TCLR, LOOP, CPL and HMSG, and
the completion ring (13 R346, R347). -/
namespace Sys2Proof.Machine

/-- NOP; RFENCE at the tile, and any opcode that the map does not list, take its place in the control queue (R309, R327,
log entry 23). -/
def isNop (o : Nat) : Bool := o == oNOP || o == oRFENCE || !opcodes.contains o

/-- NOP (R274). -/
def State.nop (s : State) (t : Nat) : State :=
  s.issueHead t .control isNop (fun _ _ _ => .go) fun a i _ => a.completeAt t i

/-- An older STV of the tile has not completed (R320). -/
def stvOlder (s : State) (t i : Nat) : Bool := ((s.tile t).ents.take i).any fun o => wOpc o.word == oSTV

/-- XSIG (R320, R321, R334). -/
def State.xsig (s : State) (t : Nat) : State :=
  s.issueHead t .control (· == oXSIG) (fun a i _ => if stvOlder a t i then .wait else .go) fun a i e =>
    if a.tileOn (wXtile e.word) then (a.send t e false).completeAt t i
    else (a.send t e false).setEnt t i fun v => { v with waits := true }

/-- The increments that waited for the power-up of tile `t`, one by one: each completes its XSIG (R334); a poisoned one is that of an
XSIG that has ended (R321). -/
def State.deliverXsigs (t : Nat) : List Xsig → State → State
  | [], s => s
  | y :: r, s =>
    let ended : PEnt := { word := y.word, ring := 0, idx := y.idx, slot := 0, lvl := 0 }
    let s1 :=
      if y.poison then s.signal t y.tok true y.src ended
      else
        match posOf (fun e => e.waits && wXtile e.word == t && wXtok e.word == y.tok) 0 (s.tile y.src).ents with
        | some i =>
          (match (s.tile y.src).ents[i]? with
          | some e => (s.signal t y.tok false y.src e).completeAt y.src i
          | none => s)
        | none => s
    State.deliverXsigs t r s1

/-- XSIG_DELIVER. -/
def State.xsigDeliver (s : State) (t : Nat) : State :=
  if s.tileOn t ∧ (s.tile t).zeroing = false then
    State.deliverXsigs t (s.tile t).xsigs (s.setTile t { s.tile t with xsigs := [] })
  else s

/-- Conditions of BAR (R320, R322). -/
def barDyn (s : State) (t i : Nat) (e : PEnt) : Dyn :=
  match s.ownerOf t with
  | none => .wait
  | some p =>
    let b := s.bar p (wBid e.word)
    if stvOlder s t i ∨ ((b.tiles ++ b.full.flatten).any (·.1 == t)) = true then .wait
    else if b.tiles.isEmpty = false ∧ b.cnt ≠ wf e.word 91 7 then .exc xBAR_COUNT
    else .go

/-- BAR: an arrival; the last one of a generation leaves the barrier to a new one (R322). -/
def State.barArrive (s : State) (t i : Nat) (e : PEnt) : State :=
  match s.ownerOf t with
  | none => s
  | some p =>
    let b := s.bar p (wBid e.word)
    let poison := match (s.tile t).ents[i]? with
      | some v => v.poisoned
      | none => false
    let cnt := if b.tiles.isEmpty then wf e.word 91 7 else b.cnt
    let tiles := b.tiles ++ [(t, poison)]
    s.setBar p (wBid e.word)
      (if cnt ≤ tiles.length then { full := b.full ++ [tiles] } else { b with cnt := cnt, tiles := tiles })

/-- BAR. -/
def State.barrier (s : State) (t : Nat) : State :=
  s.issueHead t .control (· == oBAR) (barDyn · t) fun a i e => a.barArrive t i e

/-- The arrivals of a complete generation end, one by one (R322). -/
def State.barEnd (b : Nat) (poison : Bool) : List (Nat × Bool) → State → State
  | [], s => s
  | (t, _) :: r, s =>
    let s1 :=
      match posOf (fun e => e.issued && wOpc e.word == oBAR && wBid e.word == b) 0 (s.tile t).ents with
      | some i => if poison then s.abortEnter t i xPOISONED else s.completeAt t i
      | none => s
    State.barEnd b poison r s1

/-- BARRIER_COMPLETE of the oldest generation whose arrivals have all been made. -/
def State.barComplete (s : State) (p b : Nat) : State :=
  let x := s.bar p b
  match x.full with
  | g :: rest => State.barEnd b (g.any (·.2)) g (s.setBar p b { x with full := rest })
  | [] => s

/-- Conditions of TCLR (R323): every older instruction that names a masked token has issued and, where it signals one,
completed. -/
def tclrDyn (s : State) (t i : Nat) (e : PEnt) : Dyn :=
  let m := wf e.word 70 32
  let names (k : Nat) : Bool := k ≤ 31 && hasBit m k
  if (((s.tile t).ents.take i).any fun o =>
      (!o.issued && (names (wW0 o.word) || names (wW1 o.word))) || names (wSg o.word)) = true then .wait
  else .go

/-- TCLR. -/
def State.tclr (s : State) (t : Nat) : State :=
  s.issueHead t .control (· == oTCLR) (tclrDyn · t) fun a i e =>
    let m := wf e.word 70 32
    (a.setTile t ((bitsSet m 32).foldl (fun (x : Tile) k => x.setTok k {}) (a.tile t))).completeAt t i

/-- LOOP: the slot at the front opens the loop buffer, or ends with FIELD (R324). -/
def State.loopOpen (s : State) (t : Nat) : State :=
  let x := s.tile t
  if !s.tileLive t || !x.back.isEmpty || x.loop.isSome then s
  else
    match x.takeSlot with
    | none => s
    | some (e, y) =>
      if wOpc e.word ≠ oLOOP then s
      else if e.nests then (s.setTile t { y with loop := some { ent := e } }).enter t
      else ((s.setTile t y).endAborted t e xFIELD).enter t

/-! ### The completion ring (13 R346, R347) -/

/-- Free-running ring indices (R339). -/
def ringMod : Nat := 2 ^ 17

/-- An entry can be reserved: the ring is enabled and not full (R347). -/
def State.cqRoom (s : State) (p n : Nat) : Bool :=
  (s.fld F.SEP_CQ_PROD_RSV 0 p + ringMod - s.fld F.SEP_CQ_CONS_CONS 0 p) % ringMod + n ≤ 2 ^ s.fld F.SEP_CQ_CFG_SIZE 0 p

/-- P-address of entry `n`. -/
def State.cqAddr (s : State) (p n : Nat) : Nat :=
  s.fld F.SEP_CQ_BASE_BASE 0 p * 4096 + 16 * (n % 2 ^ s.fld F.SEP_CQ_CFG_SIZE 0 p)

/-- Its 16 bytes as entry `n` of a ring of 2^`size` entries. -/
def CqEnt.bytes (c : CqEnt) (n size : Nat) : Bytes :=
  leBytes 4 c.tag ++ leBytes 1 c.tile ++ leBytes 1 (c.ring + 128 * (1 - n / 2 ^ size % 2)) ++ leBytes 1 c.aborts ++
  leBytes 1 c.lastExc ++ leBytes 1 c.lastStop ++ [0, 0, 0] ++ leBytes 4 c.index

/-- CQ_NOTIFY (R347, Table 6-8). -/
def State.cqNotify (s : State) (p : Nat) : State :=
  let n := s.fld F.SEP_CQ_PROD_PROD 0 p
  let x := s.part p
  (s.setPart p { x with notified := n }).mPush p
    { op := 0x81, part := p, addr := n % 65536, aux := (n + ringMod - x.notified) % ringMod }

/-- Write entry `n` at physical address `a`, and count it (R361): into part of a unit, which is read first; one that is
uncorrectable cannot take it (14 R382, log entry 26). -/
def State.cqStore (s : State) (p a : Nat) (w : Posted) : State :=
  let bs := w.ent.bytes w.n (s.fld F.SEP_CQ_CFG_SIZE 0 p)
  let us := unitsOf a bs.length
  let s1 := s.unitsRead us 3 w.ent.tile p
  if us.any s.unitBad then s1 else (s1.vwrite (s.part p).key (s.cqAddr p w.n) a bs).perf p pfCPL

/-- The oldest posted entry is written, or lost with its page, and PROD passes it; its CQ_NOTIFY follows (R151, R347, log entry
26). -/
def State.cqEntry (s : State) (p : Nat) (w : Posted) (rest : List Posted) : State :=
  let s1 := match s.vloc p (s.cqAddr p w.n) with
    | .phys a => s.cqStore p a w
    | _ => s
  let s2 := s1.setPart p { s1.part p with posted := rest }
  let s3 := s2.put F.SEP_CQ_PROD_PROD (w.n + 1) 0 p
  if w.notify then s3.cqNotify p else s3

/-- Posted entries are written in index order, up to one whose page is in CLEARING or waits for the Vat (R347, 05 R109). -/
def State.cqFlush (p : Nat) : Nat → State → State
  | 0, s => s
  | k + 1, s =>
    match (s.part p).posted with
    | [] => s
    | w :: rest => if s.vloc p (s.cqAddr p w.n) = .stall then s.vatWake else State.cqFlush p k (s.cqEntry p w rest)

/-- Write what can be written of the posted entries of partition `p`. -/
def State.cqDrain (s : State) (p : Nat) : State := State.cqFlush p (s.part p).posted.length s

/-- Reserve the next entry and post its write (R347), for a CPL of the bundle with the place `born` in the order of fetching. -/
def State.cqWrite (s : State) (p : Nat) (c : CqEnt) (notify : Bool) (born : Nat) : State :=
  let n := s.fld F.SEP_CQ_PROD_RSV 0 p
  let x := s.part p
  let s1 := (s.setPart p { x with posted := x.posted ++ [⟨n, c, notify, s.vmem.arrived, born⟩] }).put F.SEP_CQ_PROD_RSV (n + 1) 0 p
  State.cqDrain { s1 with vmem := { s1.vmem with arrived := s1.vmem.arrived + 1 } } p

/-- Conditions of CPL (R320, R328, R347). -/
def cplDyn (s : State) (t i : Nat) (e : PEnt) : Dyn :=
  match s.ownerOf t with
  | none => .wait
  | some p =>
    if i ≠ 0 then .wait
    else if s.flag F.SEP_CQ_CFG_EN 0 p then
      (if s.cqRoom p 1 && (wf e.word 101 1 == 0 || s.mRoom p 1) then .go else .wait)
    else .go

/-- CPL (R328, R347). -/
def State.cpl (s : State) (t : Nat) : State :=
  s.issueHead t .control (· == oCPL) (cplDyn · t) fun a i e =>
    match a.ownerOf t with
    | none => a
    | some p =>
      let x := a.tile t
      let c : CqEnt := ⟨wf e.word 69 32, t, e.ring, x.aborts, x.lastExc, x.lastStop, e.idx⟩
      let a1 := a.setTile t { x with aborts := 0, lastExc := 0, lastStop := 0 }
      let a2 := if a.flag F.SEP_CQ_CFG_EN 0 p then
          a1.cqWrite p c (wf e.word 101 1 == 1) e.born
        else a1
      a2.completeAt t i

/-- HMSG: 16 bytes of a Pail go to the hosts (R329). -/
def State.hmsg (s : State) (t : Nat) (r : PailRep) : State :=
  s.issueHead t .control (· == oHMSG)
    (fun a i _ => match a.ownerOf t with
      | none => .wait
      | some p => if stvOlder a t i ∨ a.mRoom p 1 = false then .wait else .go)
    fun a i e =>
      let a1 := a.setTile t ((a.tile t).reported r)
      if r.ue then (a1.abortEnter t i xPAIL_UE).tilSettle t
      else
        match a1.ownerOf t with
        | none => a1
        | some p =>
          (a1.mPush p { op := 0x82, part := p, lenb := 16, aux := t
                        data := (a1.tile t).getB (wf e.word 100 2) (wf e.word 82 18 * 16) 16 }).completeAt t i

end Sys2Proof.Machine
end

