-- ==== Sys2Proof/Machine/Ladle.lean ====
section
/-! DEFINITION. The Ladle (11 R285 to R289, R303, R305): rows copied between the Vat and a Pail, one after another. -/
namespace Sys2Proof.Machine

/-- What copying one row comes to. -/
inductive RowRes where
  | done (s : State)
  /-- It waits for a page in CLEARING or for the Vat. -/
  | wait (s : State)
  /-- It meets a Vat error; the state has recorded it. -/
  | fault (s : State) (code : Nat)

/-- The pieces of a Vat range, cut at page boundaries: address and length. -/
def vatPieces : Nat → Nat → Nat → List (Nat × Nat)
  | 0, _, _ => []
  | k + 1, a, n =>
    if n = 0 then []
    else
      let m := min n (pageSize - a % pageSize)
      (a, m) :: vatPieces k (a + m) (n - m)

/-- The pieces of the row in progress of the Ladle instruction `e` that lie within its first `n` bytes: where each stands in the row,
its physical address, its P-address and its length; none where a page is not there. -/
def State.rowPieces (s : State) (p : Nat) (e : PEnt) (n : Nat) : List (Nat × Nat × Nat × Nat) :=
  let l := ladleOf e.word
  let va := l.vadr + e.done * l.vstr
  (vatPieces 2 va n).filterMap fun x =>
    match s.vloc p x.1 with
    | .phys y => some (x.1 - va, y, x.1, x.2)
    | _ => none

/-- Copy pieces of the row in progress, from or to any Pail (R286, 09 R225). -/
def State.copyPieces (s : State) (t p : Nat) (e : PEnt) (ps : List (Nat × Nat × Nat × Nat)) : State :=
  let l := ladleOf e.word
  let pa := l.padr + e.done * l.rlen
  let key := (s.part p).key
  ps.foldl (fun a x =>
    if wOpc e.word = oLDV then a.setTile t ((a.tile t).put l.pail (pa + x.1) (a.vread key x.2.2.1 x.2.1 x.2.2.2))
    else a.vwrite key x.2.2.1 x.2.1 (memRead 0 ((a.tile t).space l.pail) (pa + x.1) x.2.2.2)) s

/-- The units that an LDV reads for pieces of a row. -/
def pieceUnits (e : PEnt) (ps : List (Nat × Nat × Nat × Nat)) : List Nat :=
  if wOpc e.word = oLDV then ps.flatMap fun x => unitsOf x.2.1 x.2.2.2 else []

/-- A page of the row in progress is lost: the row is left partly copied, up to the page that it waited for, and those bytes count as
moved (R305, 13 R361). -/
def State.rowCut (s : State) (t p : Nat) (e : PEnt) : State :=
  let ps := s.rowPieces p e e.part
  let us := pieceUnits e ps
  let s1 := s.unitsRead us 3 t p
  if us.any s.unitBad then s1 else (s1.copyPieces t p e ps).tilePerf t pfLADLE_BYTES (ps.map (·.2.2.2)).sum

/-- The row of `e`, the entry at `i`, waits: how much of it lies before the page that it waits for, and its place in the order of
arrival, are kept in mind. -/
def State.rowWaits (s : State) (t i n : Nat) : State :=
  match (s.tile t).ents[i]? with
  | some e =>
    if e.seq = 0 then
      let s1 := s.setEnt t i fun x => { x with part := n, seq := s.vmem.arrived + 1 }
      { s1 with vmem := { s1.vmem with arrived := s1.vmem.arrived + 1 } }
    else s.setEnt t i fun x => { x with part := n }
  | none => s

/-- The next row of the Ladle instruction `e`, the entry at `i` of tile `t` of partition `p`: the page of each of its bytes is checked
(R287), and its bytes are copied once every page is there, so that a row that meets a fault changes nothing (R282, 14 R382).  A row
that waited and then lost a page is left partly copied (R305). -/
def State.ladleRow (s : State) (t p i : Nat) (e : PEnt) : RowRes :=
  let l := ladleOf e.word
  let xs := vatPieces 2 (l.vadr + e.done * l.vstr) l.rlen
  let at_ (v : VLoc) : Bool := xs.any fun x => s.vloc p x.1 == v
  if at_ .range && e.seq == 0 then .fault s xVAT_RANGE
  else if at_ .range || at_ .gone then .fault (s.rowCut t p e) xPAGE_LOST
  else if at_ .stall then
    .wait (s.vatWake.rowWaits t i ((xs.takeWhile fun x => s.vloc p x.1 != .stall).map (·.2)).sum)
  else
    let ps := s.rowPieces p e l.rlen
    let us := pieceUnits e ps
    let s1 := s.unitsRead us 3 t p
    if us.any s.unitBad then .fault s1 xVAT_UE else .done (s1.copyPieces t p e ps)

/-- What follows a row; `more` copies the rows after it. -/
def State.ladleNext (t i : Nat) (e : PEnt) (more : State → State) : RowRes → State
  | .wait s1 => s1
  | .fault s1 c =>
    match (s1.tile t).ents[i]? with
    | some _ => s1.abortEnter t i c
    | none => s1
  | .done s1 => more ((s1.setEnt t i fun x => { x with done := x.done + 1, part := 0, seq := 0 }).tilePerf t pfLADLE_BYTES (ladleOf e.word).rlen)

/-- Rows `left` of the Ladle entry at `i`, while they go. -/
def State.ladleRows (t i : Nat) : Nat → State → State
  | 0, s => s
  | k + 1, s =>
    match (s.tile t).ents[i]?, s.ownerOf t with
    | some e, some p =>
      if e.done < (ladleOf e.word).rows then State.ladleNext t i e (State.ladleRows t i k) (s.ladleRow t p i e) else s
    | _, _ => s

/-- The Ladle row of tile `t` that waits with the place `n` in the order of arrival is tried again (14 R373, R387). -/
def State.ladleAgain (s : State) (t n : Nat) : State :=
  match posOf (fun e => e.issued && e.seq == n + 1) 0 (s.tile t).ents with
  | some i => if s.tileLive t then State.ladleRows t i 1 s else s
  | none => s

/-- An issued Ladle instruction with rows to go. -/
def ladleOpen (q : Queue) (e : PEnt) : Bool :=
  e.issued && queueOf e.word == q && e.done < (ladleOf e.word).rows

/-- LDV or STV: the instruction in progress on a channel, else the head of its queue, copies up to `n` rows. -/
def State.ladle (s : State) (t : Nat) (ch : Bool) (opc n : Nat) : State :=
  let q : Queue := if ch then .ladle1 else .ladle0
  match posOf (ladleOpen q) 0 (s.tile t).ents with
  | some i =>
    match (s.tile t).ents[i]? with
    | some e => if wOpc e.word = opc ∧ s.tileLive t = true then State.ladleRows t i n s else s
    | none => s
  | none => s.issueHead t q (· == opc) (fun _ _ _ => .go) fun a i _ => State.ladleRows t i n a

/-- A page of a partition has been unmapped: every issued Ladle instruction of its tiles with rows to go in it ends with
PAGE_LOST (R122, R305). -/
def ladleTouches (pp : Nat) (e : PEnt) : Bool :=
  let l := ladleOf e.word
  e.issued && (wOpc e.word == oLDV || wOpc e.word == oSTV) &&
  (List.range (l.rows - e.done)).any fun k =>
    let a := l.vadr + (e.done + k) * l.vstr
    a / pageSize == pp || (a + l.rlen - 1) / pageSize == pp

/-- End what touches a P-page, at most `n` entries of one tile. -/
def State.pageLostTile (t p pp : Nat) : Nat → State → State
  | 0, s => s
  | n + 1, s =>
    match posOf (ladleTouches pp) 0 (s.tile t).ents with
    | some i =>
      let s1 := match (s.tile t).ents[i]? with
        | some e => s.rowCut t p e
        | none => s
      State.pageLostTile t p pp n (s1.abortAt t i xPAGE_LOST)
    | none => s.enter t

/-- P-page `pp` of partition `p` has been unmapped. -/
def State.pageLost (s : State) (p pp : Nat) : State :=
  (s.tilesOf p).foldl (fun a t => State.pageLostTile t p pp 32 a) s

end Sys2Proof.Machine
end

