-- ==== Sys2Proof/Machine/Rings.lean ====
section
/-! DEFINITION. Submission rings, the fetch of bundles, pre-emption and resumption, telemetry (12 R327, 13 R339 to R370). -/
namespace Sys2Proof.Machine

/-- Ring `r` of partition `p`. -/
def State.sring (s : State) (p r : Nat) : SubRing := (s.part p).rings.get {} ⟨r, 0, 0⟩
/-- Set a ring. -/
def State.setSring (s : State) (p r : Nat) (x : SubRing) : State :=
  s.setPart p { s.part p with rings := (s.part p).rings.set {} ⟨r, 0, 0⟩ x }

/-- `HEAD`, `TAIL`, `PRIO`, `EN` of a ring. -/
def State.rHead (s : State) (p r : Nat) : Nat := s.fld F.SEP_RING_STAT_HEAD r p
def State.rTail (s : State) (p r : Nat) : Nat := s.fld F.SEP_RING_STAT_TAIL r p
def State.rPrio (s : State) (p r : Nat) : Nat := s.fld F.SEP_RING_CFG_PRIO r p
def State.rEn (s : State) (p r : Nat) : Bool := s.flag F.SEP_RING_CFG_EN r p

/-! ### Writes (R340, R341, R346, R348) -/

/-- What a write of SEP_RING_CFG does to a ring that ran or not before it; `wrote` tells that the write enables the byte of
`EN`.  Writing `EN` = 1 empties the ring, also one that runs; only a ring that was off leaves ERROR or FENCED by it (R340,
R345). -/
def State.ringEn (s : State) (p r : Nat) (was wrote : Bool) : State :=
  if s.rEn p r then
    (if wrote then
      ((s.setSring p r (if was then { s.sring p r with segs := [] } else {})).put F.SEP_RING_STAT_HEAD 0 r p).put
        F.SEP_RING_STAT_TAIL 0 r p
     else s)
  else if was then s.setSring p r {}
  else s

/-- `DB_DROP` (R341): a doorbell is discarded. -/
def State.dbDrop (s : State) (p r port : Nat) : State :=
  ((s.putFlag F.SEP_RING_STAT_DB_DROP true r p).perf p pfDB_DROP).pcEv p 0x02 lNote (0x7F0000001010 + 64 * r) 1 port

/-- The groups that hold tiles of a partition: a doorbell wakes them (03 Table 3-5). -/
def State.groupsOf (s : State) (p : Nat) : Nat := maskOf 8 fun g => (s.tilesOf p).any fun t => s.groupOf t == g

/-- Publish entries up to `tail` for tile `t`: the newest segment grows where it names the tile. -/
def publish (segs : List Seg) (t n : Nat) : List Seg :=
  match segs.reverse with
  | x :: r => if x.tile = t then (⟨t, x.count + n⟩ :: r).reverse else segs ++ [⟨t, n⟩]
  | [] => [⟨t, n⟩]

/-- A doorbell can be accepted (R341). -/
def State.dbOk (s : State) (p r t tail : Nat) : Bool :=
  let x := s.sring p r
  let d := (tail + ringMod - s.rHead p r) % ringMod
  s.rEn p r && !x.error && s.owns p t && d ≤ 2 ^ s.fld F.SEP_RING_CFG_SIZE r p &&
  (x.segs.length < 16 || x.segs.getLast?.any fun y => y.tile == t)

/-- The wake of a doorbell (03 R69, Table 3-5); a group whose idle timer expired in this decision tick keeps its request whether
or not doorbells wake (R78). -/
def State.dbWake (s : State) (p : Nat) : State :=
  let won := s.groupsOf p &&& s.pow.idleCut
  if s.flag F.AON_WAKE_CFG_DOORBELL_EN then
    let s1 := s.putBitOf F.AON_WAKE_SRC_SRC 3 true
    if s.flag F.AON_PIN_PHASE_HOLDUP then s1
    else s1.vatAsk.put F.AON_PD_REQ_TG_REQ (s.fld F.AON_PD_REQ_TG_REQ ||| s.groupsOf p)
  else s.put F.AON_PD_REQ_TG_REQ (s.fld F.AON_PD_REQ_TG_REQ ||| won)

/-- SEP_RING_DB (R341). -/
def State.doorbell (s : State) (p r t tail port : Nat) : State :=
  if s.rTail p r = tail then s
  else if s.dbOk p r t tail then
    let x := s.sring p r
    let n := (tail + ringMod - s.rTail p r) % ringMod
    ((s.setSring p r { x with segs := publish x.segs t n }).put F.SEP_RING_STAT_TAIL tail r p).dbWake p
  else s.dbDrop p r port

/-- `EN` of the completion ring goes from 0 to 1 (R346). -/
def State.cqEn (s : State) (p : Nat) (was : Bool) : State :=
  if s.flag F.SEP_CQ_CFG_EN 0 p && !was then
    let s1 := ((s.put F.SEP_CQ_PROD_RSV 0 0 p).put F.SEP_CQ_PROD_PROD 0 0 p).put F.SEP_CQ_CONS_CONS 0 0 p
    s1.setPart p { s1.part p with notified := 0, posted := [] }
  else s

/-- SEP_CQ_CONS (R348). -/
def State.cqCons (s : State) (p v port : Nat) : State :=
  let prod := s.fld F.SEP_CQ_PROD_PROD 0 p
  let left := (prod + ringMod - v) % ringMod
  if left ≤ 2 ^ s.fld F.SEP_CQ_CFG_SIZE 0 p then s.put F.SEP_CQ_CONS_CONS v 0 p
  else s.pcEv p 0x05 lNote 0x7F0000001218 1 port

/-- `CLEAR` of SEP_PC_PERF_CTL (R361). -/
def State.perfClear (s : State) (p : Nat) : State :=
  (List.range 12).foldl (fun a i => a.put F.SEP_PC_PERF_COUNT 0 i p) s

/-! ### Levels and pre-emption (R350 to R354, R363 to R366) -/

/-- Instructions in the Parlour or inbound buffer, or on their way between them. -/
def Tile.liveEnts (x : Tile) : List PEnt :=
  x.ents ++ x.back ++ (match x.loop with
    | some lb => lb.ent :: lb.body
    | none => []) ++ x.again ++ x.inb.flatten

/-- The level of a tile: none where it holds no instruction (R350). -/
def Tile.level (x : Tile) : Option Nat :=
  match x.liveEnts with
  | [] => none
  | e :: t => some (t.foldl (fun m y => max m y.lvl) e.lvl)

/-- What a pre-emption does with an issued instruction of a lower level (R351). -/
inductive Fate where
  | stays | cut | saved
  deriving DecidableEq, Repr

/-- The fate of an entry under a pre-emption to level `lvl`; `drop` tells `PCLASS` = 1 of a ring.  An issued control
instruction other than BAR is under way only where an XSIG waits for a power-up. -/
def fateOf (lvl : Nat) (drop : Nat → Bool) (e : PEnt) : Fate :=
  if lvl ≤ e.lvl then .stays
  else if !e.issued then .saved
  else if wOpc e.word = oBAR then .saved
  else if queueOf e.word = .control then (if drop e.ring && e.waits then .saved else .stays)
  else if drop e.ring then .saved
  else if wOpc e.word = oMPASS ∧ isWide (passOf e.word).fmt = true ∧ passDone e = false then .cut
  else .stays

/-- The entries that a pre-emption takes out of the Parlour, oldest first: those that are saved, and the followers of a pass among
them (R351, R332). -/
def preemptOut (fate : PEnt → Fate) : List PEnt → List PEnt → List PEnt
  | out, [] => out
  | out, e :: r => preemptOut fate (if fate e == .saved || out.any (follows e ·) then out ++ [e] else out) r

/-- The tile after a pre-emption to level `lvl` (R351). -/
def Tile.preempt (x : Tile) (lvl : Nat) (drop : Nat → Bool) : Tile :=
  let fate (e : PEnt) : Fate := fateOf lvl drop e
  let gone := preemptOut fate [] x.ents
  let out (e : PEnt) : Bool := gone.any fun m => m.ord == e.ord
  let lower (e : PEnt) : Bool := e.lvl < lvl
  let stopped := gone.filter (·.issued)
  let y := stopped.foldl Tile.quench x
  let ents := (y.ents.filter fun e => !out e).map fun e => if fate e = .cut then { e with cut := true } else e
  let ss := gone ++ y.back.filter lower
  let y1 := ss.foldl (fun (a : Tile) e => a.record e.lvl fun r => { r with ents := insOrd e.recorded r.ents }) y
  let y2 := match y.loop with
    | some lb => if lb.ent.lvl < lvl then { y1.record lb.ent.lvl (fun r => { r with loop := some lb }) with loop := none } else y1
    | none => y1
  let y3 := ((y.again ++ y.inb.flatten).filter lower).foldl (fun (a : Tile) e => a.record e.lvl fun r => { r with inb := r.inb ++ [e] }) y2
  { y3 with
    ents := ents
    back := y.back.filter fun e => !lower e
    again := y.again.filter fun e => !lower e
    inb := (y.inb.map fun b => b.filter fun e => !lower e).filter fun b => !b.isEmpty
    stop := match stopped.reverse with
      | e :: _ => ⟨e.ring, e.sub, 1, wOpc e.word, e.resumeRow⟩
      | [] => y.stop }

/-- A bundle of level `lvl` of partition `p` reaches tile `t` (R351). -/
def State.preempt (s : State) (p t lvl : Nat) : State :=
  let x := s.tile t
  match x.level with
  | none => s
  | some l =>
    if lvl ≤ l then s
    else
      let drop (r : Nat) : Bool := s.fld F.SEP_RING_CFG_PCLASS r p == 1
      let out := preemptOut (fateOf lvl drop) [] x.ents
      let s1 := out.foldl (fun a e => ((a.unbar t e).unsend t e).rowsLost t e) s
      let y := x.preempt lvl drop
      let n := (y.savedLevels.filter fun k => !x.savedLevels.contains k).length
      ((s1.setTile t y).perf p pfPREEMPT n).dropLoads t

/-- The highest saved level of a tile. -/
def Tile.topSaved (x : Tile) : Option Nat :=
  match x.savedLevels with
  | [] => none
  | a :: t => some (t.foldl max a)

/-- The loop that a lower level has open gives up the loop buffer to a level that is resumed: it goes into its own level's record
(R353 and R324 do not say: DESIGN CHOICE, log entry 82). -/
def Tile.loopAside (x : Tile) : Tile :=
  match x.loop with
  | some lb => { x.record lb.ent.lvl (fun r => { r with loop := some lb }) with loop := none }
  | none => x

/-- PREEMPTION_RESUME (R353): saved instructions re-enter in their original order, the slots of the inbound buffer behind them.  It
waits until a BF16 or FP16 pass of the level that runs on to the end of its sub-pass is saved as well, or complete (R351, R352). -/
def State.resume (s : State) (t : Nat) : State :=
  let x := s.tile t
  match x.topSaved, s.ownerOf t with
  | some l, some p =>
    let higher := x.liveEnts.any fun e => l < e.lvl
    let waiting := (List.range 8).any fun r => l < s.rPrio p r && (s.sring p r).segs.any fun g => g.tile == t
    let cutting := x.ents.any fun e => e.lvl == l && e.cut
    if higher || waiting || cutting || !s.tileLive t then s
    else
      let r := x.saved.get {} ⟨l, 0, 0⟩
      let z : Tile := { x with saved := x.saved.set {} ⟨l, 0, 0⟩ {} }
      let z1 := if r.loop.isSome || !r.inb.isEmpty then z.loopAside else z
      let y := { z1 with
        back := x.back ++ r.ents
        loop := if r.loop.isSome then r.loop else z1.loop
        again := x.again ++ r.inb }
      ((s.setTile t y).perf p pfRESUME).enter t
  | _, _ => s

/-! ### Fetch (R343 to R345, R327, R90) -/

/-- Fetching stands: the Separator and the Vat serve, compute is not idle, the partition is SEALED and its block is not at
HALT. -/
def State.fetchOn (s : State) (p : Nat) : Bool :=
  s.dom 8 == .on && !s.idle.on && s.ptState p == ptSealed && !s.atHalt bPC p

/-- Work may be issued to tile `t` (04 R90). -/
def State.issueAllowed (s : State) (t : Nat) : Bool :=
  let c := s.fld F.AON_SVC_STAT_COMPUTE
  !hasBit s.qual.requal (s.groupOf t) && (2 ≤ c || (c == 1 && s.fld F.AON_QUAL_SKIM_GRP == s.groupOf t))

/-- Tile `t` is not there for partition `p`: it left the partition, its group failed, or its block stands at HALT (R344,
21 Table 21-4). -/
def State.tileGone (s : State) (p t : Nat) : Bool :=
  !s.owns p t || s.bit F.AON_QUAL_QUAL_FAIL (s.groupOf t) || (s.tile t).halted

/-- Tile `t` can take a bundle of level `lvl`: its inbound buffer has room, or the bundle pre-empts what stands there (R343,
R351, R366).  The slots of the level that are saved, or re-enter, take up room as the bundles that they came from: a record holds two
inbound bundles (R353). -/
def State.canTake (s : State) (t lvl : Nat) : Bool :=
  let x := s.tile t
  let kept := (x.saved.get {} ⟨lvl, 0, 0⟩).inb
  s.tileLive t && s.issueAllowed t &&
  (x.inb.length + ((kept ++ x.again).length + 3) / 4 < 2 || (kept.length ≤ 4 && match x.level with
    | some l => l < lvl
    | none => false))

/-- A ring runs (Table 13-9). -/
def State.ringRuns (s : State) (p r : Nat) : Bool := s.rEn p r && !(s.sring p r).error && !(s.sring p r).fenced

/-- The oldest segment of ring `r` names tile `t`. -/
def State.ringNames (s : State) (p r t : Nat) : Bool :=
  match (s.sring p r).segs with
  | x :: _ => x.tile == t
  | [] => false

/-- Order of rings of one priority: the first after the last one of that priority that was served comes first. -/
def rotPos (last r : Nat) : Nat := (r + 16 - last - 1) % 8

/-- The ring that is served for tile `t` (R343). -/
def State.ringFor (s : State) (p t : Nat) : Option Nat :=
  let last (r : Nat) : Nat := s.rot.get 7 ⟨t, s.rPrio p r, 0⟩ % 8
  ((List.range 8).filter fun r => s.ringRuns p r && s.ringNames p r t).foldl (fun (b : Option Nat) r =>
    match b with
    | none => some r
    | some q =>
      if s.rPrio p q < s.rPrio p r || (s.rPrio p q == s.rPrio p r && rotPos (last r) r < rotPos (last r) q) then some r else some q) none

/-- P-address of bundle `n` of a ring (R339). -/
def State.bundleAddr (s : State) (p r n : Nat) : Nat :=
  s.fld F.SEP_RING_BASE_BASE r p * 4096 + 64 * (n % 2 ^ s.fld F.SEP_RING_CFG_SIZE r p)

/-- The four instructions of a bundle (R272). -/
def slotsOf (bs : Bytes) (r idx lvl : Nat) (born : Nat := 0) : List PEnt :=
  (List.range 4).map fun k =>
    { word := BitVec.ofNat 128 (leNat ((bs.drop (16 * k)).take 16)), ring := r, idx := idx, slot := k, lvl := lvl, born := born }

/-- The bundle at `HEAD` has been taken. -/
def State.advanceRing (s : State) (p r t : Nat) : State :=
  let x := s.sring p r
  let segs := match x.segs with
    | g :: rest => if g.count ≤ 1 then rest else { g with count := g.count - 1 } :: rest
    | [] => []
  let s1 := (s.setSring p r { x with segs := segs }).put F.SEP_RING_STAT_HEAD (s.rHead p r + 1) r p
  let s2 := s1.setPart p { s1.part p with fetched := (s1.part p).fetched + 1 }
  ({ s2 with rot := s2.rot.set 7 ⟨t, s.rPrio p r, 0⟩ r }).perf p pfBUNDLES

/-- A bundle goes to its tile: it may pre-empt (R351), and its slots enter. -/
def State.deliver (s : State) (p r t : Nat) (bs : Bytes) : State :=
  let lvl := s.rPrio p r
  let slots := slotsOf bs r (s.rHead p r) lvl (s.part p).fetched
  let s1 := (s.advanceRing p r t).preempt p t lvl
  let x := s1.tile t
  (s1.setTile t { x with inb := x.inb ++ [slots] }).enter t

/-- One instruction of a bundle whose tile is not there: it ends ABORTED, a CPL writes an entry, and the poisoned increment of
an XSIG reaches a target of the partition (R344, 12 R321). -/
def State.endGone (s : State) (p t : Nat) (e : PEnt) : State :=
  let w := e.word
  let x := s.part p
  let n := incSat 8 (x.gone.get 0 ⟨t, 0, 0⟩)
  let s1 := (s.setPart p { x with gone := x.gone.set 0 ⟨t, 0, 0⟩ n }).perf p pfABORTED
  if wOpc w = oCPL ∧ s1.flag F.SEP_CQ_CFG_EN 0 p = true then
    let y := s1.part p
    (s1.setPart p { y with gone := y.gone.set 0 ⟨t, 0, 0⟩ 0 }).cqWrite p ⟨wf w 69 32, t, e.ring, n, 0, 3, e.idx⟩ (wf w 101 1 == 1) e.born
  else if wOpc w = oXSIG ∧ s1.owns p (wXtile w) = true then
    s1.send t e true
  else s1

/-- Completion entries that a bundle for a missing tile writes. -/
def cplCount (bs : Bytes) : Nat := ((slotsOf bs 0 0 0).filter fun e => wOpc e.word == oCPL).length

/-- A bundle whose tile is not there ends; one whose completion entries find no room waits as it stands in `s` (R344). -/
def State.endBundle (s s1 : State) (p r t : Nat) (bs : Bytes) : State :=
  if s.flag F.SEP_CQ_CFG_EN 0 p && !s.cqRoom p (cplCount bs) then s
  else
    (slotsOf bs r (s1.rHead p r) 0 (s1.part p).fetched).foldl (fun a e => a.endGone p t e) (s1.advanceRing p r t)

/-- The error of a ring fetch (R345): the PART_EVENT carries the level at which the event is classified (21 R558, R571). -/
def State.ringError (s : State) (p r addr : Nat) : State :=
  let l := (s.levelOf ⟨bPC, p, 0x03, lDegrade, addr, 0, 0, p⟩).getD lDegrade
  let s1 := (s.setSring p r { s.sring p r with error := true, fenced := false }).partEvent p 0x03 l r
  s1.pcEv p 0x03 lDegrade addr 0 0

/-- Read the bundle at physical address `x` (14 R381, R382): none where it is uncorrectable, which puts the ring into ERROR. -/
def State.bundleRead (s : State) (p r a x : Nat) : Option Bytes × State :=
  let us := unitsOf x 64
  if us.any s.unitBad then (none, (s.ringError p r a).unitsRead us 0 0 p)
  else (some (s.vread (s.part p).key a x 64), s.unitsRead us 0 0 p)

/-- Instructions fetched from ring `r` before the fence, as the `n`-th bundle of the partition was to be fetched, that have neither
completed nor ended (R327). -/
def State.earlier (s : State) (p r n : Nat) : Bool :=
  (s.tilesOf p).any fun t =>
    let x := s.tile t
    (x.allEnts ++ x.liveEnts).any fun e => e.ring == r && e.born < n

/-- RING_FETCH for tile `t` of partition `p`: one bundle of the ring that is served. -/
def State.ringFetch (s : State) (p t : Nat) : State :=
  if !s.fetchOn p then s
  else
    match s.ringFor p t with
    | none => s
    | some r =>
      let gone := s.tileGone p t
      if !gone && !s.canTake t (s.rPrio p r) then s
      else
        let a := s.bundleAddr p r (s.rHead p r)
        match s.vloc p a with
        | .stall => s.vatWake
        | .range | .gone => s.ringError p r a
        | .phys x =>
          match s.bundleRead p r a x with
          | (none, s1) => s1
          | (some bs, s1) =>
            let w0 := BitVec.ofNat 128 (leNat (bs.take 16))
            if wOpc w0 = oRFENCE ∧ fieldBad w0 = false then
              let f := (bitsSet (wf w0 94 8) 8).map fun q => (q, (s1.part p).fetched)
              s1.setSring p r { s1.sring p r with fenced := true, fence := f, cplw := wf w0 93 1 == 1 }
            else if gone then s1.endBundle s1 p r t bs
            else s1.deliver p r t bs

/-- A fence of CPLW waits for the completion entries of what was fetched earlier from its rings that are not written yet; their
messages are queued with them (R327). -/
def State.entriesDue (s : State) (p : Nat) (x : SubRing) : Bool :=
  x.cplw && (s.part p).posted.any fun w => x.fence.any fun f => f.1 == w.ent.ring && w.born < f.2

/-- RFENCE: the fence of ring `r` is met, and its bundle goes on (R327). -/
def State.rfence (s : State) (p r : Nat) : State :=
  let x := s.sring p r
  match x.segs with
  | [] => s
  | g :: _ =>
    let t := g.tile
    let gone := s.tileGone p t
    let a := s.bundleAddr p r (s.rHead p r)
    if !s.fetchOn p || !x.fenced || x.fence.any (fun f => s.earlier p f.1 f.2) || s.entriesDue p x ||
      (!gone && !s.canTake t (s.rPrio p r)) then s
    else
      match s.vloc p a with
      | .phys y =>
        (match s.bundleRead p r a y with
        | (none, s1) => s1
        | (some bs, s1) =>
          let s2 := s1.setSring p r { s1.sring p r with fenced := false, fence := [], cplw := false }
          if gone then s1.endBundle s2 p r t bs else s2.deliver p r t bs)
      | .stall => s.vatWake
      | _ => s.ringError p r a

/-! ### Telemetry (R362) -/

/-- TELEMETRY_PERIOD: a record is formed and queued; one that still waits is discarded. -/
def State.telemetry (s : State) (p count : Nat) : State :=
  if s.flag F.SEP_PC_PERF_CTL_TEL_EN 0 p ∧ s.dom 8 = .on then
    let x := s.part p
    let waits := (List.range 18).filter fun k => (s.port k).bq.any fun m => m.op == 0xC1 && m.part == p
    let s1 := waits.foldl (fun a k =>
      let q := a.port k
      (a.setPort k { q with bq := q.bq.filter fun m => !(m.op == 0xC1 && m.part == p) }).count F.SEP_PC_PERF_CTL_TEL_DROP 1 0 p) s
    let s2 := s1.setPart p { x with telSeq := (x.telSeq + 1) % 2 ^ 32 }
    let data := leBytes 8 count ++ leBytes 2 1 ++ leBytes 2 12 ++ leBytes 4 0 ++
      (List.range 12).flatMap fun i => leBytes 8 (s2.fld F.SEP_PC_PERF_COUNT i p)
    match s2.msgPort p with
    | some k =>
      let q := s2.port k
      s2.setPort k { q with bq := q.bq ++ [{ op := 0xC1, part := p, lenb := 112, aux := x.telSeq, data := data }] }
    | none => s2.count F.SEP_PC_PERF_CTL_TEL_DROP 1 0 p
  else s

end Sys2Proof.Machine
end

