-- ==== Sys2Proof/Machine/Power.lean ====
section
/-! DEFINITION. Power domains, clocks, qualification and the phases of the core (02 R42 to R48, 03 R55 to R83, 04 R84 to
R103): what is requested, what comes up and goes down, and what is lost with it. -/
namespace Sys2Proof.Machine

/-- The module is past phase X: the supervisor runs. -/
def State.up (s : State) : Bool :=
  match s.pow.phase with
  | .u | .x => false
  | _ => true

/-- The meaning of a command that acts only while the supervisor runs. -/
def State.runs (s : State) (f : State → State) : State := if s.up then f s else s

/-- The same for a command that may offer records: they join the queue as those of one instant (22 R595). -/
def State.offers (s : State) (f : State → State) : State := if s.up then (f s.recsIn).recsOut else s

/-- The same for a command that may change the service: its changes are one report (04 R93). -/
def State.acts (s : State) (f : State → State) : State := if s.up then (State.serviced s (f s.recsIn)).recsOut else s

/-- The same for a change at a pin, whose level changes in every phase. -/
def State.atPins (s : State) (f : State → State) : State :=
  let t := f s.recsIn
  if s.up then (State.serviced s t).recsOut else t

/-- An event of the AON block. -/
def State.aonEv (s : State) (typ lvl : Nat) : State := s.event (supEvent bAON typ lvl)

/-- A POWER record (22 Table 22-2). -/
def State.powerRec (s : State) (cause : Nat) : State :=
  s.offer bAON 0 0x09 ([BitVec.ofNat 8 cause, 0, 0, 0] ++ leBytes 4 (s.supStored 0x109) ++ leBytes 4 (s.supStored 0x212) ++
    leBytes 4 (s.supStored 0x106))

/-! ### Rails (R74) -/

/-- A core domain went off, or comes up: its rail is above 1.0 V until CORE_RAIL_DISCHARGED. -/
def State.rail (s : State) (d : Nat) (above : Bool) : State :=
  let r := putBit s.pow.rails d above
  State.putFlag { s with pow := { s.pow with rails := r } } F.AON_SUP_STAT_CORE_DISCH (r != 0)

/-- CORE_RAIL_DISCHARGED: every rail is below 1.0 V. -/
def State.discharged (s : State) : State :=
  State.putFlag { s with pow := { s.pow with rails := 0 } } F.AON_SUP_STAT_CORE_DISCH false

/-! ### Fault blocks and their domains (21 R570) -/

/-- The fault blocks of a core domain. -/
def State.blocksOf (s : State) (d : Nat) : List (Nat × Nat) :=
  if d = 8 then [(bSEP, 0), (bGOV, 0), (bLSC, 0)] ++ (List.range 18).map (fun k => (bLNK, k)) ++ (List.range 16).map fun p => (bPC, p)
  else if d = 9 then (List.range 8).map fun i => (bVAT, i)
  else if d < 14 then [(bPYU, d - 10)]
  else if d = 14 then []
  else (s.groupTiles (d - 15)).map fun t => (bTIL, t)

/-- CORE_HELD for each block of a domain that asserts the fault pair as the domain goes off. -/
def State.coreHeld (s : State) (d : Nat) : State :=
  ((s.blocksOf d).filter fun b => s.blkAsserts b.1 b.2).foldl (fun a b =>
    a.event ⟨bAON, 0, 0x0B, (s.blk b.1 b.2).level, 256 * b.1 + b.2, 4, b.1, 255⟩) s

/-- The fault registers of a domain's blocks take their reset values. -/
def State.blocksReset (s : State) (d : Nat) : State := (s.blocksOf d).foldl (fun a b => a.setBlk b.1 b.2 {}) s

/-! ### Requests (R59, R60) -/

/-- Group `g` stands under a qualification hold (04 R86, R98). -/
def State.qualOf (s : State) (g : Nat) : QualSt := s.qual.st.get .idle ⟨g, 0, 0⟩
def State.setQual (s : State) (g : Nat) (x : QualSt) : State :=
  { s with qual := { s.qual with st := s.qual.st.set .idle ⟨g, 0, 0⟩ x } }
def State.held (s : State) (g : Nat) : Bool := s.qualOf g != .idle

/-- PD08 is wanted: by a request bit or by a qualification hold (Table 3-11, 04 R86). -/
def State.sepWanted (s : State) : Bool :=
  s.flag F.AON_PD_REQ_SEP_REQ || s.fld F.AON_PD_REQ_ENG_REQ != 0 || s.fld F.AON_PD_REQ_TG_REQ != 0 || 2 ≤ s.vatReq ||
  (List.range 8).any s.held

/-- A wake source latches its bit (Table 3-14). -/
def State.wakeSrc (s : State) (n : Nat) : State := s.putBitOf F.AON_WAKE_SRC_SRC n true

/-! ### Herd gating (R58) -/

/-- PD04 and PD05 may be gated. -/
def State.gateOk (s : State) : Bool :=
  s.flag F.AON_PD_CFG_HERD_GATE && s.dom 8 == .off && s.fld F.CTR_STAT_COIL == 0 && s.fld F.CTR_STAT_SEQ == 0 && !s.ctr.closeDue && !s.ctr.closeDueX && !s.pow.roundWake && s.herd.ph == .idle

/-- What a safety input change woke stays on until the next Milk round completes; where no round comes, for `RUN` = 0, it is
gated again once both domains are on (DESIGN CHOICE, log entry 80: no rule says how long). -/
def State.wakeOver (s : State) : State :=
  if s.pow.roundWake && !s.flag F.HRD_CTL_RUN && s.dom 4 == .on && s.dom 5 == .on then
    { s with pow := { s.pow with roundWake := false } }
  else s

/-- Gate PD04 and PD05, or wake them, as R58 asks. -/
def State.gateSettle (s0 : State) : State :=
  let s := s0.wakeOver
  [4, 5].foldl (fun a d =>
    if s.gateOk then (if a.dom d = .on then a.setDom d .falling else a)
    else if a.dom d = .off then a.setDom d .waking else a) s

/-- PD04 and PD05 are wanted for a round or a safety change, while they are gated (R58, R69). -/
def State.herdWake (s : State) : State :=
  if s.gateOk then State.gateSettle { s with pow := { s.pow with roundWake := true } } else s

/-! ### The recorder's domain (R57) -/

/-- The front registers take the safety-input changes that waited for PD03 (01 R25). -/
def State.siWrite (s : State) : State :=
  let m := s.pow.siChg
  let s1 := (s.put F.AON_FRONT_STAT_SI_DEMAND (s.fld F.RND_SI_STAT_DEMAND)).put F.AON_FRONT_EVT_SI_CHG
    (s.fld F.AON_FRONT_EVT_SI_CHG ||| m)
  { s1 with pow := { s1.pow with siChg := 0 } }

/-- PD03 is on, for an access or because it woke. -/
def State.pd3On (s : State) : State := if s.dom 3 = .on then s else (s.setDom 3 .on).siWrite

/-- PD03 is wanted. -/
def State.recWanted (s : State) : Bool :=
  !s.rcd.queue.isEmpty || s.rcd.prog.isSome || s.rcd.erase.isSome || s.holdup || !s.flag F.AON_SVC_STAT_REC_READY

/-! ### Engines and the LSC going off (R71, 07 R182, R186, R191) -/

/-- An engine that is on or waking starts to go off: its light goes out at once. -/
def State.engFall (s : State) (fid e : Nat) : State :=
  if s.dom (10 + e) = .on ∨ s.dom (10 + e) = .waking then (s.setDom (10 + e) .falling).engineDark e fid else s

/-- Every engine request clears and the lasers go off (R182, R191): requests not yet carried out, of engines that wake or
still wait for PD08, are refused (R60, R79). -/
def State.engStop (s : State) (fid : Nat) : State :=
  let s1 := if (List.range 4).any (fun e => s.dom (10 + e) == .waking || (s.engReq e && s.dom (10 + e) != .on)) then
      s.putFlag F.AON_WAKE_SRC_REFUSED_RIND true else s
  (List.range 4).foldl (fun a e => a.engFall fid e) (s1.put F.AON_PD_REQ_ENG_REQ 0)

/-- An event of the LSC block, with its HALT reaction: lasers off (21 Table 21-4). -/
def State.lscEv (s : State) (typ lvl : Nat) : State :=
  let ev : Ev := ⟨bLSC, 0, typ, lvl, 0, 0, 0, 255⟩
  let l := s.levelOf ev
  let s1 := s.event ev
  if l = some lHalt then
    (List.range 4).foldl (fun a e => a.engFall (s1.lastFid bLSC 0) e) (s1.put F.AON_PD_REQ_ENG_REQ 0)
  else s1

/-- PD14 starts to go off; the enables drop with it. -/
def State.lscFall (s : State) : State :=
  if s.dom 14 = .on ∨ s.dom 14 = .waking then State.lenSettle (s.setDom 14 .falling) else s

/-! ### What is lost (05 R108, R109; 13 R369; 14 R393) -/

/-- The registers of partition `p` in the retention store take their reset values. -/
def State.partRegsReset (s : State) (p : Nat) : State :=
  let s1 := [F.SEP_PT_CTL_STATE, F.SEP_PT_TILES_TILES, F.SEP_PT_NPAGES_NPAGES, F.SEP_PT_PORTS_ACTIVE, F.SEP_PT_PORTS_REQ].foldl
    (fun a f => a.clr f p) s
  let s2 := [F.SEP_CQ_BASE_BASE, F.SEP_CQ_CFG_SIZE, F.SEP_CQ_CFG_EN, F.SEP_CQ_PROD_RSV, F.SEP_CQ_PROD_PROD, F.SEP_CQ_CONS_CONS,
    F.SEP_PC_PERF_CTL_TEL_DROP, F.SEP_PC_PERF_CTL_TPER, F.SEP_PC_PERF_CTL_TEL_EN, F.SEP_PC_PERF_CTL_FREEZE,
    F.VAT_PC_KEY_STAT_KCV, F.VAT_PC_KEY_STAT_STAGED, F.VAT_PC_KEY_STAT_REFUSE, F.VAT_PC_KEY_STAT_LOADER].foldl (fun a f => a.clr f 0 p) s1
  let s3 := (List.range 8).foldl (fun a r =>
    [F.SEP_RING_BASE_BASE, F.SEP_RING_CFG_SIZE, F.SEP_RING_CFG_PRIO, F.SEP_RING_CFG_PCLASS, F.SEP_RING_CFG_EN,
      F.SEP_RING_STAT_TAIL, F.SEP_RING_STAT_DB_DROP, F.SEP_RING_STAT_HEAD].foldl (fun b f => b.clr f r p) a) s2
  s3.perfClear p

/-- The retention store is lost: every partition is DISABLED, every page is free and unclean, keys and scrub positions are
gone; the tiles that were owned are zeroed where they have power. -/
def State.retentionLost (s : State) : State :=
  let owned := s.tileList.filter fun t => (s.ownerOf t).isSome && s.tileOn t
  let s1 := owned.foldl (fun a t => a.tileZero t) s
  let s2 := (List.range 16).foldl (fun a p => a.partRegsReset p) s1
  let s3 := (List.range 8).foldl (fun a i => [F.VAT_SCRUB_STAT_PASSES, F.VAT_SCRUB_STAT_FORCED, F.VAT_SCRUB_STAT_POSITION].foldl
    (fun b f => b.clr f i) a) s2
  let s4 := s3.tileList.foldl (fun a t => a.setTile t { a.tile t with xsigs := [] }) s3
  State.govCfgReset { s4 with parts := {}, pages := {}, vmem := { arrived := s4.vmem.arrived }, rot := {} }

/-! ### Tile groups (R62, R63, R66, 04 R86 to R88) -/

/-- The saturated `SET` of a group (R66). -/
def State.setFreq (s : State) (g : Nat) : Nat := clampN 40 150 (s.fld F.CLK_TG_FREQ_SET g / 5 * 5)

/-- A group moves toward its saturated `SET`. -/
def State.freqAim (s : State) (g v : Nat) : State := { s with pow := { s.pow with tgt := s.pow.tgt.set 0 ⟨g, 0, 0⟩ v } }

/-- A group has no work: Parlours, Ladles and the rings of the partitions that own its tiles are empty (R63). -/
def State.groupIdle (s : State) (g : Nat) : Bool :=
  (s.groupTiles g).all fun t =>
    let x := s.tile t
    x.ents.isEmpty && x.back.isEmpty && x.loop.isNone && x.again.isEmpty && x.inb.isEmpty && x.savedLevels.isEmpty &&
    match s.ownerOf t with
    | none => true
    | some p => (List.range 8).all fun r => s.rHead p r == s.rTail p r

/-- A group is cut off at once (R68, R75): its instructions end as for a fault stop, its request clears, and it is to be
requalified alone; the shadow covers its tiles. -/
def State.groupCut (s : State) (g fid : Nat) : State :=
  let tiles := s.groupTiles g
  let s1 := s.declareShadow 3 g fid (tiles.map fun t => ⟨bTIL, t, allSources⟩)
  let s2 := (tiles.foldl (fun a t => a.tileStop t) s1).putBitOf F.AON_PD_REQ_TG_REQ g false
  let q := s2.qual
  let was := s2.held g
  let s3 : State := { s2 with qual := { q with
      requal := putBit q.requal g true
      st := q.st.set .idle ⟨g, 0, 0⟩ .idle
      skimHeld := q.skimHeld && !(was && s2.fld F.AON_QUAL_SKIM_GRP == g)
      todo := q.todo.filter fun x => x != g } }
  if s3.dom (15 + g) = .on ∨ s3.dom (15 + g) = .waking then s3.setDom (15 + g) .falling else s3

/-! ### Qualification (04 R86 to R88, R97) -/

/-- `COMPUTE` of phase F (04 R85, Table 4-2). -/
def State.computeNow (s : State) : Nat :=
  match s.pow.phase with
  | .f => if s.qual.done then (if s.fld F.AON_QUAL_QUAL_FAIL = 0 then 2 else 3) else 1
  | _ => 0

/-- `COMPUTE` follows, and is reported. -/
def State.computeSettle (s : State) : State :=
  s.withSvc fun a => a.put F.AON_SVC_STAT_COMPUTE a.computeNow

/-- Phase F begins where it may (04 R85). -/
def State.phaseSettle (s : State) : State :=
  let s1 := if s.pow.phase = .b ∧ s.dom 8 = .on ∧ s.pow.vat = .on ∧ (s.qual.skimHeld = true ∨ s.qual.done = true) then
      State.put { s with pow := { s.pow with phase := .f } } F.AON_PIN_PHASE_CORE_PHASE 3
    else s
  s1.computeSettle

/-- The next step of a run: the next group to self-test, or the Skim group's ramp, or the end. -/
def State.qualNext (s : State) : State :=
  if s.qual.running = false || (List.range 8).any (fun g => s.qualOf g == .selftest || s.qualOf g == .ramping) then s
  else
    match s.qual.todo with
    | g :: r =>
      let s1 : State := { s with qual := { s.qual with todo := r } }
      let s2 := s1.setQual g .selftest
      if s2.dom (15 + g) = .on then (s2.put F.CLK_TG_FREQ_ACT 40 g).freqAim g 40 else s2
    | [] =>
      let g := s.fld F.AON_QUAL_SKIM_GRP
      if s.qual.skimHeld then (s.setQual g .ramping).freqAim g (s.setFreq g)
      else { s with qual := { s.qual with running := false, done := true } }

/-- A run begins at the first Separator ready (04 R87, R97): the groups with an enabled tile and neither mark, ascending; the
lowest of them is the Skim group (R86). -/
def State.qualStart (s : State) : State :=
  if s.qual.done then s
  else
    let todo := (List.range 8).filter fun g =>
      !(s.groupTiles g).isEmpty && !s.bit F.AON_QUAL_QUAL_DONE g && !s.bit F.AON_QUAL_QUAL_FAIL g
    let s1 := match todo with
      | g :: _ => s.put F.AON_QUAL_SKIM_GRP g
      | [] => s
    State.qualNext { s1 with qual := { s1.qual with
      running := true
      todo := todo
      skimHeld := false
      requal := maskOf 8 fun g => hasBit s1.qual.requal g && !todo.contains g } }

/-- Qualification stops: holds end, marks stay (04 R97). -/
def State.qualStop (s : State) : State :=
  { s with qual := { s.qual with running := false, todo := [], st := {}, skimHeld := false } }

/-- The role of Skim group passes on where group `g` fails its self-test as the Skim group (04 R88): to the next group of the
run. -/
def State.skimPass (s : State) (g : Nat) : State :=
  if s.qual.running && s.qualOf g == .selftest && s.fld F.AON_QUAL_SKIM_GRP == g then
    match s.qual.todo with
    | n :: _ => s.put F.AON_QUAL_SKIM_GRP n
    | [] => s
  else s

/-- A group fails (04 R88): marked, powered off, and a HALT for each of its tiles.  Its `QUAL_DONE` bit stays as it stands beside
`QUAL_FAIL`, also in a requalification: R87 and R88 do not say (DESIGN CHOICE, log entry 44). -/
def State.groupFail (s : State) (g : Nat) : State :=
  let s1 := ((s.skimPass g).putBitOf F.AON_QUAL_QUAL_FAIL g true).setQual g .idle
  let s2 : State := { s1 with qual := { s1.qual with
      requal := putBit s1.qual.requal g false
      skimHeld := s1.qual.skimHeld && s1.fld F.AON_QUAL_SKIM_GRP != g } }
  let s3 := (s2.groupTiles g).foldl (fun a t => a.tilEv t 0x1F lHalt 0) s2
  let s4 := if s3.dom (15 + g) = .on then s3.setDom (15 + g) .falling else s3
  s4.qualNext.phaseSettle

/-- QUAL_SELFTEST_DONE (04 R86, 09 R242): four bits an enabled physical tile for the spare rows and columns that its errors need in all;
more than four cannot be absorbed, and those that no fuse has switched in are assigned.  The first group that passes in a run becomes the Skim group. -/
def State.selftestDone (s : State) (g rows cols : Nat) : State :=
  if s.qualOf g = .selftest ∧ s.dom (15 + g) = .on then
    let need (j : Nat) : Nat × Nat := (bitField rows (4 * j) 4, bitField cols (4 * j) 4)
    if (List.range 8).any fun j => !s.fused.contains (8 * g + j) && (4 < (need j).1 || 4 < (need j).2) then s.groupFail g
    else
      let soft := (List.range 8).foldl (fun (t : Tab (Nat × Nat)) j => 
        let f := s.qual.fuse.get (0, 0) ⟨8 * g + j, 0, 0⟩
        t.set (0, 0) ⟨8 * g + j, 0, 0⟩ ((need j).1 - f.1, (need j).2 - f.2)) s.qual.soft
      let s1 : State := { s with qual := { s.qual with soft := soft } }
      if s1.qual.running && !s1.qual.skimHeld && !hasBit s1.qual.requal g && !s1.qual.done then
        let s2 := (s1.setQual g .heldSkim).put F.AON_QUAL_SKIM_GRP g
        (State.qualNext { s2 with qual := { s2.qual with skimHeld := true } }).phaseSettle
      else (s1.setQual g .ramping).freqAim g (s1.setFreq g)
  else s

/-- QUAL_RAMP_DONE (04 R86): the group has reached its `SET` frequency, or a critical-path monitor tripped. -/
def State.rampEnd (s : State) (g : Nat) (pass : Bool) : State :=
  if s.qualOf g = .ramping ∧ s.dom (15 + g) = .on then
    if pass then
      let s1 := ((s.putBitOf F.AON_QUAL_QUAL_DONE g true).setQual g .idle).put F.CLK_TG_FREQ_ACT (s.pow.tgt.get 0 ⟨g, 0, 0⟩) g
      let s2 : State := { s1 with qual := { s1.qual with
          requal := putBit s1.qual.requal g false
          skimHeld := s1.qual.skimHeld && s1.fld F.AON_QUAL_SKIM_GRP != g } }
      ((s2.freqAim g (s2.setFreq g)).qualNext).phaseSettle
    else s.groupFail g
  else s

/-! ### The sequencer (Table 3-2) -/

/-- Every dependant of PD08 is off. -/
def State.depsOff (s : State) : Bool :=
  (s.pow.vat == .off || s.pow.vat == .retain) && (List.range 13).all fun i => s.dom (10 + i) == .off

/-- PD08: a core shutdown under way takes it off whatever is requested meanwhile (R74, R76). -/
def State.sepSettle (s : State) : State :=
  match s.dom 8 with
  | .off =>
    if s.sepWanted && !s.coreRefused && !s.pow.shut && !s.holdup && s.up then (s.setDom 8 .waking).rail 8 false else s
  | .on =>
    if (!s.sepWanted || s.pow.shut) && s.depsOff then [16, 17].foldl (fun a k => if a.lnk k = lnkDown then a else a.enterDown k) (s.setDom 8 .falling)
    else s
  | _ => s

/-- Set the state of PD09. -/
def State.setVat (s : State) (x : VatSt) : State := { s with pow := { s.pow with vat := x } }

/-- The blocks of PD09 get power, or lose it. -/
def State.vatPower (s : State) (on : Bool) : State := { s with pow := { s.pow with ready := putBit s.pow.ready 9 on } }

/-- PD09 leaves ON; the clear in progress completes first, with the accesses that arrived before (14 R387). -/
def State.vatLeave (s : State) (x : VatSt) : State :=
  State.setVat { s with vmem := { s.vmem with clearLast := s.vmem.clears != [] && x == .toRetain, shutAt := s.vmem.arrived } } x

/-- PD09 is off, or in RETAIN: CORE_HELD of its blocks, which have no power from here on (21 R570). -/
def State.vatGone (s : State) (x : VatSt) : State := ((s.coreHeld 9).setVat x).vatPower false

/-- The shutdown of a SLEEP_HINT takes PD09 out of ON in step 4 of Table 3-8, once the groups that it took off are off: saved
work completes first (13 R368). -/
def State.vatHeld (s : State) : Bool :=
  s.pow.sleep && (List.range 8).any fun g => s.dom (15 + g) != .off && !s.bit F.AON_PD_REQ_TG_REQ g
def State.sleepEnd (s : State) : State := { s with pow := { s.pow with sleep := false } }

/-- PD09. -/
def State.vatSettle (s : State) : State :=
  let r := s.vatReq
  match s.pow.vat with
  | .off => if r = 2 ∧ s.dom 8 = .on ∧ s.pow.shut = false then (s.sleepEnd.setVat .wakeFromOff).rail 9 false else s
  | .retain =>
    if r = 0 then s.setVat .toOff
    else if r = 2 ∧ s.dom 8 = .on ∧ s.pow.shut = false then s.sleepEnd.setVat .wakeFromRetain else s
  | .on =>
    if 2 ≤ r then s.sleepEnd
    else if s.vatHeld then s
    else if r = 0 then s.sleepEnd.vatLeave .toOff else s.sleepEnd.vatLeave .toRetain
  | _ => s

/-- One engine. -/
def State.engSettle (s : State) (e : Nat) : State :=
  match s.dom (10 + e) with
  | .off =>
    if s.engReq e && s.dom 8 == .on && !s.engRefused && !s.pow.shut then
      State.putFlag ((((s.setDom (10 + e) .waking).rail (10 + e) false).put F.PYU_STAT_STATE 1 e).setEng e {}) F.PYU_STAT_BANK_FAIL false e
    else s
  | .on => if s.engReq e then s else s.engFall 0 e
  | .waking => if s.engRefused then s.engFall 0 e else s
  | .falling => s

/-- PD14: up with the first engine, down with the last, or at once on SI4 or without the LSC. -/
def State.lscSettle (s : State) : State :=
  let busy := (List.range 4).any fun e => s.dom (10 + e) == .waking || s.dom (10 + e) == .on
  let gone := (List.range 4).all fun e => s.dom (10 + e) == .off
  match s.dom 14 with
  | .off => if busy && !s.si4 && s.flag F.LSC_STAT_PRES then (s.setDom 14 .waking).rail 14 false else s
  | .on => if gone || s.si4 || !s.flag F.LSC_STAT_PRES then s.lscFall else s
  | .waking => if gone || s.si4 || !s.flag F.LSC_STAT_PRES then s.lscFall else s
  | .falling => s

/-- One tile group: wanted by its request (R60, R61) or by a qualification hold (04 R86); one with no enabled tile is never powered
(09 R243).  One whose request the idle rule
cleared in this decision tick waits for the end of the tick (R78, log entry 71). -/
def State.tgSettle (s : State) (g : Nat) : State :=
  let fail := s.bit F.AON_QUAL_QUAL_FAIL g
  let want := (s.held g || s.tgReq g) && !fail && !(s.groupTiles g).isEmpty
  match s.dom (15 + g) with
  | .off => if want && s.dom 8 == .on && !s.pow.shut then (s.setDom (15 + g) .waking).rail (15 + g) false else s
  | .on => if !want && s.groupIdle g && !hasBit s.pow.idleCut g then s.setDom (15 + g) .falling else s
  | _ => s

/-- The sequencer starts every transition that Table 3-2 asks for now. -/
def State.powerSettle (s : State) : State :=
  if s.up then
    let s1 := s.vatSettle
    let s2 := (List.range 4).foldl (fun a e => a.engSettle e) s1
    let s3 := (List.range 8).foldl (fun a g => a.tgSettle g) s2.lscSettle
    s3.sepSettle.gateSettle
  else s

/-! ### Core shutdown (R74, R79, R80) -/

/-- Some core domain is not off. -/
def State.coreUp (s : State) : Bool := s.dom 8 != .off || !s.depsOff || s.pow.vat == .retain

/-- Detectors that a core shutdown and a loss of the main feed shadow (21 Table 21-5). -/
def coreDets : List Det :=
  ((List.range 18).map fun k => ⟨bLNK, k, allSources⟩) ++ ((List.range 4).map fun e => ⟨bPYU, e, allSources⟩) ++
  ((List.range 8).map fun i => ⟨bVAT, i, allSources⟩) ++
  [⟨bAON, 0, 3⟩, ⟨bAON, 0, 4⟩, ⟨bAON, 0, 5⟩, ⟨bGOV, 0, 1⟩, ⟨bGOV, 0, 2⟩, ⟨bGOV, 0, 3⟩]

/-- PD09 goes to OFF from wherever it stands. -/
def State.vatDown (s : State) : State :=
  match s.pow.vat with
  | .on => s.vatLeave .toOff
  | .off => s
  | _ => s.setVat .toOff

/-- The copper ports leave service. -/
def State.copperDown (s : State) : State := [16, 17].foldl (fun a k => if a.lnk k = lnkDown then a else a.enterDown k) s

/-- A waking or ready group starts to go off. -/
def State.tgFall (s : State) (g : Nat) : State :=
  if s.dom (15 + g) = .on ∨ s.dom (15 + g) = .waking then s.setDom (15 + g) .falling else s

/-- A wake of PD08 is abandoned (R79). -/
def State.sepAbandon (s : State) : State := if s.dom 8 = .waking then s.setDom 8 .falling else s

/-- Steps 2 to 5 of Table 3-8 start, from the state that each domain has reached; PD14 and PD08 follow as Table 3-2 lets
them (R59). -/
def State.domainsDown (s : State) (fid : Nat) : State :=
  let s1 := (List.range 8).foldl State.tgFall s
  let s2 := (List.range 4).foldl (fun a e => a.engFall fid e) s1
  s2.vatDown.copperDown.sepAbandon

/-- A hard limit acts (Table 3-9) on core domains, or on the supervisor's outputs, bit 23: orders for them lose until the next decision
tick is over (05 R121). -/
def State.limitActs (s : State) (mask : Nat) : State := { s with pow := { s.pow with tripped := s.pow.tripped ||| mask } }

/-- The core domains, PD08 to PD22. -/
def coreMask : Nat := 0x7FFF00

/-- The shutdown is under way until PD08 is off, and orders compute to idle until then. -/
def State.shutting (s : State) : State :=
  if s.dom 8 = .off then s
  else State.idleCause { s with pow := { s.pow with shut := true } } fun x => { x with shut := true }

/-- A core shutdown other than that of a SLEEP_HINT (Table 3-8), under the shadow of event `fid`: requests clear, compute
goes to idle, qualification stops, and every domain goes off from the state it has reached; no request that the ends of instructions
made is left. -/
def State.coreShutdown (s : State) (fid : Nat) : State :=
  let s1 := (s.reqClear.put F.AON_PD_REQ_VAT_REQ 0).qualStop
  if s1.pow.shut || !s1.coreUp then s1.powerSettle
  else
    let s2 := (s1.powerRec 4).declareShadow 2 0 fid coreDets
    ((s2.shutting.reqClear).domainsDown fid).powerSettle

/-- The core shutdown of a SLEEP_HINT that names the whole core (R74): requests clear and the domains go off as Table 3-2
permits; `vat` is the message's Vat byte. -/
def State.coreSleep (s : State) (vat : Nat) : State :=
  let v := if vat = 1 then 1 else if vat = 2 then 0 else if s.vatReq = 0 then 0 else 1
  let s1 := s.reqClear.put F.AON_PD_REQ_VAT_REQ v
  if s1.coreUp then
    State.declareShadow (State.powerRec { s1 with pow := { s1.pow with sleep := true } } 4) 2 0 0 coreDets
  else s1

/-! ### Domains ready and off -/

/-- Ports of a Separator that has come up, or gone: nothing waits in them. -/
def State.portsFresh (s : State) : State :=
  (List.range 18).foldl (fun a k => a.setPort k { a.port k with reqs := [], held := false, lmOut := [] }) s

/-- PD08 is ready (04 Table 4-1): phase B, with the Separator's blocks and the governor at reset; `GOV_CFG` keeps what was written
only where PD09 stayed ON or in RETAIN (15 R413). -/
def State.sepReady (s : State) : State :=
  let s0 := ((s.setDom 8 .on).blocksReset 8).govReset
  let s1 := if s0.pow.vat = .off then s0.govCfgReset else s0
  let s2 := State.put { s1 with pow := { s1.pow with phase := .b } } F.AON_PIN_PHASE_CORE_PHASE 2
  let s3 := (s2.portsFresh).idleCause fun x => { x with trip := false }
  ((s3.tryCopper 16).tryCopper 17).qualStart.phaseSettle

/-- PD08 is off: phase S. -/
def State.sepOff (s : State) : State :=
  let s1 := ((s.coreHeld 8).setDom 8 .off).rail 8 true
  let s2 := State.put { s1 with pow := { s1.pow with phase := .s, shut := false } } F.AON_PIN_PHASE_CORE_PHASE 1
  ((s2.qualStop.portsFresh).idleCause fun x => { x with shut := false }).computeSettle

/-- PD09 is ready (14 R376): its blocks start at reset; what an OFF lost stays lost. -/
def State.vatReady (s : State) : State :=
  let s1 := ((s.setVat .on).vatPower true).blocksReset 9
  let s2 := if s.pow.vat = .wakeFromOff then
      (List.range 8).foldl (fun a i => ((a.clr F.VAT_ECC_CNT_UE i).clr F.VAT_ECC_CNT_CE_CTL i).clr F.VAT_ECC_CNT_CE_STACK i) s1
    else s1
  s2.idleSettle.phaseSettle

/-- An engine is ready (07 R184): the bank must have locked, or have failed (R174). -/
def State.engineReady (s : State) (e : Nat) : State :=
  if s.bit F.LSC_STAT_BANK_LOCK e || s.flag F.PYU_STAT_BANK_FAIL e then
    ((((s.setDom (10 + e) .on).blocksReset (10 + e)).engCountsClear e).failMarksClear e).engineUp e
  else s

/-- An engine is off. -/
def State.engineOff (s : State) (e : Nat) : State :=
  let s1 := ((s.coreHeld (10 + e)).setDom (10 + e) .off).rail (10 + e) true
  ((s1.setEng e {}).put F.PYU_STAT_STATE 0 e).engineBlind e

/-- PD14 is on: LSC_VDD is in range and Rind may raise the enables (07 R171); the cartridge starts with its lasers off.  A frame of LSC_WIN that waited goes out (log entry 77). -/
def State.lscReady (s : State) : State :=
  State.lenSettle { s.setDom 14 .on with lsc := { frame := s.lsc.frame, ids := s.lsc.ids } }

/-- PD14 is off: the cartridge's registers are lost, and the copies of `READY`, `BANK_ON` and `BANK_LOCK` with them, while `BANK_FLT`
keeps what it showed; a frame in progress is dropped, and BUSY clears.  Neither is stated (DESIGN CHOICE, log entry 77). -/
def State.lscOff (s : State) : State :=
  let s1 := (s.setDom 14 .off).rail 14 true
  let s2 : State := { s1 with lsc := { ids := s1.lsc.ids } }
  State.lenSettle ((((s2.putFlag F.LSC_STAT_CAR_READY false).put F.LSC_STAT_BANK_ON 0).put F.LSC_STAT_BANK_LOCK 0).putFlag F.LSC_WIN_BUSY false)

/-- A tile group is ready (R66, 04 R87): at its `SET` frequency, or under a self-test at 0.4 GHz; a group to be requalified
alone begins now. -/
def State.groupReady (s : State) (g : Nat) : State :=
  let s1 := (s.setDom (15 + g) .on).blocksReset (15 + g)
  let s2 := if hasBit s1.qual.requal g && !s1.held g then s1.setQual g .selftest else s1
  if s2.held g then (s2.put F.CLK_TG_FREQ_ACT 40 g).freqAim g 40
  else (s2.put F.CLK_TG_FREQ_ACT (s2.setFreq g) g).freqAim g (s2.setFreq g)

/-- A tile group is off (R81, 13 R369). -/
def State.groupOff (s : State) (g : Nat) : State :=
  let s1 := ((s.coreHeld (15 + g)).setDom (15 + g) .off).rail (15 + g) true
  ((s1.groupLost g).put F.CLK_TG_FREQ_ACT 0 g).freqAim g 0

/-- PD05 powers up: its decimators start anew (16 R435), and the chain stage may begin (04 Table 4-1). -/
def State.chainStage (s : State) : State :=
  if s.herd.stage then s
  else
    let s1 : State := { s with herd := { s.herd with stage := true } }
    if s1.flag F.HRD_CTL_RUN then s1.wakeChain else s1

/-- DOMAIN_READY. -/
def State.domReady (s : State) (d : Nat) : State :=
  let t :=
    if d = 9 then (if s.pow.vat = .wakeFromOff ∨ s.pow.vat = .wakeFromRetain then s.vatReady else s)
    else if d = 3 then (if s.recWanted = true then s.pd3On else s)
    else if s.dom d ≠ .waking then s
    else if d = 4 then s.setDom 4 .on
    else if d = 5 then ((s.setDom 5 .on).packRestart).chainStage
    else if d = 8 then s.sepReady
    else if 10 ≤ d ∧ d ≤ 13 then s.engineReady (d - 10)
    else if d = 14 then s.lscReady
    else if 15 ≤ d then s.groupReady (d - 15)
    else s
  t.powerSettle

/-- DOMAIN_OFF; PD09 reaches RETAIN only once the clear in progress has completed (14 R387). -/
def State.domOff (s : State) (d : Nat) : State :=
  let t :=
    if d = 9 then
      (if s.pow.vat = .toRetain then (if s.vmem.clearLast then s else (s.vatGone .retain).rail 9 false)
       else if s.pow.vat = .toOff then ((s.vatGone .off).rail 9 true).retentionLost else s)
    else if s.dom d ≠ .falling then s
    else if d = 8 then (if s.depsOff then s.sepOff else s)
    else if d < 8 then s.setDom d .off
    else if d ≤ 13 then s.engineOff (d - 10)
    else if d = 14 then s.lscOff
    else s.groupOff (d - 15)
  t.powerSettle

/-- FREQ_STEP_DONE (R66): one step of 50 MHz toward the frequency the group moves to. -/
def State.freqStep (s : State) (g : Nat) : State :=
  let a := s.fld F.CLK_TG_FREQ_ACT g
  let t := s.pow.tgt.get 0 ⟨g, 0, 0⟩
  if s.dom (15 + g) = .on then
    s.put F.CLK_TG_FREQ_ACT (if a < t then min t (a + 5) else max t (a - 5)) g
  else s

/-- Actions of a write of `CLK_TG_FREQg` (R66, R98): a group under a hold keeps its frequency. -/
def State.freqActs (s : State) (g : Nat) : State :=
  if s.dom (15 + g) = .on ∧ s.held g = false then s.freqAim g (s.setFreq g) else s

/-! ### Idle expiry (R63, R71, R78, R98) -/

/-- TG_IDLE_EXPIRY: the request clears; the group stays for the rest of the decision tick, in which a doorbell sets the
request again and wins (R78). -/
def State.tgIdle (s : State) (g : Nat) : State :=
  if s.fld F.AON_PD_CFG_TG_IDLE ≠ 0 ∧ s.tgReq g = true ∧ s.dom (15 + g) = .on ∧ s.groupIdle g = true ∧ s.held g = false then
    State.putBitOf { s with pow := { s.pow with idleCut := putBit s.pow.idleCut g true } } F.AON_PD_REQ_TG_REQ g false
  else s

/-- The end of the decision tick of an idle expiry: groups whose request is still clear go off (R63, R78). -/
def State.idleCutEnd (s : State) : State :=
  if s.pow.idleCut = 0 then s else State.powerSettle { s with pow := { s.pow with idleCut := 0 } }

/-- ENG_IDLE_EXPIRY. -/
def State.engIdle (s : State) (e : Nat) : State :=
  if s.fld F.AON_PD_CFG_ENG_IDLE ≠ 0 ∧ s.engReq e = true ∧ (portsOf e).all (fun k => s.lnk k == lnkDown) = true then
    (s.putBitOf F.AON_PD_REQ_ENG_REQ e false).powerSettle
  else s

/-! ### The main feed (R72, R73) and the clock monitors (R68) -/

/-- Every core domain is off at once, and the core's contents are lost (R73). -/
def State.coreDead (s : State) (fid : Nat) : State :=
  let up := s.coreUp
  let s1 := (s.reqClear.put F.AON_PD_REQ_VAT_REQ 0).qualStop
  if up then
    let s2 := s1.declareShadow 2 0 fid coreDets
    let s3 := (List.range 8).foldl (fun a g => if a.dom (15 + g) = .off then a else a.groupOff g) s2
    let s4 := (List.range 4).foldl (fun a e => if a.dom (10 + e) = .off then a else (a.engFall fid e).engineOff e) s3
    let s5 := if s4.dom 14 = .off then s4 else s4.lscOff
    let s6 := if s5.pow.vat = .off then s5 else (s5.vatGone .off).rail 9 true
    let s7 := s6.copperDown
    let s8 := if s7.dom 8 = .off then s7 else s7.sepOff
    s8.retentionLost.reqClear
  else s1.retentionLost

/-- MAIN_FEED_LOST (R73, R80). -/
def State.mainLost (s : State) (ovr : Bool) : State :=
  let s0 := if ovr then
      ((s.putFlag F.AON_HARD_EVT_MAIN_OV true).putFlag F.AON_SUP_STAT_MAIN_OV true).aonEv 0x09 lSevere
    else s
  if s.mainOk then
    let fid := if ovr then s0.lastFid bAON 0 else 0
    let s1 := if ovr then s0 else s0.putFlag F.AON_HARD_EVT_MAIN_UV true
    let s2 := s1.putFlag F.AON_SUP_STAT_MAIN_OK false
    let rs := s2.nextRseq
    let s3 := (s2.powerRec 1).notify 5 bAON 0 0 0 rs (leBytes 4 (s2.supStored 0x106))
    (s3.coreDead fid).powerSettle
  else s0

/-- MAIN_OK_RESTORED (R72). -/
def State.mainBack (s : State) : State :=
  (s.putFlag F.AON_SUP_STAT_MAIN_OK true).putFlag F.AON_SUP_STAT_MAIN_OV false

/-- A source of the AON block lies in a shadow: its event starts no reaction (21 R567). -/
def State.aonShadowed (s : State) (typ : Nat) : Bool := (s.shadowOf ⟨bAON, 0, typ⟩).isSome

/-- A monitor of CK09 or CK10 trips (Table 3-4): treated as a loss of the main feed. -/
def State.clockLost (s : State) (f : RField) (typ : Nat) : State :=
  if s.dom 8 = .off then s
  else if s.aonShadowed typ then s.aonEv typ lSevere
  else
    let s1 := (s.putFlag f true).aonEv typ lSevere
    let fid := s1.lastFid bAON 0
    let rs := (s1.powerRec 2).nextRseq
    let s2 := ((s1.powerRec 2).powerRec 1).notify 5 bAON 0 0 0 rs (leBytes 4 (s1.supStored 0x106))
    (s2.coreDead fid).powerSettle

/-- CK00_FAIL and CK00_RECOVER (R68). -/
def State.slowFail (s : State) : State :=
  if s.pow.slow then s
  else
    (State.aonEv (State.putFlag { s with pow := { s.pow with slow := true } } F.CLK_MON_EVT_SLOW_FAIL true) 0x01 lDegrade).powerRec 2
def State.slowBack (s : State) : State := { s with pow := { s.pow with slow := false } }

/-- CK08_FAIL (R68, 23 R623): queued replies and notifications are discarded, the latter counted with those that they would have
reported lost (23 R617), and the node leaves the bus. -/
def State.xsFail (s : State) : State :=
  if s.pow.xsFail then s
  else
    let s0 := s.mgt.notes.foldl (fun a m => a.noteLost m.host (m.lost + 1)) s
    let s1 : State := { s0 with pow := { s0.pow with xsFail := true }, mgt := { s0.mgt with txq := [], notes := [] } }
    ((s1.putFlag F.CLK_MON_EVT_XS_FAIL true).aonEv 0x02 lSevere).powerRec 2

/-- CK08_RECOVER (23 R623). -/
def State.xsBack (s : State) : State := { s with pow := { s.pow with xsFail := false } }

/-- TG_CLOCK_OVERFREQ and TG_RAIL_OVERVOLTAGE of group `g` (R68, R75, 04 R88). -/
def State.tgTrip (s : State) (g : Nat) (rail : Bool) : State :=
  let typ := if rail then 0x06 else 0x05
  if s.dom (15 + g) = .off then s
  else if s.aonShadowed typ then s.aonEv typ lSevere
  else
    let s1 := if rail then s.putFlag F.AON_HARD_EVT_VTG_OV true else s.putBitOf F.CLK_MON_EVT_TG_OVF g true
    let s2 := s1.aonEv typ lSevere
    let fid := s2.lastFid bAON 0
    (((((s2.powerRec (if rail then 3 else 2)).groupCut g fid).limitActs (2 ^ (15 + g))).qualNext).phaseSettle).powerSettle

/-! ### Temperatures (R75) -/

/-- CORE_JUNCTION_TRIP (R75, R79, 04 R87, R97). -/
def State.coreTrip (s : State) (tj : Nat) : State :=
  if s.dom 8 = .off ∨ s.pow.hold = true then s
  else
    let s1 := (s.put F.AON_TEMP_TJ_CORE tj).putFlag F.AON_HARD_EVT_TJ_CORE_TRIP true
    let s2 := s1.aonEv 0x07 lSevere
    let fid := s2.lastFid bAON 0
    let s3 := s2.powerRec 3
    let s4 : State := { s3 with pow := { s3.pow with hold := true }, qual := { s3.qual with done := false } }
    ((s4.put F.AON_QUAL_QUAL_DONE 0).limitActs coreMask).coreShutdown fid

/-- THERMAL_DIODE_READ (R75, Table 3-17): the hottest diode shows while PD08 is off; the hold ends where all five read below
100 °C. -/
def State.diodes (s : State) (ts : List Int) : State :=
  let m := maxZ 0 ts
  let s1 := if s.dom 8 = .off then s.put F.AON_TEMP_TJ_CORE (ofSigned 16 m) else s
  if s1.pow.hold && ts.all (fun t => t < 1600) then
    State.powerSettle { s1 with pow := { s1.pow with hold := false } }
  else s1

/-- Every element of the STO outputs of `mask` switches off (20 R537): their readbacks show it. -/
def State.stoOff (s : State) (mask : Nat) : State :=
  ((List.range 2).filter fun k => hasBit mask k && s.bit F.RND_STO_STAT_ON k).foldl (fun a k =>
    (State.putBitOf { a with rnd := { a.rnd with rbAt := a.rnd.rbAt.set 0 ⟨k, 0, 0⟩ a.tim.optime } } F.RND_STO_STAT_ON k
      false).putBitOf F.RND_STO_STAT_RB_H k true) s

/-- Lasers off by the enables, coils off, STO off, field outputs off: the output actions of R47 and R75. -/
def State.outputsOff (s : State) (cause fid : Nat) : State :=
  let s1 := (s.fieldOff).lswShadow fid
  let s2 := ((s1.coilsLost cause fid).stoOff 3).setInhibit 7
  s2.lenSettle.put F.LSC_STAT_BANK_ON 0

/-- SUP_JUNCTION_TRIP (R75): the output actions of R47 and a core shutdown, with the outputs held off; during hold-up it adds nothing to
R47 (24 R642). -/
def State.supTrip (s : State) (tj : Nat) : State :=
  let s0 := s.put F.AON_TEMP_TJ_SUP tj
  if s.pow.supHot then s0
  else
    let s1 := (s0.putFlag F.AON_HARD_EVT_TJ_SUP_TRIP true).aonEv 0x08 lHalt
    let fid := s1.lastFid bAON 0
    let s2 : State := { s1.powerRec 3 with pow := { s1.pow with supHot := true } }
    if s2.holdup then s2
    else (((s2.outputsOff 7 fid).putFlag F.AON_PIN_PHASE_FIELD_EN false).limitActs (coreMask + 2 ^ 23)).coreShutdown fid

/-- SUP_JUNCTION_RELEASE (R75, R46): where Rind has released them, outputs are released at their reset states, the standing
STO request among them (20 R539); during hold-up they stay off (24 R642). -/
def State.supRelease (s : State) (tj : Nat) : State :=
  let s0 := s.put F.AON_TEMP_TJ_SUP tj
  if s.pow.supHot then
    let s1 : State := { s0 with pow := { s0.pow with supHot := false } }
    if s1.holdup then s1
    else
      let s2 := s1.fieldOff.setInhibit s1.inhibitNow
      ((s2.put F.AON_STO_REQ_ON 0).putFlag F.AON_PIN_PHASE_FIELD_EN s2.fieldFree).lenSettle
  else s0

end Sys2Proof.Machine
end

