-- ==== Sys2Proof/Machine/Pyuri.lean ====
section
/-! DEFINITION. The events of the Pyuri engines and of the LSC (07): rows PYU_RESET to LSC_FRAME_DONE. -/
namespace Sys2Proof.Machine

/-- What a failed data laser λn means for port `k` (R173, R187): a remap that sends on λn or from it ends, and so does a receive
rotation that names it; a calibration of the spare is abandoned; the transmit ring parks; lanes already removed ask for their
FAIL remap. -/
def State.laserGone (s : State) (k n : Nat) : State :=
  let p := s.port k
  let s1 := if p.rTx.any (fun h => h.b == n || s.mapOf k false h.lane == n) then s.remapAbortOwn k false 2 else s
  let s2 := if p.rRx.any (fun h => h.rot && (h.b == n || s.mapOf k true h.lane == n)) then s1.remapAbortOwn k true 2 else s1
  let idle (a : State) (rx : Bool) : State := a.setRing k rx n { a.ring k rx n with st := 0, due := false }
  let s3 := idle (if s2.carries k true n then s2 else idle s2 true) false
  (((s3.calNext k false).calNext k true).calShow k).ringsSettle k |>.failRemap k

/-- A LASER_FAIL event of bank `e`; a power-down of its engine shadows it (21 Table 21-5). -/
def State.laserEv (s : State) (e : Nat) : State :=
  match s.shadowOf (laserDet e) with
  | some sh => s.shadowed ⟨bLSC, 0, 0x01, lDegrade, 0, 0, 0, 255⟩ (laserDet e) sh
  | none => s.lscEv 0x01 lDegrade

/-- A laser test or declaration fails λn of bank `e` (R172 to R174): λ16 takes the engine down dark, a data laser leaves each
port of the engine. -/
def State.laserFail (s : State) (e n : Nat) : State :=
  let s1 := (s.putBitOf F.PYU_STAT_FAIL n true e)
  let s2 := s1.laserEv e
  if n = 16 then s2.bankFail e else (portsOf e).foldl (fun a k => a.laserGone k n) s2

/-- BANK_LOCK of bank `e`: tap references are taken and the lasers tested afresh (R172, R184), and the calibration of the
engine's rings begins (Table 7-3). -/
def State.bankLock (s : State) (e failed : Nat) : State :=
  if s.dom (10 + e) = .waking ∧ s.bit F.LSC_STAT_BANK_ON e then
    let s1 := ((s.putBitOf F.LSC_STAT_BANK_LOCK e true).put F.PYU_STAT_FAIL 0 e).putFlag F.PYU_STAT_BANK_FAIL false e
    let s2 := s1.setEng e { s1.eng e with bankOk := true }
    (portsOf e).foldl (fun a k => a.calAll k) ((bitsSet failed 20).foldl (fun a n => a.laserFail e n) s2)
  else s

/-- A bank faults, or misses BANK_LOCK, or loses λ16 (R174). -/
def State.bankFault (s : State) (e : Nat) : State :=
  ((s.putBitOf F.LSC_STAT_BANK_FLT e true).lscEv 0x02 lSevere).bankFail e

/-- Declare λn of bank `e` failed, where it is not yet. -/
def State.laserDeclare (s : State) (e n : Nat) : State :=
  if s.bit F.PYU_STAT_FAIL n e || s.dom (10 + e) == .off then s else s.laserFail e n

/-- A ring calibration completes (R177): the ring takes up its part, the next one that waits begins, and what waited for this one
goes on: a remap's answer (R188), the locks of ACQUIRE, the INIT exchange of ALIGN, λ16 light seen in DOWN. -/
def State.calDone (s : State) (k : Nat) (rx : Bool) (n : Nat) : State :=
  let r := s.ring k rx n
  if r.st = 4 then
    let s1 := s.setRing k rx n { r with st := 0, calAt := s.tim.optime, cal := true, lost := false }
    let s2 := ((s1.ringsSettle k).calNext k rx).calShow k
    (((s2.tryRdy k).tryAlign k).tryUp k).tryLight k
  else s

/-- A spare that went 60 s without calibration is calibrated again (R177). -/
def State.spareRecal (s : State) (k : Nat) (rx : Bool) (n : Nat) : State :=
  if s.engReady (engOf k) && (s.spares k rx).contains n && (s.ring k rx n).st == 0 then s.calStart k rx n else s

/-- The lane whose ring has gone longest since calibration, the lowest on a tie (R178). -/
def State.oldestLane (s : State) (k : Nat) (rx : Bool) : Nat :=
  (List.range 16).foldl (fun best l =>
    if (s.ring k rx (s.mapOf k rx l)).calAt < (s.ring k rx (s.mapOf k rx best)).calAt then l else best) 0

/-- A rotation may start in a direction (R178, R189).  It waits for every calibration of the direction, not for that of the ring that
the last rotation freed alone (DESIGN CHOICE, log entry 81). -/
def State.rotOk (s : State) (k : Nat) (rx : Bool) : Bool :=
  let p := s.port k
  s.lnk k == lnkUp && s.fld (if rx then F.LNK_STAT_RXSET else F.LNK_STAT_TXSET) k == fullSet k &&
  s.flag F.PYU_CTL_ROT_EN (engOf k) && (if rx then p.rRx.isNone else p.rTx.isNone) &&
  !((List.range 20).any fun n => (s.ring k rx n).st == 4 || (s.ring k rx n).due)

/-- A rotation starts (R178, R190): DUP remap of the lane onto the lowest spare; `low` names a lane with low margin. -/
def State.rotStart (s : State) (k : Nat) (rx : Bool) (low : Option Nat) : State :=
  if s.rotOk k rx then
    match s.spares k rx with
    | b :: _ => s.remapOpen k rx false (low.getD (s.oldestLane k rx)) b true
    | [] => s
  else s

/-- A ring reaches the end of its range and stops tracking (R176): its lane fails.  A transmit ring parks, and its lane, once the
far end has narrowed it away, is remapped like that of a failed laser (R173); λ16 takes the port to DOWN (R178). -/
def State.rangeEnd (s : State) (k : Nat) (rx : Bool) (n : Nat) : State :=
  let s0 := s.setRing k rx n { s.ring k rx n with lost := true }
  let s1 := State.pyuEv (if n = 16 ∧ rx = true then s0.clockUnlock k else s0) (engOf k) 0x04 lDegrade (laneAddr k rx n)
  if n = 16 then (if rx || s1.lnk k == lnkDown then s1 else s1.enterDown k)
  else if rx then s1.laneGone k n
  else (s1.ringsSettle k).failRemap k

/-- λ16 LOS has lasted 500 µs: shutter closed, DOWN, probe mode (R180). -/
def State.los16 (s : State) (k : Nat) : State :=
  if s.bit F.LNK_LANE_STAT_LOS 16 k && !(s.port k).blank && s.lnk k != lnkDown then s.enterDown k else s

/-- A probe burst (R180): scrambled idle on λ0 to λ15, λ16 its clock, the spares parked. -/
def State.probeOn (s : State) (k : Nat) : State :=
  if s.lnk k = lnkDown && s.flag F.PYU_PORT_STAT_PROBE k && s.probeOk k && !s.flag F.PYU_PORT_STAT_SHUTTER k then
    ((s.putFlag F.PYU_PORT_STAT_SHUTTER true k).count F.PYU_PORT_STAT_PROBES 1 k).ringsSettle k
  else s

/-- The burst ends. -/
def State.probeOff (s : State) (k : Nat) : State :=
  if s.lnk k = lnkDown && s.flag F.PYU_PORT_STAT_SHUTTER k then (s.putFlag F.PYU_PORT_STAT_SHUTTER false k).ringsSettle k else s

/-- An engine reset completes: the ports follow the last step of Table 7-3 (R194). -/
def State.resetDone (s : State) (e : Nat) : State :=
  if (s.eng e).resetting then s.engineUp e else s

/-- An enable line drops (R191): the banks go dark and every engine request clears. -/
def State.lenDropped (s : State) (lineB : Bool) : State :=
  let s1 := if lineB then s.putFlag F.LSC_STAT_LEN_B false else s.putFlag F.LSC_STAT_LEN_A false
  let s2 := s1.put F.LSC_STAT_BANK_ON 0
  s2.engStop 0

/-- The cartridge's register `a` of those that it was made with: as it was read before, else `v`, which a read has just given. -/
def State.carConst (s : State) (a v : Nat) : Nat :=
  match s.lsc.ids.get 0 ⟨a, 0, 0⟩ with
  | 0 => v
  | n + 1 => n

/-- A read has given such a register. -/
def State.carLearn (s : State) (a v : Nat) : State :=
  { s with lsc := { s.lsc with ids := s.lsc.ids.set 0 ⟨a, 0, 0⟩ (s.carConst a v + 1) } }

/-- `CAR_ID` names interface version 1 with four banks (R185, Table 7-11). -/
def carIdOk (v : Nat) : Bool := v / 16 == 0x014

/-- Copies of CAR_STAT, with what a change of it means (R168, R169, R172, R174, R184); `id` is the `CAR_ID` that the frame carries,
where the frame before it was its read.  `BANK_ON` is written where `READY` is set and `CAR_ID` right; a wrong one is what
LSC_READY_TIMEOUT reports (DEDUCED, log entry 77). -/
def State.carStat (s : State) (stat : Nat) (id : Option Nat) : State :=
  let old := s.lsc.car.get 0 ⟨0x11, 0, 0⟩
  let s1 := { s with lsc := { s.lsc with car := s.lsc.car.set 0 ⟨0x11, 0, 0⟩ stat } }
  let s2 := (s1.putFlag F.LSC_STAT_CAR_READY (hasBit stat 15)).put F.LSC_STAT_BANK_LOCK (bitField stat 8 4)
  let s3 := if hasBit stat 15 && id.any carIdOk then
      (List.range 4).foldl (fun a e => if a.dom (10 + e) = .waking then a.putBitOf F.LSC_STAT_BANK_ON e true else a) s2
    else s2
  let s4 := (List.range 4).foldl (fun a e =>
    if hasBit stat (4 + e) && !hasBit old (4 + e) then a.bankFault e
    else a.putBitOf F.LSC_STAT_BANK_FLT e (hasBit stat (4 + e))) s3
  if hasBit stat 0 && !hasBit old 0 then s4.lscEv 0x05 lSevere else s4

/-- A poll of CAR_STAT while PD14 is on (R168).  A cartridge that was READY is polled by a read of `CAR_ID`, which the next frame
answers with `data`: the value that it has always had (log entry 77). -/
def State.lscPolled (s : State) (stat data : Nat) : State :=
  if s.dom 14 = .on then
    let known := s.lsc.idRead
    let s1 := if known then s.carLearn 0 data else s
    let s2 := s1.carStat stat (if known then some (s.carConst 0 data) else none)
    { s2 with lsc := { s2.lsc with idRead := hasBit stat 15 } }
  else s

/-- LSC_READY_TIMEOUT (R185): engine `e` is being powered up, and `READY` is missing or `CAR_ID` is not that of interface
version 1 with four banks.  Other engines that are being powered up are refused for want of an LSC (03 R60). -/
def State.lscTimeout (s : State) (e carId : Nat) : State :=
  if s.dom (10 + e) = .waking ∧ ¬(s.flag F.LSC_STAT_CAR_READY = true ∧ carIdOk (s.carConst 0 carId) = true) then
    let s0 := if s.flag F.LSC_STAT_CAR_READY then s.carLearn 0 carId else s
    let s1 := State.lscEv { (s0.putFlag F.LSC_STAT_BAD_CAR true) with pow := { s0.pow with rejected := true } } 0x03 lSevere
    let other := (List.range 4).any fun n => n != e && s1.dom (10 + n) == .waking
    let s2 := if other then s1.putFlag F.AON_WAKE_SRC_REFUSED_RIND true else s1
    (List.range 4).foldl (fun a n =>
      if a.dom (10 + n) = .waking then (a.putBitOf F.AON_PD_REQ_ENG_REQ n false).engFall (s1.lastFid bLSC 0) n else a) s2
  else s

/-- An LSC_WIN write may go to the cartridge: a read, or a write of CAR_PSET (R170, Table 7-11). -/
def winOk (w : Bool) (addr : Nat) : Bool := !w || (0x100 ≤ addr && addr < 0x180 && addr % 0x20 < 20)

/-- `LSC_WIN` written (R170): a frame, or ERR.  What a write accepted while PD14 is off does is not stated: the frame waits, BUSY
reads 1, and the frame completes once PD14 is on (DESIGN CHOICE, log entry 77). -/
def State.lscWinActs (s : State) : State :=
  let w := s.flag F.LSC_WIN_W
  let a := s.fld F.LSC_WIN_ADDR
  if winOk w a then
    { ((s.putFlag F.LSC_WIN_ERR false).putFlag F.LSC_WIN_BUSY true) with
      lsc := { s.lsc with frame := some (w, a, s.fld F.LSC_WIN_DATA) } }
  else s.putFlag F.LSC_WIN_ERR true

/-- What a read of cartridge register `a` gives (Table 7-11): the module's own hold of `CAR_CTL`, `CAR_STAT`, `CAR_FAIL` and `CAR_PSET`,
what the cartridge was made with, or else `v`, what it has measured. -/
def State.carRead (s : State) (a v : Nat) : Nat :=
  if a = 0x10 then s.fld F.LSC_STAT_BANK_ON
  else if a = 0x11 ∨ (0x20 ≤ a ∧ a < 0x28) then s.lsc.car.get 0 ⟨a, 0, 0⟩
  else if winOk true a then s.lsc.car.get 40 ⟨a, 0, 0⟩
  else if a < 6 then s.carConst a v
  else v

/-- The frame of LSC_WIN completes: a write has set the laser's setpoint, values above 60 taken as 60; a read shows the
cartridge's register (R168, R170). -/
def State.lscFrameDone (s : State) (stat data : Nat) : State :=
  match s.lsc.frame with
  | some (w, a, d) =>
    if s.dom 14 = .on then
      let s1 := s.carStat stat none
      let s2 : State := { s1 with lsc := { s1.lsc with frame := none, idRead := !w && a == 0 && hasBit stat 15 } }
      let s3 := s2.putFlag F.LSC_WIN_BUSY false
      if w then { s3 with lsc := { s3.lsc with car := s3.lsc.car.set 40 ⟨a, 0, 0⟩ (min 60 (d % 256)) } }
      else (if a < 6 then s3.carLearn a data else s3).put F.LSC_WIN_DATA (s3.carRead a data)
    else s
  | none => s

/-- LASER_FAIL_DECLARE (R172): in the first of its cases the cartridge has set the laser's `CAR_FAIL` bit (R169). -/
def State.laserDeclared (s : State) (e n : Nat) (car : Bool) : State :=
  let a := 0x20 + 2 * e + n / 16
  let s1 : State := if car ∧ s.dom 14 = .on then
      { s with lsc := { s.lsc with car := s.lsc.car.set 0 ⟨a, 0, 0⟩ (putBit (s.lsc.car.get 0 ⟨a, 0, 0⟩) (n % 16) true) } }
    else s
  s1.laserDeclare e n

end Sys2Proof.Machine
end

