-- ==== Sys2Proof/Machine/Rind.lean ====
section
/-! DEFINITION. Rind: safety inputs, their functions, STO outputs and the safety configuration (20 R525 to R554). -/
namespace Sys2Proof.Machine

/-- An event of the Rind block. -/
def State.rndEv (s : State) (typ lvl : Nat) : State := s.event (supEvent bRND typ lvl)

/-- Rind is in SAFE (R541). -/
def State.rindSafe (s : State) : Bool := s.fld F.RND_STAT_STATE == 2

/-! ### Inputs (R527 to R531) -/

/-- Type of input `n` in the record in force. -/
def State.siType (s : State) (n : Nat) : Nat := s.rnd.cfg.types.getD n 1

/-- A contact of input `n` is in its demand state (R527); those of a disabled input never are. -/
def State.contactDemand (s : State) (n : Nat) (chB : Bool) : Bool :=
  s.siType n != 0 &&
  if chB then (if s.siType n = 2 then s.bit F.RND_SI_STAT_CB n else !s.bit F.RND_SI_STAT_CB n) else !s.bit F.RND_SI_STAT_CA n

/-- A fault of input `n` is latched. -/
def State.siFault (s : State) (n : Nat) : Bool :=
  s.bit F.RND_SI_FLT_SHORT n || s.bit F.RND_SI_FLT_CROSS n || s.bit F.RND_SI_FLT_DISCREP n

/-- Input `n` demands (R530, R545). -/
def State.siDemands (s : State) (n : Nat) : Bool :=
  s.flag F.RND_STAT_CFG_BAD || (s.siType n != 0 && (s.contactDemand n false || s.contactDemand n true || s.siFault n))

/-- The functions that act (R531, R541, R545), and the load switches held off. -/
def State.wantFunc (s : State) : Nat :=
  if s.rindSafe || s.flag F.RND_STAT_CFG_BAD then 127
  else (List.range 8).foldl (fun m n => if s.siDemands n then m ||| s.rnd.cfg.funcs.getD n 0 else m) 0
def State.wantLsw (s : State) : Nat :=
  (List.range 8).foldl (fun m n => if s.rindSafe || s.siDemands n then m ||| s.rnd.cfg.lsw.getD n 0 else m) 0

/-! ### Reactions (Table 20-2) -/

/-- Laser: the enables drop, `BANK_ON` clears, and every engine request with it (07 R171, R182, R191). -/
def State.lasersOff (s : State) (fid : Nat) : State := (s.lenSettle.put F.LSC_STAT_BANK_ON 0).engStop fid

/-- STO0 and STO1: the elements go off and permission is lost. -/
def State.fnSto (s : State) (f : Nat) : State :=
  (s.stoOff (f % 4)).put F.RND_STO_STAT_PERM (maskOf 2 fun k => s.bit F.RND_STO_STAT_PERM k && !hasBit f k)

/-- ISO (R20, R526): inhibits, and string isolate with cause 3. -/
def State.fnIso (s : State) (on : Bool) (fid : Nat) : State :=
  if on then (s.setInhibit 7).isolate 3 fid else s.setInhibit s.inhibitNow

/-- LASER. -/
def State.fnLaser (s : State) (on : Bool) (fid : Nat) : State := if on then s.lasersOff fid else s.lenSettle

/-- CAP (15 R406). -/
def State.fnCap (s : State) (on : Bool) : State := { s with gov := { s.gov with cap := if on then s.rnd.cfg.cap else fusedW } }

/-- The load-switch mask (19 R518): the switches that join it go off. -/
def State.fnLsw (s : State) (new fid : Nat) : State := if new = 0 then s else (s.lswOff new).lswShadow fid

/-- The reactions to a change of the functions that act from `f0` to `f`. -/
def State.fnSettle (s : State) (f0 f fid : Nat) : State :=
  let ed (a : State) (n : Nat) (g : State → Bool → State) : State := if hasBit f n = hasBit f0 n then a else g a (hasBit f n)
  let s1 := ed (s.fnSto f) 2 fun a on => a.fnIso on fid
  let s2 := ed s1 3 fun a on => a.fnLaser on fid
  let s3 := ed s2 4 fun a on => a.idleCause fun x => { x with rind := on }
  let s4 := ed s3 5 fun a on => if on then a.coreShutdown fid else a
  s4.fnCap (hasBit f 6)

/-- Report a change of the demands from `d0` to `d` (01 R21): the FRONT record and the notification now, the register bits as
soon as PD03 is on (R25). -/
def State.siReport (s : State) (d0 d at_ : Nat) : State :=
  let x := d0 ^^^ d
  let n := s.supStored 0x140 / 256 * 256 + d
  let b := leBytes 4 n ++ leBytes 4 x
  let s1 : State := { s with pow := { s.pow with siChg := s.pow.siChg ||| x } }
  let s2 := if s1.dom 3 = .on then s1.siWrite else s1
  (s2.offerAt at_ s2.tim.pcyc bAON 0 0x07 b).notify 1 bAON 0 0 0 s2.nextRseq b

/-- Report the changes from `d0` to `d`: a demand that begins before the Inputs stage has ended is taken as an action that took place
at power-up (04 R103, 01 R29), any other change took place now. -/
def State.siReports (s : State) (d0 d : Nat) : State :=
  let early := if s.rnd.waits then maskOf 8 fun n => hasBit d n && !hasBit d0 n else 0
  let s1 := if early = 0 then s else s.siReport d0 (d0 ^^^ early) s.rnd.bootAt
  if d = d0 ^^^ early then s1 else s1.siReport (d0 ^^^ early) d s1.tim.optime

/-- Rind follows its inputs, faults and configuration, in the Inputs stage too (04 R103): demands counted and reported, functions and
masks applied, the change a wake source (03 R69). -/
def State.rindFollow (s : State) (fid : Nat) : State :=
  let d0 := s.fld F.RND_SI_STAT_DEMAND
  let d := maskOf 8 s.siDemands
  let f0 := s.fld F.RND_ACT_FUNC
  let f := s.wantFunc
  let l0 := s.fld F.RND_ACT_LSW
  let l := s.wantLsw
  let rises := maskOf 8 fun n => hasBit d n && !hasBit d0 n
  let s0 : State := { s with rnd := { s.rnd with hadFunc := s.rnd.hadFunc ||| f, hadLsw := s.rnd.hadLsw ||| l } }
  let s1 := ((s0.put F.RND_SI_STAT_DEMAND d).put F.RND_ACT_FUNC f).put F.RND_ACT_LSW l
  let s2 := (s1.count F.RND_CNT_DEMANDS (popCount rises 8)).fnSettle f0 f fid
  let s3 := s2.fnLsw (maskOf 16 fun n => hasBit l n && !hasBit l0 n) fid
  let s4 := State.gcSrcN (popCount rises 8) 6 s3
  let s5 : State := if hasBit rises s4.rnd.cfg.rstSrc && s4.rnd.cfg.rstSrc != 0 then
      { s4 with rnd := { s4.rnd with rstAt := some s4.tim.optime } } else s4
  if d = d0 then s5 else ((s5.siReports d0 d).wakeSrc 5).herdWake

/-- As above, and the power sequencer follows. -/
def State.rindSettle (s : State) (fid : Nat := 0) : State := (s.rindFollow fid).powerSettle

/-! ### Contacts -/

/-- A latched fault of input `n` clears once both contacts were seen together in the demand state and then together in the
no-demand state (R530). -/
def State.siTrack (s : State) (n : Nat) : State :=
  let a := s.contactDemand n false
  let b := s.contactDemand n true
  if s.siFault n then
    if a && b then { s with rnd := { s.rnd with seen := putBit s.rnd.seen n true } }
    else if !a && !b && hasBit s.rnd.seen n then
      let s1 : State := { s with rnd := { s.rnd with seen := putBit s.rnd.seen n false } }
      ((s1.putBitOf F.RND_SI_FLT_SHORT n false).putBitOf F.RND_SI_FLT_CROSS n false).putBitOf F.RND_SI_FLT_DISCREP n false
    else s
  else s

/-- A contact of input `n` reads closed or open. -/
def State.setContact (s : State) (n : Nat) (chB closed : Bool) : State :=
  if chB then s.putBitOf F.RND_SI_STAT_CB n closed else s.putBitOf F.RND_SI_STAT_CA n closed

/-- The state in which a contact signals no demand, and the level of its demand state. -/
def State.restLevel (s : State) (n : Nat) (chB : Bool) : Bool := !(chB && s.siType n == 2)

/-- SAFETY_INPUT_DEMAND: a contact leaves its no-demand state.  With the field connector open no contact returns a pulse
(02 R49). -/
def State.siDemand (s : State) (n : Nat) (chB : Bool) : State :=
  if s.flag F.AON_CONN_STAT_FLD_PRES then
    let s1 := s.setContact n chB (!s.restLevel n chB)
    s1.runs fun a => (a.siTrack n).rindSettle
  else s

/-- A reset of output `k` (R537): ignored and counted where a condition other than `PERM[k]` fails, or where a demand has held the
output since the last decision tick (R548, 01 R24). -/
def State.stoReset (s : State) (k : Nat) : State :=
  if s.fld F.RND_STAT_STATE = 1 ∧ s.funcHeld k = false ∧ s.bit F.RND_STO_STAT_STO_FLT k = false ∧
      s.bit F.AON_STO_REQ_ON k = true then
    (s.putBitOf F.RND_STO_STAT_PERM k true).count F.RND_CNT_RESETS
  else s.count F.RND_CNT_RST_IGN

/-- The release of a configured reset input after 0.1 to 3.0 s of demand is a reset of both outputs. -/
def State.resetInput (was s : State) (n : Nat) : State :=
  if s.rnd.cfg.rstSrc = n ∧ n ≠ 0 ∧ was.bit F.RND_SI_STAT_DEMAND n = true ∧ s.bit F.RND_SI_STAT_DEMAND n = false then
    match s.rnd.rstAt with
    | some t =>
      let s1 : State := { s with rnd := { s.rnd with rstAt := none } }
      let dt := s.tim.optime - t
      if 100 ≤ dt ∧ dt ≤ 3000 then (s1.stoReset 0).stoReset 1 else s1
    | none => s
  else s

/-- SAFETY_INPUT_CLEAR: both contacts are back in their no-demand state together. -/
def State.siClear (s : State) (n : Nat) : State :=
  if s.flag F.AON_CONN_STAT_FLD_PRES then
    let s1 := (s.setContact n false (s.restLevel n false)).setContact n true (s.restLevel n true)
    s1.runs fun a => State.resetInput s ((a.siTrack n).rindSettle) n
  else s

/-- INPUT_SHORT, INPUT_CROSS, INPUT_DISCREPANCY: a fault of a tested input is latched (R529, R530). -/
def State.siFaulted (s : State) (f : RField) (n : Nat) : State :=
  if s.siType n = 0 then s
  else
    let s1 : State := { s with rnd := { s.rnd with seen := putBit s.rnd.seen n false } }
    if s1.bit f n then s1
    else
      let s2 := (s1.putBitOf f n true).rndEv 0x01 lSevere
      s2.rindSettle (s2.lastFid bRND 0)

/-- INPUT_DISCREPANCY: the two contacts have differed for longer than `DISC`.  Where both stood in the demand state, one of them has
come back alone, which no other row reports; which of them is free (DESIGN CHOICE, log entry 47). -/
def State.siDiscrepancy (s : State) (n : Nat) : State :=
  if s.siType n = 0 then s
  else if s.contactDemand n false = false ∧ s.contactDemand n true = false then s
  else if s.contactDemand n false = true ∧ s.contactDemand n true = true then
    let f := s.free
    let b := f.1 % 2 == 1
    (f.2.setContact n b (f.2.restLevel n b)).siFaulted F.RND_SI_FLT_DISCREP n
  else s.siFaulted F.RND_SI_FLT_DISCREP n

/-! ### STO outputs (R534 to R537) -/

/-- Output `k` faults (R536). -/
def State.stoFault (s : State) (k : Nat) : State :=
  if s.bit F.RND_STO_STAT_STO_FLT k then s
  else
    ((((s.putBitOf F.RND_STO_STAT_STO_FLT k true).putBitOf F.RND_STO_STAT_PERM k false).stoOff (2 ^ k)).rndEv 0x02 lSevere)

/-- STO_OFF_PULSE of element `e` (0 HA, 1 HB, 2 L): only an energised output is pulsed, and STOk_L only in paired mode. -/
def State.stoPulse (s : State) (k e : Nat) (ok : Bool) : State :=
  if s.bit F.RND_STO_STAT_ON k && !(e == 2 && s.bit F.RND_STO_STAT_MODE k) && !ok then s.stoFault k else s

/-- STO_READBACK_FAULT: the readback of an output that is commanded off shows, or no longer shows, another than the off
state. -/
def State.stoReadback (s : State) (k : Nat) (off : Bool) : State :=
  if s.bit F.RND_STO_STAT_ON k then s
  else
    let s1 : State := if s.bit F.RND_STO_STAT_RB_H k = off then s else
      { s with rnd := { s.rnd with rbAt := s.rnd.rbAt.set 0 ⟨k, 0, 0⟩ s.tim.optime } }
    let s2 := s1.putBitOf F.RND_STO_STAT_RB_H k off
    if off then s2 else s2.stoFault k

/-- STO_CURRENT_LIMIT (R534): the output has been at its limit for 1 ms. -/
def State.stoLimit (s : State) (k : Nat) : State := if s.bit F.RND_STO_STAT_ON k then s.stoFault k else s

/-- STO_ENERGISE (R537): all conditions hold, and the off-state check of 5 ms has passed or has shown a wrong reading. -/
def State.stoEnergise (s : State) (k : Nat) (ok : Bool) : State :=
  if s.fld F.RND_STAT_STATE = 1 ∧ s.bit F.RND_ACT_FUNC k = false ∧ s.bit F.RND_STO_STAT_STO_FLT k = false ∧
      s.bit F.RND_STO_STAT_PERM k = true ∧ s.bit F.AON_STO_REQ_ON k = true ∧ s.flag F.AON_PIN_PHASE_FIELD_EN = true ∧
      s.holdup = false ∧ s.bit F.RND_STO_STAT_ON k = false then
    if ok then (s.putBitOf F.RND_STO_STAT_ON k true).putBitOf F.RND_STO_STAT_RB_H k false else s.stoReadback k false
  else s

/-- Actions of a write of `AON_STO_REQ` (R537): an output no longer requested goes off; host resets, where the host is the
reset source. -/
def State.stoReqActs (s : State) (rst : Nat) : State :=
  let s1 := s.stoOff (maskOf 2 fun k => !s.bit F.AON_STO_REQ_ON k)
  if s1.rnd.cfg.rstSrc = 0 then (bitsSet rst 2).foldl (fun a k => a.stoReset k) s1 else s1

/-- FAULT_ACK of the Rind block (R536): refused unless the readback of each faulted output has shown the off state for the
last 10 ms. -/
def State.stoAck (s : State) : Option State :=
  let ks := bitsSet (s.fld F.RND_STO_STAT_STO_FLT) 2
  if ks.all fun k => s.bit F.RND_STO_STAT_RB_H k && decide (s.rnd.rbAt.get 0 ⟨k, 0, 0⟩ + 10 ≤ s.tim.optime) then
    some (s.put F.RND_STO_STAT_STO_FLT 0)
  else none

/-! ### Channel faults (R541) -/

/-- CHANNEL_FAULT, CROSS_LINK_LOSS, a failed CONFIG_CRC_CHECK: Rind enters SAFE, until the next aux power-up. -/
def State.channelFault (s : State) : State :=
  if s.rindSafe then s
  else
    let s1 := s.rndEv 0x04 lHalt
    let fid := s1.lastFid bRND 0
    (((s1.put F.RND_STAT_STATE 2).put F.RND_STO_STAT_PERM 0).stoOff 3).rindSettle fid

/-! ### The safety configuration (R533, R542 to R545) -/

/-- Bytes of a record up to its CRC (Table 20-5). -/
def safetyBody (c : SafetyCfg) : Bytes :=
  leBytes 2 0x5352 ++ [1, 0] ++ leBytes 4 c.id ++ leBytes 2 (c.cap / 10) ++ leBytes 2 c.opw ++
  [BitVec.ofNat 8 (c.modes % 2), BitVec.ofNat 8 (c.modes / 2), BitVec.ofNat 8 c.rstSrc, 0] ++
  ((List.range 8).flatMap fun n => [BitVec.ofNat 8 (c.types.getD n 0), BitVec.ofNat 8 (c.funcs.getD n 0)] ++
    leBytes 2 (c.disc.getD n 0) ++ leBytes 2 (c.lsw.getD n 0) ++ [0, 0]) ++ List.replicate 44 0

/-- The record in force, as SAFETY_CFG_READ shows it. -/
def State.safetyImage (s : State) : Bytes :=
  if s.rnd.img.isEmpty then safetyBody {} ++ leBytes 4 (crc32 (safetyBody {})) else s.rnd.img

/-- Steps 2 to 6 of R543: the record, or the reason of the first check that fails. -/
def parseSafety (b : Bytes) : Except Nat SafetyCfg :=
  let c : SafetyCfg := {
    id := leAt b 4 4, cap := 10 * leAt b 8 2, opw := leAt b 10 2, modes := leAt b 12 1 + 2 * leAt b 13 1, rstSrc := leAt b 14 1
    types := (List.range 8).map fun n => leAt b (16 + 8 * n) 1
    funcs := (List.range 8).map fun n => leAt b (17 + 8 * n) 1
    disc := (List.range 8).map fun n => leAt b (18 + 8 * n) 2
    lsw := (List.range 8).map fun n => leAt b (20 + 8 * n) 2 }
  let pad := leAt b 3 1 + leAt b 15 1 + leAt b 80 44 + ((List.range 8).map fun n => leAt b (22 + 8 * n) 2).foldl (· + ·) 0
  let src := c.rstSrc
  if b.length ≠ 128 ∨ leAt b 0 2 ≠ 0x5352 ∨ leAt b 2 1 ≠ 1 ∨ pad ≠ 0 ∨ c.funcs.any (fun f => 128 ≤ f) = true then .error 2
  else if leAt b 124 4 ≠ crc32 (b.take 124) then .error 3
  else if c.id = 0 ∨ c.cap < 200 ∨ 4200 < c.cap ∨ c.opw < 100 ∨ 1000 < c.opw ∨ 1 < leAt b 12 1 ∨ 1 < leAt b 13 1 ∨
      (src ≠ 0 ∧ (src < 5 ∨ 7 < src)) ∨ c.types.any (fun t => 2 < t) = true ∨
      c.disc.any (fun d => d < 10 || 1000 < d) = true then .error 4
  else if c.types.getD 4 0 ≠ 1 ∨ hasBit (c.funcs.getD 4 0) 3 = false then .error 5
  else if src ≠ 0 ∧ (c.types.getD src 0 ≠ 2 ∨ c.funcs.getD src 0 ≠ 0 ∨ c.lsw.getD src 0 ≠ 0) then .error 6
  else .ok c

/-- A record is in force. -/
def State.safetyApply (s : State) (c : SafetyCfg) (img : Bytes) : State :=
  let s1 : State := { s with rnd := { s.rnd with cfg := c, img := img, rstAt := none } }
  ((s1.put F.RND_CFG_ID_CFG_ID c.id).put F.RND_CFG_CRC_CRC (leAt img 124 4)).put F.RND_STO_STAT_MODE c.modes

/-- The check of both copies at aux power-up (R545). -/
def State.safetyCheck (s : State) : State :=
  let a := s.rnd.copyA
  let b := s.rnd.copyB
  if a.isEmpty ∧ b.isEmpty then s
  else
    match parseSafety a, parseSafety b with
    | .ok c, .ok _ => if a = b then s.safetyApply c a else (s.putFlag F.RND_STAT_CFG_BAD true).rndEv 0x03 lSevere
    | _, _ => (s.putFlag F.RND_STAT_CFG_BAD true).rndEv 0x03 lSevere

/-- SAFETY_CFG_LOAD (R543): none where the record is accepted and becomes pending, else the reason. -/
def State.safetyLoad (s : State) (b : Bytes) : State × Option Nat :=
  let r : Option Nat := if s.flag F.AON_FRONT_STAT_SVC_KEY = false then some 1 else
    match parseSafety b with
    | .error n => some n
    | .ok _ => none
  match r with
  | some n => (s.put F.RND_CFG_STAT_LOAD_REFUSE n, some n)
  | none => (State.putFlag { s with rnd := { s.rnd with pend := some b } } F.RND_STAT_PENDING true, none)

/-- The pending record is committed (R544, R550): `PERM` clears, both copies take it, and it is in force from this tick. -/
def State.safetyCommit (s : State) : State :=
  match s.rnd.pend with
  | none => s
  | some b =>
    match parseSafety b with
    | .error _ => s
    | .ok c =>
      let old := s.fld F.RND_CFG_ID_CFG_ID
      let s1 : State := { s with rnd := { s.rnd with pend := none, copyA := b, copyB := b } }
      let s2 := (((s1.safetyApply c b).putFlag F.RND_STAT_PENDING false).putFlag F.RND_STAT_CFG_BAD false).put F.RND_STO_STAT_PERM 0
      let s3 := (s2.stoOff 3).offer bRND 0 0x0F (leBytes 4 old ++ leBytes 4 c.id)
      s3.rindSettle

/-! ### The Inputs stage (R540, 02 R46, 04 R84) -/

/-- INPUTS_STAGE_END: every input has been read, and the field outputs are released, unless the supervisor junction limit or hold-up
holds them off; a self-test that failed never releases them in this power-up (Table 20-4).  SAFE stays (R541). -/
def State.inputsEnd (s : State) (ok : Bool) : State :=
  if s.rnd.waits then
    let s1 : State := { s with rnd := { s.rnd with waits := false, failed := !ok } }
    if ok then
      let s2 := if s1.rindSafe then s1 else s1.put F.RND_STAT_STATE 1
      let s3 := s2.fieldOff.setInhibit s2.inhibitNow
      ((s3.putFlag F.AON_PIN_PHASE_FIELD_EN s3.fieldFree).lenSettle).rindSettle
    else s1.rndEv 0x05 lHalt
  else s

end Sys2Proof.Machine
end

