-- ==== Sys2Proof/Machine/Supply.lean ====
section
/-! DEFINITION. Phases U, X and S, the hold-up, the time base at power-up, and what changes at the pins (01 R21 to R29, 02
R39 to R54, 03 R57 to R60 and R69, 04 R84, 22 R587 to R589, 24 R629 and R630). -/
namespace Sys2Proof.Machine

/-! ### The time store (22 R588) -/

/-- The next entry in rotation. -/
def State.timeWrite (s : State) (kind : Nat) : State :=
  { s with tim := { s.tim with store := (⟨s.tim.optime, s.tim.pcyc, kind, true⟩ :: s.tim.store).take 16 } }

/-- The entry with the highest PCYC and, among those, the highest OPTIME. -/
def newestTime : List TimeEnt → Option TimeEnt
  | [] => none
  | e :: r =>
    match newestTime r with
    | none => some e
    | some b => if b.pcyc < e.pcyc ∨ (b.pcyc = e.pcyc ∧ b.optime ≤ e.optime) then some e else some b

/-- The end of phase X: LAST_DOWN, PCYC and OPTIME from the valid entries, then the new entry, and the PCYC_SAT event. -/
def State.timeRestore (s : State) : State :=
  let e := newestTime (s.tim.store.filter (·.ok))
  let down := match e with
    | none => 0
    | some x => if x.kind = 2 then 1 else 2
  let opt := match e with
    | none => 0
    | some x => x.optime
  let pc := match e with
    | none => 1
    | some x => min 0xFFFFF (x.pcyc + 1)
  let s1 := State.put { s with tim := { s.tim with optime := opt, pcyc := pc, was := e.map (·.pcyc) } } F.TIM_BOOT_LAST_DOWN down
  let s2 := (((s1.timeWrite 0).put F.TIM_OPTIME_HI_OPTIME (opt / 2 ^ 32)).put F.TIM_PCYC_PCYC pc)
  if pc = 0xFFFFF then s2.event (supEvent bTIM 0x01 lNote) else s2

/-- TIME_STORE_WRITE: OPTIME is a whole multiple of 600,000 ms; with the write of a warning in the same cycle there is one
write (R588, R599). -/
def State.timeStore (s : State) : State :=
  if s.tim.optime % 600000 = 0 ∧ s.tim.optime ≠ 0 ∧
      (s.tim.store.head?.any fun e => e.optime == s.tim.optime && e.pcyc == s.tim.pcyc && e.kind == 2) = false then s.timeWrite 1
  else s

/-! ### Phases (02 R42) -/

/-- What does not depend on the module's power: the levels at its pins. -/
def pinFields : List RField :=
  [F.AON_FRONT_STAT_LIGHT, F.AON_FRONT_STAT_WAKE_IN, F.AON_FRONT_STAT_SVC_KEY, F.AON_FRONT_STAT_LSC_PRESENT,
    F.AON_CONN_STAT_CPRES, F.AON_CONN_STAT_HPRES, F.AON_CONN_STAT_BJL_PRES, F.AON_CONN_STAT_FLD_PRES, F.CTR_STAT_AUX,
    F.RND_SI_STAT_CA, F.RND_SI_STAT_CB]

/-- The supervisor's state takes its reset values; non-volatile cells, pins, the monitors of the chain and what waits in the
queue stay. -/
def State.auxReset (s : State) (ph : PinPhase) : State :=
  let t : State := {
    pow := { phase := ph, nid := s.pow.nid }
    rcd := { pages := s.rcd.pages, skipped := s.rcd.skipped }
    tim := { store := s.tim.store, pcyc := s.tim.pcyc }
    mgt := { keys := s.mgt.keys }
    herd := { mons := s.herd.mons }
    rnd := { copyA := s.rnd.copyA, copyB := s.rnd.copyB, cfg := s.rnd.cfg }
    fused := s.fused
    qual := { fuse := s.qual.fuse }
    freeIx := s.freeIx
    pending := s.pending }
  pinFields.foldl (fun a f => a.put f (s.fld f)) t

/-- AUX_POWER_UP: AUX24 has risen above its turn-on threshold. -/
def State.auxUp (s : State) : State := if s.pow.phase = .u then s.auxReset .x else s

/-- AUX_DROP_IN_RESET. -/
def State.auxDrop (s : State) : State := if s.pow.phase = .x then s.auxReset .u else s

/-- The end of phase X (04 Table 4-1): straps sampled, time base restored, the safety record checked, a session value drawn, the node
active, and the stages of phase S begun. -/
def State.leaveReset (s : State) : State :=
  let s1 := State.put { s with pow := { s.pow with phase := .s }, rnd := { s.rnd with cfg := {} } } F.AON_CONN_STAT_MGT_NID
    (1 + s.pow.nid)
  let a := s1.timeRestore.free
  let b := a.2.free
  let s2 := ((b.2.put F.MGT_SESS_SESS a.1).put F.AON_TEMP_TJ_SUP b.1).putFlag F.MGT_STAT_ACTIVE true
  let s3 := (s2.put F.MGT_KEY_STAT_LOADED (maskOf 16 fun h => !(s2.mgt.keys.get [] ⟨h, 0, 0⟩).isEmpty)).put F.MGT_STAT_PLCA
    (if s2.mgt.plcaOk then 2 else 1)
  let t := s3.tim.optime
  let s4 : State := { s3 with rnd := { s3.rnd with
      rbAt := (s3.rnd.rbAt.set 0 ⟨0, 0, 0⟩ t).set 0 ⟨1, 0, 0⟩ t
      waits := true
      bootAt := t } }
  (s4.safetyCheck.rindSettle.packRestart.tchBegin).chainStage

/-- RESET_END. -/
def State.resetEnd (s : State) : State := if s.pow.phase = .x then (s.recsIn.leaveReset).recsOut else s

/-- AUX_POWER_FAIL_WARNING (02 R47, 22 R588, R589): the warning's time-store entry and the last gasp, outputs off, the core
shut down, the chain silent (16 R447); an estimation-state set ends the queue. -/
def State.auxWarning (s : State) : State :=
  if s.holdup then s
  else
    let s1 := (s.putFlag F.AON_PIN_PHASE_HOLDUP true).putFlag F.AON_SUP_STAT_AUX_OK false
    let same := s1.tim.store.head?.any fun e => e.optime == s1.tim.optime && e.pcyc == s1.tim.pcyc && e.kind == 1
    let s2 : State := if same then { s1 with tim := { s1.tim with store := s1.tim.store.drop 1 } } else s1
    let s3 := (s2.timeWrite 2).lastGasp
    let s4 := State.serviced s3 (((s3.outputsOff 7 0).coreShutdown 0).chainSilent false)
    let n := (s4.rcd.setNo + 1) % 65536
    let s5 : State := { s4 with rcd := { s4.rcd with setNo := n, sets := s4.estSet n } }
    s5.pd3On

/-- The warning's time-store entry may be cut short where hold-up ends in the millisecond of the warning: its CRC then fails
(R599); whether it does is free (DESIGN CHOICE, log entry 58). -/
def State.timeCut (s : State) : State :=
  match s.tim.store with
  | e :: l =>
    if e.kind = 2 ∧ e.optime = s.tim.optime ∧ e.pcyc = s.tim.pcyc then
      let f := s.free
      { f.2 with tim := { f.2.tim with store := { e with ok := f.1 % 2 == 0 } :: l } }
    else s
  | [] => s

/-- HOLDUP_END: a running program is cut at a free place, everything volatile is lost, and the module is in phase U, or in
phase X where AUX24 stands above its threshold (R630). -/
def State.holdupOver (s : State) (auxHigh : Bool) : State :=
  if s.holdup then
    let f := s.timeCut.free
    (f.2.progCut (f.1 % 1024)).auxReset (if auxHigh then .x else .u)
  else s

/-- RECORDER_SCAN_DONE (22 R590): once in each power-up. -/
def State.scanEnd (s : State) : State := if s.flag F.AON_SVC_STAT_REC_READY then s else s.scanDone

/-- RECORDER_IDLE_OFF (03 R57). -/
def State.recOff (s : State) : State := if s.dom 3 = .on ∧ s.recWanted = false then s.setDom 3 .off else s

/-- PD04 or PD05 is gated, or on its way there. -/
def State.herdDown (s : State) : Bool := [4, 5].any fun d => s.dom d == .off || s.dom d == .falling

/-- HERD_GATED_WAKE (03 R58, R69): the round timer wakes PD04 and PD05; one that powers down does so first (R76). -/
def State.milkWake (s : State) : State :=
  if s.herdDown && s.flag F.AON_WAKE_CFG_MILK_EN then (s.wakeSrc 4).herdWake else s

/-! ### Requests by register write (03 R59, R60) -/

/-- Bits newly set of `AON_PD_REQ`, from `was` to `s`: the requests a write makes. -/
def newEng (was s : State) : Nat := maskOf 4 fun e => s.engReq e && !was.engReq e
def newTg (was s : State) : Nat := maskOf 8 fun g => s.tgReq g && !was.tgReq g
def newVat (was s : State) : Bool := 2 ≤ s.vatReq && was.vatReq < 2

/-- A write of `AON_PD_REQ`: refused requests are cleared again, with the reason where any was. -/
def State.pdReqActs (was s : State) : State × Option Nat :=
  let e := newEng was s
  let any := (s.flag F.AON_PD_REQ_SEP_REQ && !was.flag F.AON_PD_REQ_SEP_REQ) || e != 0 || newTg was s != 0 || newVat was s
  if any && s.coreRefused then
    let s1 := (s.put F.AON_PD_REQ_SEP_REQ (min (s.fld F.AON_PD_REQ_SEP_REQ) (was.fld F.AON_PD_REQ_SEP_REQ))).put F.AON_PD_REQ_ENG_REQ
      (maskOf 4 fun n => s.engReq n && was.engReq n)
    let s2 := (s1.put F.AON_PD_REQ_TG_REQ (maskOf 8 fun g => s.tgReq g && was.tgReq g)).put F.AON_PD_REQ_VAT_REQ
      (if newVat was s then was.vatReq else s.vatReq)
    (s2.refusedBits (e != 0), some (s.refuseReason (e != 0)))
  else if e != 0 && s.engRefused then
    ((s.put F.AON_PD_REQ_ENG_REQ (maskOf 4 fun n => s.engReq n && was.engReq n)).refusedBits true, some (s.refuseReason true))
  else (s, none)

/-! ### Pins -/

/-- SVC_KEY_CHANGE (R21, 20 R544). -/
def State.svcKey (s : State) (on : Bool) : State :=
  let was := s.flag F.AON_FRONT_STAT_SVC_KEY
  let s1 := s.putFlag F.AON_FRONT_STAT_SVC_KEY on
  if s.up then
    let s2 := State.frontReport s s1
    if was && !on then s2.safetyCommit else s2
  else s1

/-- WAKE_IN_CHANGE (R21, 03 R69). -/
def State.wakeIn (s : State) (on : Bool) : State :=
  let s1 := s.putFlag F.AON_FRONT_STAT_WAKE_IN on
  if s.up then
    let s2 := State.frontReport s s1
    if on && !s.flag F.AON_FRONT_STAT_WAKE_IN && s2.flag F.AON_WAKE_CFG_WAKEIN_EN then
      ((s2.wakeSrc 2).request true true (s2.fld F.AON_WAKE_CFG_WAKEIN_ENG) (s2.fld F.AON_WAKE_CFG_WAKEIN_TG)).powerSettle
    else s2
  else s1

/-- LIGHT_CHANGE (07 R183, 03 R69). -/
def State.lightChange (s : State) (p : Nat) (on : Bool) : State :=
  let s1 := s.putBitOf F.AON_FRONT_STAT_LIGHT p on
  if s.up then
    let s2 := State.frontReport s s1
    if on && !s.bit F.AON_FRONT_STAT_LIGHT p && s2.flag F.AON_WAKE_CFG_LIGHT_EN then
      ((s2.wakeSrc 1).request true true (2 ^ engOf p) 0).powerSettle
    else s2
  else s1

/-- LSC_PRES_CHANGE (02 R51, 07 R171, R185, R191).  When `BAD_CAR` clears is not stated: the model clears it as LSC_PRES is made again,
when the cartridge no longer counts as missing (DESIGN CHOICE, log entry 77).  Another cartridge may have come. -/
def State.lscPres (s : State) (mated : Bool) : State :=
  let was := s.flag F.LSC_STAT_PRES
  let s0 : State := if was = mated then s else { s with lsc := { s.lsc with ids := {} } }
  let s1 := s0.putFlag F.LSC_STAT_PRES mated
  if s.up then
    let s2 := State.frontReport s s1
    if mated then
      if was then s2
      else State.lenSettle { (s2.putFlag F.LSC_STAT_BAD_CAR false) with pow := { s2.pow with rejected := false } }
    else if was then
      let latch := s2.bit F.RND_SI_STAT_CA 4 || s2.bit F.RND_SI_STAT_CB 4
      let s3 := s2.lasersOff 0
      (if latch then s3.lscEv 0x04 lSevere else s3).powerSettle
    else s2
  else s1

/-- FIELD_CONNECTOR_CHANGE (R49, 19 R520): with the connector open no contact returns a test pulse; mated again, each contact
reports as its device stands. -/
def State.fieldConn (s : State) (mated : Bool) : State :=
  let s1 := s.putFlag F.AON_CONN_STAT_FLD_PRES mated
  if mated then s1
  else
    let s2 := (s1.put F.RND_SI_STAT_CA 0).put F.RND_SI_STAT_CB 0
    s2.runs fun a => (((List.range 8).foldl (fun b n => b.siTrack n) a).rindSettle).fieldGone

/-- BATTERY_HARNESS_CHANGE (R50). -/
def State.harness (s : State) (hpres bjl : Bool) : State :=
  let s1 := (s.putFlag F.AON_CONN_STAT_HPRES hpres).putFlag F.AON_CONN_STAT_BJL_PRES bjl
  s1.runs fun a => if hpres && bjl then a else a.coilsLost 6

/-- COPPER_CABLE_CHANGE (R52, 06 Table 6-5). -/
def State.cableChange (s : State) (c : Nat) (present : Bool) : State :=
  let s1 := s.putBitOf F.AON_CONN_STAT_CPRES c present
  s1.runs fun a => if present then a.lmClear (16 + c) |>.tryCopper (16 + c) else a

/-- NID_STRAP_CHANGE (R54). -/
def State.nidStrap (s : State) (nid : Nat) : State := { s with pow := { s.pow with nid := nid } }

/-- FLT_WIRE_SET and FLT_WIRE_CLEAR (R41): the read-back has differed from, or agreed with, the driven state for 1 ms; while it
differs, another wrong reading only shows. -/
def State.fltWire (s : State) (read : Nat) : State :=
  if read = s.pairDriven then s
  else if s.flag F.AON_CONN_STAT_FLT_WIRE then s.put F.AON_CONN_STAT_FLT_READ read
  else ((s.putFlag F.AON_CONN_STAT_FLT_WIRE true).put F.AON_CONN_STAT_FLT_READ read).aonEv 0x0A lDegrade
def State.fltWireEnd (s : State) (read : Nat) : State :=
  if read = s.pairDriven then (s.putFlag F.AON_CONN_STAT_FLT_WIRE false).put F.AON_CONN_STAT_FLT_READ read else s

end Sys2Proof.Machine
end

