-- ==== Sys2Proof/Machine/Views.lean ====
section
/-! DEFINITION. What a read of a supervisor register returns (00 R7, R8, R644; 21 Tables 21-9 to 21-16; 22 R592): stored
fields, views of other state, snapshots, and measured values, which are free. -/
namespace Sys2Proof.Machine

/-! ### Fault registers (21) -/

/-- 64-bit word `j` of a fault block's registers (Tables 21-9 to 21-15). -/
def FltBlk.word (b : FltBlk) (pair : Bool) (j : Nat) : Nat :=
  if j = 0 then b.unack * 2 ^ 32 + b.recov * 2 ^ 16 + b.lastSrc * 2 ^ 8 + b2n pair * 32 + b2n b.latched * 16 + b2n b.active * 8 + b.level
  else if j = 1 then b.addr
  else if j = 2 then b.mPart * 2 ^ 16 + b.mKind * 2 ^ 8 + b.mId
  else if j = 3 then b2n b.valid * 2 ^ 63 + b2n b.more * 2 ^ 62 + b.fLevel * 2 ^ 8 + b.fType
  else if j = 4 then b.fPcyc * 2 ^ 40 + b.fOptime
  else if j = 5 then b.shadowed * 2 ^ 40 + b.seq * 2 ^ 32 + b.events
  else if j = 6 then b2n b.pairDeg * 2 ^ 52 + b.rlim * 2 ^ 44 + b.quiet * 2 ^ 32 + b.win * 2 ^ 8 + b.cnt
  else 0

/-- Word `j` of the registers of block `c`, instance `i`. -/
def State.fltWord (s : State) (c i j : Nat) : Nat := (s.blk c i).word (s.blkAsserts c i) j

/-- A write of FLT_CFG with enabled bits `en`: ranges saturated; SEP_PC_ and TIL_ blocks have no `PAIR_DEG` (R564, R575). -/
def FltBlk.cfgWrite (b : FltBlk) (deg : Bool) (en v : Nat) : FltBlk :=
  let old := b.word false 6
  let m (lsb w : Nat) : Nat := (List.range w).foldl (fun x n =>
    putBit x n (if hasBit en (lsb + n) then hasBit v (lsb + n) else hasBit old (lsb + n))) 0
  { b with pairDeg := deg && m 52 1 == 1, rlim := m 44 8, quiet := clampN 1 3600 (m 32 12), win := clampN 1 3600000 (m 8 22),
           cnt := max 1 (m 0 8) }

/-- The supervisor block whose fault registers hold index `idx`, with the offset in its range (Table 21-1). -/
def supFlt (idx : Nat) : Option (Nat × Nat) :=
  ([(bAON, 0x1F0), (bTIM, 0x3F0), (bREC, 0x7F0), (bHRD, 0x9F0), (bPKM, 0xBF0), (bEST, 0xDF0), (bCTR, 0xFF0), (bLSW, 0x10F0),
    (bLOOP, 0x1170), (bTCH, 0x11F0), (bRND, 0x13F0), (bMGT, 0x14F0)].find? fun x => x.2 ≤ idx && idx < x.2 + 16).map fun x =>
    (x.1, idx - x.2)

/-! ### The pins (02 R38, R44) -/

/-- Pin groups of 02 Table 2-11 whose state no register shows. -/
inductive PinGroup where
  | crefp | t1s | tpa | auxcW | hallSup | chain | hvTaps | touch | inputs | trstN
  deriving DecidableEq, Repr

/-- States of Table 2-11. -/
inductive PinLevel where
  | off | low | highZ | dividers | undriven | running | active | pulsing | on | measuring | milkRounds | sensing | read
  deriving DecidableEq, Repr

/-- The state of a pin group now (Table 2-11): what the neighbours of the module see.  CREFP and CREFN run once the port
domain is up; the management pins are at high impedance while CK08 fails (03 Table 3-4). -/
def State.pinLevel (s : State) (g : PinGroup) : PinLevel :=
  let p := s.pow.phase
  let run := !(p == .u || p == .x)
  match g with
  | .crefp => if run && (p == .b || p == .f) && hasBit s.pow.ready 8 then .running else .off
  | .t1s => if run && !s.pow.xsFail then .active else .highZ
  | .tpa => if run then .pulsing else .low
  | .auxcW | .hallSup => if run then .on else .off
  | .chain => if run then .milkRounds else .undriven
  | .hvTaps => if run then .measuring else .dividers
  | .touch => if run then .sensing else .highZ
  | .inputs => if run then .read else .highZ
  | .trstN => .low

/-- An instruction of the test access port J15 (R38): the codes of IDCODE and BYPASS, and every other code. -/
inductive TapInstr where
  | idcode | bypass
  | other (code : Nat)
  deriving DecidableEq, Repr

/-- The test access port of a shipped module (R38): what TDO gives while `tdi` is shifted in under an instruction.  IDCODE
gives 0x1B06_40B3, least significant bit first, and then what was shifted in; BYPASS and every other code delay it by one
bit.  The answer depends on nothing that State holds and changes nothing in it: J15 reaches no memory, key, register or
pin, and no row of the table names it (log entry 73). -/
def tapShift (i : TapInstr) (tdi : List Bool) : List Bool :=
  let reg := match i with
    | .idcode => (List.range 32).map (hasBit 0x1B0640B3)
    | .bypass | .other _ => [false]
  (reg ++ tdi).take tdi.length

/-! ### Views of the supervisor -/

/-- Powered domains, mask (03 Table 3-10, R55); bit 9 reads 1 in ON only. -/
def State.domMask (s : State) : Nat := maskOf 23 fun d => if d = 9 then s.pow.vat == .on else hasBit s.pow.ready d

/-- VAT_STATE of Table 3-10. -/
def State.vatState (s : State) : Nat :=
  match s.pow.vat with
  | .off => 0
  | .retain => 1
  | .on => 2
  | _ => 3

/-- Some port of engine `e` holds λ16 lock: the forwarded receive clock runs (07 R165). -/
def State.fwdClock (s : State) (e : Nat) : Bool := (portsOf e).any fun k => !s.flag F.LNK_LANE_STAT_CLK_LOL k

/-- Clock `n` runs (Table 3-3, R62, R65): with its domain, an engine's own clocks from the start of its power-up (07 R184). -/
def State.clkRuns (s : State) (n : Nat) : Bool :=
  let on (d : Nat) := hasBit s.pow.ready d
  let onUp (d : Nat) := on d || s.dom d == .waking
  if n = 0 then !s.pow.slow
  else if n < 4 ∨ n = 7 then true
  else if n = 4 then on 4
  else if n = 5 then on 5
  else if n = 6 then on 3
  else if n = 8 then !s.pow.xsFail
  else if n = 9 ∨ n = 10 ∨ n = 56 ∨ n = 57 ∨ n = 59 then on 8
  else if n < 19 then on (4 + n)
  else if n < 23 then onUp (15 + 2 * (n - 19)) || onUp (16 + 2 * (n - 19))
  else if n < 39 then s.pow.vat == .on
  else if n < 55 then
    let e := (n - 39) / 4
    onUp (10 + e) && (n % 4 != 1 || s.fwdClock e)
  else n == 55 && on 14

/-- The word of cell `c` of EST_CELL (17). -/
def State.estWord (s : State) (c : Nat) : Nat :=
  let x := s.cell c
  if x.init then min 255 (x.sohR / 256) * 2 ^ 24 + min 255 (x.sohC / 128) * 2 ^ 16 + x.soc / 65536 else 0

/-- Milliseconds until the lease expires, and its status word (05 Table 5-6). -/
def State.leaseRemain (s : State) : Nat := if s.lease.held then min 4095 (s.lease.since + 3000 - s.tim.optime) else 0
def State.leaseWord (s : State) : Nat :=
  s.leaseRemain * 2 ^ 20 + s.lease.holder * 2 ^ 16 + b2n s.lease.held * 2 ^ 15 + b2n s.lease.forced * 2 ^ 14

/-- The coulomb counter as a 64-bit word (16). -/
def State.ccWord (s : State) : Nat := ofSigned 64 s.pack.cc

/-- The recorder's status word (22 Table 22-6). -/
def State.recWord (s : State) : Nat :=
  min 32 s.rcd.queue.length * 2 ^ 8 + b2n s.rcd.lastGasp * 8 + b2n s.rcd.erase.isSome * 4 + b2n s.rcd.prog.isSome * 2 +
    b2n (s.flag F.AON_SVC_STAT_REC_READY)

/-- The high words that a read of low index `lo` latches (22 R592): index and present value. -/
def State.highs (s : State) (lo : Nat) : List (Nat × Nat) :=
  if lo = 0x300 then
    [(0x301, b2n s.pow.slow * 256 + s.tim.optime / 2 ^ 32), (0x302, b2n (s.tim.pcyc == 0xFFFFF) * 2 ^ 20 + s.tim.pcyc)]
  else if 0x320 ≤ lo ∧ lo < 0x330 ∧ lo % 4 = 0 then
    let n := (lo - 0x320) / 4
    [(lo + 1, b2n (s.bit F.TIM_GC_EVT_OVF n) * 2 ^ 16 + s.gc n / 2 ^ 32)]
  else if lo = 0xA20 then [(0xA21, s.ccWord / 2 ^ 32)]
  else
    match supFlt lo with
    | some (c, o) => if o % 2 = 0 ∧ o < 14 then [(lo + 1, s.fltWord c 0 (o / 2) / 2 ^ 32)] else []
    | none => []

/-- The index is the high word of such a pair, and what it reads before any latch. -/
def State.highReset (s : State) (idx : Nat) : Option Nat :=
  if idx = 0x301 ∨ idx = 0x302 then some (s.supStored idx)
  else if 0x320 ≤ idx ∧ idx < 0x330 ∧ idx % 4 = 1 ∨ idx = 0xA21 then some 0
  else
    match supFlt idx with
    | some (_, o) => if o % 2 = 1 ∧ o < 14 then some (({} : FltBlk).word false (o / 2) / 2 ^ 32) else none
    | none => none

/-- Fields whose value nothing that the model takes reports: measured, so free. -/
def State.measured (s : State) (idx : Nat) : Bool :=
  idx == 0x105 || idx == 0x1003 || (0x1020 ≤ idx && idx < 0x1030 && s.lswOn (idx - 0x1020))

/-- The word of a register that shows state of its own or of elsewhere. -/
def State.supWord (s : State) (idx : Nat) : Nat :=
  if idx = 0x001 then s.tileCount
  else if idx = 0x100 then s.vatState * 2 ^ 23 + s.domMask
  else if idx = 0x143 then
    let w := s.supStored 0x143
    if s.flag F.AON_CONN_STAT_FLT_WIRE then w else w - w / 2 ^ 16 % 4 * 2 ^ 16 + s.pairDriven * 2 ^ 16
  else if idx = 0x144 then s.pairSrcWord
  else if idx = 0x210 then maskOf 32 s.clkRuns
  else if idx = 0x211 then maskOf 28 fun n => s.clkRuns (32 + n)
  else if idx = 0x300 then s.tim.optime % 2 ^ 32
  else if 0x320 ≤ idx ∧ idx < 0x330 ∧ idx % 4 = 0 then s.gc ((idx - 0x320) / 4) % 2 ^ 32
  else if idx = 0x400 then s.recWord
  else if idx = 0xA20 then s.ccWord % 2 ^ 32
  else if 0xC20 ≤ idx ∧ idx < 0xD10 then s.estWord (idx - 0xC20)
  else if 0x1020 ≤ idx ∧ idx < 0x1030 then 0
  else if idx = 0x1410 then s.leaseWord
  else if idx = 0x1411 then s.lease.epoch
  else
    match supFlt idx with
    | some (c, o) => if o < 14 then s.fltWord c 0 (o / 2) / 2 ^ (32 * (o % 2)) % 2 ^ 32 else 0
    | none => s.supStored idx

/-- The bits that the fields of supervisor register `idx` take. -/
def supMask (idx : Nat) : Nat :=
  match findReg idx supRegs with
  | some (d, _) => (d.fields.map fun f => (2 ^ f.width - 1) * 2 ^ f.lsb).foldl (· + ·) 0
  | none => 0

/-- A read of supervisor register `idx` by a requester: hosts 0 to 15, ports 16 to 33 (R592). -/
def State.supRead (s : State) (who idx : Nat) : Nat × State :=
  match s.highReset idx with
  | some r =>
    let v := s.tim.snaps.get 0 ⟨who, idx, 0⟩
    (if v = 0 then r else v - 1, s)
  | none =>
    let snaps := (s.highs idx).foldl (fun (t : Tab Nat) x => t.set 0 ⟨who, x.1, 0⟩ (x.2 + 1)) s.tim.snaps
    let s1 : State := { s with tim := { s.tim with snaps := snaps } }
    if s.measured idx then
      let f := s1.free
      (f.1 % 2 ^ 32 &&& supMask idx, f.2)
    else (s.supWord idx, s1)

/-- Reads of `n` registers from `idx` on, in ascending order. -/
def State.supReads (who : Nat) : Nat → Nat → State → Bytes × State
  | 0, _, s => ([], s)
  | n + 1, idx, s =>
    let r := s.supRead who idx
    let t := State.supReads who n (idx + 1) r.2
    (leBytes 4 r.1 ++ t.1, t.2)

end Sys2Proof.Machine
end

