-- ==== Sys2Proof/Machine/Faults.lean ====
section
/-! DEFINITION. Leaving the fault state, acknowledgement and the ends of shadows (21 R561, R567 to R577). -/
namespace Sys2Proof.Machine

/-- A condition that keeps a block in the fault state until it is acknowledged or aux power comes up again (R568; R174
holds the blocks of its chapter that it shows in). -/
def State.condHolds (s : State) (c i : Nat) : Bool :=
  if c = bRND then s.rindSafe || s.flag F.RND_STAT_CFG_BAD || s.fld F.RND_STO_STAT_STO_FLT != 0
  else if c = bCTR then s.flag F.CTR_STAT_WELD_LATCH || s.flag F.CTR_STAT_PC_LOCK || s.ctr.dw
  else if c = bEST then s.flag F.EST_DISC_HARD_LATCH
  else if c = bTIL then s.bit F.AON_QUAL_QUAL_FAIL (s.groupOf i)
  else if c = bPYU then s.flag F.PYU_STAT_BANK_FAIL i
  else if c = bLSC then (List.range 4).any fun e => s.flag F.PYU_STAT_BANK_FAIL e
  else false

/-- The block after an exit (R568, R569). -/
def FltBlk.exit (b : FltBlk) (now : Nat) : FltBlk :=
  { b with active := false, level := 0, nonWire := false, recov := incSat 16 b.recov
           exits := now :: b.exits.filter fun t => now < t + 86400000 }

/-- Table 21-4: what the block's exit lifts; nothing is energised by it. -/
def State.blkLift (s : State) (c i : Nat) : State :=
  if c = bLNK then
    let s1 := s.setPort i { s.port i with held := false }
    s1.comeUp i
  else if c = bTIL then
    (if s.bit F.AON_QUAL_QUAL_FAIL (s.groupOf i) then s else s.setTile i { s.tile i with halted := false })
  else s.idleSettle

/-- The block leaves the fault state (R568): its record, its notification, its partition's event; `ack` that an
acknowledgement ends it (R574). -/
def State.blkExit (s : State) (c i : Nat) (ack : Bool) : State :=
  let b := s.blk c i
  let fid := s.lastFid c i
  let rs := s.nextRseq
  let s1 := (s.setBlk c i (b.exit s.tim.optime)).offer c i 0x05
    (faultPayload fid b.level 4 (if ack then 0x50 else 0x10) 0 0 0 255)
  let s2 := s1.notify 3 c i b.lastSrc b.level rs (leBytes 4 fid)
  let s3 := match s2.partOfBlock c i with
    | some p => s2.partEvent p (if c = bTIL then 0x02 else 0x06) b.level (if c = bTIL then i else 0)
    | none => s2
  s3.blkLift c i

/-- QUIET_EXPIRY (R568): a block that has power, is in the fault state, is not LATCHED and is held by no condition leaves
it. -/
def State.quietEnd (s : State) (c i : Nat) : State :=
  let b := s.blk c i
  if b.active && !b.latched && !s.condHolds c i && s.blkPowered c i then s.blkExit c i false else s

/-- An acknowledgement of a block (R561, R574). -/
def State.fltAck (s : State) (c i : Nat) : State :=
  if s.blkPowered c i then
    let b := s.blk c i
    let s1 := s.setBlk c i { b with unack := 0, last := {}, valid := false, more := false }
    if b.latched && !s.condHolds c i then
      let s2 := s1.setBlk c i { s1.blk c i with latched := false }
      if b.active then s2.blkExit c i true else s2
    else s1
  else s

/-- The block codes of Table 21-1. -/
def blockCodes : List Nat := [1, 2, 3, 4, 5, 6, 7, 8, 9, 10, 11, 12, 16, 17, 18, 19, 20, 21, 22, 23]

/-- Block and instance exist. -/
def State.blockExists (s : State) (c i : Nat) : Bool := blockCodes.contains c && i < s.instancesOf c

/-- The latches that a FAULT_ACK also clears, under their conditions (R561: 17 R469, 18 R487, 20 R536). -/
def State.latchAck (s : State) (c : Nat) : Option State :=
  if c = bEST then s.estAck else if c = bCTR then s.ctrAck else if c = bRND then s.stoAck else some s

/-- Reason of the refusal of a FAULT_ACK by a latch rule (23 Table 23-3): LIMIT for the estimation block, FAULT for a latch. -/
def ackReason (c : Nat) : Nat := if c = bEST then 2 else 3

/-- FAULT_ACK of the Steward (R561): none, and no effect, where a latch rule refuses it. -/
def State.faultAck (s : State) (c i : Nat) : Option State := (s.latchAck c).map fun a => a.fltAck c i

/-! ### Ends of shadows (R573) -/

/-- A detector that reports as long as its condition lasts; an edge, such as LINK_DOWN, does not (R573). -/
def levelDet (d : Det) : Bool :=
  (d.code == bPYU && d.typ ≤ 3) || (d.code == bLNK && (d.typ == 4 || d.typ == 5)) || (d.code == bLSC && d.typ % 32 == 1) ||
  (d.code == bAON && 3 ≤ d.typ && d.typ ≤ 5) || d.code == bGOV || (d.code == bPKM) || (d.code == bLSW && d.typ == 3)

/-- A detector still reports as its shadow ends: one event of its source, at its stated level (Table 21-2). -/
def State.stillEvent (s : State) (d : DetRef) : State :=
  let c := d.code.toNat
  let i := d.inst.toNat
  let t := d.typ.toNat
  let a := d.addr.toNat
  if c = bPYU then s.pyuEv i t (if t = 3 then lDegrade else lNote) a
  else if c = bLNK then s.event ⟨bLNK, i, t, lNote, a, 0, 0, 255⟩
  else if c = bLSC then s.laserEv (t / 32 - 1)
  else if c = bAON then s.aonEv t lSevere
  else if c = bGOV then s.govEv t (if t = 2 then lSevere else lDegrade)
  else if c = bPKM then s.overEv (t / 32)
  else if c = bLSW then s.lswEv 0x03 lNote
  else s

/-- SHADOW_END: the first shadow of that reaction ends, and each of its level-sensitive detectors that still reports, and that no
other shadow covers, counts as one event. -/
def State.shadowEnd (s : State) (kind inst : Nat) (still : List DetRef) : State :=
  match s.shadows.find? fun x => x.key == ⟨kind, inst⟩ with
  | none => s
  | some sh =>
    let s1 : State := { s with shadows := s.shadows.eraseP fun x => x.key == ⟨kind, inst⟩ }
    (still.filter fun d =>
      let x : Det := ⟨d.code.toNat, d.inst.toNat, d.typ.toNat⟩
      levelDet x && x.among sh.dets && (s1.shadowOf x).isNone).foldl State.stillEvent s1

end Sys2Proof.Machine
end

