-- ==== Sys2Proof/Machine/CoreView.lean ====
section
/-! DEFINITION. The core space: where an address of a request lies (05 R106), and what a read of one of its 64-bit registers
returns (05 to 09, 11 to 15, 21, 23 R615; the mirror of 00 R16). -/
namespace Sys2Proof.Machine

/-- What an address names (05 R106, 05, 09): the Vat, partition control, the view of a logical tile, or global space, with
the offset in it. -/
inductive Place where
  | vat (a : Nat)
  | part (off : Nat)
  | tile (t off : Nat)
  | glob (off : Nat)
  deriving DecidableEq, Repr

/-- Base addresses of partition control and of global space. -/
def partBase : Nat := 0x7F0000000000
def globBase : Nat := 0x7E0000000000

/-- The place of an address. -/
def placeOf (a : Nat) : Place :=
  if partBase ≤ a ∧ a < partBase + 0x10000000000 then
    let off := a - partBase
    if off < 0x10000 then .part off else .tile ((off - 0x10000) / 0x1000) ((off - 0x10000) % 0x1000)
  else if globBase ≤ a ∧ a < partBase then .glob (a - globBase)
  else .vat a

/-! ### Tile view (09, 11, 12, 13) -/

/-- A pass whose rows are in the array, and a direct load or V operand stream; the stream has ended before the first result row of
its pass (R233). -/
def streams (e : PEnt) : Bool := e.issued && wOpc e.word == oMPASS && !passDone e
def streamsDirect (e : PEnt) : Bool :=
  (e.issued && wOpc e.word == oSLD && e.direct) || (streams e && (passOf e.word).shape == 4 && e.done == 0)

/-- Code of the shadow's state (Table 9-11). -/
def ShadowSt.code : ShadowSt → Nat
  | .empty => 0
  | .loading => 1
  | .loaded => 2

/-- TIL_STAT (Table 9-11) under throttle level `lvl`. -/
def Tile.statWord (x : Tile) (lvl : Nat) : Nat :=
  lvl * 2 ^ 32 + x.groups * 2 ^ 24 + x.shd.shape * 2 ^ 16 + x.act.shape * 2 ^ 10 + x.shdSt.code * 2 ^ 8 + b2n x.actValid * 16 +
    b2n x.rampDown * 8 + b2n (x.ents.any streamsDirect) * 4 + b2n x.transp * 2 + b2n (x.ents.any streams)

/-- TIL_TOKm (Table 11-12). -/
def Tile.tokWord (x : Tile) (m : Nat) : Nat :=
  (List.range 8).foldl (fun w i => w + ((x.tok (8 * m + i)).count + 128 * b2n (x.tok (8 * m + i)).poison) * 2 ^ (8 * i)) 0

/-- TIL_LOOP (Table 12-12). -/
def Tile.loopWord (x : Tile) : Nat :=
  match x.loop with
  | none => 0
  | some lb =>
    let inner := match lb.inner with
      | some i => 2 ^ 48 + i.it * 2 ^ 36 + (i.cnt - 1) * 2 ^ 24
      | none => 0
    2 ^ 48 + inner + lb.it * 2 ^ 12 + (loopCnt lb.ent.word - 1)

/-- TIL_RUN and TIL_STOP (Tables 13-13, 13-14). -/
def Tile.runWord (x : Tile) : Nat :=
  maskOf 8 (x.savedLevels.contains ·) * 2 ^ 8 + b2n (!x.liveEnts.isEmpty) * 8 + (x.level.getD 0) % 8
def StopRec.word (r : StopRec) : Nat := r.ring * 2 ^ 49 + r.sub * 2 ^ 46 + r.how * 2 ^ 44 + r.opc * 2 ^ 32 + r.resume

/-- The throttle level of group `g` (15 R401). -/
def State.groupLevel (s : State) (g : Nat) : Nat := if hasBit s.pow.ready (15 + g) then s.fld F.GOV_STAT_LEVEL else 0

/-- The register at offset `off` of the view of tile `t`. -/
def State.tileWord (s : State) (t off : Nat) : Nat :=
  let x := s.tile t
  let soft := s.qual.soft.get (0, 0) ⟨s.enabled.getD t 0, 0, 0⟩
  let fuse := s.qual.fuse.get (0, 0) ⟨s.enabled.getD t 0, 0, 0⟩
  if off = 0x000 then x.statWord (s.groupLevel (s.groupOf t))
  else if off = 0x008 then soft.2 * 2 ^ 12 + soft.1 * 2 ^ 8 + fuse.2 * 2 ^ 4 + fuse.1
  else if off = 0x010 then x.aCe * 2 ^ 48 + x.sCe * 2 ^ 32 + x.cCe * 2 ^ 16 + x.ue
  else if off = 0x018 then x.shd.half * 2 ^ 14 + x.shd.fmt * 2 ^ 8 + x.act.half * 2 ^ 6 + x.act.fmt
  else if off = 0x020 then x.rbase
  else if 0x028 ≤ off ∧ off ≤ 0x040 then x.tokWord ((off - 0x028) / 8)
  else if off = 0x048 then x.excCnt * 2 ^ 32 + min 32 x.ents.length * 2 ^ 16 + x.excOpc * 2 ^ 8 + x.excCode
  else if off = 0x050 then x.xbase
  else if off = 0x058 then x.loopWord
  else if off = 0x060 then x.runWord
  else if off = 0x068 then x.stop.word
  else if 0xF80 ≤ off ∧ off ≤ 0xFB0 then s.fltWord bTIL t ((off - 0xF80) / 8)
  else 0

/-! ### Partition control (05, 12, 13, 14, 23 R615) -/

/-- The capability descriptor (23 Table 23-6); the physical number of each logical tile, 0xFF above the enabled ones (00
R4). -/
def State.capsBytes (s : State) : Bytes :=
  leBytes 16 0xFF ++ leBytes 2 2 ++ [3, BitVec.ofNat 8 s.tileCount] ++ leBytes 2 (s.fld F.ID_DEVICE_PART) ++
  [BitVec.ofNat 8 (s.fld F.ID_STEPPING_STEP), 0] ++ (List.range 64).map (fun t => BitVec.ofNat 8 (s.enabled.getD t 0xFF)) ++ leBytes 4 (s.fld F.MGT_SESS_SESS) ++
  leBytes 4 0

/-- A word of barriers 8m to 8m + 7 (Table 12-13). -/
def State.barWord (s : State) (p m : Nat) : Nat :=
  (List.range 8).foldl (fun w j =>
    let n := (s.bar p (8 * m + j)).tiles.length
    w + (b2n (n != 0) * 128 + n % 128) * 2 ^ (8 * j)) 0

/-- `STATE` of a submission ring (Table 13-9). -/
def State.ringState (s : State) (p r : Nat) : Nat :=
  let x := s.sring p r
  if !s.rEn p r then 0 else if x.error then 3 else if x.fenced then 2 else 1

/-- The register at offset `off` of the control space of partition `p`. -/
def State.partWord (s : State) (p off : Nat) : Nat :=
  if off < 96 then leAt s.capsBytes off 8
  else if off = 0x2000 then s.fld F.SEP_PT_PORTS_ACTIVE p * 2 ^ 32 + s.ptState p
  else if 0x2080 ≤ off ∧ off ≤ 0x20B0 then s.fltWord bPC p ((off - 0x2080) / 8)
  else if off = 0x2100 then s.barWord p 0
  else if off = 0x2108 then s.barWord p 1
  else
    match findReg off partRegs with
    | some (d, r) =>
      let w := s.readFields r p d.fields
      if d.base = 0x1018 then w + s.ringState p r * 2 ^ 28 + (s.sring p r).segs.length * 2 ^ 17 else w
    | none => 0

/-! ### Global space (05, 06, 07, 08, 14, 15, 21) -/

/-- Block, instance and word of a fault register in global space (21 Table 21-1). -/
def globFlt (off : Nat) : Option (Nat × Nat × Nat) :=
  let at7 (base : Nat) : Option Nat := if base ≤ off ∧ off ≤ base + 0x30 then some ((off - base) / 8) else none
  let one (c i base : Nat) : Option (Nat × Nat × Nat) := (at7 base).map fun j => (c, i, j)
  if off < 0x300000 then one bSEP 0 0x80
  else if off < 0x340000 then
    (if (off - 0x300000) / 0x100 < 18 then one bLNK ((off - 0x300000) / 0x100) (off / 0x100 * 0x100 + 0x80) else none)
  else if off < 0x380000 then
    (if (off - 0x340000) / 0x1000 < 4 then one bPYU ((off - 0x340000) / 0x1000) (off / 0x1000 * 0x1000 + 0xF80) else none)
  else if off < 0x3C0000 then one bLSC 0 0x380080
  else if off < 0x3C8000 then one bVAT ((off - 0x3C0000) / 0x1000) (off / 0x1000 * 0x1000 + 0xF80)
  else one bGOV 0 0x400080

/-- A page-owner entry (Table 5-14). -/
def PageEnt.word (e : PageEnt) : Nat :=
  b2n e.valid * 2 ^ 63 + (match e.st with
    | .free => 0
    | .clearing => 1
    | .mapped => 2) * 2 ^ 56 + e.part * 2 ^ 48 + e.ppage

/-- The mirror of 00 R16. -/
def mirrorIndex (off : Nat) : Option Nat := if 0x440000 ≤ off ∧ off < 0x4C0000 then some ((off - 0x440000) / 8) else none

/-- Global port and engine registers with a selected lane: what they show. -/
def State.laneWord (s : State) (d : RegDesc) (k : Nat) : Nat :=
  if d.base = 0x300048 ∨ d.base = 0x300050 then s.readFields k (s.fld F.LNK_LANE_SEL_LANE k) d.fields
  else if d.base = 0x300008 then
    s.readFields k 0 d.fields + (if optical k && s.lnk k != lnkDown then
      ((s.spares k true).foldl (fun m n => m + 2 ^ n) 0) * 2 ^ 44 else 0)
  else if d.base = 0x300070 ∧ optical k = true then 0
  else s.readFields k 0 d.fields

/-- The word at offset `off` of global space, without measured fields. -/
def State.globWord (s : State) (off : Nat) : Nat :=
  match globFlt off with
  | some (c, i, j) => s.fltWord c i j
  | none =>
    if 0x100000 ≤ off ∧ off < 0x100000 + 8 * pageCount then (s.page ((off - 0x100000) / 8)).word
    else if off = 0x110 then maskOf 8 fun c => s.codeAsserts (16 + c)
    else if off = 0x400028 then (List.range 8).foldl (fun w g => w + s.groupLevel g * 2 ^ (8 * g)) 0
    else if off = 0x380000 then
      s.readFields 0 0 [F.LSC_STAT_BANK_LOCK, F.LSC_STAT_BANK_ON, F.LSC_STAT_BANK_FLT, F.LSC_STAT_BAD_CAR, F.LSC_STAT_CAR_READY,
        F.LSC_STAT_VDD_OK, F.LSC_STAT_LEN_B, F.LSC_STAT_LEN_A, F.LSC_STAT_PRES] +
      4 * b2n (s.bit F.RND_SI_STAT_CB 4) + 2 * b2n (s.bit F.RND_SI_STAT_CA 4)
    else if 0x340100 ≤ off ∧ off < 0x344000 ∧ 0x100 ≤ off % 0x1000 ∧ off % 0x1000 < 0x200 ∧ off % 0x40 = 0 then
      let k := 4 * ((off - 0x340000) / 0x1000) + (off % 0x1000 - 0x100) / 0x40
      s.readFields k 0 [F.PYU_PORT_STAT_ROTATIONS, F.PYU_PORT_STAT_D2D_CRC, F.PYU_PORT_STAT_PROBES, F.PYU_PORT_STAT_ROT_OPEN,
        F.PYU_PORT_STAT_CAL_BUSY, F.PYU_PORT_STAT_LOS, F.PYU_PORT_STAT_PROBE, F.PYU_PORT_STAT_SHUTTER]
    else
      match findReg off globRegs with
      | some (d, i) => s.laneWord d i
      | none => 0

/-- The offset that the tracker of a ring shows, in 0.1 GHz: within ±120 GHz where the ring is dither-locked and tracks (R176). -/
def Ring.offset (r : Ring) (x : Nat) : Int :=
  if 1 ≤ r.st ∧ r.st ≤ 3 ∧ r.lost = false then ((x % 2401 : Nat) : Int) - 1200 else toSigned 12 x

/-- PYU_RING_DATA of engine `e` (Table 7-7): heater and offset are measured, so free, while the engine is on. -/
def State.ringData (s : State) (e : Nat) : Nat × State :=
  let k := 4 * e + s.fld F.PYU_RING_SEL_PORT e
  let r := s.ring k (s.flag F.PYU_RING_SEL_DIR e) (s.fld F.PYU_RING_SEL_WL e)
  let age := if r.cal then min 0xFFFFFFFF (s.tim.optime - r.calAt) else 0
  if s.dom (10 + e) = .on then
    let h := s.free
    let o := h.2.free
    let z := r.offset o.1
    (age * 2 ^ 32 + r.st * 2 ^ 29 + b2n (960 < z.natAbs) * 2 ^ 28 + ofSigned 12 z * 2 ^ 16 + h.1 % 2 ^ 16, o.2)
  else (age * 2 ^ 32 + r.st * 2 ^ 29, s)

/-- VAT_STAT of a controller (Table 14-5): the temperature is measured, and the doubled refresh is in force above 85 °C
(R373). -/
def State.vatStat (s : State) : Nat × State :=
  if s.pow.vat = .on then
    let f := s.free
    (f.1 % 2 ^ 8 * 2 ^ 56 + b2n (85 < toSigned 8 f.1) * 2 ^ 8 + s.vatState, f.2)
  else (0x80 * 2 ^ 56 + s.vatState, s)

/-- A read of global space through port `k`. -/
def State.globRead (s : State) (k off : Nat) : Nat × State :=
  match mirrorIndex off with
  | some i => s.supRead (16 + k) i
  | none =>
    if 0x340000 ≤ off ∧ off < 0x344000 ∧ off % 0x1000 = 0x48 then s.ringData ((off - 0x340000) / 0x1000)
    else if 0x3C0000 ≤ off ∧ off < 0x3C8000 ∧ off % 0x1000 = 0 then s.vatStat
    else (s.globWord off, s)

/-- A read of the 64-bit register at `pl`, whose offset is a multiple of 8, through port `k` for partition `p`. -/
def State.placeRead (s : State) (k p : Nat) (pl : Place) : Nat × State :=
  match pl with
  | .vat _ => (0, s)
  | .part off => (s.partWord p off, s)
  | .tile t off => (s.tileWord t off, s)
  | .glob off => s.globRead k off

end Sys2Proof.Machine
end

