-- ==== Sys2Proof/Machine/Sep.lean ====
section
/-! DEFINITION. The Separator (05 R104 to R125, R646; 06 R145 to R147): partitions, pages and tiles that change hands, the
writes of core-space registers, and the service of Q requests. -/
namespace Sys2Proof.Machine

/-! ### Events -/

/-- An event of the Separator block, captured with the port and partition of the request (05, 21 Table 21-3). -/
def State.sepEv (s : State) (typ addr port p : Nat) : State := s.coreEv ⟨bSEP, 0, typ, lNote, addr, 1, port, p⟩

/-! ### Resources that leave a partition (R109, R122, R123) -/

/-- The retention store is empty (14 R376): PD09 is OFF, or on its way from OFF to ON. -/
def State.storeGone (s : State) : Bool :=
  match s.pow.vat with
  | .off | .wakeFromOff => true
  | _ => false

/-- RECLAIM ends once every page and tile it waits for is clear: DISABLED, with its counters and key status clear (R105,
13 R361, 14 Table 14-9). -/
def State.reclaimCheck (s : State) (p : Nat) : State :=
  let x := s.part p
  if s.ptState p = ptReclaim ∧ x.zeroing = [] ∧ x.clearing = [] then
    (((s.put F.SEP_PT_CTL_STATE ptDisabled p).stageClear p).put F.VAT_PC_KEY_STAT_REFUSE 0 0 p).perfClear p
  else s

/-- Every partition under RECLAIM is looked at. -/
def State.reclaimChecks (s : State) : State := (List.range 16).foldl (fun a p => a.reclaimCheck p) s

/-- Page `i` enters CLEARING, behind the pages that already wait. -/
def State.pageClearing (s : State) (i : Nat) : State :=
  let e := s.page i
  if e.st = .clearing then s
  else
    let s1 := s.setPage i { e with st := .clearing }
    { s1 with vmem := { s1.vmem with clears := s1.vmem.clears ++ [i] } }

/-- The pages whose entry names partition `p`. -/
def State.pagesOf (s : State) (p : Nat) : List Nat := (s.pages.keysWith fun _ e => e.valid && e.part == p).map (·.a)

/-- Tile `t` leaves partition `p`: its work ends and its zeroing begins (R109). -/
def State.tileLeaves (s : State) (p t : Nat) : State := (s.tileZero t).putBitOf F.SEP_PT_TILES_TILES t false p

/-- A tile is taken from partition `p`: the barriers that the partition cannot fill any longer end (12 R333). -/
def State.tileTaken (s : State) (p t : Nat) : State := (s.tileLeaves p t).barTrim p

/-- RECLAIM of partition `p` (R105, R109, 14 R380). -/
def State.reclaim (s : State) (p : Nat) : State :=
  let s1 := (((s.put F.SEP_PT_CTL_STATE ptReclaim p).keyErase p).put F.SEP_PT_PORTS_REQ 0 p).put F.SEP_PT_PORTS_ACTIVE 0 p
  let ts := s1.tilesOf p
  let is := s1.pagesOf p
  let s2 := (ts.foldl (fun a t => a.tileZero t) s1).put F.SEP_PT_TILES_TILES 0 p
  let s3 := is.foldl (fun a i => (a.setPage i { a.page i with valid := false }).pageClearing i) s2
  let x := s3.part p
  (((s3.setPart p { x with bars := {}, zeroing := ts, clearing := is }).putNpages p).cqDrain p).reclaimCheck p

/-! ### Writes of the partition tables (R105, R107, R109, R111) -/

/-- A write of the control word of partition `p`'s table. -/
def State.ptCtl (s : State) (p : Nat) (op rec : Bool) : State :=
  if rec && (s.ptState p == ptOpen || s.ptState p == ptSealed) then s.reclaim p
  else if op && s.ptState p == ptDisabled then
    (s.put F.SEP_PT_CTL_STATE ptOpen p).put F.SEP_PT_PORTS_ACTIVE (s.fld F.SEP_PT_PORTS_REQ p) p
  else s

/-- The tile set of partition `p` becomes `asked`, but for the bits of tiles that the part does not have (00 R5); a tile of
another partition is taken from it.  The partition's barriers are judged by the set it has then (12 R333). -/
def State.ptTiles (s : State) (p asked : Nat) : State :=
  if s.ptState p = ptReclaim then s
  else
    let new := asked % 2 ^ s.tileCount
    let old := s.fld F.SEP_PT_TILES_TILES p
    let s1 := (bitsSet old 64).foldl (fun a t => if hasBit new t then a else a.tileLeaves p t) s
    State.barTrim ((bitsSet new 64).foldl (fun a t =>
      if hasBit old t then a
      else
        let b := match a.ownerOf t with
          | some q => a.tileTaken q t
          | none => a
        b.putBitOf F.SEP_PT_TILES_TILES t true p) s1) p

/-- The requested port set of partition `p` becomes `req` (R111). -/
def State.ptPorts (s : State) (p req : Nat) : State :=
  let s1 := s.put F.SEP_PT_PORTS_REQ req p
  if s.ptState p = ptOpen then s1.put F.SEP_PT_PORTS_ACTIVE req p
  else s1.put F.SEP_PT_PORTS_ACTIVE (s.fld F.SEP_PT_PORTS_ACTIVE p &&& req) p

/-- SEP_PC_ADMIT (R111, R124): a port still asked for becomes active in SEALED. -/
def State.admitPort (s : State) (p port : Nat) : State :=
  if s.ptState p = ptSealed ∧ port < 18 ∧ s.bit F.SEP_PT_PORTS_REQ port p = true then s.putBitOf F.SEP_PT_PORTS_ACTIVE port true p
  else s

/-- SEP_STW_PROVE (R115): the proof that the holder of the lease gives for port `k`. -/
def State.proofOf (s : State) (k : Nat) : Nat :=
  leNat ((hmac s.lease.proofKey (leBytes 2 s.lease.epoch ++ [BitVec.ofNat 8 k])).take 8)

/-- A proof arrives through port `k` for a request of partition `p`. -/
def State.prove (s : State) (k p proof : Nat) : State :=
  if s.lease.held && proof == s.proofOf k then s.putBitOf F.SEP_STW_PORTS_PORTS k true
  else s.sepEv 0x03 (globBase + 0x100) k p

/-! ### The page-owner table (R107, R109, R123, 14 R374) -/

/-- An entry would be a duplicate, or lie beyond the pages the partition has (R107). -/
def State.entryBad (s : State) (i q pp : Nat) : Bool :=
  s.npages q < pp || (s.pages.keysWith fun k e => k.a != i && e.valid && e.part == q && e.ppage == pp) != []

/-- The state that a page takes as its entry becomes valid or not for partition `q`. -/
def State.entryState (s : State) (e : PageEnt) (valid : Bool) (q : Nat) : PageSt :=
  if e.st = .clearing ∨ e.valid = true ∨ (valid && (!e.clean || s.ptState q == ptReclaim)) = true then .clearing
  else if valid then .mapped else .free

/-- Entry `i` takes new values. -/
def State.entrySet (s : State) (i : Nat) (valid : Bool) (q pp : Nat) : State :=
  let e := s.page i
  let st := s.entryState e valid q
  let s1 := s.setPage i { e with valid := valid, part := q, ppage := pp, clean := e.clean && st != .mapped }
  let s2 := if st = .clearing then s1.pageClearing i else s1.setPage i { s1.page i with st := st }
  let s3 := if valid && s.ptState q == ptReclaim then s2.setPart q { s2.part q with clearing := insNat i (s2.part q).clearing } else s2
  let s4 := (s3.putNpages e.part).putNpages q
  if e.valid then s4.pageLost e.part e.ppage else s4

/-- A write of entry `i` through port `k` for partition `p` with enabled bits `en`: a valid entry written again, be it with its
own contents, is rewritten (R109).  A write with `VALID` = 0 gives no page and so names none: its `PPAGE` is not judged
(DESIGN CHOICE, log entry 80: R107 does not say whether it is). -/
def State.pageWrite (s : State) (k p i en v : Nat) : State :=
  let e := s.page i
  let w := (List.range 64).foldl (fun x b => putBit x b (if hasBit en b then hasBit v b else hasBit e.word b)) 0
  let valid := hasBit w 63
  let q := bitField w 48 4
  let pp := bitField w 0 18
  if valid && s.entryBad i q pp then s.sepEv 0x02 (globBase + 0x100000 + 8 * i) k p
  else s.entrySet i valid q pp

/-! ### Core-space registers (R646; 06 to 09, 12 to 15, 21) -/

/-- `ACK` of a fault register (21 Table 21-9). -/
def ackWritten (en v : Nat) : Bool := hasBit en 7 && hasBit v 7

/-- `SIZE` of a ring held in its range, and kept while `EN` was 1 (13 R339, R340, R346). -/
def ringSize (was : Bool) (old new : Nat) : Nat := if was then old else clampN 6 16 new

/-- A write of register `off` of ring `r` of partition `p`. -/
def State.ringWrite (s : State) (k p r off en v : Nat) : State :=
  let was := s.rEn p r
  if off = 0x00 then (if was then s else s.writeFields r p en v [F.SEP_RING_BASE_BASE])
  else if off = 0x08 then
    let s1 := s.writeFields r p en v [F.SEP_RING_CFG_SIZE, F.SEP_RING_CFG_PRIO, F.SEP_RING_CFG_PCLASS, F.SEP_RING_CFG_EN]
    (s1.put F.SEP_RING_CFG_SIZE (ringSize was (s.fld F.SEP_RING_CFG_SIZE r p) (s1.fld F.SEP_RING_CFG_SIZE r p)) r p).ringEn p r was
      (hasBit en 0)
  else if off = 0x10 then s.doorbell p r (wroteFld F.SEP_RING_DB_TILE en v) (wroteFld F.SEP_RING_DB_TAIL en v) k
  else if off = 0x18 then s.writeFields r p en v [F.SEP_RING_STAT_DB_DROP]
  else s

/-- A write of a completion-ring register of partition `p`. -/
def State.cqReg (s : State) (k p off en v : Nat) : State :=
  let was := s.flag F.SEP_CQ_CFG_EN 0 p
  if off = 0x1200 then s.writeFields 0 p en v [F.SEP_CQ_BASE_BASE]
  else if off = 0x1208 then
    let s1 := s.writeFields 0 p en v [F.SEP_CQ_CFG_SIZE, F.SEP_CQ_CFG_EN]
    (s1.put F.SEP_CQ_CFG_SIZE (ringSize was (s.fld F.SEP_CQ_CFG_SIZE 0 p) (s1.fld F.SEP_CQ_CFG_SIZE 0 p)) 0 p).cqEn p was
  else if off = 0x1218 then
    s.cqCons p ((s.writeFields 0 p en v [F.SEP_CQ_CONS_CONS]).fld F.SEP_CQ_CONS_CONS 0 p) k
  else s

/-- A write of SEP_PC_PERF_CTL (13 Table 13-12). -/
def State.perfReg (s : State) (p en v : Nat) : State :=
  let s1 := s.writeFields 0 p en v [F.SEP_PC_PERF_CTL_TPER, F.SEP_PC_PERF_CTL_TEL_EN, F.SEP_PC_PERF_CTL_FREEZE]
  let s2 := s1.put F.SEP_PC_PERF_CTL_TPER (clampN 10 65535 (s1.fld F.SEP_PC_PERF_CTL_TPER 0 p)) 0 p
  if wroteFld F.SEP_PC_PERF_CTL_CLEAR en v = 1 then s2.perfClear p else s2

/-- A write of the register at `off` of the control space of partition `p`, through port `k`. -/
def State.partWrite (s : State) (k p off en v : Nat) : State :=
  if 0x1000 ≤ off ∧ off < 0x1200 then s.ringWrite k p ((off - 0x1000) / 0x40) (off % 0x40) en v
  else if 0x1200 ≤ off ∧ off < 0x1220 then s.cqReg k p off en v
  else if off = 0x2008 then s.admitPort p (wroteFld F.SEP_PC_ADMIT_PORT en v)
  else if off = 0x2080 then (if ackWritten en v then s.fltAck bPC p else s)
  else if off = 0x20B0 then s.setBlk bPC p ((s.blk bPC p).cfgWrite false en v)
  else if off = 0x2280 then s.perfReg p en v
  else if 0x2400 ≤ off ∧ off < 0x2440 then s.keyWrite p ((off - 0x2400) / 8) k en v
  else if off = 0x2440 then (if wroteFld F.VAT_PC_KEY_CTL_COMMIT en v = 1 then s.keyCommit p k else s)
  else s

/-- A write in the view of tile `t`: only its fault registers take one (21 R561, R564). -/
def State.tileWrite (s : State) (t off en v : Nat) : State :=
  if off = 0xF80 then (if ackWritten en v then s.fltAck bTIL t else s)
  else if off = 0xFB0 then
    (if s.blkPowered bTIL t then s.setBlk bTIL t ((s.blk bTIL t).cfgWrite false en v) else s)
  else s

/-- A write of the table of partition `p` at offset `off` of it. -/
def State.tableWrite (s : State) (p off en v : Nat) : State :=
  if off = 0x00 then s.ptCtl p (wroteFld F.SEP_PT_CTL_OPEN en v == 1) (wroteFld F.SEP_PT_CTL_RECLAIM en v == 1)
  else if off = 0x08 then s.ptTiles p ((s.writeFields p 0 en v [F.SEP_PT_TILES_TILES]).fld F.SEP_PT_TILES_TILES p)
  else if off = 0x18 then s.ptPorts p ((s.writeFields p 0 en v [F.SEP_PT_PORTS_REQ]).fld F.SEP_PT_PORTS_REQ p)
  else s

/-- What a write of a global register does beyond its fields: `b` the register's base, `i` its instance, `s0` the state
before the write. -/
def State.globActs (s0 s : State) (b i en v : Nat) : State :=
  if b = 0x300000 then s0.lnkCtlActs s i (wroteFld F.LNK_CTL_RETRAIN en v == 1)
  else if b = 0x300060 then s.txeqActs i
  else if b = 0x300068 then s0.rxctlActs s i (wroteFld F.LNK_RXCTL_DFE_RESET en v == 1)
  else if b = 0x300070 then s.sscActs i
  else if b = 0x340000 then
    let s1 := s.put F.PYU_CTL_ROT_GAP (clampN 100 10000 (s.fld F.PYU_CTL_ROT_GAP i)) i
    if wroteFld F.PYU_CTL_RESET en v = 1 then s1.engineReset i 0 else s1
  else if b = 0x380008 then s.lscWinActs
  else if b = 0x3C8000 then s.put F.VAT_SCRUB_CFG_PERIOD (clampN 1 168 (s.fld F.VAT_SCRUB_CFG_PERIOD))
  else if b = 0x400010 then s.govCfgSat
  else s

/-- A write of the global register at `off`, through port `k` for partition `p`.  The mirror, and the tables while the
retention store is empty, take none (00 R16, 14 R376). -/
def State.globWrite (s : State) (k p off en v : Nat) : State :=
  match globFlt off with
  | some (c, i, j) =>
    if j = 0 then (if ackWritten en v then s.fltAck c i else s)
    else if j = 6 ∧ s.blkPowered c i = true then s.setBlk c i ((s.blk c i).cfgWrite true en v)
    else s
  | none =>
    if 0x440000 ≤ off ∧ off < 0x4C0000 then s
    else if 0x100000 ≤ off ∧ off < 0x100000 + 8 * pageCount then
      (if s.storeGone then s else s.pageWrite k p ((off - 0x100000) / 8) en v)
    else if 0x10000 ≤ off ∧ off < 0x11000 then
      (if s.storeGone then s else s.tableWrite ((off - 0x10000) / 0x100) (off % 0x100) en v)
    else if off = 0x100 then s.prove k p (wroteFld F.SEP_STW_PROVE_PROOF en v)
    else
      match findReg off globRegs with
      | some (d, i) =>
        if d.base = 0x300070 ∧ optical i = true then s else s.globActs (s.writeFields i 0 en v d.fields) d.base i en v
      | none => s

/-- A write of the register at a place. -/
def State.placeWrite (s : State) (k p : Nat) (pl : Place) (en v : Nat) : State :=
  match pl with
  | .vat _ => s
  | .part off => s.partWrite k p off en v
  | .tile t off => s.tileWrite t off en v
  | .glob off => s.globWrite k p off en v

/-- A write to a place is dropped as one to the mirror, or to the tables while the store is empty (00 R16, 14 R376). -/
def State.dropsAt (s : State) : Place → Bool
  | .glob off =>
    (0x440000 ≤ off && off < 0x4C0000) ||
    (s.storeGone && ((0x10000 ≤ off && off < 0x11000) || (0x100000 ≤ off && off < 0x100000 + 8 * pageCount)))
  | _ => false

/-! ### Q requests (R106, 06 R145 to R147) -/

/-- Bytes that a request reads or writes. -/
def QOp.len : QOp → Nat
  | .rd n => n
  | .wr _ _ d => d.length
  | .fadd _ | .cas _ _ => 8

/-- A length and an address as RD and WR must have them (Table 6-9). -/
def qSpan (a n : Nat) : Bool := 4 ≤ n && n ≤ 256 && n % 4 == 0 && a % 4 == 0 && a % 4096 + n ≤ 4096 && a < 2 ^ 48

/-- The request keeps the rules of Table 6-9. -/
def QOp.okAt (a : Nat) : QOp → Bool
  | .rd n => qSpan a n
  | .wr b1 b2 d => qSpan a d.length && b1 != 0 && b2 != 0
  | .fadd _ | .cas _ _ => a % 8 == 0 && a < 2 ^ 48

/-- A request that writes. -/
def QOp.writes : QOp → Bool
  | .rd _ => false
  | _ => true

/-- The data of a response that is not OK: zeros (R106, Table 6-9). -/
def QOp.zeros : QOp → Bytes
  | .rd n => List.replicate (min n 256) 0
  | .wr _ _ _ => []
  | .fadd _ | .cas _ _ => List.replicate 8 0

/-- Flits of a request (R145). -/
def QOp.flits : QOp → Nat
  | .rd _ => 1
  | .wr _ _ d => msgFlits d.length
  | .fadd _ | .cas _ _ => 1

/-- The bytes of a WR with whether each is enabled: `b1` masks the first word, `b2` the last; in a one-word write both do. -/
def wrBytes (b1 b2 : Nat) (d : Bytes) : List (Byte × Bool) :=
  d.zipIdx.map fun x =>
    (x.1, (4 ≤ x.2 || hasBit b1 x.2) && (x.2 + 4 < d.length || hasBit b2 (x.2 + 4 - d.length)))

/-- A WR that lies wholly in SEP_STW_PROVE: it is served whatever partition it names (R115). -/
def Req.proves (r : Req) : Bool :=
  match r.op with
  | .wr _ _ d => globBase + 0x100 ≤ r.addr && r.addr + d.length ≤ globBase + 0x108
  | _ => false

/-- The partition of a request is bound to its port, or the request is one that needs no partition: a proof, or a
write of global space by a port in `SEP_STW_PORTS` (R106, R115). -/
def State.qBound (s : State) (k : Nat) (r : Req) : Bool :=
  s.bit F.SEP_PT_PORTS_ACTIVE k r.part || r.proves ||
  (r.op.writes && globBase ≤ r.addr && r.addr < partBase && s.bit F.SEP_STW_PORTS_PORTS k)

/-- Why the address of a request is refused; 0 where it is not (R106, Table 6-10): a page of the Vat counts where it is mapped
below `NPAGES` * 2 MiB. -/
def State.qPlace (s : State) (r : Req) : Nat :=
  match placeOf r.addr with
  | .part _ | .glob _ => 0
  | .tile t _ => if t < s.tileCount ∧ s.owns r.part t = true then 0 else 2
  | .vat a =>
    if s.ptState r.part = ptSealed ∧ a / pageSize < s.npages r.part ∧ (s.pageOf r.part (a / pageSize)).isSome = true then 0
    else 2

/-- A write to global space through a port that is not in `SEP_STW_PORTS`, and no proof: a first error of the Separator block
whatever partition it names (00 R16, R115). -/
def State.strayGlobal (s : State) (k : Nat) (r : Req) : Bool :=
  match placeOf r.addr with
  | .glob _ => r.op.writes && !s.bit F.SEP_STW_PORTS_PORTS k && !r.proves
  | _ => false

/-- The reason for which a request is refused; 0 where it is accepted. -/
def State.qRefused (s : State) (k : Nat) (r : Req) : Nat :=
  if !r.op.okAt r.addr then 4 else if s.strayGlobal k r then 3 else if !s.qBound k r then 1 else s.qPlace r

/-- What serving a request comes to. -/
inductive Served where
  | done (status reason : Nat) (data : Bytes)
  | waits
  deriving DecidableEq, Repr

/-- The 64-bit registers read from address `a` on, as bytes. -/
def State.readRegs (k p : Nat) : Nat → Nat → State → Bytes × State
  | 0, _, s => ([], s)
  | n + 1, a, s =>
    let r := s.placeRead k p (placeOf a)
    let t := State.readRegs k p n (a + 8) r.2
    (leBytes 8 r.1 ++ t.1, t.2)

/-- Enabled bits and value of the register at `w` in a write of `bs` at `a`. -/
def regPart (a w : Nat) (bs : List (Byte × Bool)) : Nat × Nat :=
  (List.range 8).foldl (fun x j =>
    if a ≤ w + j then
      match bs[w + j - a]? with
      | some (b, true) => (x.1 + 255 * 256 ^ j, x.2 + b.toNat * 256 ^ j)
      | _ => x
    else x) (0, 0)

/-- The registers in which a write enables a byte, ascending: address, enabled bits, value (R646). -/
def regParts (a : Nat) (bs : List (Byte × Bool)) : List (Nat × Nat × Nat) :=
  ((List.range ((a + bs.length + 7) / 8 - a / 8)).map fun i =>
    let w := a / 8 * 8 + 8 * i
    (w, regPart a w bs)).filter fun x => x.2.1 != 0

/-- Write registers in ascending address; what is dropped is captured once. -/
def State.writeRegs (s : State) (k p a : Nat) (bs : List (Byte × Bool)) : State :=
  let ws := regParts a bs
  let s1 := if ws.any (fun x => s.dropsAt (placeOf x.1)) then s.sepEv 0x01 a k p else s
  ws.foldl (fun b x => b.placeWrite k p (placeOf x.1) x.2.1 x.2.2) s1

/-- The new value an atomic stores, where it stores one. -/
def QOp.atomic (old : Nat) : QOp → Option Nat
  | .fadd v => some ((old + v) % 2 ^ 64)
  | .cas c w => if old = c then some w else none
  | _ => none

/-- Serve a request to a register. -/
def State.serveReg (s : State) (k : Nat) (r : Req) : Served × State :=
  let w := r.addr / 8 * 8
  match r.op with
  | .rd n =>
    let x := State.readRegs k r.part ((r.addr + n + 7) / 8 - r.addr / 8) w s
    (.done 0 0 ((x.1.drop (r.addr - w)).take n), x.2)
  | .wr b1 b2 d => (.done 0 0 [], s.writeRegs k r.part r.addr (wrBytes b1 b2 d))
  | .fadd _ | .cas _ _ =>
    let x := s.placeRead k r.part (placeOf r.addr)
    (.done 0 0 (leBytes 8 x.1), match r.op.atomic x.1 with
      | some y => x.2.writeRegs k r.part r.addr ((leBytes 8 y).map fun b => (b, true))
      | none => x.2)

/-- Serve a request at physical address `a` of the Vat, under the key it was accepted with: the units it needs are read first,
and an uncorrectable one ends it ABORTED, reason 5, with nothing written (14 R381, R382, R391, R394). -/
def State.servePhys (s : State) (k : Nat) (r : Req) (a : Nat) : Served × State :=
  let us := match r.op with
    | .wr b1 b2 d => partUnits a (wrBytes b1 b2 d)
    | op => unitsOf a op.len
  let s1 := s.unitsRead us 1 k r.part
  if us.any s.unitBad then (.done 6 5 r.op.zeros, s1)
  else
    match r.op with
    | .wr b1 b2 d => (.done 0 0 [], s1.vwriteOn r.key r.addr a (wrBytes b1 b2 d))
    | op =>
      let old := s.vread r.key r.addr a op.len
      (.done 0 0 old, match op.atomic (leNat old) with
        | some y => s1.vwrite r.key r.addr a (leBytes 8 y)
        | none => s1)

/-- Serve an accepted request: it takes effect, or it waits for a wake of the Vat, a page clear or a tile's zeroing (03
R64, R109, R123); a page unmapped in the meantime ends it ABORTED, reason 6 (R122). -/
def State.serve (s : State) (k : Nat) (r : Req) : Served × State :=
  match placeOf r.addr with
  | .vat a =>
    match s.vloc r.part a with
    | .stall => (.waits, s.vatWake)
    | .range | .gone => (.done 6 6 r.op.zeros, s)
    | .phys x => s.servePhys k r x
  | .tile t _ => if (s.tile t).zeroing then (.waits, s) else s.serveReg k r
  | _ => s.serveReg k r

/-- Two requests of one partition touch a byte in common. -/
def Req.overlaps (r q : Req) : Bool := r.part == q.part && r.addr < q.addr + q.op.len && q.addr < r.addr + r.op.len

/-- Change the requests of port `k`. -/
def State.setReqs (s : State) (k : Nat) (f : List Req → List Req) : State :=
  s.setPort k { s.port k with reqs := f (s.port k).reqs }

/-- A request joins those of port `k`. -/
def State.addReq (s : State) (k : Nat) (r : Req) : State := s.setReqs k (· ++ [r])

/-- The flit buffers of a served request are free again: their credits return (06 R144). -/
def State.credit (s : State) (k n : Nat) : State := s.setPort k { s.port k with ccq := ((s.port k).ccq + n) % 256 }

/-- An earlier request of the port that waits touches the bytes of `r` (R147). -/
def State.reqHeld (s : State) (k : Nat) (r : Req) : Bool :=
  (s.port k).reqs.any fun q => q.stalled && q.seq < r.seq && q.overlaps r

/-- Serve a request behind those that wait (R147): it is accepted under the key of its partition (14 R391) and takes the next
place in the order of arrival (14 R373). -/
def State.serveAdd (s : State) (k : Nat) (r0 : Req) : State :=
  let r := { r0 with seq := s.vmem.arrived, key := (s.part r0.part).key }
  let s1 : State := { s with vmem := { s.vmem with arrived := s.vmem.arrived + 1 } }
  if s1.reqHeld k r then s1.addReq k { r with stalled := true }
  else
    let x := s1.serve k r
    match x.1 with
    | .waits => x.2.addReq k { r with stalled := true }
    | .done st why d => (x.2.addReq k { r with status := st, reason := why, data := d, held := 0 }).credit k r.held

/-- A request reaches the Separator through port `k` (R106, R115, 06 R146); `bad` tells that it breaks Table 6-9 in a way
that its parts do not show. -/
def State.qServe (s : State) (k : Nat) (r : Req) (bad : Bool := false) : State :=
  let why := if bad then 4 else s.qRefused k r
  if why = 0 then s.serveAdd k r
  else
    let s1 := if why = 3 then s.sepEv 0x01 r.addr k r.part else s.pcEv r.part 0x01 lNote r.addr 1 k
    (s1.addReq k { r with status := 3, reason := why, data := r.op.zeros, held := 0 }).credit k r.held

/-- A request arrives whole on port `k`, its flits acknowledged; their buffers are held until it is served (06 R131, R144; log
entry 35). -/
def State.qArrive (s : State) (k : Nat) (r : Req) : State :=
  if s.live k then
    let p := s.port k
    let n := r.op.flits
    (s.setPort k { p with ack := (p.ack + n) % 4096 }).qServe k { r with held := n }
  else s

/-- A request of port `k` that waits is tried again; one whose port went down leaves no response (R139). -/
def State.retryReq (s : State) (k : Nat) (r : Req) : State :=
  if s.reqHeld k r then s
  else
    let x := s.serve k r
    match x.1 with
    | .waits => x.2
    | .done st why d =>
      (x.2.setReqs k fun l =>
        if r.dead then l.filter fun q => q.seq != r.seq
        else l.map fun q =>
          if q.seq = r.seq then { r with stalled := false, status := st, reason := why, data := d, held := 0 } else q).credit k r.held

/-- An access that waits for the Vat or for a tile: a request of a port, the oldest posted completion entry of a partition, a Ladle row
of a tile. -/
inductive Waiter where
  | req (k : Nat) (r : Req)
  | posted (p : Nat)
  | row (t : Nat)
  deriving DecidableEq, Repr

/-- Put an access, by its place in the order of arrival, among others. -/
def insWait (x : Nat × Waiter) : List (Nat × Waiter) → List (Nat × Waiter)
  | [] => [x]
  | y :: t => if x.1 < y.1 then x :: y :: t else y :: insWait x t

/-- The accesses that wait, in the order in which they arrived (14 R373). -/
def State.waiting (s : State) : List (Nat × Waiter) :=
  let rs := (List.range 18).flatMap fun k => ((s.port k).reqs.filter (·.stalled)).map fun r => (r.seq, Waiter.req k r)
  let ws := (List.range 16).flatMap fun p => (s.part p).posted.map fun w => (w.seq, Waiter.posted p)
  let ls := (List.range 64).flatMap fun t => ((s.tile t).ents.filter fun e => e.issued && e.seq != 0).map fun e => (e.seq - 1, Waiter.row t)
  (rs ++ ws ++ ls).foldl (fun l x => insWait x l) []

/-- One of them is tried again; while PD09 goes to RETAIN one that arrived before that is served (R387). -/
def State.retryOne (s : State) (x : Nat × Waiter) : State :=
  let s1 : State := { s with vmem := { s.vmem with drains := x.1 < s.vmem.shutAt } }
  let s2 := match x.2 with
    | .req k r => s1.retryReq k r
    | .posted p => State.cqFlush p 1 s1
    | .row t => s1.ladleAgain t x.1
  { s2 with vmem := { s2.vmem with drains := false } }

/-- Everything that waits for the Vat or for a tile is tried again, in the order of arrival (14 R373, R387). -/
def State.retryAll (s : State) : State := s.waiting.foldl State.retryOne s

/-- A response leaves: the first completed request of port `k` with tag `tag` and operation as `kind` has it (06 R146). -/
def State.respond (s : State) (k tag op : Nat) (kind : QOp → Bool) : State :=
  let p := s.port k
  let hit (r : Req) : Bool := r.tag == tag && kind r.op && !r.stalled && !r.dead
  match p.reqs.find? hit with
  | none => s
  | some r =>
    let m : Msg := { op := op, part := r.part, tag := tag, lenb := r.data.length, status := r.status, aux := r.reason, data := r.data }
    s.setPort k { p with reqs := dropFirst hit p.reqs, sq := p.sq ++ [m] }

def QOp.isRd : QOp → Bool
  | .rd _ => true
  | _ => false
def QOp.isWr : QOp → Bool
  | .wr _ _ _ => true
  | _ => false
def QOp.isAtom : QOp → Bool
  | .fadd _ | .cas _ _ => true
  | _ => false

/-- The WR of one register of core space (R646): `be` enables its bytes, and a half without an enabled byte is left out. -/
def coreReq (w : CoreWr) (a : Nat) : Req :=
  let lo := w.be.toNat % 16
  let hi := w.be.toNat / 16
  let d := leBytes 8 w.data.toNat
  let mk (x : Nat) (op : QOp) : Req := { part := w.part, tag := w.tag.toNat, addr := x, op := op }
  if hi = 0 then mk a (.wr lo lo (d.take 4))
  else if lo = 0 then mk (a + 4) (.wr hi hi (d.drop 4))
  else mk a (.wr lo hi d)

/-- A register write of a row: it arrives as a WR, and the power sequencer follows what it asks for. -/
def State.coreWr (s : State) (w : CoreWr) (a : Nat) : State := (s.qArrive w.port (coreReq w a)).powerSettle

/-- A Q request of a row. -/
def State.qRow (s : State) (q : QHdr) (op : QOp) : State :=
  (s.qArrive q.port { part := q.part, tag := q.tag.toNat, addr := q.addr.toNat, op := op }).powerSettle

/-! ### Clears and zeroings that end (R109, R123, 14 R374, R392) -/

/-- An uncorrectable unit that a clear overwrites: the event is recorded still (14 R392). -/
def State.clearUe (s : State) (u : Nat) : State :=
  s.ueReport u 0 0 255

/-- The entry of a page whose clear is done: mapped where it is given to a partition that is not under RECLAIM. -/
def State.entryCleared (s : State) (e : PageEnt) : PageEnt :=
  let v := e.valid && s.ptState e.part != ptReclaim
  { e with valid := v, st := if v then .mapped else .free, clean := !v }

/-- Page `i` is no longer waited for. -/
def State.pageDone (s : State) (i : Nat) : State :=
  (List.range 16).foldl (fun a p => a.setPart p { a.part p with clearing := (a.part p).clearing.filter fun x => x != i }) s

/-- A clear runs: PD09 is ON, or this one was in progress as it left ON for RETAIN (14 R387). -/
def State.clearing (s : State) : Bool := s.pow.vat == .on || (s.pow.vat == .toRetain && s.vmem.clearLast)

/-- The units of page `i` that a clear finds uncorrectable, each once. -/
def State.badUnits (s : State) (i : Nat) : List Nat :=
  (((s.vmem.mdata.keysWith fun k m => inPage i k.a && hasBit m 1) ++
    s.vmem.errs.keysWith fun k e => inPage i k.a && 4 ≤ e.bytes).map (·.a)).foldr insNat []

/-- PAGE_CLEAR_DONE of the page whose turn it is. -/
def State.clearDone (s : State) (i : Nat) : State :=
  match s.vmem.clears with
  | j :: rest =>
    if j = i ∧ s.clearing = true then
      let s1 := ((s.badUnits i).foldl State.clearUe s).vclear i
      let s2 : State := { s1 with vmem := { s1.vmem with clears := rest, clearLast := false } }
      let e := s2.page i
      (((s2.setPage i (s2.entryCleared e)).putNpages e.part).pageDone i).reclaimChecks.retryAll
    else s
  | [] => s

/-- TILE_ZEROING_DONE. -/
def State.zeroDone (s : State) (t : Nat) : State :=
  if (s.tile t).zeroing then
    let s1 := s.setTile t { s.tile t with zeroing := false }
    let s2 := (List.range 16).foldl (fun a p => a.setPart p { a.part p with zeroing := (a.part p).zeroing.filter fun x => x != t }) s1
    s2.reclaimChecks.retryAll
  else s

/-! ### Acknowledgements in core space (21 R561) and mirrored reads (22 R592) -/

/-- Where the FLT_STAT of a block stands in core space; a supervisor block's is only mirrored. -/
def fltAddr (c i : Nat) : Nat :=
  if c = bSEP then globBase + 0x80
  else if c = bGOV then globBase + 0x400080
  else if c = bVAT then globBase + 0x3C0F80 + 0x1000 * i
  else if c = bPYU then globBase + 0x340F80 + 0x1000 * i
  else if c = bLSC then globBase + 0x380080
  else if c = bLNK then globBase + 0x300080 + 0x100 * i
  else if c = bPC then partBase + 0x2080
  else if c = bTIL then partBase + 0x10000 + 0x1000 * i + 0xF80
  else globBase + 0x440000 + 8 * ([0, 0x1F0, 0x3F0, 0x7F0, 0x9F0, 0xBF0, 0xDF0, 0xFF0, 0x10F0, 0x1170, 0x11F0, 0x13F0, 0x14F0].getD c 0)

/-- RS_LOW_READ through a port bound to some partition. -/
def State.rsPort (s : State) (k idx : Nat) : State :=
  if s.live k && (List.range 16).any fun p => s.bit F.SEP_PT_PORTS_ACTIVE k p then (s.supRead (16 + k) idx).2 else s

end Sys2Proof.Machine
end

