-- ==== Sys2Proof/Machine/SupWr.lean ====
section
/-! DEFINITION. Writes of supervisor registers by REG_WRITE (00 R7 to R9, R644; 23 R611, R616): the fields a write takes,
and what the write of each register starts. -/
namespace Sys2Proof.Machine

/-- The fields of register `idx` take a written word; an index that names no register takes nothing (R644). -/
def State.supFields (s : State) (idx v : Nat) : State :=
  match findReg idx supRegs with
  | some (d, i) => s.writeFields i 0 (2 ^ 32 - 1) v d.fields
  | none => s

/-- A write of the fault registers of a supervisor block at offset `o` of their range (21 R561, R575, Tables 21-9, 21-15):
`ACK` in the low word of FLT_STAT, and FLT_CFG in halves. -/
def State.supFltWrite (s : State) (c o v : Nat) : State :=
  if o = 0 then (if hasBit v 7 then s.fltAck c 0 else s)
  else if o = 12 then s.setBlk c 0 ((s.blk c 0).cfgWrite true (2 ^ 32 - 1) v)
  else if o = 13 then s.setBlk c 0 ((s.blk c 0).cfgWrite true ((2 ^ 32 - 1) * 2 ^ 32) (v * 2 ^ 32))
  else s

/-- General counter `n` stages its high bits, or loads with the bits written (22 R593). -/
def State.gcStage (s : State) (n v : Nat) : State :=
  { s with tim := { s.tim with gcHi := s.tim.gcHi.set 0 ⟨n, 0, 0⟩ (v % 65536) } }
def State.gcLoad (s : State) (n v : Nat) : State :=
  { s with tim := { s.tim with gc := s.tim.gc.set 0 ⟨n, 0, 0⟩ (s.tim.gcHi.get 0 ⟨n, 0, 0⟩ * 2 ^ 32 + v % 2 ^ 32) } }

/-- Both bits of `VAT_REQ` set act as ON (03 Table 3-11). -/
def State.vatReqSat (s : State) : State := if s.vatReq = 3 then s.put F.AON_PD_REQ_VAT_REQ 2 else s

/-- What the write of register `idx` with word `v` starts, once its fields are written; `was` is the state before.  The
second part is the reason of R60 where a power request was refused. -/
def State.supActs (was s : State) (idx v : Nat) : State × Option Nat :=
  if idx = 0x101 then State.pdReqActs was s.vatReqSat
  else if idx = 0x102 then (s.gateSettle, none)
  else if idx = 0x150 then (s.stoReqActs (bitField v 2 2), none)
  else if 0x200 ≤ idx ∧ idx < 0x208 then (s.freqActs (idx - 0x200), none)
  else if 0x320 ≤ idx ∧ idx < 0x330 ∧ idx % 4 = 2 then (s.gcLoad ((idx - 0x320) / 4) v, none)
  else if 0x320 ≤ idx ∧ idx < 0x330 ∧ idx % 4 = 3 then (s.gcStage ((idx - 0x320) / 4) v, none)
  else if idx = 0x800 then (State.hrdCtlActs was s (hasBit v 1), none)
  else if 0xA00 ≤ idx ∧ idx < 0xA06 then (State.pkmCfgActs was s (idx - 0xA00), none)
  else if idx = 0xA18 then (s.put F.PKM_ISO_CFG_DWELL (clampN 100 10000 (s.fld F.PKM_ISO_CFG_DWELL)), none)
  else if idx = 0xC17 then
    let s1 := if hasBit v 1 then s.sohReset else s
    (if hasBit v 0 then s1.socReinit else s1, none)
  else if idx = 0xE01 then (s.ctrCfgSat, none)
  else if 0x1010 ≤ idx ∧ idx < 0x1020 then (s.lswCfgSat (idx - 0x1010), none)
  else if 0x1100 ≤ idx ∧ idx < 0x1104 then (s.loopCfgSat (idx - 0x1100), none)
  else if 0x1180 ≤ idx ∧ idx < 0x1184 then (s.tchCfgSat (idx - 0x1180), none)
  else (s, none)

/-- `MGT_PLCA` as a write leaves it: `TO_TMR` 0 is taken as 1 (Table 23-9). -/
def plcaWord (v : Nat) : Nat := if v % 256 = 0 then v + 1 else v

/-- Write supervisor register `idx`, which the writer may write; `MGT_PLCA` waits for the tick after the reply (23 R602), and
the key registers hold nothing (R619). -/
def State.supWrite (s : State) (idx v : Nat) : State × Option Nat :=
  match supFlt idx with
  | some (c, o) => (s.supFltWrite c o v, none)
  | none =>
    if idx = 0x1401 then ({ s with mgt := { s.mgt with plcaNext := some (plcaWord v) } }, none)
    else State.supActs s (s.supFields idx v) idx v

/-- The PLCA status field follows the parameters and the node (Table 23-9, R602, R603). -/
def State.plcaSettle (s : State) : State :=
  s.put F.MGT_STAT_PLCA (if s.flag F.MGT_PLCA_PLCA_EN then (if s.mgt.plcaOk then 2 else 1) else 0)

/-- A waiting write of `MGT_PLCA` takes effect (R602). -/
def State.plcaApply (s : State) : State :=
  match s.mgt.plcaNext with
  | none => s
  | some v => State.plcaSettle (State.supFields { s with mgt := { s.mgt with plcaNext := none } } 0x1401 v)

/-- PLCA_STATUS_CHANGE: the status the node reports (R603). -/
def State.plcaStatus (s : State) (ok : Bool) : State := State.plcaSettle { s with mgt := { s.mgt with plcaOk := ok } }

/-- PLCA_FAIL: the status has read FAIL for more than 100 ms (R603). -/
def State.plcaFail (s : State) : State :=
  if s.fld F.MGT_STAT_PLCA = 1 then s.event (supEvent bMGT 0x03 lDegrade) else s

end Sys2Proof.Machine
end

