-- ==== Sys2Proof/Machine/Orders.lean ====
section
/-! DEFINITION. Mailbox orders (23 Table 23-4, R613 to R616): the parse of a body, the feature a type needs, the resources
of 05 Table 5-3 that an order names, who may give it, and its effect once it has won (05 R117, R119, R647). -/
namespace Sys2Proof.Machine

/-! ### Types (Table 23-4) -/

/-- Type code of an order. -/
def orderTyp : Order → Nat
  | .hello _ => 0x01
  | .caps => 0x02
  | .regRead _ _ => 0x03
  | .regWrite _ _ => 0x04
  | .timeRead => 0x05
  | .recordRead _ _ => 0x06
  | .safetyCfgRead => 0x07
  | .claim _ => 0x10
  | .renew => 0x11
  | .release => 0x12
  | .wake _ => 0x18
  | .sleepHint _ _ _ => 0x19
  | .contactorCmd _ _ _ => 0x20
  | .lswCmd _ _ _ _ _ => 0x21
  | .loopSet _ _ => 0x22
  | .powerShare _ _ => 0x23
  | .limitsetLoad _ => 0x28
  | .modelLoad _ => 0x29
  | .safetyCfgLoad _ => 0x2A
  | .faultAck _ _ => 0x30
  | .bad t => t
  | .unknown t => t

/-- Every type is order-class but these (R609). -/
def readTyp (t : Nat) : Bool := t == 2 || t == 3 || t == 5 || t == 6 || t == 7

/-- The feature bit of a type; HELLO and CAPS are exempt (R614). -/
def featBit (t : Nat) : Option Nat :=
  if t = 1 ∨ t = 2 then none
  else if t = 0x19 ∨ t = 0x23 then some 2
  else if t = 0x21 ∨ t = 0x22 then some 3
  else if t = 0x20 ∨ t = 0x28 ∨ t = 0x29 then some 4
  else if t = 0x07 ∨ t = 0x2A then some 5
  else if t = 0x06 then some 6
  else some 0

/-- The orders of the lease (05 R113). -/
def leaseTyp (t : Nat) : Bool := t == 0x10 || t == 0x11 || t == 0x12

/-- Messages that only the Steward may send ("St" in Table 23-4; 21 R561 for FAULT_ACK). -/
def stewardTyp (t : Nat) : Bool := t == 0x19 || t == 0x23 || t == 0x28 || t == 0x29 || t == 0x2A || t == 0x30

/-- The module's feature set (Table 23-5). -/
def moduleFeat : Nat := 0xFF

/-! ### Bodies (Table 23-4, R616); `m` is the minor the frame is parsed under (R613) -/

/-- REG_READ, REG_WRITE and RECORD_READ with their ranges. -/
def mkRegRead (idx n : Nat) : Order := if 1 ≤ n ∧ n ≤ 64 ∧ idx + n ≤ 0xFFFF then .regRead idx n else .bad 3
def mkRegWrite (idx : Nat) (vs : List W32) : Order :=
  if 1 ≤ vs.length ∧ vs.length ≤ 16 ∧ idx + vs.length ≤ 0x10000 then .regWrite idx vs else .bad 4
def mkRecordRead (start n : Nat) : Order := if 1 ≤ n ∧ n ≤ 20 then .recordRead start n else .bad 6

/-- The force flags come with minor 1, the configuration fields of LSW_CMD with minor 2 (R613). -/
def mkClaim (m : Nat) (force : Bool) : Order := .claim (force && 1 ≤ m)
def mkContactor (m c act : Nat) (force : Bool) : Order :=
  if c ≤ 3 ∧ act ≤ 1 then .contactorCmd c (act == 1) (force && 1 ≤ m) else .bad 0x20
def mkLsw (m n act : Nat) (cfg : Bool) (ilim blank : Nat) : Order :=
  if n ≤ 15 ∧ act ≤ 1 then
    (if cfg && 2 ≤ m then .lswCmd n (act == 1) true ilim blank else .lswCmd n (act == 1) false 0 0)
  else .bad 0x21
def mkLoop (n ua : Nat) : Order := if n ≤ 3 then .loopSet n ua else .bad 0x22
def mkSleep (mask vat : Nat) (core : Bool) : Order := if vat ≤ 2 then .sleepHint mask vat core else .bad 0x19
def mkShare (p r : Nat) : Order := if p ≤ 420 then .powerShare (10 * p) r else .bad 0x23

/-- The words of a REG_WRITE body. -/
def bodyWords (b : Bytes) : Nat → List W32
  | 0 => []
  | n + 1 => bodyWords b n ++ [BitVec.ofNat 32 (leAt b (4 + 4 * n) 4)]

/-- Types 0x01 to 0x07. -/
def parseRead (t : Nat) (b : Bytes) : Order :=
  let n := b.length
  if t = 1 then (if n = 16 then .hello (leAt b 0 16) else .bad t)
  else if t = 2 then (if n = 0 then .caps else .bad t)
  else if t = 3 then (if n = 4 ∧ leAt b 3 1 = 0 then mkRegRead (leAt b 0 2) (leAt b 2 1) else .bad t)
  else if t = 4 then (if 4 ≤ n ∧ n = 4 + 4 * leAt b 2 1 ∧ leAt b 3 1 = 0 then mkRegWrite (leAt b 0 2) (bodyWords b (leAt b 2 1)) else .bad t)
  else if t = 5 then (if n = 0 then .timeRead else .bad t)
  else if t = 6 then (if n = 5 then mkRecordRead (leAt b 0 4) (leAt b 4 1) else .bad t)
  else (if n = 0 then .safetyCfgRead else .bad t)

/-- Types 0x10 to 0x30.  A frame under a minor that lacks the last fields of a body may leave them out. -/
def parseOrd (t m : Nat) (b : Bytes) : Order :=
  let n := b.length
  if t = 0x10 then (if n = 1 ∨ (n = 0 ∧ m = 0) then mkClaim m (hasBit (leAt b 0 1) 0) else .bad t)
  else if t = 0x11 then (if n = 0 then .renew else .bad t)
  else if t = 0x12 then (if n = 0 then .release else .bad t)
  else if t = 0x18 then (if n = 4 then .wake (leAt b 0 4) else .bad t)
  else if t = 0x19 then (if n = 6 then mkSleep (leAt b 0 4) (leAt b 4 1) (hasBit (leAt b 5 1) 0) else .bad t)
  else if t = 0x20 then (if n = 3 ∨ (n = 2 ∧ m = 0) then mkContactor m (leAt b 0 1) (leAt b 1 1) (hasBit (leAt b 2 1) 0) else .bad t)
  else if t = 0x21 then
    (if n = 7 ∨ (2 ≤ n ∧ n ≤ 7 ∧ m < 2) then mkLsw m (leAt b 0 1) (leAt b 1 1) (hasBit (leAt b 2 1) 0) (leAt b 4 2) (leAt b 6 1)
     else .bad t)
  else if t = 0x22 then (if n = 8 then mkLoop (leAt b 0 1) (leAt b 4 4) else .bad t)
  else if t = 0x23 then (if n = 4 then mkShare (leAt b 0 2) (leAt b 2 2) else .bad t)
  else if t = 0x28 then .limitsetLoad b
  else if t = 0x29 then .modelLoad b
  else if t = 0x2A then .safetyCfgLoad b
  else if t = 0x30 then (if n = 2 then .faultAck (leAt b 0 1) (leAt b 1 1) else .bad t)
  else .unknown t

/-- The order of a frame. -/
def parseOrder (t m : Nat) (b : Bytes) : Order := if 1 ≤ t ∧ t ≤ 7 then parseRead t b else parseOrd t m b

/-- The order carries a force flag that is set. -/
def orderForce : Order → Bool
  | .claim f => f
  | .contactorCmd _ _ f => f
  | _ => false

/-! ### Answers (Tables 23-2, 23-3) -/

/-- An answer: status and reason, the winner's host number and the resource lost, 255 where there is none, and what the
type's reply body carries besides. -/
structure Ans where
  status : Nat := 0
  reason : Nat := 0
  winner : Nat := 255
  res : Nat := 255
  body : Bytes := []
  deriving DecidableEq, Repr

/-- What is answered before any decision (R96, R614, R616, R622): none where the order is to be decided. -/
def State.preAns (s : State) (h : Nat) (o : Order) : Option Ans :=
  let t := orderTyp o
  let lacks := match featBit t with
    | some b => !hasBit (s.host h).feat b
    | none => false
  match o with
  | .unknown _ => some { status := 3, reason := 7 }
  | _ =>
    if lacks then some { status := 3, reason := 6 }
    else
      match o with
      | .bad _ => some { status := 3, reason := 7 }
      | _ =>
        if orderForce o && !hasBit (s.host h).feat 7 then some { status := 3, reason := 6 }
        else if s.holdup && !readTyp t then some { status := 2 }
        else none

/-! ### REG_WRITE (R616, R619) -/

/-- Does a write of `n` registers from `idx` on touch the key registers? -/
def keyTouch (idx n : Nat) : Bool := idx ≤ 0x1448 && 0x1440 < idx + n

/-- A write of the key registers: load (true) or erase (false) with its slot; none where it has no shape of R619. -/
def keyForm (idx : Nat) (vs : List W32) : Option (Bool × Nat) :=
  let ctl := (vs.getLastD 0).toNat
  if idx = 0x1440 ∧ vs.length = 9 ∧ ctl % 4 = 1 then some (true, bitField ctl 16 4)
  else if idx = 0x1448 ∧ vs.length = 1 ∧ ctl % 4 = 2 then some (false, bitField ctl 16 4)
  else none

/-- Refusal of a REG_WRITE as a whole; none where it goes on. -/
def State.regWriteAns (s : State) (h : Nat) (st : Bool) (idx : Nat) (vs : List W32) : Option Ans :=
  let svc := s.flag F.AON_FRONT_STAT_SVC_KEY
  if keyTouch idx vs.length then
    match keyForm idx vs with
    | none => some { status := 3, reason := 7 }
    | some (true, slot) =>
      if slot ≠ h then some { status := 3, reason := 5 }
      else if (s.keyOf slot).isEmpty && !svc then some { status := 3, reason := 8 } else none
    | some (false, _) => if !st then some { status := 3, reason := 4 } else if !svc then some { status := 3, reason := 8 } else none
  else if !st then some { status := 3, reason := 4 }
  else if 0x1500 < idx + vs.length then some { status := 3, reason := 7 }
  else none

/-! ### Who may give an order, and when (05 R117, 04 R96) -/

/-- The order needs a stage that is not reached (04 Table 4-3).  While the supervisor junction limit holds the outputs off,
their orders are refused by rule 1 of R119 instead (R121). -/
def State.stageBusy (s : State) : Order → Bool
  | .lswCmd _ on _ _ _ => on && !s.flag F.AON_PIN_PHASE_FIELD_EN && !s.supHeld
  | .loopSet _ _ => !s.flag F.AON_PIN_PHASE_FIELD_EN && !s.supHeld
  | .recordRead _ _ => !s.flag F.AON_SVC_STAT_REC_READY
  | .contactorCmd _ close _ => close && !s.flag F.AON_SVC_STAT_CHAIN_READY
  | .modelLoad _ => !s.flag F.AON_SVC_STAT_CHAIN_READY
  | .limitsetLoad _ => !s.flag F.AON_SVC_STAT_CHAIN_READY
  | _ => false

/-- Host `h` has the right that the order needs (R117). -/
def State.hasRight (s : State) (h : Nat) : Order → Bool
  | .lswCmd n _ _ _ _ => s.bit F.MGT_RIGHTS_LSW n h
  | .loopSet n _ => s.bit F.MGT_RIGHTS_LOOP n h
  | .contactorCmd c _ _ => s.bit F.MGT_RIGHTS_CT c h
  | _ => true

/-- The order itself is refused or put off; `st` that its host is the Steward.  A host without the right is refused whatever
stage is reached (R117); no rule orders NOT_STEWARD, FEATURE and MALFORMED against BUSY, and all stand before it here (DESIGN
CHOICE, log entry 37): a MODEL_LOAD or LIMITSET_LOAD of a host that is not Steward is answered NOT_STEWARD before CHAIN_READY
too.  Nor does any order BUSY against the refusals of R119 rule 1, 01 R24 and 02 R50: a switch-on, loop or close before its stage
is answered BUSY also where a demand holds, a hard limit stands or a connector is missing (DESIGN CHOICE, log entry 37). -/
def State.admitAns (s : State) (h : Nat) (st : Bool) (o : Order) : Option Ans :=
  if stewardTyp (orderTyp o) && !st then some { status := 3, reason := 4 }
  else if !st && !s.hasRight h o then some { status := 3, reason := 5 }
  else if s.stageBusy o then some { status := 2 }
  else
    match o with
    | .regWrite idx vs => s.regWriteAns h st idx vs
    | .faultAck c i => if s.blockExists c i then none else some { status := 3, reason := 7 }
    | _ => none

/-! ### Resources (05 Table 5-3) -/

/-- One resource that an order names: code, primary quantity (the less energetic the lower), other parameters. -/
structure Ask where
  res : Nat
  rank : Nat
  par : List Nat
  deriving DecidableEq, Repr

/-- The domains that WAKE and SLEEP_HINT masks name (R616). -/
def wakeMask : Nat := 0x7FBF00

/-- The names a host other than the Steward may use in a WAKE (03 Table 3-5): PD08, the Vat, the engines of the ports bound
to its partitions, and the groups that hold its tiles.  Which partitions are a host's, the specification does not say:
that is free (log entry 36). -/
def State.tenantMask (s : State) (h : Nat) : Nat :=
  let own (p : Nat) : Bool := hasBit (Config.hostParts h) p
  maskOf 23 fun n =>
    n == 8 || n == 9 ||
    (10 ≤ n && n < 14 && (List.range 16).any fun p => own p && (portsOf (n - 10)).any fun k => s.bit F.SEP_PT_PORTS_ACTIVE k p) ||
    (15 ≤ n && (s.groupTiles (n - 15)).any fun t => match s.ownerOf t with
      | some p => own p
      | none => false)

/-- The domains that a WAKE names after R69. -/
def State.wakeNames (s : State) (h : Nat) (st : Bool) (mask : Nat) : Nat :=
  let m := mask &&& wakeMask
  if st then m else m &&& s.tenantMask h

/-- Requests of PD08 to PD22 without PD14, as asks; `rank` by domain, none where it is not named. -/
def pdAsks (rank : Nat → Option Nat) : List Ask :=
  ([8, 9, 10, 11, 12, 13, 15, 16, 17, 18, 19, 20, 21, 22]).filterMap fun n => (rank n).map fun r => ⟨0x40 + n, r, []⟩

/-- Asks of one register of a REG_WRITE. -/
def regAsks (idx v : Nat) : List Ask :=
  if idx = 0x101 then
    pdAsks fun n => some (if n = 8 then bitField v 7 1 else if n = 9 then min 2 (bitField v 8 2) else bitField v n 1)
  else if 0x200 ≤ idx ∧ idx < 0x208 then [⟨0x60 + (idx - 0x200), v % 256, []⟩]
  else []

/-- The register words of a REG_WRITE with their indices. -/
def regWords : Nat → List W32 → List (Nat × Nat)
  | _, [] => []
  | idx, v :: t => (idx, v.toNat) :: regWords (idx + 1) t

/-- The resources an order names.  A SLEEP_HINT of the whole core names PD09 only with its Vat byte, as R647 resolves resources by what
is asked of each (DESIGN CHOICE, log entry 80). -/
def State.asks (s : State) (h : Nat) (st : Bool) : Order → List Ask
  | .lswCmd n on cfg ilim blank => [⟨n, b2n on, if cfg then [1, ilim, blank] else [0]⟩]
  | .loopSet n ua => [⟨0x10 + n, ua, []⟩]
  | .contactorCmd c close force => [⟨0x20 + c, b2n close, [b2n force]⟩]
  | .powerShare p r => [⟨0x30, p, [r]⟩]
  | .wake mask =>
    let m := s.wakeNames h st mask
    pdAsks fun n => if hasBit m n then some (if n = 9 then 2 else 1) else none
  | .sleepHint mask vat core =>
    pdAsks fun n =>
      if n = 9 then (if vat = 1 then some 1 else if vat = 2 then some 0 else none)
      else if core || hasBit mask n then some 0 else none
  | .regWrite idx vs => if keyTouch idx vs.length then [] else (regWords idx vs).flatMap fun x => regAsks x.1 x.2
  | _ => []

/-- The request bit or state of domain `n` as it stands. -/
def State.pdNow (s : State) (n : Nat) : Nat :=
  if n = 8 then s.fld F.AON_PD_REQ_SEP_REQ else if n = 9 then s.vatReq else if n < 14 then b2n (s.engReq (n - 10)) else b2n (s.tgReq (n - 15))

/-- A demand or a hard limit that has acted on domain `n` in this decision tick turns a request away, and why (01 R24, R121). -/
def State.hadRefused (s : State) (n : Nat) : Bool :=
  s.funcHeld 5 || (10 ≤ n && n < 14 && s.funcHeld 3) || hasBit s.pow.tripped n
def State.hadReason (s : State) (n : Nat) : Nat :=
  let eng := 10 ≤ n && n < 14
  if s.funcHeld 5 || (eng && (s.funcHeld 3 || !s.lscThere)) then 1 else 2

/-- Rule 1 of R119 for one ask: the reason it is refused for, none where it is not (R24, R60, R121, 03 Table 3-9, 19 R518, 18 R482).  A
REG_WRITE that leaves a request as it stands asks for nothing. -/
def State.ruleOne (s : State) (o : Order) (a : Ask) : Option Nat :=
  let isWrite := match o with
    | .regWrite _ _ => true
    | _ => false
  if a.res < 0x10 then
    (if a.rank = 1 then (if s.lswHeld a.res then some 1 else if s.supHeld then some 2 else none) else none)
  else if a.res < 0x14 then (if s.supHeld then some 2 else none)
  else if 0x20 ≤ a.res ∧ a.res < 0x24 then
    (if a.rank = 1 then s.closeForbidden (a.res - 0x20) else none)
  else if 0x48 ≤ a.res ∧ a.res ≤ 0x56 then
    let n := a.res - 0x40
    let eng := 10 ≤ n && n < 14
    let want := (if n = 9 then a.rank == 2 else a.rank == 1) && !(isWrite && a.rank ≤ s.pdNow n)
    if want && (s.coreRefused || (eng && s.engRefused) || s.hadRefused n) then some (s.hadReason n) else none
  else none

/-! ### Effects -/

/-- A WAKE sets the requests of the domains it won (03 Table 3-5). -/
def State.wakeSet (s : State) (m : Nat) : State :=
  let s1 := if hasBit m 8 then s.putFlag F.AON_PD_REQ_SEP_REQ true else s
  let s2 := if hasBit m 9 then s1.put F.AON_PD_REQ_VAT_REQ 2 else s1
  (s2.put F.AON_PD_REQ_ENG_REQ (s2.fld F.AON_PD_REQ_ENG_REQ ||| bitField m 10 4)).put F.AON_PD_REQ_TG_REQ
    (s2.fld F.AON_PD_REQ_TG_REQ ||| bitField m 15 8)

/-- A SLEEP_HINT clears the requests it won and sets the Vat's state (03 R71). -/
def State.sleepSet (s : State) (m vat : Nat) : State :=
  let s1 := if hasBit m 8 then s.putFlag F.AON_PD_REQ_SEP_REQ false else s
  let s2 := if hasBit m 9 then s1.put F.AON_PD_REQ_VAT_REQ (if vat = 1 then 1 else 0) else s1
  (s2.put F.AON_PD_REQ_ENG_REQ (maskOf 4 fun e => s2.engReq e && !hasBit m (10 + e))).put F.AON_PD_REQ_TG_REQ
    (maskOf 8 fun g => s2.tgReq g && !hasBit m (15 + g))

/-- The word of `AON_PD_REQ` with the requests that were not won left as they stand. -/
def State.pdWord (s : State) (v : Nat) (won : Nat → Bool) : Nat :=
  let keep (n : Nat) : Bool := !won (0x40 + n)
  (if keep 8 then s.pdNow 8 else bitField v 7 1) * 2 ^ 7 + (if keep 9 then s.vatReq else bitField v 8 2) * 2 ^ 8 +
    ([10, 11, 12, 13, 15, 16, 17, 18, 19, 20, 21, 22].map fun n => (if keep n then s.pdNow n else bitField v n 1) * 2 ^ n).foldl (· + ·) 0

/-- One register of a REG_WRITE, with the resources it won. -/
def State.regOne (s : State) (won : Nat → Bool) (idx v : Nat) : State × Option Nat :=
  if idx = 0x101 then s.supWrite idx (s.pdWord v won)
  else if 0x200 ≤ idx ∧ idx < 0x208 then (if won (0x60 + (idx - 0x200)) then s.supWrite idx v else (s, none))
  else s.supWrite idx v

/-- The registers of a REG_WRITE, in ascending index. -/
def State.regAll (won : Nat → Bool) : List (Nat × Nat) → State × Option Nat → State × Option Nat
  | [], x => x
  | (i, v) :: t, x =>
    let y := x.1.regOne won i v
    State.regAll won t (y.1, x.2 <|> y.2)

/-- A key slot changes after this tick (R619). -/
def State.keyChange (s : State) (slot : Nat) (k : Bytes) : State :=
  { s with mgt := { s.mgt with keyNext := s.mgt.keyNext ++ [(slot, k)] } }

/-- The key that the words of a load spell. -/
def keyBytes (vs : List W32) : Bytes := (vs.take 8).flatMap fun v => leBytes 4 v.toNat

/-- A REG_WRITE. -/
def State.regWriteDo (s : State) (won : Nat → Bool) (idx : Nat) (vs : List W32) : State × Ans :=
  if keyTouch idx vs.length then
    match keyForm idx vs with
    | some (true, slot) => (s.keyChange slot (keyBytes vs), {})
    | some (false, slot) => (s.keyChange slot [], {})
    | none => (s, {})
  else
    let r := State.regAll won (regWords idx vs) (s, none)
    match r.2 with
    | none => (r.1, {})
    | some n => (r.1, { status := 3, reason := n })

/-- POWER_SHARE_SET (15 R395, R397, 04 R91). -/
def State.shareSet (s : State) (p r : Nat) : State :=
  State.withSvc { s with gov := { s.gov with share := p, reserve := r, shared := true } } fun a => a.assistSettle

/-- A LSW_CMD (19 R502, R503, R516, R520). -/
def State.lswDo (s : State) (n : Nat) (on : Bool) (cfg : Option (Nat × Nat)) : State × Ans :=
  if on then
    let r := s.lswRefusal n
    match r.1 with
    | some (st, why) => (r.2, { status := st, reason := why })
    | none => (r.2.lswOrder n true cfg, {})
  else (s.lswOrder n false cfg, {})

/-- A CONTACTOR_CMD; a tenant's force flag is ignored (18 R482, R488, R490). -/
def State.contactorDo (s : State) (st : Bool) (c : Nat) (close force : Bool) : State × Ans :=
  if close then
    match s.closeRefusal c with
    | some (x, why) => (s, { status := x, reason := why })
    | none => ((s.closeOrder c).gateSettle, {})
  else (s.openOrder c (force && st), {})

/-- The answer to a load (17 R452, 20 R543): LOAD_n. -/
def loadAns (r : State × Option Nat) : State × Ans :=
  match r.2 with
  | none => (r.1, {})
  | some n => (r.1, { status := 3, reason := 0x10 + n })

/-- The domains an order won, mask. -/
def wonMask (won : Nat → Bool) : Nat := maskOf 23 fun n => won (0x40 + n)

/-- Carry out an order for the resources it won. -/
def State.orderDo (s : State) (h : Nat) (st : Bool) (won : Nat → Bool) : Order → State × Ans
  | .regWrite idx vs => s.regWriteDo won idx vs
  | .wake mask =>
    let m := s.wakeNames h st mask &&& wonMask won
    (s.wakeSet m, { body := leBytes 4 m })
  | .sleepHint _ vat core =>
    if core then (s.coreSleep (if won 0x49 then vat else 0), {}) else (s.sleepSet (wonMask won) vat, {})
  | .contactorCmd c close force => s.contactorDo st c close force
  | .lswCmd n on cfg ilim blank => s.lswDo n on (if cfg then some (ilim, blank) else none)
  | .loopSet n ua =>
    if s.flag F.AON_CONN_STAT_FLD_PRES then (s.loopSet n ua, {}) else (s, { status := 2 })
  | .powerShare p r => (s.shareSet p r, {})
  | .limitsetLoad b => loadAns (s.limitLoad b)
  | .modelLoad b => loadAns (s.modelLoad b)
  | .safetyCfgLoad b => loadAns (s.safetyLoad b)
  | .faultAck c i =>
    match s.faultAck c i with
    | some t => (t, {})
    | none => (s, { status := 3, reason := ackReason c })
  | _ => (s, {})

/-! ### Read-class messages -/

/-- Insert a record into a list by its distance from the oldest. -/
def recInsert (old : Nat) (b : Bytes) : List Bytes → List Bytes
  | [] => [b]
  | x :: t => if (2 ^ 32 - old + slotSeq x) % 2 ^ 32 < (2 ^ 32 - old + slotSeq b) % 2 ^ 32 then x :: recInsert old b t else b :: x :: t

/-- RECORD_READ (22 R591). -/
def State.recordBody (s : State) (start n : Nat) : Bytes :=
  let old := s.fld F.REC_OLDEST_OLDEST
  let head := s.fld F.REC_HEAD_HEAD
  let dist (x : Nat) : Nat := (2 ^ 32 - old + x) % 2 ^ 32
  let from_ := if seqAfter old start then old else start
  let l := s.rcd.valid.filter fun b => dist from_ ≤ dist (slotSeq b) && dist (slotSeq b) ≤ dist head
  let rs := (l.foldr (fun b acc => recInsert old b acc) []).take n
  leBytes 4 old ++ leBytes 4 head ++ [BitVec.ofNat 8 rs.length, 0, 0, 0, 0, 0, 0, 0] ++ rs.flatMap id

/-- TIME_READ (R592). -/
def State.timeBody (s : State) : Bytes :=
  leBytes 5 s.tim.optime ++ leBytes 3 s.tim.pcyc ++ [BitVec.ofNat 8 (b2n s.pow.slow + 2 * b2n (s.tim.pcyc == 0xFFFFF))]

/-- Carry out a read-class message; a read of the recorder has PD03 on, until RECORDER_IDLE_OFF (03 R57, log entry 72). -/
def State.readDo (s : State) (h : Nat) : Order → State × Bytes
  | .caps => (s, s.capsBytes)
  | .regRead idx n =>
    let r := State.supReads h n idx s
    (r.2, leBytes 2 idx ++ [BitVec.ofNat 8 n, 0] ++ r.1)
  | .timeRead => (s, s.timeBody)
  | .recordRead start n => (s.pd3On, s.recordBody start n)
  | .safetyCfgRead => (s, s.safetyImage ++ (match s.rnd.pend with
      | some b => b
      | none => List.replicate 128 0xFF))
  | _ => (s, [])

end Sys2Proof.Machine
end

