-- ==== Sys2Proof/Machine/Mailbox.lean ====
section
/-! DEFINITION. The Steward lease (05 R113 to R116), the decision of the orders of a tick (05 R118 to R121, R647; 23 R611,
R612) and the reception of frames (23 R604 to R610, R619 to R625). -/
namespace Sys2Proof.Machine

/-! ### The lease -/

/-- A STEWARD record and a notification of class 4 (22 Table 22-2, 23 Table 23-7). -/
def State.leaseReport (s : State) (ev holder : Nat) : State :=
  let e := leBytes 2 s.lease.epoch
  (s.offer bMGT 0 0x0A ([BitVec.ofNat 8 ev, BitVec.ofNat 8 holder] ++ e)).notify 4 bMGT 0 ev 0 s.nextRseq (BitVec.ofNat 8 holder :: e)

/-- The lease ends: no port may write global space (R115). -/
def State.leaseCut (s : State) : State :=
  State.put { s with lease := { s.lease with held := false, holder := 0, forced := false, proofKey := [] } } F.SEP_STW_PORTS_PORTS 0

/-- The lease ends by expiry (3) or release (4). -/
def State.leaseEnd (s : State) (ev : Nat) : State :=
  let h := s.lease.holder
  let s1 := s.leaseCut
  State.leaseReport { s1 with lease := { s1.lease with lost := ev == 3 } } ev h

/-- The lease is granted to host `h` (R113 to R115). -/
def State.leaseGrant (s : State) (h : Nat) (forced : Bool) : State :=
  let s1 := s.leaseCut
  let ep := if s.lease.epoch = 0xFFFF then 1 else s.lease.epoch + 1
  State.leaseReport { s1 with lease := { s1.lease with
      held := true
      holder := h
      forced := forced
      epoch := ep
      since := s.tim.optime
      proofKey := s.keyOf h } } (if forced then 2 else 1) h

/-- A claim or renewal of the holder is accepted (R113). -/
def State.leaseKeep (s : State) : State := { s with lease := { s.lease with since := s.tim.optime } }

/-- Host `h` holds the lease. -/
def State.isSteward (s : State) (h : Nat) : Bool := s.lease.held && s.lease.holder == h

/-- The lease has run out (R113). -/
def State.leaseOver (s : State) : Bool := s.lease.held && decide (s.lease.since + 3000 ≤ s.tim.optime)

/-- The defaults of `MGT_STW_DEF`, where a lease was lost and no host holds one after the claims of the
tick (R116). -/
def State.leaseDefaults (s : State) : State :=
  if s.lease.lost then
    let s1 : State := { s with lease := { s.lease with lost := false } }
    if s1.lease.held then s1
    else
      let s2 : State := { s1 with gov := { s1.gov with share := 10 * min 420 (s1.fld F.MGT_STW_DEF_SHARE) } }
      let s3 := if s2.flag F.MGT_STW_DEF_CT_POL then (s2.isolateWait 8).waitTick else s2
      let s4 := if s3.flag F.MGT_STW_DEF_LSW_POL then s3.lswOff 0xFFFF else s3
      if s4.flag F.MGT_STW_DEF_LOOP_POL then s4.loopsFallback else s4
  else s

/-- LEASE_EXPIRY: 3,000 ms have passed since the last accepted claim or renewal. -/
def State.leaseExpire (s : State) : State := if s.lease.held then (s.leaseEnd 3).leaseDefaults else s

/-! ### The decision of a tick (R120) -/

/-- A frame with its place in reception order. -/
structure Item where
  ix : Nat
  f : Frame
  deriving DecidableEq, Repr

/-- The state and the answers found so far. -/
abbrev Work := State × List (Nat × Ans)

/-- Frames numbered in reception order. -/
def items : Nat → List Frame → List Item
  | _, [] => []
  | n, f :: t => ⟨n, f⟩ :: items (n + 1) t

/-- The answer to item `ix`, where there is one. -/
def ansOf (l : List (Nat × Ans)) (ix : Nat) : Option Ans := (l.find? fun x => x.1 == ix).map (·.2)

/-- Answer an item. -/
def Work.say (w : Work) (s : State) (i : Item) (a : Ans) : Work := (s, w.2 ++ [(i.ix, a)])

/-- Step 0: retries, and what is answered before any decision; a WAKE that is put off still latches its source (03 R69). -/
def decidePre (w : Work) (i : Item) : Work :=
  match i.f.stored with
  | some _ => w
  | none =>
    let s := match i.f.order with
      | .wake _ => w.1.wakeSrc 0
      | _ => w.1
    match s.preAns i.f.host i.f.order with
    | some a => w.say (if a.status = 3 then w.1 else s) i a
    | none => (s, w.2)

/-- The items still to be decided. -/
def live (w : Work) (l : List Item) : List Item := l.filter fun i => i.f.stored.isNone && (ansOf w.2 i.ix).isNone

/-- Step 1: STEWARD_RELEASE. -/
def decideRelease (w : Work) (i : Item) : Work :=
  match i.f.order with
  | .release => if w.1.isSteward i.f.host then w.say (w.1.leaseEnd 4) i {} else w.say w.1 i { status := 3, reason := 4 }
  | _ => w

/-- A claim that may be granted: eligible, and forced only with `SVC_KEY` (R113, R114). -/
def State.claimOk (s : State) (h : Nat) (force : Bool) : Bool :=
  s.bit F.MGT_STW_ELIG_ELIG h && (!force || s.flag F.AON_FRONT_STAT_SVC_KEY)

/-- The item keeps the lease at the tick of its expiry: a renewal, or a permitted claim, of the holder (R113, R120). -/
def State.keepsLease (s : State) (i : Item) : Bool :=
  s.isSteward i.f.host && match i.f.order with
    | .renew => true
    | .claim f => s.claimOk i.f.host f
    | _ => false

/-- Step 2: expiry. -/
def decideExpiry (w : Work) (l : List Item) : Work :=
  if w.1.leaseOver && !l.any w.1.keepsLease then (w.1.leaseEnd 3, w.2) else w

/-- The item is a claim that may be granted, forced or not. -/
def State.isClaim (s : State) (force : Bool) (i : Item) : Bool :=
  match i.f.order with
  | .claim f => f == force && s.claimOk i.f.host f
  | _ => false

/-- Step 3: the claim that is granted: the first forced one, or, where no lease is held, the first unforced one. -/
def State.granted (s : State) (l : List Item) : Option (Item × Bool) :=
  match l.find? (s.isClaim true) with
  | some i => some (i, true)
  | none => if s.lease.held then none else (l.find? (s.isClaim false)).map fun i => (i, false)

/-- Step 3: the answer to one claim, after the grant `g` if there was one. -/
def decideClaim (g : Option (Item × Bool)) (w : Work) (i : Item) : Work :=
  match i.f.order with
  | .claim f =>
    if !w.1.claimOk i.f.host f then w.say w.1 i { status := 3, reason := 8 }
    else if g.any (fun x => x.1.ix == i.ix) then w.say w.1 i {}
    else if w.1.isSteward i.f.host then w.say w.1.leaseKeep i {}
    else if g.isSome then w.say (w.1.count F.MGT_ARB_LAST_COUNT) i { status := 1, winner := w.1.lease.holder }
    else w.say w.1 i { status := 2 }
  | _ => w

/-- Step 3. -/
def decideClaims (w : Work) (l : List Item) : Work :=
  let g := w.1.granted l
  let s := match g with
    | some (i, f) => w.1.leaseGrant i.f.host f
    | none => w.1
  l.foldl (decideClaim g) (s, w.2)

/-- Step 4: renewals. -/
def decideRenew (w : Work) (i : Item) : Work :=
  match i.f.order with
  | .renew => if w.1.isSteward i.f.host then w.say w.1.leaseKeep i {} else w.say w.1 i { status := 3, reason := 4 }
  | _ => w

/-! ### Step 5: contests (R119, R647) -/

/-- An order under decision: its item, whether its host is the Steward, what it names, and what rule 1 refused it. -/
structure Cand where
  i : Item
  st : Bool
  asks : List Ask
  no : List (Nat × Nat)
  deriving DecidableEq, Repr

/-- An admitted order as a candidate. -/
def State.cand (s : State) (i : Item) : Cand :=
  let st := s.isSteward i.f.host
  let l := s.asks i.f.host st i.f.order
  ⟨i, st, l, l.filterMap fun a => (s.ruleOne i.f.order a).map fun r => (a.res, r)⟩

/-- What a candidate asks of a resource in the contest for it: nothing where rule 1 refused it. -/
def Cand.askOf (c : Cand) (res : Nat) : Option Ask :=
  if c.no.any (fun x => x.1 == res) then none else c.asks.find? fun a => a.res == res

/-- The candidates for a resource with what they ask, in reception order. -/
def rivals (l : List Cand) (res : Nat) : List (Cand × Ask) := l.filterMap fun c => (c.askOf res).map fun a => (c, a)

/-- Rules 2 to 4: `x` wins over `y`, where `x` was received first. -/
def beats (x y : Cand × Ask) : Bool :=
  if x.2.rank ≠ y.2.rank then x.2.rank < y.2.rank else x.1.st || !y.1.st

/-- The winner of a contest. -/
def winner : List (Cand × Ask) → Option (Cand × Ask)
  | [] => none
  | x :: t =>
    match winner t with
    | none => some x
    | some y => if beats x y then some x else some y

/-- What a candidate lost for a resource: the winner's host, where it asked otherwise (R118). -/
def Cand.lostTo (c : Cand) (l : List Cand) (res : Nat) : Option Nat :=
  match c.askOf res, winner (rivals l res) with
  | some a, some (w, b) => if a = b then none else some w.i.f.host
  | _, _ => none

/-- The resources of Table 5-3, ascending. -/
def resources : List Nat :=
  List.range 16 ++ [0x10, 0x11, 0x12, 0x13, 0x20, 0x21, 0x22, 0x23, 0x30] ++
  [0x48, 0x49, 0x4A, 0x4B, 0x4C, 0x4D, 0x4F, 0x50, 0x51, 0x52, 0x53, 0x54, 0x55, 0x56] ++
  [0x60, 0x61, 0x62, 0x63, 0x64, 0x65, 0x66, 0x67]

/-- Resources that a candidate lost, ascending, with the winners' hosts. -/
def Cand.losses (c : Cand) (l : List Cand) : List (Nat × Nat) :=
  resources.filterMap fun r => (c.lostTo l r).map fun h => (r, h)

/-- `MGT_ARB_LAST` after the contests of a tick (R119, Table 5-11).  A contest counts where some loser of it is answered SUPERSEDED, and
`LOSER` is then its last loser in reception order, be it one whose order is answered REFUSED for another of its resources: R119
does not say which losers count (DESIGN CHOICE, log entry 80). -/
def State.arbLast (s : State) (l : List Cand) : State :=
  resources.foldl (fun a r =>
    let ls := l.filter fun c => (c.lostTo l r).isSome
    match winner (rivals l r), ls.getLast? with
    | some w, some c =>
      if ls.any (fun x => x.no.isEmpty) then
        ((a.put F.MGT_ARB_LAST_RES r).put F.MGT_ARB_LAST_WINNER w.1.i.f.host).put F.MGT_ARB_LAST_LOSER c.i.f.host
      else a
    | _, _ => a) s

/-- The lowest of a list of numbers, 255 where it is empty. -/
def lowest (l : List Nat) : Nat := l.foldl min 255

/-- The answer of an order with several resources or one (R647): `a` is what carrying it out answered. -/
def Cand.answer (c : Cand) (losses : List (Nat × Nat)) (a : Ans) : Ans :=
  let w := (losses.head?.map (·.2)).getD 255
  let r := lowest (losses.map (·.1) ++ c.no.map (·.1))
  if c.no ≠ [] then { a with status := 3, reason := if c.no.any (fun x => x.2 == 1) then 1 else 2, winner := w, res := r }
  else if losses ≠ [] then { a with status := 1, reason := 0, winner := w, res := r }
  else a

/-- Refused power requests show in `AON_WAKE_SRC` (03 R60). -/
def State.refusalBits (s : State) (c : Cand) : State :=
  let pd := c.no.filter fun x => 0x48 ≤ x.1 && x.1 ≤ 0x56
  if pd.isEmpty then s
  else
    let s1 := s.refusedBits (pd.any fun x => 0x4A ≤ x.1 && x.1 ≤ 0x4D)
    if pd.any (fun x => x.2 == 1) then s1.putFlag F.AON_WAKE_SRC_REFUSED_RIND true else s1

/-- The order opens a contactor: of a tick it acts last (18 R494). -/
def opensLast : Order → Bool
  | .contactorCmd _ close _ => !close
  | _ => false

/-- The order opens, or closes, a contactor of the string. -/
def stringOrder (opens : Bool) : Order → Bool
  | .contactorCmd c close _ => decide (c < 3) && close != opens
  | _ => false

/-- The candidate won every resource it names. -/
def Cand.wins (c : Cand) (l : List Cand) : Bool := c.no.isEmpty && (c.losses l).isEmpty

/-- An open of the string is accepted in this tick: a close beside it is answered and starts no sequence (18 R494). -/
def opensString (l : List Cand) : Bool := l.any fun c => stringOrder true c.i.f.order && c.wins l

/-- Decide one candidate: carry it out for what it won, and answer it. -/
def decideCand (l : List Cand) (w : Work) (c : Cand) : Work :=
  let losses := c.losses l
  let won (r : Nat) : Bool := (c.askOf r).isSome && !losses.any fun x => x.1 == r
  let go := c.asks.isEmpty || c.asks.any (fun a => won a.res) || (orderTyp c.i.f.order == 4)
  let s := w.1.refusalBits c
  let o := c.i.f.order
  let r := if !go then (s, {})
    else if stringOrder false o && opensString l then (s, (s.orderDo c.i.f.host c.st won o).2)
    else s.orderDo c.i.f.host c.st won o
  let a := c.answer losses r.2
  w.say (if a.status = 1 then r.1.count F.MGT_ARB_LAST_COUNT else r.1) c.i a

/-- Orders judged in reception order: the state as those before leave it for the ones behind them, the candidates and the answers so
far. -/
structure Judging where
  st : State
  cands : List Cand := []
  ans : List (Nat × Ans) := []

/-- What an order does for those behind it before any contest of the tick is decided: all of it where it names no resource of
Table 5-3, and the other registers of a REG_WRITE (R611). -/
def State.foresee (s : State) (c : Cand) : State :=
  if c.asks.isEmpty || orderTyp c.i.f.order == 4 then (s.orderDo c.i.f.host c.st (fun _ => false) c.i.f.order).1 else s

/-- Admission to step 5: answered at once, or a candidate. -/
def decideAdmit (j : Judging) (i : Item) : Judging :=
  match j.st.admitAns i.f.host (j.st.isSteward i.f.host) i.f.order with
  | some a => { j with ans := j.ans ++ [(i.ix, a)] }
  | none =>
    let c := j.st.cand i
    { j with st := j.st.foresee c, cands := j.cands ++ [c] }

/-- Step 5 for orders: admission in reception order, so that each finds the registers as the frames before it wrote them (R611), contests,
effects; opens of contactors last. -/
def decideOrders (w : Work) (l : List Item) : Work :=
  let os := l.filter fun i => !leaseTyp (orderTyp i.f.order) && !readTyp (orderTyp i.f.order)
  let j := os.foldl decideAdmit ({ st := w.1 } : Judging)
  let cs := j.cands
  let w2 : Work := (w.1.arbLast cs, w.2 ++ j.ans)
  let w3 := (cs.filter fun c => !opensLast c.i.f.order).foldl (decideCand cs) w2
  (cs.filter fun c => opensLast c.i.f.order).foldl (decideCand cs) w3

/-- Step 5 for read-class messages, after every write (23 R611). -/
def decideRead (w : Work) (i : Item) : Work :=
  match w.1.admitAns i.f.host (w.1.isSteward i.f.host) i.f.order with
  | some a => w.say w.1 i a
  | none =>
    let r := w.1.readDo i.f.host i.f.order
    w.say r.1 i { body := r.2 }

/-! ### Replies (23 R605, R607, R616) -/

/-- Body of a reply (R616): the winner in byte 0 of an order-class reply, and what its type adds. -/
def State.replyBody (s : State) (f : Frame) (a : Ans) : Bytes :=
  let t := orderTyp f.order
  let w := [BitVec.ofNat 8 a.winner]
  if readTyp t then a.body
  else if t = 1 then
    (match f.order, a.status with
      | .hello feat, 0 => leBytes 16 (feat &&& moduleFeat) ++ [BitVec.ofNat 8 (min 3 f.minor)]
      | _, _ => leBytes 16 (s.host f.host).feat ++ [BitVec.ofNat 8 (s.minorOf f.host)])
  else if leaseTyp t then
    w ++ [BitVec.ofNat 8 s.lease.holder] ++ leBytes 2 s.lease.epoch ++ (if t = 0x10 then [] else leBytes 2 s.leaseRemain)
  else if t = 0x18 then w ++ [BitVec.ofNat 8 a.res, 0, 0] ++ padTo 4 a.body
  else if t = 0x19 ∨ t = 4 then w ++ [BitVec.ofNat 8 a.res, 0, 0]
  else w

/-- The reply to a frame. -/
def State.mkReply (s : State) (f : Frame) (a : Ans) : Reply :=
  ⟨f.host, f.seq, orderTyp f.order, f.auth, a.status, a.reason, s.replyBody f a, f.addr, min f.minor (s.minorOf f.host),
    if f.auth then s.keyOf f.host else []⟩

/-- Queue a reply; one of a tick while CK08 has failed is lost (R623). -/
def State.pushReply (s : State) (r : Reply) : State :=
  if s.nodeUp then { s with mgt := { s.mgt with txq := s.mgt.txq ++ [r] } } else s

/-- An order-class reply is stored with its SEQ (R609). -/
def State.storeReply (s : State) (r : Reply) : State :=
  if readTyp r.typ then s
  else
    let x := s.host r.host
    s.setHost r.host { x with held := x.held.map fun e => if e.1 = r.seq then (e.1, some r) else e }

/-- Queue the reply to a decided item; a stored one is authenticated as the frame is that it answers now (R607, R609). -/
def sendReply (l : List (Nat × Ans)) (s : State) (i : Item) : State :=
  match i.f.stored with
  | some r => s.pushReply { r with
      addr := i.f.addr
      auth := i.f.auth
      key := if i.f.auth then s.keyOf i.f.host else [] }
  | none =>
    match ansOf l i.ix with
    | none => s
    | some a =>
      let r := s.mkReply i.f a
      (s.storeReply r).pushReply r

/-- A HELLO that was accepted applies after its tick (R611, R614, R624). -/
def helloApply (l : List (Nat × Ans)) (s : State) (i : Item) : State :=
  match i.f.order, ansOf l i.ix with
  | .hello feat, some a =>
    if a.status = 0 then
      let h := i.f.host
      let x := s.host h
      let s1 := s.setHost h { x with feat := feat &&& moduleFeat, addr := i.f.addr, evCount := 0 }
      (s1.putBitOf F.MGT_HELLO_DONE h true).put (negFields.getD (h % 8) F.MGT_NEG_MINOR0) (min 3 i.f.minor) (h / 8)
    else s
  | _, _ => s

/-- Key changes of the tick take effect (R619). -/
def State.keysApply (s : State) : State :=
  let s1 := s.mgt.keyNext.foldl (fun a x =>
    State.putBitOf { a with mgt := { a.mgt with keys := a.mgt.keys.set [] ⟨x.1, 0, 0⟩ x.2 } } F.MGT_KEY_STAT_LOADED x.1 (!x.2.isEmpty)) s
  { s1 with mgt := { s1.mgt with keyNext := [] } }

/-- Steps 1 to 5 of R120 on the items of a tick. -/
def decideSteps (s : State) (l : List Item) : Work :=
  let w0 := l.foldl decidePre (s, [])
  let l1 := live w0 l
  let w1 := l1.foldl decideRelease w0
  let w2 := decideExpiry w1 l1
  let w3 := decideClaims w2 l1
  let w4 := l1.foldl decideRenew (w3.1.leaseDefaults, w3.2)
  let w5 := decideOrders w4 l1
  (l1.filter fun i => readTyp (orderTyp i.f.order)).foldl decideRead w5

/-- Decide the frames of a tick and queue their replies in reception order. -/
def State.decide (s : State) (fs : List Frame) : State :=
  let l := items 0 fs
  let w := decideSteps s l
  let s1 := l.foldl (sendReply w.2) w.1
  let s2 := l.foldl (helloApply w.2) s1
  ((s2.keysApply).powerSettle).gateSettle

/-! ### SEQ (R609, R610, R620) -/

/-- Where a frame stands by its SEQ. -/
inductive Judged where
  | new
  | retryOrder (r : Reply)
  | retryRead
  | undecided
  | replay
  deriving DecidableEq, Repr

/-- Judge a SEQ of host `h`. -/
def State.judge (s : State) (h seq : Nat) : Judged :=
  let x := s.host h
  let d := (2 ^ 32 - x.last + seq) % 2 ^ 32
  if 1 ≤ d ∧ d < 2 ^ 31 then .new
  else if s.mgt.rxq.any (fun f => f.host == h && f.seq == seq) then .undecided
  else
    match x.held.find? fun e => e.1 == seq with
    | some (_, some r) => .retryOrder r
    | some (_, none) => .retryRead
    | none => .replay

/-- A frame of host `h` finds room (R610). -/
def State.mailRoom (s : State) (h : Nat) : Bool :=
  s.mgt.rxq.length < 64 && (s.mgt.rxq.filter fun f => f.host == h).length < 16 && s.mgt.rxq.length + s.mgt.txq.length < 64

/-- A MGT_ event that names a host (21 Table 21-3). -/
def State.mgtEv (s : State) (typ h : Nat) : State := s.event ⟨bMGT, 0, typ, lNote, supIndex bMGT typ, 2, h, 255⟩

/-- A frame is dropped for want of room (R610). -/
def State.queueDrop (s : State) (h : Nat) : State := (s.count F.MGT_CNT_QUEUE_DROP).mgtEv 0x02 h

/-- A new frame: its SEQ is held (R609). -/
def State.seqTake (s : State) (h seq : Nat) : State :=
  let x := s.host h
  s.setHost h { x with last := seq, held := ((seq, none) :: x.held).take 8 }

/-- What comes of a frame, by where it stands (R609, R610, R620). -/
def State.acceptAs (s : State) (f : Frame) : Judged → State × Option Frame
  | .new => if s.mailRoom f.host then ((s.seqTake f.host f.seq).count F.MGT_CNT2_RX, some f) else (s.queueDrop f.host, none)
  | .retryOrder r =>
    let s1 := s.count F.MGT_CNT_RETRY
    if s1.mailRoom f.host then (s1.count F.MGT_CNT2_RX, some { f with stored := some r }) else (s1.queueDrop f.host, none)
  | .retryRead =>
    let s1 := s.count F.MGT_CNT_RETRY
    if s1.mailRoom f.host then (s1.count F.MGT_CNT2_RX, some f) else (s1.queueDrop f.host, none)
  | .undecided => (s.count F.MGT_CNT_RETRY, none)
  | .replay => (s.count F.MGT_CNT_REPLAY, none)

/-- Judge a frame and make it ready for decision: none where it is discarded or dropped. -/
def State.accept (s : State) (f : Frame) : State × Option Frame := s.acceptAs f (s.judge f.host f.seq)

/-! ### Frames received whole (R604 to R608, R613) -/

/-- The parts of a payload of at least 16 bytes (Table 23-1). -/
structure RawFrame where
  ver : Nat
  typ : Nat
  auth : Bool
  host : Nat
  seq : Nat
  sess : Nat
  len : Nat
  deriving DecidableEq, Repr

/-- Read the header. -/
def rawFrame (b : Bytes) : RawFrame :=
  ⟨leAt b 0 1, leAt b 1 1, hasBit (leAt b 2 1) 0, leAt b 3 1 % 16, leAt b 4 4, leAt b 8 4, leAt b 12 2⟩

/-- The payload is malformed (R605). -/
def RawFrame.malformed (r : RawFrame) (n : Nat) : Bool := 1468 < r.len || n < 16 + r.len + (if r.auth then 16 else 0)

/-- The frame authenticates (R606, R608). -/
def State.authentic (s : State) (r : RawFrame) (b : Bytes) : Bool :=
  let k := s.keyOf r.host
  !k.isEmpty && r.sess == s.fld F.MGT_SESS_SESS && (hmac k (b.take (16 + r.len))).take 16 == (b.drop (16 + r.len)).take 16

/-- A key load that R619 permits with `AUTH` = 0: into the empty slot of the host it names. -/
def State.bareLoad (s : State) (r : RawFrame) (o : Order) : Bool :=
  match o with
  | .regWrite idx vs => keyForm idx vs == some (true, r.host) && (s.keyOf r.host).isEmpty
  | _ => false

/-- A slot of the transmit queue is free for a reply (R610): waiting frames hold theirs. -/
def State.replySlot (s : State) : Bool := s.mgt.rxq.length + s.mgt.txq.length < 64

/-- The reply of a frame that is not carried out, which waits for no tick (R612), where there is a slot for it; `mark` notes it with the
host.  Its body is that of its type (R616). -/
def State.fastReply (s : State) (r : Reply) (mark : HostSt → HostSt := fun x => x) : State :=
  if s.replySlot then ((s.setHost r.host (mark (s.host r.host))).count F.MGT_CNT2_RX).pushReply r else s.queueDrop r.host

/-- The reply with `AUTH` = 0 to a frame of major 1 that is not carried out (R605, R607, R608). -/
def State.plainReply (s : State) (r : RawFrame) (src status reason : Nat) : Reply :=
  s.mkReply { host := r.host, seq := r.seq, minor := r.ver % 16, auth := false, addr := src, order := .unknown r.typ }
    { status := status, reason := reason }

/-- A frame that does not authenticate (R608). -/
def State.authFail (s : State) (r : RawFrame) (src : Nat) : State :=
  let s1 := (s.count F.MGT_CNT_AUTH_FAIL).mgtEv 0x01 r.host
  if (s1.host r.host).authReplied then s1 else s1.fastReply (s1.plainReply r src 5 0) fun x => { x with authReplied := true }

/-- A malformed frame (R605). -/
def State.malFrame (s : State) (r : RawFrame) (src : Nat) : State :=
  if (s.host r.host).malReplied then s else s.fastReply (s.plainReply r src 3 7) fun x => { x with malReplied := true }

/-- A CAPS or TIME_READ is answered at reception (R612). -/
def State.readNow (s : State) (f : Frame) : State :=
  let a : Ans := match s.preAns f.host f.order with
    | some a => a
    | none => { body := (s.readDo f.host f.order).2 }
  s.pushReply (s.mkReply f a)

/-- A CAPS or TIME_READ with `AUTH` = 0 (R608). -/
def State.bareRead (s : State) (f : Frame) : State :=
  if s.mailRoom f.host then (s.count F.MGT_CNT2_RX).readNow f else s.queueDrop f.host

/-- A frame goes into the receive queue, or is answered at once. -/
def State.enqueue (s : State) (f : Frame) : State :=
  let t := orderTyp f.order
  if t = 2 ∨ t = 5 then s.readNow f else { s with mgt := { s.mgt with rxq := s.mgt.rxq ++ [f] } }

/-- A well-formed frame of major 1. -/
def State.goodFrame (s : State) (r : RawFrame) (b : Bytes) (src : Nat) : State :=
  let m := min (r.ver % 16) (s.minorOf r.host)
  let o := parseOrder r.typ m ((b.drop 16).take r.len)
  let f : Frame := { host := r.host, seq := r.seq, minor := r.ver % 16, auth := r.auth, addr := src, order := o }
  if r.auth then
    if s.authentic r b then
      let x := s.accept f
      match x.2 with
      | some g => x.1.enqueue g
      | none => x.1
    else s.authFail r src
  else if r.typ = 2 ∨ r.typ = 5 then s.bareRead f
  else if s.bareLoad r o then
    let x := s.accept f
    match x.2 with
    | some g => x.1.enqueue g
    | none => x.1
  else s.authFail r src

/-- FRAME_RECEIVE: a frame from source address `src` with payload `b` that the node accepts; every other is discarded uncounted
(R604). -/
def State.frameIn (s : State) (dst src etherType : Nat) (b : Bytes) (fcs : Nat) : State :=
  if !s.nodeUp || !s.macAccepts dst src etherType b fcs || b.length < 16 then s
  else
    let r := rawFrame b
    if r.ver / 16 ≠ 1 then s.fastReply ⟨r.host, r.seq, r.typ, false, 4, 0, [2, 0, 3], src, 3, []⟩
    else if r.malformed b.length then s.malFrame r src
    else s.goodFrame r b src

/-! ### Message rows: one authentic frame, decided alone in its tick (log entry 37) -/

/-- The minor that a frame of host `h` is parsed under (R613). -/
def State.minorFor (s : State) (h : Sys2Proof.Hdr) : Nat := min h.minor.val (s.minorOf h.host.val)

/-- The header of the frame that a message row stands for, with the module's session value. -/
def State.rowFrame (s : State) (h : Sys2Proof.Hdr) (auth : Bool) (o : Order) : RawFrame :=
  ⟨16 + h.minor.val, orderTyp o, auth, h.host.val, h.seq.toNat, s.fld F.MGT_SESS_SESS, 0⟩

/-- Judge the frame of a row and decide it: earlier replies have been sent.  The row vouches for the tag of a frame with `AUTH` = 1, so
its slot must hold a key (R608, R619); with `AUTH` = 0 only a read and a bare key load are carried out. -/
def State.mailAt (s : State) (h : Sys2Proof.Hdr) (auth : Bool) (addr : Nat) (o : Order) : State :=
  if s.nodeUp then
    let s0 := s.repliesLeave
    let n := h.host.val
    let r := s0.rowFrame h auth o
    let f : Frame := { host := n, seq := h.seq.toNat, minor := h.minor.val, auth := auth, addr := addr, order := o }
    if if auth then !(s0.keyOf n).isEmpty else s0.bareLoad r o then
      let x := s0.accept f
      match x.2 with
      | some g => x.1.decide [g]
      | none => x.1
    else if !auth && (r.typ == 2 || r.typ == 5) then s0.bareRead f
    else s0.authFail r addr
  else s

/-- The words of a key load into `slot` (23 R619): the key, then the command. -/
def loadWords (key : Bytes) (slot : Nat) : List Sys2Proof.W32 :=
  ((List.range 8).map fun i => BitVec.ofNat 32 (leAt key (4 * i) 4)) ++ [BitVec.ofNat 32 (slot * 2 ^ 16 + 1)]

/-- MGT_KEY_COMMIT (23 R619): the load comes under the host's key, or without one into the host's own empty slot. -/
def State.keyLoad (s : State) (h : Sys2Proof.Hdr) (auth : Bool) (vals : List Sys2Proof.W32) : State :=
  s.mailAt h auth (s.host h.host.val).addr (mkRegWrite 0x1440 vals)

/-- A message of a host, from the address its last HELLO came from. -/
def State.mail (s : State) (h : Sys2Proof.Hdr) (o : Order) : State := s.mailAt h true (s.host h.host.val).addr o

/-- A CAPS or TIME_READ of a host: with `AUTH` = 1 where its slot holds a key, and without where it holds none (R608). -/
def State.mailRead (s : State) (h : Sys2Proof.Hdr) (o : Order) : State :=
  s.mailAt h (!(s.keyOf h.host.val).isEmpty) (s.host h.host.val).addr o

end Sys2Proof.Machine
end

