-- ==== Sys2Proof/Machine/Tick.lean ====
section
/-! DEFINITION. The decision tick (05 R118): OPTIME, the ticks of the Herd's parts, the orders of the tick, and the delivery of
the assist to the governor (15 R396 to R398). -/
namespace Sys2Proof.Machine

/-- OPTIME counts one millisecond (22 R587); the counters that follow it count (Table 22-5). -/
def State.clockTick (s : State) : State :=
  let t := min (2 ^ 40 - 1) (s.tim.optime + 1)
  let s1 := State.gcSrc { s with tim := { s.tim with optime := t } } 1
  if t % 1000 = 0 then
    let s2 := if s1.coil 0 && s1.coil 1 && s1.aux 0 && s1.aux 1 then s1.gcSrc 4 else s1
    if s2.govRuns && s2.gov.live && s2.gov.assist != 0 then s2.gcSrc 5 else s2
  else s1

/-- What the mailbox sent since the last tick has left, and its answers to bad frames may be given again (23 R605, R608). -/
def State.mailTick (s : State) : State :=
  let s1 := s.mailLeaves
  (List.range 16).foldl (fun a h =>
    let x := a.host h
    a.setHost h { x with authReplied := false, malReplied := false }) s1

/-- The string's minimum cell SOC, Q0.16, where a cell is initialised. -/
def State.minSoc (s : State) : Option Nat :=
  match s.initList with
  | [] => none
  | c :: t => some ((s.cell (s.minCell t c)).soc / 65536)

/-- The reserve stops assist, or lets it resume (15 R397). -/
def State.reserveTick (s : State) : State :=
  match s.minSoc with
  | none => s
  | some soc =>
    let r := s.gov.reserve
    let note (x : State) (stop : Bool) : State :=
      State.offer { x with gov := { x.gov with stopped := stop } } bHRD 0 0x0D ([BitVec.ofNat 8 (b2n stop), 0] ++ leBytes 2 soc ++ leBytes 2 r)
    if !s.gov.shared then s
    else if !s.gov.stopped && soc < r then note (s.count F.GOV_CNT_RESERVE_STOPS) true
    else if s.gov.stopped && r * 100 + 65536 ≤ soc * 100 then note s false
    else s

/-- P_other (15 R396), in W. -/
def State.pOther (s : State) : Nat :=
  let ps := truncDiv (s.pack.iMean * s.pack.vMean) 1000000
  let pm : Int := max 0 ((s.pIn : Int) - s.gov.share)
  (max 0 (ps - pm)).toNat

/-- The Herd delivers 0 in place of the computed assist (15 R396). -/
def State.assistOff (s : State) : Bool :=
  s.fld F.AON_SVC_STAT_ASSIST_BLK != 0 || s.ctr.wait.isSome || s.seq != 7 || s.gov.stopped

/-- The delivery of a tick (15 R396). -/
def State.delivery (s : State) : State :=
  let s1 := s.reserveTick
  let sop := s1.fld F.EST_SOP_P 0
  let other := s1.pOther
  let a := if s1.assistOff then 0 else min sop (s1.fld F.GOV_CFG_ASSIST_CAP) - other
  s1.assistIn a sop other

/-- The ticks of pack, estimation, contactors, field outputs and touch keys. -/
def State.herdTick (s : State) : State :=
  let s1 := (s.packTick).estTick
  let s2 := ((s1.waitTick).riseWatch).seqTick
  (s2.closeTick.restoreNext).tchScan

/-- What a demand or a hard limit holds against the orders of a tick begins again with what stands (01 R24, 05 R121). -/
def State.heldAnew (s : State) : State :=
  { s with
    pow := { s.pow with tripped := 0 }
    rnd := { s.rnd with hadFunc := s.fld F.RND_ACT_FUNC, hadLsw := s.fld F.RND_ACT_LSW } }

/-- DECISION_TICK (05 R118, 23 R611). -/
def State.tick (s : State) : State :=
  let s1 := ((s.plcaApply).mailTick).clockTick
  let s2 := s1.herdTick
  let fs := s2.mgt.rxq
  let s3 := State.decide { s2 with mgt := { s2.mgt with rxq := [] } } fs
  (s3.delivery.idleCutEnd).heldAnew

/-! ### Rows of the Herd that span its parts -/

/-- MILK_ROUND_START: where a round begins, what waited for it is its own (04 R101); where none opens, its samples are stale
and the estimation follows (16 R427). -/
def State.roundStart (s : State) (lo lr : MilkLine) : State :=
  let t0 := s.milkStart lo lr
  let t := if t0.herd.startAt = s.herd.startAt then t0 else t0.estArm
  if State.milkStale s t then t.estRound false else t

/-- MILK_ROUND_COMPLETE (16 R430, 17 R449). -/
def State.roundEnd (s : State) (dur : Nat) : State :=
  if s.roundOver then
    let t := (s.milkEnd dur).estRound true
    State.gateSettle { t with pow := { t.pow with roundWake := false } }
  else s

/-- ENUMERATION (16 R426). -/
def State.enumBegin (s : State) : State := if s.dom 4 = .on ∧ s.dom 5 = .on then s.enumStart else s

/-- ISO_DWELL_END (16 R438) with the conditions judged at the end of M3 (17 Table 17-4). -/
def State.isoStep (s : State) : State :=
  let last := s.dom 5 == .on && s.flag F.PKM_ISO_CFG_ISO_EN && s.fld F.PKM_ISO_STAT_STATE == 3
  if last then s.isoEnd.isoConds else s.isoEnd

/-- PACK_SAMPLE, with condition 20 judged on every sample of channel 0 (17 R465). -/
def State.packIn (s : State) (c : Nat) (raw : Int) (ovr bad : Bool) (n : Nat) (hall early half : Bool) : State :=
  let t := s.packSample c raw ovr bad n hall early half
  if c = 0 ∧ s.dom 5 = .on ∧ s.flag F.PKM_CFG_EN c = true then t.measCond (s.pack.gain == 0) else t

/-- AUX_CONTACT_CHANGE: the level at the pin changes whatever the module does (18 R481). -/
def State.auxPin (s : State) (c : Nat) (closed : Bool) : State :=
  if s.up then s.auxChange c closed else s.putBitOf F.CTR_STAT_AUX c closed

end Sys2Proof.Machine
end

