-- ==== Sys2Proof/Machine/ExecHerd.lean ====
section
/-! DEFINITION. Meanings: the Milk chain, pack measurement, estimation, contactors and field outputs (16 to 19). -/
namespace Sys2Proof.Machine

/-! ### The Milk chain (16) -/

/-- MILK_ROUND_START (R427). -/
def execMilkRoundStart (lo lr : MilkLine) (s : State) : Result := .next (s.acts fun a => a.roundStart lo lr)

/-- SYNC_MEASURE (R422). -/
def execSyncMeasure (p : Fin 12) (cells temps : List (BitVec 16)) (wire recent : Bool) (s : State) : Result :=
  wfElse (measFits cells temps) "SYNC_MEASURE"
    (s.milkSync (p.val + 1) (cells.map BitVec.toNat) (temps.map BitVec.toNat) wire recent)

/-- READ (R423). -/
def execRead (ret : Bool) (us : BitVec 16) (line : MilkLine) (s : State) : Result :=
  .next (s.acts fun a => a.milkRead ret us.toNat line)

/-- DATA (R429). -/
def execData (ret : Bool) (rx : Option (List Byte)) (s : State) : Result := .next (s.acts fun a => (a.milkData ret rx).probeStart)

/-- RESPONSE_TIMEOUT (R429). -/
def execResponseTimeout (ret : Bool) (s : State) : Result := .next (s.acts fun a => (a.rspTimeout ret).probeStart)

/-- ECHO_TIMEOUT (R431). -/
def execEchoTimeout (s : State) : Result := .next (s.acts fun a => a.echoTimeout.probeStart)

/-- MILK_ROUND_COMPLETE (R430). -/
def execMilkRoundComplete (dur : BitVec 16) (s : State) : Result := .next (s.acts fun a => a.roundEnd dur.toNat)

/-- ENUM (R421). -/
def execEnum (ret : Bool) (line : MilkLine) (s : State) : Result := .next (s.acts fun a => a.milkEnum ret line)

/-- ENUM_RSP (R426). -/
def execEnumRsp (ret : Bool) (rx : Option (List Byte)) (s : State) : Result := .next (s.acts fun a => a.enumAnswer ret rx)

/-- SETUP (R421). -/
def execSetup (a : Fin 12) (line : MilkLine) (lost : Bool) (rx : Option (List Byte)) (s : State) : Result :=
  .next (s.acts fun x => x.milkSetup (a.val + 1) line lost rx)

/-- RESET (R421). -/
def execResetMon (lo lr : MilkLine) (s : State) : Result := .next (s.acts fun a => a.milkReset lo lr)

/-- SLEEP (R421). -/
def execSleep (lo lr : MilkLine) (s : State) : Result := .next (s.acts fun a => a.milkSleep lo lr)

/-- PING (R417). -/
def execPing (line : MilkLine) (s : State) : Result := .next (s.acts fun a => a.milkPing line)

/-- ENUMERATION (R426). -/
def execEnumeration (s : State) : Result := .next (s.runs fun a => a.enumBegin)

/-- MONITOR_STANDBY (R424). -/
def execMonitorStandby (p : Fin 12) (s : State) : Result := .next (s.monStandby (p.val + 1))

/-- MONITOR_SLEEP (R424). -/
def execMonitorSleep (p : Fin 12) (s : State) : Result := .next (s.monSleep (p.val + 1))

/-- MONITOR_WAKE (R424). -/
def execMonitorWake (p : Fin 12) (powerUp : Bool) (uid : BitVec 32) (maker : BitVec 16) (s : State) : Result :=
  .next (s.monWake (p.val + 1) powerUp uid.toNat maker.toNat)

/-- BAL_TIME_EXPIRY (R423). -/
def execBalTimeExpiry (p : Fin 12) (s : State) : Result := .next (s.balExpiry (p.val + 1))

/-! ### Pack measurement (16) -/

/-- PACK_SAMPLE (R439). -/
def execPackSample (c : Fin 6) (raw : BitVec 24) (ovr bad : Bool) (n : BitVec 16) (hall early half : Bool) (s : State) : Result :=
  .next (s.offers fun a => a.packIn c.val raw.toInt ovr bad n.toNat hall early half)

/-- ISO_DWELL_END (R438). -/
def execIsoDwellEnd (s : State) : Result := .next (s.acts fun a => a.isoStep)

/-- AUTO_GAIN_UP (R434). -/
def execAutoGainUp (s : State) : Result := .next (s.runs fun a => a.gainUp)

/-- SYNC_SAMPLE_TIMEOUT (R436). -/
def execSyncSampleTimeout (c : Fin 6) (s : State) : Result := .next (s.runs fun a => a.syncTimeout c.val)

/-! ### Estimation (17) -/

/-- CONDITION_CONFIRM (R465). -/
def execConditionConfirm (n : Fin 21) (s : State) : Result := .next (s.acts fun a => a.condConfirm n.val)

/-- BRK_WAIT_EXPIRY (R467). -/
def execBrkWaitExpiry (s : State) : Result := .next (s.acts fun a => a.brkExpiry)

/-- CHARGE_ONLY_OVERCURRENT (R468). -/
def execChargeOnlyOvercurrent (s : State) : Result := .next (s.acts fun a => a.chargeOver)

/-- ESTIMATION_STATE_RECORD (R459). -/
def execEstimationStateRecord (s : State) : Result := .next (s.offers fun a => a.estRecord)

/-! ### Contactors (18) -/

/-- AUX_CONTACT_CHANGE (R481). -/
def execAuxContactChange (c : Fin 4) (closed : Bool) (s : State) : Result := .next (s.atPins fun a => a.auxPin c.val closed)

/-- TEST_WINDOW_EXPIRY (R483). -/
def execTestWindowExpiry (s : State) : Result := .next (s.acts fun a => a.windowEnd)

/-- PRECHARGE_TIMEOUT (R483). -/
def execPrechargeTimeout (s : State) : Result := .next (s.acts fun a => a.pcTimeout)

/-- COIL_PEAK_END (R480). -/
def execCoilPeakEnd (c : Fin 4) (s : State) : Result := .next (s.runs fun a => a.peakEnd c.val)

/-- COIL_SHORT (R480). -/
def execCoilShort (c : Fin 4) (s : State) : Result := .next (s.acts fun a => a.coilFault c.val true)

/-- COIL_OPEN (R480). -/
def execCoilOpen (c : Fin 4) (s : State) : Result := .next (s.acts fun a => a.coilFault c.val false)

/-- AUX_MISMATCH (R481). -/
def execAuxMismatch (c : Fin 4) (s : State) : Result := .next (s.acts fun a => a.auxMismatch c.val)

/-- WELD_CHECK (R485). -/
def execWeldCheck (c : Fin 4) (s : State) : Result := .next (s.acts fun a => a.weldCheck c.val)

/-- DOUBLE_WELD_CHECK (R485). -/
def execDoubleWeldCheck (s : State) : Result := .next (s.offers fun a => a.doubleWeld)

/-- DROPOUT (R486). -/
def execDropout (s : State) : Result := .next (s.acts fun a => a.dropout)

/-- COOL_DOWN_END (R484). -/
def execCoolDownEnd (s : State) : Result := .next (s.runs fun a => a.coolEnd)

/-! ### Field outputs (19) -/

/-- LSW_OVERCURRENT_LATCH (R501). -/
def execLswOvercurrentLatch (n : Fin 16) (s : State) : Result := .next (s.offers fun a => a.lswLatch n.val false)

/-- LSW_THERMAL_LATCH (R501). -/
def execLswThermalLatch (n : Fin 16) (s : State) : Result := .next (s.offers fun a => a.lswLatch n.val true)

/-- BLANKING_END (R501). -/
def execBlankingEnd (n : Fin 16) (s : State) : Result := .next (s.runs fun a => a.blankEnd n.val)

/-- OPEN_LOAD_SET (R505). -/
def execOpenLoadSet (n : Fin 16) (s : State) : Result := .next (s.offers fun a => a.openLoad n.val true)

/-- OPEN_LOAD_CLEAR (R505). -/
def execOpenLoadClear (n : Fin 16) (s : State) : Result := .next (s.offers fun a => a.openLoad n.val false)

/-- VFLD_UNDERVOLTAGE (R506). -/
def execVfldUndervoltage (vfld : BitVec 16) (s : State) : Result := .next (s.offers fun a => a.vfldLow vfld.toNat)

/-- VFLD_RESTORE (R506). -/
def execVfldRestore (s : State) : Result := .next (s.runs fun a => a.vfldHigh)

/-- LOOP_MEASUREMENT (R508). -/
def execLoopMeasurement (o0 o1 o2 o3 i0 i1 i2 i3 : BitVec 16) (s : State) : Result :=
  .next (s.runs fun a => a.loopMeasure [o0.toNat, o1.toNat, o2.toNat, o3.toNat] [i0.toNat, i1.toNat, i2.toNat, i3.toNat])

/-- LOOP_COMPLIANCE (R508). -/
def execLoopCompliance (n : Fin 4) (s : State) : Result := .next (s.offers fun a => a.loopExpiry n.val)

/-- LIS_FOLDBACK (R512). -/
def execLisFoldback (n : Fin 4) (s : State) : Result := .next (s.offers fun a => a.lisFold n.val)

/-- LIS_RETRY (R512). -/
def execLisRetry (n : Fin 4) (ok : Bool) (s : State) : Result := .next (s.runs fun a => a.lisRetry n.val ok)

/-- TOUCH_KEY_TOUCH (R513). -/
def execTouchKeyTouch (k : Fin 4) (s : State) : Result := .next (s.offers fun a => a.touch k.val)

/-- TOUCH_KEY_RELEASE (R513). -/
def execTouchKeyRelease (k : Fin 4) (s : State) : Result := .next (s.offers fun a => a.release k.val)

/-- TOUCH_KEY_STUCK (R514). -/
def execTouchKeyStuck (k : Fin 4) (s : State) : Result := .next (s.offers fun a => a.stuck k.val)

end Sys2Proof.Machine
end

