-- ==== Sys2Proof/Machine/Flits.lean ====
section
/-! DEFINITION. The receive side of the link layer and the timers of a port (06 R128 to R142, Tables 6-1 to 6-6). -/
namespace Sys2Proof.Machine

/-! ### Timers (Table 6-4) -/

/-- A remap handshake: open in one direction of port `k`. -/
def State.remapHs (s : State) (k : Nat) (rx : Bool) : Option RemapHs := if rx then (s.port k).rRx else (s.port k).rTx

/-- T_ACQ expires (Table 6-5): the port enters DOWN, and leaves it at once where λ16 is still received (07 R180). -/
def State.tAcq (s : State) (k : Nat) : State := if s.lnk k = lnkAcquire then (s.enterDown k).tryLight k else s

/-- T_ALIGN expires (Table 6-5). -/
def State.tAlign (s : State) (k : Nat) : State := if s.lnk k = lnkAlign then s.enterAcquire k else s

/-- 1 ms has passed in ACQUIRE of a copper port: lanes 0 to 3 suffice from now on (Table 6-5). -/
def State.copperWait (s : State) (k : Nat) : State :=
  if !optical k && s.lnk k == lnkAcquire then (s.setPort k { s.port k with waited := true }).tryAlign k else s

/-- T_RETRY has passed since entry to DOWN (Table 6-5). -/
def State.tRetry (s : State) (k : Nat) : State :=
  if !optical k && s.lnk k == lnkDown then (s.setPort k { s.port k with retry := true }).tryCopper k else s

/-- T_WIDEN expires (R136, 04 R102): the port is DEGRADED at the widest width its lanes support. -/
def State.tWiden (s : State) (k : Nat) : State :=
  if s.live k && (s.port k).firstUp then
    let s1 := (s.setPort k { s.port k with firstUp := false }).withSvc fun a => a.putBitOf F.AON_SVC_STAT_OPT_NARROW k false
    let s2 := s1.widthState k
    let m := s2.goodLanes k
    if s2.fld F.LNK_STAT_RXSET k ≠ activeOf k m ∧ 4 ≤ popCount m 16 ∧ (s2.port k).wRx = none then s2.widthReqOwn k m else s2
  else s

/-- A WIDTH_REQ goes unanswered for T_LM: sent again, twice, then the port retrains (R137). -/
def State.tLmWidth (s : State) (k : Nat) : State :=
  let p := s.port k
  match p.wRx with
  | some h =>
    if h.m.isSome || !s.live k then s
    else if h.tries < 3 then
      (s.setPort k { p with wRx := some { h with tries := h.tries + 1 } }).lm k
        (lmBytes 0x02 h.txid 0 0 (h.mask % 256) (h.mask / 256) 0 0)
    else s.retrainOwn k
  | none => s

/-- LOOP_REQ goes unanswered for T_LM: sent again, twice, then the failure is recorded (R142). -/
def State.tLmLoop (s : State) (k : Nat) : State :=
  let p := s.port k
  match p.loop with
  | some h =>
    if !s.live k then s
    else if h.tries < 3 then
      (s.setPort k { p with loop := some { h with tries := h.tries + 1 } }).lm k (lmBytes 0x08 h.txid 1 0 0 0 0 0)
    else ((s.setPort k { p with loop := none }).putFlag F.LNK_LOOP_STAT_LOOP_FAIL true k).lnkEv k 0x06 lNote
  | none => s

/-- REMAP_SW does not follow REMAP_RDY within T_LM: the receiver ends the remap (R140). -/
def State.tLmRemap (s : State) (k : Nat) : State :=
  match (s.port k).rRx with
  | some h => if h.rdy && h.m.isNone then s.remapAbortOwn k true 3 else s
  | none => s

/-- T_LM expires: 0 the width handshake, 1 the remap, 2 the loop request. -/
def State.tLm (s : State) (k hs : Nat) : State :=
  if hs = 0 then s.tLmWidth k else if hs = 1 then s.tLmRemap k else s.tLmLoop k

/-- REMAP_RDY does not come within T_REMAP: the module ends the remap (R140). -/
def State.tRemap (s : State) (k : Nat) (rx : Bool) : State :=
  match s.remapHs k rx with
  | some h =>
    if h.rdy then s
    else
      let t := s.remapAbortOwn k rx 3
      if rx then t else t.failRemap k h.leave
  | none => s

/-- The λ16 LOS blanking of an entry to ACQUIRE ends, and the detector reports (08 R211): a port that is in DOWN by then enters
ACQUIRE where it sees light.  A LOS that stands here is shown and counts no assertion in `LOS_EVT` (DESIGN CHOICE, log entry 81). -/
def State.losBlankEnd (s : State) (k : Nat) (los : Bool) : State :=
  if (s.port k).blank then
    let s1 := s.setPort k { s.port k with blank := false }
    ((s1.putBitOf F.LNK_LANE_STAT_LOS 16 los k).putFlag F.PYU_PORT_STAT_LOS los k).tryLight k
  else s

/-- The expected SEQ has not come within T_REPLAY of the NAK: NAK is sent once more (R132). -/
def State.nakAgain (s : State) (k : Nat) : State :=
  let p := s.port k
  if s.live k && p.nak then s.setPort k { p with naks := p.naks + 1 } else s

/-- The oldest unacknowledged flit has waited for T_REPLAY (R133). -/
def State.replayDue (s : State) (k : Nat) : State :=
  if s.live k && !(s.port k).unacked.isEmpty then s.startReplay k else s

/-! ### LM messages that the module sends again or answers (R140, R142) -/

/-- LOOP_REQ: the open request is sent again. -/
def State.loopResend (s : State) (k : Nat) : State :=
  match (s.port k).loop with
  | some h => if s.live k then s.lm k (lmBytes 0x08 h.txid 1 0 0 0 0 0) else s
  | none => s

/-! ### What a flit does -/

/-- INIT fields of an LM payload (Table 6-6). -/
def initOf (b : Bytes) : InitMsg :=
  let f (i : Nat) : Byte := b.getD i 0
  { txid := f 1, version := f 2, role := f 3, kind := f 4, ackd := hasBit (f 5).toNat 0, resume := hasBit (f 5).toNat 1, q := f 6
    s := f 7, m := f 8, next := BitVec.ofNat 16 (leAt b 10 2), ack := BitVec.ofNat 16 (leAt b 12 2) }

/-- An LM message from the far end (Table 6-6); `sent` is the marker count last sent. -/
def State.gotLm (s : State) (k : Nat) (b : Bytes) (sent : Nat) : State :=
  let f (i : Nat) : Nat := (b.getD i 0).toNat
  match f 0 with
  | 1 => s.gotInit k (initOf b)
  | 2 => s.gotWidthReq k (f 1) (leAt b 4 2) sent
  | 3 => s.gotWidthAck k (f 1) (leAt b 4 2) (f 6)
  | 4 => s.gotRemapReq k (f 1) (f 2 == 1) (f 3 == 1) (f 4) (f 5)
  | 5 => s.gotRemapRdy k (f 1) (f 4) (f 5) sent
  | 6 => s.gotRemapSw k (f 1) (f 4) (f 5) (f 6)
  | 7 => s.gotRemapAbort k (f 1) (f 4)
  | 9 => s.gotLoopAck k (f 1)
  | 10 => s.retrain k
  | _ => s

/-- An LM message in a flit: the count last sent is that of the marker before the next one. -/
def State.lmFlit (s : State) (k : Nat) (b : Bytes) : State := s.gotLm k b ((s.nextMark k + 255) % 256)

/-- A Q message of `fl` flits whose last one has arrived (R145, Tables 6-8, 6-9): the request, and whether it breaks the rules; a
RD has no data bytes and one flit. -/
def qMessage (b : Bytes) (fl : Nat) : Req × Bool :=
  let op := leAt b 0 1
  let n := leAt b 4 2
  let d := b.drop 20
  let aux := leAt b 16 4
  let mk (x : QOp) : Req := { part := leAt b 1 1 % 16, tag := leAt b 2 2, addr := leAt b 8 8, op := x, held := fl }
  if op = 1 then (mk (.rd n), !d.isEmpty || fl != 1)
  else if op = 2 then (mk (.wr (aux % 16) (aux / 16 % 16) d), n != d.length)
  else if op = 3 then (mk (.fadd (leAt d 0 8)), n != 8 || d.length != 8)
  else if op = 4 then (mk (.cas (leAt d 0 8) (leAt d 8 8)), n != 16 || d.length != 16)
  else (mk (.wr 0 0 []), true)

/-- A message shorter than its header is no message, and frees its buffers; every other reaches the Separator. -/
def State.qDeliver (s : State) (k : Nat) (b : Bytes) (fl : Nat) : State :=
  if b.length < 20 then s.credit k fl
  else
    let x := qMessage b fl
    s.qServe k x.1 x.2

/-- An accepted flit of class Q takes a buffer (R144), and its message grows or is complete; a first flit that cuts a message
short frees the buffers of the part before.  A flit with FIRST = 0 where no message is open counts as the start of one (DESIGN
CHOICE, log entry 81). -/
def State.qFlit (s : State) (k : Nat) (h : FlitHdr) (b : Bytes) : State :=
  let p := s.port k
  let frag := b.take (4 * h.len)
  let msg := if h.first then frag else p.rxMsg ++ frag
  let fl := if h.first then 1 else p.rxHeld + 1
  let s1 := s.setPort k { p with
    rxMsg := if h.last then [] else msg
    rxHeld := if h.last then 0 else fl
    ccq := (p.ccq + (if h.first then p.rxHeld else 0)) % 256 }
  if h.last then s1.qDeliver k msg fl else s1

/-- A TXN flit with the expected SEQ (R131, R143). -/
def State.txnFlit (s : State) (k : Nat) (h : FlitHdr) (b : Bytes) : State :=
  let s1 := (s.setPort k { s.port k with ack := h.seq, nak := false, naks := 0 }).takeHeader k h.ack h.ccs h.ccm h.nak
  if h.cls = 0 then s1.qFlit k h b else s1.protoErr k

/-- FLIT_RECEIVE (R129, R131, R132): a flit on a port in ALIGN, where only INIT counts, or in UP or DEGRADED. -/
def State.flit (s : State) (k : Nat) (b : Bytes) : State :=
  let h := flitHdr b
  let body := (b.drop 8).take 116
  if s.live k then
    let expect := ((s.port k).ack + 1) % 4096
    if !flitOk b then (s.count F.LNK_ERRCNT_CRC_ERR 1 k).seqError k
    else if h.ft = 1 then (if h.seq = expect then s.txnFlit k h body else s.seqError k)
    else
      let s1 := s.takeHeader k h.ack h.ccs h.ccm h.nak
      let s2 := if h.seq = expect then s1 else s1.seqError k
      if h.ft = 2 then s2.lmFlit k body else s2
  else if s.lnk k = lnkAlign then
    (if !flitOk b then s.count F.LNK_ERRCNT_CRC_ERR 1 k
     else if h.ft = 2 ∧ body.head? = some 1 then s.gotInit k (initOf body) else s)
  else s

end Sys2Proof.Machine
end

