-- ==== Sys2Proof/Machine/ExecLink.lean ====
section
/-! DEFINITION. Meanings: links, lanes, engines and the laser source cartridge (06, 07, 08). -/
namespace Sys2Proof.Machine

/-! ### Registers of a port (06, 08) -/

/-- LNK_EN_WRITE (R134). -/
def execLnkEnWrite (w : CoreWr) (k : Fin 18) (s : State) : Result :=
  .next (s.acts fun a => a.coreWr w (globBase + 0x300000 + 0x100 * k.val))

/-- LNK_RETRAIN_WRITE (R138). -/
def execLnkRetrainWrite (w : CoreWr) (k : Fin 18) (s : State) : Result :=
  .next (s.acts fun a => a.coreWr w (globBase + 0x300000 + 0x100 * k.val))

/-- LNK_LOOP_REQ_WRITE (R142). -/
def execLnkLoopReqWrite (w : CoreWr) (k : Fin 18) (s : State) : Result :=
  .next (s.acts fun a => a.coreWr w (globBase + 0x300000 + 0x100 * k.val))

/-- LNK_TXEQ_WRITE (R207). -/
def execLnkTxeqWrite (w : CoreWr) (k : Fin 18) (s : State) : Result :=
  .next (s.acts fun a => a.coreWr w (globBase + 0x300060 + 0x100 * k.val))

/-- DFE_RESET (R218). -/
def execDfeReset (w : CoreWr) (k : Fin 18) (s : State) : Result :=
  .next (s.acts fun a => a.coreWr w (globBase + 0x300068 + 0x100 * k.val))

/-- DFE_FREEZE_WRITE (R208). -/
def execDfeFreezeWrite (w : CoreWr) (k : Fin 18) (s : State) : Result :=
  .next (s.acts fun a => a.coreWr w (globBase + 0x300068 + 0x100 * k.val))

/-- LNK_SSC_WRITE (R206). -/
def execLnkSscWrite (w : CoreWr) (k : Fin 18) (s : State) : Result :=
  .next (s.acts fun a => a.coreWr w (globBase + 0x300070 + 0x100 * k.val))

/-! ### Flits and LM messages (06) -/

/-- FLIT_RECEIVE (R131). -/
def execFlitReceive (k : Fin 18) (flit : List Byte) (s : State) : Result :=
  wfElse (flitFits flit) "FLIT_RECEIVE" (s.acts fun a => ((a.lmClear k.val).flit k.val flit).powerSettle)

/-- NAK_TIMEOUT (R132). -/
def execNakTimeout (k : Fin 18) (s : State) : Result := .next (s.runs fun a => (a.lmClear k.val).nakAgain k.val)

/-- REPLAY_TIMEOUT (R133). -/
def execReplayTimeout (k : Fin 18) (s : State) : Result := .next (s.acts fun a => (a.lmClear k.val).replayDue k.val)

/-- INIT (R135). -/
def execInit (k : Fin 18) (m : InitMsg) (s : State) : Result := .next (s.acts fun a => (a.lmClear k.val).gotInit k.val m)

/-- T_INIT_EXPIRY (R135). -/
def execTInitExpiry (k : Fin 18) (s : State) : Result := .next (s.acts fun a => (a.lmClear k.val).sendInit k.val)

/-- WIDTH_REQ (R137). -/
def execWidthReq (k : Fin 18) (txid : Byte) (mask : BitVec 16) (sent : Byte) (s : State) : Result :=
  .next (s.runs fun a => (a.lmClear k.val).gotWidthReq k.val txid.toNat mask.toNat sent.toNat)

/-- WIDTH_ACK (R137). -/
def execWidthAck (k : Fin 18) (txid : Byte) (mask : BitVec 16) (m : Byte) (s : State) : Result :=
  .next (s.runs fun a => (a.lmClear k.val).gotWidthAck k.val txid.toNat mask.toNat m.toNat)

/-- WIDTH_SWITCH (R137). -/
def execWidthSwitch (k : Fin 18) (rx : Bool) (s : State) : Result :=
  .next (s.acts fun a => (a.lmClear k.val).widthSwitched k.val rx)

/-- REMAP_REQ (R140). -/
def execRemapReq (k : Fin 18) (txid : Byte) (theyReceive fail : Bool) (lane b : Byte) (s : State) : Result :=
  .next (s.runs fun a => (a.lmClear k.val).gotRemapReq k.val txid.toNat theyReceive fail lane.toNat b.toNat)

/-- REMAP_RDY (R140). -/
def execRemapRdy (k : Fin 18) (txid lane b sent : Byte) (s : State) : Result :=
  .next (s.runs fun a => (a.lmClear k.val).gotRemapRdy k.val txid.toNat lane.toNat b.toNat sent.toNat)

/-- REMAP_SW (R140). -/
def execRemapSw (k : Fin 18) (txid lane b m : Byte) (s : State) : Result :=
  .next (s.runs fun a => (a.lmClear k.val).gotRemapSw k.val txid.toNat lane.toNat b.toNat m.toNat)

/-- REMAP_SWITCH (R140). -/
def execRemapSwitch (k : Fin 18) (rx : Bool) (s : State) : Result :=
  .next (s.acts fun a => (a.lmClear k.val).remapSwitched k.val rx)

/-- REMAP_ABORT (R140). -/
def execRemapAbort (k : Fin 18) (txid lane _reason : Byte) (s : State) : Result :=
  .next (s.runs fun a => (a.lmClear k.val).gotRemapAbort k.val txid.toNat lane.toNat)

/-- LOOP_REQ (R142). -/
def execLoopReq (k : Fin 18) (s : State) : Result := .next (s.runs fun a => (a.lmClear k.val).loopResend k.val)

/-- LOOP_ACK (R142). -/
def execLoopAck (k : Fin 18) (txid : Byte) (s : State) : Result :=
  .next (s.acts fun a => (a.lmClear k.val).gotLoopAck k.val txid.toNat)

/-- RETRAIN (R138). -/
def execRetrain (k : Fin 18) (_txid : Byte) (s : State) : Result := .next (s.acts fun a => (a.lmClear k.val).retrain k.val)

/-! ### Timers of a port (06) -/

/-- T_WIDEN_EXPIRY (R136). -/
def execTWidenExpiry (k : Fin 16) (s : State) : Result := .next (s.acts fun a => (a.lmClear k.val).tWiden k.val)

/-- T_ACQ_EXPIRY (R134). -/
def execTAcqExpiry (k : Fin 18) (s : State) : Result := .next (s.acts fun a => (a.lmClear k.val).tAcq k.val)

/-- T_ALIGN_EXPIRY (R134). -/
def execTAlignExpiry (k : Fin 18) (s : State) : Result := .next (s.runs fun a => (a.lmClear k.val).tAlign k.val)

/-- T_LM_EXPIRY (R137). -/
def execTLmExpiry (k : Fin 18) (hs : Fin 3) (s : State) : Result := .next (s.acts fun a => (a.lmClear k.val).tLm k.val hs.val)

/-- T_REMAP_EXPIRY (R140). -/
def execTRemapExpiry (k : Fin 18) (rx : Bool) (s : State) : Result := .next (s.runs fun a => (a.lmClear k.val).tRemap k.val rx)

/-- T_RETRY_EXPIRY (R134). -/
def execTRetryExpiry (k : Fin 18) (s : State) : Result := .next (s.runs fun a => (a.lmClear k.val).tRetry k.val)

/-- COPPER_ACQUIRE_WAIT (R134). -/
def execCopperAcquireWait (k : Fin 18) (s : State) : Result := .next (s.runs fun a => (a.lmClear k.val).copperWait k.val)

/-! ### Lanes (08) -/

/-- LANE_LOS (R210). -/
def execLaneLos (k : Fin 18) (lane : Fin 20) (s : State) : Result :=
  wfElse (laneExists k lane) "LANE_LOS" (s.acts fun a => (a.lmClear k.val).laneLos k.val lane.val)

/-- LANE_LOS_CLEAR (R210). -/
def execLaneLosClear (k : Fin 18) (lane : Fin 20) (s : State) : Result :=
  wfElse (laneExists k lane) "LANE_LOS_CLEAR" (s.acts fun a => (a.lmClear k.val).laneLosClear k.val lane.val)

/-- LANE_LOCK (R210). -/
def execLaneLock (k : Fin 18) (lane : Fin 20) (s : State) : Result :=
  wfElse (laneExists k lane) "LANE_LOCK" (s.acts fun a => (a.lmClear k.val).laneLock k.val lane.val)

/-- LANE_LOCK_LOSS (R210). -/
def execLaneLockLoss (k : Fin 18) (lane : Fin 20) (s : State) : Result :=
  wfElse (laneExists k lane) "LANE_LOCK_LOSS" (s.acts fun a => (a.lmClear k.val).laneUnlock k.val lane.val)

/-- FWD_CLOCK_LOCK_LOSS (R219). -/
def execFwdClockLockLoss (k : Fin 18) (s : State) : Result := .next (s.acts fun a => (a.lmClear k.val).clockUnlock k.val)

/-- MARKER_ALIGNED (R202). -/
def execMarkerAligned (k : Fin 18) (lane : Fin 20) (s : State) : Result :=
  wfElse (laneExists k lane) "MARKER_ALIGNED" (s.acts fun a => (a.lmClear k.val).markerFound k.val lane.val)

/-- MARKER_ALIGNMENT_LOSS (R202). -/
def execMarkerAlignmentLoss (k : Fin 18) (lane : Fin 20) (s : State) : Result :=
  wfElse (laneExists k lane) "MARKER_ALIGNMENT_LOSS" (s.acts fun a => (a.lmClear k.val).markerLost k.val lane.val)

/-- LOS_BLANKING_END (R211). -/
def execLosBlankingEnd (k : Fin 16) (los : Bool) (s : State) : Result :=
  .next (s.runs fun a => (a.lmClear k.val).losBlankEnd k.val los)

/-- DFE_TAP_SATURATED (R208). -/
def execDfeTapSaturated (k : Fin 18) (lane : Fin 20) (tap : Fin 5) (s : State) : Result :=
  wfElse (laneExists k lane && tapExists k tap) "DFE_TAP_SATURATED" (s.runs fun a => a.dfeSaturated k.val lane.val tap.val)

/-! ### Engines (07) -/

/-- PYU_RESET (R194). -/
def execPyuReset (w : CoreWr) (e : Fin 4) (s : State) : Result :=
  .next (s.acts fun a => a.coreWr w (globBase + 0x340000 + 0x1000 * e.val))

/-- ENGINE_RESET_DONE (R194). -/
def execEngineResetDone (e : Fin 4) (s : State) : Result := .next (s.runs fun a => a.resetDone e.val)

/-- LSC_READY_TIMEOUT (R185). -/
def execLscReadyTimeout (e : Fin 4) (carId : BitVec 16) (s : State) : Result :=
  .next (s.acts fun a => (a.lscTimeout e.val carId.toNat).powerSettle)

/-- BANK_LOCK (R184). -/
def execBankLock (e : Fin 4) (failed : BitVec 20) (s : State) : Result := .next (s.acts fun a => a.bankLock e.val failed.toNat)

/-- BANK_FAULT (R174). -/
def execBankFault (e : Fin 4) (s : State) : Result := .next (s.acts fun a => (a.bankFault e.val).powerSettle)

/-- LASER_FAIL_DECLARE (R172). -/
def execLaserFailDeclare (e : Fin 4) (x : LaserLoss) (s : State) : Result :=
  .next (s.acts fun a => (a.laserDeclared e.val x.n.val x.car).powerSettle)

/-- RING_CALIBRATION_DONE (R177). -/
def execRingCalibrationDone (k : Fin 16) (rx : Bool) (wl : Fin 20) (s : State) : Result :=
  .next (s.runs fun a => (a.lmClear k.val).calDone k.val rx wl.val)

/-- SPARE_RECAL_TIMER (R177). -/
def execSpareRecalTimer (k : Fin 16) (rx : Bool) (wl : Fin 20) (s : State) : Result :=
  .next (s.runs fun a => (a.lmClear k.val).spareRecal k.val rx wl.val)

/-- ROTATION_START (R178). -/
def execRotationStart (k : Fin 16) (rx : Bool) (low : Option (Fin 16)) (s : State) : Result :=
  .next (s.runs fun a => (a.lmClear k.val).rotStart k.val rx (low.map fun x => x.val))

/-- RING_RANGE_END (R176). -/
def execRingRangeEnd (k : Fin 16) (rx : Bool) (wl : Fin 20) (s : State) : Result :=
  .next (s.acts fun a => (a.lmClear k.val).rangeEnd k.val rx wl.val)

/-- LAMBDA16_LOS (R180). -/
def execLambda16Los (k : Fin 16) (s : State) : Result := .next (s.acts fun a => (a.lmClear k.val).los16 k.val)

/-- PROBE_BURST (R180). -/
def execProbeBurst (k : Fin 16) (s : State) : Result := .next (s.runs fun a => a.probeOn k.val)

/-- PROBE_BURST_END (R180). -/
def execProbeBurstEnd (k : Fin 16) (s : State) : Result := .next (s.runs fun a => a.probeOff k.val)

/-! ### The laser source cartridge (07) -/

/-- LEN_DROP (R191). -/
def execLenDrop (lineB : Bool) (s : State) : Result := .next (s.acts fun a => (a.lenDropped lineB).powerSettle)

/-- LSC_POLL (R168). -/
def execLscPoll (x : CarFrame) (s : State) : Result :=
  .next (s.acts fun a => (a.lscPolled x.stat.toNat x.data.toNat).powerSettle)

/-- LSC_WIN_WRITE (R170). -/
def execLscWinWrite (w : CoreWr) (s : State) : Result := .next (s.acts fun a => a.coreWr w (globBase + 0x380008))

/-- LSC_FRAME_DONE (R168). -/
def execLscFrameDone (stat data : BitVec 16) (s : State) : Result :=
  .next (s.acts fun a => (a.lscFrameDone stat.toNat data.toNat).powerSettle)

end Sys2Proof.Machine
end

