-- ==== Sys2Proof/Machine/ExecMail.lean ====
section
/-! DEFINITION. Meanings: the decision tick and the mailbox (05, 23). -/
namespace Sys2Proof.Machine

/-! ### The tick, frames and the node (05 R118, 23 R602 to R610) -/

/-- DECISION_TICK (R118). -/
def execDecisionTick (s : State) : Result := .next (s.acts fun a => a.tick)

/-- FRAME_RECEIVE (R610). -/
def execFrameReceive (dst src : BitVec 48) (etherType : BitVec 16) (payload : List Byte) (fcs : BitVec 32) (s : State) : Result :=
  wfElse (payloadFits payload) "FRAME_RECEIVE" (s.offers fun a => a.frameIn dst.toNat src.toNat etherType.toNat payload fcs.toNat)

/-- PLCA_FAIL (R603). -/
def execPlcaFail (s : State) : Result := .next (s.offers fun a => a.plcaFail)

/-- PLCA_STATUS_CHANGE (R603). -/
def execPlcaStatusChange (ok : Bool) (s : State) : Result := .next (s.runs fun a => a.plcaStatus ok)

/-- LEASE_EXPIRY (R113). -/
def execLeaseExpiry (s : State) : Result := .next (s.acts fun a => a.leaseExpire)

/-! ### Messages (23 Table 23-4) -/

/-- HELLO (R614). -/
def execHello (h : Hdr) (feat : BitVec 128) (src : BitVec 48) (s : State) : Result :=
  .next (s.acts fun a => a.mailAt h true src.toNat (.hello feat.toNat))

/-- CAPS (R615). -/
def execCaps (h : Hdr) (s : State) : Result := .next (s.acts fun a => a.mailRead h .caps)

/-- REG_READ (R616). -/
def execRegRead (h : Hdr) (idx : BitVec 16) (count : Byte) (s : State) : Result :=
  .next (s.acts fun a => a.mail h (mkRegRead idx.toNat count.toNat))

/-- REG_WRITE (R616). -/
def execRegWrite (h : Hdr) (idx : BitVec 16) (vals : List (BitVec 32)) (s : State) : Result :=
  .next (s.acts fun a => a.mail h (mkRegWrite idx.toNat vals))

/-- TIME_READ (R616). -/
def execTimeRead (h : Hdr) (s : State) : Result := .next (s.acts fun a => a.mailRead h .timeRead)

/-- RECORD_READ (R591). -/
def execRecordRead (h : Hdr) (start : BitVec 32) (count : Byte) (s : State) : Result :=
  .next (s.acts fun a => a.mail h (mkRecordRead start.toNat count.toNat))

/-- SAFETY_CFG_READ (R616). -/
def execSafetyCfgRead (h : Hdr) (s : State) : Result := .next (s.acts fun a => a.mail h .safetyCfgRead)

/-- STEWARD_CLAIM (R113). -/
def execStewardClaim (h : Hdr) (force : Bool) (s : State) : Result :=
  .next (s.acts fun a => a.mail h (mkClaim (a.minorFor h) force))

/-- STEWARD_RENEW (R113). -/
def execStewardRenew (h : Hdr) (s : State) : Result := .next (s.acts fun a => a.mail h .renew)

/-- STEWARD_RELEASE (R113). -/
def execStewardRelease (h : Hdr) (s : State) : Result := .next (s.acts fun a => a.mail h .release)

/-- WAKE (R69). -/
def execWake (h : Hdr) (mask : BitVec 32) (s : State) : Result := .next (s.acts fun a => a.mail h (.wake mask.toNat))

/-- SLEEP_HINT (R71). -/
def execSleepHint (h : Hdr) (mask : BitVec 32) (vat : Byte) (core : Bool) (s : State) : Result :=
  .next (s.acts fun a => a.mail h (mkSleep mask.toNat vat.toNat core))

/-- CONTACTOR_CMD (R482). -/
def execContactorCmd (h : Hdr) (c : Fin 4) (close force : Bool) (s : State) : Result :=
  .next (s.acts fun a => a.mail h (mkContactor (a.minorFor h) c.val (b2n close) force))

/-- LSW_CMD (R502). -/
def execLswCmd (h : Hdr) (n : Fin 16) (on cfg : Bool) (ilim : BitVec 16) (blank : Byte) (s : State) : Result :=
  .next (s.acts fun a => a.mail h (mkLsw (a.minorFor h) n.val (b2n on) cfg ilim.toNat blank.toNat))

/-- LOOP_SET (R507). -/
def execLoopSet (h : Hdr) (n : Fin 4) (microamps : BitVec 32) (s : State) : Result :=
  .next (s.acts fun a => a.mail h (mkLoop n.val microamps.toNat))

/-- POWER_SHARE_SET (R395). -/
def execPowerShareSet (h : Hdr) (p reserve : BitVec 16) (s : State) : Result :=
  .next (s.acts fun a => a.mail h (mkShare p.toNat reserve.toNat))

/-- LIMITSET_LOAD (R463). -/
def execLimitsetLoad (h : Hdr) (image : List Byte) (s : State) : Result :=
  wfElse (bodyFits image) "LIMITSET_LOAD" (s.acts fun a => a.mail h (.limitsetLoad image))

/-- MODEL_LOAD (R452). -/
def execModelLoad (h : Hdr) (image : List Byte) (s : State) : Result :=
  wfElse (bodyFits image) "MODEL_LOAD" (s.acts fun a => a.mail h (.modelLoad image))

/-- SAFETY_CFG_LOAD (R543). -/
def execSafetyCfgLoad (h : Hdr) (image : List Byte) (s : State) : Result :=
  wfElse (bodyFits image) "SAFETY_CFG_LOAD" (s.acts fun a => a.mail h (.safetyCfgLoad image))

/-- FAULT_ACK (R561). -/
def execFaultAck (h : Hdr) (code inst : Byte) (s : State) : Result :=
  .next (s.acts fun a => a.mail h (.faultAck code.toNat inst.toNat))

/-! ### Writes of supervisor registers (00 R644, 23 R616, R619) -/

/-- AON_PD_REQ_WRITE (R59). -/
def execAonPdReqWrite (h : Hdr) (v : BitVec 32) (s : State) : Result := .next (s.acts fun a => a.mail h (.regWrite 0x101 [v]))

/-- CLK_TG_FREQ_WRITE (R66). -/
def execClkTgFreqWrite (h : Hdr) (g : Fin 8) (v : BitVec 32) (s : State) : Result :=
  .next (s.acts fun a => a.mail h (.regWrite (0x200 + g.val) [v]))

/-- MGT_PLCA_WRITE (R602). -/
def execMgtPlcaWrite (h : Hdr) (v : BitVec 32) (s : State) : Result := .next (s.acts fun a => a.mail h (.regWrite 0x1401 [v]))

/-- MGT_KEY_COMMIT (R619). -/
def execMgtKeyCommit (h : Hdr) (auth : Bool) (key : List Byte) (slot : Fin 16) (s : State) : Result :=
  wfElse (keyFits key) "MGT_KEY_COMMIT" (s.acts fun a => a.keyLoad h auth (loadWords key slot.val))

/-- MGT_KEY_ERASE (R619). -/
def execMgtKeyErase (h : Hdr) (slot : Fin 16) (s : State) : Result :=
  .next (s.acts fun a => a.mail h (.regWrite 0x1448 [BitVec.ofNat 32 (slot.val * 2 ^ 16 + 2)]))

/-- HRD_ENUM_WRITE (R426). -/
def execHrdEnumWrite (h : Hdr) (v : BitVec 32) (s : State) : Result := .next (s.acts fun a => a.mail h (.regWrite 0x800 [v]))

/-- HRD_RUN_WRITE (R447). -/
def execHrdRunWrite (h : Hdr) (v : BitVec 32) (s : State) : Result := .next (s.acts fun a => a.mail h (.regWrite 0x800 [v]))

/-- PKM_CFG_WRITE (R435). -/
def execPkmCfgWrite (h : Hdr) (c : Fin 6) (v : BitVec 32) (s : State) : Result :=
  .next (s.acts fun a => a.mail h (.regWrite (0xA00 + c.val) [v]))

/-- SOH_RESET (R459). -/
def execSohReset (h : Hdr) (s : State) : Result := .next (s.acts fun a => a.mail h (.regWrite 0xC17 [2]))

/-- SOC_REINIT (R456). -/
def execSocReinit (h : Hdr) (s : State) : Result := .next (s.acts fun a => a.mail h (.regWrite 0xC17 [1]))

/-- STO_RESET (R537). -/
def execStoReset (h : Hdr) (rst : BitVec 2) (s : State) : Result :=
  .next (s.acts fun a => a.mail h (.regWrite 0x150 [BitVec.ofNat 32 (rst.toNat * 4 + a.fld F.AON_STO_REQ_ON)]))

/-- STO_ON_REQUEST (R537). -/
def execStoOnRequest (h : Hdr) (on : BitVec 2) (s : State) : Result :=
  .next (s.acts fun a => a.mail h (.regWrite 0x150 [BitVec.ofNat 32 on.toNat]))

/-- TIM_GC_LDHI (R593). -/
def execTimGcLdhi (h : Hdr) (n : Fin 4) (v : BitVec 32) (s : State) : Result :=
  .next (s.acts fun a => a.mail h (.regWrite (0x323 + 4 * n.val) [v]))

/-- TIM_GC_LDLO (R593). -/
def execTimGcLdlo (h : Hdr) (n : Fin 4) (v : BitVec 32) (s : State) : Result :=
  .next (s.acts fun a => a.mail h (.regWrite (0x322 + 4 * n.val) [v]))

end Sys2Proof.Machine
end

