-- ==== Sys2Proof/Machine/ExecSep.lean ====
section
/-! DEFINITION. Meanings: the Separator, its registers, Q requests, keys and scrub (05, 06, 13, 14). -/
namespace Sys2Proof.Machine

/-! ### Global space (05) -/

/-- MIRROR_WRITE (R16). -/
def execMirrorWrite (w : CoreWr) (idx : BitVec 16) (s : State) : Result :=
  .next (s.acts fun a => a.coreWr w (globBase + 0x440000 + 8 * idx.toNat))

/-- PARTITION_OPEN (R105). -/
def execPartitionOpen (w : CoreWr) (p : Fin 16) (s : State) : Result :=
  .next (s.acts fun a => a.coreWr w (globBase + 0x10000 + 0x100 * p.val))

/-- PARTITION_RECLAIM (R109). -/
def execPartitionReclaim (w : CoreWr) (p : Fin 16) (s : State) : Result :=
  .next (s.acts fun a => a.coreWr w (globBase + 0x10000 + 0x100 * p.val))

/-- PT_TILES_WRITE (R109). -/
def execPtTilesWrite (w : CoreWr) (p : Fin 16) (s : State) : Result :=
  .next (s.acts fun a => a.coreWr w (globBase + 0x10000 + 0x100 * p.val + 8))

/-- PT_PORTS_WRITE (R111). -/
def execPtPortsWrite (w : CoreWr) (p : Fin 16) (s : State) : Result :=
  .next (s.acts fun a => a.coreWr w (globBase + 0x10000 + 0x100 * p.val + 0x18))

/-- PAGE_OWN_WRITE (R107). -/
def execPageOwnWrite (w : CoreWr) (page : Fin 147456) (s : State) : Result :=
  .next (s.acts fun a => a.coreWr w (globBase + 0x100000 + 8 * page.val))

/-- SEP_STW_PROVE (R115). -/
def execSepStwProve (w : CoreWr) (s : State) : Result := .next (s.acts fun a => a.coreWr w (globBase + 0x100))

/-- PAGE_CLEAR_DONE (R109). -/
def execPageClearDone (page : Fin 147456) (s : State) : Result := .next (s.acts fun a => (a.clearDone page.val).powerSettle)

/-- TILE_ZEROING_DONE (R109). -/
def execTileZeroingDone (t : Fin 64) (s : State) : Result := .next (s.acts fun a => (a.zeroDone t.val).powerSettle)

/-- FLT_ACK_WRITE (R561). -/
def execFltAckWrite (w : CoreWr) (code : Byte) (inst : Byte) (s : State) : Result :=
  wfElse (blockNamed code inst) "FLT_ACK_WRITE" (s.acts fun a => a.coreWr w (fltAddr code.toNat inst.toNat))

/-! ### Q requests and responses (06) -/

/-- RD (R146). -/
def execRd (q : QHdr) (len : BitVec 16) (s : State) : Result := .next (s.acts fun a => a.qRow q (.rd len.toNat))

/-- WR (R646). -/
def execWr (q : QHdr) (beFirst beLast : BitVec 4) (data : List Byte) (s : State) : Result :=
  wfElse (dataFits data) "WR" (s.acts fun a => a.qRow q (.wr beFirst.toNat beLast.toNat data))

/-- FADD64 (R146). -/
def execFadd64 (q : QHdr) (addend : BitVec 64) (s : State) : Result := .next (s.acts fun a => a.qRow q (.fadd addend.toNat))

/-- CAS64 (R146). -/
def execCas64 (q : QHdr) (cmp swap : BitVec 64) (s : State) : Result :=
  .next (s.acts fun a => a.qRow q (.cas cmp.toNat swap.toNat))

/-- RD_RSP (R146). -/
def execRdRsp (k : Fin 18) (tag : BitVec 16) (s : State) : Result :=
  .next (s.runs fun a => a.respond k.val tag.toNat 0x41 QOp.isRd)

/-- WR_RSP (R146). -/
def execWrRsp (k : Fin 18) (tag : BitVec 16) (s : State) : Result :=
  .next (s.runs fun a => a.respond k.val tag.toNat 0x42 QOp.isWr)

/-- ATOM_RSP (R146). -/
def execAtomRsp (k : Fin 18) (tag : BitVec 16) (s : State) : Result :=
  .next (s.runs fun a => a.respond k.val tag.toNat 0x43 QOp.isAtom)

/-! ### Partition control (05, 13, 14) -/

/-- SEP_PC_ADMIT (R111). -/
def execSepPcAdmit (w : CoreWr) (s : State) : Result := .next (s.acts fun a => a.coreWr w (partBase + 0x2008))

/-- SEP_RING_EN_WRITE (R340). -/
def execSepRingEnWrite (w : CoreWr) (r : Fin 8) (s : State) : Result :=
  .next (s.acts fun a => a.coreWr w (partBase + 0x1008 + 0x40 * r.val))

/-- SEP_RING_DB (R341). -/
def execSepRingDb (w : CoreWr) (r : Fin 8) (s : State) : Result :=
  .next (s.acts fun a => a.coreWr w (partBase + 0x1010 + 0x40 * r.val))

/-- SEP_CQ_EN_WRITE (R346). -/
def execSepCqEnWrite (w : CoreWr) (s : State) : Result := .next (s.acts fun a => a.coreWr w (partBase + 0x1208))

/-- SEP_CQ_CONS_WRITE (R348). -/
def execSepCqConsWrite (w : CoreWr) (s : State) : Result := .next (s.acts fun a => a.coreWr w (partBase + 0x1218))

/-- PERF_CLEAR (R361). -/
def execPerfClear (w : CoreWr) (s : State) : Result := .next (s.acts fun a => a.coreWr w (partBase + 0x2280))

/-- VAT_PC_KEY_WRITE (R378). -/
def execVatPcKeyWrite (w : CoreWr) (m : Fin 8) (s : State) : Result :=
  .next (s.acts fun a => a.coreWr w (partBase + 0x2400 + 8 * m.val))

/-- KEY_COMMIT (R378). -/
def execKeyCommit (w : CoreWr) (s : State) : Result := .next (s.acts fun a => a.coreWr w (partBase + 0x2440))

/-! ### The Vat's scrub and the governor (14, 15) -/

/-- SCRUB_BURST (R384). -/
def execScrubBurst (q : Fin 128) (e0 e1 e2 e3 : UnitErr) (s : State) : Result :=
  .next (s.offers fun a => a.scrub q.val [e0, e1, e2, e3] false)

/-- FORCED_SCRUB (R385). -/
def execForcedScrub (q : Fin 128) (e0 e1 e2 e3 : UnitErr) (s : State) : Result :=
  .next (s.offers fun a => a.scrub q.val [e0, e1, e2, e3] true)

/-- GOVERNOR_UPDATE (R401). -/
def execGovernorUpdate (sample tj : BitVec 16) (fails : Bool) (s : State) : Result :=
  .next (s.offers fun a => a.govUpdate sample.toNat tj.toNat fails)

/-- ASSIST_LOST (R398). -/
def execAssistLost (s : State) : Result := .next (s.offers fun a => a.assistLost)

/-- OVER_BUDGET (R402). -/
def execOverBudget (s : State) : Result := .next (s.offers fun a => a.overBudget)

/-- IDLE_TRIP (R403). -/
def execIdleTrip (s : State) : Result := .next (s.offers fun a => a.idleTrip)

/-- IDLE_TRIP_RELEASE (R403). -/
def execIdleTripRelease (s : State) : Result := .next (s.offers fun a => a.idleRelease)

end Sys2Proof.Machine
end

