-- ==== Sys2Proof/Machine/ExecSupply.lean ====
section
/-! DEFINITION. Meanings: power, phases, clocks, qualification, pins, recorder and time base (02, 03, 04, 21, 22). -/
namespace Sys2Proof.Machine

/-! ### Aux power and phases (02 R42, R47, 04 R84) -/

/-- AUX_POWER_UP (R42). -/
def execAuxPowerUp (s : State) : Result := .next (s.auxUp)

/-- RESET_END (R84). -/
def execResetEnd (s : State) : Result := .next (s.resetEnd)

/-- AUX_DROP_IN_RESET (R42). -/
def execAuxDropInReset (s : State) : Result := .next (s.auxDrop)

/-- AUX_POWER_FAIL_WARNING (R47). -/
def execAuxPowerFailWarning (s : State) : Result := .next (s.offers fun a => a.auxWarning)

/-- HOLDUP_END (R42). -/
def execHoldupEnd (auxHigh : Bool) (s : State) : Result := .next (s.holdupOver auxHigh)

/-- INPUTS_STAGE_END (R46). -/
def execInputsStageEnd (ok : Bool) (s : State) : Result := .next (s.acts fun a => a.inputsEnd ok)

/-- RECORDER_SCAN_DONE (R590). -/
def execRecorderScanDone (s : State) : Result := .next (s.offers fun a => a.scanEnd)

/-! ### The main feed and the domains (03) -/

/-- MAIN_FEED_LOST (R73). -/
def execMainFeedLost (ovr : Bool) (s : State) : Result := .next (s.acts fun a => a.mainLost ovr)

/-- MAIN_OK_RESTORED (R72). -/
def execMainOkRestored (s : State) : Result := .next (s.runs fun a => a.mainBack)

/-- DOMAIN_READY (R55). -/
def execDomainReady (d : Fin 23) (s : State) : Result :=
  .next (s.acts fun a => if d.val = 9 then (a.domReady d.val).retryAll.powerSettle else a.domReady d.val)

/-- DOMAIN_OFF (R55). -/
def execDomainOff (d : Fin 23) (s : State) : Result :=
  .next (s.acts fun a => if d.val = 9 then (a.domOff d.val).retryAll.powerSettle else a.domOff d.val)

/-- CORE_RAIL_DISCHARGED (R74). -/
def execCoreRailDischarged (s : State) : Result := .next (s.runs fun a => a.discharged)

/-- TG_IDLE_EXPIRY (R63). -/
def execTgIdleExpiry (g : Fin 8) (s : State) : Result := .next (s.acts fun a => a.tgIdle g.val)

/-- ENG_IDLE_EXPIRY (R63). -/
def execEngIdleExpiry (e : Fin 4) (s : State) : Result := .next (s.acts fun a => a.engIdle e.val)

/-- RECORDER_IDLE_OFF (R57). -/
def execRecorderIdleOff (s : State) : Result := .next (s.runs fun a => a.recOff)

/-- HERD_GATED_WAKE (R58). -/
def execHerdGatedWake (s : State) : Result := .next (s.runs fun a => a.milkWake)

/-- FREQ_STEP_DONE (R66). -/
def execFreqStepDone (g : Fin 8) (s : State) : Result := .next (s.runs fun a => a.freqStep g.val)

/-! ### Clock monitors and hard limits (03 R68, R75) -/

/-- CK00_FAIL (R68). -/
def execCk00Fail (s : State) : Result := .next (s.offers fun a => a.slowFail)

/-- CK00_RECOVER (R68). -/
def execCk00Recover (s : State) : Result := .next (s.runs fun a => a.slowBack)

/-- CK08_FAIL (R68). -/
def execCk08Fail (s : State) : Result := .next (s.offers fun a => a.xsFail)

/-- CK08_RECOVER (R623). -/
def execCk08Recover (s : State) : Result := .next (s.runs fun a => a.xsBack)

/-- CK09_FAIL (R68). -/
def execCk09Fail (s : State) : Result := .next (s.acts fun a => a.clockLost F.CLK_MON_EVT_REF_FAIL 0x03)

/-- CK10_OVERFREQ (R68). -/
def execCk10Overfreq (s : State) : Result := .next (s.acts fun a => a.clockLost F.CLK_MON_EVT_SEP_OVF 0x04)

/-- TG_CLOCK_OVERFREQ (R68). -/
def execTgClockOverfreq (g : Fin 8) (s : State) : Result := .next (s.acts fun a => a.tgTrip g.val false)

/-- TG_RAIL_OVERVOLTAGE (R75). -/
def execTgRailOvervoltage (g : Fin 8) (s : State) : Result := .next (s.acts fun a => a.tgTrip g.val true)

/-- CORE_JUNCTION_TRIP (R75). -/
def execCoreJunctionTrip (tj : BitVec 16) (s : State) : Result := .next (s.acts fun a => a.coreTrip tj.toNat)

/-- THERMAL_DIODE_READ (R75). -/
def execThermalDiodeRead (t0 t1 t2 t3 t4 : BitVec 16) (s : State) : Result :=
  .next (s.acts fun a => a.diodes [t0.toInt, t1.toInt, t2.toInt, t3.toInt, t4.toInt])

/-- SUP_JUNCTION_TRIP (R75). -/
def execSupJunctionTrip (tj : BitVec 16) (s : State) : Result := .next (s.acts fun a => a.supTrip tj.toNat)

/-- SUP_JUNCTION_RELEASE (R75). -/
def execSupJunctionRelease (tj : BitVec 16) (s : State) : Result := .next (s.runs fun a => a.supRelease tj.toNat)

/-! ### Qualification (04) -/

/-- QUAL_SELFTEST_DONE (R86). -/
def execQualSelftestDone (g : Fin 8) (rows cols : BitVec 32) (s : State) : Result :=
  .next (s.acts fun a => (a.selftestDone g.val rows.toNat cols.toNat).powerSettle)

/-- QUAL_RAMP_DONE (R86). -/
def execQualRampDone (g : Fin 8) (pass : Bool) (s : State) : Result :=
  .next (s.acts fun a => (a.rampEnd g.val pass).powerSettle)

/-! ### Safety inputs and STO outputs (20) -/

/-- SAFETY_INPUT_DEMAND (R530). -/
def execSafetyInputDemand (n : Fin 8) (chB : Bool) (s : State) : Result := .next (s.atPins fun a => a.siDemand n.val chB)

/-- SAFETY_INPUT_CLEAR (R530). -/
def execSafetyInputClear (n : Fin 8) (s : State) : Result := .next (s.atPins fun a => a.siClear n.val)

/-- INPUT_SHORT (R529). -/
def execInputShort (n : Fin 8) (_chB : Bool) (s : State) : Result :=
  .next (s.acts fun a => a.siFaulted F.RND_SI_FLT_SHORT n.val)

/-- INPUT_CROSS (R529). -/
def execInputCross (n : Fin 8) (_chB : Bool) (s : State) : Result :=
  .next (s.acts fun a => a.siFaulted F.RND_SI_FLT_CROSS n.val)

/-- INPUT_DISCREPANCY (R529). -/
def execInputDiscrepancy (n : Fin 8) (s : State) : Result := .next (s.acts fun a => a.siDiscrepancy n.val)

/-- STO_OFF_PULSE (R535). -/
def execStoOffPulse (k : Fin 2) (e : Fin 3) (ok : Bool) (s : State) : Result :=
  .next (s.offers fun a => a.stoPulse k.val e.val ok)

/-- STO_READBACK_FAULT (R535). -/
def execStoReadbackFault (k : Fin 2) (off : Bool) (s : State) : Result := .next (s.offers fun a => a.stoReadback k.val off)

/-- STO_CURRENT_LIMIT (R534). -/
def execStoCurrentLimit (k : Fin 2) (s : State) : Result := .next (s.offers fun a => a.stoLimit k.val)

/-- STO_ENERGISE (R537). -/
def execStoEnergise (k : Fin 2) (ok : Bool) (s : State) : Result := .next (s.offers fun a => a.stoEnergise k.val ok)

/-- CROSS_LINK_LOSS (R538). -/
def execCrossLinkLoss (s : State) : Result := .next (s.acts fun a => a.channelFault)

/-- CHANNEL_FAULT (R541). -/
def execChannelFault (s : State) : Result := .next (s.acts fun a => a.channelFault)

/-- CONFIG_CRC_CHECK (R539). -/
def execConfigCrcCheck (ok : Bool) (s : State) : Result := .next (s.acts fun a => if ok then a else a.channelFault)

/-! ### Pins (01, 02) -/

/-- SVC_KEY_CHANGE (R21). -/
def execSvcKeyChange (on : Bool) (s : State) : Result := .next (s.atPins fun a => a.svcKey on)

/-- WAKE_IN_CHANGE (R69). -/
def execWakeInChange (on : Bool) (s : State) : Result := .next (s.atPins fun a => a.wakeIn on)

/-- LIGHT_CHANGE (R183). -/
def execLightChange (p : Fin 16) (on : Bool) (s : State) : Result := .next (s.atPins fun a => a.lightChange p.val on)

/-- LSC_PRES_CHANGE (R51). -/
def execLscPresChange (mated : Bool) (s : State) : Result := .next (s.atPins fun a => a.lscPres mated)

/-- FIELD_CONNECTOR_CHANGE (R49). -/
def execFieldConnectorChange (mated : Bool) (s : State) : Result := .next (s.atPins fun a => a.fieldConn mated)

/-- BATTERY_HARNESS_CHANGE (R50). -/
def execBatteryHarnessChange (hpres bjl : Bool) (s : State) : Result := .next (s.atPins fun a => a.harness hpres bjl)

/-- COPPER_CABLE_CHANGE (R52). -/
def execCopperCableChange (c : Fin 2) (present : Bool) (s : State) : Result := .next (s.cableChange c.val present)

/-- NID_STRAP_CHANGE (R54). -/
def execNidStrapChange (nid : Fin 16) (s : State) : Result := .next (s.nidStrap nid.val)

/-- FLT_WIRE_SET (R41). -/
def execFltWireSet (read : BitVec 2) (s : State) : Result := .next (s.offers fun a => a.fltWire read.toNat)

/-- FLT_WIRE_CLEAR (R41). -/
def execFltWireClear (read : BitVec 2) (s : State) : Result := .next (s.runs fun a => a.fltWireEnd read.toNat)

/-! ### Faults (21) -/

/-- QUIET_EXPIRY (R568). -/
def execQuietExpiry (code : Byte) (inst : Byte) (s : State) : Result :=
  wfElse (blockNamed code inst) "QUIET_EXPIRY" (s.acts fun a => (a.quietEnd code.toNat inst.toNat).powerSettle)

/-- SHADOW_END (R573). -/
def execShadowEnd (kind : Fin 6) (inst : Byte) (still : List DetRef) (s : State) : Result :=
  .next (s.acts fun a => (a.shadowEnd kind.val inst.toNat still).powerSettle)

/-! ### Recorder and time (22) -/

/-- PAGE_PROGRAM_START (R585). -/
def execPageProgramStart (s : State) : Result := .next (s.offers fun a => a.progStart)

/-- PAGE_PROGRAM_DONE (R585). -/
def execPageProgramDone (ok : Bool) (s : State) : Result := .next (s.offers fun a => a.progDone ok)

/-- SECTOR_ERASE_DONE (R581). -/
def execSectorEraseDone (ok : Bool) (s : State) : Result := .next (s.offers fun a => a.eraseDone ok)

/-- TIME_STORE_WRITE (R588). -/
def execTimeStoreWrite (s : State) : Result := .next (s.runs fun a => a.timeStore)

/-- GC_OVERFLOW (R593). -/
def execGcOverflow (n : Fin 4) (s : State) : Result := .next (s.runs fun a => a.gcWraps n.val)

/-- RS_LOW_READ (R592). -/
def execRsLowRead (port : Bool) (req : Fin 18) (idx : BitVec 16) (s : State) : Result :=
  wfElse (requesterExists port req) "RS_LOW_READ" (s.runs fun a => if port then a.rsPort req.val idx.toNat else (a.supRead req.val idx.toNat).2)

end Sys2Proof.Machine
end

