-- ==== Sys2Proof/Machine/ExecTile.lean ====
section
/-! DEFINITION. Meanings: tile instructions, tiles and rings (09, 11, 12, 13). -/
namespace Sys2Proof.Machine

/-! ### Instructions that issue (11, 12) -/

/-- NOP (R274). -/
def execNop (t : Fin 64) (s : State) : Result := .next (s.offers fun a => a.nop t.val)

/-- LDV (R286). -/
def execLdv (t : Fin 64) (ch : Bool) (n : Fin 4097) (s : State) : Result :=
  .next (s.acts fun a => (a.ladle t.val ch oLDV n.val).powerSettle)

/-- STV (R286). -/
def execStv (t : Fin 64) (ch : Bool) (n : Fin 4097) (s : State) : Result :=
  .next (s.acts fun a => (a.ladle t.val ch oSTV n.val).powerSettle)

/-- SLD (R292). -/
def execSld (t : Fin 64) (s : State) : Result := .next (s.offers fun a => a.sld t.val)

/-- MPASS (R297). -/
def execMpass (t : Fin 64) (n : Fin 4097) (s : State) : Result := .next (s.offers fun a => a.mpass t.val n.val)

/-- RBSET (R296). -/
def execRbset (t : Fin 64) (s : State) : Result := .next (s.offers fun a => a.rbset t.val)

/-- VOP (R314). -/
def execVop (t : Fin 64) (n : Fin 4097) (s : State) : Result := .next (s.offers fun a => a.vector t.val oVOP n.val)

/-- VRED (R316). -/
def execVred (t : Fin 64) (n : Fin 4097) (s : State) : Result := .next (s.offers fun a => a.vector t.val oVRED n.val)

/-- VCVT (R318). -/
def execVcvt (t : Fin 64) (n : Fin 4097) (s : State) : Result := .next (s.offers fun a => a.vector t.val oVCVT n.val)

/-- VTOPK (R319). -/
def execVtopk (t : Fin 64) (n : Fin 4097) (s : State) : Result := .next (s.offers fun a => a.vector t.val oVTOPK n.val)

/-- XSIG (R321). -/
def execXsig (t : Fin 64) (s : State) : Result := .next (s.acts fun a => (a.xsig t.val).powerSettle)

/-- BAR (R322). -/
def execBar (t : Fin 64) (s : State) : Result := .next (s.offers fun a => a.barrier t.val)

/-- TCLR (R323). -/
def execTclr (t : Fin 64) (s : State) : Result := .next (s.offers fun a => a.tclr t.val)

/-- LOOP (R324). -/
def execLoop (t : Fin 64) (s : State) : Result := .next (s.offers fun a => a.loopOpen t.val)

/-- CPL (R328). -/
def execCpl (t : Fin 64) (s : State) : Result := .next (s.acts fun a => (a.cpl t.val).powerSettle)

/-- HMSG (R329). -/
def execHmsg (t : Fin 64) (rep : PailRep) (s : State) : Result := .next (s.offers fun a => a.hmsg t.val rep)

/-! ### What follows (11, 12, 13) -/

/-- XSIG_DELIVER (R334). -/
def execXsigDeliver (t : Fin 64) (s : State) : Result := .next (s.acts fun a => (a.xsigDeliver t.val).powerSettle)

/-- BARRIER_COMPLETE (R322). -/
def execBarrierComplete (p : Fin 16) (b : Fin 16) (s : State) : Result := .next (s.offers fun a => a.barComplete p.val b.val)

/-- INSTRUCTION_COMPLETE (R277). -/
def execInstructionComplete (t : Fin 64) (i : Fin 32) (rep : PailRep) (s : State) : Result :=
  .next (s.acts fun a => (a.instrComplete t.val i.val rep).powerSettle)

/-- SHADOW_LOAD_DONE (R227). -/
def execShadowLoadDone (t : Fin 64) (rep : PailRep) (s : State) : Result := .next (s.offers fun a => a.shadowLoadDone t.val rep)

/-- RAMP_DOWN (R240). -/
def execRampDown (t : Fin 64) (s : State) : Result := .next (s.runs fun a => a.rampDown t.val)

/-- RAMP_GRANT (R404). -/
def execRampGrant (t : Fin 64) (s : State) : Result := .next (s.runs fun a => a.rampGrant t.val)

/-! ### Rings (13) -/

/-- RING_FETCH (R343). -/
def execRingFetch (p : Fin 16) (t : Fin 64) (s : State) : Result :=
  .next (s.acts fun a => (a.ringFetch p.val t.val).powerSettle)

/-- RFENCE (R327). -/
def execRfence (p : Fin 16) (r : Fin 8) (s : State) : Result := .next (s.acts fun a => (a.rfence p.val r.val).powerSettle)

/-- PREEMPTION_RESUME (R353). -/
def execPreemptionResume (t : Fin 64) (s : State) : Result := .next (s.offers fun a => a.resume t.val)

/-- TELEMETRY_PERIOD (R362). -/
def execTelemetryPeriod (p : Fin 16) (count : BitVec 64) (s : State) : Result :=
  .next (s.runs fun a => a.telemetry p.val count.toNat)

end Sys2Proof.Machine
end

