-- ==== Sys2Proof/Machine/Dispatch.lean ====
section
/-! DEFINITION. The dispatch of commands to their meanings: one arm per row of spec/opcode_table.json. -/
namespace Sys2Proof.Machine

/-- The effect of a command on everything but the queue. -/
def exec (i : Instr) (s : State) : Host.Outcome State Fault Refusal :=
  match i with
  | .auxPowerUp => Sys2Proof.Machine.execAuxPowerUp s
  | .resetEnd => Sys2Proof.Machine.execResetEnd s
  | .auxDropInReset => Sys2Proof.Machine.execAuxDropInReset s
  | .auxPowerFailWarning => Sys2Proof.Machine.execAuxPowerFailWarning s
  | .holdupEnd auxHigh => Sys2Proof.Machine.execHoldupEnd auxHigh s
  | .inputsStageEnd ok => Sys2Proof.Machine.execInputsStageEnd ok s
  | .recorderScanDone => Sys2Proof.Machine.execRecorderScanDone s
  | .mainFeedLost ovr => Sys2Proof.Machine.execMainFeedLost ovr s
  | .mainOkRestored => Sys2Proof.Machine.execMainOkRestored s
  | .aonPdReqWrite h v => Sys2Proof.Machine.execAonPdReqWrite h v s
  | .domainReady d => Sys2Proof.Machine.execDomainReady d s
  | .domainOff d => Sys2Proof.Machine.execDomainOff d s
  | .coreRailDischarged => Sys2Proof.Machine.execCoreRailDischarged s
  | .tgIdleExpiry g => Sys2Proof.Machine.execTgIdleExpiry g s
  | .engIdleExpiry e => Sys2Proof.Machine.execEngIdleExpiry e s
  | .recorderIdleOff => Sys2Proof.Machine.execRecorderIdleOff s
  | .herdGatedWake => Sys2Proof.Machine.execHerdGatedWake s
  | .clkTgFreqWrite h g v => Sys2Proof.Machine.execClkTgFreqWrite h g v s
  | .freqStepDone g => Sys2Proof.Machine.execFreqStepDone g s
  | .ck00Fail => Sys2Proof.Machine.execCk00Fail s
  | .ck00Recover => Sys2Proof.Machine.execCk00Recover s
  | .ck08Fail => Sys2Proof.Machine.execCk08Fail s
  | .ck09Fail => Sys2Proof.Machine.execCk09Fail s
  | .ck10Overfreq => Sys2Proof.Machine.execCk10Overfreq s
  | .tgClockOverfreq g => Sys2Proof.Machine.execTgClockOverfreq g s
  | .tgRailOvervoltage g => Sys2Proof.Machine.execTgRailOvervoltage g s
  | .coreJunctionTrip tj => Sys2Proof.Machine.execCoreJunctionTrip tj s
  | .thermalDiodeRead t0 t1 t2 t3 t4 => Sys2Proof.Machine.execThermalDiodeRead t0 t1 t2 t3 t4 s
  | .supJunctionTrip tj => Sys2Proof.Machine.execSupJunctionTrip tj s
  | .supJunctionRelease tj => Sys2Proof.Machine.execSupJunctionRelease tj s
  | .safetyInputDemand n chB => Sys2Proof.Machine.execSafetyInputDemand n chB s
  | .safetyInputClear n => Sys2Proof.Machine.execSafetyInputClear n s
  | .inputShort n chB => Sys2Proof.Machine.execInputShort n chB s
  | .inputCross n chB => Sys2Proof.Machine.execInputCross n chB s
  | .inputDiscrepancy n => Sys2Proof.Machine.execInputDiscrepancy n s
  | .svcKeyChange on => Sys2Proof.Machine.execSvcKeyChange on s
  | .wakeInChange on => Sys2Proof.Machine.execWakeInChange on s
  | .lightChange p on => Sys2Proof.Machine.execLightChange p on s
  | .lscPresChange mated => Sys2Proof.Machine.execLscPresChange mated s
  | .fieldConnectorChange mated => Sys2Proof.Machine.execFieldConnectorChange mated s
  | .batteryHarnessChange hpres bjl => Sys2Proof.Machine.execBatteryHarnessChange hpres bjl s
  | .copperCableChange c present => Sys2Proof.Machine.execCopperCableChange c present s
  | .nidStrapChange nid => Sys2Proof.Machine.execNidStrapChange nid s
  | .fltWireSet read => Sys2Proof.Machine.execFltWireSet read s
  | .fltWireClear read => Sys2Proof.Machine.execFltWireClear read s
  | .qualSelftestDone g rows cols => Sys2Proof.Machine.execQualSelftestDone g rows cols s
  | .qualRampDone g pass => Sys2Proof.Machine.execQualRampDone g pass s
  | .tWidenExpiry k => Sys2Proof.Machine.execTWidenExpiry k s
  | .decisionTick => Sys2Proof.Machine.execDecisionTick s
  | .frameReceive dst src etherType payload fcs => Sys2Proof.Machine.execFrameReceive dst src etherType payload fcs s
  | .hello h feat src => Sys2Proof.Machine.execHello h feat src s
  | .caps h => Sys2Proof.Machine.execCaps h s
  | .regRead h idx count => Sys2Proof.Machine.execRegRead h idx count s
  | .regWrite h idx vals => Sys2Proof.Machine.execRegWrite h idx vals s
  | .timeRead h => Sys2Proof.Machine.execTimeRead h s
  | .recordRead h start count => Sys2Proof.Machine.execRecordRead h start count s
  | .safetyCfgRead h => Sys2Proof.Machine.execSafetyCfgRead h s
  | .stewardClaim h force => Sys2Proof.Machine.execStewardClaim h force s
  | .stewardRenew h => Sys2Proof.Machine.execStewardRenew h s
  | .stewardRelease h => Sys2Proof.Machine.execStewardRelease h s
  | .leaseExpiry => Sys2Proof.Machine.execLeaseExpiry s
  | .wake h mask => Sys2Proof.Machine.execWake h mask s
  | .sleepHint h mask vat core => Sys2Proof.Machine.execSleepHint h mask vat core s
  | .contactorCmd h c close force => Sys2Proof.Machine.execContactorCmd h c close force s
  | .lswCmd h n on cfg ilim blank => Sys2Proof.Machine.execLswCmd h n on cfg ilim blank s
  | .loopSet h n microamps => Sys2Proof.Machine.execLoopSet h n microamps s
  | .powerShareSet h p reserve => Sys2Proof.Machine.execPowerShareSet h p reserve s
  | .limitsetLoad h image => Sys2Proof.Machine.execLimitsetLoad h image s
  | .modelLoad h image => Sys2Proof.Machine.execModelLoad h image s
  | .safetyCfgLoad h image => Sys2Proof.Machine.execSafetyCfgLoad h image s
  | .faultAck h code inst => Sys2Proof.Machine.execFaultAck h code inst s
  | .mgtPlcaWrite h v => Sys2Proof.Machine.execMgtPlcaWrite h v s
  | .plcaFail => Sys2Proof.Machine.execPlcaFail s
  | .mgtKeyCommit h auth key slot => Sys2Proof.Machine.execMgtKeyCommit h auth key slot s
  | .mgtKeyErase h slot => Sys2Proof.Machine.execMgtKeyErase h slot s
  | .mirrorWrite w idx => Sys2Proof.Machine.execMirrorWrite w idx s
  | .rsLowRead port req idx => Sys2Proof.Machine.execRsLowRead port req idx s
  | .partitionOpen w p => Sys2Proof.Machine.execPartitionOpen w p s
  | .partitionReclaim w p => Sys2Proof.Machine.execPartitionReclaim w p s
  | .ptTilesWrite w p => Sys2Proof.Machine.execPtTilesWrite w p s
  | .pageOwnWrite w page => Sys2Proof.Machine.execPageOwnWrite w page s
  | .pageClearDone page => Sys2Proof.Machine.execPageClearDone page s
  | .tileZeroingDone t => Sys2Proof.Machine.execTileZeroingDone t s
  | .ptPortsWrite w p => Sys2Proof.Machine.execPtPortsWrite w p s
  | .sepPcAdmit w => Sys2Proof.Machine.execSepPcAdmit w s
  | .sepStwProve w => Sys2Proof.Machine.execSepStwProve w s
  | .rd q len => Sys2Proof.Machine.execRd q len s
  | .wr q beFirst beLast data => Sys2Proof.Machine.execWr q beFirst beLast data s
  | .fadd64 q addend => Sys2Proof.Machine.execFadd64 q addend s
  | .cas64 q cmp swap => Sys2Proof.Machine.execCas64 q cmp swap s
  | .rdRsp k tag => Sys2Proof.Machine.execRdRsp k tag s
  | .wrRsp k tag => Sys2Proof.Machine.execWrRsp k tag s
  | .atomRsp k tag => Sys2Proof.Machine.execAtomRsp k tag s
  | .lnkEnWrite w k => Sys2Proof.Machine.execLnkEnWrite w k s
  | .lnkRetrainWrite w k => Sys2Proof.Machine.execLnkRetrainWrite w k s
  | .lnkLoopReqWrite w k => Sys2Proof.Machine.execLnkLoopReqWrite w k s
  | .flitReceive k flit => Sys2Proof.Machine.execFlitReceive k flit s
  | .nakTimeout k => Sys2Proof.Machine.execNakTimeout k s
  | .replayTimeout k => Sys2Proof.Machine.execReplayTimeout k s
  | .init k m => Sys2Proof.Machine.execInit k m s
  | .tInitExpiry k => Sys2Proof.Machine.execTInitExpiry k s
  | .widthReq k txid mask sent => Sys2Proof.Machine.execWidthReq k txid mask sent s
  | .widthAck k txid mask m => Sys2Proof.Machine.execWidthAck k txid mask m s
  | .widthSwitch k rx => Sys2Proof.Machine.execWidthSwitch k rx s
  | .remapReq k txid theyReceive fail lane b => Sys2Proof.Machine.execRemapReq k txid theyReceive fail lane b s
  | .remapRdy k txid lane b sent => Sys2Proof.Machine.execRemapRdy k txid lane b sent s
  | .remapSw k txid lane b m => Sys2Proof.Machine.execRemapSw k txid lane b m s
  | .remapSwitch k rx => Sys2Proof.Machine.execRemapSwitch k rx s
  | .remapAbort k txid lane reason => Sys2Proof.Machine.execRemapAbort k txid lane reason s
  | .loopReq k => Sys2Proof.Machine.execLoopReq k s
  | .loopAck k txid => Sys2Proof.Machine.execLoopAck k txid s
  | .retrain k txid => Sys2Proof.Machine.execRetrain k txid s
  | .tAcqExpiry k => Sys2Proof.Machine.execTAcqExpiry k s
  | .tAlignExpiry k => Sys2Proof.Machine.execTAlignExpiry k s
  | .tLmExpiry k hs => Sys2Proof.Machine.execTLmExpiry k hs s
  | .tRemapExpiry k rx => Sys2Proof.Machine.execTRemapExpiry k rx s
  | .tRetryExpiry k => Sys2Proof.Machine.execTRetryExpiry k s
  | .laneLos k lane => Sys2Proof.Machine.execLaneLos k lane s
  | .laneLosClear k lane => Sys2Proof.Machine.execLaneLosClear k lane s
  | .laneLock k lane => Sys2Proof.Machine.execLaneLock k lane s
  | .laneLockLoss k lane => Sys2Proof.Machine.execLaneLockLoss k lane s
  | .fwdClockLockLoss k => Sys2Proof.Machine.execFwdClockLockLoss k s
  | .markerAligned k lane => Sys2Proof.Machine.execMarkerAligned k lane s
  | .markerAlignmentLoss k lane => Sys2Proof.Machine.execMarkerAlignmentLoss k lane s
  | .losBlankingEnd k los => Sys2Proof.Machine.execLosBlankingEnd k los s
  | .lnkTxeqWrite w k => Sys2Proof.Machine.execLnkTxeqWrite w k s
  | .lnkSscWrite w k => Sys2Proof.Machine.execLnkSscWrite w k s
  | .dfeReset w k => Sys2Proof.Machine.execDfeReset w k s
  | .dfeFreezeWrite w k => Sys2Proof.Machine.execDfeFreezeWrite w k s
  | .dfeTapSaturated k lane tap => Sys2Proof.Machine.execDfeTapSaturated k lane tap s
  | .pyuReset w e => Sys2Proof.Machine.execPyuReset w e s
  | .engineResetDone e => Sys2Proof.Machine.execEngineResetDone e s
  | .lscReadyTimeout e carId => Sys2Proof.Machine.execLscReadyTimeout e carId s
  | .bankLock e failed => Sys2Proof.Machine.execBankLock e failed s
  | .bankFault e => Sys2Proof.Machine.execBankFault e s
  | .laserFailDeclare e x => Sys2Proof.Machine.execLaserFailDeclare e x s
  | .ringCalibrationDone k rx wl => Sys2Proof.Machine.execRingCalibrationDone k rx wl s
  | .spareRecalTimer k rx wl => Sys2Proof.Machine.execSpareRecalTimer k rx wl s
  | .rotationStart k rx low => Sys2Proof.Machine.execRotationStart k rx low s
  | .ringRangeEnd k rx wl => Sys2Proof.Machine.execRingRangeEnd k rx wl s
  | .lambda16Los k => Sys2Proof.Machine.execLambda16Los k s
  | .probeBurst k => Sys2Proof.Machine.execProbeBurst k s
  | .probeBurstEnd k => Sys2Proof.Machine.execProbeBurstEnd k s
  | .lenDrop lineB => Sys2Proof.Machine.execLenDrop lineB s
  | .lscPoll x => Sys2Proof.Machine.execLscPoll x s
  | .lscWinWrite w => Sys2Proof.Machine.execLscWinWrite w s
  | .lscFrameDone stat data => Sys2Proof.Machine.execLscFrameDone stat data s
  | .nop t => Sys2Proof.Machine.execNop t s
  | .ldv t ch n => Sys2Proof.Machine.execLdv t ch n s
  | .stv t ch n => Sys2Proof.Machine.execStv t ch n s
  | .sld t => Sys2Proof.Machine.execSld t s
  | .mpass t n => Sys2Proof.Machine.execMpass t n s
  | .rbset t => Sys2Proof.Machine.execRbset t s
  | .vop t n => Sys2Proof.Machine.execVop t n s
  | .vred t n => Sys2Proof.Machine.execVred t n s
  | .vcvt t n => Sys2Proof.Machine.execVcvt t n s
  | .vtopk t n => Sys2Proof.Machine.execVtopk t n s
  | .xsig t => Sys2Proof.Machine.execXsig t s
  | .xsigDeliver t => Sys2Proof.Machine.execXsigDeliver t s
  | .bar t => Sys2Proof.Machine.execBar t s
  | .barrierComplete p b => Sys2Proof.Machine.execBarrierComplete p b s
  | .tclr t => Sys2Proof.Machine.execTclr t s
  | .loop t => Sys2Proof.Machine.execLoop t s
  | .rfence p r => Sys2Proof.Machine.execRfence p r s
  | .cpl t => Sys2Proof.Machine.execCpl t s
  | .hmsg t rep => Sys2Proof.Machine.execHmsg t rep s
  | .instructionComplete t k rep => Sys2Proof.Machine.execInstructionComplete t k rep s
  | .shadowLoadDone t rep => Sys2Proof.Machine.execShadowLoadDone t rep s
  | .rampDown t => Sys2Proof.Machine.execRampDown t s
  | .rampGrant t => Sys2Proof.Machine.execRampGrant t s
  | .ringFetch p t => Sys2Proof.Machine.execRingFetch p t s
  | .preemptionResume t => Sys2Proof.Machine.execPreemptionResume t s
  | .sepRingEnWrite w r => Sys2Proof.Machine.execSepRingEnWrite w r s
  | .sepRingDb w r => Sys2Proof.Machine.execSepRingDb w r s
  | .sepCqEnWrite w => Sys2Proof.Machine.execSepCqEnWrite w s
  | .sepCqConsWrite w => Sys2Proof.Machine.execSepCqConsWrite w s
  | .perfClear w => Sys2Proof.Machine.execPerfClear w s
  | .telemetryPeriod p count => Sys2Proof.Machine.execTelemetryPeriod p count s
  | .vatPcKeyWrite w m => Sys2Proof.Machine.execVatPcKeyWrite w m s
  | .keyCommit w => Sys2Proof.Machine.execKeyCommit w s
  | .scrubBurst q e0 e1 e2 e3 => Sys2Proof.Machine.execScrubBurst q e0 e1 e2 e3 s
  | .forcedScrub q e0 e1 e2 e3 => Sys2Proof.Machine.execForcedScrub q e0 e1 e2 e3 s
  | .governorUpdate sample tj fails => Sys2Proof.Machine.execGovernorUpdate sample tj fails s
  | .assistLost => Sys2Proof.Machine.execAssistLost s
  | .overBudget => Sys2Proof.Machine.execOverBudget s
  | .idleTrip => Sys2Proof.Machine.execIdleTrip s
  | .idleTripRelease => Sys2Proof.Machine.execIdleTripRelease s
  | .milkRoundStart lo lr => Sys2Proof.Machine.execMilkRoundStart lo lr s
  | .syncMeasure p cells temps wire recent => Sys2Proof.Machine.execSyncMeasure p cells temps wire recent s
  | .read ret us line => Sys2Proof.Machine.execRead ret us line s
  | .data ret rx => Sys2Proof.Machine.execData ret rx s
  | .responseTimeout ret => Sys2Proof.Machine.execResponseTimeout ret s
  | .echoTimeout => Sys2Proof.Machine.execEchoTimeout s
  | .milkRoundComplete dur => Sys2Proof.Machine.execMilkRoundComplete dur s
  | .enum ret line => Sys2Proof.Machine.execEnum ret line s
  | .enumRsp ret rx => Sys2Proof.Machine.execEnumRsp ret rx s
  | .setup a line lost rx => Sys2Proof.Machine.execSetup a line lost rx s
  | .resetMon lo lr => Sys2Proof.Machine.execResetMon lo lr s
  | .sleep lo lr => Sys2Proof.Machine.execSleep lo lr s
  | .ping line => Sys2Proof.Machine.execPing line s
  | .enumeration => Sys2Proof.Machine.execEnumeration s
  | .hrdEnumWrite h v => Sys2Proof.Machine.execHrdEnumWrite h v s
  | .hrdRunWrite h v => Sys2Proof.Machine.execHrdRunWrite h v s
  | .monitorStandby p => Sys2Proof.Machine.execMonitorStandby p s
  | .monitorSleep p => Sys2Proof.Machine.execMonitorSleep p s
  | .monitorWake p powerUp uid maker => Sys2Proof.Machine.execMonitorWake p powerUp uid maker s
  | .isoDwellEnd => Sys2Proof.Machine.execIsoDwellEnd s
  | .autoGainUp => Sys2Proof.Machine.execAutoGainUp s
  | .pkmCfgWrite h c v => Sys2Proof.Machine.execPkmCfgWrite h c v s
  | .syncSampleTimeout c => Sys2Proof.Machine.execSyncSampleTimeout c s
  | .conditionConfirm n => Sys2Proof.Machine.execConditionConfirm n s
  | .brkWaitExpiry => Sys2Proof.Machine.execBrkWaitExpiry s
  | .chargeOnlyOvercurrent => Sys2Proof.Machine.execChargeOnlyOvercurrent s
  | .sohReset h => Sys2Proof.Machine.execSohReset h s
  | .socReinit h => Sys2Proof.Machine.execSocReinit h s
  | .estimationStateRecord => Sys2Proof.Machine.execEstimationStateRecord s
  | .auxContactChange c closed => Sys2Proof.Machine.execAuxContactChange c closed s
  | .testWindowExpiry => Sys2Proof.Machine.execTestWindowExpiry s
  | .prechargeTimeout => Sys2Proof.Machine.execPrechargeTimeout s
  | .coilPeakEnd c => Sys2Proof.Machine.execCoilPeakEnd c s
  | .coilShort c => Sys2Proof.Machine.execCoilShort c s
  | .coilOpen c => Sys2Proof.Machine.execCoilOpen c s
  | .auxMismatch c => Sys2Proof.Machine.execAuxMismatch c s
  | .weldCheck c => Sys2Proof.Machine.execWeldCheck c s
  | .doubleWeldCheck => Sys2Proof.Machine.execDoubleWeldCheck s
  | .dropout => Sys2Proof.Machine.execDropout s
  | .coolDownEnd => Sys2Proof.Machine.execCoolDownEnd s
  | .lswOvercurrentLatch n => Sys2Proof.Machine.execLswOvercurrentLatch n s
  | .lswThermalLatch n => Sys2Proof.Machine.execLswThermalLatch n s
  | .blankingEnd n => Sys2Proof.Machine.execBlankingEnd n s
  | .openLoadSet n => Sys2Proof.Machine.execOpenLoadSet n s
  | .openLoadClear n => Sys2Proof.Machine.execOpenLoadClear n s
  | .vfldUndervoltage vfld => Sys2Proof.Machine.execVfldUndervoltage vfld s
  | .vfldRestore => Sys2Proof.Machine.execVfldRestore s
  | .loopCompliance n => Sys2Proof.Machine.execLoopCompliance n s
  | .lisFoldback n => Sys2Proof.Machine.execLisFoldback n s
  | .lisRetry n ok => Sys2Proof.Machine.execLisRetry n ok s
  | .touchKeyTouch k => Sys2Proof.Machine.execTouchKeyTouch k s
  | .touchKeyRelease k => Sys2Proof.Machine.execTouchKeyRelease k s
  | .touchKeyStuck k => Sys2Proof.Machine.execTouchKeyStuck k s
  | .stoOffPulse k e ok => Sys2Proof.Machine.execStoOffPulse k e ok s
  | .stoReset h rst => Sys2Proof.Machine.execStoReset h rst s
  | .stoOnRequest h on => Sys2Proof.Machine.execStoOnRequest h on s
  | .stoEnergise k ok => Sys2Proof.Machine.execStoEnergise k ok s
  | .crossLinkLoss => Sys2Proof.Machine.execCrossLinkLoss s
  | .channelFault => Sys2Proof.Machine.execChannelFault s
  | .configCrcCheck ok => Sys2Proof.Machine.execConfigCrcCheck ok s
  | .quietExpiry code inst => Sys2Proof.Machine.execQuietExpiry code inst s
  | .fltAckWrite w code inst => Sys2Proof.Machine.execFltAckWrite w code inst s
  | .shadowEnd kind inst still => Sys2Proof.Machine.execShadowEnd kind inst still s
  | .pageProgramStart => Sys2Proof.Machine.execPageProgramStart s
  | .pageProgramDone ok => Sys2Proof.Machine.execPageProgramDone ok s
  | .sectorEraseDone ok => Sys2Proof.Machine.execSectorEraseDone ok s
  | .timeStoreWrite => Sys2Proof.Machine.execTimeStoreWrite s
  | .gcOverflow n => Sys2Proof.Machine.execGcOverflow n s
  | .timGcLdhi h n v => Sys2Proof.Machine.execTimGcLdhi h n v s
  | .timGcLdlo h n v => Sys2Proof.Machine.execTimGcLdlo h n v s
  | .packSample c raw ovr bad n hall early half => Sys2Proof.Machine.execPackSample c raw ovr bad n hall early half s
  | .ck08Recover => Sys2Proof.Machine.execCk08Recover s
  | .plcaStatusChange ok => Sys2Proof.Machine.execPlcaStatusChange ok s
  | .stoReadbackFault k off => Sys2Proof.Machine.execStoReadbackFault k off s
  | .stoCurrentLimit k => Sys2Proof.Machine.execStoCurrentLimit k s
  | .balTimeExpiry p => Sys2Proof.Machine.execBalTimeExpiry p s
  | .loopMeasurement o0 o1 o2 o3 i0 i1 i2 i3 => Sys2Proof.Machine.execLoopMeasurement o0 o1 o2 o3 i0 i1 i2 i3 s
  | .copperAcquireWait k => Sys2Proof.Machine.execCopperAcquireWait k s

end Sys2Proof.Machine
end

