-- ==== Sys2Proof/Machine/Idle.lean ====
section
/-! DEFINITION. What passes on the lanes while no command waits (log entry 76): the blocks that a port sends and receives, the
adaptation of its equalisers, skew, the beats of a die-to-die bundle, λ16 light that a port in DOWN already sees, the errors that
arise in the storage of the Vat, and faults of training and self-test that no command reports. -/
namespace Sys2Proof.Machine

/-! ### Receiving (08 R199 to R202, R213, R216) -/

/-- The logical lane that the markers on a receive wavelength or pair must name: in a near-end loop that of the port's own transmit map
(Table 8-6). -/
def State.laneHere (s : State) (k n : Nat) : Nat :=
  if s.nearLoop k then ((List.range (lanesOf k)).find? fun l => s.mapOf k false l == n).getD 0
  else
    match (s.port k).rRx with
    | some h => if h.b = n then h.lane else (s.laneOf k n).getD 0
    | none => (s.laneOf k n).getD 0

/-- Stuffing violations of a block count, and mark it (R199). -/
def State.stuffCount (s : State) (k n bad : Nat) : State := s.count F.LNK_LANE_ERR_STUFF_ERR bad k n

/-- A data block arrives: its bits are descrambled, and in LOOP they go to the checker (R197, R213). -/
def State.rxData (s : State) (k n : Nat) (r : Taken) : State :=
  let x : Line := { r.line with scr := (descramble r.line.scr r.bits).2, blocks := r.line.blocks + 1, errored := r.bad != 0 }
  let y := if s.lnk k = lnkLoop then r.bits.foldl (fun a b => a.check b) x else x
  let s1 := s.setLine k true n { y with loopErr := 0 }
  if s.lnk k = lnkLoop then
    (s1.count F.LNK_LANE_ERR_LOOP_ERR y.loopErr k n).putBitOf F.LNK_LOOP_STAT_SYNC (s.laneHere k n) y.sync k
  else s1

/-- A marker is bad: a wrong SYNC, COUNT or LANE (R202), or a stuffing violation inside it (R216). -/
def markerBad (l : Line) (lane : Nat) (r : Taken) : Bool :=
  let w := bitsWord r.bits
  bitField w 0 24 != 0x965A3C || bitField w 24 8 != l.count || bitField w 32 5 != lane || r.bad != 0

/-- A marker arrives where one is expected (R202): a bad one counts, and the third in a row costs the lane its alignment; a wrong
PHYS counts and costs nothing. -/
def State.rxMarker (s : State) (k n : Nat) (r : Taken) : State :=
  let l := r.line
  let bad := markerBad l (s.laneHere k n) r
  let run := if bad then l.bad + 1 else 0
  let s1 := s.setLine k true n { l with blocks := 0, count := (l.count + 1) % 256, errored := r.bad != 0, bad := run }
  let s2 := if bad || bitField (bitsWord r.bits) 37 5 != n then s1.count F.LNK_LANE_ERR_MARKER_ERR 1 k n else s1
  if 3 ≤ run then s2.alignLost k n else s2

/-- One block arrives on a locked lane, from line bits `xs`, some of which may be left: a lane without alignment only removes what
was stuffed. -/
def State.rxBlock (s : State) (k n : Nat) (xs : List Bool) : List Bool × State :=
  let l := s.line k true n
  if !s.bit F.LNK_LANE_STAT_MALIGN n k then
    let r := l.take 64 xs
    (r.rest, (s.setLine k true n { r.line with errored := r.bad != 0 }).stuffCount k n r.bad)
  else if l.blocks < 4096 then
    let r := l.take 64 xs
    (r.rest, (s.stuffCount k n r.bad).rxData k n r)
  else
    let r := l.markerStart.take l.markerLen xs
    (r.rest, (s.stuffCount k n r.bad).rxMarker k n r)

/-- What the port's own transmitter sent comes back: a block, and the marker that followed it. -/
def State.rxLooped (s : State) (k n : Nat) (xs : List Bool) : State :=
  if xs.isEmpty then s
  else
    let r := s.rxBlock k n xs
    if r.1.isEmpty then r.2 else (r.2.rxBlock k n r.1).2

/-- Wavelengths or pairs of a port that carry data. -/
def dataLanes (k : Nat) : List Nat := if optical k then (List.range 20).filter (· != 16) else List.range 8

/-- One block time of the receive direction: what the far end sends is free.  In a near-end loop nothing comes from there. -/
def State.rxTime (s : State) (k : Nat) : State :=
  if s.nearLoop k then s
  else
    (dataLanes k).foldl (fun a n =>
      if a.locked k n then
        let x := a.free
        (x.2.rxBlock k n (wordBits 128 x.1)).2
      else a) s

/-- One block time of a port: in a near-end loop each lane's block comes back to the receiver of its wavelength or pair at once, past
the line and its clock in the parallel loop (R213, Table 8-6). -/
def State.portTime (s : State) (k : Nat) : State :=
  let t := s.txTime k
  if t.nearLoop k then
    (List.range (lanesOf k)).foldl (fun a l =>
      let n := a.mapOf k false l
      if a.fld F.LNK_CTL_LOOP_REQ k = 2 ∨ a.locked k n = true then a.rxLooped k n (a.line k false n).wire else a) t
  else t

/-! ### Equalisers, skew, the die-to-die bundle, light -/

/-- One update of a lane's taps (08 R208): each moves by at most one within its range, unless the taps hold; the direction is
free. -/
def State.dfeTime (s : State) (k n : Nat) : State :=
  if s.locked k n && !s.dfeHeld k n then
    (List.range (if optical k then 2 else 5)).foldl (fun a j =>
      let x := a.free
      let v := toSigned 8 (a.fld (tapField j) k n) + ((x.1 % 3 : Nat) : Int) - 1
      x.2.put (tapField j) (ofSigned 8 (clampZ (-tapLim j) (tapLim j - 1) v)) k n) s
  else s

/-- The markers of an aligned lane come to lag by `d` blocks; where it no longer lies within the deskew buffer of every other one, the
lane loses its alignment (R204). -/
def State.skewTime (s : State) (k n d : Nat) : State :=
  if s.bit F.LNK_LANE_STAT_MALIGN n k then
    let l := s.line k true n
    let s1 := s.setLine k true n (l.moved (l.place + 2 ^ 20 - d % 64))
    if s1.deskews k n then s1 else s1.alignLost k n
  else s

/-- Eight beats of a port's part of the die-to-die bundle (07 R162): a check that is not the CRC-32 of the 2,048 data bits is a
mismatch, which counts and is an event of the engine's block; the data go on unchanged. -/
def State.d2dTime (s : State) (k : Nat) : State :=
  if optical k && s.dom (10 + engOf k) == .on then
    let x := s.free
    let y := x.2.free
    if y.1 % 2 ^ 32 = crc32 (leBytes 256 x.1) then y.2
    else (y.2.count F.PYU_PORT_STAT_D2D_CRC 1 k).pyuEv (engOf k) 0x05 lNote 0
  else s

/-- An error arises in the storage of unit `u`, which a later read of it finds (14 R381 to R383): one that the stack's own code
corrects, one to three bytes, or more. -/
def State.errTime (s : State) (u kind : Nat) : State :=
  if s.pow.vat = .off then s
  else s.vplant u ((s.unitErrs u).with (if kind % 3 = 0 then .ceStack else if kind % 3 = 1 then .ceCtl else .ue))

/-- A fault that no rule gives a moment (21 Table 21-2): the PHY training of controller `n` of the Vat failed, or the self-test of the
modulators. -/
def State.trainTime (s : State) (n : Nat) : State :=
  if n % 9 < 8 then (if s.pow.vat = .on then s.coreEv ⟨bVAT, n % 9, 0x04, lSevere, 0, 0, 0, 255⟩ else s)
  else if s.dom 5 = .on then s.pkmEv 0x05 lSevere 0
  else s

/-- What happens on port `k`, wavelength or pair `n`. -/
def State.laneTime (s : State) (what k n d : Nat) : State :=
  if what = 0 then (if s.lnk k = lnkDown then s else s.rxTime k)
  else if what = 1 then
    (if s.lnk k ≠ lnkDown then s.portTime k else if optical k && s.flag F.PYU_PORT_STAT_SHUTTER k then s.probeTime k else s)
  else if what = 2 then s.dfeTime k n
  else if what = 3 then s.skewTime k n d
  else if what = 4 then s.d2dTime k
  else if what = 5 then s.errTime (d % (pageCount * (pageSize / 64))) n
  else if what = 6 then s.trainTime n
  else if optical k then s.tryLight k else s

/-- A step with no command waiting: where PD08 is on, one such thing happens on one port.  Which one is free. -/
def State.idleStep (s : State) : State :=
  s.acts fun a =>
    if a.dom 8 = .on then
      let x := a.free
      let y := x.2.free
      y.2.laneTime (x.1 % 8) (x.1 / 8 % 18) (x.1 / 144 % 20) y.1
    else a

end Sys2Proof.Machine
end

