-- ==== Sys2Proof/Safety.lean ====
section
/-! DEFINITION. What a safe run is: the canonical form of everything the module keeps by address, and a step that neither
faults nor refuses. -/
namespace Sys2Proof.Machine

/-- A byte memory is in canonical form: addresses strictly rise, and no entry equals what an unlisted address reads as. -/
def Memory.wf (d : Byte) (m : List Host.Cell) : Bool := cellsRise d m

/-- The four memories of a tile (09 R220, 12 R310) are in canonical form. -/
structure Tile.canonical (x : Tile) : Prop where
  a : Memory.wf 0 x.a = true
  sp : Memory.wf 0 x.sp = true
  c : Memory.wf 0 x.c = true
  vr : Memory.wf 0 x.vr = true

/-- Every tile's memories are in canonical form. -/
def tilesCanonical (t : Tab Tile) : Prop := ∀ k, (t.get {} k).canonical

/-- Registers by field, the recorder's page memory (22 R579), the Vat (14 R371) and the tiles' memories are in canonical
form, so that equal contents are equal data. -/
structure State.canonical (s : State) : Prop where
  regs : keysRise s.regs.cells = true
  pages : Memory.wf 0xFF s.rcd.pages = true
  vat : Memory.wf 0 s.vmem.mem = true
  tiles : tilesCanonical s.tiles

/-! ### What a command leaves as it was -/

/-- The parts of the state beside the register fields and the queue. -/
inductive Sect where
  | pow | qual | flt | shadows | rcd | tim | mgt | lease | ports | rings | engs | lsc | tiles
  | parts | pages | vmem | idle | rot | gov | herd | pack | est | ctr | field | rnd | freeIx | lines
  deriving DecidableEq, Repr

/-- Part `x` of `t` is that of `s`. -/
def State.sameSect (s t : State) : Sect → Prop
  | .pow => t.pow = s.pow
  | .qual => t.qual = s.qual
  | .flt => t.flt = s.flt
  | .shadows => t.shadows = s.shadows
  | .rcd => t.rcd = s.rcd
  | .tim => t.tim = s.tim
  | .mgt => t.mgt = s.mgt
  | .lease => t.lease = s.lease
  | .ports => t.ports = s.ports
  | .rings => t.rings = s.rings
  | .engs => t.engs = s.engs
  | .lsc => t.lsc = s.lsc
  | .tiles => t.tiles = s.tiles
  | .parts => t.parts = s.parts
  | .pages => t.pages = s.pages
  | .vmem => t.vmem = s.vmem
  | .idle => t.idle = s.idle
  | .rot => t.rot = s.rot
  | .gov => t.gov = s.gov
  | .herd => t.herd = s.herd
  | .pack => t.pack = s.pack
  | .est => t.est = s.est
  | .ctr => t.ctr = s.ctr
  | .field => t.field = s.field
  | .rnd => t.rnd = s.rnd
  | .freeIx => t.freeIx = s.freeIx
  | .lines => t.lines = s.lines

/-- From `s` to `t` nothing changed but parts of `parts` and register fields of `fields`: every other part, every other
register field of every instance, the fused tiles and the queue, are as they were. -/
structure State.onlyIn (s t : State) (parts : List Sect) (fields : List RField) : Prop where
  sect : ∀ x, x ∉ parts → s.sameSect t x
  fld : ∀ f i j, f.id ∉ fields.map (·.id) → t.fld f i j = s.fld f i j
  queue : t.pending = s.pending
  fused : t.fused = s.fused

/-- The parts through which events are reported: fault blocks, shadows, the recorder's queue, notifications to hosts and
PART_EVENTs to ports (21 R558 to R571). -/
def reporting : List Sect := [.flt, .shadows, .rcd, .mgt, .ports]

/-- The mailbox but what events write there (host counters and notifications): keys, waiting frames, replies, and PLCA. -/
def State.postbox (s : State) : Mgt := { s.mgt with hosts := {}, notes := [] }

/-- A frame of host `h.host` with SEQ `h.seq` that carries order `o` is heard: the supervisor and the node run, the host's slot
holds a key, or with `auth` false holds none (23 R608, R619), the SEQ is new, there is room for the frame, nothing answers the
order before it is decided (23 R609, R610, R614, R622), and the lease does not expire in its tick (05 R113). -/
structure State.hears (s : State) (h : Hdr) (o : Order) (auth : Bool := true) : Prop where
  up : s.up = true
  node : s.nodeUp = true
  key : (s.keyOf h.host).isEmpty = !auth
  new : s.judge h.host.val h.seq.toNat = .new
  room : s.mgt.rxq.length < 64
  roomHost : (s.mgt.rxq.filter fun f => f.host == h.host.val).length < 16
  pre : s.preAns h.host.val o = none
  lease : s.leaseOver = false
  kept : s.lease.lost = false

/-- A CAPS or TIME_READ without `AUTH` of a host whose slot holds no key is carried out: no SEQ is judged (23 R608). -/
structure State.hearsBare (s : State) (h : Hdr) : Prop where
  up : s.up = true
  node : s.nodeUp = true
  key : (s.keyOf h.host).isEmpty = true
  room : s.mgt.rxq.length < 64
  roomHost : (s.mgt.rxq.filter fun f => f.host == h.host.val).length < 16

/-- The state once that frame is accepted: earlier replies have left, the SEQ is held, the frame is counted. -/
def State.heard (s : State) (h : Hdr) : State :=
  State.count (State.seqTake s.repliesLeave h.host.val h.seq.toNat) F.MGT_CNT2_RX

/-- `t` answers that frame, and nothing else, with `status` and `reason` and a body of which `p` holds. -/
def State.answers (t : State) (h : Hdr) (status reason : Nat) (p : Bytes → Prop := fun _ => True) : Prop :=
  ∃ r, t.mgt.txq = [r] ∧ r.host = h.host.val ∧ r.seq = h.seq.toNat ∧ r.status = status ∧ r.reason = reason ∧ p r.body

/-- Frames `f` and `g` wait for the decision tick, in either order, or `f` before `g`. -/
def State.waitBoth (s : State) (f g : Frame) : Prop := s.mgt.rxq = [f, g] ∨ s.mgt.rxq = [g, f]
def State.waitTurn (s : State) (f g : Frame) : Prop := s.mgt.rxq = [f, g]

/-- Frame `f` is not a retry, and nothing answers it before it is decided, or the right to it is missing (23 R609, R614, 05 R117). -/
structure State.mayOrder (s : State) (f : Frame) : Prop where
  new : f.stored = none
  pre : s.preAns f.host f.order = none
  right : s.hasRight f.host f.order = true

/-- Among the replies that wait in `t`, frame `f` is answered with `status` and a body of which `p` holds. -/
def State.replies (t : State) (f : Frame) (status : Nat) (p : Bytes → Prop := fun _ => True) : Prop :=
  ∃ r ∈ t.mgt.txq, r.host = f.host ∧ r.seq = f.seq ∧ r.status = status ∧ p r.body

/-- A write of the whole register at core address `a` is served when it comes: the supervisor runs, its port is live, the
request is not refused (05 R106, R115), none waits before it (06 R147), and its place takes writes (00 R16, 14 R376). -/
structure State.coreServes (s : State) (w : CoreWr) (a : Nat) : Prop where
  up : s.up = true
  live : s.live w.port.val = true
  full : w.be = 255
  ok : s.qRefused w.port.val (coreReq w a) = 0
  first : (s.port w.port.val).reqs.any (·.stalled) = false
  takes : s.dropsAt (placeOf a) = false

/-- The request that a Q row with header `q` carries. -/
def reqOf (q : QHdr) (op : QOp) : Req := { part := q.part.val, tag := q.tag.toNat, addr := q.addr.toNat, op := op }

/-- A request of `n` flits has arrived on port `k`: they are acknowledged (06 R131), and it has its place in the order of
arrival (14 R373). -/
def State.arrived (s : State) (k n : Nat) : State :=
  let a := s.setPort k { s.port k with ack := ((s.port k).ack + n) % 4096 }
  { a with vmem := { a.vmem with arrived := a.vmem.arrived + 1 } }

/-- The request `r` as it is taken up in `s`: with its place in the order of arrival, and under the key that its partition has now
(14 R373, R391). -/
def State.taken (s : State) (r : Req) : Req := { r with seq := s.vmem.arrived, key := (s.part r.part).key }

/-- A write of one register through `w` at core address `a` has been served in `b`: its response waits, and its flit's buffer is
free again (06 R144, R146). -/
def State.served (s b : State) (w : CoreWr) (a : Nat) : State := (b.addReq w.port.val (s.taken (coreReq w a))).credit w.port.val 1

/-- What a command that comes to `a` from `s` leaves: the power sequencer has followed, the changes of the service are one report
(03, 04 R93), and the records of the command stand in the queue (22 R582, R595). -/
def State.followed (s a : State) : State := (State.serviced s a.powerSettle).recsOut

/-- No unit of `n` bytes at physical address `x` is poisoned or in error (14 R381, R382). -/
abbrev State.sound (s : State) (x n : Nat) : Prop := ∀ u ∈ unitsOf x n, s.isPoisoned u = false ∧ s.unitErrs u = {}

/-- Unit `j` of the due scrub burst of channel `q` (14 R384), and the errors that the burst meets in it. -/
def State.burstUnit (s : State) (q j : Nat) : Nat := burstAddr q (s.vmem.burst.get 0 ⟨q, 0, 0⟩) / 64 + j
def State.metErrs (s : State) (q : Nat) (es : List UnitErr) (j : Nat) : UnitErrs :=
  (s.unitErrs (s.burstUnit q j)).with (es.getD j .clean)

/-- That unit is uncorrectable, or poisoned (14 R381, R382); it is one that the controller corrects. -/
def State.burstBad (s : State) (q : Nat) (es : List UnitErr) (j : Nat) : Bool :=
  s.isPoisoned (s.burstUnit q j) || 4 ≤ (s.metErrs q es j).bytes
def State.burstMended (s : State) (q : Nat) (es : List UnitErr) (j : Nat) : Bool :=
  !s.burstBad q es j && (s.metErrs q es j).bytes != 0

/-- From `s` to `t` the due burst of channel `q` has been scrubbed, its units meeting the errors `es` (14 R381 to R384): what can be
corrected is, and is counted; what can not is poisoned, and counted; no byte of the Vat changes. -/
structure State.scrubbed (s t : State) (q : Nat) (es : List UnitErr) : Prop where
  mended : ∀ j : Fin 4, s.burstBad q es j = false → t.unitErrs (s.burstUnit q j) = {} ∧ t.isPoisoned (s.burstUnit q j) = false
  poisoned : ∀ j : Fin 4, s.burstBad q es j = true → t.isPoisoned (s.burstUnit q j) = true
  ce : t.fld F.VAT_ECC_CNT_CE_CTL (q / 16) =
    ((List.range 4).filter (s.burstMended q es)).foldl (fun n _ => addSat 24 n 1) (s.fld F.VAT_ECC_CNT_CE_CTL (q / 16))
  ue : t.fld F.VAT_ECC_CNT_UE (q / 16) =
    ((List.range 4).filter (s.burstBad q es)).foldl (fun n _ => addSat 16 n 1) (s.fld F.VAT_ECC_CNT_UE (q / 16))
  kept : t.vmem.mem = s.vmem.mem

/-- Instruction `k` of the bundle at `HEAD` of ring `r` of partition `p`, which stands at physical address `x` (11 R272, 13 R340). -/
def State.bundleWord (s : State) (p r x k : Nat) : W128 :=
  BitVec.ofNat 128 (leNat (((s.vread (s.part p).key (s.bundleAddr p r (s.rHead p r)) x 64).drop (16 * k)).take 16))

/-- The oldest request `r` of port `k`, before `rest`, has left and its response `op` waits to be sent (06 R145, R148). -/
def State.responded (s : State) (k op : Nat) (r : Req) (rest : List Req) : State :=
  s.setPort k { s.port k with
    reqs := rest
    sq := (s.port k).sq ++ [⟨op, r.part, r.tag, r.data.length, r.status, 0, r.reason, r.data⟩] }

/-- Nothing disturbs a frame on the chain. -/
structure CleanLine (l : MilkLine) : Prop where
  whole : l.cut = 0
  intact : l.hit = none
  free : l.busy = 0

/-! ### Tile instructions (11, 12) -/

/-- The exception that the word of an entry of tile `t` raises as it issues, 0 for none (11 R280). -/
def State.wordFault (s : State) (t : Nat) (e : PEnt) : Nat :=
  wordExc e
    (fun g => match s.ownerOf t with
      | some p => s.owns p g
      | none => false)
    (match s.ownerOf t with
    | some p => (s.tilesOf p).length
    | none => 0)

/-- The entry `e` at place `i` of tile `t` issues as far as words, tokens and older entries go (11 R276, R278, R280, R281):
it is the head of its queue in a tile that runs, its tokens are there and not poisoned, no older entry takes them first, its word
raises no exception, and no older entry holds it back. -/
structure State.issues (s : State) (t i : Nat) (e : PEnt) : Prop where
  up : s.up = true
  live : s.tileLive t = true
  place : (s.tile t).ents[i]? = some e
  head : (s.tile t).head (queueOf e.word) = some i
  admitted : e.taken = true ∨
    ((s.tile t).ready e.word = true ∧ ((s.tile t).consume e.word).2 = false ∧ s.wordFault t e = 0)
  first : (s.tile t).outrun i e = false
  bar : wOpc e.word = oBAR → s.wordFault t e = 0
  free : (s.tile t).blocked i e = false

/-- In `s'` entry `i` of tile `t` has left the Parlour of `s`; others may have entered behind the last. -/
def State.entLeaves (s s' : State) (t i : Nat) : Prop := ∃ more, (s'.tile t).ents = dropAt i (s.tile t).ents ++ more

/-- Nothing waits to enter the Parlour of tile `t`. -/
def State.noneEnters (s : State) (t : Nat) : Bool :=
  (s.tile t).back.isEmpty && (s.tile t).loop.isNone && (s.tile t).again.isEmpty && (s.tile t).inb.isEmpty

/-- The entry as it stands once issued. -/
def PEnt.started (e : PEnt) : PEnt := { e with issued := true, taken := true }

/-- The A-Pail row that a pass streams next (11 R297). -/
def Tile.passInput (x : Tile) (e : PEnt) : Bytes :=
  memRead 0 x.a ((passOf e.word).aadr + e.done * (passOf e.word).astr) (rowBytes (passOf e.word).shape (passOf e.word).fmt (passOf e.word).t)

/-! ### Frames: what each command may change -/

/-- The register fields that may change with the power sequencer: domains that go on and off, and the ports, engines
and wake sources that follow (03 R56 to R76). -/
def powerFields : List RField :=
    [F.AON_SUP_STAT_CORE_DISCH, F.AON_SVC_STAT_OPT_NARROW, F.AON_SVC_STAT_ASSIST_ON, F.AON_SVC_STAT_SKIM,
    F.SEP_STW_PORTS_PORTS, F.LNK_STAT_RXSET, F.LNK_STAT_TXSET, F.LNK_STAT_WIDTH, F.LNK_STAT_STATE,
    F.LNK_ERRCNT_M_DROP, F.LNK_ERRCNT_DOWNS, F.PYU_STAT_BANK_FAIL, F.PYU_STAT_STATE, F.LSC_STAT_BANK_LOCK,
    F.LSC_STAT_BANK_ON, F.LSC_STAT_VDD_OK, F.LSC_STAT_LEN_B, F.LSC_STAT_LEN_A, F.LNK_SSC_PENDING,
    F.REC_CNT_DROPPED, F.MGT_CNT2_EVT_LOST, F.PYU_PORT_STAT_ROT_OPEN, F.PYU_PORT_STAT_CAL_BUSY,
    F.PYU_PORT_STAT_PROBE, F.PYU_PORT_STAT_SHUTTER]

/-- The register fields that may change with an opening of the string (18 R484 to R490). -/
def openFields : List RField :=
    [F.AON_SVC_STAT_ASSIST_ON, F.AON_SVC_STAT_ASSIST_BLK, F.AON_SVC_STAT_SKIM, F.EST_DISC_STATE, F.CTR_STAT_COIL,
    F.CTR_STAT_SEQ, F.CTR_SEQ_RES_DUR, F.CTR_SEQ_RES_RESULT, F.CTR_EVT_EMERG, F.CTR_LAST_OPEN_I_BRK,
    F.CTR_LAST_OPEN_MASK, F.CTR_LAST_OPEN_EMERG, F.CTR_LAST_OPEN_CAUSE, F.CTR_EMERG_CNT_EMERG, F.TIM_GC_EVT_OVF,
    F.REC_CNT_DROPPED, F.MGT_CNT2_EVT_LOST, F.CTR_COIL_I_I0, F.CTR_COIL_I_I1, F.CTR_COIL_I_I2, F.CTR_COIL_I_I3]

/-- The register fields that may change with a frame that is decided: the writable fields of the supervisor and what
its orders reach (05 R119, R120). -/
def decideFields : List RField :=
    [F.AON_FRONT_EVT_LIGHT_CHG, F.AON_FRONT_EVT_WAKE_CHG, F.AON_FRONT_EVT_SVC_CHG, F.AON_FRONT_EVT_LSC_CHG,
    F.AON_FRONT_EVT_TK_CHG, F.AON_FRONT_EVT_SI_CHG, F.AON_PD_REQ_TG_REQ, F.AON_PD_REQ_ENG_REQ,
    F.AON_PD_REQ_VAT_REQ, F.AON_PD_REQ_SEP_REQ, F.AON_PD_CFG_ENG_IDLE, F.AON_PD_CFG_TG_IDLE,
    F.AON_PD_CFG_HERD_GATE, F.AON_WAKE_CFG_WAKEIN_ENG, F.AON_WAKE_CFG_WAKEIN_TG, F.AON_WAKE_CFG_MILK_EN,
    F.AON_WAKE_CFG_DOORBELL_EN, F.AON_WAKE_CFG_WAKEIN_EN, F.AON_WAKE_CFG_LIGHT_EN, F.AON_WAKE_SRC_REFUSED_TRIP,
    F.AON_WAKE_SRC_REFUSED_RIND, F.AON_WAKE_SRC_REFUSED_MAIN, F.AON_WAKE_SRC_SRC, F.AON_SUP_STAT_CORE_DISCH,
    F.AON_HARD_EVT_MAIN_OV, F.AON_HARD_EVT_MAIN_UV, F.AON_HARD_EVT_VTG_OV, F.AON_HARD_EVT_TJ_SUP_TRIP,
    F.AON_HARD_EVT_TJ_CORE_TRIP, F.CLK_TG_FREQ_SET, F.CLK_MON_EVT_SLOW_FAIL, F.CLK_MON_EVT_XS_FAIL,
    F.CLK_MON_EVT_REF_FAIL, F.CLK_MON_EVT_SEP_OVF, F.CLK_MON_EVT_TG_OVF, F.AON_SVC_STAT_OPT_NARROW,
    F.AON_SVC_STAT_ASSIST_ON, F.AON_SVC_STAT_ASSIST_BLK, F.AON_SVC_STAT_SKIM, F.MGT_STW_ELIG_ELIG,
    F.MGT_STW_DEF_LOOP_POL, F.MGT_STW_DEF_LSW_POL, F.MGT_STW_DEF_CT_POL, F.MGT_STW_DEF_SHARE, F.MGT_RIGHTS_CT,
    F.MGT_RIGHTS_LOOP, F.MGT_RIGHTS_LSW, F.MGT_ARB_LAST_RES, F.MGT_ARB_LAST_WINNER, F.MGT_ARB_LAST_LOSER,
    F.MGT_ARB_LAST_COUNT, F.SEP_STW_PORTS_PORTS, F.LNK_STAT_RXSET, F.LNK_STAT_TXSET, F.LNK_STAT_WIDTH,
    F.LNK_STAT_STATE, F.LNK_ERRCNT_M_DROP, F.LNK_ERRCNT_DOWNS, F.PYU_STAT_BANK_FAIL, F.PYU_STAT_STATE,
    F.LSC_STAT_BANK_LOCK, F.LSC_STAT_BANK_ON, F.LSC_STAT_VDD_OK, F.LSC_STAT_LEN_B, F.LSC_STAT_LEN_A,
    F.LNK_DFE_SAT, F.LNK_DFE_H5, F.LNK_DFE_H4, F.LNK_DFE_H3, F.LNK_DFE_H2, F.LNK_DFE_H1, F.LNK_LANE_ERR_STUFF_ERR,
    F.LNK_LANE_ERR_MARKER_ERR, F.LNK_LANE_ERR_LOS_EVT, F.LNK_LANE_ERR_LOL_EVT, F.LNK_LANE_STAT_MALIGN,
    F.LNK_LANE_STAT_LOL, F.LNK_LANE_STAT_LOS, F.LNK_TXEQ_MAIN, F.LNK_SSC_PENDING, F.SEP_PC_PERF_COUNT,
    F.HRD_CTL_PERIOD, F.HRD_CTL_RUN, F.HRD_STAT_MON_CHANGE, F.HRD_STAT_BREAK_POS, F.HRD_STAT_MODE, F.PKM_CFG_EN,
    F.PKM_CFG_GAIN, F.PKM_CFG_OSR, F.PKM_ISO_CFG_ISO_EN, F.PKM_ISO_CFG_DWELL, F.PKM_CC_EVT_CC_GAP,
    F.PKM_CC_EVT_CC_SAT, F.PKM_HALL_SCALE_SCALE, F.EST_LOAD_STAT_LIM_REFUSE, F.EST_LOAD_STAT_MOD_REFUSE,
    F.EST_COND_EVT_EVT, F.EST_DISC_HARD_LATCH, F.EST_DISC_STATE, F.EST_CNT_BRK_FORCED, F.CTR_STAT_COOL,
    F.CTR_STAT_PC_LOCK, F.CTR_STAT_WELD_LATCH, F.CTR_STAT_COIL, F.CTR_STAT_SEQ, F.CTR_CFG_PC_COOL,
    F.CTR_CFG_PC_IMAX, F.CTR_CFG_X_ISO, F.CTR_CFG_PC_TIMEOUT, F.CTR_SEQ_RES_DUR, F.CTR_SEQ_RES_WELD_SKIP,
    F.CTR_SEQ_RES_RESULT, F.CTR_EVT_DROPOUT, F.CTR_EVT_DOUBLE_WELD, F.CTR_EVT_WELD, F.CTR_EVT_AUX_MIS,
    F.CTR_EVT_COIL_SHORT, F.CTR_EVT_COIL_OPEN, F.CTR_EVT_PC_FAIL, F.CTR_EVT_EMERG, F.CTR_LAST_OPEN_I_BRK,
    F.CTR_LAST_OPEN_MASK, F.CTR_LAST_OPEN_EMERG, F.CTR_LAST_OPEN_CAUSE, F.CTR_EMERG_CNT_EMERG, F.LSW_STAT_LATCHED,
    F.LSW_STAT_ON, F.LSW_EVT_TH_EVT, F.LSW_EVT_OC_EVT, F.LSW_OL_OL_EN, F.LSW_CFG_BLANK, F.LSW_CFG_ILIM,
    F.LOOP_CFG_FB_EN, F.LOOP_CFG_FB_I, F.LOOP_CMD_CMD, F.LOOP_STAT_FALLBACK, F.LOOP_STAT_COMPLY,
    F.LOOP_EVT_LOOP_COMPLIANCE, F.LIS_CTL_LIS_EN, F.TCH_CFG_FN, F.TCH_CFG_TGT, F.TCH_CFG_DEB, F.TCH_CFG_TH,
    F.RND_STAT_PENDING, F.RND_STO_STAT_STO_FLT, F.RND_STO_STAT_PERM, F.RND_STO_STAT_ON, F.RND_STO_STAT_RB_H,
    F.RND_CFG_STAT_LOAD_REFUSE, F.RND_CNT_RESETS, F.RND_CNT_RST_IGN, F.AON_STO_REQ_ON, F.TIM_GC_CFG_SRC,
    F.TIM_GC_EVT_OVF, F.REC_CNT_DROPPED, F.MGT_PLCA_BURST_TMR, F.MGT_PLCA_MAX_BC, F.MGT_PLCA_PLCA_EN,
    F.MGT_PLCA_TO_TMR, F.MGT_CNT2_EVT_LOST, F.MGT_HELLO_DONE, F.MGT_KEY_STAT_LOADED, F.LNK_TXMAP0_MAP,
    F.LNK_TXMAP1_MAP, F.LNK_RXMAP0_MAP, F.LNK_RXMAP1_MAP, F.HRD_BAL_MASK, F.HRD_BAL_CFG_BAL_TMAX,
    F.HRD_BAL_CFG_BAL_VMIN, F.CTR_COIL_I_I0, F.CTR_COIL_I_I1, F.CTR_COIL_I_I2, F.CTR_COIL_I_I3, F.MGT_NEG_MINOR0,
    F.MGT_NEG_MINOR1, F.MGT_NEG_MINOR2, F.MGT_NEG_MINOR3, F.MGT_NEG_MINOR4, F.MGT_NEG_MINOR5, F.MGT_NEG_MINOR6,
    F.MGT_NEG_MINOR7, F.PYU_PORT_STAT_ROT_OPEN, F.PYU_PORT_STAT_CAL_BUSY, F.PYU_PORT_STAT_LOS,
    F.PYU_PORT_STAT_PROBE, F.PYU_PORT_STAT_SHUTTER, F.AON_FRONT_STAT_SI_DEMAND]

/-- The register fields that may change with a request from a port: the writable fields of the core and what its
registers reach (05 R646). -/
def coreFields : List RField :=
    [F.AON_PD_REQ_TG_REQ, F.AON_PD_REQ_ENG_REQ, F.AON_PD_REQ_VAT_REQ, F.AON_PD_REQ_SEP_REQ,
    F.AON_WAKE_SRC_REFUSED_TRIP, F.AON_WAKE_SRC_REFUSED_RIND, F.AON_WAKE_SRC_REFUSED_MAIN, F.AON_WAKE_SRC_SRC,
    F.AON_SVC_STAT_OPT_NARROW, F.AON_SVC_STAT_ASSIST_ON, F.AON_SVC_STAT_SKIM, F.SEP_STW_PORTS_PORTS,
    F.SEP_PT_CTL_STATE, F.SEP_PT_TILES_TILES, F.SEP_PT_NPAGES_NPAGES, F.SEP_PT_PORTS_ACTIVE, F.SEP_PT_PORTS_REQ,
    F.LNK_CTL_LOOP_REQ, F.LNK_CTL_EN, F.LNK_STAT_RXSET, F.LNK_STAT_TXSET, F.LNK_STAT_WIDTH, F.LNK_STAT_STATE,
    F.LNK_ERRCNT_M_DROP, F.LNK_ERRCNT_DOWNS, F.LNK_ERRCNT_RETRAINS, F.PYU_CTL_ROT_GAP, F.PYU_CTL_ROT_EN,
    F.PYU_STAT_STATE, F.PYU_RING_SEL_PORT, F.PYU_RING_SEL_DIR, F.PYU_RING_SEL_WL, F.LSC_WIN_BUSY, F.LSC_WIN_ERR,
    F.LSC_WIN_W, F.LSC_WIN_ADDR, F.LSC_WIN_DATA, F.LNK_LANE_SEL_LANE, F.LNK_DFE_SAT, F.LNK_DFE_H5, F.LNK_DFE_H4,
    F.LNK_DFE_H3, F.LNK_DFE_H2, F.LNK_DFE_H1, F.LNK_LANE_ERR_LOOP_ERR, F.LNK_LANE_ERR_STUFF_ERR,
    F.LNK_LANE_ERR_MARKER_ERR, F.LNK_LANE_ERR_LOS_EVT, F.LNK_LANE_ERR_LOL_EVT, F.LNK_LANE_STAT_MALIGN,
    F.LNK_LANE_STAT_LOL, F.LNK_LANE_STAT_LOS, F.LNK_TXEQ_MAIN, F.LNK_TXEQ_POST, F.LNK_TXEQ_PRE,
    F.LNK_RXCTL_DFE_FREEZE, F.LNK_SSC_FREQ, F.LNK_SSC_DEPTH, F.LNK_SSC_PENDING, F.LNK_SSC_SSC_EN,
    F.LNK_LOOP_STAT_LOOP_FAIL, F.LNK_LOOP_STAT_SYNC, F.SEP_RING_BASE_BASE, F.SEP_RING_CFG_SIZE,
    F.SEP_RING_CFG_PRIO, F.SEP_RING_CFG_PCLASS, F.SEP_RING_CFG_EN, F.SEP_RING_STAT_TAIL, F.SEP_RING_STAT_DB_DROP,
    F.SEP_RING_STAT_HEAD, F.SEP_CQ_BASE_BASE, F.SEP_CQ_CFG_SIZE, F.SEP_CQ_CFG_EN, F.SEP_CQ_PROD_RSV,
    F.SEP_CQ_PROD_PROD, F.SEP_CQ_CONS_CONS, F.SEP_PC_PERF_COUNT, F.SEP_PC_PERF_CTL_TPER, F.SEP_PC_PERF_CTL_TEL_EN,
    F.SEP_PC_PERF_CTL_FREEZE, F.VAT_SCRUB_CFG_PERIOD, F.VAT_SCRUB_CFG_EN, F.VAT_ECC_CNT_UE, F.VAT_ECC_CNT_CE_CTL,
    F.VAT_ECC_CNT_CE_STACK, F.VAT_PC_KEY_STAT_KCV, F.VAT_PC_KEY_STAT_STAGED, F.VAT_PC_KEY_STAT_REFUSE,
    F.VAT_PC_KEY_STAT_LOADER, F.GOV_CFG_ASSIST_CAP, F.GOV_CFG_TKNEE, F.GOV_CFG_TSLOPE, F.GOV_CFG_RG_GAP,
    F.GOV_CFG_UP_STEP, F.GOV_CFG_HYST, F.GOV_CFG_MARGIN, F.GOV_EVT_MEAS_FAIL, F.GOV_EVT_IDLE_TRIP,
    F.GOV_EVT_HARD_TRIP, F.GOV_EVT_OVER_BUDGET, F.GOV_EVT_ASSIST_LOST, F.REC_CNT_DROPPED, F.MGT_CNT2_EVT_LOST,
    F.LNK_TXMAP0_MAP, F.LNK_TXMAP1_MAP, F.LNK_RXMAP0_MAP, F.LNK_RXMAP1_MAP, F.PYU_PORT_STAT_ROT_OPEN,
    F.PYU_PORT_STAT_CAL_BUSY, F.PYU_PORT_STAT_LOS, F.PYU_PORT_STAT_PROBE, F.PYU_PORT_STAT_SHUTTER]

/-- The register fields that may change with a port that leaves UP (06 R139). -/
def linkDownFields : List RField :=
    [F.AON_SVC_STAT_OPT_NARROW, F.AON_SVC_STAT_ASSIST_ON, F.AON_SVC_STAT_SKIM, F.SEP_STW_PORTS_PORTS,
    F.LNK_STAT_RXSET, F.LNK_STAT_TXSET, F.LNK_STAT_WIDTH, F.LNK_STAT_STATE, F.LNK_ERRCNT_M_DROP,
    F.LNK_ERRCNT_DOWNS, F.LNK_SSC_PENDING, F.REC_CNT_DROPPED, F.MGT_CNT2_EVT_LOST, F.PYU_PORT_STAT_ROT_OPEN,
    F.PYU_PORT_STAT_PROBE, F.PYU_PORT_STAT_SHUTTER]

/-- The register fields that may change with a Rind reaction on the outputs (20 R526 to R541). -/
def safeFields : List RField :=
    [F.AON_FRONT_EVT_SI_CHG, F.AON_PD_REQ_TG_REQ, F.AON_PD_REQ_ENG_REQ, F.AON_PD_REQ_VAT_REQ,
    F.AON_PD_REQ_SEP_REQ, F.AON_WAKE_SRC_REFUSED_TRIP, F.AON_WAKE_SRC_REFUSED_RIND, F.AON_WAKE_SRC_REFUSED_MAIN,
    F.AON_WAKE_SRC_SRC, F.AON_SUP_STAT_CORE_DISCH, F.AON_SVC_STAT_OPT_NARROW, F.AON_SVC_STAT_ASSIST_ON,
    F.AON_SVC_STAT_ASSIST_BLK, F.AON_SVC_STAT_SKIM, F.SEP_STW_PORTS_PORTS, F.LNK_STAT_RXSET, F.LNK_STAT_TXSET,
    F.LNK_STAT_WIDTH, F.LNK_STAT_STATE, F.LNK_ERRCNT_M_DROP, F.LNK_ERRCNT_DOWNS, F.PYU_STAT_BANK_FAIL,
    F.PYU_STAT_STATE, F.LSC_STAT_BANK_LOCK, F.LSC_STAT_BANK_ON, F.LSC_STAT_VDD_OK, F.LSC_STAT_LEN_B,
    F.LSC_STAT_LEN_A, F.LNK_SSC_PENDING, F.SEP_PC_PERF_COUNT, F.EST_DISC_STATE, F.CTR_STAT_COIL, F.CTR_STAT_SEQ,
    F.CTR_SEQ_RES_DUR, F.CTR_SEQ_RES_RESULT, F.CTR_EVT_EMERG, F.CTR_LAST_OPEN_I_BRK, F.CTR_LAST_OPEN_MASK,
    F.CTR_LAST_OPEN_EMERG, F.CTR_LAST_OPEN_CAUSE, F.CTR_EMERG_CNT_EMERG, F.LSW_STAT_ON, F.RND_SI_STAT_DEMAND,
    F.RND_STO_STAT_PERM, F.RND_STO_STAT_ON, F.RND_STO_STAT_RB_H, F.RND_ACT_LSW, F.RND_ACT_FUNC, F.RND_CNT_DEMANDS,
    F.TIM_GC_EVT_OVF, F.REC_CNT_DROPPED, F.MGT_CNT2_EVT_LOST, F.CTR_COIL_I_I0, F.CTR_COIL_I_I1, F.CTR_COIL_I_I2,
    F.CTR_COIL_I_I3, F.PYU_PORT_STAT_ROT_OPEN, F.PYU_PORT_STAT_CAL_BUSY, F.PYU_PORT_STAT_PROBE,
    F.PYU_PORT_STAT_SHUTTER, F.AON_FRONT_STAT_SI_DEMAND]

/-- The register fields that may change with the loss of the retention store (05 R108, 14 R393). -/
def lossFields : List RField :=
    [F.AON_PD_REQ_TG_REQ, F.AON_PD_REQ_ENG_REQ, F.AON_PD_REQ_VAT_REQ, F.AON_PD_REQ_SEP_REQ,
    F.AON_WAKE_SRC_REFUSED_TRIP, F.AON_WAKE_SRC_REFUSED_RIND, F.AON_WAKE_SRC_REFUSED_MAIN, F.SEP_PT_CTL_STATE,
    F.SEP_PT_TILES_TILES, F.SEP_PT_NPAGES_NPAGES, F.SEP_PT_PORTS_ACTIVE, F.SEP_PT_PORTS_REQ, F.LNK_ERRCNT_M_DROP,
    F.SEP_RING_BASE_BASE, F.SEP_RING_CFG_SIZE, F.SEP_RING_CFG_PRIO, F.SEP_RING_CFG_PCLASS, F.SEP_RING_CFG_EN,
    F.SEP_RING_STAT_TAIL, F.SEP_RING_STAT_DB_DROP, F.SEP_RING_STAT_HEAD, F.SEP_CQ_BASE_BASE, F.SEP_CQ_CFG_SIZE,
    F.SEP_CQ_CFG_EN, F.SEP_CQ_PROD_RSV, F.SEP_CQ_PROD_PROD, F.SEP_CQ_CONS_CONS, F.SEP_PC_PERF_COUNT,
    F.SEP_PC_PERF_CTL_TEL_DROP, F.SEP_PC_PERF_CTL_TPER, F.SEP_PC_PERF_CTL_TEL_EN, F.SEP_PC_PERF_CTL_FREEZE,
    F.VAT_SCRUB_STAT_PASSES, F.VAT_SCRUB_STAT_FORCED, F.VAT_SCRUB_STAT_POSITION, F.VAT_PC_KEY_STAT_KCV,
    F.VAT_PC_KEY_STAT_STAGED, F.VAT_PC_KEY_STAT_REFUSE, F.VAT_PC_KEY_STAT_LOADER, F.GOV_CFG_ASSIST_CAP,
    F.GOV_CFG_TKNEE, F.GOV_CFG_TSLOPE, F.GOV_CFG_RG_GAP, F.GOV_CFG_UP_STEP, F.GOV_CFG_HYST, F.GOV_CFG_MARGIN,
    F.REC_CNT_DROPPED, F.MGT_CNT2_EVT_LOST]

/-- The register fields that may change with a port that enters ACQUIRE (06 Table 6-5). -/
def acquireFields : List RField :=
    [F.SEP_STW_PORTS_PORTS, F.LNK_STAT_RXSET, F.LNK_STAT_TXSET, F.LNK_STAT_WIDTH, F.LNK_STAT_STATE, F.LNK_DFE_SAT,
    F.LNK_DFE_H5, F.LNK_DFE_H4, F.LNK_DFE_H3, F.LNK_DFE_H2, F.LNK_DFE_H1, F.LNK_LANE_ERR_STUFF_ERR,
    F.LNK_LANE_ERR_MARKER_ERR, F.LNK_LANE_ERR_LOS_EVT, F.LNK_LANE_ERR_LOL_EVT, F.LNK_LANE_STAT_MALIGN,
    F.LNK_LANE_STAT_LOL, F.LNK_LANE_STAT_LOS, F.LNK_TXEQ_MAIN, F.LNK_TXMAP0_MAP, F.LNK_TXMAP1_MAP,
    F.LNK_RXMAP0_MAP, F.LNK_RXMAP1_MAP, F.PYU_PORT_STAT_ROT_OPEN, F.PYU_PORT_STAT_CAL_BUSY, F.PYU_PORT_STAT_LOS,
    F.PYU_PORT_STAT_PROBE, F.PYU_PORT_STAT_SHUTTER]

/-- The register fields that may change with the end of an enumeration (16 R426). -/
def enumFields : List RField :=
    [F.AON_SVC_STAT_ASSIST_ON, F.AON_SVC_STAT_ASSIST_BLK, F.AON_SVC_STAT_SKIM, F.LNK_ERRCNT_M_DROP,
    F.HRD_STAT_MISSING, F.HRD_STAT_BREAK_POS, F.HRD_STAT_COUNT, F.HRD_STAT_MODE, F.HRD_ERR_BREAKS,
    F.HRD_MON_INFO_MAKER, F.HRD_MON_INFO_IFVER, F.HRD_MON_INFO_REACH_A, F.HRD_MON_INFO_REACH_B,
    F.HRD_MON_INFO_MISS, F.HRD_MON_INFO_CELLS, F.REC_CNT_DROPPED, F.MGT_CNT2_EVT_LOST, F.HRD_BAL_MASK]

/-- The register fields that may change with a sequence that fails (18 R484). -/
def seqFailFields : List RField :=
    [F.AON_SVC_STAT_ASSIST_ON, F.AON_SVC_STAT_ASSIST_BLK, F.AON_SVC_STAT_SKIM, F.LNK_ERRCNT_M_DROP,
    F.CTR_STAT_COOL, F.CTR_STAT_PC_LOCK, F.CTR_STAT_COIL, F.CTR_STAT_SEQ, F.CTR_SEQ_RES_DUR, F.CTR_SEQ_RES_RESULT,
    F.CTR_EVT_PC_FAIL, F.CTR_EVT_EMERG, F.CTR_LAST_OPEN_I_BRK, F.CTR_LAST_OPEN_MASK, F.CTR_LAST_OPEN_EMERG,
    F.CTR_LAST_OPEN_CAUSE, F.CTR_EMERG_CNT_EMERG, F.TIM_GC_EVT_OVF, F.REC_CNT_DROPPED, F.MGT_CNT2_EVT_LOST,
    F.CTR_COIL_I_I0, F.CTR_COIL_I_I1, F.CTR_COIL_I_I2, F.CTR_COIL_I_I3]

/-- The register fields that may change with a change on the front face (01 Table 1-6). -/
def frontFields : List RField :=
    [F.AON_FRONT_EVT_LIGHT_CHG, F.AON_FRONT_EVT_WAKE_CHG, F.AON_FRONT_EVT_SVC_CHG, F.AON_FRONT_EVT_LSC_CHG,
    F.AON_FRONT_EVT_TK_CHG, F.AON_FRONT_EVT_SI_CHG]

/-- The register fields that may change with an event that is reported (21 R558, 22 R582, 23 R613). -/
def eventFields : List RField :=
    [F.LNK_ERRCNT_M_DROP, F.REC_CNT_DROPPED, F.MGT_CNT2_EVT_LOST]

/-- The parts that may change with an instruction of a tile and the reports of its end. -/
def tileParts : List Sect :=
  [.flt, .shadows, .rcd, .mgt, .ports, .tiles, .parts]

/-- The parts that may change with a port, its rings and its engine, and the reports about them. -/
def linkParts : List Sect :=
  [.flt, .shadows, .rcd, .mgt, .ports, .rings, .engs]

/-- The parts that may change with a fault reaction that takes domains, ports and tiles with it. -/
def reactParts : List Sect :=
  [.pow, .qual, .flt, .shadows, .rcd, .mgt, .ports, .rings, .engs, .tiles, .parts, .vmem, .idle, .gov, .freeIx]

/-- The parts that may change with a request from a port. -/
def coreParts : List Sect :=
  [.pow, .flt, .shadows, .rcd, .tim, .mgt, .ports, .rings, .lines, .engs, .lsc, .tiles, .parts, .pages, .vmem,
    .idle, .gov, .freeIx]

/-- The parts that may change with a frame that is decided. -/
def orderParts : List Sect :=
  [.pow, .flt, .shadows, .rcd, .tim, .mgt, .lease, .ports, .rings, .lines, .engs, .tiles, .parts, .vmem, .idle,
    .gov, .herd, .pack, .est, .ctr, .field, .rnd, .freeIx]

/-- The parts that a command may change.  A reset changes all but the queue and the fused tiles. -/
def frameParts (c : Instr) : List Sect :=
  match c with
  | .auxPowerUp | .auxDropInReset | .holdupEnd .. =>
    [.pow, .qual, .flt, .shadows, .rcd, .tim, .mgt, .lease, .ports, .rings, .lines, .engs, .lsc, .tiles, .parts,
      .pages, .vmem, .idle, .rot, .gov, .herd, .pack, .est, .ctr, .field, .rnd, .freeIx]
  | .resetEnd => reactParts ++ [.tim, .herd, .pack, .est, .ctr, .field, .rnd]
  | .auxPowerFailWarning => reactParts ++ [.tim, .herd, .est, .ctr, .field, .rnd]
  | .inputsStageEnd .. | .supJunctionTrip .. | .safetyInputDemand .. | .safetyInputClear .. | .inputShort ..
  | .inputCross .. | .inputDiscrepancy .. | .svcKeyChange .. | .fieldConnectorChange .. | .crossLinkLoss
  | .channelFault | .configCrcCheck .. => reactParts ++ [.tim, .est, .ctr, .field, .rnd]
  | .recorderScanDone => reporting ++ [.tim]
  | .mainFeedLost .. | .ck09Fail | .ck10Overfreq => reactParts ++ [.lsc, .pages, .rot]
  | .mainOkRestored | .freqStepDone .. | .fltWireClear .. | .coolDownEnd | .lisRetry .. => []
  | .aonPdReqWrite .. | .clkTgFreqWrite .. | .decisionTick | .hello .. | .caps .. | .regRead .. | .regWrite ..
  | .timeRead .. | .recordRead .. | .safetyCfgRead .. | .stewardClaim .. | .stewardRenew .. | .stewardRelease ..
  | .wake .. | .sleepHint .. | .contactorCmd .. | .lswCmd .. | .loopSet .. | .powerShareSet .. | .limitsetLoad ..
  | .modelLoad .. | .safetyCfgLoad .. | .faultAck .. | .mgtPlcaWrite .. | .mgtKeyCommit .. | .mgtKeyErase ..
  | .hrdEnumWrite .. | .hrdRunWrite .. | .pkmCfgWrite .. | .sohReset .. | .socReinit .. | .stoReset ..
  | .stoOnRequest .. | .timGcLdhi .. | .timGcLdlo .. => orderParts
  | .domainReady .. => coreParts ++ [.qual, .herd, .pack]
  | .domainOff .. => coreParts ++ [.qual, .rot]
  | .coreRailDischarged | .recorderIdleOff | .herdGatedWake | .ck00Recover | .nidStrapChange .. | .ck08Recover =>
    [.pow]
  | .tgIdleExpiry .. | .ck00Fail | .ck08Fail => reporting ++ [.pow]
  | .engIdleExpiry .. | .thermalDiodeRead .. | .wakeInChange .. | .lightChange .. | .bankFault .. | .lenDrop .. =>
    linkParts ++ [.pow, .vmem]
  | .tgClockOverfreq .. | .tgRailOvervoltage .. | .qualSelftestDone .. | .qualRampDone .. =>
    tileParts ++ [.pow, .qual, .rings, .engs, .vmem, .gov, .freeIx]
  | .coreJunctionTrip .. => reactParts
  | .supJunctionRelease .. => [.pow, .ctr, .field]
  | .lscPresChange .. | .lscReadyTimeout .. | .lscPoll .. | .lscFrameDone .. => linkParts ++ [.pow, .lsc, .vmem]
  | .batteryHarnessChange .. | .conditionConfirm .. | .brkWaitExpiry | .chargeOnlyOvercurrent | .auxContactChange ..
  | .testWindowExpiry | .coilShort .. | .coilOpen .. | .weldCheck .. | .dropout => reporting ++ [.tim, .est, .ctr]
  | .copperCableChange .. | .remapReq .. | .remapRdy .. | .remapAbort .. | .tAlignExpiry .. | .tRemapExpiry ..
  | .tRetryExpiry .. | .losBlankingEnd .. | .rotationStart .. => [.ports, .rings, .lines]
  | .fltWireSet .. | .frameReceive .. | .plcaFail | .estimationStateRecord | .lisFoldback .. | .pageProgramStart
  | .sectorEraseDone .. => reporting
  | .tWidenExpiry .. | .replayTimeout .. | .retrain .. | .tLmExpiry .. | .lambda16Los .. => reporting ++ [.rings]
  | .leaseExpiry => reporting ++ [.tim, .lease, .gov, .est, .ctr, .field]
  | .mirrorWrite .. | .partitionOpen .. | .partitionReclaim .. | .ptTilesWrite .. | .pageOwnWrite ..
  | .pageClearDone .. | .tileZeroingDone .. | .ptPortsWrite .. | .sepPcAdmit .. | .sepStwProve .. | .rd .. | .wr ..
  | .fadd64 .. | .cas64 .. | .lnkEnWrite .. | .lnkRetrainWrite .. | .lnkLoopReqWrite .. | .flitReceive ..
  | .lnkTxeqWrite .. | .lnkSscWrite .. | .dfeReset .. | .dfeFreezeWrite .. | .pyuReset .. | .lscWinWrite ..
  | .sepRingEnWrite .. | .sepRingDb .. | .sepCqEnWrite .. | .sepCqConsWrite .. | .perfClear .. | .vatPcKeyWrite ..
  | .keyCommit .. | .fltAckWrite .. => coreParts
  | .rsLowRead .. => [.tim, .freeIx]
  | .rdRsp .. | .wrRsp .. | .atomRsp .. | .nakTimeout .. | .widthAck .. | .remapSw .. | .loopReq ..
  | .copperAcquireWait .. => [.ports]
  | .init .. | .tInitExpiry .. | .widthSwitch .. | .remapSwitch .. | .loopAck .. | .tAcqExpiry .. | .laneLosClear ..
  | .markerAlignmentLoss .. | .ringCalibrationDone .. => reporting ++ [.rings, .lines]
  | .widthReq .. => [.ports, .lines]
  | .laneLos .. | .laneLockLoss .. | .fwdClockLockLoss .. => linkParts
  | .laneLock .. | .markerAligned .. => reporting ++ [.rings, .lines, .freeIx]
  | .dfeTapSaturated .. => [.freeIx]
  | .engineResetDone .. => [.ports, .rings, .lines, .engs]
  | .bankLock .. => linkParts ++ [.pow, .lines]
  | .laserFailDeclare .. => linkParts ++ [.pow, .lines, .lsc, .vmem]
  | .spareRecalTimer .. => [.ports, .rings]
  | .ringRangeEnd .. => linkParts ++ [.lines]
  | .probeBurst .. | .probeBurstEnd .. => [.rings]
  | .nop .. | .rbset .. | .vop .. | .vred .. | .vcvt .. | .vtopk .. | .bar .. | .barrierComplete .. | .tclr ..
  | .loop .. | .preemptionResume .. => tileParts ++ [.freeIx]
  | .ldv .. | .stv .. | .cpl .. => tileParts ++ [.pow, .rings, .engs, .vmem, .idle, .gov, .freeIx]
  | .sld .. | .mpass .. | .hmsg .. | .shadowLoadDone .. | .rampGrant .. => tileParts ++ [.gov, .freeIx]
  | .xsig .. | .xsigDeliver .. => tileParts ++ [.pow, .rings, .engs, .vmem, .freeIx]
  | .rfence .. | .ringFetch .. => tileParts ++ [.pow, .rings, .engs, .vmem, .idle, .rot, .gov, .freeIx]
  | .instructionComplete .. => tileParts ++ [.pow, .rings, .engs, .vmem, .gov, .freeIx]
  | .rampDown .. => [.tiles]
  | .telemetryPeriod .. => [.ports, .parts]
  | .scrubBurst .. | .forcedScrub .. => tileParts ++ [.vmem, .idle, .gov, .freeIx]
  | .governorUpdate .. | .assistLost | .overBudget | .idleTrip | .idleTripRelease =>
    tileParts ++ [.idle, .gov, .freeIx]
  | .milkRoundStart .. => reporting ++ [.tim, .herd, .pack, .est, .ctr]
  | .syncMeasure .. | .enumeration | .monitorStandby .. | .monitorSleep .. | .monitorWake .. | .balTimeExpiry .. =>
    [.herd]
  | .read .. | .data .. | .responseTimeout .. | .echoTimeout | .enum .. | .setup .. | .resetMon .. | .sleep ..
  | .ping .. => reporting ++ [.herd]
  | .milkRoundComplete .. => reporting ++ [.pow, .tim, .herd, .est, .ctr]
  | .enumRsp .. => reporting ++ [.herd, .est]
  | .isoDwellEnd => reporting ++ [.tim, .pack, .est, .ctr, .freeIx]
  | .autoGainUp | .syncSampleTimeout .. => [.pack]
  | .prechargeTimeout | .auxMismatch .. => reporting ++ [.tim, .ctr]
  | .coilPeakEnd .. => [.ctr, .freeIx]
  | .doubleWeldCheck => reporting ++ [.ctr]
  | .lswOvercurrentLatch .. | .lswThermalLatch .. | .openLoadSet .. | .openLoadClear .. | .vfldUndervoltage ..
  | .loopCompliance .. => reporting ++ [.field]
  | .blankingEnd .. | .vfldRestore | .loopMeasurement .. => [.field]
  | .touchKeyTouch .. => reporting ++ [.field, .freeIx]
  | .touchKeyRelease .. | .touchKeyStuck .. => reporting ++ [.freeIx]
  | .stoOffPulse .. | .stoEnergise .. | .stoReadbackFault .. | .stoCurrentLimit .. => reporting ++ [.rnd]
  | .quietExpiry .. => tileParts ++ [.pow, .rings, .lines, .engs, .vmem, .idle, .gov, .freeIx]
  | .shadowEnd .. => tileParts ++ [.pow, .rings, .engs, .vmem, .idle, .gov, .field, .freeIx]
  | .pageProgramDone .. => reporting ++ [.tim, .freeIx]
  | .timeStoreWrite => [.tim]
  | .gcOverflow .. => [.tim, .mgt]
  | .packSample .. => reporting ++ [.pack, .est, .freeIx]
  | .plcaStatusChange .. => [.mgt]

/-- The register fields that a command may change, of whatever instance.  Of a reset nothing is said here. -/
def frameFields (c : Instr) : List RField :=
  match c with
  | .auxPowerUp | .auxDropInReset | .holdupEnd .. | .recorderIdleOff | .ck00Recover | .nidStrapChange ..
  | .rsLowRead .. | .rdRsp .. | .wrRsp .. | .atomRsp .. | .nakTimeout .. | .widthReq .. | .widthAck ..
  | .remapRdy .. | .remapSw .. | .loopReq .. | .rampDown .. | .syncMeasure .. | .monitorStandby ..
  | .monitorSleep .. | .monitorWake .. | .autoGainUp | .blankingEnd .. | .timeStoreWrite | .ck08Recover
  | .balTimeExpiry .. => []
  | .resetEnd =>
    safeFields ++ [F.AON_CONN_STAT_MGT_NID, F.AON_TEMP_TJ_SUP, F.HRD_STAT_BREAK_POS, F.HRD_STAT_MODE,
      F.TCH_RAW_BASE, F.TCH_RAW_RAW, F.RND_STAT_CFG_BAD, F.RND_STO_STAT_MODE, F.RND_CFG_ID_CFG_ID,
      F.RND_CFG_CRC_CRC, F.TIM_OPTIME_HI_OPTIME, F.TIM_PCYC_PCYC, F.TIM_BOOT_LAST_DOWN, F.MGT_STAT_PLCA,
      F.MGT_STAT_ACTIVE, F.MGT_SESS_SESS, F.MGT_KEY_STAT_LOADED]
  | .auxPowerFailWarning =>
    powerFields ++ openFields ++ [F.AON_FRONT_EVT_SI_CHG, F.AON_PIN_PHASE_HOLDUP, F.AON_PD_REQ_TG_REQ,
      F.AON_PD_REQ_ENG_REQ, F.AON_PD_REQ_VAT_REQ, F.AON_PD_REQ_SEP_REQ, F.AON_WAKE_SRC_REFUSED_TRIP,
      F.AON_WAKE_SRC_REFUSED_RIND, F.AON_WAKE_SRC_REFUSED_MAIN, F.AON_SUP_STAT_AUX_OK, F.SEP_PC_PERF_COUNT,
      F.HRD_STAT_BREAK_POS, F.HRD_STAT_MODE, F.LSW_STAT_LATCHED, F.LSW_STAT_ON, F.LOOP_CMD_CMD,
      F.LOOP_STAT_FALLBACK, F.LOOP_STAT_COMPLY, F.RND_STO_STAT_ON, F.RND_STO_STAT_RB_H, F.AON_FRONT_STAT_SI_DEMAND]
  | .inputsStageEnd .. =>
    safeFields ++ [F.AON_PIN_PHASE_FIELD_EN, F.LSW_STAT_LATCHED, F.LOOP_CMD_CMD, F.LOOP_STAT_FALLBACK,
      F.LOOP_STAT_COMPLY, F.RND_STAT_STATE]
  | .recorderScanDone =>
    eventFields ++ [F.AON_SVC_STAT_REC_READY, F.TIM_GC_EVT_OVF, F.REC_HEAD_HEAD, F.REC_OLDEST_OLDEST,
      F.REC_CNT_TORN, F.REC_ERASES_ERASES]
  | .mainFeedLost .. =>
    powerFields ++ lossFields ++ [F.AON_PIN_PHASE_CORE_PHASE, F.AON_SUP_STAT_MAIN_OV, F.AON_SUP_STAT_MAIN_OK,
      F.AON_HARD_EVT_MAIN_OV, F.AON_HARD_EVT_MAIN_UV, F.CLK_TG_FREQ_ACT, F.AON_SVC_STAT_COMPUTE,
      F.LSC_STAT_CAR_READY, F.LSC_WIN_BUSY, F.LNK_LANE_STAT_MALIGN, F.LNK_LANE_STAT_CLK_LOL, F.LNK_LANE_STAT_LOL,
      F.LNK_LANE_STAT_LOS]
  | .mainOkRestored => [F.AON_SUP_STAT_MAIN_OV, F.AON_SUP_STAT_MAIN_OK]
  | .aonPdReqWrite .. | .clkTgFreqWrite .. | .hello .. | .caps .. | .regRead .. | .regWrite .. | .timeRead ..
  | .recordRead .. | .safetyCfgRead .. | .stewardClaim .. | .stewardRenew .. | .stewardRelease .. | .wake ..
  | .sleepHint .. | .contactorCmd .. | .lswCmd .. | .loopSet .. | .powerShareSet .. | .limitsetLoad ..
  | .modelLoad .. | .safetyCfgLoad .. | .faultAck .. | .mgtPlcaWrite .. | .mgtKeyCommit .. | .mgtKeyErase ..
  | .hrdEnumWrite .. | .hrdRunWrite .. | .pkmCfgWrite .. | .sohReset .. | .socReinit .. | .stoReset ..
  | .stoOnRequest .. | .timGcLdhi .. | .timGcLdlo .. =>
    decideFields ++ [F.MGT_CNT_AUTH_FAIL, F.MGT_CNT_QUEUE_DROP, F.MGT_CNT_REPLAY, F.MGT_CNT_RETRY, F.MGT_CNT2_RX]
  | .domainReady .. =>
    powerFields ++ coreFields ++ [F.AON_FRONT_EVT_SI_CHG, F.AON_PIN_PHASE_CORE_PHASE, F.CLK_TG_FREQ_ACT,
      F.AON_SVC_STAT_COMPUTE, F.AON_QUAL_SKIM_GRP, F.GOV_STAT_BUDGET, F.GOV_STAT_P_MEAS, F.GOV_STAT_LIMIT,
      F.GOV_STAT_LEVEL, F.GOV_INPUTS_P_SHARE, F.GOV_INPUTS_P_ASSIST, F.GOV_INPUTS_P_THERMAL, F.GOV_INPUTS_P_CAP,
      F.GOV_CNT_ASSIST_LOST, F.GOV_CNT_HARD_TRIPS, F.GOV_CNT_RESERVE_STOPS, F.GOV_CNT_CAP_EVENTS,
      F.GOV_ASSIST_SOP2S, F.GOV_ASSIST_P_OTHER, F.GOV_ASSIST_P_IN, F.GOV_ASSIST_AGE, F.HRD_STAT_BREAK_POS,
      F.HRD_STAT_MODE, F.PYU_PORT_STAT_ROTATIONS, F.PYU_PORT_STAT_D2D_CRC, F.PYU_PORT_STAT_PROBES,
      F.AON_FRONT_STAT_SI_DEMAND]
  | .domainOff .. =>
    powerFields ++ coreFields ++ lossFields ++ [F.AON_PIN_PHASE_CORE_PHASE, F.CLK_TG_FREQ_ACT,
      F.AON_SVC_STAT_COMPUTE, F.LSC_STAT_CAR_READY, F.LNK_LANE_STAT_CLK_LOL]
  | .coreRailDischarged => [F.AON_SUP_STAT_CORE_DISCH]
  | .tgIdleExpiry .. => eventFields ++ [F.AON_PD_REQ_TG_REQ]
  | .engIdleExpiry .. => powerFields ++ [F.AON_PD_REQ_ENG_REQ]
  | .herdGatedWake => [F.AON_WAKE_SRC_SRC]
  | .freqStepDone .. => [F.CLK_TG_FREQ_ACT]
  | .ck00Fail => eventFields ++ [F.CLK_MON_EVT_SLOW_FAIL]
  | .ck08Fail => eventFields ++ [F.CLK_MON_EVT_XS_FAIL]
  | .ck09Fail | .ck10Overfreq =>
    powerFields ++ lossFields ++ [F.AON_PIN_PHASE_CORE_PHASE, F.CLK_TG_FREQ_ACT, F.CLK_MON_EVT_REF_FAIL,
      F.CLK_MON_EVT_SEP_OVF, F.AON_SVC_STAT_COMPUTE, F.LSC_STAT_CAR_READY, F.LSC_WIN_BUSY, F.LNK_LANE_STAT_MALIGN,
      F.LNK_LANE_STAT_CLK_LOL, F.LNK_LANE_STAT_LOL, F.LNK_LANE_STAT_LOS]
  | .tgClockOverfreq .. | .tgRailOvervoltage .. =>
    powerFields ++ [F.AON_PIN_PHASE_CORE_PHASE, F.AON_PD_REQ_TG_REQ, F.AON_PD_REQ_ENG_REQ, F.AON_PD_REQ_VAT_REQ,
      F.AON_PD_REQ_SEP_REQ, F.AON_WAKE_SRC_REFUSED_TRIP, F.AON_WAKE_SRC_REFUSED_RIND, F.AON_WAKE_SRC_REFUSED_MAIN,
      F.AON_HARD_EVT_VTG_OV, F.CLK_TG_FREQ_ACT, F.CLK_MON_EVT_TG_OVF, F.AON_SVC_STAT_COMPUTE, F.SEP_PC_PERF_COUNT]
  | .coreJunctionTrip .. =>
    powerFields ++ [F.AON_PD_REQ_TG_REQ, F.AON_PD_REQ_ENG_REQ, F.AON_PD_REQ_VAT_REQ, F.AON_PD_REQ_SEP_REQ,
      F.AON_WAKE_SRC_REFUSED_TRIP, F.AON_WAKE_SRC_REFUSED_RIND, F.AON_WAKE_SRC_REFUSED_MAIN, F.AON_TEMP_TJ_CORE,
      F.AON_HARD_EVT_TJ_CORE_TRIP, F.AON_QUAL_QUAL_DONE, F.SEP_PC_PERF_COUNT]
  | .thermalDiodeRead .. => powerFields ++ [F.AON_TEMP_TJ_CORE]
  | .supJunctionTrip .. =>
    powerFields ++ openFields ++ [F.AON_PIN_PHASE_FIELD_EN, F.AON_PD_REQ_TG_REQ, F.AON_PD_REQ_ENG_REQ,
      F.AON_PD_REQ_VAT_REQ, F.AON_PD_REQ_SEP_REQ, F.AON_WAKE_SRC_REFUSED_TRIP, F.AON_WAKE_SRC_REFUSED_RIND,
      F.AON_WAKE_SRC_REFUSED_MAIN, F.AON_TEMP_TJ_SUP, F.AON_HARD_EVT_TJ_SUP_TRIP, F.SEP_PC_PERF_COUNT,
      F.LSW_STAT_LATCHED, F.LSW_STAT_ON, F.LOOP_CMD_CMD, F.LOOP_STAT_FALLBACK, F.LOOP_STAT_COMPLY,
      F.RND_STO_STAT_ON, F.RND_STO_STAT_RB_H]
  | .supJunctionRelease .. =>
    [F.AON_PIN_PHASE_FIELD_EN, F.AON_TEMP_TJ_SUP, F.LSC_STAT_VDD_OK, F.LSC_STAT_LEN_B, F.LSC_STAT_LEN_A,
      F.LSW_STAT_LATCHED, F.LSW_STAT_ON, F.LOOP_CMD_CMD, F.LOOP_STAT_FALLBACK, F.LOOP_STAT_COMPLY, F.AON_STO_REQ_ON]
  | .safetyInputDemand .. | .inputDiscrepancy .. =>
    safeFields ++ [F.RND_SI_STAT_CB, F.RND_SI_STAT_CA, F.RND_SI_FLT_DISCREP, F.RND_SI_FLT_CROSS, F.RND_SI_FLT_SHORT]
  | .safetyInputClear .. =>
    safeFields ++ [F.RND_SI_STAT_CB, F.RND_SI_STAT_CA, F.RND_SI_FLT_DISCREP, F.RND_SI_FLT_CROSS, F.RND_SI_FLT_SHORT,
      F.RND_CNT_RESETS, F.RND_CNT_RST_IGN]
  | .inputShort .. | .inputCross .. => safeFields ++ [F.RND_SI_FLT_DISCREP, F.RND_SI_FLT_CROSS, F.RND_SI_FLT_SHORT]
  | .svcKeyChange .. =>
    safeFields ++ frontFields ++ [F.AON_FRONT_STAT_SVC_KEY, F.RND_STAT_CFG_BAD, F.RND_STAT_PENDING,
      F.RND_STO_STAT_MODE, F.RND_CFG_ID_CFG_ID, F.RND_CFG_CRC_CRC]
  | .wakeInChange .. =>
    powerFields ++ frontFields ++ [F.AON_FRONT_STAT_WAKE_IN, F.AON_PD_REQ_TG_REQ, F.AON_PD_REQ_ENG_REQ,
      F.AON_PD_REQ_VAT_REQ, F.AON_PD_REQ_SEP_REQ, F.AON_WAKE_SRC_REFUSED_TRIP, F.AON_WAKE_SRC_REFUSED_RIND,
      F.AON_WAKE_SRC_REFUSED_MAIN, F.AON_WAKE_SRC_SRC]
  | .lightChange .. =>
    powerFields ++ frontFields ++ [F.AON_FRONT_STAT_LIGHT, F.AON_PD_REQ_TG_REQ, F.AON_PD_REQ_ENG_REQ,
      F.AON_PD_REQ_VAT_REQ, F.AON_PD_REQ_SEP_REQ, F.AON_WAKE_SRC_REFUSED_TRIP, F.AON_WAKE_SRC_REFUSED_RIND,
      F.AON_WAKE_SRC_REFUSED_MAIN, F.AON_WAKE_SRC_SRC]
  | .lscPresChange .. =>
    powerFields ++ frontFields ++ [F.AON_PD_REQ_ENG_REQ, F.AON_WAKE_SRC_REFUSED_RIND, F.LSC_STAT_BAD_CAR,
      F.AON_FRONT_STAT_LSC_PRESENT]
  | .fieldConnectorChange .. =>
    safeFields ++ [F.AON_CONN_STAT_FLD_PRES, F.LOOP_CMD_CMD, F.LOOP_STAT_FALLBACK, F.LOOP_STAT_COMPLY,
      F.RND_SI_STAT_CB, F.RND_SI_STAT_CA, F.RND_SI_FLT_DISCREP, F.RND_SI_FLT_CROSS, F.RND_SI_FLT_SHORT]
  | .batteryHarnessChange .. => openFields ++ [F.AON_CONN_STAT_HPRES, F.AON_CONN_STAT_BJL_PRES, F.LNK_ERRCNT_M_DROP]
  | .copperCableChange .. => acquireFields ++ [F.AON_CONN_STAT_CPRES]
  | .fltWireSet .. => eventFields ++ [F.AON_CONN_STAT_FLT_WIRE, F.AON_CONN_STAT_FLT_READ]
  | .fltWireClear .. => [F.AON_CONN_STAT_FLT_WIRE, F.AON_CONN_STAT_FLT_READ]
  | .qualSelftestDone .. =>
    powerFields ++ [F.AON_PIN_PHASE_CORE_PHASE, F.AON_PD_REQ_TG_REQ, F.AON_PD_REQ_ENG_REQ, F.AON_PD_REQ_VAT_REQ,
      F.AON_PD_REQ_SEP_REQ, F.AON_WAKE_SRC_REFUSED_TRIP, F.AON_WAKE_SRC_REFUSED_RIND, F.AON_WAKE_SRC_REFUSED_MAIN,
      F.CLK_TG_FREQ_ACT, F.AON_SVC_STAT_COMPUTE, F.AON_QUAL_QUAL_FAIL, F.AON_QUAL_SKIM_GRP, F.SEP_PC_PERF_COUNT]
  | .qualRampDone .. =>
    powerFields ++ [F.AON_PIN_PHASE_CORE_PHASE, F.AON_PD_REQ_TG_REQ, F.AON_PD_REQ_ENG_REQ, F.AON_PD_REQ_VAT_REQ,
      F.AON_PD_REQ_SEP_REQ, F.AON_WAKE_SRC_REFUSED_TRIP, F.AON_WAKE_SRC_REFUSED_RIND, F.AON_WAKE_SRC_REFUSED_MAIN,
      F.CLK_TG_FREQ_ACT, F.AON_SVC_STAT_COMPUTE, F.AON_QUAL_QUAL_FAIL, F.AON_QUAL_QUAL_DONE, F.AON_QUAL_SKIM_GRP,
      F.SEP_PC_PERF_COUNT]
  | .tWidenExpiry .. | .retrain .. | .markerAligned .. =>
    linkDownFields ++ [F.LNK_ERRCNT_RETRAINS, F.LNK_LANE_STAT_MALIGN]
  | .decisionTick =>
    decideFields ++ [F.GOV_CNT_RESERVE_STOPS, F.GOV_ASSIST_SOP2S, F.GOV_ASSIST_P_OTHER, F.GOV_ASSIST_P_IN,
      F.GOV_ASSIST_AGE, F.EST_STAT_REST, F.EST_STAT_LIM_LOADED, F.EST_LIMIT_ID_LIMIT_ID, F.EST_SOP_P, F.EST_SOPI_I,
      F.EST_ALLOW_I_DIS_ALLOW, F.EST_COND_ACT_ACT, F.EST_COND_CONF_CONF, F.EST_DISC_CAUSE, F.EST_CNT_SOFT_DISC,
      F.EST_CNT_HARD_DISC, F.TCH_RAW_BASE, F.TCH_RAW_RAW, F.MGT_STAT_PLCA]
  | .frameReceive .. =>
    eventFields ++ [F.MGT_CNT_AUTH_FAIL, F.MGT_CNT_QUEUE_DROP, F.MGT_CNT_REPLAY, F.MGT_CNT_RETRY, F.MGT_CNT2_RX]
  | .leaseExpiry =>
    openFields ++ [F.SEP_STW_PORTS_PORTS, F.LNK_ERRCNT_M_DROP, F.EST_CNT_BRK_FORCED, F.LSW_STAT_ON, F.LOOP_CMD_CMD,
      F.LOOP_STAT_FALLBACK]
  | .plcaFail | .estimationStateRecord => eventFields
  | .mirrorWrite .. | .partitionOpen .. | .partitionReclaim .. | .ptTilesWrite .. | .pageOwnWrite ..
  | .pageClearDone .. | .tileZeroingDone .. | .ptPortsWrite .. | .sepPcAdmit .. | .sepStwProve .. | .rd .. | .wr ..
  | .fadd64 .. | .cas64 .. | .lnkEnWrite .. | .lnkRetrainWrite .. | .lnkLoopReqWrite .. | .lnkTxeqWrite ..
  | .lnkSscWrite .. | .dfeReset .. | .dfeFreezeWrite .. | .pyuReset .. | .lscWinWrite .. | .sepRingEnWrite ..
  | .sepRingDb .. | .sepCqEnWrite .. | .sepCqConsWrite .. | .perfClear .. | .vatPcKeyWrite .. | .keyCommit ..
  | .fltAckWrite .. => powerFields ++ coreFields
  | .flitReceive .. =>
    powerFields ++ coreFields ++ [F.LNK_CREDIT_M_PEER, F.LNK_CREDIT_S_PEER, F.LNK_ERRCNT_PROTO_ERR,
      F.LNK_ERRCNT_REPLAYS, F.LNK_ERRCNT_CRC_ERR]
  | .replayTimeout .. => linkDownFields ++ [F.LNK_ERRCNT_RETRAINS, F.LNK_ERRCNT_REPLAYS, F.LNK_LANE_STAT_MALIGN]
  | .init .. =>
    linkDownFields ++ acquireFields ++ [F.LNK_CREDIT_M_PEER, F.LNK_CREDIT_S_PEER, F.LNK_ERRCNT_PROTO_ERR,
      F.LNK_ERRCNT_RETRAINS, F.LNK_ERRCNT_REPLAYS, F.LNK_LANE_ERR_LOOP_ERR, F.LNK_LOOP_STAT_LOOP_FAIL,
      F.LNK_LOOP_STAT_SYNC]
  | .tInitExpiry .. =>
    linkDownFields ++ acquireFields ++ [F.LNK_ERRCNT_RETRAINS, F.LNK_ERRCNT_REPLAYS, F.LNK_LANE_ERR_LOOP_ERR,
      F.LNK_LOOP_STAT_LOOP_FAIL, F.LNK_LOOP_STAT_SYNC]
  | .widthSwitch .. =>
    linkDownFields ++ [F.LNK_ERRCNT_RETRAINS, F.LNK_DFE_SAT, F.LNK_DFE_H5, F.LNK_DFE_H4, F.LNK_DFE_H3, F.LNK_DFE_H2,
      F.LNK_DFE_H1, F.LNK_LANE_STAT_MALIGN, F.LNK_LANE_STAT_LOL]
  | .remapReq .. =>
    [F.LNK_DFE_SAT, F.LNK_DFE_H5, F.LNK_DFE_H4, F.LNK_DFE_H3, F.LNK_DFE_H2, F.LNK_DFE_H1, F.LNK_LANE_STAT_MALIGN,
      F.LNK_LANE_STAT_LOL]
  | .remapSwitch .. =>
    linkDownFields ++ [F.LNK_ERRCNT_RETRAINS, F.LNK_DFE_SAT, F.LNK_DFE_H5, F.LNK_DFE_H4, F.LNK_DFE_H3, F.LNK_DFE_H2,
      F.LNK_DFE_H1, F.LNK_LANE_STAT_MALIGN, F.LNK_LANE_STAT_LOL, F.LNK_TXMAP0_MAP, F.LNK_TXMAP1_MAP,
      F.LNK_RXMAP0_MAP, F.LNK_RXMAP1_MAP, F.PYU_PORT_STAT_ROTATIONS, F.PYU_PORT_STAT_CAL_BUSY]
  | .remapAbort .. | .tRemapExpiry .. | .rotationStart .. =>
    [F.LNK_DFE_SAT, F.LNK_DFE_H5, F.LNK_DFE_H4, F.LNK_DFE_H3, F.LNK_DFE_H2, F.LNK_DFE_H1, F.LNK_LANE_STAT_MALIGN,
      F.LNK_LANE_STAT_LOL, F.PYU_PORT_STAT_ROT_OPEN]
  | .loopAck .. =>
    eventFields ++ [F.AON_SVC_STAT_OPT_NARROW, F.AON_SVC_STAT_ASSIST_ON, F.AON_SVC_STAT_SKIM, F.LNK_STAT_WIDTH,
      F.LNK_STAT_STATE, F.LNK_LANE_ERR_LOOP_ERR, F.LNK_LOOP_STAT_SYNC, F.PYU_PORT_STAT_ROT_OPEN,
      F.PYU_PORT_STAT_SHUTTER]
  | .tAcqExpiry .. => linkDownFields ++ acquireFields
  | .tAlignExpiry .. | .tRetryExpiry .. | .losBlankingEnd .. => acquireFields
  | .tLmExpiry .. => linkDownFields ++ [F.LNK_ERRCNT_RETRAINS, F.LNK_LANE_STAT_MALIGN, F.LNK_LOOP_STAT_LOOP_FAIL]
  | .laneLos .. =>
    linkDownFields ++ [F.LNK_ERRCNT_RETRAINS, F.PYU_STAT_STATE, F.LNK_LANE_ERR_LOS_EVT, F.LNK_LANE_STAT_MALIGN,
      F.LNK_LANE_STAT_LOS, F.PYU_PORT_STAT_CAL_BUSY, F.PYU_PORT_STAT_LOS]
  | .laneLosClear .. => linkDownFields ++ acquireFields ++ [F.LNK_ERRCNT_RETRAINS]
  | .laneLock .. =>
    linkDownFields ++ [F.LNK_ERRCNT_RETRAINS, F.LNK_DFE_H5, F.LNK_DFE_H4, F.LNK_DFE_H3, F.LNK_DFE_H2, F.LNK_DFE_H1,
      F.LNK_LANE_STAT_MALIGN, F.LNK_LANE_STAT_CLK_LOL, F.LNK_LANE_STAT_LOL]
  | .laneLockLoss .. =>
    linkDownFields ++ [F.LNK_ERRCNT_RETRAINS, F.PYU_STAT_STATE, F.LNK_LANE_ERR_LOL_EVT, F.LNK_LANE_STAT_MALIGN,
      F.LNK_LANE_STAT_LOL, F.PYU_PORT_STAT_CAL_BUSY]
  | .fwdClockLockLoss .. => linkDownFields ++ [F.PYU_STAT_STATE, F.LNK_LANE_STAT_CLK_LOL, F.PYU_PORT_STAT_CAL_BUSY]
  | .markerAlignmentLoss .. =>
    linkDownFields ++ [F.LNK_ERRCNT_RETRAINS, F.LNK_LANE_ERR_MARKER_ERR, F.LNK_LANE_STAT_MALIGN]
  | .dfeTapSaturated .. => [F.LNK_DFE_SAT, F.LNK_DFE_H5, F.LNK_DFE_H4, F.LNK_DFE_H3, F.LNK_DFE_H2, F.LNK_DFE_H1]
  | .engineResetDone .. => acquireFields ++ [F.PYU_STAT_STATE]
  | .lscReadyTimeout .. => powerFields ++ [F.AON_PD_REQ_ENG_REQ, F.AON_WAKE_SRC_REFUSED_RIND, F.LSC_STAT_BAD_CAR]
  | .bankLock .. =>
    linkDownFields ++ [F.AON_PD_REQ_ENG_REQ, F.PYU_STAT_FAIL, F.PYU_STAT_BANK_FAIL, F.LSC_STAT_BANK_LOCK,
      F.LSC_STAT_BANK_ON, F.LNK_DFE_SAT, F.LNK_DFE_H5, F.LNK_DFE_H4, F.LNK_DFE_H3, F.LNK_DFE_H2, F.LNK_DFE_H1,
      F.LNK_LANE_STAT_MALIGN, F.LNK_LANE_STAT_LOL, F.PYU_PORT_STAT_CAL_BUSY]
  | .bankFault .. => powerFields ++ [F.AON_PD_REQ_ENG_REQ, F.LSC_STAT_BANK_FLT]
  | .laserFailDeclare .. =>
    powerFields ++ [F.AON_PD_REQ_ENG_REQ, F.PYU_STAT_FAIL, F.LNK_DFE_SAT, F.LNK_DFE_H5, F.LNK_DFE_H4, F.LNK_DFE_H3,
      F.LNK_DFE_H2, F.LNK_DFE_H1, F.LNK_LANE_STAT_MALIGN, F.LNK_LANE_STAT_LOL]
  | .ringCalibrationDone .. =>
    acquireFields ++ [F.AON_SVC_STAT_OPT_NARROW, F.AON_SVC_STAT_ASSIST_ON, F.AON_SVC_STAT_SKIM, F.LNK_ERRCNT_M_DROP,
      F.LNK_ERRCNT_DOWNS, F.LNK_ERRCNT_RETRAINS, F.LNK_ERRCNT_REPLAYS, F.LNK_LANE_ERR_LOOP_ERR, F.LNK_SSC_PENDING,
      F.LNK_LOOP_STAT_LOOP_FAIL, F.LNK_LOOP_STAT_SYNC, F.MGT_CNT2_EVT_LOST]
  | .spareRecalTimer .. => [F.PYU_PORT_STAT_CAL_BUSY]
  | .ringRangeEnd .. =>
    linkDownFields ++ [F.LNK_ERRCNT_RETRAINS, F.PYU_STAT_STATE, F.LNK_DFE_SAT, F.LNK_DFE_H5, F.LNK_DFE_H4,
      F.LNK_DFE_H3, F.LNK_DFE_H2, F.LNK_DFE_H1, F.LNK_LANE_STAT_MALIGN, F.LNK_LANE_STAT_CLK_LOL,
      F.LNK_LANE_STAT_LOL, F.PYU_PORT_STAT_CAL_BUSY]
  | .lambda16Los .. => linkDownFields
  | .probeBurst .. => [F.PYU_PORT_STAT_PROBES, F.PYU_PORT_STAT_SHUTTER]
  | .probeBurstEnd .. => [F.PYU_PORT_STAT_SHUTTER]
  | .lenDrop .. => powerFields ++ [F.AON_PD_REQ_ENG_REQ, F.AON_WAKE_SRC_REFUSED_RIND]
  | .lscPoll .. => powerFields ++ [F.AON_PD_REQ_ENG_REQ, F.LSC_STAT_BANK_FLT, F.LSC_STAT_CAR_READY]
  | .lscFrameDone .. =>
    powerFields ++ [F.AON_PD_REQ_ENG_REQ, F.LSC_STAT_BANK_FLT, F.LSC_STAT_CAR_READY, F.LSC_WIN_BUSY, F.LSC_WIN_DATA]
  | .nop .. | .sld .. | .mpass .. | .rbset .. | .vop .. | .vred .. | .vcvt .. | .vtopk .. | .bar ..
  | .barrierComplete .. | .tclr .. | .loop .. | .hmsg .. | .shadowLoadDone .. | .preemptionResume ..
  | .idleTripRelease =>
    eventFields ++ [F.AON_PD_REQ_TG_REQ, F.AON_PD_REQ_ENG_REQ, F.AON_PD_REQ_VAT_REQ, F.AON_PD_REQ_SEP_REQ,
      F.AON_WAKE_SRC_REFUSED_TRIP, F.AON_WAKE_SRC_REFUSED_RIND, F.AON_WAKE_SRC_REFUSED_MAIN, F.SEP_PC_PERF_COUNT]
  | .ldv .. | .stv .. =>
    powerFields ++ [F.AON_PD_REQ_TG_REQ, F.AON_PD_REQ_ENG_REQ, F.AON_PD_REQ_VAT_REQ, F.AON_PD_REQ_SEP_REQ,
      F.AON_WAKE_SRC_REFUSED_TRIP, F.AON_WAKE_SRC_REFUSED_RIND, F.AON_WAKE_SRC_REFUSED_MAIN, F.SEP_PC_PERF_COUNT,
      F.VAT_ECC_CNT_UE, F.VAT_ECC_CNT_CE_CTL, F.VAT_ECC_CNT_CE_STACK]
  | .xsig .. | .xsigDeliver .. | .instructionComplete .. =>
    powerFields ++ [F.AON_PD_REQ_TG_REQ, F.AON_PD_REQ_ENG_REQ, F.AON_PD_REQ_VAT_REQ, F.AON_PD_REQ_SEP_REQ,
      F.AON_WAKE_SRC_REFUSED_TRIP, F.AON_WAKE_SRC_REFUSED_RIND, F.AON_WAKE_SRC_REFUSED_MAIN, F.SEP_PC_PERF_COUNT]
  | .rfence .. | .ringFetch .. =>
    powerFields ++ [F.AON_PD_REQ_TG_REQ, F.AON_PD_REQ_ENG_REQ, F.AON_PD_REQ_VAT_REQ, F.AON_PD_REQ_SEP_REQ,
      F.AON_WAKE_SRC_REFUSED_TRIP, F.AON_WAKE_SRC_REFUSED_RIND, F.AON_WAKE_SRC_REFUSED_MAIN, F.SEP_RING_STAT_HEAD,
      F.SEP_CQ_PROD_RSV, F.SEP_CQ_PROD_PROD, F.SEP_PC_PERF_COUNT, F.VAT_ECC_CNT_UE, F.VAT_ECC_CNT_CE_CTL,
      F.VAT_ECC_CNT_CE_STACK]
  | .cpl .. =>
    powerFields ++ [F.AON_PD_REQ_TG_REQ, F.AON_PD_REQ_ENG_REQ, F.AON_PD_REQ_VAT_REQ, F.AON_PD_REQ_SEP_REQ,
      F.AON_WAKE_SRC_REFUSED_TRIP, F.AON_WAKE_SRC_REFUSED_RIND, F.AON_WAKE_SRC_REFUSED_MAIN, F.SEP_CQ_PROD_RSV,
      F.SEP_CQ_PROD_PROD, F.SEP_PC_PERF_COUNT, F.VAT_ECC_CNT_UE, F.VAT_ECC_CNT_CE_CTL, F.VAT_ECC_CNT_CE_STACK]
  | .rampGrant .. =>
    [F.AON_PD_REQ_TG_REQ, F.AON_PD_REQ_ENG_REQ, F.AON_PD_REQ_VAT_REQ, F.AON_PD_REQ_SEP_REQ,
      F.AON_WAKE_SRC_REFUSED_TRIP, F.AON_WAKE_SRC_REFUSED_RIND, F.AON_WAKE_SRC_REFUSED_MAIN, F.LNK_ERRCNT_M_DROP,
      F.SEP_PC_PERF_COUNT, F.MGT_CNT2_EVT_LOST]
  | .telemetryPeriod .. => [F.SEP_PC_PERF_CTL_TEL_DROP]
  | .scrubBurst .. | .forcedScrub .. =>
    eventFields ++ [F.AON_PD_REQ_TG_REQ, F.AON_PD_REQ_ENG_REQ, F.AON_PD_REQ_VAT_REQ, F.AON_PD_REQ_SEP_REQ,
      F.AON_WAKE_SRC_REFUSED_TRIP, F.AON_WAKE_SRC_REFUSED_RIND, F.AON_WAKE_SRC_REFUSED_MAIN, F.SEP_PC_PERF_COUNT,
      F.VAT_ECC_CNT_UE, F.VAT_ECC_CNT_CE_CTL, F.VAT_ECC_CNT_CE_STACK, F.VAT_SCRUB_STAT_PASSES,
      F.VAT_SCRUB_STAT_FORCED, F.VAT_SCRUB_STAT_POSITION]
  | .governorUpdate .. =>
    eventFields ++ [F.AON_PD_REQ_TG_REQ, F.AON_PD_REQ_ENG_REQ, F.AON_PD_REQ_VAT_REQ, F.AON_PD_REQ_SEP_REQ,
      F.AON_WAKE_SRC_REFUSED_TRIP, F.AON_WAKE_SRC_REFUSED_RIND, F.AON_WAKE_SRC_REFUSED_MAIN, F.AON_TEMP_TJ_CORE,
      F.SEP_PC_PERF_COUNT, F.GOV_STAT_BUDGET, F.GOV_STAT_P_MEAS, F.GOV_STAT_LIMIT, F.GOV_STAT_LEVEL,
      F.GOV_INPUTS_P_SHARE, F.GOV_INPUTS_P_ASSIST, F.GOV_INPUTS_P_THERMAL, F.GOV_INPUTS_P_CAP, F.GOV_EVT_MEAS_FAIL,
      F.GOV_EVT_HARD_TRIP, F.GOV_CNT_HARD_TRIPS, F.GOV_CNT_CAP_EVENTS, F.GOV_ASSIST_AGE]
  | .assistLost =>
    eventFields ++ [F.AON_PD_REQ_TG_REQ, F.AON_PD_REQ_ENG_REQ, F.AON_PD_REQ_VAT_REQ, F.AON_PD_REQ_SEP_REQ,
      F.AON_WAKE_SRC_REFUSED_TRIP, F.AON_WAKE_SRC_REFUSED_RIND, F.AON_WAKE_SRC_REFUSED_MAIN, F.SEP_PC_PERF_COUNT,
      F.GOV_EVT_ASSIST_LOST, F.GOV_CNT_ASSIST_LOST]
  | .overBudget =>
    eventFields ++ [F.AON_PD_REQ_TG_REQ, F.AON_PD_REQ_ENG_REQ, F.AON_PD_REQ_VAT_REQ, F.AON_PD_REQ_SEP_REQ,
      F.AON_WAKE_SRC_REFUSED_TRIP, F.AON_WAKE_SRC_REFUSED_RIND, F.AON_WAKE_SRC_REFUSED_MAIN, F.SEP_PC_PERF_COUNT,
      F.GOV_EVT_OVER_BUDGET]
  | .idleTrip =>
    eventFields ++ [F.AON_PD_REQ_TG_REQ, F.AON_PD_REQ_ENG_REQ, F.AON_PD_REQ_VAT_REQ, F.AON_PD_REQ_SEP_REQ,
      F.AON_WAKE_SRC_REFUSED_TRIP, F.AON_WAKE_SRC_REFUSED_RIND, F.AON_WAKE_SRC_REFUSED_MAIN, F.SEP_PC_PERF_COUNT,
      F.GOV_EVT_IDLE_TRIP]
  | .milkRoundStart .. =>
    openFields ++ [F.AON_SVC_STAT_EST_LOADED, F.LNK_ERRCNT_M_DROP, F.HRD_STAT_BREAK_POS, F.HRD_STAT_MODE,
      F.HRD_ERR_REENUM, F.HRD_ERR_CRC_ERR, F.EST_STAT_ROUND, F.EST_STAT_INIT_ALL, F.EST_STAT_NCELLS,
      F.EST_MODEL_ID_MODEL_ID, F.EST_SOC_MINMAX_SOC_MAX, F.EST_SOC_MINMAX_SOC_MIN, F.EST_SOC_MEAN_MAX_CELL,
      F.EST_SOC_MEAN_MIN_CELL, F.EST_SOC_MEAN_SOC_MEAN, F.EST_SOH_SOH_R_MAX, F.EST_SOH_SOH_C_MIN, F.EST_SOP_P,
      F.EST_SOPI_I, F.EST_ALLOW_I_CHG_ALLOW, F.EST_ALLOW_I_DIS_ALLOW, F.EST_COND_ACT_ACT, F.EST_COND_CONF_CONF,
      F.EST_COND_EVT_EVT, F.EST_DISC_HARD_LATCH, F.EST_DISC_CAUSE, F.EST_CNT_SOFT_DISC, F.EST_CNT_HARD_DISC,
      F.HRD_TEMP_WORD, F.HRD_CELL_WORD]
  | .read .. | .enum .. | .resetMon .. | .sleep .. => eventFields ++ [F.HRD_ERR_CRC_ERR]
  | .data .. =>
    eventFields ++ [F.HRD_STAT_MON_CHANGE, F.HRD_STAT_BREAK_POS, F.HRD_ERR_NO_RSP, F.HRD_ERR_CRC_ERR,
      F.HRD_MON_INFO_REACH_A, F.HRD_MON_INFO_REACH_B, F.HRD_MSTAT_ROUND, F.HRD_MSTAT_MSTAT, F.HRD_TEMP_ROUND,
      F.HRD_TEMP_WORD, F.HRD_CELL_ROUND, F.HRD_CELL_WORD]
  | .responseTimeout .. => enumFields ++ [F.HRD_ERR_NO_RSP, F.HRD_TEMP_WORD, F.HRD_CELL_WORD]
  | .echoTimeout => eventFields ++ [F.HRD_STAT_BREAK_POS, F.HRD_STAT_MODE, F.HRD_ERR_BREAKS]
  | .milkRoundComplete .. =>
    openFields ++ [F.AON_SVC_STAT_EST_LOADED, F.AON_SVC_STAT_CHAIN_READY, F.LNK_ERRCNT_M_DROP, F.HRD_STAT_MISSING,
      F.HRD_ROUND_DUR, F.HRD_ROUND_ROUND, F.HRD_MON_INFO_MISS, F.EST_STAT_ROUND, F.EST_STAT_INIT_ALL,
      F.EST_STAT_NCELLS, F.EST_MODEL_ID_MODEL_ID, F.EST_SOC_MINMAX_SOC_MAX, F.EST_SOC_MINMAX_SOC_MIN,
      F.EST_SOC_MEAN_MAX_CELL, F.EST_SOC_MEAN_MIN_CELL, F.EST_SOC_MEAN_SOC_MEAN, F.EST_SOH_SOH_R_MAX,
      F.EST_SOH_SOH_C_MIN, F.EST_SOP_P, F.EST_SOPI_I, F.EST_ALLOW_I_CHG_ALLOW, F.EST_ALLOW_I_DIS_ALLOW,
      F.EST_COND_ACT_ACT, F.EST_COND_CONF_CONF, F.EST_COND_EVT_EVT, F.EST_DISC_HARD_LATCH, F.EST_DISC_CAUSE,
      F.EST_CNT_SOFT_DISC, F.EST_CNT_HARD_DISC, F.HRD_TEMP_WORD, F.HRD_CELL_WORD]
  | .enumRsp .. => enumFields ++ [F.HRD_STAT_MON_CHANGE, F.HRD_ERR_NO_RSP, F.HRD_ERR_CRC_ERR, F.HRD_MON_UID_UID]
  | .setup .. => enumFields ++ [F.HRD_ERR_NO_RSP, F.HRD_ERR_CRC_ERR]
  | .ping .. => enumFields ++ [F.HRD_ERR_CRC_ERR]
  | .enumeration => [F.HRD_STAT_BREAK_POS, F.HRD_STAT_MODE]
  | .isoDwellEnd =>
    openFields ++ [F.LNK_ERRCNT_M_DROP, F.PKM_ISO_STAT_STATE, F.PKM_ISO_LP_R_LP, F.PKM_ISO_LN_R_LN,
      F.EST_COND_ACT_ACT, F.EST_COND_CONF_CONF, F.EST_COND_EVT_EVT, F.EST_DISC_HARD_LATCH, F.EST_DISC_CAUSE,
      F.EST_CNT_SOFT_DISC, F.EST_CNT_HARD_DISC]
  | .syncSampleTimeout .. => [F.PKM_SYNCS_WORD]
  | .conditionConfirm .. =>
    openFields ++ [F.LNK_ERRCNT_M_DROP, F.EST_COND_CONF_CONF, F.EST_COND_EVT_EVT, F.EST_DISC_HARD_LATCH,
      F.EST_DISC_CAUSE, F.EST_CNT_SOFT_DISC, F.EST_CNT_HARD_DISC]
  | .brkWaitExpiry => openFields ++ [F.LNK_ERRCNT_M_DROP, F.EST_CNT_BRK_FORCED]
  | .chargeOnlyOvercurrent => openFields ++ [F.LNK_ERRCNT_M_DROP, F.EST_DISC_CAUSE, F.EST_CNT_SOFT_DISC]
  | .auxContactChange .. =>
    seqFailFields ++ [F.EST_DISC_STATE, F.CTR_STAT_AUX, F.CTR_EVT_DROPOUT, F.CTR_EVT_AUX_MIS,
      F.CTR_CLOSE_CNT_CLOSES]
  | .testWindowExpiry | .weldCheck .. => seqFailFields ++ [F.EST_DISC_STATE, F.CTR_STAT_WELD_LATCH, F.CTR_EVT_WELD]
  | .prechargeTimeout => seqFailFields
  | .coilPeakEnd .. => [F.CTR_COIL_I_I0, F.CTR_COIL_I_I1, F.CTR_COIL_I_I2, F.CTR_COIL_I_I3]
  | .coilShort .. | .coilOpen .. => openFields ++ [F.LNK_ERRCNT_M_DROP, F.CTR_EVT_COIL_SHORT, F.CTR_EVT_COIL_OPEN]
  | .auxMismatch .. => seqFailFields ++ [F.CTR_EVT_AUX_MIS]
  | .doubleWeldCheck => eventFields ++ [F.CTR_EVT_DOUBLE_WELD]
  | .dropout => openFields ++ [F.LNK_ERRCNT_M_DROP, F.CTR_EVT_DROPOUT]
  | .coolDownEnd => [F.CTR_STAT_COOL]
  | .lswOvercurrentLatch .. | .lswThermalLatch .. =>
    eventFields ++ [F.LSW_STAT_LATCHED, F.LSW_STAT_ON, F.LSW_EVT_TH_EVT, F.LSW_EVT_OC_EVT, F.LSW_LCNT_CNT_HI,
      F.LSW_LCNT_CNT_LO]
  | .openLoadSet .. | .openLoadClear .. => eventFields ++ [F.LSW_STAT_ON, F.LSW_OL_OPEN]
  | .vfldUndervoltage .. => eventFields ++ [F.LSW_STAT_ON, F.LSW_SUP_STAT_VFLD_UV]
  | .vfldRestore => [F.LSW_STAT_ON, F.LSW_SUP_STAT_VFLD_UV]
  | .loopCompliance .. =>
    eventFields ++ [F.LOOP_DEL_COMP_I, F.LOOP_STAT_FALLBACK, F.LOOP_STAT_COMPLY, F.LOOP_EVT_LOOP_COMPLIANCE]
  | .lisFoldback .. => eventFields ++ [F.LIS_CTL_LIS_OC]
  | .lisRetry .. => [F.LIS_CTL_LIS_OC]
  | .touchKeyTouch .. =>
    frontFields ++ eventFields ++ [F.LSW_STAT_ON, F.TCH_RAW_RAW, F.AON_FRONT_STAT_TK_ACTIVE, F.TCH_CNT_TOUCHES0,
      F.TCH_CNT_TOUCHES1, F.TCH_CNT_TOUCHES2, F.TCH_CNT_TOUCHES3]
  | .touchKeyRelease .. => frontFields ++ eventFields ++ [F.TCH_RAW_RAW, F.TCH_STAT_STUCK, F.AON_FRONT_STAT_TK_ACTIVE]
  | .touchKeyStuck .. =>
    frontFields ++ eventFields ++ [F.TCH_RAW_BASE, F.TCH_RAW_RAW, F.TCH_STAT_STUCK, F.AON_FRONT_STAT_TK_ACTIVE]
  | .stoOffPulse .. | .stoEnergise .. | .stoReadbackFault .. | .stoCurrentLimit .. =>
    eventFields ++ [F.RND_STO_STAT_STO_FLT, F.RND_STO_STAT_PERM, F.RND_STO_STAT_ON, F.RND_STO_STAT_RB_H]
  | .crossLinkLoss | .channelFault | .configCrcCheck .. => safeFields ++ [F.RND_STAT_STATE]
  | .quietExpiry .. =>
    powerFields ++ acquireFields ++ [F.AON_PD_REQ_TG_REQ, F.AON_PD_REQ_ENG_REQ, F.AON_PD_REQ_VAT_REQ,
      F.AON_PD_REQ_SEP_REQ, F.AON_WAKE_SRC_REFUSED_TRIP, F.AON_WAKE_SRC_REFUSED_RIND, F.AON_WAKE_SRC_REFUSED_MAIN,
      F.SEP_PC_PERF_COUNT]
  | .shadowEnd .. =>
    powerFields ++ [F.AON_PD_REQ_TG_REQ, F.AON_PD_REQ_ENG_REQ, F.AON_PD_REQ_VAT_REQ, F.AON_PD_REQ_SEP_REQ,
      F.AON_WAKE_SRC_REFUSED_TRIP, F.AON_WAKE_SRC_REFUSED_RIND, F.AON_WAKE_SRC_REFUSED_MAIN, F.SEP_PC_PERF_COUNT,
      F.LSW_STAT_ON]
  | .pageProgramStart => eventFields ++ [F.REC_HEAD_HEAD, F.REC_OLDEST_OLDEST, F.REC_ERASES_ERASES]
  | .pageProgramDone .. => eventFields ++ [F.TIM_GC_EVT_OVF]
  | .sectorEraseDone .. => eventFields ++ [F.REC_CNT_SKIPPED, F.REC_ERASES_ERASES]
  | .gcOverflow .. => [F.TIM_GC_EVT_OVF, F.MGT_CNT2_EVT_LOST]
  | .packSample .. =>
    eventFields ++ [F.PKM_SAMP_WORD, F.PKM_SYNCS_WORD, F.PKM_CC_STAT_HALL_SUBST, F.PKM_CC_STAT_BRIDGED,
      F.PKM_CC_EVT_CC_GAP, F.PKM_CC_EVT_CC_SAT, F.EST_COND_ACT_ACT, F.EST_COND_CONF_CONF]
  | .plcaStatusChange .. => [F.MGT_STAT_PLCA]
  | .loopMeasurement .. =>
    [F.LOOP_DEL_DELIV, F.LOOP_STAT_COMPLY, F.LOOP_IN_STATUS, F.LOOP_IN_OPEN, F.LOOP_IN_HIGH, F.LOOP_IN_LOW,
      F.LOOP_IN_I]
  | .copperAcquireWait .. => [F.LNK_STAT_STATE, F.LNK_LANE_STAT_MALIGN]

/-- The parts that may change while the module idles: the lanes and what follows from them (log entry 76). -/
def idleParts : List Sect :=
  tileParts ++ [.rings, .lines, .engs, .vmem, .idle, .gov, .freeIx]

/-- The register fields that may change while the module idles. -/
def idleFields : List RField :=
  linkDownFields ++ acquireFields ++ [F.AON_PD_REQ_TG_REQ, F.AON_PD_REQ_ENG_REQ, F.AON_PD_REQ_VAT_REQ,
    F.AON_PD_REQ_SEP_REQ, F.AON_WAKE_SRC_REFUSED_TRIP, F.AON_WAKE_SRC_REFUSED_RIND, F.AON_WAKE_SRC_REFUSED_MAIN,
    F.LNK_ERRCNT_RETRAINS, F.PYU_STAT_STATE, F.LNK_LANE_ERR_LOOP_ERR, F.LNK_LOOP_STAT_SYNC, F.SEP_PC_PERF_COUNT,
    F.PYU_PORT_STAT_D2D_CRC]

/-- Families of commands, by the unit that takes them. -/
inductive Family where
  | reset | power | safety | pins | recorder | mailbox | separator | links | tiles | string | field | ticks
  deriving DecidableEq, Repr

/-- The family of a command. -/
def familyOf (c : Instr) : Family :=
  match c with
  | .auxPowerUp | .auxDropInReset | .holdupEnd .. => .reset
  | .resetEnd | .auxPowerFailWarning | .inputsStageEnd .. | .recorderScanDone | .mainFeedLost .. | .mainOkRestored
  | .domainReady .. | .domainOff .. | .coreRailDischarged | .tgIdleExpiry .. | .engIdleExpiry .. | .recorderIdleOff
  | .herdGatedWake | .freqStepDone .. | .ck00Fail | .ck00Recover | .ck08Fail | .ck09Fail | .ck10Overfreq
  | .tgClockOverfreq .. | .tgRailOvervoltage .. | .coreJunctionTrip .. | .thermalDiodeRead .. | .supJunctionTrip ..
  | .supJunctionRelease .. | .qualSelftestDone .. | .qualRampDone .. | .ck08Recover => .power
  | .aonPdReqWrite .. | .clkTgFreqWrite .. | .frameReceive .. | .hello .. | .caps .. | .regRead .. | .regWrite ..
  | .timeRead .. | .recordRead .. | .safetyCfgRead .. | .stewardClaim .. | .stewardRenew .. | .stewardRelease ..
  | .leaseExpiry | .wake .. | .sleepHint .. | .contactorCmd .. | .lswCmd .. | .loopSet .. | .powerShareSet ..
  | .limitsetLoad .. | .modelLoad .. | .safetyCfgLoad .. | .faultAck .. | .mgtPlcaWrite .. | .plcaFail
  | .mgtKeyCommit .. | .mgtKeyErase .. | .hrdEnumWrite .. | .hrdRunWrite .. | .pkmCfgWrite .. | .sohReset ..
  | .socReinit .. | .stoReset .. | .stoOnRequest .. | .timGcLdhi .. | .timGcLdlo .. | .plcaStatusChange .. => .mailbox
  | .safetyInputDemand .. | .safetyInputClear .. | .inputShort .. | .inputCross .. | .inputDiscrepancy ..
  | .stoOffPulse .. | .stoEnergise .. | .crossLinkLoss | .channelFault | .configCrcCheck .. | .stoReadbackFault ..
  | .stoCurrentLimit .. => .safety
  | .svcKeyChange .. | .wakeInChange .. | .lightChange .. | .lscPresChange .. | .fieldConnectorChange ..
  | .batteryHarnessChange .. | .copperCableChange .. | .nidStrapChange .. | .fltWireSet .. | .fltWireClear .. => .pins
  | .tWidenExpiry .. | .lnkEnWrite .. | .lnkRetrainWrite .. | .lnkLoopReqWrite .. | .flitReceive ..
  | .nakTimeout .. | .replayTimeout .. | .init .. | .tInitExpiry .. | .widthReq .. | .widthAck .. | .widthSwitch ..
  | .remapReq .. | .remapRdy .. | .remapSw .. | .remapSwitch .. | .remapAbort .. | .loopReq .. | .loopAck ..
  | .retrain .. | .tAcqExpiry .. | .tAlignExpiry .. | .tLmExpiry .. | .tRemapExpiry .. | .tRetryExpiry ..
  | .laneLos .. | .laneLosClear .. | .laneLock .. | .laneLockLoss .. | .fwdClockLockLoss .. | .markerAligned ..
  | .markerAlignmentLoss .. | .losBlankingEnd .. | .lnkTxeqWrite .. | .lnkSscWrite .. | .dfeReset ..
  | .dfeFreezeWrite .. | .dfeTapSaturated .. | .pyuReset .. | .engineResetDone .. | .lscReadyTimeout ..
  | .bankLock .. | .bankFault .. | .laserFailDeclare .. | .ringCalibrationDone .. | .spareRecalTimer ..
  | .rotationStart .. | .ringRangeEnd .. | .lambda16Los .. | .probeBurst .. | .probeBurstEnd .. | .lenDrop ..
  | .lscPoll .. | .lscWinWrite .. | .lscFrameDone .. | .copperAcquireWait .. => .links
  | .decisionTick | .quietExpiry .. | .shadowEnd .. => .ticks
  | .mirrorWrite .. | .partitionOpen .. | .partitionReclaim .. | .ptTilesWrite .. | .pageOwnWrite ..
  | .pageClearDone .. | .tileZeroingDone .. | .ptPortsWrite .. | .sepPcAdmit .. | .sepStwProve .. | .rd .. | .wr ..
  | .fadd64 .. | .cas64 .. | .rdRsp .. | .wrRsp .. | .atomRsp .. | .sepRingEnWrite .. | .sepRingDb ..
  | .sepCqEnWrite .. | .sepCqConsWrite .. | .perfClear .. | .vatPcKeyWrite .. | .keyCommit .. | .scrubBurst ..
  | .forcedScrub .. | .governorUpdate .. | .assistLost | .overBudget | .idleTrip | .idleTripRelease
  | .fltAckWrite .. => .separator
  | .rsLowRead .. | .pageProgramStart | .pageProgramDone .. | .sectorEraseDone .. | .timeStoreWrite
  | .gcOverflow .. => .recorder
  | .nop .. | .ldv .. | .stv .. | .sld .. | .mpass .. | .rbset .. | .vop .. | .vred .. | .vcvt .. | .vtopk ..
  | .xsig .. | .xsigDeliver .. | .bar .. | .barrierComplete .. | .tclr .. | .loop .. | .rfence .. | .cpl ..
  | .hmsg .. | .instructionComplete .. | .shadowLoadDone .. | .rampDown .. | .rampGrant .. | .ringFetch ..
  | .preemptionResume .. | .telemetryPeriod .. => .tiles
  | .milkRoundStart .. | .syncMeasure .. | .read .. | .data .. | .responseTimeout .. | .echoTimeout
  | .milkRoundComplete .. | .enum .. | .enumRsp .. | .setup .. | .resetMon .. | .sleep .. | .ping .. | .enumeration
  | .monitorStandby .. | .monitorSleep .. | .monitorWake .. | .isoDwellEnd | .autoGainUp | .syncSampleTimeout ..
  | .conditionConfirm .. | .brkWaitExpiry | .chargeOnlyOvercurrent | .estimationStateRecord | .auxContactChange ..
  | .testWindowExpiry | .prechargeTimeout | .coilPeakEnd .. | .coilShort .. | .coilOpen .. | .auxMismatch ..
  | .weldCheck .. | .doubleWeldCheck | .dropout | .coolDownEnd | .packSample .. | .balTimeExpiry .. => .string
  | .lswOvercurrentLatch .. | .lswThermalLatch .. | .blankingEnd .. | .openLoadSet .. | .openLoadClear ..
  | .vfldUndervoltage .. | .vfldRestore | .loopCompliance .. | .lisFoldback .. | .lisRetry .. | .touchKeyTouch ..
  | .touchKeyRelease .. | .touchKeyStuck .. | .loopMeasurement .. => .field

/-! ### Whole-machine rules -/

/-- The command takes effect, or counts, without the supervisor: pins, supplies and resets, and what happens in a chain
monitor, which lives from the cells (01 R21, 02 R42, 16 R431). -/
def actsUnpowered : Instr → Bool
  | .auxPowerUp | .resetEnd | .auxDropInReset | .holdupEnd .. | .safetyInputDemand .. | .safetyInputClear ..
  | .svcKeyChange .. | .wakeInChange .. | .lightChange .. | .lscPresChange .. | .fieldConnectorChange ..
  | .batteryHarnessChange .. | .copperCableChange .. | .nidStrapChange .. | .monitorStandby .. | .monitorSleep ..
  | .monitorWake .. | .balTimeExpiry .. | .auxContactChange .. => true
  | _ => false

/-- The part is of one of the three grades (00 Table 0-1). -/
abbrev State.gradeOk (s : State) : Prop := s.tileCount = 64 ∨ s.tileCount = 56 ∨ s.tileCount = 48

/-- The identification registers read the values of Tables 0-5 to 0-7, `TILES` that of the part's grade. -/
def State.identified (s : State) : Prop :=
  s.supWord 0x000 = 0x4854B064 ∧ s.supWord 0x001 = s.tileCount ∧ s.gradeOk ∧ s.supWord 0x002 = 0xB0

/-- The register fields by which the module drives its contactors, load switches, loops and STO outputs (18, 19, 20). -/
def outputFields : List RField :=
  [F.CTR_STAT_COIL, F.LSW_STAT_ON, F.LOOP_CMD_CMD, F.LIS_CTL_LIS_EN, F.RND_STO_STAT_ON, F.RND_STO_STAT_PERM, F.AON_STO_REQ_ON]

/-- Byte `y` of the Vat lies in a page that the table gives to partition `p` and that is mapped (05 R106 to R109). -/
def State.inMapped (s : State) (p y : Nat) : Prop :=
  (∃ pp, s.pageOf p pp = some (y / pageSize)) ∧ (s.page (y / pageSize)).st = .mapped

/-- From `s` to `t` the Vat's bytes changed in pages of partition `p` alone. -/
def State.vatWithin (s t : State) (p : Nat) : Prop :=
  ∀ y, cellGet 0 y t.vmem.mem ≠ cellGet 0 y s.vmem.mem → s.inMapped p y

/-- A frame of host `h.host` with SEQ `h.seq` and order `o` is heard in the tick in which the lease runs out (23 R625). -/
structure State.hearsLate (s : State) (h : Hdr) (o : Order) : Prop where
  up : s.up = true
  node : s.nodeUp = true
  key : (s.keyOf h.host).isEmpty = false
  new : s.judge h.host.val h.seq.toNat = .new
  room : s.mgt.rxq.length < 64
  roomHost : (s.mgt.rxq.filter fun f => f.host == h.host.val).length < 16
  pre : s.preAns h.host.val o = none
  ovr : s.leaseOver = true
  kept : s.lease.lost = false

/-! ### Runs -/

/-- Every command that waits is a command of its row. -/
def State.queueFormed (s : State) : Bool := s.pending.all Instr.wellFormed

/-- A step that goes on: no fault and no refusal. -/
def State.goesOn (s : State) : Bool :=
  match step s with
  | .next _ => true
  | _ => false

end Sys2Proof.Machine
end

