-- ==== Sys2Proof/Certificates/Slice0/Obligations.lean ====
section
/-! DEFINITION. The statements for the provers.  Where a docstring names a rule, the statement rests on it; it states a
rule whole only where OBLIGATIONS.json lists it as stated. -/
open Sys2Proof Sys2Proof.Machine

/-- 02 R39, R42, R46, R47, 04 R84, R86, 20 R540, 22 R586 to R590: aux power and the phases of the module.  That a failed self-test of
the Inputs stage, and a second end of the stage, leave STATE and the outputs as they are is the model's reading (log entry 47). -/
def Obligations.AuxPowerAndPhases : Prop :=
  (∀ s : State, s.pow.phase = .u → ∃ t, exec .auxPowerUp s = .next t ∧ t.pow.phase = .x ∧ t.rcd.pages = s.rcd.pages ∧
    t.mgt.keys = s.mgt.keys ∧ t.tim.store = s.tim.store ∧ t.rcd.queue = [] ∧ t.flag F.MGT_STAT_ACTIVE = false) ∧
  (∀ s : State, s.pow.phase = .x → ∃ t, exec .auxDropInReset s = .next t ∧ t.pow.phase = .u ∧ t.rcd.pages = s.rcd.pages ∧
    t.mgt.keys = s.mgt.keys ∧ t.tim.store = s.tim.store) ∧
  (∀ s : State, s.pow.phase = .x → ∃ t, exec .resetEnd s = .next t ∧ t.pow.phase = .s ∧
    t.flag F.MGT_STAT_ACTIVE = true ∧ t.fld F.AON_CONN_STAT_MGT_NID = (1 + s.pow.nid) % 32) ∧
  (∀ s : State, s.up = true → s.holdup = false → ∃ t, exec .auxPowerFailWarning s = .next t ∧
    t.flag F.AON_PIN_PHASE_HOLDUP = true ∧ t.flag F.AON_SUP_STAT_AUX_OK = false) ∧
  (∀ s : State, ∀ high, s.holdup = true → ∃ t, exec (.holdupEnd high) s = .next t ∧
    t.pow.phase = (if high then .x else .u) ∧ t.rcd.queue = [] ∧ t.mgt.keys = s.mgt.keys) ∧
  (∀ s : State, s.up = true → s.rnd.waits = true → ∃ t, exec (.inputsStageEnd true) s = .next t ∧ t.rnd.waits = false ∧
    t.fld F.RND_STAT_STATE = (if s.rindSafe then s.fld F.RND_STAT_STATE else 1) ∧
    t.flag F.AON_PIN_PHASE_FIELD_EN = (!s.pow.supHot && !s.holdup)) ∧
  (∀ s : State, s.up = true → s.rnd.waits = true → ∃ t, exec (.inputsStageEnd false) s = .next t ∧ t.rnd.waits = false ∧
    t.fld F.RND_STAT_STATE = s.fld F.RND_STAT_STATE ∧ t.rnd.failed = true ∧
    t.flag F.AON_PIN_PHASE_FIELD_EN = s.flag F.AON_PIN_PHASE_FIELD_EN) ∧
  (∀ (s : State) (ok : Bool), s.up = true → s.rnd.waits = false → ∃ t, exec (.inputsStageEnd ok) s = .next t ∧
    t.fld F.RND_STAT_STATE = s.fld F.RND_STAT_STATE ∧ t.flag F.AON_PIN_PHASE_FIELD_EN = s.flag F.AON_PIN_PHASE_FIELD_EN) ∧
  (∀ s : State, s.up = true → s.flag F.AON_SVC_STAT_REC_READY = false → ∃ t, exec .recorderScanDone s = .next t ∧
    t.flag F.AON_SVC_STAT_REC_READY = true)

/-- 03 R55, R57, R58, R63, R66, R69, R72, R73. -/
def Obligations.FeedAndDomainRowsTakeEffect : Prop :=
  (∀ s : State, s.up = true → s.mainOk = true → ∃ t, exec (.mainFeedLost false) s = .next t ∧
    t.mainOk = false ∧ t.flag F.AON_HARD_EVT_MAIN_UV = true) ∧
  (∀ s : State, s.up = true → ∃ t, exec (.mainFeedLost true) s = .next t ∧
    t.mainOk = false ∧ t.flag F.AON_HARD_EVT_MAIN_OV = true ∧ t.flag F.AON_SUP_STAT_MAIN_OV = true) ∧
  (∀ s : State, s.up = true → ∃ t, exec .mainOkRestored s = .next t ∧ t.mainOk = true ∧ t.flag F.AON_SUP_STAT_MAIN_OV = false ∧
    t.pow = s.pow) ∧
  (∀ s : State, s.up = true → ∃ t, exec .coreRailDischarged s = .next t ∧ t.pow.rails = 0 ∧
    t.flag F.AON_SUP_STAT_CORE_DISCH = false) ∧
  (∀ (s : State) (g : Fin 8), s.up = true → s.fld F.AON_PD_CFG_TG_IDLE ≠ 0 → s.tgReq g = true → s.dom (15 + g) = .on →
    s.groupIdle g = true → s.held g = false → ∃ t, exec (.tgIdleExpiry g) s = .next t ∧ t.tgReq g = false) ∧
  (∀ (s : State) (e : Fin 4), s.up = true → s.fld F.AON_PD_CFG_ENG_IDLE ≠ 0 → s.engReq e = true →
    (∀ k ∈ portsOf e, s.lnk k = lnkDown) → ∃ t, exec (.engIdleExpiry e) s = .next t ∧ t.engReq e = false) ∧
  (∀ s : State, s.up = true → s.dom 3 = .on → s.recWanted = false → ∃ t, exec .recorderIdleOff s = .next t ∧ t.dom 3 = .off) ∧
  (∀ s : State, s.up = true → s.herdDown = true → s.flag F.AON_WAKE_CFG_MILK_EN = true → ∃ t, exec .herdGatedWake s = .next t ∧
    t.bit F.AON_WAKE_SRC_SRC 4 = true ∧ (s.dom 4 = .off → s.gateOk = true → t.dom 4 = .waking)) ∧
  (∀ (s : State) (g : Fin 8), s.up = true → s.dom (15 + g) = .on → ∃ t, exec (.freqStepDone g) s = .next t ∧
    t.fld F.CLK_TG_FREQ_ACT g = (if s.fld F.CLK_TG_FREQ_ACT g < s.pow.tgt.get 0 ⟨g, 0, 0⟩
      then min (s.pow.tgt.get 0 ⟨g, 0, 0⟩) (s.fld F.CLK_TG_FREQ_ACT g + 5)
      else max (s.pow.tgt.get 0 ⟨g, 0, 0⟩) (s.fld F.CLK_TG_FREQ_ACT g - 5)) % 256)

/-- 02 R46, 03 R68, R75, 24 R642.  That the release of the supervisor trip takes the standing STO request back is the model's reading
(log entry 47). -/
def Obligations.MonitorsAndLimitsTakeEffect : Prop :=
  (∀ s : State, s.up = true → s.pow.slow = false → ∃ t, exec .ck00Fail s = .next t ∧ t.pow.slow = true ∧
    t.flag F.CLK_MON_EVT_SLOW_FAIL = true) ∧
  (∀ s : State, s.up = true → ∃ t, exec .ck00Recover s = .next t ∧ t.pow.slow = false ∧ t.regs = s.regs) ∧
  (∀ s : State, s.up = true → s.pow.xsFail = false → ∃ t, exec .ck08Fail s = .next t ∧ t.pow.xsFail = true ∧
    t.flag F.CLK_MON_EVT_XS_FAIL = true) ∧
  (∀ s : State, s.up = true → ∃ t, exec .ck08Recover s = .next t ∧ t.pow.xsFail = false ∧ t.mgt = s.mgt) ∧
  (∀ s : State, s.up = true → s.dom 8 = .on → s.aonShadowed 0x03 = false → ∃ t, exec .ck09Fail s = .next t ∧ t.flag F.CLK_MON_EVT_REF_FAIL = true ∧
    t.fld F.AON_PD_REQ_ENG_REQ = 0 ∧ t.flag F.AON_PD_REQ_SEP_REQ = false) ∧
  (∀ s : State, s.up = true → s.dom 8 = .on → s.aonShadowed 0x04 = false → ∃ t, exec .ck10Overfreq s = .next t ∧ t.flag F.CLK_MON_EVT_SEP_OVF = true ∧
    t.fld F.AON_PD_REQ_ENG_REQ = 0 ∧ t.flag F.AON_PD_REQ_SEP_REQ = false) ∧
  (∀ (s : State) (g : Fin 8), s.up = true → s.dom (15 + g) = .on → s.aonShadowed 0x05 = false → ∃ t, exec (.tgClockOverfreq g) s = .next t ∧
    t.bit F.CLK_MON_EVT_TG_OVF g = true ∧ t.tgReq g = false) ∧
  (∀ (s : State) (g : Fin 8), s.up = true → s.dom (15 + g) = .on → s.aonShadowed 0x06 = false → ∃ t, exec (.tgRailOvervoltage g) s = .next t ∧
    t.flag F.AON_HARD_EVT_VTG_OV = true ∧ t.tgReq g = false) ∧
  (∀ (s : State) (tj : BitVec 16), s.up = true → s.dom 8 = .on → s.pow.hold = false → ∃ t, exec (.coreJunctionTrip tj) s = .next t ∧
    t.fld F.AON_TEMP_TJ_CORE = tj.toNat ∧ t.flag F.AON_HARD_EVT_TJ_CORE_TRIP = true ∧
    t.fld F.AON_QUAL_QUAL_DONE = 0) ∧
  (∀ (s : State) (t0 t1 t2 t3 t4 : BitVec 16), s.up = true → s.dom 8 = .off →
    ∃ t, exec (.thermalDiodeRead t0 t1 t2 t3 t4) s = .next t ∧ 
      ∃ m ∈ [t0, t1, t2, t3, t4], t.fld F.AON_TEMP_TJ_CORE = m.toNat ∧ ∀ x ∈ [t0, t1, t2, t3, t4], x.toInt ≤ m.toInt) ∧
  (∀ (s : State) (tj : BitVec 16), s.up = true → s.pow.supHot = false → ∃ t, exec (.supJunctionTrip tj) s = .next t ∧
    t.pow.supHot = true ∧ t.fld F.AON_TEMP_TJ_SUP = tj.toNat ∧ t.flag F.AON_HARD_EVT_TJ_SUP_TRIP = true ∧
    t.flag F.AON_PIN_PHASE_FIELD_EN = (s.holdup && s.flag F.AON_PIN_PHASE_FIELD_EN)) ∧
  (∀ (s : State) (tj : BitVec 16), s.up = true → s.pow.supHot = true → ∃ t, exec (.supJunctionRelease tj) s = .next t ∧
    t.pow.supHot = false ∧ t.fld F.AON_TEMP_TJ_SUP = tj.toNat ∧
    (s.holdup = false → t.fld F.AON_STO_REQ_ON = 0 ∧ t.flag F.AON_PIN_PHASE_FIELD_EN = s.rindFree) ∧
    (s.holdup = true → t.fld F.AON_STO_REQ_ON = s.fld F.AON_STO_REQ_ON ∧
      t.flag F.AON_PIN_PHASE_FIELD_EN = s.flag F.AON_PIN_PHASE_FIELD_EN))

/-- 03 R55, R62, R66, R81, 04 R87, 07 R169: DOMAIN_READY and DOMAIN_OFF.  What the copies of LSC_STAT and the window show once PD14 is
off is the model's choice (log entry 77). -/
def Obligations.DomainsComeUpAndGoDown : Prop :=
  (∀ (s : State) (g : Fin 8) (d : Fin 23), s.up = true → d.val = 15 + g.val → s.dom d = .waking → hasBit s.qual.requal g = false → s.held g = false →
    ∃ t, exec (.domainReady d) s = .next t ∧ t.fld F.CLK_TG_FREQ_ACT g = s.setFreq g % 256) ∧
  (∀ (s : State) (g : Fin 8) (d : Fin 23), s.up = true → d.val = 15 + g.val → s.dom d = .falling →
    ∃ t, exec (.domainOff d) s = .next t ∧ t.fld F.CLK_TG_FREQ_ACT g = 0) ∧
  (∀ (s : State), s.up = true → s.dom 8 = .waking →
    ∃ t, exec (.domainReady 8) s = .next t ∧ 2 ≤ t.fld F.AON_PIN_PHASE_CORE_PHASE) ∧
  (∀ (s : State), s.up = true → s.dom 8 = .falling → s.depsOff = true →
    ∃ t, exec (.domainOff 8) s = .next t ∧ t.fld F.AON_PIN_PHASE_CORE_PHASE = 1) ∧
  (∀ (s : State), s.up = true → s.dom 14 = .falling →
    ∃ t, exec (.domainOff 14) s = .next t ∧ t.lsc = { ids := s.lsc.ids } ∧
      t.flag F.LSC_STAT_CAR_READY = false ∧ t.flag F.LSC_WIN_BUSY = false)

/-- 04 R86, R88, 09 R242: self-test and ramp of a tile group.  That four spare rows and four spare columns are what a tile can map is
the model's choice (log entry 9). -/
def Obligations.QualificationRowsTakeEffect : Prop :=
  (∀ (s : State) (g : Fin 8) (rows cols : BitVec 32), s.up = true → s.qualOf g = .selftest → s.dom (15 + g) = .on →
    (∃ j : Fin 8, s.fused.contains (8 * g + j) = false ∧ (4 < bitField rows.toNat (4 * j) 4 ∨ 4 < bitField cols.toNat (4 * j) 4)) →
    ∃ t, exec (.qualSelftestDone g rows cols) s = .next t ∧ t.bit F.AON_QUAL_QUAL_FAIL g = true) ∧
  (∀ (s : State) (g : Fin 8) (rows cols : BitVec 32), s.up = true → s.qualOf g = .selftest → s.dom (15 + g) = .on →
    (∀ j : Fin 8, s.fused.contains (8 * g + j) = false → bitField rows.toNat (4 * j) 4 ≤ 4 ∧ bitField cols.toNat (4 * j) 4 ≤ 4) →
    ∃ t, exec (.qualSelftestDone g rows cols) s = .next t ∧ t.fld F.AON_QUAL_QUAL_FAIL = s.fld F.AON_QUAL_QUAL_FAIL ∧
      (s.qual.running = true → s.qual.skimHeld = false → hasBit s.qual.requal g = false → s.qual.done = false →
        t.fld F.AON_QUAL_SKIM_GRP = g)) ∧
  (∀ (s : State) (g : Fin 8), s.up = true → s.qualOf g = .ramping → s.dom (15 + g) = .on →
    ∃ t, exec (.qualRampDone g true) s = .next t ∧ t.bit F.AON_QUAL_QUAL_DONE g = true ∧ t.fld F.AON_QUAL_QUAL_FAIL = s.fld F.AON_QUAL_QUAL_FAIL) ∧
  (∀ (s : State) (g : Fin 8), s.up = true → s.qualOf g = .ramping → s.dom (15 + g) = .on →
    ∃ t, exec (.qualRampDone g false) s = .next t ∧ t.bit F.AON_QUAL_QUAL_FAIL g = true ∧ t.fld F.AON_QUAL_QUAL_DONE = s.fld F.AON_QUAL_QUAL_DONE)

/-- 20 R527 to R531, R540. -/
def Obligations.SafetyInputRowsTakeEffect : Prop :=
  (∀ (s : State) (n : Fin 8) (chB : Bool), s.up = true → s.flag F.AON_CONN_STAT_FLD_PRES = true → s.fld F.RND_STAT_STATE ≠ 0 →
    s.siType n ≠ 0 → ∃ t, exec (.safetyInputDemand n chB) s = .next t ∧ t.bit F.RND_SI_STAT_DEMAND n = true) ∧
  (∀ (s : State) (n : Fin 8), s.up = true → s.flag F.AON_CONN_STAT_FLD_PRES = true → s.fld F.RND_STAT_STATE ≠ 0 →
    s.flag F.RND_STAT_CFG_BAD = false → s.siFault n = false →
    ∃ t, exec (.safetyInputClear n) s = .next t ∧ t.bit F.RND_SI_STAT_DEMAND n = false) ∧
  (∀ (s : State) (n : Fin 8) (chB : Bool), s.up = true → s.siType n ≠ 0 → s.bit F.RND_SI_FLT_SHORT n = false → s.fld F.RND_STAT_STATE ≠ 0 →
    ∃ t, exec (.inputShort n chB) s = .next t ∧ t.bit F.RND_SI_FLT_SHORT n = true ∧ t.bit F.RND_SI_STAT_DEMAND n = true) ∧
  (∀ (s : State) (n : Fin 8) (chB : Bool), s.up = true → s.siType n ≠ 0 → s.bit F.RND_SI_FLT_CROSS n = false → s.fld F.RND_STAT_STATE ≠ 0 →
    ∃ t, exec (.inputCross n chB) s = .next t ∧ t.bit F.RND_SI_FLT_CROSS n = true ∧ t.bit F.RND_SI_STAT_DEMAND n = true) ∧
  (∀ (s : State) (n : Fin 8), s.up = true → s.siType n ≠ 0 → s.contactDemand n false ≠ s.contactDemand n true →
    s.bit F.RND_SI_FLT_DISCREP n = false → s.fld F.RND_STAT_STATE ≠ 0 →
    ∃ t, exec (.inputDiscrepancy n) s = .next t ∧ t.bit F.RND_SI_FLT_DISCREP n = true ∧ t.bit F.RND_SI_STAT_DEMAND n = true) ∧
  (∀ s : State, s.up = true → s.rindSafe = false → ∃ t, exec .crossLinkLoss s = .next t ∧ t.rindSafe = true ∧
    t.fld F.RND_STO_STAT_PERM = 0) ∧
  (∀ s : State, s.up = true → s.rindSafe = false → ∃ t, exec .channelFault s = .next t ∧ t.rindSafe = true ∧
    t.fld F.RND_STO_STAT_PERM = 0) ∧
  (∀ s : State, s.up = true → s.rindSafe = false → ∃ t, exec (.configCrcCheck false) s = .next t ∧ t.rindSafe = true ∧
    t.fld F.RND_STO_STAT_PERM = 0) ∧
  (∀ s : State, exec (.configCrcCheck true) s = .next s)

/-- 20 R534 to R537.  What the two values of STO_READBACK_FAULT's operand say, and what each leaves, is the model's reading of R535
(log entry 47). -/
def Obligations.StoRowsTakeEffect : Prop :=
  (∀ (s : State) (k : Fin 2) (e : Fin 3), s.up = true → s.bit F.RND_STO_STAT_ON k = true → (e.val = 2 → s.bit F.RND_STO_STAT_MODE k = false) →
    s.bit F.RND_STO_STAT_STO_FLT k = false →
    ∃ t, exec (.stoOffPulse k e false) s = .next t ∧ t.bit F.RND_STO_STAT_STO_FLT k = true ∧ t.bit F.RND_STO_STAT_PERM k = false ∧
      t.bit F.RND_STO_STAT_ON k = false) ∧
  (∀ (s : State) (k : Fin 2) (e : Fin 3), exec (.stoOffPulse k e true) s = .next s) ∧
  (∀ (s : State) (k : Fin 2), s.up = true → s.bit F.RND_STO_STAT_ON k = false →
    ∃ t, exec (.stoReadbackFault k false) s = .next t ∧ t.bit F.RND_STO_STAT_STO_FLT k = true) ∧
  (∀ (s : State) (k : Fin 2), s.up = true → s.bit F.RND_STO_STAT_ON k = false →
    ∃ t, exec (.stoReadbackFault k true) s = .next t ∧ t.bit F.RND_STO_STAT_RB_H k = true) ∧
  (∀ (s : State) (k : Fin 2), s.up = true → s.bit F.RND_STO_STAT_ON k = true → s.bit F.RND_STO_STAT_STO_FLT k = false →
    ∃ t, exec (.stoCurrentLimit k) s = .next t ∧ t.bit F.RND_STO_STAT_STO_FLT k = true ∧ t.bit F.RND_STO_STAT_PERM k = false ∧
      t.bit F.RND_STO_STAT_ON k = false) ∧
  (∀ (s : State) (k : Fin 2), s.up = true → s.fld F.RND_STAT_STATE = 1 → s.bit F.RND_ACT_FUNC k = false →
    s.bit F.RND_STO_STAT_STO_FLT k = false → s.bit F.RND_STO_STAT_PERM k = true → s.bit F.AON_STO_REQ_ON k = true →
    s.flag F.AON_PIN_PHASE_FIELD_EN = true → s.holdup = false → s.bit F.RND_STO_STAT_ON k = false →
    ∃ t, exec (.stoEnergise k true) s = .next t ∧ t.bit F.RND_STO_STAT_ON k = true ∧ t.bit F.RND_STO_STAT_RB_H k = false)

/-- 01 R21, 02 R41, R49 to R54. -/
def Obligations.PinRowsTakeEffect : Prop :=
  (∀ (s : State) (on : Bool), ∃ t, exec (.svcKeyChange on) s = .next t ∧ t.flag F.AON_FRONT_STAT_SVC_KEY = on) ∧
  (∀ (s : State) (on : Bool), ∃ t, exec (.wakeInChange on) s = .next t ∧ t.flag F.AON_FRONT_STAT_WAKE_IN = on) ∧
  (∀ (s : State) (p : Fin 16) (on : Bool), ∃ t, exec (.lightChange p on) s = .next t ∧ t.bit F.AON_FRONT_STAT_LIGHT p = on) ∧
  (∀ (s : State) (mated : Bool), ∃ t, exec (.lscPresChange mated) s = .next t ∧ t.flag F.LSC_STAT_PRES = mated) ∧
  (∀ (s : State) (mated : Bool), ∃ t, exec (.fieldConnectorChange mated) s = .next t ∧ t.flag F.AON_CONN_STAT_FLD_PRES = mated) ∧
  (∀ (s : State) (hpres bjl : Bool), ∃ t, exec (.batteryHarnessChange hpres bjl) s = .next t ∧
    t.flag F.AON_CONN_STAT_HPRES = hpres ∧ t.flag F.AON_CONN_STAT_BJL_PRES = bjl) ∧
  (∀ (s : State) (c : Fin 2) (present : Bool), ∃ t, exec (.copperCableChange c present) s = .next t ∧
    t.bit F.AON_CONN_STAT_CPRES c = present) ∧
  (∀ (s : State) (nid : Fin 16), ∃ t, exec (.nidStrapChange nid) s = .next t ∧ t.pow.nid = nid ∧ t.regs = s.regs) ∧
  (∀ (s : State) (read : BitVec 2), s.up = true → read.toNat ≠ s.pairDriven → s.flag F.AON_CONN_STAT_FLT_WIRE = false →
    ∃ t, exec (.fltWireSet read) s = .next t ∧ t.flag F.AON_CONN_STAT_FLT_WIRE = true ∧ t.fld F.AON_CONN_STAT_FLT_READ = read.toNat) ∧
  (∀ (s : State) (read : BitVec 2), s.up = true → read.toNat = s.pairDriven →
    ∃ t, exec (.fltWireClear read) s = .next t ∧ t.flag F.AON_CONN_STAT_FLT_WIRE = false ∧ t.fld F.AON_CONN_STAT_FLT_READ = read.toNat)

/-- 21 R568, R573 and 22 R581, R585, R588, R592, R593. -/
def Obligations.RecorderAndTimeRowsTakeEffect : Prop :=
  (∀ (s : State), s.up = true → s.canProg = true → ∃ t, exec .pageProgramStart s = .next t ∧ t.rcd.prog.isSome = true ∧
    t.fld F.REC_HEAD_HEAD = (unskipped s.rcd.skipped 1024 s.rcd.next +
      (s.rcd.queue.take (4 - unskipped s.rcd.skipped 1024 s.rcd.next % 4)).length - 1) % 2 ^ 32) ∧
  (∀ (s : State), s.up = true → s.rcd.prog.isSome = true → ∃ t, exec (.pageProgramDone true) s = .next t ∧ t.rcd.prog = none ∧
    t.rcd.pages = s.rcd.pages ∧ t.rcd.queue = s.rcd.queue) ∧
  (∀ (s : State), s.up = true → s.rcd.erase.isSome = true → ∃ t, exec (.sectorEraseDone true) s = .next t ∧ t.rcd.erase = none ∧
    t.rcd.pages = s.rcd.pages ∧ t.rcd.skipped = s.rcd.skipped) ∧
  (∀ (s : State) (e : Nat), s.up = true → s.rcd.erase = some e → s.rcd.eraseRetry = false → ∃ t, exec (.sectorEraseDone false) s = .next t ∧
    t.rcd.erase = some e ∧ t.rcd.eraseRetry = true) ∧
  (∀ (s : State), s.up = true → s.tim.optime % 600000 = 0 → s.tim.optime ≠ 0 →
    ∃ t, exec .timeStoreWrite s = .next t ∧ t.tim.store =
      (if s.tim.store.head?.any (fun e => e.optime == s.tim.optime && e.pcyc == s.tim.pcyc && e.kind == 2) then s.tim.store
       else (⟨s.tim.optime, s.tim.pcyc, 1, true⟩ :: s.tim.store).take 16)) ∧
  (∀ (s : State) (n : Fin 4), s.up = true → s.fld F.TIM_GC_CFG_SRC n ≠ 0 → s.gc n = 2 ^ 48 - 1 →
    ∃ t, exec (.gcOverflow n) s = .next t ∧ t.gc n = 0 ∧ t.bit F.TIM_GC_EVT_OVF n = true) ∧
  (∀ (s : State) (h : Fin 16) (n : Fin 4), s.up = true →
    ∃ t, exec (.rsLowRead false ⟨h.val, by omega⟩ (BitVec.ofNat 16 (0x320 + 4 * n.val))) s = .next t ∧
      t.tim.snaps.get 0 ⟨h.val, 0x321 + 4 * n.val, 0⟩ = b2n (s.bit F.TIM_GC_EVT_OVF n) * 2 ^ 16 + s.gc n / 2 ^ 32 + 1)

/-- 23 R608, R612, R616, 22 R591, R592: messages of the read class are answered with what they read; CAPS and TIME_READ also of a host
whose slot holds no key, without AUTH. -/
def Obligations.ReadMessagesAnswer : Prop :=
  (∀ (s : State) (h : Hdr), s.hears h .caps → ∃ t, exec (.caps h) s = .next t ∧
    t.answers h 0 0 (· = (s.heard h).capsBytes)) ∧
  (∀ (s : State) (h : Hdr), s.hears h .timeRead → ∃ t, exec (.timeRead h) s = .next t ∧ t.answers h 0 0 (· = s.timeBody)) ∧
  (∀ (s : State) (h : Hdr), s.hearsBare h →
    (∃ t, exec (.caps h) s = .next t ∧ t.answers h 0 0 (· = s.capsBytes)) ∧
    (∃ t, exec (.timeRead h) s = .next t ∧ t.answers h 0 0 (· = s.timeBody))) ∧
  (∀ (s : State) (h : Hdr) (idx : BitVec 16) (n : Byte), 1 ≤ n.toNat → n.toNat ≤ 64 → idx.toNat + n.toNat ≤ 0xFFFF →
    s.hears h (.regRead idx.toNat n.toNat) → ∃ t, exec (.regRead h idx n) s = .next t ∧
    t.answers h 0 0 (· = leBytes 2 idx.toNat ++ [n, 0] ++ (State.supReads h.host n.toNat idx.toNat (s.heard h)).1)) ∧
  (∀ (s : State) (h : Hdr) (start : BitVec 32) (n : Byte), 1 ≤ n.toNat → n.toNat ≤ 20 →
    s.hears h (.recordRead start.toNat n.toNat) → s.flag F.AON_SVC_STAT_REC_READY = true →
    ∃ t, exec (.recordRead h start n) s = .next t ∧ t.answers h 0 0 (· = s.recordBody start.toNat n.toNat)) ∧
  (∀ (s : State) (h : Hdr), s.hears h .safetyCfgRead → ∃ t, exec (.safetyCfgRead h) s = .next t ∧
    t.answers h 0 0 (· = s.safetyImage ++ s.rnd.pend.getD (List.replicate 128 0xFF)))

/-- 05 R113 to R116, 23 R608, R616, R619: the Steward lease.  That a renewal of a host that is not the holder is refused with
NOT_STEWARD, and the moment at which the defaults apply, are the model's reading (log entries 37, 62). -/
def Obligations.LeaseRowsTakeEffect : Prop :=
  (∀ (s : State) (h : Hdr), s.hears h (.claim false) → s.claimOk h.host false = true → s.lease.held = false →
    ∃ t, exec (.stewardClaim h false) s = .next t ∧ t.lease.held = true ∧ t.lease.holder = h.host ∧
      t.lease.epoch = (if s.lease.epoch = 0xFFFF then 1 else s.lease.epoch + 1) ∧ t.lease.since = s.tim.optime ∧
      t.fld F.SEP_STW_PORTS_PORTS = 0 ∧ t.answers h 0 0) ∧
  (∀ (s : State) (h : Hdr), s.hears h (.claim true) → 1 ≤ s.minorFor h → s.claimOk h.host true = true →
    ∃ t, exec (.stewardClaim h true) s = .next t ∧ t.lease.held = true ∧ t.lease.holder = h.host ∧
      t.lease.epoch = (if s.lease.epoch = 0xFFFF then 1 else s.lease.epoch + 1) ∧ t.lease.since = s.tim.optime ∧
      t.fld F.SEP_STW_PORTS_PORTS = 0 ∧ t.answers h 0 0) ∧
  (∀ (s : State) (h : Hdr), s.hears h (.claim false) → s.claimOk h.host false = true → s.lease.held = true → s.lease.holder ≠ h.host →
    ∃ t, exec (.stewardClaim h false) s = .next t ∧ t.lease = s.lease ∧ t.answers h 2 0) ∧
  (∀ (s : State) (h : Hdr), s.hears h (.claim false) → s.claimOk h.host false = false →
    ∃ t, exec (.stewardClaim h false) s = .next t ∧ t.lease = s.lease ∧ t.answers h 3 8) ∧
  (∀ (s : State) (h : Hdr), s.hears h .renew → s.isSteward h.host = true →
    ∃ t, exec (.stewardRenew h) s = .next t ∧ t.lease = { s.lease with since := s.tim.optime } ∧ t.answers h 0 0) ∧
  (∀ (s : State) (h : Hdr), s.hears h .renew → s.isSteward h.host = false →
    ∃ t, exec (.stewardRenew h) s = .next t ∧ t.lease = s.lease ∧ t.answers h 3 4) ∧
  (∀ (s : State) (h : Hdr), s.up = true → s.nodeUp = true → (s.keyOf h.host).isEmpty = true → (s.host h.host).authReplied = false →
    s.mgt.rxq.length < 64 →
    ∃ a : State, exec (.stewardRenew h) s = .next (s.followed a) ∧ a.lease = s.lease ∧ a.answers h 5 0 ∧
      a.fld F.MGT_CNT_AUTH_FAIL = addSat 16 (s.fld F.MGT_CNT_AUTH_FAIL) 1) ∧
  (∀ (s : State) (h : Hdr), s.hears h .release → s.isSteward h.host = true →
    ∃ t, exec (.stewardRelease h) s = .next t ∧ t.lease.held = false ∧ t.lease.epoch = s.lease.epoch ∧
      t.fld F.SEP_STW_PORTS_PORTS = 0 ∧ t.gov.share = s.gov.share ∧ t.answers h 0 0) ∧
  (∀ (s : State), s.up = true → s.lease.held = true →
    ∃ t, exec .leaseExpiry s = .next t ∧ t.lease.held = false ∧ t.lease.lost = false ∧ t.fld F.SEP_STW_PORTS_PORTS = 0 ∧
      t.gov.share = 10 * min 420 (s.fld F.MGT_STW_DEF_SHARE))

/-- 03 R69, R71, 15 R395, 17 R452, R463, 20 R543, 23 R614: messages to the supervisor at large. -/
def Obligations.PowerAndLoadMessagesTakeEffect : Prop :=
  (∀ (s : State) (h : Hdr) (feat : BitVec 128) (src : BitVec 48), s.hears h (.hello feat.toNat) →
    ∃ t, exec (.hello h feat src) s = .next t ∧ t.bit F.MGT_HELLO_DONE h.host = true ∧
      t.minorOf h.host = min 3 h.minor.val ∧
      t.answers h 0 0 (· = leBytes 16 (feat.toNat &&& 0xFF) ++ [BitVec.ofNat 8 (min 3 h.minor.val)])) ∧
  (∀ (s : State) (h : Hdr) (mask : BitVec 32), s.hears h (.wake mask.toNat) → s.isSteward h.host = true →
    s.coreRefused = false → s.engRefused = false → (∀ n : Fin 23, s.hadRefused n = false) →
    ∃ t, exec (.wake h mask) s = .next t ∧ t.answers h 0 0 ∧ t.bit F.AON_WAKE_SRC_SRC 0 = true ∧
      (∀ e : Fin 4, t.engReq e = (s.engReq e || hasBit mask.toNat (10 + e))) ∧
      (∀ g : Fin 8, t.tgReq g = (s.tgReq g || hasBit mask.toNat (15 + g))) ∧
      t.flag F.AON_PD_REQ_SEP_REQ = (s.flag F.AON_PD_REQ_SEP_REQ || hasBit mask.toNat 8) ∧
      t.vatReq = (if hasBit mask.toNat 9 then 2 else s.vatReq)) ∧
  (∀ (s : State) (h : Hdr) (mask : BitVec 32), s.hears h (.wake mask.toNat) → s.isSteward h.host = true → hasBit mask.toNat 8 = true →
    s.coreRefused = true ∨ (∀ n : Fin 23, 8 ≤ n.val → n.val ≠ 14 → s.hadRefused n = true) →
    ∃ t, exec (.wake h mask) s = .next t ∧ (t.answers h 3 1 ∨ t.answers h 3 2) ∧
      ((∀ e : Fin 4, hasBit mask.toNat (10 + e) = false) → t.answers h 3 (if s.funcHeld 5 then 1 else 2)) ∧
      t.fld F.AON_PD_REQ_SEP_REQ ≤ s.fld F.AON_PD_REQ_SEP_REQ ∧ (∀ e : Fin 4, t.engReq e = true → s.engReq e = true) ∧
      (∀ g : Fin 8, t.tgReq g = true → s.tgReq g = true)) ∧
  (∀ (s : State) (h : Hdr) (mask : BitVec 32) (vat : Byte), vat.toNat ≤ 2 → s.hears h (.sleepHint mask.toNat vat.toNat false) →
    s.isSteward h.host = true →
    ∃ t, exec (.sleepHint h mask vat false) s = .next t ∧ t.answers h 0 0 ∧
      (∀ e : Fin 4, t.engReq e = (s.engReq e && !hasBit mask.toNat (10 + e))) ∧
      (∀ g : Fin 8, t.tgReq g = (s.tgReq g && !hasBit mask.toNat (15 + g))) ∧
      t.flag F.AON_PD_REQ_SEP_REQ = (s.flag F.AON_PD_REQ_SEP_REQ && !hasBit mask.toNat 8) ∧
      t.vatReq = (if vat = 1 then 1 else if vat = 2 then 0 else s.vatReq)) ∧
  (∀ (s : State) (h : Hdr) (p r : BitVec 16), p.toNat ≤ 420 → s.hears h (.powerShare (10 * p.toNat) r.toNat) → s.isSteward h.host = true →
    ∃ t, exec (.powerShareSet h p r) s = .next t ∧ t.answers h 0 0 ∧ t.gov.share = 10 * p.toNat ∧ t.gov.reserve = r.toNat ∧
      t.gov.shared = true) ∧
  (∀ (s : State) (h : Hdr) (b : List Byte), bodyFits b = true → s.hears h (.limitsetLoad b) → s.isSteward h.host = true →
    s.flag F.AON_SVC_STAT_CHAIN_READY = true →
    ∃ t, exec (.limitsetLoad h b) s = .next t ∧
      match parseLimits b with
      | .ok l => t.est.limNext = some l ∧ t.answers h 0 0
      | .error n => t.est = s.est ∧ t.answers h 3 (0x10 + n)) ∧
  (∀ (s : State) (h : Hdr) (b : List Byte), bodyFits b = true → s.hears h (.modelLoad b) → s.isSteward h.host = true →
    s.flag F.AON_SVC_STAT_CHAIN_READY = true →
    ∃ t, exec (.modelLoad h b) s = .next t ∧
      match parseModel b with
      | .ok m => t.est.modelNext = some m ∧ t.answers h 0 0
      | .error n => t.est = s.est ∧ t.answers h 3 (0x10 + n)) ∧
  (∀ (s : State) (h : Hdr) (b : List Byte), bodyFits b = true → s.hears h (.safetyCfgLoad b) → s.isSteward h.host = true →
    ∃ t, exec (.safetyCfgLoad h b) s = .next t ∧
      (s.flag F.AON_FRONT_STAT_SVC_KEY = false → t.rnd = s.rnd ∧ t.answers h 3 0x11) ∧
      (∀ c, s.flag F.AON_FRONT_STAT_SVC_KEY = true → parseSafety b = .ok c → t.rnd.pend = some b ∧ t.flag F.RND_STAT_PENDING = true ∧
        t.answers h 0 0))

/-- 05 R117, 18 R482, R488, R490, 19 R502, R503, R507, 21 R561: orders to outputs. -/
def Obligations.OutputOrdersTakeEffect : Prop :=
  (∀ (s : State) (h : Hdr) (force : Bool), s.hears h (mkContactor (s.minorFor h) 3 0 force) →
    (s.isSteward h.host = true ∨ s.bit F.MGT_RIGHTS_CT 3 h.host = true) →
    ∃ t, exec (.contactorCmd h 3 false force) s = .next t ∧ t.answers h 0 0 ∧ t.coil 3 = false) ∧
  (∀ (s : State) (h : Hdr) (c : Fin 4), c.val < 3 → 1 ≤ s.minorFor h → s.hears h (.contactorCmd c false true) → s.isSteward h.host = true →
    ∃ t, exec (.contactorCmd h c false true) s = .next t ∧ t.answers h 0 0 ∧ t.seq = 0 ∧
      (∀ k : Fin 3, t.coil k = false)) ∧
  (∀ (s : State) (h : Hdr) (c : Fin 4), c.val < 3 → s.hears h (.contactorCmd c false false) →
    (s.isSteward h.host = true ∨ s.bit F.MGT_RIGHTS_CT c h.host = true) → s.seq = 7 →
    ∃ t, exec (.contactorCmd h c false false) s = .next t ∧ t.answers h 0 0 ∧
      (s.pack.iMean.natAbs ≤ 1000 * s.est.lim.breakLim → t.seq = 0 ∧ ∀ k : Fin 3, t.coil k = false) ∧
      (1000 * s.est.lim.breakLim < s.pack.iMean.natAbs → s.est.lim.brkWait ≠ 0 →
        t.seq = 8 ∧ t.ctr.wait = some (1, s.tim.optime) ∧ ∀ k : Fin 4, t.coil k = s.coil k)) ∧
  (∀ (s : State) (h : Hdr) (c : Fin 4) (force : Bool), c.val < 3 → s.hears h (mkContactor (s.minorFor h) c 1 force) →
    (s.isSteward h.host = true ∨ s.bit F.MGT_RIGHTS_CT c h.host = true) → s.flag F.AON_SVC_STAT_CHAIN_READY = true →
    s.closeRefusal c = none → s.seq = 0 → s.dom 4 = .on → s.fld F.CTR_STAT_AUX = 0 →
    ∃ t, exec (.contactorCmd h c true force) s = .next t ∧ t.answers h 0 0 ∧ t.seq = 1 ∧ t.coil 2 = true ∧ t.ctr.start = s.tim.optime) ∧
  (∀ (s : State) (h : Hdr) (n : Fin 16) (ilim : BitVec 16) (blank : Byte),
    s.hears h (mkLsw (s.minorFor h) n 0 false ilim.toNat blank.toNat) →
    (s.isSteward h.host = true ∨ s.bit F.MGT_RIGHTS_LSW n h.host = true) →
    ∃ t, exec (.lswCmd h n false false ilim blank) s = .next t ∧ t.answers h 0 0 ∧
      (∀ k : Fin 16, t.lswOn k = (s.lswOn k && k != n))) ∧
  (∀ (s : State) (h : Hdr) (n : Fin 16) (ilim : BitVec 16) (blank : Byte), 2 ≤ s.minorFor h →
    s.hears h (.lswCmd n true true ilim.toNat blank.toNat) →
    (s.isSteward h.host = true ∨ s.bit F.MGT_RIGHTS_LSW n h.host = true) → s.flag F.AON_PIN_PHASE_FIELD_EN = true →
    s.lswHeld n = false → s.flag F.AON_CONN_STAT_FLD_PRES = true → s.heldOff n = false → hasBit s.field.thermal n = false →
    s.lswOn n = false → s.flag F.LSW_SUP_STAT_VFLD_UV = false → s.supHeld = false →
    ∃ t, exec (.lswCmd h n true true ilim blank) s = .next t ∧ t.answers h 0 0 ∧ t.lswOn n = true ∧
      t.bit F.LSW_STAT_LATCHED n = false ∧ t.fld F.LSW_CFG_ILIM n = clampN 2 (if n.val < 8 then 40 else 120) ilim.toNat ∧
      t.fld F.LSW_CFG_BLANK n = min 100 blank.toNat) ∧
  (∀ (s : State) (h : Hdr) (n : Fin 4) (ua : BitVec 32), s.hears h (.loopSet n ua.toNat) →
    (s.isSteward h.host = true ∨ s.bit F.MGT_RIGHTS_LOOP n h.host = true) → s.flag F.AON_PIN_PHASE_FIELD_EN = true →
    s.flag F.AON_CONN_STAT_FLD_PRES = true → s.supHeld = false →
    ∃ t, exec (.loopSet h n ua) s = .next t ∧ t.answers h 0 0 ∧ t.fld F.LOOP_CMD_CMD n = min 24000 ua.toNat ∧
      t.bit F.LOOP_STAT_FALLBACK n = false) ∧
  (∀ (s : State) (h : Hdr) (n : Fin 16) (cfg : Bool) (ilim : BitVec 16) (blank : Byte),
    s.hears h (mkLsw (s.minorFor h) n 1 cfg ilim.toNat blank.toNat) →
    (s.isSteward h.host = true ∨ s.bit F.MGT_RIGHTS_LSW n h.host = true) → s.lswHeld n = false → s.supHeld = true →
    ∃ t, exec (.lswCmd h n true cfg ilim blank) s = .next t ∧ t.answers h 3 2 ∧ ∀ k : Fin 16, t.lswOn k = s.lswOn k) ∧
  (∀ (s : State) (h : Hdr) (n : Fin 4) (ua : BitVec 32), s.hears h (.loopSet n ua.toNat) →
    (s.isSteward h.host = true ∨ s.bit F.MGT_RIGHTS_LOOP n h.host = true) → s.supHeld = true →
    ∃ t, exec (.loopSet h n ua) s = .next t ∧ t.answers h 3 2 ∧ t.fld F.LOOP_CMD_CMD n = s.fld F.LOOP_CMD_CMD n) ∧
  (∀ (s : State) (h : Hdr), s.hears h (.faultAck bCTR 0) → s.isSteward h.host = true →
    (s.flag F.CTR_EVT_DOUBLE_WELD = false ∨ s.iNow.natAbs ≤ 2000) →
    ∃ t, exec (.faultAck h 0x07 0) s = .next t ∧ t.answers h 0 0 ∧ t.flag F.CTR_STAT_WELD_LATCH = false ∧
      t.flag F.CTR_STAT_PC_LOCK = false) ∧
  (∀ (s : State) (h : Hdr) (code inst : Byte), s.hears h (.faultAck code.toNat inst.toNat) → s.blockExists code.toNat inst.toNat = true →
    s.isSteward h.host = false → ∃ t, exec (.faultAck h code inst) s = .next t ∧ t.answers h 3 4)

/-- 00 R644, 03 R59, R66, R67, 16 R426, R435, R447, 17 R456, R459, 20 R537, 22 R593, 23 R602, R616, R619: register writes; one of a
host that is not Steward and that is no key write is refused with NOT_STEWARD, and leaves everything but the mailbox as it is. -/
def Obligations.RegisterWritesTakeEffect : Prop :=
  (∀ (s : State) (h : Hdr) (host : Fin 16) (v : BitVec 32), s.hears h (.regWrite (0x1420 + host) [v]) → s.isSteward h.host = true →
    ∃ t, exec (.regWrite h (BitVec.ofNat 16 (0x1420 + host)) [v]) s = .next t ∧ t.answers h 0 0 ∧
      t.fld F.MGT_RIGHTS_LSW host = bitField v.toNat 0 16 ∧ t.fld F.MGT_RIGHTS_LOOP host = bitField v.toNat 16 4 ∧
      t.fld F.MGT_RIGHTS_CT host = bitField v.toNat 20 4) ∧
  (∀ (s : State) (h : Hdr) (v : BitVec 32), s.hears h (.regWrite 0x101 [v]) → s.isSteward h.host = true → s.coreRefused = false →
    s.engRefused = false → (∀ n : Fin 23, s.hadRefused n = false) →
    ∃ t, exec (.aonPdReqWrite h v) s = .next t ∧ t.answers h 0 0 ∧ t.fld F.AON_PD_REQ_TG_REQ = bitField v.toNat 15 8 ∧
      t.fld F.AON_PD_REQ_ENG_REQ = bitField v.toNat 10 4 ∧ t.fld F.AON_PD_REQ_SEP_REQ = bitField v.toNat 7 1 ∧
      t.vatReq = min 2 (bitField v.toNat 8 2)) ∧
  (∀ (s : State) (h : Hdr) (g : Fin 8) (v : BitVec 32), s.hears h (.regWrite (0x200 + g) [v]) → s.isSteward h.host = true →
    ∃ t, exec (.clkTgFreqWrite h g v) s = .next t ∧ t.answers h 0 0 ∧ t.fld F.CLK_TG_FREQ_SET g = bitField v.toNat 0 8) ∧
  (∀ (s : State) (h : Hdr) (v : BitVec 32), s.hears h (.regWrite 0x1401 [v]) → s.isSteward h.host = true →
    ∃ t, exec (.mgtPlcaWrite h v) s = .next t ∧ t.answers h 0 0 ∧ t.mgt.plcaNext = some (plcaWord v.toNat)) ∧
  (∀ (s : State) (h : Hdr) (idx : BitVec 16) (vs : List (BitVec 32)), 1 ≤ vs.length → vs.length ≤ 64 → idx.toNat + vs.length ≤ 0xFFFF →
    keyTouch idx.toNat vs.length = false → s.hears h (.regWrite idx.toNat vs) → s.isSteward h.host = false →
    ∃ a : State, exec (.regWrite h idx vs) s = .next (s.followed a) ∧ a.answers h 3 4 ∧ s.onlyIn a [.mgt] [F.MGT_CNT2_RX]) ∧
  (∀ (s : State) (h : Hdr) (auth : Bool) (key : List Byte), key.length = 32 → s.hears h (.regWrite 0x1440 (loadWords key h.host)) auth →
    (auth = false → s.flag F.AON_FRONT_STAT_SVC_KEY = true) → s.mgt.keyNext = [] →
    ∃ t, exec (.mgtKeyCommit h auth key h.host) s = .next t ∧ t.answers h 0 0 ∧ t.keyOf h.host = key ∧
      t.bit F.MGT_KEY_STAT_LOADED h.host = true ∧ (∀ k : Fin 16, k ≠ h.host → t.keyOf k = s.keyOf k)) ∧
  (∀ (s : State) (h : Hdr) (slot : Fin 16), s.hears h (.regWrite 0x1448 [BitVec.ofNat 32 (slot.val * 2 ^ 16 + 2)]) →
    s.isSteward h.host = true → s.flag F.AON_FRONT_STAT_SVC_KEY = true → s.mgt.keyNext = [] →
    ∃ t, exec (.mgtKeyErase h slot) s = .next t ∧ t.answers h 0 0 ∧ t.keyOf slot = [] ∧
      t.bit F.MGT_KEY_STAT_LOADED slot = false ∧ (∀ k : Fin 16, k ≠ slot → t.keyOf k = s.keyOf k)) ∧
  (∀ (s : State) (h : Hdr) (v : BitVec 32), s.hears h (.regWrite 0x800 [v]) → s.isSteward h.host = true →
    (∃ t, exec (.hrdEnumWrite h v) s = .next t ∧ t.answers h 0 0 ∧ t.herd.needEnum = (s.herd.needEnum || hasBit v.toNat 1)) ∧
    (∃ t, exec (.hrdRunWrite h v) s = .next t ∧ t.answers h 0 0 ∧ t.flag F.HRD_CTL_RUN = hasBit v.toNat 0 ∧
      t.fld F.HRD_CTL_PERIOD = clampN 10 100 (bitField v.toNat 8 8))) ∧
  (∀ (s : State) (h : Hdr) (c : Fin 6) (v : BitVec 32), s.hears h (.regWrite (0xA00 + c) [v]) → s.isSteward h.host = true →
    ∃ t, exec (.pkmCfgWrite h c v) s = .next t ∧ t.answers h 0 0 ∧ t.fld F.PKM_CFG_OSR c = min 4 (bitField v.toNat 0 3) ∧
      t.flag F.PKM_CFG_EN c = hasBit v.toNat 8 ∧ (c.val ≠ 0 → t.fld F.PKM_CFG_GAIN c = 0)) ∧
  (∀ (s : State) (h : Hdr), s.hears h (.regWrite 0xC17 [1]) → s.isSteward h.host = true →
    ∃ t, exec (.socReinit h) s = .next t ∧ t.answers h 0 0 ∧ t.est = { s.est with reinit := true }) ∧
  (∀ (s : State) (h : Hdr), s.hears h (.regWrite 0xC17 [2]) → s.isSteward h.host = true →
    ∃ t, exec (.sohReset h) s = .next t ∧ t.answers h 0 0 ∧
      (∀ c : Fin 240, (t.cell c).sohC = 16384 ∧ (t.cell c).sohR = 16384)) ∧
  (∀ (s : State) (h : Hdr) (on : BitVec 2), s.hears h (.regWrite 0x150 [BitVec.ofNat 32 on.toNat]) → s.isSteward h.host = true →
    ∃ t, exec (.stoOnRequest h on) s = .next t ∧ t.answers h 0 0 ∧ t.fld F.AON_STO_REQ_ON = on.toNat ∧
      (∀ k : Fin 2, t.bit F.RND_STO_STAT_ON k = (s.bit F.RND_STO_STAT_ON k && hasBit on.toNat k))) ∧
  (∀ (s : State) (h : Hdr) (k : Fin 2), s.hears h (.regWrite 0x150 [BitVec.ofNat 32 ((2 ^ k.val) * 4 + s.fld F.AON_STO_REQ_ON)]) →
    s.isSteward h.host = true → s.rnd.cfg.rstSrc = 0 → s.fld F.RND_STAT_STATE = 1 → s.funcHeld k = false →
    s.bit F.RND_STO_STAT_STO_FLT k = false → s.bit F.AON_STO_REQ_ON k = true →
    ∃ t, exec (.stoReset h (BitVec.ofNat 2 (2 ^ k.val))) s = .next t ∧ t.answers h 0 0 ∧ t.bit F.RND_STO_STAT_PERM k = true) ∧
  (∀ (s : State) (h : Hdr) (n : Fin 4) (v : BitVec 32), s.hears h (.regWrite (0x323 + 4 * n) [v]) → s.isSteward h.host = true →
    ∃ t, exec (.timGcLdhi h n v) s = .next t ∧ t.answers h 0 0 ∧ t.tim.gcHi.get 0 ⟨n, 0, 0⟩ = v.toNat % 65536 ∧ t.tim.gc = s.tim.gc) ∧
  (∀ (s : State) (h : Hdr) (n : Fin 4) (v : BitVec 32), s.hears h (.regWrite (0x322 + 4 * n) [v]) → s.isSteward h.host = true →
    ∃ t, exec (.timGcLdlo h n v) s = .next t ∧ t.answers h 0 0 ∧
      t.tim.gc.get 0 ⟨n, 0, 0⟩ = s.tim.gcHi.get 0 ⟨n, 0, 0⟩ * 2 ^ 32 + v.toNat)

/-- 00 R16, 05 R105, R107, R109, R111, R115, 21 R561: the tables of the Separator.  That OPEN takes `ACTIVE` from `REQ`, that a write of
the mirror is answered as one that is served, and which entries turn CLEANING are the model's reading (log entries 52, 53). -/
def Obligations.SeparatorRowsTakeEffect : Prop :=
  (∀ (s : State) (w : CoreWr) (p : Fin 16), s.coreServes w (globBase + 0x10000 + 0x100 * p) → s.ptState p = ptDisabled →
    bitField w.data.toNat F.SEP_PT_CTL_OPEN.lsb 1 = 1 →
    ∃ t, exec (.partitionOpen w p) s = .next t ∧ t.ptState p = ptOpen ∧
      t.fld F.SEP_PT_PORTS_ACTIVE p = s.fld F.SEP_PT_PORTS_REQ p % 2 ^ F.SEP_PT_PORTS_ACTIVE.width) ∧
  (∀ (s : State) (w : CoreWr) (p : Fin 16), s.coreServes w (globBase + 0x10000 + 0x100 * p) →
    (s.ptState p = ptOpen ∨ s.ptState p = ptSealed) → bitField w.data.toNat F.SEP_PT_CTL_RECLAIM.lsb 1 = 1 →
    ∃ t, exec (.partitionReclaim w p) s = .next t ∧
      t.ptState p = (if s.tilesOf p = [] ∧ s.pagesOf p = [] then ptDisabled else ptReclaim) ∧
      t.fld F.SEP_PT_PORTS_REQ p = 0 ∧ t.fld F.SEP_PT_PORTS_ACTIVE p = 0 ∧ (t.part p).key = [] ∧
      t.fld F.VAT_PC_KEY_STAT_KCV 0 p = 0) ∧
  (∀ (s : State) (w : CoreWr) (p : Fin 16), s.coreServes w (globBase + 0x10000 + 0x100 * p + 8) → s.ptState p ≠ ptReclaim →
    ∃ t, exec (.ptTilesWrite w p) s = .next t ∧
      ∀ n : Fin 64, t.bit F.SEP_PT_TILES_TILES n p = (hasBit w.data.toNat n && decide (n.val < s.tileCount))) ∧
  (∀ (s : State) (w : CoreWr) (p : Fin 16), s.coreServes w (globBase + 0x10000 + 0x100 * p + 0x18) →
    ∃ t, exec (.ptPortsWrite w p) s = .next t ∧ t.fld F.SEP_PT_PORTS_REQ p = bitField w.data.toNat 0 18 ∧
      t.fld F.SEP_PT_PORTS_ACTIVE p =
        (if s.ptState p = ptOpen then bitField w.data.toNat 0 18 else s.fld F.SEP_PT_PORTS_ACTIVE p &&& bitField w.data.toNat 0 18)) ∧
  (∀ (s : State) (w : CoreWr) (i : Fin 147456), s.coreServes w (globBase + 0x100000 + 8 * i) → (s.page i).valid = false →
    (s.page i).st = .free → (s.page i).clean = true → hasBit w.data.toNat 63 = true →
    s.entryBad i (bitField w.data.toNat 48 4) (bitField w.data.toNat 0 18) = false → s.ptState (bitField w.data.toNat 48 4) ≠ ptReclaim →
    ∃ t, exec (.pageOwnWrite w i) s = .next t ∧
      t.page i = { s.page i with valid := true, part := bitField w.data.toNat 48 4, ppage := bitField w.data.toNat 0 18, st := .mapped, clean := false }) ∧
  (∀ (s : State) (w : CoreWr), s.coreServes w (globBase + 0x100) → s.lease.held = true → w.data.toNat = s.proofOf w.port →
    ∃ a : State, exec (.sepStwProve w) s = .next (s.followed a) ∧ a.bit F.SEP_STW_PORTS_PORTS w.port = true) ∧
  (∀ (s : State) (w : CoreWr), s.coreServes w (globBase + 0x100) → (s.lease.held = false ∨ w.data.toNat ≠ s.proofOf w.port) →
    ∃ a : State, exec (.sepStwProve w) s = .next (s.followed a) ∧ a.fld F.SEP_STW_PORTS_PORTS = s.fld F.SEP_STW_PORTS_PORTS) ∧
  (∀ (s : State) (w : CoreWr) (port : Fin 18), s.coreServes w (partBase + 0x2008) → s.ptState w.part = ptSealed →
    bitField w.data.toNat F.SEP_PC_ADMIT_PORT.lsb F.SEP_PC_ADMIT_PORT.width = port →
    s.bit F.SEP_PT_PORTS_REQ port w.part = true →
    ∃ t, exec (.sepPcAdmit w) s = .next t ∧ t.bit F.SEP_PT_PORTS_ACTIVE port w.part = true) ∧
  (∀ (s : State) (i : Fin 147456), s.up = true → s.pow.vat = .on → s.vmem.clears.head? = some i.val → s.waiting = [] → s.badUnits i = [] →
    ∃ t, exec (.pageClearDone i) s = .next t ∧ t.page i = s.entryCleared (s.page i) ∧ t.vmem.clears = s.vmem.clears.tail ∧
      (∀ a, i * pageSize ≤ a → a < (i + 1) * pageSize → cellGet 0 a t.vmem.mem = 0) ∧
      (∀ u, inPage i u = true → t.isClean u = true ∧ t.isPoisoned u = false ∧ t.unitErrs u = {})) ∧
  (∀ (s : State) (n : Fin 64), s.up = true → (s.tile n).zeroing = true → s.waiting = [] →
    ∃ t, exec (.tileZeroingDone n) s = .next t ∧ t.tile n = { s.tile n with zeroing := false }) ∧
  (∀ (s : State) (w : CoreWr) (idx : BitVec 16), s.up = true → s.live w.port = true → w.be = 255 →
    idx.toNat < 0x10000 → s.qRefused w.port (coreReq w (globBase + 0x440000 + 8 * idx.toNat)) = 0 →
    (s.port w.port).reqs.any (·.stalled) = false →
    exec (.mirrorWrite w idx) s = .next (s.followed (s.served
      ((s.arrived w.port 1).sepEv 0x01 (globBase + 0x440000 + 8 * idx.toNat) w.port w.part) w (globBase + 0x440000 + 8 * idx.toNat)))) ∧
  (∀ (s : State) (w : CoreWr) (code inst : Byte), blockNamed code inst = true → 16 ≤ code.toNat → s.coreServes w (fltAddr code.toNat inst.toNat) →
    hasBit w.data.toNat 7 = true → (code.toNat = bPC → inst.toNat = w.part.val) → (code.toNat = bTIL → (s.tile inst.toNat).zeroing = false) →
    exec (.fltAckWrite w code inst) s = .next (s.followed (s.served ((s.arrived w.port 1).fltAck code.toNat inst.toNat) w
      (fltAddr code.toNat inst.toNat))))

/-- 05 R106, R646, 06 R146, R147: Q requests of the Vat, and their responses. -/
def Obligations.RequestsOfTheVatTakeEffect : Prop :=
  (∀ (s : State) (q : QHdr) (len : BitVec 16) (x : Nat), s.up = true → s.live q.port = true → q.addr.toNat < globBase →
    s.qRefused q.port (reqOf q (.rd len.toNat)) = 0 →
    (s.port q.port).reqs.any (·.stalled) = false → s.vloc q.part q.addr.toNat = .phys x → s.sound x len.toNat →
    ∃ a : State, exec (.rd q len) s = .next (s.followed a) ∧ a.vmem = { s.vmem with arrived := s.vmem.arrived + 1 } ∧
      (a.port q.port).reqs = (s.port q.port).reqs ++
        [{ s.taken (reqOf q (.rd len.toNat)) with data := s.vread (s.part q.part).key q.addr.toNat x len.toNat }]) ∧
  (∀ (s : State) (key : Bytes) (pa a n : Nat), (∀ u ∈ unitsOf a n, s.isClean u = true) →
    s.vread key pa a n = List.replicate n 0) ∧
  (∀ (s : State) (q : QHdr), s.up = true → s.live q.port = true → globBase ≤ q.addr.toNat → q.addr.toNat % 8 = 0 →
    s.qRefused q.port (reqOf q (.rd 8)) = 0 → (s.port q.port).reqs.any (·.stalled) = false →
    ∃ a : State, exec (.rd q 8) s = .next (s.followed a) ∧
      (a.port q.port).reqs.getLast? = some { s.taken (reqOf q (.rd 8)) with data := leBytes 8 ((s.arrived q.port 1).placeRead q.port q.part (placeOf q.addr.toNat)).1 }) ∧
  (∀ (s : State) (q : QHdr) (b1 b2 : BitVec 4) (data : List Byte) (x : Nat), s.up = true → s.live q.port = true →
    q.addr.toNat < globBase → dataFits data = true → s.qRefused q.port (reqOf q (.wr b1.toNat b2.toNat data)) = 0 →
    (s.port q.port).reqs.any (·.stalled) = false → s.vloc q.part q.addr.toNat = .phys x → s.sound x data.length →
    ∃ t, exec (.wr q b1 b2 data) s = .next t ∧
      t.vmem.mem = (s.vwriteOn (s.part q.part).key q.addr.toNat x (wrBytes b1.toNat b2.toNat data)).vmem.mem ∧
      (∀ u, (unitPart x (wrBytes b1.toNat b2.toNat data) u).any (·.isSome) = true → u ∈ unitsOf x data.length →
        t.isClean u = false ∧ ((s.part q.part).key.length = 64 → t.unitData u = xtsEnc (s.part q.part).key (q.addr.toNat / 64 + (u - x / 64))
          (((unitPart x (wrBytes b1.toNat b2.toNat data) u).zip
            (s.unitPlain (s.part q.part).key (q.addr.toNat / 64 + (u - x / 64)) u)).map fun y => y.1.getD y.2)))) ∧
  (∀ (s : State) (q : QHdr) (v : BitVec 64) (x : Nat), s.up = true → s.live q.port = true → q.addr.toNat < globBase →
    s.qRefused q.port (reqOf q (.fadd v.toNat)) = 0 →
    (s.port q.port).reqs.any (·.stalled) = false → s.vloc q.part q.addr.toNat = .phys x → s.sound x 8 →
    ∃ t, exec (.fadd64 q v) s = .next t ∧
      t.vmem.mem = (s.vwrite (s.part q.part).key q.addr.toNat x
        (leBytes 8 ((leNat (s.vread (s.part q.part).key q.addr.toNat x 8) + v.toNat) % 2 ^ 64))).vmem.mem) ∧
  (∀ (s : State) (q : QHdr) (c w : BitVec 64) (x : Nat), s.up = true → s.live q.port = true → q.addr.toNat < globBase →
    s.qRefused q.port (reqOf q (.cas c.toNat w.toNat)) = 0 →
    (s.port q.port).reqs.any (·.stalled) = false → s.vloc q.part q.addr.toNat = .phys x → s.sound x 8 →
    ∃ t, exec (.cas64 q c w) s = .next t ∧
      t.vmem.mem = (if leNat (s.vread (s.part q.part).key q.addr.toNat x 8) = c.toNat
        then (s.vwrite (s.part q.part).key q.addr.toNat x (leBytes 8 w.toNat)).vmem.mem else s.vmem.mem)) ∧
  (∀ (s : State) (q : QHdr) (len : BitVec 16), s.up = true → s.live q.port = true →
    s.qRefused q.port (reqOf q (.rd len.toNat)) ≠ 0 →
    ∃ a : State, exec (.rd q len) s = .next (s.followed a) ∧ a.vmem = s.vmem ∧
      ∃ r, (a.port q.port).reqs.getLast? = some r ∧ r.tag = q.tag.toNat ∧ r.status = 3 ∧
        r.reason = s.qRefused q.port (reqOf q (.rd len.toNat)) ∧ r.data = List.replicate (min len.toNat 256) 0) ∧
  (∀ (s : State) (k : Fin 18) (tag : BitVec 16) (r : Req) (rest : List Req), s.up = true →
    (s.port k).reqs = r :: rest → r.tag = tag.toNat → r.stalled = false → r.dead = false →
    (r.op.isRd = true → exec (.rdRsp k tag) s = .next (s.responded k 0x41 r rest)) ∧
    (r.op.isWr = true → exec (.wrRsp k tag) s = .next (s.responded k 0x42 r rest)) ∧
    (r.op.isAtom = true → exec (.atomRsp k tag) s = .next (s.responded k 0x43 r rest)))

/-- 13 R339 to R348, R361, 14 R378, R379: the control space of a partition. -/
def Obligations.PartitionControlRowsTakeEffect : Prop :=
  (∀ (s : State) (w : CoreWr) (r : Fin 8), s.coreServes w (partBase + 0x1008 + 0x40 * r) →
    ∃ t, exec (.sepRingEnWrite w r) s = .next t ∧ t.rEn w.part r = hasBit w.data.toNat 0 ∧
      t.rPrio w.part r = bitField w.data.toNat 8 3 ∧
      t.fld F.SEP_RING_CFG_SIZE r w.part = (if s.rEn w.part r then s.fld F.SEP_RING_CFG_SIZE r w.part else clampN 6 16 (bitField w.data.toNat 16 4)) % 16 ∧
      (hasBit w.data.toNat 0 = true → t.rHead w.part r = 0 ∧ t.rTail w.part r = 0 ∧ (t.sring w.part r).segs = [])) ∧
  (∀ (s : State) (w : CoreWr) (r : Fin 8), s.coreServes w (partBase + 0x1010 + 0x40 * r) →
    s.dbOk w.part r (bitField w.data.toNat 32 6) (bitField w.data.toNat 0 17) = true →
    s.rTail w.part r ≠ bitField w.data.toNat 0 17 →
    ∃ t, exec (.sepRingDb w r) s = .next t ∧ t.rTail w.part r = bitField w.data.toNat 0 17 ∧ t.rHead w.part r = s.rHead w.part r ∧
      t.flag F.SEP_RING_STAT_DB_DROP r w.part = s.flag F.SEP_RING_STAT_DB_DROP r w.part) ∧
  (∀ (s : State) (w : CoreWr) (r : Fin 8), s.coreServes w (partBase + 0x1010 + 0x40 * r) →
    s.dbOk w.part r (bitField w.data.toNat 32 6) (bitField w.data.toNat 0 17) = false →
    s.rTail w.part r ≠ bitField w.data.toNat 0 17 →
    ∃ t, exec (.sepRingDb w r) s = .next t ∧ t.rTail w.part r = s.rTail w.part r ∧
      t.flag F.SEP_RING_STAT_DB_DROP r w.part = true) ∧
  (∀ (s : State) (w : CoreWr), s.coreServes w (partBase + 0x1208) →
    ∃ t, exec (.sepCqEnWrite w) s = .next t ∧ t.flag F.SEP_CQ_CFG_EN 0 w.part = hasBit w.data.toNat 0 ∧
      (s.flag F.SEP_CQ_CFG_EN 0 w.part = false → hasBit w.data.toNat 0 = true →
        t.fld F.SEP_CQ_PROD_RSV 0 w.part = 0 ∧ t.fld F.SEP_CQ_PROD_PROD 0 w.part = 0 ∧ t.fld F.SEP_CQ_CONS_CONS 0 w.part = 0)) ∧
  (∀ (s : State) (w : CoreWr), s.coreServes w (partBase + 0x1218) →
    ∃ t, exec (.sepCqConsWrite w) s = .next t ∧ t.fld F.SEP_CQ_CONS_CONS 0 w.part =
      (if (s.fld F.SEP_CQ_PROD_PROD 0 w.part + 2 ^ 17 - bitField w.data.toNat 0 17) % 2 ^ 17 ≤ 2 ^ s.fld F.SEP_CQ_CFG_SIZE 0 w.part
       then bitField w.data.toNat 0 17 else s.fld F.SEP_CQ_CONS_CONS 0 w.part)) ∧
  (∀ (s : State) (w : CoreWr), s.coreServes w (partBase + 0x2280) → hasBit w.data.toNat 0 = true →
    ∃ t, exec (.perfClear w) s = .next t ∧ (∀ i : Fin 12, t.fld F.SEP_PC_PERF_COUNT i w.part = 0) ∧
      t.flag F.SEP_PC_PERF_CTL_FREEZE 0 w.part = hasBit w.data.toNat 1) ∧
  (∀ (s : State) (w : CoreWr) (m : Fin 8), s.coreServes w (partBase + 0x2400 + 8 * m) → s.ptState w.part ≠ ptSealed →
    s.ptState w.part ≠ ptReclaim →
    ∃ t, exec (.vatPcKeyWrite w m) s = .next t ∧ t.staged w.part m = some (w.data.toNat, w.port.val) ∧
      t.bit F.VAT_PC_KEY_STAT_STAGED m 0 w.part = true) ∧
  (∀ (s : State) (w : CoreWr), s.coreServes w (partBase + 0x2440) → hasBit w.data.toNat 0 = true → s.commitReason w.part w.port = 0 →
    ∃ t, exec (.keyCommit w) s = .next t ∧ t.ptState w.part = ptSealed ∧
      (t.part w.part).key = s.stagedKey w.part 0 ++ s.stagedKey w.part 4 ∧
      t.fld F.VAT_PC_KEY_STAT_KCV 0 w.part = kcvOf (s.stagedKey w.part 0) % 2 ^ 32 ∧ t.fld F.VAT_PC_KEY_STAT_STAGED 0 w.part = 0) ∧
  (∀ (s : State) (w : CoreWr), s.coreServes w (partBase + 0x2440) → hasBit w.data.toNat 0 = true → s.commitReason w.part w.port ≠ 0 →
    ∃ t, exec (.keyCommit w) s = .next t ∧ t.ptState w.part = s.ptState w.part ∧
      (t.part w.part).key = (s.part w.part).key ∧ t.fld F.VAT_PC_KEY_STAT_REFUSE 0 w.part = s.commitReason w.part w.port ∧
      t.fld F.VAT_PC_KEY_STAT_STAGED 0 w.part = 0)

/-- 14 R381 to R385, 15 R395 to R403: patrol scrub and the power-credit governor.  That `P_MEAS` shows the 4,200 W used in place of a
sample that fails is the model's reading (log entry 49). -/
def Obligations.ScrubAndGovernorRowsTakeEffect : Prop :=
  (∀ (s : State) (q : Fin 128) (e0 e1 e2 e3 : UnitErr), s.up = true → s.pow.vat = .on → s.flag F.VAT_SCRUB_CFG_EN = true →
    (∃ t, exec (.scrubBurst q e0 e1 e2 e3) s = .next t ∧
      t.vmem.burst.get 0 ⟨q, 0, 0⟩ = (if s.vmem.burst.get 0 ⟨q, 0, 0⟩ + 1 < burstCount then s.vmem.burst.get 0 ⟨q, 0, 0⟩ + 1 else 0) ∧
      t.fld F.VAT_SCRUB_STAT_FORCED (q / 16) = s.fld F.VAT_SCRUB_STAT_FORCED (q / 16) ∧ s.scrubbed t q [e0, e1, e2, e3]) ∧
    (∃ t, exec (.forcedScrub q e0 e1 e2 e3) s = .next t ∧
      t.vmem.burst.get 0 ⟨q, 0, 0⟩ = (if s.vmem.burst.get 0 ⟨q, 0, 0⟩ + 1 < burstCount then s.vmem.burst.get 0 ⟨q, 0, 0⟩ + 1 else 0) ∧
      t.fld F.VAT_SCRUB_STAT_FORCED (q / 16) = addSat 16 (s.fld F.VAT_SCRUB_STAT_FORCED (q / 16)) 1 % 2 ^ 16 ∧
      s.scrubbed t q [e0, e1, e2, e3])) ∧
  (∀ (s : State) (sample tj : BitVec 16) (fails : Bool), s.up = true → s.govRuns = true →
    ∃ t, exec (.governorUpdate sample tj fails) s = .next t ∧ t.fld F.AON_TEMP_TJ_CORE = tj.toNat ∧
      t.fld F.GOV_STAT_P_MEAS = (if fails then 4200 else sample.toNat) ∧
      t.fld F.GOV_INPUTS_P_SHARE = s.gov.share % 2 ^ F.GOV_INPUTS_P_SHARE.width ∧
      t.fld F.GOV_INPUTS_P_ASSIST = s.gov.assist % 2 ^ F.GOV_INPUTS_P_ASSIST.width ∧
      t.fld F.GOV_INPUTS_P_THERMAL = pThermal tj.toInt (s.fld F.GOV_CFG_TKNEE) (s.fld F.GOV_CFG_TSLOPE) % 2 ^ 16 ∧
      t.fld F.GOV_INPUTS_P_CAP = s.gov.cap % 2 ^ F.GOV_INPUTS_P_CAP.width ∧
      t.fld F.GOV_STAT_BUDGET = min (min (s.gov.share + s.gov.assist) (pThermal tj.toInt (s.fld F.GOV_CFG_TKNEE) (s.fld F.GOV_CFG_TSLOPE)))
        (min s.gov.cap 4200) % 2 ^ 16 ∧
      t.flag F.GOV_EVT_MEAS_FAIL = (fails || s.flag F.GOV_EVT_MEAS_FAIL) ∧ (s.si0 = true → t.fld F.GOV_STAT_LEVEL = 64) ∧
      (s.si0 = false → ∀ p m : Int, p = t.fld F.GOV_STAT_P_MEAS → m = t.fld F.GOV_STAT_BUDGET - 10 * s.fld F.GOV_CFG_MARGIN →
        t.fld F.GOV_STAT_LEVEL = (if 4200 < p then 64
          else if m < p then min 64 (s.fld F.GOV_STAT_LEVEL + s.fld F.GOV_CFG_UP_STEP)
          else if p < m - s.fld F.GOV_CFG_HYST then s.fld F.GOV_STAT_LEVEL - 1 else s.fld F.GOV_STAT_LEVEL) % 2 ^ 7)) ∧
  (∀ (s : State), s.up = true → s.govRuns = true → s.gov.live = true →
    ∃ t, exec .assistLost s = .next t ∧ t.gov.assist = 0 ∧ t.gov.live = false ∧ t.flag F.GOV_EVT_ASSIST_LOST = true) ∧
  (∀ (s : State), s.up = true → s.govRuns = true → s.fld F.GOV_STAT_LEVEL = 64 → s.fld F.GOV_STAT_BUDGET < s.fld F.GOV_STAT_P_MEAS →
    ∃ t, exec .overBudget s = .next t ∧ t.flag F.GOV_EVT_OVER_BUDGET = true) ∧
  (∀ (s : State), s.up = true → s.govRuns = true → s.fld F.GOV_STAT_LEVEL = 64 → 4200 < s.fld F.GOV_STAT_P_MEAS → s.idle.trip = false →
    ∃ t, exec .idleTrip s = .next t ∧ t.flag F.GOV_EVT_IDLE_TRIP = true ∧ t.idle.trip = true) ∧
  (∀ (s : State), s.up = true → s.govRuns = true → s.fld F.GOV_STAT_P_MEAS ≤ 4000 → s.idle.trip = true →
    ∃ t, exec .idleTripRelease s = .next t ∧ t.idle.trip = false)

/-- 06 R131 to R142: flits and LM messages.  That a switch stands two markers after the number that the message names, that a side has one
handshake of a kind at a time, and what the header of a discarded flit does are the model's reading (log entries 50, 51). -/
def Obligations.LinkMessagesTakeEffect : Prop :=
  (∀ (s : State) (k : Fin 18) (b : List Byte), flitFits b = true → s.up = true → s.live k = true → flitOk b = false →
    ∃ a, exec (.flitReceive k b) s = .next (s.followed a) ∧
      a.fld F.LNK_ERRCNT_CRC_ERR k = addSat 14 (s.fld F.LNK_ERRCNT_CRC_ERR k) 1 ∧
      (a.port k).nak = true ∧ (a.port k).ack = (s.port k).ack ∧ (a.port k).rxMsg = (s.port k).rxMsg) ∧
  (∀ (s : State) (k : Fin 18) (b : List Byte), flitFits b = true → s.up = true → s.live k = true → flitOk b = true →
    (flitHdr b).ft = 1 → (flitHdr b).seq = ((s.port k).ack + 1) % 4096 → (flitHdr b).cls = 0 → (flitHdr b).last = false →
    (flitHdr b).nak = false →
    ∃ a, exec (.flitReceive k b) s = .next (s.followed a) ∧ (a.port k).ack = (flitHdr b).seq ∧ (a.port k).nak = false ∧
      (a.port k).rxHeld = (if (flitHdr b).first then 1 else (s.port k).rxHeld + 1) ∧
      (a.port k).ccq = ((s.port k).ccq + (if (flitHdr b).first then (s.port k).rxHeld else 0)) % 256 ∧
      (a.port k).rxMsg = (if (flitHdr b).first then [] else (s.port k).rxMsg) ++ (((b.drop 8).take 116).take (4 * (flitHdr b).len))) ∧
  (∀ (s : State) (k : Fin 18), s.up = true → s.live k = true → (s.port k).nak = true →
    ∃ t, exec (.nakTimeout k) s = .next t ∧ t.port k = { s.port k with lmOut := [], naks := (s.port k).naks + 1 }) ∧
  (∀ (s : State) (k : Fin 18), s.up = true → s.live k = true → (s.port k).unacked ≠ [] → (s.port k).stuck < 4 →
    ∃ t, exec (.replayTimeout k) s = .next t ∧ (t.port k).replaying = some (s.port k).peerAck ∧
      (t.port k).stuck = (s.port k).stuck + 1 ∧ t.fld F.LNK_ERRCNT_REPLAYS k = addSat 14 (s.fld F.LNK_ERRCNT_REPLAYS k) 1) ∧
  (∀ (s : State) (k : Fin 18) (m : InitMsg), s.up = true → s.lnk k = lnkAlign → m.version = 1 → m.role ≠ 0 →
    3 ≤ m.s.toNat → 4 ≤ m.m.toNat → m.q = 0 → (s.port k).initSentAckd = false →
    ∃ t, exec (.init k m) s = .next t ∧ t.fld F.LNK_CREDIT_S_PEER k = m.s.toNat ∧ t.fld F.LNK_CREDIT_M_PEER k = m.m.toNat ∧
      (t.port k).initGot = true ∧ (t.port k).initAckd = ((s.port k).initAckd || m.ackd) ∧
      (t.port k).peer = (m.resume, m.next.toNat % 4096, m.ack.toNat % 4096)) ∧
  (∀ (s : State) (k : Fin 18), s.up = true → s.lnk k = lnkAlign → (s.port k).deskewed = true → (s.port k).initGot = false →
    (s.port k).initSentAckd = false →
    ∃ t, exec (.tInitExpiry k) s = .next t ∧ (t.port k).lmOut = [s.initBytes k false]) ∧
  (∀ (s : State) (k : Fin 18) (x : Byte) (mask : BitVec 16) (sent : Byte), s.up = true → s.live k = true →
    ∃ t use, exec (.widthReq k x mask sent) s = .next t ∧
      use = maskOf (lanesOf k) (fun l => hasBit mask.toNat l && hasBit (s.driveable k) l) ∧
      (t.port k).lmOut = [lmBytes 3 x.toNat 0 0 (use % 256) (use / 256) ((sent.toNat + 2) % 256) 0] ∧
      (t.port k).wTx = some { txid := x.toNat, mask := use, m := some ((sent.toNat + 2) % 256) }) ∧
  (∀ (s : State) (k : Fin 18) (x : Byte) (mask : BitVec 16) (m : Byte) (h : WidthHs), s.up = true → s.live k = true →
    (s.port k).wRx = some h → h.txid = x.toNat →
    ∃ t, exec (.widthAck k x mask m) s = .next t ∧ (t.port k).wRx = some { h with mask := mask.toNat, m := some m.toNat }) ∧
  (∀ (s : State) (k : Fin 18) (rx : Bool) (h : WidthHs), s.up = true → s.live k = true →
    (if rx then (s.port k).dueRx else (s.port k).dueTx).head?.or (if rx then (s.port k).wRx else (s.port k).wTx) = some h → h.m.isSome = true → activeOf k h.mask ≠ 0 →
    ((s.port k).recentRetrains s.tim.optime).length < 3 →
    ∃ t, exec (.widthSwitch k rx) s = .next t ∧
      t.fld (if rx then F.LNK_STAT_RXSET else F.LNK_STAT_TXSET) k = activeOf k h.mask % 2 ^ 16) ∧
  (∀ (s : State) (k : Fin 18) (x lane b : Byte) (fail : Bool), s.up = true → s.live k = true → optical k = true →
    (s.port k).rTx = none → (s.spares k false).contains b.toNat = true → lane.toNat < 16 →
    ∃ t, exec (.remapReq k x true fail lane b) s = .next t ∧
      (t.port k).rTx = some { txid := x.toNat, own := false, fail := fail, lane := lane.toNat, b := b.toNat } ∧
      (t.ring k false b.toNat).st = (if (s.ring k false b.toNat).st = 4 then 4 else if fail then 3 else 1)) ∧
  (∀ (s : State) (k : Fin 18) (x lane b sent : Byte) (h : RemapHs), s.up = true → s.live k = true → (s.port k).rTx = some h →
    h.txid = x.toNat → h.lane = lane.toNat → h.b = b.toNat → (s.ring k false b.toNat).st ≠ 4 →
    ∃ t, exec (.remapRdy k x lane b sent) s = .next t ∧
      (t.port k).rTx = some { h with rdy := true, m := some ((sent.toNat + 2) % 256) } ∧
      (t.port k).lmOut = [lmBytes 6 x.toNat 0 0 lane.toNat b.toNat ((sent.toNat + 2) % 256) 0]) ∧
  (∀ (s : State) (k : Fin 18) (x lane b m : Byte) (h : RemapHs), s.up = true → s.live k = true → (s.port k).rRx = some h →
    h.txid = x.toNat → h.lane = lane.toNat → h.b = b.toNat → h.rdy = true →
    ∃ t, exec (.remapSw k x lane b m) s = .next t ∧ (t.port k).rRx = some { h with m := some m.toNat }) ∧
  (∀ (s : State) (k : Fin 18) (rx : Bool) (h : RemapHs), s.up = true → s.live k = true → s.remapHs k rx = some h →
    h.m.isSome = true → h.lane < 16 → ((if rx then (s.port k).dueRx else (s.port k).dueTx).head?.or (if rx then (s.port k).wRx else (s.port k).wTx)).any (fun w => w.m == h.m) = false →
    ∃ t, exec (.remapSwitch k rx) s = .next t ∧ t.mapOf k rx h.lane = h.b % 32) ∧
  (∀ (s : State) (k : Fin 18) (x lane r : Byte) (h : RemapHs), s.up = true → s.live k = true → (s.port k).rTx = some h →
    h.txid = x.toNat → h.lane = lane.toNat → s.driveable k = fullSet k →
    ∃ t, exec (.remapAbort k x lane r) s = .next t ∧ (t.port k).rTx = none ∧
      (optical k = true → (s.spares k false).contains h.b = true → (s.ring k false h.b).st ≠ 4 → (t.ring k false h.b).st = 0)) ∧
  (∀ (s : State) (k : Fin 18) (h : LoopHs), s.up = true → s.live k = true → (s.port k).loop = some h →
    ∃ t, exec (.loopReq k) s = .next t ∧ (t.port k).lmOut = [lmBytes 8 h.txid 1 0 0 0 0 0]) ∧
  (∀ (s : State) (k : Fin 18) (x : Byte) (h : LoopHs), s.up = true → s.live k = true → (s.port k).loop = some h →
    h.txid = x.toNat →
    ∃ t, exec (.loopAck k x) s = .next t ∧ t.lnk k = lnkLoop) ∧
  (∀ (s : State) (k : Fin 18) (x : Byte), s.up = true → s.live k = true →
    ∃ t, exec (.retrain k x) s = .next t ∧ t.fld F.LNK_ERRCNT_RETRAINS k = addSat 8 (s.fld F.LNK_ERRCNT_RETRAINS k) 1 ∧
      t.lnk k = (if ((s.port k).recentRetrains s.tim.optime).length < 3 then lnkAlign else lnkDown))

/-- 06 R134, R138, R142, 08 R206 to R208, R217, R218: writes of a port's registers; `a` is the state before the power
sequencer follows. -/
def Obligations.LinkRegisterRowsTakeEffect : Prop :=
  (∀ (s : State) (w : CoreWr) (k : Fin 18), s.coreServes w (globBase + 0x300000 + 0x100 * k) →
    ∃ a, exec (.lnkEnWrite w k) s = .next (s.followed a) ∧ a.flag F.LNK_CTL_EN k = hasBit w.data.toNat 0 ∧
      (hasBit w.data.toNat 0 = false → a.lnk k = lnkDown)) ∧
  (∀ (s : State) (w : CoreWr) (k : Fin 18), s.coreServes w (globBase + 0x300000 + 0x100 * k) → s.live k = true →
    hasBit w.data.toNat 0 = true → hasBit w.data.toNat 1 = true → bitField w.data.toNat 2 2 = s.fld F.LNK_CTL_LOOP_REQ k →
    ∃ a, exec (.lnkRetrainWrite w k) s = .next (s.followed a) ∧
      a.fld F.LNK_ERRCNT_RETRAINS k = addSat 8 (s.fld F.LNK_ERRCNT_RETRAINS k) 1 ∧
      a.lnk k = (if ((s.port k).recentRetrains s.tim.optime).length < 3 then lnkAlign else lnkDown)) ∧
  (∀ (s : State) (w : CoreWr) (k : Fin 18) (v : Nat), s.coreServes w (globBase + 0x300000 + 0x100 * k) → s.live k = true →
    hasBit w.data.toNat 0 = true → hasBit w.data.toNat 1 = false → bitField w.data.toNat 2 2 = v → (v ≠ 0 ∨ v ≠ s.fld F.LNK_CTL_LOOP_REQ k) →
    ∃ a, exec (.lnkLoopReqWrite w k) s = .next (s.followed a) ∧ a.fld F.LNK_CTL_LOOP_REQ k = v ∧
      (v = 1 ∨ v = 2 → a.lnk k = lnkLoop) ∧
      (v = 3 → (a.port k).loop = some { txid := (s.port k).txid } ∧ a.flag F.LNK_LOOP_STAT_LOOP_FAIL k = false) ∧
      (v = 0 → (a.port k).loop = none)) ∧
  (∀ (s : State) (w : CoreWr) (k : Fin 18), s.coreServes w (globBase + 0x300060 + 0x100 * k) →
    ∃ t, exec (.lnkTxeqWrite w k) s = .next t ∧
      t.fld F.LNK_TXEQ_PRE k = min (bitField w.data.toNat 0 4) (if optical k then 8 else 12) ∧
      t.fld F.LNK_TXEQ_POST k = min (bitField w.data.toNat 8 5) (if optical k then 16 else 24) ∧
      t.fld F.LNK_TXEQ_MAIN k = s.fld F.LNK_TXEQ_MAIN k ∧ (t.port k).fir = (s.port k).fir ∧ (t.port k).txeqPend = true) ∧
  (∀ (s : State) (w : CoreWr) (k : Fin 18), s.coreServes w (globBase + 0x300068 + 0x100 * k) → hasBit w.data.toNat 1 = true →
    ∃ t, exec (.dfeReset w k) s = .next t ∧ ∀ n : Fin 20, s.locked k n = true →
      t.fld F.LNK_DFE_H1 k n = 0 ∧ t.fld F.LNK_DFE_H2 k n = 0 ∧ t.fld F.LNK_DFE_H3 k n = 0 ∧ t.fld F.LNK_DFE_H4 k n = 0 ∧
      t.fld F.LNK_DFE_H5 k n = 0 ∧ t.fld F.LNK_DFE_SAT k n = 0) ∧
  (∀ (s : State) (w : CoreWr) (k : Fin 18), s.coreServes w (globBase + 0x300068 + 0x100 * k) →
    ∃ t, exec (.dfeFreezeWrite w k) s = .next t ∧ t.flag F.LNK_RXCTL_DFE_FREEZE k = hasBit w.data.toNat 0) ∧
  (∀ (s : State) (w : CoreWr) (k : Fin 18), s.coreServes w (globBase + 0x300070 + 0x100 * k) → optical k = false →
    ∃ a : State, exec (.lnkSscWrite w k) s = .next (s.followed a) ∧
      a.fld F.LNK_SSC_FREQ k = clampN 30 33 (bitField w.data.toNat 16 8) ∧
      a.fld F.LNK_SSC_DEPTH k = min 50 (bitField w.data.toNat 8 8) ∧ a.flag F.LNK_SSC_SSC_EN k = hasBit w.data.toNat 0 ∧
      (s.lnk k ≠ lnkDown → a.flag F.LNK_SSC_PENDING k = true ∧ (a.port k).ssc = (s.port k).ssc) ∧
      (s.lnk k = lnkDown → (a.port k).ssc =
        (clampN 30 33 (bitField w.data.toNat 16 8), min 50 (bitField w.data.toNat 8 8), bitField w.data.toNat 0 1)))

/-- 06 Table 6-4, R134 to R142: what the end of each timer of a port does.  That a copper port leaves ACQUIRE after its wait, and what the
ends of T_WIDEN and T_LM do beside R134 to R142, are the model's reading (log entry 50). -/
def Obligations.LinkTimersTakeEffect : Prop :=
  (∀ (s : State) (k : Fin 16), s.up = true → s.live k = true → (s.port k).firstUp = true →
    ∃ t, exec (.tWidenExpiry k) s = .next t ∧ (t.port k).firstUp = false ∧ t.bit F.AON_SVC_STAT_OPT_NARROW k = false) ∧
  (∀ (s : State) (k : Fin 18), s.up = true → s.lnk k = lnkAcquire →
    ∃ t, exec (.tAcqExpiry k) s = .next t ∧ t.lnk k =
      (if s.probeOk k = true ∧ s.bit F.LNK_LANE_STAT_LOS 16 k = false ∧ (s.port k).blank = false ∧ (s.ring k true 16).st ≠ 4
        then lnkAcquire else lnkDown)) ∧
  (∀ (s : State) (k : Fin 18), s.up = true → s.lnk k = lnkAlign →
    ∃ t, exec (.tAlignExpiry k) s = .next t ∧
      t.lnk k = (if optical k = false ∧ ∀ n : Fin 8, s.locked k n = true then lnkAlign else lnkAcquire)) ∧
  (∀ (s : State) (k : Fin 18) (h : WidthHs), s.up = true → s.live k = true → (s.port k).wRx = some h → h.m = none → h.tries < 3 →
    ∃ t, exec (.tLmExpiry k 0) s = .next t ∧ (t.port k).wRx = some { h with tries := h.tries + 1 } ∧
      (t.port k).lmOut = [lmBytes 2 h.txid 0 0 (h.mask % 256) (h.mask / 256) 0 0]) ∧
  (∀ (s : State) (k : Fin 18) (h : WidthHs), s.up = true → s.live k = true → (s.port k).wRx = some h → h.m = none → 3 ≤ h.tries →
    ((s.port k).recentRetrains s.tim.optime).length < 3 →
    ∃ t, exec (.tLmExpiry k 0) s = .next t ∧ t.lnk k = lnkAlign ∧ (t.port k).wRx = none ∧
      (t.port k).lmOut = [lmBytes 10 (s.port k).txid 0 0 0 0 0 0]) ∧
  (∀ (s : State) (k : Fin 18) (h : RemapHs), s.up = true → (s.port k).rRx = some h → h.rdy = true → h.m = none →
    ∃ t, exec (.tLmExpiry k 1) s = .next t ∧ (t.port k).rRx = none ∧ (t.port k).lmOut = [lmBytes 7 h.txid 0 0 h.lane 0 0 3]) ∧
  (∀ (s : State) (k : Fin 18) (h : LoopHs), s.up = true → s.live k = true → (s.port k).loop = some h →
    ∃ t, exec (.tLmExpiry k 2) s = .next t ∧
      (t.port k).loop = (if h.tries < 3 then some { h with tries := h.tries + 1 } else none) ∧
      (t.port k).lmOut = (if h.tries < 3 then [lmBytes 8 h.txid 1 0 0 0 0 0] else []) ∧
      (3 ≤ h.tries → t.flag F.LNK_LOOP_STAT_LOOP_FAIL k = true)) ∧
  (∀ (s : State) (k : Fin 18) (rx : Bool) (h : RemapHs), s.up = true → s.remapHs k rx = some h → h.rdy = false →
    (rx = false → s.driveable k = fullSet k) →
    ∃ t, exec (.tRemapExpiry k rx) s = .next t ∧ t.remapHs k rx = none ∧ (t.port k).lmOut = [lmBytes 7 h.txid 0 0 h.lane 0 0 3]) ∧
  (∀ (s : State) (k : Fin 18), s.up = true → optical k = false → s.lnk k = lnkDown →
    ∃ t, exec (.tRetryExpiry k) s = .next t ∧ (t.port k).retry = true ∧
      t.lnk k = (if s.dom 8 = .on ∧ s.flag F.LNK_CTL_EN k = true ∧ s.bit F.AON_CONN_STAT_CPRES (k - 16) = true ∧ (s.port k).held = false
        then (if ∀ n : Fin 8, s.locked k n = true then lnkAlign else lnkAcquire) else lnkDown)) ∧
  (∀ (s : State) (k : Fin 18), s.up = true → optical k = false → s.lnk k = lnkAcquire → s.lockedLanes k % 16 = 15 →
    ∃ t, exec (.copperAcquireWait k) s = .next t ∧ (t.port k).waited = true ∧ t.lnk k = lnkAlign)

/-- 08 R202, R208, R210, R211, R219: the lane detectors.  Which place an aligned marker takes is the model's choice (log entry 76), and so
is the count of free values that a saturated tap takes (log entry 6). -/
def Obligations.LaneRowsTakeEffect : Prop :=
  (∀ (s : State) (k : Fin 18) (n : Fin 20), laneExists k n = true → s.up = true →
    ((n.val = 16 → (s.port k).blank = false) → ∃ t, exec (.laneLos k n) s = .next t ∧ t.bit F.LNK_LANE_STAT_LOS n k = true ∧
      t.fld F.LNK_LANE_ERR_LOS_EVT k n = addSat 8 (s.fld F.LNK_LANE_ERR_LOS_EVT k n) 1) ∧
    (n.val = 16 → (s.port k).blank = true → ∃ t, exec (.laneLos k n) s = .next t ∧ t.regs = s.regs) ∧
    (∃ t, exec (.laneLosClear k n) s = .next t ∧ t.bit F.LNK_LANE_STAT_LOS n k = false ∧
      (k.val < 16 → n.val = 16 → s.lnk k = lnkDown → s.probeOk k = true → (s.port k).blank = false → (s.ring k true 16).st = 0 → t.lnk k = lnkAcquire)) ∧
    (∃ t, exec (.laneLock k n) s = .next t ∧ t.bit F.LNK_LANE_STAT_LOL n k = false ∧
      (k.val < 16 → n.val = 16 → t.flag F.LNK_LANE_STAT_CLK_LOL k = false)) ∧
    (∃ t, exec (.laneLockLoss k n) s = .next t ∧ t.bit F.LNK_LANE_STAT_LOL n k = true ∧
      t.fld F.LNK_LANE_ERR_LOL_EVT k n = addSat 8 (s.fld F.LNK_LANE_ERR_LOL_EVT k n) 1) ∧
    (∃ t, exec (.markerAligned k n) s = .next t ∧ ((s.lnk k ≠ lnkAlign ∨ ∀ a b : Fin 20,
        s.bit F.LNK_LANE_STAT_MALIGN a k = true → s.bit F.LNK_LANE_STAT_MALIGN b k = true →
        (s.line k true a).place = (s.line k true b).place) → t.bit F.LNK_LANE_STAT_MALIGN n k = true)) ∧
    (∃ t, exec (.markerAlignmentLoss k n) s = .next t ∧ t.bit F.LNK_LANE_STAT_MALIGN n k = false ∧
      t.fld F.LNK_LANE_ERR_MARKER_ERR k n = addSat 8 (s.fld F.LNK_LANE_ERR_MARKER_ERR k n) (3 - (s.line k true n).bad))) ∧
  (∀ (s : State) (k : Fin 18), s.up = true → optical k = true → s.flag F.LNK_LANE_STAT_CLK_LOL k = false →
    ∃ t, exec (.fwdClockLockLoss k) s = .next t ∧ t.flag F.LNK_LANE_STAT_CLK_LOL k = true ∧ t.lnk k = lnkDown) ∧
  (∀ (s : State) (k : Fin 16) (los : Bool), s.up = true → (s.port k).blank = true →
    ∃ t, exec (.losBlankingEnd k los) s = .next t ∧ t.bit F.LNK_LANE_STAT_LOS 16 k = los ∧ t.flag F.PYU_PORT_STAT_LOS k = los ∧
      (if los = false ∧ s.lnk k = lnkDown ∧ s.probeOk k = true ∧ (s.ring k true 16).st = 0 then t.lnk k = lnkAcquire
       else (t.port k).blank = false ∧ t.lnk k = s.lnk k)) ∧
  (∀ (s : State) (k : Fin 18) (n : Fin 20) (j : Fin 5), laneExists k n = true → tapExists k j = true → s.up = true →
    s.locked k n = true →
    ∃ t, exec (.dfeTapSaturated k n j) s = .next t ∧
      (s.dfeHeld k n = false → t.bit F.LNK_DFE_SAT j k n = true ∧ t.freeIx = s.freeIx + 1) ∧
      (s.dfeHeld k n = true → t.freeIx = s.freeIx ∧ t.fld (tapField j) k n = s.fld (tapField j) k n))

/-- 07 R164 to R194: the engines and their rings; `a` is the state before the power sequencer follows.  That a reset starts each ring
afresh (log entry 59), that `BAD_CAR` clears as a cartridge is mated anew (log entry 77), and when a rotation may begin (log entry 81)
are the model's. -/
def Obligations.EngineRowsTakeEffect : Prop :=
  (∀ (s : State) (w : CoreWr) (e : Fin 4), s.coreServes w (globBase + 0x340000 + 0x1000 * e) → hasBit w.data.toNat 0 = true →
    s.dom (10 + e) = .on →
    ∃ a, exec (.pyuReset w e) s = .next (s.followed a) ∧ a.fld F.PYU_STAT_STATE e = 3 ∧ (a.eng e).resetting = true ∧
      (∀ k ∈ portsOf e, a.lnk k = lnkDown)) ∧
  (∀ (s : State) (e : Fin 4), s.up = true → (s.eng e).resetting = true →
    ∃ t, exec (.engineResetDone e) s = .next t ∧ (t.eng e).resetting = false ∧ t.fld F.PYU_STAT_STATE e = 2 ∧
      (∀ k ∈ portsOf e, s.flag F.LNK_CTL_EN k = false ∨ s.bit F.LNK_LANE_STAT_LOS 16 k = true ∨ (s.port k).blank = true ∨ s.lnk k ≠ lnkDown →
        ∀ n : Fin 20, t.ring k false n = { calAt := s.tim.optime, cal := true } ∧
          t.ring k true n = { calAt := s.tim.optime, cal := true }) ∧
      (∀ k ∈ portsOf e, s.flag F.LNK_CTL_EN k = true → s.bit F.LNK_LANE_STAT_LOS 16 k = false → (s.port k).blank = false → s.lnk k = lnkDown →
        (s.eng e).bankOk = true → (s.port k).held = false → s.dom (10 + e) = .on → t.lnk k = lnkAcquire)) ∧
  (∀ (s : State) (e : Fin 4) (c : BitVec 16), s.up = true → s.dom (10 + e) = .waking →
    ¬(s.flag F.LSC_STAT_CAR_READY = true ∧ s.carConst 0 c.toNat / 16 = 0x014) →
    ∃ a, exec (.lscReadyTimeout e c) s = .next (s.followed a) ∧ a.flag F.LSC_STAT_BAD_CAR = true ∧ a.pow.rejected = true ∧
      a.bit F.AON_PD_REQ_ENG_REQ e = false) ∧
  (∀ (s : State) (e : Fin 4) (failed : BitVec 20), s.up = true → s.dom (10 + e) = .waking → s.bit F.LSC_STAT_BANK_ON e = true →
    ∃ t, exec (.bankLock e failed) s = .next t ∧ ∀ n : Fin 20, t.bit F.PYU_STAT_FAIL n e = hasBit failed.toNat n) ∧
  (∀ (s : State) (e : Fin 4), s.up = true →
    ∃ a, exec (.bankFault e) s = .next (s.followed a) ∧ a.flag F.PYU_STAT_BANK_FAIL e = true ∧ (a.eng e).bankOk = false ∧
      (∀ k ∈ portsOf e, a.lnk k = lnkDown)) ∧
  (∀ (s : State) (e : Fin 4) (n : Fin 20) (car : Bool), s.up = true → s.bit F.PYU_STAT_FAIL n e = false → s.dom (10 + e) ≠ .off →
    ∃ t, exec (.laserFailDeclare e ⟨n, car⟩) s = .next t ∧ t.bit F.PYU_STAT_FAIL n e = true) ∧
  (∀ (s : State) (k : Fin 16) (rx : Bool) (n : Fin 20), s.up = true → (s.ring k rx n).st = 4 → (s.ring k rx n).due = false →
    (s.lnk k ≠ lnkDown ∨ s.bit F.LNK_LANE_STAT_LOS 16 k = true) →
    ∃ t, exec (.ringCalibrationDone k rx n) s = .next t ∧ (t.ring k rx n).st ≠ 4 ∧ (t.ring k rx n).cal = true ∧
      (t.ring k rx n).calAt = s.tim.optime ∧ (t.ring k rx n).lost = false) ∧
  (∀ (s : State) (k : Fin 16) (rx : Bool) (n : Fin 20), s.up = true → s.engReady (engOf k) = true →
    (s.spares k rx).contains n.val = true → (s.ring k rx n).st = 0 →
    ((List.range 20).filter fun m => (s.ring k rx m).st == 4).length < 5 →
    ∃ t, exec (.spareRecalTimer k rx n) s = .next t ∧ (t.ring k rx n).st = 4 ∧ t.flag F.PYU_PORT_STAT_CAL_BUSY k = true) ∧
  (∀ (s : State) (k : Fin 16) (rx : Bool) (low : Option (Fin 16)) (b : Nat) (l : List Nat), s.up = true → s.rotOk k rx = true →
    s.spares k rx = b :: l →
    ∃ t, exec (.rotationStart k rx low) s = .next t ∧
      t.remapHs k rx = some { txid := (s.port k).txid, own := true, fail := false, lane := (low.map fun x => x.val).getD (s.oldestLane k rx), b := b, rot := true } ∧
      t.flag F.PYU_PORT_STAT_ROT_OPEN k = true) ∧
  (∀ (s : State) (k : Fin 16) (rx : Bool) (n : Fin 20), s.up = true →
    ∃ t, exec (.ringRangeEnd k rx n) s = .next t ∧ (t.ring k rx n).lost = true) ∧
  (∀ (s : State) (k : Fin 16), s.up = true → s.bit F.LNK_LANE_STAT_LOS 16 k = true → (s.port k).blank = false → s.lnk k ≠ lnkDown →
    ∃ t, exec (.lambda16Los k) s = .next t ∧ t.lnk k = lnkDown ∧ t.flag F.PYU_PORT_STAT_SHUTTER k = false) ∧
  (∀ (s : State) (k : Fin 16), s.up = true → s.lnk k = lnkDown → s.flag F.PYU_PORT_STAT_PROBE k = true →
    s.flag F.PYU_PORT_STAT_SHUTTER k = false → s.probeOk k = true →
    ∃ t, exec (.probeBurst k) s = .next t ∧ t.flag F.PYU_PORT_STAT_SHUTTER k = true ∧
      t.fld F.PYU_PORT_STAT_PROBES k = addSat 16 (s.fld F.PYU_PORT_STAT_PROBES k) 1 ∧
      ((s.ring k false 16).st ≠ 4 → (t.ring k false 16).st = 2) ∧
      (∀ n : Fin 16, s.bit F.PYU_STAT_FAIL n (engOf k) = false → (s.ring k false n).st ≠ 4 → (t.ring k false n).st = 3)) ∧
  (∀ (s : State) (k : Fin 16), s.up = true → s.lnk k = lnkDown → s.flag F.PYU_PORT_STAT_SHUTTER k = true →
    ∃ t, exec (.probeBurstEnd k) s = .next t ∧ t.flag F.PYU_PORT_STAT_SHUTTER k = false ∧
      ∀ n : Fin 20, (s.ring k false n).st ≠ 4 → (t.ring k false n).st = 0)

/-- 07 R168 to R171, R184, R186, R191: the laser source cartridge.  That a frame written while PD14 is off waits (log entry 77), and that a
frame replaces one under way (log entry 52), are the model's. -/
def Obligations.CartridgeRowsTakeEffect : Prop :=
  (∀ (s : State) (b : Bool), s.up = true →
    ∃ a, exec (.lenDrop b) s = .next (s.followed a) ∧ a.fld F.AON_PD_REQ_ENG_REQ = 0 ∧ a.fld F.LSC_STAT_BANK_ON = 0) ∧
  (∀ (s : State) (stat data : BitVec 16), s.up = true → s.dom 14 = .on →
    ∃ a, exec (.lscPoll ⟨stat, data⟩) s = .next (s.followed a) ∧ a.flag F.LSC_STAT_CAR_READY = hasBit stat.toNat 15 ∧
      a.lsc.car.get 0 ⟨0x11, 0, 0⟩ = stat.toNat) ∧
  (∀ (s : State) (w : CoreWr), s.coreServes w (globBase + 0x380008) →
    winOk (hasBit w.data.toNat 31) (bitField w.data.toNat 16 15) = true →
    ∃ t, exec (.lscWinWrite w) s = .next t ∧ t.flag F.LSC_WIN_BUSY = true ∧ t.flag F.LSC_WIN_ERR = false ∧
      t.lsc.frame = some (hasBit w.data.toNat 31, bitField w.data.toNat 16 15, bitField w.data.toNat 0 16)) ∧
  (∀ (s : State) (w : CoreWr), s.coreServes w (globBase + 0x380008) →
    winOk (hasBit w.data.toNat 31) (bitField w.data.toNat 16 15) = false →
    ∃ t, exec (.lscWinWrite w) s = .next t ∧ t.flag F.LSC_WIN_ERR = true ∧ t.lsc = s.lsc) ∧
  (∀ (s : State) (stat data : BitVec 16) (a d : Nat), s.up = true → s.dom 14 = .on → s.lsc.frame = some (false, a, d) →
    ∃ t, exec (.lscFrameDone stat data) s = .next t ∧
      (a ≠ 0x10 → t.fld F.LSC_WIN_DATA = (if a = 0x11 then stat.toNat else if (0x20 ≤ a ∧ a < 0x28) then s.lsc.car.get 0 ⟨a, 0, 0⟩
        else if winOk true a then s.lsc.car.get 40 ⟨a, 0, 0⟩ else if a < 6 then s.carConst a data.toNat else data.toNat) % 2 ^ 16) ∧
      (a = 0x10 → bitField stat.toNat 4 4 = 0 → t.fld F.LSC_WIN_DATA = s.fld F.LSC_STAT_BANK_ON % 2 ^ 16) ∧ t.flag F.LSC_WIN_BUSY = false ∧
      t.lsc.frame = none) ∧
  (∀ (s : State) (stat data : BitVec 16) (a d : Nat), s.up = true → s.dom 14 = .on → s.lsc.frame = some (true, a, d) →
    ∃ t, exec (.lscFrameDone stat data) s = .next t ∧ t.lsc.car.get 40 ⟨a, 0, 0⟩ = min 60 (d % 256) ∧ t.flag F.LSC_WIN_BUSY = false ∧
      t.lsc.frame = none)

/-- 11 R274 to R305, 12 R320 to R329, 13 R347: tile instructions that issue; what waits, waits under the other conditions.  That a
completion entry counts in `PROD` where its page is lost (log entry 26), and that the head of a queue alone issues (log entry 65), are
the model's. -/
def Obligations.ControlInstructionsTakeEffect : Prop :=
  (∀ (s : State) (t : Fin 64) (i : Nat) (e : PEnt), s.issues t i e → wOpc e.word = oNOP →
    ∃ s', exec (.nop t) s = .next s' ∧ s.entLeaves s' t i) ∧
  (∀ (s : State) (t : Fin 64) (i : Nat) (e : PEnt), s.issues t i e → wOpc e.word = oXSIG → stvOlder s t i = false →
    s.noneEnters t = true → wXtile e.word ≠ t.val → s.tileOn (wXtile e.word) = true →
    ((s.tile (wXtile e.word)).tok (wXtok e.word)).count < 15 →
    ∃ s', exec (.xsig t) s = .next s' ∧ s.entLeaves s' t i ∧
      (s'.tile (wXtile e.word)).tok (wXtok e.word) =
        { (s.tile (wXtile e.word)).tok (wXtok e.word) with count := ((s.tile (wXtile e.word)).tok (wXtok e.word)).count + 1 }) ∧
  (∀ (s : State) (t : Fin 64) (i : Nat) (e : PEnt), s.issues t i e → wOpc e.word = oXSIG → stvOlder s t i = false →
    s.tileOn (wXtile e.word) = false →
    ∃ s', exec (.xsig t) s = .next s' ∧ (s'.tile t).ents[i]? = some { e.started with waits := true } ∧
      (s'.tile (wXtile e.word)).xsigs = (s.tile (wXtile e.word)).xsigs ++ [⟨wXtok e.word, false, t.val, e.word, e.idx⟩] ∧
      s'.bit F.AON_PD_REQ_TG_REQ (s.groupOf (wXtile e.word)) =
        ((!s.holdup && !s.coreRefused) || s.bit F.AON_PD_REQ_TG_REQ (s.groupOf (wXtile e.word)))) ∧
  (∀ (s : State) (t : Fin 64) (i p : Nat) (e : PEnt), s.issues t i e → wOpc e.word = oBAR → s.ownerOf t = some p →
    barDyn s t i e = .go →
    ∃ s', exec (.bar t) s = .next s' ∧ (s'.tile t).ents[i]? = some e.started ∧
      ∀ n ts, n = (if (s.bar p (wBid e.word)).tiles.isEmpty then wf e.word 91 7 else (s.bar p (wBid e.word)).cnt) →
        ts = (s.bar p (wBid e.word)).tiles ++ [(t.val, e.poisoned)] →
        s'.bar p (wBid e.word) = (if n ≤ ts.length then { full := (s.bar p (wBid e.word)).full ++ [ts] }
          else { s.bar p (wBid e.word) with cnt := n, tiles := ts })) ∧
  (∀ (s : State) (t : Fin 64) (i : Nat) (e : PEnt), s.issues t i e → wOpc e.word = oTCLR → tclrDyn s t i e = .go →
    s.noneEnters t = true →
    ∃ s', exec (.tclr t) s = .next s' ∧ s.entLeaves s' t i ∧
      ∀ k : Fin 32, hasBit (wf e.word 70 32) k = true → k.val ≠ wSg e.word → (s'.tile t).tok k = {}) ∧
  (∀ (s : State) (t : Fin 64) (e : PEnt) (y : Tile), s.up = true → s.tileLive t = true → (s.tile t).back = [] →
    (s.tile t).loop = none → (s.tile t).takeSlot = some (e, y) → y.inb = [] → e.nests = true →
    ∃ s', exec (.loop t) s = .next s' ∧ s'.tile t = { y with loop := some { ent := e } }) ∧
  (∀ (s : State) (t : Fin 64) (p : Nat) (e : PEnt), s.issues t 0 e → wOpc e.word = oCPL → s.ownerOf t = some p →
    cplDyn s t 0 e = .go → s.noneEnters t = true → (s.part p).posted = [] →
    (∀ x, s.vloc p (s.cqAddr p (s.fld F.SEP_CQ_PROD_RSV 0 p)) = .phys x → s.sound x 16) →
    ∃ s', exec (.cpl t) s = .next s' ∧ s.entLeaves s' t 0 ∧ (s'.tile t).aborts = 0 ∧ (s'.tile t).lastExc = 0 ∧
      (s'.tile t).lastStop = 0 ∧
      s'.fld F.SEP_CQ_PROD_RSV 0 p =
        (if s.flag F.SEP_CQ_CFG_EN 0 p then (s.fld F.SEP_CQ_PROD_RSV 0 p + 1) % 2 ^ 17 else s.fld F.SEP_CQ_PROD_RSV 0 p) ∧
      s'.fld F.SEP_CQ_PROD_PROD 0 p =
        (if s.flag F.SEP_CQ_CFG_EN 0 p = true ∧ s.vloc p (s.cqAddr p (s.fld F.SEP_CQ_PROD_RSV 0 p)) ≠ .stall
         then (s.fld F.SEP_CQ_PROD_RSV 0 p + 1) % 2 ^ 17 else s.fld F.SEP_CQ_PROD_PROD 0 p) ∧
      ∀ n x : Nat, s.flag F.SEP_CQ_CFG_EN 0 p = true → n = s.fld F.SEP_CQ_PROD_RSV 0 p →
        s.vloc p (s.fld F.SEP_CQ_BASE_BASE 0 p * 4096 + 16 * (n % 2 ^ s.fld F.SEP_CQ_CFG_SIZE 0 p)) = .phys x →
        s'.vmem.mem = (s.vwrite (s.part p).key (s.cqAddr p n) x
          (leBytes 4 (wf e.word 69 32) ++ leBytes 1 t ++ leBytes 1 (e.ring + 128 * (1 - n / 2 ^ s.fld F.SEP_CQ_CFG_SIZE 0 p % 2)) ++
            leBytes 1 (s.tile t).aborts ++ leBytes 1 (s.tile t).lastExc ++ leBytes 1 (s.tile t).lastStop ++ [0, 0, 0] ++
            leBytes 4 e.idx)).vmem.mem) ∧
  (∀ (s : State) (t : Fin 64) (i p k : Nat) (e : PEnt) (r : PailRep), s.issues t i e → wOpc e.word = oHMSG →
    s.ownerOf t = some p → stvOlder s t i = false → s.mRoom p 1 = true → r.ue = false → s.msgPort p = some k →
    (s.port k).mCred = 0 → s.noneEnters t = true →
    ∃ s', exec (.hmsg t r) s = .next s' ∧ s.entLeaves s' t i ∧
      (s'.port k).mq = (s.port k).mq ++ [{ op := 0x82, part := p, lenb := 16, aux := t.val, data := (s.tile t).getB (wf e.word 100 2) (wf e.word 82 18 * 16) 16 }])

/-- 11 R286 to R305, 12 R313 to R319: loads, stores, passes and vector instructions.  That a row of a pass takes two free values (log
entry 25), and that a vector's result waits one vector before it is written (log entry 57), are the model's choice. -/
def Obligations.DataInstructionsTakeEffect : Prop :=
  (∀ (s : State) (t : Fin 64) (ch : Bool) (i : Nat) (e : PEnt), s.issues t i e →
    queueOf e.word = (if ch then .ladle1 else .ladle0) → posOf (ladleOpen (queueOf e.word)) 0 (s.tile t).ents = none →
    (wOpc e.word = oLDV → ∃ s', exec (.ldv t ch 0) s = .next s' ∧ (s'.tile t).ents[i]? = some e.started) ∧
    (wOpc e.word = oSTV → ∃ s', exec (.stv t ch 0) s = .next s' ∧ (s'.tile t).ents[i]? = some e.started)) ∧
  (∀ (s : State) (t : Fin 64) (ch : Bool) (i p a x : Nat) (e : PEnt), s.up = true → s.tileLive t = true →
    posOf (ladleOpen (if ch then .ladle1 else .ladle0)) 0 (s.tile t).ents = some i → (s.tile t).ents[i]? = some e →
    s.ownerOf t = some p → e.part = 0 → a = (ladleOf e.word).vadr + e.done * (ladleOf e.word).vstr →
    0 < (ladleOf e.word).rlen → a % pageSize + (ladleOf e.word).rlen ≤ pageSize → s.vloc p a = .phys x →
    (wOpc e.word = oLDV → s.sound x (ladleOf e.word).rlen →
      ∃ s', exec (.ldv t ch 1) s = .next s' ∧ (s'.tile t).ents[i]? = some { e with done := e.done + 1 } ∧
        memRead 0 ((s'.tile t).space (ladleOf e.word).pail) ((ladleOf e.word).padr + e.done * (ladleOf e.word).rlen)
          (ladleOf e.word).rlen = s.vread (s.part p).key a x (ladleOf e.word).rlen) ∧
    (wOpc e.word = oSTV →
      ∃ s', exec (.stv t ch 1) s = .next s' ∧ (s'.tile t).ents[i]? = some { e with done := e.done + 1 } ∧
        s'.vmem = (s.vwrite (s.part p).key a x (memRead 0 ((s.tile t).space (ladleOf e.word).pail)
          ((ladleOf e.word).padr + e.done * (ladleOf e.word).rlen) (ladleOf e.word).rlen)).vmem)) ∧
  (∀ (s : State) (t : Fin 64) (i : Nat) (e : PEnt), s.issues t i e → wOpc e.word = oSLD → sldDyn s t i e = .go →
    (s.tile t).groups ≠ 0 →
    ∃ s', exec (.sld t) s = .next s' ∧
      ((s.tile t).loadsDirect (loadOf e.word) = false → (s'.tile t).ents[i]? = some e.started ∧ (s'.tile t).shdSt = .loading ∧
        (s'.tile t).shd = (s.tile t).sImage (loadOf e.word).shape (loadOf e.word).fmt (loadOf e.word).half (loadOf e.word).sadr) ∧
      ((s.tile t).loadsDirect (loadOf e.word) = true → (s'.tile t).actValid = false ∧ (s'.tile t).ents[i]? = some { e.started with direct := true, img := some ((s.tile t).sImage (loadOf e.word).shape (loadOf e.word).fmt (loadOf e.word).half (loadOf e.word).sadr) })) ∧
  (∀ (s : State) (t : Fin 64) (i : Nat) (e : PEnt), s.issues t i e → wOpc e.word = oMPASS →
    posOf passOpen 0 (s.tile t).ents = none → mpassDyn s t i e = .go → (s.tile t).groups ≠ 0 →
    ∃ s' e', exec (.mpass t 0) s = .next s' ∧ (s'.tile t).ents[i]? = some e' ∧ e'.issued = true ∧ e'.word = e.word ∧
      e'.done = e.done ∧ (s'.tile t).transp = (passOf e.word).t ∧ (s'.tile t).lastShape = (passOf e.word).shape) ∧
  (∀ (s : State) (t : Fin 64) (i : Nat) (e : PEnt), s.issues t i e → (s.tile t).groups = 0 → s.gov.ramps.contains t.val = false →
    (wOpc e.word = oSLD → sldDyn s t i e = .go →
      ∃ s', exec (.sld t) s = .next s' ∧ s'.tile t = s.tile t ∧ s'.gov.ramps = s.gov.ramps ++ [t.val]) ∧
    (wOpc e.word = oMPASS → posOf passOpen 0 (s.tile t).ents = none → mpassDyn s t i e = .go →
      ∃ s', exec (.mpass t 0) s = .next s' ∧ s'.tile t = s.tile t ∧ s'.gov.ramps = s.gov.ramps ++ [t.val])) ∧
  (∀ (s : State) (t : Fin 64) (i : Nat) (e : PEnt), s.up = true → s.tileLive t = true →
    posOf passOpen 0 (s.tile t).ents = some i → (s.tile t).ents[i]? = some e → e.done < (passOf e.word).m →
    ∃ s', exec (.mpass t 1) s = .next s' ∧ s'.freeIx = s.freeIx + 2 ∧
      ((passOf e.word).red = false → (s'.tile t).ents[i]? = some { e with done := e.done + 1 } ∧
        (s'.tile t).c = (passOf e.word).rowInto (e.img.getD {}) ((s.tile t).passInput e) e.sub e.done (s.tile t).c) ∧
      ((passOf e.word).red = true → (s'.tile t).c = (s.tile t).c ∧ (s'.tile t).ents[i]? = some { e with done := e.done + 1, red := (passOf e.word).reduceRow (e.img.getD {}) ((s.tile t).passInput e) (((s.tile t).rbase + e.done) % 2 ^ 32) e.red })) ∧
  (∀ (s : State) (t : Fin 64) (i : Nat) (e : PEnt), s.issues t i e → wOpc e.word = oRBSET → redOlder ((s.tile t).ents.take i) = false →
    ∃ s', exec (.rbset t) s = .next s' ∧ s.entLeaves s' t i ∧ (s'.tile t).rbase = wf e.word 0 32) ∧
  (∀ (s : State) (t : Fin 64) (i : Nat) (e : PEnt), s.issues t i e → posOf vecOpen 0 (s.tile t).ents = none →
    vecDyn s t i e = .go →
    (wOpc e.word = oVOP → ∃ s', exec (.vop t 0) s = .next s' ∧ (s'.tile t).ents[i]? = some e.started) ∧
    (wOpc e.word = oVRED → ∃ s', exec (.vred t 0) s = .next s' ∧ (s'.tile t).ents[i]? = some e.started) ∧
    (wOpc e.word = oVCVT → ∃ s', exec (.vcvt t 0) s = .next s' ∧
      (s'.tile t).ents[i]? = some { e.started with done := if (vcvtOf e.word).rnd = 2 then 0 else e.done }) ∧
    (wOpc e.word = oVTOPK → (vtopkOf e.word).init = false →
      ∃ s', exec (.vtopk t 0) s = .next s' ∧ (s'.tile t).ents[i]? = some e.started) ∧
    (wOpc e.word = oVTOPK → (vtopkOf e.word).init = true →
      ∃ s', exec (.vtopk t 0) s = .next s' ∧ s.entLeaves s' t i ∧ (s'.tile t).xbase = (vtopkOf e.word).ibase)) ∧
  (∀ (s : State) (t : Fin 64) (i : Nat) (e : PEnt), s.up = true → s.tileLive t = true →
    posOf vecOpen 0 (s.tile t).ents = some i → (s.tile t).ents[i]? = some e → (s.tile t).vpend = [] →
    (s.tile t).notReadable i (vecReads e.word e.done) = false →
    (wOpc e.word = oVOP → ∃ s', exec (.vop t 1) s = .next s' ∧ (s'.tile t).ents[i]? = some { e with done := e.done + 1 } ∧
      (s'.tile t).vpend = [(s.tile t).vecRow e.word e.done]) ∧
    (wOpc e.word = oVRED → ∃ s', exec (.vred t 1) s = .next s' ∧ (s'.tile t).ents[i]? = some { e with done := e.done + 1 } ∧
      (s'.tile t).vpend = [(s.tile t).vecRow e.word e.done]) ∧
    (wOpc e.word = oVCVT → ∃ s', exec (.vcvt t 1) s = .next s' ∧ (s'.tile t).ents[i]? = some { e with done := e.done + 1 } ∧
      (s'.tile t).vpend = [(s.tile t).vecRow e.word e.done]) ∧
    (wOpc e.word = oVTOPK → ∃ s', exec (.vtopk t 1) s = .next s' ∧ (s'.tile t).ents[i]? = some { e with done := e.done + 1 } ∧
      (s'.tile t).vr = ((s.tile t).topRow (vtopkOf e.word) e.done).vr))

/-- 09 R227, R240, 11 R277, R308, 12 R322, R334, 15 R404: what follows the issue of an instruction.  That a grant whose head no longer
issues leaves the groups disabled is the model's choice (log entry 82). -/
def Obligations.TileFollowUpsTakeEffect : Prop :=
  (∀ (s : State) (t : Fin 64), s.up = true → s.tileOn t = true → (s.tile t).zeroing = false →
    ∃ s', exec (.xsigDeliver t) s = .next s' ∧ (s'.tile t).xsigs = []) ∧
  (∀ (s : State) (t : Fin 64) (k : Nat) (x : Xsig), s.up = true → s.tileOn t = true → (s.tile t).zeroing = false →
    (s.tile t).xsigs = [x] → x.tok = k → x.poison = true → ((s.tile t).tok k).count < 15 →
    ∃ s', exec (.xsigDeliver t) s = .next s' ∧ (s'.tile t).tok k = { count := ((s.tile t).tok k).count + 1, poison := true }) ∧
  (∀ (s : State) (p b : Fin 16) (g : List (Nat × Bool)) (rest : List (List (Nat × Bool))), s.up = true →
    (s.bar p b).full = g :: rest →
    ∃ s', exec (.barrierComplete p b) s = .next s' ∧ (s'.bar p b).full.length = rest.length) ∧
  (∀ (s : State) (p b : Fin 16) (t i : Nat) (rest : List (List (Nat × Bool))), s.up = true →
    (s.bar p b).full = [(t, false)] :: rest → (s.bar p b).tiles ≠ [] ∨ (s.bar p b).cnt = 0 → s.noneEnters t = true →
    posOf (fun e => e.issued && wOpc e.word == oBAR && wBid e.word == b) 0 (s.tile t).ents = some i →
    ∃ s', exec (.barrierComplete p b) s = .next s' ∧ s.entLeaves s' t i ∧ s'.bar p b = { s.bar p b with full := rest }) ∧
  (∀ (s : State) (t : Fin 64) (i : Fin 32) (e : PEnt) (r : PailRep), s.up = true → s.tileLive t = true →
    (s.tile t).ents[i.val]? = some e → e.issued = true → workDone e = true → r.ue = false →
    ∃ s', exec (.instructionComplete t i r) s = .next s' ∧ s.entLeaves s' t i) ∧
  (∀ (s : State) (t : Fin 64) (r : PailRep) (i : Nat), s.up = true → s.tileLive t = true → (s.tile t).shdSt = .loading →
    posOf shadowLoader 0 (s.tile t).ents = some i → r.ue = false →
    ∃ s', exec (.shadowLoadDone t r) s = .next s' ∧ (s'.tile t).shdSt = .loaded ∧ (s'.tile t).shd = (s.tile t).shd) ∧
  (∀ (s : State) (t : Fin 64), s.up = true → s.tileOn t = true → (s.tile t).groups = 0xFF → (s.tile t).ents = [] →
    ∃ s', exec (.rampDown t) s = .next s' ∧ s'.tile t = { s.tile t with groups := 0x7F, rampDown := true }) ∧
  (∀ (s : State) (t : Fin 64) (i : Nat) (e : PEnt) (r : List Nat), s.gov.ramps = t.val :: r → s.issues t i e →
    (wOpc e.word = oSLD → sldDyn s t i e = .go → (s.tile t).loadsDirect (loadOf e.word) = false →
      ∃ s', exec (.rampGrant t) s = .next s' ∧ s'.gov.ramps = r ∧ (s'.tile t).groups = 0xFF ∧ (s'.tile t).rampDown = false ∧
        (s'.tile t).ents[i]? = some e.started ∧ (s'.tile t).shdSt = .loading) ∧
    (wOpc e.word = oMPASS → mpassDyn s t i e = .go →
      ∃ s' e', exec (.rampGrant t) s = .next s' ∧ s'.gov.ramps = r ∧ (s'.tile t).groups = 0xFF ∧ (s'.tile t).rampDown = false ∧
        (s'.tile t).ents[i]? = some e' ∧ e'.issued = true ∧ e'.word = e.word ∧ e'.done = e.done)) ∧
  (∀ (s : State) (t : Fin 64) (r : List Nat), s.up = true → s.tileLive t = true → s.gov.ramps = t.val :: r →
    (s.tile t).head .array = none →
    ∃ s', exec (.rampGrant t) s = .next s' ∧ s'.gov.ramps = r ∧ s'.tiles = s.tiles)

/-- 12 R327, 13 R339 to R362: rings, pre-emption and telemetry.  A first word whose opcode is RFENCE and whose fields are bad fences
nothing: it enters the Parlour, and ends there (11 R274). -/
def Obligations.RingRowsTakeEffect : Prop :=
  (∀ (s : State) (p : Fin 16) (t : Fin 64) (r x : Nat), s.up = true → s.fetchOn p = true → s.ringFor p t = some r →
    s.tileGone p t = false → s.canTake t (s.rPrio p r) = true → s.vloc p (s.bundleAddr p r (s.rHead p r)) = .phys x →
    (unitsOf x 64).any s.unitBad = false →
    ¬(wOpc (s.bundleWord p r x 0) = oRFENCE ∧ fieldBad (s.bundleWord p r x 0) = false) →
    ∃ s', exec (.ringFetch p t) s = .next s' ∧ s'.rHead p r = (s.rHead p r + 1) % 2 ^ 17 ∧ s'.rTail p r = s.rTail p r ∧
      (s'.sring p r).fenced = (s.sring p r).fenced ∧
      (s.noneEnters t = true → (∀ k : Fin 4, wOpc (s.bundleWord p r x k) ≠ oLOOP) →
        (∀ k : Fin 4, ∃ e ∈ (s'.tile t).liveEnts, e.word = s.bundleWord p r x k ∧ e.ring = r ∧ e.idx = s.rHead p r ∧ e.slot = k ∧
          e.lvl = s.rPrio p r) ∧
        ((∀ l, (s.tile t).level = some l → s.rPrio p r ≤ l) → (s.tile t).savedLevels = [] → (s.tile t).ents.length ≤ 28 →
          ∃ es, (s'.tile t).ents = (s.tile t).ents ++ es ∧ es.map (·.word) = (List.range 4).map (s.bundleWord p r x)))) ∧
  (∀ (s : State) (p : Fin 16) (t : Fin 64) (r x : Nat), s.up = true → s.fetchOn p = true → s.ringFor p t = some r →
    s.tileGone p t = false → s.canTake t (s.rPrio p r) = true → s.vloc p (s.bundleAddr p r (s.rHead p r)) = .phys x →
    (unitsOf x 64).any s.unitBad = false →
    wOpc (s.bundleWord p r x 0) = oRFENCE → fieldBad (s.bundleWord p r x 0) = false →
    ∃ s', exec (.ringFetch p t) s = .next s' ∧ (s'.sring p r).fenced = true ∧ s'.rHead p r = s.rHead p r) ∧
  (∀ (s : State) (p : Fin 16) (t : Fin 64) (r : Nat), s.up = true → s.fetchOn p = true → s.ringFor p t = some r →
    s.tileGone p t = false → s.canTake t (s.rPrio p r) = true → s.vloc p (s.bundleAddr p r (s.rHead p r)) = .gone →
    ∃ s', exec (.ringFetch p t) s = .next s' ∧ (s'.sring p r).error = true ∧ s'.rHead p r = s.rHead p r) ∧
  (∀ (s : State) (p : Fin 16) (t : Fin 64) (r x : Nat), s.up = true → s.fetchOn p = true → s.ringFor p t = some r →
    s.tileGone p t = false → s.canTake t (s.rPrio p r) = true → s.vloc p (s.bundleAddr p r (s.rHead p r)) = .phys x →
    (unitsOf x 64).any s.unitBad = true →
    ∃ s', exec (.ringFetch p t) s = .next s' ∧ (s'.sring p r).error = true ∧ s'.rHead p r = s.rHead p r ∧
      ∀ u ∈ unitsOf x 64, s.unitBad u = true → s'.isPoisoned u = true) ∧
  (∀ (s : State) (p : Fin 16) (r : Fin 8) (g : Seg) (gs : List Seg) (x : Nat), s.up = true → (s.sring p r).segs = g :: gs →
    s.fetchOn p = true → (s.sring p r).fenced = true → (s.sring p r).fence.any (fun f => s.earlier p f.1 f.2) = false →
    s.entriesDue p (s.sring p r) = false → s.tileGone p g.tile = false → s.canTake g.tile (s.rPrio p r) = true →
    s.vloc p (s.bundleAddr p r (s.rHead p r)) = .phys x → (unitsOf x 64).any s.unitBad = false →
    ∃ s', exec (.rfence p r) s = .next s' ∧ (s'.sring p r).fenced = false ∧ s'.rHead p r = (s.rHead p r + 1) % 2 ^ 17) ∧
  (∀ (s : State) (t : Fin 64) (l p : Nat), s.up = true → (s.tile t).topSaved = some l → s.ownerOf t = some p →
    ((s.tile t).liveEnts.any fun e => l < e.lvl) = false →
    ((List.range 8).any fun r => l < s.rPrio p r && (s.sring p r).segs.any fun g => g.tile == t.val) = false → s.tileLive t = true →
    ((s.tile t).ents.any fun e => e.lvl == l && e.cut) = false →
    ∃ s', exec (.preemptionResume t) s = .next s' ∧ (s'.tile t).saved.get {} ⟨l, 0, 0⟩ = {} ∧
      (∀ c : PassRec, c = (s.tile t).saved.get {} ⟨l, 0, 0⟩ → s.noneEnters t = true → c.loop = none → c.inb = [] →
        (s.tile t).ents.length + c.ents.length ≤ 32 →
        ∃ es, (s'.tile t).ents = (s.tile t).ents ++ es ∧
          es.map (fun e => (e.word, e.ring, e.idx, e.slot, e.lvl, e.done)) = c.ents.map fun e => (e.word, e.ring, e.idx, e.slot, e.lvl, e.done)) ∧
      s'.fld F.SEP_PC_PERF_COUNT pfRESUME p =
        (if s.flag F.SEP_PC_PERF_CTL_FREEZE 0 p then s.fld F.SEP_PC_PERF_COUNT pfRESUME p
         else addSat 64 (s.fld F.SEP_PC_PERF_COUNT pfRESUME p) 1)) ∧
  (∀ (s : State) (p : Fin 16) (n : BitVec 64), s.up = true → s.flag F.SEP_PC_PERF_CTL_TEL_EN 0 p = true → s.dom 8 = .on →
    ∃ s', exec (.telemetryPeriod p n) s = .next s' ∧ (s'.part p).telSeq = ((s.part p).telSeq + 1) % 2 ^ 32 ∧
      (∀ (k : Nat) (d : Bytes), s.msgPort p = some k → (∀ j : Fin 18, (s.port j).bq = []) →
        d = leBytes 8 n.toNat ++ leBytes 2 1 ++ leBytes 2 12 ++ leBytes 4 0 ++
          (List.range 12).flatMap (fun i => leBytes 8 (s.fld F.SEP_PC_PERF_COUNT i p)) →
        (s'.port k).bq = [{ op := 0xC1, part := p, lenb := 112, aux := (s.part p).telSeq, data := d }]) ∧
      (s.msgPort p = none → (∀ j : Fin 18, (s.port j).bq = []) →
        s'.fld F.SEP_PC_PERF_CTL_TEL_DROP 0 p = addSat F.SEP_PC_PERF_CTL_TEL_DROP.width (s.fld F.SEP_PC_PERF_CTL_TEL_DROP 0 p) 1))

/-- 16 R414 to R432: frames of the Milk chain and the rounds of the Herd.  That `R` is OPTIME over the period, that the round start sends
SYNC, and the order of SETUP are the model's reading (log entry 40); that rows tell what a monitor does is its choice (log entry 68). -/
def Obligations.ChainRowsTakeEffect : Prop :=
  (∀ f : MilkFrame, f.typ < 256 → f.addr < 256 → f.seq < 256 → f.payload.length ≤ 64 → milkTake f.bytes = some f) ∧
  (∀ (s : State) (lo lr : MilkLine) (n : Nat), s.up = true → s.roundDue = some n → s.herdRuns = true → s.herd.startAt ≠ s.tim.optime + 1 →
    s.herd.ph = .idle → s.herd.needWake = false → s.tim.optime < s.herd.lastTx + 500 → s.herd.needEnum = false →
    ∃ t, exec (.milkRoundStart lo lr) s = .next t ∧ t.herd.ph = .round ∧ t.herd.r = s.tim.optime / n ∧ t.herd.got = 0 ∧
      t.herd.out.cur = s.addrList.head?.getD 0 ∧ t.herd.lastTx = s.tim.optime ∧ t.herd.startAt = s.tim.optime + 1 ∧
      (s.fld F.HRD_STAT_MODE = 3 → CleanLine lo → ∀ p : Fin 12, s.reaches false lo (p.val + 1) = true → (s.mon (p.val + 1)).awake = true →
        (s.mon (p.val + 1)).hopA ≠ 255 →
        t.mon (p.val + 1) = { s.mon (p.val + 1) with standby := false, synced := true, missed := false, late := (s.mon (p.val + 1)).bal != 0, bal := 0, due := some (s.aper % 2 ^ 16, s.tim.optime / n % 65536) })) ∧
  (∀ (s : State) (lo lr : MilkLine) (n : Nat), s.up = true → s.roundDue = some n → s.herdRuns = true → s.herd.startAt ≠ s.tim.optime + 1 →
    s.herd.ph = .idle → s.herd.needWake = true →
    ∃ t, exec (.milkRoundStart lo lr) s = .next t ∧ t.herd.ph = .due ∧ t.fld F.HRD_STAT_MODE = 1 ∧
      t.fld F.HRD_ERR_REENUM = addSat 8 (s.fld F.HRD_ERR_REENUM) 1) ∧
  (∀ (s : State) (p : Fin 12) (cells temps : List (BitVec 16)) (wire recent : Bool) (aper round : Nat),
    measFits cells temps = true → (s.mon (p.val + 1)).due = some (aper, round) →
    ∃ t late, exec (.syncMeasure p cells temps wire recent) s = .next t ∧ late = ((s.mon (p.val + 1)).late || recent) ∧
      t.mon (p.val + 1) = { s.mon (p.val + 1) with late := late, openWire := wire, due := none, res := some ⟨round, (cells.map BitVec.toNat).map (worse (if late then stSETTLE else stVALID)), temps.map BitVec.toNat⟩ }) ∧
  (∀ (s : State) (ret : Bool) (us : BitVec 16) (l : MilkLine), s.up = true → s.herd.ph = .round → (s.herd.side ret).cur ≠ 0 →
    (s.herd.side ret).cmd = none →
    ∃ t, exec (.read ret us l) s = .next t ∧ t.herd.lastTx = s.tim.optime ∧ t.herd.seq = (s.herd.seq + 1) % 256 ∧
      (t.herd.side ret).cur = (s.herd.side ret).cur ∧
      (t.herd.side ret).cmd = some (s.herd.frame 0x02 (s.herd.side ret).cur
        (leBytes 3 (s.balMask (s.herd.side ret).cur) ++ leBytes 2 (balTime s.herd.gap us.toNat)))) ∧
  (∀ (s : State) (ret : Bool) (us : BitVec 16) (l : MilkLine) (p : Fin 12), s.up = true → s.herd.ph = .round →
    (s.herd.side ret).cmd = none → CleanLine l → s.reaches ret l (p.val + 1) = true → (s.mon (p.val + 1)).awake = true →
    (s.mon (p.val + 1)).addr = (s.herd.side ret).cur → 1 ≤ (s.herd.side ret).cur → (s.herd.side ret).cur ≤ 12 →
    (∀ q : Fin 12, q ≠ p → (s.mon (q + 1)).addr ≠ (s.herd.side ret).cur) →
    ∃ t, exec (.read ret us l) s = .next t ∧
      (t.herd.side ret).ans = some (MilkFrame.bytes ⟨0x82, (s.herd.side ret).cur, s.herd.seq % 256, (s.mon (p.val + 1)).answer⟩) ∧
      (t.mon (p.val + 1)).bal = (if balTime s.herd.gap us.toNat % 2 ^ 16 = 0 then 0 else s.balMask (s.herd.side ret).cur) ∧
      (t.mon (p.val + 1)).synced = false ∧ (t.mon (p.val + 1)).restarted = false ∧ (t.mon (p.val + 1)).coll = false) ∧
  (∀ (s : State) (ret : Bool) (rx : Option (List Byte)) (b : List Byte) (c x : MilkFrame) (a : Fin 12), s.up = true → s.herd.ph = .round →
    (s.herd.side ret).cmd = some c → c.addr = a.val + 1 → (match rx with | some b => some b | none => (s.herd.side ret).ans) = some b →
    milkTake b = some x → x.answers c = true → x.payload.length = 52 →
    ∃ t, exec (.data ret rx) s = .next t ∧ hasBit t.herd.got a = true ∧
      (∀ i : Fin 20, t.fld F.HRD_CELL_WORD (20 * a + i) = leAt x.payload (2 + 2 * i) 2) ∧
      (∀ i : Fin 4, t.fld F.HRD_TEMP_WORD (4 * a + i) = leAt x.payload (42 + 2 * i) 2) ∧
      t.fld F.HRD_MSTAT_MSTAT a = leAt x.payload 50 2 ∧ t.fld F.HRD_MSTAT_ROUND a = leAt x.payload 0 2 ∧
      t.flag F.HRD_MON_INFO_REACH_A a = !ret ∧ t.flag F.HRD_MON_INFO_REACH_B a = ret) ∧
  (∀ (s : State) (ret : Bool) (b : List Byte) (c : MilkFrame), s.up = true → s.herd.ph = .round → (s.herd.side ret).cur ≠ 0 →
    (s.herd.side ret).cmd = some c → (s.herd.side ret).retry = false →
    (milkTake b = none → ∃ t, exec (.data ret (some b)) s = .next t ∧
      t.herd.side ret = { cur := (s.herd.side ret).cur, retry := true } ∧ t.fld F.HRD_ERR_CRC_ERR = addSat 8 (s.fld F.HRD_ERR_CRC_ERR) 1) ∧
    (∀ x, milkTake b = some x → (x.answers c = false ∨ x.payload.length ≠ 52) → ∃ t, exec (.data ret (some b)) s = .next t ∧
      t.herd.side ret = { cur := (s.herd.side ret).cur, retry := true } ∧ t.fld F.HRD_ERR_NO_RSP = addSat 8 (s.fld F.HRD_ERR_NO_RSP) 1)) ∧
  (∀ (s : State) (ret : Bool) (c : MilkFrame), s.up = true → s.herd.ph = .round → (s.herd.side ret).cur ≠ 0 →
    (s.herd.side ret).cmd = some c → (s.herd.side ret).retry = false →
    ∃ t, exec (.responseTimeout ret) s = .next t ∧ t.herd.side ret = { cur := (s.herd.side ret).cur, retry := true } ∧
      t.fld F.HRD_ERR_NO_RSP = addSat 8 (s.fld F.HRD_ERR_NO_RSP) 1) ∧
  (∀ (s : State), s.up = true → s.fld F.HRD_STAT_MODE = 3 → s.herd.ph = .round → s.herd.echo ≠ .intact →
    ∃ t, exec .echoTimeout s = .next t ∧ t.fld F.HRD_STAT_MODE = 4 ∧ t.herd.broken = true ∧
      t.fld F.HRD_ERR_BREAKS = addSat 8 (s.fld F.HRD_ERR_BREAKS) 1) ∧
  (∀ (s : State) (dur : BitVec 16), s.up = true → s.roundOver = true →
    ∃ t, exec (.milkRoundComplete dur) s = .next t ∧ t.fld F.HRD_ROUND_ROUND = s.herd.r % 2 ^ 16 ∧
      t.fld F.HRD_ROUND_DUR = dur.toNat ∧ t.flag F.AON_SVC_STAT_CHAIN_READY = true ∧ t.pow.roundWake = false) ∧
  (∀ (s : State) (ret : Bool) (l : MilkLine) (na hop : Nat), s.up = true → s.herd.asks ret = some (na, hop) → (s.herd.side ret).cmd = none →
    ∃ t, exec (.enum ret l) s = .next t ∧ (t.herd.side ret).cmd = some (s.herd.frame 0x03 0x3F (leBytes 1 na ++ leBytes 1 hop)) ∧
      (∀ p : Fin 12, CleanLine l → na ≠ 0 → na < 256 → hop < 256 → s.reaches ret l (p.val + 1) = true → (s.mon (p.val + 1)).awake = true →
        (s.mon (p.val + 1)).addr = 0 →
        t.mon (p.val + 1) = { s.mon (p.val + 1) with standby := false, addr := na, hopA := if ret then 255 else hop, hopB := if ret then hop else 255 } ∧
        (t.herd.side ret).ans = some (MilkFrame.bytes ⟨0x83, 0, s.herd.seq % 256,
          leBytes 4 (s.mon (p.val + 1)).uid ++ leBytes 2 (s.mon (p.val + 1)).maker ++ [1, 20]⟩))) ∧
  (∀ (s : State) (rx : Option (List Byte)) (b : List Byte) (c x : MilkFrame), s.up = true → s.herd.ph = .enumOut → s.herd.out.cmd = some c →
    (match rx with | some b => some b | none => s.herd.out.ans) = some b → milkTake b = some x → x.answers c = true → x.payload.length = 8 →
    s.herd.k < 12 →
    ∃ t, exec (.enumRsp false rx) s = .next t ∧ t.herd.k = s.herd.k + 1 ∧ t.fld F.HRD_MON_UID_UID s.herd.k = leAt x.payload 0 4 ∧
      t.fld F.HRD_MON_INFO_MAKER s.herd.k = leAt x.payload 4 2) ∧
  (∀ (s : State) (a : Fin 12) (l : MilkLine) (rx : Option (List Byte)) (ha hb : Nat) (c : MilkFrame), s.up = true → s.herd.ph = .setup →
    s.herd.todo.contains (a.val + 1) = true → s.herd.out.cmd = none → s.herd.ret.cmd = none →
    ha = (if a.val + 1 ≤ s.herd.k then a.val else 255) →
    hb = (if s.herd.ring then s.herd.k - (a.val + 1) else if a.val + 1 ≤ s.herd.k then 255 else s.herd.c - (a.val + 1)) →
    c = s.herd.frame 0x04 (a.val + 1) (leBytes 1 ha ++ leBytes 1 hb) →
    (∃ t, exec (.setup a l true rx) s = .next t ∧ t.herd.todo = s.herd.todo ∧
      (t.herd.side (!decide (a.val + 1 ≤ s.herd.k))).cmd = some c) ∧
    (∀ p : Fin 12, CleanLine l → s.reaches (!decide (a.val + 1 ≤ s.herd.k)) l (p.val + 1) = true → (s.mon (p.val + 1)).awake = true →
      (s.mon (p.val + 1)).addr = a.val + 1 →
      ∃ t, exec (.setup a l false none) s = .next t ∧ (t.mon (p.val + 1)).hopA = ha ∧ (t.mon (p.val + 1)).hopB = hb % 256 ∧
        t.herd.todo = s.herd.todo.filter (· != a.val + 1) ∧ (t.herd.todo = [] → t.herd.ph = .idle)) ∧
    (∀ (b : List Byte) (x : MilkFrame), rx = some b → milkTake b = some x → x.answers c = true → x.payload = [] →
      ∃ t, exec (.setup a l false rx) s = .next t ∧ t.herd.todo = s.herd.todo.filter (· != a.val + 1) ∧
        (t.herd.todo = [] → t.herd.ph = .idle))) ∧
  (∀ (s : State) (lo lr : MilkLine), s.up = true → s.herd.ph = .reset →
    ∃ t, exec (.resetMon lo lr) s = .next t ∧ t.herd.ph = .enumOut ∧ (CleanLine lo → CleanLine lr → ∀ p : Fin 12, s.reaches false lo (p.val + 1) = true →
      (s.mon (p.val + 1)).awake = true → t.mon (p.val + 1) = { s.mon (p.val + 1) with standby := false, addr := 0, hopA := 255, hopB := 255, bal := 0 })) ∧
  (∀ (s : State) (lo lr : MilkLine), s.up = true → s.herd.sleepDue = true →
    ∃ t, exec (.sleep lo lr) s = .next t ∧ t.herd.sleepDue = false ∧ (CleanLine lo → CleanLine lr → ∀ p : Fin 12, s.reaches false lo (p.val + 1) = true →
      (s.mon (p.val + 1)).awake = true → t.mon (p.val + 1) = (s.mon (p.val + 1)).asleep)) ∧
  (∀ (s : State) (l : MilkLine), s.up = true → (s.herd.ph = .ping ∨ s.herd.ph = .probe) →
    (CleanLine l → s.herd.ph = .ping → ∃ t, exec (.ping l) s = .next t ∧ t.herd.j = 0 ∧
      t.herd.ring = (List.range l.n).all fun i => s.repeats l (i + 1)) ∧
    (CleanLine l → s.herd.ph = .probe → ∃ t, exec (.ping l) s = .next t ∧ t.herd.pinged = true ∧
      t.herd.toRing = (List.range l.n).all fun i => s.repeats l (i + 1)) ∧
    (∀ (i : Fin 13) (bs : List Byte), l.cut = 0 → l.busy = 0 → l.hit = some (i, bs) → i.val = l.n → milkTake bs = none →
      ((List.range l.n).all fun i => s.repeats l (i + 1)) = true →
      ∃ t, exec (.ping l) s = .next t ∧ t.fld F.HRD_ERR_CRC_ERR = addSat 8 (s.fld F.HRD_ERR_CRC_ERR) 1)) ∧
  (∀ (s : State), s.up = true → s.dom 4 = .on → s.dom 5 = .on → s.herd.ph = .due →
    ∃ t, exec .enumeration s = .next t ∧ t.herd.ph = .reset ∧ t.fld F.HRD_STAT_MODE = 2 ∧ t.fld F.HRD_STAT_BREAK_POS = 0 ∧ t.herd.k = 0 ∧
      t.herd.c = s.est.lim.ncart) ∧
  (∀ (s : State) (p : Fin 12), (s.mon (p.val + 1)).awake = true →
    (∃ t, exec (.monitorStandby p) s = .next t ∧ t.mon (p.val + 1) = { s.mon (p.val + 1) with standby := true, bal := 0 }) ∧
    ((s.mon (p.val + 1)).standby = true → ∃ t, exec (.monitorSleep p) s = .next t ∧ t.mon (p.val + 1) = (s.mon (p.val + 1)).asleep)) ∧
  (∀ (s : State) (p : Fin 12) (uid : BitVec 32) (maker : BitVec 16),
    (∃ t, exec (.monitorWake p true uid maker) s = .next t ∧ t.mon (p.val + 1) = Mon.fresh uid.toNat maker.toNat) ∧
    ((s.mon (p.val + 1)).awake = false → ∃ t, exec (.monitorWake p false uid maker) s = .next t ∧
      t.mon (p.val + 1) = Mon.fresh (s.mon (p.val + 1)).uid (s.mon (p.val + 1)).maker)) ∧
  (∀ (s : State) (p : Fin 12), ∃ t, exec (.balTimeExpiry p) s = .next t ∧ t.mon (p.val + 1) = { s.mon (p.val + 1) with bal := 0 })

/-- 16 R433 to R440: pack measurement. -/
def Obligations.PackRowsTakeEffect : Prop :=
  (∀ (s : State) (c : Fin 6) (raw : BitVec 24) (n : BitVec 16) (hall early half : Bool), s.up = true → s.dom 5 = .on →
    s.flag F.PKM_CFG_EN c = true →
    (c.val ≠ 1 → ∃ t, exec (.packSample c raw false false n hall early half) s = .next t ∧
      t.fld F.PKM_SAMP_WORD c = mkWord (s.freshSt c false early half) raw.toInt % 2 ^ 32) ∧
    (c.val ≠ 1 → ∃ t, exec (.packSample c raw true false n hall early half) s = .next t ∧
      t.fld F.PKM_SAMP_WORD c = mkWord stOVER (if raw.toInt < 0 then (packRange c s.pack.gain).1 else (packRange c s.pack.gain).2) % 2 ^ 32) ∧
    (c.val = 1 → s.fld F.PKM_HALL_SCALE_SCALE ≠ 0 → ∃ t, exec (.packSample c raw false false n hall early half) s = .next t ∧
      t.fld F.PKM_SAMP_WORD c =
        mkWord (s.freshSt c false early half) (truncDiv (raw.toInt * 1000) (s.fld F.PKM_HALL_SCALE_SCALE)) % 2 ^ 32) ∧
    (c.val ≠ 1 → ∀ ovr : Bool, ∃ t, exec (.packSample c raw ovr true n hall early half) s = .next t ∧
      t.fld F.PKM_SAMP_WORD c = mkWord stSTALE (wordVal (s.samp c)) % 2 ^ 32)) ∧
  (∀ (s : State), s.up = true → s.dom 5 = .on → s.flag F.PKM_ISO_CFG_ISO_EN = true →
    ∃ t, exec .isoDwellEnd s = .next t ∧ t.fld F.PKM_ISO_STAT_STATE = (s.fld F.PKM_ISO_STAT_STATE + 1) % 4 ∧ t.pack.isoNum = 0) ∧
  (∀ (s : State), s.up = true → s.dom 5 = .on → s.fld F.PKM_CFG_GAIN 0 = 3 → s.pack.gain < 2 →
    (∃ c, s.pack.calm = some c ∧ c + 10 ≤ s.tim.optime) →
    ∃ t, exec .autoGainUp s = .next t ∧ t.pack.gain = s.pack.gain + 1 ∧ 3 ≤ t.pack.owed 0) ∧
  (∀ (s : State) (c : Fin 6), s.up = true → hasBit s.pack.syncWait c = true →
    ∃ t, exec (.syncSampleTimeout c) s = .next t ∧ t.fld F.PKM_SYNCS_WORD c = mkWord stSTALE (wordVal (s.samp c)) % 2 ^ 32 ∧
      hasBit t.pack.syncWait c = false)

/-- 17 R459, R465 to R468, 18 R480 to R486: conditions, sequences, coils and contacts; a DROPOUT in a shadow starts no reaction (21 R567).
That the weld test is latched as it is met and judged as its window ends (log entry 39), and where the break wait stands (log entry
38), are the model's reading. -/
def Obligations.ContactorRowsTakeEffect : Prop :=
  (∀ (s : State) (n : Fin 21), s.up = true → (s.cond n).since.isSome = true → s.bit F.EST_COND_CONF_CONF n = false →
    n.val = 20 ∨ s.condDue n = true →
    ∃ t, exec (.conditionConfirm n) s = .next t ∧ t.bit F.EST_COND_CONF_CONF n = true ∧ t.bit F.EST_COND_EVT_EVT n = true) ∧
  (∀ (s : State) (cause at_ : Nat), s.up = true → s.ctr.wait = some (cause, at_) →
    ∃ t, exec .brkWaitExpiry s = .next t ∧ t.seq = 0 ∧ t.coil 0 = false ∧ t.coil 1 = false ∧ t.coil 2 = false ∧ t.ctr.wait = none ∧
      t.fld F.EST_CNT_BRK_FORCED = addSat 8 (s.fld F.EST_CNT_BRK_FORCED) 1) ∧
  (∀ (s : State), s.up = true → s.fld F.EST_DISC_STATE = 4 →
    ∃ t, exec .chargeOnlyOvercurrent s = .next t ∧ t.fld F.EST_DISC_CAUSE = 3 ∧
      t.fld F.EST_CNT_SOFT_DISC = addSat 16 (s.fld F.EST_CNT_SOFT_DISC) 1 ∧ t.est.overAt = none) ∧
  (∀ (s : State), s.up = true → ∃ t, exec .estimationStateRecord s = .next t ∧ t.rcd.setNo = (s.rcd.setNo + 1) % 65536) ∧
  (∀ (s : State) (c : Fin 4) (closed : Bool), ∃ t, exec (.auxContactChange c closed) s = .next t ∧ t.aux c = closed) ∧
  (∀ (s : State), s.up = true → s.seq = 1 ∨ s.seq = 3 → s.ctr.auxAt.isSome = true → s.ctr.passed = false →
    s.flag F.CTR_SEQ_RES_WELD_SKIP = true →
    ∃ t, exec .testWindowExpiry s = .next t ∧ t.ctr.passed = true ∧ t.seq = s.seq) ∧
  (∀ (s : State), s.up = true → s.seq = 1 ∨ s.seq = 3 → s.ctr.auxAt.isSome = true → s.ctr.passed = false →
    s.flag F.CTR_SEQ_RES_WELD_SKIP = false → s.ctr.risen = true →
    ∃ t, exec .testWindowExpiry s = .next t ∧ t.seq = 0 ∧ t.flag F.CTR_STAT_WELD_LATCH = true ∧
      t.coil 0 = false ∧ t.coil 1 = false ∧ t.coil 2 = false) ∧
  (∀ (s : State), s.up = true → s.seq = 4 → s.stepPassed = false →
    ∃ t, exec .prechargeTimeout s = .next t ∧ t.seq = 0 ∧ t.fld F.CTR_SEQ_RES_RESULT = 4 ∧ t.flag F.CTR_STAT_COOL = true ∧
      t.coil 0 = false ∧ t.coil 1 = false ∧ t.coil 2 = false) ∧
  (∀ (s : State) (c : Fin 4), s.up = true → hasBit s.ctr.peak c = true →
    ∃ t, exec (.coilPeakEnd c) s = .next t ∧ hasBit t.ctr.peak c = false ∧ t.freeIx = s.freeIx + 1) ∧
  (∀ (s : State) (c : Fin 4), s.up = true → s.coil c = true →
    (∃ t, exec (.coilShort c) s = .next t ∧ t.coil c = false ∧ t.flag F.CTR_EVT_COIL_SHORT = true) ∧
    (∃ t, exec (.coilOpen c) s = .next t ∧ t.coil c = false ∧ t.flag F.CTR_EVT_COIL_OPEN = true)) ∧
  (∀ (s : State) (c : Fin 4), s.up = true → s.aux c ≠ s.coil c →
    ∃ t, exec (.auxMismatch c) s = .next t ∧ t.bit F.CTR_EVT_AUX_MIS c = true ∧ t.aux c = s.aux c) ∧
  (∀ (s : State) (c : Fin 4), s.up = true → s.aux c = true → s.coil c = false →
    ∃ t, exec (.weldCheck c) s = .next t ∧ t.bit F.CTR_EVT_WELD c = true ∧ t.flag F.CTR_STAT_WELD_LATCH = true) ∧
  (∀ (s : State), s.up = true → s.ctr.check = true →
    ∃ t, exec .doubleWeldCheck s = .next t ∧ t.ctr.check = false ∧
      (2000 < s.iNow.natAbs → t.ctr.dw = true ∧ t.flag F.CTR_EVT_DOUBLE_WELD = true)) ∧
  (∀ (s : State), s.up = true → s.seq = 7 ∨ s.seq = 8 →
    ∃ t, exec .dropout s = .next t ∧ t.flag F.CTR_EVT_DROPOUT = true ∧
      (s.shadowOf ⟨bCTR, 0, 0x06⟩ = none → t.seq = 0 ∧ t.coil 0 = false ∧ t.coil 1 = false ∧ t.coil 2 = false) ∧
      ((s.shadowOf ⟨bCTR, 0, 0x06⟩).isSome = true → t.seq = s.seq ∧ t.fld F.CTR_STAT_COIL = s.fld F.CTR_STAT_COIL)) ∧
  (∀ (s : State), s.up = true → ∃ t, exec .coolDownEnd s = .next t ∧ t.flag F.CTR_STAT_COOL = false)

/-- 19 R501 to R515: load switches, loops and touch keys.  That the switches return one by one after an undervoltage, in ascending order,
is the model's reading of R506 (log entry 48). -/
def Obligations.FieldRowsTakeEffect : Prop :=
  (∀ (s : State) (n : Fin 16), s.up = true → s.lswOn n = true →
    (hasBit s.field.blank n = false → ∃ t, exec (.lswOvercurrentLatch n) s = .next t ∧ t.lswOn n = false ∧
      t.bit F.LSW_STAT_LATCHED n = true ∧ t.bit F.LSW_EVT_OC_EVT n = true) ∧
    (∃ t, exec (.lswThermalLatch n) s = .next t ∧ t.lswOn n = false ∧ t.bit F.LSW_STAT_LATCHED n = true ∧
      t.bit F.LSW_EVT_TH_EVT n = true ∧ hasBit t.field.thermal n = true)) ∧
  (∀ (s : State) (n : Fin 16), s.up = true → ∃ t, exec (.blankingEnd n) s = .next t ∧ hasBit t.field.blank n = false) ∧
  (∀ (s : State) (n : Fin 16), s.up = true → s.olRuns n = true →
    (∃ t, exec (.openLoadSet n) s = .next t ∧ t.bit F.LSW_OL_OPEN n = true) ∧
    (∃ t, exec (.openLoadClear n) s = .next t ∧ t.bit F.LSW_OL_OPEN n = false)) ∧
  (∀ (s : State) (v : BitVec 16), s.up = true → s.flag F.LSW_SUP_STAT_VFLD_UV = false →
    ∃ t, exec (.vfldUndervoltage v) s = .next t ∧ t.flag F.LSW_SUP_STAT_VFLD_UV = true ∧ ∀ n : Fin 16, t.lswOn n = false) ∧
  (∀ (s : State), s.up = true → s.flag F.LSW_SUP_STAT_VFLD_UV = true →
    ∃ t, exec .vfldRestore s = .next t ∧ t.flag F.LSW_SUP_STAT_VFLD_UV = false ∧
      ∀ n l, bitsSet s.field.decided 16 = n :: l → s.bit F.RND_ACT_LSW n = false → s.heldOff n = false →
        t.lswOn n = true ∧ t.field.restore = l) ∧
  (∀ (s : State) (o0 o1 o2 o3 i0 i1 i2 i3 : BitVec 16), s.up = true →
    ∃ t, exec (.loopMeasurement o0 o1 o2 o3 i0 i1 i2 i3) s = .next t ∧ t.fld F.LOOP_DEL_DELIV 0 = o0.toNat ∧
      t.fld F.LOOP_DEL_DELIV 1 = o1.toNat ∧ t.fld F.LOOP_DEL_DELIV 2 = o2.toNat ∧ t.fld F.LOOP_DEL_DELIV 3 = o3.toNat) ∧
  (∀ (s : State) (n : Fin 4), s.up = true → s.field.bad.get 0 ⟨n, 0, 0⟩ = 21 → hasBit s.field.fired n = false →
    s.bit F.LOOP_STAT_FALLBACK n = false →
    ∃ t, exec (.loopCompliance n) s = .next t ∧ t.bit F.LOOP_EVT_LOOP_COMPLIANCE n = true ∧ t.bit F.LOOP_STAT_COMPLY n = true ∧
      t.fld F.LOOP_DEL_COMP_I n = s.fld F.LOOP_DEL_DELIV n ∧ t.bit F.LOOP_STAT_FALLBACK n = s.flag F.LOOP_CFG_FB_EN n) ∧
  (∀ (s : State) (n : Fin 4), s.up = true → s.lisOn n = true →
    (s.bit F.LIS_CTL_LIS_OC n = false → ∃ t, exec (.lisFoldback n) s = .next t ∧ t.bit F.LIS_CTL_LIS_OC n = true) ∧
    (∃ t, exec (.lisRetry n true) s = .next t ∧ t.bit F.LIS_CTL_LIS_OC n = false)) ∧
  (∀ (s : State) (k : Fin 4), s.up = true → s.bit F.AON_FRONT_STAT_TK_ACTIVE k = false →
    ∃ t, exec (.touchKeyTouch k) s = .next t ∧ t.bit F.AON_FRONT_STAT_TK_ACTIVE k = true ∧
      (s.fld F.TCH_CFG_FN k = 2 → t.lswOn (s.fld F.TCH_CFG_TGT k) = false)) ∧
  (∀ (s : State) (k : Fin 4), s.up = true →
    (s.bit F.TCH_STAT_STUCK k = true ∨ s.bit F.AON_FRONT_STAT_TK_ACTIVE k = true →
      ∃ t, exec (.touchKeyRelease k) s = .next t ∧ t.bit F.TCH_STAT_STUCK k = false ∧ t.bit F.AON_FRONT_STAT_TK_ACTIVE k = false) ∧
    (s.bit F.AON_FRONT_STAT_TK_ACTIVE k = true →
      ∃ t, exec (.touchKeyStuck k) s = .next t ∧ t.bit F.TCH_STAT_STUCK k = true ∧ t.bit F.AON_FRONT_STAT_TK_ACTIVE k = false ∧
        t.fld F.TCH_RAW_BASE k = t.fld F.TCH_RAW_RAW k))

/-- 05 R118 to R120, 21 R568, R573, 22 R587, 23 R602 to R606, R610, R611: the tick and what it decides, frames, and the ends of quiet
times and shadows.  That what is queued leaves at the next tick (log entry 13), the order of refusals (log entry 37), when a PLCA
write applies (log entry 63), and the octets of a frame on the wire (log entry 85) are the model's. -/
def Obligations.TickAndFrameRowsTakeEffect : Prop :=
  (∀ (s : State) (code inst : Byte), blockNamed code inst = true → s.up = true → (s.blk code.toNat inst.toNat).active = true →
    (s.blk code.toNat inst.toNat).latched = false → s.condHolds code.toNat inst.toNat = false →
    s.blkPowered code.toNat inst.toNat = true →
    ∃ a, exec (.quietExpiry code inst) s = .next (s.followed a) ∧ (a.blk code.toNat inst.toNat).active = false ∧
      (a.blk code.toNat inst.toNat).recov = incSat 16 (s.blk code.toNat inst.toNat).recov) ∧
  (∀ (s : State) (kind : Fin 6) (inst : Byte) (still : List DetRef), s.up = true →
    (s.shadows.find? fun x => x.key == ⟨kind.val, inst.toNat⟩).isSome = true →
    (∀ d ∈ still, levelDet ⟨d.code.toNat, d.inst.toNat, d.typ.toNat⟩ = false) →
    ∃ a, exec (.shadowEnd kind inst still) s = .next (s.followed a) ∧
      a.shadows = s.shadows.eraseP fun x => x.key == ⟨kind.val, inst.toNat⟩) ∧
  (∀ (s : State), s.up = true →
    ∃ t, exec .decisionTick s = .next t ∧ t.tim.optime = min (2 ^ 40 - 1) (s.tim.optime + 1) ∧ t.mgt.rxq = [] ∧ t.mgt.plcaNext = none) ∧
  (∀ (s : State) (f g : Frame) (n : Fin 16) (cf cg : Bool) (i j b c : Nat), s.up = true → s.nodeUp = true → s.waitBoth f g →
    f.order = .lswCmd n false cf i b → g.order = .lswCmd n true cg j c → s.mayOrder f → s.mayOrder g →
    s.flag F.AON_PIN_PHASE_FIELD_EN = true → s.lswHeld n = false → s.supHeld = false →
    ∃ t, exec .decisionTick s = .next t ∧ t.lswOn n = false ∧ t.replies f 0 ∧ t.replies g 1 (fun x => x.head? = some (BitVec.ofNat 8 f.host)) ∧
      t.fld F.MGT_ARB_LAST_RES = n ∧ t.fld F.MGT_ARB_LAST_WINNER = f.host % 2 ^ F.MGT_ARB_LAST_WINNER.width ∧
      t.fld F.MGT_ARB_LAST_LOSER = g.host % 2 ^ F.MGT_ARB_LAST_LOSER.width) ∧
  (∀ (s : State) (f g : Frame) (n : Fin 16) (i j b c : Nat), s.up = true → s.nodeUp = true → s.waitBoth f g →
    f.order = .lswCmd n false true i b → g.order = .lswCmd n false true j c → i ≠ j ∨ b ≠ c → s.mayOrder f → s.mayOrder g →
    s.isSteward f.host = true → s.isSteward g.host = false → s.lease.lost = false → s.tim.optime + 1 < s.lease.since + 3000 →
    ∃ t, exec .decisionTick s = .next t ∧ t.lswOn n = false ∧ t.fld F.LSW_CFG_ILIM n = clampN 2 (if n.val < 8 then 40 else 120) i ∧
      t.replies f 0 ∧ t.replies g 1 (fun x => x.head? = some (BitVec.ofNat 8 f.host))) ∧
  (∀ (s : State) (f g : Frame) (n : Fin 16) (i j b c : Nat), s.up = true → s.nodeUp = true → s.waitTurn f g →
    f.order = .lswCmd n false true i b → g.order = .lswCmd n false true j c → s.mayOrder f → s.mayOrder g → s.lease.held = false →
    ∃ t, exec .decisionTick s = .next t ∧ t.lswOn n = false ∧ t.fld F.LSW_CFG_ILIM n = clampN 2 (if n.val < 8 then 40 else 120) i ∧
      t.replies f 0 ∧ (i ≠ j ∨ b ≠ c → t.replies g 1 (fun x => x.head? = some (BitVec.ofNat 8 f.host))) ∧
      (i = j → b = c → t.replies g 0)) ∧
  (∀ (s : State) (f g : Frame), s.up = true → s.nodeUp = true → s.waitBoth f g → f.order = .claim false → g.order = .release →
    s.mayOrder f → s.mayOrder g → s.isSteward g.host = true → s.claimOk f.host false = true → s.lease.lost = false →
    ∃ t, exec .decisionTick s = .next t ∧ t.lease.held = true ∧ t.lease.holder = f.host ∧ t.replies f 0 ∧ t.replies g 0) ∧
  (∀ (s : State) (f g : Frame) (k : Fin 16) (v : BitVec 32), s.up = true → s.nodeUp = true → s.waitBoth f g →
    f.order = .regRead (0x1420 + k) 1 → g.order = .regWrite (0x1420 + k) [v] → s.mayOrder f → s.mayOrder g → s.isSteward g.host = true →
    s.lease.lost = false → s.tim.optime + 1 < s.lease.since + 3000 →
    ∃ t, exec .decisionTick s = .next t ∧ t.replies g 0 ∧ t.replies f 0 (fun x => x.drop 4 = leBytes 4 (v.toNat % 2 ^ 24))) ∧
  (∀ (s : State) (f g : Frame) (k : Fin 16) (v w : BitVec 32), s.up = true → s.nodeUp = true → s.waitTurn f g →
    f.order = .regWrite (0x1420 + k) [v] → g.order = .regWrite (0x1420 + k) [w] → s.mayOrder f → s.mayOrder g →
    s.isSteward f.host = true → g.host = f.host → s.lease.lost = false → s.tim.optime + 1 < s.lease.since + 3000 →
    ∃ t, exec .decisionTick s = .next t ∧ t.replies f 0 ∧ t.replies g 0 ∧ t.fld F.MGT_RIGHTS_LSW k = bitField w.toNat 0 16 ∧
      t.fld F.MGT_RIGHTS_LOOP k = bitField w.toNat 16 4 ∧ t.fld F.MGT_RIGHTS_CT k = bitField w.toNat 20 4) ∧
  (∀ (s : State) (dst src : BitVec 48) (et : BitVec 16) (b : List Byte) (fcs : BitVec 32), payloadFits b = true → s.up = true → s.nodeUp = true →
    s.macAccepts dst.toNat src.toNat et.toNat b fcs.toNat = true → 16 ≤ b.length →
    (rawFrame b).ver / 16 = 1 → (rawFrame b).malformed b.length = false → (rawFrame b).auth = true →
    s.authentic (rawFrame b) b = true → s.judge (rawFrame b).host (rawFrame b).seq = .new → s.mailRoom (rawFrame b).host = true →
    (rawFrame b).typ ≠ 2 → (rawFrame b).typ ≠ 5 →
    ∃ t f, exec (.frameReceive dst src et b fcs) s = .next t ∧ t.mgt.rxq = s.mgt.rxq ++ [f] ∧ f.host = (rawFrame b).host ∧
      f.seq = (rawFrame b).seq ∧ f.addr = src.toNat ∧
      t.fld F.MGT_CNT2_RX = addSat 16 (s.fld F.MGT_CNT2_RX) 1) ∧
  (∀ (s : State) (dst src : BitVec 48) (et : BitVec 16) (b : List Byte) (fcs : BitVec 32), payloadFits b = true → s.up = true →
    s.macAccepts dst.toNat src.toNat et.toNat b fcs.toNat = false → exec (.frameReceive dst src et b fcs) s = .next s.recsIn) ∧
  (∀ (o : OutFrame) (sess : Nat), o.minor < 16 → o.typ < 256 → o.host < 16 → o.seq < 2 ^ 32 → sess < 2 ^ 32 → o.body.length ≤ 1468 →
    rawFrame (o.payload sess) = ⟨16 + o.minor, o.typ, o.key.isSome, o.host, o.seq, sess, o.body.length⟩ ∧
    (rawFrame (o.payload sess)).malformed (o.payload sess).length = false ∧ leAt (o.payload sess) 2 1 / 2 % 2 = 1 ∧
    (∀ (s : State), s.keyOf o.host ≠ [] → o.key = some (s.keyOf o.host) → sess = s.fld F.MGT_SESS_SESS →
      s.authentic (rawFrame (o.payload sess)) (o.payload sess) = true)) ∧
  (∀ (s : State), s.up = true → s.nodeUp = true → ∃ t, exec .decisionTick s = .next t ∧
    ∀ r ∈ s.mgt.txq, s.frameBytes r.out ∈ t.mgt.sent) ∧
  (∀ (s : State), s.up = true → s.fld F.MGT_STAT_PLCA = 1 →
    exec .plcaFail s = .next (s.recsIn.event (supEvent bMGT 0x03 lDegrade)).recsOut) ∧
  (∀ (s : State) (ok : Bool), s.up = true →
    ∃ t, exec (.plcaStatusChange ok) s = .next t ∧ t.mgt.plcaOk = ok)

/-- Log entries 1 and 76: a step takes the command at the front of the queue; with an empty queue the module idles, and nothing
changes but the lanes, where PD08 is on, and what follows from them. -/
def Obligations.StepTakesTheFrontCommand : Prop :=
  (∀ (s : State) (c : Instr) (rest : List Instr), s.pending = c :: rest → step s = exec c (s.withPending rest)) ∧
  (∀ s : State, s.pending = [] → step s = .next s.idleStep) ∧
  (∀ s : State, s.onlyIn s.idleStep idleParts idleFields) ∧
  (∀ s : State, s.up = false ∨ s.dom 8 ≠ .on → s.idleStep = s)

/-- Log entry 1: a step that goes on leaves the rest of the queue, in order, whatever the command does. -/
def Obligations.StepLeavesTheRestOfTheQueue : Prop :=
  ∀ s t : State, step s = .next t → t.pending = s.pending.tail

/-- A command whose operands are operands of its row answers a next state in every state; any other is refused by name, which is the
model's choice (log entry 3); no command faults. -/
def Obligations.WellFormedCommandsGoOn : Prop :=
  ∀ (c : Instr) (s : State),
    (c.wellFormed = true → ∃ t, exec c s = .next t) ∧
    (c.wellFormed = false → ∃ m, exec c s = .refused (.illFormed m))

/-- 00 R7, 02 R42, 03 Table 3-10: what reset leaves: phase X, every register field at its reset value, nothing stored by address, no
command waiting, no output driven, no core domain on, no key loaded. -/
def Obligations.ResetState : Prop :=
  State.reset.canonical ∧ State.reset.pow.phase = .x ∧ State.reset.up = false ∧ State.reset.pending = [] ∧
  (∀ (f : RField) (i j : Nat), State.reset.fld f i j = f.resetAt i) ∧
  (∀ f ∈ outputFields, f ≠ F.LIS_CTL_LIS_EN → ∀ i : Nat, State.reset.fld f i = 0) ∧
  (∀ d : Nat, 8 ≤ d → State.reset.dom d = .off) ∧ State.reset.pow.vat = .off ∧
  (∀ h : Nat, State.reset.keyOf h = []) ∧ State.reset.tim.store = [] ∧ State.reset.identified

/-- The canonical form of everything kept by address is an invariant of every step (00 R6). -/
def Obligations.StepKeepsCanonical : Prop :=
  ∀ s t : State, s.canonical → step s = .next t → t.canonical

/-- 00 R15: the identification registers read their values after reset, and every step keeps them, with the tiles that the part
has (State.reset is a BX64: log entry 9). -/
def Obligations.IdentificationRegistersNeverChange : Prop :=
  State.reset.identified ∧ ∀ s t : State, step s = .next t →
    (s.identified → t.identified) ∧ t.tileCount = s.tileCount ∧ ∀ n, t.groupOf n = s.groupOf n

/-- 02 R42, 04 Table 4-1: in phases U and X a command that is not a pin, a supply, a reset or a chain monitor's own event
leaves the module as it is.  That nothing else acts there, and which events are a monitor's own, are the model's choice (log entries
14, 68). -/
def Obligations.UnpoweredModuleKeepsItsState : Prop :=
  ∀ (s : State) (c : Instr), s.up = false → c.wellFormed = true → actsUnpowered c = false → exec c s = .next s

/-- What the commands of the power, clock and reset units may change, and that they change nothing else (03, 04). -/
def Obligations.PowerCommandsFrame : Prop :=
  ∀ (c : Instr) (s t : State), familyOf c = .power → exec c s = .next t → s.onlyIn t (frameParts c) (frameFields c)

/-- What the commands of Rind and of the pins may change, and that they change nothing else (01, 02, 20). -/
def Obligations.SafetyAndPinCommandsFrame : Prop :=
  ∀ (c : Instr) (s t : State), (familyOf c = .safety ∨ familyOf c = .pins) → exec c s = .next t →
    s.onlyIn t (frameParts c) (frameFields c)

/-- What the commands of the recorder, the time base, the field and the ticks may change, and that they change nothing
else (19, 21, 22). -/
def Obligations.RecorderFieldAndTickCommandsFrame : Prop :=
  ∀ (c : Instr) (s t : State), (familyOf c = .recorder ∨ familyOf c = .field ∨ familyOf c = .ticks) → exec c s = .next t →
    s.onlyIn t (frameParts c) (frameFields c)

/-- What mailbox messages and the rows that are register writes of hosts may change, and that they change nothing else (23). -/
def Obligations.MailboxCommandsFrame : Prop :=
  ∀ (c : Instr) (s t : State), familyOf c = .mailbox → exec c s = .next t → s.onlyIn t (frameParts c) (frameFields c)

/-- What Q requests and the Separator's, the Vat's and the governor's rows may change, and that they change nothing else
(05, 14, 15). -/
def Obligations.SeparatorCommandsFrame : Prop :=
  ∀ (c : Instr) (s t : State), familyOf c = .separator → exec c s = .next t → s.onlyIn t (frameParts c) (frameFields c)

/-- What the rows of ports, lanes, engines and the cartridge may change, and that they change nothing else (06, 07, 08). -/
def Obligations.LinkCommandsFrame : Prop :=
  ∀ (c : Instr) (s t : State), familyOf c = .links → exec c s = .next t → s.onlyIn t (frameParts c) (frameFields c)

/-- What tile instructions, rings and telemetry may change, and that they change nothing else (09 to 13). -/
def Obligations.TileCommandsFrame : Prop :=
  ∀ (c : Instr) (s t : State), familyOf c = .tiles → exec c s = .next t → s.onlyIn t (frameParts c) (frameFields c)

/-- What the rows of the chain, the pack monitor, the estimator and the contactors may change, and that they change nothing
else (16, 17, 18). -/
def Obligations.StringCommandsFrame : Prop :=
  ∀ (c : Instr) (s t : State), familyOf c = .string → exec c s = .next t → s.onlyIn t (frameParts c) (frameFields c)

/-- 09 R242, 20 R545, 22 R579, R588, R599, 23 R618: what an auxiliary reset leaves: the fuses, the mailbox keys, the recorded pages where no
program is cut short, the time store (but the checksum of an entry that a warning of the same millisecond writes), both copies of the safety record, the chain's monitors, and the levels at the pins.  That the pins' levels and the monitors are
kept is the model's choice (log entries 14, 68). -/
def Obligations.ResetsKeepStoredContents : Prop :=
  ∀ (c : Instr) (s t : State), familyOf c = .reset → exec c s = .next t →
    t.mgt.keys = s.mgt.keys ∧ t.rcd.skipped = s.rcd.skipped ∧ t.rnd.copyA = s.rnd.copyA ∧
    t.tim.store.map (fun e => (e.optime, e.pcyc, e.kind)) = s.tim.store.map (fun e => (e.optime, e.pcyc, e.kind)) ∧
    t.tim.store.tail = s.tim.store.tail ∧
    ((∀ e, s.tim.store.head? = some e → ¬(e.kind = 2 ∧ e.optime = s.tim.optime ∧ e.pcyc = s.tim.pcyc)) → t.tim.store = s.tim.store) ∧
    t.fused = s.fused ∧ t.qual.fuse = s.qual.fuse ∧ t.rnd.copyB = s.rnd.copyB ∧ t.herd.mons = s.herd.mons ∧ t.pow.nid = s.pow.nid ∧ t.pending = s.pending ∧
    (s.rcd.prog = none → t.rcd.pages = s.rcd.pages) ∧
    (∀ f ∈ pinFields, s.fld f < 2 ^ f.width → t.fld f = s.fld f)

/-- 20 R543, 22 R579, R585, R587, 23 R618, R619: only these commands change recorded pages, OPTIME, the mailbox keys and the
safety record in force. -/
def Obligations.StoredContentsChangeOnlyBy : Prop :=
  ∀ (c : Instr) (s t : State), familyOf c ≠ .reset → exec c s = .next t →
    (c ≠ .recorderScanDone → c ≠ .pageProgramStart → (∀ ok, c ≠ .pageProgramDone ok) → (∀ ok, c ≠ .sectorEraseDone ok) →
      t.rcd.pages = s.rcd.pages) ∧
    (c ≠ .resetEnd → c ≠ .recorderScanDone → c ≠ .decisionTick → t.tim.optime = s.tim.optime) ∧
    (familyOf c ≠ .mailbox → c ≠ .decisionTick → c ≠ .ck08Fail → t.mgt.keys = s.mgt.keys) ∧
    (c ≠ .resetEnd → (∀ on, c ≠ .svcKeyChange on) → t.fld F.RND_CFG_ID_CFG_ID = s.fld F.RND_CFG_ID_CFG_ID)

/-- 05 R106, 18 R477, 19 R501, 20 R534: nothing that a port, a lane, an engine or a tile does moves a contactor, a load
switch, a loop or an STO output. -/
def Obligations.CoreCommandsNeverMoveOutputs : Prop :=
  ∀ (c : Instr) (s t : State), (familyOf c = .separator ∨ familyOf c = .links ∨ familyOf c = .tiles) → exec c s = .next t →
    t.field = s.field ∧ t.ctr = s.ctr ∧ t.rnd = s.rnd ∧ ∀ f ∈ outputFields, ∀ i j : Nat, t.fld f i j = s.fld f i j

/-- 05 R106 to R109: a Q request of the Vat changes bytes only as a write or an atomic of a port that is ACTIVE in a SEALED
partition, and only in pages that are mapped to that partition. -/
def Obligations.RequestsReachOnlyTheirPartition : Prop :=
  ∀ (q : QHdr) (s t : State), q.addr.toNat < globBase →
    ((∃ b1 b2 d, exec (.wr q b1 b2 d) s = .next t) ∨ (∃ v, exec (.fadd64 q v) s = .next t) ∨ (∃ x y, exec (.cas64 q x y) s = .next t) →
      s.vatWithin t q.part ∧
      (t.vmem.mem ≠ s.vmem.mem → s.bit F.SEP_PT_PORTS_ACTIVE q.port q.part = true ∧ s.ptState q.part = ptSealed)) ∧
    (∀ n, exec (.rd q n) s = .next t → t.vmem.mem = s.vmem.mem)

/-- 05 R106 to R109, 11 R286, 13 R341, R347: the Ladle, completions and the rings change bytes of the Vat only in pages that
are mapped to the partition they work for. -/
def Obligations.TilesReachOnlyTheirPartition : Prop :=
  (∀ (n : Fin 64) (s t : State),
    ((∃ ch k, exec (.ldv n ch k) s = .next t) ∨ (∃ ch k, exec (.stv n ch k) s = .next t) ∨ exec (.cpl n) s = .next t) →
    t.vmem.mem = s.vmem.mem ∨ ∃ p, s.ownerOf n = some p ∧ s.vatWithin t p) ∧
  (∀ (p : Fin 16) (s t : State), ((∃ n, exec (.ringFetch p n) s = .next t) ∨ (∃ r, exec (.rfence p r) s = .next t)) →
    s.vatWithin t p)

/-- 02 R54: a strap change is stored for the next power-up and changes nothing else; the sampled value changes in a power-up
alone, to 1 + the straps. -/
def Obligations.StrapsAreSampledAtPowerUp : Prop :=
  (∀ (s : State) (nid : Fin 16), exec (.nidStrapChange nid) s = .next { s with pow := { s.pow with nid := nid } }) ∧
  (∀ (c : Instr) (s t : State), familyOf c ≠ .reset → c ≠ .resetEnd → exec c s = .next t →
    t.fld F.AON_CONN_STAT_MGT_NID = s.fld F.AON_CONN_STAT_MGT_NID) ∧
  (∀ s : State, s.pow.phase = .x → s.pow.nid < 16 →
    ∃ t, exec .resetEnd s = .next t ∧ t.fld F.AON_CONN_STAT_MGT_NID = 1 + s.pow.nid)

/-- 05 R124: an admission of a port whose `REQ` bit is clear has no effect beyond its response. -/
def Obligations.LateAdmissionHasNoEffect : Prop :=
  ∀ (s : State) (w : CoreWr), s.coreServes w (partBase + 0x2008) →
    s.bit F.SEP_PT_PORTS_REQ (bitField w.data.toNat F.SEP_PC_ADMIT_PORT.lsb F.SEP_PC_ADMIT_PORT.width) w.part = false →
    exec (.sepPcAdmit w) s = .next (s.followed (s.served (s.arrived w.port 1) w (partBase + 0x2008)))

/-- 12 R309, 11 R274: the opcodes of Table 12-1 are the complete instruction set.  A word with another opcode raises OPCODE
as it issues, and is aborted with it; no word with an assigned opcode does.  The row that issues it is NOP's (log entry 23). -/
def Obligations.UnknownOpcodesRaiseOPCODE : Prop :=
  (∀ (s : State) (t : Fin 64) (i : Nat) (e : PEnt), s.up = true → s.tileLive t = true → (s.tile t).head .control = some i →
    (s.tile t).ents[i]? = some e → e.taken = false → (s.tile t).ready e.word = true → ((s.tile t).consume e.word).2 = false →
    (s.tile t).outrun i e = false → wOpc e.word ∉ opcodes →
    exec (.nop t) s = .next ((s.recsIn.setTile t ((s.tile t).consume e.word).1).abortEnter t i xOPCODE).recsOut) ∧
  (∀ (s : State) (t : Nat) (e : PEnt), wOpc e.word ∉ opcodes → s.wordFault t e = xOPCODE) ∧
  (∀ (s : State) (t : Nat) (e : PEnt), wOpc e.word ∈ opcodes → s.wordFault t e ≠ xOPCODE)

/-- 19 R516: while a HOLD_OFF key is touched, an on-order for its load switch is answered BUSY and the switch stays off;
after release it is decided as usual; off-orders are answered OK throughout. -/
def Obligations.HeldOffSwitchesStayOff : Prop :=
  ∀ (s : State) (h : Hdr) (n : Fin 16) (cfg : Bool) (ilim : BitVec 16) (blank : Byte),
    (s.isSteward h.host = true ∨ s.bit F.MGT_RIGHTS_LSW n h.host = true) →
    (s.hears h (mkLsw (s.minorFor h) n 1 cfg ilim.toNat blank.toNat) → s.flag F.AON_PIN_PHASE_FIELD_EN = true →
      s.lswHeld n = false → s.flag F.AON_CONN_STAT_FLD_PRES = true → s.lswOn n = false → s.supHeld = false →
      (s.heldOff n = true →
        ∃ t, exec (.lswCmd h n true cfg ilim blank) s = .next t ∧ t.answers h 2 0 ∧ t.lswOn n = false) ∧
      (s.heldOff n = false → hasBit s.field.thermal n = false → s.flag F.LSW_SUP_STAT_VFLD_UV = false →
        ∃ t, exec (.lswCmd h n true cfg ilim blank) s = .next t ∧ t.answers h 0 0 ∧ t.lswOn n = true)) ∧
    (s.hears h (mkLsw (s.minorFor h) n 0 cfg ilim.toNat blank.toNat) →
      ∃ t, exec (.lswCmd h n false cfg ilim blank) s = .next t ∧ t.answers h 0 0 ∧ t.lswOn n = false)

/-- 23 R620: a frame whose SEQ equals that of a frame that waits for its decision is discarded. -/
def Obligations.DuplicateOfAWaitingFrameIsDiscarded : Prop :=
  ∀ (s : State) (dst src : BitVec 48) (et : BitVec 16) (b : List Byte) (fcs : BitVec 32), payloadFits b = true → s.up = true → s.nodeUp = true →
    s.macAccepts dst.toNat src.toNat et.toNat b fcs.toNat = true → 16 ≤ b.length →
    (rawFrame b).ver / 16 = 1 → (rawFrame b).malformed b.length = false → (rawFrame b).auth = true →
    s.authentic (rawFrame b) b = true → s.judge (rawFrame b).host (rawFrame b).seq = .undecided →
    (rawFrame b).typ ≠ 2 → (rawFrame b).typ ≠ 5 →
    ∃ t, exec (.frameReceive dst src et b fcs) s = .next t ∧ t.mgt.rxq = s.mgt.rxq ∧ t.mgt.txq = s.mgt.txq

/-- 23 R625, 05 R120: a host whose lease ends in the tick is a tenant in it: its Steward-only messages are answered REFUSED
with reason NOT_STEWARD, and change nothing they ask for.  That NOT_STEWARD stands before the stage is reached, and that a FAULT_ACK
needs the lease, are the model's (log entries 18, 37, 62). -/
def Obligations.LateMessagesOfTheStewardAreRefused : Prop :=
  (∀ (s : State) (h : Hdr) (p r : BitVec 16), s.isSteward h.host = true → s.hearsLate h (mkShare p.toNat r.toNat) →
    ∃ t, exec (.powerShareSet h p r) s = .next t ∧ t.answers h 3 4 ∧ t.lease.held = false ∧ t.gov.reserve = s.gov.reserve) ∧
  (∀ (s : State) (h : Hdr) (b : List Byte), bodyFits b = true → s.isSteward h.host = true →
    (s.hearsLate h (.limitsetLoad b) →
      ∃ t, exec (.limitsetLoad h b) s = .next t ∧ t.answers h 3 4 ∧ t.lease.held = false ∧ t.est.limNext = s.est.limNext) ∧
    (s.hearsLate h (.modelLoad b) →
      ∃ t, exec (.modelLoad h b) s = .next t ∧ t.answers h 3 4 ∧ t.lease.held = false ∧ t.est.modelNext = s.est.modelNext) ∧
    (s.hearsLate h (.safetyCfgLoad b) →
      ∃ t, exec (.safetyCfgLoad h b) s = .next t ∧ t.answers h 3 4 ∧ t.lease.held = false ∧ t.rnd.pend = s.rnd.pend)) ∧
  (∀ (s : State) (h : Hdr) (code inst : Byte), s.isSteward h.host = true → s.blockExists code.toNat inst.toNat = true →
    s.hearsLate h (.faultAck code.toNat inst.toNat) →
    ∃ t, exec (.faultAck h code inst) s = .next t ∧ t.answers h 3 4 ∧ t.lease.held = false)

/-- 10 R250: a tile group that powers off loses what its tiles hold: both images are empty, `ACT_VALID` is set, and the
shadow is EMPTY; the power-up that follows leaves them so. -/
def Obligations.GroupsLoseTheirImages : Prop :=
  (∀ (s : State) (g : Fin 8) (n : Nat) (d : Fin 23), d.val = 15 + g.val → s.up = true → s.dom d = .falling → n ∈ s.groupTiles g →
    ∃ t, exec (.domainOff d) s = .next t ∧ t.dom d ≠ .on ∧
      t.tile n = { zeroing := (s.tile n).zeroing, xsigs := (t.tile n).xsigs } ∧
      (∀ x ∈ (t.tile n).xsigs, x ∈ (s.tile n).xsigs) ∧
      ((∀ m ∈ s.groupTiles g, (s.tile m).ents = []) → (t.tile n).xsigs = (s.tile n).xsigs)) ∧
  (∀ (s : State) (g : Fin 8) (d : Fin 23), d.val = 15 + g.val → s.up = true → s.dom d = .waking →
    ∃ t, exec (.domainReady d) s = .next t ∧ t.tiles = s.tiles)
end

