-- ==== Sys2Proof/Laws/Bits.lean ====
section
/-! SUPPORT. Laws of masks: a bit read after a bit set, and the bits of a mask built from a property. -/
namespace Sys2Proof.Machine
theorem hasBit_step (x n m : Nat) : hasBit x (m + n) = hasBit (x / 2 ^ n) m := by
  unfold hasBit; rw [Nat.div_div_eq_div_mul, ← Nat.pow_add, Nat.add_comm n m]

theorem hasBit_low {x y n m : Nat} (h : m < n) (g : x % 2 ^ n = y % 2 ^ n) : hasBit x m = hasBit y m := by
  have e : ∀ z, hasBit (z % 2 ^ n) m = hasBit z m := by
    intro z; unfold hasBit
    obtain ⟨k, rfl⟩ : ∃ k, n = m + 1 + k := ⟨n - (m + 1), by omega⟩
    rw [show 2 ^ (m + 1 + k) = 2 ^ m * (2 * 2 ^ k) by ring, Nat.mod_mul_right_div_self, Nat.mod_mul_right_mod]
  rw [← e x, ← e y, g]

/-- A mask with one bit set reads that bit, and every other as before. -/
theorem hasBit_putBit (x n m : Nat) (v : Bool) : hasBit (putBit x n v) m = if m = n then v else hasBit x m := by
  have h2 : 0 < 2 ^ n := by positivity
  obtain ⟨a, c, hc, rfl⟩ : ∃ a c, c < 2 ^ n ∧ x = a * 2 ^ n + c := ⟨x / 2 ^ n, x % 2 ^ n, Nat.mod_lt _ h2, by rw [Nat.div_add_mod']⟩
  have d : ∀ b, (b * 2 ^ n + c) / 2 ^ n = b := by
    intro b; rw [Nat.mul_comm, Nat.mul_add_div h2, Nat.div_eq_of_lt hc]; omega
  have key : ∀ b, hasBit (b * 2 ^ n + c) n = (b % 2 == 1) := by intro b; unfold hasBit; rw [d]
  have low : ∀ b b', m < n → hasBit (b * 2 ^ n + c) m = hasBit (b' * 2 ^ n + c) m := by
    intro b b' h; apply hasBit_low h; simp [Nat.add_mod]
  have high : ∀ b b', b / 2 = b' / 2 → n < m → hasBit (b * 2 ^ n + c) m = hasBit (b' * 2 ^ n + c) m := by
    intro b b' h g
    obtain ⟨k, rfl⟩ : ∃ k, m = k + 1 + n := ⟨m - n - 1, by omega⟩
    rw [hasBit_step (b * _ + c), hasBit_step (b' * _ + c), d, d, hasBit_step b 1, hasBit_step b' 1, Nat.pow_one, h]
  have main : ∀ b, b / 2 = a / 2 → (b % 2 == 1) = v → hasBit (b * 2 ^ n + c) m = if m = n then v else hasBit (a * 2 ^ n + c) m := by
    intro b h g
    rcases Nat.lt_trichotomy m n with l | l | l
    · rw [if_neg (by omega), low b a l]
    · subst l; rw [if_pos rfl, key, g]
    · rw [if_neg (by omega), high b a h l]
  unfold putBit
  rw [key]
  by_cases o : a % 2 = 1
  · cases v
    · have := main (a - 1) (by omega) (by simp; omega)
      simp only [o]
      rw [Nat.sub_mul, Nat.one_mul] at this
      have p : 2 ^ n ≤ a * 2 ^ n := Nat.le_mul_of_pos_left _ (by omega)
      have q : a * 2 ^ n - 2 ^ n + c = a * 2 ^ n + c - 2 ^ n := by omega
      rw [q] at this
      simpa using this
    · have := main a rfl (by simp [o])
      simpa [o] using this
  · cases v
    · have := main a rfl (by simp [o])
      simpa [o] using this
    · have := main (a + 1) (by omega) (by simp; omega)
      have q : (a + 1) * 2 ^ n + c = a * 2 ^ n + c + 2 ^ n := by ring
      rw [q] at this
      simpa [o] using this

theorem putBit_lt {x n w : Nat} (v : Bool) (h : x < 2 ^ w) (g : n < w) : putBit x n v < 2 ^ w := by
  have e : 2 ^ (n + 1) ≤ 2 ^ w := Nat.pow_le_pow_right (by omega) (by omega)
  unfold putBit
  cases b : hasBit x n <;> cases v <;> simp only [Bool.false_eq_true, if_false, if_true]
  · exact h
  · obtain ⟨k, rfl⟩ : ∃ k, w = n + 1 + k := ⟨w - (n + 1), by omega⟩
    have h2 : 0 < 2 ^ n := by positivity
    unfold hasBit at b
    simp at b
    have hd := Nat.div_add_mod x (2 ^ n)
    have hm := Nat.mod_lt x h2
    have : x / 2 ^ n < 2 * 2 ^ k := by
      rw [Nat.div_lt_iff_lt_mul h2]; calc x < _ := h
        _ = _ := by ring
    have h3 : x / 2 ^ n + 1 < 2 * 2 ^ k := by omega
    calc x + 2 ^ n < 2 ^ n * (x / 2 ^ n) + 2 ^ n + 2 ^ n := by omega
      _ = 2 ^ n * (x / 2 ^ n + 1 + 1) := by ring
      _ ≤ 2 ^ n * (2 * 2 ^ k) := Nat.mul_le_mul_left _ (by omega)
      _ = _ := by ring
  · exact Nat.lt_of_le_of_lt (Nat.sub_le _ _) h
  · exact h

/-- A mask built from a property has the bits for which it holds. -/
theorem hasBit_maskOf (n : Nat) (p : Nat → Bool) (m : Nat) : hasBit (maskOf n p) m = (decide (m < n) && p m) := by
  have lt : ∀ n, maskOf n p < 2 ^ n := by
    intro n; induction n with
    | zero => simp [maskOf]
    | succ n ih =>
      unfold maskOf at *; rw [List.range_succ, List.foldl_append]; simp only [List.foldl]
      split <;> rw [Nat.pow_succ] <;> omega
  induction n with
  | zero => simp [maskOf, hasBit]
  | succ n ih =>
    have z : ∀ k, n ≤ k → hasBit (maskOf n p) k = false := by
      intro k h; unfold hasBit
      rw [Nat.div_eq_of_lt (lt_of_lt_of_le (lt n) (Nat.pow_le_pow_right (by omega) h))]; rfl
    have e : maskOf (n + 1) p = putBit (maskOf n p) n (p n) := by
      unfold putBit
      rw [z n (Nat.le_refl n)]
      unfold maskOf
      rw [List.range_succ, List.foldl_append]
      simp only [List.foldl, Bool.false_eq_true, if_false]
    rw [e, hasBit_putBit]
    split
    · next h => subst h; simp
    · next h =>
      rw [ih]; congr 1; simp; omega
end Sys2Proof.Machine
end

