-- ==== Sys2Proof/Laws/Mem.lean ====
section
/-! SUPPORT. Laws of byte memories: a read after a write, and the canonical form that every operation keeps. -/
namespace Sys2Proof.Machine

@[simp] theorem cellGet_drop_same (d : Byte) (a : Nat) (m : List Host.Cell) : cellGet d a (cellDrop a m) = d := by
  induction m with
  | nil => rfl
  | cons x t ih =>
    obtain ⟨b, v⟩ := x
    by_cases h : b = a
    · simpa [cellDrop, h] using ih
    · simpa [cellDrop, cellGet, h] using ih

theorem cellGet_drop_ne {a b : Nat} (h : b ≠ a) (d : Byte) (m : List Host.Cell) :
    cellGet d b (cellDrop a m) = cellGet d b m := by
  induction m with
  | nil => rfl
  | cons x t ih =>
    obtain ⟨c, v⟩ := x
    by_cases hc : c = a
    · subst hc
      simp [cellDrop, cellGet, ih, Ne.symm h]
    · simp [cellDrop, cellGet, hc, ih]

theorem cellGet_ins_same (d : Byte) (a : Nat) (v : Byte) (m : List Host.Cell) (h : ∀ x ∈ m, x.1 ≠ a) :
    cellGet d a (cellIns a v m) = v := by
  induction m with
  | nil => simp [cellIns, cellGet]
  | cons x t ih =>
    obtain ⟨b, w⟩ := x
    have hb : b ≠ a := h (b, w) (by simp)
    simp only [cellIns]
    split
    · simp [cellGet]
    · simp [cellGet, hb, ih (fun y hy => h y (List.mem_cons_of_mem _ hy))]

theorem cellGet_ins_ne {a b : Nat} (h : b ≠ a) (d v : Byte) (m : List Host.Cell) :
    cellGet d b (cellIns a v m) = cellGet d b m := by
  induction m with
  | nil => simp [cellIns, cellGet, Ne.symm h]
  | cons x t ih =>
    obtain ⟨c, w⟩ := x
    simp only [cellIns]
    split
    · simp [cellGet, Ne.symm h]
    · simp [cellGet, ih]

theorem cellDrop_sub (a : Nat) (m : List Host.Cell) : ∀ x ∈ cellDrop a m, x ∈ m := by
  induction m with
  | nil => simp [cellDrop]
  | cons y t ih =>
    obtain ⟨b, v⟩ := y
    intro x hx
    by_cases h : b = a
    · simp only [cellDrop, if_pos h] at hx; exact List.mem_cons_of_mem _ (ih x hx)
    · simp only [cellDrop, if_neg h, List.mem_cons] at hx
      rcases hx with rfl | hx
      · simp
      · exact List.mem_cons_of_mem _ (ih x hx)

theorem cellDrop_ne (a : Nat) (m : List Host.Cell) : ∀ x ∈ cellDrop a m, x.1 ≠ a := by
  induction m with
  | nil => simp [cellDrop]
  | cons y t ih =>
    obtain ⟨b, v⟩ := y
    intro x hx
    by_cases h : b = a
    · simp only [cellDrop, if_pos h] at hx; exact ih x hx
    · simp only [cellDrop, if_neg h, List.mem_cons] at hx
      rcases hx with rfl | hx
      · exact h
      · exact ih x hx

/-- The byte just written. -/
@[simp] theorem cellGet_put_same (d : Byte) (a : Nat) (v : Byte) (m : List Host.Cell) : cellGet d a (cellPut d a v m) = v := by
  unfold cellPut
  split
  · next h => simp [h]
  · exact cellGet_ins_same d a v _ (cellDrop_ne a m)

/-- Another byte. -/
theorem cellGet_put_ne {a b : Nat} (h : b ≠ a) (d v : Byte) (m : List Host.Cell) :
    cellGet d b (cellPut d a v m) = cellGet d b m := by
  unfold cellPut
  split
  · exact cellGet_drop_ne h d m
  · rw [cellGet_ins_ne h, cellGet_drop_ne h]

/-- A byte outside the bytes written. -/
theorem cellGet_memWrite_out (d : Byte) (bs : Bytes) (m : List Host.Cell) (a b : Nat) (h : b < a ∨ a + bs.length ≤ b) :
    cellGet d b (memWrite d m a bs) = cellGet d b m := by
  induction bs generalizing a m with
  | nil => rfl
  | cons v t ih =>
    simp only [List.length_cons] at h
    simp only [memWrite]
    rw [ih _ _ (by omega), cellGet_put_ne (by omega)]

/-- A byte among the bytes written. -/
theorem cellGet_memWrite_in (d : Byte) (bs : Bytes) (m : List Host.Cell) (a i : Nat) (h : i < bs.length) :
    cellGet d (a + i) (memWrite d m a bs) = bs[i] := by
  induction bs generalizing a m i with
  | nil => simp at h
  | cons v t ih =>
    simp only [memWrite]
    cases i with
    | zero =>
      rw [Nat.add_zero, cellGet_memWrite_out d t _ _ _ (by omega)]
      simp
    | succ i =>
      have : a + (i + 1) = a + 1 + i := by omega
      rw [this, ih _ _ _ (by simpa using h)]
      simp

/-! ### The canonical form -/

theorem cellsRise_cons (d : Byte) (a : Nat) (v : Byte) (m : List Host.Cell) :
    cellsRise d ((a, v) :: m) = true ↔ v ≠ d ∧ (∀ x ∈ m, a < x.1) ∧ cellsRise d m = true := by
  induction m generalizing a v with
  | nil => simp [cellsRise]
  | cons x t ih =>
    obtain ⟨b, w⟩ := x
    simp only [cellsRise, Bool.and_eq_true, bne_iff_ne, ne_eq, decide_eq_true_eq]
    constructor
    · rintro ⟨⟨h1, h2⟩, h3⟩
      refine ⟨h1, ?_, h3⟩
      intro y hy
      rcases List.mem_cons.mp hy with rfl | hy
      · exact h2
      · exact Nat.lt_trans h2 (((ih b w).mp h3).2.1 y hy)
    · rintro ⟨h1, h2, h3⟩
      exact ⟨⟨h1, h2 (b, w) (by simp)⟩, h3⟩

theorem cellDrop_rise (d : Byte) (a : Nat) {m : List Host.Cell} (h : cellsRise d m = true) :
    cellsRise d (cellDrop a m) = true := by
  induction m with
  | nil => rfl
  | cons y t ih =>
    obtain ⟨b, v⟩ := y
    obtain ⟨h1, h2, h3⟩ := (cellsRise_cons d b v t).mp h
    by_cases hb : b = a
    · simpa only [cellDrop, if_pos hb] using ih h3
    · simp only [cellDrop, if_neg hb]
      exact (cellsRise_cons _ _ _ _).mpr ⟨h1, fun x hx => h2 x (cellDrop_sub a t x hx), ih h3⟩

theorem cellIns_mem (a : Nat) (v : Byte) (m : List Host.Cell) : ∀ x ∈ cellIns a v m, x = (a, v) ∨ x ∈ m := by
  induction m with
  | nil => simp [cellIns]
  | cons y t ih =>
    obtain ⟨b, w⟩ := y
    intro x hx
    simp only [cellIns] at hx
    split at hx
    · simpa using hx
    · rcases List.mem_cons.mp hx with rfl | hx
      · exact .inr (by simp)
      · exact (ih x hx).imp id (List.mem_cons_of_mem _)

theorem cellIns_rise {d v : Byte} (hv : v ≠ d) (a : Nat) {m : List Host.Cell} (h : cellsRise d m = true)
    (ha : ∀ x ∈ m, x.1 ≠ a) : cellsRise d (cellIns a v m) = true := by
  induction m with
  | nil => simp [cellIns, cellsRise, hv]
  | cons y t ih =>
    obtain ⟨b, w⟩ := y
    obtain ⟨h1, h2, h3⟩ := (cellsRise_cons d b w t).mp h
    simp only [cellIns]
    split
    · next hlt =>
      refine (cellsRise_cons _ _ _ _).mpr ⟨hv, ?_, h⟩
      intro x hx
      rcases List.mem_cons.mp hx with rfl | hx
      · exact hlt
      · exact Nat.lt_trans hlt (h2 x hx)
    · next hlt =>
      have hba : b < a := by have := ha (b, w) (by simp); simp at this; omega
      refine (cellsRise_cons _ _ _ _).mpr ⟨h1, ?_, ih h3 (fun x hx => ha x (List.mem_cons_of_mem _ hx))⟩
      intro x hx
      rcases cellIns_mem a v t x hx with rfl | hx
      · exact hba
      · exact h2 x hx

/-- A write of one byte keeps the canonical form. -/
theorem cellPut_rise (d : Byte) (a : Nat) (v : Byte) {m : List Host.Cell} (h : cellsRise d m = true) :
    cellsRise d (cellPut d a v m) = true := by
  unfold cellPut
  split
  · exact cellDrop_rise d a h
  · next hv => exact cellIns_rise hv a (cellDrop_rise d a h) (cellDrop_ne a m)

/-- A write of several bytes keeps the canonical form. -/
theorem memWrite_rise (d : Byte) (bs : Bytes) {m : List Host.Cell} (a : Nat) (h : cellsRise d m = true) :
    cellsRise d (memWrite d m a bs) = true := by
  induction bs generalizing a m with
  | nil => exact h
  | cons v t ih => exact ih _ (cellPut_rise d a v h)

theorem filter_rise (d : Byte) (p : Host.Cell → Bool) {m : List Host.Cell} (h : cellsRise d m = true) :
    cellsRise d (m.filter p) = true := by
  induction m with
  | nil => rfl
  | cons y t ih =>
    obtain ⟨b, v⟩ := y
    obtain ⟨h1, h2, h3⟩ := (cellsRise_cons d b v t).mp h
    by_cases hp : p (b, v) = true
    · rw [List.filter_cons_of_pos hp]
      exact (cellsRise_cons _ _ _ _).mpr ⟨h1, fun x hx => h2 x (List.mem_filter.mp hx).1, ih h3⟩
    · rw [List.filter_cons_of_neg hp]
      exact ih h3

/-- Clearing a range keeps the canonical form. -/
theorem memClear_rise (d : Byte) (lo n : Nat) {m : List Host.Cell} (h : cellsRise d m = true) :
    cellsRise d (memClear m lo n) = true := filter_rise d _ h

/-- A cleared address reads as unlisted. -/
theorem cellGet_memClear_in (d : Byte) (lo n a : Nat) (m : List Host.Cell) (h : lo ≤ a ∧ a < lo + n) :
    cellGet d a (memClear m lo n) = d := by
  unfold memClear
  induction m with
  | nil => rfl
  | cons y t ih =>
    rw [List.filter_cons]
    split
    · next hp =>
      have : y.1 ≠ a := by simp at hp; omega
      simp [cellGet, this, ih]
    · exact ih

/-- An address outside the range reads as before. -/
theorem cellGet_memClear_out (d : Byte) (lo n a : Nat) (m : List Host.Cell) (h : a < lo ∨ lo + n ≤ a) :
    cellGet d a (memClear m lo n) = cellGet d a m := by
  unfold memClear
  induction m with
  | nil => rfl
  | cons y t ih =>
    rw [List.filter_cons]
    split
    · simp [cellGet, ih]
    · next hp =>
      have : y.1 ≠ a := by simp at hp; omega
      simp [cellGet, this, ih]

end Sys2Proof.Machine
end

