-- ==== Sys2Proof/Laws/Tab.lean ====
section
/-! SUPPORT. Laws of sparse tables: a read after a write, and the order of the keys. -/
namespace Sys2Proof.Machine

@[simp] theorem findKey_dropKey_same {α : Type} (k : Key) (l : List (Key × α)) : findKey k (dropKey k l) = none := by
  induction l with
  | nil => rfl
  | cons x t ih =>
    obtain ⟨j, v⟩ := x
    by_cases h : j = k
    · simpa [dropKey, h] using ih
    · simpa [dropKey, findKey, h] using ih

theorem findKey_dropKey_ne {α : Type} {k k' : Key} (h : k' ≠ k) (l : List (Key × α)) :
    findKey k' (dropKey k l) = findKey k' l := by
  induction l with
  | nil => rfl
  | cons x t ih =>
    obtain ⟨j, v⟩ := x
    by_cases hj : j = k
    · subst hj
      simp [dropKey, findKey, ih, Ne.symm h]
    · simp only [dropKey, if_neg hj, findKey, ih]

theorem findKey_insKey_same {α : Type} (k : Key) (v : α) (l : List (Key × α)) (h : findKey k l = none) :
    findKey k (insKey k v l) = some v := by
  induction l with
  | nil => simp [insKey, findKey]
  | cons x t ih =>
    obtain ⟨j, w⟩ := x
    by_cases hj : j = k
    · simp [findKey, hj] at h
    · simp only [findKey, if_neg hj] at h
      simp only [insKey]
      split
      · simp [findKey]
      · simp [findKey, hj, ih h]

theorem findKey_insKey_ne {α : Type} {k k' : Key} (h : k' ≠ k) (v : α) (l : List (Key × α)) :
    findKey k' (insKey k v l) = findKey k' l := by
  induction l with
  | nil => simp [insKey, findKey, Ne.symm h]
  | cons x t ih =>
    obtain ⟨j, w⟩ := x
    simp only [insKey]
    split
    · simp [findKey, Ne.symm h]
    · simp [findKey, ih]

/-- A read of the key just written. -/
@[simp] theorem Tab.get_set_same {α : Type} [DecidableEq α] (t : Tab α) (d v : α) (k : Key) :
    (t.set d k v).get d k = v := by
  unfold Tab.set Tab.get
  split
  · next h => simp [h]
  · simp [findKey_insKey_same]

theorem Tab.findKey_set_ne {α : Type} [DecidableEq α] {k k' : Key} (h : k' ≠ k) (t : Tab α) (d v : α) :
    findKey k' (t.set d k v).cells = findKey k' t.cells := by
  unfold Tab.set
  split
  · exact findKey_dropKey_ne h _
  · rw [findKey_insKey_ne h, findKey_dropKey_ne h]

/-- A read of another key. -/
theorem Tab.get_set_ne {α : Type} [DecidableEq α] {k k' : Key} (h : k' ≠ k) (t : Tab α) (d d' v : α) :
    (t.set d k v).get d' k' = t.get d' k' := by
  unfold Tab.get; rw [Tab.findKey_set_ne h]

/-! ### The order of the keys -/

theorem Key.lt_trans {x y z : Key} (h : x.lt y = true) (g : y.lt z = true) : x.lt z = true := by
  simp only [Key.lt, Bool.or_eq_true, Bool.and_eq_true, decide_eq_true_eq, beq_iff_eq] at *
  omega

theorem Key.lt_total {x y : Key} (h : x.lt y = false) (g : x ≠ y) : y.lt x = true := by
  obtain ⟨a, b, c⟩ := x
  obtain ⟨a', b', c'⟩ := y
  have e : ¬ (a = a' ∧ b = b' ∧ c = c') := fun ⟨h1, h2, h3⟩ => g (by rw [h1, h2, h3])
  have h' : ¬ (Key.lt ⟨a, b, c⟩ ⟨a', b', c'⟩ = true) := by rw [h]; decide
  simp only [Key.lt, Bool.or_eq_true, Bool.and_eq_true, decide_eq_true_eq, beq_iff_eq] at *
  omega

/-- Every key of a list lies above `k`. -/
def keysAbove {α : Type} (k : Key) (l : List (Key × α)) : Prop := ∀ x ∈ l, k.lt x.1 = true

theorem keysRise_cons {α : Type} (j : Key) (v : α) (l : List (Key × α)) :
    keysRise ((j, v) :: l) = true ↔ keysAbove j l ∧ keysRise l = true := by
  induction l generalizing j v with
  | nil => simp [keysRise, keysAbove]
  | cons x t ih =>
    obtain ⟨k, w⟩ := x
    simp only [keysRise, Bool.and_eq_true]
    constructor
    · rintro ⟨h1, h2⟩
      refine ⟨?_, h2⟩
      intro y hy
      rcases List.mem_cons.mp hy with rfl | hy
      · exact h1
      · exact Key.lt_trans h1 (((ih k w).mp h2).1 y hy)
    · rintro ⟨h1, h2⟩
      exact ⟨h1 (k, w) (by simp), h2⟩

theorem dropKey_sub {α : Type} (k : Key) (l : List (Key × α)) : ∀ x ∈ dropKey k l, x ∈ l := by
  induction l with
  | nil => simp [dropKey]
  | cons y t ih =>
    obtain ⟨j, v⟩ := y
    intro x hx
    by_cases h : j = k
    · simp only [dropKey, if_pos h] at hx; exact List.mem_cons_of_mem _ (ih x hx)
    · simp only [dropKey, if_neg h, List.mem_cons] at hx
      rcases hx with rfl | hx
      · simp
      · exact List.mem_cons_of_mem _ (ih x hx)

theorem dropKey_ne {α : Type} (k : Key) (l : List (Key × α)) : ∀ x ∈ dropKey k l, x.1 ≠ k := by
  induction l with
  | nil => simp [dropKey]
  | cons y t ih =>
    obtain ⟨j, v⟩ := y
    intro x hx
    by_cases h : j = k
    · simp only [dropKey, if_pos h] at hx; exact ih x hx
    · simp only [dropKey, if_neg h, List.mem_cons] at hx
      rcases hx with rfl | hx
      · exact h
      · exact ih x hx

theorem dropKey_rise {α : Type} (k : Key) {l : List (Key × α)} (h : keysRise l = true) : keysRise (dropKey k l) = true := by
  induction l with
  | nil => rfl
  | cons y t ih =>
    obtain ⟨j, v⟩ := y
    obtain ⟨h1, h2⟩ := (keysRise_cons j v t).mp h
    by_cases hj : j = k
    · simpa only [dropKey, if_pos hj] using ih h2
    · simp only [dropKey, if_neg hj]
      exact (keysRise_cons _ _ _).mpr ⟨fun x hx => h1 x (dropKey_sub k t x hx), ih h2⟩

theorem insKey_mem {α : Type} (k : Key) (v : α) (l : List (Key × α)) : ∀ x ∈ insKey k v l, x = (k, v) ∨ x ∈ l := by
  induction l with
  | nil => simp [insKey]
  | cons y t ih =>
    obtain ⟨j, w⟩ := y
    intro x hx
    simp only [insKey] at hx
    split at hx
    · simpa using hx
    · rcases List.mem_cons.mp hx with rfl | hx
      · exact .inr (by simp)
      · exact (ih x hx).imp id (List.mem_cons_of_mem _)

theorem insKey_rise {α : Type} (k : Key) (v : α) {l : List (Key × α)} (h : keysRise l = true) (hk : ∀ x ∈ l, x.1 ≠ k) :
    keysRise (insKey k v l) = true := by
  induction l with
  | nil => rfl
  | cons y t ih =>
    obtain ⟨j, w⟩ := y
    obtain ⟨h1, h2⟩ := (keysRise_cons j w t).mp h
    simp only [insKey]
    split
    · next hlt =>
      refine (keysRise_cons _ _ _).mpr ⟨?_, h⟩
      intro x hx
      rcases List.mem_cons.mp hx with rfl | hx
      · exact hlt
      · exact Key.lt_trans hlt (h1 x hx)
    · next hlt =>
      have hjk : j.lt k = true := Key.lt_total (by simpa using hlt) (fun e => hk (j, w) (by simp) e.symm)
      refine (keysRise_cons _ _ _).mpr ⟨?_, ih h2 (fun x hx => hk x (List.mem_cons_of_mem _ hx))⟩
      intro x hx
      rcases insKey_mem k v t x hx with rfl | hx
      · exact hjk
      · exact h1 x hx

/-- A write keeps the order of the keys. -/
theorem Tab.set_rise {α : Type} [DecidableEq α] (t : Tab α) (d v : α) (k : Key) (h : keysRise t.cells = true) :
    keysRise (t.set d k v).cells = true := by
  unfold Tab.set
  split
  · exact dropKey_rise k h
  · exact insKey_rise k v (dropKey_rise k h) (dropKey_ne k _)

end Sys2Proof.Machine
end

