-- ==== Sys2Proof/Laws/Keeps.lean ====
section
/-! SUPPORT. The frame relation: `Keeps M s t` says that on the way from `s` to `t` the waiting commands stayed, the
canonical forms stayed, and every part of the state whose bit in the mask `M` is 0 stayed as it was.  Bits 0 to 25 stand
for the parts of State in the order of its declaration; bit 32 + n for the register field whose key is n; bit 31 for every
register field at once; bit 26 for the mailbox (State.postbox), bit 27 for the recorded pages, bit 28 for OPTIME, bit 29 for the lanes' lines.  The fused
tiles always stay.  Laws/Keeps*.lean give one lemma per function of the machine. -/
namespace Sys2Proof.Machine
set_option Elab.async false

/-- The frame relation. -/
structure Keeps (M : Nat) (s t : State) : Prop where
  pending : t.pending = s.pending
  fused : t.fused = s.fused
  canon : s.canonical → t.canonical
  regs : M.testBit 31 = false → ∀ k : Key, M.testBit (32 + k.a) = false → findKey k t.regs.cells = findKey k s.regs.cells
  pow : M.testBit 0 = false → t.pow = s.pow
  qual : M.testBit 1 = false → t.qual = s.qual
  flt : M.testBit 2 = false → t.flt = s.flt
  shadows : M.testBit 3 = false → t.shadows = s.shadows
  rcd : M.testBit 4 = false → t.rcd = s.rcd
  tim : M.testBit 5 = false → t.tim = s.tim
  mgt : M.testBit 6 = false → t.mgt = s.mgt
  lease : M.testBit 7 = false → t.lease = s.lease
  ports : M.testBit 8 = false → t.ports = s.ports
  rings : M.testBit 9 = false → t.rings = s.rings
  engs : M.testBit 10 = false → t.engs = s.engs
  lsc : M.testBit 11 = false → t.lsc = s.lsc
  tiles : M.testBit 12 = false → t.tiles = s.tiles
  parts : M.testBit 13 = false → t.parts = s.parts
  pages : M.testBit 14 = false → t.pages = s.pages
  vmem : M.testBit 15 = false → t.vmem = s.vmem
  idle : M.testBit 16 = false → t.idle = s.idle
  rot : M.testBit 17 = false → t.rot = s.rot
  gov : M.testBit 18 = false → t.gov = s.gov
  herd : M.testBit 19 = false → t.herd = s.herd
  pack : M.testBit 20 = false → t.pack = s.pack
  est : M.testBit 21 = false → t.est = s.est
  ctr : M.testBit 22 = false → t.ctr = s.ctr
  field : M.testBit 23 = false → t.field = s.field
  rnd : M.testBit 24 = false → t.rnd = s.rnd
  freeIx : M.testBit 25 = false → t.freeIx = s.freeIx
  mail : M.testBit 26 = false → t.postbox = s.postbox
  stored : M.testBit 27 = false → t.rcd.pages = s.rcd.pages
  clock : M.testBit 28 = false → t.tim.optime = s.tim.optime
  lines : M.testBit 29 = false → t.lines = s.lines

theorem Keeps.refl (M : Nat) (s : State) : Keeps M s s where
  pending := rfl
  fused := rfl
  canon h := h
  regs _ _ _ := rfl
  pow _ := rfl
  qual _ := rfl
  flt _ := rfl
  shadows _ := rfl
  rcd _ := rfl
  tim _ := rfl
  mgt _ := rfl
  lease _ := rfl
  ports _ := rfl
  rings _ := rfl
  engs _ := rfl
  lsc _ := rfl
  tiles _ := rfl
  parts _ := rfl
  pages _ := rfl
  vmem _ := rfl
  idle _ := rfl
  rot _ := rfl
  gov _ := rfl
  herd _ := rfl
  pack _ := rfl
  est _ := rfl
  ctr _ := rfl
  field _ := rfl
  rnd _ := rfl
  freeIx _ := rfl
  mail _ := rfl
  stored _ := rfl
  clock _ := rfl
  lines _ := rfl

theorem Keeps.trans {M : Nat} {s t u : State} (h : Keeps M s t) (g : Keeps M t u) : Keeps M s u where
  pending := g.pending.trans h.pending
  fused := g.fused.trans h.fused
  canon c := g.canon (h.canon c)
  regs a k b := (g.regs a k b).trans (h.regs a k b)
  pow a := (g.pow a).trans (h.pow a)
  qual a := (g.qual a).trans (h.qual a)
  flt a := (g.flt a).trans (h.flt a)
  shadows a := (g.shadows a).trans (h.shadows a)
  rcd a := (g.rcd a).trans (h.rcd a)
  tim a := (g.tim a).trans (h.tim a)
  mgt a := (g.mgt a).trans (h.mgt a)
  lease a := (g.lease a).trans (h.lease a)
  ports a := (g.ports a).trans (h.ports a)
  rings a := (g.rings a).trans (h.rings a)
  engs a := (g.engs a).trans (h.engs a)
  lsc a := (g.lsc a).trans (h.lsc a)
  tiles a := (g.tiles a).trans (h.tiles a)
  parts a := (g.parts a).trans (h.parts a)
  pages a := (g.pages a).trans (h.pages a)
  vmem a := (g.vmem a).trans (h.vmem a)
  idle a := (g.idle a).trans (h.idle a)
  rot a := (g.rot a).trans (h.rot a)
  gov a := (g.gov a).trans (h.gov a)
  herd a := (g.herd a).trans (h.herd a)
  pack a := (g.pack a).trans (h.pack a)
  est a := (g.est a).trans (h.est a)
  ctr a := (g.ctr a).trans (h.ctr a)
  field a := (g.field a).trans (h.field a)
  rnd a := (g.rnd a).trans (h.rnd a)
  freeIx a := (g.freeIx a).trans (h.freeIx a)
  mail a := (g.mail a).trans (h.mail a)
  stored a := (g.stored a).trans (h.stored a)
  clock a := (g.clock a).trans (h.clock a)
  lines a := (g.lines a).trans (h.lines a)

theorem offBit {b : Bool} {p : Prop} (e : b = true) (a : b = false) : p := Bool.noConfusion (e.symm.trans a)

theorem testBit_sub {m M : Nat} (h : m ||| M = M) {i : Nat} (g : M.testBit i = false) : m.testBit i = false := by
  rw [← h, Nat.testBit_or, Bool.or_eq_false_iff] at g; exact g.1

theorem sub_trans {a b M : Nat} (h : a ||| b = b) (m : b ||| M = M) : a ||| M = M := by
  rw [← m, ← Nat.or_assoc, h]

theorem Keeps.mono {m M : Nat} {s t : State} (h : Keeps m s t) (g : m ||| M = M) : Keeps M s t where
  pending := h.pending
  fused := h.fused
  canon := h.canon
  regs a k b := h.regs (testBit_sub g a) k (testBit_sub g b)
  pow a := h.pow (testBit_sub g a)
  qual a := h.qual (testBit_sub g a)
  flt a := h.flt (testBit_sub g a)
  shadows a := h.shadows (testBit_sub g a)
  rcd a := h.rcd (testBit_sub g a)
  tim a := h.tim (testBit_sub g a)
  mgt a := h.mgt (testBit_sub g a)
  lease a := h.lease (testBit_sub g a)
  ports a := h.ports (testBit_sub g a)
  rings a := h.rings (testBit_sub g a)
  engs a := h.engs (testBit_sub g a)
  lsc a := h.lsc (testBit_sub g a)
  tiles a := h.tiles (testBit_sub g a)
  parts a := h.parts (testBit_sub g a)
  pages a := h.pages (testBit_sub g a)
  vmem a := h.vmem (testBit_sub g a)
  idle a := h.idle (testBit_sub g a)
  rot a := h.rot (testBit_sub g a)
  gov a := h.gov (testBit_sub g a)
  herd a := h.herd (testBit_sub g a)
  pack a := h.pack (testBit_sub g a)
  est a := h.est (testBit_sub g a)
  ctr a := h.ctr (testBit_sub g a)
  field a := h.field (testBit_sub g a)
  rnd a := h.rnd (testBit_sub g a)
  freeIx a := h.freeIx (testBit_sub g a)
  mail a := h.mail (testBit_sub g a)
  stored a := h.stored (testBit_sub g a)
  clock a := h.clock (testBit_sub g a)
  lines a := h.lines (testBit_sub g a)

/-- One more function is applied. -/
theorem Keeps.step {m M : Nat} {s t u : State} (h : Keeps m t u) (g : m ||| M = M) (k : Keeps M s t) : Keeps M s u :=
  k.trans (h.mono g)

theorem Keeps.ite {M : Nat} {s t u : State} {c : Prop} [Decidable c] (h : c → Keeps M s t) (g : ¬ c → Keeps M s u) :
    Keeps M s (if c then t else u) := by
  split
  · next x => exact h x
  · next x => exact g x

theorem Keeps.foldl {α : Type} {M : Nat} {s0 s : State} {f : State → α → State} (l : List α) (h : Keeps M s0 s)
    (g : ∀ t a, Keeps M s0 t → Keeps M s0 (f t a)) : Keeps M s0 (l.foldl f s) := by
  induction l generalizing s with
  | nil => exact h
  | cons a l ih => exact ih (g _ _ h)

theorem Keeps.foldlFst {α β : Type} {M : Nat} {s0 : State} {f : State × β → α → State × β} (l : List α) {p : State × β}
    (h : Keeps M s0 p.1) (g : ∀ t a, Keeps M s0 t.1 → Keeps M s0 (f t a).1) : Keeps M s0 (l.foldl f p).1 := by
  induction l generalizing p with
  | nil => exact h
  | cons a l ih => exact ih (g _ _ h)

theorem Keeps.foldlSnd {α β : Type} {M : Nat} {s0 : State} {f : β × State → α → β × State} (l : List α) {p : β × State}
    (h : Keeps M s0 p.2) (g : ∀ t a, Keeps M s0 t.2 → Keeps M s0 (f t a).2) : Keeps M s0 (l.foldl f p).2 := by
  induction l generalizing p with
  | nil => exact h
  | cons a l ih => exact ih (g _ _ h)

theorem Keeps.fstOf {β : Type} {M : Nat} {s0 t : State} {p : State × β} {b : β} (e : p = (t, b)) (h : Keeps M s0 p.1) :
    Keeps M s0 t := by rw [e] at h; exact h

theorem Keeps.sndOf {β : Type} {M : Nat} {s0 t : State} {p : β × State} {b : β} (e : p = (b, t)) (h : Keeps M s0 p.2) :
    Keeps M s0 t := by rw [e] at h; exact h

theorem Keeps.iteFst {β : Type} {M : Nat} {s : State} {t u : State × β} {c : Prop} [Decidable c]
    (h : c → Keeps M s t.1) (g : ¬ c → Keeps M s u.1) : Keeps M s (if c then t else u).1 := by
  split
  · next x => exact h x
  · next x => exact g x

theorem Keeps.iteSnd {β : Type} {M : Nat} {s : State} {t u : β × State} {c : Prop} [Decidable c]
    (h : c → Keeps M s t.2) (g : ¬ c → Keeps M s u.2) : Keeps M s (if c then t else u).2 := by
  split
  · next x => exact h x
  · next x => exact g x

/-! ### Functions that may answer no state -/

/-- The frame of a function that answers a state or nothing. -/
structure KeepsO (M : Nat) (s : State) (o : Option State) : Prop where
  of : ∀ t, o = some t → Keeps M s t

theorem KeepsO.some {M : Nat} {s t : State} (h : Keeps M s t) : KeepsO M s (some t) := ⟨fun _ e => by cases e; exact h⟩

theorem KeepsO.none {M : Nat} {s : State} : KeepsO M s none := ⟨fun _ e => by cases e⟩

theorem KeepsO.ite {M : Nat} {s : State} {t u : Option State} {c : Prop} [Decidable c] (h : c → KeepsO M s t)
    (g : ¬ c → KeepsO M s u) : KeepsO M s (if c then t else u) := by
  split
  · next x => exact h x
  · next x => exact g x

theorem KeepsO.step {m M : Nat} {s t : State} {o : Option State} (h : KeepsO m t o) (g : m ||| M = M) (k : Keeps M s t) :
    KeepsO M s o := ⟨fun u e => k.trans ((h.of u e).mono g)⟩

theorem KeepsO.get {M : Nat} {s t : State} {o : Option State} (e : o = .some t) (h : KeepsO M s o) : Keeps M s t := h.of t e

/-- The frame of a meaning: of the next state, where there is one. -/
structure KeepsR (M : Nat) (s : State) (o : Host.Outcome State Fault Refusal) : Prop where
  of : ∀ t, o = .next t → Keeps M s t

theorem KeepsR.next {M : Nat} {s t : State} (h : Keeps M s t) : KeepsR M s (.next t) := ⟨fun _ e => by cases e; exact h⟩

theorem KeepsR.refused {M : Nat} {s : State} {r : Refusal} : KeepsR M s (.refused r) := ⟨fun _ e => by cases e⟩

theorem KeepsR.ite {M : Nat} {s : State} {t u : Host.Outcome State Fault Refusal} {c : Prop} [Decidable c]
    (h : c → KeepsR M s t) (g : ¬ c → KeepsR M s u) : KeepsR M s (if c then t else u) := by
  split
  · next x => exact h x
  · next x => exact g x

theorem KeepsR.step {m M : Nat} {s t : State} {o : Host.Outcome State Fault Refusal} (h : KeepsR m t o) (g : m ||| M = M)
    (k : Keeps M s t) : KeepsR M s o := ⟨fun u e => k.trans ((h.of u e).mono g)⟩

/-! ### One part replaced -/

theorem memWrite_wf {d : Byte} {m : List Host.Cell} {a : Nat} {bs : Bytes} (h : Memory.wf d m = true) :
    Memory.wf d (memWrite d m a bs) = true := memWrite_rise d bs a h

theorem memClear_wf {d : Byte} {m : List Host.Cell} {lo n : Nat} (h : Memory.wf d m = true) :
    Memory.wf d (memClear m lo n) = true := memClear_rise d lo n h

theorem Keeps.setPow {M : Nat} {s0 s : State} (v) (m : M.testBit 0 = true) (h : Keeps M s0 s) :
    Keeps M s0 { s with pow := v } :=
  h.trans ⟨rfl, rfl, fun a => ⟨a.regs, a.pages, a.vat, a.tiles⟩, fun _ _ _ => rfl,
    fun a => absurd m (by rw [a]; decide), fun _ => rfl, fun _ => rfl, fun _ => rfl, fun _ => rfl, fun _ => rfl, fun _ => rfl, fun _ => rfl, fun _ => rfl, fun _ => rfl, fun _ => rfl, fun _ => rfl, fun _ => rfl, fun _ => rfl, fun _ => rfl, fun _ => rfl, fun _ => rfl, fun _ => rfl, fun _ => rfl, fun _ => rfl, fun _ => rfl, fun _ => rfl, fun _ => rfl, fun _ => rfl, fun _ => rfl, fun _ => rfl, fun _ => rfl, fun _ => rfl, fun _ => rfl, fun _ => rfl⟩

theorem Keeps.setQual {M : Nat} {s0 s : State} (v) (m : M.testBit 1 = true) (h : Keeps M s0 s) :
    Keeps M s0 { s with qual := v } :=
  h.trans ⟨rfl, rfl, fun a => ⟨a.regs, a.pages, a.vat, a.tiles⟩, fun _ _ _ => rfl,
    fun _ => rfl, fun a => absurd m (by rw [a]; decide), fun _ => rfl, fun _ => rfl, fun _ => rfl, fun _ => rfl, fun _ => rfl, fun _ => rfl, fun _ => rfl, fun _ => rfl, fun _ => rfl, fun _ => rfl, fun _ => rfl, fun _ => rfl, fun _ => rfl, fun _ => rfl, fun _ => rfl, fun _ => rfl, fun _ => rfl, fun _ => rfl, fun _ => rfl, fun _ => rfl, fun _ => rfl, fun _ => rfl, fun _ => rfl, fun _ => rfl, fun _ => rfl, fun _ => rfl, fun _ => rfl, fun _ => rfl⟩

theorem Keeps.setFlt {M : Nat} {s0 s : State} (v) (m : M.testBit 2 = true) (h : Keeps M s0 s) :
    Keeps M s0 { s with flt := v } :=
  h.trans ⟨rfl, rfl, fun a => ⟨a.regs, a.pages, a.vat, a.tiles⟩, fun _ _ _ => rfl,
    fun _ => rfl, fun _ => rfl, fun a => absurd m (by rw [a]; decide), fun _ => rfl, fun _ => rfl, fun _ => rfl, fun _ => rfl, fun _ => rfl, fun _ => rfl, fun _ => rfl, fun _ => rfl, fun _ => rfl, fun _ => rfl, fun _ => rfl, fun _ => rfl, fun _ => rfl, fun _ => rfl, fun _ => rfl, fun _ => rfl, fun _ => rfl, fun _ => rfl, fun _ => rfl, fun _ => rfl, fun _ => rfl, fun _ => rfl, fun _ => rfl, fun _ => rfl, fun _ => rfl, fun _ => rfl, fun _ => rfl⟩

theorem Keeps.setShadows {M : Nat} {s0 s : State} (v) (m : M.testBit 3 = true) (h : Keeps M s0 s) :
    Keeps M s0 { s with shadows := v } :=
  h.trans ⟨rfl, rfl, fun a => ⟨a.regs, a.pages, a.vat, a.tiles⟩, fun _ _ _ => rfl,
    fun _ => rfl, fun _ => rfl, fun _ => rfl, fun a => absurd m (by rw [a]; decide), fun _ => rfl, fun _ => rfl, fun _ => rfl, fun _ => rfl, fun _ => rfl, fun _ => rfl, fun _ => rfl, fun _ => rfl, fun _ => rfl, fun _ => rfl, fun _ => rfl, fun _ => rfl, fun _ => rfl, fun _ => rfl, fun _ => rfl, fun _ => rfl, fun _ => rfl, fun _ => rfl, fun _ => rfl, fun _ => rfl, fun _ => rfl, fun _ => rfl, fun _ => rfl, fun _ => rfl, fun _ => rfl, fun _ => rfl⟩

theorem Keeps.setRcd {M : Nat} {s0 s : State} (v) (m : M.testBit 4 = true) (c : Memory.wf 0xFF s.rcd.pages = true → Memory.wf 0xFF v.pages = true) (h : Keeps M s0 s)
    (b : M.testBit 27 = false → v.pages = s.rcd.pages := by first | exact fun _ => rfl | exact offBit rfl) :
    Keeps M s0 { s with rcd := v } :=
  h.trans ⟨rfl, rfl, fun a => ⟨a.regs, c a.pages, a.vat, a.tiles⟩, fun _ _ _ => rfl,
    fun _ => rfl, fun _ => rfl, fun _ => rfl, fun _ => rfl, fun a => absurd m (by rw [a]; decide), fun _ => rfl, fun _ => rfl, fun _ => rfl, fun _ => rfl, fun _ => rfl, fun _ => rfl, fun _ => rfl, fun _ => rfl, fun _ => rfl, fun _ => rfl, fun _ => rfl, fun _ => rfl, fun _ => rfl, fun _ => rfl, fun _ => rfl, fun _ => rfl, fun _ => rfl, fun _ => rfl, fun _ => rfl, fun _ => rfl, fun _ => rfl, fun _ => rfl, b, fun _ => rfl, fun _ => rfl⟩

theorem Keeps.setTim {M : Nat} {s0 s : State} (v) (m : M.testBit 5 = true) (h : Keeps M s0 s)
    (b : M.testBit 28 = false → v.optime = s.tim.optime := by first | exact fun _ => rfl | exact offBit rfl) :
    Keeps M s0 { s with tim := v } :=
  h.trans ⟨rfl, rfl, fun a => ⟨a.regs, a.pages, a.vat, a.tiles⟩, fun _ _ _ => rfl,
    fun _ => rfl, fun _ => rfl, fun _ => rfl, fun _ => rfl, fun _ => rfl, fun a => absurd m (by rw [a]; decide), fun _ => rfl, fun _ => rfl, fun _ => rfl, fun _ => rfl, fun _ => rfl, fun _ => rfl, fun _ => rfl, fun _ => rfl, fun _ => rfl, fun _ => rfl, fun _ => rfl, fun _ => rfl, fun _ => rfl, fun _ => rfl, fun _ => rfl, fun _ => rfl, fun _ => rfl, fun _ => rfl, fun _ => rfl, fun _ => rfl, fun _ => rfl, fun _ => rfl, b, fun _ => rfl⟩

theorem Keeps.setMgt {M : Nat} {s0 s : State} (v) (m : M.testBit 6 = true) (h : Keeps M s0 s)
    (b : M.testBit 26 = false → { v with hosts := {}, notes := [] } = s.postbox := by first | exact fun _ => rfl | exact offBit rfl) :
    Keeps M s0 { s with mgt := v } :=
  h.trans ⟨rfl, rfl, fun a => ⟨a.regs, a.pages, a.vat, a.tiles⟩, fun _ _ _ => rfl,
    fun _ => rfl, fun _ => rfl, fun _ => rfl, fun _ => rfl, fun _ => rfl, fun _ => rfl, fun a => absurd m (by rw [a]; decide), fun _ => rfl, fun _ => rfl, fun _ => rfl, fun _ => rfl, fun _ => rfl, fun _ => rfl, fun _ => rfl, fun _ => rfl, fun _ => rfl, fun _ => rfl, fun _ => rfl, fun _ => rfl, fun _ => rfl, fun _ => rfl, fun _ => rfl, fun _ => rfl, fun _ => rfl, fun _ => rfl, fun _ => rfl, b, fun _ => rfl, fun _ => rfl, fun _ => rfl⟩

theorem Keeps.setLease {M : Nat} {s0 s : State} (v) (m : M.testBit 7 = true) (h : Keeps M s0 s) :
    Keeps M s0 { s with lease := v } :=
  h.trans ⟨rfl, rfl, fun a => ⟨a.regs, a.pages, a.vat, a.tiles⟩, fun _ _ _ => rfl,
    fun _ => rfl, fun _ => rfl, fun _ => rfl, fun _ => rfl, fun _ => rfl, fun _ => rfl, fun _ => rfl, fun a => absurd m (by rw [a]; decide), fun _ => rfl, fun _ => rfl, fun _ => rfl, fun _ => rfl, fun _ => rfl, fun _ => rfl, fun _ => rfl, fun _ => rfl, fun _ => rfl, fun _ => rfl, fun _ => rfl, fun _ => rfl, fun _ => rfl, fun _ => rfl, fun _ => rfl, fun _ => rfl, fun _ => rfl, fun _ => rfl, fun _ => rfl, fun _ => rfl, fun _ => rfl, fun _ => rfl⟩

theorem Keeps.setPorts {M : Nat} {s0 s : State} (v) (m : M.testBit 8 = true) (h : Keeps M s0 s) :
    Keeps M s0 { s with ports := v } :=
  h.trans ⟨rfl, rfl, fun a => ⟨a.regs, a.pages, a.vat, a.tiles⟩, fun _ _ _ => rfl,
    fun _ => rfl, fun _ => rfl, fun _ => rfl, fun _ => rfl, fun _ => rfl, fun _ => rfl, fun _ => rfl, fun _ => rfl, fun a => absurd m (by rw [a]; decide), fun _ => rfl, fun _ => rfl, fun _ => rfl, fun _ => rfl, fun _ => rfl, fun _ => rfl, fun _ => rfl, fun _ => rfl, fun _ => rfl, fun _ => rfl, fun _ => rfl, fun _ => rfl, fun _ => rfl, fun _ => rfl, fun _ => rfl, fun _ => rfl, fun _ => rfl, fun _ => rfl, fun _ => rfl, fun _ => rfl, fun _ => rfl⟩

theorem Keeps.setRings {M : Nat} {s0 s : State} (v) (m : M.testBit 9 = true) (h : Keeps M s0 s) :
    Keeps M s0 { s with rings := v } :=
  h.trans ⟨rfl, rfl, fun a => ⟨a.regs, a.pages, a.vat, a.tiles⟩, fun _ _ _ => rfl,
    fun _ => rfl, fun _ => rfl, fun _ => rfl, fun _ => rfl, fun _ => rfl, fun _ => rfl, fun _ => rfl, fun _ => rfl, fun _ => rfl, fun a => absurd m (by rw [a]; decide), fun _ => rfl, fun _ => rfl, fun _ => rfl, fun _ => rfl, fun _ => rfl, fun _ => rfl, fun _ => rfl, fun _ => rfl, fun _ => rfl, fun _ => rfl, fun _ => rfl, fun _ => rfl, fun _ => rfl, fun _ => rfl, fun _ => rfl, fun _ => rfl, fun _ => rfl, fun _ => rfl, fun _ => rfl, fun _ => rfl⟩

theorem Keeps.setEngs {M : Nat} {s0 s : State} (v) (m : M.testBit 10 = true) (h : Keeps M s0 s) :
    Keeps M s0 { s with engs := v } :=
  h.trans ⟨rfl, rfl, fun a => ⟨a.regs, a.pages, a.vat, a.tiles⟩, fun _ _ _ => rfl,
    fun _ => rfl, fun _ => rfl, fun _ => rfl, fun _ => rfl, fun _ => rfl, fun _ => rfl, fun _ => rfl, fun _ => rfl, fun _ => rfl, fun _ => rfl, fun a => absurd m (by rw [a]; decide), fun _ => rfl, fun _ => rfl, fun _ => rfl, fun _ => rfl, fun _ => rfl, fun _ => rfl, fun _ => rfl, fun _ => rfl, fun _ => rfl, fun _ => rfl, fun _ => rfl, fun _ => rfl, fun _ => rfl, fun _ => rfl, fun _ => rfl, fun _ => rfl, fun _ => rfl, fun _ => rfl, fun _ => rfl⟩

theorem Keeps.setLsc {M : Nat} {s0 s : State} (v) (m : M.testBit 11 = true) (h : Keeps M s0 s) :
    Keeps M s0 { s with lsc := v } :=
  h.trans ⟨rfl, rfl, fun a => ⟨a.regs, a.pages, a.vat, a.tiles⟩, fun _ _ _ => rfl,
    fun _ => rfl, fun _ => rfl, fun _ => rfl, fun _ => rfl, fun _ => rfl, fun _ => rfl, fun _ => rfl, fun _ => rfl, fun _ => rfl, fun _ => rfl, fun _ => rfl, fun a => absurd m (by rw [a]; decide), fun _ => rfl, fun _ => rfl, fun _ => rfl, fun _ => rfl, fun _ => rfl, fun _ => rfl, fun _ => rfl, fun _ => rfl, fun _ => rfl, fun _ => rfl, fun _ => rfl, fun _ => rfl, fun _ => rfl, fun _ => rfl, fun _ => rfl, fun _ => rfl, fun _ => rfl, fun _ => rfl⟩

theorem Keeps.setTiles {M : Nat} {s0 s : State} (v) (m : M.testBit 12 = true) (c : tilesCanonical s.tiles → tilesCanonical v) (h : Keeps M s0 s) :
    Keeps M s0 { s with tiles := v } :=
  h.trans ⟨rfl, rfl, fun a => ⟨a.regs, a.pages, a.vat, c a.tiles⟩, fun _ _ _ => rfl,
    fun _ => rfl, fun _ => rfl, fun _ => rfl, fun _ => rfl, fun _ => rfl, fun _ => rfl, fun _ => rfl, fun _ => rfl, fun _ => rfl, fun _ => rfl, fun _ => rfl, fun _ => rfl, fun a => absurd m (by rw [a]; decide), fun _ => rfl, fun _ => rfl, fun _ => rfl, fun _ => rfl, fun _ => rfl, fun _ => rfl, fun _ => rfl, fun _ => rfl, fun _ => rfl, fun _ => rfl, fun _ => rfl, fun _ => rfl, fun _ => rfl, fun _ => rfl, fun _ => rfl, fun _ => rfl, fun _ => rfl⟩

theorem Keeps.setParts {M : Nat} {s0 s : State} (v) (m : M.testBit 13 = true) (h : Keeps M s0 s) :
    Keeps M s0 { s with parts := v } :=
  h.trans ⟨rfl, rfl, fun a => ⟨a.regs, a.pages, a.vat, a.tiles⟩, fun _ _ _ => rfl,
    fun _ => rfl, fun _ => rfl, fun _ => rfl, fun _ => rfl, fun _ => rfl, fun _ => rfl, fun _ => rfl, fun _ => rfl, fun _ => rfl, fun _ => rfl, fun _ => rfl, fun _ => rfl, fun _ => rfl, fun a => absurd m (by rw [a]; decide), fun _ => rfl, fun _ => rfl, fun _ => rfl, fun _ => rfl, fun _ => rfl, fun _ => rfl, fun _ => rfl, fun _ => rfl, fun _ => rfl, fun _ => rfl, fun _ => rfl, fun _ => rfl, fun _ => rfl, fun _ => rfl, fun _ => rfl, fun _ => rfl⟩

theorem Keeps.setPages {M : Nat} {s0 s : State} (v) (m : M.testBit 14 = true) (h : Keeps M s0 s) :
    Keeps M s0 { s with pages := v } :=
  h.trans ⟨rfl, rfl, fun a => ⟨a.regs, a.pages, a.vat, a.tiles⟩, fun _ _ _ => rfl,
    fun _ => rfl, fun _ => rfl, fun _ => rfl, fun _ => rfl, fun _ => rfl, fun _ => rfl, fun _ => rfl, fun _ => rfl, fun _ => rfl, fun _ => rfl, fun _ => rfl, fun _ => rfl, fun _ => rfl, fun _ => rfl, fun a => absurd m (by rw [a]; decide), fun _ => rfl, fun _ => rfl, fun _ => rfl, fun _ => rfl, fun _ => rfl, fun _ => rfl, fun _ => rfl, fun _ => rfl, fun _ => rfl, fun _ => rfl, fun _ => rfl, fun _ => rfl, fun _ => rfl, fun _ => rfl, fun _ => rfl⟩

theorem Keeps.setVmem {M : Nat} {s0 s : State} (v) (m : M.testBit 15 = true) (c : Memory.wf 0 s.vmem.mem = true → Memory.wf 0 v.mem = true) (h : Keeps M s0 s) :
    Keeps M s0 { s with vmem := v } :=
  h.trans ⟨rfl, rfl, fun a => ⟨a.regs, a.pages, c a.vat, a.tiles⟩, fun _ _ _ => rfl,
    fun _ => rfl, fun _ => rfl, fun _ => rfl, fun _ => rfl, fun _ => rfl, fun _ => rfl, fun _ => rfl, fun _ => rfl, fun _ => rfl, fun _ => rfl, fun _ => rfl, fun _ => rfl, fun _ => rfl, fun _ => rfl, fun _ => rfl, fun a => absurd m (by rw [a]; decide), fun _ => rfl, fun _ => rfl, fun _ => rfl, fun _ => rfl, fun _ => rfl, fun _ => rfl, fun _ => rfl, fun _ => rfl, fun _ => rfl, fun _ => rfl, fun _ => rfl, fun _ => rfl, fun _ => rfl, fun _ => rfl⟩

theorem Keeps.setIdle {M : Nat} {s0 s : State} (v) (m : M.testBit 16 = true) (h : Keeps M s0 s) :
    Keeps M s0 { s with idle := v } :=
  h.trans ⟨rfl, rfl, fun a => ⟨a.regs, a.pages, a.vat, a.tiles⟩, fun _ _ _ => rfl,
    fun _ => rfl, fun _ => rfl, fun _ => rfl, fun _ => rfl, fun _ => rfl, fun _ => rfl, fun _ => rfl, fun _ => rfl, fun _ => rfl, fun _ => rfl, fun _ => rfl, fun _ => rfl, fun _ => rfl, fun _ => rfl, fun _ => rfl, fun _ => rfl, fun a => absurd m (by rw [a]; decide), fun _ => rfl, fun _ => rfl, fun _ => rfl, fun _ => rfl, fun _ => rfl, fun _ => rfl, fun _ => rfl, fun _ => rfl, fun _ => rfl, fun _ => rfl, fun _ => rfl, fun _ => rfl, fun _ => rfl⟩

theorem Keeps.setRot {M : Nat} {s0 s : State} (v) (m : M.testBit 17 = true) (h : Keeps M s0 s) :
    Keeps M s0 { s with rot := v } :=
  h.trans ⟨rfl, rfl, fun a => ⟨a.regs, a.pages, a.vat, a.tiles⟩, fun _ _ _ => rfl,
    fun _ => rfl, fun _ => rfl, fun _ => rfl, fun _ => rfl, fun _ => rfl, fun _ => rfl, fun _ => rfl, fun _ => rfl, fun _ => rfl, fun _ => rfl, fun _ => rfl, fun _ => rfl, fun _ => rfl, fun _ => rfl, fun _ => rfl, fun _ => rfl, fun _ => rfl, fun a => absurd m (by rw [a]; decide), fun _ => rfl, fun _ => rfl, fun _ => rfl, fun _ => rfl, fun _ => rfl, fun _ => rfl, fun _ => rfl, fun _ => rfl, fun _ => rfl, fun _ => rfl, fun _ => rfl, fun _ => rfl⟩

theorem Keeps.setGov {M : Nat} {s0 s : State} (v) (m : M.testBit 18 = true) (h : Keeps M s0 s) :
    Keeps M s0 { s with gov := v } :=
  h.trans ⟨rfl, rfl, fun a => ⟨a.regs, a.pages, a.vat, a.tiles⟩, fun _ _ _ => rfl,
    fun _ => rfl, fun _ => rfl, fun _ => rfl, fun _ => rfl, fun _ => rfl, fun _ => rfl, fun _ => rfl, fun _ => rfl, fun _ => rfl, fun _ => rfl, fun _ => rfl, fun _ => rfl, fun _ => rfl, fun _ => rfl, fun _ => rfl, fun _ => rfl, fun _ => rfl, fun _ => rfl, fun a => absurd m (by rw [a]; decide), fun _ => rfl, fun _ => rfl, fun _ => rfl, fun _ => rfl, fun _ => rfl, fun _ => rfl, fun _ => rfl, fun _ => rfl, fun _ => rfl, fun _ => rfl, fun _ => rfl⟩

theorem Keeps.setHerd {M : Nat} {s0 s : State} (v) (m : M.testBit 19 = true) (h : Keeps M s0 s) :
    Keeps M s0 { s with herd := v } :=
  h.trans ⟨rfl, rfl, fun a => ⟨a.regs, a.pages, a.vat, a.tiles⟩, fun _ _ _ => rfl,
    fun _ => rfl, fun _ => rfl, fun _ => rfl, fun _ => rfl, fun _ => rfl, fun _ => rfl, fun _ => rfl, fun _ => rfl, fun _ => rfl, fun _ => rfl, fun _ => rfl, fun _ => rfl, fun _ => rfl, fun _ => rfl, fun _ => rfl, fun _ => rfl, fun _ => rfl, fun _ => rfl, fun _ => rfl, fun a => absurd m (by rw [a]; decide), fun _ => rfl, fun _ => rfl, fun _ => rfl, fun _ => rfl, fun _ => rfl, fun _ => rfl, fun _ => rfl, fun _ => rfl, fun _ => rfl, fun _ => rfl⟩

theorem Keeps.setPack {M : Nat} {s0 s : State} (v) (m : M.testBit 20 = true) (h : Keeps M s0 s) :
    Keeps M s0 { s with pack := v } :=
  h.trans ⟨rfl, rfl, fun a => ⟨a.regs, a.pages, a.vat, a.tiles⟩, fun _ _ _ => rfl,
    fun _ => rfl, fun _ => rfl, fun _ => rfl, fun _ => rfl, fun _ => rfl, fun _ => rfl, fun _ => rfl, fun _ => rfl, fun _ => rfl, fun _ => rfl, fun _ => rfl, fun _ => rfl, fun _ => rfl, fun _ => rfl, fun _ => rfl, fun _ => rfl, fun _ => rfl, fun _ => rfl, fun _ => rfl, fun _ => rfl, fun a => absurd m (by rw [a]; decide), fun _ => rfl, fun _ => rfl, fun _ => rfl, fun _ => rfl, fun _ => rfl, fun _ => rfl, fun _ => rfl, fun _ => rfl, fun _ => rfl⟩

theorem Keeps.setEst {M : Nat} {s0 s : State} (v) (m : M.testBit 21 = true) (h : Keeps M s0 s) :
    Keeps M s0 { s with est := v } :=
  h.trans ⟨rfl, rfl, fun a => ⟨a.regs, a.pages, a.vat, a.tiles⟩, fun _ _ _ => rfl,
    fun _ => rfl, fun _ => rfl, fun _ => rfl, fun _ => rfl, fun _ => rfl, fun _ => rfl, fun _ => rfl, fun _ => rfl, fun _ => rfl, fun _ => rfl, fun _ => rfl, fun _ => rfl, fun _ => rfl, fun _ => rfl, fun _ => rfl, fun _ => rfl, fun _ => rfl, fun _ => rfl, fun _ => rfl, fun _ => rfl, fun _ => rfl, fun a => absurd m (by rw [a]; decide), fun _ => rfl, fun _ => rfl, fun _ => rfl, fun _ => rfl, fun _ => rfl, fun _ => rfl, fun _ => rfl, fun _ => rfl⟩

theorem Keeps.setCtr {M : Nat} {s0 s : State} (v) (m : M.testBit 22 = true) (h : Keeps M s0 s) :
    Keeps M s0 { s with ctr := v } :=
  h.trans ⟨rfl, rfl, fun a => ⟨a.regs, a.pages, a.vat, a.tiles⟩, fun _ _ _ => rfl,
    fun _ => rfl, fun _ => rfl, fun _ => rfl, fun _ => rfl, fun _ => rfl, fun _ => rfl, fun _ => rfl, fun _ => rfl, fun _ => rfl, fun _ => rfl, fun _ => rfl, fun _ => rfl, fun _ => rfl, fun _ => rfl, fun _ => rfl, fun _ => rfl, fun _ => rfl, fun _ => rfl, fun _ => rfl, fun _ => rfl, fun _ => rfl, fun _ => rfl, fun a => absurd m (by rw [a]; decide), fun _ => rfl, fun _ => rfl, fun _ => rfl, fun _ => rfl, fun _ => rfl, fun _ => rfl, fun _ => rfl⟩

theorem Keeps.setField {M : Nat} {s0 s : State} (v) (m : M.testBit 23 = true) (h : Keeps M s0 s) :
    Keeps M s0 { s with field := v } :=
  h.trans ⟨rfl, rfl, fun a => ⟨a.regs, a.pages, a.vat, a.tiles⟩, fun _ _ _ => rfl,
    fun _ => rfl, fun _ => rfl, fun _ => rfl, fun _ => rfl, fun _ => rfl, fun _ => rfl, fun _ => rfl, fun _ => rfl, fun _ => rfl, fun _ => rfl, fun _ => rfl, fun _ => rfl, fun _ => rfl, fun _ => rfl, fun _ => rfl, fun _ => rfl, fun _ => rfl, fun _ => rfl, fun _ => rfl, fun _ => rfl, fun _ => rfl, fun _ => rfl, fun _ => rfl, fun a => absurd m (by rw [a]; decide), fun _ => rfl, fun _ => rfl, fun _ => rfl, fun _ => rfl, fun _ => rfl, fun _ => rfl⟩

theorem Keeps.setRnd {M : Nat} {s0 s : State} (v) (m : M.testBit 24 = true) (h : Keeps M s0 s) :
    Keeps M s0 { s with rnd := v } :=
  h.trans ⟨rfl, rfl, fun a => ⟨a.regs, a.pages, a.vat, a.tiles⟩, fun _ _ _ => rfl,
    fun _ => rfl, fun _ => rfl, fun _ => rfl, fun _ => rfl, fun _ => rfl, fun _ => rfl, fun _ => rfl, fun _ => rfl, fun _ => rfl, fun _ => rfl, fun _ => rfl, fun _ => rfl, fun _ => rfl, fun _ => rfl, fun _ => rfl, fun _ => rfl, fun _ => rfl, fun _ => rfl, fun _ => rfl, fun _ => rfl, fun _ => rfl, fun _ => rfl, fun _ => rfl, fun _ => rfl, fun a => absurd m (by rw [a]; decide), fun _ => rfl, fun _ => rfl, fun _ => rfl, fun _ => rfl, fun _ => rfl⟩

theorem Keeps.setFreeIx {M : Nat} {s0 s : State} (v) (m : M.testBit 25 = true) (h : Keeps M s0 s) :
    Keeps M s0 { s with freeIx := v } :=
  h.trans ⟨rfl, rfl, fun a => ⟨a.regs, a.pages, a.vat, a.tiles⟩, fun _ _ _ => rfl,
    fun _ => rfl, fun _ => rfl, fun _ => rfl, fun _ => rfl, fun _ => rfl, fun _ => rfl, fun _ => rfl, fun _ => rfl, fun _ => rfl, fun _ => rfl, fun _ => rfl, fun _ => rfl, fun _ => rfl, fun _ => rfl, fun _ => rfl, fun _ => rfl, fun _ => rfl, fun _ => rfl, fun _ => rfl, fun _ => rfl, fun _ => rfl, fun _ => rfl, fun _ => rfl, fun _ => rfl, fun _ => rfl, fun a => absurd m (by rw [a]; decide), fun _ => rfl, fun _ => rfl, fun _ => rfl, fun _ => rfl⟩

theorem Keeps.setLines {M : Nat} {s0 s : State} (v) (m : M.testBit 29 = true) (h : Keeps M s0 s) :
    Keeps M s0 { s with lines := v } :=
  h.trans ⟨rfl, rfl, fun a => ⟨a.regs, a.pages, a.vat, a.tiles⟩, fun _ _ _ => rfl,
    fun _ => rfl, fun _ => rfl, fun _ => rfl, fun _ => rfl, fun _ => rfl, fun _ => rfl, fun _ => rfl, fun _ => rfl, fun _ => rfl, fun _ => rfl, fun _ => rfl, fun _ => rfl, fun _ => rfl, fun _ => rfl, fun _ => rfl, fun _ => rfl, fun _ => rfl, fun _ => rfl, fun _ => rfl, fun _ => rfl, fun _ => rfl, fun _ => rfl, fun _ => rfl, fun _ => rfl, fun _ => rfl, fun _ => rfl, fun _ => rfl, fun _ => rfl, fun _ => rfl, fun a => absurd m (by rw [a]; decide)⟩

/-! ### A register field written -/

theorem Keeps.put {M : Nat} {s0 s : State} {f : RField} {v i j : Nat} (m : M.testBit (32 + f.id) = true) (h : Keeps M s0 s) :
    Keeps M s0 (s.put f v i j) :=
  h.trans ⟨rfl, rfl, fun a => ⟨Tab.set_rise _ _ _ _ a.regs, a.pages, a.vat, a.tiles⟩, fun _ k b => by
      refine Tab.findKey_set_ne ?_ _ _ _
      intro e
      rw [e] at b
      exact absurd m (by show ¬ M.testBit (32 + f.id) = true; rw [show M.testBit (32 + f.id) = false from b]; decide),
    fun _ => rfl, fun _ => rfl, fun _ => rfl, fun _ => rfl, fun _ => rfl, fun _ => rfl, fun _ => rfl, fun _ => rfl, fun _ => rfl, fun _ => rfl, fun _ => rfl, fun _ => rfl, fun _ => rfl, fun _ => rfl, fun _ => rfl, fun _ => rfl, fun _ => rfl, fun _ => rfl, fun _ => rfl, fun _ => rfl, fun _ => rfl, fun _ => rfl, fun _ => rfl, fun _ => rfl, fun _ => rfl, fun _ => rfl, fun _ => rfl, fun _ => rfl, fun _ => rfl, fun _ => rfl⟩

theorem Keeps.putAny {M : Nat} {s0 s : State} {f : RField} {v i j : Nat} (m : M.testBit 31 = true) (h : Keeps M s0 s) :
    Keeps M s0 (s.put f v i j) :=
  h.trans ⟨rfl, rfl, fun a => ⟨Tab.set_rise _ _ _ _ a.regs, a.pages, a.vat, a.tiles⟩, fun a => absurd m (by rw [a]; decide),
    fun _ => rfl, fun _ => rfl, fun _ => rfl, fun _ => rfl, fun _ => rfl, fun _ => rfl, fun _ => rfl, fun _ => rfl, fun _ => rfl, fun _ => rfl, fun _ => rfl, fun _ => rfl, fun _ => rfl, fun _ => rfl, fun _ => rfl, fun _ => rfl, fun _ => rfl, fun _ => rfl, fun _ => rfl, fun _ => rfl, fun _ => rfl, fun _ => rfl, fun _ => rfl, fun _ => rfl, fun _ => rfl, fun _ => rfl, fun _ => rfl, fun _ => rfl, fun _ => rfl, fun _ => rfl⟩

theorem Keeps.putFlag {M : Nat} {s0 s : State} {f : RField} {v : Bool} {i j : Nat} (m : M.testBit (32 + f.id) = true)
    (h : Keeps M s0 s) : Keeps M s0 (s.putFlag f v i j) := h.put m

theorem Keeps.putBitOf {M : Nat} {s0 s : State} {f : RField} {n : Nat} {v : Bool} {i j : Nat} (m : M.testBit (32 + f.id) = true)
    (h : Keeps M s0 s) : Keeps M s0 (s.putBitOf f n v i j) := h.put m

theorem Keeps.count {M : Nat} {s0 s : State} {f : RField} {n i j : Nat} (m : M.testBit (32 + f.id) = true)
    (h : Keeps M s0 s) : Keeps M s0 (s.count f n i j) := h.put m

theorem Keeps.countWrap {M : Nat} {s0 s : State} {f : RField} {i j : Nat} (m : M.testBit (32 + f.id) = true)
    (h : Keeps M s0 s) : Keeps M s0 (s.countWrap f i j) := h.put m

theorem Keeps.clr {M : Nat} {s0 s : State} {f : RField} {i j : Nat} (m : M.testBit (32 + f.id) = true)
    (h : Keeps M s0 s) : Keeps M s0 (s.clr f i j) := h.put m

/-- A write of a register changes a field of this kind. -/
def RField.writes (f : RField) : Bool :=
  match f.acc with
  | .rw | .w1c => true
  | _ => false

theorem Keeps.writeFields {M : Nat} {s0 s : State} {i j en v : Nat} (fs : List RField)
    (m : (fs.all fun f => !f.writes || M.testBit (32 + f.id)) = true) (h : Keeps M s0 s) :
    Keeps M s0 (s.writeFields i j en v fs) := by
  induction fs generalizing s with
  | nil => exact h
  | cons f t ih =>
    simp only [List.all_cons, Bool.and_eq_true] at m
    refine ih m.2 ?_
    have g := m.1
    simp only [RField.writes] at g
    split
    · rename_i e
      exact h.put (by simpa [e] using g)
    · rename_i e
      exact h.put (by simpa [e] using g)
    · exact h

/-- A register that an index names is one of the layout. -/
theorem findReg_mem {idx : Nat} {l : List RegDesc} {x : RegDesc × Nat} (h : findReg idx l = some x) : x.1 ∈ l := by
  induction l with
  | nil => simp [findReg] at h
  | cons d t ih =>
    simp only [findReg] at h
    split at h
    · cases h; simp
    · exact List.mem_cons_of_mem _ (ih h)

/-- The fields of a register of a layout. -/
theorem Keeps.writeReg {M : Nat} {s0 s : State} {i j en v idx n : Nat} {l : List RegDesc} {d : RegDesc}
    (e : findReg idx l = some (d, n)) (m : (l.all fun d => d.fields.all fun f => !f.writes || M.testBit (32 + f.id)) = true)
    (h : Keeps M s0 s) : Keeps M s0 (s.writeFields i j en v d.fields) :=
  Keeps.writeFields _ (List.all_eq_true.mp m d (findReg_mem e)) h

/-- The same done to several fields. -/
theorem Keeps.fields {M : Nat} {s0 s : State} {f : State → RField → State} (fs : List RField)
    (m : (fs.all fun a => M.testBit (32 + a.id)) = true) (h : Keeps M s0 s)
    (g : ∀ t a, M.testBit (32 + a.id) = true → Keeps M s0 t → Keeps M s0 (f t a)) : Keeps M s0 (fs.foldl f s) := by
  induction fs generalizing s with
  | nil => exact h
  | cons a fs ih =>
    rw [List.all_cons, Bool.and_eq_true] at m
    exact ih m.2 (g _ _ m.1 h)

/-- What a field outside the mask reads. -/
theorem Keeps.fld {M : Nat} {s t : State} (h : Keeps M s t) (f : RField) (i j : Nat) (a : M.testBit 31 = false)
    (b : M.testBit (32 + f.id) = false) : t.fld f i j = s.fld f i j := by
  unfold State.fld Tab.get
  rw [h.regs a (f.key i j) b]

theorem Keeps.flag {M : Nat} {s t : State} (h : Keeps M s t) (f : RField) (i j : Nat) (a : M.testBit 31 = false)
    (b : M.testBit (32 + f.id) = false) : t.flag f i j = s.flag f i j := by
  unfold State.flag; rw [h.fld f i j a b]

theorem Keeps.bit {M : Nat} {s t : State} (h : Keeps M s t) (f : RField) (n i j : Nat) (a : M.testBit 31 = false)
    (b : M.testBit (32 + f.id) = false) : t.bit f n i j = s.bit f n i j := by
  unfold State.bit; rw [h.fld f i j a b]

end Sys2Proof.Machine
end

