-- ==== Sys2Proof/Laws/Frames.lean ====
section
/-! SUPPORT. From a frame by mask (Laws/Keeps) to a frame by name (Safety). -/
namespace Sys2Proof.Machine

/-- The bit of a part in a mask. -/
def Sect.ix : Sect → Nat
  | .pow => 0
  | .qual => 1
  | .flt => 2
  | .shadows => 3
  | .rcd => 4
  | .tim => 5
  | .mgt => 6
  | .lease => 7
  | .ports => 8
  | .rings => 9
  | .engs => 10
  | .lsc => 11
  | .tiles => 12
  | .parts => 13
  | .pages => 14
  | .vmem => 15
  | .idle => 16
  | .rot => 17
  | .gov => 18
  | .herd => 19
  | .pack => 20
  | .est => 21
  | .ctr => 22
  | .field => 23
  | .rnd => 24
  | .freeIx => 25
  | .lines => 29

theorem Keeps.sect {M : Nat} {s t : State} (h : Keeps M s t) : ∀ x : Sect, M.testBit x.ix = false → s.sameSect t x
  | .pow => h.pow
  | .qual => h.qual
  | .flt => h.flt
  | .shadows => h.shadows
  | .rcd => h.rcd
  | .tim => h.tim
  | .mgt => h.mgt
  | .lease => h.lease
  | .ports => h.ports
  | .rings => h.rings
  | .engs => h.engs
  | .lsc => h.lsc
  | .tiles => h.tiles
  | .parts => h.parts
  | .pages => h.pages
  | .vmem => h.vmem
  | .idle => h.idle
  | .rot => h.rot
  | .gov => h.gov
  | .herd => h.herd
  | .pack => h.pack
  | .est => h.est
  | .ctr => h.ctr
  | .field => h.field
  | .rnd => h.rnd
  | .freeIx => h.freeIx
  | .lines => h.lines

/-! The parts of the mailbox beside hosts and notifications. -/

theorem Keeps.keys {M : Nat} {s t : State} (h : Keeps M s t) (a : M.testBit 26 = false) : t.mgt.keys = s.mgt.keys :=
  show t.postbox.keys = s.postbox.keys from by rw [h.mail a]
theorem Keeps.keyNext {M : Nat} {s t : State} (h : Keeps M s t) (a : M.testBit 26 = false) : t.mgt.keyNext = s.mgt.keyNext :=
  show t.postbox.keyNext = s.postbox.keyNext from by rw [h.mail a]
theorem Keeps.rxq {M : Nat} {s t : State} (h : Keeps M s t) (a : M.testBit 26 = false) : t.mgt.rxq = s.mgt.rxq :=
  show t.postbox.rxq = s.postbox.rxq from by rw [h.mail a]
theorem Keeps.txq {M : Nat} {s t : State} (h : Keeps M s t) (a : M.testBit 26 = false) : t.mgt.txq = s.mgt.txq :=
  show t.postbox.txq = s.postbox.txq from by rw [h.mail a]
theorem Keeps.plcaNext {M : Nat} {s t : State} (h : Keeps M s t) (a : M.testBit 26 = false) :
    t.mgt.plcaNext = s.mgt.plcaNext := show t.postbox.plcaNext = s.postbox.plcaNext from by rw [h.mail a]
theorem Keeps.plcaOk {M : Nat} {s t : State} (h : Keeps M s t) (a : M.testBit 26 = false) : t.mgt.plcaOk = s.mgt.plcaOk :=
  show t.postbox.plcaOk = s.postbox.plcaOk from by rw [h.mail a]

/-- The bits of a mask are those of the parts and fields listed. -/
def maskWithin (M : Nat) (parts : List Sect) (fields : List RField) : Bool :=
  !M.testBit 31 && (List.range 30).all (fun n => !M.testBit n || n == 26 || n == 27 || n == 28 || parts.any fun x => x.ix == n) &&
    (List.range 1000).all (fun n => !M.testBit (32 + n) || fields.any fun f => f.id == n) && M / 2 ^ 1032 == 0

theorem Keeps.onlyIn {M : Nat} {s t : State} (h : Keeps M s t) {parts : List Sect} {fields : List RField}
    (g : maskWithin M parts fields = true) : s.onlyIn t parts fields := by
  simp only [maskWithin, Bool.and_eq_true, List.all_eq_true, Bool.or_eq_true, Bool.not_eq_true', List.any_eq_true,
    List.mem_range, beq_iff_eq] at g
  obtain ⟨⟨⟨g1, g2⟩, g3⟩, g4⟩ := g
  refine ⟨fun x hx => h.sect x ?_, fun f i j hf => h.fld f i j g1 ?_, h.pending, h.fused⟩
  · rcases g2 x.ix (by cases x <;> decide) with (((e | e) | e) | e) | ⟨y, hy, e⟩
    · exact e
    · exact absurd e (by cases x <;> decide)
    · exact absurd e (by cases x <;> decide)
    · exact absurd e (by cases x <;> decide)
    · have : y = x := by revert e; cases x <;> cases y <;> decide
      subst this; exact absurd hy hx
  · by_cases l : f.id < 1000
    · rcases g3 f.id l with e | ⟨y, hy, e⟩
      · exact e
      · exact absurd (List.mem_map.mpr ⟨y, hy, e⟩) hf
    · obtain ⟨k, e⟩ : ∃ k, 32 + f.id = k + 1032 := ⟨f.id - 1000, by omega⟩
      rw [e, ← Nat.testBit_div_two_pow, g4, Nat.zero_testBit]

end Sys2Proof.Machine
end

