-- ==== Sys2Proof/Laws/Masks.lean ====
section
/-! SUPPORT. The masks of the frame lemmas in Laws/Keeps*.lean: the parts of State and the register fields that a function
may change (Laws/Keeps.lean says which bit stands for which). -/
namespace Sys2Proof.Machine

abbrev mask1 : Nat := 0x800000000000000000000000000000000000100
abbrev mask2 : Nat := 0x800000000000000000000000000000000000000000000000000000000000000000000000000000000000000000000000000000000000000000000040
abbrev mask3 : Nat := 0x80000000000000000000000000000000000000000000000000000000000000000000000000000000080000000000000000000000000000000000015c
abbrev mask4 : Nat := 0x80008000000000000000000000000000000000000000000000000000000000000000000000000000080000000000000000000000000000000000015c
abbrev mask5 : Nat := 0x20800000000000000000000000000
abbrev mask6 : Nat := 0x800000000000000000000000000000000000000000000000000000000000000000000000000000000000000000000000000000000000000000000050
abbrev mask7 : Nat := 0x1f80000000000
abbrev mask8 : Nat := 0x800000000000000000000000000000000000000000000000000000000000000000000000000000000000000000000000000000000001f80000000050
abbrev mask9 : Nat := 0x800000200000000000000000000000000000000000000000000000000000000000000000000000000000000000000000000000000000000000000060
abbrev mask10 : Nat := 0xf00000000000000000000000000000000000000000000000000000000000000000000000000000000000000000000000000000000000000000000000000
abbrev mask11 : Nat := 0x8000000000000000000000000000000000000000000000000000000000000000000000000000000000000000000000000000000000000000000000000000000000000
abbrev mask12 : Nat := 0x8000000000000000000000000000000000000000000000000000000000000000000000000000000000000000000000000000000000000000000000000000000000200
abbrev mask13 : Nat := 0x1f80000000000000000000000000000000000000000000000
abbrev mask14 : Nat := 0x141f80000000000000000000000000000000000000020000000
abbrev mask15 : Nat := 0x8000000000000000000000000000000000000000000000000000000000000000000000000000000000141f80000000000000000000000000000000000000020000200
abbrev mask16 : Nat := 0x8000000000f00000000000000000000000000000000000000000000000000000000000000000000000141f80000000000000000000000000000000000000020000200
abbrev mask17 : Nat := 0x8000000000f00000000000000000000000000000000000000000000000000000000000000000000000141f80000000030000000000000000000000000000020000200
abbrev mask18 : Nat := 0x80000000000000000000000000000000000000000000000000000000000000000000000000000000180000000000000000000000000000000000015c
abbrev mask19 : Nat := 0x8000000000000000000000000000000100
abbrev mask20 : Nat := 0x4000000000000000000000000000000000000000000000000000000000000000000000000000000000000000000000000000000000000000000000000000000000000
abbrev mask21 : Nat := 0x640000000000008000000000000000000000000000000000000000000000000000000000000000000200000000000028f0008000020c0000000000000000000000035c
abbrev mask22 : Nat := 0x40000000000000000000000000000000000000000000000100
abbrev mask23 : Nat := 0x40000000000080000000000000000000000000000000000100
abbrev mask24 : Nat := 0x7c000000000f0000000000000000000000000000000000000000000000000000000000000000000000077df800000000f0008000000000000000000000000020000300
abbrev mask25 : Nat := 0x640000000000008000000000000000000000000000000000000000000000000000000000000000000200400000000068f0008000020c0000000000000000000000035c
abbrev mask26 : Nat := 0x6400000000000080000000000000000000000000000000000000000000000000000000000000000002004000000000e8f0008000020c0000000000000000000000035c
abbrev mask27 : Nat := 0xc0000000020c00000000000000000000000100
abbrev mask28 : Nat := 0x6c000000000f00800000000000000000000000000000000000000000000000000000000000000000020141f8000000e8f0008000020c0000000000000000002000035c
abbrev mask29 : Nat := 0x6c0000000000008000000000000000000000000000000000000000000000000000000000000000000200000000004028f0008000020c0000000000000000000000075c
abbrev mask30 : Nat := 0xc000000000000000000000000000000000000000000
abbrev mask31 : Nat := 0x6c00000000000080000000000000000000000000000000000000000000000000000000000000000002000000000c0028f0008000020c0000000000000000000000035c
abbrev mask32 : Nat := 0x70000000000000000000
abbrev mask33 : Nat := 0x16000000000000000
abbrev mask34 : Nat := 0x7001e000000000000000
abbrev mask35 : Nat := 0x380000000000000000000000000000000000000000000
abbrev mask36 : Nat := 0x640000000000008000000000000000000000000000000000000000000000000000000000000000000200000000002028f0008000020c0000000000000000000000075c
abbrev mask37 : Nat := 0x7c000000000f0000000000000000000000000000000000000000000000000000000000000000000000077df800004000f0008000000000000000000000000020000700
abbrev mask38 : Nat := 0x3c0000000000000000000000000000000000000000000000000
abbrev mask39 : Nat := 0x3800000000000000000000000000000000000000000000000000000000000000000000000000000000000000000000000000000000000000000000000000000000000
abbrev mask40 : Nat := 0x141f80000000000000000000000000000000000000020000200
abbrev mask41 : Nat := 0x4000000000000000000000000000000000000000000000000000000000000000000000000000000000141f80000000000000000000000000000000000000020000300
abbrev mask42 : Nat := 0x4000000000000000000000000000000000000000000000000000000000000000000000000000000000000000000000000000000000000000000000000000000000300
abbrev mask43 : Nat := 0x10000000000000000000000000000000000000000000000000000000000000000000000000100000
abbrev mask44 : Nat := 0x80000000000000000000000000000000000000002000000000000000000000000000000000000000080000000000000000000000000000000010015c
abbrev mask45 : Nat := 0x80000000000000000000000000000000000000005000000000000000000000000000000000000000080000000000000000000000000000000010015c
abbrev mask46 : Nat := 0x80000000000000000000000000000000000000007800000000000000000000000000000000000000080000000000000000000000000000000010015c
abbrev mask47 : Nat := 0x8000000000000000000000000000000000000000000c000000000000000000000000000000000000080000000000000000000000000000000010015c
abbrev mask48 : Nat := 0x8000000000000000000000000000000000000000780c000000000000000000000000000000000000080000000000000000000000000000000210015c
abbrev mask49 : Nat := 0x80000000000000000000000000000000000000000000000000000000000000000000000100000
abbrev mask50 : Nat := 0x30000000000000000000000000000000000000000000000000000000000000000000000100000
abbrev mask51 : Nat := 0x1c00000000000000000000000000000000000000000000000000000000000000000000002100000
abbrev mask52 : Nat := 0x80000000000000000000000000000000000000000000008000000000000000000000000000000000080000000000000000000000000000000000015c
abbrev mask53 : Nat := 0x80000000000000000000000000000000000000000000004000000000000000000000000000000000080000000000000000000000000000000000015c
abbrev mask54 : Nat := 0x80000000000000000000000000000000000000000000008000000000000000000000000000000000080000000000000000000000000000000008015c
abbrev mask55 : Nat := 0x1000000000000000000000000000
abbrev mask56 : Nat := 0x2800000000000000000000000000000000000000000000000000000000000000000000000
abbrev mask57 : Nat := 0x140000000000000000000000000000000000000000000000000000000000000000000000000000000000000000000000000000000000000000000000000000
abbrev mask58 : Nat := 0x1e0000000000000000000000000000000000000000000000000000000000000000000000000000000000000000000000000000000000000000000000000000
abbrev mask59 : Nat := 0x400000000000000000000000000000000000000000000000000000000000000000080000
abbrev mask60 : Nat := 0x80000000000000000000000000000000000000000000002200000000000000000000000000000000080000000000000000000000000000000008015c
abbrev mask61 : Nat := 0x800000000000000000000000000000000000000000000000000000000000000000000000
abbrev mask62 : Nat := 0x800000000000000000000000000000000000000000000000000000000000000000080000
abbrev mask63 : Nat := 0x140000000000000000000000000000000000000000000000000000800000000000000000000000000000000000000000000000000000000000000000080000
abbrev mask64 : Nat := 0x1e6000800000000000000000000000000000000000000000000c40c0000000000000000000000000000000080000000000000000000000000000000008015c
abbrev mask65 : Nat := 0x1e6000800000000000000000000000000000000000000000000cc0c0000000000000000000000000000000080000000000000000000000000000000008015c
abbrev mask66 : Nat := 0x1000800000000000000000000000000000000000000000003f23a0000000000000000000000000000000080000000002180000000000000000000008015c
abbrev mask67 : Nat := 0x2800000000000000000000000000000000000000000000000000000000000000000080000
abbrev mask68 : Nat := 0x6300400000000000000000000000000000000000000000000000000000000000000000280000
abbrev mask69 : Nat := 0x1000800000000000000000000000000000000000000000007f23e0000000000000000000000000000000080000000002180000000000000000000028015c
abbrev mask70 : Nat := 0x1000800000000000000000000000000000000000000000007fe3e0000000000000000000000000000000080000000002180000000000000000000028015c
abbrev mask71 : Nat := 0x1000800000000000000000000000000000000000000000003fe3a0000000000000000000000000000000080000000002180000000000000000000008015c
abbrev mask72 : Nat := 0x141000800000000000000000000000000000000000000000003f63a0000000000000000000000000000000080000000002180000000000000000000008015c
abbrev mask73 : Nat := 0x1000800000000000000000000000000000000000000000003fa3a0000000000000000000000000000000080000000002180000000000000000000008015c
abbrev mask74 : Nat := 0x80000000000000000000000000000000000000000000008280000000000000000000000000000000080000000000000000000000000000000018015c
abbrev mask75 : Nat := 0x14000080000000000000000000000000000000000000000000009280000000000000000000000000000000080000000000000000000000000000000018015c
abbrev mask76 : Nat := 0x80000000000000000000000000000000000000000000002280000000000000000000000000000000080000000000000000000000000000000008015c
abbrev mask77 : Nat := 0x14000080000000000000000000000000000000000000000000100020000000000000000000000000000000080000000000000000000000000000000008015c
abbrev mask78 : Nat := 0x14000080000020000000000000000000000000000000000000100c20000000000000000000000000000000080000000002980000000000000000000008017c
abbrev mask79 : Nat := 0x2840000000000000000000000000000000000000000000000000000000000000000080000
abbrev mask80 : Nat := 0x1e00000000000000000000000000000000000000000000000000000000000000000000000000000000000000000000000000000000000000000000000000000
abbrev mask81 : Nat := 0x1e00000000000000000000000000000000000800000000000000000000000000000000000000000000000000000000000000000000000000000000002400000
abbrev mask82 : Nat := 0x1e00000000000000000000000000000000000800000000000000000000000000000000000000000000000000000000000000000000000000000000000400000
abbrev mask83 : Nat := 0x1e00000000000000000000000000000000000000000000000000000000000000000000000000000000000000000000000000000000000000000000002400000
abbrev mask84 : Nat := 0x1e000008000002000000000000000002f8000800000000000000000000000000000000000000000000000000000000000000000000000000000000000400070
abbrev mask85 : Nat := 0x8000000000000000000000000000a0000000000000000000000000000000000000000000000000000000000000000000000000000000000000000050
abbrev mask86 : Nat := 0x1000000000000000000000000000000000000000000000000000000000000000000000000000000000200000
abbrev mask87 : Nat := 0x1e000008000002000000000000000002f80a1801000000000000000000000000000000000000000000000000000000000021800000000000000000000600078
abbrev mask88 : Nat := 0x1e000008000002000000000000000002f80a1809000000000000000000000000000000000000000000000000000000000021800000000000000000000600078
abbrev mask89 : Nat := 0x1e000008000002000000000000000002f84a1a0100000000000000000000000000000000000000000000000080000000002180000000000000000000060017c
abbrev mask90 : Nat := 0x1000000000000000000000000000000000000000000000000000000000000000000000000000000000000400000
abbrev mask91 : Nat := 0x100000000000000000000000000000000000000000000000000000000000000000000000000000000000000000000010
abbrev mask92 : Nat := 0x1e000008000002000000000000000002fc0a198000000000000000000000000000000000000000000000000080000000002180000000000000000000040017c
abbrev mask93 : Nat := 0x1e000008000002000000000000000002fc4a1b8100000000000000000000000000000000000000000000000080000000002180000000000000000000060017c
abbrev mask94 : Nat := 0x1e000008000002000000000000000002fc0e198000000000000000000000000000000000000000000000000080000000002180000000000000000000240017c
abbrev mask95 : Nat := 0x1016000000000000000000000000000000000000000000000000000000000000000000000000000000200000
abbrev mask96 : Nat := 0x8000000000000000000000000000a1001016000000000000000000000000000000000000000000000000000000021800000000000000000000600050
abbrev mask97 : Nat := 0x1e000008000000000000000000000000000a1801016000000000000000000000000000000000000000000000000000000021800000000000000000002600050
abbrev mask98 : Nat := 0x1e000008000002000000000000000002fc0a198101600000000000000000000000000000000000000000000080000000002180000000000000000000260017c
abbrev mask99 : Nat := 0x80000000000000000000000000000000000000000000000000000000000000000000000000000000000000000
abbrev mask100 : Nat := 0x1e000008000002000000000000000002fc8a198000000000000000000000000000000000000000000000000080000000002180000000000000000000040017c
abbrev mask101 : Nat := 0x1e000008000002000000000000000002f81a180100000000000000000000000000000000000000000000000080000000002180000000000000000000060017c
abbrev mask102 : Nat := 0x1e000008000002000000000000000003fc9a1d8100000000000000000000000000000000000000000000000080000000002180000000000000000000060017c
abbrev mask103 : Nat := 0x80000000000000000000000000020000000000000000000000000000000000000000000000000000080000000000000000000000000000000040015c
abbrev mask104 : Nat := 0x1e000008000002000000000000000002fb0a180100000000000000000000000000000000000000000000000080000000002180000000000000000000060017c
abbrev mask105 : Nat := 0x16000000000000000000000000000000000000000000000000000000000000000000000000000000000000000000
abbrev mask106 : Nat := 0x300000000000000000000000000000000000000000000000000000000000000000000000000000000000400000
abbrev mask107 : Nat := 0x100000000000000000000000000000000000
abbrev mask108 : Nat := 0x8000000000000000000000000000000000000000000000000000000000
abbrev mask109 : Nat := 0x80000000000000000000000000000000000000000000000000000000000000000000000000000000080000000000000000000000000000000000115c
abbrev mask110 : Nat := 0x80000000000000000000000000000000000000000000000000000000000000000000000000000000080000000000000000007001e00000000000115c
abbrev mask111 : Nat := 0x8000000000000000000000000000000000000000000000000002000000
abbrev mask112 : Nat := 0x80000000000000000000000000000000000000000000000000000000000000800000000000000000080000000000000000007001e00000000200315c
abbrev mask113 : Nat := 0x80000000000000000000000000000000000000000000000000000000000000800000000000000000080000000000000000007001e00000000204315c
abbrev mask114 : Nat := 0x80000000000000000000000000000000000000000000000000000000000000800000000000000000080000000000000000007001e00000000205315c
abbrev mask115 : Nat := 0x80000000000000000000000000000000000000000000000000000000000400800000000000000000080000000000000000007001e00000000205315c
abbrev mask116 : Nat := 0x80000000000000000000000000000000000000000000000000000000000400800000000000000000080000000000000000007001e00000000205b15c
abbrev mask117 : Nat := 0x80000000000000000000000000000000000000000000000000000000001c00800000000000000000080000000000000000007001e00000000205b15c
abbrev mask118 : Nat := 0x8000000000000000
abbrev mask119 : Nat := 0x8000000000000000000000000000000000000000000000000000001000
abbrev mask120 : Nat := 0x800000000000000000000000000000000002100
abbrev mask121 : Nat := 0x80000000000000000000000000000000000000000000000000000000001c00a00000000000000000080000000000000000007001e00000000205b15c
abbrev mask122 : Nat := 0x80000000000000000000000000000000000000000000000000000000001c00b00000000000000000080000000000000000007001e00000000205b15c
abbrev mask123 : Nat := 0x400000000000000000000000000000000000000000000000000000000000000000000000000000000000000000000000000000000000008000010
abbrev mask124 : Nat := 0x440000000000000000000000000000000000000000000000000000000000000000000000000000000000000000000000000000000000008000010
abbrev mask125 : Nat := 0x460000000000000000000000000000000000000000000000000000000000000000000000000000000000000000000000000000000000008000010
abbrev mask126 : Nat := 0x80000000000000000000000000000000000000000000000000000000000000000000000000000000080000000000000000000000000000000a00015c
abbrev mask127 : Nat := 0x80000020000000000000000000000000000000000000000000000000000000000000000000000000080000000000000000000000000000000a00017c
abbrev mask128 : Nat := 0x80060000000000000000000000000000000000000000000000000000000000000000000000000000080000000000000000000000000000000800015c
abbrev mask129 : Nat := 0x800460200000000000000000000000000000000000000000000000000000000000000000000000000000000000000000000000000000000008000070
abbrev mask130 : Nat := 0x80056020000000000000000000000000000000000000000000000000000000000000000000000000080000000001000000000000000000001800017c
abbrev mask131 : Nat := 0x4000000000000000000000000000000000000000000000000000000000000000000000000000200000
abbrev mask132 : Nat := 0x1e000000000000000000000000000000000000000000000000000000000000000000000000000000200000
abbrev mask133 : Nat := 0x1fc2400000000000000000000000000000000000000000000000000000000000000000000000000000000
abbrev mask134 : Nat := 0x800000000000000000000000000000000180000000000000000000000000000000000000000000000000000000000000000000000000000000000050
abbrev mask135 : Nat := 0x800000000000000000000000000000000380000000000000000000000000000000000000000000000000000000000000000000000000000000200050
abbrev mask136 : Nat := 0x1e000008000002000000000000000002f80a180380000000000000000000000000000000000000000000000080000000002180000000000000000000060017c
abbrev mask137 : Nat := 0x1e000008000002000000000000000002f80a1805c0000000000000000000000000000000000000000000000080000000002180000000000000000000060017c
abbrev mask138 : Nat := 0x1e000008000002000000000000000002f80a1807c0000000000000000000000000000000000000000000000080000000002180000000000000000000060017c
abbrev mask139 : Nat := 0x1e000008000002000000000000000002f80a1807f8000000000000000000000000000000000000000000000080000000002180000000000000000000060017c
abbrev mask140 : Nat := 0x1e000008000002000000000000000002f80a1807f9ffc650000000000000000000000000000000000000000080000000002380000000000000000000060017c
abbrev mask141 : Nat := 0x800000000000000000000000000000000180000000000000000000000000000000000000000000000000000000000000000000000000000000200050
abbrev mask142 : Nat := 0x1e000008000002000000000000000002f80a1807f0000000000000000000000000000000000000000000000080000000002180000000000000000000060017c
abbrev mask143 : Nat := 0x1e000008000002000000000000000002f80a1807f80008a0000000000000000000000000000000000000000080000000002180000000000000000000060017c
abbrev mask144 : Nat := 0x400000000000000000000000000000000000000000000000000000000000000000000000000000000000000
abbrev mask145 : Nat := 0x20000000000000000000000000000000000000000000000000000000000000000000000000000200000
abbrev mask146 : Nat := 0x10000000000000000000000000000000000000000000000000000000000000000000000000000200000
abbrev mask147 : Nat := 0x440000000000000000000000000000000000000000000000000000000000000000000000000000001000020000000000c0000000020c00000000000000000020000300
abbrev mask148 : Nat := 0x80000000000000000000000000000000000000000000000000100
abbrev mask149 : Nat := 0x7c000000000f0000000000000000000000000000000000000000000000000000000000000000000018077ff800000000f0008000020c00000000000000000020000300
abbrev mask150 : Nat := 0x7c000000000f008000000000000000000000000000000000000000000000000000000000000000001a077ff8000000e8f0008000020c0000000000000000002000035c
abbrev mask151 : Nat := 0x7c000000000f008000000000000000000000000000000000000000000000000000000000000000001a077ff8000000fbf0008000020c0000000000000000002000035c
abbrev mask152 : Nat := 0x64000000000000800000000000000000000000000000000000000000000000000000000000000000020141f800000068f0008000020c0000000000000000002000035c
abbrev mask153 : Nat := 0x141f80000000000000000000000000000000000000020000300
abbrev mask154 : Nat := 0x6c800000000f00800000000000000000000000000000000000000000000000000000000000000000020141f800000068f0008000020c0000000000000000002000035c
abbrev mask155 : Nat := 0x7c000000000f008000000000000000000000000000000000000000000000000000000000000000001a077ff800000068f0008000020c0000000000000000002000035c
abbrev mask156 : Nat := 0x1800000000000000000000000000000000000000000000000100
abbrev mask157 : Nat := 0x38000000000000000000000000000000000000000000000000100
abbrev mask158 : Nat := 0x1f80000000000000000000000000000000000000020000000
abbrev mask159 : Nat := 0x1f00000000000000000000000000000000000000022000000
abbrev mask160 : Nat := 0x1f80000000000000000000000000000000000000002000000
abbrev mask161 : Nat := 0x7c0000000000008000000000000000000000000000000000000000000000000000000000000000000202500000004068f0008000020c0000000000000000000000075c
abbrev mask162 : Nat := 0x7c000000000f0080000000000000000000000000000000000000000000000000000000000000000002077df800000068f0008000020c0000000000000000002000035c
abbrev mask163 : Nat := 0x640000000000008000000000000000000000000000000000000000000000000000000000000000000201c1f000000068f0008000020c0000000000000000002200035c
abbrev mask164 : Nat := 0x6c0000000000008000000000000000000000000000000000000000000000000000000000000000000201600000004068f0008000020c0000000000000000000000075c
abbrev mask165 : Nat := 0x6c0000000000008000000000000000000000000000000000000000000000000000000000000000000200800000004028f0008000020c0000000000000000000000075c
abbrev mask166 : Nat := 0x640000000000008000000000000000000000000000000000000000000000000000000000000000000200400000000068f0008000020c0000000000000000002200035c
abbrev mask167 : Nat := 0x640000000000008000000000000000000000000000000000000000000000000000000000000000000200400000000068f0008000020c0000000000000000002000035c
abbrev mask168 : Nat := 0x640000000000008000000000000000000000000000000000000000000000000000000000000000000200480000000068f0008000020c0000000000000000002000035c
abbrev mask169 : Nat := 0x800000000000000000000000000000000000000000000000000000000000000000000000000000000000000000800000
abbrev mask170 : Nat := 0x80000000000000000000000080000000000000000000000000000000000000000000000000000000080000000000000000000000000000000080015c
abbrev mask171 : Nat := 0x400000000000000000000000000000000000000000000000000000000000000000000000000000000000000000800000
abbrev mask172 : Nat := 0x180000000000000000000000000000000000000000000000000000000000000000000000000000000000000000000000000
abbrev mask173 : Nat := 0x180c00000000000000000000000000000000000000000000000000000000000000000000000000000000000000000800000
abbrev mask174 : Nat := 0x6000000000000000000000000000000000000000000000000000000000000000000000000000000000000000000000000000000000000000000000000000000
abbrev mask175 : Nat := 0x6000000800000000000000000000003c0000000000000000000000000000000000000000000000000000000080000000000000000000000000000000080015c
abbrev mask176 : Nat := 0x80000000000000000000000880000000000000000000000000000000000000000000000000000000080000000000000000000000000000000080015c
abbrev mask177 : Nat := 0x80000000000000000000004080000000000000000000000000000000000000000000000000000000080000000000000000000000000000000080015c
abbrev mask178 : Nat := 0x40800000000000000000000000000000000000000000000000000000000000000000000000000000000000000000800000
abbrev mask179 : Nat := 0x19000000000000000000000000000000000000000000000000000000000000000000000000000000000000000000000800000
abbrev mask180 : Nat := 0x9000000000000000000000000000000000000000000000000000000000000000000000000000000000000000000000800000
abbrev mask181 : Nat := 0x14000000000000000000000000000000000000000000000000000000000000000000000000000000000000000000000800000
abbrev mask182 : Nat := 0x7c0000000000000000000000000000000000000000000000000000000000000000000000000000000000000000000000800000
abbrev mask183 : Nat := 0x7d4000000000000000000000000000000000000000000000000000000000000000000000000000000000000000000000800000
abbrev mask184 : Nat := 0x80000000000000000003a00000000000000000000000000000000000000000000000000000000000080000000000000000000000000000000080015c
abbrev mask185 : Nat := 0x80000000000000000080000000000000000000000000000000000000000000000000000000000000080000000000000000000000000000000000015c
abbrev mask186 : Nat := 0x800000000000000000000000000000000000000000000000000000000000000000000000000000000000000000000000000000
abbrev mask187 : Nat := 0x78000000000000000000000000000000000000000000000000000000000000000000000000000000000000000000000000000000000000000000000000000000
abbrev mask188 : Nat := 0x800000000000000100000000000000000000000000000000000000000000000000000000000000000000000000000000000000000001f80000000050
abbrev mask189 : Nat := 0x40000000000000000000000000000000000000000000000000000000000000000000000000000000000000000000000002000000
abbrev mask190 : Nat := 0x60000000000000000000000000000000000000000000000000000000000000000000000000000000000000000000000002000000
abbrev mask191 : Nat := 0x78000000800000000000000140000000800000000000000000000000000000000000000000000000000000000000000000000000000000000001f80002800050
abbrev mask192 : Nat := 0x8000000000000001c0000000000000000000000000000000000000000000000000000000000000000000000000000000000000000001f80002000050
abbrev mask193 : Nat := 0x8000000000000001e0000000000000000000000000000000000000000000000000000000000000000800000000000000000000000001f8000200015c
abbrev mask194 : Nat := 0x19000c00000000000000000000000000000000000000000000000000000000000000000000000000000000000000000800000
abbrev mask195 : Nat := 0x19000800000000000000000000000000000000000000000000000000000000000000000000000000000000000000000800000
abbrev mask196 : Nat := 0x800000000000000000000000000000000000000000000000000000000000000000000000000000000000000000000000000
abbrev mask197 : Nat := 0x18000000000000000000000000000000000000000000000000000000000000000000000000000000000000000000000000000000
abbrev mask198 : Nat := 0x20003d4000000000000000000000000000000000000000000000000000000000000000
abbrev mask199 : Nat := 0x8000000000000000000000000000000000000000000000000228a03fc00000800000000000000000080000000000000000407001e00000000205315c
abbrev mask200 : Nat := 0x80000000000000000000000000000000000000000000000000060000000000800000000000000000080000000000000000007001e00000000205315c
abbrev mask201 : Nat := 0x80000000000000000000000000000000000000000000000000010000000000800000000000000000080000000000000000007001e00000000205315c
abbrev mask202 : Nat := 0x80000000000000000000000000000000000000000000000000004000000000800000000000000000080000000000000000007001e00000000205315c
abbrev mask203 : Nat := 0x3c000000000000000000000000000000000000000000000000000000000000000040000
abbrev mask204 : Nat := 0x3ffe03fc000000000000000000000000000000000000000000000000000000000040000
abbrev mask205 : Nat := 0x1fc00000000000000000000000000000000000000000000000000000000000000000
abbrev mask206 : Nat := 0x7c00000000000000000000000000000000000000000000000000000000000000000
abbrev mask207 : Nat := 0x80000000000000000000000000000000000000000000000000000000080000800000000000000000080000000000000000007001e00000000204315c
abbrev mask208 : Nat := 0x800000000000000000000000000000000000000000000000000000000002000
abbrev mask209 : Nat := 0x800000000000000000000000000000000000000000000000000000003c0000800000000000000000080004000000000000007001e00000000204315c
abbrev mask210 : Nat := 0x2c00000000000000000000000000000000000000000000000000000000002000
abbrev mask211 : Nat := 0x8000000000000000000000000000000000000000000000000000000000fc00800000000000000000080000000000000000007001e00000000205b15c
abbrev mask212 : Nat := 0x110000000000000000000000000000000000000000000000000002000
abbrev mask213 : Nat := 0x80000000000000000000000000000000000000000000000000000000000000802000000000000000080000000000000000007001e00000000204315c
abbrev mask214 : Nat := 0x8000a000000000000000
abbrev mask215 : Nat := 0x8000000000000000000000000000000000000000000000000000000000000080300000000000000008000000000000000000f001e00000000204315c
abbrev mask216 : Nat := 0x7000000000000000000000000000000000000000000000000000002000
abbrev mask217 : Nat := 0x80000000000000000000000000000000000000000000000000000000000000c00000000000000000080000000000000000007001e00000000204315c
abbrev mask218 : Nat := 0x8100000000000000000000000000000000000000000000000000022000
abbrev mask219 : Nat := 0x80000000000000000000000000000000000000000000000000000000000000810000000000000000080000000000000000007001e00000000202315c
abbrev mask220 : Nat := 0x80000000000000000000000000000000000000000000000000000000001c00b10000000000000000080000000000000000007001e00000000207b15c
abbrev mask221 : Nat := 0x10000000000000000000000000000000000000000000000000000002100
abbrev mask222 : Nat := 0x400000000000000000001
abbrev mask223 : Nat := 0x80000000000000000000
abbrev mask224 : Nat := 0x80000000000000000000000000000000000000000000000000000000000000000000000000000000000000000000000000000000000000000000000001000000000001
abbrev mask225 : Nat := 0x6c00000000000080000000000000000000000000000000000000000000000000000000000000000002000000000c0028f0008000020c0000000000000000000000035d
abbrev mask226 : Nat := 0x6c00000000000080000000000000000000000000000000000000000000000000000000000000000002000000000c0028f0008000020c0000002000400000000000035d
abbrev mask227 : Nat := 0x6c00000000000080000000000000000000000000000000000000000000000000000000000000000002000000000c0028f0008000020c0000000000400000000000035d
abbrev mask228 : Nat := 0x380000000000000000000000000000000000000000001
abbrev mask229 : Nat := 0x3c000fff33e000000000000000007c0000000000000000000000000000000000
abbrev mask230 : Nat := 0x80000000000000000000000000000000000000000000000000001fc03ce00fff33e000000000000008007c000000000000007001e00000000206f15c
abbrev mask231 : Nat := 0x80000000000000000000000000000000000000000000000000000000000000800000000000000000080000000000000000007001e00000000204315f
abbrev mask232 : Nat := 0x24800000000000000000000000000
abbrev mask233 : Nat := 0x24800000000000008000000000001
abbrev mask234 : Nat := 0x2000000000000000000000003
abbrev mask235 : Nat := 0x100002000000000000000000000003
abbrev mask236 : Nat := 0x100000000000000000000000000000
abbrev mask237 : Nat := 0x80000000000000000000000000000000000000000000000000000000000000800000000000000000080000000016480200007001e00800000204315f
abbrev mask238 : Nat := 0x8000000000000000000000000000000000000000000000000000000000000080000000000000000008000000001e480200007001e00800000204315f
abbrev mask239 : Nat := 0x640000000000008000000000000000000000000000000000000000000000000000000000000000000200000000000028f0008000020c0000040000000000000000035d
abbrev mask240 : Nat := 0x80000000000000000000000000000000000000000000000000000000000000000000000000000000080000000000000000000000000000000000015d
abbrev mask241 : Nat := 0x400000000000000008001
abbrev mask242 : Nat := 0x6c00000000000080000000000000000000000000000000000000000000000000000000000000000002000000000c6028f0008000020c0000040000000000000000075d
abbrev mask243 : Nat := 0x380000000000000000000000400000000000000000001
abbrev mask244 : Nat := 0x6c00000000000080000000000000000000000000000000000000000000000000000000000000000002000000038c6028f0008000020c0000040000000000000000875d
abbrev mask245 : Nat := 0x6c00000000000080000000000000000000000000000000000000000000000000000000000000000002000000000c0028f0008000020c0000000000000000000000835d
abbrev mask246 : Nat := 0x80000000000000000000000000000000000000000000000000000000000000800000000000000000080000000000000000007001e00000000205315d
abbrev mask247 : Nat := 0x6c00000000000080000000000000000000000000000000000000000000000000000000000000800002000000038c6028f0008000020c0000047001e00000000205b75f
abbrev mask248 : Nat := 0x1e000000000000019
abbrev mask249 : Nat := 0x7c000000000f0080000000000000000000000000000000000000000000000003ffffffc00000800000077df800000008f000800012480200007001e00800002205335f
abbrev mask250 : Nat := 0x80000000000000000000000000000000000000000000000000000000000000800000000000000000080000000002480000047001e00800000205315f
abbrev mask251 : Nat := 0x80000000000000000000000000000000000000000000000000000000001c00800000000000000000080000000002480000007001e00800000205315d
abbrev mask252 : Nat := 0x7f800000000f0000000000000000000000000000000000000000000000000000000000000000000000077df800004000f0008000000000000000000000000020000705
abbrev mask253 : Nat := 0x8000000000000000000000000000000000000000000000000000000000000000000003c000000040080000000000000000040000000000000000055d
abbrev mask254 : Nat := 0x380000000000000000000000000000000000000000801
abbrev mask255 : Nat := 0x23cc000000000000000000000400000000000000000801
abbrev mask256 : Nat := 0x2000000000000000000000007
abbrev mask257 : Nat := 0x80000000000000000000000000000000000000000000000000000000000000000000000000000000080000000000000200040000000000000004315d
abbrev mask258 : Nat := 0xff800000000f0080000000000000000000000000000000000000000000000283ffffffc01c00800002077df8038c6028f0008000124c0200047001e0090000221dbf5f
abbrev mask259 : Nat := 0x6c00000000000080000000000000000000000000000000000000000000000000001fc03ce00fff33e203c00023cc6028f07c8000024c0200047001e00800000207ff5f
abbrev mask260 : Nat := 0x2000000000000000000000000
abbrev mask261 : Nat := 0x2000000000000001
abbrev mask262 : Nat := 0x6c00000000000080000000000000000000000000000000000000000000000000000000000000000002000000038c6028f0008000020c0000040000400000000000875d
abbrev mask263 : Nat := 0x6c00000000000080000000000000000000000000000000000000000000000000001fc03ce00fff33e203c00023cc4028f07c8000024c0200047001e00800000207ff5f
abbrev mask264 : Nat := 0x6c00000000000080000000000000000000000000000000000000000000000000001fc03ce00fff33e203c00023cc6028f07c8000024c02301c7001e00800000207ff5f
abbrev mask265 : Nat := 0x1800000000000000000000
abbrev mask266 : Nat := 0x6c00000000000080000000000000000000000000000000000000000000000000001fc03ce00fff33e203c00023cc6028f07c8000024d8200047001e00800000207ff5f
abbrev mask267 : Nat := 0x80000000000000000000000000000000000000000000000000000000000000000000000000000000080000000000002000000000000000000000015d
abbrev mask268 : Nat := 0x80000000000000000000000000000000000000000000000000000000000000000000000000000000080000000000004000000000000000000400015d
abbrev mask269 : Nat := 0x6c00000000000080000000000000000000000000000000000000000000000000000000000000800002000000038c6028f0008000024e0240047001e00800000204b75f
abbrev mask270 : Nat := 0x6c00000000000080000000000000000000000000000000000000000000000000000000000000800002000000038c6028f00080000a0c0100447001e00000000205b75f
abbrev mask271 : Nat := 0x6c00000000000080000000000000000000000000000000000000000000000000000000000000000002000000038c6028f0008000020c0000440000000000000000875d
abbrev mask272 : Nat := 0xa00000000000000000000000000000000000000000000000000000000000000000000000000000000000000000000000000001000000
abbrev mask273 : Nat := 0x1e00000800000200000a00000019000ef80a1801000000000000000000000000000000000000000000388000000000000021800000000000000000001e00078
abbrev mask274 : Nat := 0x6c000001e00000800000200000a00000019000ef80a180100000000000000000000000000000800002000000038c6028f0008000021c0080847001e004000003e5b77f
abbrev mask275 : Nat := 0x200000000019000c00000000000000000000000000000000000000000000000000380000000000000000000008000000004000000c00001
abbrev mask276 : Nat := 0xc000000000000000000000000000000000000000000000000000000000000000000000000000000000141f80000000000000000000000000000000000000020000300
abbrev mask277 : Nat := 0x6c000000000000800000000000000000000000000000000000000000000000000000000000000000020141f8000c3028f0008000020c0000000000400000002000075d
abbrev mask278 : Nat := 0x6c00000000000080000000000000000000000000000000000000000000000000000000000000000002000000001c2028f0008000020c0000000000400000000000075d
abbrev mask279 : Nat := 0x6c0000000000008000000000000000000000000000000000000000000000000000000000000000000201c1f800004068f0008000020c0000000000000000002000075c
abbrev mask280 : Nat := 0x42000000000000000000000000000000000000000000000000000000000000000000000000000000000000000000000000000000000000000000000000000000000200
abbrev mask281 : Nat := 0x40000000000000000000000000000000000000000000000000000000000000000000000000000000000000000000000000000000000000000000000000000000000200
abbrev mask282 : Nat := 0x6c00000000000080000000000000000000000000000000000000000000000000000000000000000002000000030c0028f0008000020c0000002000400000000000035d
abbrev mask283 : Nat := 0x6c00000000000080000000000000000000000000000000000000000000000000000000000000000002000000005c2028f0008000020c00000000004000000000000f5d
abbrev mask284 : Nat := 0x6c00000000000080000000000000000000000000000000000000000000000000000000000000000002000000002c0028f0008000020c00000020004000000000000b5d
abbrev mask285 : Nat := 0x6000000000000000000000000000000000000000000800
abbrev mask286 : Nat := 0x6c00000000000080000000000000000000000000000000000000000000000000000000000000000002000002205c2028f0008000020c00000000004000000000000f5d
abbrev mask287 : Nat := 0x6c000000000000800000000000000000000000000000000000000000000000000000000000000000020141f8000c3028f0008000020c00000000004000000020000f5d
abbrev mask288 : Nat := 0x6c00000000000080000000000000000000000000000000000000000000000000000000000000000002000000038c0028f0008000020c0000002000400000000000035d
abbrev mask289 : Nat := 0xb00000000000000000000000000000000000000000000000000000000000000000000000000000000000000000000000000001000000
abbrev mask290 : Nat := 0x800000000000000000000000000000000000000000000000000000000000000000000000000000000000000000800008
abbrev mask291 : Nat := 0x6c000001e00000800000200000b000000000002f80a180100000000000000000000000000000800002000000038c6028f0008000021c0000047001e00000000365b77f
abbrev mask292 : Nat := 0x80000000000000800000000000000000000000000000000000000000000000000000000000000000000000000000000000000000000000000000000001000000000051
abbrev mask293 : Nat := 0xec000001e00000800000200023b01000000000af80a180100000000000000000000000000000800002000000038c6028f0008000021c000004f001e001000003e5b77f
abbrev mask294 : Nat := 0x38000000000000000000000000000000000000000000000000000000000000000000000000000000000000000000000000001000000
abbrev mask295 : Nat := 0x6000000000000000000000000000000000000000000000000000000000000000000000000000000000000000000000000000000000
abbrev mask296 : Nat := 0xec000001e00000800000200023b3f000000000af80a180100000000000000000000000000000800002000000038c6028f0008000021c000004f001e001000003e5b77f
abbrev mask297 : Nat := 0xc0100000000000000000000000000000000000000000000000000000000000000000000000000000000000000000000000000000000000
abbrev mask298 : Nat := 0xc0100000000000000000000000000000000000000000000000000000000000000000000000000000000000000000000000000001000000
abbrev mask299 : Nat := 0xec000001e000008000002000e3b3f000000000af80a180100000000000000000000000000000800002000000038c6028f0008000021c000004f001e001000003e5b77f
abbrev mask300 : Nat := 0xec000001e00000800000200023b39000000000af80a180100000000000000000000000000000800002000000038c6028f0008000021c000004f001e001000003e5b77f
abbrev mask301 : Nat := 0x800000000000b4000000000000000000000000000000000000000000000000000000000000000000080000000000000000000000000000000100015c
abbrev mask302 : Nat := 0xc0b00000000000000000000000000000000000000000000000000000000000000000000000000000000000000000000000000001000000
abbrev mask303 : Nat := 0x40000000000000000000000000000000000000000000000000000000000000000000000000000000000000000000000000000000000
abbrev mask304 : Nat := 0xec000001e00000800000200023b01800000000af80a180100000000000000000000000000000800002000000038c6028f0008000021c000004f001e001000003e5b77f
abbrev mask305 : Nat := 0xc080000000000000000000000000000000000000000000000000000000000000000000000000000000000000000000000000001000000
abbrev mask306 : Nat := 0x80000000000c08020000000000000000000000000000000000000000000000000000000000000000080000000000000000000000000000000100015c
abbrev mask307 : Nat := 0x10000400000000000000000000000000000000000000000000000000000000000000000000000000000000000000000000000001000000
abbrev mask308 : Nat := 0xec000001e0000080000020002fb81600000000af80a180100000000000000000000000000000800002000000038c6028f0008000021c000004f001e001000003e5b77f
abbrev mask309 : Nat := 0xec000001e00000800000200023b01800019000ef80a180100000000000000000000000000000800002000000038c6028f0008000021c000004f001e005000003e5b77f
abbrev mask310 : Nat := 0x8000000d000000000000000000000000000000000000000000000000000000000000000000000000080000000000000000000000000000001000017c
abbrev mask311 : Nat := 0xec000001e000068030002d002fb81260000000af80a180100000000000000280000000000000800002000000038c6028f0008000021c000084f001e401000013fdb77f
abbrev mask312 : Nat := 0xec000001e000068030802d002fb81260000000af80a180100000000000000280000000000000800002000000038c6028f0008000021c000084f001e401000013fdb77f
abbrev mask313 : Nat := 0xec000001e00000800000200000a00000019000ef80a180100000000000000280000000000000800002000000038c6028f0008000021c0000247001e003000003edb77f
abbrev mask314 : Nat := 0x80000000000000000001
abbrev mask315 : Nat := 0xec000001e0000080000020002fb81600000000af80a180100000000000000000000000000000800002000000038c6028f0008000021c000004f001e001f88003e5b77f
abbrev mask316 : Nat := 0x6c00000000000080000000000000000000000000000000000000000000000000000000000000000002000000038c6028f0008000020c000004f001e001f8400000875d
abbrev mask317 : Nat := 0x6c00000000000080000000000000000000000000000000000000000000000000000000000000000002000000038c6028f0008000020c000004f001e001f8200000875d
abbrev mask318 : Nat := 0x6c0000000000008000000000000000000000000000000000000000000000000000000000000000000200000013ac6028f0008000020c00000420004001f80000008f5d
abbrev mask319 : Nat := 0xec000001e00000800000200023b3f000019000af80a180100000000000000000000000000000800002000000038c6028f0008000021c000004f001e201000003e5b77f
abbrev mask320 : Nat := 0x1e000008000002000000000000000002f80a1801000000000000000000000000000000000000000000000000000000000021800000000000180000000600078
abbrev mask321 : Nat := 0x7c000000000f0000000000000000000000000000000000000000000000000000000000000000000000077df800000000f0008000000000000000000040000020000300
abbrev mask322 : Nat := 0x80000000000000000000000000000000000000000000000000000000000000000000000000000000080000000000000000000000003000000000015c
abbrev mask323 : Nat := 0x30000000000000
abbrev mask324 : Nat := 0x7c000000000f0080000000000000000000000000000000000000000000000000000000000000800000077df800000008f000800000000000007001e00000002205335c
abbrev mask325 : Nat := 0x40000000000000000300400000000000000000000000000000000000000000000000000000000000000000000000000000000400000
abbrev mask326 : Nat := 0x7c000000000f0080000000000004000000000000000030040000000000000000000000000000800000077df800000008f000800000000000007001e00000002245335c
abbrev mask327 : Nat := 0x6c00000000000080000000000000000000000080000000000000000000000000000000000000800002000000000c4028f0008000020c0000007001e00000000285375d
abbrev mask328 : Nat := 0x1800008000000000000000000000040000000000000000000000000000002000
abbrev mask329 : Nat := 0x80000000000000000000000000000000000000000000000000000000000000800000000000000000080008000000000000007001e00000000204315c
abbrev mask330 : Nat := 0x800000000000000000000000000000000000000000000000000000003c1c00a0000000000000000008007c000000000000007001e00000000205f15c
abbrev mask331 : Nat := 0x600000000000000000000000000000000000
abbrev mask332 : Nat := 0x200000000000000000000000000000000000
abbrev mask333 : Nat := 0x80000000000000000000000000000000000000000000000000000000000000800000000000000000080000800000000000007001e00000000205315c
abbrev mask334 : Nat := 0x80000000000000000000000000000000000000000000000000000000001c00800000000000000000080010000000000000007001e00000000205f15c
abbrev mask335 : Nat := 0x800000000000000000000000000000000000000000000000000000000000008133e000000000000008000000000000000000f001e00000000204315c
abbrev mask336 : Nat := 0x80000000000000000000000000000000000000000000000000000000000000fe0000000000000000080000000000000000007001e00000000204315c
abbrev mask337 : Nat := 0xe8000000000000000000000000000000000000000000000000000000000
abbrev mask338 : Nat := 0x7c000000000f00800000000000000000000000000000000000000000000000000000003c000eff33e0077df800000008f02480000000000000f001e00000002205335c
abbrev mask339 : Nat := 0x7c000000000f00800000000000000000000000000000000000000000000000000007c000002000001b9f7ff860004268f0008000020c00000000000000000020000f5c
abbrev mask340 : Nat := 0x7c000000000f008000000000000000000000000000000000000000000000000003ffc03c1c60a0001fdf7fffe003c668f57c8000020c0000007001e00000002205ff5c
abbrev mask341 : Nat := 0x7c000000000f008000000000000000000000000000000000000000000000000003ffc03c1c6eff33ffdf7fffe003c668f57c8000020c000000f001e00000002205ff5c
abbrev mask342 : Nat := 0x7c000000000f008000000000000000000000000000000000000000000000000003ffc03c1c6eff33ffdf7fffe003c668f57c8000020c000000f001e00000002205ff7c
abbrev mask343 : Nat := 0x7c000000000f008000000000000000000000000000000000000000000000000003ffc03c1c6eff33ffdf7fffe38fe668f57c8000020c000004f001e00000002205ff7d
abbrev mask344 : Nat := 0x1900003c00030020000001f020d8700ff1e0002000000e03380005400000000000000000000000000000000000003fc0003e5f000f7bfe001f80000000000
abbrev mask345 : Nat := 0xc0b0001800098000001600000000000023000284000000000000000000000000000000000000000000000000007001e000000001380021
abbrev mask346 : Nat := 0x7c000000019f0083c0003002c0b0001f020d8700ff1e0002000000e0338002d4000000000000800000077df800000008f00083fc0003e5f000f7bfe001f800273d337d
abbrev mask347 : Nat := 0x1000000000000000000000000000000000000000000000000000000000000000000000000000000000000000000000000000000000000000000000
abbrev mask348 : Nat := 0x1900003d00030020000001f020d8700ff1e0002000000e03380005400000000000000000000000000000000000003fc0003e5f000f7bfe001f80004000040
abbrev mask349 : Nat := 0x1000000000000000000000000000000000000000000000000000000000000000000000000000000000000000000000000000000000000004000040
abbrev mask350 : Nat := 0x1e000000000000000
abbrev mask351 : Nat := 0x21800000000000000000000040000
abbrev mask352 : Nat := 0x180c00000000000000000000000000000000000000000000000000000000000000000000000000000000000000002800000
abbrev mask353 : Nat := 0x1e000008000002000000000000000002fc0e198900000000000000000000000000000000000000000000000080000000002180000000000000000000260017d
abbrev mask354 : Nat := 0x7c000001e19f0083c0003002d0b4041f039d87efffffb896000300e0338002d4000000000000800000077df800000008f00083fc021be5f000f7bfe001f80027fd337d
abbrev mask355 : Nat := 0x80000000000000000000000000000000000000000000000000000000000000000000000000000000000000000000000000000000000000000000000001000002000021
abbrev mask356 : Nat := 0x8000000000000000000000000000000080
abbrev mask357 : Nat := 0x8000000000000000000000000000000000000000000000000000000000000000000000000000000000000080000000000000000000000000000000d0
abbrev mask358 : Nat := 0x1e00000800000200000000000009000af80a1809000000000000000000000000000000000000000000000000000000000021800000000000000000000e400f8
abbrev mask359 : Nat := 0x1e00000800000200000000000009000af80a1809000000000000000000000000000000000000000000000000000008000021800000000000000000000e400f8
abbrev mask360 : Nat := 0x2000000000000000000000000000000080
abbrev mask361 : Nat := 0x80000000000000000000000000000000000000000000000000000000000000000000000000000000000000a0000000000000000000000000000000d0
abbrev mask362 : Nat := 0x1c00000000000000000000000000000000
abbrev mask363 : Nat := 0x7c000001e19f0083c0003002d0b4041f039d87efffffb896000300e0338002d4000000000000800000077df800000008f000a3fc021be5f000f7bfe001f80027fd337d
abbrev mask364 : Nat := 0x7c000001e19f0083c0003002d0b4041f039d87efffffb896000300e0338002d4000000000000800000077df800000008f000bffc021be5f000f7bfe001f80027fd337d
abbrev mask365 : Nat := 0x7f80000001000000000000000000000000000000000000000000000000000000000000000000000000000000000000000000000000000000000000000000000040
abbrev mask366 : Nat := 0x4000000000000000000000000000000000000000000000000000000000000000000000000000000000000000000000000000000000000000004000040
abbrev mask367 : Nat := 0xfc000001e19f0083c0003002d0b4041f039d87efffffb896000300e0338002d4000000000000800000077df800000008f000bffc021be5f000f7bfe001f80027fd33fd
abbrev mask368 : Nat := 0xfc007f81e19f0583c0003002d0b4041f039d87efffffb896000300e0338002d4000000000000800002077df8038c6028f000bffc021fe5f004f7bfe001f80027fdb7fd
abbrev mask369 : Nat := 0x88000000000000000000000000000000000000000000000000000000000000000000000000000000080000000000000000000000000000000000015c
abbrev mask370 : Nat := 0xf8000000000000000000000000000000000000000000000000000000000000000000000000000000080000000000000000000000000000000000015c
abbrev mask371 : Nat := 0xc8000000000000000000000000000000000000000000000000000000000000000000000000000000080000000000000000000000000000000400015c
abbrev mask372 : Nat := 0xcc000000000000000000000000000000000000000000000000000000000000000000000000000000080000000000000000000000000000000400015c
abbrev mask373 : Nat := 0xfc000000000000000000000000000000000000000000000000000000000000000000000000000000080000000000000000000000000000000400015c
abbrev mask374 : Nat := 0xfc007f81e19f05ffc0003002d0b4041f039d87efffffb896000300e0338002d4000000000000800002077df8038c6028f000bffc021fe5f004f7bfe001f80027fdb7fd
abbrev mask375 : Nat := 0x800000200000000000000000000000000000000000000000000000000000000000000000000000000000000000000000000000000000000010000060
abbrev mask376 : Nat := 0x1000000000000000000000000000000000000000000000000000000000000000040010
abbrev mask377 : Nat := 0x3d000000000000000000000000000000000000000000000000000000000000000040010
abbrev mask378 : Nat := 0x1e00000800000200000000060000000afc0e198ff96008a00000000000000000000000000000000000000000800000000021800000000000000000002f0017c
abbrev mask379 : Nat := 0xfc007f81e19f0583d0003002d0b4047f039d87efffffb8ff96038ae0338002d7d00000000000800002077df8038c6028f000bffc021fe5f004f7bfe001f80037fdb7fd
abbrev mask380 : Nat := 0x1f400008000002000000000000000002f80a1807f9ffc650000009280000000000000000000000000000000080000000002380000000000000000000078017c
abbrev mask381 : Nat := 0x1f400008000002000000000000000002f80a1807f9ffc650000100c20000000000000000000000000000000080000000002b80000000000000000000068017d
abbrev mask382 : Nat := 0x1e000008000002000000000000000002f80a1807f80000001c0000000000000000000000000000000000000080000000002180000000000000000000270017c
abbrev mask383 : Nat := 0x8000000000000000000000000000000001800000780c000000000000000000000000000000000000080000000000000000000000000000000230015c
abbrev mask384 : Nat := 0x1f400008000802000000000000000002f80a1807f9ffc650000009280000000000000000000000000000000080000000002380000000000000000000078017c
abbrev mask385 : Nat := 0x80008000000000000000000000000000000000000000008000000000000000000000000000000000080000000000000000000000000000000008015c
abbrev mask386 : Nat := 0x1e6000800080000000000000000000000000000000000000000cc0c0000000000000000000000000000000080000000000000000000000000000000008015c
abbrev mask387 : Nat := 0x141000800080000000000000000000000000000000000000003f63a0000000000000000000000000000000080000000002180000000000000000000008015c
abbrev mask388 : Nat := 0x80008000000000000000000000000000000000000000002280000000000000000000000000000000080000000000000000000000000000000008015c
abbrev mask389 : Nat := 0x1f400008000802000000000000000002f80a1807f9ffc650000100c20000000000000000000000000000000080000000002b80000000000000000000068017d
abbrev mask390 : Nat := 0x1000800080000000000000000000000000000000000000007fe3e0000000000000000000000000000000080000000002180000000000000000000028015c
abbrev mask391 : Nat := 0x1000800080000000000000000000000000000000000000003fe3a0000000000000000000000000000000080000000002180000000000000000000008015c
abbrev mask392 : Nat := 0x1000800080000000000000000000000000000000000000003fa3a0000000000000000000000000000000080000000002180000000000000000000008015c
abbrev mask393 : Nat := 0x8000800000000000000000000000000001800000780c000000000000000000000000000000000000080000000000000000000000000000000230015c
abbrev mask394 : Nat := 0x1e000008000802000000000000000002f80a1807f80000001c0000000000000000000000000000000000000080000000002180000000000000000000270017c
abbrev mask395 : Nat := 0x1e000008000802000000000000000002f80a1807f0000000000000000000000000000000000000000000000080000000002180000000000000000000060017c
abbrev mask396 : Nat := 0x1e000008000802000000000000000002f80a180900000000000000000000000000000000000000000000000080000000002180000000000000000000060017c
abbrev mask397 : Nat := 0x1e000008000802000000000000000002f80a180380000000000000000000000000000000000000000000000080000000002180000000000000000000060017c
abbrev mask398 : Nat := 0x1e000008000802000000000000000003fc9a1d8100000000000000000000000000000000000000000000000080000000002180000000000000000000060017c
abbrev mask399 : Nat := 0x1e000008000802000000000000000002fc4a1b8100000000000000000000000000000000000000000000000080000000002180000000000000000000060017c
abbrev mask400 : Nat := 0x1e000008000802000000000000000002fc0a198000000000000000000000000000000000000000000000000080000000002180000000000000000000040017c
abbrev mask401 : Nat := 0x1e000008000802000000000000000002fb0a180100000000000000000000000000000000000000000000000080000000002180000000000000000000060017c
abbrev mask402 : Nat := 0x1e000008000802000000000000000002fc8a198000000000000000000000000000000000000000000000000080000000002180000000000000000000040017c
abbrev mask403 : Nat := 0x80008000000000000000000000020000000000000000000000000000000000000000000000000000080000000000000000000000000000000040015c
abbrev mask404 : Nat := 0x1e000008000802000000000000000002f81a180100000000000000000000000000000000000000000000000080000000002180000000000000000000060017c
abbrev mask405 : Nat := 0x6000000800080000000000000000003c0000000000000000000000000000000000000000000000000000000080000000000000000000000000000000080015c
abbrev mask406 : Nat := 0x80008000000000000000000880000000000000000000000000000000000000000000000000000000080000000000000000000000000000000080015c
abbrev mask407 : Nat := 0x80008000000000000000004080000000000000000000000000000000000000000000000000000000080000000000000000000000000000000080015c
abbrev mask408 : Nat := 0x80008000000000000003a00000000000000000000000000000000000000000000000000000000000080000000000000000000000000000000080015c
abbrev mask409 : Nat := 0x80008000000000000080000000000000000000000000000000000000000000000000000000000000080000000000000000000000000000000000015c
abbrev mask410 : Nat := 0x78000000800080000000000140000000800000000000000000000000000000000000000000000000000000000800000000000000000000000001f8000280015c
abbrev mask411 : Nat := 0x8000800000000001c0000000000000000000000000000000000000000000000000000000000000000800000000000000000000000001f8000200015c
abbrev mask412 : Nat := 0x8000800000000001e0000000000000000000000000000000000000000000000000000000000000000800000000000000000000000001f8000200015c
abbrev mask413 : Nat := 0x7c000000000f0080000000000000000000000000000000000000000000000000000000000000000002077df800000028f0008000020c0000000000000000002000035c
abbrev mask414 : Nat := 0x80000000000000000000000000000000000000000000000000000000000000000008000000000000080000000000000000000000000000000000015c
abbrev mask415 : Nat := 0x640000000000008000000000000000000000000000000000000000000000000000000000000000000a00400000000068f0008000020c0000000000000000000000035c
abbrev mask416 : Nat := 0x7c000000000f008000000000000000000000000000000000000000000000000003ffc03c1c6eff33ffdf7fffe003c6f8f57c8000020c000000f001e00000002205ff7c
abbrev mask417 : Nat := 0x7c000000000f008000000000000000000000000000000000000000000000000003ffc03c1c6eff33ffdf7fffe003c7fbf57c8000020c000000f001e00000002205ff7c
abbrev mask418 : Nat := 0x7c000000000f008000800000000000000000000000000000000000000000000003ffc03c1c6eff33ffdf7fffe38fe668f57c8000020c000004f001e00000002205ff7d
abbrev mask419 : Nat := 0x7c000000000f008000800000000000000000000000000000000000000000000003ffc03c1c6eff33ffdf7fffe38fe7fbf57c8000020c000004f001e00000002205ff7d
abbrev mask420 : Nat := 0x6400000000000080008000000000000000000000000000000000000000000000000000000000000002004000000000e8f0008000020c0000000000000000000000035c
abbrev mask421 : Nat := 0x7c000000000f008000800000000000000000000000000000000000000000000000000000000000001a077ff8000000fbf0008000020c0000000000000000002000035c
abbrev mask422 : Nat := 0x7c000000000f008000800000000000000000000000000000000000000000000000000000000000001a077ff8000000e8f0008000020c0000000000000000002000035c
abbrev mask423 : Nat := 0x64000000000000800080000000000000000000000000000000000000000000000000000000000000020141f800000068f0008000020c0000000000000000002000035c
abbrev mask424 : Nat := 0x6c800000000f00800080000000000000000000000000000000000000000000000000000000000000020141f800000068f0008000020c0000000000000000002000035c
abbrev mask425 : Nat := 0x440000000000008000800000000000000000000000000000000000000000000000000000000000001000020000000008c0000000020c0000000000000000002000035c
abbrev mask426 : Nat := 0x640000000000008000800000000000000000000000000000000000000000000000000000000000000200400000000068f0008000020c0000000000000000000000035c
abbrev mask427 : Nat := 0x7c000000000f0080008000000000000000000000000000000000000000000000000000000000000002077df800000028f0008000020c0000000000000000002000035c
abbrev mask428 : Nat := 0x640000000000008000800000000000000000000000000000000000000000000000000000000000000a00400000000068f0008000020c0000000000000000000000035c
abbrev mask429 : Nat := 0x7c0000000000008000800000000000000000000000000000000000000000000000000000000000000202500000004068f0008000020c0000000000000000000000075c
abbrev mask430 : Nat := 0x7c000000000f0080008000000000000000000000000000000000000000000000000000000000000002077df800000068f0008000020c0000000000000000002000035c
abbrev mask431 : Nat := 0x640000000000008000800000000000000000000000000000000000000000000000000000000000000201c1f000000068f0008000020c0000000000000000002200035c
abbrev mask432 : Nat := 0x6c0000000000008000800000000000000000000000000000000000000000000000000000000000000201600000004068f0008000020c0000000000000000000000075c
abbrev mask433 : Nat := 0x6c0000000000008000800000000000000000000000000000000000000000000000000000000000000200800000004028f0008000020c0000000000000000000000075c
abbrev mask434 : Nat := 0x640000000000008000800000000000000000000000000000000000000000000000000000000000000200400000000068f0008000020c0000000000000000002200035c
abbrev mask435 : Nat := 0x640000000000008000800000000000000000000000000000000000000000000000000000000000000200480000000068f0008000020c0000000000000000002000035c
abbrev mask436 : Nat := 0x6c0000000000008000800000000000000000000000000000000000000000000000000000000000000200000003ac6028f0008000020c00000420004000000000008f5d
abbrev mask437 : Nat := 0x6c000000000000800080000000000000000000000000000000000000000000000000000000000000020141f8000c3028f0008000020c0000000000400000002000075d
abbrev mask438 : Nat := 0x6c00000000000080008000000000000000000000000000000000000000000000000000000000000002000000039c6028f0008000020c0000040000400000000000875d
abbrev mask439 : Nat := 0x6c000000000000800080000000000000000000000000000000000000000000000000000000000000020141f8038c7028f0008000020c00000400004000000020008f5d
abbrev mask440 : Nat := 0x8000000000000000000000000000000000000000000000000000000000000000000000000000000000000000000000000000000000000000000000000000000000300
abbrev mask441 : Nat := 0x6c0000000000008000800000000000000000000000000000000000000000000000000000000000000201c1f800004068f0008000020c0000000000000000002000075c
abbrev mask442 : Nat := 0x640000000000008000800000000000000000000000000000000000000000000000000000000000000200000000000028f0008000020c0000000000000000000000035c
abbrev mask443 : Nat := 0x6c00000000000080008000000000000000000000000000000000000000000000000000000000000002000000038c6028f0008000020c0000042000400000000000875d
abbrev mask444 : Nat := 0x6c0000000000008000800000000000000000000000000000000000000000000000000000000000000200000003dc6028f0008000020c00000400004000000000008f5d
abbrev mask445 : Nat := 0x6c0000000000008000800000000000000000000000000000000000000000000000000000000000000200000223dc6028f0008000020c00000400004000000000008f5d
abbrev mask446 : Nat := 0xfc007f81e19f0583d0803002d0b4047f039d87efffffb8ff96038ae0338002d7d00000000000800002077df8038c6028f000bffc021fe5f004f7bfe001f80037fdb7fd
abbrev mask447 : Nat := 0xfc008000000000000000000000000000000000000000000000000000000000000000000000000000080000000000000000000000000000000400015c
abbrev mask448 : Nat := 0x1e00000800080200000000000009000af80a1809000000000000000000000000000000000000000000000000800008000021800000000000000000000e401fc
abbrev mask449 : Nat := 0xfc007f81e19f05ffc0803002d0b4041f039d87efffffb896000300e0338002d4000000000000800002077df8038c6028f000bffc021fe5f004f7bfe001f80027fdb7fd
abbrev mask450 : Nat := 0x8000800000000000000000000000000000000000000000000000000000fc00800000000000000000080000000000000000007001e00000000205b15c
abbrev mask451 : Nat := 0x8000800000000000000000000000000000000000000000000228a03fc00000800000000000000000080000000000000000407001e00000000205315c
abbrev mask452 : Nat := 0x80008000000000000000000000000000000000000000000000060000000000800000000000000000080000000000000000007001e00000000205315c
abbrev mask453 : Nat := 0x80008000000000000000000000000000000000000000000000010000000000800000000000000000080000000000000000007001e00000000205315c
abbrev mask454 : Nat := 0x80008000000000000000000000000000000000000000000000004000000000800000000000000000080000000000000000007001e00000000205315c
abbrev mask455 : Nat := 0x80008000000000000000000000000000000000000000000000000000000000800000000000000000080000000000000000007001e00000000205315c
abbrev mask456 : Nat := 0xec000001e00000800080200000a00000019000ef80a180100000000000000280000000000000800002000000038c6028f0008000021c0000247001e003000003edb77f
abbrev mask457 : Nat := 0xec000001e00000800080200023b01800019000ef80a180100000000000000000000000000000800002000000038c6028f0008000021c000004f001e005000003e5b77f
abbrev mask458 : Nat := 0x8005e020000000000000000000000000000000000000000000000000000000000000000000000000080000000001000000000000000000001800017c
abbrev mask459 : Nat := 0x6c00000000000080008000000000000000000000000000000000000000000000001fc03ce00fff33e203c00023cc6028f07c8000024c02301c7001e00800000207ff5f
abbrev mask460 : Nat := 0xff800000000f0080008000000000000000000000000000000000000000000283fffffffc1c6eff33ffdf7fffe38fe668f57c8000124c020004f001e0090000221dff7f
abbrev mask461 : Nat := 0x7c000000000f008000800000000000000000000000000000000000000000000003ffc03cfc6fff33ffdfffffe3cfe668f57c8000024c020004f001e00800002207ff7f
abbrev mask462 : Nat := 0x80008000000000000000000000000000000000000000000000000000000000000000000000000000080000000000000000000000200000000000015d
abbrev mask463 : Nat := 0x6c00000000000080008000000000000000000000000000000000000000000000000000000000000002000000038c6028f0008000020c0000040000400000000000875d
abbrev mask464 : Nat := 0x80008000000000000000000000000000000000000000000000000000000000000000000000000000080000000000002000000000000000000000015d
abbrev mask465 : Nat := 0x80008000000000000000000000000000000000000000000000000000000000000000000000000000080000000000004000000000000000000400015d
abbrev mask466 : Nat := 0x6c00000000000080008000000000000000000000000000000000000000000000001fc03ce00fff33e203c00023cc6028f07c8000024d8200047001e00800000207ff5f
abbrev mask467 : Nat := 0x6c00000000000080008000000000000000000000000000000000000000000000000000000000800002000000038c6028f0008000024e0240047001e00800000204b75f
abbrev mask468 : Nat := 0x6c00000000000080008000000000000000000000000000000000000000000000000000000000800002000000038c6028f00080000a0c0100447001e00000000205b75f
abbrev mask469 : Nat := 0x6c00000000000080008000000000000000000000000000000000000000000000000000000000000002000000038c6028f0008000020c0000440000000000000000875d
abbrev mask470 : Nat := 0x6c000001e00000800080200000a00000019000ef80a180100000000000000000000000000000800002000000038c6028f0008000021c0080847001e004000003e5b77f
abbrev mask471 : Nat := 0x6c00000000000080008000000000000000000000000000000000000000000000000000000000800002000000038c6028f0008000164c0200047001e00800000204b75f
abbrev mask472 : Nat := 0x6c00000000000080008000000000000000000000000000000000000000000000000000000000800002000000038c6028f00080001e4c0200047001e00800000204b75f
abbrev mask473 : Nat := 0xec000001e00000800080200023b3f000000000af80a180100000000000000000000000000000800002000000038c6028f0008000021c000004f001e001000003e5b77f
abbrev mask474 : Nat := 0xec000001e000008000802000e3b3f000000000af80a180100000000000000000000000000000800002000000038c6028f0008000021c000004f001e001000003e5b77f
abbrev mask475 : Nat := 0xec000001e00000800080200023b39000000000af80a180100000000000000000000000000000800002000000038c6028f0008000021c000004f001e001000003e5b77f
abbrev mask476 : Nat := 0x800080000000b4000000000000000000000000000000000000000000000000000000000000000000080000000000000000000000000000000100015c
abbrev mask477 : Nat := 0xec000001e00000800080200023b01800000000af80a180100000000000000000000000000000800002000000038c6028f0008000021c000004f001e001000003e5b77f
abbrev mask478 : Nat := 0xec000001e0000080008020002fb81600000000af80a180100000000000000000000000000000800002000000038c6028f0008000021c000004f001e001f88003e5b77f
abbrev mask479 : Nat := 0x6c00000000000080008000000000000000000000000000000000000000000000000000000000000002000000038c6028f0008000020c000004f001e001f8400000875d
abbrev mask480 : Nat := 0x6c00000000000080008000000000000000000000000000000000000000000000000000000000000002000000038c6028f0008000020c000004f001e001f8200000875d
abbrev mask481 : Nat := 0x6c0000000000008000800000000000000000000000000000000000000000000000000000000000000200000013ac6028f0008000020c00000420004001f80000008f5d
abbrev mask482 : Nat := 0xec000001e00000800080200023b3f000019000af80a180100000000000000000000000000000800002000000038c6028f0008000021c000004f001e201000003e5b77f
abbrev mask483 : Nat := 0x1e000008000802000000000000000002f80a180100000000000000000000000000000000000000000000000080000000002180000000000018000000060017c
abbrev mask484 : Nat := 0x80008000000000000000000000000000000000000000000000000000000000000000000000000000080000000000000000000000003000000000015c
abbrev mask485 : Nat := 0x7c000000000f0080008000000000000000000000000000000000000000000000000000000000800002077df8038c6028f0008000020c0000047001e00000002205b75d
abbrev mask486 : Nat := 0x6c00000000000080008000000000000000000080000000000000000000000000000000000000800002000000038c6028f0008000020c0000047001e00000000285b75d
abbrev mask487 : Nat := 0x8004e000000000000000000000000000000000000000000000000000000000000000000000000000080000000000000000000000000000000800015c
abbrev mask488 : Nat := 0x80008020000000000000000000000000000000000000000000000000000000000000000000000000080000000000000000000000000000000a00017c
abbrev mask489 : Nat := 0x80068000000000000000000000000000000000000000000000000000000000000000000000000000080000000000000000000000000000000800015c
abbrev mask490 : Nat := 0x80008000000000000000000000000000000000000000000000000000000000800000000000000000080000000000000000007001e00000000200315c
abbrev mask491 : Nat := 0x6c00000000000080008000000000000000000000000000000000000000000000000000001c00800002000000038c6028f0008000020c0000047001e00000000205b75d
abbrev mask492 : Nat := 0x80008000000000000000000000000000000000000000000000000000000000800000000000000000080000000000000000007001e00000000204315c
abbrev mask493 : Nat := 0x6c00000000000080008000000000000000000000000000000000000000000000000000000000800002000000038c6028f0008000020c0000047001e00000000200b75d
abbrev mask494 : Nat := 0x6c00000000000080008000000000000000000000000000000000000000000000000000001c00b00002000000038c6028f0008000020c0000047001e00000000205b75d
abbrev mask495 : Nat := 0x6c00000000000080008000000000000000000000000000000000000000000000000000000000800002000000038c6028f0008000020c0000047001e00000000204b75d
abbrev mask496 : Nat := 0x6c00000000000080008000000000000000000000000000000000000000000000000000001c00b10002000000038c6028f0008000020c0000047001e00000000207b75d
abbrev mask497 : Nat := 0x4000000000000000000000000000000000000000000000000
abbrev mask498 : Nat := 0x100002000000000000000000000000000000000000000020000000
abbrev mask499 : Nat := 0x6400000000000080000000000000000000000000000000000000000000000000000000000000000012004e0000000068f0008000020c0000000000000000002000035c
abbrev mask500 : Nat := 0x6400000000000080000000000000000000000000000000000000000000000000000000000000000012004e0000000068f0008000020c0000000000000000002200035c
abbrev mask501 : Nat := 0x1f00000000000000000000000000000000000000002000000
abbrev mask502 : Nat := 0x6d0000000000008000000000000000000000000000000000000000000000000000000000000000000200000000004028f0008000020c0000000000000000000200075c
abbrev mask503 : Nat := 0x7d000000000f0080000000000000000000000000000000000000000000000000000000000000800012077ff800004068f0008000020c0000007001e00000002205b75c
abbrev mask504 : Nat := 0x7d000000000f0080008000000000000000000000000000000000000000000000000000000000800012077ff800004068f0008000020c0000007001e00000002205b75c

end Sys2Proof.Machine
end

