-- ==== Sys2Proof/Laws/Tile.lean ====
section
/-! SUPPORT. Every operation on a tile keeps its four memories in canonical form (Safety: Tile.canonical). -/
namespace Sys2Proof.Machine

/-- Under `C` the tile's memories are in canonical form. -/
structure Canon (C : Prop) (x : Tile) : Prop where
  of : C → x.canonical

theorem Canon.self (x : Tile) : Canon x.canonical x := ⟨id⟩

/-- One more operation is applied. -/
theorem Canon.step {C : Prop} {x y : Tile} (h : Canon x.canonical y) (k : Canon C x) : Canon C y := ⟨fun c => h.of (k.of c)⟩

/-- A tile with the memories of another. -/
theorem Canon.same {C : Prop} {x : Tile} (y : Tile) (h : Canon C x)
    (e : y.a = x.a ∧ y.sp = x.sp ∧ y.c = x.c ∧ y.vr = x.vr) : Canon C y := ⟨fun c =>
  ⟨by rw [e.1]; exact (h.of c).a, by rw [e.2.1]; exact (h.of c).sp, by rw [e.2.2.1]; exact (h.of c).c,
    by rw [e.2.2.2]; exact (h.of c).vr⟩⟩

/-- A tile with another C-Pail. -/
theorem Canon.setC {C : Prop} {x : Tile} (y : Tile) (h : Canon C x) (e : y.a = x.a ∧ y.sp = x.sp ∧ y.vr = x.vr)
    (m : Memory.wf 0 x.c = true → Memory.wf 0 y.c = true) : Canon C y := ⟨fun c =>
  ⟨by rw [e.1]; exact (h.of c).a, by rw [e.2.1]; exact (h.of c).sp, m (h.of c).c, by rw [e.2.2]; exact (h.of c).vr⟩⟩

theorem Canon.upd {C : Prop} {b : Tile} {x0 x1 x2 x3 x4 x5 x6 x7 x8 x9 x10 x11 x12 x13 x14 x15 x16 x17 x18 x19 x20
    x21 x22 x23 x24 x25 x26 x27 x28 x29 x30 x31 x32} (h : Canon C b) : Canon C ⟨b.a, b.sp, b.c, b.vr, x0, x1, x2, x3, x4,
    x5, x6, x7, x8, x9, x10, x11, x12, x13, x14, x15, x16, x17, x18, x19, x20, x21, x22, x23, x24, x25, x26, x27,
    x28, x29, x30, x31, x32⟩ := Canon.same _ h ⟨rfl, rfl, rfl, rfl⟩

theorem Canon.updC {C : Prop} {b : Tile} {c x0 x1 x2 x3 x4 x5 x6 x7 x8 x9 x10 x11 x12 x13 x14 x15 x16 x17 x18 x19
    x20 x21 x22 x23 x24 x25 x26 x27 x28 x29 x30 x31 x32} (h : Canon C b) (m : Memory.wf 0 b.c = true → Memory.wf 0 c =
    true) : Canon C ⟨b.a, b.sp, c, b.vr, x0, x1, x2, x3, x4, x5, x6, x7, x8, x9, x10, x11, x12, x13, x14, x15, x16,
    x17, x18, x19, x20, x21, x22, x23, x24, x25, x26, x27, x28, x29, x30, x31, x32⟩ := Canon.setC _ h ⟨rfl, rfl, rfl⟩ m

/-- A tile without contents. -/
theorem Canon.empty {C : Prop} (y : Tile) (e : y.a = [] ∧ y.sp = [] ∧ y.c = [] ∧ y.vr = []) : Canon C y := ⟨fun _ =>
  ⟨by rw [e.1]; rfl, by rw [e.2.1]; rfl, by rw [e.2.2.1]; rfl, by rw [e.2.2.2]; rfl⟩⟩

theorem Canon.ite {C : Prop} {x y : Tile} {c : Prop} [Decidable c] (h : c → Canon C x) (g : ¬ c → Canon C y) :
    Canon C (if c then x else y) := by
  split
  · next a => exact h a
  · next a => exact g a

theorem Canon.iteFst {β : Type} {C : Prop} {x y : Tile × β} {c : Prop} [Decidable c] (h : c → Canon C x.1)
    (g : ¬ c → Canon C y.1) : Canon C (if c then x else y).1 := by
  split
  · next a => exact h a
  · next a => exact g a

theorem Canon.foldl {α : Type} {C : Prop} {x : Tile} {f : Tile → α → Tile} (l : List α) (h : Canon C x)
    (g : ∀ y a, Canon C y → Canon C (f y a)) : Canon C (l.foldl f x) := by
  induction l generalizing x with
  | nil => exact h
  | cons a l ih => exact ih (g _ _ h)

/-- A tile of a state. -/
theorem Canon.tile {M : Nat} {s0 s : State} (t : Nat) (h : Keeps M s0 s) : Canon s0.canonical (s.tile t) :=
  ⟨fun c => (h.canon c).tiles _⟩

/-- A tile replaced. -/
theorem State.setTile_keeps {M : Nat} {s0 s : State} {t : Nat} {x : Tile} (m : M.testBit 12 = true)
    (c : Canon s0.canonical x) (h : Keeps M s0 s) : Keeps M s0 (s.setTile t x) where
  pending := h.pending
  fused := h.fused
  canon a := ⟨(h.canon a).regs, (h.canon a).pages, (h.canon a).vat, fun k => by
    show ((s.tiles.set {} ⟨t, 0, 0⟩ x).get {} k).canonical
    by_cases e : k = ⟨t, 0, 0⟩
    · rw [e, Tab.get_set_same]; exact c.of a
    · rw [Tab.get_set_ne e]; exact (h.canon a).tiles k⟩
  regs := h.regs
  pow := h.pow
  qual := h.qual
  flt := h.flt
  shadows := h.shadows
  rcd := h.rcd
  tim := h.tim
  mgt := h.mgt
  lease := h.lease
  ports := h.ports
  rings := h.rings
  engs := h.engs
  lsc := h.lsc
  tiles a := absurd m (by rw [a]; decide)
  parts := h.parts
  pages := h.pages
  vmem := h.vmem
  idle := h.idle
  rot := h.rot
  gov := h.gov
  herd := h.herd
  pack := h.pack
  est := h.est
  ctr := h.ctr
  field := h.field
  rnd := h.rnd
  freeIx := h.freeIx
  mail := h.mail
  stored := h.stored
  clock := h.clock
  lines := h.lines

/-! ### Memories -/

theorem foldl_wf {α : Type} (d : Byte) (f : List Host.Cell → α → List Host.Cell) (l : List α) {m : List Host.Cell}
    (h : Memory.wf d m = true) (g : ∀ n a, Memory.wf d n = true → Memory.wf d (f n a) = true) :
    Memory.wf d (l.foldl f m) = true := by
  induction l generalizing m with
  | nil => exact h
  | cons a l ih => exact ih (g _ _ h)

theorem putW32_wf {m : List Host.Cell} (a v : Nat) (h : Memory.wf 0 m = true) : Memory.wf 0 (putW32 m a v) = true :=
  memWrite_rise _ _ _ h

theorem Pass.rowInto_wf (p : Pass) (im : Image) (row : Bytes) (sub r : Nat) (c : List Host.Cell) (h : Memory.wf 0 c = true) :
    Memory.wf 0 (p.rowInto im row sub r c) = true :=
  foldl_wf 0 _ _ h fun _ _ h1 => foldl_wf 0 _ _ h1 fun _ _ h2 => putW32_wf _ _ h2

theorem Pass.reduceInto_wf (p : Pass) (kept : Tab (Nat × Nat)) (c : List Host.Cell) (h : Memory.wf 0 c = true) :
    Memory.wf 0 (p.reduceInto kept c) = true :=
  foldl_wf 0 _ _ h fun _ _ h1 => foldl_wf 0 _ _ h1 fun _ _ h2 => putW32_wf _ _ (putW32_wf _ _ h2)

/-! ### Operations on a tile -/

theorem Tile.put_canon (x : Tile) (sp a : Nat) (bs : Bytes) : Canon x.canonical (x.put sp a bs) := by
  refine ⟨fun h => ?_⟩
  unfold Tile.put Tile.setSpace Tile.space
  split
  · exact ⟨memWrite_rise _ _ _ h.a, h.sp, h.c, h.vr⟩
  · split
    · exact ⟨h.a, memWrite_rise _ _ _ h.sp, h.c, h.vr⟩
    · split
      · exact ⟨h.a, h.sp, memWrite_rise _ _ _ h.c, h.vr⟩
      · exact ⟨h.a, h.sp, h.c, memWrite_rise _ _ _ h.vr⟩

theorem Tile.setTok_canon (x : Tile) (k : Nat) (v : Token) : Canon x.canonical (x.setTok k v) :=
  Canon.same _ (Canon.self x) ⟨rfl, rfl, rfl, rfl⟩

theorem Tile.consume_canon (x : Tile) (w : W128) : Canon x.canonical (x.consume w).1 := by
  unfold Tile.consume
  suffices ∀ (l : List Nat) (p : Tile × Bool), Canon x.canonical p.1 → Canon x.canonical (l.foldl (fun (a : Tile × Bool) k =>
    let v := a.1.tok k
    let n := v.count - wNeeds w k
    (a.1.setTok k { count := n, poison := v.poison && n != 0 }, a.2 || v.poison)) p).1 from this _ _ (Canon.self x)
  intro l
  induction l with
  | nil => exact fun _ h => h
  | cons k l ih => exact fun p h => ih _ (Canon.step (Tile.setTok_canon ..) h)

theorem Tile.vflush_canon (x : Tile) : Canon x.canonical x.vflush :=
  Canon.same _ (Canon.foldl (f := fun (a : Tile) (w : Nat × Nat × Bytes) => a.put w.1 w.2.1 w.2.2) x.vpend (Canon.self x) fun _ _ h => Canon.step (Tile.put_canon ..) h)
    ⟨rfl, rfl, rfl, rfl⟩

theorem Tile.quench_canon (x : Tile) (e : PEnt) : Canon x.canonical (x.quench e) := by
  unfold Tile.quench
  refine Canon.ite (fun _ => Canon.self x) (fun _ => Canon.ite (fun _ => x.vflush_canon) (fun _ =>
    Canon.ite (fun _ => Canon.ite (fun _ => ?_) (fun _ => Canon.self x)) (fun _ => Canon.self x)))
  exact Canon.same _ (Canon.self x) ⟨rfl, rfl, rfl, rfl⟩

theorem Tile.emptied_canon (x : Tile) : Canon x.canonical x.emptied :=
  Canon.same _ (Canon.foldl (f := Tile.quench) x.ents (Canon.self x) fun _ _ h => Canon.step (Tile.quench_canon ..) h) ⟨rfl, rfl, rfl, rfl⟩

theorem Tile.reported_canon (x : Tile) (r : PailRep) : Canon x.canonical (x.reported r) :=
  Canon.same _ (Canon.self x) ⟨rfl, rfl, rfl, rfl⟩

theorem Tile.rampOn_canon (x : Tile) : Canon x.canonical x.rampOn := Canon.same _ (Canon.self x) ⟨rfl, rfl, rfl, rfl⟩

theorem Tile.record_canon (x : Tile) (l : Nat) (f : PassRec → PassRec) : Canon x.canonical (x.record l f) :=
  Canon.same _ (Canon.self x) ⟨rfl, rfl, rfl, rfl⟩

theorem Tile.topRow_canon (x : Tile) (v : Vtopk) (i : Nat) : Canon x.canonical (x.topRow v i) :=
  Canon.foldl _ (Canon.self x) fun _ _ h => Canon.step (Tile.put_canon ..) (Canon.step (Tile.put_canon ..) h)

theorem Tile.topInit_canon (x : Tile) (v : Vtopk) : Canon x.canonical (x.topInit v) := by
  unfold Tile.topInit
  extract_lets y
  exact Canon.same _ (Canon.foldl (f := fun (y : Tile) r =>
    (y.put 3 ((v.vb + r) * 1024) ((List.range 256).flatMap fun _ => leBytes 4 (topWorst v.largest v.ft))).put 3
      ((v.vb + v.k + r) * 1024) ((List.range 256).flatMap fun _ => leBytes 4 0xFFFFFFFF)) (List.range v.k) (Canon.self x)
    fun _ _ h => Canon.step (Tile.put_canon ..) (Canon.step (Tile.put_canon ..) h)) ⟨rfl, rfl, rfl, rfl⟩

theorem Tile.vdrain_canon (n k : Nat) (x : Tile) : Canon x.canonical (Tile.vdrain n k x) := by
  induction k generalizing x with
  | zero => exact Canon.self x
  | succ k ih =>
    unfold Tile.vdrain
    split
    · exact Canon.self x
    · split
      · exact Canon.step (ih _) (Canon.step (Tile.put_canon ..) (Canon.same _ (Canon.self x) ⟨rfl, rfl, rfl, rfl⟩))
      · exact Canon.self x

theorem Tile.takeSlot_canon (x y : Tile) (e : PEnt) (h : x.takeSlot = some (e, y)) : Canon x.canonical y := by
  unfold Tile.takeSlot at h
  split at h
  · cases h; exact Canon.same _ (Canon.self x) ⟨rfl, rfl, rfl, rfl⟩
  · obtain ⟨z, -, g⟩ := Option.map_eq_some_iff.1 h
    cases g; exact Canon.same _ (Canon.self x) ⟨rfl, rfl, rfl, rfl⟩

theorem Tile.loopAside_canon (x : Tile) : Canon x.canonical x.loopAside := by
  unfold Tile.loopAside
  split
  · exact Canon.same (x := x) _ (Canon.self x) ⟨rfl, rfl, rfl, rfl⟩
  · exact Canon.self x

theorem Tile.preempt_canon (x : Tile) (lvl : Nat) (drop : Nat → Bool) : Canon x.canonical (x.preempt lvl drop) := by
  unfold Tile.preempt
  extract_lets fate gone out lower stopped y ents ss y1 y2 y3
  have hy : Canon x.canonical y := Canon.foldl (f := Tile.quench) stopped (Canon.self x) fun _ _ h => Canon.step (Tile.quench_canon ..) h
  have h1 : Canon x.canonical y1 := Canon.foldl _ hy fun _ _ h => Canon.step (Tile.record_canon ..) h
  have h2 : Canon x.canonical y2 := by
    unfold y2
    split
    · refine Canon.ite (fun _ => ?_) (fun _ => h1)
      exact Canon.same (x := y1) _ h1 ⟨rfl, rfl, rfl, rfl⟩
    · exact h1
  have h3 : Canon x.canonical y3 := Canon.foldl _ h2 fun _ _ h => Canon.step (Tile.record_canon ..) h
  exact Canon.same _ h3 ⟨rfl, rfl, rfl, rfl⟩

end Sys2Proof.Machine
end

