-- ==== Sys2Proof/Laws/KeepsMsgs.lean ====
section
/-! SUPPORT. The frame of every function of Machine/Msgs.lean: what it may change, and that it keeps the canonical forms and
the waiting commands. -/
namespace Sys2Proof.Machine

set_option Elab.async false

theorem State.setPort_keeps (s : State) (k : Nat) (p : Port) :
    Keeps 0x100 s (State.setPort s k p) := by
  unfold State.setPort
  refine (Keeps.setPorts _ rfl ?_)
  exact Keeps.refl _ _

theorem State.mPush_keeps (s : State) (p : Nat) (m : Msg) :
    Keeps mask1 s (State.mPush s p m) := by
  unfold State.mPush
  split
  · rename_i y1 y2 y3
    refine Keeps.ite (fun _ => ?_) (fun _ => ?_)
    · extract_lets v4
      refine Keeps.step (State.setPort_keeps ..) rfl ?_
      exact Keeps.refl _ _
    · refine Keeps.count rfl ?_
      exact Keeps.refl _ _
  · rename_i y5 y6
    refine Keeps.count rfl ?_
    exact Keeps.refl _ _

theorem State.partEvent_keeps (s : State) (p : Nat) (code : Nat) (lvl : Nat) (addr : Nat) :
    Keeps mask1 s (State.partEvent s p code lvl addr) := by
  unfold State.partEvent
  refine Keeps.step (State.mPush_keeps ..) rfl ?_
  exact Keeps.refl _ _

end Sys2Proof.Machine
end

