-- ==== Sys2Proof/Laws/KeepsEvents.lean ====
section
/-! SUPPORT. The frame of every function of Machine/Events.lean: what it may change, and that it keeps the canonical forms and
the waiting commands. -/
namespace Sys2Proof.Machine

set_option Elab.async false

theorem State.setBlk_keeps (s : State) (c : Nat) (i : Nat) (b : FltBlk) :
    Keeps 0x4 s (State.setBlk s c i b) := by
  unfold State.setBlk
  refine (Keeps.setFlt _ rfl ?_)
  exact Keeps.refl _ _

theorem State.setHost_keeps (s : State) (a1 : Nat) (a2 : HostSt) :
    Keeps 0x40 s (State.setHost s a1 a2) := by
  unfold State.setHost
  extract_lets v1
  refine (Keeps.setMgt _ rfl ?_)
  exact Keeps.refl _ _

theorem State.offerAt_keeps (s : State) (optime : Nat) (pcyc : Nat) (src : Nat) (inst : Nat) (kind : Nat) (payload : Bytes) :
    Keeps 0x10 s (State.offerAt s optime pcyc src inst kind payload) := by
  unfold State.offerAt
  refine (Keeps.setRcd _ rfl id ?_)
  exact Keeps.refl _ _

theorem State.offer_keeps (s : State) (src : Nat) (inst : Nat) (kind : Nat) (payload : Bytes) :
    Keeps 0x10 s (State.offer s src inst kind payload) := by
  unfold State.offer
  refine Keeps.step (State.offerAt_keeps ..) rfl ?_
  exact Keeps.refl _ _

theorem State.noteLost_keeps (s : State) (h : Nat) (n : Nat) :
    Keeps mask2 s (State.noteLost s h n) := by
  unfold State.noteLost
  extract_lets v1
  refine Keeps.count rfl ?_
  refine Keeps.step (State.setHost_keeps ..) rfl ?_
  exact Keeps.refl _ _

theorem State.notifyHost_keeps (s : State) (h : Nat) (cls : Nat) (code : Nat) (inst : Nat) (typ : Nat) (lvl : Nat) (rseq : Nat) (data : Bytes) :
    Keeps mask2 s (State.notifyHost s h cls code inst typ lvl rseq data) := by
  unfold State.notifyHost
  refine Keeps.ite (fun _ => ?_) (fun _ => ?_)
  · extract_lets v1 v2 v3 v4 v5
    have h6 : Keeps mask2 s v4 := by
      unfold v4
      refine Keeps.step (State.setHost_keeps ..) rfl ?_
      exact Keeps.refl _ _
    clear_value v4
    refine Keeps.ite (fun _ => ?_) (fun _ => ?_)
    · refine (Keeps.setMgt _ rfl ?_)
      exact h6
    · refine Keeps.step (State.noteLost_keeps ..) rfl ?_
      refine Keeps.step (State.setHost_keeps ..) rfl ?_
      exact Keeps.refl _ _
  · exact Keeps.refl _ _

theorem State.notify_keeps (s : State) (cls : Nat) (code : Nat) (inst : Nat) (typ : Nat) (lvl : Nat) (rseq : Nat) (data : Bytes) :
    Keeps mask2 s (State.notify s cls code inst typ lvl rseq data) := by
  unfold State.notify
  refine Keeps.foldl _ ?_ (fun a1 b2 k3 => ?_)
  · exact Keeps.refl _ _
  · refine Keeps.step (State.notifyHost_keeps ..) rfl ?_
    exact k3

theorem State.shadowed_keeps (s : State) (e : Ev) (d : Det) (sh : Shadow) :
    Keeps 0x1c s (State.shadowed s e d sh) := by
  unfold State.shadowed
  extract_lets v1 v2 v3
  have h4 : Keeps 0x1c s v2 := by
    unfold v2
    refine Keeps.step (State.setBlk_keeps ..) rfl ?_
    exact Keeps.refl _ _
  clear_value v2
  refine Keeps.ite (fun _ => ?_) (fun _ => ?_)
  · refine Keeps.step (State.offer_keeps ..) rfl ?_
    refine (Keeps.setShadows _ rfl ?_)
    exact h4
  · exact h4

theorem State.event_keeps (s : State) (e : Ev) :
    Keeps mask3 s (State.event s e) := by
  unfold State.event
  split
  · rename_i y1 y2 y3
    refine Keeps.step (State.shadowed_keeps ..) rfl ?_
    exact Keeps.refl _ _
  · rename_i y4 y5
    extract_lets v6 v7 v8 v9 v10 v11 v12 v13 v14
    have h15 : Keeps mask3 s v12 := by
      unfold v12
      refine Keeps.step (State.setBlk_keeps ..) rfl ?_
      exact Keeps.refl _ _
    clear_value v12
    have h16 : Keeps mask3 s v13 := by
      unfold v13
      refine Keeps.ite (fun _ => ?_) (fun _ => ?_)
      · refine Keeps.step (State.offer_keeps ..) rfl ?_
        exact h15
      · exact h15
    clear_value v13
    have h17 : Keeps mask3 s v14 := by
      unfold v14
      refine Keeps.step (State.notify_keeps ..) rfl ?_
      exact h16
    clear_value v14
    refine Keeps.ite (fun _ => ?_) (fun _ => ?_)
    · split
      · rename_i y18 y19 y20 y21
        refine Keeps.step (State.partEvent_keeps ..) rfl ?_
        exact h17
      · rename_i y22 y23 y24
        exact h17
    · exact h16

theorem State.recsIn_keeps (s : State) :
    Keeps 0x10 s (State.recsIn s) := by
  unfold State.recsIn
  refine (Keeps.setRcd _ rfl id ?_)
  exact Keeps.refl _ _

theorem State.recsOrder_keeps (s : State) : Keeps 0x50 s s.recsOrder := by
  unfold State.recsOrder
  extract_lets q k l base seqOf r m
  exact Keeps.setMgt { s.mgt with
      notes := s.mgt.notes.map fun m => if m.minor < 3 then m else { m with rseq := seqOf m.rseq } } rfl
    (Keeps.setRcd (s := s) { s.rcd with queue := q.take k ++ l.map (·.2) } rfl id (Keeps.refl _ s))

theorem State.overflows_keeps (l0 : Nat) (a1 : State) : Keeps mask3 a1 (State.overflows l0 a1) := by
  induction l0 generalizing a1 with
  | zero => exact Keeps.refl _ _
  | succ n ih => exact Keeps.step (ih _) rfl (Keeps.step (State.event_keeps ..) rfl (Keeps.refl _ _))

theorem State.rseqDrop_keeps (s : State) (k : Nat) (n : Nat) :
    Keeps 0x40 s (State.rseqDrop s k n) := by
  unfold State.rseqDrop
  extract_lets v1 v2 v3
  refine (Keeps.setMgt _ rfl ?_)
  exact Keeps.refl _ _

theorem State.recsTrim_keeps (l0 : Nat) (a1 : State) : Keeps mask4 a1 (State.recsTrim l0 a1) := by
  induction l0 generalizing a1 with
  | zero => exact Keeps.setRcd _ rfl id (Keeps.step (State.rseqDrop_keeps ..) rfl (Keeps.refl _ _))
  | succ n ih =>
    unfold State.recsTrim
    extract_lets r n lost at_ t s1
    have h1 : Keeps mask4 a1 s1 := Keeps.count rfl (Keeps.setRcd _ rfl id (Keeps.step (State.rseqDrop_keeps ..) rfl (Keeps.refl _ _)))
    clear_value s1
    exact Keeps.ite (fun _ => Keeps.refl _ _) (fun _ => Keeps.step (ih _) rfl (Keeps.step (State.overflows_keeps ..) rfl h1))

theorem State.recsOut_keeps (s : State) :
    Keeps mask4 s (State.recsOut s) := by
  unfold State.recsOut
  refine Keeps.ite (fun _ => ?_) (fun _ => ?_)
  · exact Keeps.refl _ _
  · refine Keeps.step (State.recsIn_keeps ..) rfl ?_
    refine Keeps.step (State.recsTrim_keeps ..) rfl ?_
    refine Keeps.step (State.recsOrder_keeps ..) rfl ?_
    exact Keeps.refl _ _

theorem State.declareShadow_keeps (s : State) (kind : Nat) (inst : Nat) (fid : Nat) (dets : List Det) :
    Keeps 0x8 s (State.declareShadow s kind inst fid dets) := by
  unfold State.declareShadow
  refine (Keeps.setShadows _ rfl ?_)
  exact Keeps.refl _ _

end Sys2Proof.Machine
end

