-- ==== Sys2Proof/Laws/KeepsMilk.lean ====
section
/-! SUPPORT. The frame of every function of Machine/Milk.lean: what it may change, and that it keeps the canonical forms and
the waiting commands. -/
namespace Sys2Proof.Machine

set_option Elab.async false

theorem State.setMon_keeps (s : State) (p : Nat) (m : Mon) :
    Keeps 0x80000 s (State.setMon s p m) := by
  unfold State.setMon
  extract_lets v1
  refine (Keeps.setHerd _ rfl ?_)
  exact Keeps.refl _ _

theorem State.hrdEv_keeps (s : State) (typ : Nat) (lvl : Nat) (a : Nat) :
    Keeps mask3 s (State.hrdEv s typ lvl a) := by
  unfold State.hrdEv
  refine Keeps.step (State.event_keeps ..) rfl ?_
  exact Keeps.refl _ _

theorem State.crcErr_keeps (s : State) :
    Keeps mask52 s (State.crcErr s) := by
  unfold State.crcErr
  refine Keeps.step (State.hrdEv_keeps ..) rfl ?_
  refine Keeps.count rfl ?_
  exact Keeps.refl _ _

theorem State.noRsp_keeps (s : State) (a : Nat) :
    Keeps mask53 s (State.noRsp s a) := by
  unfold State.noRsp
  refine Keeps.step (State.hrdEv_keeps ..) rfl ?_
  refine Keeps.count rfl ?_
  exact Keeps.refl _ _

theorem State.setSide_keeps (s : State) (ret : Bool) (a2 : HSide) :
    Keeps 0x80000 s (State.setSide s ret a2) := by
  unfold State.setSide
  refine (Keeps.setHerd _ rfl ?_)
  exact Keeps.refl _ _

theorem State.milkAt_keeps (s : State) (ret : Bool) (l : MilkLine) (f : MilkFrame) (busy : Bool) (p : Nat) :
    Keeps 0x80000 s (State.milkAt s ret l f busy p) := by
  unfold State.milkAt
  extract_lets v1
  refine Keeps.ite (fun _ => ?_) (fun _ => ?_)
  · exact Keeps.refl _ _
  · refine Keeps.ite (fun _ => ?_) (fun _ => ?_)
    · refine Keeps.step (State.setMon_keeps ..) rfl ?_
      exact Keeps.refl _ _
    · split
      · rename_i y2 y3 y4 y5 y6
        extract_lets v7 v8 v9
        have h10 : Keeps 0x80000 s v8 := by
          unfold v8
          refine Keeps.step (State.setMon_keeps ..) rfl ?_
          exact Keeps.refl _ _
        clear_value v8
        split
        · rename_i y11 y12 y13
          refine Keeps.step (State.setSide_keeps ..) rfl ?_
          exact h10
        · rename_i y14 y15
          exact h10
      · rename_i y16 y17 y18 y19
        exact Keeps.refl _ _

theorem State.milkTx_keeps (s : State) :
    Keeps 0x80000 s (State.milkTx s) := by
  unfold State.milkTx
  extract_lets v1
  refine (Keeps.setHerd _ rfl ?_)
  exact Keeps.refl _ _

theorem State.milkSend_keeps (s : State) (ret : Bool) (l : MilkLine) (f : MilkFrame) :
    Keeps mask54 s (State.milkSend s ret l f) := by
  unfold State.milkSend
  extract_lets v1 v2 v3 v4 v5 v6
  have h7 : Keeps mask54 s v4 := by
    unfold v4
    refine Keeps.step (State.milkTx_keeps ..) rfl ?_
    refine Keeps.foldl _ ?_ (fun a8 b9 k10 => ?_)
    · exact Keeps.refl _ _
    · refine Keeps.step (State.milkAt_keeps ..) rfl ?_
      exact k10
  clear_value v4
  have h11 : Keeps mask54 s v6 := by
    unfold v6
    refine (Keeps.setHerd _ rfl ?_)
    exact h7
  clear_value v6
  refine Keeps.ite (fun _ => ?_) (fun _ => ?_)
  · refine Keeps.step (State.crcErr_keeps ..) rfl ?_
    exact h11
  · exact h11

theorem State.milkAsk_keeps (s : State) (ret : Bool) (l : MilkLine) (c : MilkFrame) :
    Keeps mask54 s (State.milkAsk s ret l c) := by
  unfold State.milkAsk
  refine Keeps.step (State.milkSend_keeps ..) rfl ?_
  refine Keeps.step (State.setSide_keeps ..) rfl ?_
  exact Keeps.refl _ _

theorem State.milkBoth_keeps (s : State) (lo : MilkLine) (lr : MilkLine) (f : MilkFrame) :
    Keeps mask54 s (State.milkBoth s lo lr f) := by
  unfold State.milkBoth
  extract_lets v1
  refine Keeps.foldl _ ?_ (fun a2 b3 k4 => ?_)
  · refine Keeps.step (State.milkSend_keeps ..) rfl ?_
    exact Keeps.refl _ _
  · refine Keeps.step (State.milkAt_keeps ..) rfl ?_
    exact k4

end Sys2Proof.Machine
end

