-- ==== Sys2Proof/Laws/KeepsRegs.lean ====
section
/-! SUPPORT. The frame of every function of Machine/Regs.lean: what it may change, and that it keeps the canonical forms and
the waiting commands. -/
namespace Sys2Proof.Machine

set_option Elab.async false

theorem State.free_keeps (s : State) :
    Keeps 0x2000000 s (State.free s).2 := by
  unfold State.free
  dsimp only
  refine (Keeps.setFreeIx _ rfl ?_)
  exact Keeps.refl _ _

end Sys2Proof.Machine
end

