-- ==== Sys2Proof/Laws/KeepsPack.lean ====
section
/-! SUPPORT. The frame of every function of Machine/Pack.lean: what it may change, and that it keeps the canonical forms and
the waiting commands. -/
namespace Sys2Proof.Machine

set_option Elab.async false

theorem State.pkmEv_keeps (s : State) (typ : Nat) (lvl : Nat) (addr : Nat) :
    Keeps mask3 s (State.pkmEv s typ lvl addr) := by
  unfold State.pkmEv
  refine Keeps.step (State.event_keeps ..) rfl ?_
  exact Keeps.refl _ _

theorem State.packRestart_keeps (s : State) :
    Keeps 0x100000 s (State.packRestart s) := by
  unfold State.packRestart
  refine (Keeps.setPack _ rfl ?_)
  exact Keeps.refl _ _

theorem State.packSync_keeps (s : State) :
    Keeps 0x100000 s (State.packSync s) := by
  unfold State.packSync
  extract_lets v1 v2
  have h3 : Keeps 0x100000 s v1 := by
    unfold v1
    refine Keeps.step (State.packRestart_keeps ..) rfl ?_
    exact Keeps.refl _ _
  clear_value v1
  refine Keeps.ite (fun _ => ?_) (fun _ => ?_)
  · refine (Keeps.setPack _ rfl ?_)
    exact h3
  · exact Keeps.refl _ _

theorem State.ccValid_keeps (s : State) (v : Int) (n : Nat) :
    Keeps mask43 s (State.ccValid s v n) := by
  unfold State.ccValid
  extract_lets v1 v2 v3
  unfold State.count
  refine Keeps.put rfl ?_
  refine (Keeps.setPack _ rfl ?_)
  exact Keeps.refl _ _

theorem State.ccHold_keeps (s : State) (n : Nat) :
    Keeps mask44 s (State.ccHold s n) := by
  unfold State.ccHold
  extract_lets v1 v2
  refine Keeps.ite (fun _ => ?_) (fun _ => ?_)
  · refine (Keeps.setPack _ rfl ?_)
    exact Keeps.refl _ _
  · refine Keeps.ite (fun _ => ?_) (fun _ => ?_)
    · refine (Keeps.setPack _ rfl ?_)
      exact Keeps.refl _ _
    · refine Keeps.step (State.pkmEv_keeps ..) rfl ?_
      unfold State.putFlag
      refine Keeps.put rfl ?_
      refine (Keeps.setPack _ rfl ?_)
      exact Keeps.refl _ _

theorem State.ccSaturated_keeps (s : State) (v : Int) (n : Nat) :
    Keeps mask45 s (State.ccSaturated s v n) := by
  unfold State.ccSaturated
  extract_lets v1 v2 v3
  have h4 : Keeps mask45 s v1 := by
    unfold v1
    unfold State.putFlag
    refine Keeps.put rfl ?_
    exact Keeps.refl _ _
  clear_value v1
  have h8 : Keeps mask45 s v3 := by
    unfold v3
    refine Keeps.ite (fun _ => ?_) (fun _ => ?_)
    · exact h4
    · refine Keeps.step (State.pkmEv_keeps ..) rfl ?_
      refine (Keeps.setPack _ rfl ?_)
      exact h4
  clear_value v3
  refine Keeps.step (State.ccValid_keeps ..) rfl ?_
  exact h8

theorem State.ccTake_keeps (s : State) (st : Nat) (v : Int) (n : Nat) (hall : Bool) :
    Keeps mask46 s (State.ccTake s st v n hall) := by
  unfold State.ccTake
  extract_lets v1 v2 v3
  have h4 : Keeps mask46 s v3 := by
    unfold v3
    refine (Keeps.setPack _ rfl ?_)
    exact Keeps.refl _ _
  clear_value v3
  refine Keeps.ite (fun _ => ?_) (fun _ => ?_)
  · refine Keeps.ite (fun _ => ?_) (fun _ => ?_)
    · refine Keeps.step (State.ccValid_keeps ..) rfl ?_
      unfold State.count
      refine Keeps.put rfl ?_
      exact Keeps.refl _ _
    · refine Keeps.ite (fun _ => ?_) (fun _ => ?_)
      · refine Keeps.step (State.ccSaturated_keeps ..) rfl ?_
        exact Keeps.refl _ _
      · refine Keeps.step (State.ccValid_keeps ..) rfl ?_
        exact Keeps.refl _ _
  · refine Keeps.ite (fun _ => ?_) (fun _ => ?_)
    · refine Keeps.step (State.ccValid_keeps ..) rfl ?_
      exact h4
    · refine Keeps.step (State.ccHold_keeps ..) rfl ?_
      exact h4

theorem State.setGain_keeps (s : State) (g : Nat) :
    Keeps 0x100000 s (State.setGain s g) := by
  unfold State.setGain
  refine Keeps.ite (fun _ => ?_) (fun _ => ?_)
  · exact Keeps.refl _ _
  · refine (Keeps.setPack _ rfl ?_)
    exact Keeps.refl _ _

theorem State.gainWatch_keeps (s : State) (st : Nat) (v : ℤ) :
    Keeps 0x100000 s (State.gainWatch s st v) := by
  unfold State.gainWatch
  extract_lets v1 v2
  refine (Keeps.setPack _ rfl ?_)
  exact Keeps.refl _ _

theorem State.hallCurrent_keeps (s : State) (uv : Int) :
    Keeps 0x2000000 s (State.hallCurrent s uv).2 := by
  unfold State.hallCurrent
  extract_lets v1 v2
  have h3 : Keeps 0x2000000 s v2.2 := by
    unfold v2
    refine Keeps.step (State.free_keeps ..) rfl ?_
    exact Keeps.refl _ _
  clear_value v2
  refine Keeps.iteSnd (fun _ => ?_) (fun _ => ?_)
  · dsimp only
    exact h3
  · dsimp only
    exact Keeps.refl _ _

theorem State.overEv_keeps (s : State) (c : Nat) :
    Keeps mask3 s (State.overEv s c) := by
  unfold State.overEv
  split
  · rename_i y1 y2 y3
    refine Keeps.step (State.shadowed_keeps ..) rfl ?_
    exact Keeps.refl _ _
  · rename_i y6 y7
    refine Keeps.step (State.pkmEv_keeps ..) rfl ?_
    exact Keeps.refl _ _

theorem State.packWord_keeps (s : State) (c : Nat) (w : Nat) :
    Keeps mask47 s (State.packWord s c w) := by
  unfold State.packWord
  extract_lets v1 v2 v3 v4 v5 v6 v7
  have h8 : Keeps mask47 s v1 := by
    unfold v1
    refine Keeps.put rfl ?_
    exact Keeps.refl _ _
  clear_value v1
  have h11 : Keeps mask47 s v3 := by
    unfold v3
    refine Keeps.ite (fun _ => ?_) (fun _ => ?_)
    · refine Keeps.put rfl ?_
      refine (Keeps.setPack _ rfl ?_)
      exact h8
    · exact h8
  clear_value v3
  have h17 : Keeps mask47 s v7 := by
    unfold v7
    refine (Keeps.setPack _ rfl ?_)
    exact h11
  clear_value v7
  refine Keeps.ite (fun _ => ?_) (fun _ => ?_)
  · refine Keeps.step (State.overEv_keeps ..) rfl ?_
    exact h17
  · exact h17

theorem State.packUse_keeps (s : State) (c : Nat) (st : Nat) (v : ℤ) (n : Nat) (hall : Bool) (half : Bool) :
    Keeps mask46 s (State.packUse s c st v n hall half) := by
  unfold State.packUse
  refine Keeps.ite (fun _ => ?_) (fun _ => ?_)
  · extract_lets v1
    have h2 : Keeps mask46 s v1 := by
      unfold v1
      refine Keeps.step (State.gainWatch_keeps ..) rfl ?_
      refine Keeps.step (State.ccTake_keeps ..) rfl ?_
      exact Keeps.refl _ _
    clear_value v1
    refine Keeps.ite (fun _ => ?_) (fun _ => ?_)
    · refine Keeps.step (State.setGain_keeps ..) rfl ?_
      exact h2
    · exact h2
  · refine Keeps.ite (fun _ => ?_) (fun _ => ?_)
    · refine Keeps.ite (fun _ => ?_) (fun _ => ?_)
      · refine (Keeps.setPack _ rfl ?_)
        exact Keeps.refl _ _
      · exact Keeps.refl _ _
    · refine Keeps.ite (fun _ => ?_) (fun _ => ?_)
      · refine Keeps.ite (fun _ => ?_) (fun _ => ?_)
        · refine (Keeps.setPack _ rfl ?_)
          exact Keeps.refl _ _
        · exact Keeps.refl _ _
      · exact Keeps.refl _ _

theorem State.packSample_keeps (s : State) (c : Nat) (raw : Int) (ovr : Bool) (bad : Bool) (n : Nat) (hall : Bool) (early : Bool) (half : Bool) :
    Keeps mask48 s (State.packSample s c raw ovr bad n hall early half) := by
  unfold State.packSample
  extract_lets v1 v2 v3 v4 v5 v6 v7
  have h8 : Keeps mask48 s v1.2 := by
    unfold v1
    refine Keeps.iteSnd (fun _ => ?_) (fun _ => ?_)
    · refine Keeps.step (State.hallCurrent_keeps ..) rfl ?_
      exact Keeps.refl _ _
    · dsimp only
      exact Keeps.refl _ _
  clear_value v1
  have h14 : Keeps mask48 s v5 := by
    unfold v5
    exact h8
  clear_value v5
  have h16 : Keeps mask48 s v6 := by
    unfold v6
    refine Keeps.ite (fun _ => ?_) (fun _ => ?_)
    · exact h8
    · refine (Keeps.setPack _ rfl ?_)
      exact h14
  clear_value v6
  refine Keeps.ite (fun _ => ?_) (fun _ => ?_)
  · refine Keeps.ite (fun _ => ?_) (fun _ => ?_)
    · refine Keeps.step (State.packUse_keeps ..) rfl ?_
      refine Keeps.step (State.packWord_keeps ..) rfl ?_
      refine Keeps.step (State.pkmEv_keeps ..) rfl ?_
      exact h16
    · refine Keeps.step (State.packUse_keeps ..) rfl ?_
      refine Keeps.step (State.packWord_keeps ..) rfl ?_
      exact h16
  · exact Keeps.refl _ _

theorem State.syncTimeout_keeps (s : State) (c : Nat) :
    Keeps mask49 s (State.syncTimeout s c) := by
  unfold State.syncTimeout
  refine Keeps.ite (fun _ => ?_) (fun _ => ?_)
  · refine Keeps.put rfl ?_
    extract_lets v3
    refine (Keeps.setPack _ rfl ?_)
    exact Keeps.refl _ _
  · exact Keeps.refl _ _

theorem State.gainUp_keeps (s : State) :
    Keeps 0x100000 s (State.gainUp s) := by
  unfold State.gainUp
  split
  · rename_i y1 y2 y3
    refine Keeps.ite (fun _ => ?_) (fun _ => ?_)
    · refine Keeps.step (State.setGain_keeps ..) rfl ?_
      exact Keeps.refl _ _
    · exact Keeps.refl _ _
  · rename_i y4 y5
    exact Keeps.refl _ _

theorem State.packTick_keeps (s : State) :
    Keeps 0x100000 s (State.packTick s) := by
  unfold State.packTick
  extract_lets v1
  refine (Keeps.setPack _ rfl ?_)
  exact Keeps.refl _ _

theorem State.pkmCfgActs_keeps (was : State) (s : State) (c : Nat) :
    Keeps mask50 s (State.pkmCfgActs was s c) := by
  unfold State.pkmCfgActs
  extract_lets v1 v2 v3 v4
  have h5 : Keeps mask50 s v1 := by
    unfold v1
    refine Keeps.put rfl ?_
    exact Keeps.refl _ _
  clear_value v1
  have h8 : Keeps mask50 s v2 := by
    unfold v2
    refine Keeps.ite (fun _ => ?_) (fun _ => ?_)
    · exact h5
    · refine Keeps.put rfl ?_
      exact h5
  clear_value v2
  have h13 : Keeps mask50 s v4 := by
    unfold v4
    refine Keeps.ite (fun _ => ?_) (fun _ => ?_)
    · refine (Keeps.setPack _ rfl ?_)
      exact h8
    · exact h8
  clear_value v4
  refine Keeps.ite (fun _ => ?_) (fun _ => ?_)
  · refine Keeps.step (State.setGain_keeps ..) rfl ?_
    exact h13
  · exact h13

theorem State.isoMean_keeps (s : State) :
    Keeps 0x2000000 s (State.isoMean s).2 := by
  unfold State.isoMean
  refine Keeps.iteSnd (fun _ => ?_) (fun _ => ?_)
  · extract_lets v2
    have h3 : Keeps 0x2000000 s v2.2 := by
      unfold v2
      refine Keeps.step (State.free_keeps ..) rfl ?_
      exact Keeps.refl _ _
    clear_value v2
    dsimp only
    exact h3
  · dsimp only
    exact Keeps.refl _ _

theorem State.isoEnd_keeps (s : State) :
    Keeps mask51 s (State.isoEnd s) := by
  unfold State.isoEnd
  refine Keeps.ite (fun _ => ?_) (fun _ => ?_)
  · extract_lets v1 v2 v3 v4 v5 v6 v7 v8 v9
    have h10 : Keeps mask51 s v2.2 := by
      unfold v2
      refine Keeps.step (State.isoMean_keeps ..) rfl ?_
      exact Keeps.refl _ _
    clear_value v2
    have h11 : Keeps mask51 s v5 := by
      unfold v5
      exact h10
    clear_value v5
    have h12 : Keeps mask51 s v6 := by
      unfold v6
      refine Keeps.put rfl ?_
      refine (Keeps.setPack _ rfl ?_)
      exact h11
    clear_value v6
    have h13 : Keeps mask51 s v9.2 := by
      unfold v9
      refine Keeps.iteSnd (fun _ => ?_) (fun _ => ?_)
      · refine Keeps.step (State.free_keeps ..) rfl ?_
        exact h12
      · exact h12
    clear_value v9
    refine Keeps.ite (fun _ => ?_) (fun _ => ?_)
    · refine Keeps.put rfl ?_
      refine Keeps.put rfl ?_
      exact h13
    · exact h12
  · exact Keeps.refl _ _

end Sys2Proof.Machine
end

