-- ==== Sys2Proof/Laws/KeepsService.lean ====
section
/-! SUPPORT. The frame of every function of Machine/Service.lean: what it may change, and that it keeps the canonical forms and
the waiting commands. -/
namespace Sys2Proof.Machine

set_option Elab.async false

theorem State.svcSettle_keeps (s : State) :
    Keeps mask5 s (State.svcSettle s) := by
  unfold State.svcSettle
  extract_lets v1
  have h2 : Keeps mask5 s v1 := by
    unfold v1
    unfold State.putFlag
    refine Keeps.put rfl ?_
    exact Keeps.refl _ _
  clear_value v1
  unfold State.putFlag
  refine Keeps.put rfl ?_
  exact h2

theorem State.svcReport_keeps (s : State) :
    Keeps mask6 s (State.svcReport s) := by
  unfold State.svcReport
  extract_lets v1
  refine Keeps.step (State.notify_keeps ..) rfl ?_
  refine Keeps.step (State.offer_keeps ..) rfl ?_
  exact Keeps.refl _ _

theorem State.withSvc_keeps {M : Nat} {s0 s : State} {f : State → State} (m : mask5 ||| M = M) (h : Keeps M s0 s)
    (g : ∀ t, Keeps M s0 t → Keeps M s0 (f t)) : Keeps M s0 (s.withSvc f) :=
  Keeps.step (State.svcSettle_keeps ..) m (g _ h)

theorem State.serviced_keeps {M : Nat} {s0 was s : State} (m : mask6 ||| M = M) (h : Keeps M s0 s) :
    Keeps M s0 (State.serviced was s) :=
  Keeps.ite (fun _ => Keeps.step (State.svcReport_keeps ..) m h) (fun _ => h)

theorem State.frontEvt_keeps (s : State) (d : Nat) :
    Keeps mask7 s (State.frontEvt s d) := by
  unfold State.frontEvt
  extract_lets v1 v2
  dsimp only [v2]
  refine Keeps.put rfl ?_
  refine Keeps.put rfl ?_
  refine Keeps.put rfl ?_
  refine Keeps.put rfl ?_
  refine Keeps.put rfl ?_
  refine Keeps.put rfl ?_
  exact Keeps.refl _ _

theorem State.frontReport_keeps (was : State) (s : State) :
    Keeps mask8 s (State.frontReport was s) := by
  unfold State.frontReport
  extract_lets v1 v2 v3
  refine Keeps.ite (fun _ => ?_) (fun _ => ?_)
  · exact Keeps.refl _ _
  · refine Keeps.step (State.notify_keeps ..) rfl ?_
    refine Keeps.step (State.offer_keeps ..) rfl ?_
    refine Keeps.step (State.frontEvt_keeps ..) rfl ?_
    exact Keeps.refl _ _

theorem State.gcOne_keeps (s : State) (n : Nat) :
    Keeps mask9 s (State.gcOne s n) := by
  unfold State.gcOne
  extract_lets v1 v2 v3
  have h4 : Keeps mask9 s v3 := by
    unfold v3
    refine (Keeps.setTim _ rfl ?_)
    exact Keeps.refl _ _
  clear_value v3
  refine Keeps.ite (fun _ => ?_) (fun _ => ?_)
  · refine Keeps.step (State.notify_keeps ..) rfl ?_
    unfold State.putBitOf
    refine Keeps.put rfl ?_
    exact h4
  · exact h4

theorem State.gcWraps_keeps (s : State) (n : Nat) :
    Keeps mask9 s (State.gcWraps s n) := by
  unfold State.gcWraps
  refine Keeps.ite (fun _ => ?_) (fun _ => ?_)
  · refine Keeps.step (State.gcOne_keeps ..) rfl ?_
    exact Keeps.refl _ _
  · exact Keeps.refl _ _

theorem State.gcSrc_keeps (s : State) (src : Nat) :
    Keeps mask9 s (State.gcSrc s src) := by
  unfold State.gcSrc
  refine Keeps.foldl _ ?_ (fun a1 b2 k3 => ?_)
  · exact Keeps.refl _ _
  · refine Keeps.ite (fun _ => ?_) (fun _ => ?_)
    · refine Keeps.step (State.gcOne_keeps ..) rfl ?_
      exact k3
    · exact k3

theorem State.gcSrcN_keeps (l0 : Nat) (a1 : Nat) (a2 : State) :
    Keeps mask9 a2 (State.gcSrcN l0 a1 a2) := by
  induction l0 generalizing a1 a2 with
  | zero =>
    unfold State.gcSrcN
    exact Keeps.refl _ _
  | succ l0 ih =>
    unfold State.gcSrcN
    refine Keeps.step (ih ..) rfl ?_
    refine Keeps.step (State.gcSrc_keeps ..) rfl ?_
    exact Keeps.refl _ _

end Sys2Proof.Machine
end

