-- ==== Sys2Proof/Laws/KeepsHerd.lean ====
section
/-! SUPPORT. The frame of every function of Machine/Herd.lean: what it may change, and that it keeps the canonical forms and
the waiting commands. -/
namespace Sys2Proof.Machine

set_option Elab.async false

theorem State.assistSettle_keeps (s : State) :
    Keeps mask55 s (State.assistSettle s) := by
  unfold State.assistSettle
  extract_lets v1 v2 v3
  refine Keeps.put rfl ?_
  exact Keeps.refl _ _

theorem State.herdMode_keeps (s : State) (m : Nat) :
    Keeps mask56 s (State.herdMode s m) := by
  unfold State.herdMode
  extract_lets v1
  have h2 : Keeps mask56 s v1 := by
    unfold v1
    refine Keeps.put rfl ?_
    exact Keeps.refl _ _
  clear_value v1
  refine Keeps.ite (fun _ => ?_) (fun _ => ?_)
  · exact h2
  · refine Keeps.put rfl ?_
    exact h2

theorem State.staleWords_keeps (s : State) (a : Nat) :
    Keeps mask57 s (State.staleWords s a) := by
  unfold State.staleWords
  extract_lets v1
  have h2 : Keeps mask57 s v1 := by
    unfold v1
    refine Keeps.foldl _ ?_ (fun a4 b5 k6 => ?_)
    · exact Keeps.refl _ _
    · extract_lets v9
      refine Keeps.put rfl ?_
      exact k6
  clear_value v1
  refine Keeps.foldl _ ?_ (fun a13 b14 k15 => ?_)
  · exact h2
  · extract_lets v18
    refine Keeps.put rfl ?_
    exact k15

theorem State.staleAll_keeps (s : State) :
    Keeps mask57 s (State.staleAll s) := by
  unfold State.staleAll
  refine Keeps.foldl _ ?_ (fun a1 b2 k3 => ?_)
  · exact Keeps.refl _ _
  · refine Keeps.step (State.staleWords_keeps ..) rfl ?_
    exact k3

theorem State.storeWords_keeps (s : State) (a : Nat) (round : Nat) (cells : List Nat) (temps : List Nat) :
    Keeps mask58 s (State.storeWords s a round cells temps) := by
  unfold State.storeWords
  extract_lets v1
  have h2 : Keeps mask58 s v1 := by
    unfold v1
    refine Keeps.foldl _ ?_ (fun a4 b5 k6 => ?_)
    · exact Keeps.refl _ _
    · refine Keeps.put rfl ?_
      refine Keeps.put rfl ?_
      exact k6
  clear_value v1
  refine Keeps.foldl _ ?_ (fun a12 b13 k14 => ?_)
  · exact h2
  · refine Keeps.put rfl ?_
    refine Keeps.put rfl ?_
    exact k14

theorem State.monChange_keeps (s : State) :
    Keeps mask59 s (State.monChange s) := by
  unfold State.monChange
  unfold State.putFlag
  refine Keeps.put rfl ?_
  extract_lets v3
  refine (Keeps.setHerd _ rfl ?_)
  exact Keeps.refl _ _

theorem State.toBroken_keeps (s : State) :
    Keeps mask60 s (State.toBroken s) := by
  unfold State.toBroken
  extract_lets v1 v2
  refine Keeps.step (State.hrdEv_keeps ..) rfl ?_
  unfold State.count
  refine Keeps.put rfl ?_
  refine Keeps.put rfl ?_
  refine (Keeps.setHerd _ rfl ?_)
  exact Keeps.refl _ _

theorem State.breakPos_keeps (s : State) :
    Keeps mask61 s (State.breakPos s) := by
  unfold State.breakPos
  refine Keeps.ite (fun _ => ?_) (fun _ => ?_)
  · refine Keeps.put rfl ?_
    exact Keeps.refl _ _
  · exact Keeps.refl _ _

theorem State.stopRead_keeps (s : State) (ret : Bool) :
    Keeps 0x80000 s (State.stopRead s ret) := by
  unfold State.stopRead
  extract_lets v1
  refine Keeps.ite (fun _ => ?_) (fun _ => ?_)
  · refine Keeps.step (State.setSide_keeps ..) rfl ?_
    exact Keeps.refl _ _
  · exact Keeps.refl _ _

theorem State.advance_keeps (s : State) (ret : Bool) :
    Keeps mask62 s (State.advance s ret) := by
  unfold State.advance
  extract_lets v1
  refine Keeps.step (State.breakPos_keeps ..) rfl ?_
  refine Keeps.step (State.stopRead_keeps ..) rfl ?_
  refine Keeps.step (State.setSide_keeps ..) rfl ?_
  exact Keeps.refl _ _

theorem State.milkRead_keeps (s : State) (ret : Bool) (us : Nat) (l : MilkLine) :
    Keeps mask54 s (State.milkRead s ret us l) := by
  unfold State.milkRead
  extract_lets v1 v2 v3 v4 v5
  have h6 : Keeps mask54 s v5 := by
    unfold v5
    refine (Keeps.setHerd _ rfl ?_)
    exact Keeps.refl _ _
  clear_value v5
  refine Keeps.ite (fun _ => ?_) (fun _ => ?_)
  · refine Keeps.step (State.milkAsk_keeps ..) rfl ?_
    exact h6
  · exact Keeps.refl _ _

theorem State.readFailed_keeps (s : State) (ret : Bool) :
    Keeps mask63 s (State.readFailed s ret) := by
  unfold State.readFailed
  extract_lets v1 v2
  have h3 : Keeps mask63 s v2 := by
    unfold v2
    refine Keeps.ite (fun _ => ?_) (fun _ => ?_)
    · exact Keeps.refl _ _
    · refine Keeps.step (State.staleWords_keeps ..) rfl ?_
      exact Keeps.refl _ _
  clear_value v2
  refine Keeps.ite (fun _ => ?_) (fun _ => ?_)
  · exact Keeps.refl _ _
  · refine Keeps.ite (fun _ => ?_) (fun _ => ?_)
    · refine Keeps.ite (fun _ => ?_) (fun _ => ?_)
      · refine Keeps.step (State.breakPos_keeps ..) rfl ?_
        refine Keeps.step (State.setSide_keeps ..) rfl ?_
        exact h3
      · refine Keeps.step (State.advance_keeps ..) rfl ?_
        exact h3
    · refine Keeps.step (State.setSide_keeps ..) rfl ?_
      exact Keeps.refl _ _

theorem State.takeData_keeps (s : State) (ret : Bool) (a : Nat) (b : Bytes) :
    Keeps mask64 s (State.takeData s ret a b) := by
  unfold State.takeData
  extract_lets v1 v2 v3 v4 v5 v6 v7 v8 v9 v10
  have h11 : Keeps mask64 s v5 := by
    unfold v5
    refine Keeps.step (State.storeWords_keeps ..) rfl ?_
    refine (Keeps.setHerd _ rfl ?_)
    exact Keeps.refl _ _
  clear_value v5
  have h12 : Keeps mask64 s v6 := by
    unfold v6
    refine Keeps.putFlag rfl ?_
    refine Keeps.put rfl ?_
    refine Keeps.put rfl ?_
    exact h11
  clear_value v6
  have h13 : Keeps mask64 s v7 := by
    unfold v7
    refine Keeps.putFlag rfl ?_
    exact h12
  clear_value v7
  have h14 : Keeps mask64 s v8 := by
    unfold v8
    refine Keeps.ite (fun _ => ?_) (fun _ => ?_)
    · exact h13
    · refine Keeps.step (State.noRsp_keeps ..) rfl ?_
      exact h13
  clear_value v8
  have h15 : Keeps mask64 s v9 := by
    unfold v9
    refine Keeps.ite (fun _ => ?_) (fun _ => ?_)
    · refine Keeps.step (State.monChange_keeps ..) rfl ?_
      exact h14
    · exact h14
  clear_value v9
  have h16 : Keeps mask64 s v10 := by
    unfold v10
    refine Keeps.ite (fun _ => ?_) (fun _ => ?_)
    · refine Keeps.step (State.hrdEv_keeps ..) rfl ?_
      exact h15
    · exact h15
  clear_value v10
  refine Keeps.step (State.advance_keeps ..) rfl ?_
  exact h16

theorem State.milkData_keeps (s : State) (ret : Bool) (rx : Option Bytes) :
    Keeps mask65 s (State.milkData s ret rx) := by
  unfold State.milkData
  extract_lets v1
  split
  · rename_i y2 y3 y4 y5 y6
    split
    · rename_i y7 y8
      exact Keeps.refl _ _
    · rename_i y9 y10
      refine Keeps.step (State.readFailed_keeps ..) rfl ?_
      refine Keeps.step (State.crcErr_keeps ..) rfl ?_
      exact Keeps.refl _ _
    · rename_i y11 y12
      refine Keeps.step (State.readFailed_keeps ..) rfl ?_
      refine Keeps.step (State.noRsp_keeps ..) rfl ?_
      exact Keeps.refl _ _
    · rename_i y13 y14 y15
      refine Keeps.step (State.takeData_keeps ..) rfl ?_
      exact Keeps.refl _ _
  · rename_i y16 y17 y18
    exact Keeps.refl _ _

theorem State.enumEnd_keeps (s : State) :
    Keeps mask66 s (State.enumEnd s) := by
  unfold State.enumEnd
  extract_lets v1 v2 v3 v4 v5 v6 v7
  have h8 : Keeps mask66 s v3 := by
    unfold v3
    refine (Keeps.setHerd _ rfl ?_)
    exact Keeps.refl _ _
  clear_value v3
  have h9 : Keeps mask66 s v4 := by
    unfold v4
    refine Keeps.put rfl ?_
    refine Keeps.put rfl ?_
    exact h8
  clear_value v4
  have h10 : Keeps mask66 s v5 := by
    unfold v5
    refine Keeps.foldl _ ?_ (fun a11 b12 k13 => ?_)
    · exact h9
    · extract_lets v14
      have h15 : Keeps mask66 s v14 := by
        unfold v14
        refine Keeps.putFlag rfl ?_
        refine Keeps.put rfl ?_
        exact k13
      clear_value v14
      refine Keeps.ite (fun _ => ?_) (fun _ => ?_)
      · exact h15
      · refine Keeps.putFlag rfl ?_
        refine Keeps.putFlag rfl ?_
        refine Keeps.put rfl ?_
        refine Keeps.put rfl ?_
        refine Keeps.put rfl ?_
        exact h15
  clear_value v5
  have h16 : Keeps mask66 s v7 := by
    unfold v7
    refine Keeps.ite (fun _ => ?_) (fun _ => ?_)
    · refine Keeps.step (State.herdMode_keeps ..) rfl ?_
      refine (Keeps.setHerd _ rfl ?_)
      exact h10
    · refine Keeps.put rfl ?_
      refine Keeps.ite (fun _ => ?_) (fun _ => ?_)
      · refine Keeps.step (State.herdMode_keeps ..) rfl ?_
        exact h10
      · refine Keeps.step (State.toBroken_keeps ..) rfl ?_
        exact h10
  clear_value v7
  refine State.withSvc_keeps rfl ?_ ?_
  · exact h16
  · intro x17
    intro x18
    refine Keeps.step (State.assistSettle_keeps ..) rfl ?_
    exact x18

theorem State.enumSetup_keeps (s : State) :
    Keeps mask66 s (State.enumSetup s) := by
  unfold State.enumSetup
  extract_lets v1 v2 v3
  have h4 : Keeps mask66 s v3 := by
    unfold v3
    refine (Keeps.setHerd _ rfl ?_)
    exact Keeps.refl _ _
  clear_value v3
  refine Keeps.ite (fun _ => ?_) (fun _ => ?_)
  · refine Keeps.step (State.enumEnd_keeps ..) rfl ?_
    exact h4
  · exact h4

theorem State.enumOutDone_keeps (s : State) (ring : Bool) :
    Keeps mask66 s (State.enumOutDone s ring) := by
  unfold State.enumOutDone
  extract_lets v1 v2 v3
  have h4 : Keeps mask66 s v2 := by
    unfold v2
    refine (Keeps.setHerd _ rfl ?_)
    exact Keeps.refl _ _
  clear_value v2
  refine Keeps.ite (fun _ => ?_) (fun _ => ?_)
  · refine (Keeps.setHerd _ rfl ?_)
    exact h4
  · refine Keeps.step (State.enumSetup_keeps ..) rfl ?_
    exact h4

theorem State.enumStart_keeps (s : State) :
    Keeps mask67 s (State.enumStart s) := by
  unfold State.enumStart
  refine Keeps.ite (fun _ => ?_) (fun _ => ?_)
  · extract_lets v1
    refine Keeps.step (State.herdMode_keeps ..) rfl ?_
    refine (Keeps.setHerd _ rfl ?_)
    exact Keeps.refl _ _
  · exact Keeps.refl _ _

theorem State.milkReset_keeps (s : State) (lo : MilkLine) (lr : MilkLine) :
    Keeps mask54 s (State.milkReset s lo lr) := by
  unfold State.milkReset
  refine Keeps.ite (fun _ => ?_) (fun _ => ?_)
  · extract_lets v1 v2
    have h3 : Keeps mask54 s v1 := by
      unfold v1
      refine Keeps.step (State.milkBoth_keeps ..) rfl ?_
      exact Keeps.refl _ _
    clear_value v1
    refine (Keeps.setHerd _ rfl ?_)
    exact h3
  · exact Keeps.refl _ _

theorem State.milkEnum_keeps (s : State) (ret : Bool) (l : MilkLine) :
    Keeps mask54 s (State.milkEnum s ret l) := by
  unfold State.milkEnum
  split
  · rename_i y1 y2 y3 y4 y5 y6
    refine Keeps.step (State.milkAsk_keeps ..) rfl ?_
    exact Keeps.refl _ _
  · rename_i y7 y8 y9
    exact Keeps.refl _ _

theorem State.recordMon_keeps (s : State) (a : Nat) (b : Bytes) :
    Keeps mask68 s (State.recordMon s a b) := by
  unfold State.recordMon
  extract_lets v1 v2 v3 v4 v5 v6 v7 v8 v9 v10
  have h11 : Keeps mask68 s v6 := by
    unfold v6
    refine (Keeps.setHerd _ rfl ?_)
    exact Keeps.refl _ _
  clear_value v6
  have h12 : Keeps mask68 s v7 := by
    unfold v7
    refine Keeps.put rfl ?_
    refine Keeps.put rfl ?_
    refine Keeps.put rfl ?_
    refine Keeps.put rfl ?_
    exact h11
  clear_value v7
  have h13 : Keeps mask68 s v8 := by
    unfold v8
    refine Keeps.ite (fun _ => ?_) (fun _ => ?_)
    · refine Keeps.step (State.monChange_keeps ..) rfl ?_
      exact h12
    · exact h12
  clear_value v8
  refine Keeps.ite (fun _ => ?_) (fun _ => ?_)
  · exact h13
  · refine (Keeps.setEst _ rfl ?_)
    exact h13

theorem State.enumNone_keeps (s : State) (ret : Bool) :
    Keeps mask66 s (State.enumNone s ret) := by
  unfold State.enumNone
  split
  · rename_i y1 y2
    refine Keeps.ite (fun _ => ?_) (fun _ => ?_)
    · exact Keeps.refl _ _
    · refine Keeps.step (State.enumOutDone_keeps ..) rfl ?_
      exact Keeps.refl _ _
  · rename_i y3 y4
    refine Keeps.ite (fun _ => ?_) (fun _ => ?_)
    · refine Keeps.step (State.enumSetup_keeps ..) rfl ?_
      exact Keeps.refl _ _
    · exact Keeps.refl _ _
  · rename_i y5 y6
    refine Keeps.step (State.setSide_keeps ..) rfl ?_
    exact Keeps.refl _ _
  · rename_i y7 y8 y9 y10
    exact Keeps.refl _ _

theorem State.takeEnum_keeps (s : State) (ret : Bool) (b : Bytes) :
    Keeps mask69 s (State.takeEnum s ret b) := by
  unfold State.takeEnum
  extract_lets v1 v2 v3 v4 v5 v6 v7 v8
  have h9 : Keeps mask69 s v1 := by
    unfold v1
    refine Keeps.step (State.setSide_keeps ..) rfl ?_
    exact Keeps.refl _ _
  clear_value v1
  have h10 : Keeps mask69 s v2 := by
    unfold v2
    refine Keeps.step (State.recordMon_keeps ..) rfl ?_
    exact h9
  clear_value v2
  have h11 : Keeps mask69 s v4 := by
    unfold v4
    refine (Keeps.setHerd _ rfl ?_)
    exact h10
  clear_value v4
  have h12 : Keeps mask69 s v6 := by
    unfold v6
    refine Keeps.step (State.recordMon_keeps ..) rfl ?_
    exact h9
  clear_value v6
  have h13 : Keeps mask69 s v8 := by
    unfold v8
    refine (Keeps.setHerd _ rfl ?_)
    exact h12
  clear_value v8
  split
  · rename_i y14 y15
    refine Keeps.ite (fun _ => ?_) (fun _ => ?_)
    · refine (Keeps.setHerd _ rfl ?_)
      exact h11
    · exact h11
  · rename_i y16 y17
    refine Keeps.ite (fun _ => ?_) (fun _ => ?_)
    · refine Keeps.step (State.enumSetup_keeps ..) rfl ?_
      exact h13
    · exact h13
  · rename_i y18 y19
    refine Keeps.step (State.monChange_keeps ..) rfl ?_
    exact h9
  · rename_i y20 y21 y22 y23
    exact h9

theorem State.enumRsp_keeps (s : State) (ret : Bool) (rx : Option Bytes) :
    Keeps mask70 s (State.enumRsp s ret rx) := by
  unfold State.enumRsp
  split
  · rename_i y1 y2 y3 y4 y5 y6
    split
    · rename_i y7 y8
      exact Keeps.refl _ _
    · rename_i y9 y10
      refine Keeps.step (State.enumNone_keeps ..) rfl ?_
      refine Keeps.step (State.crcErr_keeps ..) rfl ?_
      exact Keeps.refl _ _
    · rename_i y11 y12
      refine Keeps.step (State.enumNone_keeps ..) rfl ?_
      refine Keeps.step (State.noRsp_keeps ..) rfl ?_
      exact Keeps.refl _ _
    · rename_i y13 y14 y15
      refine Keeps.step (State.takeEnum_keeps ..) rfl ?_
      exact Keeps.refl _ _
  · rename_i y16 y17 y18
    exact Keeps.refl _ _

theorem State.setupNext_keeps (s : State) (a : Nat) :
    Keeps mask66 s (State.setupNext s a) := by
  unfold State.setupNext
  extract_lets v1 v2
  have h3 : Keeps mask66 s v2 := by
    unfold v2
    refine (Keeps.setHerd _ rfl ?_)
    exact Keeps.refl _ _
  clear_value v2
  refine Keeps.ite (fun _ => ?_) (fun _ => ?_)
  · refine Keeps.step (State.enumEnd_keeps ..) rfl ?_
    exact h3
  · exact h3

theorem State.milkSetup_keeps (s : State) (a : Nat) (l : MilkLine) (lost : Bool) (rx : Option Bytes) :
    Keeps mask71 s (State.milkSetup s a l lost rx) := by
  unfold State.milkSetup
  extract_lets v1 v2 v3 v4 v5 v6 v7
  have h8 : Keeps mask71 s v6 := by
    unfold v6
    refine Keeps.step (State.milkAsk_keeps ..) rfl ?_
    exact Keeps.refl _ _
  clear_value v6
  have h9 : Keeps mask71 s v7 := by
    unfold v7
    refine Keeps.step (State.setSide_keeps ..) rfl ?_
    exact h8
  clear_value v7
  refine Keeps.ite (fun _ => ?_) (fun _ => ?_)
  · refine Keeps.ite (fun _ => ?_) (fun _ => ?_)
    · exact h8
    · split
      · rename_i y10 y11 y12 y13
        exact h8
      · rename_i y14 y15 y16 y17
        refine Keeps.step (State.setupNext_keeps ..) rfl ?_
        refine Keeps.step (State.crcErr_keeps ..) rfl ?_
        exact h9
      · rename_i y18 y19 y20 y21
        refine Keeps.step (State.setupNext_keeps ..) rfl ?_
        refine Keeps.step (State.noRsp_keeps ..) rfl ?_
        exact h9
      · rename_i y22 y23 y24 y25 y26
        refine Keeps.step (State.setupNext_keeps ..) rfl ?_
        exact h9
  · exact Keeps.refl _ _

theorem State.rspTimeout_keeps (s : State) (ret : Bool) :
    Keeps mask72 s (State.rspTimeout s ret) := by
  unfold State.rspTimeout
  split
  · rename_i y1 y2
    exact Keeps.refl _ _
  · rename_i y3 y4 y5
    split
    · rename_i y6 y7
      refine Keeps.step (State.setupNext_keeps ..) rfl ?_
      refine Keeps.step (State.noRsp_keeps ..) rfl ?_
      refine Keeps.step (State.setSide_keeps ..) rfl ?_
      exact Keeps.refl _ _
    · rename_i y8 y9
      refine Keeps.step (State.readFailed_keeps ..) rfl ?_
      refine Keeps.step (State.noRsp_keeps ..) rfl ?_
      exact Keeps.refl _ _
    · rename_i y10 y11 y12
      refine Keeps.step (State.enumNone_keeps ..) rfl ?_
      exact Keeps.refl _ _

theorem State.milkPing_keeps (s : State) (l : MilkLine) :
    Keeps mask73 s (State.milkPing s l) := by
  unfold State.milkPing
  extract_lets v1 v2 v3
  have h4 : Keeps mask73 s v1 := by
    unfold v1
    refine Keeps.step (State.milkSend_keeps ..) rfl ?_
    exact Keeps.refl _ _
  clear_value v1
  split
  · rename_i y5 y6
    refine Keeps.step (State.enumOutDone_keeps ..) rfl ?_
    exact h4
  · rename_i y7 y8
    refine (Keeps.setHerd _ rfl ?_)
    exact h4
  · rename_i y9 y10 y11
    exact Keeps.refl _ _

theorem State.wakeChain_keeps (s : State) :
    Keeps mask67 s (State.wakeChain s) := by
  unfold State.wakeChain
  refine Keeps.step (State.herdMode_keeps ..) rfl ?_
  refine Keeps.step (State.milkTx_keeps ..) rfl ?_
  refine (Keeps.setHerd _ rfl ?_)
  exact Keeps.refl _ _

theorem State.roundOpen_keeps (s : State) (lo : MilkLine) (lr : MilkLine) :
    Keeps mask74 s (State.roundOpen s lo lr) := by
  unfold State.roundOpen
  extract_lets v1 v2 v3 v4 v5 v6
  have h7 : Keeps mask74 s v2 := by
    unfold v2
    refine Keeps.ite (fun _ => ?_) (fun _ => ?_)
    · refine Keeps.step (State.herdMode_keeps ..) rfl ?_
      refine (Keeps.setHerd _ rfl ?_)
      exact Keeps.refl _ _
    · exact Keeps.refl _ _
  clear_value v2
  have h8 : Keeps mask74 s v4 := by
    unfold v4
    refine (Keeps.setHerd _ rfl ?_)
    exact h7
  clear_value v4
  have h9 : Keeps mask74 s v5 := by
    unfold v5
    refine Keeps.foldl _ ?_ (fun a10 b11 k12 => ?_)
    · exact h8
    · refine Keeps.ite (fun _ => ?_) (fun _ => ?_)
      · refine Keeps.step (State.setMon_keeps ..) rfl ?_
        exact k12
      · exact k12
  clear_value v5
  refine Keeps.step (State.packSync_keeps ..) rfl ?_
  refine Keeps.ite (fun _ => ?_) (fun _ => ?_)
  · refine Keeps.step (State.milkBoth_keeps ..) rfl ?_
    exact h9
  · refine Keeps.step (State.milkSend_keeps ..) rfl ?_
    exact h9

theorem State.milkStart_keeps (s : State) (lo : MilkLine) (lr : MilkLine) :
    Keeps mask75 s (State.milkStart s lo lr) := by
  unfold State.milkStart
  split
  · rename_i y1 y2
    exact Keeps.refl _ _
  · rename_i y3 y4 y5
    refine Keeps.ite (fun _ => ?_) (fun _ => ?_)
    · extract_lets v6 v7 v8 v9
      have h10 : Keeps mask75 s v7 := by
        unfold v7
        refine (Keeps.setHerd _ rfl ?_)
        exact Keeps.refl _ _
      clear_value v7
      have h11 : Keeps mask75 s v8 := by
        unfold v8
        refine Keeps.step (State.hrdEv_keeps ..) rfl ?_
        refine Keeps.count rfl ?_
        refine Keeps.step (State.staleAll_keeps ..) rfl ?_
        exact h10
      clear_value v8
      refine Keeps.ite (fun _ => ?_) (fun _ => ?_)
      · refine Keeps.step (State.staleAll_keeps ..) rfl ?_
        exact h10
      · refine Keeps.ite (fun _ => ?_) (fun _ => ?_)
        · refine Keeps.step (State.wakeChain_keeps ..) rfl ?_
          refine Keeps.step (State.hrdEv_keeps ..) rfl ?_
          refine Keeps.count rfl ?_
          refine Keeps.step (State.staleAll_keeps ..) rfl ?_
          exact h10
        · refine Keeps.ite (fun _ => ?_) (fun _ => ?_)
          · refine (Keeps.setHerd _ rfl ?_)
            exact h11
          · refine Keeps.step (State.roundOpen_keeps ..) rfl ?_
            exact h10
    · exact Keeps.refl _ _

theorem State.echoTimeout_keeps (s : State) :
    Keeps mask76 s (State.echoTimeout s) := by
  unfold State.echoTimeout
  extract_lets v1 v2
  have h3 : Keeps mask76 s v1 := by
    unfold v1
    refine Keeps.step (State.toBroken_keeps ..) rfl ?_
    exact Keeps.refl _ _
  clear_value v1
  refine Keeps.ite (fun _ => ?_) (fun _ => ?_)
  · refine Keeps.step (State.breakPos_keeps ..) rfl ?_
    refine Keeps.step (State.setSide_keeps ..) rfl ?_
    exact h3
  · exact Keeps.refl _ _

theorem State.probeStart_keeps (s : State) :
    Keeps 0x80000 s (State.probeStart s) := by
  unfold State.probeStart
  refine Keeps.ite (fun _ => ?_) (fun _ => ?_)
  · extract_lets v2
    refine (Keeps.setHerd _ rfl ?_)
    exact Keeps.refl _ _
  · exact Keeps.refl _ _

theorem State.missOne_keeps (s : State) (a : Nat) :
    Keeps mask77 s (State.missOne s a) := by
  unfold State.missOne
  extract_lets v1 v2 v3 v4 v5
  have h6 : Keeps mask77 s v3 := by
    unfold v3
    refine (Keeps.setHerd _ rfl ?_)
    exact Keeps.refl _ _
  clear_value v3
  have h9 : Keeps mask77 s v5 := by
    unfold v5
    refine Keeps.step (State.staleWords_keeps ..) rfl ?_
    refine (Keeps.setHerd _ rfl ?_)
    exact Keeps.refl _ _
  clear_value v5
  refine Keeps.ite (fun _ => ?_) (fun _ => ?_)
  · unfold State.putFlag
    refine Keeps.put rfl ?_
    unfold State.putBitOf
    refine Keeps.put rfl ?_
    exact h6
  · refine Keeps.ite (fun _ => ?_) (fun _ => ?_)
    · refine Keeps.step (State.hrdEv_keeps ..) rfl ?_
      unfold State.putFlag
      refine Keeps.put rfl ?_
      unfold State.putBitOf
      refine Keeps.put rfl ?_
      exact h9
    · exact h9

theorem State.milkEnd_keeps (s : State) (dur : Nat) :
    Keeps mask78 s (State.milkEnd s dur) := by
  unfold State.milkEnd
  extract_lets v1 v2 v3 v4
  have h5 : Keeps mask78 s v1 := by
    unfold v1
    refine Keeps.foldl _ ?_ (fun a6 b7 k8 => ?_)
    · exact Keeps.refl _ _
    · refine Keeps.step (State.missOne_keeps ..) rfl ?_
      exact k8
  clear_value v1
  have h9 : Keeps mask78 s v2 := by
    unfold v2
    refine Keeps.put rfl ?_
    refine Keeps.put rfl ?_
    exact h5
  clear_value v2
  have h10 : Keeps mask78 s v4 := by
    unfold v4
    refine (Keeps.setHerd _ rfl ?_)
    exact h9
  clear_value v4
  refine State.withSvc_keeps rfl ?_ ?_
  · refine Keeps.step (State.gcSrc_keeps ..) rfl ?_
    refine Keeps.putFlag rfl ?_
    exact h10
  · intro x11
    intro x12
    refine Keeps.step (State.assistSettle_keeps ..) rfl ?_
    exact x12

theorem State.chainSilent_keeps (s : State) (sleep : Bool) :
    Keeps mask67 s (State.chainSilent s sleep) := by
  unfold State.chainSilent
  refine Keeps.step (State.herdMode_keeps ..) rfl ?_
  refine (Keeps.setHerd _ rfl ?_)
  exact Keeps.refl _ _

theorem State.hrdCtlActs_keeps (was : State) (s : State) (enum : Bool) :
    Keeps mask79 s (State.hrdCtlActs was s enum) := by
  unfold State.hrdCtlActs
  extract_lets v1 v2 v3 v4
  have h5 : Keeps mask79 s v2 := by
    unfold v2
    refine Keeps.put rfl ?_
    exact Keeps.refl _ _
  clear_value v2
  have h6 : Keeps mask79 s v4 := by
    unfold v4
    refine (Keeps.setHerd _ rfl ?_)
    exact h5
  clear_value v4
  refine Keeps.ite (fun _ => ?_) (fun _ => ?_)
  · refine Keeps.step (State.chainSilent_keeps ..) rfl ?_
    exact h6
  · exact h6

theorem State.milkSleep_keeps (s : State) (lo : MilkLine) (lr : MilkLine) :
    Keeps mask54 s (State.milkSleep s lo lr) := by
  unfold State.milkSleep
  refine Keeps.ite (fun _ => ?_) (fun _ => ?_)
  · extract_lets v1 v2
    have h3 : Keeps mask54 s v1 := by
      unfold v1
      refine Keeps.step (State.milkBoth_keeps ..) rfl ?_
      exact Keeps.refl _ _
    clear_value v1
    refine (Keeps.setHerd _ rfl ?_)
    exact h3
  · exact Keeps.refl _ _

theorem State.monStandby_keeps (s : State) (p : Nat) :
    Keeps 0x80000 s (State.monStandby s p) := by
  unfold State.monStandby
  extract_lets v1
  refine Keeps.ite (fun _ => ?_) (fun _ => ?_)
  · refine Keeps.step (State.setMon_keeps ..) rfl ?_
    exact Keeps.refl _ _
  · exact Keeps.refl _ _

theorem State.monSleep_keeps (s : State) (p : Nat) :
    Keeps 0x80000 s (State.monSleep s p) := by
  unfold State.monSleep
  extract_lets v1
  refine Keeps.ite (fun _ => ?_) (fun _ => ?_)
  · refine Keeps.step (State.setMon_keeps ..) rfl ?_
    exact Keeps.refl _ _
  · exact Keeps.refl _ _

theorem State.monWake_keeps (s : State) (p : Nat) (power : Bool) (uid : Nat) (maker : Nat) :
    Keeps 0x80000 s (State.monWake s p power uid maker) := by
  unfold State.monWake
  extract_lets v1
  refine Keeps.ite (fun _ => ?_) (fun _ => ?_)
  · refine Keeps.step (State.setMon_keeps ..) rfl ?_
    exact Keeps.refl _ _
  · refine Keeps.ite (fun _ => ?_) (fun _ => ?_)
    · exact Keeps.refl _ _
    · refine Keeps.step (State.setMon_keeps ..) rfl ?_
      exact Keeps.refl _ _

theorem State.balExpiry_keeps (s : State) (p : Nat) :
    Keeps 0x80000 s (State.balExpiry s p) := by
  unfold State.balExpiry
  extract_lets v1
  refine Keeps.step (State.setMon_keeps ..) rfl ?_
  exact Keeps.refl _ _

theorem State.milkSync_keeps (s : State) (p : Nat) (cells : List Nat) (temps : List Nat) (wire : Bool) (recent : Bool) :
    Keeps 0x80000 s (State.milkSync s p cells temps wire recent) := by
  unfold State.milkSync
  refine Keeps.step (State.setMon_keeps ..) rfl ?_
  exact Keeps.refl _ _

end Sys2Proof.Machine
end

