-- ==== Sys2Proof/Laws/KeepsContactor.lean ====
section
/-! SUPPORT. The frame of every function of Machine/Contactor.lean: what it may change, and that it keeps the canonical forms and
the waiting commands. -/
namespace Sys2Proof.Machine

set_option Elab.async false

theorem State.ctrEv_keeps (s : State) (typ : Nat) (lvl : Nat) :
    Keeps mask3 s (State.ctrEv s typ lvl) := by
  unfold State.ctrEv
  refine Keeps.step (State.event_keeps ..) rfl ?_
  exact Keeps.refl _ _

theorem State.setCoilI_keeps (s : State) (c : Nat) (v : Nat) :
    Keeps mask80 s (State.setCoilI s c v) := by
  unfold State.setCoilI
  refine Keeps.ite (fun _ => ?_) (fun _ => ?_)
  · refine Keeps.put rfl ?_
    exact Keeps.refl _ _
  · refine Keeps.ite (fun _ => ?_) (fun _ => ?_)
    · refine Keeps.put rfl ?_
      exact Keeps.refl _ _
    · refine Keeps.ite (fun _ => ?_) (fun _ => ?_)
      · refine Keeps.put rfl ?_
        exact Keeps.refl _ _
      · refine Keeps.put rfl ?_
        exact Keeps.refl _ _

theorem State.energise_keeps (s : State) (c : Nat) :
    Keeps mask81 s (State.energise s c) := by
  unfold State.energise
  extract_lets v1 v2 v3
  have h4 : Keeps mask81 s v1.2 := by
    unfold v1
    refine Keeps.step (State.free_keeps ..) rfl ?_
    exact Keeps.refl _ _
  clear_value v1
  have h7 : Keeps mask81 s v2 := by
    unfold v2
    unfold State.putBitOf
    refine Keeps.put rfl ?_
    exact h4
  clear_value v2
  refine Keeps.step (State.setCoilI_keeps ..) rfl ?_
  refine (Keeps.setCtr _ rfl ?_)
  exact h7

theorem State.coilOff_keeps (s : State) (c : Nat) :
    Keeps mask82 s (State.coilOff s c) := by
  unfold State.coilOff
  extract_lets v1 v2
  have h3 : Keeps mask82 s v1 := by
    unfold v1
    unfold State.putBitOf
    refine Keeps.put rfl ?_
    exact Keeps.refl _ _
  clear_value v1
  refine Keeps.step (State.setCoilI_keeps ..) rfl ?_
  refine (Keeps.setCtr _ rfl ?_)
  exact h3

theorem State.peakEnd_keeps (s : State) (c : Nat) :
    Keeps mask83 s (State.peakEnd s c) := by
  unfold State.peakEnd
  extract_lets v1 v2 v3
  have h4 : Keeps mask83 s v1.2 := by
    unfold v1
    refine Keeps.step (State.free_keeps ..) rfl ?_
    exact Keeps.refl _ _
  clear_value v1
  have h7 : Keeps mask83 s v2 := by
    unfold v2
    exact h4
  clear_value v2
  refine Keeps.ite (fun _ => ?_) (fun _ => ?_)
  · refine Keeps.step (State.setCoilI_keeps ..) rfl ?_
    refine (Keeps.setCtr _ rfl ?_)
    exact h7
  · exact Keeps.refl _ _

theorem State.ctrRec_keeps (s : State) (ev : Nat) :
    Keeps 0x10 s (State.ctrRec s ev) := by
  unfold State.ctrRec
  refine Keeps.step (State.offer_keeps ..) rfl ?_
  exact Keeps.refl _ _

theorem State.openCoils_keeps (s : State) (mask : Nat) (cause : Nat) :
    Keeps mask84 s (State.openCoils s mask cause) := by
  unfold State.openCoils
  extract_lets v1 v2 v3 v4 v5 v6 v7
  have h8 : Keeps mask84 s v5 := by
    unfold v5
    refine Keeps.foldl _ ?_ (fun a10 b11 k12 => ?_)
    · exact Keeps.refl _ _
    · refine Keeps.step (State.coilOff_keeps ..) rfl ?_
      exact k12
  clear_value v5
  have h16 : Keeps mask84 s v6 := by
    unfold v6
    refine Keeps.put rfl ?_
    unfold State.putFlag
    refine Keeps.put rfl ?_
    refine Keeps.put rfl ?_
    refine Keeps.put rfl ?_
    exact h8
  clear_value v6
  have h23 : Keeps mask84 s v7 := by
    unfold v7
    refine Keeps.ite (fun _ => ?_) (fun _ => ?_)
    · refine Keeps.foldl _ ?_ (fun a26 b27 k28 => ?_)
      · refine Keeps.step (State.gcSrc_keeps ..) rfl ?_
        unfold State.putFlag
        refine Keeps.put rfl ?_
        exact h16
      · unfold State.count
        refine Keeps.put rfl ?_
        exact k28
    · exact h16
  clear_value v7
  refine Keeps.ite (fun _ => ?_) (fun _ => ?_)
  · exact Keeps.refl _ _
  · refine Keeps.foldl _ ?_ (fun a40 b41 k42 => ?_)
    · exact h23
    · refine Keeps.step (State.ctrRec_keeps ..) rfl ?_
      exact k42

theorem State.seqEnd_keeps (s : State) (result : Nat) :
    Keeps mask85 s (State.seqEnd s result) := by
  unfold State.seqEnd
  extract_lets v1 v2 v3
  have h4 : Keeps mask85 s v2 := by
    unfold v2
    refine Keeps.put rfl ?_
    refine Keeps.put rfl ?_
    exact Keeps.refl _ _
  clear_value v2
  have h8 : Keeps mask85 s v3 := by
    unfold v3
    refine Keeps.step (State.ctrRec_keeps ..) rfl ?_
    exact h4
  clear_value v3
  refine Keeps.step (State.notify_keeps ..) rfl ?_
  exact h8

theorem State.estOpened_keeps (s : State) (cause : Nat) :
    Keeps mask86 s (State.estOpened s cause) := by
  unfold State.estOpened
  extract_lets v1 v2
  refine Keeps.ite (fun _ => ?_) (fun _ => ?_)
  · refine Keeps.put rfl ?_
    exact Keeps.refl _ _
  · refine Keeps.ite (fun _ => ?_) (fun _ => ?_)
    · refine Keeps.put rfl ?_
      refine (Keeps.setEst _ rfl ?_)
      exact Keeps.refl _ _
    · exact Keeps.refl _ _

theorem State.isolate_keeps (s0 : State) (cause : Nat) (fid : Nat) (all : Bool) :
    Keeps mask87 s0 (State.isolate s0 cause fid all) := by
  unfold State.isolate
  extract_lets v1 v2 v3 v4 v5 v6 v7 v8 v9
  have h10 : Keeps mask87 s0 v1 := by
    unfold v1
    refine Keeps.step (State.declareShadow_keeps ..) rfl ?_
    exact Keeps.refl _ _
  clear_value v1
  have h11 : Keeps mask87 s0 v5 := by
    unfold v5
    refine Keeps.step (State.openCoils_keeps ..) rfl ?_
    exact h10
  clear_value v5
  have h12 : Keeps mask87 s0 v7 := by
    unfold v7
    refine (Keeps.setCtr _ rfl ?_)
    exact h11
  clear_value v7
  have h13 : Keeps mask87 s0 v8 := by
    unfold v8
    refine Keeps.step (State.estOpened_keeps ..) rfl ?_
    refine Keeps.put rfl ?_
    exact h12
  clear_value v8
  have h14 : Keeps mask87 s0 v9 := by
    unfold v9
    refine Keeps.ite (fun _ => ?_) (fun _ => ?_)
    · refine Keeps.step (State.seqEnd_keeps ..) rfl ?_
      exact h13
    · exact h13
  clear_value v9
  refine State.withSvc_keeps rfl ?_ ?_
  · exact h14
  · intro x15
    intro x16
    refine Keeps.step (State.assistSettle_keeps ..) rfl ?_
    exact x16

theorem State.isolateWait_keeps (s : State) (cause : Nat) (fid : Nat) :
    Keeps mask87 s (State.isolateWait s cause fid) := by
  unfold State.isolateWait
  refine Keeps.ite (fun _ => ?_) (fun _ => ?_)
  · refine Keeps.put rfl ?_
    extract_lets v3
    refine (Keeps.setCtr _ rfl ?_)
    exact Keeps.refl _ _
  · refine Keeps.ite (fun _ => ?_) (fun _ => ?_)
    · exact Keeps.refl _ _
    · refine Keeps.step (State.isolate_keeps ..) rfl ?_
      exact Keeps.refl _ _

theorem State.waitTick_keeps (s : State) :
    Keeps mask88 s (State.waitTick s) := by
  unfold State.waitTick
  split
  · rename_i y1 y2 y3 y4
    refine Keeps.ite (fun _ => ?_) (fun _ => ?_)
    · refine Keeps.step (State.isolate_keeps ..) rfl ?_
      exact Keeps.refl _ _
    · refine Keeps.ite (fun _ => ?_) (fun _ => ?_)
      · refine Keeps.step (State.isolate_keeps ..) rfl ?_
        unfold State.count
        refine Keeps.put rfl ?_
        exact Keeps.refl _ _
      · exact Keeps.refl _ _
  · rename_i y14 y15
    exact Keeps.refl _ _

theorem State.brkExpiry_keeps (s : State) :
    Keeps mask88 s (State.brkExpiry s) := by
  unfold State.brkExpiry
  split
  · rename_i y1 y2 y3 y4
    refine Keeps.step (State.isolate_keeps ..) rfl ?_
    unfold State.count
    refine Keeps.put rfl ?_
    exact Keeps.refl _ _
  · rename_i y9 y10
    exact Keeps.refl _ _

theorem State.weld_keeps (s : State) (c : Nat) :
    Keeps mask89 s (State.weld s c) := by
  unfold State.weld
  extract_lets v1
  have h2 : Keeps mask89 s v1 := by
    unfold v1
    refine Keeps.step (State.ctrEv_keeps ..) rfl ?_
    unfold State.putFlag
    refine Keeps.put rfl ?_
    unfold State.putBitOf
    refine Keeps.put rfl ?_
    exact Keeps.refl _ _
  clear_value v1
  refine Keeps.ite (fun _ => ?_) (fun _ => ?_)
  · exact h2
  · refine Keeps.step (State.isolate_keeps ..) rfl ?_
    exact h2

theorem State.stepTo_keeps (s : State) (n : Nat) :
    Keeps mask90 s (State.stepTo s n) := by
  unfold State.stepTo
  refine Keeps.put rfl ?_
  extract_lets v2
  refine (Keeps.setCtr _ rfl ?_)
  exact Keeps.refl _ _

theorem State.closed_keeps (s : State) (c : Nat) :
    Keeps mask91 s (State.closed s c) := by
  unfold State.closed
  refine Keeps.ite (fun _ => ?_) (fun _ => ?_)
  · refine Keeps.step (State.ctrRec_keeps ..) rfl ?_
    unfold State.count
    refine Keeps.put rfl ?_
    exact Keeps.refl _ _
  · exact Keeps.refl _ _

theorem State.seqFail_keeps (s : State) (result : Nat) (cause : Nat) :
    Keeps mask92 s (State.seqFail s result cause) := by
  unfold State.seqFail
  extract_lets v1 v2 v3 v4 v5 v6 v7
  have h8 : Keeps mask92 s v1 := by
    unfold v1
    refine Keeps.step (State.openCoils_keeps ..) rfl ?_
    exact Keeps.refl _ _
  clear_value v1
  have h9 : Keeps mask92 s v2 := by
    unfold v2
    refine Keeps.put rfl ?_
    exact h8
  clear_value v2
  have h10 : Keeps mask92 s v3 := by
    unfold v3
    refine Keeps.step (State.seqEnd_keeps ..) rfl ?_
    exact h9
  clear_value v3
  have h11 : Keeps mask92 s v6 := by
    unfold v6
    refine Keeps.putFlag rfl ?_
    refine Keeps.putFlag rfl ?_
    refine (Keeps.setCtr _ rfl ?_)
    exact h10
  clear_value v6
  have h12 : Keeps mask92 s v7 := by
    unfold v7
    refine Keeps.ite (fun _ => ?_) (fun _ => ?_)
    · refine Keeps.step (State.ctrEv_keeps ..) rfl ?_
      refine Keeps.ite (fun _ => ?_) (fun _ => ?_)
      · refine Keeps.putFlag rfl ?_
        exact h11
      · exact h11
    · exact h10
  clear_value v7
  refine State.withSvc_keeps rfl ?_ ?_
  · exact h12
  · intro x13
    intro x14
    refine Keeps.step (State.assistSettle_keeps ..) rfl ?_
    exact x14

theorem State.seqWeld_keeps (s : State) (result : Nat) (c : Nat) :
    Keeps mask93 s (State.seqWeld s result c) := by
  unfold State.seqWeld
  refine Keeps.step (State.weld_keeps ..) rfl ?_
  refine Keeps.step (State.seqFail_keeps ..) rfl ?_
  exact Keeps.refl _ _

theorem State.seqStart_keeps (s : State) :
    Keeps mask94 s (State.seqStart s) := by
  unfold State.seqStart
  extract_lets v1 v2 v3 v4
  have h5 : Keeps mask94 s v4 := by
    unfold v4
    unfold State.putFlag
    refine Keeps.put rfl ?_
    refine (Keeps.setCtr _ rfl ?_)
    exact Keeps.refl _ _
  clear_value v4
  refine Keeps.ite (fun _ => ?_) (fun _ => ?_)
  · refine Keeps.step (State.energise_keeps ..) rfl ?_
    refine Keeps.step (State.stepTo_keeps ..) rfl ?_
    exact h5
  · refine Keeps.step (State.seqFail_keeps ..) rfl ?_
    exact h5

theorem State.chargeOnly_keeps (s : State) :
    Keeps mask95 s (State.chargeOnly s) := by
  unfold State.chargeOnly
  extract_lets v1 v2
  have h3 : Keeps mask95 s v1 := by
    unfold v1
    refine Keeps.foldl _ ?_ (fun a4 b5 k6 => ?_)
    · refine Keeps.put rfl ?_
      exact Keeps.refl _ _
    · refine Keeps.put rfl ?_
      refine Keeps.put rfl ?_
      exact k6
  clear_value v1
  refine Keeps.put rfl ?_
  refine (Keeps.setEst _ rfl ?_)
  exact h3

theorem State.seqDone_keeps (s : State) :
    Keeps mask96 s (State.seqDone s) := by
  unfold State.seqDone
  extract_lets v1 v2 v3 v4
  have h5 : Keeps mask96 s v1 := by
    unfold v1
    refine Keeps.step (State.stepTo_keeps ..) rfl ?_
    exact Keeps.refl _ _
  clear_value v1
  have h6 : Keeps mask96 s v3 := by
    unfold v3
    refine (Keeps.setCtr _ rfl ?_)
    exact h5
  clear_value v3
  have h7 : Keeps mask96 s v4 := by
    unfold v4
    refine Keeps.step (State.seqEnd_keeps ..) rfl ?_
    refine Keeps.ite (fun _ => ?_) (fun _ => ?_)
    · refine Keeps.step (State.chargeOnly_keeps ..) rfl ?_
      exact h6
    · refine Keeps.put rfl ?_
      exact h6
  clear_value v4
  refine State.withSvc_keeps rfl ?_ ?_
  · exact h7
  · intro x8
    intro x9
    refine Keeps.step (State.assistSettle_keeps ..) rfl ?_
    exact x9

theorem State.stepNext_keeps (s : State) :
    Keeps mask97 s (State.stepNext s) := by
  unfold State.stepNext
  split
  · rename_i y1 y2
    refine Keeps.step (State.stepTo_keeps ..) rfl ?_
    refine Keeps.step (State.coilOff_keeps ..) rfl ?_
    exact Keeps.refl _ _
  · rename_i y6 y7
    refine Keeps.step (State.energise_keeps ..) rfl ?_
    refine Keeps.step (State.stepTo_keeps ..) rfl ?_
    exact Keeps.refl _ _
  · rename_i y11 y12
    refine Keeps.step (State.energise_keeps ..) rfl ?_
    refine Keeps.step (State.stepTo_keeps ..) rfl ?_
    exact Keeps.refl _ _
  · rename_i y16 y17
    refine Keeps.step (State.energise_keeps ..) rfl ?_
    refine Keeps.step (State.stepTo_keeps ..) rfl ?_
    exact Keeps.refl _ _
  · rename_i y21 y22
    refine Keeps.step (State.stepTo_keeps ..) rfl ?_
    refine Keeps.step (State.coilOff_keeps ..) rfl ?_
    exact Keeps.refl _ _
  · rename_i y26 y27
    refine Keeps.step (State.seqDone_keeps ..) rfl ?_
    exact Keeps.refl _ _
  · rename_i y30 y31 y32 y33 y34 y35 y36
    exact Keeps.refl _ _

theorem State.seqTick_keeps (s : State) :
    Keeps mask98 s (State.seqTick s) := by
  unfold State.seqTick
  refine Keeps.ite (fun _ => ?_) (fun _ => ?_)
  · refine Keeps.ite (fun _ => ?_) (fun _ => ?_)
    · refine Keeps.step (State.stepNext_keeps ..) rfl ?_
      exact Keeps.refl _ _
    · refine Keeps.ite (fun _ => ?_) (fun _ => ?_)
      · refine Keeps.ite (fun _ => ?_) (fun _ => ?_)
        · refine Keeps.step (State.seqFail_keeps ..) rfl ?_
          exact Keeps.refl _ _
        · exact Keeps.refl _ _
      · refine Keeps.ite (fun _ => ?_) (fun _ => ?_)
        · extract_lets v1 v2 v3 v4
          have h5 : Keeps mask98 s v4 := by
            unfold v4
            refine (Keeps.setCtr _ rfl ?_)
            exact Keeps.refl _ _
          clear_value v4
          refine Keeps.ite (fun _ => ?_) (fun _ => ?_)
          · refine Keeps.step (State.seqFail_keeps ..) rfl ?_
            exact h5
          · refine Keeps.ite (fun _ => ?_) (fun _ => ?_)
            · refine Keeps.step (State.seqFail_keeps ..) rfl ?_
              exact h5
            · exact h5
        · exact Keeps.refl _ _
  · exact Keeps.refl _ _

theorem State.riseWatch_keeps (s : State) :
    Keeps 0x400000 s (State.riseWatch s) := by
  unfold State.riseWatch
  extract_lets v1 v2 v3
  refine Keeps.ite (fun _ => ?_) (fun _ => ?_)
  · refine (Keeps.setCtr _ rfl ?_)
    exact Keeps.refl _ _
  · exact Keeps.refl _ _

theorem State.windowEnd_keeps (s0 : State) :
    Keeps mask93 s0 (State.windowEnd s0) := by
  unfold State.windowEnd
  extract_lets v1 v2
  have h3 : Keeps mask93 s0 v1 := by
    unfold v1
    refine Keeps.step (State.riseWatch_keeps ..) rfl ?_
    exact Keeps.refl _ _
  clear_value v1
  refine Keeps.ite (fun _ => ?_) (fun _ => ?_)
  · refine Keeps.ite (fun _ => ?_) (fun _ => ?_)
    · refine (Keeps.setCtr _ rfl ?_)
      exact h3
    · refine Keeps.ite (fun _ => ?_) (fun _ => ?_)
      · refine Keeps.step (State.seqWeld_keeps ..) rfl ?_
        exact h3
      · refine Keeps.ite (fun _ => ?_) (fun _ => ?_)
        · refine Keeps.step (State.seqWeld_keeps ..) rfl ?_
          exact h3
        · refine Keeps.step (State.seqWeld_keeps ..) rfl ?_
          exact h3
  · exact h3

theorem State.pcTimeout_keeps (s : State) :
    Keeps mask92 s (State.pcTimeout s) := by
  unfold State.pcTimeout
  refine Keeps.ite (fun _ => ?_) (fun _ => ?_)
  · refine Keeps.step (State.seqFail_keeps ..) rfl ?_
    exact Keeps.refl _ _
  · exact Keeps.refl _ _

theorem State.coolEnd_keeps (s : State) :
    Keeps mask99 s (State.coolEnd s) := by
  unfold State.coolEnd
  unfold State.putFlag
  refine Keeps.put rfl ?_
  exact Keeps.refl _ _

theorem State.auxMismatch_keeps (s : State) (c : Nat) :
    Keeps mask100 s (State.auxMismatch s c) := by
  unfold State.auxMismatch
  extract_lets v1
  have h2 : Keeps mask100 s v1 := by
    unfold v1
    refine Keeps.step (State.ctrEv_keeps ..) rfl ?_
    unfold State.putBitOf
    refine Keeps.put rfl ?_
    exact Keeps.refl _ _
  clear_value v1
  refine Keeps.ite (fun _ => ?_) (fun _ => ?_)
  · exact Keeps.refl _ _
  · refine Keeps.ite (fun _ => ?_) (fun _ => ?_)
    · refine Keeps.step (State.seqFail_keeps ..) rfl ?_
      exact h2
    · refine Keeps.ite (fun _ => ?_) (fun _ => ?_)
      · refine Keeps.step (State.openCoils_keeps ..) rfl ?_
        exact h2
      · exact h2

theorem State.auxLate_keeps (s : State) (c : Nat) :
    Keeps mask100 s (State.auxLate s c) := by
  unfold State.auxLate
  refine Keeps.ite (fun _ => ?_) (fun _ => ?_)
  · refine Keeps.step (State.auxMismatch_keeps ..) rfl ?_
    exact Keeps.refl _ _
  · exact Keeps.refl _ _

theorem State.dropoutWith_keeps {M : Nat} {s0 s : State} {f : State → State} (m : mask101 ||| M = M) (h : Keeps M s0 s)
    (g : ∀ t, Keeps M s0 t → Keeps M s0 (f t)) : Keeps M s0 (s.dropoutWith f) := by
  unfold State.dropoutWith
  refine Keeps.ite (fun _ => ?_) (fun _ => g _ h)
  extract_lets s1 s2
  have h0 : Keeps mask101 s s1 := Keeps.step (State.ctrEv_keeps ..) rfl (Keeps.putFlag rfl (Keeps.refl _ _))
  clear_value s1
  have h2 : Keeps M s0 s2 := g _ (Keeps.step h0 m h)
  clear_value s2
  exact Keeps.ite (fun _ => h2) (fun _ => Keeps.step (State.isolate_keeps ..) (sub_trans rfl m) h2)

theorem State.dropout_keeps (s : State) : Keeps mask101 s s.dropout := State.dropoutWith_keeps rfl (Keeps.refl _ _) fun _ h => h

theorem State.auxChange_keeps (s : State) (c : Nat) (closed : Bool) :
    Keeps mask102 s (State.auxChange s c closed) := by
  unfold State.auxChange
  extract_lets v1 v2 v3 v4
  have h5 : Keeps mask102 s v1 := by
    unfold v1
    refine Keeps.putBitOf rfl ?_
    exact Keeps.refl _ _
  clear_value v1
  have h6 : Keeps mask102 s v2 := by
    unfold v2
    refine Keeps.ite (fun _ => ?_) (fun _ => ?_)
    · refine Keeps.step (State.closed_keeps ..) rfl ?_
      exact h5
    · exact h5
  clear_value v2
  have h7 : Keeps mask102 s v3 := by
    unfold v3
    refine Keeps.ite (fun _ => ?_) (fun _ => ?_)
    · refine State.dropoutWith_keeps rfl ?_ ?_
      · exact h6
      · intro x8
        intro x9
        refine Keeps.step (State.auxLate_keeps ..) rfl ?_
        exact x9
    · refine Keeps.step (State.auxLate_keeps ..) rfl ?_
      exact h6
  clear_value v3
  refine Keeps.ite (fun _ => ?_) (fun _ => ?_)
  · refine Keeps.ite (fun _ => ?_) (fun _ => ?_)
    · refine (Keeps.setCtr _ rfl ?_)
      exact h7
    · exact h7
  · exact h7

theorem State.weldCheck_keeps (s : State) (c : Nat) :
    Keeps mask93 s (State.weldCheck s c) := by
  unfold State.weldCheck
  refine Keeps.ite (fun _ => ?_) (fun _ => ?_)
  · refine Keeps.ite (fun _ => ?_) (fun _ => ?_)
    · refine Keeps.step (State.seqWeld_keeps ..) rfl ?_
      exact Keeps.refl _ _
    · refine Keeps.step (State.weld_keeps ..) rfl ?_
      exact Keeps.refl _ _
  · exact Keeps.refl _ _

theorem State.doubleWeld_keeps (s : State) :
    Keeps mask103 s (State.doubleWeld s) := by
  unfold State.doubleWeld
  extract_lets v1 v2 v3
  have h4 : Keeps mask103 s v2 := by
    unfold v2
    refine (Keeps.setCtr _ rfl ?_)
    exact Keeps.refl _ _
  clear_value v2
  refine Keeps.ite (fun _ => ?_) (fun _ => ?_)
  · refine Keeps.ite (fun _ => ?_) (fun _ => ?_)
    · refine Keeps.step (State.ctrEv_keeps ..) rfl ?_
      unfold State.putFlag
      refine Keeps.put rfl ?_
      refine (Keeps.setCtr _ rfl ?_)
      exact h4
    · exact h4
  · exact Keeps.refl _ _

theorem State.coilFault_keeps (s : State) (c : Nat) (short : Bool) :
    Keeps mask104 s (State.coilFault s c short) := by
  unfold State.coilFault
  refine Keeps.ite (fun _ => ?_) (fun _ => ?_)
  · extract_lets v1 v2 v3 v4
    have h5 : Keeps mask104 s v1 := by
      unfold v1
      refine Keeps.ite (fun _ => ?_) (fun _ => ?_)
      · refine Keeps.putFlag rfl ?_
        exact Keeps.refl _ _
      · refine Keeps.putFlag rfl ?_
        exact Keeps.refl _ _
    clear_value v1
    have h6 : Keeps mask104 s v3 := by
      unfold v3
      refine Keeps.step (State.ctrEv_keeps ..) rfl ?_
      exact h5
    clear_value v3
    have h7 : Keeps mask104 s v4 := by
      unfold v4
      refine Keeps.ite (fun _ => ?_) (fun _ => ?_)
      · refine Keeps.step (State.isolate_keeps ..) rfl ?_
        exact h6
      · exact h6
    clear_value v4
    refine Keeps.ite (fun _ => ?_) (fun _ => ?_)
    · refine Keeps.step (State.openCoils_keeps ..) rfl ?_
      exact h7
    · exact h7
  · exact Keeps.refl _ _

theorem State.closeOrder_keeps (s : State) (c : Nat) :
    Keeps mask94 s (State.closeOrder s c) := by
  unfold State.closeOrder
  refine Keeps.ite (fun _ => ?_) (fun _ => ?_)
  · refine Keeps.ite (fun _ => ?_) (fun _ => ?_)
    · exact Keeps.refl _ _
    · refine Keeps.ite (fun _ => ?_) (fun _ => ?_)
      · refine Keeps.step (State.energise_keeps ..) rfl ?_
        exact Keeps.refl _ _
      · refine (Keeps.setCtr _ rfl ?_)
        exact Keeps.refl _ _
  · refine Keeps.ite (fun _ => ?_) (fun _ => ?_)
    · exact Keeps.refl _ _
    · extract_lets v1 v2 v3
      have h4 : Keeps mask94 s v2 := by
        unfold v2
        refine (Keeps.setCtr _ rfl ?_)
        exact Keeps.refl _ _
      clear_value v2
      refine Keeps.ite (fun _ => ?_) (fun _ => ?_)
      · refine Keeps.step (State.seqStart_keeps ..) rfl ?_
        exact h4
      · refine (Keeps.setCtr _ rfl ?_)
        exact h4

theorem State.closeTickX_keeps (s : State) :
    Keeps mask81 s (State.closeTickX s) := by
  unfold State.closeTickX
  refine Keeps.ite (fun _ => ?_) (fun _ => ?_)
  · refine Keeps.step (State.energise_keeps ..) rfl ?_
    refine (Keeps.setCtr _ rfl ?_)
    exact Keeps.refl _ _
  · exact Keeps.refl _ _

theorem State.closeTick_keeps (s : State) :
    Keeps mask94 s (State.closeTick s) := by
  unfold State.closeTick
  extract_lets v1
  have h2 : Keeps mask94 s v1 := by
    unfold v1
    refine Keeps.step (State.closeTickX_keeps ..) rfl ?_
    exact Keeps.refl _ _
  clear_value v1
  refine Keeps.ite (fun _ => ?_) (fun _ => ?_)
  · refine Keeps.step (State.seqStart_keeps ..) rfl ?_
    exact h2
  · exact h2

theorem State.openOrder_keeps (s : State) (c : Nat) (force : Bool) :
    Keeps mask88 s (State.openOrder s c force) := by
  unfold State.openOrder
  refine Keeps.ite (fun _ => ?_) (fun _ => ?_)
  · refine Keeps.step (State.openCoils_keeps ..) rfl ?_
    refine (Keeps.setCtr _ rfl ?_)
    exact Keeps.refl _ _
  · refine Keeps.ite (fun _ => ?_) (fun _ => ?_)
    · refine Keeps.step (State.isolate_keeps ..) rfl ?_
      exact Keeps.refl _ _
    · refine Keeps.step (State.waitTick_keeps ..) rfl ?_
      refine Keeps.step (State.isolateWait_keeps ..) rfl ?_
      exact Keeps.refl _ _

theorem State.coilsLost_keeps (s : State) (cause : Nat) (fid : Nat) :
    Keeps mask87 s (State.coilsLost s cause fid) := by
  unfold State.coilsLost
  refine Keeps.ite (fun _ => ?_) (fun _ => ?_)
  · refine Keeps.step (State.isolate_keeps ..) rfl ?_
    exact Keeps.refl _ _
  · refine Keeps.step (State.openCoils_keeps ..) rfl ?_
    extract_lets v5
    refine (Keeps.setCtr _ rfl ?_)
    exact Keeps.refl _ _

theorem State.setInhibit_keeps (s : State) (mask : Nat) :
    Keeps 0x400000 s (State.setInhibit s mask) := by
  unfold State.setInhibit
  extract_lets v1
  refine (Keeps.setCtr _ rfl ?_)
  exact Keeps.refl _ _

theorem State.ctrCfgSat_keeps (s : State) :
    Keeps mask105 s (State.ctrCfgSat s) := by
  unfold State.ctrCfgSat
  refine Keeps.put rfl ?_
  refine Keeps.put rfl ?_
  refine Keeps.put rfl ?_
  exact Keeps.refl _ _

theorem State.ctrAck_keeps (s : State) :
    KeepsO mask106 s (State.ctrAck s) := by
  unfold State.ctrAck
  extract_lets v1 v2
  have h3 : Keeps mask106 s v1 := by
    unfold v1
    unfold State.putFlag
    refine Keeps.put rfl ?_
    refine Keeps.put rfl ?_
    exact Keeps.refl _ _
  clear_value v1
  refine KeepsO.ite (fun _ => ?_) (fun _ => ?_)
  · exact KeepsO.none
  · refine KeepsO.some ?_
    refine (Keeps.setCtr _ rfl ?_)
    exact h3

end Sys2Proof.Machine
end

