-- ==== Sys2Proof/Laws/KeepsRecorder.lean ====
section
/-! SUPPORT. The frame of every function of Machine/Recorder.lean: what it may change, and that it keeps the canonical forms and
the waiting commands. -/
namespace Sys2Proof.Machine

set_option Elab.async false

theorem State.eraseStart_keeps (s : State) (e : Nat) (retry : Bool) :
    Keeps mask123 s (State.eraseStart s e retry) := by
  unfold State.eraseStart
  unfold State.count
  refine Keeps.put rfl ?_
  extract_lets v3
  refine (Keeps.setRcd _ rfl ?_ ?_)
  · with_reducible exact fun c => memClear_wf c
  · exact Keeps.refl _ _

theorem State.sectorOpen_keeps (s : State) (q : Nat) :
    Keeps mask124 s (State.sectorOpen s q) := by
  unfold State.sectorOpen
  extract_lets v1 v2 v3
  have h4 : Keeps mask124 s v2 := by
    unfold v2
    refine Keeps.step (State.eraseStart_keeps ..) rfl ?_
    exact Keeps.refl _ _
  clear_value v2
  refine Keeps.ite (fun _ => ?_) (fun _ => ?_)
  · refine Keeps.put rfl ?_
    exact h4
  · exact h4

theorem State.dropRec_keeps (s : State) :
    Keeps 0x10 s (State.dropRec s) := by
  unfold State.dropRec
  extract_lets v1 v2
  refine Keeps.ite (fun _ => ?_) (fun _ => ?_)
  · refine (Keeps.setRcd _ rfl id ?_)
    exact Keeps.refl _ _
  · exact Keeps.refl _ _

theorem State.setDrain_keeps (s : State) :
    Keeps 0x10 s (State.setDrain s) := by
  unfold State.setDrain
  extract_lets v1 v2
  refine (Keeps.setRcd _ rfl id ?_)
  exact Keeps.refl _ _

theorem State.pageProg_keeps (s : State) (q : Nat) (l : List LogRec) : Keeps mask125 s (State.pageProg s q l) := by
  unfold State.pageProg
  extract_lets s1 rs pages r s2
  have h1 : Keeps mask125 s s1 :=
    Keeps.ite (fun _ => Keeps.step (State.sectorOpen_keeps ..) rfl (Keeps.refl _ _)) (fun _ => Keeps.refl _ _)
  have hp : Memory.wf 0xFF s1.rcd.pages = true → Memory.wf 0xFF pages = true := by
    intro c
    unfold pages
    refine foldl_wf 0xFF _ rs c ?_
    intro m x h
    exact memWrite_wf h
  clear_value pages rs s1
  have h2 : Keeps mask125 s s2 := Keeps.setRcd (s := s1) _ rfl (fun c => hp c) h1
  clear_value s2
  exact Keeps.put rfl h2

theorem State.progStart_keeps (s : State) :
    Keeps mask125 s (State.progStart s) := by
  unfold State.progStart
  refine Keeps.ite (fun _ => ?_) (fun _ => ?_)
  · extract_lets v1 v2 v3 v4
    have h5 : Keeps mask125 s v3 := by
      unfold v3
      refine Keeps.step (State.pageProg_keeps ..) rfl ?_
      exact Keeps.refl _ _
    clear_value v3
    refine Keeps.step (State.setDrain_keeps ..) rfl ?_
    refine Keeps.step (State.dropRec_keeps ..) rfl ?_
    refine (Keeps.setRcd _ rfl id ?_)
    exact h5
  · exact Keeps.refl _ _

theorem State.progFail_keeps (s : State) (rs : List (Nat × LogRec)) : Keeps mask126 s (s.progFail rs) := by
  unfold State.progFail
  extract_lets r a s1
  have hw : ∀ (l : List (Nat × LogRec)) (m : List Host.Cell × Nat), Memory.wf 0xFF m.1 = true →
      Memory.wf 0xFF (l.foldl (fun (m : List Host.Cell × Nat) x =>
        (memWrite 0xFF m.1 (64 * (x.1 % 65536)) (freeBytes 64 m.2), m.2 + 64)) m).1 = true := by
    intro l
    induction l with
    | nil => exact fun _ h => h
    | cons x l ih => exact fun m h => ih _ (memWrite_wf h)
  have h := Keeps.setRcd (M := mask126) { r with
      pages := a.1, prog := none, queue := rs.map (·.2) ++ r.queue, next := (r.next + 3) / 4 * 4 } rfl
    (fun c => hw rs (r.pages, s.freeIx) c) (Keeps.refl _ s)
  have h1 : Keeps mask126 s s1 := Keeps.setFreeIx (M := mask126) _ rfl h
  clear_value s1
  exact Keeps.step (State.event_keeps ..) rfl h1

theorem State.progDone_keeps (s : State) (ok : Bool) :
    Keeps mask127 s (State.progDone s ok) := by
  unfold State.progDone
  split
  · rename_i y1 y2 y3 y4
    refine Keeps.ite (fun _ => ?_) (fun _ => ?_)
    · refine Keeps.step (State.gcSrcN_keeps ..) rfl ?_
      extract_lets v8
      refine (Keeps.setRcd _ rfl id ?_)
      exact Keeps.refl _ _
    · refine Keeps.step (State.progFail_keeps ..) rfl ?_
      exact Keeps.refl _ _
  · rename_i y13 y14
    exact Keeps.refl _ _

theorem State.eraseDone_keeps (s : State) (ok : Bool) :
    Keeps mask128 s (State.eraseDone s ok) := by
  unfold State.eraseDone
  split
  · rename_i y1 y2 y3
    refine Keeps.ite (fun _ => ?_) (fun _ => ?_)
    · extract_lets v6
      refine (Keeps.setRcd _ rfl id ?_)
      exact Keeps.refl _ _
    · extract_lets v10 v11
      have h12 : Keeps mask128 s v11 := by
        unfold v11
        refine (Keeps.setRcd _ rfl id ?_)
        exact Keeps.refl _ _
      clear_value v11
      refine Keeps.ite (fun _ => ?_) (fun _ => ?_)
      · refine Keeps.step (State.event_keeps ..) rfl ?_
        unfold State.count
        refine Keeps.put rfl ?_
        exact h12
      · refine Keeps.step (State.eraseStart_keeps ..) rfl ?_
        exact Keeps.refl _ _
  · rename_i y22 y23
    exact Keeps.refl _ _

theorem State.scanWrite_keeps (l0 : Nat) (a1 : List LogRec) (a2 : State) : Keeps mask129 a2 (State.scanWrite l0 a1 a2) := by
  induction l0 generalizing a1 a2 with
  | zero => exact Keeps.refl _ _
  | succ n ih =>
    unfold State.scanWrite
    refine Keeps.ite (fun _ => Keeps.refl _ _) (fun _ => ?_)
    extract_lets q k r s0 s1 r1
    have h0 : Keeps mask129 a2 s0 := Keeps.ite (fun _ => Keeps.setRcd _ rfl id (Keeps.refl _ _)) (fun _ => Keeps.refl _ _)
    clear_value s0
    have h1 : Keeps mask129 a2 s1 := Keeps.step (State.pageProg_keeps ..) rfl h0
    clear_value s1
    exact Keeps.step (ih ..) rfl (Keeps.step (State.gcSrcN_keeps ..) rfl (Keeps.setRcd _ rfl id h1))

theorem State.scanDone_keeps (s : State) :
    Keeps mask130 s (State.scanDone s) := by
  unfold State.scanDone
  extract_lets v1 v2 v3 v4 v5 v6 v7 v8 v9 v10 v11 v12 v13 v14 v15 v16 v17 v18 v19 v20 v21
  have h22 : Keeps mask130 s v15 := by
    unfold v15
    refine (Keeps.setRcd _ rfl id ?_)
    exact Keeps.refl _ _
  clear_value v15
  have h23 : Keeps mask130 s v16 := by
    unfold v16
    refine Keeps.ite (fun _ => ?_) (fun _ => ?_)
    · exact h22
    · refine Keeps.step (State.eraseStart_keeps ..) rfl ?_
      exact h22
  clear_value v16
  have h24 : Keeps mask130 s v17 := by
    unfold v17
    refine Keeps.put rfl ?_
    refine Keeps.put rfl ?_
    refine Keeps.put rfl ?_
    exact h23
  clear_value v17
  have h25 : Keeps mask130 s v18 := by
    unfold v18
    refine Keeps.foldl _ ?_ (fun a26 b27 k28 => ?_)
    · refine Keeps.putFlag rfl ?_
      refine Keeps.step (State.scanWrite_keeps ..) rfl ?_
      exact h24
    · refine Keeps.step (State.event_keeps ..) rfl ?_
      exact k28
  clear_value v18
  refine (Keeps.setTim _ rfl ?_)
  exact h25

theorem State.progCut_keeps (s : State) (cut : Nat) : Keeps 0xa000010 s (s.progCut cut) := by
  unfold State.progCut
  split
  · extract_lets lo n p r
    refine Keeps.ite (fun _ => ?_) (fun _ => Keeps.setRcd _ rfl id (Keeps.refl _ _))
    have h := Keeps.setRcd (M := 0xa000010) { s.rcd with pages := memWrite 0xFF p (lo + cut) (freeBytes 1 s.freeIx), prog := none } rfl
      (fun c => memWrite_wf (memClear_wf c)) (Keeps.refl _ s)
    exact Keeps.setFreeIx (M := 0xa000010) _ rfl h
  · exact Keeps.refl _ _

theorem State.lastGasp_keeps (s : State) :
    Keeps 0x10 s (State.lastGasp s) := by
  unfold State.lastGasp
  extract_lets v1 v2 v3 v4
  refine (Keeps.setRcd _ rfl id ?_)
  exact Keeps.refl _ _

end Sys2Proof.Machine
end

