-- ==== Sys2Proof/Laws/KeepsEstimate.lean ====
section
/-! SUPPORT. The frame of every function of Machine/Estimate.lean: what it may change, and that it keeps the canonical forms and
the waiting commands. -/
namespace Sys2Proof.Machine

set_option Elab.async false

theorem State.setCell_keeps (s : State) (c : Nat) (a2 : EstCell) :
    Keeps 0x200000 s (State.setCell s c a2) := by
  unfold State.setCell
  extract_lets v1
  refine (Keeps.setEst _ rfl ?_)
  exact Keeps.refl _ _

theorem State.mapCells_keeps (s : State) (f : Nat → EstCell → EstCell) :
    Keeps 0x200000 s (State.mapCells s f) := by
  unfold State.mapCells
  extract_lets v1
  refine (Keeps.setEst _ rfl ?_)
  exact Keeps.refl _ _

theorem State.estArm_keeps (s : State) :
    Keeps 0x200000 s (State.estArm s) := by
  unfold State.estArm
  refine (Keeps.setEst _ rfl ?_)
  exact Keeps.refl _ _

theorem State.estPrepare_keeps (s : State) :
    Keeps mask131 s (State.estPrepare s) := by
  unfold State.estPrepare
  extract_lets v1 v2 v3 v4
  have h5 : Keeps mask131 s v2 := by
    unfold v2
    split
    · rename_i y7 y8 y9
      extract_lets v11
      have h12 : Keeps mask131 s v11 := by
        unfold v11
        refine Keeps.put rfl ?_
        refine (Keeps.setEst _ rfl ?_)
        exact Keeps.refl _ _
      clear_value v11
      refine Keeps.ite (fun _ => ?_) (fun _ => ?_)
      · exact h12
      · refine Keeps.step (State.mapCells_keeps ..) rfl ?_
        exact h12
    · rename_i y20 y21
      exact Keeps.refl _ _
  clear_value v2
  have h23 : Keeps mask131 s v3 := by
    unfold v3
    refine Keeps.step (State.mapCells_keeps ..) rfl ?_
    exact h5
  clear_value v3
  refine Keeps.ite (fun _ => ?_) (fun _ => ?_)
  · refine (Keeps.setEst _ rfl ?_)
    exact h23
  · exact h5

theorem State.takeTemps_keeps (s : State) :
    Keeps 0x200000 s (State.takeTemps s) := by
  unfold State.takeTemps
  extract_lets v1
  refine (Keeps.setEst _ rfl ?_)
  exact Keeps.refl _ _

theorem State.estCell_keeps (s : State) (dd : Option (Int × Int)) (c : Nat) :
    Keeps 0x200000 s (State.estCell s dd c) := by
  unfold State.estCell
  extract_lets v1 v2 v3 v4 v5 v6 v7
  refine Keeps.step (State.setCell_keeps ..) rfl ?_
  exact Keeps.refl _ _

theorem State.restRound_keeps (s : State) :
    Keeps 0x200000 s (State.restRound s) := by
  unfold State.restRound
  extract_lets v1 v2
  have h3 : Keeps 0x200000 s v1 := by
    unfold v1
    refine Keeps.foldl _ ?_ (fun a5 b6 k7 => ?_)
    · exact Keeps.refl _ _
    · extract_lets v10 v11
      refine Keeps.ite (fun _ => ?_) (fun _ => ?_)
      · refine Keeps.step (State.setCell_keeps ..) rfl ?_
        exact k7
      · exact k7
  clear_value v1
  refine Keeps.ite (fun _ => ?_) (fun _ => ?_)
  · refine (Keeps.setEst _ rfl ?_)
    exact h3
  · exact Keeps.refl _ _

theorem State.estSop_keeps (s : State) :
    Keeps mask132 s (State.estSop s) := by
  unfold State.estSop
  extract_lets v1 v2 v3 v4 v5 v6 v7 v8 v9 v10 v11 v12 v13 v14
  have h15 : Keeps mask132 s v12 := by
    unfold v12
    dsimp only [v10]
    refine Keeps.put rfl ?_
    refine Keeps.put rfl ?_
    refine Keeps.put rfl ?_
    refine Keeps.put rfl ?_
    refine Keeps.put rfl ?_
    refine Keeps.put rfl ?_
    refine Keeps.put rfl ?_
    refine Keeps.put rfl ?_
    refine Keeps.put rfl ?_
    refine Keeps.put rfl ?_
    refine Keeps.put rfl ?_
    refine Keeps.put rfl ?_
    exact Keeps.refl _ _
  clear_value v12
  have h30 : Keeps mask132 s v14 := by
    unfold v14
    refine (Keeps.setEst _ rfl ?_)
    exact h15
  clear_value v14
  refine Keeps.put rfl ?_
  refine Keeps.put rfl ?_
  exact h30

theorem State.estAggregate_keeps (s : State) :
    Keeps mask133 s (State.estAggregate s) := by
  unfold State.estAggregate
  extract_lets v1 v2 v3 v4
  have h5 : Keeps mask133 s v3 := by
    unfold v3
    unfold State.putFlag
    refine Keeps.put rfl ?_
    refine Keeps.put rfl ?_
    exact Keeps.refl _ _
  clear_value v3
  clear_value v1
  split
  · rename_i y11
    refine Keeps.fields _ rfl ?_ (fun a13 b14 m16 k15 => ?_)
    · exact h5
    · unfold State.clr
      refine Keeps.put (by assumption) ?_
      exact k15
  · rename_i y21 y22 y23
    extract_lets v25 v26 v27
    have h28 : Keeps mask133 s v27 := by
      unfold v27
      refine Keeps.put rfl ?_
      refine Keeps.put rfl ?_
      refine Keeps.put rfl ?_
      refine Keeps.put rfl ?_
      exact h5
    clear_value v27
    refine Keeps.put rfl ?_
    refine Keeps.put rfl ?_
    refine Keeps.put rfl ?_
    exact h28

theorem State.setCond_keeps (s : State) (n : Nat) (c : Cond) :
    Keeps 0x200000 s (State.setCond s n c) := by
  unfold State.setCond
  extract_lets v1
  refine (Keeps.setEst _ rfl ?_)
  exact Keeps.refl _ _

theorem State.condReport_keeps (s : State) (n : Nat) (confirmed : Bool) :
    Keeps mask6 s (State.condReport s n confirmed) := by
  unfold State.condReport
  extract_lets v1
  refine Keeps.step (State.notify_keeps ..) rfl ?_
  refine Keeps.step (State.offer_keeps ..) rfl ?_
  exact Keeps.refl _ _

theorem State.condClear_keeps (s : State) (n : Nat) :
    Keeps mask134 s (State.condClear s n) := by
  unfold State.condClear
  refine Keeps.step (State.condReport_keeps ..) rfl ?_
  refine Keeps.putBitOf rfl ?_
  refine Keeps.putBitOf rfl ?_
  exact Keeps.refl _ _

theorem State.condEval_keeps {M : Nat} {s0 : State} {n : Nat} {met : Option Bool} {clr : Bool} {x : State × List Nat}
    (m : mask135 ||| M = M) (h : Keeps M s0 x.1) : Keeps M s0 (State.condEval n met clr x).1 := by
  refine Keeps.trans h (Keeps.mono (m := mask135) ?_ m)
  unfold State.condEval
  extract_lets s c s1 s2
  have h0 : Keeps mask135 s s := Keeps.refl _ _
  split
  · have h1 : Keeps mask135 s s1 := Keeps.put rfl (Keeps.step (State.setCond_keeps ..) rfl h0)
    exact Keeps.iteFst (fun _ => Keeps.put rfl (Keeps.put rfl h1)) (fun _ => h1)
  · have h1 : Keeps mask135 s s2 := Keeps.step (State.setCond_keeps ..) rfl h0
    exact Keeps.ite (fun _ => Keeps.step (State.condClear_keeps ..) rfl h1) (fun _ => h1)
  · exact Keeps.step (State.setCond_keeps ..) rfl h0

theorem State.estEv_keeps (s : State) (typ : Nat) (lvl : Nat) (n : Nat) :
    Keeps mask3 s (State.estEv s typ lvl n) := by
  unfold State.estEv
  refine Keeps.step (State.event_keeps ..) rfl ?_
  exact Keeps.refl _ _

theorem State.softDisc_keeps (s : State) (n : Nat) :
    Keeps mask136 s (State.softDisc s n) := by
  unfold State.softDisc
  extract_lets v1 v2 v3
  have h4 : Keeps mask136 s v1 := by
    unfold v1
    unfold State.count
    refine Keeps.put rfl ?_
    exact Keeps.refl _ _
  clear_value v1
  have h8 : Keeps mask136 s v2 := by
    unfold v2
    refine Keeps.put rfl ?_
    exact h4
  clear_value v2
  have h11 : Keeps mask136 s v3 := by
    unfold v3
    refine Keeps.step (State.estEv_keeps ..) rfl ?_
    refine Keeps.put rfl ?_
    exact h8
  clear_value v3
  refine Keeps.ite (fun _ => ?_) (fun _ => ?_)
  · refine Keeps.step (State.estEv_keeps ..) rfl ?_
    exact h4
  · refine Keeps.ite (fun _ => ?_) (fun _ => ?_)
    · refine Keeps.step (State.isolateWait_keeps ..) rfl ?_
      exact h11
    · refine Keeps.step (State.estEv_keeps ..) rfl ?_
      refine Keeps.put rfl ?_
      exact h8

theorem State.hardDisc_keeps (s : State) (n : Nat) :
    Keeps mask137 s (State.hardDisc s n) := by
  unfold State.hardDisc
  extract_lets v1 v2
  have h3 : Keeps mask137 s v1 := by
    unfold v1
    refine Keeps.put rfl ?_
    refine Keeps.put rfl ?_
    unfold State.putFlag
    refine Keeps.put rfl ?_
    unfold State.count
    refine Keeps.put rfl ?_
    exact Keeps.refl _ _
  clear_value v1
  have h11 : Keeps mask137 s v2 := by
    unfold v2
    refine Keeps.step (State.estEv_keeps ..) rfl ?_
    exact h3
  clear_value v2
  refine Keeps.ite (fun _ => ?_) (fun _ => ?_)
  · refine Keeps.step (State.isolate_keeps ..) rfl ?_
    exact h11
  · exact h11

theorem State.condReact_keeps {M : Nat} {s0 : State} {x : State × List Nat} (m : mask138 ||| M = M) (h : Keeps M s0 x.1) :
    Keeps M s0 (State.condReact x) := by
  refine Keeps.trans h (Keeps.mono (m := mask138) ?_ m)
  unfold State.condReact
  have h0 : Keeps mask138 x.1 x.1 := Keeps.refl _ _
  split
  · exact h0
  · extract_lets r n s1
    have h1 : Keeps mask138 x.1 s1 := Keeps.ite (fun _ => Keeps.step (State.hardDisc_keeps ..) rfl h0) (fun _ =>
      Keeps.ite (fun _ => Keeps.step (State.softDisc_keeps ..) rfl h0) (fun _ => Keeps.step (State.estEv_keeps ..) rfl h0))
    exact Keeps.foldl _ h1 fun _ _ k => Keeps.step (State.condReport_keeps ..) rfl k

theorem State.condWords_keeps {M : Nat} {s0 : State} {n : Nat} {l : List TestWord} {low : Bool} {p clr : Int → Bool}
    {x : State × List Nat} (m : mask135 ||| M = M) (h : Keeps M s0 x.1) :
    Keeps M s0 (State.condWords n l low p clr x).1 :=
  State.condEval_keeps m (Keeps.step (State.setCond_keeps ..) (sub_trans rfl m) h)

theorem State.roundConds_keeps (s : State) :
    Keeps mask139 s (State.roundConds s) := by
  unfold State.roundConds
  extract_lets l cw tw hiV loV hiT loT fuse all stale fresh d
  exact State.condReact_keeps rfl (State.condWords_keeps rfl (State.condWords_keeps rfl (State.condWords_keeps rfl
    (State.condWords_keeps rfl (State.condEval_keeps rfl (State.condEval_keeps rfl (State.condWords_keeps rfl
    (State.condWords_keeps rfl (State.condWords_keeps rfl (State.condWords_keeps rfl (State.condWords_keeps rfl
    (State.condWords_keeps rfl (State.condWords_keeps rfl (Keeps.refl _ _))))))))))))))

theorem State.chargeEnd_keeps (s : State) :
    Keeps mask86 s (State.chargeEnd s) := by
  unfold State.chargeEnd
  refine Keeps.ite (fun _ => ?_) (fun _ => ?_)
  · split
    · rename_i y2 y3
      extract_lets v5
      refine (Keeps.setEst _ rfl ?_)
      exact Keeps.refl _ _
    · rename_i y8 y9
      extract_lets v11 v12
      refine Keeps.ite (fun _ => ?_) (fun _ => ?_)
      · refine Keeps.put rfl ?_
        refine (Keeps.setEst _ rfl ?_)
        exact Keeps.refl _ _
      · refine (Keeps.setEst _ rfl ?_)
        exact Keeps.refl _ _
    · rename_i y19 y20
      exact Keeps.refl _ _
  · exact Keeps.refl _ _

theorem State.roundLost_keeps (s : State) :
    Keeps 0x200000 s (State.roundLost s) := by
  unfold State.roundLost
  extract_lets v1 v2
  have h3 : Keeps 0x200000 s v1 := by
    unfold v1
    refine Keeps.step (State.mapCells_keeps ..) rfl ?_
    exact Keeps.refl _ _
  clear_value v1
  refine (Keeps.setEst _ rfl ?_)
  exact h3

theorem State.estRound_keeps (s : State) (fresh : Bool) :
    Keeps mask140 s (State.estRound s fresh) := by
  unfold State.estRound
  extract_lets v1 v2 v3 v4 v5 v6 v7 v8 v9 v10 v11
  have h12 : Keeps mask140 s v1 := by
    unfold v1
    refine Keeps.step (State.estPrepare_keeps ..) rfl ?_
    exact Keeps.refl _ _
  clear_value v1
  have h13 : Keeps mask140 s v2 := by
    unfold v2
    refine Keeps.step (State.takeTemps_keeps ..) rfl ?_
    exact h12
  clear_value v2
  have h14 : Keeps mask140 s v5 := by
    unfold v5
    refine Keeps.foldl _ ?_ (fun a15 b16 k17 => ?_)
    · exact h13
    · refine Keeps.step (State.estCell_keeps ..) rfl ?_
      exact k17
  clear_value v5
  have h18 : Keeps mask140 s v9 := by
    unfold v9
    refine Keeps.step (State.estSop_keeps ..) rfl ?_
    refine Keeps.step (State.restRound_keeps ..) rfl ?_
    refine (Keeps.setEst _ rfl ?_)
    exact h14
  clear_value v9
  have h19 : Keeps mask140 s v10 := by
    unfold v10
    refine Keeps.put rfl ?_
    exact h18
  clear_value v10
  have h20 : Keeps mask140 s v11 := by
    unfold v11
    refine Keeps.ite (fun _ => ?_) (fun _ => ?_)
    · refine Keeps.ite (fun _ => ?_) (fun _ => ?_)
      · refine State.withSvc_keeps rfl ?_ ?_
        · exact h19
        · intro x21
          intro x22
          refine Keeps.step (State.assistSettle_keeps ..) rfl ?_
          refine Keeps.putFlag rfl ?_
          exact x22
      · exact h19
    · refine Keeps.step (State.roundLost_keeps ..) rfl ?_
      exact h12
  clear_value v11
  refine Keeps.step (State.chargeEnd_keeps ..) rfl ?_
  refine Keeps.step (State.roundConds_keeps ..) rfl ?_
  refine Keeps.step (State.estAggregate_keeps ..) rfl ?_
  exact h20

theorem State.tickEval_keeps (s : State) :
    Keeps mask135 s (State.tickEval s).1 := by
  unfold State.tickEval
  extract_lets l i cold chg ovr
  exact State.condEval_keeps rfl (State.condEval_keeps rfl (State.condEval_keeps rfl (State.condEval_keeps rfl
    (State.condEval_keeps rfl (Keeps.step (State.setCond_keeps ..) rfl (Keeps.refl _ _))))))

theorem State.isoConds_keeps (s : State) :
    Keeps mask139 s (State.isoConds s) := by
  unfold State.isoConds
  extract_lets l p n one
  exact State.condReact_keeps rfl (State.condEval_keeps rfl (State.condEval_keeps rfl (Keeps.refl _ _)))

theorem State.measCond_keeps (s : State) (gain0 : Bool) :
    Keeps mask141 s (State.measCond s gain0) := by
  unfold State.measCond
  extract_lets v1 v2 v3 v4 v5 v6
  have h7 : Keeps mask141 s v2 := by
    unfold v2
    unfold State.putBitOf
    refine Keeps.put rfl ?_
    refine Keeps.step (State.setCond_keeps ..) rfl ?_
    exact Keeps.refl _ _
  clear_value v2
  have h12 : Keeps mask141 s v5 := by
    unfold v5
    refine Keeps.step (State.setCond_keeps ..) rfl ?_
    exact Keeps.refl _ _
  clear_value v5
  refine Keeps.ite (fun _ => ?_) (fun _ => ?_)
  · refine (Keeps.setEst _ rfl ?_)
    exact h7
  · refine Keeps.ite (fun _ => ?_) (fun _ => ?_)
    · exact h12
    · refine Keeps.ite (fun _ => ?_) (fun _ => ?_)
      · refine Keeps.step (State.condClear_keeps ..) rfl ?_
        refine (Keeps.setEst _ rfl ?_)
        exact h12
      · refine (Keeps.setEst _ rfl ?_)
        exact h12

theorem State.condConfirm_keeps (s : State) (n : Nat) :
    Keeps mask142 s (State.condConfirm s n) := by
  unfold State.condConfirm
  refine Keeps.ite (fun _ => ?_) (fun _ => ?_)
  · refine State.condReact_keeps rfl ?_
    dsimp only
    unfold State.putBitOf
    refine Keeps.put rfl ?_
    refine Keeps.put rfl ?_
    exact Keeps.refl _ _
  · exact Keeps.refl _ _

theorem State.chargeOver_keeps (s : State) :
    Keeps mask136 s (State.chargeOver s) := by
  unfold State.chargeOver
  refine Keeps.ite (fun _ => ?_) (fun _ => ?_)
  · refine Keeps.step (State.softDisc_keeps ..) rfl ?_
    extract_lets v3
    refine (Keeps.setEst _ rfl ?_)
    exact Keeps.refl _ _
  · exact Keeps.refl _ _

theorem State.estTick_keeps (s : State) :
    Keeps mask143 s (State.estTick s) := by
  unfold State.estTick
  extract_lets v1 v2 v3 v4 v5 v6 v7 v8 v9
  have h10 : Keeps mask143 s v2 := by
    unfold v2
    split
    · rename_i y11 y12 y13
      refine State.withSvc_keeps rfl ?_ ?_
      · refine Keeps.put rfl ?_
        refine (Keeps.setEst _ rfl ?_)
        exact Keeps.refl _ _
      · intro x14
        intro x15
        refine Keeps.step (State.assistSettle_keeps ..) rfl ?_
        refine Keeps.putFlag rfl ?_
        exact x15
    · rename_i y16 y17
      exact Keeps.refl _ _
  clear_value v2
  have h18 : Keeps mask143 s v7 := by
    unfold v7
    refine (Keeps.setEst _ rfl ?_)
    exact h10
  clear_value v7
  have h19 : Keeps mask143 s v8 := by
    unfold v8
    refine Keeps.putFlag rfl ?_
    exact h18
  clear_value v8
  have h20 : Keeps mask143 s v9.1 := by
    unfold v9
    refine Keeps.step (State.tickEval_keeps ..) rfl ?_
    exact h19
  clear_value v9
  refine Keeps.ite (fun _ => ?_) (fun _ => ?_)
  · refine State.condReact_keeps rfl ?_
    exact h20
  · refine Keeps.ite (fun _ => ?_) (fun _ => ?_)
    · refine State.condReact_keeps rfl ?_
      dsimp only
      refine Keeps.step (State.chargeOver_keeps ..) rfl ?_
      exact h20
    · refine Keeps.step (State.chargeOver_keeps ..) rfl ?_
      refine State.condReact_keeps rfl ?_
      exact h20

theorem State.estAck_keeps (s : State) :
    KeepsO mask144 s (State.estAck s) := by
  unfold State.estAck
  refine KeepsO.ite (fun _ => ?_) (fun _ => ?_)
  · refine KeepsO.ite (fun _ => ?_) (fun _ => ?_)
    · exact KeepsO.none
    · refine KeepsO.some ?_
      unfold State.putFlag
      refine Keeps.put rfl ?_
      exact Keeps.refl _ _
  · refine KeepsO.some ?_
    exact Keeps.refl _ _

theorem State.sohReset_keeps (s : State) :
    Keeps 0x200000 s (State.sohReset s) := by
  unfold State.sohReset
  refine Keeps.step (State.mapCells_keeps ..) rfl ?_
  exact Keeps.refl _ _

theorem State.socReinit_keeps (s : State) :
    Keeps 0x200000 s (State.socReinit s) := by
  unfold State.socReinit
  extract_lets v1
  refine (Keeps.setEst _ rfl ?_)
  exact Keeps.refl _ _

theorem State.modelLoad_keeps (s : State) (b : Bytes) :
    Keeps mask145 s (State.modelLoad s b).1 := by
  unfold State.modelLoad
  split
  · rename_i y1 y2 y3
    dsimp only
    refine (Keeps.setEst _ rfl ?_)
    exact Keeps.refl _ _
  · rename_i y7 y8 y9
    dsimp only
    refine Keeps.put rfl ?_
    exact Keeps.refl _ _

theorem State.limitLoad_keeps (s : State) (b : Bytes) :
    Keeps mask146 s (State.limitLoad s b).1 := by
  unfold State.limitLoad
  split
  · rename_i y1 y2 y3
    dsimp only
    refine (Keeps.setEst _ rfl ?_)
    exact Keeps.refl _ _
  · rename_i y7 y8 y9
    dsimp only
    refine Keeps.put rfl ?_
    exact Keeps.refl _ _

theorem State.estRecord_keeps (s : State) :
    Keeps 0x10 s (State.estRecord s) := by
  unfold State.estRecord
  extract_lets v1 v2
  refine Keeps.step (State.setDrain_keeps ..) rfl ?_
  refine (Keeps.setRcd _ rfl id ?_)
  exact Keeps.refl _ _

theorem State.estRestore_keeps (s : State) (a : Nat) :
    Keeps 0x200000 s (State.estRestore s a) := by
  unfold State.estRestore
  split
  · rename_i y1 y2 y3
    refine Keeps.foldl _ ?_ (fun a5 b6 k7 => ?_)
    · exact Keeps.refl _ _
    · extract_lets v10
      refine Keeps.step (State.setCell_keeps ..) rfl ?_
      exact k7
  · rename_i y13 y14
    exact Keeps.refl _ _

theorem State.enumAnswer_keeps (s : State) (ret : Bool) (rx : Option Bytes) :
    Keeps mask70 s (State.enumAnswer s ret rx) := by
  unfold State.enumAnswer
  extract_lets v1
  have h2 : Keeps mask70 s v1 := by
    unfold v1
    refine Keeps.step (State.enumRsp_keeps ..) rfl ?_
    exact Keeps.refl _ _
  clear_value v1
  split
  · rename_i y3 y4 y5
    refine Keeps.step (State.estRestore_keeps ..) rfl ?_
    exact h2
  · rename_i y6 y7
    exact h2

end Sys2Proof.Machine
end

