-- ==== Sys2Proof/Laws/KeepsExec.lean ====
section
/-! SUPPORT. The frame of every function of Machine/Exec.lean: what it may change, and that it keeps the canonical forms and
the waiting commands. -/
namespace Sys2Proof.Machine

set_option Elab.async false

theorem wfElse_keeps (ok : Bool) (mnemonic : String) (t : State) :
    KeepsR 0x0 t (wfElse ok mnemonic t) := by
  unfold wfElse
  refine KeepsR.ite (fun _ => ?_) (fun _ => ?_)
  · refine KeepsR.next ?_
    exact Keeps.refl _ _
  · exact KeepsR.refused

end Sys2Proof.Machine
end

