-- ==== Sys2Proof/Laws/KeepsField.lean ====
section
/-! SUPPORT. The frame of every function of Machine/Field.lean: what it may change, and that it keeps the canonical forms and
the waiting commands. -/
namespace Sys2Proof.Machine

set_option Elab.async false

theorem State.lswDrop_keeps (s : State) (mask : Nat) :
    Keeps mask169 s (State.lswDrop s mask) := by
  unfold State.lswDrop
  extract_lets v1 v2
  have h3 : Keeps mask169 s v1 := by
    unfold v1
    refine Keeps.put rfl ?_
    exact Keeps.refl _ _
  clear_value v1
  refine (Keeps.setField _ rfl ?_)
  exact h3

theorem State.lswOff_keeps (s : State) (mask : Nat) :
    Keeps mask169 s (State.lswOff s mask) := by
  unfold State.lswOff
  extract_lets v1 v2
  have h3 : Keeps mask169 s v1 := by
    unfold v1
    refine Keeps.step (State.lswDrop_keeps ..) rfl ?_
    exact Keeps.refl _ _
  clear_value v1
  refine (Keeps.setField _ rfl ?_)
  exact h3

theorem State.lswShadow_keeps (s : State) (fid : Nat) :
    Keeps 0x8 s (State.lswShadow s fid) := by
  unfold State.lswShadow
  refine Keeps.step (State.declareShadow_keeps ..) rfl ?_
  exact Keeps.refl _ _

theorem State.lswEv_keeps (s : State) (typ : Nat) (lvl : Nat) :
    Keeps mask170 s (State.lswEv s typ lvl) := by
  unfold State.lswEv
  extract_lets v1 v2
  have h3 : Keeps mask170 s v1 := by
    unfold v1
    refine Keeps.step (State.event_keeps ..) rfl ?_
    exact Keeps.refl _ _
  clear_value v1
  refine Keeps.ite (fun _ => ?_) (fun _ => ?_)
  · refine Keeps.step (State.lswShadow_keeps ..) rfl ?_
    refine Keeps.step (State.lswOff_keeps ..) rfl ?_
    exact h3
  · exact h3

theorem State.lswDecide_keeps (s : State) (n : Nat) :
    Keeps mask171 s (State.lswDecide s n) := by
  unfold State.lswDecide
  extract_lets v1 v2
  have h3 : Keeps mask171 s v1 := by
    unfold v1
    refine Keeps.putBitOf rfl ?_
    exact Keeps.refl _ _
  clear_value v1
  refine (Keeps.setField _ rfl ?_)
  exact h3

theorem State.lswStart_keeps (s : State) (n : Nat) :
    Keeps mask169 s (State.lswStart s n) := by
  unfold State.lswStart
  extract_lets v1 v2
  have h3 : Keeps mask169 s v1 := by
    unfold v1
    refine Keeps.putBitOf rfl ?_
    exact Keeps.refl _ _
  clear_value v1
  refine (Keeps.setField _ rfl ?_)
  exact h3

theorem State.lswCfg_keeps (s : State) (n : Nat) (ilim : Nat) (blank : Nat) :
    Keeps mask172 s (State.lswCfg s n ilim blank) := by
  unfold State.lswCfg
  refine Keeps.put rfl ?_
  refine Keeps.put rfl ?_
  exact Keeps.refl _ _

theorem State.lswRefusal_keeps (s : State) (n : Nat) :
    Keeps 0x2000000 s (State.lswRefusal s n).2 := by
  unfold State.lswRefusal
  refine Keeps.iteSnd (fun _ => ?_) (fun _ => ?_)
  · dsimp only
    exact Keeps.refl _ _
  · refine Keeps.iteSnd (fun _ => ?_) (fun _ => ?_)
    · dsimp only
      exact Keeps.refl _ _
    · refine Keeps.iteSnd (fun _ => ?_) (fun _ => ?_)
      · extract_lets v8
        have h9 : Keeps 0x2000000 s v8.2 := by
          unfold v8
          refine Keeps.step (State.free_keeps ..) rfl ?_
          exact Keeps.refl _ _
        clear_value v8
        dsimp only
        exact h9
      · dsimp only
        exact Keeps.refl _ _

theorem State.lswOrder_keeps (s : State) (n : Nat) (on : Bool) (cfg : Option (Nat × Nat)) :
    Keeps mask173 s (State.lswOrder s n on cfg) := by
  unfold State.lswOrder
  extract_lets v1 v2
  have h3 : Keeps mask173 s v1 := by
    unfold v1
    split
    · rename_i y4 y5
      refine Keeps.step (State.lswCfg_keeps ..) rfl ?_
      exact Keeps.refl _ _
    · rename_i y6
      exact Keeps.refl _ _
  clear_value v1
  have h7 : Keeps mask173 s v2 := by
    unfold v2
    refine Keeps.step (State.lswDecide_keeps ..) rfl ?_
    exact h3
  clear_value v2
  refine Keeps.ite (fun _ => ?_) (fun _ => ?_)
  · refine Keeps.ite (fun _ => ?_) (fun _ => ?_)
    · exact h7
    · refine Keeps.step (State.lswStart_keeps ..) rfl ?_
      exact h7
  · refine Keeps.step (State.lswOff_keeps ..) rfl ?_
    exact h3

theorem State.lswCount_keeps (s : State) (n : Nat) :
    Keeps mask174 s (State.lswCount s n) := by
  unfold State.lswCount
  refine Keeps.ite (fun _ => ?_) (fun _ => ?_)
  · unfold State.count
    refine Keeps.put rfl ?_
    exact Keeps.refl _ _
  · unfold State.count
    refine Keeps.put rfl ?_
    exact Keeps.refl _ _

theorem State.lswLatch_keeps (s : State) (n : Nat) (thermal : Bool) :
    Keeps mask175 s (State.lswLatch s n thermal) := by
  unfold State.lswLatch
  extract_lets v1 v2 v3
  have h4 : Keeps mask175 s v1 := by
    unfold v1
    refine Keeps.step (State.lswCount_keeps ..) rfl ?_
    unfold State.putBitOf
    refine Keeps.put rfl ?_
    refine Keeps.step (State.lswOff_keeps ..) rfl ?_
    exact Keeps.refl _ _
  clear_value v1
  have h10 : Keeps mask175 s v3 := by
    unfold v3
    refine (Keeps.setField _ rfl ?_)
    exact h4
  clear_value v3
  refine Keeps.ite (fun _ => ?_) (fun _ => ?_)
  · refine Keeps.ite (fun _ => ?_) (fun _ => ?_)
    · refine Keeps.step (State.lswEv_keeps ..) rfl ?_
      unfold State.putBitOf
      refine Keeps.put rfl ?_
      exact h10
    · refine Keeps.step (State.lswEv_keeps ..) rfl ?_
      unfold State.putBitOf
      refine Keeps.put rfl ?_
      exact h10
  · exact Keeps.refl _ _

theorem State.blankEnd_keeps (s : State) (n : Nat) :
    Keeps 0x800000 s (State.blankEnd s n) := by
  unfold State.blankEnd
  extract_lets v1
  refine (Keeps.setField _ rfl ?_)
  exact Keeps.refl _ _

theorem State.openLoad_keeps (s : State) (n : Nat) (is : Bool) :
    Keeps mask176 s (State.openLoad s n is) := by
  unfold State.openLoad
  extract_lets v1
  have h2 : Keeps mask176 s v1 := by
    unfold v1
    unfold State.putBitOf
    refine Keeps.put rfl ?_
    exact Keeps.refl _ _
  clear_value v1
  refine Keeps.ite (fun _ => ?_) (fun _ => ?_)
  · refine Keeps.ite (fun _ => ?_) (fun _ => ?_)
    · refine Keeps.step (State.lswEv_keeps ..) rfl ?_
      exact h2
    · exact h2
  · exact Keeps.refl _ _

theorem State.vfldLow_keeps (s : State) (vfld : Nat) :
    Keeps mask177 s (State.vfldLow s vfld) := by
  unfold State.vfldLow
  extract_lets v1 v2 v3
  have h4 : Keeps mask177 s v1 := by
    unfold v1
    unfold State.putFlag
    refine Keeps.put rfl ?_
    refine Keeps.step (State.lswDrop_keeps ..) rfl ?_
    exact Keeps.refl _ _
  clear_value v1
  have h9 : Keeps mask177 s v3 := by
    unfold v3
    refine (Keeps.setField _ rfl ?_)
    exact h4
  clear_value v3
  refine Keeps.ite (fun _ => ?_) (fun _ => ?_)
  · exact Keeps.refl _ _
  · refine Keeps.step (State.lswEv_keeps ..) rfl ?_
    refine Keeps.step (State.offer_keeps ..) rfl ?_
    exact h9

theorem State.restoreNext_keeps (s : State) :
    Keeps mask169 s (State.restoreNext s) := by
  unfold State.restoreNext
  split
  · rename_i y1 y2 y3 y4
    extract_lets v6 v7
    have h8 : Keeps mask169 s v7 := by
      unfold v7
      refine (Keeps.setField _ rfl ?_)
      exact Keeps.refl _ _
    clear_value v7
    refine Keeps.ite (fun _ => ?_) (fun _ => ?_)
    · refine Keeps.step (State.lswStart_keeps ..) rfl ?_
      exact h8
    · exact h8
  · rename_i y15 y16
    exact Keeps.refl _ _

theorem State.vfldHigh_keeps (s : State) :
    Keeps mask178 s (State.vfldHigh s) := by
  unfold State.vfldHigh
  extract_lets v1 v2
  have h3 : Keeps mask178 s v1 := by
    unfold v1
    unfold State.putFlag
    refine Keeps.put rfl ?_
    exact Keeps.refl _ _
  clear_value v1
  refine Keeps.ite (fun _ => ?_) (fun _ => ?_)
  · refine Keeps.step (State.restoreNext_keeps ..) rfl ?_
    refine (Keeps.setField _ rfl ?_)
    exact h3
  · exact Keeps.refl _ _

theorem State.loopEv_keeps (s : State) (typ : Nat) (lvl : Nat) :
    Keeps mask3 s (State.loopEv s typ lvl) := by
  unfold State.loopEv
  refine Keeps.step (State.event_keeps ..) rfl ?_
  exact Keeps.refl _ _

theorem State.loopRestart_keeps (s : State) (n : Nat) :
    Keeps 0x800000 s (State.loopRestart s n) := by
  unfold State.loopRestart
  extract_lets v1
  refine (Keeps.setField _ rfl ?_)
  exact Keeps.refl _ _

theorem State.loopSet_keeps (s : State) (n : Nat) (ua : Nat) :
    Keeps mask179 s (State.loopSet s n ua) := by
  unfold State.loopSet
  extract_lets v1 v2
  have h3 : Keeps mask179 s v1 := by
    unfold v1
    refine Keeps.put rfl ?_
    exact Keeps.refl _ _
  clear_value v1
  have h6 : Keeps mask179 s v2 := by
    unfold v2
    refine Keeps.ite (fun _ => ?_) (fun _ => ?_)
    · unfold State.putBitOf
      refine Keeps.put rfl ?_
      refine Keeps.put rfl ?_
      exact h3
    · exact h3
  clear_value v2
  refine Keeps.step (State.loopRestart_keeps ..) rfl ?_
  exact h6

theorem State.loopsZero_keeps (s : State) :
    Keeps mask179 s (State.loopsZero s) := by
  unfold State.loopsZero
  refine Keeps.foldl _ ?_ (fun a1 b2 k3 => ?_)
  · exact Keeps.refl _ _
  · refine Keeps.step (State.loopRestart_keeps ..) rfl ?_
    unfold State.putBitOf
    refine Keeps.put rfl ?_
    refine Keeps.put rfl ?_
    refine Keeps.put rfl ?_
    exact k3

theorem State.loopsFallback_keeps (s : State) :
    Keeps mask180 s (State.loopsFallback s) := by
  unfold State.loopsFallback
  refine Keeps.ite (fun _ => ?_) (fun _ => ?_)
  · refine Keeps.foldl _ ?_ (fun a1 b2 k3 => ?_)
    · exact Keeps.refl _ _
    · refine Keeps.step (State.loopRestart_keeps ..) rfl ?_
      refine Keeps.putBitOf rfl ?_
      refine Keeps.put rfl ?_
      exact k3
  · exact Keeps.refl _ _

theorem State.loopMeas_keeps (s : State) (n : Nat) (d : Nat) :
    Keeps mask181 s (State.loopMeas s n d) := by
  unfold State.loopMeas
  extract_lets v1 v2 v3 v4 v5 v6 v7
  have h8 : Keeps mask181 s v1 := by
    unfold v1
    refine Keeps.put rfl ?_
    exact Keeps.refl _ _
  clear_value v1
  have h11 : Keeps mask181 s v7 := by
    unfold v7
    refine (Keeps.setField _ rfl ?_)
    exact h8
  clear_value v7
  refine Keeps.ite (fun _ => ?_) (fun _ => ?_)
  · exact h8
  · refine Keeps.ite (fun _ => ?_) (fun _ => ?_)
    · refine (Keeps.setField _ rfl ?_)
      exact h8
    · refine Keeps.ite (fun _ => ?_) (fun _ => ?_)
      · unfold State.putBitOf
        refine Keeps.put rfl ?_
        exact h11
      · exact h11

theorem State.loopIn_keeps (s : State) (n : Nat) (i : Nat) :
    Keeps mask182 s (State.loopIn s n i) := by
  unfold State.loopIn
  extract_lets v1 v2 v3 v4 v5 v6 v7
  have h8 : Keeps mask182 s v4 := by
    unfold v4
    refine (Keeps.setField _ rfl ?_)
    exact Keeps.refl _ _
  clear_value v4
  refine Keeps.ite (fun _ => ?_) (fun _ => ?_)
  · exact h8
  · unfold State.putFlag
    refine Keeps.put rfl ?_
    refine Keeps.put rfl ?_
    refine Keeps.put rfl ?_
    refine Keeps.put rfl ?_
    refine Keeps.put rfl ?_
    exact h8

theorem State.loopMeasure_keeps (s : State) (outs : List Nat) (ins : List Nat) :
    Keeps mask183 s (State.loopMeasure s outs ins) := by
  unfold State.loopMeasure
  extract_lets v1
  have h2 : Keeps mask183 s v1 := by
    unfold v1
    refine Keeps.foldl _ ?_ (fun a4 b5 k6 => ?_)
    · exact Keeps.refl _ _
    · refine Keeps.step (State.loopMeas_keeps ..) rfl ?_
      exact k6
  clear_value v1
  refine Keeps.foldl _ ?_ (fun a11 b12 k13 => ?_)
  · exact h2
  · refine Keeps.step (State.loopIn_keeps ..) rfl ?_
    exact k13

theorem State.loopExpiry_keeps (s : State) (n : Nat) :
    Keeps mask184 s (State.loopExpiry s n) := by
  unfold State.loopExpiry
  extract_lets v1 v2 v3 v4 v5 v6
  have h7 : Keeps mask184 s v3 := by
    unfold v3
    refine (Keeps.setField _ rfl ?_)
    exact Keeps.refl _ _
  clear_value v3
  have h10 : Keeps mask184 s v4 := by
    unfold v4
    refine Keeps.put rfl ?_
    unfold State.putBitOf
    refine Keeps.put rfl ?_
    refine Keeps.put rfl ?_
    exact h7
  clear_value v4
  have h16 : Keeps mask184 s v5 := by
    unfold v5
    refine Keeps.step (State.notify_keeps ..) rfl ?_
    refine Keeps.step (State.offer_keeps ..) rfl ?_
    exact h10
  clear_value v5
  have h20 : Keeps mask184 s v6 := by
    unfold v6
    refine Keeps.step (State.loopEv_keeps ..) rfl ?_
    exact h16
  clear_value v6
  refine Keeps.ite (fun _ => ?_) (fun _ => ?_)
  · refine Keeps.ite (fun _ => ?_) (fun _ => ?_)
    · unfold State.putBitOf
      refine Keeps.put rfl ?_
      exact h20
    · exact h20
  · exact Keeps.refl _ _

theorem State.lisFold_keeps (s : State) (n : Nat) :
    Keeps mask185 s (State.lisFold s n) := by
  unfold State.lisFold
  refine Keeps.ite (fun _ => ?_) (fun _ => ?_)
  · refine Keeps.step (State.loopEv_keeps ..) rfl ?_
    unfold State.putBitOf
    refine Keeps.put rfl ?_
    exact Keeps.refl _ _
  · exact Keeps.refl _ _

theorem State.lisRetry_keeps (s : State) (n : Nat) (ok : Bool) :
    Keeps mask186 s (State.lisRetry s n ok) := by
  unfold State.lisRetry
  refine Keeps.ite (fun _ => ?_) (fun _ => ?_)
  · unfold State.putBitOf
    refine Keeps.put rfl ?_
    exact Keeps.refl _ _
  · exact Keeps.refl _ _

theorem State.tchCount_keeps (s : State) (k : Nat) :
    Keeps mask187 s (State.tchCount s k) := by
  unfold State.tchCount
  refine Keeps.ite (fun _ => ?_) (fun _ => ?_)
  · unfold State.count
    refine Keeps.put rfl ?_
    exact Keeps.refl _ _
  · refine Keeps.ite (fun _ => ?_) (fun _ => ?_)
    · unfold State.count
      refine Keeps.put rfl ?_
      exact Keeps.refl _ _
    · refine Keeps.ite (fun _ => ?_) (fun _ => ?_)
      · unfold State.count
        refine Keeps.put rfl ?_
        exact Keeps.refl _ _
      · unfold State.count
        refine Keeps.put rfl ?_
        exact Keeps.refl _ _

theorem State.tchSet_keeps (s : State) (k : Nat) (on : Bool) :
    Keeps mask188 s (State.tchSet s k on) := by
  unfold State.tchSet
  extract_lets v1
  have h2 : Keeps mask188 s v1 := by
    unfold v1
    unfold State.putBitOf
    refine Keeps.put rfl ?_
    exact Keeps.refl _ _
  clear_value v1
  refine Keeps.ite (fun _ => ?_) (fun _ => ?_)
  · refine Keeps.step (State.offer_keeps ..) rfl ?_
    refine Keeps.step (State.frontReport_keeps ..) rfl ?_
    exact h2
  · unfold State.putBitOf
    refine Keeps.put rfl ?_
    exact h2

theorem State.tchMeasure_keeps (s : State) (k : Nat) (lo : Nat) (hi : Nat) :
    Keeps mask189 s (State.tchMeasure s k lo hi) := by
  unfold State.tchMeasure
  extract_lets v1
  have h2 : Keeps mask189 s v1.2 := by
    unfold v1
    refine Keeps.step (State.free_keeps ..) rfl ?_
    exact Keeps.refl _ _
  clear_value v1
  refine Keeps.put rfl ?_
  exact h2

theorem State.tchScanKey_keeps (s : State) (k : Nat) :
    Keeps mask190 s (State.tchScanKey s k) := by
  unfold State.tchScanKey
  extract_lets v1 v2 v3
  have h4 : Keeps mask190 s v1 := by
    unfold v1
    refine Keeps.step (State.tchMeasure_keeps ..) rfl ?_
    exact Keeps.refl _ _
  clear_value v1
  refine Keeps.ite (fun _ => ?_) (fun _ => ?_)
  · refine Keeps.put rfl ?_
    exact h4
  · exact h4

theorem State.tchScan_keeps (s : State) :
    Keeps mask190 s (State.tchScan s) := by
  unfold State.tchScan
  refine Keeps.foldl _ ?_ (fun a1 b2 k3 => ?_)
  · exact Keeps.refl _ _
  · refine Keeps.step (State.tchScanKey_keeps ..) rfl ?_
    exact k3

theorem State.tchBegin_keeps (s : State) :
    Keeps mask190 s (State.tchBegin s) := by
  unfold State.tchBegin
  refine Keeps.foldl _ ?_ (fun a1 b2 k3 => ?_)
  · exact Keeps.refl _ _
  · extract_lets v4
    have h5 : Keeps mask190 s v4 := by
      unfold v4
      refine Keeps.step (State.tchMeasure_keeps ..) rfl ?_
      exact k3
    clear_value v4
    refine Keeps.put rfl ?_
    exact h5

theorem State.touch_keeps (s : State) (k : Nat) :
    Keeps mask191 s (State.touch s k) := by
  unfold State.touch
  refine Keeps.ite (fun _ => ?_) (fun _ => ?_)
  · exact Keeps.refl _ _
  · extract_lets v1 v2
    have h3 : Keeps mask191 s v1 := by
      unfold v1
      refine Keeps.step (State.tchMeasure_keeps ..) rfl ?_
      exact Keeps.refl _ _
    clear_value v1
    have h4 : Keeps mask191 s v2 := by
      unfold v2
      refine Keeps.step (State.tchCount_keeps ..) rfl ?_
      refine Keeps.step (State.tchSet_keeps ..) rfl ?_
      exact h3
    clear_value v2
    refine Keeps.ite (fun _ => ?_) (fun _ => ?_)
    · refine Keeps.step (State.lswOff_keeps ..) rfl ?_
      exact h4
    · exact h4

theorem State.release_keeps (s : State) (k : Nat) :
    Keeps mask192 s (State.release s k) := by
  unfold State.release
  refine Keeps.ite (fun _ => ?_) (fun _ => ?_)
  · extract_lets v1 v2
    have h3 : Keeps mask192 s v1 := by
      unfold v1
      refine Keeps.step (State.tchMeasure_keeps ..) rfl ?_
      exact Keeps.refl _ _
    clear_value v1
    have h4 : Keeps mask192 s v2 := by
      unfold v2
      refine Keeps.putBitOf rfl ?_
      exact h3
    clear_value v2
    refine Keeps.ite (fun _ => ?_) (fun _ => ?_)
    · refine Keeps.step (State.tchSet_keeps ..) rfl ?_
      exact h4
    · exact h4
  · exact Keeps.refl _ _

theorem State.stuck_keeps (s : State) (k : Nat) :
    Keeps mask193 s (State.stuck s k) := by
  unfold State.stuck
  refine Keeps.ite (fun _ => ?_) (fun _ => ?_)
  · extract_lets v1 v2
    have h3 : Keeps mask193 s v1 := by
      unfold v1
      refine Keeps.step (State.tchMeasure_keeps ..) rfl ?_
      exact Keeps.refl _ _
    clear_value v1
    have h4 : Keeps mask193 s v2 := by
      unfold v2
      refine Keeps.put rfl ?_
      exact h3
    clear_value v2
    refine Keeps.step (State.event_keeps ..) rfl ?_
    refine Keeps.putBitOf rfl ?_
    refine Keeps.step (State.tchSet_keeps ..) rfl ?_
    exact h4
  · exact Keeps.refl _ _

theorem State.fieldOff_keeps (s : State) :
    Keeps mask194 s (State.fieldOff s) := by
  unfold State.fieldOff
  extract_lets v1 v2
  have h3 : Keeps mask194 s v1 := by
    unfold v1
    refine Keeps.put rfl ?_
    refine Keeps.step (State.loopsZero_keeps ..) rfl ?_
    refine Keeps.step (State.lswOff_keeps ..) rfl ?_
    exact Keeps.refl _ _
  clear_value v1
  refine (Keeps.setField _ rfl ?_)
  exact h3

theorem State.fieldGone_keeps (s : State) :
    Keeps mask195 s (State.fieldGone s) := by
  unfold State.fieldGone
  refine Keeps.step (State.loopsZero_keeps ..) rfl ?_
  refine Keeps.step (State.lswOff_keeps ..) rfl ?_
  exact Keeps.refl _ _

theorem State.lswCfgSat_keeps (s : State) (n : Nat) :
    Keeps mask172 s (State.lswCfgSat s n) := by
  unfold State.lswCfgSat
  refine Keeps.step (State.lswCfg_keeps ..) rfl ?_
  exact Keeps.refl _ _

theorem State.loopCfgSat_keeps (s : State) (n : Nat) :
    Keeps mask196 s (State.loopCfgSat s n) := by
  unfold State.loopCfgSat
  refine Keeps.put rfl ?_
  exact Keeps.refl _ _

theorem State.tchCfgSat_keeps (s : State) (k : Nat) :
    Keeps mask197 s (State.tchCfgSat s k) := by
  unfold State.tchCfgSat
  refine Keeps.put rfl ?_
  refine Keeps.put rfl ?_
  exact Keeps.refl _ _

end Sys2Proof.Machine
end

