-- ==== Sys2Proof/Laws/KeepsLine.lean ====
section
/-! SUPPORT. The frame of every function of Machine/Line.lean: what it may change, and that it keeps the canonical forms and
the waiting commands. -/
namespace Sys2Proof.Machine

set_option Elab.async false

theorem State.setLine_keeps (s : State) (k : Nat) (rx : Bool) (n : Nat) (x : Line) :
    Keeps 0x20000000 s (State.setLine s k rx n x) := by
  unfold State.setLine
  refine (Keeps.setLines _ rfl ?_)
  exact Keeps.refl _ _

end Sys2Proof.Machine
end

