-- ==== Sys2Proof/Laws/KeepsLinkOps.lean ====
section
/-! SUPPORT. The frame of every function of Machine/LinkOps.lean: what it may change, and that it keeps the canonical forms and
the waiting commands. -/
namespace Sys2Proof.Machine

set_option Elab.async false

theorem State.setEng_keeps (s : State) (e : Nat) (a2 : Eng) :
    Keeps 0x400 s (State.setEng s e a2) := by
  unfold State.setEng
  refine (Keeps.setEngs _ rfl ?_)
  exact Keeps.refl _ _

theorem State.setDom_keeps (s : State) (d : Nat) (a2 : PdSt) :
    Keeps 0x1 s (State.setDom s d a2) := by
  unfold State.setDom
  extract_lets v1
  refine (Keeps.setPow _ rfl ?_)
  exact Keeps.refl _ _

theorem State.setRing_keeps (s : State) (k : Nat) (rx : Bool) (n : Nat) (a4 : Ring) :
    Keeps 0x200 s (State.setRing s k rx n a4) := by
  unfold State.setRing
  refine (Keeps.setRings _ rfl ?_)
  exact Keeps.refl _ _

theorem State.ringSt_keeps (s : State) (k : Nat) (rx : Bool) (n : Nat) (st : Nat) :
    Keeps 0x200 s (State.ringSt s k rx n st) := by
  unfold State.ringSt
  extract_lets v1
  refine Keeps.step (State.setRing_keeps ..) rfl ?_
  exact Keeps.refl _ _

theorem State.ringsSt_keeps (s : State) (k : Nat) (rx : Bool) (f : Nat → Nat) :
    Keeps 0x200 s (State.ringsSt s k rx f) := by
  unfold State.ringsSt
  refine Keeps.foldl _ ?_ (fun a1 b2 k3 => ?_)
  · exact Keeps.refl _ _
  · refine Keeps.step (State.ringSt_keeps ..) rfl ?_
    exact k3

theorem State.setMap_keeps (s : State) (k : Nat) (rx : Bool) (l b : Nat) : Keeps mask10 s (s.setMap k rx l b) := by
  unfold State.setMap
  extract_lets f old
  refine Keeps.put ?_ (Keeps.refl _ _)
  unfold f
  split
  · split <;> rfl
  · split <;> rfl

theorem State.mapIdentity_keeps (s : State) (k : Nat) :
    Keeps mask10 s (State.mapIdentity s k) := by
  unfold State.mapIdentity
  unfold State.clr
  refine Keeps.put rfl ?_
  refine Keeps.put rfl ?_
  refine Keeps.put rfl ?_
  refine Keeps.put rfl ?_
  exact Keeps.refl _ _

theorem State.markPassed_keeps (s : State) (k : Nat) (rx : Bool) (m : Nat) :
    Keeps 0x20000000 s (State.markPassed s k rx m) := by
  unfold State.markPassed
  extract_lets v1
  refine Keeps.foldl _ ?_ (fun a2 b3 k4 => ?_)
  · exact Keeps.refl _ _
  · refine Keeps.step (State.setLine_keeps ..) rfl ?_
    exact k4

theorem State.ringsSettle_keeps (s : State) (k : Nat) :
    Keeps 0x200 s (State.ringsSettle s k) := by
  unfold State.ringsSettle
  refine Keeps.ite (fun _ => ?_) (fun _ => ?_)
  · refine Keeps.foldl _ ?_ (fun a1 b2 k3 => ?_)
    · exact Keeps.refl _ _
    · refine Keeps.foldl _ ?_ (fun a4 b5 k6 => ?_)
      · exact k3
      · refine Keeps.ite (fun _ => ?_) (fun _ => ?_)
        · exact k6
        · refine Keeps.step (State.ringSt_keeps ..) rfl ?_
          exact k6
  · exact Keeps.refl _ _

theorem State.calShow_keeps (s : State) (k : Nat) :
    Keeps mask11 s (State.calShow s k) := by
  unfold State.calShow
  refine Keeps.putFlag rfl ?_
  exact Keeps.refl _ _

theorem State.calStart_keeps (s : State) (k : Nat) (rx : Bool) (n : Nat) :
    Keeps mask12 s (State.calStart s k rx n) := by
  unfold State.calStart
  extract_lets v1
  refine Keeps.ite (fun _ => ?_) (fun _ => ?_)
  · exact Keeps.refl _ _
  · refine Keeps.ite (fun _ => ?_) (fun _ => ?_)
    · refine Keeps.step (State.calShow_keeps ..) rfl ?_
      refine Keeps.step (State.setRing_keeps ..) rfl ?_
      exact Keeps.refl _ _
    · refine Keeps.step (State.setRing_keeps ..) rfl ?_
      exact Keeps.refl _ _

theorem State.calNext_keeps (s : State) (k : Nat) (rx : Bool) :
    Keeps mask12 s (State.calNext s k rx) := by
  unfold State.calNext
  split
  · rename_i y1 y2 y3 y4
    refine Keeps.ite (fun _ => ?_) (fun _ => ?_)
    · refine Keeps.step (State.calStart_keeps ..) rfl ?_
      exact Keeps.refl _ _
    · exact Keeps.refl _ _
  · rename_i y5 y6
    exact Keeps.refl _ _

theorem State.calFill_keeps (s : State) (k : Nat) :
    Keeps mask12 s (State.calFill s k) := by
  unfold State.calFill
  refine Keeps.step (State.calShow_keeps ..) rfl ?_
  refine Keeps.foldl _ ?_ (fun a1 b2 k3 => ?_)
  · exact Keeps.refl _ _
  · refine Keeps.step (State.calNext_keeps ..) rfl ?_
    refine Keeps.step (State.calNext_keeps ..) rfl ?_
    exact k3

theorem State.calAll_keeps (s : State) (k : Nat) :
    Keeps mask12 s (State.calAll s k) := by
  unfold State.calAll
  extract_lets v1
  have h2 : Keeps mask12 s v1 := by
    unfold v1
    refine Keeps.foldl _ ?_ (fun a3 b4 k5 => ?_)
    · exact Keeps.refl _ _
    · refine Keeps.foldl _ ?_ (fun a6 b7 k8 => ?_)
      · exact k5
      · refine Keeps.step (State.setRing_keeps ..) rfl ?_
        exact k8
  clear_value v1
  refine Keeps.step (State.calShow_keeps ..) rfl ?_
  refine Keeps.foldl _ ?_ (fun a9 b10 k11 => ?_)
  · exact h2
  · refine Keeps.step (State.calNext_keeps ..) rfl ?_
    refine Keeps.step (State.calNext_keeps ..) rfl ?_
    exact k11

theorem State.ringsOff_keeps (s : State) (k : Nat) :
    Keeps mask12 s (State.ringsOff s k) := by
  unfold State.ringsOff
  refine Keeps.step (State.calShow_keeps ..) rfl ?_
  refine Keeps.foldl _ ?_ (fun a1 b2 k3 => ?_)
  · exact Keeps.refl _ _
  · refine Keeps.foldl _ ?_ (fun a4 b5 k6 => ?_)
    · exact k3
    · refine Keeps.step (State.setRing_keeps ..) rfl ?_
      exact k6

theorem State.dfeZero_keeps (s : State) (k : Nat) (n : Nat) :
    Keeps mask13 s (State.dfeZero s k n) := by
  unfold State.dfeZero
  refine Keeps.put rfl ?_
  refine Keeps.put rfl ?_
  refine Keeps.put rfl ?_
  refine Keeps.put rfl ?_
  refine Keeps.put rfl ?_
  refine Keeps.put rfl ?_
  exact Keeps.refl _ _

theorem State.lineStart_keeps (s : State) (k : Nat) (n : Nat) (place : Nat) :
    Keeps 0x20000000 s (State.lineStart s k n place) := by
  unfold State.lineStart
  refine Keeps.step (State.setLine_keeps ..) rfl ?_
  exact Keeps.refl _ _

theorem State.lockAnew_keeps (s : State) (k : Nat) (n : Nat) :
    Keeps mask14 s (State.lockAnew s k n) := by
  unfold State.lockAnew
  refine Keeps.putBitOf rfl ?_
  refine Keeps.putBitOf rfl ?_
  refine Keeps.step (State.setLine_keeps ..) rfl ?_
  refine Keeps.step (State.dfeZero_keeps ..) rfl ?_
  exact Keeps.refl _ _

theorem State.calStop_keeps (s : State) (k : Nat) (rx : Bool) (n : Nat) :
    Keeps 0x200 s (State.calStop s k rx n) := by
  unfold State.calStop
  refine Keeps.ite (fun _ => ?_) (fun _ => ?_)
  · refine Keeps.step (State.setRing_keeps ..) rfl ?_
    exact Keeps.refl _ _
  · exact Keeps.refl _ _

theorem State.mapsFollow_keeps (old : State) (s : State) (k : Nat) :
    Keeps mask15 s (State.mapsFollow old s k) := by
  unfold State.mapsFollow
  refine Keeps.foldl _ ?_ (fun a1 b2 k3 => ?_)
  · exact Keeps.refl _ _
  · refine Keeps.foldl _ ?_ (fun a4 b5 k6 => ?_)
    · exact k3
    · refine Keeps.ite (fun _ => ?_) (fun _ => ?_)
      · exact k6
      · refine Keeps.ite (fun _ => ?_) (fun _ => ?_)
        · extract_lets v7
          have h8 : Keeps mask15 s v7 := by
            unfold v7
            refine Keeps.ite (fun _ => ?_) (fun _ => ?_)
            · exact k6
            · refine Keeps.ite (fun _ => ?_) (fun _ => ?_)
              · refine Keeps.step (State.lockAnew_keeps ..) rfl ?_
                exact k6
              · refine Keeps.step (State.lineStart_keeps ..) rfl ?_
                exact k6
          clear_value v7
          refine Keeps.step (State.calStop_keeps ..) rfl ?_
          exact h8
        · refine Keeps.ite (fun _ => ?_) (fun _ => ?_)
          · refine Keeps.step (State.calStart_keeps ..) rfl ?_
            exact k6
          · exact k6

theorem State.calStops_keeps (s : State) (k : Nat) :
    Keeps mask12 s (State.calStops s k) := by
  unfold State.calStops
  refine Keeps.ite (fun _ => ?_) (fun _ => ?_)
  · refine Keeps.step (State.calFill_keeps ..) rfl ?_
    refine Keeps.foldl _ ?_ (fun a1 b2 k3 => ?_)
    · exact Keeps.refl _ _
    · refine Keeps.step (State.calStop_keeps ..) rfl ?_
      refine Keeps.step (State.calStop_keeps ..) rfl ?_
      exact k3
  · exact Keeps.refl _ _

theorem State.mapsReset_keeps (s : State) (k : Nat) :
    Keeps mask16 s (State.mapsReset s k) := by
  unfold State.mapsReset
  refine Keeps.ite (fun _ => ?_) (fun _ => ?_)
  · refine Keeps.step (State.calFill_keeps ..) rfl ?_
    refine Keeps.step (State.mapsFollow_keeps ..) rfl ?_
    refine Keeps.step (State.mapIdentity_keeps ..) rfl ?_
    exact Keeps.refl _ _
  · refine Keeps.step (State.mapIdentity_keeps ..) rfl ?_
    exact Keeps.refl _ _

theorem State.setsKeep_keeps (s : State) (k : Nat) :
    Keeps 0x100 s (State.setsKeep s k) := by
  unfold State.setsKeep
  refine Keeps.step (State.setPort_keeps ..) rfl ?_
  exact Keeps.refl _ _

theorem State.setsBack_keeps (s : State) (k : Nat) :
    Keeps mask17 s (State.setsBack s k) := by
  unfold State.setsBack
  split
  · rename_i y1 y2 y3
    extract_lets v4 v5
    have h6 : Keeps mask17 s v4 := by
      unfold v4
      refine Keeps.put rfl ?_
      refine Keeps.put rfl ?_
      refine Keeps.put rfl ?_
      refine Keeps.put rfl ?_
      exact Keeps.refl _ _
    clear_value v4
    have h7 : Keeps mask17 s v5 := by
      unfold v5
      refine Keeps.put rfl ?_
      refine Keeps.put rfl ?_
      exact h6
    clear_value v5
    refine Keeps.ite (fun _ => ?_) (fun _ => ?_)
    · refine Keeps.step (State.calFill_keeps ..) rfl ?_
      refine Keeps.step (State.mapsFollow_keeps ..) rfl ?_
      exact h7
    · exact h7
  · rename_i y8 y9
    exact Keeps.refl _ _

theorem State.lm_keeps (s : State) (k : Nat) (b : Bytes) :
    Keeps 0x100 s (State.lm s k b) := by
  unfold State.lm
  extract_lets v1
  refine Keeps.step (State.setPort_keeps ..) rfl ?_
  exact Keeps.refl _ _

theorem State.newTxid_keeps (s : State) (k : Nat) :
    Keeps 0x100 s (State.newTxid s k).2 := by
  unfold State.newTxid
  extract_lets v1
  dsimp only
  refine Keeps.step (State.setPort_keeps ..) rfl ?_
  exact Keeps.refl _ _

theorem State.lnkEv_keeps (s : State) (k : Nat) (typ : Nat) (lvl : Nat) :
    Keeps mask3 s (State.lnkEv s k typ lvl) := by
  unfold State.lnkEv
  refine Keeps.step (State.event_keeps ..) rfl ?_
  exact Keeps.refl _ _

theorem State.protoErr_keeps (s : State) (k : Nat) :
    Keeps mask18 s (State.protoErr s k) := by
  unfold State.protoErr
  refine Keeps.step (State.lnkEv_keeps ..) rfl ?_
  unfold State.count
  refine Keeps.put rfl ?_
  exact Keeps.refl _ _

theorem State.linkFresh_keeps (s : State) (k : Nat) :
    Keeps mask19 s (State.linkFresh s k) := by
  unfold State.linkFresh
  extract_lets v1 v2
  have h3 : Keeps mask19 s v2 := by
    unfold v2
    refine Keeps.step (State.setPort_keeps ..) rfl ?_
    exact Keeps.refl _ _
  clear_value v2
  unfold State.putBitOf
  refine Keeps.put rfl ?_
  exact h3

theorem State.rotShow_keeps (s : State) (k : Nat) :
    Keeps mask20 s (State.rotShow s k) := by
  unfold State.rotShow
  extract_lets v1
  refine Keeps.putFlag rfl ?_
  exact Keeps.refl _ _

theorem State.enterDown_keeps (s : State) (k : Nat) :
    Keeps mask21 s (State.enterDown s k) := by
  unfold State.enterDown
  extract_lets v1 v2 v3 v4 v5 v6 v7 v8 v9
  have h10 : Keeps mask21 s v4 := by
    unfold v4
    refine Keeps.step (State.setPort_keeps ..) rfl ?_
    exact Keeps.refl _ _
  clear_value v4
  have h11 : Keeps mask21 s v5 := by
    unfold v5
    refine Keeps.put rfl ?_
    refine Keeps.put rfl ?_
    refine Keeps.put rfl ?_
    refine Keeps.put rfl ?_
    exact h10
  clear_value v5
  have h12 : Keeps mask21 s v6 := by
    unfold v6
    refine Keeps.step (State.linkFresh_keeps ..) rfl ?_
    refine Keeps.putFlag rfl ?_
    exact h11
  clear_value v6
  have h13 : Keeps mask21 s v7 := by
    unfold v7
    refine Keeps.ite (fun _ => ?_) (fun _ => ?_)
    · refine Keeps.step (State.ringsSettle_keeps ..) rfl ?_
      refine Keeps.step (State.rotShow_keeps ..) rfl ?_
      refine Keeps.putFlag rfl ?_
      refine Keeps.putFlag rfl ?_
      exact h12
    · exact h12
  clear_value v7
  have h14 : Keeps mask21 s v8 := by
    unfold v8
    refine Keeps.ite (fun _ => ?_) (fun _ => ?_)
    · exact h13
    · refine Keeps.count rfl ?_
      exact h13
  clear_value v8
  have h15 : Keeps mask21 s v9 := by
    unfold v9
    refine Keeps.ite (fun _ => ?_) (fun _ => ?_)
    · refine Keeps.step (State.lnkEv_keeps ..) rfl ?_
      exact h14
    · exact h14
  clear_value v9
  refine Keeps.ite (fun _ => ?_) (fun _ => ?_)
  · refine State.withSvc_keeps rfl ?_ ?_
    · exact h15
    · intro x16
      intro x17
      refine Keeps.putBitOf rfl ?_
      exact x17
  · exact h15

theorem State.lnkHold_keeps (s : State) (k : Nat) :
    Keeps mask21 s (State.lnkHold s k) := by
  unfold State.lnkHold
  extract_lets v1 v2
  refine Keeps.ite (fun _ => ?_) (fun _ => ?_)
  · refine Keeps.step (State.enterDown_keeps ..) rfl ?_
    refine Keeps.step (State.setPort_keeps ..) rfl ?_
    exact Keeps.refl _ _
  · exact Keeps.refl _ _

theorem State.tryDeskew_keeps (s : State) (k : Nat) :
    Keeps mask22 s (State.tryDeskew s k) := by
  unfold State.tryDeskew
  refine Keeps.ite (fun _ => ?_) (fun _ => ?_)
  · extract_lets v1 v2 v3 v4 v5
    refine Keeps.ite (fun _ => ?_) (fun _ => ?_)
    · refine Keeps.ite (fun _ => ?_) (fun _ => ?_)
      · refine Keeps.step (State.setPort_keeps ..) rfl ?_
        exact Keeps.refl _ _
      · refine Keeps.foldl _ ?_ (fun a6 b7 k8 => ?_)
        · exact Keeps.refl _ _
        · refine Keeps.putBitOf rfl ?_
          exact k8
    · exact Keeps.refl _ _
  · exact Keeps.refl _ _

theorem State.enterAlign_keeps (s : State) (k : Nat) :
    Keeps mask23 s (State.enterAlign s k) := by
  unfold State.enterAlign
  extract_lets v1
  refine Keeps.step (State.tryDeskew_keeps ..) rfl ?_
  refine Keeps.put rfl ?_
  refine Keeps.step (State.setPort_keeps ..) rfl ?_
  exact Keeps.refl _ _

theorem State.tryAlign_keeps (s : State) (k : Nat) :
    Keeps mask23 s (State.tryAlign s k) := by
  unfold State.tryAlign
  extract_lets v1
  refine Keeps.ite (fun _ => ?_) (fun _ => ?_)
  · refine Keeps.ite (fun _ => ?_) (fun _ => ?_)
    · refine Keeps.ite (fun _ => ?_) (fun _ => ?_)
      · refine Keeps.step (State.enterAlign_keeps ..) rfl ?_
        exact Keeps.refl _ _
      · exact Keeps.refl _ _
    · refine Keeps.ite (fun _ => ?_) (fun _ => ?_)
      · refine Keeps.step (State.enterAlign_keeps ..) rfl ?_
        exact Keeps.refl _ _
      · exact Keeps.refl _ _
  · exact Keeps.refl _ _

theorem State.enterAcquire_keeps (s : State) (k : Nat) :
    Keeps mask24 s (State.enterAcquire s k) := by
  unfold State.enterAcquire
  extract_lets v1 v2 v3 v4 v5 v6 v7 v8
  have h9 : Keeps mask24 s v3 := by
    unfold v3
    refine Keeps.step (State.setPort_keeps ..) rfl ?_
    exact Keeps.refl _ _
  clear_value v3
  have h10 : Keeps mask24 s v4 := by
    unfold v4
    refine Keeps.put rfl ?_
    refine Keeps.put rfl ?_
    refine Keeps.put rfl ?_
    refine Keeps.put rfl ?_
    exact h9
  clear_value v4
  have h11 : Keeps mask24 s v5 := by
    unfold v5
    refine Keeps.put rfl ?_
    refine Keeps.step (State.linkFresh_keeps ..) rfl ?_
    refine Keeps.step (State.mapsReset_keeps ..) rfl ?_
    exact h10
  clear_value v5
  have h12 : Keeps mask24 s v6 := by
    unfold v6
    refine Keeps.foldl _ ?_ (fun a13 b14 k15 => ?_)
    · exact h11
    · refine Keeps.step (State.setLine_keeps ..) rfl ?_
      refine Keeps.step (State.setLine_keeps ..) rfl ?_
      refine Keeps.put rfl ?_
      refine Keeps.put rfl ?_
      refine Keeps.put rfl ?_
      refine Keeps.put rfl ?_
      refine Keeps.step (State.dfeZero_keeps ..) rfl ?_
      exact k15
  clear_value v6
  have h16 : Keeps mask24 s v7 := by
    unfold v7
    refine Keeps.put rfl ?_
    exact h12
  clear_value v7
  have h17 : Keeps mask24 s v8 := by
    unfold v8
    refine Keeps.putFlag rfl ?_
    refine Keeps.putBitOf rfl ?_
    refine Keeps.step (State.rotShow_keeps ..) rfl ?_
    refine Keeps.putFlag rfl ?_
    refine Keeps.putFlag rfl ?_
    exact h16
  clear_value v8
  refine Keeps.ite (fun _ => ?_) (fun _ => ?_)
  · refine Keeps.step (State.ringsSettle_keeps ..) rfl ?_
    refine Keeps.step (State.calStart_keeps ..) rfl ?_
    refine Keeps.step (State.calStart_keeps ..) rfl ?_
    exact h17
  · refine Keeps.step (State.tryAlign_keeps ..) rfl ?_
    exact h16

theorem State.tryLight_keeps (s : State) (k : Nat) :
    Keeps mask24 s (State.tryLight s k) := by
  unfold State.tryLight
  refine Keeps.ite (fun _ => ?_) (fun _ => ?_)
  · refine Keeps.step (State.enterAcquire_keeps ..) rfl ?_
    exact Keeps.refl _ _
  · exact Keeps.refl _ _

theorem State.tryCopper_keeps (s : State) (k : Nat) :
    Keeps mask24 s (State.tryCopper s k) := by
  unfold State.tryCopper
  refine Keeps.ite (fun _ => ?_) (fun _ => ?_)
  · refine Keeps.step (State.enterAcquire_keeps ..) rfl ?_
    exact Keeps.refl _ _
  · exact Keeps.refl _ _

theorem State.comeUp_keeps (s : State) (k : Nat) :
    Keeps mask24 s (State.comeUp s k) := by
  unfold State.comeUp
  refine Keeps.ite (fun _ => ?_) (fun _ => ?_)
  · refine Keeps.step (State.tryLight_keeps ..) rfl ?_
    refine Keeps.putFlag rfl ?_
    exact Keeps.refl _ _
  · refine Keeps.step (State.tryCopper_keeps ..) rfl ?_
    exact Keeps.refl _ _

theorem State.retrain_keeps (s : State) (k : Nat) :
    Keeps mask25 s (State.retrain s k) := by
  unfold State.retrain
  refine Keeps.ite (fun _ => ?_) (fun _ => ?_)
  · extract_lets v1 v2 v3 v4 v5 v6 v7
    have h8 : Keeps mask25 s v4 := by
      unfold v4
      refine Keeps.count rfl ?_
      refine Keeps.step (State.setPort_keeps ..) rfl ?_
      exact Keeps.refl _ _
    clear_value v4
    have h9 : Keeps mask25 s v5 := by
      unfold v5
      refine Keeps.put rfl ?_
      refine Keeps.put rfl ?_
      exact h8
    clear_value v5
    have h10 : Keeps mask25 s v6 := by
      unfold v6
      refine State.withSvc_keeps rfl ?_ ?_
      · refine Keeps.step (State.lnkEv_keeps ..) rfl ?_
        exact h9
      · intro x11
        intro x12
        refine Keeps.ite (fun _ => ?_) (fun _ => ?_)
        · refine Keeps.putBitOf rfl ?_
          exact x12
        · exact x12
    clear_value v6
    have h13 : Keeps mask25 s v7 := by
      unfold v7
      refine Keeps.step (State.ringsSettle_keeps ..) rfl ?_
      refine Keeps.step (State.rotShow_keeps ..) rfl ?_
      exact h10
    clear_value v7
    refine Keeps.ite (fun _ => ?_) (fun _ => ?_)
    · refine Keeps.step (State.lnkHold_keeps ..) rfl ?_
      refine Keeps.step (State.enterDown_keeps ..) rfl ?_
      refine Keeps.step (State.lnkEv_keeps ..) rfl ?_
      exact h13
    · refine Keeps.step (State.tryDeskew_keeps ..) rfl ?_
      exact h13
  · exact Keeps.refl _ _

theorem State.retrainOwn_keeps (s : State) (k : Nat) :
    Keeps mask25 s (State.retrainOwn s k) := by
  unfold State.retrainOwn
  refine Keeps.ite (fun _ => ?_) (fun _ => ?_)
  · split
    rename_i y2 y3 y4 y5
    have h6 : Keeps mask25 s y4 := by
      refine Keeps.sndOf y5 ?_
      refine Keeps.step (State.newTxid_keeps ..) rfl ?_
      exact Keeps.refl _ _
    refine Keeps.step (State.retrain_keeps ..) rfl ?_
    refine Keeps.step (State.lm_keeps ..) rfl ?_
    exact h6
  · exact Keeps.refl _ _

theorem State.startReplay_keeps (s : State) (k : Nat) :
    Keeps mask26 s (State.startReplay s k) := by
  unfold State.startReplay
  extract_lets v1
  refine Keeps.ite (fun _ => ?_) (fun _ => ?_)
  · refine Keeps.step (State.retrainOwn_keeps ..) rfl ?_
    exact Keeps.refl _ _
  · unfold State.count
    refine Keeps.put rfl ?_
    refine Keeps.step (State.setPort_keeps ..) rfl ?_
    exact Keeps.refl _ _

theorem State.widthState_keeps (s : State) (k : Nat) :
    Keeps mask27 s (State.widthState s k) := by
  unfold State.widthState
  refine Keeps.ite (fun _ => ?_) (fun _ => ?_)
  · extract_lets v1 v2 v3 v4 v5
    have h6 : Keeps mask27 s v4 := by
      unfold v4
      refine Keeps.put rfl ?_
      exact Keeps.refl _ _
    clear_value v4
    refine Keeps.ite (fun _ => ?_) (fun _ => ?_)
    · refine State.withSvc_keeps rfl ?_ ?_
      · refine Keeps.put rfl ?_
        refine Keeps.step (State.setPort_keeps ..) rfl ?_
        exact h6
      · intro x7
        intro x8
        refine Keeps.ite (fun _ => ?_) (fun _ => ?_)
        · refine Keeps.putBitOf rfl ?_
          exact x8
        · exact x8
    · refine Keeps.ite (fun _ => ?_) (fun _ => ?_)
      · exact h6
      · refine Keeps.put rfl ?_
        exact h6
  · exact Keeps.refl _ _

theorem State.applyWidth_keeps (s : State) (k : Nat) (rx : Bool) (mask : Nat) :
    Keeps mask25 s (State.applyWidth s k rx mask) := by
  unfold State.applyWidth
  extract_lets v1 v2 v3 v4 v5 v6
  have h7 : Keeps mask25 s v4 := by
    unfold v4
    refine Keeps.put (by unfold v1; split <;> rfl) ?_
    exact Keeps.refl _ _
  clear_value v4
  have h8 : Keeps mask25 s v6 := by
    unfold v6
    refine Keeps.ite (fun _ => ?_) (fun _ => ?_)
    · refine State.withSvc_keeps rfl ?_ ?_
      · refine Keeps.step (State.setPort_keeps ..) rfl ?_
        exact h7
      · intro x9
        intro x10
        refine Keeps.ite (fun _ => ?_) (fun _ => ?_)
        · refine Keeps.putBitOf rfl ?_
          exact x10
        · exact x10
    · exact h7
  clear_value v6
  refine Keeps.ite (fun _ => ?_) (fun _ => ?_)
  · refine Keeps.step (State.retrainOwn_keeps ..) rfl ?_
    exact Keeps.refl _ _
  · refine Keeps.step (State.widthState_keeps ..) rfl ?_
    exact h8

theorem State.widthReqOwn_keeps (s : State) (k : Nat) (mask : Nat) :
    Keeps mask25 s (State.widthReqOwn s k mask) := by
  unfold State.widthReqOwn
  refine Keeps.ite (fun _ => ?_) (fun _ => ?_)
  · refine Keeps.ite (fun _ => ?_) (fun _ => ?_)
    · refine Keeps.step (State.retrainOwn_keeps ..) rfl ?_
      exact Keeps.refl _ _
    · split
      rename_i y5 y6 y7 y8
      have h9 : Keeps mask25 s y7 := by
        refine Keeps.sndOf y8 ?_
        refine Keeps.step (State.newTxid_keeps ..) rfl ?_
        exact Keeps.refl _ _
      extract_lets v13
      refine Keeps.step (State.lm_keeps ..) rfl ?_
      refine Keeps.step (State.setPort_keeps ..) rfl ?_
      exact h9
  · exact Keeps.refl _ _

theorem State.widenIfReady_keeps (s : State) (k : Nat) :
    Keeps mask25 s (State.widenIfReady s k) := by
  unfold State.widenIfReady
  refine Keeps.ite (fun _ => ?_) (fun _ => ?_)
  · refine Keeps.step (State.widthReqOwn_keeps ..) rfl ?_
    exact Keeps.refl _ _
  · exact Keeps.refl _ _

theorem State.widthLess_keeps (s : State) (k : Nat) (mask : Nat) (h : WidthHs) :
    Keeps mask25 s (State.widthLess s k mask h) := by
  unfold State.widthLess
  refine Keeps.ite (fun _ => ?_) (fun _ => ?_)
  · refine Keeps.step (State.retrainOwn_keeps ..) rfl ?_
    exact Keeps.refl _ _
  · refine Keeps.step (State.lm_keeps ..) rfl ?_
    refine Keeps.step (State.setPort_keeps ..) rfl ?_
    exact Keeps.refl _ _

theorem State.laneFailed_keeps (s : State) (k : Nat) (l : Nat) :
    Keeps mask25 s (State.laneFailed s k l) := by
  unfold State.laneFailed
  refine Keeps.ite (fun _ => ?_) (fun _ => ?_)
  · split
    · rename_i y1 y2 y3 y4
      refine Keeps.ite (fun _ => ?_) (fun _ => ?_)
      · exact Keeps.refl _ _
      · refine Keeps.ite (fun _ => ?_) (fun _ => ?_)
        · refine Keeps.step (State.widthLess_keeps ..) rfl ?_
          exact Keeps.refl _ _
        · extract_lets v5
          refine Keeps.step (State.widthReqOwn_keeps ..) rfl ?_
          refine Keeps.step (State.setPort_keeps ..) rfl ?_
          exact Keeps.refl _ _
    · rename_i y6 y7 y8
      refine Keeps.step (State.widthReqOwn_keeps ..) rfl ?_
      exact Keeps.refl _ _
  · exact Keeps.refl _ _

theorem State.widthFollow_keeps (s : State) (k : Nat) :
    Keeps mask25 s (State.widthFollow s k) := by
  unfold State.widthFollow
  extract_lets v1 v2
  refine Keeps.ite (fun _ => ?_) (fun _ => ?_)
  · refine Keeps.step (State.widthReqOwn_keeps ..) rfl ?_
    exact Keeps.refl _ _
  · refine Keeps.step (State.widenIfReady_keeps ..) rfl ?_
    exact Keeps.refl _ _

theorem State.enterUp_keeps (s : State) (k : Nat) :
    Keeps mask28 s (State.enterUp s k) := by
  unfold State.enterUp
  extract_lets v1 v2 v3 v4 v5 v6 v7 v8 v9 v10 v11 v12 v13 v14
  have h15 : Keeps mask28 s v3 := by
    unfold v3
    refine Keeps.step (State.setPort_keeps ..) rfl ?_
    exact Keeps.refl _ _
  clear_value v3
  have h16 : Keeps mask28 s v4 := by
    unfold v4
    refine Keeps.step (State.widthState_keeps ..) rfl ?_
    refine Keeps.put rfl ?_
    refine Keeps.step (State.calStops_keeps ..) rfl ?_
    refine Keeps.step (State.setsBack_keeps ..) rfl ?_
    exact h15
  clear_value v4
  have h17 : Keeps mask28 s v5 := by
    unfold v5
    refine Keeps.ite (fun _ => ?_) (fun _ => ?_)
    · exact h16
    · refine Keeps.step (State.startReplay_keeps ..) rfl ?_
      exact h16
  clear_value v5
  have h18 : Keeps mask28 s v6 := by
    unfold v6
    refine Keeps.step (State.mapsReset_keeps ..) rfl ?_
    refine Keeps.step (State.linkFresh_keeps ..) rfl ?_
    exact Keeps.refl _ _
  clear_value v6
  have h19 : Keeps mask28 s v8 := by
    unfold v8
    refine Keeps.step (State.setPort_keeps ..) rfl ?_
    exact h18
  clear_value v8
  have h20 : Keeps mask28 s v12 := by
    unfold v12
    refine Keeps.put rfl ?_
    refine Keeps.put rfl ?_
    refine Keeps.put rfl ?_
    exact h19
  clear_value v12
  have h21 : Keeps mask28 s v13 := by
    unfold v13
    refine Keeps.ite (fun _ => ?_) (fun _ => ?_)
    · refine State.withSvc_keeps rfl ?_ ?_
      · exact h20
      · intro x22
        intro x23
        refine Keeps.putBitOf rfl ?_
        exact x23
    · exact h20
  clear_value v13
  have h24 : Keeps mask28 s v14 := by
    unfold v14
    refine Keeps.step (State.ringsSettle_keeps ..) rfl ?_
    exact h21
  clear_value v14
  refine Keeps.ite (fun _ => ?_) (fun _ => ?_)
  · refine Keeps.step (State.widthFollow_keeps ..) rfl ?_
    refine Keeps.step (State.ringsSettle_keeps ..) rfl ?_
    exact h17
  · refine Keeps.ite (fun _ => ?_) (fun _ => ?_)
    · refine Keeps.step (State.retrainOwn_keeps ..) rfl ?_
      exact h24
    · refine Keeps.step (State.widenIfReady_keeps ..) rfl ?_
      refine Keeps.step (State.widthState_keeps ..) rfl ?_
      exact h24

end Sys2Proof.Machine
end

