-- ==== Sys2Proof/Laws/KeepsPyuOps.lean ====
section
/-! SUPPORT. The frame of every function of Machine/PyuOps.lean: what it may change, and that it keeps the canonical forms and
the waiting commands. -/
namespace Sys2Proof.Machine

set_option Elab.async false

theorem State.engPortsDown_keeps (s : State) (e : Nat) :
    Keeps mask21 s (State.engPortsDown s e) := by
  unfold State.engPortsDown
  refine Keeps.foldl _ ?_ (fun a1 b2 k3 => ?_)
  · exact Keeps.refl _ _
  · refine Keeps.step (State.enterDown_keeps ..) rfl ?_
    exact k3

theorem State.engineReset_keeps (s : State) (e : Nat) (fid : Nat) :
    Keeps mask29 s (State.engineReset s e fid) := by
  unfold State.engineReset
  refine Keeps.ite (fun _ => ?_) (fun _ => ?_)
  · extract_lets v1 v2 v3
    have h4 : Keeps mask29 s v1 := by
      unfold v1
      refine Keeps.step (State.declareShadow_keeps ..) rfl ?_
      exact Keeps.refl _ _
    clear_value v1
    have h5 : Keeps mask29 s v3 := by
      unfold v3
      refine Keeps.put rfl ?_
      refine Keeps.step (State.setEng_keeps ..) rfl ?_
      exact h4
    clear_value v3
    refine Keeps.foldl _ ?_ (fun a6 b7 k8 => ?_)
    · refine Keeps.step (State.engPortsDown_keeps ..) rfl ?_
      exact h5
    · refine Keeps.step (State.calAll_keeps ..) rfl ?_
      exact k8
  · exact Keeps.refl _ _

theorem State.pyuEv_keeps (s : State) (e : Nat) (typ : Nat) (lvl : Nat) (addr : Nat) :
    Keeps mask29 s (State.pyuEv s e typ lvl addr) := by
  unfold State.pyuEv
  extract_lets v1 v2 v3
  have h4 : Keeps mask29 s v3 := by
    unfold v3
    refine Keeps.step (State.event_keeps ..) rfl ?_
    exact Keeps.refl _ _
  clear_value v3
  refine Keeps.ite (fun _ => ?_) (fun _ => ?_)
  · refine Keeps.step (State.engineReset_keeps ..) rfl ?_
    exact h4
  · exact h4

theorem State.bankOff_keeps (s : State) (e : Nat) :
    Keeps mask30 s (State.bankOff s e) := by
  unfold State.bankOff
  unfold State.putBitOf
  refine Keeps.put rfl ?_
  refine Keeps.put rfl ?_
  exact Keeps.refl _ _

theorem State.engineDark_keeps (s : State) (e : Nat) (fid : Nat) :
    Keeps mask31 s (State.engineDark s e fid) := by
  unfold State.engineDark
  extract_lets v1 v2
  have h3 : Keeps mask31 s v1 := by
    unfold v1
    refine Keeps.step (State.declareShadow_keeps ..) rfl ?_
    exact Keeps.refl _ _
  clear_value v1
  have h4 : Keeps mask31 s v2 := by
    unfold v2
    refine Keeps.step (State.bankOff_keeps ..) rfl ?_
    refine Keeps.step (State.engPortsDown_keeps ..) rfl ?_
    exact h3
  clear_value v2
  refine Keeps.foldl _ ?_ (fun a5 b6 k7 => ?_)
  · exact h4
  · refine Keeps.putFlag rfl ?_
    refine Keeps.step (State.ringsOff_keeps ..) rfl ?_
    exact k7

theorem State.refusedBits_keeps (s : State) (eng : Bool) :
    Keeps mask32 s (State.refusedBits s eng) := by
  unfold State.refusedBits
  extract_lets v1 v2
  have h3 : Keeps mask32 s v1 := by
    unfold v1
    refine Keeps.ite (fun _ => ?_) (fun _ => ?_)
    · unfold State.putFlag
      refine Keeps.put rfl ?_
      exact Keeps.refl _ _
    · exact Keeps.refl _ _
  clear_value v1
  have h9 : Keeps mask32 s v2 := by
    unfold v2
    refine Keeps.ite (fun _ => ?_) (fun _ => ?_)
    · unfold State.putFlag
      refine Keeps.put rfl ?_
      exact h3
    · exact h3
  clear_value v2
  refine Keeps.ite (fun _ => ?_) (fun _ => ?_)
  · unfold State.putFlag
    refine Keeps.put rfl ?_
    exact h9
  · exact h9

theorem State.reqClear_keeps (s : State) :
    Keeps mask33 s (State.reqClear s) := by
  unfold State.reqClear
  refine Keeps.put rfl ?_
  refine Keeps.put rfl ?_
  refine Keeps.put rfl ?_
  exact Keeps.refl _ _

theorem State.request_keeps (s : State) (sep : Bool) (vat : Bool) (eng : Nat) (tg : Nat) :
    Keeps mask34 s (State.request s sep vat eng tg) := by
  unfold State.request
  extract_lets v1 v2 v3 v4 v5 v6
  have h7 : Keeps mask34 s v3 := by
    unfold v3
    refine Keeps.ite (fun _ => ?_) (fun _ => ?_)
    · refine Keeps.step (State.refusedBits_keeps ..) rfl ?_
      exact Keeps.refl _ _
    · exact Keeps.refl _ _
  clear_value v3
  have h12 : Keeps mask34 s v4 := by
    unfold v4
    refine Keeps.ite (fun _ => ?_) (fun _ => ?_)
    · unfold State.putFlag
      refine Keeps.put rfl ?_
      exact h7
    · exact h7
  clear_value v4
  have h18 : Keeps mask34 s v5 := by
    unfold v5
    refine Keeps.ite (fun _ => ?_) (fun _ => ?_)
    · refine Keeps.put rfl ?_
      exact h12
    · exact h12
  clear_value v5
  have h23 : Keeps mask34 s v6 := by
    unfold v6
    refine Keeps.put rfl ?_
    exact h18
  clear_value v6
  refine Keeps.ite (fun _ => ?_) (fun _ => ?_)
  · exact Keeps.refl _ _
  · refine Keeps.ite (fun _ => ?_) (fun _ => ?_)
    · refine Keeps.step (State.refusedBits_keeps ..) rfl ?_
      exact Keeps.refl _ _
    · refine Keeps.ite (fun _ => ?_) (fun _ => ?_)
      · exact h23
      · refine Keeps.put rfl ?_
        exact h23

theorem State.lenSettle_keeps (s : State) :
    Keeps mask35 s (State.lenSettle s) := by
  unfold State.lenSettle
  extract_lets v1
  unfold State.putFlag
  refine Keeps.put rfl ?_
  refine Keeps.put rfl ?_
  refine Keeps.put rfl ?_
  exact Keeps.refl _ _

theorem State.bankFail_keeps (s : State) (e : Nat) :
    Keeps mask36 s (State.bankFail s e) := by
  unfold State.bankFail
  extract_lets v1 v2
  have h3 : Keeps mask36 s v2 := by
    unfold v2
    unfold State.putFlag
    refine Keeps.put rfl ?_
    refine Keeps.step (State.setEng_keeps ..) rfl ?_
    exact Keeps.refl _ _
  clear_value v2
  refine Keeps.step (State.engPortsDown_keeps ..) rfl ?_
  exact h3

theorem State.engineUp_keeps (s : State) (e : Nat) :
    Keeps mask37 s (State.engineUp s e) := by
  unfold State.engineUp
  extract_lets v1 v2
  have h3 : Keeps mask37 s v2 := by
    unfold v2
    refine Keeps.put rfl ?_
    refine Keeps.step (State.setEng_keeps ..) rfl ?_
    exact Keeps.refl _ _
  clear_value v2
  refine Keeps.foldl _ ?_ (fun a4 b5 k6 => ?_)
  · exact h3
  · extract_lets v7
    have h8 : Keeps mask37 s v7 := by
      unfold v7
      refine Keeps.foldl _ ?_ (fun a9 b10 k11 => ?_)
      · exact k6
      · refine Keeps.step (State.setRing_keeps ..) rfl ?_
        refine Keeps.step (State.setRing_keeps ..) rfl ?_
        exact k11
    clear_value v7
    refine Keeps.step (State.comeUp_keeps ..) rfl ?_
    refine Keeps.step (State.calShow_keeps ..) rfl ?_
    exact h8

theorem State.engineBlind_keeps (s : State) (e : Nat) :
    Keeps mask38 s (State.engineBlind s e) := by
  unfold State.engineBlind
  refine Keeps.foldl _ ?_ (fun a1 b2 k3 => ?_)
  · exact Keeps.refl _ _
  · refine Keeps.put rfl ?_
    refine Keeps.clr rfl ?_
    refine Keeps.clr rfl ?_
    refine Keeps.clr rfl ?_
    exact k3

theorem State.failMarksClear_keeps (s : State) (e : Nat) :
    Keeps 0x100 s (State.failMarksClear s e) := by
  unfold State.failMarksClear
  refine Keeps.foldl _ ?_ (fun a1 b2 k3 => ?_)
  · exact Keeps.refl _ _
  · refine Keeps.step (State.setPort_keeps ..) rfl ?_
    exact k3

theorem State.engCountsClear_keeps (s : State) (e : Nat) :
    Keeps mask39 s (State.engCountsClear s e) := by
  unfold State.engCountsClear
  refine Keeps.foldl _ ?_ (fun a1 b2 k3 => ?_)
  · exact Keeps.refl _ _
  · refine Keeps.put rfl ?_
    refine Keeps.put rfl ?_
    refine Keeps.put rfl ?_
    exact k3

theorem State.switchRings_keeps (s : State) (k : Nat) (rx : Bool) (old : Nat) :
    Keeps mask12 s (State.switchRings s k rx old) := by
  unfold State.switchRings
  extract_lets v1
  have h2 : Keeps mask12 s v1 := by
    unfold v1
    refine Keeps.step (State.ringsSettle_keeps ..) rfl ?_
    exact Keeps.refl _ _
  clear_value v1
  refine Keeps.ite (fun _ => ?_) (fun _ => ?_)
  · refine Keeps.step (State.calStart_keeps ..) rfl ?_
    exact h2
  · exact h2

theorem State.remapStart_keeps (s : State) (k : Nat) (rx : Bool) (b : Nat) :
    Keeps mask40 s (State.remapStart s k rx b) := by
  unfold State.remapStart
  refine Keeps.step (State.ringsSettle_keeps ..) rfl ?_
  refine Keeps.ite (fun _ => ?_) (fun _ => ?_)
  · refine Keeps.step (State.lockAnew_keeps ..) rfl ?_
    exact Keeps.refl _ _
  · refine Keeps.step (State.lineStart_keeps ..) rfl ?_
    exact Keeps.refl _ _

theorem State.remapOpen_keeps (s : State) (k : Nat) (rx : Bool) (fail : Bool) (l : Nat) (b : Nat) (rot : Bool) :
    Keeps mask41 s (State.remapOpen s k rx fail l b rot) := by
  unfold State.remapOpen
  split
  · rename_i y1 y2 y3 y4
    extract_lets v5 v6 v7 v8
    have h9 : Keeps mask41 s v7 := by
      unfold v7
      refine Keeps.step (State.setPort_keeps ..) rfl ?_
      refine Keeps.sndOf y4 ?_
      refine Keeps.step (State.newTxid_keeps ..) rfl ?_
      exact Keeps.refl _ _
    clear_value v7
    have h10 : Keeps mask41 s v8 := by
      unfold v8
      refine Keeps.step (State.lm_keeps ..) rfl ?_
      exact h9
    clear_value v8
    refine Keeps.step (State.remapStart_keeps ..) rfl ?_
    refine Keeps.step (State.rotShow_keeps ..) rfl ?_
    exact h10

theorem State.remapAbortOwn_keeps (s : State) (k : Nat) (rx : Bool) (reason : Nat) :
    Keeps mask42 s (State.remapAbortOwn s k rx reason) := by
  unfold State.remapAbortOwn
  extract_lets v1 v2
  have h3 : Keeps mask42 s v2 := by
    unfold v2
    refine Keeps.step (State.setPort_keeps ..) rfl ?_
    exact Keeps.refl _ _
  clear_value v2
  split
  · rename_i y4 y5
    exact Keeps.refl _ _
  · rename_i y6 y7 y8
    refine Keeps.step (State.ringsSettle_keeps ..) rfl ?_
    refine Keeps.step (State.rotShow_keeps ..) rfl ?_
    refine Keeps.step (State.lm_keeps ..) rfl ?_
    exact h3

end Sys2Proof.Machine
end

