-- ==== Sys2Proof/Laws/KeepsVat.lean ====
section
/-! SUPPORT. The frame of every function of Machine/Vat.lean: what it may change, and that it keeps the canonical forms and
the waiting commands. -/
namespace Sys2Proof.Machine

set_option Elab.async false

theorem State.setPage_keeps (s : State) (i : Nat) (e : PageEnt) :
    Keeps 0x4000 s (State.setPage s i e) := by
  unfold State.setPage
  refine (Keeps.setPages _ rfl ?_)
  exact Keeps.refl _ _

theorem State.setPart_keeps (s : State) (p : Nat) (a2 : Part) :
    Keeps 0x2000 s (State.setPart s p a2) := by
  unfold State.setPart
  refine (Keeps.setParts _ rfl ?_)
  exact Keeps.refl _ _

theorem State.unitWrite_keeps (s : State) (key : Bytes) (pu : Nat) (u : Nat) (ws : List (Option Byte)) :
    Keeps 0x8000 s (State.unitWrite s key pu u ws) := by
  unfold State.unitWrite
  refine Keeps.ite (fun _ => ?_) (fun _ => ?_)
  · extract_lets v1 v2
    refine (Keeps.setVmem _ rfl ?_ ?_)
    · intro x3
      exact memWrite_wf (by assumption)
    · exact Keeps.refl _ _
  · exact Keeps.refl _ _

theorem State.vwriteOn_keeps (s : State) (key : Bytes) (pa : Nat) (a : Nat) (bs : List (Byte × Bool)) :
    Keeps 0x8000 s (State.vwriteOn s key pa a bs) := by
  unfold State.vwriteOn
  refine Keeps.foldl _ ?_ (fun a1 b2 k3 => ?_)
  · exact Keeps.refl _ _
  · refine Keeps.step (State.unitWrite_keeps ..) rfl ?_
    exact k3

theorem State.vwrite_keeps (s : State) (key : Bytes) (pa : Nat) (a : Nat) (bs : Bytes) :
    Keeps 0x8000 s (State.vwrite s key pa a bs) := by
  unfold State.vwrite
  refine Keeps.step (State.vwriteOn_keeps ..) rfl ?_
  exact Keeps.refl _ _

theorem State.vpoison_keeps (s : State) (u : Nat) :
    Keeps 0x8000 s (State.vpoison s u) := by
  unfold State.vpoison
  extract_lets v1
  refine (Keeps.setVmem _ rfl id ?_)
  exact Keeps.refl _ _

theorem State.vplant_keeps (s : State) (u : Nat) (e : UnitErrs) :
    Keeps 0x8000 s (State.vplant s u e) := by
  unfold State.vplant
  refine (Keeps.setVmem _ rfl id ?_)
  exact Keeps.refl _ _

theorem State.vclear_keeps (s : State) (i : Nat) :
    Keeps 0x8000 s (State.vclear s i) := by
  unfold State.vclear
  extract_lets v1
  refine (Keeps.setVmem _ rfl ?_ ?_)
  · with_reducible exact fun c => memClear_wf c
  · exact Keeps.refl _ _

theorem State.putNpages_keeps (s : State) (p : Nat) :
    Keeps mask107 s (State.putNpages s p) := by
  unfold State.putNpages
  refine Keeps.put rfl ?_
  exact Keeps.refl _ _

end Sys2Proof.Machine
end

