-- ==== Sys2Proof/Laws/KeepsTileOps.lean ====
section
/-! SUPPORT. The frame of every function of Machine/TileOps.lean: what it may change, and that it keeps the canonical forms and
the waiting commands. -/
namespace Sys2Proof.Machine

set_option Elab.async false

theorem State.perf_keeps (s : State) (p : Nat) (i : Nat) (n : Nat) :
    Keeps mask108 s (State.perf s p i n) := by
  unfold State.perf
  refine Keeps.ite (fun _ => ?_) (fun _ => ?_)
  · exact Keeps.refl _ _
  · unfold State.count
    refine Keeps.put rfl ?_
    exact Keeps.refl _ _

theorem State.tilePerf_keeps (s : State) (t : Nat) (i : Nat) (n : Nat) :
    Keeps mask108 s (State.tilePerf s t i n) := by
  unfold State.tilePerf
  split
  · rename_i y1 y2 y3
    refine Keeps.step (State.perf_keeps ..) rfl ?_
    exact Keeps.refl _ _
  · rename_i y6 y7
    exact Keeps.refl _ _

theorem State.tilExc_keeps (s : State) (t : Nat) (e : PEnt) (code : Nat) :
    Keeps mask109 s (State.tilExc s t e code) := by
  unfold State.tilExc
  extract_lets v1 v2
  have h3 : Keeps mask109 s v2 := by
    unfold v2
    refine State.setTile_keeps rfl ?_ ?_
    · refine Canon.upd ?_
      unfold v1
      refine Canon.tile (M := mask109) _ ?_
      exact Keeps.refl _ _
    · exact Keeps.refl _ _
  clear_value v2
  refine Keeps.step (State.event_keeps ..) rfl ?_
  exact h3

theorem State.signal_keeps (s : State) (t : Nat) (k : Nat) (poison : Bool) (it : Nat) (e : PEnt) :
    Keeps mask109 s (State.signal s t k poison it e) := by
  unfold State.signal
  extract_lets v1 v2
  refine Keeps.ite (fun _ => ?_) (fun _ => ?_)
  · refine State.setTile_keeps rfl ?_ ?_
    · refine Canon.step (Tile.setTok_canon ..) ?_
      unfold v1
      refine Canon.tile (M := mask109) _ ?_
      exact Keeps.refl _ _
    · exact Keeps.refl _ _
  · refine Keeps.step (State.tilExc_keeps ..) rfl ?_
    refine State.setTile_keeps rfl ?_ ?_
    · refine Canon.step (Tile.setTok_canon ..) ?_
      unfold v1
      refine Canon.tile (M := mask109) _ ?_
      exact Keeps.refl _ _
    · exact Keeps.refl _ _

theorem State.setBar_keeps (s : State) (p : Nat) (b : Nat) (a3 : Barrier) :
    Keeps 0x2000 s (State.setBar s p b a3) := by
  unfold State.setBar
  extract_lets v1
  refine Keeps.step (State.setPart_keeps ..) rfl ?_
  exact Keeps.refl _ _

theorem State.withdraw_keeps (s : State) (p : Nat) (b : Nat) (t : Nat) :
    Keeps 0x2000 s (State.withdraw s p b t) := by
  unfold State.withdraw
  extract_lets v1
  refine Keeps.step (State.setBar_keeps ..) rfl ?_
  exact Keeps.refl _ _

theorem State.unbar_keeps (s : State) (t : Nat) (e : PEnt) :
    Keeps 0x2000 s (State.unbar s t e) := by
  unfold State.unbar
  split
  · rename_i y1 y2 y3
    refine Keeps.ite (fun _ => ?_) (fun _ => ?_)
    · refine Keeps.step (State.withdraw_keeps ..) rfl ?_
      exact Keeps.refl _ _
    · exact Keeps.refl _ _
  · rename_i y8 y9
    exact Keeps.refl _ _

theorem State.unsend_keeps (s : State) (t : Nat) (e : PEnt) :
    Keeps 0x1000 s (State.unsend s t e) := by
  unfold State.unsend
  extract_lets v1 v2
  refine Keeps.ite (fun _ => ?_) (fun _ => ?_)
  · refine State.setTile_keeps rfl ?_ ?_
    · refine Canon.upd ?_
      unfold v2
      refine Canon.tile (M := 0x1000) _ ?_
      exact Keeps.refl _ _
    · exact Keeps.refl _ _
  · exact Keeps.refl _ _

theorem State.send_keeps (s : State) (t : Nat) (e : PEnt) (poison : Bool) :
    Keeps mask110 s (State.send s t e poison) := by
  unfold State.send
  extract_lets v1 v2
  refine Keeps.ite (fun _ => ?_) (fun _ => ?_)
  · refine Keeps.step (State.signal_keeps ..) rfl ?_
    exact Keeps.refl _ _
  · refine Keeps.step (State.request_keeps ..) rfl ?_
    refine State.setTile_keeps rfl ?_ ?_
    · refine Canon.upd ?_
      unfold v2
      refine Canon.tile (M := mask110) _ ?_
      exact Keeps.refl _ _
    · exact Keeps.refl _ _

theorem State.xsigAbort_keeps (s : State) (t : Nat) (e : PEnt) :
    Keeps mask110 s (State.xsigAbort s t e) := by
  unfold State.xsigAbort
  split
  · rename_i y1 y2 y3
    refine Keeps.ite (fun _ => ?_) (fun _ => ?_)
    · refine Keeps.step (State.send_keeps ..) rfl ?_
      refine Keeps.step (State.unsend_keeps ..) rfl ?_
      exact Keeps.refl _ _
    · exact Keeps.refl _ _
  · rename_i y9 y10
    exact Keeps.refl _ _

theorem State.signalSg_keeps (s : State) (t : Nat) (e : PEnt) (poison : Bool) :
    Keeps mask109 s (State.signalSg s t e poison) := by
  unfold State.signalSg
  refine Keeps.ite (fun _ => ?_) (fun _ => ?_)
  · refine Keeps.step (State.signal_keeps ..) rfl ?_
    exact Keeps.refl _ _
  · exact Keeps.refl _ _

theorem State.rowsLost_keeps (s : State) (t : Nat) (e : PEnt) :
    Keeps mask111 s (State.rowsLost s t e) := by
  unfold State.rowsLost
  extract_lets v1 v2 v3
  have h4 : Keeps mask111 s v3.2 := by
    unfold v3
    refine Keeps.step (State.free_keeps ..) rfl ?_
    exact Keeps.refl _ _
  clear_value v3
  refine Keeps.ite (fun _ => ?_) (fun _ => ?_)
  · refine Keeps.ite (fun _ => ?_) (fun _ => ?_)
    · refine Keeps.step (State.tilePerf_keeps ..) rfl ?_
      exact Keeps.refl _ _
    · refine Keeps.step (State.tilePerf_keeps ..) rfl ?_
      exact h4
  · exact Keeps.refl _ _

theorem State.endAborted_keeps (s : State) (t : Nat) (e : PEnt) (code : Nat) :
    Keeps mask112 s (State.endAborted s t e code) := by
  unfold State.endAborted
  extract_lets v1 v2 v3 v4
  have h5 : Keeps mask112 s v1 := by
    unfold v1
    refine Keeps.ite (fun _ => ?_) (fun _ => ?_)
    · exact Keeps.refl _ _
    · refine Keeps.step (State.tilExc_keeps ..) rfl ?_
      exact Keeps.refl _ _
  clear_value v1
  have h6 : Keeps mask112 s v3 := by
    unfold v3
    refine State.setTile_keeps rfl ?_ ?_
    · refine Canon.upd ?_
      unfold v2
      refine Canon.tile (M := mask112) _ ?_
      exact h5
    · exact h5
  clear_value v3
  have h7 : Keeps mask112 s v4 := by
    unfold v4
    refine Keeps.step (State.signalSg_keeps ..) rfl ?_
    refine Keeps.step (State.unbar_keeps ..) rfl ?_
    refine Keeps.step (State.rowsLost_keeps ..) rfl ?_
    refine Keeps.step (State.tilePerf_keeps ..) rfl ?_
    exact h6
  clear_value v4
  refine Keeps.ite (fun _ => ?_) (fun _ => ?_)
  · refine Keeps.step (State.xsigAbort_keeps ..) rfl ?_
    exact h7
  · exact h7

theorem State.dropLoads_keeps (s : State) (t : Nat) :
    Keeps mask112 s (State.dropLoads s t) := by
  unfold State.dropLoads
  extract_lets v1
  split
  · rename_i y2 y3 y4
    split
    · rename_i y5 y6 y7
      refine Keeps.step (State.endAborted_keeps ..) rfl ?_
      refine State.setTile_keeps rfl ?_ ?_
      · refine Canon.upd ?_
        unfold v1
        refine Canon.tile (M := mask112) _ ?_
        exact Keeps.refl _ _
      · exact Keeps.refl _ _
    · rename_i y8 y9
      exact Keeps.refl _ _
  · rename_i y10 y11
    exact Keeps.refl _ _

theorem State.abortOne_keeps (s : State) (t : Nat) (i : Nat) (code : Nat) :
    Keeps mask112 s (State.abortOne s t i code) := by
  unfold State.abortOne
  extract_lets v1
  split
  · rename_i y3 y4 y5
    refine Keeps.step (State.endAborted_keeps ..) rfl ?_
    extract_lets v8
    refine State.setTile_keeps rfl ?_ ?_
    · refine Canon.upd ?_
      unfold v8
      refine Canon.step (Tile.quench_canon ..) ?_
      unfold v1
      refine Canon.tile (M := mask112) _ ?_
      exact Keeps.refl _ _
    · exact Keeps.refl _ _
  · rename_i y17 y18
    exact Keeps.refl _ _

theorem State.loseFollowers_keeps (m : PEnt) (t : Nat) (k : Nat) (l0 : Nat) (a3 : State) :
    Keeps mask112 a3 (State.loseFollowers m t k l0 a3) := by
  induction l0 generalizing a3 with
  | zero =>
    unfold State.loseFollowers
    exact Keeps.refl _ _
  | succ l0 ih =>
    unfold State.loseFollowers
    split
    · refine Keeps.step (ih ..) rfl ?_
      refine Keeps.step (State.abortOne_keeps ..) rfl ?_
      exact Keeps.refl _ _
    · exact Keeps.refl _ _

theorem State.loseStopped_keeps (m : PEnt) (t : Nat) (s : State) :
    Keeps mask112 s (State.loseStopped m t s) := by
  unfold State.loseStopped
  extract_lets v1 v2 v3 v4 v5
  refine Keeps.ite (fun _ => ?_) (fun _ => ?_)
  · exact Keeps.refl _ _
  · refine Keeps.foldl _ ?_ (fun a6 b7 k8 => ?_)
    · refine State.setTile_keeps rfl ?_ ?_
      · unfold v5
        refine Canon.foldl _ ?_ (fun a9 b10 k11 => ?_)
        · refine Canon.upd ?_
          unfold v1
          refine Canon.tile (M := mask112) _ ?_
          exact Keeps.refl _ _
        · refine Canon.step (Tile.record_canon ..) ?_
          exact k11
      · exact Keeps.refl _ _
    · refine Keeps.step (State.endAborted_keeps ..) rfl ?_
      exact k8

theorem State.abortAt_keeps (s : State) (t : Nat) (i : Nat) (code : Nat) :
    Keeps mask112 s (State.abortAt s t i code) := by
  unfold State.abortAt
  split
  · rename_i y1 y2 y3
    extract_lets v4
    have h5 : Keeps mask112 s v4 := by
      unfold v4
      refine Keeps.step (State.abortOne_keeps ..) rfl ?_
      exact Keeps.refl _ _
    clear_value v4
    refine Keeps.ite (fun _ => ?_) (fun _ => ?_)
    · refine Keeps.step (State.dropLoads_keeps ..) rfl ?_
      refine Keeps.step (State.loseStopped_keeps ..) rfl ?_
      refine Keeps.step (State.loseFollowers_keeps ..) rfl ?_
      exact h5
    · exact h5
  · rename_i y6 y7
    exact Keeps.refl _ _

theorem State.abortAll_keeps (s : State) (t : Nat) (code : Nat) (es : List PEnt) :
    Keeps mask112 s (State.abortAll s t code es) := by
  unfold State.abortAll
  refine Keeps.foldl _ ?_ (fun a1 b2 k3 => ?_)
  · exact Keeps.refl _ _
  · refine Keeps.step (State.endAborted_keeps ..) rfl ?_
    exact k3

theorem State.enterOne_keeps (s : State) (t : Nat) :
    KeepsO mask112 s (State.enterOne s t) := by
  unfold State.enterOne
  extract_lets v1
  split
  · rename_i y2 y3 y4 y5
    refine KeepsO.ite (fun _ => ?_) (fun _ => ?_)
    · refine KeepsO.some ?_
      refine State.setTile_keeps rfl ?_ ?_
      · unfold Tile.letIn
        refine Canon.ite (fun _ => ?_) (fun _ => ?_)
        · refine Canon.upd ?_
          refine Canon.upd ?_
          unfold v1
          refine Canon.tile (M := mask112) _ ?_
          exact Keeps.refl _ _
        · refine Canon.upd ?_
          refine Canon.upd ?_
          unfold v1
          refine Canon.tile (M := mask112) _ ?_
          exact Keeps.refl _ _
      · exact Keeps.refl _ _
    · exact KeepsO.none
  · rename_i y6 y7
    split
    · rename_i y8 y9 y10
      refine KeepsO.ite (fun _ => ?_) (fun _ => ?_)
      · split
        · rename_i y11 y12 y13
          refine KeepsO.some ?_
          refine State.setTile_keeps rfl ?_ ?_
          · refine Canon.upd ?_
            unfold v1
            refine Canon.tile (M := mask112) _ ?_
            exact Keeps.refl _ _
          · exact Keeps.refl _ _
        · rename_i y14 y15 y16 y17
          split
          · rename_i y18 y19
            exact KeepsO.none
          · rename_i y20 y21 y22
            refine KeepsO.ite (fun _ => ?_) (fun _ => ?_)
            · refine KeepsO.some ?_
              refine Keeps.step (State.endAborted_keeps ..) rfl ?_
              refine State.setTile_keeps rfl ?_ ?_
              · refine Canon.upd ?_
                unfold v1
                refine Canon.tile (M := mask112) _ ?_
                exact Keeps.refl _ _
              · exact Keeps.refl _ _
            · refine KeepsO.ite (fun _ => ?_) (fun _ => ?_)
              · refine KeepsO.some ?_
                refine State.setTile_keeps rfl ?_ ?_
                · unfold Tile.letIn
                  refine Canon.ite (fun _ => ?_) (fun _ => ?_)
                  · refine Canon.upd ?_
                    refine Canon.upd ?_
                    unfold v1
                    refine Canon.tile (M := mask112) _ ?_
                    exact Keeps.refl _ _
                  · refine Canon.upd ?_
                    refine Canon.upd ?_
                    unfold v1
                    refine Canon.tile (M := mask112) _ ?_
                    exact Keeps.refl _ _
                · exact Keeps.refl _ _
              · exact KeepsO.none
      · split
        · rename_i y23 y24 y25
          exact KeepsO.none
        · rename_i y26 y27 y28 y29 y30
          extract_lets v31
          refine KeepsO.ite (fun _ => ?_) (fun _ => ?_)
          · refine KeepsO.some ?_
            refine State.setTile_keeps rfl ?_ ?_
            · refine Canon.upd ?_
              refine Canon.step (Tile.takeSlot_canon _ _ _ y30) ?_
              unfold v1
              refine Canon.tile (M := mask112) _ ?_
              exact Keeps.refl _ _
            · exact Keeps.refl _ _
          · refine KeepsO.ite (fun _ => ?_) (fun _ => ?_)
            · refine KeepsO.some ?_
              refine Keeps.step (State.abortAll_keeps ..) rfl ?_
              refine State.setTile_keeps rfl ?_ ?_
              · refine Canon.upd ?_
                refine Canon.step (Tile.takeSlot_canon _ _ _ y30) ?_
                unfold v1
                refine Canon.tile (M := mask112) _ ?_
                exact Keeps.refl _ _
              · exact Keeps.refl _ _
            · refine KeepsO.some ?_
              refine State.setTile_keeps rfl ?_ ?_
              · refine Canon.upd ?_
                refine Canon.step (Tile.takeSlot_canon _ _ _ y30) ?_
                unfold v1
                refine Canon.tile (M := mask112) _ ?_
                exact Keeps.refl _ _
              · exact Keeps.refl _ _
    · rename_i y32 y33
      split
      · rename_i y34 y35
        exact KeepsO.none
      · rename_i y36 y37 y38 y39
        refine KeepsO.ite (fun _ => ?_) (fun _ => ?_)
        · exact KeepsO.none
        · refine KeepsO.ite (fun _ => ?_) (fun _ => ?_)
          · refine KeepsO.some ?_
            refine State.setTile_keeps rfl ?_ ?_
            · unfold Tile.letIn
              refine Canon.ite (fun _ => ?_) (fun _ => ?_)
              · refine Canon.upd ?_
                refine Canon.step (Tile.takeSlot_canon _ _ _ y39) ?_
                unfold v1
                refine Canon.tile (M := mask112) _ ?_
                exact Keeps.refl _ _
              · refine Canon.upd ?_
                refine Canon.step (Tile.takeSlot_canon _ _ _ y39) ?_
                unfold v1
                refine Canon.tile (M := mask112) _ ?_
                exact Keeps.refl _ _
            · exact Keeps.refl _ _
          · exact KeepsO.none

theorem State.enterSlots_keeps (t : Nat) (l0 : Nat) (a2 : State) :
    Keeps mask112 a2 (State.enterSlots t l0 a2) := by
  induction l0 generalizing t a2 with
  | zero =>
    unfold State.enterSlots
    exact Keeps.refl _ _
  | succ l0 ih =>
    unfold State.enterSlots
    split
    · rename_i y17 y18 y19
      have h20 : Keeps mask112 a2 y18 := by
        refine KeepsO.get y19 ?_
        refine KeepsO.step (State.enterOne_keeps ..) rfl ?_
        exact Keeps.refl _ _
      refine Keeps.step (ih ..) rfl ?_
      exact h20
    · rename_i y25 y26
      exact Keeps.refl _ _

theorem State.enter_keeps (s : State) (t : Nat) :
    Keeps mask112 s (State.enter s t) := by
  unfold State.enter
  refine Keeps.step (State.enterSlots_keeps ..) rfl ?_
  exact Keeps.refl _ _

theorem State.completeAt_keeps (s : State) (t : Nat) (i : Nat) :
    Keeps mask112 s (State.completeAt s t i) := by
  unfold State.completeAt
  extract_lets v1
  split
  · rename_i y3 y4 y5
    refine Keeps.step (State.enter_keeps ..) rfl ?_
    refine Keeps.step (State.signalSg_keeps ..) rfl ?_
    refine State.setTile_keeps rfl ?_ ?_
    · refine Canon.upd ?_
      unfold v1
      refine Canon.tile (M := mask112) _ ?_
      exact Keeps.refl _ _
    · exact Keeps.refl _ _
  · rename_i y14 y15
    exact Keeps.refl _ _

theorem State.abortEnter_keeps (s : State) (t : Nat) (i : Nat) (code : Nat) :
    Keeps mask112 s (State.abortEnter s t i code) := by
  unfold State.abortEnter
  refine Keeps.step (State.enter_keeps ..) rfl ?_
  refine Keeps.step (State.abortAt_keeps ..) rfl ?_
  exact Keeps.refl _ _

/-- The tile that an instruction leaves when its tokens are consumed holds its memories in canonical form. -/
theorem State.headRes_canon (s : State) (t : Nat) (q : Queue) (isOp : Nat → Bool) (dyn : State → Nat → PEnt → Dyn) :
    match s.headRes t q isOp dyn with
    | .waits => True
    | .ends x _ _ => Canon (s.tile t).canonical x
    | .goes x _ _ _ => Canon (s.tile t).canonical x := by
  have hc : ∀ e : PEnt, Canon (s.tile t).canonical (if e.taken then (s.tile t, false) else (s.tile t).consume e.word).1 :=
    fun e => Canon.iteFst (fun _ => Canon.self _) (fun _ => Tile.consume_canon ..)
  suffices h : ∀ r, s.headRes t q isOp dyn = r → match r with
      | .waits => True
      | .ends x _ _ => Canon (s.tile t).canonical x
      | .goes x _ _ _ => Canon (s.tile t).canonical x from h _ rfl
  intro r hr
  unfold State.headRes at hr
  extract_lets x at hr
  split at hr
  · subst hr; trivial
  · split at hr
    · subst hr; trivial
    · rename_i e _
      split at hr
      · subst hr; trivial
      · extract_lets c p bad code at hr
        split at hr
        · subst hr; exact hc e
        · split at hr
          · subst hr; trivial
          · split at hr
            · subst hr; trivial
            · subst hr; exact hc e
            · subst hr; exact hc e

theorem State.issueHead_keeps {M : Nat} {s0 s : State} {t : Nat} {q : Queue} {isOp : Nat → Bool}
    {dyn : State → Nat → PEnt → Dyn} {act : State → Nat → PEnt → State} (m : mask112 ||| M = M) (h : Keeps M s0 s)
    (g : ∀ a i e, Keeps M s0 a → Keeps M s0 (act a i e)) : Keeps M s0 (s.issueHead t q isOp dyn act) := by
  have m12 : M.testBit 12 = true := by rw [← m, Nat.testBit_or]; rfl
  have c := s.headRes_canon t q isOp dyn
  unfold State.issueHead
  split <;> rename_i e <;> rw [e] at c
  · exact h
  · exact Keeps.step (State.abortEnter_keeps ..) (sub_trans (by rfl) m) (State.setTile_keeps m12 (Canon.step c (Canon.tile t h)) h)
  · exact g _ _ _ (Keeps.step (State.tilePerf_keeps ..) (sub_trans (by rfl) m)
      (State.setTile_keeps m12 (Canon.upd (Canon.step c (Canon.tile t h))) h))

theorem State.setEnt_keeps (s : State) (t : Nat) (i : Nat) (f : PEnt → PEnt) :
    Keeps 0x1000 s (State.setEnt s t i f) := by
  unfold State.setEnt
  extract_lets v1
  split
  · rename_i y3 y4 y5
    refine State.setTile_keeps rfl ?_ ?_
    · refine Canon.upd ?_
      unfold v1
      refine Canon.tile (M := 0x1000) _ ?_
      exact Keeps.refl _ _
    · exact Keeps.refl _ _
  · rename_i y12 y13
    exact Keeps.refl _ _

theorem State.unramp_keeps (s : State) (t : Nat) :
    Keeps 0x40000 s (State.unramp s t) := by
  unfold State.unramp
  extract_lets v1
  refine (Keeps.setGov _ rfl ?_)
  exact Keeps.refl _ _

theorem State.tileStop_keeps (s : State) (t : Nat) :
    Keeps mask113 s (State.tileStop s t) := by
  unfold State.tileStop
  extract_lets v1
  refine Keeps.foldl _ ?_ (fun a3 b4 k5 => ?_)
  · refine Keeps.step (State.unramp_keeps ..) rfl ?_
    refine State.setTile_keeps rfl ?_ ?_
    · refine Canon.step (Tile.emptied_canon ..) ?_
      unfold v1
      refine Canon.tile (M := mask113) _ ?_
      exact Keeps.refl _ _
    · exact Keeps.refl _ _
  · refine Keeps.step (State.endAborted_keeps ..) rfl ?_
    exact k5

theorem State.retract_keeps (s : State) (t : Nat) :
    Keeps 0x3000 s (State.retract s t) := by
  unfold State.retract
  refine Keeps.foldl _ ?_ (fun a1 b2 k3 => ?_)
  · exact Keeps.refl _ _
  · refine Keeps.step (State.unsend_keeps ..) rfl ?_
    refine Keeps.step (State.unbar_keeps ..) rfl ?_
    exact k3

theorem State.loseXsigs_keeps (t : Nat) (l0 : List Xsig) (a2 : State) : Keeps mask112 a2 (State.loseXsigs t l0 a2) := by
  induction l0 generalizing a2 with
  | nil => exact Keeps.refl _ _
  | cons x r ih =>
    unfold State.loseXsigs
    extract_lets v7
    have h8 : Keeps mask112 a2 v7 := by
      unfold v7
      refine Keeps.ite (fun _ => ?_) (fun _ => ?_)
      · exact Keeps.refl _ _
      · split
        · exact Keeps.step (State.abortEnter_keeps ..) rfl (Keeps.refl _ _)
        · exact Keeps.refl _ _
    clear_value v7
    exact Keeps.step (ih _) rfl h8

theorem State.barTrim_keeps (s : State) (p : Nat) :
    Keeps mask112 s (State.barTrim s p) := by
  unfold State.barTrim
  refine Keeps.foldl _ ?_ (fun a1 b2 k3 => ?_)
  · exact Keeps.refl _ _
  · extract_lets v6
    refine Keeps.ite (fun _ => ?_) (fun _ => ?_)
    · refine Keeps.foldl _ ?_ (fun a9 b10 k11 => ?_)
      · exact k3
      · split
        · rename_i y14 y15 y16
          refine Keeps.step (State.abortEnter_keeps ..) rfl ?_
          exact k11
        · rename_i y19 y20
          exact k11
    · exact k3

theorem State.tileZero_keeps (s : State) (t : Nat) :
    Keeps mask113 s (State.tileZero s t) := by
  unfold State.tileZero
  extract_lets v1 v2 v3 v4 v5 v6
  have h7 : Keeps mask113 s v2 := by
    unfold v2
    refine Keeps.step (State.loseXsigs_keeps ..) rfl ?_
    refine Keeps.step (State.unramp_keeps ..) rfl ?_
    refine Keeps.step (State.retract_keeps ..) rfl ?_
    exact Keeps.refl _ _
  clear_value v2
  have h8 : Keeps mask113 s v5 := by
    unfold v5
    refine Keeps.foldl _ ?_ (fun a9 b10 k11 => ?_)
    · refine Keeps.step (State.tilePerf_keeps ..) rfl ?_
      exact h7
    · refine Keeps.step (State.rowsLost_keeps ..) rfl ?_
      exact k11
  clear_value v5
  refine State.setTile_keeps rfl ?_ ?_
  · refine Canon.empty _ ⟨rfl, rfl, rfl, rfl⟩
  · exact h8

theorem State.tileLost_keeps (s : State) (t : Nat) :
    Keeps 0x43000 s (State.tileLost s t) := by
  unfold State.tileLost
  extract_lets v1 v2
  have h3 : Keeps 0x43000 s v2 := by
    unfold v2
    refine Keeps.step (State.unramp_keeps ..) rfl ?_
    refine Keeps.step (State.retract_keeps ..) rfl ?_
    exact Keeps.refl _ _
  clear_value v2
  refine State.setTile_keeps rfl ?_ ?_
  · refine Canon.empty _ ⟨rfl, rfl, rfl, rfl⟩
  · exact h3

theorem State.groupLost_keeps (s : State) (g : Nat) :
    Keeps 0x43000 s (State.groupLost s g) := by
  unfold State.groupLost
  refine Keeps.foldl _ ?_ (fun a1 b2 k3 => ?_)
  · exact Keeps.refl _ _
  · refine Keeps.step (State.tileLost_keeps ..) rfl ?_
    exact k3

theorem State.tileHalt_keeps (s : State) (t : Nat) :
    Keeps mask113 s (State.tileHalt s t) := by
  unfold State.tileHalt
  refine Keeps.step (State.tileStop_keeps ..) rfl ?_
  extract_lets v2
  refine State.setTile_keeps rfl ?_ ?_
  · refine Canon.upd ?_
    unfold v2
    refine Canon.tile (M := mask113) _ ?_
    exact Keeps.refl _ _
  · exact Keeps.refl _ _

theorem State.tilEv_keeps (s : State) (t : Nat) (typ : Nat) (lvl : Nat) (addr : Nat) :
    Keeps mask113 s (State.tilEv s t typ lvl addr) := by
  unfold State.tilEv
  extract_lets v1 v2 v3
  have h4 : Keeps mask113 s v3 := by
    unfold v3
    refine Keeps.step (State.event_keeps ..) rfl ?_
    exact Keeps.refl _ _
  clear_value v3
  refine Keeps.ite (fun _ => ?_) (fun _ => ?_)
  · refine Keeps.step (State.tileHalt_keeps ..) rfl ?_
    exact h4
  · exact h4

theorem State.tilSettle_keeps (s : State) (t : Nat) :
    Keeps mask113 s (State.tilSettle s t) := by
  unfold State.tilSettle
  refine Keeps.ite (fun _ => ?_) (fun _ => ?_)
  · refine Keeps.step (State.tileHalt_keeps ..) rfl ?_
    exact Keeps.refl _ _
  · exact Keeps.refl _ _

theorem State.pcEv_keeps (s : State) (p : Nat) (typ : Nat) (lvl : Nat) (addr : Nat) (kind : Nat) (id : Nat) :
    Keeps mask113 s (State.pcEv s p typ lvl addr kind id) := by
  unfold State.pcEv
  extract_lets v1 v2 v3
  have h4 : Keeps mask113 s v3 := by
    unfold v3
    refine Keeps.step (State.event_keeps ..) rfl ?_
    exact Keeps.refl _ _
  clear_value v3
  refine Keeps.ite (fun _ => ?_) (fun _ => ?_)
  · refine Keeps.foldl _ ?_ (fun a9 b10 k11 => ?_)
    · exact h4
    · refine Keeps.step (State.tileStop_keeps ..) rfl ?_
      exact k11
  · exact h4

theorem State.idleSettle_keeps (s : State) :
    Keeps mask114 s (State.idleSettle s) := by
  unfold State.idleSettle
  extract_lets v1 v2 v3 v4
  have h5 : Keeps mask114 s v3 := by
    unfold v3
    refine (Keeps.setIdle _ rfl ?_)
    exact Keeps.refl _ _
  clear_value v3
  have h8 : Keeps mask114 s v4 := by
    unfold v4
    refine Keeps.ite (fun _ => ?_) (fun _ => ?_)
    · refine Keeps.foldl _ ?_ (fun a11 b12 k13 => ?_)
      · exact h5
      · refine Keeps.ite (fun _ => ?_) (fun _ => ?_)
        · refine Keeps.step (State.tileStop_keeps ..) rfl ?_
          exact k13
        · exact k13
    · exact h5
  clear_value v4
  refine Keeps.ite (fun _ => ?_) (fun _ => ?_)
  · exact Keeps.refl _ _
  · refine Keeps.foldl _ ?_ (fun a23 b24 k25 => ?_)
    · exact h8
    · refine Keeps.ite (fun _ => ?_) (fun _ => ?_)
      · exact k25
      · refine Keeps.step (State.partEvent_keeps ..) rfl ?_
        exact k25

theorem State.idleCause_keeps (s : State) (f : Idle → Idle) :
    Keeps mask114 s (State.idleCause s f) := by
  unfold State.idleCause
  refine Keeps.step (State.idleSettle_keeps ..) rfl ?_
  refine (Keeps.setIdle _ rfl ?_)
  exact Keeps.refl _ _

theorem State.coreEv_keeps (s : State) (e : Ev) :
    Keeps mask114 s (State.coreEv s e) := by
  unfold State.coreEv
  refine Keeps.step (State.idleSettle_keeps ..) rfl ?_
  refine Keeps.step (State.event_keeps ..) rfl ?_
  exact Keeps.refl _ _

theorem State.ueReport_keeps (s : State) (u : Nat) (kind : Nat) (id : Nat) (part : Nat) :
    Keeps mask115 s (State.ueReport s u kind id part) := by
  unfold State.ueReport
  extract_lets v1 v2 v3 v4 v5
  have h6 : Keeps mask115 s v4 := by
    unfold v4
    refine Keeps.step (State.event_keeps ..) rfl ?_
    refine Keeps.count rfl ?_
    exact Keeps.refl _ _
  clear_value v4
  have h7 : Keeps mask115 s v5 := by
    unfold v5
    split
    · rename_i y8 y9 y10 y11
      refine Keeps.step (State.partEvent_keeps ..) rfl ?_
      exact h6
    · rename_i y12 y13
      exact h6
  clear_value v5
  refine Keeps.step (State.idleSettle_keeps ..) rfl ?_
  exact h7

theorem State.vatUe_keeps (s : State) (u : Nat) (kind : Nat) (id : Nat) (part : Nat) :
    Keeps mask116 s (State.vatUe s u kind id part) := by
  unfold State.vatUe
  refine Keeps.step (State.ueReport_keeps ..) rfl ?_
  refine Keeps.step (State.vpoison_keeps ..) rfl ?_
  exact Keeps.refl _ _

theorem State.unitRead_keeps (s : State) (u : Nat) (kind : Nat) (id : Nat) (part : Nat) :
    Keeps mask117 s (State.unitRead s u kind id part) := by
  unfold State.unitRead
  extract_lets v1 v2 v3 v4
  have h5 : Keeps mask117 s v3 := by
    unfold v3
    refine Keeps.ite (fun _ => ?_) (fun _ => ?_)
    · refine Keeps.step (State.coreEv_keeps ..) rfl ?_
      refine Keeps.count rfl ?_
      exact Keeps.refl _ _
    · exact Keeps.refl _ _
  clear_value v3
  have h6 : Keeps mask117 s v4 := by
    unfold v4
    refine Keeps.step (State.vplant_keeps ..) rfl ?_
    exact h5
  clear_value v4
  refine Keeps.ite (fun _ => ?_) (fun _ => ?_)
  · refine Keeps.step (State.vatUe_keeps ..) rfl ?_
    exact h5
  · refine Keeps.ite (fun _ => ?_) (fun _ => ?_)
    · exact h5
    · refine Keeps.ite (fun _ => ?_) (fun _ => ?_)
      · exact h6
      · refine Keeps.step (State.coreEv_keeps ..) rfl ?_
        refine Keeps.count rfl ?_
        exact h6

theorem State.unitsRead_keeps (s : State) (us : List Nat) (kind : Nat) (id : Nat) (part : Nat) :
    Keeps mask117 s (State.unitsRead s us kind id part) := by
  unfold State.unitsRead
  refine Keeps.foldl _ ?_ (fun a1 b2 k3 => ?_)
  · exact Keeps.refl _ _
  · refine Keeps.step (State.unitRead_keeps ..) rfl ?_
    exact k3

theorem State.vatAsk_keeps (s : State) :
    Keeps mask118 s (State.vatAsk s) := by
  unfold State.vatAsk
  refine Keeps.ite (fun _ => ?_) (fun _ => ?_)
  · refine Keeps.put rfl ?_
    exact Keeps.refl _ _
  · exact Keeps.refl _ _

theorem State.vatWake_keeps (s : State) :
    Keeps mask118 s (State.vatWake s) := by
  unfold State.vatWake
  refine Keeps.ite (fun _ => ?_) (fun _ => ?_)
  · exact Keeps.refl _ _
  · refine Keeps.step (State.vatAsk_keeps ..) rfl ?_
    exact Keeps.refl _ _

end Sys2Proof.Machine
end

