-- ==== Sys2Proof/Laws/KeepsGovernor.lean ====
section
/-! SUPPORT. The frame of every function of Machine/Governor.lean: what it may change, and that it keeps the canonical forms and
the waiting commands. -/
namespace Sys2Proof.Machine

set_option Elab.async false

theorem State.govEv_keeps (s : State) (typ : Nat) (lvl : Nat) :
    Keeps mask114 s (State.govEv s typ lvl) := by
  unfold State.govEv
  refine Keeps.step (State.coreEv_keeps ..) rfl ?_
  exact Keeps.refl _ _

theorem State.govTerms_keeps (s : State) :
    Keeps mask198 s (State.govTerms s) := by
  unfold State.govTerms
  extract_lets v1 v2 v3 v4
  have h5 : Keeps mask198 s v2 := by
    unfold v2
    refine Keeps.ite (fun _ => ?_) (fun _ => ?_)
    · unfold State.count
      refine Keeps.put rfl ?_
      exact Keeps.refl _ _
    · exact Keeps.refl _ _
  clear_value v2
  have h11 : Keeps mask198 s v3 := by
    unfold v3
    refine Keeps.put rfl ?_
    refine Keeps.put rfl ?_
    refine Keeps.put rfl ?_
    refine Keeps.put rfl ?_
    exact h5
  clear_value v3
  refine Keeps.put rfl ?_
  refine Keeps.put rfl ?_
  exact h11

theorem State.govUpdate_keeps (s : State) (sample : Nat) (tj : Nat) (fails : Bool) :
    Keeps mask199 s (State.govUpdate s sample tj fails) := by
  unfold State.govUpdate
  extract_lets v1 v2 v3 v4 v5 v6 v7 v8
  have h9 : Keeps mask199 s v1 := by
    unfold v1
    refine Keeps.step (State.govTerms_keeps ..) rfl ?_
    refine Keeps.put rfl ?_
    exact Keeps.refl _ _
  clear_value v1
  have h13 : Keeps mask199 s v5 := by
    unfold v5
    refine Keeps.put rfl ?_
    refine Keeps.put rfl ?_
    refine (Keeps.setGov _ rfl ?_)
    exact h9
  clear_value v5
  have h18 : Keeps mask199 s v6 := by
    unfold v6
    refine Keeps.ite (fun _ => ?_) (fun _ => ?_)
    · refine Keeps.step (State.govEv_keeps ..) rfl ?_
      unfold State.putFlag
      refine Keeps.put rfl ?_
      exact h13
    · exact h13
  clear_value v6
  have h25 : Keeps mask199 s v7 := by
    unfold v7
    refine Keeps.ite (fun _ => ?_) (fun _ => ?_)
    · unfold State.count
      refine Keeps.put rfl ?_
      unfold State.putFlag
      refine Keeps.put rfl ?_
      exact h18
    · exact h18
  clear_value v7
  refine Keeps.ite (fun _ => ?_) (fun _ => ?_)
  · exact Keeps.refl _ _
  · refine Keeps.put rfl ?_
    exact h25

theorem State.assistLost_keeps (s : State) :
    Keeps mask200 s (State.assistLost s) := by
  unfold State.assistLost
  extract_lets v1 v2
  have h3 : Keeps mask200 s v2 := by
    unfold v2
    refine (Keeps.setGov _ rfl ?_)
    exact Keeps.refl _ _
  clear_value v2
  refine Keeps.ite (fun _ => ?_) (fun _ => ?_)
  · refine Keeps.step (State.govEv_keeps ..) rfl ?_
    unfold State.count
    refine Keeps.put rfl ?_
    unfold State.putFlag
    refine Keeps.put rfl ?_
    exact h3
  · exact Keeps.refl _ _

theorem State.overBudget_keeps (s : State) :
    Keeps mask201 s (State.overBudget s) := by
  unfold State.overBudget
  refine Keeps.ite (fun _ => ?_) (fun _ => ?_)
  · refine Keeps.step (State.govEv_keeps ..) rfl ?_
    unfold State.putFlag
    refine Keeps.put rfl ?_
    exact Keeps.refl _ _
  · exact Keeps.refl _ _

theorem State.idleTrip_keeps (s : State) :
    Keeps mask202 s (State.idleTrip s) := by
  unfold State.idleTrip
  refine Keeps.ite (fun _ => ?_) (fun _ => ?_)
  · refine Keeps.step (State.govEv_keeps ..) rfl ?_
    refine Keeps.step (State.idleCause_keeps ..) rfl ?_
    unfold State.putFlag
    refine Keeps.put rfl ?_
    exact Keeps.refl _ _
  · exact Keeps.refl _ _

theorem State.idleRelease_keeps (s : State) :
    Keeps mask114 s (State.idleRelease s) := by
  unfold State.idleRelease
  refine Keeps.ite (fun _ => ?_) (fun _ => ?_)
  · refine Keeps.step (State.idleCause_keeps ..) rfl ?_
    exact Keeps.refl _ _
  · exact Keeps.refl _ _

theorem State.assistIn_keeps (s : State) (assist : Nat) (sop : Nat) (other : Nat) :
    Keeps mask203 s (State.assistIn s assist sop other) := by
  unfold State.assistIn
  extract_lets v1 v2 v3 v4 v5
  have h6 : Keeps mask203 s v3 := by
    unfold v3
    refine (Keeps.setGov _ rfl ?_)
    exact Keeps.refl _ _
  clear_value v3
  have h9 : Keeps mask203 s v5 := by
    unfold v5
    refine (Keeps.setGov _ rfl ?_)
    exact h6
  clear_value v5
  refine Keeps.ite (fun _ => ?_) (fun _ => ?_)
  · refine Keeps.put rfl ?_
    refine Keeps.put rfl ?_
    refine Keeps.put rfl ?_
    refine Keeps.put rfl ?_
    exact h9
  · exact h6

theorem State.govReset_keeps (s : State) :
    Keeps mask204 s (State.govReset s) := by
  unfold State.govReset
  extract_lets v1 v2 v3
  have h4 : Keeps mask204 s v2 := by
    unfold v2
    refine Keeps.fields _ rfl ?_ (fun a6 b7 m9 k8 => ?_)
    · exact Keeps.refl _ _
    · unfold State.clr
      refine Keeps.put (by assumption) ?_
      exact k8
  clear_value v2
  refine (Keeps.setGov _ rfl ?_)
  exact h4

theorem State.govCfgReset_keeps (s : State) :
    Keeps mask205 s (State.govCfgReset s) := by
  unfold State.govCfgReset
  refine Keeps.fields _ rfl ?_ (fun a1 b2 m4 k3 => ?_)
  · exact Keeps.refl _ _
  · unfold State.clr
    refine Keeps.put (by assumption) ?_
    exact k3

theorem State.govCfgSat_keeps (s : State) :
    Keeps mask206 s (State.govCfgSat s) := by
  unfold State.govCfgSat
  extract_lets v1
  dsimp only [v1]
  refine Keeps.put rfl ?_
  refine Keeps.put rfl ?_
  refine Keeps.put rfl ?_
  refine Keeps.put rfl ?_
  refine Keeps.put rfl ?_
  exact Keeps.refl _ _

end Sys2Proof.Machine
end

