-- ==== Sys2Proof/Laws/KeepsControl.lean ====
section
/-! SUPPORT. The frame of every function of Machine/Control.lean: what it may change, and that it keeps the canonical forms and
the waiting commands. -/
namespace Sys2Proof.Machine

set_option Elab.async false

theorem State.nop_keeps (s : State) (t : Nat) :
    Keeps mask112 s (State.nop s t) := by
  unfold State.nop
  refine State.issueHead_keeps rfl ?_ ?_
  · exact Keeps.refl _ _
  · intro x1
    intro x2
    intro x3
    intro x4
    refine Keeps.step (State.completeAt_keeps ..) rfl ?_
    exact x4

theorem State.xsig_keeps (s : State) (t : Nat) :
    Keeps mask112 s (State.xsig s t) := by
  unfold State.xsig
  refine State.issueHead_keeps rfl ?_ ?_
  · exact Keeps.refl _ _
  · intro x1
    intro x2
    intro x3
    intro x4
    refine Keeps.ite (fun _ => ?_) (fun _ => ?_)
    · refine Keeps.step (State.completeAt_keeps ..) rfl ?_
      refine Keeps.step (State.send_keeps ..) rfl ?_
      exact x4
    · refine Keeps.step (State.setEnt_keeps ..) rfl ?_
      refine Keeps.step (State.send_keeps ..) rfl ?_
      exact x4

theorem State.deliverXsigs_keeps (t : Nat) (l0 : List Xsig) (a2 : State) : Keeps mask112 a2 (State.deliverXsigs t l0 a2) := by
  induction l0 generalizing a2 with
  | nil => exact Keeps.refl _ _
  | cons x r ih =>
    unfold State.deliverXsigs
    extract_lets v7 v8
    have h9 : Keeps mask112 a2 v8 := by
      unfold v8
      refine Keeps.ite (fun _ => ?_) (fun _ => ?_)
      · exact Keeps.step (State.signal_keeps ..) rfl (Keeps.refl _ _)
      · split
        · split
          · exact Keeps.step (State.completeAt_keeps ..) rfl (Keeps.step (State.signal_keeps ..) rfl (Keeps.refl _ _))
          · exact Keeps.refl _ _
        · exact Keeps.refl _ _
    clear_value v8
    exact Keeps.step (ih _) rfl h9

theorem State.xsigDeliver_keeps (s : State) (t : Nat) :
    Keeps mask112 s (State.xsigDeliver s t) := by
  unfold State.xsigDeliver
  refine Keeps.ite (fun _ => ?_) (fun _ => ?_)
  · refine Keeps.step (State.deliverXsigs_keeps ..) rfl ?_
    refine State.setTile_keeps rfl ?_ ?_
    · extract_lets v1
      refine Canon.upd ?_
      unfold v1
      refine Canon.tile (M := mask112) _ ?_
      exact Keeps.refl _ _
    · exact Keeps.refl _ _
  · exact Keeps.refl _ _

theorem State.barArrive_keeps (s : State) (t : Nat) (i : Nat) (e : PEnt) :
    Keeps 0x2000 s (State.barArrive s t i e) := by
  unfold State.barArrive
  split
  · rename_i y1 y2
    exact Keeps.refl _ _
  · rename_i y4 y5 y6
    extract_lets v8 v9
    refine Keeps.step (State.setBar_keeps ..) rfl ?_
    exact Keeps.refl _ _

theorem State.barrier_keeps (s : State) (t : Nat) :
    Keeps mask112 s (State.barrier s t) := by
  unfold State.barrier
  refine State.issueHead_keeps rfl ?_ ?_
  · exact Keeps.refl _ _
  · intro x1
    intro x2
    intro x3
    intro x4
    refine Keeps.step (State.barArrive_keeps ..) rfl ?_
    exact x4

theorem State.barEnd_keeps (b : Nat) (poison : Bool) (l0 : List (Nat × Bool)) (a3 : State) :
    Keeps mask112 a3 (State.barEnd b poison l0 a3) := by
  induction l0 generalizing b poison a3 with
  | nil =>
    unfold State.barEnd
    exact Keeps.refl _ _
  | cons aa rr ih =>
    unfold State.barEnd
    extract_lets v27
    have h28 : Keeps mask112 a3 v27 := by
      unfold v27
      split
      · rename_i y30 y31 y32
        refine Keeps.ite (fun _ => ?_) (fun _ => ?_)
        · refine Keeps.step (State.abortEnter_keeps ..) rfl ?_
          exact Keeps.refl _ _
        · refine Keeps.step (State.completeAt_keeps ..) rfl ?_
          exact Keeps.refl _ _
      · rename_i y38 y39
        exact Keeps.refl _ _
    clear_value v27
    refine Keeps.step (ih ..) rfl ?_
    exact h28

theorem State.barComplete_keeps (s : State) (p : Nat) (b : Nat) :
    Keeps mask112 s (State.barComplete s p b) := by
  unfold State.barComplete
  extract_lets v1
  split
  · rename_i y2 y3 y4 y5
    refine Keeps.step (State.barEnd_keeps ..) rfl ?_
    refine Keeps.step (State.setBar_keeps ..) rfl ?_
    exact Keeps.refl _ _
  · rename_i y6 y7
    exact Keeps.refl _ _

theorem State.tclr_keeps (s : State) (t : Nat) :
    Keeps mask112 s (State.tclr s t) := by
  unfold State.tclr
  refine State.issueHead_keeps rfl ?_ ?_
  · exact Keeps.refl _ _
  · intro x1
    intro x2
    intro x3
    intro x4
    extract_lets v5
    refine Keeps.step (State.completeAt_keeps ..) rfl ?_
    refine State.setTile_keeps rfl ?_ ?_
    · refine Canon.foldl _ ?_ (fun a6 b7 k8 => ?_)
      · refine Canon.tile (M := mask112) _ ?_
        exact x4
      · refine Canon.step (Tile.setTok_canon ..) ?_
        exact k8
    · exact x4

theorem State.loopOpen_keeps (s : State) (t : Nat) :
    Keeps mask112 s (State.loopOpen s t) := by
  unfold State.loopOpen
  extract_lets v1
  refine Keeps.ite (fun _ => ?_) (fun _ => ?_)
  · exact Keeps.refl _ _
  · split
    · rename_i y5 y6
      exact Keeps.refl _ _
    · rename_i y8 y9 y10 y11
      refine Keeps.ite (fun _ => ?_) (fun _ => ?_)
      · exact Keeps.refl _ _
      · refine Keeps.ite (fun _ => ?_) (fun _ => ?_)
        · refine Keeps.step (State.enter_keeps ..) rfl ?_
          refine State.setTile_keeps rfl ?_ ?_
          · refine Canon.upd ?_
            refine Canon.step (Tile.takeSlot_canon _ _ _ y11) ?_
            unfold v1
            refine Canon.tile (M := mask112) _ ?_
            exact Keeps.refl _ _
          · exact Keeps.refl _ _
        · refine Keeps.step (State.enter_keeps ..) rfl ?_
          refine Keeps.step (State.endAborted_keeps ..) rfl ?_
          refine State.setTile_keeps rfl ?_ ?_
          · refine Canon.step (Tile.takeSlot_canon _ _ _ y11) ?_
            unfold v1
            refine Canon.tile (M := mask112) _ ?_
            exact Keeps.refl _ _
          · exact Keeps.refl _ _

theorem State.cqNotify_keeps (s : State) (p : Nat) :
    Keeps mask120 s (State.cqNotify s p) := by
  unfold State.cqNotify
  extract_lets v1 v2
  refine Keeps.step (State.mPush_keeps ..) rfl ?_
  refine Keeps.step (State.setPart_keeps ..) rfl ?_
  exact Keeps.refl _ _

theorem State.cqStore_keeps (s : State) (p : Nat) (a : Nat) (w : Posted) :
    Keeps mask117 s (State.cqStore s p a w) := by
  unfold State.cqStore
  extract_lets v1 v2 v3
  have h4 : Keeps mask117 s v3 := by
    unfold v3
    refine Keeps.step (State.unitsRead_keeps ..) rfl ?_
    exact Keeps.refl _ _
  clear_value v3
  refine Keeps.ite (fun _ => ?_) (fun _ => ?_)
  · exact h4
  · refine Keeps.step (State.perf_keeps ..) rfl ?_
    refine Keeps.step (State.vwrite_keeps ..) rfl ?_
    exact h4

theorem State.cqEntry_keeps (s : State) (p : Nat) (w : Posted) (rest : List Posted) :
    Keeps mask121 s (State.cqEntry s p w rest) := by
  unfold State.cqEntry
  extract_lets v1 v2 v3 v4
  have h5 : Keeps mask121 s v1 := by
    unfold v1
    split
    · rename_i y6 y7 y8
      refine Keeps.step (State.cqStore_keeps ..) rfl ?_
      exact Keeps.refl _ _
    · rename_i y9 y10
      exact Keeps.refl _ _
  clear_value v1
  have h11 : Keeps mask121 s v3 := by
    unfold v3
    refine Keeps.step (State.setPart_keeps ..) rfl ?_
    exact h5
  clear_value v3
  have h12 : Keeps mask121 s v4 := by
    unfold v4
    refine Keeps.put rfl ?_
    exact h11
  clear_value v4
  refine Keeps.ite (fun _ => ?_) (fun _ => ?_)
  · refine Keeps.step (State.cqNotify_keeps ..) rfl ?_
    exact h12
  · exact h12

theorem State.cqFlush_keeps (p : Nat) (l0 : Nat) (a2 : State) :
    Keeps mask121 a2 (State.cqFlush p l0 a2) := by
  induction l0 generalizing a2 with
  | zero =>
    unfold State.cqFlush
    exact Keeps.refl _ _
  | succ l0 ih =>
    unfold State.cqFlush
    split
    · exact Keeps.refl _ _
    · refine Keeps.ite (fun _ => ?_) (fun _ => ?_)
      · refine Keeps.step (State.vatWake_keeps ..) rfl ?_
        exact Keeps.refl _ _
      · refine Keeps.step (ih ..) rfl ?_
        refine Keeps.step (State.cqEntry_keeps ..) rfl ?_
        exact Keeps.refl _ _

theorem State.cqDrain_keeps (s : State) (p : Nat) :
    Keeps mask121 s (State.cqDrain s p) := by
  unfold State.cqDrain
  refine Keeps.step (State.cqFlush_keeps ..) rfl ?_
  exact Keeps.refl _ _

theorem State.cqWrite_keeps (s : State) (p : Nat) (c : CqEnt) (notify : Bool) (born : Nat) :
    Keeps mask122 s (State.cqWrite s p c notify born) := by
  unfold State.cqWrite
  extract_lets v1 v2 v3 v4
  have h5 : Keeps mask122 s v3 := by
    unfold v3
    refine Keeps.put rfl ?_
    refine Keeps.step (State.setPart_keeps ..) rfl ?_
    exact Keeps.refl _ _
  clear_value v3
  refine Keeps.step (State.cqDrain_keeps ..) rfl ?_
  refine (Keeps.setVmem _ rfl id ?_)
  exact h5

theorem State.cpl_keeps (s : State) (t : Nat) :
    Keeps mask122 s (State.cpl s t) := by
  unfold State.cpl
  refine State.issueHead_keeps rfl ?_ ?_
  · exact Keeps.refl _ _
  · intro x1
    intro x2
    intro x3
    intro x4
    split
    · rename_i y5 y6
      exact x4
    · rename_i y7 y8 y9
      extract_lets v10 v11 v12 v13
      have h14 : Keeps mask122 s v12 := by
        unfold v12
        refine State.setTile_keeps rfl ?_ ?_
        · refine Canon.upd ?_
          unfold v10
          refine Canon.tile (M := mask122) _ ?_
          exact x4
        · exact x4
      clear_value v12
      have h15 : Keeps mask122 s v13 := by
        unfold v13
        refine Keeps.ite (fun _ => ?_) (fun _ => ?_)
        · refine Keeps.step (State.cqWrite_keeps ..) rfl ?_
          exact h14
        · exact h14
      clear_value v13
      refine Keeps.step (State.completeAt_keeps ..) rfl ?_
      exact h15

theorem State.hmsg_keeps (s : State) (t : Nat) (r : PailRep) :
    Keeps mask113 s (State.hmsg s t r) := by
  unfold State.hmsg
  refine State.issueHead_keeps rfl ?_ ?_
  · exact Keeps.refl _ _
  · intro x1
    intro x2
    intro x3
    intro x4
    extract_lets v5
    have h6 : Keeps mask113 s v5 := by
      unfold v5
      refine State.setTile_keeps rfl ?_ ?_
      · refine Canon.step (Tile.reported_canon ..) ?_
        refine Canon.tile (M := mask113) _ ?_
        exact x4
      · exact x4
    clear_value v5
    refine Keeps.ite (fun _ => ?_) (fun _ => ?_)
    · refine Keeps.step (State.tilSettle_keeps ..) rfl ?_
      refine Keeps.step (State.abortEnter_keeps ..) rfl ?_
      exact h6
    · split
      · rename_i y7 y8 y9
        exact h6
      · rename_i y10 y11 y12 y13
        refine Keeps.step (State.completeAt_keeps ..) rfl ?_
        refine Keeps.step (State.mPush_keeps ..) rfl ?_
        exact h6

end Sys2Proof.Machine
end

