-- ==== Sys2Proof/Laws/KeepsRings.lean ====
section
/-! SUPPORT. The frame of every function of Machine/Rings.lean: what it may change, and that it keeps the canonical forms and
the waiting commands. -/
namespace Sys2Proof.Machine

set_option Elab.async false

theorem State.setSring_keeps (s : State) (p : Nat) (r : Nat) (a3 : SubRing) :
    Keeps 0x2000 s (State.setSring s p r a3) := by
  unfold State.setSring
  extract_lets v1
  refine Keeps.step (State.setPart_keeps ..) rfl ?_
  exact Keeps.refl _ _

theorem State.ringEn_keeps (s : State) (p : Nat) (r : Nat) (was : Bool) (wrote : Bool) :
    Keeps mask212 s (State.ringEn s p r was wrote) := by
  unfold State.ringEn
  refine Keeps.ite (fun _ => ?_) (fun _ => ?_)
  · refine Keeps.ite (fun _ => ?_) (fun _ => ?_)
    · refine Keeps.put rfl ?_
      refine Keeps.put rfl ?_
      refine Keeps.step (State.setSring_keeps ..) rfl ?_
      exact Keeps.refl _ _
    · exact Keeps.refl _ _
  · refine Keeps.ite (fun _ => ?_) (fun _ => ?_)
    · refine Keeps.step (State.setSring_keeps ..) rfl ?_
      exact Keeps.refl _ _
    · exact Keeps.refl _ _

theorem State.dbDrop_keeps (s : State) (p : Nat) (r : Nat) (port : Nat) :
    Keeps mask213 s (State.dbDrop s p r port) := by
  unfold State.dbDrop
  refine Keeps.step (State.pcEv_keeps ..) rfl ?_
  refine Keeps.step (State.perf_keeps ..) rfl ?_
  unfold State.putFlag
  refine Keeps.put rfl ?_
  exact Keeps.refl _ _

theorem State.dbWake_keeps (s : State) (p : Nat) :
    Keeps mask214 s (State.dbWake s p) := by
  unfold State.dbWake
  extract_lets v1 v2
  have h3 : Keeps mask214 s v2 := by
    unfold v2
    refine Keeps.putBitOf rfl ?_
    exact Keeps.refl _ _
  clear_value v2
  refine Keeps.ite (fun _ => ?_) (fun _ => ?_)
  · refine Keeps.ite (fun _ => ?_) (fun _ => ?_)
    · exact h3
    · refine Keeps.put rfl ?_
      refine Keeps.step (State.vatAsk_keeps ..) rfl ?_
      exact h3
  · refine Keeps.put rfl ?_
    exact Keeps.refl _ _

theorem State.doorbell_keeps (s : State) (p : Nat) (r : Nat) (t : Nat) (tail : Nat) (port : Nat) :
    Keeps mask215 s (State.doorbell s p r t tail port) := by
  unfold State.doorbell
  refine Keeps.ite (fun _ => ?_) (fun _ => ?_)
  · exact Keeps.refl _ _
  · extract_lets v3 v4
    refine Keeps.ite (fun _ => ?_) (fun _ => ?_)
    · refine Keeps.step (State.dbWake_keeps ..) rfl ?_
      refine Keeps.put rfl ?_
      refine Keeps.step (State.setSring_keeps ..) rfl ?_
      exact Keeps.refl _ _
    · refine Keeps.step (State.dbDrop_keeps ..) rfl ?_
      exact Keeps.refl _ _

theorem State.cqEn_keeps (s : State) (p : Nat) (was : Bool) :
    Keeps mask216 s (State.cqEn s p was) := by
  unfold State.cqEn
  extract_lets v1 v2
  have h3 : Keeps mask216 s v1 := by
    unfold v1
    refine Keeps.put rfl ?_
    refine Keeps.put rfl ?_
    refine Keeps.put rfl ?_
    exact Keeps.refl _ _
  clear_value v1
  refine Keeps.ite (fun _ => ?_) (fun _ => ?_)
  · refine Keeps.step (State.setPart_keeps ..) rfl ?_
    exact h3
  · exact Keeps.refl _ _

theorem State.cqCons_keeps (s : State) (p : Nat) (v : Nat) (port : Nat) :
    Keeps mask217 s (State.cqCons s p v port) := by
  unfold State.cqCons
  extract_lets v1 v2
  refine Keeps.ite (fun _ => ?_) (fun _ => ?_)
  · refine Keeps.put rfl ?_
    exact Keeps.refl _ _
  · refine Keeps.step (State.pcEv_keeps ..) rfl ?_
    exact Keeps.refl _ _

theorem State.perfClear_keeps (s : State) (p : Nat) :
    Keeps mask108 s (State.perfClear s p) := by
  unfold State.perfClear
  refine Keeps.foldl _ ?_ (fun a1 b2 k3 => ?_)
  · exact Keeps.refl _ _
  · refine Keeps.put rfl ?_
    exact k3

theorem State.preempt_keeps (s : State) (p : Nat) (t : Nat) (lvl : Nat) :
    Keeps mask112 s (State.preempt s p t lvl) := by
  unfold State.preempt
  extract_lets v1 v2 v3 v4 v5 v6
  have h7 : Keeps mask112 s v4 := by
    unfold v4
    refine Keeps.foldl _ ?_ (fun a8 b9 k10 => ?_)
    · exact Keeps.refl _ _
    · refine Keeps.step (State.rowsLost_keeps ..) rfl ?_
      refine Keeps.step (State.unsend_keeps ..) rfl ?_
      refine Keeps.step (State.unbar_keeps ..) rfl ?_
      exact k10
  clear_value v4
  split
  · rename_i y11 y12
    exact Keeps.refl _ _
  · rename_i y13 y14 y15
    refine Keeps.ite (fun _ => ?_) (fun _ => ?_)
    · exact Keeps.refl _ _
    · refine Keeps.step (State.dropLoads_keeps ..) rfl ?_
      refine Keeps.step (State.perf_keeps ..) rfl ?_
      refine State.setTile_keeps rfl ?_ ?_
      · unfold v5
        refine Canon.step (Tile.preempt_canon ..) ?_
        unfold v1
        refine Canon.tile (M := mask112) _ ?_
        exact Keeps.refl _ _
      · exact h7

theorem State.resume_keeps (s : State) (t : Nat) :
    Keeps mask112 s (State.resume s t) := by
  unfold State.resume
  extract_lets v1
  split
  · rename_i y2 y3 y4 y5 y6 y7
    extract_lets v8 v9 v10 v11 v12 v13 v14
    refine Keeps.ite (fun _ => ?_) (fun _ => ?_)
    · exact Keeps.refl _ _
    · refine Keeps.step (State.enter_keeps ..) rfl ?_
      refine Keeps.step (State.perf_keeps ..) rfl ?_
      refine State.setTile_keeps rfl ?_ ?_
      · unfold v14
        refine Canon.upd ?_
        unfold v13
        refine Canon.ite (fun _ => ?_) (fun _ => ?_)
        · refine Canon.step (Tile.loopAside_canon ..) ?_
          unfold v12
          refine Canon.upd ?_
          unfold v1
          refine Canon.tile (M := mask112) _ ?_
          exact Keeps.refl _ _
        · unfold v12
          refine Canon.upd ?_
          unfold v1
          refine Canon.tile (M := mask112) _ ?_
          exact Keeps.refl _ _
      · exact Keeps.refl _ _
  · rename_i y15 y16 y17
    exact Keeps.refl _ _

theorem State.advanceRing_keeps (s : State) (p : Nat) (r : Nat) (t : Nat) :
    Keeps mask218 s (State.advanceRing s p r t) := by
  unfold State.advanceRing
  extract_lets v1 v2 v3 v4 v5
  have h6 : Keeps mask218 s v3 := by
    unfold v3
    refine Keeps.put rfl ?_
    refine Keeps.step (State.setSring_keeps ..) rfl ?_
    exact Keeps.refl _ _
  clear_value v3
  have h7 : Keeps mask218 s v5 := by
    unfold v5
    refine Keeps.step (State.setPart_keeps ..) rfl ?_
    exact h6
  clear_value v5
  refine Keeps.step (State.perf_keeps ..) rfl ?_
  refine (Keeps.setRot _ rfl ?_)
  exact h7

theorem State.deliver_keeps (s : State) (p : Nat) (r : Nat) (t : Nat) (bs : Bytes) :
    Keeps mask219 s (State.deliver s p r t bs) := by
  unfold State.deliver
  extract_lets v1 v2 v3 v4
  have h5 : Keeps mask219 s v3 := by
    unfold v3
    refine Keeps.step (State.preempt_keeps ..) rfl ?_
    refine Keeps.step (State.advanceRing_keeps ..) rfl ?_
    exact Keeps.refl _ _
  clear_value v3
  refine Keeps.step (State.enter_keeps ..) rfl ?_
  refine State.setTile_keeps rfl ?_ ?_
  · refine Canon.upd ?_
    unfold v4
    refine Canon.tile (M := mask219) _ ?_
    exact h5
  · exact h5

theorem State.endGone_keeps (s : State) (p : Nat) (t : Nat) (e : PEnt) :
    Keeps mask122 s (State.endGone s p t e) := by
  unfold State.endGone
  extract_lets v1 v2 v3 v4 v5
  have h6 : Keeps mask122 s v4 := by
    unfold v4
    refine Keeps.step (State.perf_keeps ..) rfl ?_
    refine Keeps.step (State.setPart_keeps ..) rfl ?_
    exact Keeps.refl _ _
  clear_value v4
  refine Keeps.ite (fun _ => ?_) (fun _ => ?_)
  · refine Keeps.step (State.cqWrite_keeps ..) rfl ?_
    refine Keeps.step (State.setPart_keeps ..) rfl ?_
    exact h6
  · refine Keeps.ite (fun _ => ?_) (fun _ => ?_)
    · refine Keeps.step (State.send_keeps ..) rfl ?_
      exact h6
    · exact h6

theorem State.endBundle_keeps {M : Nat} {s0 s s1 : State} {p r t : Nat} {bs : Bytes} (m : mask220 ||| M = M) (h : Keeps M s0 s)
    (g : Keeps M s0 s1) : Keeps M s0 (State.endBundle s s1 p r t bs) := by
  unfold State.endBundle
  refine Keeps.ite (fun _ => h) (fun _ => ?_)
  refine Keeps.foldl _ (Keeps.step (State.advanceRing_keeps ..) (sub_trans (by rfl) m) g) fun _ _ k => ?_
  exact Keeps.step (State.endGone_keeps ..) (sub_trans (by rfl) m) k

theorem State.ringError_keeps (s : State) (p : Nat) (r : Nat) (addr : Nat) :
    Keeps mask113 s (State.ringError s p r addr) := by
  unfold State.ringError
  extract_lets v1 v2 v3
  have h4 : Keeps mask113 s v3 := by
    unfold v3
    refine Keeps.step (State.partEvent_keeps ..) rfl ?_
    refine Keeps.step (State.setSring_keeps ..) rfl ?_
    exact Keeps.refl _ _
  clear_value v3
  refine Keeps.step (State.pcEv_keeps ..) rfl ?_
  exact h4

theorem State.bundleRead_keeps (s : State) (p : Nat) (r : Nat) (a : Nat) (x : Nat) :
    Keeps mask117 s (State.bundleRead s p r a x).2 := by
  unfold State.bundleRead
  extract_lets v1
  refine Keeps.iteSnd (fun _ => ?_) (fun _ => ?_)
  · dsimp only
    refine Keeps.step (State.unitsRead_keeps ..) rfl ?_
    refine Keeps.step (State.ringError_keeps ..) rfl ?_
    exact Keeps.refl _ _
  · dsimp only
    refine Keeps.step (State.unitsRead_keeps ..) rfl ?_
    exact Keeps.refl _ _

theorem State.ringFetch_keeps (s : State) (p : Nat) (t : Nat) :
    Keeps mask220 s (State.ringFetch s p t) := by
  unfold State.ringFetch
  refine Keeps.ite (fun _ => ?_) (fun _ => ?_)
  · exact Keeps.refl _ _
  · split
    · rename_i y1 y2 y3
      exact Keeps.refl _ _
    · rename_i y4 y5 y6 y7
      extract_lets v8 v9
      refine Keeps.ite (fun _ => ?_) (fun _ => ?_)
      · exact Keeps.refl _ _
      · split
        · rename_i y10 y11 y12
          refine Keeps.step (State.vatWake_keeps ..) rfl ?_
          exact Keeps.refl _ _
        · rename_i y13 y14 y15
          refine Keeps.step (State.ringError_keeps ..) rfl ?_
          exact Keeps.refl _ _
        · rename_i y16 y17 y18
          refine Keeps.step (State.ringError_keeps ..) rfl ?_
          exact Keeps.refl _ _
        · rename_i y19 y20 y21 y22
          split
          · rename_i y23 y24 y25
            refine Keeps.sndOf y25 ?_
            refine Keeps.step (State.bundleRead_keeps ..) rfl ?_
            exact Keeps.refl _ _
          · rename_i y26 y27 y28 y29
            extract_lets v30 v31 v32
            refine Keeps.ite (fun _ => ?_) (fun _ => ?_)
            · refine Keeps.step (State.setSring_keeps ..) rfl ?_
              refine Keeps.sndOf y29 ?_
              refine Keeps.step (State.bundleRead_keeps ..) rfl ?_
              exact Keeps.refl _ _
            · refine Keeps.ite (fun _ => ?_) (fun _ => ?_)
              · refine State.endBundle_keeps rfl ?_ ?_
                · refine Keeps.sndOf y29 ?_
                  refine Keeps.step (State.bundleRead_keeps ..) rfl ?_
                  exact Keeps.refl _ _
                · refine Keeps.sndOf y29 ?_
                  refine Keeps.step (State.bundleRead_keeps ..) rfl ?_
                  exact Keeps.refl _ _
              · refine Keeps.step (State.deliver_keeps ..) rfl ?_
                refine Keeps.sndOf y29 ?_
                refine Keeps.step (State.bundleRead_keeps ..) rfl ?_
                exact Keeps.refl _ _

theorem State.rfence_keeps (s : State) (p : Nat) (r : Nat) :
    Keeps mask220 s (State.rfence s p r) := by
  unfold State.rfence
  extract_lets v1 v2
  split
  · rename_i y3 y4
    exact Keeps.refl _ _
  · rename_i y5 y6 y7 y8
    extract_lets v9 v10
    refine Keeps.ite (fun _ => ?_) (fun _ => ?_)
    · exact Keeps.refl _ _
    · split
      · rename_i y11 y12 y13 y14
        split
        · rename_i y15 y16 y17
          refine Keeps.sndOf y17 ?_
          refine Keeps.step (State.bundleRead_keeps ..) rfl ?_
          exact Keeps.refl _ _
        · rename_i y18 y19 y20 y21
          extract_lets v22 v23
          have h24 : Keeps mask220 s v23 := by
            unfold v23
            refine Keeps.step (State.setSring_keeps ..) rfl ?_
            refine Keeps.sndOf y21 ?_
            refine Keeps.step (State.bundleRead_keeps ..) rfl ?_
            exact Keeps.refl _ _
          clear_value v23
          refine Keeps.ite (fun _ => ?_) (fun _ => ?_)
          · refine State.endBundle_keeps rfl ?_ ?_
            · refine Keeps.sndOf y21 ?_
              refine Keeps.step (State.bundleRead_keeps ..) rfl ?_
              exact Keeps.refl _ _
            · exact h24
          · refine Keeps.step (State.deliver_keeps ..) rfl ?_
            exact h24
      · rename_i y25 y26 y27
        refine Keeps.step (State.vatWake_keeps ..) rfl ?_
        exact Keeps.refl _ _
      · rename_i y28 y29 y30 y31
        refine Keeps.step (State.ringError_keeps ..) rfl ?_
        exact Keeps.refl _ _

theorem State.telemetry_keeps (s : State) (p : Nat) (count : Nat) :
    Keeps mask221 s (State.telemetry s p count) := by
  unfold State.telemetry
  refine Keeps.ite (fun _ => ?_) (fun _ => ?_)
  · extract_lets v1 v2 v3 v4 v5
    have h6 : Keeps mask221 s v3 := by
      unfold v3
      refine Keeps.foldl _ ?_ (fun a7 b8 k9 => ?_)
      · exact Keeps.refl _ _
      · extract_lets v10
        refine Keeps.count rfl ?_
        refine Keeps.step (State.setPort_keeps ..) rfl ?_
        exact k9
    clear_value v3
    have h11 : Keeps mask221 s v4 := by
      unfold v4
      refine Keeps.step (State.setPart_keeps ..) rfl ?_
      exact h6
    clear_value v4
    split
    · rename_i y12 y13 y14 y15
      extract_lets v16
      refine Keeps.step (State.setPort_keeps ..) rfl ?_
      exact h11
    · rename_i y17 y18 y19
      refine Keeps.count rfl ?_
      exact h11
  · exact Keeps.refl _ _

end Sys2Proof.Machine
end

