-- ==== Sys2Proof/Laws/KeepsPower.lean ====
section
/-! SUPPORT. The frame of every function of Machine/Power.lean: what it may change, and that it keeps the canonical forms and
the waiting commands. -/
namespace Sys2Proof.Machine

set_option Elab.async false

theorem State.runs_keeps {M : Nat} {s0 s : State} {f : State → State} (_ : 0x0 ||| M = M) (h : Keeps M s0 s)
    (g : ∀ t, Keeps M s0 t → Keeps M s0 (f t)) : Keeps M s0 (s.runs f) :=
  Keeps.ite (fun _ => g _ h) (fun _ => h)

theorem State.offers_keeps {M : Nat} {s0 s : State} {f : State → State} (m : mask4 ||| M = M) (h : Keeps M s0 s)
    (g : ∀ t, Keeps M s0 t → Keeps M s0 (f t)) : Keeps M s0 (s.offers f) :=
  Keeps.ite (fun _ => Keeps.step (State.recsOut_keeps ..) (sub_trans rfl m)
    (g _ (Keeps.step (State.recsIn_keeps ..) (sub_trans rfl m) h))) (fun _ => h)

theorem State.acts_keeps {M : Nat} {s0 s : State} {f : State → State} (m : mask4 ||| M = M) (h : Keeps M s0 s)
    (g : ∀ t, Keeps M s0 t → Keeps M s0 (f t)) : Keeps M s0 (s.acts f) :=
  Keeps.ite (fun _ => Keeps.step (State.recsOut_keeps ..) (sub_trans rfl m)
    (State.serviced_keeps (sub_trans rfl m) (g _ (Keeps.step (State.recsIn_keeps ..) (sub_trans rfl m) h)))) (fun _ => h)

theorem State.atPins_keeps {M : Nat} {s0 s : State} {f : State → State} (m : mask4 ||| M = M) (h : Keeps M s0 s)
    (g : ∀ t, Keeps M s0 t → Keeps M s0 (f t)) : Keeps M s0 (s.atPins f) := by
  have k := g _ (Keeps.step (State.recsIn_keeps s) (sub_trans rfl m) h)
  exact Keeps.ite (fun _ => Keeps.step (State.recsOut_keeps ..) (sub_trans rfl m) (State.serviced_keeps (sub_trans rfl m) k)) (fun _ => k)

theorem State.aonEv_keeps (s : State) (typ : Nat) (lvl : Nat) :
    Keeps mask3 s (State.aonEv s typ lvl) := by
  unfold State.aonEv
  refine Keeps.step (State.event_keeps ..) rfl ?_
  exact Keeps.refl _ _

theorem State.powerRec_keeps (s : State) (cause : Nat) :
    Keeps 0x10 s (State.powerRec s cause) := by
  unfold State.powerRec
  refine Keeps.step (State.offer_keeps ..) rfl ?_
  exact Keeps.refl _ _

theorem State.rail_keeps (s : State) (d : Nat) (above : Bool) :
    Keeps mask222 s (State.rail s d above) := by
  unfold State.rail
  extract_lets v1 v2
  unfold State.putFlag
  refine Keeps.put rfl ?_
  refine (Keeps.setPow _ rfl ?_)
  exact Keeps.refl _ _

theorem State.discharged_keeps (s : State) :
    Keeps mask222 s (State.discharged s) := by
  unfold State.discharged
  unfold State.putFlag
  refine Keeps.put rfl ?_
  extract_lets v3
  refine (Keeps.setPow _ rfl ?_)
  exact Keeps.refl _ _

theorem State.coreHeld_keeps (s : State) (d : Nat) :
    Keeps mask3 s (State.coreHeld s d) := by
  unfold State.coreHeld
  refine Keeps.foldl _ ?_ (fun a1 b2 k3 => ?_)
  · exact Keeps.refl _ _
  · refine Keeps.step (State.event_keeps ..) rfl ?_
    exact k3

theorem State.blocksReset_keeps (s : State) (d : Nat) :
    Keeps 0x4 s (State.blocksReset s d) := by
  unfold State.blocksReset
  refine Keeps.foldl _ ?_ (fun a1 b2 k3 => ?_)
  · exact Keeps.refl _ _
  · refine Keeps.step (State.setBlk_keeps ..) rfl ?_
    exact k3

theorem State.setQual_keeps (s : State) (g : Nat) (a2 : QualSt) :
    Keeps 0x2 s (State.setQual s g a2) := by
  unfold State.setQual
  extract_lets v1
  refine (Keeps.setQual _ rfl ?_)
  exact Keeps.refl _ _

theorem State.wakeSrc_keeps (s : State) (n : Nat) :
    Keeps mask223 s (State.wakeSrc s n) := by
  unfold State.wakeSrc
  unfold State.putBitOf
  refine Keeps.put rfl ?_
  exact Keeps.refl _ _

theorem State.wakeOver_keeps (s : State) :
    Keeps 0x1 s (State.wakeOver s) := by
  unfold State.wakeOver
  refine Keeps.ite (fun _ => ?_) (fun _ => ?_)
  · refine (Keeps.setPow _ rfl ?_)
    exact Keeps.refl _ _
  · exact Keeps.refl _ _

theorem State.gateSettle_keeps (s0 : State) :
    Keeps 0x1 s0 (State.gateSettle s0) := by
  unfold State.gateSettle
  extract_lets v1
  have h2 : Keeps 0x1 s0 v1 := by
    unfold v1
    refine Keeps.step (State.wakeOver_keeps ..) rfl ?_
    exact Keeps.refl _ _
  clear_value v1
  refine Keeps.foldl _ ?_ (fun a3 b4 k5 => ?_)
  · exact h2
  · refine Keeps.ite (fun _ => ?_) (fun _ => ?_)
    · refine Keeps.ite (fun _ => ?_) (fun _ => ?_)
      · refine Keeps.step (State.setDom_keeps ..) rfl ?_
        exact k5
      · exact k5
    · refine Keeps.ite (fun _ => ?_) (fun _ => ?_)
      · refine Keeps.step (State.setDom_keeps ..) rfl ?_
        exact k5
      · exact k5

theorem State.herdWake_keeps (s : State) :
    Keeps 0x1 s (State.herdWake s) := by
  unfold State.herdWake
  refine Keeps.ite (fun _ => ?_) (fun _ => ?_)
  · refine Keeps.step (State.gateSettle_keeps ..) rfl ?_
    refine (Keeps.setPow _ rfl ?_)
    exact Keeps.refl _ _
  · exact Keeps.refl _ _

theorem State.siWrite_keeps (s : State) :
    Keeps mask224 s (State.siWrite s) := by
  unfold State.siWrite
  extract_lets v1 v2 v3
  have h4 : Keeps mask224 s v2 := by
    unfold v2
    refine Keeps.put rfl ?_
    refine Keeps.put rfl ?_
    exact Keeps.refl _ _
  clear_value v2
  refine (Keeps.setPow _ rfl ?_)
  exact h4

theorem State.pd3On_keeps (s : State) :
    Keeps mask224 s (State.pd3On s) := by
  unfold State.pd3On
  refine Keeps.ite (fun _ => ?_) (fun _ => ?_)
  · exact Keeps.refl _ _
  · refine Keeps.step (State.siWrite_keeps ..) rfl ?_
    refine Keeps.step (State.setDom_keeps ..) rfl ?_
    exact Keeps.refl _ _

theorem State.engFall_keeps (s : State) (fid : Nat) (e : Nat) :
    Keeps mask225 s (State.engFall s fid e) := by
  unfold State.engFall
  refine Keeps.ite (fun _ => ?_) (fun _ => ?_)
  · refine Keeps.step (State.engineDark_keeps ..) rfl ?_
    refine Keeps.step (State.setDom_keeps ..) rfl ?_
    exact Keeps.refl _ _
  · exact Keeps.refl _ _

theorem State.engStop_keeps (s : State) (fid : Nat) :
    Keeps mask226 s (State.engStop s fid) := by
  unfold State.engStop
  extract_lets v1
  have h2 : Keeps mask226 s v1 := by
    unfold v1
    refine Keeps.ite (fun _ => ?_) (fun _ => ?_)
    · unfold State.putFlag
      refine Keeps.put rfl ?_
      exact Keeps.refl _ _
    · exact Keeps.refl _ _
  clear_value v1
  refine Keeps.foldl _ ?_ (fun a9 b10 k11 => ?_)
  · refine Keeps.put rfl ?_
    exact h2
  · refine Keeps.step (State.engFall_keeps ..) rfl ?_
    exact k11

theorem State.lscEv_keeps (s : State) (typ : Nat) (lvl : Nat) :
    Keeps mask227 s (State.lscEv s typ lvl) := by
  unfold State.lscEv
  extract_lets v1 v2 v3
  have h4 : Keeps mask227 s v3 := by
    unfold v3
    refine Keeps.step (State.event_keeps ..) rfl ?_
    exact Keeps.refl _ _
  clear_value v3
  refine Keeps.ite (fun _ => ?_) (fun _ => ?_)
  · refine Keeps.foldl _ ?_ (fun a9 b10 k11 => ?_)
    · refine Keeps.put rfl ?_
      exact h4
    · refine Keeps.step (State.engFall_keeps ..) rfl ?_
      exact k11
  · exact h4

theorem State.lscFall_keeps (s : State) :
    Keeps mask228 s (State.lscFall s) := by
  unfold State.lscFall
  refine Keeps.ite (fun _ => ?_) (fun _ => ?_)
  · refine Keeps.step (State.lenSettle_keeps ..) rfl ?_
    refine Keeps.step (State.setDom_keeps ..) rfl ?_
    exact Keeps.refl _ _
  · exact Keeps.refl _ _

theorem State.partRegsReset_keeps (s : State) (p : Nat) :
    Keeps mask229 s (State.partRegsReset s p) := by
  unfold State.partRegsReset
  extract_lets v1 v2 v3
  have h4 : Keeps mask229 s v1 := by
    unfold v1
    refine Keeps.fields _ rfl ?_ (fun a6 b7 m9 k8 => ?_)
    · exact Keeps.refl _ _
    · unfold State.clr
      refine Keeps.put (by assumption) ?_
      exact k8
  clear_value v1
  have h14 : Keeps mask229 s v2 := by
    unfold v2
    refine Keeps.fields _ rfl ?_ (fun a16 b17 m19 k18 => ?_)
    · exact h4
    · unfold State.clr
      refine Keeps.put (by assumption) ?_
      exact k18
  clear_value v2
  have h24 : Keeps mask229 s v3 := by
    unfold v3
    refine Keeps.foldl _ ?_ (fun a26 b27 k28 => ?_)
    · exact h14
    · refine Keeps.fields _ rfl ?_ (fun a31 b32 m34 k33 => ?_)
      · exact k28
      · unfold State.clr
        refine Keeps.put (by assumption) ?_
        exact k33
  clear_value v3
  refine Keeps.step (State.perfClear_keeps ..) rfl ?_
  exact h24

theorem State.retentionLost_keeps (s : State) :
    Keeps mask230 s (State.retentionLost s) := by
  unfold State.retentionLost
  extract_lets v1 v2 v3 v4 v5
  have h6 : Keeps mask230 s v2 := by
    unfold v2
    refine Keeps.foldl _ ?_ (fun a7 b8 k9 => ?_)
    · exact Keeps.refl _ _
    · refine Keeps.step (State.tileZero_keeps ..) rfl ?_
      exact k9
  clear_value v2
  have h10 : Keeps mask230 s v3 := by
    unfold v3
    refine Keeps.foldl _ ?_ (fun a11 b12 k13 => ?_)
    · exact h6
    · refine Keeps.step (State.partRegsReset_keeps ..) rfl ?_
      exact k13
  clear_value v3
  have h14 : Keeps mask230 s v4 := by
    unfold v4
    refine Keeps.foldl _ ?_ (fun a15 b16 k17 => ?_)
    · exact h10
    · exact Keeps.fields _ rfl k17 fun _ _ m k => Keeps.clr m k
  clear_value v4
  have h21 : Keeps mask230 s v5 := by
    unfold v5
    refine Keeps.foldl _ ?_ (fun a22 b23 k24 => ?_)
    · exact h14
    · refine State.setTile_keeps rfl ?_ ?_
      · extract_lets v25
        refine Canon.upd ?_
        unfold v25
        refine Canon.tile (M := mask230) _ ?_
        exact k24
      · exact k24
  clear_value v5
  refine Keeps.step (State.govCfgReset_keeps ..) rfl ?_
  have h4 := Keeps.setParts (M := mask230) {} rfl h21
  have h5 := Keeps.setPages (M := mask230) {} rfl h4
  have h6 := Keeps.setVmem (M := mask230) { arrived := v5.vmem.arrived } rfl (fun _ => rfl) h5
  exact Keeps.setRot (M := mask230) {} rfl h6

theorem State.freqAim_keeps (s : State) (g : Nat) (v : Nat) :
    Keeps 0x1 s (State.freqAim s g v) := by
  unfold State.freqAim
  extract_lets v1
  refine (Keeps.setPow _ rfl ?_)
  exact Keeps.refl _ _

theorem State.groupCut_keeps (s : State) (g : Nat) (fid : Nat) :
    Keeps mask231 s (State.groupCut s g fid) := by
  unfold State.groupCut
  extract_lets v1 v2 v3 v4 v5 v6
  have h7 : Keeps mask231 s v2 := by
    unfold v2
    refine Keeps.step (State.declareShadow_keeps ..) rfl ?_
    exact Keeps.refl _ _
  clear_value v2
  have h8 : Keeps mask231 s v3 := by
    unfold v3
    refine Keeps.putBitOf rfl ?_
    refine Keeps.foldl _ ?_ (fun a9 b10 k11 => ?_)
    · exact h7
    · refine Keeps.step (State.tileStop_keeps ..) rfl ?_
      exact k11
  clear_value v3
  have h12 : Keeps mask231 s v6 := by
    unfold v6
    refine (Keeps.setQual _ rfl ?_)
    exact h8
  clear_value v6
  refine Keeps.ite (fun _ => ?_) (fun _ => ?_)
  · refine Keeps.step (State.setDom_keeps ..) rfl ?_
    exact h12
  · exact h12

theorem State.computeSettle_keeps (s : State) :
    Keeps mask232 s (State.computeSettle s) := by
  unfold State.computeSettle
  refine State.withSvc_keeps rfl ?_ ?_
  · exact Keeps.refl _ _
  · intro x3
    intro x5
    refine Keeps.put rfl ?_
    exact x5

theorem State.phaseSettle_keeps (s : State) :
    Keeps mask233 s (State.phaseSettle s) := by
  unfold State.phaseSettle
  extract_lets v1 v2
  have h3 : Keeps mask233 s v2 := by
    unfold v2
    refine Keeps.ite (fun _ => ?_) (fun _ => ?_)
    · refine Keeps.put rfl ?_
      refine (Keeps.setPow _ rfl ?_)
      exact Keeps.refl _ _
    · exact Keeps.refl _ _
  clear_value v2
  refine Keeps.step (State.computeSettle_keeps ..) rfl ?_
  exact h3

theorem State.qualNext_keeps (s : State) :
    Keeps mask234 s (State.qualNext s) := by
  unfold State.qualNext
  refine Keeps.ite (fun _ => ?_) (fun _ => ?_)
  · exact Keeps.refl _ _
  · split
    · rename_i y3 y4 y5 y6
      extract_lets v8 v9 v10
      have h11 : Keeps mask234 s v9 := by
        unfold v9
        refine (Keeps.setQual _ rfl ?_)
        exact Keeps.refl _ _
      clear_value v9
      have h14 : Keeps mask234 s v10 := by
        unfold v10
        refine Keeps.step (State.setQual_keeps ..) rfl ?_
        exact h11
      clear_value v10
      refine Keeps.ite (fun _ => ?_) (fun _ => ?_)
      · refine Keeps.step (State.freqAim_keeps ..) rfl ?_
        refine Keeps.put rfl ?_
        exact h14
      · exact h14
    · rename_i y22 y23
      extract_lets v25 v26
      refine Keeps.ite (fun _ => ?_) (fun _ => ?_)
      · refine Keeps.step (State.freqAim_keeps ..) rfl ?_
        refine Keeps.step (State.setQual_keeps ..) rfl ?_
        exact Keeps.refl _ _
      · refine (Keeps.setQual _ rfl ?_)
        exact Keeps.refl _ _

theorem State.qualStart_keeps (s : State) :
    Keeps mask235 s (State.qualStart s) := by
  unfold State.qualStart
  refine Keeps.ite (fun _ => ?_) (fun _ => ?_)
  · exact Keeps.refl _ _
  · extract_lets v1 v2 v3
    have h4 : Keeps mask235 s v2 := by
      unfold v2
      clear_value v1
      split
      · refine Keeps.put rfl ?_
        exact Keeps.refl _ _
      · exact Keeps.refl _ _
    clear_value v2
    refine Keeps.step (State.qualNext_keeps ..) rfl ?_
    refine (Keeps.setQual _ rfl ?_)
    exact h4

theorem State.qualStop_keeps (s : State) :
    Keeps 0x2 s (State.qualStop s) := by
  unfold State.qualStop
  extract_lets v1
  refine (Keeps.setQual _ rfl ?_)
  exact Keeps.refl _ _

theorem State.skimPass_keeps (s : State) (g : Nat) :
    Keeps mask236 s (State.skimPass s g) := by
  unfold State.skimPass
  refine Keeps.ite (fun _ => ?_) (fun _ => ?_)
  · split
    · rename_i y1 y2 y3 y4 y5
      refine Keeps.put rfl ?_
      exact Keeps.refl _ _
    · rename_i y6 y7 y8
      exact Keeps.refl _ _
  · exact Keeps.refl _ _

theorem State.groupFail_keeps (s : State) (g : Nat) :
    Keeps mask237 s (State.groupFail s g) := by
  unfold State.groupFail
  extract_lets v1 v2 v3 v4 v5
  have h6 : Keeps mask237 s v1 := by
    unfold v1
    refine Keeps.step (State.setQual_keeps ..) rfl ?_
    refine Keeps.putBitOf rfl ?_
    refine Keeps.step (State.skimPass_keeps ..) rfl ?_
    exact Keeps.refl _ _
  clear_value v1
  have h7 : Keeps mask237 s v3 := by
    unfold v3
    refine (Keeps.setQual _ rfl ?_)
    exact h6
  clear_value v3
  have h8 : Keeps mask237 s v4 := by
    unfold v4
    refine Keeps.foldl _ ?_ (fun a9 b10 k11 => ?_)
    · exact h7
    · refine Keeps.step (State.tilEv_keeps ..) rfl ?_
      exact k11
  clear_value v4
  have h12 : Keeps mask237 s v5 := by
    unfold v5
    refine Keeps.ite (fun _ => ?_) (fun _ => ?_)
    · refine Keeps.step (State.setDom_keeps ..) rfl ?_
      exact h8
    · exact h8
  clear_value v5
  refine Keeps.step (State.phaseSettle_keeps ..) rfl ?_
  refine Keeps.step (State.qualNext_keeps ..) rfl ?_
  exact h12

theorem State.selftestDone_keeps (s : State) (g : Nat) (rows : Nat) (cols : Nat) :
    Keeps mask237 s (State.selftestDone s g rows cols) := by
  unfold State.selftestDone
  extract_lets v1 v2 v3 v4 v5 v6
  have h7 : Keeps mask237 s v4 := by
    unfold v4
    refine (Keeps.setQual _ rfl ?_)
    exact Keeps.refl _ _
  clear_value v4
  have h10 : Keeps mask237 s v5 := by
    unfold v5
    refine Keeps.put rfl ?_
    refine Keeps.step (State.setQual_keeps ..) rfl ?_
    exact h7
  clear_value v5
  refine Keeps.ite (fun _ => ?_) (fun _ => ?_)
  · refine Keeps.ite (fun _ => ?_) (fun _ => ?_)
    · refine Keeps.step (State.groupFail_keeps ..) rfl ?_
      exact Keeps.refl _ _
    · refine Keeps.ite (fun _ => ?_) (fun _ => ?_)
      · refine Keeps.step (State.phaseSettle_keeps ..) rfl ?_
        refine Keeps.step (State.qualNext_keeps ..) rfl ?_
        refine (Keeps.setQual _ rfl ?_)
        exact h10
      · refine Keeps.step (State.freqAim_keeps ..) rfl ?_
        refine Keeps.step (State.setQual_keeps ..) rfl ?_
        exact h7
  · exact Keeps.refl _ _

theorem State.rampEnd_keeps (s : State) (g : Nat) (pass : Bool) :
    Keeps mask238 s (State.rampEnd s g pass) := by
  unfold State.rampEnd
  refine Keeps.ite (fun _ => ?_) (fun _ => ?_)
  · extract_lets v2 v3 v4
    have h5 : Keeps mask238 s v2 := by
      unfold v2
      refine Keeps.put rfl ?_
      refine Keeps.step (State.setQual_keeps ..) rfl ?_
      unfold State.putBitOf
      refine Keeps.put rfl ?_
      exact Keeps.refl _ _
    clear_value v2
    have h11 : Keeps mask238 s v4 := by
      unfold v4
      refine (Keeps.setQual _ rfl ?_)
      exact h5
    clear_value v4
    refine Keeps.ite (fun _ => ?_) (fun _ => ?_)
    · refine Keeps.step (State.phaseSettle_keeps ..) rfl ?_
      refine Keeps.step (State.qualNext_keeps ..) rfl ?_
      refine Keeps.step (State.freqAim_keeps ..) rfl ?_
      exact h11
    · refine Keeps.step (State.groupFail_keeps ..) rfl ?_
      exact Keeps.refl _ _
  · exact Keeps.refl _ _

theorem State.sepSettle_keeps (s : State) :
    Keeps mask239 s (State.sepSettle s) := by
  unfold State.sepSettle
  split
  · rename_i y1 y2
    refine Keeps.ite (fun _ => ?_) (fun _ => ?_)
    · refine Keeps.step (State.rail_keeps ..) rfl ?_
      refine Keeps.step (State.setDom_keeps ..) rfl ?_
      exact Keeps.refl _ _
    · exact Keeps.refl _ _
  · rename_i y8 y9
    refine Keeps.ite (fun _ => ?_) (fun _ => ?_)
    · refine Keeps.foldl _ ?_ (fun a12 b13 k14 => ?_)
      · refine Keeps.step (State.setDom_keeps ..) rfl ?_
        exact Keeps.refl _ _
      · refine Keeps.ite (fun _ => ?_) (fun _ => ?_)
        · exact k14
        · refine Keeps.step (State.enterDown_keeps ..) rfl ?_
          exact k14
    · exact Keeps.refl _ _
  · rename_i y22 y23 y24
    exact Keeps.refl _ _

theorem State.setVat_keeps (s : State) (a1 : VatSt) :
    Keeps 0x1 s (State.setVat s a1) := by
  unfold State.setVat
  extract_lets v1
  refine (Keeps.setPow _ rfl ?_)
  exact Keeps.refl _ _

theorem State.vatPower_keeps (s : State) (on : Bool) :
    Keeps 0x1 s (State.vatPower s on) := by
  unfold State.vatPower
  refine (Keeps.setPow _ rfl ?_)
  exact Keeps.refl _ _

theorem State.vatLeave_keeps (s : State) (x : VatSt) :
    Keeps 0x8001 s (State.vatLeave s x) := by
  unfold State.vatLeave
  refine Keeps.step (State.setVat_keeps ..) rfl ?_
  refine (Keeps.setVmem _ rfl id ?_)
  exact Keeps.refl _ _

theorem State.vatGone_keeps (s : State) (x : VatSt) :
    Keeps mask240 s (State.vatGone s x) := by
  unfold State.vatGone
  refine Keeps.step (State.vatPower_keeps ..) rfl ?_
  refine Keeps.step (State.setVat_keeps ..) rfl ?_
  refine Keeps.step (State.coreHeld_keeps ..) rfl ?_
  exact Keeps.refl _ _

theorem State.sleepEnd_keeps (s : State) :
    Keeps 0x1 s (State.sleepEnd s) := by
  unfold State.sleepEnd
  refine (Keeps.setPow _ rfl ?_)
  exact Keeps.refl _ _

theorem State.vatSettle_keeps (s : State) :
    Keeps mask241 s (State.vatSettle s) := by
  unfold State.vatSettle
  extract_lets v1
  split
  · rename_i y2 y3
    refine Keeps.ite (fun _ => ?_) (fun _ => ?_)
    · refine Keeps.step (State.rail_keeps ..) rfl ?_
      refine Keeps.step (State.setVat_keeps ..) rfl ?_
      refine Keeps.step (State.sleepEnd_keeps ..) rfl ?_
      exact Keeps.refl _ _
    · exact Keeps.refl _ _
  · rename_i y4 y5
    refine Keeps.ite (fun _ => ?_) (fun _ => ?_)
    · refine Keeps.step (State.setVat_keeps ..) rfl ?_
      exact Keeps.refl _ _
    · refine Keeps.ite (fun _ => ?_) (fun _ => ?_)
      · refine Keeps.step (State.setVat_keeps ..) rfl ?_
        refine Keeps.step (State.sleepEnd_keeps ..) rfl ?_
        exact Keeps.refl _ _
      · exact Keeps.refl _ _
  · rename_i y6 y7
    refine Keeps.ite (fun _ => ?_) (fun _ => ?_)
    · refine Keeps.step (State.sleepEnd_keeps ..) rfl ?_
      exact Keeps.refl _ _
    · refine Keeps.ite (fun _ => ?_) (fun _ => ?_)
      · exact Keeps.refl _ _
      · refine Keeps.ite (fun _ => ?_) (fun _ => ?_)
        · refine Keeps.step (State.vatLeave_keeps ..) rfl ?_
          refine Keeps.step (State.sleepEnd_keeps ..) rfl ?_
          exact Keeps.refl _ _
        · refine Keeps.step (State.vatLeave_keeps ..) rfl ?_
          refine Keeps.step (State.sleepEnd_keeps ..) rfl ?_
          exact Keeps.refl _ _
  · rename_i y8 y9 y10 y11
    exact Keeps.refl _ _

theorem State.engSettle_keeps (s : State) (e : Nat) :
    Keeps mask242 s (State.engSettle s e) := by
  unfold State.engSettle
  split
  · rename_i y1 y2
    refine Keeps.ite (fun _ => ?_) (fun _ => ?_)
    · unfold State.putFlag
      refine Keeps.put rfl ?_
      refine Keeps.step (State.setEng_keeps ..) rfl ?_
      refine Keeps.put rfl ?_
      refine Keeps.step (State.rail_keeps ..) rfl ?_
      refine Keeps.step (State.setDom_keeps ..) rfl ?_
      exact Keeps.refl _ _
    · exact Keeps.refl _ _
  · rename_i y12 y13
    refine Keeps.ite (fun _ => ?_) (fun _ => ?_)
    · exact Keeps.refl _ _
    · refine Keeps.step (State.engFall_keeps ..) rfl ?_
      exact Keeps.refl _ _
  · rename_i y18 y19
    refine Keeps.ite (fun _ => ?_) (fun _ => ?_)
    · refine Keeps.step (State.engFall_keeps ..) rfl ?_
      exact Keeps.refl _ _
    · exact Keeps.refl _ _
  · rename_i y24 y25
    exact Keeps.refl _ _

theorem State.lscSettle_keeps (s : State) :
    Keeps mask243 s (State.lscSettle s) := by
  unfold State.lscSettle
  extract_lets v1 v2
  split
  · rename_i y4 y5
    refine Keeps.ite (fun _ => ?_) (fun _ => ?_)
    · refine Keeps.step (State.rail_keeps ..) rfl ?_
      refine Keeps.step (State.setDom_keeps ..) rfl ?_
      exact Keeps.refl _ _
    · exact Keeps.refl _ _
  · rename_i y11 y12
    refine Keeps.ite (fun _ => ?_) (fun _ => ?_)
    · refine Keeps.step (State.lscFall_keeps ..) rfl ?_
      exact Keeps.refl _ _
    · exact Keeps.refl _ _
  · rename_i y17 y18
    refine Keeps.ite (fun _ => ?_) (fun _ => ?_)
    · refine Keeps.step (State.lscFall_keeps ..) rfl ?_
      exact Keeps.refl _ _
    · exact Keeps.refl _ _
  · rename_i y23 y24
    exact Keeps.refl _ _

theorem State.tgSettle_keeps (s : State) (g : Nat) :
    Keeps mask222 s (State.tgSettle s g) := by
  unfold State.tgSettle
  extract_lets v1 v2
  split
  · rename_i y4 y5
    refine Keeps.ite (fun _ => ?_) (fun _ => ?_)
    · refine Keeps.step (State.rail_keeps ..) rfl ?_
      refine Keeps.step (State.setDom_keeps ..) rfl ?_
      exact Keeps.refl _ _
    · exact Keeps.refl _ _
  · rename_i y11 y12
    refine Keeps.ite (fun _ => ?_) (fun _ => ?_)
    · refine Keeps.step (State.setDom_keeps ..) rfl ?_
      exact Keeps.refl _ _
    · exact Keeps.refl _ _
  · rename_i y17 y18 y19
    exact Keeps.refl _ _

theorem State.powerSettle_keeps (s : State) :
    Keeps mask244 s (State.powerSettle s) := by
  unfold State.powerSettle
  extract_lets v1 v2 v3
  have h4 : Keeps mask244 s v1 := by
    unfold v1
    refine Keeps.step (State.vatSettle_keeps ..) rfl ?_
    exact Keeps.refl _ _
  clear_value v1
  have h7 : Keeps mask244 s v2 := by
    unfold v2
    refine Keeps.foldl _ ?_ (fun a9 b10 k11 => ?_)
    · exact h4
    · refine Keeps.step (State.engSettle_keeps ..) rfl ?_
      exact k11
  clear_value v2
  have h15 : Keeps mask244 s v3 := by
    unfold v3
    refine Keeps.foldl _ ?_ (fun a17 b18 k19 => ?_)
    · refine Keeps.step (State.lscSettle_keeps ..) rfl ?_
      exact h7
    · refine Keeps.step (State.tgSettle_keeps ..) rfl ?_
      exact k19
  clear_value v3
  refine Keeps.ite (fun _ => ?_) (fun _ => ?_)
  · refine Keeps.step (State.gateSettle_keeps ..) rfl ?_
    refine Keeps.step (State.sepSettle_keeps ..) rfl ?_
    exact h15
  · exact Keeps.refl _ _

theorem State.vatDown_keeps (s : State) :
    Keeps 0x8001 s (State.vatDown s) := by
  unfold State.vatDown
  split
  · rename_i y1 y2
    refine Keeps.step (State.vatLeave_keeps ..) rfl ?_
    exact Keeps.refl _ _
  · rename_i y5 y6
    exact Keeps.refl _ _
  · rename_i y8 y9 y10
    refine Keeps.step (State.setVat_keeps ..) rfl ?_
    exact Keeps.refl _ _

theorem State.copperDown_keeps (s : State) :
    Keeps mask21 s (State.copperDown s) := by
  unfold State.copperDown
  refine Keeps.foldl _ ?_ (fun a1 b2 k3 => ?_)
  · exact Keeps.refl _ _
  · refine Keeps.ite (fun _ => ?_) (fun _ => ?_)
    · exact k3
    · refine Keeps.step (State.enterDown_keeps ..) rfl ?_
      exact k3

theorem State.tgFall_keeps (s : State) (g : Nat) :
    Keeps 0x1 s (State.tgFall s g) := by
  unfold State.tgFall
  refine Keeps.ite (fun _ => ?_) (fun _ => ?_)
  · refine Keeps.step (State.setDom_keeps ..) rfl ?_
    exact Keeps.refl _ _
  · exact Keeps.refl _ _

theorem State.sepAbandon_keeps (s : State) :
    Keeps 0x1 s (State.sepAbandon s) := by
  unfold State.sepAbandon
  refine Keeps.ite (fun _ => ?_) (fun _ => ?_)
  · refine Keeps.step (State.setDom_keeps ..) rfl ?_
    exact Keeps.refl _ _
  · exact Keeps.refl _ _

theorem State.domainsDown_keeps (s : State) (fid : Nat) :
    Keeps mask245 s (State.domainsDown s fid) := by
  unfold State.domainsDown
  extract_lets v1 v2
  have h3 : Keeps mask245 s v1 := by
    unfold v1
    refine Keeps.foldl _ ?_ (fun a4 b5 k6 => ?_)
    · exact Keeps.refl _ _
    · refine Keeps.step (State.tgFall_keeps ..) rfl ?_
      exact k6
  clear_value v1
  have h7 : Keeps mask245 s v2 := by
    unfold v2
    refine Keeps.foldl _ ?_ (fun a8 b9 k10 => ?_)
    · exact h3
    · refine Keeps.step (State.engFall_keeps ..) rfl ?_
      exact k10
  clear_value v2
  refine Keeps.step (State.sepAbandon_keeps ..) rfl ?_
  refine Keeps.step (State.copperDown_keeps ..) rfl ?_
  refine Keeps.step (State.vatDown_keeps ..) rfl ?_
  exact h7

theorem State.limitActs_keeps (s : State) (mask : Nat) :
    Keeps 0x1 s (State.limitActs s mask) := by
  unfold State.limitActs
  refine (Keeps.setPow _ rfl ?_)
  exact Keeps.refl _ _

theorem State.shutting_keeps (s : State) :
    Keeps mask246 s (State.shutting s) := by
  unfold State.shutting
  refine Keeps.ite (fun _ => ?_) (fun _ => ?_)
  · exact Keeps.refl _ _
  · refine Keeps.step (State.idleCause_keeps ..) rfl ?_
    extract_lets v4
    refine (Keeps.setPow _ rfl ?_)
    exact Keeps.refl _ _

theorem State.coreShutdown_keeps (s : State) (fid : Nat) :
    Keeps mask247 s (State.coreShutdown s fid) := by
  unfold State.coreShutdown
  extract_lets v1 v2
  have h3 : Keeps mask247 s v1 := by
    unfold v1
    refine Keeps.step (State.qualStop_keeps ..) rfl ?_
    refine Keeps.put rfl ?_
    refine Keeps.step (State.reqClear_keeps ..) rfl ?_
    exact Keeps.refl _ _
  clear_value v1
  have h4 : Keeps mask247 s v2 := by
    unfold v2
    refine Keeps.step (State.declareShadow_keeps ..) rfl ?_
    refine Keeps.step (State.powerRec_keeps ..) rfl ?_
    exact h3
  clear_value v2
  refine Keeps.ite (fun _ => ?_) (fun _ => ?_)
  · refine Keeps.step (State.powerSettle_keeps ..) rfl ?_
    exact h3
  · refine Keeps.step (State.powerSettle_keeps ..) rfl ?_
    refine Keeps.step (State.domainsDown_keeps ..) rfl ?_
    refine Keeps.step (State.reqClear_keeps ..) rfl ?_
    refine Keeps.step (State.shutting_keeps ..) rfl ?_
    exact h4

theorem State.coreSleep_keeps (s : State) (vat : Nat) :
    Keeps mask248 s (State.coreSleep s vat) := by
  unfold State.coreSleep
  extract_lets v1 v2 v3
  have h4 : Keeps mask248 s v2 := by
    unfold v2
    refine Keeps.put rfl ?_
    refine Keeps.step (State.reqClear_keeps ..) rfl ?_
    exact Keeps.refl _ _
  clear_value v2
  refine Keeps.ite (fun _ => ?_) (fun _ => ?_)
  · refine Keeps.step (State.declareShadow_keeps ..) rfl ?_
    refine Keeps.step (State.powerRec_keeps ..) rfl ?_
    refine (Keeps.setPow _ rfl ?_)
    exact h4
  · exact h4

theorem State.portsFresh_keeps (s : State) :
    Keeps 0x100 s (State.portsFresh s) := by
  unfold State.portsFresh
  refine Keeps.foldl _ ?_ (fun a1 b2 k3 => ?_)
  · exact Keeps.refl _ _
  · extract_lets v6
    refine Keeps.step (State.setPort_keeps ..) rfl ?_
    exact k3

theorem State.sepReady_keeps (s : State) :
    Keeps mask249 s (State.sepReady s) := by
  unfold State.sepReady
  extract_lets v1 v2 v3 v4 v5
  have h6 : Keeps mask249 s v1 := by
    unfold v1
    refine Keeps.step (State.govReset_keeps ..) rfl ?_
    refine Keeps.step (State.blocksReset_keeps ..) rfl ?_
    refine Keeps.step (State.setDom_keeps ..) rfl ?_
    exact Keeps.refl _ _
  clear_value v1
  have h7 : Keeps mask249 s v2 := by
    unfold v2
    refine Keeps.ite (fun _ => ?_) (fun _ => ?_)
    · refine Keeps.step (State.govCfgReset_keeps ..) rfl ?_
      exact h6
    · exact h6
  clear_value v2
  have h8 : Keeps mask249 s v4 := by
    unfold v4
    refine Keeps.put rfl ?_
    refine (Keeps.setPow _ rfl ?_)
    exact h7
  clear_value v4
  have h9 : Keeps mask249 s v5 := by
    unfold v5
    refine Keeps.step (State.idleCause_keeps ..) rfl ?_
    refine Keeps.step (State.portsFresh_keeps ..) rfl ?_
    exact h8
  clear_value v5
  refine Keeps.step (State.phaseSettle_keeps ..) rfl ?_
  refine Keeps.step (State.qualStart_keeps ..) rfl ?_
  refine Keeps.step (State.tryCopper_keeps ..) rfl ?_
  refine Keeps.step (State.tryCopper_keeps ..) rfl ?_
  exact h9

theorem State.sepOff_keeps (s : State) :
    Keeps mask250 s (State.sepOff s) := by
  unfold State.sepOff
  extract_lets v1 v2 v3
  have h4 : Keeps mask250 s v1 := by
    unfold v1
    refine Keeps.step (State.rail_keeps ..) rfl ?_
    refine Keeps.step (State.setDom_keeps ..) rfl ?_
    refine Keeps.step (State.coreHeld_keeps ..) rfl ?_
    exact Keeps.refl _ _
  clear_value v1
  have h9 : Keeps mask250 s v3 := by
    unfold v3
    refine Keeps.put rfl ?_
    refine (Keeps.setPow _ rfl ?_)
    exact h4
  clear_value v3
  refine Keeps.step (State.computeSettle_keeps ..) rfl ?_
  refine Keeps.step (State.idleCause_keeps ..) rfl ?_
  refine Keeps.step (State.portsFresh_keeps ..) rfl ?_
  refine Keeps.step (State.qualStop_keeps ..) rfl ?_
  exact h9

theorem State.vatReady_keeps (s : State) :
    Keeps mask251 s (State.vatReady s) := by
  unfold State.vatReady
  extract_lets v1 v2
  have h3 : Keeps mask251 s v1 := by
    unfold v1
    refine Keeps.step (State.blocksReset_keeps ..) rfl ?_
    refine Keeps.step (State.vatPower_keeps ..) rfl ?_
    refine Keeps.step (State.setVat_keeps ..) rfl ?_
    exact Keeps.refl _ _
  clear_value v1
  have h4 : Keeps mask251 s v2 := by
    unfold v2
    refine Keeps.ite (fun _ => ?_) (fun _ => ?_)
    · refine Keeps.foldl _ ?_ (fun a5 b6 k7 => ?_)
      · exact h3
      · refine Keeps.clr rfl ?_
        refine Keeps.clr rfl ?_
        refine Keeps.clr rfl ?_
        exact k7
    · exact h3
  clear_value v2
  refine Keeps.step (State.phaseSettle_keeps ..) rfl ?_
  refine Keeps.step (State.idleSettle_keeps ..) rfl ?_
  exact h4

theorem State.engineReady_keeps (s : State) (e : Nat) :
    Keeps mask252 s (State.engineReady s e) := by
  unfold State.engineReady
  refine Keeps.ite (fun _ => ?_) (fun _ => ?_)
  · refine Keeps.step (State.engineUp_keeps ..) rfl ?_
    refine Keeps.step (State.failMarksClear_keeps ..) rfl ?_
    refine Keeps.step (State.engCountsClear_keeps ..) rfl ?_
    refine Keeps.step (State.blocksReset_keeps ..) rfl ?_
    refine Keeps.step (State.setDom_keeps ..) rfl ?_
    exact Keeps.refl _ _
  · exact Keeps.refl _ _

theorem State.engineOff_keeps (s : State) (e : Nat) :
    Keeps mask253 s (State.engineOff s e) := by
  unfold State.engineOff
  extract_lets v1
  have h2 : Keeps mask253 s v1 := by
    unfold v1
    refine Keeps.step (State.rail_keeps ..) rfl ?_
    refine Keeps.step (State.setDom_keeps ..) rfl ?_
    refine Keeps.step (State.coreHeld_keeps ..) rfl ?_
    exact Keeps.refl _ _
  clear_value v1
  refine Keeps.step (State.engineBlind_keeps ..) rfl ?_
  refine Keeps.put rfl ?_
  refine Keeps.step (State.setEng_keeps ..) rfl ?_
  exact h2

theorem State.lscReady_keeps (s : State) :
    Keeps mask254 s (State.lscReady s) := by
  unfold State.lscReady
  extract_lets v1
  have h2 : Keeps mask254 s v1 := by
    unfold v1
    refine Keeps.step (State.setDom_keeps ..) rfl ?_
    exact Keeps.refl _ _
  clear_value v1
  refine Keeps.step (State.lenSettle_keeps ..) rfl ?_
  refine (Keeps.setLsc _ rfl ?_)
  exact h2

theorem State.lscOff_keeps (s : State) :
    Keeps mask255 s (State.lscOff s) := by
  unfold State.lscOff
  extract_lets v1 v2
  have h3 : Keeps mask255 s v1 := by
    unfold v1
    refine Keeps.step (State.rail_keeps ..) rfl ?_
    refine Keeps.step (State.setDom_keeps ..) rfl ?_
    exact Keeps.refl _ _
  clear_value v1
  have h7 : Keeps mask255 s v2 := by
    unfold v2
    refine (Keeps.setLsc _ rfl ?_)
    exact h3
  clear_value v2
  refine Keeps.step (State.lenSettle_keeps ..) rfl ?_
  unfold State.putFlag
  refine Keeps.put rfl ?_
  refine Keeps.put rfl ?_
  refine Keeps.put rfl ?_
  refine Keeps.put rfl ?_
  exact h7

theorem State.groupReady_keeps (s : State) (g : Nat) :
    Keeps mask256 s (State.groupReady s g) := by
  unfold State.groupReady
  extract_lets v1 v2
  have h3 : Keeps mask256 s v1 := by
    unfold v1
    refine Keeps.step (State.blocksReset_keeps ..) rfl ?_
    refine Keeps.step (State.setDom_keeps ..) rfl ?_
    exact Keeps.refl _ _
  clear_value v1
  have h7 : Keeps mask256 s v2 := by
    unfold v2
    refine Keeps.ite (fun _ => ?_) (fun _ => ?_)
    · refine Keeps.step (State.setQual_keeps ..) rfl ?_
      exact h3
    · exact h3
  clear_value v2
  refine Keeps.ite (fun _ => ?_) (fun _ => ?_)
  · refine Keeps.step (State.freqAim_keeps ..) rfl ?_
    refine Keeps.put rfl ?_
    exact h7
  · refine Keeps.step (State.freqAim_keeps ..) rfl ?_
    refine Keeps.put rfl ?_
    exact h7

theorem State.groupOff_keeps (s : State) (g : Nat) :
    Keeps mask257 s (State.groupOff s g) := by
  unfold State.groupOff
  extract_lets v1
  have h2 : Keeps mask257 s v1 := by
    unfold v1
    refine Keeps.step (State.rail_keeps ..) rfl ?_
    refine Keeps.step (State.setDom_keeps ..) rfl ?_
    refine Keeps.step (State.coreHeld_keeps ..) rfl ?_
    exact Keeps.refl _ _
  clear_value v1
  refine Keeps.step (State.freqAim_keeps ..) rfl ?_
  refine Keeps.put rfl ?_
  refine Keeps.step (State.groupLost_keeps ..) rfl ?_
  exact h2

theorem State.chainStage_keeps (s : State) :
    Keeps mask67 s (State.chainStage s) := by
  unfold State.chainStage
  extract_lets v1 v2
  have h3 : Keeps mask67 s v2 := by
    unfold v2
    refine (Keeps.setHerd _ rfl ?_)
    exact Keeps.refl _ _
  clear_value v2
  refine Keeps.ite (fun _ => ?_) (fun _ => ?_)
  · exact Keeps.refl _ _
  · refine Keeps.ite (fun _ => ?_) (fun _ => ?_)
    · refine Keeps.step (State.wakeChain_keeps ..) rfl ?_
      exact h3
    · exact h3

theorem State.domReady_keeps (s : State) (d : Nat) :
    Keeps mask258 s (State.domReady s d) := by
  unfold State.domReady
  extract_lets v1
  have h2 : Keeps mask258 s v1 := by
    unfold v1
    refine Keeps.ite (fun _ => ?_) (fun _ => ?_)
    · refine Keeps.ite (fun _ => ?_) (fun _ => ?_)
      · refine Keeps.step (State.vatReady_keeps ..) rfl ?_
        exact Keeps.refl _ _
      · exact Keeps.refl _ _
    · refine Keeps.ite (fun _ => ?_) (fun _ => ?_)
      · refine Keeps.ite (fun _ => ?_) (fun _ => ?_)
        · refine Keeps.step (State.pd3On_keeps ..) rfl ?_
          exact Keeps.refl _ _
        · exact Keeps.refl _ _
      · refine Keeps.ite (fun _ => ?_) (fun _ => ?_)
        · exact Keeps.refl _ _
        · refine Keeps.ite (fun _ => ?_) (fun _ => ?_)
          · refine Keeps.step (State.setDom_keeps ..) rfl ?_
            exact Keeps.refl _ _
          · refine Keeps.ite (fun _ => ?_) (fun _ => ?_)
            · refine Keeps.step (State.chainStage_keeps ..) rfl ?_
              refine Keeps.step (State.packRestart_keeps ..) rfl ?_
              refine Keeps.step (State.setDom_keeps ..) rfl ?_
              exact Keeps.refl _ _
            · refine Keeps.ite (fun _ => ?_) (fun _ => ?_)
              · refine Keeps.step (State.sepReady_keeps ..) rfl ?_
                exact Keeps.refl _ _
              · refine Keeps.ite (fun _ => ?_) (fun _ => ?_)
                · refine Keeps.step (State.engineReady_keeps ..) rfl ?_
                  exact Keeps.refl _ _
                · refine Keeps.ite (fun _ => ?_) (fun _ => ?_)
                  · refine Keeps.step (State.lscReady_keeps ..) rfl ?_
                    exact Keeps.refl _ _
                  · refine Keeps.ite (fun _ => ?_) (fun _ => ?_)
                    · refine Keeps.step (State.groupReady_keeps ..) rfl ?_
                      exact Keeps.refl _ _
                    · exact Keeps.refl _ _
  clear_value v1
  refine Keeps.step (State.powerSettle_keeps ..) rfl ?_
  exact h2

theorem State.domOff_keeps (s : State) (d : Nat) :
    Keeps mask259 s (State.domOff s d) := by
  unfold State.domOff
  extract_lets v1
  have h2 : Keeps mask259 s v1 := by
    unfold v1
    refine Keeps.ite (fun _ => ?_) (fun _ => ?_)
    · refine Keeps.ite (fun _ => ?_) (fun _ => ?_)
      · refine Keeps.ite (fun _ => ?_) (fun _ => ?_)
        · exact Keeps.refl _ _
        · refine Keeps.step (State.rail_keeps ..) rfl ?_
          refine Keeps.step (State.vatGone_keeps ..) rfl ?_
          exact Keeps.refl _ _
      · refine Keeps.ite (fun _ => ?_) (fun _ => ?_)
        · refine Keeps.step (State.retentionLost_keeps ..) rfl ?_
          refine Keeps.step (State.rail_keeps ..) rfl ?_
          refine Keeps.step (State.vatGone_keeps ..) rfl ?_
          exact Keeps.refl _ _
        · exact Keeps.refl _ _
    · refine Keeps.ite (fun _ => ?_) (fun _ => ?_)
      · exact Keeps.refl _ _
      · refine Keeps.ite (fun _ => ?_) (fun _ => ?_)
        · refine Keeps.ite (fun _ => ?_) (fun _ => ?_)
          · refine Keeps.step (State.sepOff_keeps ..) rfl ?_
            exact Keeps.refl _ _
          · exact Keeps.refl _ _
        · refine Keeps.ite (fun _ => ?_) (fun _ => ?_)
          · refine Keeps.step (State.setDom_keeps ..) rfl ?_
            exact Keeps.refl _ _
          · refine Keeps.ite (fun _ => ?_) (fun _ => ?_)
            · refine Keeps.step (State.engineOff_keeps ..) rfl ?_
              exact Keeps.refl _ _
            · refine Keeps.ite (fun _ => ?_) (fun _ => ?_)
              · refine Keeps.step (State.lscOff_keeps ..) rfl ?_
                exact Keeps.refl _ _
              · refine Keeps.step (State.groupOff_keeps ..) rfl ?_
                exact Keeps.refl _ _
  clear_value v1
  refine Keeps.step (State.powerSettle_keeps ..) rfl ?_
  exact h2

theorem State.freqStep_keeps (s : State) (g : Nat) :
    Keeps mask260 s (State.freqStep s g) := by
  unfold State.freqStep
  extract_lets v1 v2
  refine Keeps.ite (fun _ => ?_) (fun _ => ?_)
  · refine Keeps.put rfl ?_
    exact Keeps.refl _ _
  · exact Keeps.refl _ _

theorem State.freqActs_keeps (s : State) (g : Nat) :
    Keeps 0x1 s (State.freqActs s g) := by
  unfold State.freqActs
  refine Keeps.ite (fun _ => ?_) (fun _ => ?_)
  · refine Keeps.step (State.freqAim_keeps ..) rfl ?_
    exact Keeps.refl _ _
  · exact Keeps.refl _ _

theorem State.tgIdle_keeps (s : State) (g : Nat) :
    Keeps mask261 s (State.tgIdle s g) := by
  unfold State.tgIdle
  refine Keeps.ite (fun _ => ?_) (fun _ => ?_)
  · refine Keeps.putBitOf rfl ?_
    refine (Keeps.setPow _ rfl ?_)
    exact Keeps.refl _ _
  · exact Keeps.refl _ _

theorem State.idleCutEnd_keeps (s : State) :
    Keeps mask244 s (State.idleCutEnd s) := by
  unfold State.idleCutEnd
  refine Keeps.ite (fun _ => ?_) (fun _ => ?_)
  · exact Keeps.refl _ _
  · refine Keeps.step (State.powerSettle_keeps ..) rfl ?_
    refine (Keeps.setPow _ rfl ?_)
    exact Keeps.refl _ _

theorem State.engIdle_keeps (s : State) (e : Nat) :
    Keeps mask262 s (State.engIdle s e) := by
  unfold State.engIdle
  refine Keeps.ite (fun _ => ?_) (fun _ => ?_)
  · refine Keeps.step (State.powerSettle_keeps ..) rfl ?_
    unfold State.putBitOf
    refine Keeps.put rfl ?_
    exact Keeps.refl _ _
  · exact Keeps.refl _ _

theorem State.coreDead_keeps (s : State) (fid : Nat) :
    Keeps mask263 s (State.coreDead s fid) := by
  unfold State.coreDead
  extract_lets v1 v2 v3 v4 v5 v6 v7 v8 v9
  have h10 : Keeps mask263 s v2 := by
    unfold v2
    refine Keeps.step (State.qualStop_keeps ..) rfl ?_
    refine Keeps.put rfl ?_
    refine Keeps.step (State.reqClear_keeps ..) rfl ?_
    exact Keeps.refl _ _
  clear_value v2
  have h11 : Keeps mask263 s v3 := by
    unfold v3
    refine Keeps.step (State.declareShadow_keeps ..) rfl ?_
    exact h10
  clear_value v3
  have h12 : Keeps mask263 s v4 := by
    unfold v4
    refine Keeps.foldl _ ?_ (fun a13 b14 k15 => ?_)
    · exact h11
    · refine Keeps.ite (fun _ => ?_) (fun _ => ?_)
      · exact k15
      · refine Keeps.step (State.groupOff_keeps ..) rfl ?_
        exact k15
  clear_value v4
  have h16 : Keeps mask263 s v5 := by
    unfold v5
    refine Keeps.foldl _ ?_ (fun a17 b18 k19 => ?_)
    · exact h12
    · refine Keeps.ite (fun _ => ?_) (fun _ => ?_)
      · exact k19
      · refine Keeps.step (State.engineOff_keeps ..) rfl ?_
        refine Keeps.step (State.engFall_keeps ..) rfl ?_
        exact k19
  clear_value v5
  have h20 : Keeps mask263 s v6 := by
    unfold v6
    refine Keeps.ite (fun _ => ?_) (fun _ => ?_)
    · exact h16
    · refine Keeps.step (State.lscOff_keeps ..) rfl ?_
      exact h16
  clear_value v6
  have h21 : Keeps mask263 s v7 := by
    unfold v7
    refine Keeps.ite (fun _ => ?_) (fun _ => ?_)
    · exact h20
    · refine Keeps.step (State.rail_keeps ..) rfl ?_
      refine Keeps.step (State.vatGone_keeps ..) rfl ?_
      exact h20
  clear_value v7
  have h22 : Keeps mask263 s v8 := by
    unfold v8
    refine Keeps.step (State.copperDown_keeps ..) rfl ?_
    exact h21
  clear_value v8
  have h23 : Keeps mask263 s v9 := by
    unfold v9
    refine Keeps.ite (fun _ => ?_) (fun _ => ?_)
    · exact h22
    · refine Keeps.step (State.sepOff_keeps ..) rfl ?_
      exact h22
  clear_value v9
  refine Keeps.ite (fun _ => ?_) (fun _ => ?_)
  · refine Keeps.step (State.reqClear_keeps ..) rfl ?_
    refine Keeps.step (State.retentionLost_keeps ..) rfl ?_
    exact h23
  · refine Keeps.step (State.retentionLost_keeps ..) rfl ?_
    exact h10

theorem State.mainLost_keeps (s : State) (ovr : Bool) :
    Keeps mask264 s (State.mainLost s ovr) := by
  unfold State.mainLost
  extract_lets v1 v2 v3 v4 v5 v6
  have h7 : Keeps mask264 s v1 := by
    unfold v1
    refine Keeps.ite (fun _ => ?_) (fun _ => ?_)
    · refine Keeps.step (State.aonEv_keeps ..) rfl ?_
      unfold State.putFlag
      refine Keeps.put rfl ?_
      refine Keeps.put rfl ?_
      exact Keeps.refl _ _
    · exact Keeps.refl _ _
  clear_value v1
  have h15 : Keeps mask264 s v3 := by
    unfold v3
    refine Keeps.ite (fun _ => ?_) (fun _ => ?_)
    · exact h7
    · unfold State.putFlag
      refine Keeps.put rfl ?_
      exact h7
  clear_value v3
  have h21 : Keeps mask264 s v4 := by
    unfold v4
    unfold State.putFlag
    refine Keeps.put rfl ?_
    exact h15
  clear_value v4
  have h25 : Keeps mask264 s v6 := by
    unfold v6
    refine Keeps.step (State.notify_keeps ..) rfl ?_
    refine Keeps.step (State.powerRec_keeps ..) rfl ?_
    exact h21
  clear_value v6
  refine Keeps.ite (fun _ => ?_) (fun _ => ?_)
  · refine Keeps.step (State.powerSettle_keeps ..) rfl ?_
    refine Keeps.step (State.coreDead_keeps ..) rfl ?_
    exact h25
  · exact h7

theorem State.mainBack_keeps (s : State) :
    Keeps mask265 s (State.mainBack s) := by
  unfold State.mainBack
  unfold State.putFlag
  refine Keeps.put rfl ?_
  refine Keeps.put rfl ?_
  exact Keeps.refl _ _

theorem State.clockLost_keeps (s : State) {f : RField} (typ : Nat)
    (m : mask266.testBit (32 + f.id) = true := by rfl) :
    Keeps mask266 s (State.clockLost s f typ) := by
  unfold State.clockLost
  have h0 : Keeps mask266 s s := Keeps.refl _ _
  refine Keeps.ite (fun _ => h0) (fun _ => Keeps.ite (fun _ => Keeps.step (State.aonEv_keeps ..) rfl h0) (fun _ => ?_))
  extract_lets v1 v2 v3 v4
  have h5 : Keeps mask266 s v1 := Keeps.step (State.aonEv_keeps ..) rfl (Keeps.putFlag m h0)
  clear_value v1
  have h6 : Keeps mask266 s v4 :=
    Keeps.step (State.notify_keeps ..) rfl (Keeps.step (State.powerRec_keeps ..) rfl (Keeps.step (State.powerRec_keeps ..) rfl h5))
  clear_value v4
  exact Keeps.step (State.powerSettle_keeps ..) rfl (Keeps.step (State.coreDead_keeps ..) rfl h6)

theorem State.slowFail_keeps (s : State) :
    Keeps mask267 s (State.slowFail s) := by
  unfold State.slowFail
  refine Keeps.ite (fun _ => ?_) (fun _ => ?_)
  · exact Keeps.refl _ _
  · refine Keeps.step (State.powerRec_keeps ..) rfl ?_
    refine Keeps.step (State.aonEv_keeps ..) rfl ?_
    unfold State.putFlag
    refine Keeps.put rfl ?_
    extract_lets v7
    refine (Keeps.setPow _ rfl ?_)
    exact Keeps.refl _ _

theorem State.slowBack_keeps (s : State) :
    Keeps 0x1 s (State.slowBack s) := by
  unfold State.slowBack
  extract_lets v1
  refine (Keeps.setPow _ rfl ?_)
  exact Keeps.refl _ _

theorem State.xsFail_keeps (s : State) :
    Keeps mask268 s (State.xsFail s) := by
  unfold State.xsFail
  refine Keeps.ite (fun _ => ?_) (fun _ => ?_)
  · exact Keeps.refl _ _
  · extract_lets v1 v2 v3 v4
    have h5 : Keeps mask268 s v1 := by
      unfold v1
      refine Keeps.foldl _ ?_ (fun a6 b7 k8 => ?_)
      · exact Keeps.refl _ _
      · exact Keeps.step (State.noteLost_keeps ..) rfl k8
    clear_value v1
    have h9 : Keeps mask268 s v4 := by
      unfold v4
      exact Keeps.setMgt (s := { v1 with pow := { v1.pow with xsFail := true } }) { v1.mgt with txq := [], notes := [] } rfl
        (Keeps.setPow _ rfl h5)
    clear_value v4
    refine Keeps.step (State.powerRec_keeps ..) rfl ?_
    refine Keeps.step (State.aonEv_keeps ..) rfl ?_
    refine Keeps.putFlag rfl ?_
    exact h9

theorem State.xsBack_keeps (s : State) :
    Keeps 0x1 s (State.xsBack s) := by
  unfold State.xsBack
  extract_lets v1
  refine (Keeps.setPow _ rfl ?_)
  exact Keeps.refl _ _

theorem State.tgTrip_keeps (s : State) (g : Nat) (rail : Bool) :
    Keeps mask269 s (State.tgTrip s g rail) := by
  unfold State.tgTrip
  extract_lets v1 v2 v3 v4
  have h5 : Keeps mask269 s v2 := by
    unfold v2
    refine Keeps.ite (fun _ => ?_) (fun _ => ?_)
    · refine Keeps.putFlag rfl ?_
      exact Keeps.refl _ _
    · refine Keeps.putBitOf rfl ?_
      exact Keeps.refl _ _
  clear_value v2
  have h6 : Keeps mask269 s v3 := by
    unfold v3
    refine Keeps.step (State.aonEv_keeps ..) rfl ?_
    exact h5
  clear_value v3
  refine Keeps.ite (fun _ => ?_) (fun _ => ?_)
  · exact Keeps.refl _ _
  · refine Keeps.ite (fun _ => ?_) (fun _ => ?_)
    · refine Keeps.step (State.aonEv_keeps ..) rfl ?_
      exact Keeps.refl _ _
    · refine Keeps.step (State.powerSettle_keeps ..) rfl ?_
      refine Keeps.step (State.phaseSettle_keeps ..) rfl ?_
      refine Keeps.step (State.qualNext_keeps ..) rfl ?_
      refine Keeps.step (State.limitActs_keeps ..) rfl ?_
      refine Keeps.step (State.groupCut_keeps ..) rfl ?_
      refine Keeps.step (State.powerRec_keeps ..) rfl ?_
      exact h6

theorem State.coreTrip_keeps (s : State) (tj : Nat) :
    Keeps mask270 s (State.coreTrip s tj) := by
  unfold State.coreTrip
  refine Keeps.ite (fun _ => ?_) (fun _ => ?_)
  · exact Keeps.refl _ _
  · extract_lets v1 v2 v3 v4 v5 v6 v7
    have h8 : Keeps mask270 s v1 := by
      unfold v1
      refine Keeps.putFlag rfl ?_
      refine Keeps.put rfl ?_
      exact Keeps.refl _ _
    clear_value v1
    have h9 : Keeps mask270 s v2 := by
      unfold v2
      refine Keeps.step (State.aonEv_keeps ..) rfl ?_
      exact h8
    clear_value v2
    have h10 : Keeps mask270 s v4 := by
      unfold v4
      refine Keeps.step (State.powerRec_keeps ..) rfl ?_
      exact h9
    clear_value v4
    have h11 : Keeps mask270 s v7 := by
      unfold v7
      exact Keeps.setQual (s := { v4 with pow := { v4.pow with hold := true } }) { v4.qual with done := false } rfl
        (Keeps.setPow _ rfl h10)
    clear_value v7
    refine Keeps.step (State.coreShutdown_keeps ..) rfl ?_
    refine Keeps.step (State.limitActs_keeps ..) rfl ?_
    refine Keeps.put rfl ?_
    exact h11

theorem State.diodes_keeps (s : State) (ts : List Int) :
    Keeps mask271 s (State.diodes s ts) := by
  unfold State.diodes
  extract_lets v1 v2 v3
  have h4 : Keeps mask271 s v2 := by
    unfold v2
    refine Keeps.ite (fun _ => ?_) (fun _ => ?_)
    · refine Keeps.put rfl ?_
      exact Keeps.refl _ _
    · exact Keeps.refl _ _
  clear_value v2
  refine Keeps.ite (fun _ => ?_) (fun _ => ?_)
  · refine Keeps.step (State.powerSettle_keeps ..) rfl ?_
    refine (Keeps.setPow _ rfl ?_)
    exact h4
  · exact h4

theorem State.stoOff_keeps (s : State) (mask : Nat) :
    Keeps mask272 s (State.stoOff s mask) := by
  unfold State.stoOff
  refine Keeps.foldl _ ?_ (fun a1 b2 k3 => ?_)
  · exact Keeps.refl _ _
  · unfold State.putBitOf
    refine Keeps.put rfl ?_
    refine Keeps.put rfl ?_
    extract_lets v9
    refine (Keeps.setRnd _ rfl ?_)
    exact k3

theorem State.outputsOff_keeps (s : State) (cause : Nat) (fid : Nat) :
    Keeps mask273 s (State.outputsOff s cause fid) := by
  unfold State.outputsOff
  extract_lets v1 v2
  have h3 : Keeps mask273 s v1 := by
    unfold v1
    refine Keeps.step (State.lswShadow_keeps ..) rfl ?_
    refine Keeps.step (State.fieldOff_keeps ..) rfl ?_
    exact Keeps.refl _ _
  clear_value v1
  have h7 : Keeps mask273 s v2 := by
    unfold v2
    refine Keeps.step (State.setInhibit_keeps ..) rfl ?_
    refine Keeps.step (State.stoOff_keeps ..) rfl ?_
    refine Keeps.step (State.coilsLost_keeps ..) rfl ?_
    exact h3
  clear_value v2
  refine Keeps.put rfl ?_
  refine Keeps.step (State.lenSettle_keeps ..) rfl ?_
  exact h7

theorem State.supTrip_keeps (s : State) (tj : Nat) :
    Keeps mask274 s (State.supTrip s tj) := by
  unfold State.supTrip
  extract_lets v1 v2 v3 v4 v5 v6
  have h7 : Keeps mask274 s v1 := by
    unfold v1
    refine Keeps.put rfl ?_
    exact Keeps.refl _ _
  clear_value v1
  have h8 : Keeps mask274 s v2 := by
    unfold v2
    refine Keeps.step (State.aonEv_keeps ..) rfl ?_
    refine Keeps.putFlag rfl ?_
    exact h7
  clear_value v2
  have h9 : Keeps mask274 s v4 := by
    unfold v4
    refine Keeps.step (State.powerRec_keeps ..) rfl ?_
    exact h8
  clear_value v4
  have h10 : Keeps mask274 s v6 := by
    unfold v6
    refine (Keeps.setPow _ rfl ?_)
    exact h9
  clear_value v6
  refine Keeps.ite (fun _ => ?_) (fun _ => ?_)
  · exact h7
  · refine Keeps.ite (fun _ => ?_) (fun _ => ?_)
    · exact h10
    · refine Keeps.step (State.coreShutdown_keeps ..) rfl ?_
      refine Keeps.step (State.limitActs_keeps ..) rfl ?_
      refine Keeps.putFlag rfl ?_
      refine Keeps.step (State.outputsOff_keeps ..) rfl ?_
      exact h10

theorem State.supRelease_keeps (s : State) (tj : Nat) :
    Keeps mask275 s (State.supRelease s tj) := by
  unfold State.supRelease
  extract_lets v1 v2 v3 v4
  have h5 : Keeps mask275 s v1 := by
    unfold v1
    refine Keeps.put rfl ?_
    exact Keeps.refl _ _
  clear_value v1
  have h6 : Keeps mask275 s v3 := by
    unfold v3
    refine (Keeps.setPow _ rfl ?_)
    exact h5
  clear_value v3
  have h7 : Keeps mask275 s v4 := by
    unfold v4
    refine Keeps.step (State.setInhibit_keeps ..) rfl ?_
    refine Keeps.step (State.fieldOff_keeps ..) rfl ?_
    exact h6
  clear_value v4
  refine Keeps.ite (fun _ => ?_) (fun _ => ?_)
  · refine Keeps.ite (fun _ => ?_) (fun _ => ?_)
    · exact h6
    · refine Keeps.step (State.lenSettle_keeps ..) rfl ?_
      refine Keeps.putFlag rfl ?_
      refine Keeps.put rfl ?_
      exact h7
  · exact h5

end Sys2Proof.Machine
end

