-- ==== Sys2Proof/Laws/KeepsFrames.lean ====
section
/-! SUPPORT. The frame of every function of Machine/Frames.lean: what it may change, and that it keeps the canonical forms and
the waiting commands. -/
namespace Sys2Proof.Machine

set_option Elab.async false

theorem State.repliesLeave_keeps (s : State) :
    Keeps 0x4000040 s (State.repliesLeave s) := by
  unfold State.repliesLeave
  refine (Keeps.setMgt _ rfl ?_)
  exact Keeps.refl _ _

theorem State.mailLeaves_keeps (s : State) :
    Keeps 0x4000040 s (State.mailLeaves s) := by
  unfold State.mailLeaves
  refine (Keeps.setMgt _ rfl ?_)
  exact Keeps.refl _ _

end Sys2Proof.Machine
end

