-- ==== Sys2Proof/Laws/KeepsWire.lean ====
section
/-! SUPPORT. The frame of every function of Machine/Wire.lean: what it may change, and that it keeps the canonical forms and
the waiting commands. -/
namespace Sys2Proof.Machine

set_option Elab.async false

theorem State.takeBlocks_keeps (s : State) (k : Nat) (w : Nat) :
    Keeps 0x100 s (State.takeBlocks s k w).2 := by
  unfold State.takeBlocks
  extract_lets v1 v2 v3 v4
  dsimp only
  refine Keeps.step (State.setPort_keeps ..) rfl ?_
  exact Keeps.refl _ _

theorem State.sendBlock_keeps (s : State) (k : Nat) (n : Nat) (l : Nat) (w : Nat) :
    Keeps 0x20000000 s (State.sendBlock s k n l w) := by
  unfold State.sendBlock
  extract_lets v1
  refine Keeps.step (State.setLine_keeps ..) rfl ?_
  exact Keeps.refl _ _

theorem State.sendBlocks_keeps (s : State) (k : Nat) (ws : List Nat) :
    Keeps 0x20000000 s (State.sendBlocks s k ws) := by
  unfold State.sendBlocks
  extract_lets v1 v2 v3
  have h4 : Keeps 0x20000000 s v3 := by
    unfold v3
    refine Keeps.foldl _ ?_ (fun a5 b6 k7 => ?_)
    · exact Keeps.refl _ _
    · refine Keeps.step (State.sendBlock_keeps ..) rfl ?_
      exact k7
  clear_value v3
  split
  · rename_i y8 y9 y10
    refine Keeps.step (State.sendBlock_keeps ..) rfl ?_
    exact h4
  · rename_i y11 y12
    exact h4

theorem State.txTime_keeps (s : State) (k : Nat) :
    Keeps 0x20000100 s (State.txTime s k) := by
  unfold State.txTime
  extract_lets v1 v2
  have h3 : Keeps 0x20000100 s v2.2 := by
    unfold v2
    refine Keeps.step (State.takeBlocks_keeps ..) rfl ?_
    exact Keeps.refl _ _
  clear_value v2
  refine Keeps.ite (fun _ => ?_) (fun _ => ?_)
  · refine Keeps.step (State.sendBlocks_keeps ..) rfl ?_
    exact Keeps.refl _ _
  · refine Keeps.step (State.sendBlocks_keeps ..) rfl ?_
    exact h3

theorem State.probeTime_keeps (s : State) (k : Nat) :
    Keeps 0x20000000 s (State.probeTime s k) := by
  unfold State.probeTime
  refine Keeps.foldl _ ?_ (fun a1 b2 k3 => ?_)
  · exact Keeps.refl _ _
  · refine Keeps.ite (fun _ => ?_) (fun _ => ?_)
    · exact k3
    · refine Keeps.step (State.sendBlock_keeps ..) rfl ?_
      exact k3

theorem State.flitEnd_keeps (f : Nat) (s : State) (k : Nat) : Keeps 0x20000100 s (State.flitEnd f s k) := by
  induction f generalizing s with
  | zero => exact Keeps.refl _ _
  | succ f ih =>
    have h0 : Keeps 0x20000100 s s := Keeps.refl _ _
    rw [State.flitEnd.eq_2]
    exact Keeps.ite (fun _ => h0) fun _ =>
      Keeps.step (ih _) rfl (Keeps.step (State.sendBlocks_keeps ..) rfl (Keeps.step (State.setPort_keeps ..) rfl h0))

theorem State.flitOut_keeps (f : Nat) (s : State) (k : Nat) : Keeps 0x20000100 s (State.flitOut f s k) := by
  induction f generalizing s with
  | zero => exact Keeps.refl _ _
  | succ f ih =>
    have h0 : Keeps 0x20000100 s s := Keeps.refl _ _
    rw [State.flitOut.eq_2]
    exact Keeps.ite (fun _ => h0) fun _ => Keeps.ite (fun _ => Keeps.step (State.txTime_keeps ..) rfl h0) fun _ =>
      Keeps.step (ih _) rfl (Keeps.step (State.txTime_keeps ..) rfl h0)

end Sys2Proof.Machine
end

