-- ==== Sys2Proof/Laws/KeepsLanes.lean ====
section
/-! SUPPORT. The frame of every function of Machine/Lanes.lean: what it may change, and that it keeps the canonical forms and
the waiting commands. -/
namespace Sys2Proof.Machine

set_option Elab.async false

theorem State.lmClear_keeps (s : State) (k : Nat) :
    Keeps 0x100 s (State.lmClear s k) := by
  unfold State.lmClear
  extract_lets v1
  refine Keeps.step (State.setPort_keeps ..) rfl ?_
  exact Keeps.refl _ _

theorem State.enterLoop_keeps (s : State) (k : Nat) :
    Keeps mask147 s (State.enterLoop s k) := by
  unfold State.enterLoop
  extract_lets v1 v2 v3 v4 v5 v6
  have h7 : Keeps mask147 s v2 := by
    unfold v2
    refine Keeps.put rfl ?_
    refine Keeps.step (State.setPort_keeps ..) rfl ?_
    exact Keeps.refl _ _
  clear_value v2
  have h8 : Keeps mask147 s v3 := by
    unfold v3
    refine Keeps.foldl _ ?_ (fun a9 b10 k11 => ?_)
    · exact h7
    · refine Keeps.put rfl ?_
      exact k11
  clear_value v3
  have h12 : Keeps mask147 s v4 := by
    unfold v4
    refine Keeps.step (State.rotShow_keeps ..) rfl ?_
    refine Keeps.put rfl ?_
    refine Keeps.put rfl ?_
    exact h8
  clear_value v4
  have h13 : Keeps mask147 s v5 := by
    unfold v5
    refine Keeps.ite (fun _ => ?_) (fun _ => ?_)
    · refine Keeps.putFlag rfl ?_
      exact h12
    · exact h12
  clear_value v5
  have h14 : Keeps mask147 s v6 := by
    unfold v6
    refine Keeps.foldl _ ?_ (fun a15 b16 k17 => ?_)
    · exact h13
    · extract_lets v18 v19 v20
      refine Keeps.step (State.setLine_keeps ..) rfl ?_
      refine Keeps.step (State.setLine_keeps ..) rfl ?_
      exact k17
  clear_value v6
  refine State.withSvc_keeps rfl ?_ ?_
  · refine Keeps.step (State.ringsSettle_keeps ..) rfl ?_
    exact h14
  · intro x21
    intro x22
    refine Keeps.ite (fun _ => ?_) (fun _ => ?_)
    · refine Keeps.putBitOf rfl ?_
      exact x22
    · exact x22

theorem State.loopAsk_keeps (s : State) (k : Nat) :
    Keeps mask148 s (State.loopAsk s k) := by
  unfold State.loopAsk
  split
  rename_i y1 y2 y3 y4
  have h5 : Keeps mask148 s y3 := by
    refine Keeps.sndOf y4 ?_
    refine Keeps.step (State.newTxid_keeps ..) rfl ?_
    exact Keeps.refl _ _
  refine Keeps.step (State.lm_keeps ..) rfl ?_
  unfold State.putFlag
  refine Keeps.put rfl ?_
  extract_lets v12
  refine Keeps.step (State.setPort_keeps ..) rfl ?_
  exact h5

theorem State.loopReqChanged_keeps (s : State) (k : Nat) :
    Keeps mask149 s (State.loopReqChanged s k) := by
  unfold State.loopReqChanged
  extract_lets v1 v2
  refine Keeps.ite (fun _ => ?_) (fun _ => ?_)
  · refine Keeps.ite (fun _ => ?_) (fun _ => ?_)
    · refine Keeps.step (State.enterAcquire_keeps ..) rfl ?_
      exact Keeps.refl _ _
    · refine Keeps.step (State.setPort_keeps ..) rfl ?_
      exact Keeps.refl _ _
  · refine Keeps.ite (fun _ => ?_) (fun _ => ?_)
    · refine Keeps.ite (fun _ => ?_) (fun _ => ?_)
      · refine Keeps.step (State.loopAsk_keeps ..) rfl ?_
        exact Keeps.refl _ _
      · refine Keeps.step (State.enterLoop_keeps ..) rfl ?_
        exact Keeps.refl _ _
    · exact Keeps.refl _ _

theorem State.gotLoopAck_keeps (s : State) (k : Nat) (txid : Nat) :
    Keeps mask147 s (State.gotLoopAck s k txid) := by
  unfold State.gotLoopAck
  split
  · rename_i y1 y2 y3
    refine Keeps.ite (fun _ => ?_) (fun _ => ?_)
    · refine Keeps.step (State.enterLoop_keeps ..) rfl ?_
      exact Keeps.refl _ _
    · exact Keeps.refl _ _
  · rename_i y8 y9
    exact Keeps.refl _ _

theorem State.loopStanding_keeps (s : State) (k : Nat) :
    Keeps mask149 s (State.loopStanding s k) := by
  unfold State.loopStanding
  refine Keeps.ite (fun _ => ?_) (fun _ => ?_)
  · exact Keeps.refl _ _
  · refine Keeps.step (State.loopReqChanged_keeps ..) rfl ?_
    exact Keeps.refl _ _

theorem State.tryUp_keeps (s : State) (k : Nat) :
    Keeps mask150 s (State.tryUp s k) := by
  unfold State.tryUp
  extract_lets v1
  refine Keeps.ite (fun _ => ?_) (fun _ => ?_)
  · refine Keeps.step (State.loopStanding_keeps ..) rfl ?_
    refine Keeps.step (State.enterUp_keeps ..) rfl ?_
    exact Keeps.refl _ _
  · exact Keeps.refl _ _

theorem State.gotInit_keeps (s : State) (k : Nat) (m : InitMsg) :
    Keeps mask151 s (State.gotInit s k m) := by
  unfold State.gotInit
  refine Keeps.ite (fun _ => ?_) (fun _ => ?_)
  · extract_lets v2 v3
    have h4 : Keeps mask151 s v2 := by
      unfold v2
      refine Keeps.put rfl ?_
      refine Keeps.put rfl ?_
      exact Keeps.refl _ _
    clear_value v2
    refine Keeps.ite (fun _ => ?_) (fun _ => ?_)
    · refine Keeps.step (State.tryUp_keeps ..) rfl ?_
      refine Keeps.step (State.setPort_keeps ..) rfl ?_
      exact h4
    · refine Keeps.step (State.protoErr_keeps ..) rfl ?_
      exact Keeps.refl _ _
  · exact Keeps.refl _ _

theorem State.sendInit_keeps (s0 : State) (k : Nat) :
    Keeps mask150 s0 (State.sendInit s0 k) := by
  unfold State.sendInit
  extract_lets v1 v2 v3 v4
  have h5 : Keeps mask150 s0 v1 := by
    unfold v1
    refine Keeps.step (State.tryDeskew_keeps ..) rfl ?_
    exact Keeps.refl _ _
  clear_value v1
  have h6 : Keeps mask150 s0 v3 := by
    unfold v3
    refine Keeps.step (State.lm_keeps ..) rfl ?_
    exact h5
  clear_value v3
  refine Keeps.ite (fun _ => ?_) (fun _ => ?_)
  · refine Keeps.step (State.tryUp_keeps ..) rfl ?_
    refine Keeps.step (State.setPort_keeps ..) rfl ?_
    exact h6
  · exact h5

theorem State.gotWidthReq_keeps (s : State) (k : Nat) (txid : Nat) (mask : Nat) (sent : Nat) :
    Keeps 0x20000100 s (State.gotWidthReq s k txid mask sent) := by
  unfold State.gotWidthReq
  refine Keeps.ite (fun _ => ?_) (fun _ => ?_)
  · extract_lets v1 v2 v3 v4
    have h5 : Keeps 0x20000100 s v3 := by
      unfold v3
      refine Keeps.step (State.markPassed_keeps ..) rfl ?_
      exact Keeps.refl _ _
    clear_value v3
    refine Keeps.step (State.lm_keeps ..) rfl ?_
    refine Keeps.step (State.setPort_keeps ..) rfl ?_
    exact h5
  · exact Keeps.refl _ _

theorem State.gotWidthAck_keeps (s : State) (k : Nat) (txid : Nat) (mask : Nat) (m : Nat) :
    Keeps 0x100 s (State.gotWidthAck s k txid mask m) := by
  unfold State.gotWidthAck
  extract_lets v1
  split
  · rename_i y3 y4 y5
    refine Keeps.ite (fun _ => ?_) (fun _ => ?_)
    · refine Keeps.step (State.setPort_keeps ..) rfl ?_
      exact Keeps.refl _ _
    · exact Keeps.refl _ _
  · rename_i y10 y11
    exact Keeps.refl _ _

theorem State.failRemap_keeps (s : State) (k : Nat) (skip : Option Nat) :
    Keeps mask41 s (State.failRemap s k skip) := by
  unfold State.failRemap
  refine Keeps.ite (fun _ => ?_) (fun _ => ?_)
  · extract_lets v1
    split
    · rename_i y2 y3 y4 y5 y6 y7 y8 y9 y10
      refine Keeps.step (State.remapOpen_keeps ..) rfl ?_
      exact Keeps.refl _ _
    · rename_i y11 y12 y13 y14
      exact Keeps.refl _ _
  · exact Keeps.refl _ _

theorem State.adaptEnd_keeps (s : State) (k : Nat) :
    Keeps 0x20000000 s (State.adaptEnd s k) := by
  unfold State.adaptEnd
  refine Keeps.foldl _ ?_ (fun a1 b2 k3 => ?_)
  · exact Keeps.refl _ _
  · refine Keeps.step (State.setLine_keeps ..) rfl ?_
    exact k3

theorem State.widthSwitched_keeps (s : State) (k : Nat) (rx : Bool) :
    Keeps mask152 s (State.widthSwitched s k rx) := by
  unfold State.widthSwitched
  extract_lets v1 v2 v3 v4 v5 v6
  have h7 : Keeps mask152 s v4 := by
    unfold v4
    refine Keeps.step (State.setsKeep_keeps ..) rfl ?_
    exact Keeps.refl _ _
  clear_value v4
  have h8 : Keeps mask152 s v6 := by
    unfold v6
    refine Keeps.step (State.setPort_keeps ..) rfl ?_
    exact h7
  clear_value v6
  split
  · rename_i y9 y10 y11
    refine Keeps.ite (fun _ => ?_) (fun _ => ?_)
    · extract_lets v12 v13 v14 v15
      have h16 : Keeps mask152 s v13 := by
        unfold v13
        refine Keeps.step (State.markPassed_keeps ..) rfl ?_
        exact h8
      clear_value v13
      have h17 : Keeps mask152 s v14 := by
        unfold v14
        refine Keeps.step (State.ringsSettle_keeps ..) rfl ?_
        refine Keeps.step (State.applyWidth_keeps ..) rfl ?_
        refine Keeps.ite (fun _ => ?_) (fun _ => ?_)
        · exact h16
        · refine Keeps.step (State.flitEnd_keeps ..) rfl ?_
          exact h16
      clear_value v14
      have h18 : Keeps mask152 s v15 := by
        unfold v15
        refine Keeps.ite (fun _ => ?_) (fun _ => ?_)
        · refine Keeps.step (State.remapAbortOwn_keeps ..) rfl ?_
          exact h17
        · exact h17
      clear_value v15
      refine Keeps.ite (fun _ => ?_) (fun _ => ?_)
      · refine Keeps.step (State.widthFollow_keeps ..) rfl ?_
        refine Keeps.step (State.adaptEnd_keeps ..) rfl ?_
        exact h18
      · refine Keeps.step (State.failRemap_keeps ..) rfl ?_
        exact h18
    · exact Keeps.refl _ _
  · rename_i y19 y20
    exact Keeps.refl _ _

theorem State.tryRdy_keeps (s : State) (k : Nat) :
    Keeps 0x100 s (State.tryRdy s k) := by
  unfold State.tryRdy
  extract_lets v1
  split
  · rename_i y3 y4 y5
    refine Keeps.ite (fun _ => ?_) (fun _ => ?_)
    · refine Keeps.step (State.lm_keeps ..) rfl ?_
      refine Keeps.step (State.setPort_keeps ..) rfl ?_
      exact Keeps.refl _ _
    · exact Keeps.refl _ _
  · rename_i y11 y12
    exact Keeps.refl _ _

theorem State.gotRemapReq_keeps (s : State) (k : Nat) (txid : Nat) (theyReceive : Bool) (fail : Bool) (l : Nat) (b : Nat) :
    Keeps mask153 s (State.gotRemapReq s k txid theyReceive fail l b) := by
  unfold State.gotRemapReq
  refine Keeps.ite (fun _ => ?_) (fun _ => ?_)
  · extract_lets v1
    refine Keeps.ite (fun _ => ?_) (fun _ => ?_)
    · refine Keeps.ite (fun _ => ?_) (fun _ => ?_)
      · exact Keeps.refl _ _
      · refine Keeps.ite (fun _ => ?_) (fun _ => ?_)
        · refine Keeps.step (State.remapStart_keeps ..) rfl ?_
          refine Keeps.step (State.setPort_keeps ..) rfl ?_
          exact Keeps.refl _ _
        · refine Keeps.step (State.lm_keeps ..) rfl ?_
          exact Keeps.refl _ _
    · refine Keeps.ite (fun _ => ?_) (fun _ => ?_)
      · exact Keeps.refl _ _
      · refine Keeps.ite (fun _ => ?_) (fun _ => ?_)
        · refine Keeps.step (State.remapStart_keeps ..) rfl ?_
          refine Keeps.step (State.setPort_keeps ..) rfl ?_
          exact Keeps.refl _ _
        · refine Keeps.step (State.lm_keeps ..) rfl ?_
          exact Keeps.refl _ _
  · exact Keeps.refl _ _

theorem State.gotRemapRdy_keeps (s : State) (k : Nat) (txid : Nat) (l : Nat) (b : Nat) (sent : Nat) :
    Keeps 0x20000300 s (State.gotRemapRdy s k txid l b sent) := by
  unfold State.gotRemapRdy
  extract_lets v1 v2 v3 v4
  have h5 : Keeps 0x20000300 s v4 := by
    unfold v4
    refine Keeps.step (State.setRing_keeps ..) rfl ?_
    exact Keeps.refl _ _
  clear_value v4
  split
  · rename_i y6 y7 y8
    refine Keeps.ite (fun _ => ?_) (fun _ => ?_)
    · refine Keeps.step (State.lm_keeps ..) rfl ?_
      refine Keeps.step (State.setPort_keeps ..) rfl ?_
      refine Keeps.step (State.markPassed_keeps ..) rfl ?_
      exact h5
    · exact Keeps.refl _ _
  · rename_i y9 y10
    exact Keeps.refl _ _

theorem State.gotRemapSw_keeps (s : State) (k : Nat) (txid : Nat) (l : Nat) (b : Nat) (m : Nat) :
    Keeps 0x100 s (State.gotRemapSw s k txid l b m) := by
  unfold State.gotRemapSw
  extract_lets v1
  split
  · rename_i y3 y4 y5
    refine Keeps.ite (fun _ => ?_) (fun _ => ?_)
    · refine Keeps.step (State.setPort_keeps ..) rfl ?_
      exact Keeps.refl _ _
    · exact Keeps.refl _ _
  · rename_i y10 y11
    exact Keeps.refl _ _

theorem State.remapSwitched_keeps (s : State) (k : Nat) (rx : Bool) :
    Keeps mask154 s (State.remapSwitched s k rx) := by
  unfold State.remapSwitched
  extract_lets v1
  split
  · rename_i y2 y3 y4
    refine Keeps.ite (fun _ => ?_) (fun _ => ?_)
    · refine Keeps.ite (fun _ => ?_) (fun _ => ?_)
      · refine Keeps.step (State.widthSwitched_keeps ..) rfl ?_
        exact Keeps.refl _ _
      · extract_lets v5 v6 v7 v8 v9 v10 v11 v12 v13
        have h14 : Keeps mask154 s v6 := by
          unfold v6
          refine Keeps.step (State.markPassed_keeps ..) rfl ?_
          refine Keeps.step (State.setsKeep_keeps ..) rfl ?_
          exact Keeps.refl _ _
        clear_value v6
        have h15 : Keeps mask154 s v7 := by
          unfold v7
          refine Keeps.ite (fun _ => ?_) (fun _ => ?_)
          · exact h14
          · refine Keeps.step (State.flitOut_keeps ..) rfl ?_
            exact h14
        clear_value v7
        have h16 : Keeps mask154 s v9 := by
          unfold v9
          refine Keeps.step (State.calStop_keeps ..) rfl ?_
          refine Keeps.step (State.setMap_keeps ..) rfl ?_
          refine Keeps.step (State.setPort_keeps ..) rfl ?_
          exact h15
        clear_value v9
        have h17 : Keeps mask154 s v11 := by
          unfold v11
          refine Keeps.ite (fun _ => ?_) (fun _ => ?_)
          · refine Keeps.step (State.ringsSettle_keeps ..) rfl ?_
            refine Keeps.step (State.setPort_keeps ..) rfl ?_
            exact h16
          · refine Keeps.step (State.switchRings_keeps ..) rfl ?_
            exact h16
        clear_value v11
        have h18 : Keeps mask154 s v12 := by
          unfold v12
          refine Keeps.step (State.calShow_keeps ..) rfl ?_
          refine Keeps.step (State.rotShow_keeps ..) rfl ?_
          exact h17
        clear_value v12
        have h19 : Keeps mask154 s v13 := by
          unfold v13
          refine Keeps.ite (fun _ => ?_) (fun _ => ?_)
          · refine Keeps.count rfl ?_
            exact h18
          · exact h18
        clear_value v13
        refine Keeps.ite (fun _ => ?_) (fun _ => ?_)
        · refine Keeps.step (State.widenIfReady_keeps ..) rfl ?_
          refine Keeps.step (State.adaptEnd_keeps ..) rfl ?_
          exact h19
        · refine Keeps.step (State.failRemap_keeps ..) rfl ?_
          exact h19
    · exact Keeps.refl _ _
  · rename_i y20 y21
    exact Keeps.refl _ _

theorem State.gotRemapAbort_keeps (s : State) (k : Nat) (txid : Nat) (l : Nat) :
    Keeps mask41 s (State.gotRemapAbort s k txid l) := by
  unfold State.gotRemapAbort
  extract_lets v1 v2
  refine Keeps.ite (fun _ => ?_) (fun _ => ?_)
  · refine Keeps.step (State.failRemap_keeps ..) rfl ?_
    refine Keeps.step (State.ringsSettle_keeps ..) rfl ?_
    refine Keeps.step (State.rotShow_keeps ..) rfl ?_
    refine Keeps.step (State.setPort_keeps ..) rfl ?_
    exact Keeps.refl _ _
  · refine Keeps.ite (fun _ => ?_) (fun _ => ?_)
    · refine Keeps.step (State.ringsSettle_keeps ..) rfl ?_
      refine Keeps.step (State.rotShow_keeps ..) rfl ?_
      refine Keeps.step (State.setPort_keeps ..) rfl ?_
      exact Keeps.refl _ _
    · exact Keeps.refl _ _

theorem State.lnkCtlActs_keeps (s0 : State) (s : State) (k : Nat) (retrain : Bool) :
    Keeps mask155 s (State.lnkCtlActs s0 s k retrain) := by
  unfold State.lnkCtlActs
  extract_lets v1 v2 v3
  have h4 : Keeps mask155 s v1 := by
    unfold v1
    refine Keeps.ite (fun _ => ?_) (fun _ => ?_)
    · refine Keeps.step (State.comeUp_keeps ..) rfl ?_
      exact Keeps.refl _ _
    · refine Keeps.step (State.enterDown_keeps ..) rfl ?_
      exact Keeps.refl _ _
  clear_value v1
  have h5 : Keeps mask155 s v2 := by
    unfold v2
    refine Keeps.ite (fun _ => ?_) (fun _ => ?_)
    · refine Keeps.step (State.retrainOwn_keeps ..) rfl ?_
      exact h4
    · exact h4
  clear_value v2
  refine Keeps.ite (fun _ => ?_) (fun _ => ?_)
  · exact h5
  · refine Keeps.step (State.loopReqChanged_keeps ..) rfl ?_
    exact h5

theorem State.txeqActs_keeps (s : State) (k : Nat) :
    Keeps mask156 s (State.txeqActs s k) := by
  unfold State.txeqActs
  extract_lets v1 v2 v3
  have h4 : Keeps mask156 s v1 := by
    unfold v1
    refine Keeps.put rfl ?_
    exact Keeps.refl _ _
  clear_value v1
  have h7 : Keeps mask156 s v2 := by
    unfold v2
    refine Keeps.put rfl ?_
    exact h4
  clear_value v2
  refine Keeps.step (State.setPort_keeps ..) rfl ?_
  exact h7

theorem State.sscActs_keeps (s : State) (k : Nat) :
    Keeps mask157 s (State.sscActs s k) := by
  unfold State.sscActs
  extract_lets v1 v2
  have h3 : Keeps mask157 s v1 := by
    unfold v1
    refine Keeps.put rfl ?_
    refine Keeps.put rfl ?_
    exact Keeps.refl _ _
  clear_value v1
  refine Keeps.ite (fun _ => ?_) (fun _ => ?_)
  · refine Keeps.step (State.setPort_keeps ..) rfl ?_
    exact h3
  · unfold State.putFlag
    refine Keeps.put rfl ?_
    exact h3

theorem State.dfeResetActs_keeps (s : State) (k : Nat) :
    Keeps mask13 s (State.dfeResetActs s k) := by
  unfold State.dfeResetActs
  refine Keeps.foldl _ ?_ (fun a1 b2 k3 => ?_)
  · exact Keeps.refl _ _
  · refine Keeps.ite (fun _ => ?_) (fun _ => ?_)
    · refine Keeps.step (State.dfeZero_keeps ..) rfl ?_
      exact k3
    · exact k3

theorem State.rxctlActs_keeps (s0 : State) (s : State) (k : Nat) (reset : Bool) :
    Keeps mask158 s (State.rxctlActs s0 s k reset) := by
  unfold State.rxctlActs
  extract_lets v1
  have h2 : Keeps mask158 s v1 := by
    unfold v1
    refine Keeps.ite (fun _ => ?_) (fun _ => ?_)
    · refine Keeps.step (State.adaptEnd_keeps ..) rfl ?_
      exact Keeps.refl _ _
    · exact Keeps.refl _ _
  clear_value v1
  refine Keeps.ite (fun _ => ?_) (fun _ => ?_)
  · refine Keeps.step (State.dfeResetActs_keeps ..) rfl ?_
    exact h2
  · exact h2

theorem State.dfeAdapt_keeps (s : State) (k : Nat) (n : Nat) :
    Keeps mask159 s (State.dfeAdapt s k n) := by
  unfold State.dfeAdapt
  extract_lets v1 v2 v3 v4
  have h5 : Keeps mask159 s v2 := by
    unfold v2
    dsimp only [v1]
    refine Keeps.put rfl ?_
    refine Keeps.step (State.free_keeps ..) rfl ?_
    refine Keeps.put rfl ?_
    refine Keeps.step (State.free_keeps ..) rfl ?_
    exact Keeps.refl _ _
  clear_value v2
  have h6 : Keeps mask159 s v3 := by
    unfold v3
    refine Keeps.ite (fun _ => ?_) (fun _ => ?_)
    · exact h5
    · dsimp only [v1]
      refine Keeps.put rfl ?_
      refine Keeps.step (State.free_keeps ..) rfl ?_
      refine Keeps.put rfl ?_
      refine Keeps.step (State.free_keeps ..) rfl ?_
      refine Keeps.put rfl ?_
      refine Keeps.step (State.free_keeps ..) rfl ?_
      exact h5
  clear_value v3
  refine Keeps.step (State.setLine_keeps ..) rfl ?_
  exact h6

/-- The taps of a lane are five fields. -/
theorem tapField_in {M : Nat} (m : ([F.LNK_DFE_H1, F.LNK_DFE_H2, F.LNK_DFE_H3, F.LNK_DFE_H4, F.LNK_DFE_H5].all fun f =>
    M.testBit (32 + f.id)) = true) (j : Nat) : M.testBit (32 + (tapField j).id) = true := by
  simp only [List.all_cons, List.all_nil, Bool.and_true, Bool.and_eq_true] at m
  obtain ⟨m1, m2, m3, m4, m5⟩ := m
  rcases j with _ | _ | _ | _ | _ | j
  exacts [m1, m2, m3, m4, m5, m1]

theorem State.dfeSaturated_keeps (s : State) (k : Nat) (n : Nat) (j : Nat) :
    Keeps mask160 s (State.dfeSaturated s k n j) := by
  unfold State.dfeSaturated
  refine Keeps.ite (fun _ => ?_) (fun _ => ?_)
  · extract_lets v1 v2
    refine Keeps.ite (fun _ => ?_) (fun _ => ?_)
    · refine Keeps.ite (fun _ => ?_) (fun _ => ?_)
      · refine Keeps.putBitOf rfl ?_
        exact Keeps.refl _ _
      · exact Keeps.refl _ _
    · split
      · rename_i y3 y4 y5 y6 y7 y8
        refine Keeps.putBitOf rfl ?_
        refine Keeps.put (tapField_in rfl _) ?_
        refine Keeps.sndOf y8 ?_
        refine Keeps.step (State.free_keeps ..) rfl ?_
        exact Keeps.refl _ _
  · exact Keeps.refl _ _

theorem State.laneEv_keeps (s : State) (k : Nat) (n : Nat) (los : Bool) :
    Keeps mask29 s (State.laneEv s k n los) := by
  unfold State.laneEv
  split
  · rename_i y1 y2 y3
    refine Keeps.ite (fun _ => ?_) (fun _ => ?_)
    · refine Keeps.ite (fun _ => ?_) (fun _ => ?_)
      · refine Keeps.step (State.pyuEv_keeps ..) rfl ?_
        exact Keeps.refl _ _
      · refine Keeps.step (State.event_keeps ..) rfl ?_
        exact Keeps.refl _ _
    · exact Keeps.refl _ _
  · rename_i y11 y12
    exact Keeps.refl _ _

theorem State.laneGone_keeps (s : State) (k : Nat) (n : Nat) :
    Keeps mask25 s (State.laneGone s k n) := by
  unfold State.laneGone
  extract_lets v1 v2
  have h3 : Keeps mask25 s v2 := by
    unfold v2
    split
    · rename_i y5 y6 y7
      refine Keeps.ite (fun _ => ?_) (fun _ => ?_)
      · refine Keeps.step (State.remapAbortOwn_keeps ..) rfl ?_
        exact Keeps.refl _ _
      · exact Keeps.refl _ _
    · rename_i y12 y13
      exact Keeps.refl _ _
  clear_value v2
  split
  · rename_i y16 y17 y18
    refine Keeps.step (State.laneFailed_keeps ..) rfl ?_
    exact h3
  · rename_i y21 y22
    exact h3

theorem State.laneLos_keeps (s : State) (k : Nat) (n : Nat) :
    Keeps mask161 s (State.laneLos s k n) := by
  unfold State.laneLos
  extract_lets v1
  have h2 : Keeps mask161 s v1 := by
    unfold v1
    refine Keeps.count rfl ?_
    refine Keeps.putBitOf rfl ?_
    exact Keeps.refl _ _
  clear_value v1
  refine Keeps.ite (fun _ => ?_) (fun _ => ?_)
  · refine Keeps.ite (fun _ => ?_) (fun _ => ?_)
    · exact Keeps.refl _ _
    · refine Keeps.putFlag rfl ?_
      exact h2
  · refine Keeps.step (State.laneGone_keeps ..) rfl ?_
    refine Keeps.step (State.laneEv_keeps ..) rfl ?_
    exact h2

theorem State.laneLosClear_keeps (s : State) (k : Nat) (n : Nat) :
    Keeps mask162 s (State.laneLosClear s k n) := by
  unfold State.laneLosClear
  extract_lets v1
  have h2 : Keeps mask162 s v1 := by
    unfold v1
    refine Keeps.putBitOf rfl ?_
    exact Keeps.refl _ _
  clear_value v1
  refine Keeps.ite (fun _ => ?_) (fun _ => ?_)
  · refine Keeps.step (State.tryLight_keeps ..) rfl ?_
    refine Keeps.putFlag rfl ?_
    exact h2
  · refine Keeps.step (State.widenIfReady_keeps ..) rfl ?_
    refine Keeps.step (State.tryAlign_keeps ..) rfl ?_
    exact h2

theorem State.laneLock_keeps (s : State) (k : Nat) (n : Nat) :
    Keeps mask163 s (State.laneLock s k n) := by
  unfold State.laneLock
  extract_lets v1 v2
  have h3 : Keeps mask163 s v1 := by
    unfold v1
    unfold State.putBitOf
    refine Keeps.put rfl ?_
    exact Keeps.refl _ _
  clear_value v1
  have h7 : Keeps mask163 s v2 := by
    unfold v2
    refine Keeps.ite (fun _ => ?_) (fun _ => ?_)
    · unfold State.putFlag
      refine Keeps.put rfl ?_
      exact h3
    · refine Keeps.step (State.dfeAdapt_keeps ..) rfl ?_
      exact h3
  clear_value v2
  refine Keeps.step (State.widenIfReady_keeps ..) rfl ?_
  refine Keeps.step (State.tryRdy_keeps ..) rfl ?_
  refine Keeps.step (State.tryAlign_keeps ..) rfl ?_
  exact h7

theorem State.laneUnlock_keeps (s : State) (k : Nat) (n : Nat) :
    Keeps mask164 s (State.laneUnlock s k n) := by
  unfold State.laneUnlock
  extract_lets v1
  have h2 : Keeps mask164 s v1 := by
    unfold v1
    unfold State.count
    refine Keeps.put rfl ?_
    unfold State.putBitOf
    refine Keeps.put rfl ?_
    exact Keeps.refl _ _
  clear_value v1
  refine Keeps.ite (fun _ => ?_) (fun _ => ?_)
  · exact h2
  · refine Keeps.step (State.laneGone_keeps ..) rfl ?_
    refine Keeps.step (State.laneEv_keeps ..) rfl ?_
    exact h2

theorem State.clockUnlock_keeps (s : State) (k : Nat) :
    Keeps mask165 s (State.clockUnlock s k) := by
  unfold State.clockUnlock
  extract_lets v1 v2
  have h3 : Keeps mask165 s v1 := by
    unfold v1
    unfold State.putFlag
    refine Keeps.put rfl ?_
    exact Keeps.refl _ _
  clear_value v1
  have h7 : Keeps mask165 s v2 := by
    unfold v2
    refine Keeps.ite (fun _ => ?_) (fun _ => ?_)
    · refine Keeps.step (State.pyuEv_keeps ..) rfl ?_
      exact h3
    · exact h3
  clear_value v2
  refine Keeps.ite (fun _ => ?_) (fun _ => ?_)
  · refine Keeps.ite (fun _ => ?_) (fun _ => ?_)
    · exact h7
    · refine Keeps.step (State.enterDown_keeps ..) rfl ?_
      exact h7
  · exact Keeps.refl _ _

theorem State.markerFound_keeps (s : State) (k : Nat) (n : Nat) :
    Keeps mask166 s (State.markerFound s k n) := by
  unfold State.markerFound
  extract_lets v1 v2 v3 v4 v5 v6
  have h7 : Keeps mask166 s v2.2 := by
    unfold v2
    refine Keeps.step (State.free_keeps ..) rfl ?_
    exact Keeps.refl _ _
  clear_value v2
  have h8 : Keeps mask166 s v3 := by
    unfold v3
    refine Keeps.ite (fun _ => ?_) (fun _ => ?_)
    · exact Keeps.refl _ _
    · exact h7
  clear_value v3
  have h9 : Keeps mask166 s v6 := by
    unfold v6
    refine Keeps.step (State.setLine_keeps ..) rfl ?_
    exact h8
  clear_value v6
  refine Keeps.step (State.widenIfReady_keeps ..) rfl ?_
  refine Keeps.step (State.tryRdy_keeps ..) rfl ?_
  refine Keeps.step (State.tryDeskew_keeps ..) rfl ?_
  refine Keeps.putBitOf rfl ?_
  exact h9

theorem State.alignLost_keeps (s : State) (k : Nat) (n : Nat) :
    Keeps mask167 s (State.alignLost s k n) := by
  unfold State.alignLost
  refine Keeps.step (State.laneGone_keeps ..) rfl ?_
  refine Keeps.putBitOf rfl ?_
  refine Keeps.step (State.setLine_keeps ..) rfl ?_
  exact Keeps.refl _ _

theorem State.markerLost_keeps (s : State) (k : Nat) (n : Nat) :
    Keeps mask168 s (State.markerLost s k n) := by
  unfold State.markerLost
  refine Keeps.step (State.alignLost_keeps ..) rfl ?_
  refine Keeps.count rfl ?_
  exact Keeps.refl _ _

theorem State.seqError_keeps (s : State) (k : Nat) :
    Keeps 0x100 s (State.seqError s k) := by
  unfold State.seqError
  extract_lets v1
  refine Keeps.ite (fun _ => ?_) (fun _ => ?_)
  · exact Keeps.refl _ _
  · refine Keeps.step (State.setPort_keeps ..) rfl ?_
    exact Keeps.refl _ _

theorem State.takeHeader_keeps (s : State) (k : Nat) (ack : Nat) (ccs : Nat) (ccm : Nat) (nak : Bool) :
    Keeps mask26 s (State.takeHeader s k ack ccs ccm nak) := by
  unfold State.takeHeader
  extract_lets v1 v2 v3 v4 v5
  have h6 : Keeps mask26 s v5 := by
    unfold v5
    refine Keeps.step (State.setPort_keeps ..) rfl ?_
    exact Keeps.refl _ _
  clear_value v5
  refine Keeps.ite (fun _ => ?_) (fun _ => ?_)
  · refine Keeps.ite (fun _ => ?_) (fun _ => ?_)
    · exact h6
    · refine Keeps.step (State.startReplay_keeps ..) rfl ?_
      exact h6
  · exact h6

end Sys2Proof.Machine
end

