-- ==== Sys2Proof/Laws/KeepsPyuri.lean ====
section
/-! SUPPORT. The frame of every function of Machine/Pyuri.lean: what it may change, and that it keeps the canonical forms and
the waiting commands. -/
namespace Sys2Proof.Machine

set_option Elab.async false

theorem State.laserGone_keeps (s : State) (k : Nat) (n : Nat) :
    Keeps mask276 s (State.laserGone s k n) := by
  unfold State.laserGone
  extract_lets v1 v2 v3 v4 v5
  have h6 : Keeps mask276 s v2 := by
    unfold v2
    refine Keeps.ite (fun _ => ?_) (fun _ => ?_)
    · refine Keeps.step (State.remapAbortOwn_keeps ..) rfl ?_
      exact Keeps.refl _ _
    · exact Keeps.refl _ _
  clear_value v2
  have h7 : Keeps mask276 s v3 := by
    unfold v3
    refine Keeps.ite (fun _ => ?_) (fun _ => ?_)
    · refine Keeps.step (State.remapAbortOwn_keeps ..) rfl ?_
      exact h6
    · exact h6
  clear_value v3
  have h8 : Keeps mask276 s v5 := by
    unfold v5
    dsimp only [v4]
    refine Keeps.step (State.setRing_keeps ..) rfl ?_
    refine Keeps.ite (fun _ => ?_) (fun _ => ?_)
    · exact h7
    · refine Keeps.step (State.setRing_keeps ..) rfl ?_
      exact h7
  clear_value v5
  refine Keeps.step (State.failRemap_keeps ..) rfl ?_
  refine Keeps.step (State.ringsSettle_keeps ..) rfl ?_
  refine Keeps.step (State.calShow_keeps ..) rfl ?_
  refine Keeps.step (State.calNext_keeps ..) rfl ?_
  refine Keeps.step (State.calNext_keeps ..) rfl ?_
  exact h8

theorem State.laserEv_keeps (s : State) (e : Nat) :
    Keeps mask227 s (State.laserEv s e) := by
  unfold State.laserEv
  split
  · rename_i y1 y2 y3
    refine Keeps.step (State.shadowed_keeps ..) rfl ?_
    exact Keeps.refl _ _
  · rename_i y4 y5
    refine Keeps.step (State.lscEv_keeps ..) rfl ?_
    exact Keeps.refl _ _

theorem State.laserFail_keeps (s : State) (e : Nat) (n : Nat) :
    Keeps mask277 s (State.laserFail s e n) := by
  unfold State.laserFail
  extract_lets v1 v2
  have h3 : Keeps mask277 s v1 := by
    unfold v1
    refine Keeps.putBitOf rfl ?_
    exact Keeps.refl _ _
  clear_value v1
  have h4 : Keeps mask277 s v2 := by
    unfold v2
    refine Keeps.step (State.laserEv_keeps ..) rfl ?_
    exact h3
  clear_value v2
  refine Keeps.ite (fun _ => ?_) (fun _ => ?_)
  · refine Keeps.step (State.bankFail_keeps ..) rfl ?_
    exact h4
  · refine Keeps.foldl _ ?_ (fun a5 b6 k7 => ?_)
    · exact h4
    · refine Keeps.step (State.laserGone_keeps ..) rfl ?_
      exact k7

theorem State.bankLock_keeps (s : State) (e : Nat) (failed : Nat) :
    Keeps mask277 s (State.bankLock s e failed) := by
  unfold State.bankLock
  refine Keeps.ite (fun _ => ?_) (fun _ => ?_)
  · extract_lets v1 v2 v3
    have h4 : Keeps mask277 s v1 := by
      unfold v1
      refine Keeps.putFlag rfl ?_
      refine Keeps.put rfl ?_
      refine Keeps.putBitOf rfl ?_
      exact Keeps.refl _ _
    clear_value v1
    have h5 : Keeps mask277 s v3 := by
      unfold v3
      refine Keeps.step (State.setEng_keeps ..) rfl ?_
      exact h4
    clear_value v3
    refine Keeps.foldl _ ?_ (fun a6 b7 k8 => ?_)
    · refine Keeps.foldl _ ?_ (fun a9 b10 k11 => ?_)
      · exact h5
      · refine Keeps.step (State.laserFail_keeps ..) rfl ?_
        exact k11
    · refine Keeps.step (State.calAll_keeps ..) rfl ?_
      exact k8
  · exact Keeps.refl _ _

theorem State.bankFault_keeps (s : State) (e : Nat) :
    Keeps mask278 s (State.bankFault s e) := by
  unfold State.bankFault
  refine Keeps.step (State.bankFail_keeps ..) rfl ?_
  refine Keeps.step (State.lscEv_keeps ..) rfl ?_
  unfold State.putBitOf
  refine Keeps.put rfl ?_
  exact Keeps.refl _ _

theorem State.laserDeclare_keeps (s : State) (e : Nat) (n : Nat) :
    Keeps mask277 s (State.laserDeclare s e n) := by
  unfold State.laserDeclare
  refine Keeps.ite (fun _ => ?_) (fun _ => ?_)
  · exact Keeps.refl _ _
  · refine Keeps.step (State.laserFail_keeps ..) rfl ?_
    exact Keeps.refl _ _

theorem State.calDone_keeps (s : State) (k : Nat) (rx : Bool) (n : Nat) :
    Keeps mask150 s (State.calDone s k rx n) := by
  unfold State.calDone
  extract_lets v1 v2 v3
  have h4 : Keeps mask150 s v2 := by
    unfold v2
    refine Keeps.step (State.setRing_keeps ..) rfl ?_
    exact Keeps.refl _ _
  clear_value v2
  have h5 : Keeps mask150 s v3 := by
    unfold v3
    refine Keeps.step (State.calShow_keeps ..) rfl ?_
    refine Keeps.step (State.calNext_keeps ..) rfl ?_
    refine Keeps.step (State.ringsSettle_keeps ..) rfl ?_
    exact h4
  clear_value v3
  refine Keeps.ite (fun _ => ?_) (fun _ => ?_)
  · refine Keeps.step (State.tryLight_keeps ..) rfl ?_
    refine Keeps.step (State.tryUp_keeps ..) rfl ?_
    refine Keeps.step (State.tryAlign_keeps ..) rfl ?_
    refine Keeps.step (State.tryRdy_keeps ..) rfl ?_
    exact h5
  · exact Keeps.refl _ _

theorem State.spareRecal_keeps (s : State) (k : Nat) (rx : Bool) (n : Nat) :
    Keeps mask12 s (State.spareRecal s k rx n) := by
  unfold State.spareRecal
  refine Keeps.ite (fun _ => ?_) (fun _ => ?_)
  · refine Keeps.step (State.calStart_keeps ..) rfl ?_
    exact Keeps.refl _ _
  · exact Keeps.refl _ _

theorem State.rotStart_keeps (s : State) (k : Nat) (rx : Bool) (low : Option Nat) :
    Keeps mask41 s (State.rotStart s k rx low) := by
  unfold State.rotStart
  refine Keeps.ite (fun _ => ?_) (fun _ => ?_)
  · split
    · rename_i y2 y3 y4 y5
      refine Keeps.step (State.remapOpen_keeps ..) rfl ?_
      exact Keeps.refl _ _
    · rename_i y8 y9
      exact Keeps.refl _ _
  · exact Keeps.refl _ _

theorem State.rangeEnd_keeps (s : State) (k : Nat) (rx : Bool) (n : Nat) :
    Keeps mask279 s (State.rangeEnd s k rx n) := by
  unfold State.rangeEnd
  extract_lets v1 v2 v3
  have h4 : Keeps mask279 s v2 := by
    unfold v2
    refine Keeps.step (State.setRing_keeps ..) rfl ?_
    exact Keeps.refl _ _
  clear_value v2
  have h5 : Keeps mask279 s v3 := by
    unfold v3
    refine Keeps.step (State.pyuEv_keeps ..) rfl ?_
    refine Keeps.ite (fun _ => ?_) (fun _ => ?_)
    · refine Keeps.step (State.clockUnlock_keeps ..) rfl ?_
      exact h4
    · exact h4
  clear_value v3
  refine Keeps.ite (fun _ => ?_) (fun _ => ?_)
  · refine Keeps.ite (fun _ => ?_) (fun _ => ?_)
    · exact h5
    · refine Keeps.step (State.enterDown_keeps ..) rfl ?_
      exact h5
  · refine Keeps.ite (fun _ => ?_) (fun _ => ?_)
    · refine Keeps.step (State.laneGone_keeps ..) rfl ?_
      exact h5
    · refine Keeps.step (State.failRemap_keeps ..) rfl ?_
      refine Keeps.step (State.ringsSettle_keeps ..) rfl ?_
      exact h5

theorem State.los16_keeps (s : State) (k : Nat) :
    Keeps mask21 s (State.los16 s k) := by
  unfold State.los16
  refine Keeps.ite (fun _ => ?_) (fun _ => ?_)
  · refine Keeps.step (State.enterDown_keeps ..) rfl ?_
    exact Keeps.refl _ _
  · exact Keeps.refl _ _

theorem State.probeOn_keeps (s : State) (k : Nat) :
    Keeps mask280 s (State.probeOn s k) := by
  unfold State.probeOn
  refine Keeps.ite (fun _ => ?_) (fun _ => ?_)
  · refine Keeps.step (State.ringsSettle_keeps ..) rfl ?_
    refine Keeps.count rfl ?_
    refine Keeps.putFlag rfl ?_
    exact Keeps.refl _ _
  · exact Keeps.refl _ _

theorem State.probeOff_keeps (s : State) (k : Nat) :
    Keeps mask281 s (State.probeOff s k) := by
  unfold State.probeOff
  refine Keeps.ite (fun _ => ?_) (fun _ => ?_)
  · refine Keeps.step (State.ringsSettle_keeps ..) rfl ?_
    refine Keeps.putFlag rfl ?_
    exact Keeps.refl _ _
  · exact Keeps.refl _ _

theorem State.resetDone_keeps (s : State) (e : Nat) :
    Keeps mask37 s (State.resetDone s e) := by
  unfold State.resetDone
  refine Keeps.ite (fun _ => ?_) (fun _ => ?_)
  · refine Keeps.step (State.engineUp_keeps ..) rfl ?_
    exact Keeps.refl _ _
  · exact Keeps.refl _ _

theorem State.lenDropped_keeps (s : State) (lineB : Bool) :
    Keeps mask282 s (State.lenDropped s lineB) := by
  unfold State.lenDropped
  extract_lets v1 v2
  have h3 : Keeps mask282 s v1 := by
    unfold v1
    refine Keeps.ite (fun _ => ?_) (fun _ => ?_)
    · unfold State.putFlag
      refine Keeps.put rfl ?_
      exact Keeps.refl _ _
    · unfold State.putFlag
      refine Keeps.put rfl ?_
      exact Keeps.refl _ _
  clear_value v1
  have h11 : Keeps mask282 s v2 := by
    unfold v2
    refine Keeps.put rfl ?_
    exact h3
  clear_value v2
  refine Keeps.step (State.engStop_keeps ..) rfl ?_
  exact h11

theorem State.carLearn_keeps (s : State) (a : Nat) (v : Nat) :
    Keeps 0x800 s (State.carLearn s a v) := by
  unfold State.carLearn
  refine (Keeps.setLsc _ rfl ?_)
  exact Keeps.refl _ _

theorem State.carStat_keeps (s : State) (stat : Nat) (id : Option Nat) :
    Keeps mask283 s (State.carStat s stat id) := by
  unfold State.carStat
  extract_lets v1 v2 v3 v4 v5 v6
  have h7 : Keeps mask283 s v3 := by
    unfold v3
    refine (Keeps.setLsc _ rfl ?_)
    exact Keeps.refl _ _
  clear_value v3
  have h8 : Keeps mask283 s v4 := by
    unfold v4
    refine Keeps.put rfl ?_
    refine Keeps.putFlag rfl ?_
    exact h7
  clear_value v4
  have h9 : Keeps mask283 s v5 := by
    unfold v5
    refine Keeps.ite (fun _ => ?_) (fun _ => ?_)
    · refine Keeps.foldl _ ?_ (fun a10 b11 k12 => ?_)
      · exact h8
      · refine Keeps.ite (fun _ => ?_) (fun _ => ?_)
        · refine Keeps.putBitOf rfl ?_
          exact k12
        · exact k12
    · exact h8
  clear_value v5
  have h13 : Keeps mask283 s v6 := by
    unfold v6
    refine Keeps.foldl _ ?_ (fun a14 b15 k16 => ?_)
    · exact h9
    · refine Keeps.ite (fun _ => ?_) (fun _ => ?_)
      · refine Keeps.step (State.bankFault_keeps ..) rfl ?_
        exact k16
      · refine Keeps.putBitOf rfl ?_
        exact k16
  clear_value v6
  refine Keeps.ite (fun _ => ?_) (fun _ => ?_)
  · refine Keeps.step (State.lscEv_keeps ..) rfl ?_
    exact h13
  · exact h13

theorem State.lscPolled_keeps (s : State) (stat : Nat) (data : Nat) :
    Keeps mask283 s (State.lscPolled s stat data) := by
  unfold State.lscPolled
  refine Keeps.ite (fun _ => ?_) (fun _ => ?_)
  · extract_lets v1 v2 v3 v4
    have h5 : Keeps mask283 s v2 := by
      unfold v2
      refine Keeps.ite (fun _ => ?_) (fun _ => ?_)
      · refine Keeps.step (State.carLearn_keeps ..) rfl ?_
        exact Keeps.refl _ _
      · exact Keeps.refl _ _
    clear_value v2
    have h6 : Keeps mask283 s v3 := by
      unfold v3
      refine Keeps.step (State.carStat_keeps ..) rfl ?_
      exact h5
    clear_value v3
    refine (Keeps.setLsc _ rfl ?_)
    exact h6
  · exact Keeps.refl _ _

theorem State.lscTimeout_keeps (s : State) (e : Nat) (carId : Nat) :
    Keeps mask284 s (State.lscTimeout s e carId) := by
  unfold State.lscTimeout
  refine Keeps.ite (fun _ => ?_) (fun _ => ?_)
  · extract_lets v1 v2 v3 v4 v5 v6
    have h7 : Keeps mask284 s v1 := by
      unfold v1
      refine Keeps.ite (fun _ => ?_) (fun _ => ?_)
      · refine Keeps.step (State.carLearn_keeps ..) rfl ?_
        exact Keeps.refl _ _
      · exact Keeps.refl _ _
    clear_value v1
    have h8 : Keeps mask284 s v2 := by
      unfold v2
      refine Keeps.putFlag rfl ?_
      exact h7
    clear_value v2
    have h9 : Keeps mask284 s v4 := by
      unfold v4
      refine Keeps.step (State.lscEv_keeps ..) rfl ?_
      refine (Keeps.setPow _ rfl ?_)
      exact h8
    clear_value v4
    have h10 : Keeps mask284 s v6 := by
      unfold v6
      refine Keeps.ite (fun _ => ?_) (fun _ => ?_)
      · refine Keeps.putFlag rfl ?_
        exact h9
      · exact h9
    clear_value v6
    refine Keeps.foldl _ ?_ (fun a11 b12 k13 => ?_)
    · exact h10
    · refine Keeps.ite (fun _ => ?_) (fun _ => ?_)
      · refine Keeps.step (State.engFall_keeps ..) rfl ?_
        refine Keeps.putBitOf rfl ?_
        exact k13
      · exact k13
  · exact Keeps.refl _ _

theorem State.lscWinActs_keeps (s : State) :
    Keeps mask285 s (State.lscWinActs s) := by
  unfold State.lscWinActs
  extract_lets v1 v2 v3 v4
  have h5 : Keeps mask285 s v3 := by
    unfold v3
    unfold State.putFlag
    refine Keeps.put rfl ?_
    refine Keeps.put rfl ?_
    exact Keeps.refl _ _
  clear_value v3
  refine Keeps.ite (fun _ => ?_) (fun _ => ?_)
  · refine (Keeps.setLsc _ rfl ?_)
    exact h5
  · unfold State.putFlag
    refine Keeps.put rfl ?_
    exact Keeps.refl _ _

theorem State.lscFrameDone_keeps (s : State) (stat : Nat) (data : Nat) :
    Keeps mask286 s (State.lscFrameDone s stat data) := by
  unfold State.lscFrameDone
  split
  · rename_i y1 y2 y3 y4 y5
    refine Keeps.ite (fun _ => ?_) (fun _ => ?_)
    · extract_lets v6 v7 v8 v9 v10
      have h11 : Keeps mask286 s v6 := by
        unfold v6
        refine Keeps.step (State.carStat_keeps ..) rfl ?_
        exact Keeps.refl _ _
      clear_value v6
      have h12 : Keeps mask286 s v8 := by
        unfold v8
        refine (Keeps.setLsc _ rfl ?_)
        exact h11
      clear_value v8
      have h13 : Keeps mask286 s v9 := by
        unfold v9
        refine Keeps.putFlag rfl ?_
        exact h12
      clear_value v9
      refine Keeps.ite (fun _ => ?_) (fun _ => ?_)
      · refine (Keeps.setLsc _ rfl ?_)
        exact h13
      · refine Keeps.put rfl ?_
        refine Keeps.ite (fun _ => ?_) (fun _ => ?_)
        · refine Keeps.step (State.carLearn_keeps ..) rfl ?_
          exact h13
        · exact h13
    · exact Keeps.refl _ _
  · rename_i y14 y15
    exact Keeps.refl _ _

theorem State.laserDeclared_keeps (s : State) (e : Nat) (n : Nat) (car : Bool) :
    Keeps mask287 s (State.laserDeclared s e n car) := by
  unfold State.laserDeclared
  extract_lets v1 v2 v3
  have h4 : Keeps mask287 s v3 := by
    unfold v3
    refine Keeps.ite (fun _ => ?_) (fun _ => ?_)
    · refine (Keeps.setLsc _ rfl ?_)
      exact Keeps.refl _ _
    · exact Keeps.refl _ _
  clear_value v3
  refine Keeps.step (State.laserDeclare_keeps ..) rfl ?_
  exact h4

end Sys2Proof.Machine
end

