-- ==== Sys2Proof/Laws/KeepsRind.lean ====
section
/-! SUPPORT. The frame of every function of Machine/Rind.lean: what it may change, and that it keeps the canonical forms and
the waiting commands. -/
namespace Sys2Proof.Machine

set_option Elab.async false

theorem State.rndEv_keeps (s : State) (typ : Nat) (lvl : Nat) :
    Keeps mask3 s (State.rndEv s typ lvl) := by
  unfold State.rndEv
  refine Keeps.step (State.event_keeps ..) rfl ?_
  exact Keeps.refl _ _

theorem State.lasersOff_keeps (s : State) (fid : Nat) :
    Keeps mask288 s (State.lasersOff s fid) := by
  unfold State.lasersOff
  refine Keeps.step (State.engStop_keeps ..) rfl ?_
  refine Keeps.put rfl ?_
  refine Keeps.step (State.lenSettle_keeps ..) rfl ?_
  exact Keeps.refl _ _

theorem State.fnSto_keeps (s : State) (f : Nat) :
    Keeps mask289 s (State.fnSto s f) := by
  unfold State.fnSto
  refine Keeps.put rfl ?_
  refine Keeps.step (State.stoOff_keeps ..) rfl ?_
  exact Keeps.refl _ _

theorem State.fnIso_keeps (s : State) (on : Bool) (fid : Nat) :
    Keeps mask87 s (State.fnIso s on fid) := by
  unfold State.fnIso
  refine Keeps.ite (fun _ => ?_) (fun _ => ?_)
  · refine Keeps.step (State.isolate_keeps ..) rfl ?_
    refine Keeps.step (State.setInhibit_keeps ..) rfl ?_
    exact Keeps.refl _ _
  · refine Keeps.step (State.setInhibit_keeps ..) rfl ?_
    exact Keeps.refl _ _

theorem State.fnLaser_keeps (s : State) (on : Bool) (fid : Nat) :
    Keeps mask288 s (State.fnLaser s on fid) := by
  unfold State.fnLaser
  refine Keeps.ite (fun _ => ?_) (fun _ => ?_)
  · refine Keeps.step (State.lasersOff_keeps ..) rfl ?_
    exact Keeps.refl _ _
  · refine Keeps.step (State.lenSettle_keeps ..) rfl ?_
    exact Keeps.refl _ _

theorem State.fnCap_keeps (s : State) (on : Bool) :
    Keeps 0x40000 s (State.fnCap s on) := by
  unfold State.fnCap
  extract_lets v1
  refine (Keeps.setGov _ rfl ?_)
  exact Keeps.refl _ _

theorem State.fnLsw_keeps (s : State) (new : Nat) (fid : Nat) :
    Keeps mask290 s (State.fnLsw s new fid) := by
  unfold State.fnLsw
  refine Keeps.ite (fun _ => ?_) (fun _ => ?_)
  · exact Keeps.refl _ _
  · refine Keeps.step (State.lswShadow_keeps ..) rfl ?_
    refine Keeps.step (State.lswOff_keeps ..) rfl ?_
    exact Keeps.refl _ _

theorem State.fnSettle_keeps (s : State) (f0 : Nat) (f : Nat) (fid : Nat) :
    Keeps mask291 s (State.fnSettle s f0 f fid) := by
  unfold State.fnSettle
  extract_lets v1 v2 v3 v4 v5
  have h6 : Keeps mask291 s v2 := by
    unfold v2
    dsimp only [v1]
    refine Keeps.ite (fun _ => ?_) (fun _ => ?_)
    · refine Keeps.step (State.fnSto_keeps ..) rfl ?_
      exact Keeps.refl _ _
    · refine Keeps.step (State.fnIso_keeps ..) rfl ?_
      refine Keeps.step (State.fnSto_keeps ..) rfl ?_
      exact Keeps.refl _ _
  clear_value v2
  have h14 : Keeps mask291 s v3 := by
    unfold v3
    dsimp only [v1]
    refine Keeps.ite (fun _ => ?_) (fun _ => ?_)
    · exact h6
    · refine Keeps.step (State.fnLaser_keeps ..) rfl ?_
      exact h6
  clear_value v3
  have h20 : Keeps mask291 s v4 := by
    unfold v4
    dsimp only [v1]
    refine Keeps.ite (fun _ => ?_) (fun _ => ?_)
    · exact h14
    · refine Keeps.step (State.idleCause_keeps ..) rfl ?_
      exact h14
  clear_value v4
  have h26 : Keeps mask291 s v5 := by
    unfold v5
    dsimp only [v1]
    refine Keeps.ite (fun _ => ?_) (fun _ => ?_)
    · exact h20
    · refine Keeps.ite (fun _ => ?_) (fun _ => ?_)
      · refine Keeps.step (State.coreShutdown_keeps ..) rfl ?_
        exact h20
      · exact h20
  clear_value v5
  refine Keeps.step (State.fnCap_keeps ..) rfl ?_
  exact h26

theorem State.siReport_keeps (s : State) (d0 : Nat) (d : Nat) (at_ : Nat) :
    Keeps mask292 s (State.siReport s d0 d at_) := by
  unfold State.siReport
  extract_lets v1 v2 v3 v4 v5 v6
  have h7 : Keeps mask292 s v5 := by
    unfold v5
    refine (Keeps.setPow _ rfl ?_)
    exact Keeps.refl _ _
  clear_value v5
  have h8 : Keeps mask292 s v6 := by
    unfold v6
    refine Keeps.ite (fun _ => ?_) (fun _ => ?_)
    · refine Keeps.step (State.siWrite_keeps ..) rfl ?_
      exact h7
    · exact h7
  clear_value v6
  refine Keeps.step (State.notify_keeps ..) rfl ?_
  refine Keeps.step (State.offerAt_keeps ..) rfl ?_
  exact h8

theorem State.siReports_keeps (s : State) (d0 : Nat) (d : Nat) :
    Keeps mask292 s (State.siReports s d0 d) := by
  unfold State.siReports
  extract_lets v1 v2
  have h3 : Keeps mask292 s v2 := by
    unfold v2
    refine Keeps.ite (fun _ => ?_) (fun _ => ?_)
    · exact Keeps.refl _ _
    · refine Keeps.step (State.siReport_keeps ..) rfl ?_
      exact Keeps.refl _ _
  clear_value v2
  refine Keeps.ite (fun _ => ?_) (fun _ => ?_)
  · exact h3
  · refine Keeps.step (State.siReport_keeps ..) rfl ?_
    exact h3

theorem State.rindFollow_keeps (s : State) (fid : Nat) :
    Keeps mask293 s (State.rindFollow s fid) := by
  unfold State.rindFollow
  extract_lets v1 v2 v3 v4 v5 v6 v7 v8 v9 v10 v11 v12 v13 v14 v15
  have h16 : Keeps mask293 s v9 := by
    unfold v9
    refine (Keeps.setRnd _ rfl ?_)
    exact Keeps.refl _ _
  clear_value v9
  have h17 : Keeps mask293 s v10 := by
    unfold v10
    refine Keeps.put rfl ?_
    refine Keeps.put rfl ?_
    refine Keeps.put rfl ?_
    exact h16
  clear_value v10
  have h18 : Keeps mask293 s v11 := by
    unfold v11
    refine Keeps.step (State.fnSettle_keeps ..) rfl ?_
    refine Keeps.count rfl ?_
    exact h17
  clear_value v11
  have h19 : Keeps mask293 s v12 := by
    unfold v12
    refine Keeps.step (State.fnLsw_keeps ..) rfl ?_
    exact h18
  clear_value v12
  have h20 : Keeps mask293 s v13 := by
    unfold v13
    refine Keeps.step (State.gcSrcN_keeps ..) rfl ?_
    exact h19
  clear_value v13
  have h21 : Keeps mask293 s v15 := by
    unfold v15
    refine Keeps.ite (fun _ => ?_) (fun _ => ?_)
    · refine (Keeps.setRnd _ rfl ?_)
      exact h20
    · exact h20
  clear_value v15
  refine Keeps.ite (fun _ => ?_) (fun _ => ?_)
  · exact h21
  · refine Keeps.step (State.herdWake_keeps ..) rfl ?_
    refine Keeps.step (State.wakeSrc_keeps ..) rfl ?_
    refine Keeps.step (State.siReports_keeps ..) rfl ?_
    exact h21

theorem State.rindSettle_keeps (s : State) (fid : Nat) :
    Keeps mask293 s (State.rindSettle s fid) := by
  unfold State.rindSettle
  refine Keeps.step (State.powerSettle_keeps ..) rfl ?_
  refine Keeps.step (State.rindFollow_keeps ..) rfl ?_
  exact Keeps.refl _ _

theorem State.siTrack_keeps (s : State) (n : Nat) :
    Keeps mask294 s (State.siTrack s n) := by
  unfold State.siTrack
  extract_lets v1 v2 v3 v4
  have h5 : Keeps mask294 s v4 := by
    unfold v4
    refine (Keeps.setRnd _ rfl ?_)
    exact Keeps.refl _ _
  clear_value v4
  refine Keeps.ite (fun _ => ?_) (fun _ => ?_)
  · refine Keeps.ite (fun _ => ?_) (fun _ => ?_)
    · refine (Keeps.setRnd _ rfl ?_)
      exact Keeps.refl _ _
    · refine Keeps.ite (fun _ => ?_) (fun _ => ?_)
      · unfold State.putBitOf
        refine Keeps.put rfl ?_
        refine Keeps.put rfl ?_
        refine Keeps.put rfl ?_
        exact h5
      · exact Keeps.refl _ _
  · exact Keeps.refl _ _

theorem State.setContact_keeps (s : State) (n : Nat) (chB : Bool) (closed : Bool) :
    Keeps mask295 s (State.setContact s n chB closed) := by
  unfold State.setContact
  refine Keeps.ite (fun _ => ?_) (fun _ => ?_)
  · unfold State.putBitOf
    refine Keeps.put rfl ?_
    exact Keeps.refl _ _
  · unfold State.putBitOf
    refine Keeps.put rfl ?_
    exact Keeps.refl _ _

theorem State.siDemand_keeps (s : State) (n : Nat) (chB : Bool) :
    Keeps mask296 s (State.siDemand s n chB) := by
  unfold State.siDemand
  refine Keeps.ite (fun _ => ?_) (fun _ => ?_)
  · extract_lets v1
    have h2 : Keeps mask296 s v1 := by
      unfold v1
      refine Keeps.step (State.setContact_keeps ..) rfl ?_
      exact Keeps.refl _ _
    clear_value v1
    refine State.runs_keeps rfl ?_ ?_
    · exact h2
    · intro x3
      intro x4
      refine Keeps.step (State.rindSettle_keeps ..) rfl ?_
      refine Keeps.step (State.siTrack_keeps ..) rfl ?_
      exact x4
  · exact Keeps.refl _ _

theorem State.stoReset_keeps (s : State) (k : Nat) :
    Keeps mask297 s (State.stoReset s k) := by
  unfold State.stoReset
  refine Keeps.ite (fun _ => ?_) (fun _ => ?_)
  · unfold State.count
    refine Keeps.put rfl ?_
    unfold State.putBitOf
    refine Keeps.put rfl ?_
    exact Keeps.refl _ _
  · unfold State.count
    refine Keeps.put rfl ?_
    exact Keeps.refl _ _

theorem State.resetInput_keeps (was : State) (s : State) (n : Nat) :
    Keeps mask298 s (State.resetInput was s n) := by
  unfold State.resetInput
  refine Keeps.ite (fun _ => ?_) (fun _ => ?_)
  · split
    · rename_i y2 y3 y4
      extract_lets v6 v7 v8
      have h9 : Keeps mask298 s v7 := by
        unfold v7
        refine (Keeps.setRnd _ rfl ?_)
        exact Keeps.refl _ _
      clear_value v7
      refine Keeps.ite (fun _ => ?_) (fun _ => ?_)
      · refine Keeps.step (State.stoReset_keeps ..) rfl ?_
        refine Keeps.step (State.stoReset_keeps ..) rfl ?_
        exact h9
      · exact h9
    · rename_i y17 y18
      exact Keeps.refl _ _
  · exact Keeps.refl _ _

theorem State.siClear_keeps (s : State) (n : Nat) :
    Keeps mask299 s (State.siClear s n) := by
  unfold State.siClear
  refine Keeps.ite (fun _ => ?_) (fun _ => ?_)
  · extract_lets v1
    have h2 : Keeps mask299 s v1 := by
      unfold v1
      refine Keeps.step (State.setContact_keeps ..) rfl ?_
      refine Keeps.step (State.setContact_keeps ..) rfl ?_
      exact Keeps.refl _ _
    clear_value v1
    refine State.runs_keeps rfl ?_ ?_
    · exact h2
    · intro x3
      intro x4
      refine Keeps.step (State.resetInput_keeps ..) rfl ?_
      refine Keeps.step (State.rindSettle_keeps ..) rfl ?_
      refine Keeps.step (State.siTrack_keeps ..) rfl ?_
      exact x4
  · exact Keeps.refl _ _

theorem State.siFaulted_keeps (s : State) {f : RField} (n : Nat)
    (m : mask300.testBit (32 + f.id) = true := by rfl) :
    Keeps mask300 s (State.siFaulted s f n) := by
  unfold State.siFaulted
  refine Keeps.ite (fun _ => ?_) (fun _ => ?_)
  · exact Keeps.refl _ _
  · extract_lets v1 v2 v3
    have h4 : Keeps mask300 s v2 := by
      unfold v2
      refine (Keeps.setRnd _ rfl ?_)
      exact Keeps.refl _ _
    clear_value v2
    have h5 : Keeps mask300 s v3 := by
      unfold v3
      refine Keeps.step (State.rndEv_keeps ..) rfl ?_
      refine Keeps.putBitOf m ?_
      exact h4
    clear_value v3
    refine Keeps.ite (fun _ => ?_) (fun _ => ?_)
    · exact h4
    · refine Keeps.step (State.rindSettle_keeps ..) rfl ?_
      exact h5

theorem State.siDiscrepancy_keeps (s : State) (n : Nat) :
    Keeps mask296 s (State.siDiscrepancy s n) := by
  unfold State.siDiscrepancy
  refine Keeps.ite (fun _ => ?_) (fun _ => ?_)
  · exact Keeps.refl _ _
  · refine Keeps.ite (fun _ => ?_) (fun _ => ?_)
    · exact Keeps.refl _ _
    · refine Keeps.ite (fun _ => ?_) (fun _ => ?_)
      · extract_lets v1 v2
        have h3 : Keeps mask296 s v1.2 := by
          unfold v1
          refine Keeps.step (State.free_keeps ..) rfl ?_
          exact Keeps.refl _ _
        clear_value v1
        refine Keeps.step (State.siFaulted_keeps ..) rfl ?_
        refine Keeps.step (State.setContact_keeps ..) rfl ?_
        exact h3
      · refine Keeps.step (State.siFaulted_keeps ..) rfl ?_
        exact Keeps.refl _ _

theorem State.stoFault_keeps (s : State) (k : Nat) :
    Keeps mask301 s (State.stoFault s k) := by
  unfold State.stoFault
  refine Keeps.ite (fun _ => ?_) (fun _ => ?_)
  · exact Keeps.refl _ _
  · refine Keeps.step (State.rndEv_keeps ..) rfl ?_
    refine Keeps.step (State.stoOff_keeps ..) rfl ?_
    unfold State.putBitOf
    refine Keeps.put rfl ?_
    refine Keeps.put rfl ?_
    exact Keeps.refl _ _

theorem State.stoPulse_keeps (s : State) (k : Nat) (e : Nat) (ok : Bool) :
    Keeps mask301 s (State.stoPulse s k e ok) := by
  unfold State.stoPulse
  refine Keeps.ite (fun _ => ?_) (fun _ => ?_)
  · refine Keeps.step (State.stoFault_keeps ..) rfl ?_
    exact Keeps.refl _ _
  · exact Keeps.refl _ _

theorem State.stoReadback_keeps (s : State) (k : Nat) (off : Bool) :
    Keeps mask301 s (State.stoReadback s k off) := by
  unfold State.stoReadback
  extract_lets v1 v2 v3
  have h4 : Keeps mask301 s v2 := by
    unfold v2
    refine Keeps.ite (fun _ => ?_) (fun _ => ?_)
    · exact Keeps.refl _ _
    · refine (Keeps.setRnd _ rfl ?_)
      exact Keeps.refl _ _
  clear_value v2
  have h9 : Keeps mask301 s v3 := by
    unfold v3
    unfold State.putBitOf
    refine Keeps.put rfl ?_
    exact h4
  clear_value v3
  refine Keeps.ite (fun _ => ?_) (fun _ => ?_)
  · exact Keeps.refl _ _
  · refine Keeps.ite (fun _ => ?_) (fun _ => ?_)
    · exact h9
    · refine Keeps.step (State.stoFault_keeps ..) rfl ?_
      exact h9

theorem State.stoLimit_keeps (s : State) (k : Nat) :
    Keeps mask301 s (State.stoLimit s k) := by
  unfold State.stoLimit
  refine Keeps.ite (fun _ => ?_) (fun _ => ?_)
  · refine Keeps.step (State.stoFault_keeps ..) rfl ?_
    exact Keeps.refl _ _
  · exact Keeps.refl _ _

theorem State.stoEnergise_keeps (s : State) (k : Nat) (ok : Bool) :
    Keeps mask301 s (State.stoEnergise s k ok) := by
  unfold State.stoEnergise
  refine Keeps.ite (fun _ => ?_) (fun _ => ?_)
  · refine Keeps.ite (fun _ => ?_) (fun _ => ?_)
    · unfold State.putBitOf
      refine Keeps.put rfl ?_
      refine Keeps.put rfl ?_
      exact Keeps.refl _ _
    · refine Keeps.step (State.stoReadback_keeps ..) rfl ?_
      exact Keeps.refl _ _
  · exact Keeps.refl _ _

theorem State.stoReqActs_keeps (s : State) (rst : Nat) :
    Keeps mask302 s (State.stoReqActs s rst) := by
  unfold State.stoReqActs
  extract_lets v1
  have h2 : Keeps mask302 s v1 := by
    unfold v1
    refine Keeps.step (State.stoOff_keeps ..) rfl ?_
    exact Keeps.refl _ _
  clear_value v1
  refine Keeps.ite (fun _ => ?_) (fun _ => ?_)
  · refine Keeps.foldl _ ?_ (fun a7 b8 k9 => ?_)
    · exact h2
    · refine Keeps.step (State.stoReset_keeps ..) rfl ?_
      exact k9
  · exact h2

theorem State.stoAck_keeps (s : State) :
    KeepsO mask303 s (State.stoAck s) := by
  unfold State.stoAck
  extract_lets v1
  refine KeepsO.ite (fun _ => ?_) (fun _ => ?_)
  · refine KeepsO.some ?_
    refine Keeps.put rfl ?_
    exact Keeps.refl _ _
  · exact KeepsO.none

theorem State.channelFault_keeps (s : State) :
    Keeps mask304 s (State.channelFault s) := by
  unfold State.channelFault
  refine Keeps.ite (fun _ => ?_) (fun _ => ?_)
  · exact Keeps.refl _ _
  · extract_lets v1 v2
    have h3 : Keeps mask304 s v1 := by
      unfold v1
      refine Keeps.step (State.rndEv_keeps ..) rfl ?_
      exact Keeps.refl _ _
    clear_value v1
    refine Keeps.step (State.rindSettle_keeps ..) rfl ?_
    refine Keeps.step (State.stoOff_keeps ..) rfl ?_
    refine Keeps.put rfl ?_
    refine Keeps.put rfl ?_
    exact h3

theorem State.safetyApply_keeps (s : State) (c : SafetyCfg) (img : Bytes) :
    Keeps mask305 s (State.safetyApply s c img) := by
  unfold State.safetyApply
  extract_lets v1 v2
  have h3 : Keeps mask305 s v2 := by
    unfold v2
    refine (Keeps.setRnd _ rfl ?_)
    exact Keeps.refl _ _
  clear_value v2
  refine Keeps.put rfl ?_
  refine Keeps.put rfl ?_
  refine Keeps.put rfl ?_
  exact h3

theorem State.safetyCheck_keeps (s : State) :
    Keeps mask306 s (State.safetyCheck s) := by
  unfold State.safetyCheck
  extract_lets v1 v2
  refine Keeps.ite (fun _ => ?_) (fun _ => ?_)
  · exact Keeps.refl _ _
  · split
    · rename_i y6 y7 y8 y9 y10 y11
      refine Keeps.ite (fun _ => ?_) (fun _ => ?_)
      · refine Keeps.step (State.safetyApply_keeps ..) rfl ?_
        exact Keeps.refl _ _
      · refine Keeps.step (State.rndEv_keeps ..) rfl ?_
        unfold State.putFlag
        refine Keeps.put rfl ?_
        exact Keeps.refl _ _
    · rename_i y19 y20 y21
      refine Keeps.step (State.rndEv_keeps ..) rfl ?_
      unfold State.putFlag
      refine Keeps.put rfl ?_
      exact Keeps.refl _ _

theorem State.safetyLoad_keeps (s : State) (b : Bytes) :
    Keeps mask307 s (State.safetyLoad s b).1 := by
  unfold State.safetyLoad
  extract_lets v1 v2
  clear_value v1
  split
  · rename_i y4 y5
    dsimp only
    refine Keeps.put rfl ?_
    exact Keeps.refl _ _
  · rename_i y9
    dsimp only
    unfold State.putFlag
    refine Keeps.put rfl ?_
    refine (Keeps.setRnd _ rfl ?_)
    exact Keeps.refl _ _

theorem State.safetyCommit_keeps (s : State) :
    Keeps mask308 s (State.safetyCommit s) := by
  unfold State.safetyCommit
  split
  · rename_i y1 y2
    exact Keeps.refl _ _
  · rename_i y3 y4 y5
    split
    · rename_i y6 y7 y8
      exact Keeps.refl _ _
    · rename_i y9 y10 y11
      extract_lets v12 v13 v14 v15 v16
      have h17 : Keeps mask308 s v14 := by
        unfold v14
        refine (Keeps.setRnd _ rfl ?_)
        exact Keeps.refl _ _
      clear_value v14
      have h18 : Keeps mask308 s v15 := by
        unfold v15
        refine Keeps.put rfl ?_
        refine Keeps.putFlag rfl ?_
        refine Keeps.putFlag rfl ?_
        refine Keeps.step (State.safetyApply_keeps ..) rfl ?_
        exact h17
      clear_value v15
      have h19 : Keeps mask308 s v16 := by
        unfold v16
        refine Keeps.step (State.offer_keeps ..) rfl ?_
        refine Keeps.step (State.stoOff_keeps ..) rfl ?_
        exact h18
      clear_value v16
      refine Keeps.step (State.rindSettle_keeps ..) rfl ?_
      exact h19

theorem State.inputsEnd_keeps (s : State) (ok : Bool) :
    Keeps mask309 s (State.inputsEnd s ok) := by
  unfold State.inputsEnd
  refine Keeps.ite (fun _ => ?_) (fun _ => ?_)
  · extract_lets v1 v2 v3 v4
    have h5 : Keeps mask309 s v2 := by
      unfold v2
      refine (Keeps.setRnd _ rfl ?_)
      exact Keeps.refl _ _
    clear_value v2
    have h6 : Keeps mask309 s v3 := by
      unfold v3
      refine Keeps.ite (fun _ => ?_) (fun _ => ?_)
      · exact h5
      · refine Keeps.put rfl ?_
        exact h5
    clear_value v3
    have h7 : Keeps mask309 s v4 := by
      unfold v4
      refine Keeps.step (State.setInhibit_keeps ..) rfl ?_
      refine Keeps.step (State.fieldOff_keeps ..) rfl ?_
      exact h6
    clear_value v4
    refine Keeps.ite (fun _ => ?_) (fun _ => ?_)
    · refine Keeps.step (State.rindSettle_keeps ..) rfl ?_
      refine Keeps.step (State.lenSettle_keeps ..) rfl ?_
      refine Keeps.putFlag rfl ?_
      exact h7
    · refine Keeps.step (State.rndEv_keeps ..) rfl ?_
      exact h5
  · exact Keeps.refl _ _

end Sys2Proof.Machine
end

