-- ==== Sys2Proof/Laws/KeepsFaults.lean ====
section
/-! SUPPORT. The frame of every function of Machine/Faults.lean: what it may change, and that it keeps the canonical forms and
the waiting commands. -/
namespace Sys2Proof.Machine

set_option Elab.async false

theorem State.blkLift_keeps (s : State) (c : Nat) (i : Nat) :
    Keeps mask324 s (State.blkLift s c i) := by
  unfold State.blkLift
  refine Keeps.ite (fun _ => ?_) (fun _ => ?_)
  · extract_lets v1 v2
    have h3 : Keeps mask324 s v2 := by
      unfold v2
      refine Keeps.step (State.setPort_keeps ..) rfl ?_
      exact Keeps.refl _ _
    clear_value v2
    refine Keeps.step (State.comeUp_keeps ..) rfl ?_
    exact h3
  · refine Keeps.ite (fun _ => ?_) (fun _ => ?_)
    · refine Keeps.ite (fun _ => ?_) (fun _ => ?_)
      · exact Keeps.refl _ _
      · refine State.setTile_keeps rfl ?_ ?_
        · extract_lets v4
          refine Canon.upd ?_
          unfold v4
          refine Canon.tile (M := mask324) _ ?_
          exact Keeps.refl _ _
        · exact Keeps.refl _ _
    · refine Keeps.step (State.idleSettle_keeps ..) rfl ?_
      exact Keeps.refl _ _

theorem State.blkExit_keeps (s : State) (c : Nat) (i : Nat) (ack : Bool) :
    Keeps mask324 s (State.blkExit s c i ack) := by
  unfold State.blkExit
  extract_lets v1 v2 v3 v4 v5 v6
  have h7 : Keeps mask324 s v4 := by
    unfold v4
    refine Keeps.step (State.offer_keeps ..) rfl ?_
    refine Keeps.step (State.setBlk_keeps ..) rfl ?_
    exact Keeps.refl _ _
  clear_value v4
  have h11 : Keeps mask324 s v5 := by
    unfold v5
    refine Keeps.step (State.notify_keeps ..) rfl ?_
    exact h7
  clear_value v5
  have h14 : Keeps mask324 s v6 := by
    unfold v6
    split
    · rename_i y16 y17 y18
      refine Keeps.step (State.partEvent_keeps ..) rfl ?_
      exact h11
    · rename_i y21 y22
      exact h11
  clear_value v6
  refine Keeps.step (State.blkLift_keeps ..) rfl ?_
  exact h14

theorem State.quietEnd_keeps (s : State) (c : Nat) (i : Nat) :
    Keeps mask324 s (State.quietEnd s c i) := by
  unfold State.quietEnd
  extract_lets v1
  refine Keeps.ite (fun _ => ?_) (fun _ => ?_)
  · refine Keeps.step (State.blkExit_keeps ..) rfl ?_
    exact Keeps.refl _ _
  · exact Keeps.refl _ _

theorem State.fltAck_keeps (s : State) (c : Nat) (i : Nat) :
    Keeps mask324 s (State.fltAck s c i) := by
  unfold State.fltAck
  extract_lets v1 v2 v3 v4
  have h5 : Keeps mask324 s v2 := by
    unfold v2
    refine Keeps.step (State.setBlk_keeps ..) rfl ?_
    exact Keeps.refl _ _
  clear_value v2
  have h8 : Keeps mask324 s v4 := by
    unfold v4
    refine Keeps.step (State.setBlk_keeps ..) rfl ?_
    exact h5
  clear_value v4
  refine Keeps.ite (fun _ => ?_) (fun _ => ?_)
  · refine Keeps.ite (fun _ => ?_) (fun _ => ?_)
    · refine Keeps.ite (fun _ => ?_) (fun _ => ?_)
      · refine Keeps.step (State.blkExit_keeps ..) rfl ?_
        exact h8
      · exact h8
    · exact h5
  · exact Keeps.refl _ _

theorem State.latchAck_keeps (s : State) (c : Nat) :
    KeepsO mask325 s (State.latchAck s c) := by
  unfold State.latchAck
  refine KeepsO.ite (fun _ => ?_) (fun _ => ?_)
  · unfold State.estAck
    refine KeepsO.ite (fun _ => ?_) (fun _ => ?_)
    · refine KeepsO.ite (fun _ => ?_) (fun _ => ?_)
      · exact KeepsO.none
      · refine KeepsO.some ?_
        refine Keeps.putFlag rfl ?_
        exact Keeps.refl _ _
    · refine KeepsO.some ?_
      exact Keeps.refl _ _
  · refine KeepsO.ite (fun _ => ?_) (fun _ => ?_)
    · refine KeepsO.step (State.ctrAck_keeps ..) rfl ?_
      exact Keeps.refl _ _
    · refine KeepsO.ite (fun _ => ?_) (fun _ => ?_)
      · refine KeepsO.step (State.stoAck_keeps ..) rfl ?_
        exact Keeps.refl _ _
      · refine KeepsO.some ?_
        exact Keeps.refl _ _

theorem State.faultAck_keeps (s : State) (c i : Nat) : KeepsO mask326 s (s.faultAck c i) := by
  unfold State.faultAck
  cases e : s.latchAck c with
  | none => exact KeepsO.none
  | some t =>
    refine KeepsO.some ?_
    refine Keeps.step (State.fltAck_keeps ..) rfl ?_
    exact (KeepsO.step (State.latchAck_keeps s c) rfl (Keeps.refl _ _)).of t e

theorem State.stillEvent_keeps (s : State) (d : DetRef) :
    Keeps mask327 s (State.stillEvent s d) := by
  unfold State.stillEvent
  extract_lets v1 v2 v3 v4
  refine Keeps.ite (fun _ => ?_) (fun _ => ?_)
  · refine Keeps.step (State.pyuEv_keeps ..) rfl ?_
    exact Keeps.refl _ _
  · refine Keeps.ite (fun _ => ?_) (fun _ => ?_)
    · refine Keeps.step (State.event_keeps ..) rfl ?_
      exact Keeps.refl _ _
    · refine Keeps.ite (fun _ => ?_) (fun _ => ?_)
      · refine Keeps.step (State.laserEv_keeps ..) rfl ?_
        exact Keeps.refl _ _
      · refine Keeps.ite (fun _ => ?_) (fun _ => ?_)
        · refine Keeps.step (State.aonEv_keeps ..) rfl ?_
          exact Keeps.refl _ _
        · refine Keeps.ite (fun _ => ?_) (fun _ => ?_)
          · refine Keeps.step (State.govEv_keeps ..) rfl ?_
            exact Keeps.refl _ _
          · refine Keeps.ite (fun _ => ?_) (fun _ => ?_)
            · refine Keeps.step (State.overEv_keeps ..) rfl ?_
              exact Keeps.refl _ _
            · refine Keeps.ite (fun _ => ?_) (fun _ => ?_)
              · refine Keeps.step (State.lswEv_keeps ..) rfl ?_
                exact Keeps.refl _ _
              · exact Keeps.refl _ _

theorem State.shadowEnd_keeps (s : State) (kind : Nat) (inst : Nat) (still : List DetRef) :
    Keeps mask327 s (State.shadowEnd s kind inst still) := by
  unfold State.shadowEnd
  split
  · rename_i y1 y2
    exact Keeps.refl _ _
  · rename_i y4 y5 y6
    extract_lets v8
    have h9 : Keeps mask327 s v8 := by
      unfold v8
      refine (Keeps.setShadows _ rfl ?_)
      exact Keeps.refl _ _
    clear_value v8
    refine Keeps.foldl _ ?_ (fun a13 b14 k15 => ?_)
    · exact h9
    · refine Keeps.step (State.stillEvent_keeps ..) rfl ?_
      exact k15

end Sys2Proof.Machine
end

