-- ==== Sys2Proof/Laws/KeepsSupply.lean ====
section
/-! SUPPORT. The frame of every function of Machine/Supply.lean: what it may change, and that it keeps the canonical forms and
the waiting commands. -/
namespace Sys2Proof.Machine

set_option Elab.async false

theorem State.timeWrite_keeps (s : State) (kind : Nat) :
    Keeps 0x20 s (State.timeWrite s kind) := by
  unfold State.timeWrite
  extract_lets v1
  refine (Keeps.setTim _ rfl ?_)
  exact Keeps.refl _ _

theorem State.timeRestore_keeps (s : State) :
    Keeps mask310 s (State.timeRestore s) := by
  unfold State.timeRestore
  extract_lets v1 v2 v3 v4 v5 v6 v7
  have h8 : Keeps mask310 s v6 := by
    unfold v6
    refine Keeps.put rfl ?_
    refine (Keeps.setTim _ rfl ?_)
    exact Keeps.refl _ _
  clear_value v6
  have h12 : Keeps mask310 s v7 := by
    unfold v7
    refine Keeps.put rfl ?_
    refine Keeps.put rfl ?_
    refine Keeps.step (State.timeWrite_keeps ..) rfl ?_
    exact h8
  clear_value v7
  refine Keeps.ite (fun _ => ?_) (fun _ => ?_)
  · refine Keeps.step (State.event_keeps ..) rfl ?_
    exact h12
  · exact h12

theorem State.timeStore_keeps (s : State) :
    Keeps 0x20 s (State.timeStore s) := by
  unfold State.timeStore
  refine Keeps.ite (fun _ => ?_) (fun _ => ?_)
  · refine Keeps.step (State.timeWrite_keeps ..) rfl ?_
    exact Keeps.refl _ _
  · exact Keeps.refl _ _

theorem State.auxReset_keeps (s : State) (ph : PinPhase) : Keeps 0xb5ffffff s (s.auxReset ph) := by
  unfold State.auxReset
  extract_lets t
  have h : Keeps 0xb5ffffff s t := {
    pending := rfl
    fused := rfl
    canon := fun a => ⟨rfl, a.pages, rfl, fun _ => ⟨rfl, rfl, rfl, rfl⟩⟩
    regs := fun a => absurd (show Nat.testBit 0xb5ffffff 31 = true from rfl) (by rw [a]; decide)
    pow := fun a => absurd (show Nat.testBit 0xb5ffffff 0 = true from rfl) (by rw [a]; decide)
    qual := fun a => absurd (show Nat.testBit 0xb5ffffff 1 = true from rfl) (by rw [a]; decide)
    flt := fun a => absurd (show Nat.testBit 0xb5ffffff 2 = true from rfl) (by rw [a]; decide)
    shadows := fun a => absurd (show Nat.testBit 0xb5ffffff 3 = true from rfl) (by rw [a]; decide)
    rcd := fun a => absurd (show Nat.testBit 0xb5ffffff 4 = true from rfl) (by rw [a]; decide)
    tim := fun a => absurd (show Nat.testBit 0xb5ffffff 5 = true from rfl) (by rw [a]; decide)
    mgt := fun a => absurd (show Nat.testBit 0xb5ffffff 6 = true from rfl) (by rw [a]; decide)
    lease := fun a => absurd (show Nat.testBit 0xb5ffffff 7 = true from rfl) (by rw [a]; decide)
    ports := fun a => absurd (show Nat.testBit 0xb5ffffff 8 = true from rfl) (by rw [a]; decide)
    rings := fun a => absurd (show Nat.testBit 0xb5ffffff 9 = true from rfl) (by rw [a]; decide)
    engs := fun a => absurd (show Nat.testBit 0xb5ffffff 10 = true from rfl) (by rw [a]; decide)
    lsc := fun a => absurd (show Nat.testBit 0xb5ffffff 11 = true from rfl) (by rw [a]; decide)
    tiles := fun a => absurd (show Nat.testBit 0xb5ffffff 12 = true from rfl) (by rw [a]; decide)
    parts := fun a => absurd (show Nat.testBit 0xb5ffffff 13 = true from rfl) (by rw [a]; decide)
    pages := fun a => absurd (show Nat.testBit 0xb5ffffff 14 = true from rfl) (by rw [a]; decide)
    vmem := fun a => absurd (show Nat.testBit 0xb5ffffff 15 = true from rfl) (by rw [a]; decide)
    idle := fun a => absurd (show Nat.testBit 0xb5ffffff 16 = true from rfl) (by rw [a]; decide)
    rot := fun a => absurd (show Nat.testBit 0xb5ffffff 17 = true from rfl) (by rw [a]; decide)
    gov := fun a => absurd (show Nat.testBit 0xb5ffffff 18 = true from rfl) (by rw [a]; decide)
    herd := fun a => absurd (show Nat.testBit 0xb5ffffff 19 = true from rfl) (by rw [a]; decide)
    pack := fun a => absurd (show Nat.testBit 0xb5ffffff 20 = true from rfl) (by rw [a]; decide)
    est := fun a => absurd (show Nat.testBit 0xb5ffffff 21 = true from rfl) (by rw [a]; decide)
    ctr := fun a => absurd (show Nat.testBit 0xb5ffffff 22 = true from rfl) (by rw [a]; decide)
    field := fun a => absurd (show Nat.testBit 0xb5ffffff 23 = true from rfl) (by rw [a]; decide)
    rnd := fun a => absurd (show Nat.testBit 0xb5ffffff 24 = true from rfl) (by rw [a]; decide)
    freeIx := fun _ => rfl
    mail := fun a => absurd (show Nat.testBit 0xb5ffffff 26 = true from rfl) (by rw [a]; decide)
    stored := fun _ => rfl
    clock := fun a => absurd (show Nat.testBit 0xb5ffffff 28 = true from rfl) (by rw [a]; decide)
    lines := fun a => absurd (show Nat.testBit 0xb5ffffff 29 = true from rfl) (by rw [a]; decide) }
  exact Keeps.foldl _ h fun _ _ k => Keeps.putAny rfl k

theorem State.auxUp_keeps (s : State) :
    Keeps 0xb5ffffff s (State.auxUp s) := by
  unfold State.auxUp
  refine Keeps.ite (fun _ => ?_) (fun _ => ?_)
  · refine Keeps.step (State.auxReset_keeps ..) rfl ?_
    exact Keeps.refl _ _
  · exact Keeps.refl _ _

theorem State.auxDrop_keeps (s : State) :
    Keeps 0xb5ffffff s (State.auxDrop s) := by
  unfold State.auxDrop
  refine Keeps.ite (fun _ => ?_) (fun _ => ?_)
  · refine Keeps.step (State.auxReset_keeps ..) rfl ?_
    exact Keeps.refl _ _
  · exact Keeps.refl _ _

theorem State.leaveReset_keeps (s : State) :
    Keeps mask311 s (State.leaveReset s) := by
  unfold State.leaveReset
  extract_lets v1 v2 v3 v4 v5 v6 v7 v8 v9 v10
  have h11 : Keeps mask311 s v3 := by
    unfold v3
    refine Keeps.put rfl ?_
    exact Keeps.setRnd (s := { s with pow := { s.pow with phase := .s } }) _ rfl (Keeps.setPow _ rfl (Keeps.refl _ _))
  clear_value v3
  have h12 : Keeps mask311 s v4.2 := by
    unfold v4
    refine Keeps.step (State.free_keeps ..) rfl ?_
    refine Keeps.step (State.timeRestore_keeps ..) rfl ?_
    exact h11
  clear_value v4
  have h13 : Keeps mask311 s v5.2 := by
    unfold v5
    refine Keeps.step (State.free_keeps ..) rfl ?_
    exact h12
  clear_value v5
  have h14 : Keeps mask311 s v6 := by
    unfold v6
    refine Keeps.putFlag rfl ?_
    refine Keeps.put rfl ?_
    refine Keeps.put rfl ?_
    exact h13
  clear_value v6
  have h15 : Keeps mask311 s v7 := by
    unfold v7
    refine Keeps.put rfl ?_
    refine Keeps.put rfl ?_
    exact h14
  clear_value v7
  have h16 : Keeps mask311 s v10 := by
    unfold v10
    refine (Keeps.setRnd _ rfl ?_)
    exact h15
  clear_value v10
  refine Keeps.step (State.chainStage_keeps ..) rfl ?_
  refine Keeps.step (State.tchBegin_keeps ..) rfl ?_
  refine Keeps.step (State.packRestart_keeps ..) rfl ?_
  refine Keeps.step (State.rindSettle_keeps ..) rfl ?_
  refine Keeps.step (State.safetyCheck_keeps ..) rfl ?_
  exact h16

theorem State.resetEnd_keeps (s : State) :
    Keeps mask312 s (State.resetEnd s) := by
  unfold State.resetEnd
  refine Keeps.ite (fun _ => ?_) (fun _ => ?_)
  · refine Keeps.step (State.recsOut_keeps ..) rfl ?_
    refine Keeps.step (State.leaveReset_keeps ..) rfl ?_
    refine Keeps.step (State.recsIn_keeps ..) rfl ?_
    exact Keeps.refl _ _
  · exact Keeps.refl _ _

theorem State.auxWarning_keeps (s : State) :
    Keeps mask313 s (State.auxWarning s) := by
  unfold State.auxWarning
  refine Keeps.ite (fun _ => ?_) (fun _ => ?_)
  · exact Keeps.refl _ _
  · extract_lets v1 v2 v3 v4 v5 v6 v7 v8 v9
    have h10 : Keeps mask313 s v1 := by
      unfold v1
      refine Keeps.putFlag rfl ?_
      refine Keeps.putFlag rfl ?_
      exact Keeps.refl _ _
    clear_value v1
    have h11 : Keeps mask313 s v4 := by
      unfold v4
      refine Keeps.ite (fun _ => ?_) (fun _ => ?_)
      · refine (Keeps.setTim _ rfl ?_)
        exact h10
      · exact h10
    clear_value v4
    have h12 : Keeps mask313 s v5 := by
      unfold v5
      refine Keeps.step (State.lastGasp_keeps ..) rfl ?_
      refine Keeps.step (State.timeWrite_keeps ..) rfl ?_
      exact h11
    clear_value v5
    have h13 : Keeps mask313 s v6 := by
      unfold v6
      refine State.serviced_keeps rfl ?_
      refine Keeps.step (State.chainSilent_keeps ..) rfl ?_
      refine Keeps.step (State.coreShutdown_keeps ..) rfl ?_
      refine Keeps.step (State.outputsOff_keeps ..) rfl ?_
      exact h12
    clear_value v6
    have h14 : Keeps mask313 s v9 := by
      unfold v9
      refine (Keeps.setRcd _ rfl id ?_)
      exact h13
    clear_value v9
    refine Keeps.step (State.pd3On_keeps ..) rfl ?_
    exact h14

theorem State.timeCut_keeps (s : State) :
    Keeps 0x12000020 s (State.timeCut s) := by
  unfold State.timeCut
  split
  · rename_i y1 y2 y3 y4
    refine Keeps.ite (fun _ => ?_) (fun _ => ?_)
    · extract_lets v5 v6 v7
      have h8 : Keeps 0x12000020 s v5.2 := by
        unfold v5
        refine Keeps.step (State.free_keeps ..) rfl ?_
        exact Keeps.refl _ _
      clear_value v5
      have h9 : Keeps 0x12000020 s v6 := by
        unfold v6
        exact h8
      clear_value v6
      refine (Keeps.setTim _ rfl ?_)
      exact h9
    · exact Keeps.refl _ _
  · rename_i y10 y11
    exact Keeps.refl _ _

theorem State.holdupOver_keeps (s : State) (auxHigh : Bool) :
    Keeps 0xbfffffff s (State.holdupOver s auxHigh) := by
  unfold State.holdupOver
  refine Keeps.ite (fun _ => ?_) (fun _ => ?_)
  · extract_lets v1
    have h2 : Keeps 0xbfffffff s v1.2 := by
      unfold v1
      refine Keeps.step (State.free_keeps ..) rfl ?_
      refine Keeps.step (State.timeCut_keeps ..) rfl ?_
      exact Keeps.refl _ _
    clear_value v1
    refine Keeps.step (State.auxReset_keeps ..) rfl ?_
    refine Keeps.step (State.progCut_keeps ..) rfl ?_
    exact h2
  · exact Keeps.refl _ _

theorem State.scanEnd_keeps (s : State) :
    Keeps mask130 s (State.scanEnd s) := by
  unfold State.scanEnd
  refine Keeps.ite (fun _ => ?_) (fun _ => ?_)
  · exact Keeps.refl _ _
  · refine Keeps.step (State.scanDone_keeps ..) rfl ?_
    exact Keeps.refl _ _

theorem State.recOff_keeps (s : State) :
    Keeps 0x1 s (State.recOff s) := by
  unfold State.recOff
  refine Keeps.ite (fun _ => ?_) (fun _ => ?_)
  · refine Keeps.step (State.setDom_keeps ..) rfl ?_
    exact Keeps.refl _ _
  · exact Keeps.refl _ _

theorem State.milkWake_keeps (s : State) :
    Keeps mask314 s (State.milkWake s) := by
  unfold State.milkWake
  refine Keeps.ite (fun _ => ?_) (fun _ => ?_)
  · refine Keeps.step (State.herdWake_keeps ..) rfl ?_
    refine Keeps.step (State.wakeSrc_keeps ..) rfl ?_
    exact Keeps.refl _ _
  · exact Keeps.refl _ _

theorem State.pdReqActs_keeps (was : State) (s : State) :
    Keeps mask34 s (State.pdReqActs was s).1 := by
  unfold State.pdReqActs
  extract_lets v1 v2 v3 v4
  have h5 : Keeps mask34 s v3 := by
    unfold v3
    refine Keeps.put rfl ?_
    refine Keeps.put rfl ?_
    exact Keeps.refl _ _
  clear_value v3
  have h9 : Keeps mask34 s v4 := by
    unfold v4
    refine Keeps.put rfl ?_
    refine Keeps.put rfl ?_
    exact h5
  clear_value v4
  refine Keeps.iteFst (fun _ => ?_) (fun _ => ?_)
  · dsimp only
    refine Keeps.step (State.refusedBits_keeps ..) rfl ?_
    exact h9
  · refine Keeps.iteFst (fun _ => ?_) (fun _ => ?_)
    · dsimp only
      refine Keeps.step (State.refusedBits_keeps ..) rfl ?_
      refine Keeps.put rfl ?_
      exact Keeps.refl _ _
    · dsimp only
      exact Keeps.refl _ _

theorem State.svcKey_keeps (s : State) (on : Bool) :
    Keeps mask315 s (State.svcKey s on) := by
  unfold State.svcKey
  extract_lets v1 v2 v3
  have h4 : Keeps mask315 s v2 := by
    unfold v2
    unfold State.putFlag
    refine Keeps.put rfl ?_
    exact Keeps.refl _ _
  clear_value v2
  have h8 : Keeps mask315 s v3 := by
    unfold v3
    refine Keeps.step (State.frontReport_keeps ..) rfl ?_
    exact h4
  clear_value v3
  refine Keeps.ite (fun _ => ?_) (fun _ => ?_)
  · refine Keeps.ite (fun _ => ?_) (fun _ => ?_)
    · refine Keeps.step (State.safetyCommit_keeps ..) rfl ?_
      exact h8
    · exact h8
  · exact h4

theorem State.wakeIn_keeps (s : State) (on : Bool) :
    Keeps mask316 s (State.wakeIn s on) := by
  unfold State.wakeIn
  extract_lets v1 v2
  have h3 : Keeps mask316 s v1 := by
    unfold v1
    unfold State.putFlag
    refine Keeps.put rfl ?_
    exact Keeps.refl _ _
  clear_value v1
  have h7 : Keeps mask316 s v2 := by
    unfold v2
    refine Keeps.step (State.frontReport_keeps ..) rfl ?_
    exact h3
  clear_value v2
  refine Keeps.ite (fun _ => ?_) (fun _ => ?_)
  · refine Keeps.ite (fun _ => ?_) (fun _ => ?_)
    · refine Keeps.step (State.powerSettle_keeps ..) rfl ?_
      refine Keeps.step (State.request_keeps ..) rfl ?_
      refine Keeps.step (State.wakeSrc_keeps ..) rfl ?_
      exact h7
    · exact h7
  · exact h3

theorem State.lightChange_keeps (s : State) (p : Nat) (on : Bool) :
    Keeps mask317 s (State.lightChange s p on) := by
  unfold State.lightChange
  extract_lets v1 v2
  have h3 : Keeps mask317 s v1 := by
    unfold v1
    unfold State.putBitOf
    refine Keeps.put rfl ?_
    exact Keeps.refl _ _
  clear_value v1
  have h7 : Keeps mask317 s v2 := by
    unfold v2
    refine Keeps.step (State.frontReport_keeps ..) rfl ?_
    exact h3
  clear_value v2
  refine Keeps.ite (fun _ => ?_) (fun _ => ?_)
  · refine Keeps.ite (fun _ => ?_) (fun _ => ?_)
    · refine Keeps.step (State.powerSettle_keeps ..) rfl ?_
      refine Keeps.step (State.request_keeps ..) rfl ?_
      refine Keeps.step (State.wakeSrc_keeps ..) rfl ?_
      exact h7
    · exact h7
  · exact h3

theorem State.lscPres_keeps (s : State) (mated : Bool) :
    Keeps mask318 s (State.lscPres s mated) := by
  unfold State.lscPres
  extract_lets v1 v2 v3 v4 v5 v6 v7 v8 v9
  have h10 : Keeps mask318 s v3 := by
    unfold v3
    refine Keeps.ite (fun _ => ?_) (fun _ => ?_)
    · exact Keeps.refl _ _
    · refine (Keeps.setLsc _ rfl ?_)
      exact Keeps.refl _ _
  clear_value v3
  have h11 : Keeps mask318 s v4 := by
    unfold v4
    refine Keeps.putFlag rfl ?_
    exact h10
  clear_value v4
  have h12 : Keeps mask318 s v5 := by
    unfold v5
    refine Keeps.step (State.frontReport_keeps ..) rfl ?_
    exact h11
  clear_value v5
  have h13 : Keeps mask318 s v6 := by
    unfold v6
    refine Keeps.putFlag rfl ?_
    exact h12
  clear_value v6
  have h14 : Keeps mask318 s v9 := by
    unfold v9
    refine Keeps.step (State.lasersOff_keeps ..) rfl ?_
    exact h12
  clear_value v9
  refine Keeps.ite (fun _ => ?_) (fun _ => ?_)
  · refine Keeps.ite (fun _ => ?_) (fun _ => ?_)
    · refine Keeps.ite (fun _ => ?_) (fun _ => ?_)
      · exact h12
      · refine Keeps.step (State.lenSettle_keeps ..) rfl ?_
        refine (Keeps.setPow _ rfl ?_)
        exact h13
    · refine Keeps.ite (fun _ => ?_) (fun _ => ?_)
      · refine Keeps.step (State.powerSettle_keeps ..) rfl ?_
        refine Keeps.ite (fun _ => ?_) (fun _ => ?_)
        · refine Keeps.step (State.lscEv_keeps ..) rfl ?_
          exact h14
        · exact h14
      · exact h12
  · exact h11

theorem State.fieldConn_keeps (s : State) (mated : Bool) :
    Keeps mask319 s (State.fieldConn s mated) := by
  unfold State.fieldConn
  extract_lets v1 v2
  have h3 : Keeps mask319 s v1 := by
    unfold v1
    unfold State.putFlag
    refine Keeps.put rfl ?_
    exact Keeps.refl _ _
  clear_value v1
  have h7 : Keeps mask319 s v2 := by
    unfold v2
    refine Keeps.put rfl ?_
    refine Keeps.put rfl ?_
    exact h3
  clear_value v2
  refine Keeps.ite (fun _ => ?_) (fun _ => ?_)
  · exact h3
  · refine State.runs_keeps rfl ?_ ?_
    · exact h7
    · intro x16
      intro x18
      refine Keeps.step (State.fieldGone_keeps ..) rfl ?_
      refine Keeps.step (State.rindSettle_keeps ..) rfl ?_
      refine Keeps.foldl _ ?_ (fun a22 b23 k24 => ?_)
      · exact x18
      · refine Keeps.step (State.siTrack_keeps ..) rfl ?_
        exact k24

theorem State.harness_keeps (s : State) (hpres : Bool) (bjl : Bool) :
    Keeps mask320 s (State.harness s hpres bjl) := by
  unfold State.harness
  extract_lets v1
  have h2 : Keeps mask320 s v1 := by
    unfold v1
    unfold State.putFlag
    refine Keeps.put rfl ?_
    refine Keeps.put rfl ?_
    exact Keeps.refl _ _
  clear_value v1
  refine State.runs_keeps rfl ?_ ?_
  · exact h2
  · intro x10
    intro x12
    refine Keeps.ite (fun _ => ?_) (fun _ => ?_)
    · exact x12
    · refine Keeps.step (State.coilsLost_keeps ..) rfl ?_
      exact x12

theorem State.cableChange_keeps (s : State) (c : Nat) (present : Bool) :
    Keeps mask321 s (State.cableChange s c present) := by
  unfold State.cableChange
  extract_lets v1
  have h2 : Keeps mask321 s v1 := by
    unfold v1
    unfold State.putBitOf
    refine Keeps.put rfl ?_
    exact Keeps.refl _ _
  clear_value v1
  refine State.runs_keeps rfl ?_ ?_
  · exact h2
  · intro x9
    intro x11
    refine Keeps.ite (fun _ => ?_) (fun _ => ?_)
    · refine Keeps.step (State.tryCopper_keeps ..) rfl ?_
      refine Keeps.step (State.lmClear_keeps ..) rfl ?_
      exact x11
    · exact x11

theorem State.nidStrap_keeps (s : State) (nid : Nat) :
    Keeps 0x1 s (State.nidStrap s nid) := by
  unfold State.nidStrap
  extract_lets v1
  refine (Keeps.setPow _ rfl ?_)
  exact Keeps.refl _ _

theorem State.fltWire_keeps (s : State) (read : Nat) :
    Keeps mask322 s (State.fltWire s read) := by
  unfold State.fltWire
  refine Keeps.ite (fun _ => ?_) (fun _ => ?_)
  · exact Keeps.refl _ _
  · refine Keeps.ite (fun _ => ?_) (fun _ => ?_)
    · refine Keeps.put rfl ?_
      exact Keeps.refl _ _
    · refine Keeps.step (State.aonEv_keeps ..) rfl ?_
      refine Keeps.put rfl ?_
      refine Keeps.putFlag rfl ?_
      exact Keeps.refl _ _

theorem State.fltWireEnd_keeps (s : State) (read : Nat) :
    Keeps mask323 s (State.fltWireEnd s read) := by
  unfold State.fltWireEnd
  refine Keeps.ite (fun _ => ?_) (fun _ => ?_)
  · refine Keeps.put rfl ?_
    unfold State.putFlag
    refine Keeps.put rfl ?_
    exact Keeps.refl _ _
  · exact Keeps.refl _ _

end Sys2Proof.Machine
end

