-- ==== Sys2Proof/Laws/KeepsSupWr.lean ====
section
/-! SUPPORT. The frame of every function of Machine/SupWr.lean: what it may change, and that it keeps the canonical forms and
the waiting commands. -/
namespace Sys2Proof.Machine

set_option Elab.async false

theorem State.supFields_keeps (s : State) (idx : Nat) (v : Nat) :
    Keeps mask344 s (State.supFields s idx v) := by
  unfold State.supFields
  split
  · rename_i y1 y2 y3 y4
    refine Keeps.writeReg (by assumption) (by decide +kernel) ?_
    exact Keeps.refl _ _
  · rename_i y7 y8
    exact Keeps.refl _ _

theorem State.supFltWrite_keeps (s : State) (c : Nat) (o : Nat) (v : Nat) :
    Keeps mask324 s (State.supFltWrite s c o v) := by
  unfold State.supFltWrite
  refine Keeps.ite (fun _ => ?_) (fun _ => ?_)
  · refine Keeps.ite (fun _ => ?_) (fun _ => ?_)
    · refine Keeps.step (State.fltAck_keeps ..) rfl ?_
      exact Keeps.refl _ _
    · exact Keeps.refl _ _
  · refine Keeps.ite (fun _ => ?_) (fun _ => ?_)
    · refine Keeps.step (State.setBlk_keeps ..) rfl ?_
      exact Keeps.refl _ _
    · refine Keeps.ite (fun _ => ?_) (fun _ => ?_)
      · refine Keeps.step (State.setBlk_keeps ..) rfl ?_
        exact Keeps.refl _ _
      · exact Keeps.refl _ _

theorem State.gcStage_keeps (s : State) (n : Nat) (v : Nat) :
    Keeps 0x20 s (State.gcStage s n v) := by
  unfold State.gcStage
  extract_lets v1
  refine (Keeps.setTim _ rfl ?_)
  exact Keeps.refl _ _

theorem State.gcLoad_keeps (s : State) (n : Nat) (v : Nat) :
    Keeps 0x20 s (State.gcLoad s n v) := by
  unfold State.gcLoad
  extract_lets v1
  refine (Keeps.setTim _ rfl ?_)
  exact Keeps.refl _ _

theorem State.vatReqSat_keeps (s : State) :
    Keeps mask118 s (State.vatReqSat s) := by
  unfold State.vatReqSat
  refine Keeps.ite (fun _ => ?_) (fun _ => ?_)
  · refine Keeps.put rfl ?_
    exact Keeps.refl _ _
  · exact Keeps.refl _ _

theorem State.supActs_keeps (was : State) (s : State) (idx : Nat) (v : Nat) :
    Keeps mask345 s (State.supActs was s idx v).1 := by
  unfold State.supActs
  refine Keeps.iteFst (fun _ => ?_) (fun _ => ?_)
  · refine Keeps.step (State.pdReqActs_keeps ..) rfl ?_
    refine Keeps.step (State.vatReqSat_keeps ..) rfl ?_
    exact Keeps.refl _ _
  · refine Keeps.iteFst (fun _ => ?_) (fun _ => ?_)
    · dsimp only
      refine Keeps.step (State.gateSettle_keeps ..) rfl ?_
      exact Keeps.refl _ _
    · refine Keeps.iteFst (fun _ => ?_) (fun _ => ?_)
      · dsimp only
        refine Keeps.step (State.stoReqActs_keeps ..) rfl ?_
        exact Keeps.refl _ _
      · refine Keeps.iteFst (fun _ => ?_) (fun _ => ?_)
        · dsimp only
          refine Keeps.step (State.freqActs_keeps ..) rfl ?_
          exact Keeps.refl _ _
        · refine Keeps.iteFst (fun _ => ?_) (fun _ => ?_)
          · dsimp only
            refine Keeps.step (State.gcLoad_keeps ..) rfl ?_
            exact Keeps.refl _ _
          · refine Keeps.iteFst (fun _ => ?_) (fun _ => ?_)
            · dsimp only
              refine Keeps.step (State.gcStage_keeps ..) rfl ?_
              exact Keeps.refl _ _
            · refine Keeps.iteFst (fun _ => ?_) (fun _ => ?_)
              · dsimp only
                refine Keeps.step (State.hrdCtlActs_keeps ..) rfl ?_
                exact Keeps.refl _ _
              · refine Keeps.iteFst (fun _ => ?_) (fun _ => ?_)
                · dsimp only
                  refine Keeps.step (State.pkmCfgActs_keeps ..) rfl ?_
                  exact Keeps.refl _ _
                · refine Keeps.iteFst (fun _ => ?_) (fun _ => ?_)
                  · dsimp only
                    refine Keeps.put rfl ?_
                    exact Keeps.refl _ _
                  · refine Keeps.iteFst (fun _ => ?_) (fun _ => ?_)
                    · extract_lets v38
                      have h39 : Keeps mask345 s v38 := by
                        unfold v38
                        refine Keeps.ite (fun _ => ?_) (fun _ => ?_)
                        · refine Keeps.step (State.sohReset_keeps ..) rfl ?_
                          exact Keeps.refl _ _
                        · exact Keeps.refl _ _
                      clear_value v38
                      dsimp only
                      refine Keeps.ite (fun _ => ?_) (fun _ => ?_)
                      · refine Keeps.step (State.socReinit_keeps ..) rfl ?_
                        exact h39
                      · exact h39
                    · refine Keeps.iteFst (fun _ => ?_) (fun _ => ?_)
                      · dsimp only
                        refine Keeps.step (State.ctrCfgSat_keeps ..) rfl ?_
                        exact Keeps.refl _ _
                      · refine Keeps.iteFst (fun _ => ?_) (fun _ => ?_)
                        · dsimp only
                          refine Keeps.step (State.lswCfgSat_keeps ..) rfl ?_
                          exact Keeps.refl _ _
                        · refine Keeps.iteFst (fun _ => ?_) (fun _ => ?_)
                          · dsimp only
                            refine Keeps.step (State.loopCfgSat_keeps ..) rfl ?_
                            exact Keeps.refl _ _
                          · refine Keeps.iteFst (fun _ => ?_) (fun _ => ?_)
                            · dsimp only
                              refine Keeps.step (State.tchCfgSat_keeps ..) rfl ?_
                              exact Keeps.refl _ _
                            · dsimp only
                              exact Keeps.refl _ _

theorem State.supWrite_keeps (s : State) (idx : Nat) (v : Nat) :
    Keeps mask346 s (State.supWrite s idx v).1 := by
  unfold State.supWrite
  split
  · rename_i y1 y2 y3 y4
    dsimp only
    refine Keeps.step (State.supFltWrite_keeps ..) rfl ?_
    exact Keeps.refl _ _
  · rename_i y5 y6
    refine Keeps.iteFst (fun _ => ?_) (fun _ => ?_)
    · dsimp only
      refine (Keeps.setMgt _ rfl ?_)
      exact Keeps.refl _ _
    · refine Keeps.step (State.supActs_keeps ..) rfl ?_
      refine Keeps.step (State.supFields_keeps ..) rfl ?_
      exact Keeps.refl _ _

theorem State.plcaSettle_keeps (s : State) :
    Keeps mask347 s (State.plcaSettle s) := by
  unfold State.plcaSettle
  refine Keeps.put rfl ?_
  exact Keeps.refl _ _

theorem State.plcaApply_keeps (s : State) :
    Keeps mask348 s (State.plcaApply s) := by
  unfold State.plcaApply
  split
  · rename_i y1 y2
    exact Keeps.refl _ _
  · rename_i y4 y5 y6
    refine Keeps.step (State.plcaSettle_keeps ..) rfl ?_
    refine Keeps.step (State.supFields_keeps ..) rfl ?_
    extract_lets v10
    refine (Keeps.setMgt _ rfl ?_)
    exact Keeps.refl _ _

theorem State.plcaStatus_keeps (s : State) (ok : Bool) :
    Keeps mask349 s (State.plcaStatus s ok) := by
  unfold State.plcaStatus
  refine Keeps.step (State.plcaSettle_keeps ..) rfl ?_
  extract_lets v2
  refine (Keeps.setMgt _ rfl ?_)
  exact Keeps.refl _ _

theorem State.plcaFail_keeps (s : State) :
    Keeps mask3 s (State.plcaFail s) := by
  unfold State.plcaFail
  refine Keeps.ite (fun _ => ?_) (fun _ => ?_)
  · refine Keeps.step (State.event_keeps ..) rfl ?_
    exact Keeps.refl _ _
  · exact Keeps.refl _ _

end Sys2Proof.Machine
end

