-- ==== Sys2Proof/Laws/KeepsViews.lean ====
section
/-! SUPPORT. The frame of every function of Machine/Views.lean: what it may change, and that it keeps the canonical forms and
the waiting commands. -/
namespace Sys2Proof.Machine

set_option Elab.async false

theorem State.supRead_keeps (s : State) (who : Nat) (idx : Nat) :
    Keeps 0x2000020 s (State.supRead s who idx).2 := by
  unfold State.supRead
  split
  · rename_i y1 y2 y3
    extract_lets v5
    dsimp only
    exact Keeps.refl _ _
  · rename_i y8 y9
    extract_lets v11 v12 v13 v14
    have h15 : Keeps 0x2000020 s v13 := by
      unfold v13
      refine (Keeps.setTim _ rfl ?_)
      exact Keeps.refl _ _
    clear_value v13
    have h18 : Keeps 0x2000020 s v14.2 := by
      unfold v14
      refine Keeps.step (State.free_keeps ..) rfl ?_
      exact h15
    clear_value v14
    refine Keeps.iteSnd (fun _ => ?_) (fun _ => ?_)
    · dsimp only
      exact h18
    · dsimp only
      exact h15

theorem State.supReads_keeps (who : Nat) (l0 : Nat) (a2 : Nat) (a3 : State) :
    Keeps 0x2000020 a3 (State.supReads who l0 a2 a3).2 := by
  induction l0 generalizing who a2 a3 with
  | zero =>
    unfold State.supReads
    dsimp only
    exact Keeps.refl _ _
  | succ l0 ih =>
    unfold State.supReads
    extract_lets v21 v22
    have h23 : Keeps 0x2000020 a3 v21.2 := by
      unfold v21
      refine Keeps.step (State.supRead_keeps ..) rfl ?_
      exact Keeps.refl _ _
    clear_value v21
    have h26 : Keeps 0x2000020 a3 v22.2 := by
      unfold v22
      refine Keeps.step (ih ..) rfl ?_
      exact h23
    clear_value v22
    dsimp only
    exact h26

end Sys2Proof.Machine
end

