-- ==== Sys2Proof/Laws/KeepsOrders.lean ====
section
/-! SUPPORT. The frame of every function of Machine/Orders.lean: what it may change, and that it keeps the canonical forms and
the waiting commands. -/
namespace Sys2Proof.Machine

set_option Elab.async false

theorem State.wakeSet_keeps (s : State) (m : Nat) :
    Keeps mask350 s (State.wakeSet s m) := by
  unfold State.wakeSet
  extract_lets v1 v2
  have h3 : Keeps mask350 s v1 := by
    unfold v1
    refine Keeps.ite (fun _ => ?_) (fun _ => ?_)
    · unfold State.putFlag
      refine Keeps.put rfl ?_
      exact Keeps.refl _ _
    · exact Keeps.refl _ _
  clear_value v1
  have h9 : Keeps mask350 s v2 := by
    unfold v2
    refine Keeps.ite (fun _ => ?_) (fun _ => ?_)
    · refine Keeps.put rfl ?_
      exact h3
    · exact h3
  clear_value v2
  refine Keeps.put rfl ?_
  refine Keeps.put rfl ?_
  exact h9

theorem State.sleepSet_keeps (s : State) (m : Nat) (vat : Nat) :
    Keeps mask350 s (State.sleepSet s m vat) := by
  unfold State.sleepSet
  extract_lets v1 v2
  have h3 : Keeps mask350 s v1 := by
    unfold v1
    refine Keeps.ite (fun _ => ?_) (fun _ => ?_)
    · unfold State.putFlag
      refine Keeps.put rfl ?_
      exact Keeps.refl _ _
    · exact Keeps.refl _ _
  clear_value v1
  have h9 : Keeps mask350 s v2 := by
    unfold v2
    refine Keeps.ite (fun _ => ?_) (fun _ => ?_)
    · refine Keeps.put rfl ?_
      exact h3
    · exact h3
  clear_value v2
  refine Keeps.put rfl ?_
  refine Keeps.put rfl ?_
  exact h9

theorem State.regOne_keeps (s : State) (won : Nat → Bool) (idx : Nat) (v : Nat) :
    Keeps mask346 s (State.regOne s won idx v).1 := by
  unfold State.regOne
  refine Keeps.iteFst (fun _ => ?_) (fun _ => ?_)
  · refine Keeps.step (State.supWrite_keeps ..) rfl ?_
    exact Keeps.refl _ _
  · refine Keeps.iteFst (fun _ => ?_) (fun _ => ?_)
    · refine Keeps.iteFst (fun _ => ?_) (fun _ => ?_)
      · refine Keeps.step (State.supWrite_keeps ..) rfl ?_
        exact Keeps.refl _ _
      · dsimp only
        exact Keeps.refl _ _
    · refine Keeps.step (State.supWrite_keeps ..) rfl ?_
      exact Keeps.refl _ _

theorem State.regAll_keeps {M : Nat} {s0 : State} {won : Nat → Bool} {l : List (Nat × Nat)} {x : State × Option Nat}
    (m : mask346 ||| M = M) (h : Keeps M s0 x.1) : Keeps M s0 (State.regAll won l x).1 := by
  induction l generalizing x with
  | nil => exact h
  | cons a l ih => exact ih (Keeps.step (State.regOne_keeps ..) m h)

theorem State.keyChange_keeps (s : State) (slot : Nat) (k : Bytes) :
    Keeps 0x4000040 s (State.keyChange s slot k) := by
  unfold State.keyChange
  extract_lets v1
  refine (Keeps.setMgt _ rfl ?_)
  exact Keeps.refl _ _

theorem State.regWriteDo_keeps (s : State) (won : Nat → Bool) (idx : Nat) (vs : List W32) :
    Keeps mask346 s (State.regWriteDo s won idx vs).1 := by
  unfold State.regWriteDo
  refine Keeps.iteFst (fun _ => ?_) (fun _ => ?_)
  · split
    · rename_i y2 y3 y4
      dsimp only
      refine Keeps.step (State.keyChange_keeps ..) rfl ?_
      exact Keeps.refl _ _
    · rename_i y8 y9 y10
      dsimp only
      refine Keeps.step (State.keyChange_keeps ..) rfl ?_
      exact Keeps.refl _ _
    · rename_i y14 y15
      dsimp only
      exact Keeps.refl _ _
  · extract_lets v19
    have h20 : Keeps mask346 s v19.1 := by
      unfold v19
      refine State.regAll_keeps rfl ?_
      dsimp only
      exact Keeps.refl _ _
    clear_value v19
    split
    · rename_i y25 y26
      dsimp only
      exact h20
    · rename_i y29 y30 y31
      dsimp only
      exact h20

theorem State.shareSet_keeps (s : State) (p : Nat) (r : Nat) :
    Keeps mask351 s (State.shareSet s p r) := by
  unfold State.shareSet
  refine State.withSvc_keeps rfl ?_ ?_
  · extract_lets v2
    refine (Keeps.setGov _ rfl ?_)
    exact Keeps.refl _ _
  · intro x6
    intro x8
    refine Keeps.step (State.assistSettle_keeps ..) rfl ?_
    exact x8

theorem State.lswDo_keeps (s : State) (n : Nat) (on : Bool) (cfg : Option (Nat × Nat)) :
    Keeps mask352 s (State.lswDo s n on cfg).1 := by
  unfold State.lswDo
  refine Keeps.iteFst (fun _ => ?_) (fun _ => ?_)
  · extract_lets v2
    have h3 : Keeps mask352 s v2.2 := by
      unfold v2
      refine Keeps.step (State.lswRefusal_keeps ..) rfl ?_
      exact Keeps.refl _ _
    clear_value v2
    split
    · rename_i y7 y8 y9 y10
      dsimp only
      exact h3
    · rename_i y13 y14
      dsimp only
      refine Keeps.step (State.lswOrder_keeps ..) rfl ?_
      exact h3
  · dsimp only
    refine Keeps.step (State.lswOrder_keeps ..) rfl ?_
    exact Keeps.refl _ _

theorem State.contactorDo_keeps (s : State) (st : Bool) (c : Nat) (close : Bool) (force : Bool) :
    Keeps mask353 s (State.contactorDo s st c close force).1 := by
  unfold State.contactorDo
  refine Keeps.iteFst (fun _ => ?_) (fun _ => ?_)
  · split
    · rename_i y2 y3 y4 y5
      dsimp only
      exact Keeps.refl _ _
    · rename_i y8 y9
      dsimp only
      refine Keeps.step (State.gateSettle_keeps ..) rfl ?_
      refine Keeps.step (State.closeOrder_keeps ..) rfl ?_
      exact Keeps.refl _ _
  · dsimp only
    refine Keeps.step (State.openOrder_keeps ..) rfl ?_
    exact Keeps.refl _ _

theorem loadAns_keeps {M : Nat} {s0 : State} {x : State × Option Nat} (_ : 0x0 ||| M = M) (h : Keeps M s0 x.1) :
    Keeps M s0 (loadAns x).1 := by
  unfold loadAns
  split
  · exact h
  · exact h

theorem State.orderDo_keeps (s : State) (a1 : Nat) (st : Bool) (won : Nat → Bool) (l0 : Order) :
    Keeps mask354 s (State.orderDo s a1 st won l0).1 := by
  unfold State.orderDo
  split
  · rename_i y1 y2 y3
    refine Keeps.step (State.regWriteDo_keeps ..) rfl ?_
    exact Keeps.refl _ _
  · rename_i y6 y7
    extract_lets v9
    dsimp only
    refine Keeps.step (State.wakeSet_keeps ..) rfl ?_
    exact Keeps.refl _ _
  · rename_i y13 y14 y15 y16
    refine Keeps.iteFst (fun _ => ?_) (fun _ => ?_)
    · dsimp only
      refine Keeps.step (State.coreSleep_keeps ..) rfl ?_
      exact Keeps.refl _ _
    · dsimp only
      refine Keeps.step (State.sleepSet_keeps ..) rfl ?_
      exact Keeps.refl _ _
  · rename_i y24 y25 y26 y27
    refine Keeps.step (State.contactorDo_keeps ..) rfl ?_
    exact Keeps.refl _ _
  · rename_i y30 y31 y32 y33 y34 y35
    refine Keeps.step (State.lswDo_keeps ..) rfl ?_
    exact Keeps.refl _ _
  · rename_i y38 y39 y40
    refine Keeps.iteFst (fun _ => ?_) (fun _ => ?_)
    · dsimp only
      refine Keeps.step (State.loopSet_keeps ..) rfl ?_
      exact Keeps.refl _ _
    · dsimp only
      exact Keeps.refl _ _
  · rename_i y47 y48 y49
    dsimp only
    refine Keeps.step (State.shareSet_keeps ..) rfl ?_
    exact Keeps.refl _ _
  · rename_i y53 y54
    refine loadAns_keeps rfl ?_
    refine Keeps.step (State.limitLoad_keeps ..) rfl ?_
    exact Keeps.refl _ _
  · rename_i y58 y59
    refine loadAns_keeps rfl ?_
    refine Keeps.step (State.modelLoad_keeps ..) rfl ?_
    exact Keeps.refl _ _
  · rename_i y63 y64
    refine loadAns_keeps rfl ?_
    refine Keeps.step (State.safetyLoad_keeps ..) rfl ?_
    exact Keeps.refl _ _
  · rename_i y68 y69 y70
    split
    · rename_i y72 y73 y74
      have h75 : Keeps mask354 s y73 := by
        refine KeepsO.get y74 ?_
        refine KeepsO.step (State.faultAck_keeps ..) rfl ?_
        exact Keeps.refl _ _
      dsimp only
      exact h75
    · rename_i y80 y81
      dsimp only
      exact Keeps.refl _ _
  · rename_i y84 y85 y86 y87 y88 y89 y90 y91 y92 y93 y94 y95
    dsimp only
    exact Keeps.refl _ _

theorem State.readDo_keeps (s : State) (h : Nat) (a2 : Order) :
    Keeps mask355 s (State.readDo s h a2).1 := by
  unfold State.readDo
  split
  · rename_i y1
    dsimp only
    exact Keeps.refl _ _
  · rename_i y2 y3 y4
    extract_lets v5
    have h6 : Keeps mask355 s v5.2 := by
      unfold v5
      refine Keeps.step (State.supReads_keeps ..) rfl ?_
      exact Keeps.refl _ _
    clear_value v5
    exact h6
  · rename_i y7
    dsimp only
    exact Keeps.refl _ _
  · rename_i y8 y9 y10
    dsimp only
    refine Keeps.step (State.pd3On_keeps ..) rfl ?_
    exact Keeps.refl _ _
  · rename_i y11
    dsimp only
    exact Keeps.refl _ _
  · rename_i y12 y13 y14 y15 y16 y17
    dsimp only
    exact Keeps.refl _ _

end Sys2Proof.Machine
end

