-- ==== Sys2Proof/Laws/KeepsMailbox.lean ====
section
/-! SUPPORT. The frame of every function of Machine/Mailbox.lean: what it may change, and that it keeps the canonical forms and
the waiting commands. -/
namespace Sys2Proof.Machine

set_option Elab.async false

theorem State.leaseReport_keeps (s : State) (ev : Nat) (holder : Nat) :
    Keeps mask6 s (State.leaseReport s ev holder) := by
  unfold State.leaseReport
  extract_lets v1
  refine Keeps.step (State.notify_keeps ..) rfl ?_
  refine Keeps.step (State.offer_keeps ..) rfl ?_
  exact Keeps.refl _ _

theorem State.leaseCut_keeps (s : State) :
    Keeps mask356 s (State.leaseCut s) := by
  unfold State.leaseCut
  refine Keeps.put rfl ?_
  extract_lets v2
  refine (Keeps.setLease _ rfl ?_)
  exact Keeps.refl _ _

theorem State.leaseEnd_keeps (s : State) (ev : Nat) :
    Keeps mask357 s (State.leaseEnd s ev) := by
  unfold State.leaseEnd
  extract_lets v1 v2 v3
  have h4 : Keeps mask357 s v2 := by
    unfold v2
    refine Keeps.step (State.leaseCut_keeps ..) rfl ?_
    exact Keeps.refl _ _
  clear_value v2
  refine Keeps.step (State.leaseReport_keeps ..) rfl ?_
  refine (Keeps.setLease _ rfl ?_)
  exact h4

theorem State.leaseGrant_keeps (s : State) (a1 : Nat) (forced : Bool) :
    Keeps mask357 s (State.leaseGrant s a1 forced) := by
  unfold State.leaseGrant
  extract_lets v1 v2 v3
  have h4 : Keeps mask357 s v1 := by
    unfold v1
    refine Keeps.step (State.leaseCut_keeps ..) rfl ?_
    exact Keeps.refl _ _
  clear_value v1
  refine Keeps.step (State.leaseReport_keeps ..) rfl ?_
  refine (Keeps.setLease _ rfl ?_)
  exact h4

theorem State.leaseKeep_keeps (s : State) :
    Keeps 0x80 s (State.leaseKeep s) := by
  unfold State.leaseKeep
  extract_lets v1
  refine (Keeps.setLease _ rfl ?_)
  exact Keeps.refl _ _

theorem State.leaseDefaults_keeps (s : State) :
    Keeps mask358 s (State.leaseDefaults s) := by
  unfold State.leaseDefaults
  refine Keeps.ite (fun _ => ?_) (fun _ => ?_)
  · extract_lets v1 v2 v3 v4 v5 v6
    have h7 : Keeps mask358 s v2 := by
      unfold v2
      refine (Keeps.setLease _ rfl ?_)
      exact Keeps.refl _ _
    clear_value v2
    have h8 : Keeps mask358 s v4 := by
      unfold v4
      refine (Keeps.setGov _ rfl ?_)
      exact h7
    clear_value v4
    have h9 : Keeps mask358 s v5 := by
      unfold v5
      refine Keeps.ite (fun _ => ?_) (fun _ => ?_)
      · refine Keeps.step (State.waitTick_keeps ..) rfl ?_
        refine Keeps.step (State.isolateWait_keeps ..) rfl ?_
        exact h8
      · exact h8
    clear_value v5
    have h10 : Keeps mask358 s v6 := by
      unfold v6
      refine Keeps.ite (fun _ => ?_) (fun _ => ?_)
      · refine Keeps.step (State.lswOff_keeps ..) rfl ?_
        exact h9
      · exact h9
    clear_value v6
    refine Keeps.ite (fun _ => ?_) (fun _ => ?_)
    · exact h7
    · refine Keeps.ite (fun _ => ?_) (fun _ => ?_)
      · refine Keeps.step (State.loopsFallback_keeps ..) rfl ?_
        exact h10
      · exact h10
  · exact Keeps.refl _ _

theorem State.leaseExpire_keeps (s : State) :
    Keeps mask359 s (State.leaseExpire s) := by
  unfold State.leaseExpire
  refine Keeps.ite (fun _ => ?_) (fun _ => ?_)
  · refine Keeps.step (State.leaseDefaults_keeps ..) rfl ?_
    refine Keeps.step (State.leaseEnd_keeps ..) rfl ?_
    exact Keeps.refl _ _
  · exact Keeps.refl _ _

theorem Work.say_keeps (w : Work) (s : State) (i : Item) (a : Ans) :
    Keeps 0x0 s (Work.say w s i a).1 := by
  unfold Work.say
  dsimp only
  exact Keeps.refl _ _

theorem decidePre_keeps (w : Work) (i : Item) :
    Keeps mask223 (w).1 (decidePre w i).1 := by
  unfold decidePre
  split
  · rename_i y1 y2 y3
    exact Keeps.refl _ _
  · rename_i y5 y6
    extract_lets v8
    have h9 : Keeps mask223 w.fst v8 := by
      unfold v8
      split
      · rename_i y11 y12 y13
        refine Keeps.step (State.wakeSrc_keeps ..) rfl ?_
        exact Keeps.refl _ _
      · rename_i y16 y17
        exact Keeps.refl _ _
    clear_value v8
    split
    · rename_i y20 y21 y22
      refine Keeps.step (Work.say_keeps ..) rfl ?_
      refine Keeps.ite (fun _ => ?_) (fun _ => ?_)
      · exact Keeps.refl _ _
      · exact h9
    · rename_i y27 y28
      dsimp only
      exact h9

theorem decideRelease_keeps (w : Work) (i : Item) :
    Keeps mask357 (w).1 (decideRelease w i).1 := by
  unfold decideRelease
  split
  · rename_i y1 y2
    refine Keeps.iteFst (fun _ => ?_) (fun _ => ?_)
    · refine Keeps.step (Work.say_keeps ..) rfl ?_
      refine Keeps.step (State.leaseEnd_keeps ..) rfl ?_
      exact Keeps.refl _ _
    · refine Keeps.step (Work.say_keeps ..) rfl ?_
      exact Keeps.refl _ _
  · rename_i y9 y10
    exact Keeps.refl _ _

theorem decideExpiry_keeps (w : Work) (l : List Item) :
    Keeps mask357 (w).1 (decideExpiry w l).1 := by
  unfold decideExpiry
  refine Keeps.iteFst (fun _ => ?_) (fun _ => ?_)
  · dsimp only
    refine Keeps.step (State.leaseEnd_keeps ..) rfl ?_
    exact Keeps.refl _ _
  · exact Keeps.refl _ _

theorem decideClaim_keeps (g : Option (Item × Bool)) (w : Work) (i : Item) :
    Keeps mask360 (w).1 (decideClaim g w i).1 := by
  unfold decideClaim
  split
  · rename_i y1 y2 y3
    refine Keeps.iteFst (fun _ => ?_) (fun _ => ?_)
    · refine Keeps.step (Work.say_keeps ..) rfl ?_
      exact Keeps.refl _ _
    · refine Keeps.iteFst (fun _ => ?_) (fun _ => ?_)
      · refine Keeps.step (Work.say_keeps ..) rfl ?_
        exact Keeps.refl _ _
      · refine Keeps.iteFst (fun _ => ?_) (fun _ => ?_)
        · refine Keeps.step (Work.say_keeps ..) rfl ?_
          refine Keeps.step (State.leaseKeep_keeps ..) rfl ?_
          exact Keeps.refl _ _
        · refine Keeps.iteFst (fun _ => ?_) (fun _ => ?_)
          · refine Keeps.step (Work.say_keeps ..) rfl ?_
            unfold State.count
            refine Keeps.put rfl ?_
            exact Keeps.refl _ _
          · refine Keeps.step (Work.say_keeps ..) rfl ?_
            exact Keeps.refl _ _
  · rename_i y21 y22
    exact Keeps.refl _ _

theorem decideClaims_keeps (w : Work) (l : List Item) :
    Keeps mask361 (w).1 (decideClaims w l).1 := by
  unfold decideClaims
  extract_lets v1 v2
  have h3 : Keeps mask361 w.fst v2 := by
    unfold v2
    clear_value v1
    split
    · rename_i y5 y6 y7
      refine Keeps.step (State.leaseGrant_keeps ..) rfl ?_
      exact Keeps.refl _ _
    · rename_i y10
      exact Keeps.refl _ _
  clear_value v2
  refine Keeps.foldlFst _ ?_ (fun a13 b14 k15 => ?_)
  · dsimp only
    exact h3
  · refine Keeps.step (decideClaim_keeps ..) rfl ?_
    exact k15

theorem decideRenew_keeps (w : Work) (i : Item) :
    Keeps 0x80 (w).1 (decideRenew w i).1 := by
  unfold decideRenew
  split
  · rename_i y1 y2
    refine Keeps.iteFst (fun _ => ?_) (fun _ => ?_)
    · refine Keeps.step (Work.say_keeps ..) rfl ?_
      refine Keeps.step (State.leaseKeep_keeps ..) rfl ?_
      exact Keeps.refl _ _
    · refine Keeps.step (Work.say_keeps ..) rfl ?_
      exact Keeps.refl _ _
  · rename_i y9 y10
    exact Keeps.refl _ _

theorem State.arbLast_keeps (s : State) (l : List Cand) :
    Keeps mask362 s (State.arbLast s l) := by
  unfold State.arbLast
  refine Keeps.foldl _ ?_ (fun a1 b2 k3 => ?_)
  · exact Keeps.refl _ _
  · extract_lets v6
    split
    · rename_i y8 y9 y10 y11 y12 y13
      refine Keeps.ite (fun _ => ?_) (fun _ => ?_)
      · refine Keeps.put rfl ?_
        refine Keeps.put rfl ?_
        refine Keeps.put rfl ?_
        exact k3
      · exact k3
    · rename_i y20 y21 y22
      exact k3

theorem State.refusalBits_keeps (s : State) (c : Cand) :
    Keeps mask32 s (State.refusalBits s c) := by
  unfold State.refusalBits
  extract_lets v1 v2
  have h3 : Keeps mask32 s v2 := by
    unfold v2
    refine Keeps.step (State.refusedBits_keeps ..) rfl ?_
    exact Keeps.refl _ _
  clear_value v2
  refine Keeps.ite (fun _ => ?_) (fun _ => ?_)
  · exact Keeps.refl _ _
  · refine Keeps.ite (fun _ => ?_) (fun _ => ?_)
    · refine Keeps.putFlag rfl ?_
      exact h3
    · exact h3

theorem decideCand_keeps (l : List Cand) (w : Work) (c : Cand) :
    Keeps mask363 (w).1 (decideCand l w c).1 := by
  unfold decideCand
  extract_lets v1 v2 v3 v4 v5 v6 v7
  have h4 : Keeps mask363 w.1 v4 := Keeps.step (State.refusalBits_keeps ..) rfl (Keeps.refl _ _)
  clear_value v4
  have h6 : Keeps mask363 w.1 v6.1 := Keeps.iteFst (fun _ => h4) fun _ => Keeps.iteFst (fun _ => h4) fun _ =>
    Keeps.step (State.orderDo_keeps ..) rfl h4
  clear_value v6
  refine Keeps.step (Work.say_keeps ..) rfl ?_
  refine Keeps.ite (fun _ => ?_) (fun _ => h6)
  unfold State.count
  exact Keeps.put rfl h6

theorem State.foresee_keeps (s : State) (c : Cand) :
    Keeps mask354 s (State.foresee s c) := by
  unfold State.foresee
  refine Keeps.ite (fun _ => ?_) (fun _ => ?_)
  · refine Keeps.step (State.orderDo_keeps ..) rfl ?_
    exact Keeps.refl _ _
  · exact Keeps.refl _ _

theorem decideOrders_keeps (w : Work) (l : List Item) :
    Keeps mask364 (w).1 (decideOrders w l).1 := by
  unfold decideOrders
  extract_lets v1 v2 v3 v4 v5
  have h14 : Keeps mask364 w.fst v4.1 := by
    unfold v4
    dsimp only
    refine Keeps.step (State.arbLast_keeps ..) rfl ?_
    exact Keeps.refl _ _
  clear_value v4
  have h18 : Keeps mask364 w.fst v5.1 := by
    unfold v5
    refine Keeps.foldlFst _ ?_ (fun a20 b21 k22 => ?_)
    · exact h14
    · refine Keeps.step (decideCand_keeps ..) rfl ?_
      exact k22
  clear_value v5
  refine Keeps.foldlFst _ ?_ (fun a27 b28 k29 => ?_)
  · exact h18
  · refine Keeps.step (decideCand_keeps ..) rfl ?_
    exact k29

theorem decideRead_keeps (w : Work) (i : Item) :
    Keeps mask355 (w).1 (decideRead w i).1 := by
  unfold decideRead
  split
  · rename_i y1 y2 y3
    refine Keeps.step (Work.say_keeps ..) rfl ?_
    exact Keeps.refl _ _
  · rename_i y6 y7
    extract_lets v9
    have h10 : Keeps mask355 w.fst v9.1 := by
      unfold v9
      refine Keeps.step (State.readDo_keeps ..) rfl ?_
      exact Keeps.refl _ _
    clear_value v9
    refine Keeps.step (Work.say_keeps ..) rfl ?_
    exact h10

theorem State.pushReply_keeps (s : State) (r : Reply) :
    Keeps 0x4000040 s (State.pushReply s r) := by
  unfold State.pushReply
  refine Keeps.ite (fun _ => ?_) (fun _ => ?_)
  · refine (Keeps.setMgt _ rfl ?_)
    exact Keeps.refl _ _
  · exact Keeps.refl _ _

theorem State.storeReply_keeps (s : State) (r : Reply) :
    Keeps 0x40 s (State.storeReply s r) := by
  unfold State.storeReply
  extract_lets v1
  refine Keeps.ite (fun _ => ?_) (fun _ => ?_)
  · exact Keeps.refl _ _
  · refine Keeps.step (State.setHost_keeps ..) rfl ?_
    exact Keeps.refl _ _

theorem sendReply_keeps (l : List (Nat × Ans)) (s : State) (i : Item) :
    Keeps 0x4000040 s (sendReply l s i) := by
  unfold sendReply
  split
  · rename_i y1 y2 y3
    refine Keeps.step (State.pushReply_keeps ..) rfl ?_
    exact Keeps.refl _ _
  · rename_i y6 y7
    split
    · rename_i y9 y10
      exact Keeps.refl _ _
    · rename_i y12 y13 y14
      extract_lets v16
      refine Keeps.step (State.pushReply_keeps ..) rfl ?_
      refine Keeps.step (State.storeReply_keeps ..) rfl ?_
      exact Keeps.refl _ _

theorem helloApply_keeps (l : List (Nat × Ans)) (s : State) (i : Item) : Keeps mask365 s (helloApply l s i) := by
  have hf : ∀ n, Nat.testBit mask365 (32 + (negFields.getD (n % 8) F.MGT_NEG_MINOR0).id) = true := by
    intro n
    have h8 : n % 8 < 8 := Nat.mod_lt _ (by decide)
    generalize n % 8 = k at h8
    have : ∀ k : Fin 8, Nat.testBit mask365 (32 + (negFields.getD k.val F.MGT_NEG_MINOR0).id) = true := by decide
    exact this ⟨k, h8⟩
  unfold helloApply
  split
  · refine Keeps.ite (fun _ => ?_) (fun _ => Keeps.refl _ _)
    exact Keeps.put (hf _) (Keeps.put rfl (Keeps.step (State.setHost_keeps ..) rfl (Keeps.refl _ _)))
  · exact Keeps.refl _ _

theorem State.keysApply_keeps (s : State) :
    Keeps mask366 s (State.keysApply s) := by
  unfold State.keysApply
  extract_lets v1 v2
  have h3 : Keeps mask366 s v1 := by
    unfold v1
    refine Keeps.foldl _ ?_ (fun a5 b6 k7 => ?_)
    · exact Keeps.refl _ _
    · unfold State.putBitOf
      refine Keeps.put rfl ?_
      extract_lets v12
      refine (Keeps.setMgt _ rfl ?_)
      exact k7
  clear_value v1
  refine (Keeps.setMgt _ rfl ?_)
  exact h3

theorem decideSteps_keeps (s : State) (l : List Item) :
    Keeps mask367 s (decideSteps s l).1 := by
  unfold decideSteps
  extract_lets v1 v2 v3 v4 v5 v6 v7
  have h8 : Keeps mask367 s v1.1 := by
    unfold v1
    refine Keeps.foldlFst _ ?_ (fun a9 b10 k11 => ?_)
    · dsimp only
      exact Keeps.refl _ _
    · refine Keeps.step (decidePre_keeps ..) rfl ?_
      exact k11
  clear_value v1
  have h12 : Keeps mask367 s v3.1 := by
    unfold v3
    refine Keeps.foldlFst _ ?_ (fun a13 b14 k15 => ?_)
    · exact h8
    · refine Keeps.step (decideRelease_keeps ..) rfl ?_
      exact k15
  clear_value v3
  have h16 : Keeps mask367 s v4.1 := by
    unfold v4
    refine Keeps.step (decideExpiry_keeps ..) rfl ?_
    exact h12
  clear_value v4
  have h17 : Keeps mask367 s v5.1 := by
    unfold v5
    refine Keeps.step (decideClaims_keeps ..) rfl ?_
    exact h16
  clear_value v5
  have h18 : Keeps mask367 s v6.1 := by
    unfold v6
    refine Keeps.foldlFst _ ?_ (fun a19 b20 k21 => ?_)
    · dsimp only
      refine Keeps.step (State.leaseDefaults_keeps ..) rfl ?_
      exact h17
    · refine Keeps.step (decideRenew_keeps ..) rfl ?_
      exact k21
  clear_value v6
  have h22 : Keeps mask367 s v7.1 := by
    unfold v7
    refine Keeps.step (decideOrders_keeps ..) rfl ?_
    exact h18
  clear_value v7
  refine Keeps.foldlFst _ ?_ (fun a23 b24 k25 => ?_)
  · exact h22
  · refine Keeps.step (decideRead_keeps ..) rfl ?_
    exact k25

theorem State.decide_keeps (s : State) (fs : List Frame) :
    Keeps mask368 s (State.decide s fs) := by
  unfold State.decide
  extract_lets v1 v2 v3 v4
  have h5 : Keeps mask368 s v2.1 := by
    unfold v2
    refine Keeps.step (decideSteps_keeps ..) rfl ?_
    exact Keeps.refl _ _
  clear_value v2
  have h8 : Keeps mask368 s v3 := by
    unfold v3
    refine Keeps.foldl _ ?_ (fun a10 b11 k12 => ?_)
    · exact h5
    · refine Keeps.step (sendReply_keeps ..) rfl ?_
      exact k12
  clear_value v3
  have h16 : Keeps mask368 s v4 := by
    unfold v4
    refine Keeps.foldl _ ?_ (fun a18 b19 k20 => ?_)
    · exact h8
    · refine Keeps.step (helloApply_keeps ..) rfl ?_
      exact k20
  clear_value v4
  refine Keeps.step (State.gateSettle_keeps ..) rfl ?_
  refine Keeps.step (State.powerSettle_keeps ..) rfl ?_
  refine Keeps.step (State.keysApply_keeps ..) rfl ?_
  exact h16

theorem State.mgtEv_keeps (s : State) (typ : Nat) (a2 : Nat) :
    Keeps mask3 s (State.mgtEv s typ a2) := by
  unfold State.mgtEv
  refine Keeps.step (State.event_keeps ..) rfl ?_
  exact Keeps.refl _ _

theorem State.queueDrop_keeps (s : State) (a1 : Nat) :
    Keeps mask369 s (State.queueDrop s a1) := by
  unfold State.queueDrop
  refine Keeps.step (State.mgtEv_keeps ..) rfl ?_
  unfold State.count
  refine Keeps.put rfl ?_
  exact Keeps.refl _ _

theorem State.seqTake_keeps (s : State) (a1 : Nat) (seq : Nat) :
    Keeps 0x40 s (State.seqTake s a1 seq) := by
  unfold State.seqTake
  extract_lets v1
  refine Keeps.step (State.setHost_keeps ..) rfl ?_
  exact Keeps.refl _ _

theorem State.acceptAs_keeps (s : State) (f : Frame) (l0 : Judged) :
    Keeps mask370 s (State.acceptAs s f l0).1 := by
  unfold State.acceptAs
  split
  · rename_i y1
    refine Keeps.iteFst (fun _ => ?_) (fun _ => ?_)
    · dsimp only
      unfold State.count
      refine Keeps.put rfl ?_
      refine Keeps.step (State.seqTake_keeps ..) rfl ?_
      exact Keeps.refl _ _
    · dsimp only
      refine Keeps.step (State.queueDrop_keeps ..) rfl ?_
      exact Keeps.refl _ _
  · rename_i y11 y12
    extract_lets v14
    have h15 : Keeps mask370 s v14 := by
      unfold v14
      unfold State.count
      refine Keeps.put rfl ?_
      exact Keeps.refl _ _
    clear_value v14
    refine Keeps.iteFst (fun _ => ?_) (fun _ => ?_)
    · dsimp only
      unfold State.count
      refine Keeps.put rfl ?_
      exact h15
    · dsimp only
      refine Keeps.step (State.queueDrop_keeps ..) rfl ?_
      exact h15
  · rename_i y27
    extract_lets v29
    have h30 : Keeps mask370 s v29 := by
      unfold v29
      unfold State.count
      refine Keeps.put rfl ?_
      exact Keeps.refl _ _
    clear_value v29
    refine Keeps.iteFst (fun _ => ?_) (fun _ => ?_)
    · dsimp only
      unfold State.count
      refine Keeps.put rfl ?_
      exact h30
    · dsimp only
      refine Keeps.step (State.queueDrop_keeps ..) rfl ?_
      exact h30
  · rename_i y42
    dsimp only
    unfold State.count
    refine Keeps.put rfl ?_
    exact Keeps.refl _ _
  · rename_i y47
    dsimp only
    unfold State.count
    refine Keeps.put rfl ?_
    exact Keeps.refl _ _

theorem State.accept_keeps (s : State) (f : Frame) :
    Keeps mask370 s (State.accept s f).1 := by
  unfold State.accept
  refine Keeps.step (State.acceptAs_keeps ..) rfl ?_
  exact Keeps.refl _ _

theorem State.fastReply_keeps (s : State) (r : Reply) (mark : HostSt → HostSt) :
    Keeps mask371 s (State.fastReply s r mark) := by
  unfold State.fastReply
  refine Keeps.ite (fun _ => ?_) (fun _ => ?_)
  · refine Keeps.step (State.pushReply_keeps ..) rfl ?_
    refine Keeps.count rfl ?_
    refine Keeps.step (State.setHost_keeps ..) rfl ?_
    exact Keeps.refl _ _
  · refine Keeps.step (State.queueDrop_keeps ..) rfl ?_
    exact Keeps.refl _ _

theorem State.authFail_keeps (s : State) (r : RawFrame) (src : Nat) :
    Keeps mask372 s (State.authFail s r src) := by
  unfold State.authFail
  extract_lets v1
  have h2 : Keeps mask372 s v1 := by
    unfold v1
    refine Keeps.step (State.mgtEv_keeps ..) rfl ?_
    refine Keeps.count rfl ?_
    exact Keeps.refl _ _
  clear_value v1
  refine Keeps.ite (fun _ => ?_) (fun _ => ?_)
  · exact h2
  · refine Keeps.step (State.fastReply_keeps ..) rfl ?_
    exact h2

theorem State.malFrame_keeps (s : State) (r : RawFrame) (src : Nat) :
    Keeps mask371 s (State.malFrame s r src) := by
  unfold State.malFrame
  refine Keeps.ite (fun _ => ?_) (fun _ => ?_)
  · exact Keeps.refl _ _
  · refine Keeps.step (State.fastReply_keeps ..) rfl ?_
    exact Keeps.refl _ _

theorem State.readNow_keeps (s : State) (f : Frame) :
    Keeps 0x4000040 s (State.readNow s f) := by
  unfold State.readNow
  extract_lets v1
  refine Keeps.step (State.pushReply_keeps ..) rfl ?_
  exact Keeps.refl _ _

theorem State.bareRead_keeps (s : State) (f : Frame) :
    Keeps mask371 s (State.bareRead s f) := by
  unfold State.bareRead
  refine Keeps.ite (fun _ => ?_) (fun _ => ?_)
  · refine Keeps.step (State.readNow_keeps ..) rfl ?_
    refine Keeps.count rfl ?_
    exact Keeps.refl _ _
  · refine Keeps.step (State.queueDrop_keeps ..) rfl ?_
    exact Keeps.refl _ _

theorem State.enqueue_keeps (s : State) (f : Frame) :
    Keeps 0x4000040 s (State.enqueue s f) := by
  unfold State.enqueue
  extract_lets v1 v2
  refine Keeps.ite (fun _ => ?_) (fun _ => ?_)
  · refine Keeps.step (State.readNow_keeps ..) rfl ?_
    exact Keeps.refl _ _
  · refine (Keeps.setMgt _ rfl ?_)
    exact Keeps.refl _ _

theorem State.goodFrame_keeps (s : State) (r : RawFrame) (b : Bytes) (src : Nat) :
    Keeps mask373 s (State.goodFrame s r b src) := by
  unfold State.goodFrame
  extract_lets v1 v2 v3 v4
  have h5 : Keeps mask373 s v4.1 := by
    unfold v4
    refine Keeps.step (State.accept_keeps ..) rfl ?_
    exact Keeps.refl _ _
  clear_value v4
  refine Keeps.ite (fun _ => ?_) (fun _ => ?_)
  · refine Keeps.ite (fun _ => ?_) (fun _ => ?_)
    · split
      · rename_i y11 y12 y13
        refine Keeps.step (State.enqueue_keeps ..) rfl ?_
        exact h5
      · rename_i y16 y17
        exact h5
    · refine Keeps.step (State.authFail_keeps ..) rfl ?_
      exact Keeps.refl _ _
  · refine Keeps.ite (fun _ => ?_) (fun _ => ?_)
    · refine Keeps.ite (fun _ => ?_) (fun _ => ?_)
      · refine Keeps.step (State.readNow_keeps ..) rfl ?_
        unfold State.count
        refine Keeps.put rfl ?_
        exact Keeps.refl _ _
      · refine Keeps.step (State.queueDrop_keeps ..) rfl ?_
        exact Keeps.refl _ _
    · refine Keeps.ite (fun _ => ?_) (fun _ => ?_)
      · split
        · rename_i y31 y32 y33
          refine Keeps.step (State.enqueue_keeps ..) rfl ?_
          exact h5
        · rename_i y36 y37
          exact h5
      · refine Keeps.step (State.authFail_keeps ..) rfl ?_
        exact Keeps.refl _ _

theorem State.frameIn_keeps (s : State) (dst : Nat) (src : Nat) (etherType : Nat) (b : Bytes) (fcs : Nat) :
    Keeps mask373 s (State.frameIn s dst src etherType b fcs) := by
  unfold State.frameIn
  refine Keeps.ite (fun _ => ?_) (fun _ => ?_)
  · exact Keeps.refl _ _
  · extract_lets v1
    refine Keeps.ite (fun _ => ?_) (fun _ => ?_)
    · refine Keeps.step (State.fastReply_keeps ..) rfl ?_
      exact Keeps.refl _ _
    · refine Keeps.ite (fun _ => ?_) (fun _ => ?_)
      · refine Keeps.step (State.malFrame_keeps ..) rfl ?_
        exact Keeps.refl _ _
      · refine Keeps.step (State.goodFrame_keeps ..) rfl ?_
        exact Keeps.refl _ _

theorem State.mailAt_keeps (s : State) (h : Hdr) (auth : Bool) (addr : Nat) (o : Order) :
    Keeps mask374 s (State.mailAt s h auth addr o) := by
  unfold State.mailAt
  refine Keeps.ite (fun _ => ?_) (fun _ => ?_)
  · extract_lets v1 v2 v3 v4 v5
    have h6 : Keeps mask374 s v1 := by
      unfold v1
      refine Keeps.step (State.repliesLeave_keeps ..) rfl ?_
      exact Keeps.refl _ _
    clear_value v1
    have h7 : Keeps mask374 s v5.1 := by
      unfold v5
      refine Keeps.step (State.accept_keeps ..) rfl ?_
      exact h6
    clear_value v5
    refine Keeps.ite (fun _ => ?_) (fun _ => ?_)
    · split
      · rename_i y8 y9 y10 y11 y12
        refine Keeps.step (State.decide_keeps ..) rfl ?_
        exact h7
      · rename_i y13 y14 y15 y16
        exact h7
    · refine Keeps.ite (fun _ => ?_) (fun _ => ?_)
      · refine Keeps.step (State.bareRead_keeps ..) rfl ?_
        exact h6
      · refine Keeps.step (State.authFail_keeps ..) rfl ?_
        exact h6
  · exact Keeps.refl _ _

theorem State.keyLoad_keeps (s : State) (h : Hdr) (auth : Bool) (vals : List W32) :
    Keeps mask374 s (State.keyLoad s h auth vals) := by
  unfold State.keyLoad
  refine Keeps.step (State.mailAt_keeps ..) rfl ?_
  exact Keeps.refl _ _

theorem State.mail_keeps (s : State) (a1 : Hdr) (o : Order) :
    Keeps mask374 s (State.mail s a1 o) := by
  unfold State.mail
  refine Keeps.step (State.mailAt_keeps ..) rfl ?_
  exact Keeps.refl _ _

theorem State.mailRead_keeps (s : State) (h : Hdr) (o : Order) :
    Keeps mask374 s (State.mailRead s h o) := by
  unfold State.mailRead
  refine Keeps.step (State.mailAt_keeps ..) rfl ?_
  exact Keeps.refl _ _

end Sys2Proof.Machine
end

