-- ==== Sys2Proof/Laws/KeepsTick.lean ====
section
/-! SUPPORT. The frame of every function of Machine/Tick.lean: what it may change, and that it keeps the canonical forms and
the waiting commands. -/
namespace Sys2Proof.Machine

set_option Elab.async false

theorem State.clockTick_keeps (s : State) :
    Keeps mask375 s (State.clockTick s) := by
  unfold State.clockTick
  extract_lets v1 v2 v3 v4
  have h5 : Keeps mask375 s v3 := by
    unfold v3
    refine Keeps.step (State.gcSrc_keeps ..) rfl ?_
    refine (Keeps.setTim _ rfl ?_)
    exact Keeps.refl _ _
  clear_value v3
  have h9 : Keeps mask375 s v4 := by
    unfold v4
    refine Keeps.ite (fun _ => ?_) (fun _ => ?_)
    · refine Keeps.step (State.gcSrc_keeps ..) rfl ?_
      exact h5
    · exact h5
  clear_value v4
  refine Keeps.ite (fun _ => ?_) (fun _ => ?_)
  · refine Keeps.ite (fun _ => ?_) (fun _ => ?_)
    · refine Keeps.step (State.gcSrc_keeps ..) rfl ?_
      exact h9
    · exact h9
  · exact h5

theorem State.mailTick_keeps (s : State) :
    Keeps 0x4000040 s (State.mailTick s) := by
  unfold State.mailTick
  extract_lets v1
  have h2 : Keeps 0x4000040 s v1 := by
    unfold v1
    refine Keeps.step (State.mailLeaves_keeps ..) rfl ?_
    exact Keeps.refl _ _
  clear_value v1
  refine Keeps.foldl _ ?_ (fun a3 b4 k5 => ?_)
  · exact h2
  · extract_lets v6
    refine Keeps.step (State.setHost_keeps ..) rfl ?_
    exact k5

theorem State.reserveTick_keeps (s : State) :
    Keeps mask376 s (State.reserveTick s) := by
  unfold State.reserveTick
  split
  · rename_i y1 y2
    exact Keeps.refl _ _
  · rename_i y4 y5 y6
    extract_lets v8 v9
    refine Keeps.ite (fun _ => ?_) (fun _ => ?_)
    · exact Keeps.refl _ _
    · refine Keeps.ite (fun _ => ?_) (fun _ => ?_)
      · dsimp only [v9]
        refine Keeps.step (State.offer_keeps ..) rfl ?_
        refine (Keeps.setGov _ rfl ?_)
        unfold State.count
        refine Keeps.put rfl ?_
        exact Keeps.refl _ _
      · refine Keeps.ite (fun _ => ?_) (fun _ => ?_)
        · dsimp only [v9]
          refine Keeps.step (State.offer_keeps ..) rfl ?_
          refine (Keeps.setGov _ rfl ?_)
          exact Keeps.refl _ _
        · exact Keeps.refl _ _

theorem State.delivery_keeps (s : State) :
    Keeps mask377 s (State.delivery s) := by
  unfold State.delivery
  extract_lets v1 v2 v3 v4
  have h5 : Keeps mask377 s v1 := by
    unfold v1
    refine Keeps.step (State.reserveTick_keeps ..) rfl ?_
    exact Keeps.refl _ _
  clear_value v1
  refine Keeps.step (State.assistIn_keeps ..) rfl ?_
  exact h5

theorem State.herdTick_keeps (s : State) :
    Keeps mask378 s (State.herdTick s) := by
  unfold State.herdTick
  extract_lets v1 v2
  have h3 : Keeps mask378 s v1 := by
    unfold v1
    refine Keeps.step (State.estTick_keeps ..) rfl ?_
    refine Keeps.step (State.packTick_keeps ..) rfl ?_
    exact Keeps.refl _ _
  clear_value v1
  have h4 : Keeps mask378 s v2 := by
    unfold v2
    refine Keeps.step (State.seqTick_keeps ..) rfl ?_
    refine Keeps.step (State.riseWatch_keeps ..) rfl ?_
    refine Keeps.step (State.waitTick_keeps ..) rfl ?_
    exact h3
  clear_value v2
  refine Keeps.step (State.tchScan_keeps ..) rfl ?_
  refine Keeps.step (State.restoreNext_keeps ..) rfl ?_
  refine Keeps.step (State.closeTick_keeps ..) rfl ?_
  exact h4

theorem State.heldAnew_keeps (s : State) :
    Keeps 0x1000001 s (State.heldAnew s) := by
  unfold State.heldAnew
  exact Keeps.setRnd (s := { s with pow := { s.pow with tripped := 0 } }) _ rfl (Keeps.setPow _ rfl (Keeps.refl _ _))

theorem State.tick_keeps (s : State) :
    Keeps mask379 s (State.tick s) := by
  unfold State.tick
  extract_lets v1 v2 v3 v4 v5
  have h6 : Keeps mask379 s v1 := by
    unfold v1
    refine Keeps.step (State.clockTick_keeps ..) rfl ?_
    refine Keeps.step (State.mailTick_keeps ..) rfl ?_
    refine Keeps.step (State.plcaApply_keeps ..) rfl ?_
    exact Keeps.refl _ _
  clear_value v1
  have h7 : Keeps mask379 s v2 := by
    unfold v2
    refine Keeps.step (State.herdTick_keeps ..) rfl ?_
    exact h6
  clear_value v2
  have h8 : Keeps mask379 s v5 := by
    unfold v5
    refine Keeps.step (State.decide_keeps ..) rfl ?_
    refine (Keeps.setMgt _ rfl ?_)
    exact h7
  clear_value v5
  refine Keeps.step (State.heldAnew_keeps ..) rfl ?_
  refine Keeps.step (State.idleCutEnd_keeps ..) rfl ?_
  refine Keeps.step (State.delivery_keeps ..) rfl ?_
  exact h8

theorem State.roundStart_keeps (s : State) (lo : MilkLine) (lr : MilkLine) :
    Keeps mask380 s (State.roundStart s lo lr) := by
  unfold State.roundStart
  extract_lets v1 v2
  have h3 : Keeps mask380 s v1 := by
    unfold v1
    refine Keeps.step (State.milkStart_keeps ..) rfl ?_
    exact Keeps.refl _ _
  clear_value v1
  have h4 : Keeps mask380 s v2 := by
    unfold v2
    refine Keeps.ite (fun _ => ?_) (fun _ => ?_)
    · exact h3
    · refine Keeps.step (State.estArm_keeps ..) rfl ?_
      exact h3
  clear_value v2
  refine Keeps.ite (fun _ => ?_) (fun _ => ?_)
  · refine Keeps.step (State.estRound_keeps ..) rfl ?_
    exact h4
  · exact h4

theorem State.roundEnd_keeps (s : State) (dur : Nat) :
    Keeps mask381 s (State.roundEnd s dur) := by
  unfold State.roundEnd
  extract_lets v1 v2
  have h3 : Keeps mask381 s v1 := by
    unfold v1
    refine Keeps.step (State.estRound_keeps ..) rfl ?_
    refine Keeps.step (State.milkEnd_keeps ..) rfl ?_
    exact Keeps.refl _ _
  clear_value v1
  refine Keeps.ite (fun _ => ?_) (fun _ => ?_)
  · refine Keeps.step (State.gateSettle_keeps ..) rfl ?_
    refine (Keeps.setPow _ rfl ?_)
    exact h3
  · exact Keeps.refl _ _

theorem State.enumBegin_keeps (s : State) :
    Keeps mask67 s (State.enumBegin s) := by
  unfold State.enumBegin
  refine Keeps.ite (fun _ => ?_) (fun _ => ?_)
  · refine Keeps.step (State.enumStart_keeps ..) rfl ?_
    exact Keeps.refl _ _
  · exact Keeps.refl _ _

theorem State.isoStep_keeps (s : State) :
    Keeps mask382 s (State.isoStep s) := by
  unfold State.isoStep
  extract_lets v1
  refine Keeps.ite (fun _ => ?_) (fun _ => ?_)
  · refine Keeps.step (State.isoConds_keeps ..) rfl ?_
    refine Keeps.step (State.isoEnd_keeps ..) rfl ?_
    exact Keeps.refl _ _
  · refine Keeps.step (State.isoEnd_keeps ..) rfl ?_
    exact Keeps.refl _ _

theorem State.packIn_keeps (s : State) (c : Nat) (raw : Int) (ovr : Bool) (bad : Bool) (n : Nat) (hall : Bool) (early : Bool) (half : Bool) :
    Keeps mask383 s (State.packIn s c raw ovr bad n hall early half) := by
  unfold State.packIn
  extract_lets v1
  have h2 : Keeps mask383 s v1 := by
    unfold v1
    refine Keeps.step (State.packSample_keeps ..) rfl ?_
    exact Keeps.refl _ _
  clear_value v1
  refine Keeps.ite (fun _ => ?_) (fun _ => ?_)
  · refine Keeps.step (State.measCond_keeps ..) rfl ?_
    exact h2
  · exact h2

theorem State.auxPin_keeps (s : State) (c : Nat) (closed : Bool) :
    Keeps mask102 s (State.auxPin s c closed) := by
  unfold State.auxPin
  refine Keeps.ite (fun _ => ?_) (fun _ => ?_)
  · refine Keeps.step (State.auxChange_keeps ..) rfl ?_
    exact Keeps.refl _ _
  · unfold State.putBitOf
    refine Keeps.put rfl ?_
    exact Keeps.refl _ _

end Sys2Proof.Machine
end

