-- ==== Sys2Proof/Laws/KeepsExecHerd.lean ====
section
/-! SUPPORT. The frame of every function of Machine/ExecHerd.lean: what it may change, and that it keeps the canonical forms and
the waiting commands. -/
namespace Sys2Proof.Machine

set_option Elab.async false

theorem execMilkRoundStart_keeps (lo : MilkLine) (lr : MilkLine) (s : State) :
    KeepsR mask384 s (execMilkRoundStart lo lr s) := by
  unfold execMilkRoundStart
  refine KeepsR.next ?_
  refine State.acts_keeps rfl ?_ ?_
  · exact Keeps.refl _ _
  · intro x1
    intro x2
    refine Keeps.step (State.roundStart_keeps ..) rfl ?_
    exact x2

theorem execSyncMeasure_keeps (p : Fin 12) (cells : List (BitVec 16)) (temps : List (BitVec 16)) (wire : Bool) (recent : Bool) (s : State) :
    KeepsR 0x80000 s (execSyncMeasure p cells temps wire recent s) := by
  unfold execSyncMeasure
  refine KeepsR.step (wfElse_keeps ..) rfl ?_
  refine Keeps.step (State.milkSync_keeps ..) rfl ?_
  exact Keeps.refl _ _

theorem execRead_keeps (ret : Bool) (us : BitVec 16) (line : MilkLine) (s : State) :
    KeepsR mask385 s (execRead ret us line s) := by
  unfold execRead
  refine KeepsR.next ?_
  refine State.acts_keeps rfl ?_ ?_
  · exact Keeps.refl _ _
  · intro x1
    intro x2
    refine Keeps.step (State.milkRead_keeps ..) rfl ?_
    exact x2

theorem execData_keeps (ret : Bool) (rx : Option (List Byte)) (s : State) :
    KeepsR mask386 s (execData ret rx s) := by
  unfold execData
  refine KeepsR.next ?_
  refine State.acts_keeps rfl ?_ ?_
  · exact Keeps.refl _ _
  · intro x1
    intro x2
    refine Keeps.step (State.probeStart_keeps ..) rfl ?_
    refine Keeps.step (State.milkData_keeps ..) rfl ?_
    exact x2

theorem execResponseTimeout_keeps (ret : Bool) (s : State) :
    KeepsR mask387 s (execResponseTimeout ret s) := by
  unfold execResponseTimeout
  refine KeepsR.next ?_
  refine State.acts_keeps rfl ?_ ?_
  · exact Keeps.refl _ _
  · intro x1
    intro x2
    refine Keeps.step (State.probeStart_keeps ..) rfl ?_
    refine Keeps.step (State.rspTimeout_keeps ..) rfl ?_
    exact x2

theorem execEchoTimeout_keeps (s : State) :
    KeepsR mask388 s (execEchoTimeout s) := by
  unfold execEchoTimeout
  refine KeepsR.next ?_
  refine State.acts_keeps rfl ?_ ?_
  · exact Keeps.refl _ _
  · intro x1
    intro x2
    refine Keeps.step (State.probeStart_keeps ..) rfl ?_
    refine Keeps.step (State.echoTimeout_keeps ..) rfl ?_
    exact x2

theorem execMilkRoundComplete_keeps (dur : BitVec 16) (s : State) :
    KeepsR mask389 s (execMilkRoundComplete dur s) := by
  unfold execMilkRoundComplete
  refine KeepsR.next ?_
  refine State.acts_keeps rfl ?_ ?_
  · exact Keeps.refl _ _
  · intro x1
    intro x2
    refine Keeps.step (State.roundEnd_keeps ..) rfl ?_
    exact x2

theorem execEnum_keeps (ret : Bool) (line : MilkLine) (s : State) :
    KeepsR mask385 s (execEnum ret line s) := by
  unfold execEnum
  refine KeepsR.next ?_
  refine State.acts_keeps rfl ?_ ?_
  · exact Keeps.refl _ _
  · intro x1
    intro x2
    refine Keeps.step (State.milkEnum_keeps ..) rfl ?_
    exact x2

theorem execEnumRsp_keeps (ret : Bool) (rx : Option (List Byte)) (s : State) :
    KeepsR mask390 s (execEnumRsp ret rx s) := by
  unfold execEnumRsp
  refine KeepsR.next ?_
  refine State.acts_keeps rfl ?_ ?_
  · exact Keeps.refl _ _
  · intro x1
    intro x2
    refine Keeps.step (State.enumAnswer_keeps ..) rfl ?_
    exact x2

theorem execSetup_keeps (a : Fin 12) (line : MilkLine) (lost : Bool) (rx : Option (List Byte)) (s : State) :
    KeepsR mask391 s (execSetup a line lost rx s) := by
  unfold execSetup
  refine KeepsR.next ?_
  refine State.acts_keeps rfl ?_ ?_
  · exact Keeps.refl _ _
  · intro x1
    intro x2
    refine Keeps.step (State.milkSetup_keeps ..) rfl ?_
    exact x2

theorem execResetMon_keeps (lo : MilkLine) (lr : MilkLine) (s : State) :
    KeepsR mask385 s (execResetMon lo lr s) := by
  unfold execResetMon
  refine KeepsR.next ?_
  refine State.acts_keeps rfl ?_ ?_
  · exact Keeps.refl _ _
  · intro x1
    intro x2
    refine Keeps.step (State.milkReset_keeps ..) rfl ?_
    exact x2

theorem execSleep_keeps (lo : MilkLine) (lr : MilkLine) (s : State) :
    KeepsR mask385 s (execSleep lo lr s) := by
  unfold execSleep
  refine KeepsR.next ?_
  refine State.acts_keeps rfl ?_ ?_
  · exact Keeps.refl _ _
  · intro x1
    intro x2
    refine Keeps.step (State.milkSleep_keeps ..) rfl ?_
    exact x2

theorem execPing_keeps (line : MilkLine) (s : State) :
    KeepsR mask392 s (execPing line s) := by
  unfold execPing
  refine KeepsR.next ?_
  refine State.acts_keeps rfl ?_ ?_
  · exact Keeps.refl _ _
  · intro x1
    intro x2
    refine Keeps.step (State.milkPing_keeps ..) rfl ?_
    exact x2

theorem execEnumeration_keeps (s : State) :
    KeepsR mask67 s (execEnumeration s) := by
  unfold execEnumeration
  refine KeepsR.next ?_
  refine State.runs_keeps rfl ?_ ?_
  · exact Keeps.refl _ _
  · intro x4
    intro x6
    refine Keeps.step (State.enumBegin_keeps ..) rfl ?_
    exact x6

theorem execMonitorStandby_keeps (p : Fin 12) (s : State) :
    KeepsR 0x80000 s (execMonitorStandby p s) := by
  unfold execMonitorStandby
  refine KeepsR.next ?_
  refine Keeps.step (State.monStandby_keeps ..) rfl ?_
  exact Keeps.refl _ _

theorem execMonitorSleep_keeps (p : Fin 12) (s : State) :
    KeepsR 0x80000 s (execMonitorSleep p s) := by
  unfold execMonitorSleep
  refine KeepsR.next ?_
  refine Keeps.step (State.monSleep_keeps ..) rfl ?_
  exact Keeps.refl _ _

theorem execMonitorWake_keeps (p : Fin 12) (powerUp : Bool) (uid : BitVec 32) (maker : BitVec 16) (s : State) :
    KeepsR 0x80000 s (execMonitorWake p powerUp uid maker s) := by
  unfold execMonitorWake
  refine KeepsR.next ?_
  refine Keeps.step (State.monWake_keeps ..) rfl ?_
  exact Keeps.refl _ _

theorem execBalTimeExpiry_keeps (p : Fin 12) (s : State) :
    KeepsR 0x80000 s (execBalTimeExpiry p s) := by
  unfold execBalTimeExpiry
  refine KeepsR.next ?_
  refine Keeps.step (State.balExpiry_keeps ..) rfl ?_
  exact Keeps.refl _ _

theorem execPackSample_keeps (c : Fin 6) (raw : BitVec 24) (ovr : Bool) (bad : Bool) (n : BitVec 16) (hall : Bool) (early : Bool) (half : Bool) (s : State) :
    KeepsR mask393 s (execPackSample c raw ovr bad n hall early half s) := by
  unfold execPackSample
  refine KeepsR.next ?_
  refine State.offers_keeps rfl ?_ ?_
  · exact Keeps.refl _ _
  · intro x1
    intro x2
    refine Keeps.step (State.packIn_keeps ..) rfl ?_
    exact x2

theorem execIsoDwellEnd_keeps (s : State) :
    KeepsR mask394 s (execIsoDwellEnd s) := by
  unfold execIsoDwellEnd
  refine KeepsR.next ?_
  refine State.acts_keeps rfl ?_ ?_
  · exact Keeps.refl _ _
  · intro x1
    intro x2
    refine Keeps.step (State.isoStep_keeps ..) rfl ?_
    exact x2

theorem execAutoGainUp_keeps (s : State) :
    KeepsR 0x100000 s (execAutoGainUp s) := by
  unfold execAutoGainUp
  refine KeepsR.next ?_
  refine State.runs_keeps rfl ?_ ?_
  · exact Keeps.refl _ _
  · intro x4
    intro x6
    refine Keeps.step (State.gainUp_keeps ..) rfl ?_
    exact x6

theorem execSyncSampleTimeout_keeps (c : Fin 6) (s : State) :
    KeepsR mask49 s (execSyncSampleTimeout c s) := by
  unfold execSyncSampleTimeout
  refine KeepsR.next ?_
  refine State.runs_keeps rfl ?_ ?_
  · exact Keeps.refl _ _
  · intro x4
    intro x6
    refine Keeps.step (State.syncTimeout_keeps ..) rfl ?_
    exact x6

theorem execConditionConfirm_keeps (n : Fin 21) (s : State) :
    KeepsR mask395 s (execConditionConfirm n s) := by
  unfold execConditionConfirm
  refine KeepsR.next ?_
  refine State.acts_keeps rfl ?_ ?_
  · exact Keeps.refl _ _
  · intro x1
    intro x2
    refine Keeps.step (State.condConfirm_keeps ..) rfl ?_
    exact x2

theorem execBrkWaitExpiry_keeps (s : State) :
    KeepsR mask396 s (execBrkWaitExpiry s) := by
  unfold execBrkWaitExpiry
  refine KeepsR.next ?_
  refine State.acts_keeps rfl ?_ ?_
  · exact Keeps.refl _ _
  · intro x1
    intro x2
    refine Keeps.step (State.brkExpiry_keeps ..) rfl ?_
    exact x2

theorem execChargeOnlyOvercurrent_keeps (s : State) :
    KeepsR mask397 s (execChargeOnlyOvercurrent s) := by
  unfold execChargeOnlyOvercurrent
  refine KeepsR.next ?_
  refine State.acts_keeps rfl ?_ ?_
  · exact Keeps.refl _ _
  · intro x1
    intro x2
    refine Keeps.step (State.chargeOver_keeps ..) rfl ?_
    exact x2

theorem execEstimationStateRecord_keeps (s : State) :
    KeepsR mask4 s (execEstimationStateRecord s) := by
  unfold execEstimationStateRecord
  refine KeepsR.next ?_
  refine State.offers_keeps rfl ?_ ?_
  · exact Keeps.refl _ _
  · intro x1
    intro x2
    refine Keeps.step (State.estRecord_keeps ..) rfl ?_
    exact x2

theorem execAuxContactChange_keeps (c : Fin 4) (closed : Bool) (s : State) :
    KeepsR mask398 s (execAuxContactChange c closed s) := by
  unfold execAuxContactChange
  refine KeepsR.next ?_
  refine State.atPins_keeps rfl ?_ ?_
  · exact Keeps.refl _ _
  · intro x1
    intro x2
    refine Keeps.step (State.auxPin_keeps ..) rfl ?_
    exact x2

theorem execTestWindowExpiry_keeps (s : State) :
    KeepsR mask399 s (execTestWindowExpiry s) := by
  unfold execTestWindowExpiry
  refine KeepsR.next ?_
  refine State.acts_keeps rfl ?_ ?_
  · exact Keeps.refl _ _
  · intro x1
    intro x2
    refine Keeps.step (State.windowEnd_keeps ..) rfl ?_
    exact x2

theorem execPrechargeTimeout_keeps (s : State) :
    KeepsR mask400 s (execPrechargeTimeout s) := by
  unfold execPrechargeTimeout
  refine KeepsR.next ?_
  refine State.acts_keeps rfl ?_ ?_
  · exact Keeps.refl _ _
  · intro x1
    intro x2
    refine Keeps.step (State.pcTimeout_keeps ..) rfl ?_
    exact x2

theorem execCoilPeakEnd_keeps (c : Fin 4) (s : State) :
    KeepsR mask83 s (execCoilPeakEnd c s) := by
  unfold execCoilPeakEnd
  refine KeepsR.next ?_
  refine State.runs_keeps rfl ?_ ?_
  · exact Keeps.refl _ _
  · intro x4
    intro x6
    refine Keeps.step (State.peakEnd_keeps ..) rfl ?_
    exact x6

theorem execCoilShort_keeps (c : Fin 4) (s : State) :
    KeepsR mask401 s (execCoilShort c s) := by
  unfold execCoilShort
  refine KeepsR.next ?_
  refine State.acts_keeps rfl ?_ ?_
  · exact Keeps.refl _ _
  · intro x1
    intro x2
    refine Keeps.step (State.coilFault_keeps ..) rfl ?_
    exact x2

theorem execCoilOpen_keeps (c : Fin 4) (s : State) :
    KeepsR mask401 s (execCoilOpen c s) := by
  unfold execCoilOpen
  refine KeepsR.next ?_
  refine State.acts_keeps rfl ?_ ?_
  · exact Keeps.refl _ _
  · intro x1
    intro x2
    refine Keeps.step (State.coilFault_keeps ..) rfl ?_
    exact x2

theorem execAuxMismatch_keeps (c : Fin 4) (s : State) :
    KeepsR mask402 s (execAuxMismatch c s) := by
  unfold execAuxMismatch
  refine KeepsR.next ?_
  refine State.acts_keeps rfl ?_ ?_
  · exact Keeps.refl _ _
  · intro x1
    intro x2
    refine Keeps.step (State.auxMismatch_keeps ..) rfl ?_
    exact x2

theorem execWeldCheck_keeps (c : Fin 4) (s : State) :
    KeepsR mask399 s (execWeldCheck c s) := by
  unfold execWeldCheck
  refine KeepsR.next ?_
  refine State.acts_keeps rfl ?_ ?_
  · exact Keeps.refl _ _
  · intro x1
    intro x2
    refine Keeps.step (State.weldCheck_keeps ..) rfl ?_
    exact x2

theorem execDoubleWeldCheck_keeps (s : State) :
    KeepsR mask403 s (execDoubleWeldCheck s) := by
  unfold execDoubleWeldCheck
  refine KeepsR.next ?_
  refine State.offers_keeps rfl ?_ ?_
  · exact Keeps.refl _ _
  · intro x1
    intro x2
    refine Keeps.step (State.doubleWeld_keeps ..) rfl ?_
    exact x2

theorem execDropout_keeps (s : State) :
    KeepsR mask404 s (execDropout s) := by
  unfold execDropout
  refine KeepsR.next ?_
  refine State.acts_keeps rfl ?_ ?_
  · exact Keeps.refl _ _
  · intro x1
    intro x2
    refine Keeps.step (State.dropout_keeps ..) rfl ?_
    exact x2

theorem execCoolDownEnd_keeps (s : State) :
    KeepsR mask99 s (execCoolDownEnd s) := by
  unfold execCoolDownEnd
  refine KeepsR.next ?_
  refine State.runs_keeps rfl ?_ ?_
  · exact Keeps.refl _ _
  · intro x4
    intro x6
    refine Keeps.step (State.coolEnd_keeps ..) rfl ?_
    exact x6

theorem execLswOvercurrentLatch_keeps (n : Fin 16) (s : State) :
    KeepsR mask405 s (execLswOvercurrentLatch n s) := by
  unfold execLswOvercurrentLatch
  refine KeepsR.next ?_
  refine State.offers_keeps rfl ?_ ?_
  · exact Keeps.refl _ _
  · intro x1
    intro x2
    refine Keeps.step (State.lswLatch_keeps ..) rfl ?_
    exact x2

theorem execLswThermalLatch_keeps (n : Fin 16) (s : State) :
    KeepsR mask405 s (execLswThermalLatch n s) := by
  unfold execLswThermalLatch
  refine KeepsR.next ?_
  refine State.offers_keeps rfl ?_ ?_
  · exact Keeps.refl _ _
  · intro x1
    intro x2
    refine Keeps.step (State.lswLatch_keeps ..) rfl ?_
    exact x2

theorem execBlankingEnd_keeps (n : Fin 16) (s : State) :
    KeepsR 0x800000 s (execBlankingEnd n s) := by
  unfold execBlankingEnd
  refine KeepsR.next ?_
  refine State.runs_keeps rfl ?_ ?_
  · exact Keeps.refl _ _
  · intro x4
    intro x6
    refine Keeps.step (State.blankEnd_keeps ..) rfl ?_
    exact x6

theorem execOpenLoadSet_keeps (n : Fin 16) (s : State) :
    KeepsR mask406 s (execOpenLoadSet n s) := by
  unfold execOpenLoadSet
  refine KeepsR.next ?_
  refine State.offers_keeps rfl ?_ ?_
  · exact Keeps.refl _ _
  · intro x1
    intro x2
    refine Keeps.step (State.openLoad_keeps ..) rfl ?_
    exact x2

theorem execOpenLoadClear_keeps (n : Fin 16) (s : State) :
    KeepsR mask406 s (execOpenLoadClear n s) := by
  unfold execOpenLoadClear
  refine KeepsR.next ?_
  refine State.offers_keeps rfl ?_ ?_
  · exact Keeps.refl _ _
  · intro x1
    intro x2
    refine Keeps.step (State.openLoad_keeps ..) rfl ?_
    exact x2

theorem execVfldUndervoltage_keeps (vfld : BitVec 16) (s : State) :
    KeepsR mask407 s (execVfldUndervoltage vfld s) := by
  unfold execVfldUndervoltage
  refine KeepsR.next ?_
  refine State.offers_keeps rfl ?_ ?_
  · exact Keeps.refl _ _
  · intro x1
    intro x2
    refine Keeps.step (State.vfldLow_keeps ..) rfl ?_
    exact x2

theorem execVfldRestore_keeps (s : State) :
    KeepsR mask178 s (execVfldRestore s) := by
  unfold execVfldRestore
  refine KeepsR.next ?_
  refine State.runs_keeps rfl ?_ ?_
  · exact Keeps.refl _ _
  · intro x4
    intro x6
    refine Keeps.step (State.vfldHigh_keeps ..) rfl ?_
    exact x6

theorem execLoopMeasurement_keeps (o0 : BitVec 16) (o1 : BitVec 16) (o2 : BitVec 16) (o3 : BitVec 16) (i0 : BitVec 16) (i1 : BitVec 16) (i2 : BitVec 16) (i3 : BitVec 16) (s : State) :
    KeepsR mask183 s (execLoopMeasurement o0 o1 o2 o3 i0 i1 i2 i3 s) := by
  unfold execLoopMeasurement
  refine KeepsR.next ?_
  refine State.runs_keeps rfl ?_ ?_
  · exact Keeps.refl _ _
  · intro x4
    intro x6
    refine Keeps.step (State.loopMeasure_keeps ..) rfl ?_
    exact x6

theorem execLoopCompliance_keeps (n : Fin 4) (s : State) :
    KeepsR mask408 s (execLoopCompliance n s) := by
  unfold execLoopCompliance
  refine KeepsR.next ?_
  refine State.offers_keeps rfl ?_ ?_
  · exact Keeps.refl _ _
  · intro x1
    intro x2
    refine Keeps.step (State.loopExpiry_keeps ..) rfl ?_
    exact x2

theorem execLisFoldback_keeps (n : Fin 4) (s : State) :
    KeepsR mask409 s (execLisFoldback n s) := by
  unfold execLisFoldback
  refine KeepsR.next ?_
  refine State.offers_keeps rfl ?_ ?_
  · exact Keeps.refl _ _
  · intro x1
    intro x2
    refine Keeps.step (State.lisFold_keeps ..) rfl ?_
    exact x2

theorem execLisRetry_keeps (n : Fin 4) (ok : Bool) (s : State) :
    KeepsR mask186 s (execLisRetry n ok s) := by
  unfold execLisRetry
  refine KeepsR.next ?_
  refine State.runs_keeps rfl ?_ ?_
  · exact Keeps.refl _ _
  · intro x4
    intro x6
    refine Keeps.step (State.lisRetry_keeps ..) rfl ?_
    exact x6

theorem execTouchKeyTouch_keeps (k : Fin 4) (s : State) :
    KeepsR mask410 s (execTouchKeyTouch k s) := by
  unfold execTouchKeyTouch
  refine KeepsR.next ?_
  refine State.offers_keeps rfl ?_ ?_
  · exact Keeps.refl _ _
  · intro x1
    intro x2
    refine Keeps.step (State.touch_keeps ..) rfl ?_
    exact x2

theorem execTouchKeyRelease_keeps (k : Fin 4) (s : State) :
    KeepsR mask411 s (execTouchKeyRelease k s) := by
  unfold execTouchKeyRelease
  refine KeepsR.next ?_
  refine State.offers_keeps rfl ?_ ?_
  · exact Keeps.refl _ _
  · intro x1
    intro x2
    refine Keeps.step (State.release_keeps ..) rfl ?_
    exact x2

theorem execTouchKeyStuck_keeps (k : Fin 4) (s : State) :
    KeepsR mask412 s (execTouchKeyStuck k s) := by
  unfold execTouchKeyStuck
  refine KeepsR.next ?_
  refine State.offers_keeps rfl ?_ ?_
  · exact Keeps.refl _ _
  · intro x1
    intro x2
    refine Keeps.step (State.stuck_keeps ..) rfl ?_
    exact x2

end Sys2Proof.Machine
end

