-- ==== Sys2Proof/Laws/KeepsCoreView.lean ====
section
/-! SUPPORT. The frame of every function of Machine/CoreView.lean: what it may change, and that it keeps the canonical forms and
the waiting commands. -/
namespace Sys2Proof.Machine

set_option Elab.async false

theorem State.ringData_keeps (s : State) (e : Nat) :
    Keeps 0x2000000 s (State.ringData s e).2 := by
  unfold State.ringData
  extract_lets v1 v2 v3 v4 v5 v6
  have h7 : Keeps 0x2000000 s v4.2 := by
    unfold v4
    refine Keeps.step (State.free_keeps ..) rfl ?_
    exact Keeps.refl _ _
  clear_value v4
  have h10 : Keeps 0x2000000 s v5.2 := by
    unfold v5
    refine Keeps.step (State.free_keeps ..) rfl ?_
    exact h7
  clear_value v5
  refine Keeps.iteSnd (fun _ => ?_) (fun _ => ?_)
  · dsimp only
    exact h10
  · dsimp only
    exact Keeps.refl _ _

theorem State.vatStat_keeps (s : State) :
    Keeps 0x2000000 s (State.vatStat s).2 := by
  unfold State.vatStat
  refine Keeps.iteSnd (fun _ => ?_) (fun _ => ?_)
  · extract_lets v2
    have h3 : Keeps 0x2000000 s v2.2 := by
      unfold v2
      refine Keeps.step (State.free_keeps ..) rfl ?_
      exact Keeps.refl _ _
    clear_value v2
    dsimp only
    exact h3
  · dsimp only
    exact Keeps.refl _ _

theorem State.globRead_keeps (s : State) (k : Nat) (off : Nat) :
    Keeps 0x2000020 s (State.globRead s k off).2 := by
  unfold State.globRead
  split
  · rename_i y1 y2 y3
    refine Keeps.step (State.supRead_keeps ..) rfl ?_
    exact Keeps.refl _ _
  · rename_i y6 y7
    refine Keeps.iteSnd (fun _ => ?_) (fun _ => ?_)
    · refine Keeps.step (State.ringData_keeps ..) rfl ?_
      exact Keeps.refl _ _
    · refine Keeps.iteSnd (fun _ => ?_) (fun _ => ?_)
      · refine Keeps.step (State.vatStat_keeps ..) rfl ?_
        exact Keeps.refl _ _
      · dsimp only
        exact Keeps.refl _ _

theorem State.placeRead_keeps (s : State) (k : Nat) (p : Nat) (pl : Place) :
    Keeps 0x2000020 s (State.placeRead s k p pl).2 := by
  unfold State.placeRead
  split
  · rename_i y1 y2
    dsimp only
    exact Keeps.refl _ _
  · rename_i y5 y6
    dsimp only
    exact Keeps.refl _ _
  · rename_i y9 y10 y11
    dsimp only
    exact Keeps.refl _ _
  · rename_i y14 y15
    refine Keeps.step (State.globRead_keeps ..) rfl ?_
    exact Keeps.refl _ _

end Sys2Proof.Machine
end

