-- ==== Sys2Proof/Laws/KeepsKeys.lean ====
section
/-! SUPPORT. The frame of every function of Machine/Keys.lean: what it may change, and that it keeps the canonical forms and
the waiting commands. -/
namespace Sys2Proof.Machine

set_option Elab.async false

theorem State.keyWrite_keeps (s : State) (p : Nat) (m : Nat) (port : Nat) (en : Nat) (v : Nat) :
    Keeps mask207 s (State.keyWrite s p m port en v) := by
  unfold State.keyWrite
  extract_lets v1 v2 v3
  refine Keeps.ite (fun _ => ?_) (fun _ => ?_)
  · refine Keeps.step (State.pcEv_keeps ..) rfl ?_
    exact Keeps.refl _ _
  · unfold State.putBitOf
    refine Keeps.put rfl ?_
    refine Keeps.step (State.setPart_keeps ..) rfl ?_
    exact Keeps.refl _ _

theorem State.stageClear_keeps (s : State) (p : Nat) :
    Keeps mask208 s (State.stageClear s p) := by
  unfold State.stageClear
  refine Keeps.put rfl ?_
  extract_lets v2
  refine Keeps.step (State.setPart_keeps ..) rfl ?_
  exact Keeps.refl _ _

theorem State.keyCommit_keeps (s : State) (p : Nat) (port : Nat) :
    Keeps mask209 s (State.keyCommit s p port) := by
  unfold State.keyCommit
  extract_lets v1 v2 v3 v4 v5
  have h6 : Keeps mask209 s v3 := by
    unfold v3
    refine Keeps.step (State.stageClear_keeps ..) rfl ?_
    exact Keeps.refl _ _
  clear_value v3
  have h9 : Keeps mask209 s v5 := by
    unfold v5
    refine Keeps.step (State.setPart_keeps ..) rfl ?_
    exact h6
  clear_value v5
  refine Keeps.ite (fun _ => ?_) (fun _ => ?_)
  · refine Keeps.put rfl ?_
    refine Keeps.put rfl ?_
    refine Keeps.put rfl ?_
    exact h9
  · refine Keeps.step (State.pcEv_keeps ..) rfl ?_
    refine Keeps.put rfl ?_
    refine Keeps.step (State.stageClear_keeps ..) rfl ?_
    exact Keeps.refl _ _

theorem State.keyErase_keeps (s : State) (p : Nat) :
    Keeps mask210 s (State.keyErase s p) := by
  unfold State.keyErase
  extract_lets v1 v2
  have h3 : Keeps mask210 s v2 := by
    unfold v2
    refine Keeps.step (State.setPart_keeps ..) rfl ?_
    refine Keeps.step (State.stageClear_keeps ..) rfl ?_
    exact Keeps.refl _ _
  clear_value v2
  refine Keeps.put rfl ?_
  refine Keeps.put rfl ?_
  exact h3

theorem State.scrubUnit_keeps (s : State) (u : Nat) (e : UnitErr) :
    Keeps mask117 s (State.scrubUnit s u e) := by
  unfold State.scrubUnit
  refine Keeps.step (State.unitRead_keeps ..) rfl ?_
  refine Keeps.step (State.vplant_keeps ..) rfl ?_
  exact Keeps.refl _ _

theorem State.scrub_keeps (s : State) (q : Nat) (es : List UnitErr) (forced : Bool) :
    Keeps mask211 s (State.scrub s q es forced) := by
  unfold State.scrub
  refine Keeps.ite (fun _ => ?_) (fun _ => ?_)
  · extract_lets v1 v2 v3 v4 v5 v6 v7 v8 v9 v10 v11 v12 v13
    have h14 : Keeps mask211 s v3 := by
      unfold v3
      refine Keeps.foldl _ ?_ (fun a15 b16 k17 => ?_)
      · exact Keeps.refl _ _
      · refine Keeps.step (State.scrubUnit_keeps ..) rfl ?_
        exact k17
    clear_value v3
    have h18 : Keeps mask211 s v8 := by
      unfold v8
      refine (Keeps.setVmem _ rfl ?_ ?_)
      · have e : v7.mem = v3.vmem.mem := by
          unfold v7
          split <;> rfl
        intro c
        rw [e]
        exact c
      · exact h14
    clear_value v8
    have h20 : Keeps mask211 s v13 := by
      unfold v13
      refine Keeps.put rfl ?_
      refine Keeps.put rfl ?_
      exact h18
    clear_value v13
    refine Keeps.ite (fun _ => ?_) (fun _ => ?_)
    · refine Keeps.count rfl ?_
      exact h20
    · exact h20
  · exact Keeps.refl _ _

end Sys2Proof.Machine
end

