-- ==== Sys2Proof/Laws/KeepsLadle.lean ====
section
/-! SUPPORT. The frame of every function of Machine/Ladle.lean: what it may change, and that it keeps the canonical forms and
the waiting commands. -/
namespace Sys2Proof.Machine

set_option Elab.async false

theorem State.copyPieces_keeps (s : State) (t : Nat) (p : Nat) (e : PEnt) (ps : List (Nat × Nat × Nat × Nat)) :
    Keeps 0x9000 s (State.copyPieces s t p e ps) := by
  unfold State.copyPieces
  extract_lets v1 v2 v3
  refine Keeps.foldl _ ?_ (fun a4 b5 k6 => ?_)
  · exact Keeps.refl _ _
  · refine Keeps.ite (fun _ => ?_) (fun _ => ?_)
    · refine State.setTile_keeps rfl ?_ ?_
      · refine Canon.step (Tile.put_canon ..) ?_
        refine Canon.tile (M := 0x9000) _ ?_
        exact k6
      · exact k6
    · refine Keeps.step (State.vwrite_keeps ..) rfl ?_
      exact k6

theorem State.rowCut_keeps (s : State) (t : Nat) (p : Nat) (e : PEnt) :
    Keeps mask117 s (State.rowCut s t p e) := by
  unfold State.rowCut
  extract_lets v1 v2 v3
  have h4 : Keeps mask117 s v3 := by
    unfold v3
    refine Keeps.step (State.unitsRead_keeps ..) rfl ?_
    exact Keeps.refl _ _
  clear_value v3
  refine Keeps.ite (fun _ => ?_) (fun _ => ?_)
  · exact h4
  · refine Keeps.step (State.tilePerf_keeps ..) rfl ?_
    refine Keeps.step (State.copyPieces_keeps ..) rfl ?_
    exact h4

theorem State.rowWaits_keeps (s : State) (t : Nat) (i : Nat) (n : Nat) :
    Keeps 0x9000 s (State.rowWaits s t i n) := by
  unfold State.rowWaits
  split
  · rename_i y1 y2 y3
    refine Keeps.ite (fun _ => ?_) (fun _ => ?_)
    · extract_lets v4 v5
      have h6 : Keeps 0x9000 s v4 := by
        unfold v4
        refine Keeps.step (State.setEnt_keeps ..) rfl ?_
        exact Keeps.refl _ _
      clear_value v4
      refine (Keeps.setVmem _ rfl id ?_)
      exact h6
    · refine Keeps.step (State.setEnt_keeps ..) rfl ?_
      exact Keeps.refl _ _
  · rename_i y7 y8
    exact Keeps.refl _ _

/-- The frame of a row's outcome. -/
structure KeepsRow (M : Nat) (s : State) (r : RowRes) : Prop where
  done : ∀ a, r = .done a → Keeps M s a
  wait : ∀ a, r = .wait a → Keeps M s a
  fault : ∀ a c, r = .fault a c → Keeps M s a

theorem KeepsRow.ofDone {M : Nat} {s a : State} (h : Keeps M s a) : KeepsRow M s (.done a) :=
  ⟨fun _ e => by cases e; exact h, fun _ e => (by cases e), fun _ _ e => (by cases e)⟩

theorem KeepsRow.ofWait {M : Nat} {s a : State} (h : Keeps M s a) : KeepsRow M s (.wait a) :=
  ⟨fun _ e => (by cases e), fun _ e => by cases e; exact h, fun _ _ e => (by cases e)⟩

theorem KeepsRow.ofFault {M : Nat} {s a : State} {c : Nat} (h : Keeps M s a) : KeepsRow M s (.fault a c) :=
  ⟨fun _ e => (by cases e), fun _ e => (by cases e), fun _ _ e => by cases e; exact h⟩

theorem State.ladleRow_keeps (s : State) (t p i : Nat) (e : PEnt) : KeepsRow mask117 s (s.ladleRow t p i e) := by
  have h0 : Keeps mask117 s s := Keeps.refl _ _
  unfold State.ladleRow
  extract_lets l xs at_ ps us s1
  have h1 : Keeps mask117 s s1 := Keeps.step (State.unitsRead_keeps ..) rfl h0
  split
  · exact KeepsRow.ofFault h0
  split
  · exact KeepsRow.ofFault (Keeps.step (State.rowCut_keeps ..) rfl h0)
  split
  · exact KeepsRow.ofWait (Keeps.step (State.rowWaits_keeps ..) rfl (Keeps.step (State.vatWake_keeps ..) rfl h0))
  split
  · exact KeepsRow.ofFault h1
  · exact KeepsRow.ofDone (Keeps.step (State.copyPieces_keeps ..) rfl h1)

theorem State.ladleNext_keeps {s : State} {t i : Nat} {e : PEnt} {more : State → State} {r : RowRes}
    (h : KeepsRow mask117 s r) (g : ∀ a, Keeps mask117 s a → Keeps mask117 s (more a)) : Keeps mask117 s (State.ladleNext t i e more r) := by
  unfold State.ladleNext
  split
  · exact h.wait _ rfl
  · split
    · exact Keeps.step (State.abortEnter_keeps ..) rfl (h.fault _ _ rfl)
    · exact h.fault _ _ rfl
  · exact g _ (Keeps.step (State.tilePerf_keeps ..) rfl (Keeps.step (State.setEnt_keeps ..) rfl (h.done _ rfl)))

theorem State.ladleRows_keeps (t i n : Nat) (s : State) : Keeps mask117 s (State.ladleRows t i n s) := by
  induction n generalizing s with
  | zero => exact Keeps.refl _ _
  | succ n ih =>
    have h0 : Keeps mask117 s s := Keeps.refl _ _
    rw [State.ladleRows.eq_2]
    split
    · refine Keeps.ite (fun _ => ?_) (fun _ => h0)
      exact State.ladleNext_keeps (State.ladleRow_keeps ..) fun a k => k.trans (ih a)
    · exact h0

theorem State.ladleAgain_keeps (s : State) (t : Nat) (n : Nat) :
    Keeps mask117 s (State.ladleAgain s t n) := by
  unfold State.ladleAgain
  split
  · rename_i y1 y2 y3
    refine Keeps.ite (fun _ => ?_) (fun _ => ?_)
    · refine Keeps.step (State.ladleRows_keeps ..) rfl ?_
      exact Keeps.refl _ _
    · exact Keeps.refl _ _
  · rename_i y4 y5
    exact Keeps.refl _ _

theorem State.ladle_keeps (s : State) (t : Nat) (ch : Bool) (opc : Nat) (n : Nat) :
    Keeps mask117 s (State.ladle s t ch opc n) := by
  unfold State.ladle
  extract_lets v1
  split
  · rename_i y2 y3 y4
    split
    · rename_i y5 y6 y7
      refine Keeps.ite (fun _ => ?_) (fun _ => ?_)
      · refine Keeps.step (State.ladleRows_keeps ..) rfl ?_
        exact Keeps.refl _ _
      · exact Keeps.refl _ _
    · rename_i y8 y9
      exact Keeps.refl _ _
  · rename_i y10 y11
    refine State.issueHead_keeps rfl ?_ ?_
    · exact Keeps.refl _ _
    · intro x12
      intro x13
      intro x14
      intro x15
      refine Keeps.step (State.ladleRows_keeps ..) rfl ?_
      exact x15

theorem State.pageLostTile_keeps (t p pp n : Nat) (s : State) : Keeps mask117 s (State.pageLostTile t p pp n s) := by
  induction n generalizing s with
  | zero => exact Keeps.refl _ _
  | succ n ih =>
    have h0 : Keeps mask117 s s := Keeps.refl _ _
    rw [State.pageLostTile.eq_2]
    split
    · extract_lets s1
      have h1 : Keeps mask117 s s1 := by
        unfold s1
        split
        · exact Keeps.step (State.rowCut_keeps ..) rfl h0
        · exact h0
      exact Keeps.step (ih _) rfl (Keeps.step (State.abortAt_keeps ..) rfl h1)
    · exact Keeps.step (State.enter_keeps ..) rfl h0

theorem State.pageLost_keeps (s : State) (p : Nat) (pp : Nat) :
    Keeps mask117 s (State.pageLost s p pp) := by
  unfold State.pageLost
  refine Keeps.foldl _ ?_ (fun a1 b2 k3 => ?_)
  · exact Keeps.refl _ _
  · refine Keeps.step (State.pageLostTile_keeps ..) rfl ?_
    exact k3

end Sys2Proof.Machine
end

