-- ==== Sys2Proof/Laws/KeepsSep.lean ====
section
/-! SUPPORT. The frame of every function of Machine/Sep.lean: what it may change, and that it keeps the canonical forms and
the waiting commands. -/
namespace Sys2Proof.Machine

set_option Elab.async false

theorem State.sepEv_keeps (s : State) (typ : Nat) (addr : Nat) (port : Nat) (p : Nat) :
    Keeps mask114 s (State.sepEv s typ addr port p) := by
  unfold State.sepEv
  refine Keeps.step (State.coreEv_keeps ..) rfl ?_
  exact Keeps.refl _ _

theorem State.reclaimCheck_keeps (s : State) (p : Nat) :
    Keeps mask328 s (State.reclaimCheck s p) := by
  unfold State.reclaimCheck
  extract_lets v1
  refine Keeps.ite (fun _ => ?_) (fun _ => ?_)
  · refine Keeps.step (State.perfClear_keeps ..) rfl ?_
    refine Keeps.put rfl ?_
    refine Keeps.step (State.stageClear_keeps ..) rfl ?_
    refine Keeps.put rfl ?_
    exact Keeps.refl _ _
  · exact Keeps.refl _ _

theorem State.reclaimChecks_keeps (s : State) :
    Keeps mask328 s (State.reclaimChecks s) := by
  unfold State.reclaimChecks
  refine Keeps.foldl _ ?_ (fun a1 b2 k3 => ?_)
  · exact Keeps.refl _ _
  · refine Keeps.step (State.reclaimCheck_keeps ..) rfl ?_
    exact k3

theorem State.pageClearing_keeps (s : State) (i : Nat) :
    Keeps 0xc000 s (State.pageClearing s i) := by
  unfold State.pageClearing
  extract_lets v1 v2 v3
  have h4 : Keeps 0xc000 s v2 := by
    unfold v2
    refine Keeps.step (State.setPage_keeps ..) rfl ?_
    exact Keeps.refl _ _
  clear_value v2
  refine Keeps.ite (fun _ => ?_) (fun _ => ?_)
  · exact Keeps.refl _ _
  · refine (Keeps.setVmem _ rfl id ?_)
    exact h4

theorem State.tileLeaves_keeps (s : State) (p : Nat) (t : Nat) :
    Keeps mask329 s (State.tileLeaves s p t) := by
  unfold State.tileLeaves
  refine Keeps.putBitOf rfl ?_
  refine Keeps.step (State.tileZero_keeps ..) rfl ?_
  exact Keeps.refl _ _

theorem State.tileTaken_keeps (s : State) (p : Nat) (t : Nat) :
    Keeps mask329 s (State.tileTaken s p t) := by
  unfold State.tileTaken
  refine Keeps.step (State.barTrim_keeps ..) rfl ?_
  refine Keeps.step (State.tileLeaves_keeps ..) rfl ?_
  exact Keeps.refl _ _

theorem State.reclaim_keeps (s : State) (p : Nat) :
    Keeps mask330 s (State.reclaim s p) := by
  unfold State.reclaim
  extract_lets v1 v2 v3 v4 v5 v6
  have h7 : Keeps mask330 s v1 := by
    unfold v1
    refine Keeps.put rfl ?_
    refine Keeps.put rfl ?_
    refine Keeps.step (State.keyErase_keeps ..) rfl ?_
    refine Keeps.put rfl ?_
    exact Keeps.refl _ _
  clear_value v1
  have h8 : Keeps mask330 s v4 := by
    unfold v4
    refine Keeps.put rfl ?_
    refine Keeps.foldl _ ?_ (fun a9 b10 k11 => ?_)
    · exact h7
    · refine Keeps.step (State.tileZero_keeps ..) rfl ?_
      exact k11
  clear_value v4
  have h12 : Keeps mask330 s v5 := by
    unfold v5
    refine Keeps.foldl _ ?_ (fun a13 b14 k15 => ?_)
    · exact h8
    · refine Keeps.step (State.pageClearing_keeps ..) rfl ?_
      refine Keeps.step (State.setPage_keeps ..) rfl ?_
      exact k15
  clear_value v5
  refine Keeps.step (State.reclaimCheck_keeps ..) rfl ?_
  refine Keeps.step (State.cqDrain_keeps ..) rfl ?_
  refine Keeps.step (State.putNpages_keeps ..) rfl ?_
  refine Keeps.step (State.setPart_keeps ..) rfl ?_
  exact h12

theorem State.ptCtl_keeps (s : State) (p : Nat) (op : Bool) (rec : Bool) :
    Keeps mask330 s (State.ptCtl s p op rec) := by
  unfold State.ptCtl
  refine Keeps.ite (fun _ => ?_) (fun _ => ?_)
  · refine Keeps.step (State.reclaim_keeps ..) rfl ?_
    exact Keeps.refl _ _
  · refine Keeps.ite (fun _ => ?_) (fun _ => ?_)
    · refine Keeps.put rfl ?_
      refine Keeps.put rfl ?_
      exact Keeps.refl _ _
    · exact Keeps.refl _ _

theorem State.ptTiles_keeps (s : State) (p : Nat) (asked : Nat) :
    Keeps mask329 s (State.ptTiles s p asked) := by
  unfold State.ptTiles
  refine Keeps.ite (fun _ => ?_) (fun _ => ?_)
  · exact Keeps.refl _ _
  · extract_lets v1 v2 v3
    have h4 : Keeps mask329 s v3 := by
      unfold v3
      refine Keeps.foldl _ ?_ (fun a5 b6 k7 => ?_)
      · exact Keeps.refl _ _
      · refine Keeps.ite (fun _ => ?_) (fun _ => ?_)
        · exact k7
        · refine Keeps.step (State.tileLeaves_keeps ..) rfl ?_
          exact k7
    clear_value v3
    refine Keeps.step (State.barTrim_keeps ..) rfl ?_
    refine Keeps.foldl _ ?_ (fun a8 b9 k10 => ?_)
    · exact h4
    · refine Keeps.ite (fun _ => ?_) (fun _ => ?_)
      · exact k10
      · extract_lets v11
        have h12 : Keeps mask329 s v11 := by
          unfold v11
          split
          · rename_i y13 y14 y15 y16 y17
            refine Keeps.step (State.tileTaken_keeps ..) rfl ?_
            exact k10
          · rename_i y18 y19 y20 y21
            exact k10
        clear_value v11
        refine Keeps.putBitOf rfl ?_
        exact h12

theorem State.ptPorts_keeps (s : State) (p : Nat) (req : Nat) :
    Keeps mask331 s (State.ptPorts s p req) := by
  unfold State.ptPorts
  extract_lets v1
  have h2 : Keeps mask331 s v1 := by
    unfold v1
    refine Keeps.put rfl ?_
    exact Keeps.refl _ _
  clear_value v1
  refine Keeps.ite (fun _ => ?_) (fun _ => ?_)
  · refine Keeps.put rfl ?_
    exact h2
  · refine Keeps.put rfl ?_
    exact h2

theorem State.admitPort_keeps (s : State) (p : Nat) (port : Nat) :
    Keeps mask332 s (State.admitPort s p port) := by
  unfold State.admitPort
  refine Keeps.ite (fun _ => ?_) (fun _ => ?_)
  · unfold State.putBitOf
    refine Keeps.put rfl ?_
    exact Keeps.refl _ _
  · exact Keeps.refl _ _

theorem State.prove_keeps (s : State) (k : Nat) (p : Nat) (proof : Nat) :
    Keeps mask333 s (State.prove s k p proof) := by
  unfold State.prove
  refine Keeps.ite (fun _ => ?_) (fun _ => ?_)
  · unfold State.putBitOf
    refine Keeps.put rfl ?_
    exact Keeps.refl _ _
  · refine Keeps.step (State.sepEv_keeps ..) rfl ?_
    exact Keeps.refl _ _

theorem State.entrySet_keeps (s : State) (i : Nat) (valid : Bool) (q : Nat) (pp : Nat) :
    Keeps mask334 s (State.entrySet s i valid q pp) := by
  unfold State.entrySet
  extract_lets v1 v2 v3 v4 v5 v6 v7 v8
  have h9 : Keeps mask334 s v3 := by
    unfold v3
    refine Keeps.step (State.setPage_keeps ..) rfl ?_
    exact Keeps.refl _ _
  clear_value v3
  have h10 : Keeps mask334 s v5 := by
    unfold v5
    refine Keeps.ite (fun _ => ?_) (fun _ => ?_)
    · refine Keeps.step (State.pageClearing_keeps ..) rfl ?_
      exact h9
    · refine Keeps.step (State.setPage_keeps ..) rfl ?_
      exact h9
  clear_value v5
  have h11 : Keeps mask334 s v7 := by
    unfold v7
    refine Keeps.ite (fun _ => ?_) (fun _ => ?_)
    · refine Keeps.step (State.setPart_keeps ..) rfl ?_
      exact h10
    · exact h10
  clear_value v7
  have h12 : Keeps mask334 s v8 := by
    unfold v8
    refine Keeps.step (State.putNpages_keeps ..) rfl ?_
    refine Keeps.step (State.putNpages_keeps ..) rfl ?_
    exact h11
  clear_value v8
  refine Keeps.ite (fun _ => ?_) (fun _ => ?_)
  · refine Keeps.step (State.pageLost_keeps ..) rfl ?_
    exact h12
  · exact h12

theorem State.pageWrite_keeps (s : State) (k : Nat) (p : Nat) (i : Nat) (en : Nat) (v : Nat) :
    Keeps mask334 s (State.pageWrite s k p i en v) := by
  unfold State.pageWrite
  extract_lets v1 v2 v3 v4 v5
  refine Keeps.ite (fun _ => ?_) (fun _ => ?_)
  · refine Keeps.step (State.sepEv_keeps ..) rfl ?_
    exact Keeps.refl _ _
  · refine Keeps.step (State.entrySet_keeps ..) rfl ?_
    exact Keeps.refl _ _

theorem State.ringWrite_keeps (s : State) (k : Nat) (p : Nat) (r : Nat) (off : Nat) (en : Nat) (v : Nat) :
    Keeps mask335 s (State.ringWrite s k p r off en v) := by
  unfold State.ringWrite
  extract_lets v1 v2
  have h3 : Keeps mask335 s v2 := by
    unfold v2
    refine Keeps.writeFields _ rfl ?_
    exact Keeps.refl _ _
  clear_value v2
  refine Keeps.ite (fun _ => ?_) (fun _ => ?_)
  · refine Keeps.ite (fun _ => ?_) (fun _ => ?_)
    · exact Keeps.refl _ _
    · refine Keeps.writeFields _ rfl ?_
      exact Keeps.refl _ _
  · refine Keeps.ite (fun _ => ?_) (fun _ => ?_)
    · refine Keeps.step (State.ringEn_keeps ..) rfl ?_
      refine Keeps.put rfl ?_
      exact h3
    · refine Keeps.ite (fun _ => ?_) (fun _ => ?_)
      · refine Keeps.step (State.doorbell_keeps ..) rfl ?_
        exact Keeps.refl _ _
      · refine Keeps.ite (fun _ => ?_) (fun _ => ?_)
        · refine Keeps.writeFields _ rfl ?_
          exact Keeps.refl _ _
        · exact Keeps.refl _ _

theorem State.cqReg_keeps (s : State) (k : Nat) (p : Nat) (off : Nat) (en : Nat) (v : Nat) :
    Keeps mask336 s (State.cqReg s k p off en v) := by
  unfold State.cqReg
  extract_lets v1 v2
  have h3 : Keeps mask336 s v2 := by
    unfold v2
    refine Keeps.writeFields _ rfl ?_
    exact Keeps.refl _ _
  clear_value v2
  refine Keeps.ite (fun _ => ?_) (fun _ => ?_)
  · refine Keeps.writeFields _ rfl ?_
    exact Keeps.refl _ _
  · refine Keeps.ite (fun _ => ?_) (fun _ => ?_)
    · refine Keeps.step (State.cqEn_keeps ..) rfl ?_
      refine Keeps.put rfl ?_
      exact h3
    · refine Keeps.ite (fun _ => ?_) (fun _ => ?_)
      · refine Keeps.step (State.cqCons_keeps ..) rfl ?_
        exact Keeps.refl _ _
      · exact Keeps.refl _ _

theorem State.perfReg_keeps (s : State) (p : Nat) (en : Nat) (v : Nat) :
    Keeps mask337 s (State.perfReg s p en v) := by
  unfold State.perfReg
  extract_lets v1 v2
  have h3 : Keeps mask337 s v1 := by
    unfold v1
    refine Keeps.writeFields _ rfl ?_
    exact Keeps.refl _ _
  clear_value v1
  have h6 : Keeps mask337 s v2 := by
    unfold v2
    refine Keeps.put rfl ?_
    exact h3
  clear_value v2
  refine Keeps.ite (fun _ => ?_) (fun _ => ?_)
  · refine Keeps.step (State.perfClear_keeps ..) rfl ?_
    exact h6
  · exact h6

theorem State.partWrite_keeps (s : State) (k : Nat) (p : Nat) (off : Nat) (en : Nat) (v : Nat) :
    Keeps mask338 s (State.partWrite s k p off en v) := by
  unfold State.partWrite
  refine Keeps.ite (fun _ => ?_) (fun _ => ?_)
  · refine Keeps.step (State.ringWrite_keeps ..) rfl ?_
    exact Keeps.refl _ _
  · refine Keeps.ite (fun _ => ?_) (fun _ => ?_)
    · refine Keeps.step (State.cqReg_keeps ..) rfl ?_
      exact Keeps.refl _ _
    · refine Keeps.ite (fun _ => ?_) (fun _ => ?_)
      · refine Keeps.step (State.admitPort_keeps ..) rfl ?_
        exact Keeps.refl _ _
      · refine Keeps.ite (fun _ => ?_) (fun _ => ?_)
        · refine Keeps.ite (fun _ => ?_) (fun _ => ?_)
          · refine Keeps.step (State.fltAck_keeps ..) rfl ?_
            exact Keeps.refl _ _
          · exact Keeps.refl _ _
        · refine Keeps.ite (fun _ => ?_) (fun _ => ?_)
          · refine Keeps.step (State.setBlk_keeps ..) rfl ?_
            exact Keeps.refl _ _
          · refine Keeps.ite (fun _ => ?_) (fun _ => ?_)
            · refine Keeps.step (State.perfReg_keeps ..) rfl ?_
              exact Keeps.refl _ _
            · refine Keeps.ite (fun _ => ?_) (fun _ => ?_)
              · refine Keeps.step (State.keyWrite_keeps ..) rfl ?_
                exact Keeps.refl _ _
              · refine Keeps.ite (fun _ => ?_) (fun _ => ?_)
                · refine Keeps.ite (fun _ => ?_) (fun _ => ?_)
                  · refine Keeps.step (State.keyCommit_keeps ..) rfl ?_
                    exact Keeps.refl _ _
                  · exact Keeps.refl _ _
                · exact Keeps.refl _ _

theorem State.tileWrite_keeps (s : State) (t : Nat) (off : Nat) (en : Nat) (v : Nat) :
    Keeps mask324 s (State.tileWrite s t off en v) := by
  unfold State.tileWrite
  refine Keeps.ite (fun _ => ?_) (fun _ => ?_)
  · refine Keeps.ite (fun _ => ?_) (fun _ => ?_)
    · refine Keeps.step (State.fltAck_keeps ..) rfl ?_
      exact Keeps.refl _ _
    · exact Keeps.refl _ _
  · refine Keeps.ite (fun _ => ?_) (fun _ => ?_)
    · refine Keeps.ite (fun _ => ?_) (fun _ => ?_)
      · refine Keeps.step (State.setBlk_keeps ..) rfl ?_
        exact Keeps.refl _ _
      · exact Keeps.refl _ _
    · exact Keeps.refl _ _

theorem State.tableWrite_keeps (s : State) (p : Nat) (off : Nat) (en : Nat) (v : Nat) :
    Keeps mask330 s (State.tableWrite s p off en v) := by
  unfold State.tableWrite
  refine Keeps.ite (fun _ => ?_) (fun _ => ?_)
  · refine Keeps.step (State.ptCtl_keeps ..) rfl ?_
    exact Keeps.refl _ _
  · refine Keeps.ite (fun _ => ?_) (fun _ => ?_)
    · refine Keeps.step (State.ptTiles_keeps ..) rfl ?_
      exact Keeps.refl _ _
    · refine Keeps.ite (fun _ => ?_) (fun _ => ?_)
      · refine Keeps.step (State.ptPorts_keeps ..) rfl ?_
        exact Keeps.refl _ _
      · exact Keeps.refl _ _

theorem State.globActs_keeps (s0 : State) (s : State) (b : Nat) (i : Nat) (en : Nat) (v : Nat) :
    Keeps mask339 s (State.globActs s0 s b i en v) := by
  unfold State.globActs
  refine Keeps.ite (fun _ => ?_) (fun _ => ?_)
  · refine Keeps.step (State.lnkCtlActs_keeps ..) rfl ?_
    exact Keeps.refl _ _
  · refine Keeps.ite (fun _ => ?_) (fun _ => ?_)
    · refine Keeps.step (State.txeqActs_keeps ..) rfl ?_
      exact Keeps.refl _ _
    · refine Keeps.ite (fun _ => ?_) (fun _ => ?_)
      · refine Keeps.step (State.rxctlActs_keeps ..) rfl ?_
        exact Keeps.refl _ _
      · refine Keeps.ite (fun _ => ?_) (fun _ => ?_)
        · refine Keeps.step (State.sscActs_keeps ..) rfl ?_
          exact Keeps.refl _ _
        · refine Keeps.ite (fun _ => ?_) (fun _ => ?_)
          · extract_lets v1
            have h2 : Keeps mask339 s v1 := by
              unfold v1
              refine Keeps.put rfl ?_
              exact Keeps.refl _ _
            clear_value v1
            refine Keeps.ite (fun _ => ?_) (fun _ => ?_)
            · refine Keeps.step (State.engineReset_keeps ..) rfl ?_
              exact h2
            · exact h2
          · refine Keeps.ite (fun _ => ?_) (fun _ => ?_)
            · refine Keeps.step (State.lscWinActs_keeps ..) rfl ?_
              exact Keeps.refl _ _
            · refine Keeps.ite (fun _ => ?_) (fun _ => ?_)
              · refine Keeps.put rfl ?_
                exact Keeps.refl _ _
              · refine Keeps.ite (fun _ => ?_) (fun _ => ?_)
                · refine Keeps.step (State.govCfgSat_keeps ..) rfl ?_
                  exact Keeps.refl _ _
                · exact Keeps.refl _ _

theorem State.globWrite_keeps (s : State) (k : Nat) (p : Nat) (off : Nat) (en : Nat) (v : Nat) :
    Keeps mask340 s (State.globWrite s k p off en v) := by
  unfold State.globWrite
  split
  · rename_i y1 y2 y3 y4 y5
    refine Keeps.ite (fun _ => ?_) (fun _ => ?_)
    · refine Keeps.ite (fun _ => ?_) (fun _ => ?_)
      · refine Keeps.step (State.fltAck_keeps ..) rfl ?_
        exact Keeps.refl _ _
      · exact Keeps.refl _ _
    · refine Keeps.ite (fun _ => ?_) (fun _ => ?_)
      · refine Keeps.step (State.setBlk_keeps ..) rfl ?_
        exact Keeps.refl _ _
      · exact Keeps.refl _ _
  · rename_i y15 y16
    refine Keeps.ite (fun _ => ?_) (fun _ => ?_)
    · exact Keeps.refl _ _
    · refine Keeps.ite (fun _ => ?_) (fun _ => ?_)
      · refine Keeps.ite (fun _ => ?_) (fun _ => ?_)
        · exact Keeps.refl _ _
        · refine Keeps.step (State.pageWrite_keeps ..) rfl ?_
          exact Keeps.refl _ _
      · refine Keeps.ite (fun _ => ?_) (fun _ => ?_)
        · refine Keeps.ite (fun _ => ?_) (fun _ => ?_)
          · exact Keeps.refl _ _
          · refine Keeps.step (State.tableWrite_keeps ..) rfl ?_
            exact Keeps.refl _ _
        · refine Keeps.ite (fun _ => ?_) (fun _ => ?_)
          · refine Keeps.step (State.prove_keeps ..) rfl ?_
            exact Keeps.refl _ _
          · split
            · rename_i y33 y34 y35 y36
              refine Keeps.ite (fun _ => ?_) (fun _ => ?_)
              · exact Keeps.refl _ _
              · refine Keeps.step (State.globActs_keeps ..) rfl ?_
                refine Keeps.writeReg (by assumption) (by decide +kernel) ?_
                exact Keeps.refl _ _
            · rename_i y42 y43
              exact Keeps.refl _ _

theorem State.placeWrite_keeps (s : State) (k : Nat) (p : Nat) (pl : Place) (en : Nat) (v : Nat) :
    Keeps mask341 s (State.placeWrite s k p pl en v) := by
  unfold State.placeWrite
  split
  · rename_i y1 y2
    exact Keeps.refl _ _
  · rename_i y4 y5
    refine Keeps.step (State.partWrite_keeps ..) rfl ?_
    exact Keeps.refl _ _
  · rename_i y8 y9 y10
    refine Keeps.step (State.tileWrite_keeps ..) rfl ?_
    exact Keeps.refl _ _
  · rename_i y13 y14
    refine Keeps.step (State.globWrite_keeps ..) rfl ?_
    exact Keeps.refl _ _

theorem State.readRegs_keeps (k : Nat) (p : Nat) (l0 : Nat) (a3 : Nat) (a4 : State) :
    Keeps 0x2000020 a4 (State.readRegs k p l0 a3 a4).2 := by
  induction l0 generalizing k p a3 a4 with
  | zero =>
    unfold State.readRegs
    dsimp only
    exact Keeps.refl _ _
  | succ l0 ih =>
    unfold State.readRegs
    extract_lets v39 v40
    have h41 : Keeps 0x2000020 a4 v39.2 := by
      unfold v39
      refine Keeps.step (State.placeRead_keeps ..) rfl ?_
      exact Keeps.refl _ _
    clear_value v39
    have h44 : Keeps 0x2000020 a4 v40.2 := by
      unfold v40
      refine Keeps.step (ih ..) rfl ?_
      exact h41
    clear_value v40
    dsimp only
    exact h44

theorem State.writeRegs_keeps (s : State) (k : Nat) (p : Nat) (a : Nat) (bs : List (Byte × Bool)) :
    Keeps mask341 s (State.writeRegs s k p a bs) := by
  unfold State.writeRegs
  extract_lets v1 v2
  have h3 : Keeps mask341 s v2 := by
    unfold v2
    refine Keeps.ite (fun _ => ?_) (fun _ => ?_)
    · refine Keeps.step (State.sepEv_keeps ..) rfl ?_
      exact Keeps.refl _ _
    · exact Keeps.refl _ _
  clear_value v2
  refine Keeps.foldl _ ?_ (fun a9 b10 k11 => ?_)
  · exact h3
  · refine Keeps.step (State.placeWrite_keeps ..) rfl ?_
    exact k11

theorem State.serveReg_keeps (s : State) (k : Nat) (r : Req) :
    Keeps mask342 s (State.serveReg s k r).2 := by
  unfold State.serveReg
  extract_lets v1 v2
  have h3 : Keeps mask342 s v2.2 := by
    unfold v2
    refine Keeps.step (State.placeRead_keeps ..) rfl ?_
    exact Keeps.refl _ _
  clear_value v2
  split
  · rename_i y7 y8 y9
    extract_lets v11
    have h12 : Keeps mask342 s v11.2 := by
      unfold v11
      refine Keeps.step (State.readRegs_keeps ..) rfl ?_
      exact Keeps.refl _ _
    clear_value v11
    dsimp only
    exact h12
  · rename_i y17 y18 y19 y20 y21
    dsimp only
    refine Keeps.step (State.writeRegs_keeps ..) rfl ?_
    exact Keeps.refl _ _
  · rename_i y25 y26 y27
    dsimp only
    split
    · rename_i y30 y31 y32
      refine Keeps.step (State.writeRegs_keeps ..) rfl ?_
      exact h3
    · rename_i y35 y36
      exact h3
  · rename_i y38 y39 y40 y41
    dsimp only
    split
    · rename_i y44 y45 y46
      refine Keeps.step (State.writeRegs_keeps ..) rfl ?_
      exact h3
    · rename_i y49 y50
      exact h3

theorem State.servePhys_keeps (s : State) (k : Nat) (r : Req) (a : Nat) :
    Keeps mask117 s (State.servePhys s k r a).2 := by
  unfold State.servePhys
  extract_lets v1 v2
  have h3 : Keeps mask117 s v2 := by
    unfold v2
    refine Keeps.step (State.unitsRead_keeps ..) rfl ?_
    exact Keeps.refl _ _
  clear_value v2
  refine Keeps.iteSnd (fun _ => ?_) (fun _ => ?_)
  · exact h3
  · split
    · rename_i y4 y5 y6 y7 y8 y9
      dsimp only
      refine Keeps.step (State.vwriteOn_keeps ..) rfl ?_
      exact h3
    · rename_i y10 y11 y12
      extract_lets v13
      dsimp only
      split
      · rename_i y14 y15 y16
        refine Keeps.step (State.vwrite_keeps ..) rfl ?_
        exact h3
      · rename_i y17 y18
        exact h3

theorem State.serve_keeps (s : State) (k : Nat) (r : Req) :
    Keeps mask342 s (State.serve s k r).2 := by
  unfold State.serve
  split
  · rename_i y1 y2 y3
    split
    · rename_i y5 y6
      dsimp only
      refine Keeps.step (State.vatWake_keeps ..) rfl ?_
      exact Keeps.refl _ _
    · rename_i y10 y11
      dsimp only
      exact Keeps.refl _ _
    · rename_i y14 y15
      dsimp only
      exact Keeps.refl _ _
    · rename_i y18 y19 y20
      refine Keeps.step (State.servePhys_keeps ..) rfl ?_
      exact Keeps.refl _ _
  · rename_i y23 y24 y25 y26
    refine Keeps.iteSnd (fun _ => ?_) (fun _ => ?_)
    · dsimp only
      exact Keeps.refl _ _
    · refine Keeps.step (State.serveReg_keeps ..) rfl ?_
      exact Keeps.refl _ _
  · rename_i y32 y33 y34
    refine Keeps.step (State.serveReg_keeps ..) rfl ?_
    exact Keeps.refl _ _

theorem State.setReqs_keeps (s : State) (k : Nat) (f : List Req → List Req) :
    Keeps 0x100 s (State.setReqs s k f) := by
  unfold State.setReqs
  refine Keeps.step (State.setPort_keeps ..) rfl ?_
  exact Keeps.refl _ _

theorem State.addReq_keeps (s : State) (k : Nat) (r : Req) :
    Keeps 0x100 s (State.addReq s k r) := by
  unfold State.addReq
  refine Keeps.step (State.setReqs_keeps ..) rfl ?_
  exact Keeps.refl _ _

theorem State.credit_keeps (s : State) (k : Nat) (n : Nat) :
    Keeps 0x100 s (State.credit s k n) := by
  unfold State.credit
  refine Keeps.step (State.setPort_keeps ..) rfl ?_
  exact Keeps.refl _ _

theorem State.serveAdd_keeps (s : State) (k : Nat) (r0 : Req) :
    Keeps mask342 s (State.serveAdd s k r0) := by
  unfold State.serveAdd
  extract_lets v1 v2 v3 v4
  have h5 : Keeps mask342 s v3 := by
    unfold v3
    refine (Keeps.setVmem _ rfl id ?_)
    exact Keeps.refl _ _
  clear_value v3
  have h6 : Keeps mask342 s v4.2 := by
    unfold v4
    refine Keeps.step (State.serve_keeps ..) rfl ?_
    exact h5
  clear_value v4
  refine Keeps.ite (fun _ => ?_) (fun _ => ?_)
  · refine Keeps.step (State.addReq_keeps ..) rfl ?_
    exact h5
  · split
    · rename_i y7 y8 y9
      refine Keeps.step (State.addReq_keeps ..) rfl ?_
      exact h6
    · rename_i y10 y11 y12 y13 y14 y15
      refine Keeps.step (State.credit_keeps ..) rfl ?_
      refine Keeps.step (State.addReq_keeps ..) rfl ?_
      exact h6

theorem State.qServe_keeps (s : State) (k : Nat) (r : Req) (bad : Bool) :
    Keeps mask342 s (State.qServe s k r bad) := by
  unfold State.qServe
  extract_lets v1 v2
  have h3 : Keeps mask342 s v2 := by
    unfold v2
    refine Keeps.ite (fun _ => ?_) (fun _ => ?_)
    · refine Keeps.step (State.sepEv_keeps ..) rfl ?_
      exact Keeps.refl _ _
    · refine Keeps.step (State.pcEv_keeps ..) rfl ?_
      exact Keeps.refl _ _
  clear_value v2
  refine Keeps.ite (fun _ => ?_) (fun _ => ?_)
  · refine Keeps.step (State.serveAdd_keeps ..) rfl ?_
    exact Keeps.refl _ _
  · refine Keeps.step (State.credit_keeps ..) rfl ?_
    refine Keeps.step (State.addReq_keeps ..) rfl ?_
    exact h3

theorem State.qArrive_keeps (s : State) (k : Nat) (r : Req) :
    Keeps mask342 s (State.qArrive s k r) := by
  unfold State.qArrive
  extract_lets v1 v2
  refine Keeps.ite (fun _ => ?_) (fun _ => ?_)
  · refine Keeps.step (State.qServe_keeps ..) rfl ?_
    refine Keeps.step (State.setPort_keeps ..) rfl ?_
    exact Keeps.refl _ _
  · exact Keeps.refl _ _

theorem State.retryReq_keeps (s : State) (k : Nat) (r : Req) :
    Keeps mask342 s (State.retryReq s k r) := by
  unfold State.retryReq
  refine Keeps.ite (fun _ => ?_) (fun _ => ?_)
  · exact Keeps.refl _ _
  · extract_lets v1
    have h2 : Keeps mask342 s v1.2 := by
      unfold v1
      refine Keeps.step (State.serve_keeps ..) rfl ?_
      exact Keeps.refl _ _
    clear_value v1
    split
    · rename_i y3 y4 y5
      exact h2
    · rename_i y6 y7 y8 y9 y10 y11
      refine Keeps.step (State.credit_keeps ..) rfl ?_
      refine Keeps.step (State.setReqs_keeps ..) rfl ?_
      exact h2

theorem State.retryOne_keeps (s : State) (x : Nat × Waiter) :
    Keeps mask342 s (State.retryOne s x) := by
  unfold State.retryOne
  extract_lets v1 v2 v3 v4
  have h5 : Keeps mask342 s v2 := by
    unfold v2
    refine (Keeps.setVmem _ rfl id ?_)
    exact Keeps.refl _ _
  clear_value v2
  have h6 : Keeps mask342 s v3 := by
    unfold v3
    split
    · rename_i y7 y8 y9 y10
      refine Keeps.step (State.retryReq_keeps ..) rfl ?_
      exact h5
    · rename_i y11 y12 y13
      refine Keeps.step (State.cqFlush_keeps ..) rfl ?_
      exact h5
    · rename_i y14 y15 y16
      refine Keeps.step (State.ladleAgain_keeps ..) rfl ?_
      exact h5
  clear_value v3
  refine (Keeps.setVmem _ rfl id ?_)
  exact h6

theorem State.retryAll_keeps (s : State) :
    Keeps mask342 s (State.retryAll s) := by
  unfold State.retryAll
  refine Keeps.foldl _ ?_ (fun a1 b2 k3 => ?_)
  · exact Keeps.refl _ _
  · refine Keeps.step (State.retryOne_keeps ..) rfl ?_
    exact k3

theorem State.respond_keeps (s : State) (k : Nat) (tag : Nat) (op : Nat) (kind : QOp → Bool) :
    Keeps 0x100 s (State.respond s k tag op kind) := by
  unfold State.respond
  extract_lets v1 v2
  split
  · rename_i y3 y4
    exact Keeps.refl _ _
  · rename_i y5 y6 y7
    extract_lets v8
    refine Keeps.step (State.setPort_keeps ..) rfl ?_
    exact Keeps.refl _ _

theorem State.coreWr_keeps (s : State) (w : CoreWr) (a : Nat) :
    Keeps mask343 s (State.coreWr s w a) := by
  unfold State.coreWr
  refine Keeps.step (State.powerSettle_keeps ..) rfl ?_
  refine Keeps.step (State.qArrive_keeps ..) rfl ?_
  exact Keeps.refl _ _

theorem State.qRow_keeps (s : State) (q : QHdr) (op : QOp) :
    Keeps mask343 s (State.qRow s q op) := by
  unfold State.qRow
  refine Keeps.step (State.powerSettle_keeps ..) rfl ?_
  refine Keeps.step (State.qArrive_keeps ..) rfl ?_
  exact Keeps.refl _ _

theorem State.clearUe_keeps (s : State) (u : Nat) :
    Keeps mask115 s (State.clearUe s u) := by
  unfold State.clearUe
  refine Keeps.step (State.ueReport_keeps ..) rfl ?_
  exact Keeps.refl _ _

theorem State.pageDone_keeps (s : State) (i : Nat) :
    Keeps 0x2000 s (State.pageDone s i) := by
  unfold State.pageDone
  refine Keeps.foldl _ ?_ (fun a1 b2 k3 => ?_)
  · exact Keeps.refl _ _
  · extract_lets v6
    refine Keeps.step (State.setPart_keeps ..) rfl ?_
    exact k3

theorem State.clearDone_keeps (s : State) (i : Nat) :
    Keeps mask342 s (State.clearDone s i) := by
  unfold State.clearDone
  split
  · rename_i y1 y2 y3 y4
    refine Keeps.ite (fun _ => ?_) (fun _ => ?_)
    · extract_lets v5 v6 v7 v8
      have h9 : Keeps mask342 s v5 := by
        unfold v5
        refine Keeps.step (State.vclear_keeps ..) rfl ?_
        refine Keeps.foldl _ ?_ (fun a10 b11 k12 => ?_)
        · exact Keeps.refl _ _
        · refine Keeps.step (State.clearUe_keeps ..) rfl ?_
          exact k12
      clear_value v5
      have h13 : Keeps mask342 s v7 := by
        unfold v7
        refine (Keeps.setVmem _ rfl id ?_)
        exact h9
      clear_value v7
      refine Keeps.step (State.retryAll_keeps ..) rfl ?_
      refine Keeps.step (State.reclaimChecks_keeps ..) rfl ?_
      refine Keeps.step (State.pageDone_keeps ..) rfl ?_
      refine Keeps.step (State.putNpages_keeps ..) rfl ?_
      refine Keeps.step (State.setPage_keeps ..) rfl ?_
      exact h13
    · exact Keeps.refl _ _
  · rename_i y14 y15
    exact Keeps.refl _ _

theorem State.zeroDone_keeps (s : State) (t : Nat) :
    Keeps mask342 s (State.zeroDone s t) := by
  unfold State.zeroDone
  extract_lets v1 v2 v3
  have h4 : Keeps mask342 s v2 := by
    unfold v2
    refine State.setTile_keeps rfl ?_ ?_
    · refine Canon.upd ?_
      unfold v1
      refine Canon.tile (M := mask342) _ ?_
      exact Keeps.refl _ _
    · exact Keeps.refl _ _
  clear_value v2
  have h11 : Keeps mask342 s v3 := by
    unfold v3
    refine Keeps.foldl _ ?_ (fun a13 b14 k15 => ?_)
    · exact h4
    · extract_lets v18
      refine Keeps.step (State.setPart_keeps ..) rfl ?_
      exact k15
  clear_value v3
  refine Keeps.ite (fun _ => ?_) (fun _ => ?_)
  · refine Keeps.step (State.retryAll_keeps ..) rfl ?_
    refine Keeps.step (State.reclaimChecks_keeps ..) rfl ?_
    exact h11
  · exact Keeps.refl _ _

theorem State.rsPort_keeps (s : State) (k : Nat) (idx : Nat) :
    Keeps 0x2000020 s (State.rsPort s k idx) := by
  unfold State.rsPort
  refine Keeps.ite (fun _ => ?_) (fun _ => ?_)
  · refine Keeps.step (State.supRead_keeps ..) rfl ?_
    exact Keeps.refl _ _
  · exact Keeps.refl _ _

end Sys2Proof.Machine
end

