-- ==== Sys2Proof/Laws/KeepsFlits.lean ====
section
/-! SUPPORT. The frame of every function of Machine/Flits.lean: what it may change, and that it keeps the canonical forms and
the waiting commands. -/
namespace Sys2Proof.Machine

set_option Elab.async false

theorem State.tAcq_keeps (s : State) (k : Nat) :
    Keeps mask413 s (State.tAcq s k) := by
  unfold State.tAcq
  refine Keeps.ite (fun _ => ?_) (fun _ => ?_)
  · refine Keeps.step (State.tryLight_keeps ..) rfl ?_
    refine Keeps.step (State.enterDown_keeps ..) rfl ?_
    exact Keeps.refl _ _
  · exact Keeps.refl _ _

theorem State.tAlign_keeps (s : State) (k : Nat) :
    Keeps mask24 s (State.tAlign s k) := by
  unfold State.tAlign
  refine Keeps.ite (fun _ => ?_) (fun _ => ?_)
  · refine Keeps.step (State.enterAcquire_keeps ..) rfl ?_
    exact Keeps.refl _ _
  · exact Keeps.refl _ _

theorem State.copperWait_keeps (s : State) (k : Nat) :
    Keeps mask23 s (State.copperWait s k) := by
  unfold State.copperWait
  refine Keeps.ite (fun _ => ?_) (fun _ => ?_)
  · refine Keeps.step (State.tryAlign_keeps ..) rfl ?_
    extract_lets v3
    refine Keeps.step (State.setPort_keeps ..) rfl ?_
    exact Keeps.refl _ _
  · exact Keeps.refl _ _

theorem State.tRetry_keeps (s : State) (k : Nat) :
    Keeps mask24 s (State.tRetry s k) := by
  unfold State.tRetry
  refine Keeps.ite (fun _ => ?_) (fun _ => ?_)
  · refine Keeps.step (State.tryCopper_keeps ..) rfl ?_
    extract_lets v3
    refine Keeps.step (State.setPort_keeps ..) rfl ?_
    exact Keeps.refl _ _
  · exact Keeps.refl _ _

theorem State.tWiden_keeps (s : State) (k : Nat) :
    Keeps mask25 s (State.tWiden s k) := by
  unfold State.tWiden
  extract_lets v1 v2 v3 v4
  have h5 : Keeps mask25 s v2 := by
    unfold v2
    refine State.withSvc_keeps rfl ?_ ?_
    · refine Keeps.step (State.setPort_keeps ..) rfl ?_
      exact Keeps.refl _ _
    · intro x10
      intro x12
      unfold State.putBitOf
      refine Keeps.put rfl ?_
      exact x12
  clear_value v2
  have h16 : Keeps mask25 s v3 := by
    unfold v3
    refine Keeps.step (State.widthState_keeps ..) rfl ?_
    exact h5
  clear_value v3
  refine Keeps.ite (fun _ => ?_) (fun _ => ?_)
  · refine Keeps.ite (fun _ => ?_) (fun _ => ?_)
    · refine Keeps.step (State.widthReqOwn_keeps ..) rfl ?_
      exact h16
    · exact h16
  · exact Keeps.refl _ _

theorem State.tLmWidth_keeps (s : State) (k : Nat) :
    Keeps mask25 s (State.tLmWidth s k) := by
  unfold State.tLmWidth
  extract_lets v1
  split
  · rename_i y3 y4 y5
    refine Keeps.ite (fun _ => ?_) (fun _ => ?_)
    · exact Keeps.refl _ _
    · refine Keeps.ite (fun _ => ?_) (fun _ => ?_)
      · refine Keeps.step (State.lm_keeps ..) rfl ?_
        refine Keeps.step (State.setPort_keeps ..) rfl ?_
        exact Keeps.refl _ _
      · refine Keeps.step (State.retrainOwn_keeps ..) rfl ?_
        exact Keeps.refl _ _
  · rename_i y14 y15
    exact Keeps.refl _ _

theorem State.tLmLoop_keeps (s : State) (k : Nat) :
    Keeps mask414 s (State.tLmLoop s k) := by
  unfold State.tLmLoop
  extract_lets v1
  split
  · rename_i y3 y4 y5
    refine Keeps.ite (fun _ => ?_) (fun _ => ?_)
    · exact Keeps.refl _ _
    · refine Keeps.ite (fun _ => ?_) (fun _ => ?_)
      · refine Keeps.step (State.lm_keeps ..) rfl ?_
        refine Keeps.step (State.setPort_keeps ..) rfl ?_
        exact Keeps.refl _ _
      · refine Keeps.step (State.lnkEv_keeps ..) rfl ?_
        unfold State.putFlag
        refine Keeps.put rfl ?_
        refine Keeps.step (State.setPort_keeps ..) rfl ?_
        exact Keeps.refl _ _
  · rename_i y17 y18
    exact Keeps.refl _ _

theorem State.tLmRemap_keeps (s : State) (k : Nat) :
    Keeps mask42 s (State.tLmRemap s k) := by
  unfold State.tLmRemap
  split
  · rename_i y1 y2 y3
    refine Keeps.ite (fun _ => ?_) (fun _ => ?_)
    · refine Keeps.step (State.remapAbortOwn_keeps ..) rfl ?_
      exact Keeps.refl _ _
    · exact Keeps.refl _ _
  · rename_i y8 y9
    exact Keeps.refl _ _

theorem State.tLm_keeps (s : State) (k : Nat) (hs : Nat) :
    Keeps mask415 s (State.tLm s k hs) := by
  unfold State.tLm
  refine Keeps.ite (fun _ => ?_) (fun _ => ?_)
  · refine Keeps.step (State.tLmWidth_keeps ..) rfl ?_
    exact Keeps.refl _ _
  · refine Keeps.ite (fun _ => ?_) (fun _ => ?_)
    · refine Keeps.step (State.tLmRemap_keeps ..) rfl ?_
      exact Keeps.refl _ _
    · refine Keeps.step (State.tLmLoop_keeps ..) rfl ?_
      exact Keeps.refl _ _

theorem State.tRemap_keeps (s : State) (k : Nat) (rx : Bool) :
    Keeps mask41 s (State.tRemap s k rx) := by
  unfold State.tRemap
  split
  · rename_i y1 y2 y3
    refine Keeps.ite (fun _ => ?_) (fun _ => ?_)
    · exact Keeps.refl _ _
    · extract_lets v4
      have h5 : Keeps mask41 s v4 := by
        unfold v4
        refine Keeps.step (State.remapAbortOwn_keeps ..) rfl ?_
        exact Keeps.refl _ _
      clear_value v4
      refine Keeps.ite (fun _ => ?_) (fun _ => ?_)
      · exact h5
      · refine Keeps.step (State.failRemap_keeps ..) rfl ?_
        exact h5
  · rename_i y6 y7
    exact Keeps.refl _ _

theorem State.losBlankEnd_keeps (s : State) (k : Nat) (los : Bool) :
    Keeps mask24 s (State.losBlankEnd s k los) := by
  unfold State.losBlankEnd
  refine Keeps.ite (fun _ => ?_) (fun _ => ?_)
  · extract_lets v1 v2
    have h3 : Keeps mask24 s v2 := by
      unfold v2
      refine Keeps.step (State.setPort_keeps ..) rfl ?_
      exact Keeps.refl _ _
    clear_value v2
    refine Keeps.step (State.tryLight_keeps ..) rfl ?_
    refine Keeps.putFlag rfl ?_
    refine Keeps.putBitOf rfl ?_
    exact h3
  · exact Keeps.refl _ _

theorem State.nakAgain_keeps (s : State) (k : Nat) :
    Keeps 0x100 s (State.nakAgain s k) := by
  unfold State.nakAgain
  extract_lets v1
  refine Keeps.ite (fun _ => ?_) (fun _ => ?_)
  · refine Keeps.step (State.setPort_keeps ..) rfl ?_
    exact Keeps.refl _ _
  · exact Keeps.refl _ _

theorem State.replayDue_keeps (s : State) (k : Nat) :
    Keeps mask26 s (State.replayDue s k) := by
  unfold State.replayDue
  refine Keeps.ite (fun _ => ?_) (fun _ => ?_)
  · refine Keeps.step (State.startReplay_keeps ..) rfl ?_
    exact Keeps.refl _ _
  · exact Keeps.refl _ _

theorem State.loopResend_keeps (s : State) (k : Nat) :
    Keeps 0x100 s (State.loopResend s k) := by
  unfold State.loopResend
  split
  · rename_i y1 y2 y3
    refine Keeps.ite (fun _ => ?_) (fun _ => ?_)
    · refine Keeps.step (State.lm_keeps ..) rfl ?_
      exact Keeps.refl _ _
    · exact Keeps.refl _ _
  · rename_i y8 y9
    exact Keeps.refl _ _

theorem State.gotLm_keeps (s : State) (k : Nat) (b : Bytes) (sent : Nat) :
    Keeps mask151 s (State.gotLm s k b sent) := by
  unfold State.gotLm
  extract_lets v1
  split
  · rename_i y3 y4
    refine Keeps.step (State.gotInit_keeps ..) rfl ?_
    exact Keeps.refl _ _
  · rename_i y7 y8
    refine Keeps.step (State.gotWidthReq_keeps ..) rfl ?_
    exact Keeps.refl _ _
  · rename_i y11 y12
    refine Keeps.step (State.gotWidthAck_keeps ..) rfl ?_
    exact Keeps.refl _ _
  · rename_i y15 y16
    refine Keeps.step (State.gotRemapReq_keeps ..) rfl ?_
    exact Keeps.refl _ _
  · rename_i y19 y20
    refine Keeps.step (State.gotRemapRdy_keeps ..) rfl ?_
    exact Keeps.refl _ _
  · rename_i y23 y24
    refine Keeps.step (State.gotRemapSw_keeps ..) rfl ?_
    exact Keeps.refl _ _
  · rename_i y27 y28
    refine Keeps.step (State.gotRemapAbort_keeps ..) rfl ?_
    exact Keeps.refl _ _
  · rename_i y31 y32
    refine Keeps.step (State.gotLoopAck_keeps ..) rfl ?_
    exact Keeps.refl _ _
  · rename_i y35 y36
    refine Keeps.step (State.retrain_keeps ..) rfl ?_
    exact Keeps.refl _ _
  · rename_i y39 y40 y41 y42 y43 y44 y45 y46 y47 y48
    exact Keeps.refl _ _

theorem State.lmFlit_keeps (s : State) (k : Nat) (b : Bytes) :
    Keeps mask151 s (State.lmFlit s k b) := by
  unfold State.lmFlit
  refine Keeps.step (State.gotLm_keeps ..) rfl ?_
  exact Keeps.refl _ _

theorem State.qDeliver_keeps (s : State) (k : Nat) (b : Bytes) (fl : Nat) :
    Keeps mask342 s (State.qDeliver s k b fl) := by
  unfold State.qDeliver
  refine Keeps.ite (fun _ => ?_) (fun _ => ?_)
  · refine Keeps.step (State.credit_keeps ..) rfl ?_
    exact Keeps.refl _ _
  · extract_lets v1
    refine Keeps.step (State.qServe_keeps ..) rfl ?_
    exact Keeps.refl _ _

theorem State.qFlit_keeps (s : State) (k : Nat) (h : FlitHdr) (b : Bytes) :
    Keeps mask342 s (State.qFlit s k h b) := by
  unfold State.qFlit
  extract_lets v1 v2 v3 v4 v5
  have h6 : Keeps mask342 s v5 := by
    unfold v5
    refine Keeps.step (State.setPort_keeps ..) rfl ?_
    exact Keeps.refl _ _
  clear_value v5
  refine Keeps.ite (fun _ => ?_) (fun _ => ?_)
  · refine Keeps.step (State.qDeliver_keeps ..) rfl ?_
    exact h6
  · exact h6

theorem State.txnFlit_keeps (s : State) (k : Nat) (a2 : FlitHdr) (b : Bytes) :
    Keeps mask416 s (State.txnFlit s k a2 b) := by
  unfold State.txnFlit
  extract_lets v1 v2
  have h3 : Keeps mask416 s v2 := by
    unfold v2
    refine Keeps.step (State.takeHeader_keeps ..) rfl ?_
    refine Keeps.step (State.setPort_keeps ..) rfl ?_
    exact Keeps.refl _ _
  clear_value v2
  refine Keeps.ite (fun _ => ?_) (fun _ => ?_)
  · refine Keeps.step (State.qFlit_keeps ..) rfl ?_
    exact h3
  · refine Keeps.step (State.protoErr_keeps ..) rfl ?_
    exact h3

theorem State.flit_keeps (s : State) (k : Nat) (b : Bytes) :
    Keeps mask417 s (State.flit s k b) := by
  unfold State.flit
  extract_lets v1 v2 v3 v4 v5
  have h6 : Keeps mask417 s v4 := by
    unfold v4
    refine Keeps.step (State.takeHeader_keeps ..) rfl ?_
    exact Keeps.refl _ _
  clear_value v4
  have h9 : Keeps mask417 s v5 := by
    unfold v5
    refine Keeps.ite (fun _ => ?_) (fun _ => ?_)
    · exact h6
    · refine Keeps.step (State.seqError_keeps ..) rfl ?_
      exact h6
  clear_value v5
  refine Keeps.ite (fun _ => ?_) (fun _ => ?_)
  · refine Keeps.ite (fun _ => ?_) (fun _ => ?_)
    · refine Keeps.step (State.seqError_keeps ..) rfl ?_
      unfold State.count
      refine Keeps.put rfl ?_
      exact Keeps.refl _ _
    · refine Keeps.ite (fun _ => ?_) (fun _ => ?_)
      · refine Keeps.ite (fun _ => ?_) (fun _ => ?_)
        · refine Keeps.step (State.txnFlit_keeps ..) rfl ?_
          exact Keeps.refl _ _
        · refine Keeps.step (State.seqError_keeps ..) rfl ?_
          exact Keeps.refl _ _
      · refine Keeps.ite (fun _ => ?_) (fun _ => ?_)
        · refine Keeps.step (State.lmFlit_keeps ..) rfl ?_
          exact h9
        · exact h9
  · refine Keeps.ite (fun _ => ?_) (fun _ => ?_)
    · refine Keeps.ite (fun _ => ?_) (fun _ => ?_)
      · unfold State.count
        refine Keeps.put rfl ?_
        exact Keeps.refl _ _
      · refine Keeps.ite (fun _ => ?_) (fun _ => ?_)
        · refine Keeps.step (State.gotInit_keeps ..) rfl ?_
          exact Keeps.refl _ _
        · exact Keeps.refl _ _
    · exact Keeps.refl _ _

end Sys2Proof.Machine
end

