-- ==== Sys2Proof/Laws/KeepsExecLink.lean ====
section
/-! SUPPORT. The frame of every function of Machine/ExecLink.lean: what it may change, and that it keeps the canonical forms and
the waiting commands. -/
namespace Sys2Proof.Machine

set_option Elab.async false

theorem execLnkEnWrite_keeps (w : CoreWr) (k : Fin 18) (s : State) :
    KeepsR mask418 s (execLnkEnWrite w k s) := by
  unfold execLnkEnWrite
  refine KeepsR.next ?_
  refine State.acts_keeps rfl ?_ ?_
  · exact Keeps.refl _ _
  · intro x1
    intro x2
    refine Keeps.step (State.coreWr_keeps ..) rfl ?_
    exact x2

theorem execLnkRetrainWrite_keeps (w : CoreWr) (k : Fin 18) (s : State) :
    KeepsR mask418 s (execLnkRetrainWrite w k s) := by
  unfold execLnkRetrainWrite
  refine KeepsR.next ?_
  refine State.acts_keeps rfl ?_ ?_
  · exact Keeps.refl _ _
  · intro x1
    intro x2
    refine Keeps.step (State.coreWr_keeps ..) rfl ?_
    exact x2

theorem execLnkLoopReqWrite_keeps (w : CoreWr) (k : Fin 18) (s : State) :
    KeepsR mask418 s (execLnkLoopReqWrite w k s) := by
  unfold execLnkLoopReqWrite
  refine KeepsR.next ?_
  refine State.acts_keeps rfl ?_ ?_
  · exact Keeps.refl _ _
  · intro x1
    intro x2
    refine Keeps.step (State.coreWr_keeps ..) rfl ?_
    exact x2

theorem execLnkTxeqWrite_keeps (w : CoreWr) (k : Fin 18) (s : State) :
    KeepsR mask418 s (execLnkTxeqWrite w k s) := by
  unfold execLnkTxeqWrite
  refine KeepsR.next ?_
  refine State.acts_keeps rfl ?_ ?_
  · exact Keeps.refl _ _
  · intro x1
    intro x2
    refine Keeps.step (State.coreWr_keeps ..) rfl ?_
    exact x2

theorem execDfeReset_keeps (w : CoreWr) (k : Fin 18) (s : State) :
    KeepsR mask418 s (execDfeReset w k s) := by
  unfold execDfeReset
  refine KeepsR.next ?_
  refine State.acts_keeps rfl ?_ ?_
  · exact Keeps.refl _ _
  · intro x1
    intro x2
    refine Keeps.step (State.coreWr_keeps ..) rfl ?_
    exact x2

theorem execDfeFreezeWrite_keeps (w : CoreWr) (k : Fin 18) (s : State) :
    KeepsR mask418 s (execDfeFreezeWrite w k s) := by
  unfold execDfeFreezeWrite
  refine KeepsR.next ?_
  refine State.acts_keeps rfl ?_ ?_
  · exact Keeps.refl _ _
  · intro x1
    intro x2
    refine Keeps.step (State.coreWr_keeps ..) rfl ?_
    exact x2

theorem execLnkSscWrite_keeps (w : CoreWr) (k : Fin 18) (s : State) :
    KeepsR mask418 s (execLnkSscWrite w k s) := by
  unfold execLnkSscWrite
  refine KeepsR.next ?_
  refine State.acts_keeps rfl ?_ ?_
  · exact Keeps.refl _ _
  · intro x1
    intro x2
    refine Keeps.step (State.coreWr_keeps ..) rfl ?_
    exact x2

theorem execFlitReceive_keeps (k : Fin 18) (flit : List Byte) (s : State) :
    KeepsR mask419 s (execFlitReceive k flit s) := by
  unfold execFlitReceive
  refine KeepsR.step (wfElse_keeps ..) rfl ?_
  refine State.acts_keeps rfl ?_ ?_
  · exact Keeps.refl _ _
  · intro x1
    intro x2
    refine Keeps.step (State.powerSettle_keeps ..) rfl ?_
    refine Keeps.step (State.flit_keeps ..) rfl ?_
    refine Keeps.step (State.lmClear_keeps ..) rfl ?_
    exact x2

theorem execNakTimeout_keeps (k : Fin 18) (s : State) :
    KeepsR 0x100 s (execNakTimeout k s) := by
  unfold execNakTimeout
  refine KeepsR.next ?_
  refine State.runs_keeps rfl ?_ ?_
  · exact Keeps.refl _ _
  · intro x4
    intro x6
    refine Keeps.step (State.nakAgain_keeps ..) rfl ?_
    refine Keeps.step (State.lmClear_keeps ..) rfl ?_
    exact x6

theorem execReplayTimeout_keeps (k : Fin 18) (s : State) :
    KeepsR mask420 s (execReplayTimeout k s) := by
  unfold execReplayTimeout
  refine KeepsR.next ?_
  refine State.acts_keeps rfl ?_ ?_
  · exact Keeps.refl _ _
  · intro x1
    intro x2
    refine Keeps.step (State.replayDue_keeps ..) rfl ?_
    refine Keeps.step (State.lmClear_keeps ..) rfl ?_
    exact x2

theorem execInit_keeps (k : Fin 18) (m : InitMsg) (s : State) :
    KeepsR mask421 s (execInit k m s) := by
  unfold execInit
  refine KeepsR.next ?_
  refine State.acts_keeps rfl ?_ ?_
  · exact Keeps.refl _ _
  · intro x1
    intro x2
    refine Keeps.step (State.gotInit_keeps ..) rfl ?_
    refine Keeps.step (State.lmClear_keeps ..) rfl ?_
    exact x2

theorem execTInitExpiry_keeps (k : Fin 18) (s : State) :
    KeepsR mask422 s (execTInitExpiry k s) := by
  unfold execTInitExpiry
  refine KeepsR.next ?_
  refine State.acts_keeps rfl ?_ ?_
  · exact Keeps.refl _ _
  · intro x1
    intro x2
    refine Keeps.step (State.sendInit_keeps ..) rfl ?_
    refine Keeps.step (State.lmClear_keeps ..) rfl ?_
    exact x2

theorem execWidthReq_keeps (k : Fin 18) (txid : Byte) (mask : BitVec 16) (sent : Byte) (s : State) :
    KeepsR 0x20000100 s (execWidthReq k txid mask sent s) := by
  unfold execWidthReq
  refine KeepsR.next ?_
  refine State.runs_keeps rfl ?_ ?_
  · exact Keeps.refl _ _
  · intro x4
    intro x6
    refine Keeps.step (State.gotWidthReq_keeps ..) rfl ?_
    refine Keeps.step (State.lmClear_keeps ..) rfl ?_
    exact x6

theorem execWidthAck_keeps (k : Fin 18) (txid : Byte) (mask : BitVec 16) (m : Byte) (s : State) :
    KeepsR 0x100 s (execWidthAck k txid mask m s) := by
  unfold execWidthAck
  refine KeepsR.next ?_
  refine State.runs_keeps rfl ?_ ?_
  · exact Keeps.refl _ _
  · intro x4
    intro x6
    refine Keeps.step (State.gotWidthAck_keeps ..) rfl ?_
    refine Keeps.step (State.lmClear_keeps ..) rfl ?_
    exact x6

theorem execWidthSwitch_keeps (k : Fin 18) (rx : Bool) (s : State) :
    KeepsR mask423 s (execWidthSwitch k rx s) := by
  unfold execWidthSwitch
  refine KeepsR.next ?_
  refine State.acts_keeps rfl ?_ ?_
  · exact Keeps.refl _ _
  · intro x1
    intro x2
    refine Keeps.step (State.widthSwitched_keeps ..) rfl ?_
    refine Keeps.step (State.lmClear_keeps ..) rfl ?_
    exact x2

theorem execRemapReq_keeps (k : Fin 18) (txid : Byte) (theyReceive : Bool) (fail : Bool) (lane : Byte) (b : Byte) (s : State) :
    KeepsR mask153 s (execRemapReq k txid theyReceive fail lane b s) := by
  unfold execRemapReq
  refine KeepsR.next ?_
  refine State.runs_keeps rfl ?_ ?_
  · exact Keeps.refl _ _
  · intro x4
    intro x6
    refine Keeps.step (State.gotRemapReq_keeps ..) rfl ?_
    refine Keeps.step (State.lmClear_keeps ..) rfl ?_
    exact x6

theorem execRemapRdy_keeps (k : Fin 18) (txid : Byte) (lane : Byte) (b : Byte) (sent : Byte) (s : State) :
    KeepsR 0x20000300 s (execRemapRdy k txid lane b sent s) := by
  unfold execRemapRdy
  refine KeepsR.next ?_
  refine State.runs_keeps rfl ?_ ?_
  · exact Keeps.refl _ _
  · intro x4
    intro x6
    refine Keeps.step (State.gotRemapRdy_keeps ..) rfl ?_
    refine Keeps.step (State.lmClear_keeps ..) rfl ?_
    exact x6

theorem execRemapSw_keeps (k : Fin 18) (txid : Byte) (lane : Byte) (b : Byte) (m : Byte) (s : State) :
    KeepsR 0x100 s (execRemapSw k txid lane b m s) := by
  unfold execRemapSw
  refine KeepsR.next ?_
  refine State.runs_keeps rfl ?_ ?_
  · exact Keeps.refl _ _
  · intro x4
    intro x6
    refine Keeps.step (State.gotRemapSw_keeps ..) rfl ?_
    refine Keeps.step (State.lmClear_keeps ..) rfl ?_
    exact x6

theorem execRemapSwitch_keeps (k : Fin 18) (rx : Bool) (s : State) :
    KeepsR mask424 s (execRemapSwitch k rx s) := by
  unfold execRemapSwitch
  refine KeepsR.next ?_
  refine State.acts_keeps rfl ?_ ?_
  · exact Keeps.refl _ _
  · intro x1
    intro x2
    refine Keeps.step (State.remapSwitched_keeps ..) rfl ?_
    refine Keeps.step (State.lmClear_keeps ..) rfl ?_
    exact x2

theorem execRemapAbort_keeps (k : Fin 18) (txid : Byte) (lane : Byte) (a3 : Byte) (s : State) :
    KeepsR mask41 s (execRemapAbort k txid lane a3 s) := by
  unfold execRemapAbort
  refine KeepsR.next ?_
  refine State.runs_keeps rfl ?_ ?_
  · exact Keeps.refl _ _
  · intro x4
    intro x6
    refine Keeps.step (State.gotRemapAbort_keeps ..) rfl ?_
    refine Keeps.step (State.lmClear_keeps ..) rfl ?_
    exact x6

theorem execLoopReq_keeps (k : Fin 18) (s : State) :
    KeepsR 0x100 s (execLoopReq k s) := by
  unfold execLoopReq
  refine KeepsR.next ?_
  refine State.runs_keeps rfl ?_ ?_
  · exact Keeps.refl _ _
  · intro x4
    intro x6
    refine Keeps.step (State.loopResend_keeps ..) rfl ?_
    refine Keeps.step (State.lmClear_keeps ..) rfl ?_
    exact x6

theorem execLoopAck_keeps (k : Fin 18) (txid : Byte) (s : State) :
    KeepsR mask425 s (execLoopAck k txid s) := by
  unfold execLoopAck
  refine KeepsR.next ?_
  refine State.acts_keeps rfl ?_ ?_
  · exact Keeps.refl _ _
  · intro x1
    intro x2
    refine Keeps.step (State.gotLoopAck_keeps ..) rfl ?_
    refine Keeps.step (State.lmClear_keeps ..) rfl ?_
    exact x2

theorem execRetrain_keeps (k : Fin 18) (_txid : Byte) (s : State) :
    KeepsR mask426 s (execRetrain k _txid s) := by
  unfold execRetrain
  refine KeepsR.next ?_
  refine State.acts_keeps rfl ?_ ?_
  · exact Keeps.refl _ _
  · intro x1
    intro x2
    refine Keeps.step (State.retrain_keeps ..) rfl ?_
    refine Keeps.step (State.lmClear_keeps ..) rfl ?_
    exact x2

theorem execTWidenExpiry_keeps (k : Fin 16) (s : State) :
    KeepsR mask426 s (execTWidenExpiry k s) := by
  unfold execTWidenExpiry
  refine KeepsR.next ?_
  refine State.acts_keeps rfl ?_ ?_
  · exact Keeps.refl _ _
  · intro x1
    intro x2
    refine Keeps.step (State.tWiden_keeps ..) rfl ?_
    refine Keeps.step (State.lmClear_keeps ..) rfl ?_
    exact x2

theorem execTAcqExpiry_keeps (k : Fin 18) (s : State) :
    KeepsR mask427 s (execTAcqExpiry k s) := by
  unfold execTAcqExpiry
  refine KeepsR.next ?_
  refine State.acts_keeps rfl ?_ ?_
  · exact Keeps.refl _ _
  · intro x1
    intro x2
    refine Keeps.step (State.tAcq_keeps ..) rfl ?_
    refine Keeps.step (State.lmClear_keeps ..) rfl ?_
    exact x2

theorem execTAlignExpiry_keeps (k : Fin 18) (s : State) :
    KeepsR mask24 s (execTAlignExpiry k s) := by
  unfold execTAlignExpiry
  refine KeepsR.next ?_
  refine State.runs_keeps rfl ?_ ?_
  · exact Keeps.refl _ _
  · intro x4
    intro x6
    refine Keeps.step (State.tAlign_keeps ..) rfl ?_
    refine Keeps.step (State.lmClear_keeps ..) rfl ?_
    exact x6

theorem execTLmExpiry_keeps (k : Fin 18) (hs : Fin 3) (s : State) :
    KeepsR mask428 s (execTLmExpiry k hs s) := by
  unfold execTLmExpiry
  refine KeepsR.next ?_
  refine State.acts_keeps rfl ?_ ?_
  · exact Keeps.refl _ _
  · intro x1
    intro x2
    refine Keeps.step (State.tLm_keeps ..) rfl ?_
    refine Keeps.step (State.lmClear_keeps ..) rfl ?_
    exact x2

theorem execTRemapExpiry_keeps (k : Fin 18) (rx : Bool) (s : State) :
    KeepsR mask41 s (execTRemapExpiry k rx s) := by
  unfold execTRemapExpiry
  refine KeepsR.next ?_
  refine State.runs_keeps rfl ?_ ?_
  · exact Keeps.refl _ _
  · intro x4
    intro x6
    refine Keeps.step (State.tRemap_keeps ..) rfl ?_
    refine Keeps.step (State.lmClear_keeps ..) rfl ?_
    exact x6

theorem execTRetryExpiry_keeps (k : Fin 18) (s : State) :
    KeepsR mask24 s (execTRetryExpiry k s) := by
  unfold execTRetryExpiry
  refine KeepsR.next ?_
  refine State.runs_keeps rfl ?_ ?_
  · exact Keeps.refl _ _
  · intro x4
    intro x6
    refine Keeps.step (State.tRetry_keeps ..) rfl ?_
    refine Keeps.step (State.lmClear_keeps ..) rfl ?_
    exact x6

theorem execCopperAcquireWait_keeps (k : Fin 18) (s : State) :
    KeepsR mask23 s (execCopperAcquireWait k s) := by
  unfold execCopperAcquireWait
  refine KeepsR.next ?_
  refine State.runs_keeps rfl ?_ ?_
  · exact Keeps.refl _ _
  · intro x4
    intro x6
    refine Keeps.step (State.copperWait_keeps ..) rfl ?_
    refine Keeps.step (State.lmClear_keeps ..) rfl ?_
    exact x6

theorem execLaneLos_keeps (k : Fin 18) (lane : Fin 20) (s : State) :
    KeepsR mask429 s (execLaneLos k lane s) := by
  unfold execLaneLos
  refine KeepsR.step (wfElse_keeps ..) rfl ?_
  refine State.acts_keeps rfl ?_ ?_
  · exact Keeps.refl _ _
  · intro x1
    intro x2
    refine Keeps.step (State.laneLos_keeps ..) rfl ?_
    refine Keeps.step (State.lmClear_keeps ..) rfl ?_
    exact x2

theorem execLaneLosClear_keeps (k : Fin 18) (lane : Fin 20) (s : State) :
    KeepsR mask430 s (execLaneLosClear k lane s) := by
  unfold execLaneLosClear
  refine KeepsR.step (wfElse_keeps ..) rfl ?_
  refine State.acts_keeps rfl ?_ ?_
  · exact Keeps.refl _ _
  · intro x1
    intro x2
    refine Keeps.step (State.laneLosClear_keeps ..) rfl ?_
    refine Keeps.step (State.lmClear_keeps ..) rfl ?_
    exact x2

theorem execLaneLock_keeps (k : Fin 18) (lane : Fin 20) (s : State) :
    KeepsR mask431 s (execLaneLock k lane s) := by
  unfold execLaneLock
  refine KeepsR.step (wfElse_keeps ..) rfl ?_
  refine State.acts_keeps rfl ?_ ?_
  · exact Keeps.refl _ _
  · intro x1
    intro x2
    refine Keeps.step (State.laneLock_keeps ..) rfl ?_
    refine Keeps.step (State.lmClear_keeps ..) rfl ?_
    exact x2

theorem execLaneLockLoss_keeps (k : Fin 18) (lane : Fin 20) (s : State) :
    KeepsR mask432 s (execLaneLockLoss k lane s) := by
  unfold execLaneLockLoss
  refine KeepsR.step (wfElse_keeps ..) rfl ?_
  refine State.acts_keeps rfl ?_ ?_
  · exact Keeps.refl _ _
  · intro x1
    intro x2
    refine Keeps.step (State.laneUnlock_keeps ..) rfl ?_
    refine Keeps.step (State.lmClear_keeps ..) rfl ?_
    exact x2

theorem execFwdClockLockLoss_keeps (k : Fin 18) (s : State) :
    KeepsR mask433 s (execFwdClockLockLoss k s) := by
  unfold execFwdClockLockLoss
  refine KeepsR.next ?_
  refine State.acts_keeps rfl ?_ ?_
  · exact Keeps.refl _ _
  · intro x1
    intro x2
    refine Keeps.step (State.clockUnlock_keeps ..) rfl ?_
    refine Keeps.step (State.lmClear_keeps ..) rfl ?_
    exact x2

theorem execMarkerAligned_keeps (k : Fin 18) (lane : Fin 20) (s : State) :
    KeepsR mask434 s (execMarkerAligned k lane s) := by
  unfold execMarkerAligned
  refine KeepsR.step (wfElse_keeps ..) rfl ?_
  refine State.acts_keeps rfl ?_ ?_
  · exact Keeps.refl _ _
  · intro x1
    intro x2
    refine Keeps.step (State.markerFound_keeps ..) rfl ?_
    refine Keeps.step (State.lmClear_keeps ..) rfl ?_
    exact x2

theorem execMarkerAlignmentLoss_keeps (k : Fin 18) (lane : Fin 20) (s : State) :
    KeepsR mask435 s (execMarkerAlignmentLoss k lane s) := by
  unfold execMarkerAlignmentLoss
  refine KeepsR.step (wfElse_keeps ..) rfl ?_
  refine State.acts_keeps rfl ?_ ?_
  · exact Keeps.refl _ _
  · intro x1
    intro x2
    refine Keeps.step (State.markerLost_keeps ..) rfl ?_
    refine Keeps.step (State.lmClear_keeps ..) rfl ?_
    exact x2

theorem execLosBlankingEnd_keeps (k : Fin 16) (los : Bool) (s : State) :
    KeepsR mask24 s (execLosBlankingEnd k los s) := by
  unfold execLosBlankingEnd
  refine KeepsR.next ?_
  refine State.runs_keeps rfl ?_ ?_
  · exact Keeps.refl _ _
  · intro x4
    intro x6
    refine Keeps.step (State.losBlankEnd_keeps ..) rfl ?_
    refine Keeps.step (State.lmClear_keeps ..) rfl ?_
    exact x6

theorem execDfeTapSaturated_keeps (k : Fin 18) (lane : Fin 20) (tap : Fin 5) (s : State) :
    KeepsR mask160 s (execDfeTapSaturated k lane tap s) := by
  unfold execDfeTapSaturated
  refine KeepsR.step (wfElse_keeps ..) rfl ?_
  refine State.runs_keeps rfl ?_ ?_
  · exact Keeps.refl _ _
  · intro x4
    intro x6
    refine Keeps.step (State.dfeSaturated_keeps ..) rfl ?_
    exact x6

theorem execPyuReset_keeps (w : CoreWr) (e : Fin 4) (s : State) :
    KeepsR mask418 s (execPyuReset w e s) := by
  unfold execPyuReset
  refine KeepsR.next ?_
  refine State.acts_keeps rfl ?_ ?_
  · exact Keeps.refl _ _
  · intro x1
    intro x2
    refine Keeps.step (State.coreWr_keeps ..) rfl ?_
    exact x2

theorem execEngineResetDone_keeps (e : Fin 4) (s : State) :
    KeepsR mask37 s (execEngineResetDone e s) := by
  unfold execEngineResetDone
  refine KeepsR.next ?_
  refine State.runs_keeps rfl ?_ ?_
  · exact Keeps.refl _ _
  · intro x4
    intro x6
    refine Keeps.step (State.resetDone_keeps ..) rfl ?_
    exact x6

theorem execLscReadyTimeout_keeps (e : Fin 4) (carId : BitVec 16) (s : State) :
    KeepsR mask436 s (execLscReadyTimeout e carId s) := by
  unfold execLscReadyTimeout
  refine KeepsR.next ?_
  refine State.acts_keeps rfl ?_ ?_
  · exact Keeps.refl _ _
  · intro x1
    intro x2
    refine Keeps.step (State.powerSettle_keeps ..) rfl ?_
    refine Keeps.step (State.lscTimeout_keeps ..) rfl ?_
    exact x2

theorem execBankLock_keeps (e : Fin 4) (failed : BitVec 20) (s : State) :
    KeepsR mask437 s (execBankLock e failed s) := by
  unfold execBankLock
  refine KeepsR.next ?_
  refine State.acts_keeps rfl ?_ ?_
  · exact Keeps.refl _ _
  · intro x1
    intro x2
    refine Keeps.step (State.bankLock_keeps ..) rfl ?_
    exact x2

theorem execBankFault_keeps (e : Fin 4) (s : State) :
    KeepsR mask438 s (execBankFault e s) := by
  unfold execBankFault
  refine KeepsR.next ?_
  refine State.acts_keeps rfl ?_ ?_
  · exact Keeps.refl _ _
  · intro x1
    intro x2
    refine Keeps.step (State.powerSettle_keeps ..) rfl ?_
    refine Keeps.step (State.bankFault_keeps ..) rfl ?_
    exact x2

theorem execLaserFailDeclare_keeps (e : Fin 4) (x : LaserLoss) (s : State) :
    KeepsR mask439 s (execLaserFailDeclare e x s) := by
  unfold execLaserFailDeclare
  refine KeepsR.next ?_
  refine State.acts_keeps rfl ?_ ?_
  · exact Keeps.refl _ _
  · intro x1
    intro x2
    refine Keeps.step (State.powerSettle_keeps ..) rfl ?_
    refine Keeps.step (State.laserDeclared_keeps ..) rfl ?_
    exact x2

theorem execRingCalibrationDone_keeps (k : Fin 16) (rx : Bool) (wl : Fin 20) (s : State) :
    KeepsR mask150 s (execRingCalibrationDone k rx wl s) := by
  unfold execRingCalibrationDone
  refine KeepsR.next ?_
  refine State.runs_keeps rfl ?_ ?_
  · exact Keeps.refl _ _
  · intro x4
    intro x6
    refine Keeps.step (State.calDone_keeps ..) rfl ?_
    refine Keeps.step (State.lmClear_keeps ..) rfl ?_
    exact x6

theorem execSpareRecalTimer_keeps (k : Fin 16) (rx : Bool) (wl : Fin 20) (s : State) :
    KeepsR mask440 s (execSpareRecalTimer k rx wl s) := by
  unfold execSpareRecalTimer
  refine KeepsR.next ?_
  refine State.runs_keeps rfl ?_ ?_
  · exact Keeps.refl _ _
  · intro x4
    intro x6
    refine Keeps.step (State.spareRecal_keeps ..) rfl ?_
    refine Keeps.step (State.lmClear_keeps ..) rfl ?_
    exact x6

theorem execRotationStart_keeps (k : Fin 16) (rx : Bool) (low : Option (Fin 16)) (s : State) :
    KeepsR mask41 s (execRotationStart k rx low s) := by
  unfold execRotationStart
  refine KeepsR.next ?_
  refine State.runs_keeps rfl ?_ ?_
  · exact Keeps.refl _ _
  · intro x4
    intro x6
    refine Keeps.step (State.rotStart_keeps ..) rfl ?_
    refine Keeps.step (State.lmClear_keeps ..) rfl ?_
    exact x6

theorem execRingRangeEnd_keeps (k : Fin 16) (rx : Bool) (wl : Fin 20) (s : State) :
    KeepsR mask441 s (execRingRangeEnd k rx wl s) := by
  unfold execRingRangeEnd
  refine KeepsR.next ?_
  refine State.acts_keeps rfl ?_ ?_
  · exact Keeps.refl _ _
  · intro x1
    intro x2
    refine Keeps.step (State.rangeEnd_keeps ..) rfl ?_
    refine Keeps.step (State.lmClear_keeps ..) rfl ?_
    exact x2

theorem execLambda16Los_keeps (k : Fin 16) (s : State) :
    KeepsR mask442 s (execLambda16Los k s) := by
  unfold execLambda16Los
  refine KeepsR.next ?_
  refine State.acts_keeps rfl ?_ ?_
  · exact Keeps.refl _ _
  · intro x1
    intro x2
    refine Keeps.step (State.los16_keeps ..) rfl ?_
    refine Keeps.step (State.lmClear_keeps ..) rfl ?_
    exact x2

theorem execProbeBurst_keeps (k : Fin 16) (s : State) :
    KeepsR mask280 s (execProbeBurst k s) := by
  unfold execProbeBurst
  refine KeepsR.next ?_
  refine State.runs_keeps rfl ?_ ?_
  · exact Keeps.refl _ _
  · intro x4
    intro x6
    refine Keeps.step (State.probeOn_keeps ..) rfl ?_
    exact x6

theorem execProbeBurstEnd_keeps (k : Fin 16) (s : State) :
    KeepsR mask281 s (execProbeBurstEnd k s) := by
  unfold execProbeBurstEnd
  refine KeepsR.next ?_
  refine State.runs_keeps rfl ?_ ?_
  · exact Keeps.refl _ _
  · intro x4
    intro x6
    refine Keeps.step (State.probeOff_keeps ..) rfl ?_
    exact x6

theorem execLenDrop_keeps (lineB : Bool) (s : State) :
    KeepsR mask443 s (execLenDrop lineB s) := by
  unfold execLenDrop
  refine KeepsR.next ?_
  refine State.acts_keeps rfl ?_ ?_
  · exact Keeps.refl _ _
  · intro x1
    intro x2
    refine Keeps.step (State.powerSettle_keeps ..) rfl ?_
    refine Keeps.step (State.lenDropped_keeps ..) rfl ?_
    exact x2

theorem execLscPoll_keeps (x : CarFrame) (s : State) :
    KeepsR mask444 s (execLscPoll x s) := by
  unfold execLscPoll
  refine KeepsR.next ?_
  refine State.acts_keeps rfl ?_ ?_
  · exact Keeps.refl _ _
  · intro x1
    intro x2
    refine Keeps.step (State.powerSettle_keeps ..) rfl ?_
    refine Keeps.step (State.lscPolled_keeps ..) rfl ?_
    exact x2

theorem execLscWinWrite_keeps (w : CoreWr) (s : State) :
    KeepsR mask418 s (execLscWinWrite w s) := by
  unfold execLscWinWrite
  refine KeepsR.next ?_
  refine State.acts_keeps rfl ?_ ?_
  · exact Keeps.refl _ _
  · intro x1
    intro x2
    refine Keeps.step (State.coreWr_keeps ..) rfl ?_
    exact x2

theorem execLscFrameDone_keeps (stat : BitVec 16) (data : BitVec 16) (s : State) :
    KeepsR mask445 s (execLscFrameDone stat data s) := by
  unfold execLscFrameDone
  refine KeepsR.next ?_
  refine State.acts_keeps rfl ?_ ?_
  · exact Keeps.refl _ _
  · intro x1
    intro x2
    refine Keeps.step (State.powerSettle_keeps ..) rfl ?_
    refine Keeps.step (State.lscFrameDone_keeps ..) rfl ?_
    exact x2

end Sys2Proof.Machine
end

