-- ==== Sys2Proof/Laws/KeepsExecMail.lean ====
section
/-! SUPPORT. The frame of every function of Machine/ExecMail.lean: what it may change, and that it keeps the canonical forms and
the waiting commands. -/
namespace Sys2Proof.Machine

set_option Elab.async false

theorem execDecisionTick_keeps (s : State) :
    KeepsR mask446 s (execDecisionTick s) := by
  unfold execDecisionTick
  refine KeepsR.next ?_
  refine State.acts_keeps rfl ?_ ?_
  · exact Keeps.refl _ _
  · intro x1
    intro x2
    refine Keeps.step (State.tick_keeps ..) rfl ?_
    exact x2

theorem execFrameReceive_keeps (dst : BitVec 48) (src : BitVec 48) (etherType : BitVec 16) (payload : List Byte) (fcs : BitVec 32) (s : State) :
    KeepsR mask447 s (execFrameReceive dst src etherType payload fcs s) := by
  unfold execFrameReceive
  refine KeepsR.step (wfElse_keeps ..) rfl ?_
  refine State.offers_keeps rfl ?_ ?_
  · exact Keeps.refl _ _
  · intro x1
    intro x2
    refine Keeps.step (State.frameIn_keeps ..) rfl ?_
    exact x2

theorem execPlcaFail_keeps (s : State) :
    KeepsR mask4 s (execPlcaFail s) := by
  unfold execPlcaFail
  refine KeepsR.next ?_
  refine State.offers_keeps rfl ?_ ?_
  · exact Keeps.refl _ _
  · intro x1
    intro x2
    refine Keeps.step (State.plcaFail_keeps ..) rfl ?_
    exact x2

theorem execPlcaStatusChange_keeps (ok : Bool) (s : State) :
    KeepsR mask349 s (execPlcaStatusChange ok s) := by
  unfold execPlcaStatusChange
  refine KeepsR.next ?_
  refine State.runs_keeps rfl ?_ ?_
  · exact Keeps.refl _ _
  · intro x4
    intro x6
    refine Keeps.step (State.plcaStatus_keeps ..) rfl ?_
    exact x6

theorem execLeaseExpiry_keeps (s : State) :
    KeepsR mask448 s (execLeaseExpiry s) := by
  unfold execLeaseExpiry
  refine KeepsR.next ?_
  refine State.acts_keeps rfl ?_ ?_
  · exact Keeps.refl _ _
  · intro x1
    intro x2
    refine Keeps.step (State.leaseExpire_keeps ..) rfl ?_
    exact x2

theorem execHello_keeps (h : Hdr) (feat : BitVec 128) (src : BitVec 48) (s : State) :
    KeepsR mask449 s (execHello h feat src s) := by
  unfold execHello
  refine KeepsR.next ?_
  refine State.acts_keeps rfl ?_ ?_
  · exact Keeps.refl _ _
  · intro x1
    intro x2
    refine Keeps.step (State.mailAt_keeps ..) rfl ?_
    exact x2

theorem execCaps_keeps (h : Hdr) (s : State) :
    KeepsR mask449 s (execCaps h s) := by
  unfold execCaps
  refine KeepsR.next ?_
  refine State.acts_keeps rfl ?_ ?_
  · exact Keeps.refl _ _
  · intro x1
    intro x2
    refine Keeps.step (State.mailRead_keeps ..) rfl ?_
    exact x2

theorem execRegRead_keeps (h : Hdr) (idx : BitVec 16) (count : Byte) (s : State) :
    KeepsR mask449 s (execRegRead h idx count s) := by
  unfold execRegRead
  refine KeepsR.next ?_
  refine State.acts_keeps rfl ?_ ?_
  · exact Keeps.refl _ _
  · intro x1
    intro x2
    refine Keeps.step (State.mail_keeps ..) rfl ?_
    exact x2

theorem execRegWrite_keeps (h : Hdr) (idx : BitVec 16) (vals : List (BitVec 32)) (s : State) :
    KeepsR mask449 s (execRegWrite h idx vals s) := by
  unfold execRegWrite
  refine KeepsR.next ?_
  refine State.acts_keeps rfl ?_ ?_
  · exact Keeps.refl _ _
  · intro x1
    intro x2
    refine Keeps.step (State.mail_keeps ..) rfl ?_
    exact x2

theorem execTimeRead_keeps (h : Hdr) (s : State) :
    KeepsR mask449 s (execTimeRead h s) := by
  unfold execTimeRead
  refine KeepsR.next ?_
  refine State.acts_keeps rfl ?_ ?_
  · exact Keeps.refl _ _
  · intro x1
    intro x2
    refine Keeps.step (State.mailRead_keeps ..) rfl ?_
    exact x2

theorem execRecordRead_keeps (h : Hdr) (start : BitVec 32) (count : Byte) (s : State) :
    KeepsR mask449 s (execRecordRead h start count s) := by
  unfold execRecordRead
  refine KeepsR.next ?_
  refine State.acts_keeps rfl ?_ ?_
  · exact Keeps.refl _ _
  · intro x1
    intro x2
    refine Keeps.step (State.mail_keeps ..) rfl ?_
    exact x2

theorem execSafetyCfgRead_keeps (h : Hdr) (s : State) :
    KeepsR mask449 s (execSafetyCfgRead h s) := by
  unfold execSafetyCfgRead
  refine KeepsR.next ?_
  refine State.acts_keeps rfl ?_ ?_
  · exact Keeps.refl _ _
  · intro x1
    intro x2
    refine Keeps.step (State.mail_keeps ..) rfl ?_
    exact x2

theorem execStewardClaim_keeps (h : Hdr) (force : Bool) (s : State) :
    KeepsR mask449 s (execStewardClaim h force s) := by
  unfold execStewardClaim
  refine KeepsR.next ?_
  refine State.acts_keeps rfl ?_ ?_
  · exact Keeps.refl _ _
  · intro x1
    intro x2
    refine Keeps.step (State.mail_keeps ..) rfl ?_
    exact x2

theorem execStewardRenew_keeps (h : Hdr) (s : State) :
    KeepsR mask449 s (execStewardRenew h s) := by
  unfold execStewardRenew
  refine KeepsR.next ?_
  refine State.acts_keeps rfl ?_ ?_
  · exact Keeps.refl _ _
  · intro x1
    intro x2
    refine Keeps.step (State.mail_keeps ..) rfl ?_
    exact x2

theorem execStewardRelease_keeps (h : Hdr) (s : State) :
    KeepsR mask449 s (execStewardRelease h s) := by
  unfold execStewardRelease
  refine KeepsR.next ?_
  refine State.acts_keeps rfl ?_ ?_
  · exact Keeps.refl _ _
  · intro x1
    intro x2
    refine Keeps.step (State.mail_keeps ..) rfl ?_
    exact x2

theorem execWake_keeps (h : Hdr) (mask : BitVec 32) (s : State) :
    KeepsR mask449 s (execWake h mask s) := by
  unfold execWake
  refine KeepsR.next ?_
  refine State.acts_keeps rfl ?_ ?_
  · exact Keeps.refl _ _
  · intro x1
    intro x2
    refine Keeps.step (State.mail_keeps ..) rfl ?_
    exact x2

theorem execSleepHint_keeps (h : Hdr) (mask : BitVec 32) (vat : Byte) (core : Bool) (s : State) :
    KeepsR mask449 s (execSleepHint h mask vat core s) := by
  unfold execSleepHint
  refine KeepsR.next ?_
  refine State.acts_keeps rfl ?_ ?_
  · exact Keeps.refl _ _
  · intro x1
    intro x2
    refine Keeps.step (State.mail_keeps ..) rfl ?_
    exact x2

theorem execContactorCmd_keeps (h : Hdr) (c : Fin 4) (close : Bool) (force : Bool) (s : State) :
    KeepsR mask449 s (execContactorCmd h c close force s) := by
  unfold execContactorCmd
  refine KeepsR.next ?_
  refine State.acts_keeps rfl ?_ ?_
  · exact Keeps.refl _ _
  · intro x1
    intro x2
    refine Keeps.step (State.mail_keeps ..) rfl ?_
    exact x2

theorem execLswCmd_keeps (h : Hdr) (n : Fin 16) (on : Bool) (cfg : Bool) (ilim : BitVec 16) (blank : Byte) (s : State) :
    KeepsR mask449 s (execLswCmd h n on cfg ilim blank s) := by
  unfold execLswCmd
  refine KeepsR.next ?_
  refine State.acts_keeps rfl ?_ ?_
  · exact Keeps.refl _ _
  · intro x1
    intro x2
    refine Keeps.step (State.mail_keeps ..) rfl ?_
    exact x2

theorem execLoopSet_keeps (h : Hdr) (n : Fin 4) (microamps : BitVec 32) (s : State) :
    KeepsR mask449 s (execLoopSet h n microamps s) := by
  unfold execLoopSet
  refine KeepsR.next ?_
  refine State.acts_keeps rfl ?_ ?_
  · exact Keeps.refl _ _
  · intro x1
    intro x2
    refine Keeps.step (State.mail_keeps ..) rfl ?_
    exact x2

theorem execPowerShareSet_keeps (h : Hdr) (p : BitVec 16) (reserve : BitVec 16) (s : State) :
    KeepsR mask449 s (execPowerShareSet h p reserve s) := by
  unfold execPowerShareSet
  refine KeepsR.next ?_
  refine State.acts_keeps rfl ?_ ?_
  · exact Keeps.refl _ _
  · intro x1
    intro x2
    refine Keeps.step (State.mail_keeps ..) rfl ?_
    exact x2

theorem execLimitsetLoad_keeps (h : Hdr) (image : List Byte) (s : State) :
    KeepsR mask449 s (execLimitsetLoad h image s) := by
  unfold execLimitsetLoad
  refine KeepsR.step (wfElse_keeps ..) rfl ?_
  refine State.acts_keeps rfl ?_ ?_
  · exact Keeps.refl _ _
  · intro x1
    intro x2
    refine Keeps.step (State.mail_keeps ..) rfl ?_
    exact x2

theorem execModelLoad_keeps (h : Hdr) (image : List Byte) (s : State) :
    KeepsR mask449 s (execModelLoad h image s) := by
  unfold execModelLoad
  refine KeepsR.step (wfElse_keeps ..) rfl ?_
  refine State.acts_keeps rfl ?_ ?_
  · exact Keeps.refl _ _
  · intro x1
    intro x2
    refine Keeps.step (State.mail_keeps ..) rfl ?_
    exact x2

theorem execSafetyCfgLoad_keeps (h : Hdr) (image : List Byte) (s : State) :
    KeepsR mask449 s (execSafetyCfgLoad h image s) := by
  unfold execSafetyCfgLoad
  refine KeepsR.step (wfElse_keeps ..) rfl ?_
  refine State.acts_keeps rfl ?_ ?_
  · exact Keeps.refl _ _
  · intro x1
    intro x2
    refine Keeps.step (State.mail_keeps ..) rfl ?_
    exact x2

theorem execFaultAck_keeps (h : Hdr) (code : Byte) (inst : Byte) (s : State) :
    KeepsR mask449 s (execFaultAck h code inst s) := by
  unfold execFaultAck
  refine KeepsR.next ?_
  refine State.acts_keeps rfl ?_ ?_
  · exact Keeps.refl _ _
  · intro x1
    intro x2
    refine Keeps.step (State.mail_keeps ..) rfl ?_
    exact x2

theorem execAonPdReqWrite_keeps (h : Hdr) (v : BitVec 32) (s : State) :
    KeepsR mask449 s (execAonPdReqWrite h v s) := by
  unfold execAonPdReqWrite
  refine KeepsR.next ?_
  refine State.acts_keeps rfl ?_ ?_
  · exact Keeps.refl _ _
  · intro x1
    intro x2
    refine Keeps.step (State.mail_keeps ..) rfl ?_
    exact x2

theorem execClkTgFreqWrite_keeps (h : Hdr) (g : Fin 8) (v : BitVec 32) (s : State) :
    KeepsR mask449 s (execClkTgFreqWrite h g v s) := by
  unfold execClkTgFreqWrite
  refine KeepsR.next ?_
  refine State.acts_keeps rfl ?_ ?_
  · exact Keeps.refl _ _
  · intro x1
    intro x2
    refine Keeps.step (State.mail_keeps ..) rfl ?_
    exact x2

theorem execMgtPlcaWrite_keeps (h : Hdr) (v : BitVec 32) (s : State) :
    KeepsR mask449 s (execMgtPlcaWrite h v s) := by
  unfold execMgtPlcaWrite
  refine KeepsR.next ?_
  refine State.acts_keeps rfl ?_ ?_
  · exact Keeps.refl _ _
  · intro x1
    intro x2
    refine Keeps.step (State.mail_keeps ..) rfl ?_
    exact x2

theorem execMgtKeyCommit_keeps (h : Hdr) (auth : Bool) (key : List Byte) (slot : Fin 16) (s : State) :
    KeepsR mask449 s (execMgtKeyCommit h auth key slot s) := by
  unfold execMgtKeyCommit
  refine KeepsR.step (wfElse_keeps ..) rfl ?_
  refine State.acts_keeps rfl ?_ ?_
  · exact Keeps.refl _ _
  · intro x1
    intro x2
    refine Keeps.step (State.keyLoad_keeps ..) rfl ?_
    exact x2

theorem execMgtKeyErase_keeps (h : Hdr) (slot : Fin 16) (s : State) :
    KeepsR mask449 s (execMgtKeyErase h slot s) := by
  unfold execMgtKeyErase
  refine KeepsR.next ?_
  refine State.acts_keeps rfl ?_ ?_
  · exact Keeps.refl _ _
  · intro x1
    intro x2
    refine Keeps.step (State.mail_keeps ..) rfl ?_
    exact x2

theorem execHrdEnumWrite_keeps (h : Hdr) (v : BitVec 32) (s : State) :
    KeepsR mask449 s (execHrdEnumWrite h v s) := by
  unfold execHrdEnumWrite
  refine KeepsR.next ?_
  refine State.acts_keeps rfl ?_ ?_
  · exact Keeps.refl _ _
  · intro x1
    intro x2
    refine Keeps.step (State.mail_keeps ..) rfl ?_
    exact x2

theorem execHrdRunWrite_keeps (h : Hdr) (v : BitVec 32) (s : State) :
    KeepsR mask449 s (execHrdRunWrite h v s) := by
  unfold execHrdRunWrite
  refine KeepsR.next ?_
  refine State.acts_keeps rfl ?_ ?_
  · exact Keeps.refl _ _
  · intro x1
    intro x2
    refine Keeps.step (State.mail_keeps ..) rfl ?_
    exact x2

theorem execPkmCfgWrite_keeps (h : Hdr) (c : Fin 6) (v : BitVec 32) (s : State) :
    KeepsR mask449 s (execPkmCfgWrite h c v s) := by
  unfold execPkmCfgWrite
  refine KeepsR.next ?_
  refine State.acts_keeps rfl ?_ ?_
  · exact Keeps.refl _ _
  · intro x1
    intro x2
    refine Keeps.step (State.mail_keeps ..) rfl ?_
    exact x2

theorem execSohReset_keeps (h : Hdr) (s : State) :
    KeepsR mask449 s (execSohReset h s) := by
  unfold execSohReset
  refine KeepsR.next ?_
  refine State.acts_keeps rfl ?_ ?_
  · exact Keeps.refl _ _
  · intro x1
    intro x2
    refine Keeps.step (State.mail_keeps ..) rfl ?_
    exact x2

theorem execSocReinit_keeps (h : Hdr) (s : State) :
    KeepsR mask449 s (execSocReinit h s) := by
  unfold execSocReinit
  refine KeepsR.next ?_
  refine State.acts_keeps rfl ?_ ?_
  · exact Keeps.refl _ _
  · intro x1
    intro x2
    refine Keeps.step (State.mail_keeps ..) rfl ?_
    exact x2

theorem execStoReset_keeps (h : Hdr) (rst : BitVec 2) (s : State) :
    KeepsR mask449 s (execStoReset h rst s) := by
  unfold execStoReset
  refine KeepsR.next ?_
  refine State.acts_keeps rfl ?_ ?_
  · exact Keeps.refl _ _
  · intro x1
    intro x2
    refine Keeps.step (State.mail_keeps ..) rfl ?_
    exact x2

theorem execStoOnRequest_keeps (h : Hdr) (on : BitVec 2) (s : State) :
    KeepsR mask449 s (execStoOnRequest h on s) := by
  unfold execStoOnRequest
  refine KeepsR.next ?_
  refine State.acts_keeps rfl ?_ ?_
  · exact Keeps.refl _ _
  · intro x1
    intro x2
    refine Keeps.step (State.mail_keeps ..) rfl ?_
    exact x2

theorem execTimGcLdhi_keeps (h : Hdr) (n : Fin 4) (v : BitVec 32) (s : State) :
    KeepsR mask449 s (execTimGcLdhi h n v s) := by
  unfold execTimGcLdhi
  refine KeepsR.next ?_
  refine State.acts_keeps rfl ?_ ?_
  · exact Keeps.refl _ _
  · intro x1
    intro x2
    refine Keeps.step (State.mail_keeps ..) rfl ?_
    exact x2

theorem execTimGcLdlo_keeps (h : Hdr) (n : Fin 4) (v : BitVec 32) (s : State) :
    KeepsR mask449 s (execTimGcLdlo h n v s) := by
  unfold execTimGcLdlo
  refine KeepsR.next ?_
  refine State.acts_keeps rfl ?_ ?_
  · exact Keeps.refl _ _
  · intro x1
    intro x2
    refine Keeps.step (State.mail_keeps ..) rfl ?_
    exact x2

end Sys2Proof.Machine
end

