-- ==== Sys2Proof/Laws/KeepsExecSep.lean ====
section
/-! SUPPORT. The frame of every function of Machine/ExecSep.lean: what it may change, and that it keeps the canonical forms and
the waiting commands. -/
namespace Sys2Proof.Machine

set_option Elab.async false

theorem execMirrorWrite_keeps (w : CoreWr) (idx : BitVec 16) (s : State) :
    KeepsR mask418 s (execMirrorWrite w idx s) := by
  unfold execMirrorWrite
  refine KeepsR.next ?_
  refine State.acts_keeps rfl ?_ ?_
  · exact Keeps.refl _ _
  · intro x1
    intro x2
    refine Keeps.step (State.coreWr_keeps ..) rfl ?_
    exact x2

theorem execPartitionOpen_keeps (w : CoreWr) (p : Fin 16) (s : State) :
    KeepsR mask418 s (execPartitionOpen w p s) := by
  unfold execPartitionOpen
  refine KeepsR.next ?_
  refine State.acts_keeps rfl ?_ ?_
  · exact Keeps.refl _ _
  · intro x1
    intro x2
    refine Keeps.step (State.coreWr_keeps ..) rfl ?_
    exact x2

theorem execPartitionReclaim_keeps (w : CoreWr) (p : Fin 16) (s : State) :
    KeepsR mask418 s (execPartitionReclaim w p s) := by
  unfold execPartitionReclaim
  refine KeepsR.next ?_
  refine State.acts_keeps rfl ?_ ?_
  · exact Keeps.refl _ _
  · intro x1
    intro x2
    refine Keeps.step (State.coreWr_keeps ..) rfl ?_
    exact x2

theorem execPtTilesWrite_keeps (w : CoreWr) (p : Fin 16) (s : State) :
    KeepsR mask418 s (execPtTilesWrite w p s) := by
  unfold execPtTilesWrite
  refine KeepsR.next ?_
  refine State.acts_keeps rfl ?_ ?_
  · exact Keeps.refl _ _
  · intro x1
    intro x2
    refine Keeps.step (State.coreWr_keeps ..) rfl ?_
    exact x2

theorem execPtPortsWrite_keeps (w : CoreWr) (p : Fin 16) (s : State) :
    KeepsR mask418 s (execPtPortsWrite w p s) := by
  unfold execPtPortsWrite
  refine KeepsR.next ?_
  refine State.acts_keeps rfl ?_ ?_
  · exact Keeps.refl _ _
  · intro x1
    intro x2
    refine Keeps.step (State.coreWr_keeps ..) rfl ?_
    exact x2

theorem execPageOwnWrite_keeps (w : CoreWr) (page : Fin 147456) (s : State) :
    KeepsR mask418 s (execPageOwnWrite w page s) := by
  unfold execPageOwnWrite
  refine KeepsR.next ?_
  refine State.acts_keeps rfl ?_ ?_
  · exact Keeps.refl _ _
  · intro x1
    intro x2
    refine Keeps.step (State.coreWr_keeps ..) rfl ?_
    exact x2

theorem execSepStwProve_keeps (w : CoreWr) (s : State) :
    KeepsR mask418 s (execSepStwProve w s) := by
  unfold execSepStwProve
  refine KeepsR.next ?_
  refine State.acts_keeps rfl ?_ ?_
  · exact Keeps.refl _ _
  · intro x1
    intro x2
    refine Keeps.step (State.coreWr_keeps ..) rfl ?_
    exact x2

theorem execPageClearDone_keeps (page : Fin 147456) (s : State) :
    KeepsR mask418 s (execPageClearDone page s) := by
  unfold execPageClearDone
  refine KeepsR.next ?_
  refine State.acts_keeps rfl ?_ ?_
  · exact Keeps.refl _ _
  · intro x1
    intro x2
    refine Keeps.step (State.powerSettle_keeps ..) rfl ?_
    refine Keeps.step (State.clearDone_keeps ..) rfl ?_
    exact x2

theorem execTileZeroingDone_keeps (t : Fin 64) (s : State) :
    KeepsR mask418 s (execTileZeroingDone t s) := by
  unfold execTileZeroingDone
  refine KeepsR.next ?_
  refine State.acts_keeps rfl ?_ ?_
  · exact Keeps.refl _ _
  · intro x1
    intro x2
    refine Keeps.step (State.powerSettle_keeps ..) rfl ?_
    refine Keeps.step (State.zeroDone_keeps ..) rfl ?_
    exact x2

theorem execFltAckWrite_keeps (w : CoreWr) (code : Byte) (inst : Byte) (s : State) :
    KeepsR mask418 s (execFltAckWrite w code inst s) := by
  unfold execFltAckWrite
  refine KeepsR.step (wfElse_keeps ..) rfl ?_
  refine State.acts_keeps rfl ?_ ?_
  · exact Keeps.refl _ _
  · intro x1
    intro x2
    refine Keeps.step (State.coreWr_keeps ..) rfl ?_
    exact x2

theorem execRd_keeps (q : QHdr) (len : BitVec 16) (s : State) :
    KeepsR mask418 s (execRd q len s) := by
  unfold execRd
  refine KeepsR.next ?_
  refine State.acts_keeps rfl ?_ ?_
  · exact Keeps.refl _ _
  · intro x1
    intro x2
    refine Keeps.step (State.qRow_keeps ..) rfl ?_
    exact x2

theorem execWr_keeps (q : QHdr) (beFirst : BitVec 4) (beLast : BitVec 4) (data : List Byte) (s : State) :
    KeepsR mask418 s (execWr q beFirst beLast data s) := by
  unfold execWr
  refine KeepsR.step (wfElse_keeps ..) rfl ?_
  refine State.acts_keeps rfl ?_ ?_
  · exact Keeps.refl _ _
  · intro x1
    intro x2
    refine Keeps.step (State.qRow_keeps ..) rfl ?_
    exact x2

theorem execFadd64_keeps (q : QHdr) (addend : BitVec 64) (s : State) :
    KeepsR mask418 s (execFadd64 q addend s) := by
  unfold execFadd64
  refine KeepsR.next ?_
  refine State.acts_keeps rfl ?_ ?_
  · exact Keeps.refl _ _
  · intro x1
    intro x2
    refine Keeps.step (State.qRow_keeps ..) rfl ?_
    exact x2

theorem execCas64_keeps (q : QHdr) (cmp : BitVec 64) (swap : BitVec 64) (s : State) :
    KeepsR mask418 s (execCas64 q cmp swap s) := by
  unfold execCas64
  refine KeepsR.next ?_
  refine State.acts_keeps rfl ?_ ?_
  · exact Keeps.refl _ _
  · intro x1
    intro x2
    refine Keeps.step (State.qRow_keeps ..) rfl ?_
    exact x2

theorem execRdRsp_keeps (k : Fin 18) (tag : BitVec 16) (s : State) :
    KeepsR 0x100 s (execRdRsp k tag s) := by
  unfold execRdRsp
  refine KeepsR.next ?_
  refine State.runs_keeps rfl ?_ ?_
  · exact Keeps.refl _ _
  · intro x4
    intro x6
    refine Keeps.step (State.respond_keeps ..) rfl ?_
    exact x6

theorem execWrRsp_keeps (k : Fin 18) (tag : BitVec 16) (s : State) :
    KeepsR 0x100 s (execWrRsp k tag s) := by
  unfold execWrRsp
  refine KeepsR.next ?_
  refine State.runs_keeps rfl ?_ ?_
  · exact Keeps.refl _ _
  · intro x4
    intro x6
    refine Keeps.step (State.respond_keeps ..) rfl ?_
    exact x6

theorem execAtomRsp_keeps (k : Fin 18) (tag : BitVec 16) (s : State) :
    KeepsR 0x100 s (execAtomRsp k tag s) := by
  unfold execAtomRsp
  refine KeepsR.next ?_
  refine State.runs_keeps rfl ?_ ?_
  · exact Keeps.refl _ _
  · intro x4
    intro x6
    refine Keeps.step (State.respond_keeps ..) rfl ?_
    exact x6

theorem execSepPcAdmit_keeps (w : CoreWr) (s : State) :
    KeepsR mask418 s (execSepPcAdmit w s) := by
  unfold execSepPcAdmit
  refine KeepsR.next ?_
  refine State.acts_keeps rfl ?_ ?_
  · exact Keeps.refl _ _
  · intro x1
    intro x2
    refine Keeps.step (State.coreWr_keeps ..) rfl ?_
    exact x2

theorem execSepRingEnWrite_keeps (w : CoreWr) (r : Fin 8) (s : State) :
    KeepsR mask418 s (execSepRingEnWrite w r s) := by
  unfold execSepRingEnWrite
  refine KeepsR.next ?_
  refine State.acts_keeps rfl ?_ ?_
  · exact Keeps.refl _ _
  · intro x1
    intro x2
    refine Keeps.step (State.coreWr_keeps ..) rfl ?_
    exact x2

theorem execSepRingDb_keeps (w : CoreWr) (r : Fin 8) (s : State) :
    KeepsR mask418 s (execSepRingDb w r s) := by
  unfold execSepRingDb
  refine KeepsR.next ?_
  refine State.acts_keeps rfl ?_ ?_
  · exact Keeps.refl _ _
  · intro x1
    intro x2
    refine Keeps.step (State.coreWr_keeps ..) rfl ?_
    exact x2

theorem execSepCqEnWrite_keeps (w : CoreWr) (s : State) :
    KeepsR mask418 s (execSepCqEnWrite w s) := by
  unfold execSepCqEnWrite
  refine KeepsR.next ?_
  refine State.acts_keeps rfl ?_ ?_
  · exact Keeps.refl _ _
  · intro x1
    intro x2
    refine Keeps.step (State.coreWr_keeps ..) rfl ?_
    exact x2

theorem execSepCqConsWrite_keeps (w : CoreWr) (s : State) :
    KeepsR mask418 s (execSepCqConsWrite w s) := by
  unfold execSepCqConsWrite
  refine KeepsR.next ?_
  refine State.acts_keeps rfl ?_ ?_
  · exact Keeps.refl _ _
  · intro x1
    intro x2
    refine Keeps.step (State.coreWr_keeps ..) rfl ?_
    exact x2

theorem execPerfClear_keeps (w : CoreWr) (s : State) :
    KeepsR mask418 s (execPerfClear w s) := by
  unfold execPerfClear
  refine KeepsR.next ?_
  refine State.acts_keeps rfl ?_ ?_
  · exact Keeps.refl _ _
  · intro x1
    intro x2
    refine Keeps.step (State.coreWr_keeps ..) rfl ?_
    exact x2

theorem execVatPcKeyWrite_keeps (w : CoreWr) (m : Fin 8) (s : State) :
    KeepsR mask418 s (execVatPcKeyWrite w m s) := by
  unfold execVatPcKeyWrite
  refine KeepsR.next ?_
  refine State.acts_keeps rfl ?_ ?_
  · exact Keeps.refl _ _
  · intro x1
    intro x2
    refine Keeps.step (State.coreWr_keeps ..) rfl ?_
    exact x2

theorem execKeyCommit_keeps (w : CoreWr) (s : State) :
    KeepsR mask418 s (execKeyCommit w s) := by
  unfold execKeyCommit
  refine KeepsR.next ?_
  refine State.acts_keeps rfl ?_ ?_
  · exact Keeps.refl _ _
  · intro x1
    intro x2
    refine Keeps.step (State.coreWr_keeps ..) rfl ?_
    exact x2

theorem execScrubBurst_keeps (q : Fin 128) (e0 : UnitErr) (e1 : UnitErr) (e2 : UnitErr) (e3 : UnitErr) (s : State) :
    KeepsR mask450 s (execScrubBurst q e0 e1 e2 e3 s) := by
  unfold execScrubBurst
  refine KeepsR.next ?_
  refine State.offers_keeps rfl ?_ ?_
  · exact Keeps.refl _ _
  · intro x1
    intro x2
    refine Keeps.step (State.scrub_keeps ..) rfl ?_
    exact x2

theorem execForcedScrub_keeps (q : Fin 128) (e0 : UnitErr) (e1 : UnitErr) (e2 : UnitErr) (e3 : UnitErr) (s : State) :
    KeepsR mask450 s (execForcedScrub q e0 e1 e2 e3 s) := by
  unfold execForcedScrub
  refine KeepsR.next ?_
  refine State.offers_keeps rfl ?_ ?_
  · exact Keeps.refl _ _
  · intro x1
    intro x2
    refine Keeps.step (State.scrub_keeps ..) rfl ?_
    exact x2

theorem execGovernorUpdate_keeps (sample : BitVec 16) (tj : BitVec 16) (fails : Bool) (s : State) :
    KeepsR mask451 s (execGovernorUpdate sample tj fails s) := by
  unfold execGovernorUpdate
  refine KeepsR.next ?_
  refine State.offers_keeps rfl ?_ ?_
  · exact Keeps.refl _ _
  · intro x1
    intro x2
    refine Keeps.step (State.govUpdate_keeps ..) rfl ?_
    exact x2

theorem execAssistLost_keeps (s : State) :
    KeepsR mask452 s (execAssistLost s) := by
  unfold execAssistLost
  refine KeepsR.next ?_
  refine State.offers_keeps rfl ?_ ?_
  · exact Keeps.refl _ _
  · intro x1
    intro x2
    refine Keeps.step (State.assistLost_keeps ..) rfl ?_
    exact x2

theorem execOverBudget_keeps (s : State) :
    KeepsR mask453 s (execOverBudget s) := by
  unfold execOverBudget
  refine KeepsR.next ?_
  refine State.offers_keeps rfl ?_ ?_
  · exact Keeps.refl _ _
  · intro x1
    intro x2
    refine Keeps.step (State.overBudget_keeps ..) rfl ?_
    exact x2

theorem execIdleTrip_keeps (s : State) :
    KeepsR mask454 s (execIdleTrip s) := by
  unfold execIdleTrip
  refine KeepsR.next ?_
  refine State.offers_keeps rfl ?_ ?_
  · exact Keeps.refl _ _
  · intro x1
    intro x2
    refine Keeps.step (State.idleTrip_keeps ..) rfl ?_
    exact x2

theorem execIdleTripRelease_keeps (s : State) :
    KeepsR mask455 s (execIdleTripRelease s) := by
  unfold execIdleTripRelease
  refine KeepsR.next ?_
  refine State.offers_keeps rfl ?_ ?_
  · exact Keeps.refl _ _
  · intro x1
    intro x2
    refine Keeps.step (State.idleRelease_keeps ..) rfl ?_
    exact x2

end Sys2Proof.Machine
end

