-- ==== Sys2Proof/Laws/KeepsExecSupply.lean ====
section
/-! SUPPORT. The frame of every function of Machine/ExecSupply.lean: what it may change, and that it keeps the canonical forms and
the waiting commands. -/
namespace Sys2Proof.Machine

set_option Elab.async false

theorem execAuxPowerUp_keeps (s : State) :
    KeepsR 0xb5ffffff s (execAuxPowerUp s) := by
  unfold execAuxPowerUp
  refine KeepsR.next ?_
  refine Keeps.step (State.auxUp_keeps ..) rfl ?_
  exact Keeps.refl _ _

theorem execResetEnd_keeps (s : State) :
    KeepsR mask312 s (execResetEnd s) := by
  unfold execResetEnd
  refine KeepsR.next ?_
  refine Keeps.step (State.resetEnd_keeps ..) rfl ?_
  exact Keeps.refl _ _

theorem execAuxDropInReset_keeps (s : State) :
    KeepsR 0xb5ffffff s (execAuxDropInReset s) := by
  unfold execAuxDropInReset
  refine KeepsR.next ?_
  refine Keeps.step (State.auxDrop_keeps ..) rfl ?_
  exact Keeps.refl _ _

theorem execAuxPowerFailWarning_keeps (s : State) :
    KeepsR mask456 s (execAuxPowerFailWarning s) := by
  unfold execAuxPowerFailWarning
  refine KeepsR.next ?_
  refine State.offers_keeps rfl ?_ ?_
  · exact Keeps.refl _ _
  · intro x1
    intro x2
    refine Keeps.step (State.auxWarning_keeps ..) rfl ?_
    exact x2

theorem execHoldupEnd_keeps (auxHigh : Bool) (s : State) :
    KeepsR 0xbfffffff s (execHoldupEnd auxHigh s) := by
  unfold execHoldupEnd
  refine KeepsR.next ?_
  refine Keeps.step (State.holdupOver_keeps ..) rfl ?_
  exact Keeps.refl _ _

theorem execInputsStageEnd_keeps (ok : Bool) (s : State) :
    KeepsR mask457 s (execInputsStageEnd ok s) := by
  unfold execInputsStageEnd
  refine KeepsR.next ?_
  refine State.acts_keeps rfl ?_ ?_
  · exact Keeps.refl _ _
  · intro x1
    intro x2
    refine Keeps.step (State.inputsEnd_keeps ..) rfl ?_
    exact x2

theorem execRecorderScanDone_keeps (s : State) :
    KeepsR mask458 s (execRecorderScanDone s) := by
  unfold execRecorderScanDone
  refine KeepsR.next ?_
  refine State.offers_keeps rfl ?_ ?_
  · exact Keeps.refl _ _
  · intro x1
    intro x2
    refine Keeps.step (State.scanEnd_keeps ..) rfl ?_
    exact x2

theorem execMainFeedLost_keeps (ovr : Bool) (s : State) :
    KeepsR mask459 s (execMainFeedLost ovr s) := by
  unfold execMainFeedLost
  refine KeepsR.next ?_
  refine State.acts_keeps rfl ?_ ?_
  · exact Keeps.refl _ _
  · intro x1
    intro x2
    refine Keeps.step (State.mainLost_keeps ..) rfl ?_
    exact x2

theorem execMainOkRestored_keeps (s : State) :
    KeepsR mask265 s (execMainOkRestored s) := by
  unfold execMainOkRestored
  refine KeepsR.next ?_
  refine State.runs_keeps rfl ?_ ?_
  · exact Keeps.refl _ _
  · intro x4
    intro x6
    refine Keeps.step (State.mainBack_keeps ..) rfl ?_
    exact x6

theorem execDomainReady_keeps (d : Fin 23) (s : State) :
    KeepsR mask460 s (execDomainReady d s) := by
  unfold execDomainReady
  refine KeepsR.next ?_
  refine State.acts_keeps rfl ?_ ?_
  · exact Keeps.refl _ _
  · intro x1
    intro x2
    refine Keeps.ite (fun _ => ?_) (fun _ => ?_)
    · refine Keeps.step (State.powerSettle_keeps ..) rfl ?_
      refine Keeps.step (State.retryAll_keeps ..) rfl ?_
      refine Keeps.step (State.domReady_keeps ..) rfl ?_
      exact x2
    · refine Keeps.step (State.domReady_keeps ..) rfl ?_
      exact x2

theorem execDomainOff_keeps (d : Fin 23) (s : State) :
    KeepsR mask461 s (execDomainOff d s) := by
  unfold execDomainOff
  refine KeepsR.next ?_
  refine State.acts_keeps rfl ?_ ?_
  · exact Keeps.refl _ _
  · intro x1
    intro x2
    refine Keeps.ite (fun _ => ?_) (fun _ => ?_)
    · refine Keeps.step (State.powerSettle_keeps ..) rfl ?_
      refine Keeps.step (State.retryAll_keeps ..) rfl ?_
      refine Keeps.step (State.domOff_keeps ..) rfl ?_
      exact x2
    · refine Keeps.step (State.domOff_keeps ..) rfl ?_
      exact x2

theorem execCoreRailDischarged_keeps (s : State) :
    KeepsR mask222 s (execCoreRailDischarged s) := by
  unfold execCoreRailDischarged
  refine KeepsR.next ?_
  refine State.runs_keeps rfl ?_ ?_
  · exact Keeps.refl _ _
  · intro x4
    intro x6
    refine Keeps.step (State.discharged_keeps ..) rfl ?_
    exact x6

theorem execTgIdleExpiry_keeps (g : Fin 8) (s : State) :
    KeepsR mask462 s (execTgIdleExpiry g s) := by
  unfold execTgIdleExpiry
  refine KeepsR.next ?_
  refine State.acts_keeps rfl ?_ ?_
  · exact Keeps.refl _ _
  · intro x1
    intro x2
    refine Keeps.step (State.tgIdle_keeps ..) rfl ?_
    exact x2

theorem execEngIdleExpiry_keeps (e : Fin 4) (s : State) :
    KeepsR mask463 s (execEngIdleExpiry e s) := by
  unfold execEngIdleExpiry
  refine KeepsR.next ?_
  refine State.acts_keeps rfl ?_ ?_
  · exact Keeps.refl _ _
  · intro x1
    intro x2
    refine Keeps.step (State.engIdle_keeps ..) rfl ?_
    exact x2

theorem execRecorderIdleOff_keeps (s : State) :
    KeepsR 0x1 s (execRecorderIdleOff s) := by
  unfold execRecorderIdleOff
  refine KeepsR.next ?_
  refine State.runs_keeps rfl ?_ ?_
  · exact Keeps.refl _ _
  · intro x4
    intro x6
    refine Keeps.step (State.recOff_keeps ..) rfl ?_
    exact x6

theorem execHerdGatedWake_keeps (s : State) :
    KeepsR mask314 s (execHerdGatedWake s) := by
  unfold execHerdGatedWake
  refine KeepsR.next ?_
  refine State.runs_keeps rfl ?_ ?_
  · exact Keeps.refl _ _
  · intro x4
    intro x6
    refine Keeps.step (State.milkWake_keeps ..) rfl ?_
    exact x6

theorem execFreqStepDone_keeps (g : Fin 8) (s : State) :
    KeepsR mask260 s (execFreqStepDone g s) := by
  unfold execFreqStepDone
  refine KeepsR.next ?_
  refine State.runs_keeps rfl ?_ ?_
  · exact Keeps.refl _ _
  · intro x4
    intro x6
    refine Keeps.step (State.freqStep_keeps ..) rfl ?_
    exact x6

theorem execCk00Fail_keeps (s : State) :
    KeepsR mask464 s (execCk00Fail s) := by
  unfold execCk00Fail
  refine KeepsR.next ?_
  refine State.offers_keeps rfl ?_ ?_
  · exact Keeps.refl _ _
  · intro x1
    intro x2
    refine Keeps.step (State.slowFail_keeps ..) rfl ?_
    exact x2

theorem execCk00Recover_keeps (s : State) :
    KeepsR 0x1 s (execCk00Recover s) := by
  unfold execCk00Recover
  refine KeepsR.next ?_
  refine State.runs_keeps rfl ?_ ?_
  · exact Keeps.refl _ _
  · intro x4
    intro x6
    refine Keeps.step (State.slowBack_keeps ..) rfl ?_
    exact x6

theorem execCk08Fail_keeps (s : State) :
    KeepsR mask465 s (execCk08Fail s) := by
  unfold execCk08Fail
  refine KeepsR.next ?_
  refine State.offers_keeps rfl ?_ ?_
  · exact Keeps.refl _ _
  · intro x1
    intro x2
    refine Keeps.step (State.xsFail_keeps ..) rfl ?_
    exact x2

theorem execCk08Recover_keeps (s : State) :
    KeepsR 0x1 s (execCk08Recover s) := by
  unfold execCk08Recover
  refine KeepsR.next ?_
  refine State.runs_keeps rfl ?_ ?_
  · exact Keeps.refl _ _
  · intro x4
    intro x6
    refine Keeps.step (State.xsBack_keeps ..) rfl ?_
    exact x6

theorem execCk09Fail_keeps (s : State) :
    KeepsR mask466 s (execCk09Fail s) := by
  unfold execCk09Fail
  refine KeepsR.next ?_
  refine State.acts_keeps rfl ?_ ?_
  · exact Keeps.refl _ _
  · intro x1
    intro x2
    refine Keeps.step (State.clockLost_keeps ..) rfl ?_
    exact x2

theorem execCk10Overfreq_keeps (s : State) :
    KeepsR mask466 s (execCk10Overfreq s) := by
  unfold execCk10Overfreq
  refine KeepsR.next ?_
  refine State.acts_keeps rfl ?_ ?_
  · exact Keeps.refl _ _
  · intro x1
    intro x2
    refine Keeps.step (State.clockLost_keeps ..) rfl ?_
    exact x2

theorem execTgClockOverfreq_keeps (g : Fin 8) (s : State) :
    KeepsR mask467 s (execTgClockOverfreq g s) := by
  unfold execTgClockOverfreq
  refine KeepsR.next ?_
  refine State.acts_keeps rfl ?_ ?_
  · exact Keeps.refl _ _
  · intro x1
    intro x2
    refine Keeps.step (State.tgTrip_keeps ..) rfl ?_
    exact x2

theorem execTgRailOvervoltage_keeps (g : Fin 8) (s : State) :
    KeepsR mask467 s (execTgRailOvervoltage g s) := by
  unfold execTgRailOvervoltage
  refine KeepsR.next ?_
  refine State.acts_keeps rfl ?_ ?_
  · exact Keeps.refl _ _
  · intro x1
    intro x2
    refine Keeps.step (State.tgTrip_keeps ..) rfl ?_
    exact x2

theorem execCoreJunctionTrip_keeps (tj : BitVec 16) (s : State) :
    KeepsR mask468 s (execCoreJunctionTrip tj s) := by
  unfold execCoreJunctionTrip
  refine KeepsR.next ?_
  refine State.acts_keeps rfl ?_ ?_
  · exact Keeps.refl _ _
  · intro x1
    intro x2
    refine Keeps.step (State.coreTrip_keeps ..) rfl ?_
    exact x2

theorem execThermalDiodeRead_keeps (t0 : BitVec 16) (t1 : BitVec 16) (t2 : BitVec 16) (t3 : BitVec 16) (t4 : BitVec 16) (s : State) :
    KeepsR mask469 s (execThermalDiodeRead t0 t1 t2 t3 t4 s) := by
  unfold execThermalDiodeRead
  refine KeepsR.next ?_
  refine State.acts_keeps rfl ?_ ?_
  · exact Keeps.refl _ _
  · intro x1
    intro x2
    refine Keeps.step (State.diodes_keeps ..) rfl ?_
    exact x2

theorem execSupJunctionTrip_keeps (tj : BitVec 16) (s : State) :
    KeepsR mask470 s (execSupJunctionTrip tj s) := by
  unfold execSupJunctionTrip
  refine KeepsR.next ?_
  refine State.acts_keeps rfl ?_ ?_
  · exact Keeps.refl _ _
  · intro x1
    intro x2
    refine Keeps.step (State.supTrip_keeps ..) rfl ?_
    exact x2

theorem execSupJunctionRelease_keeps (tj : BitVec 16) (s : State) :
    KeepsR mask275 s (execSupJunctionRelease tj s) := by
  unfold execSupJunctionRelease
  refine KeepsR.next ?_
  refine State.runs_keeps rfl ?_ ?_
  · exact Keeps.refl _ _
  · intro x4
    intro x6
    refine Keeps.step (State.supRelease_keeps ..) rfl ?_
    exact x6

theorem execQualSelftestDone_keeps (g : Fin 8) (rows : BitVec 32) (cols : BitVec 32) (s : State) :
    KeepsR mask471 s (execQualSelftestDone g rows cols s) := by
  unfold execQualSelftestDone
  refine KeepsR.next ?_
  refine State.acts_keeps rfl ?_ ?_
  · exact Keeps.refl _ _
  · intro x1
    intro x2
    refine Keeps.step (State.powerSettle_keeps ..) rfl ?_
    refine Keeps.step (State.selftestDone_keeps ..) rfl ?_
    exact x2

theorem execQualRampDone_keeps (g : Fin 8) (pass : Bool) (s : State) :
    KeepsR mask472 s (execQualRampDone g pass s) := by
  unfold execQualRampDone
  refine KeepsR.next ?_
  refine State.acts_keeps rfl ?_ ?_
  · exact Keeps.refl _ _
  · intro x1
    intro x2
    refine Keeps.step (State.powerSettle_keeps ..) rfl ?_
    refine Keeps.step (State.rampEnd_keeps ..) rfl ?_
    exact x2

theorem execSafetyInputDemand_keeps (n : Fin 8) (chB : Bool) (s : State) :
    KeepsR mask473 s (execSafetyInputDemand n chB s) := by
  unfold execSafetyInputDemand
  refine KeepsR.next ?_
  refine State.atPins_keeps rfl ?_ ?_
  · exact Keeps.refl _ _
  · intro x1
    intro x2
    refine Keeps.step (State.siDemand_keeps ..) rfl ?_
    exact x2

theorem execSafetyInputClear_keeps (n : Fin 8) (s : State) :
    KeepsR mask474 s (execSafetyInputClear n s) := by
  unfold execSafetyInputClear
  refine KeepsR.next ?_
  refine State.atPins_keeps rfl ?_ ?_
  · exact Keeps.refl _ _
  · intro x1
    intro x2
    refine Keeps.step (State.siClear_keeps ..) rfl ?_
    exact x2

theorem execInputShort_keeps (n : Fin 8) (_chB : Bool) (s : State) :
    KeepsR mask475 s (execInputShort n _chB s) := by
  unfold execInputShort
  refine KeepsR.next ?_
  refine State.acts_keeps rfl ?_ ?_
  · exact Keeps.refl _ _
  · intro x1
    intro x2
    refine Keeps.step (State.siFaulted_keeps ..) rfl ?_
    exact x2

theorem execInputCross_keeps (n : Fin 8) (_chB : Bool) (s : State) :
    KeepsR mask475 s (execInputCross n _chB s) := by
  unfold execInputCross
  refine KeepsR.next ?_
  refine State.acts_keeps rfl ?_ ?_
  · exact Keeps.refl _ _
  · intro x1
    intro x2
    refine Keeps.step (State.siFaulted_keeps ..) rfl ?_
    exact x2

theorem execInputDiscrepancy_keeps (n : Fin 8) (s : State) :
    KeepsR mask473 s (execInputDiscrepancy n s) := by
  unfold execInputDiscrepancy
  refine KeepsR.next ?_
  refine State.acts_keeps rfl ?_ ?_
  · exact Keeps.refl _ _
  · intro x1
    intro x2
    refine Keeps.step (State.siDiscrepancy_keeps ..) rfl ?_
    exact x2

theorem execStoOffPulse_keeps (k : Fin 2) (e : Fin 3) (ok : Bool) (s : State) :
    KeepsR mask476 s (execStoOffPulse k e ok s) := by
  unfold execStoOffPulse
  refine KeepsR.next ?_
  refine State.offers_keeps rfl ?_ ?_
  · exact Keeps.refl _ _
  · intro x1
    intro x2
    refine Keeps.step (State.stoPulse_keeps ..) rfl ?_
    exact x2

theorem execStoReadbackFault_keeps (k : Fin 2) (off : Bool) (s : State) :
    KeepsR mask476 s (execStoReadbackFault k off s) := by
  unfold execStoReadbackFault
  refine KeepsR.next ?_
  refine State.offers_keeps rfl ?_ ?_
  · exact Keeps.refl _ _
  · intro x1
    intro x2
    refine Keeps.step (State.stoReadback_keeps ..) rfl ?_
    exact x2

theorem execStoCurrentLimit_keeps (k : Fin 2) (s : State) :
    KeepsR mask476 s (execStoCurrentLimit k s) := by
  unfold execStoCurrentLimit
  refine KeepsR.next ?_
  refine State.offers_keeps rfl ?_ ?_
  · exact Keeps.refl _ _
  · intro x1
    intro x2
    refine Keeps.step (State.stoLimit_keeps ..) rfl ?_
    exact x2

theorem execStoEnergise_keeps (k : Fin 2) (ok : Bool) (s : State) :
    KeepsR mask476 s (execStoEnergise k ok s) := by
  unfold execStoEnergise
  refine KeepsR.next ?_
  refine State.offers_keeps rfl ?_ ?_
  · exact Keeps.refl _ _
  · intro x1
    intro x2
    refine Keeps.step (State.stoEnergise_keeps ..) rfl ?_
    exact x2

theorem execCrossLinkLoss_keeps (s : State) :
    KeepsR mask477 s (execCrossLinkLoss s) := by
  unfold execCrossLinkLoss
  refine KeepsR.next ?_
  refine State.acts_keeps rfl ?_ ?_
  · exact Keeps.refl _ _
  · intro x1
    intro x2
    refine Keeps.step (State.channelFault_keeps ..) rfl ?_
    exact x2

theorem execChannelFault_keeps (s : State) :
    KeepsR mask477 s (execChannelFault s) := by
  unfold execChannelFault
  refine KeepsR.next ?_
  refine State.acts_keeps rfl ?_ ?_
  · exact Keeps.refl _ _
  · intro x1
    intro x2
    refine Keeps.step (State.channelFault_keeps ..) rfl ?_
    exact x2

theorem execConfigCrcCheck_keeps (ok : Bool) (s : State) :
    KeepsR mask477 s (execConfigCrcCheck ok s) := by
  unfold execConfigCrcCheck
  refine KeepsR.next ?_
  refine State.acts_keeps rfl ?_ ?_
  · exact Keeps.refl _ _
  · intro x1
    intro x2
    refine Keeps.ite (fun _ => ?_) (fun _ => ?_)
    · exact x2
    · refine Keeps.step (State.channelFault_keeps ..) rfl ?_
      exact x2

theorem execSvcKeyChange_keeps (on : Bool) (s : State) :
    KeepsR mask478 s (execSvcKeyChange on s) := by
  unfold execSvcKeyChange
  refine KeepsR.next ?_
  refine State.atPins_keeps rfl ?_ ?_
  · exact Keeps.refl _ _
  · intro x1
    intro x2
    refine Keeps.step (State.svcKey_keeps ..) rfl ?_
    exact x2

theorem execWakeInChange_keeps (on : Bool) (s : State) :
    KeepsR mask479 s (execWakeInChange on s) := by
  unfold execWakeInChange
  refine KeepsR.next ?_
  refine State.atPins_keeps rfl ?_ ?_
  · exact Keeps.refl _ _
  · intro x1
    intro x2
    refine Keeps.step (State.wakeIn_keeps ..) rfl ?_
    exact x2

theorem execLightChange_keeps (p : Fin 16) (on : Bool) (s : State) :
    KeepsR mask480 s (execLightChange p on s) := by
  unfold execLightChange
  refine KeepsR.next ?_
  refine State.atPins_keeps rfl ?_ ?_
  · exact Keeps.refl _ _
  · intro x1
    intro x2
    refine Keeps.step (State.lightChange_keeps ..) rfl ?_
    exact x2

theorem execLscPresChange_keeps (mated : Bool) (s : State) :
    KeepsR mask481 s (execLscPresChange mated s) := by
  unfold execLscPresChange
  refine KeepsR.next ?_
  refine State.atPins_keeps rfl ?_ ?_
  · exact Keeps.refl _ _
  · intro x1
    intro x2
    refine Keeps.step (State.lscPres_keeps ..) rfl ?_
    exact x2

theorem execFieldConnectorChange_keeps (mated : Bool) (s : State) :
    KeepsR mask482 s (execFieldConnectorChange mated s) := by
  unfold execFieldConnectorChange
  refine KeepsR.next ?_
  refine State.atPins_keeps rfl ?_ ?_
  · exact Keeps.refl _ _
  · intro x1
    intro x2
    refine Keeps.step (State.fieldConn_keeps ..) rfl ?_
    exact x2

theorem execBatteryHarnessChange_keeps (hpres : Bool) (bjl : Bool) (s : State) :
    KeepsR mask483 s (execBatteryHarnessChange hpres bjl s) := by
  unfold execBatteryHarnessChange
  refine KeepsR.next ?_
  refine State.atPins_keeps rfl ?_ ?_
  · exact Keeps.refl _ _
  · intro x1
    intro x2
    refine Keeps.step (State.harness_keeps ..) rfl ?_
    exact x2

theorem execCopperCableChange_keeps (c : Fin 2) (present : Bool) (s : State) :
    KeepsR mask321 s (execCopperCableChange c present s) := by
  unfold execCopperCableChange
  refine KeepsR.next ?_
  refine Keeps.step (State.cableChange_keeps ..) rfl ?_
  exact Keeps.refl _ _

theorem execNidStrapChange_keeps (nid : Fin 16) (s : State) :
    KeepsR 0x1 s (execNidStrapChange nid s) := by
  unfold execNidStrapChange
  refine KeepsR.next ?_
  refine Keeps.step (State.nidStrap_keeps ..) rfl ?_
  exact Keeps.refl _ _

theorem execFltWireSet_keeps (read : BitVec 2) (s : State) :
    KeepsR mask484 s (execFltWireSet read s) := by
  unfold execFltWireSet
  refine KeepsR.next ?_
  refine State.offers_keeps rfl ?_ ?_
  · exact Keeps.refl _ _
  · intro x1
    intro x2
    refine Keeps.step (State.fltWire_keeps ..) rfl ?_
    exact x2

theorem execFltWireClear_keeps (read : BitVec 2) (s : State) :
    KeepsR mask323 s (execFltWireClear read s) := by
  unfold execFltWireClear
  refine KeepsR.next ?_
  refine State.runs_keeps rfl ?_ ?_
  · exact Keeps.refl _ _
  · intro x4
    intro x6
    refine Keeps.step (State.fltWireEnd_keeps ..) rfl ?_
    exact x6

theorem execQuietExpiry_keeps (code : Byte) (inst : Byte) (s : State) :
    KeepsR mask485 s (execQuietExpiry code inst s) := by
  unfold execQuietExpiry
  refine KeepsR.step (wfElse_keeps ..) rfl ?_
  refine State.acts_keeps rfl ?_ ?_
  · exact Keeps.refl _ _
  · intro x1
    intro x2
    refine Keeps.step (State.powerSettle_keeps ..) rfl ?_
    refine Keeps.step (State.quietEnd_keeps ..) rfl ?_
    exact x2

theorem execShadowEnd_keeps (kind : Fin 6) (inst : Byte) (still : List DetRef) (s : State) :
    KeepsR mask486 s (execShadowEnd kind inst still s) := by
  unfold execShadowEnd
  refine KeepsR.next ?_
  refine State.acts_keeps rfl ?_ ?_
  · exact Keeps.refl _ _
  · intro x1
    intro x2
    refine Keeps.step (State.powerSettle_keeps ..) rfl ?_
    refine Keeps.step (State.shadowEnd_keeps ..) rfl ?_
    exact x2

theorem execPageProgramStart_keeps (s : State) :
    KeepsR mask487 s (execPageProgramStart s) := by
  unfold execPageProgramStart
  refine KeepsR.next ?_
  refine State.offers_keeps rfl ?_ ?_
  · exact Keeps.refl _ _
  · intro x1
    intro x2
    refine Keeps.step (State.progStart_keeps ..) rfl ?_
    exact x2

theorem execPageProgramDone_keeps (ok : Bool) (s : State) :
    KeepsR mask488 s (execPageProgramDone ok s) := by
  unfold execPageProgramDone
  refine KeepsR.next ?_
  refine State.offers_keeps rfl ?_ ?_
  · exact Keeps.refl _ _
  · intro x1
    intro x2
    refine Keeps.step (State.progDone_keeps ..) rfl ?_
    exact x2

theorem execSectorEraseDone_keeps (ok : Bool) (s : State) :
    KeepsR mask489 s (execSectorEraseDone ok s) := by
  unfold execSectorEraseDone
  refine KeepsR.next ?_
  refine State.offers_keeps rfl ?_ ?_
  · exact Keeps.refl _ _
  · intro x1
    intro x2
    refine Keeps.step (State.eraseDone_keeps ..) rfl ?_
    exact x2

theorem execTimeStoreWrite_keeps (s : State) :
    KeepsR 0x20 s (execTimeStoreWrite s) := by
  unfold execTimeStoreWrite
  refine KeepsR.next ?_
  refine State.runs_keeps rfl ?_ ?_
  · exact Keeps.refl _ _
  · intro x4
    intro x6
    refine Keeps.step (State.timeStore_keeps ..) rfl ?_
    exact x6

theorem execGcOverflow_keeps (n : Fin 4) (s : State) :
    KeepsR mask9 s (execGcOverflow n s) := by
  unfold execGcOverflow
  refine KeepsR.next ?_
  refine State.runs_keeps rfl ?_ ?_
  · exact Keeps.refl _ _
  · intro x4
    intro x6
    refine Keeps.step (State.gcWraps_keeps ..) rfl ?_
    exact x6

theorem execRsLowRead_keeps (port : Bool) (req : Fin 18) (idx : BitVec 16) (s : State) :
    KeepsR 0x2000020 s (execRsLowRead port req idx s) := by
  unfold execRsLowRead
  refine KeepsR.step (wfElse_keeps ..) rfl ?_
  refine State.runs_keeps rfl ?_ ?_
  · exact Keeps.refl _ _
  · intro x4
    intro x6
    refine Keeps.ite (fun _ => ?_) (fun _ => ?_)
    · refine Keeps.step (State.rsPort_keeps ..) rfl ?_
      exact x6
    · refine Keeps.step (State.supRead_keeps ..) rfl ?_
      exact x6

end Sys2Proof.Machine
end

