-- ==== Sys2Proof/Laws/KeepsMatrix.lean ====
section
/-! SUPPORT. The frame of every function of Machine/Matrix.lean: what it may change, and that it keeps the canonical forms and
the waiting commands. -/
namespace Sys2Proof.Machine

set_option Elab.async false

theorem State.askRamp_keeps (s : State) (t : Nat) (opc : Nat) (dyn : State → Nat → PEnt → Dyn) :
    Keeps 0x40000 s (State.askRamp s t opc dyn) := by
  unfold State.askRamp
  refine Keeps.ite (fun _ => ?_) (fun _ => ?_)
  · exact Keeps.refl _ _
  · split
    · rename_i y1 y2 y3 y4 y5 y6 y7
      refine (Keeps.setGov _ rfl ?_)
      exact Keeps.refl _ _
    · rename_i y8 y9 y10
      exact Keeps.refl _ _

theorem State.sldAct_keeps (s : State) (t : Nat) (i : Nat) (e : PEnt) :
    Keeps 0x1000 s (State.sldAct s t i e) := by
  unfold State.sldAct
  extract_lets v1 v2 v3 v4
  refine Keeps.ite (fun _ => ?_) (fun _ => ?_)
  · refine Keeps.step (State.setEnt_keeps ..) rfl ?_
    refine State.setTile_keeps rfl ?_ ?_
    · refine Canon.upd ?_
      unfold v4
      refine Canon.step (Tile.rampOn_canon ..) ?_
      unfold v1
      refine Canon.tile (M := 0x1000) _ ?_
      exact Keeps.refl _ _
    · exact Keeps.refl _ _
  · refine State.setTile_keeps rfl ?_ ?_
    · refine Canon.upd ?_
      unfold v4
      refine Canon.step (Tile.rampOn_canon ..) ?_
      unfold v1
      refine Canon.tile (M := 0x1000) _ ?_
      exact Keeps.refl _ _
    · exact Keeps.refl _ _

theorem State.sld_keeps (s : State) (t : Nat) :
    Keeps mask113 s (State.sld s t) := by
  unfold State.sld
  refine State.issueHead_keeps rfl ?_ ?_
  · refine Keeps.step (State.askRamp_keeps ..) rfl ?_
    exact Keeps.refl _ _
  · intro x1
    intro x2
    intro x3
    intro x4
    refine Keeps.step (State.sldAct_keeps ..) rfl ?_
    exact x4

theorem State.shadowLoadDone_keeps (s : State) (t : Nat) (r : PailRep) :
    Keeps mask113 s (State.shadowLoadDone s t r) := by
  unfold State.shadowLoadDone
  extract_lets v1 v2 v3 v4
  have h5 : Keeps mask113 s v2 := by
    unfold v2
    refine State.setTile_keeps rfl ?_ ?_
    · refine Canon.step (Tile.reported_canon ..) ?_
      unfold v1
      refine Canon.tile (M := mask113) _ ?_
      exact Keeps.refl _ _
    · exact Keeps.refl _ _
  clear_value v2
  have h12 : Keeps mask113 s v4 := by
    unfold v4
    refine State.setTile_keeps rfl ?_ ?_
    · refine Canon.upd ?_
      unfold v3
      refine Canon.tile (M := mask113) _ ?_
      exact h5
    · exact h5
  clear_value v4
  refine Keeps.ite (fun _ => ?_) (fun _ => ?_)
  · split
    · rename_i y21 y22 y23
      refine Keeps.ite (fun _ => ?_) (fun _ => ?_)
      · refine Keeps.step (State.tilSettle_keeps ..) rfl ?_
        refine Keeps.step (State.abortEnter_keeps ..) rfl ?_
        exact h5
      · split
        · rename_i y29 y30 y31
          refine Keeps.ite (fun _ => ?_) (fun _ => ?_)
          · refine Keeps.step (State.completeAt_keeps ..) rfl ?_
            exact h12
          · exact h12
        · rename_i y36 y37
          exact h12
    · rename_i y39 y40
      exact Keeps.refl _ _
  · exact Keeps.refl _ _

theorem State.mpassAct_keeps (s : State) (t : Nat) (i : Nat) (e : PEnt) :
    Keeps 0x1000 s (State.mpassAct s t i e) := by
  unfold State.mpassAct
  extract_lets v1 v2 v3 v4 v5 v6 v7
  refine Keeps.step (State.setEnt_keeps ..) rfl ?_
  refine State.setTile_keeps rfl ?_ ?_
  · unfold v7
    refine Canon.ite (fun _ => ?_) (fun _ => ?_)
    · refine Canon.upd ?_
      unfold v6
      refine Canon.upd ?_
      unfold v5
      refine Canon.step (Tile.rampOn_canon ..) ?_
      unfold v1
      refine Canon.tile (M := 0x1000) _ ?_
      exact Keeps.refl _ _
    · refine Canon.ite (fun _ => ?_) (fun _ => ?_)
      · refine Canon.upd ?_
        unfold v6
        refine Canon.upd ?_
        unfold v5
        refine Canon.step (Tile.rampOn_canon ..) ?_
        unfold v1
        refine Canon.tile (M := 0x1000) _ ?_
        exact Keeps.refl _ _
      · unfold v6
        refine Canon.upd ?_
        unfold v5
        refine Canon.step (Tile.rampOn_canon ..) ?_
        unfold v1
        refine Canon.tile (M := 0x1000) _ ?_
        exact Keeps.refl _ _
  · exact Keeps.refl _ _

theorem State.passRow_keeps (s : State) (t : Nat) (i : Nat) (e : PEnt) :
    Keeps 0x1000 s (State.passRow s t i e) := by
  unfold State.passRow
  extract_lets v1 v2 v3 v4 v5
  refine Keeps.ite (fun _ => ?_) (fun _ => ?_)
  · refine Keeps.step (State.setEnt_keeps ..) rfl ?_
    exact Keeps.refl _ _
  · refine Keeps.step (State.setEnt_keeps ..) rfl ?_
    refine State.setTile_keeps rfl ?_ ?_
    · refine Canon.updC ?_ ?_
      · unfold v4
        refine Canon.ite (fun _ => ?_) (fun _ => ?_)
        · refine Canon.upd ?_
          unfold v3
          refine Canon.tile (M := 0x1000) _ ?_
          exact Keeps.refl _ _
        · refine Canon.tile (M := 0x1000) _ ?_
          exact Keeps.refl _ _
      · with_reducible exact fun c => Pass.rowInto_wf _ _ _ _ _ _ c
    · exact Keeps.refl _ _

theorem State.nextSub_keeps (s : State) (t : Nat) (i : Nat) (e : PEnt) :
    Keeps 0x1000 s (State.nextSub s t i e) := by
  unfold State.nextSub
  extract_lets v1 v2
  refine Keeps.ite (fun _ => ?_) (fun _ => ?_)
  · refine Keeps.step (State.setEnt_keeps ..) rfl ?_
    refine State.setTile_keeps rfl ?_ ?_
    · refine Canon.upd ?_
      unfold v1
      refine Canon.tile (M := 0x1000) _ ?_
      exact Keeps.refl _ _
    · exact Keeps.refl _ _
  · refine Keeps.step (State.setEnt_keeps ..) rfl ?_
    exact Keeps.refl _ _

theorem State.saveCut_keeps (s : State) (t : Nat) (i : Nat) :
    Keeps mask112 s (State.saveCut s t i) := by
  unfold State.saveCut
  extract_lets v1
  split
  · rename_i y2 y3
    exact Keeps.refl _ _
  · rename_i y4 y5 y6
    extract_lets v7 v8 v9 v10 v11
    have h12 : Keeps mask112 s v11 := by
      unfold v11
      refine State.setTile_keeps rfl ?_ ?_
      · refine Canon.upd ?_
        unfold v8
        refine Canon.foldl _ ?_ (fun a13 b14 k15 => ?_)
        · refine Canon.ite (fun _ => ?_) (fun _ => ?_)
          · refine Canon.step (Tile.quench_canon ..) ?_
            unfold v1
            refine Canon.tile (M := mask112) _ ?_
            exact Keeps.refl _ _
          · unfold v1
            refine Canon.tile (M := mask112) _ ?_
            exact Keeps.refl _ _
        · refine Canon.step (Tile.quench_canon ..) ?_
          exact k15
      · exact Keeps.refl _ _
    clear_value v11
    refine Keeps.step (State.enter_keeps ..) rfl ?_
    refine Keeps.ite (fun _ => ?_) (fun _ => ?_)
    · refine Keeps.step (State.tilePerf_keeps ..) rfl ?_
      exact h12
    · exact h12

theorem State.passRows_keeps (t : Nat) (i : Nat) (l0 : Nat) (a3 : State) :
    Keeps mask112 a3 (State.passRows t i l0 a3) := by
  induction l0 generalizing t i a3 with
  | zero =>
    unfold State.passRows
    exact Keeps.refl _ _
  | succ l0 ih =>
    unfold State.passRows
    split
    · rename_i y38 y39
      exact Keeps.refl _ _
    · rename_i y41 y42 y43
      extract_lets v45
      refine Keeps.ite (fun _ => ?_) (fun _ => ?_)
      · refine Keeps.step (ih ..) rfl ?_
        refine Keeps.step (State.tilePerf_keeps ..) rfl ?_
        refine Keeps.step (State.passRow_keeps ..) rfl ?_
        exact Keeps.refl _ _
      · refine Keeps.ite (fun _ => ?_) (fun _ => ?_)
        · refine Keeps.ite (fun _ => ?_) (fun _ => ?_)
          · refine Keeps.ite (fun _ => ?_) (fun _ => ?_)
            · exact Keeps.refl _ _
            · refine Keeps.step (State.saveCut_keeps ..) rfl ?_
              refine Keeps.step (State.nextSub_keeps ..) rfl ?_
              exact Keeps.refl _ _
          · refine Keeps.ite (fun _ => ?_) (fun _ => ?_)
            · exact Keeps.refl _ _
            · refine Keeps.step (ih ..) rfl ?_
              refine Keeps.step (State.nextSub_keeps ..) rfl ?_
              exact Keeps.refl _ _
        · exact Keeps.refl _ _

theorem State.arrayCycles_keeps (s : State) (t : Nat) :
    Keeps mask111 s (State.arrayCycles s t) := by
  unfold State.arrayCycles
  extract_lets v1 v2
  have h3 : Keeps mask111 s v1.2 := by
    unfold v1
    refine Keeps.step (State.free_keeps ..) rfl ?_
    exact Keeps.refl _ _
  clear_value v1
  have h6 : Keeps mask111 s v2.2 := by
    unfold v2
    refine Keeps.step (State.free_keeps ..) rfl ?_
    exact h3
  clear_value v2
  refine Keeps.step (State.tilePerf_keeps ..) rfl ?_
  refine Keeps.step (State.tilePerf_keeps ..) rfl ?_
  exact h6

theorem State.mpass_keeps (s : State) (t : Nat) (n : Nat) :
    Keeps mask113 s (State.mpass s t n) := by
  unfold State.mpass
  split
  · rename_i y1 y2 y3
    refine Keeps.ite (fun _ => ?_) (fun _ => ?_)
    · refine Keeps.step (State.arrayCycles_keeps ..) rfl ?_
      refine Keeps.step (State.passRows_keeps ..) rfl ?_
      exact Keeps.refl _ _
    · exact Keeps.refl _ _
  · rename_i y4 y5
    refine State.issueHead_keeps rfl ?_ ?_
    · refine Keeps.step (State.askRamp_keeps ..) rfl ?_
      exact Keeps.refl _ _
    · intro x6
      intro x7
      intro x8
      intro x9
      refine Keeps.step (State.arrayCycles_keeps ..) rfl ?_
      refine Keeps.step (State.passRows_keeps ..) rfl ?_
      refine Keeps.step (State.mpassAct_keeps ..) rfl ?_
      exact x9

theorem State.passEnd_keeps (s : State) (t : Nat) (i : Nat) (e : PEnt) :
    Keeps mask112 s (State.passEnd s t i e) := by
  unfold State.passEnd
  extract_lets v1 v2 v3
  refine Keeps.step (State.completeAt_keeps ..) rfl ?_
  refine State.setTile_keeps rfl ?_ ?_
  · unfold v3
    refine Canon.ite (fun _ => ?_) (fun _ => ?_)
    · refine Canon.updC ?_ ?_
      · unfold v1
        refine Canon.tile (M := mask112) _ ?_
        exact Keeps.refl _ _
      · with_reducible exact fun c => Pass.reduceInto_wf _ _ _ c
    · refine Canon.ite (fun _ => ?_) (fun _ => ?_)
      · refine Canon.upd ?_
        unfold v1
        refine Canon.tile (M := mask112) _ ?_
        exact Keeps.refl _ _
      · unfold v1
        refine Canon.tile (M := mask112) _ ?_
        exact Keeps.refl _ _
  · exact Keeps.refl _ _

theorem State.directEnd_keeps (s : State) (t : Nat) (i : Nat) (e : PEnt) :
    Keeps mask112 s (State.directEnd s t i e) := by
  unfold State.directEnd
  refine Keeps.step (State.completeAt_keeps ..) rfl ?_
  extract_lets v2
  refine State.setTile_keeps rfl ?_ ?_
  · refine Canon.upd ?_
    unfold v2
    refine Canon.tile (M := mask112) _ ?_
    exact Keeps.refl _ _
  · exact Keeps.refl _ _

theorem State.rbset_keeps (s : State) (t : Nat) :
    Keeps mask112 s (State.rbset s t) := by
  unfold State.rbset
  refine State.issueHead_keeps rfl ?_ ?_
  · exact Keeps.refl _ _
  · intro x1
    intro x2
    intro x3
    intro x4
    refine Keeps.step (State.completeAt_keeps ..) rfl ?_
    refine State.setTile_keeps rfl ?_ ?_
    · extract_lets v5
      refine Canon.upd ?_
      unfold v5
      refine Canon.tile (M := mask112) _ ?_
      exact x4
    · exact x4

theorem State.rampDown_keeps (s : State) (t : Nat) :
    Keeps 0x1000 s (State.rampDown s t) := by
  unfold State.rampDown
  extract_lets v1 v2
  refine Keeps.ite (fun _ => ?_) (fun _ => ?_)
  · refine State.setTile_keeps rfl ?_ ?_
    · refine Canon.upd ?_
      unfold v1
      refine Canon.tile (M := 0x1000) _ ?_
      exact Keeps.refl _ _
    · exact Keeps.refl _ _
  · exact Keeps.refl _ _

theorem State.rampGrant_keeps (s : State) (t : Nat) :
    Keeps mask113 s (State.rampGrant s t) := by
  unfold State.rampGrant
  split
  · rename_i y1 y2 y3 y4
    refine Keeps.ite (fun _ => ?_) (fun _ => ?_)
    · extract_lets v5 v6 v7
      have h8 : Keeps mask113 s v6 := by
        unfold v6
        refine (Keeps.setGov _ rfl ?_)
        exact Keeps.refl _ _
      clear_value v6
      split
      · rename_i y9 y10 y11 y12 y13 y14 y15
        refine State.issueHead_keeps rfl ?_ ?_
        · exact h8
        · intro x16
          intro x17
          intro x18
          intro x19
          refine Keeps.ite (fun _ => ?_) (fun _ => ?_)
          · refine Keeps.step (State.sldAct_keeps ..) rfl ?_
            exact x19
          · refine Keeps.step (State.mpassAct_keeps ..) rfl ?_
            exact x19
      · rename_i y20 y21 y22
        exact h8
    · exact Keeps.refl _ _
  · rename_i y23 y24
    exact Keeps.refl _ _

end Sys2Proof.Machine
end

