-- ==== Sys2Proof/Laws/KeepsVector.lean ====
section
/-! SUPPORT. The frame of every function of Machine/Vector.lean: what it may change, and that it keeps the canonical forms and
the waiting commands. -/
namespace Sys2Proof.Machine

set_option Elab.async false

theorem State.vecGo_keeps (t : Nat) (i : Nat) (l0 : Nat) (a3 : State) :
    Keeps mask119 a3 (State.vecGo t i l0 a3) := by
  induction l0 generalizing t i a3 with
  | zero =>
    unfold State.vecGo
    exact Keeps.refl _ _
  | succ l0 ih =>
    unfold State.vecGo
    extract_lets v46
    split
    · rename_i y48 y49
      exact Keeps.refl _ _
    · rename_i y51 y52 y53
      extract_lets v55 v56
      refine Keeps.ite (fun _ => ?_) (fun _ => ?_)
      · exact Keeps.refl _ _
      · refine Keeps.step (ih ..) rfl ?_
        refine Keeps.step (State.tilePerf_keeps ..) rfl ?_
        refine Keeps.step (State.setEnt_keeps ..) rfl ?_
        refine State.setTile_keeps rfl ?_ ?_
        · unfold v56
          refine Canon.ite (fun _ => ?_) (fun _ => ?_)
          · refine Canon.step (Tile.topRow_canon ..) ?_
            unfold v46
            refine Canon.tile (M := mask119) _ ?_
            exact Keeps.refl _ _
          · refine Canon.upd ?_
            unfold v55
            refine Canon.step (Tile.vdrain_canon ..) ?_
            unfold v46
            refine Canon.tile (M := mask119) _ ?_
            exact Keeps.refl _ _
        · exact Keeps.refl _ _

theorem State.vecAct_keeps (s : State) (t : Nat) (n : Nat) (i : Nat) (e : PEnt) :
    Keeps mask112 s (State.vecAct s t n i e) := by
  unfold State.vecAct
  extract_lets v1 v2
  have h3 : Keeps mask112 s v2 := by
    unfold v2
    refine State.setTile_keeps rfl ?_ ?_
    · refine Canon.step (Tile.vflush_canon ..) ?_
      refine Canon.tile (M := mask112) _ ?_
      exact Keeps.refl _ _
    · exact Keeps.refl _ _
  clear_value v2
  refine Keeps.ite (fun _ => ?_) (fun _ => ?_)
  · refine Keeps.step (State.completeAt_keeps ..) rfl ?_
    refine State.setTile_keeps rfl ?_ ?_
    · refine Canon.step (Tile.topInit_canon ..) ?_
      refine Canon.step (Tile.vflush_canon ..) ?_
      refine Canon.tile (M := mask112) _ ?_
      exact Keeps.refl _ _
    · exact Keeps.refl _ _
  · refine Keeps.step (State.vecGo_keeps ..) rfl ?_
    refine Keeps.ite (fun _ => ?_) (fun _ => ?_)
    · refine Keeps.step (State.setEnt_keeps ..) rfl ?_
      exact h3
    · exact h3

theorem State.vector_keeps (s : State) (t : Nat) (opc : Nat) (n : Nat) :
    Keeps mask112 s (State.vector s t opc n) := by
  unfold State.vector
  split
  · rename_i y1 y2 y3
    split
    · rename_i y4 y5 y6
      refine Keeps.ite (fun _ => ?_) (fun _ => ?_)
      · refine Keeps.step (State.vecGo_keeps ..) rfl ?_
        exact Keeps.refl _ _
      · exact Keeps.refl _ _
    · rename_i y7 y8
      exact Keeps.refl _ _
  · rename_i y9 y10
    refine State.issueHead_keeps rfl ?_ ?_
    · exact Keeps.refl _ _
    · intro x11
      intro x12
      intro x13
      intro x14
      refine Keeps.step (State.vecAct_keeps ..) rfl ?_
      exact x14

theorem State.vecEnd_keeps (s : State) (t : Nat) (i : Nat) (e : PEnt) :
    Keeps mask112 s (State.vecEnd s t i e) := by
  unfold State.vecEnd
  extract_lets v1 v2
  refine Keeps.step (State.completeAt_keeps ..) rfl ?_
  refine State.setTile_keeps rfl ?_ ?_
  · unfold v2
    refine Canon.ite (fun _ => ?_) (fun _ => ?_)
    · refine Canon.upd ?_
      unfold v1
      refine Canon.step (Tile.vflush_canon ..) ?_
      refine Canon.tile (M := mask112) _ ?_
      exact Keeps.refl _ _
    · unfold v1
      refine Canon.step (Tile.vflush_canon ..) ?_
      refine Canon.tile (M := mask112) _ ?_
      exact Keeps.refl _ _
  · exact Keeps.refl _ _

theorem State.instrComplete_keeps (s : State) (t : Nat) (i : Nat) (r : PailRep) :
    Keeps mask113 s (State.instrComplete s t i r) := by
  unfold State.instrComplete
  split
  · rename_i y1 y2
    exact Keeps.refl _ _
  · rename_i y4 y5 y6
    refine Keeps.ite (fun _ => ?_) (fun _ => ?_)
    · exact Keeps.refl _ _
    · refine Keeps.ite (fun _ => ?_) (fun _ => ?_)
      · refine Keeps.ite (fun _ => ?_) (fun _ => ?_)
        · refine Keeps.step (State.tilSettle_keeps ..) rfl ?_
          refine Keeps.step (State.abortEnter_keeps ..) rfl ?_
          refine State.setTile_keeps rfl ?_ ?_
          · refine Canon.step (Tile.reported_canon ..) ?_
            refine Canon.tile (M := mask113) _ ?_
            exact Keeps.refl _ _
          · exact Keeps.refl _ _
        · exact Keeps.refl _ _
      · extract_lets v20
        have h21 : Keeps mask113 s v20 := by
          unfold v20
          refine State.setTile_keeps rfl ?_ ?_
          · refine Canon.step (Tile.reported_canon ..) ?_
            refine Canon.tile (M := mask113) _ ?_
            exact Keeps.refl _ _
          · exact Keeps.refl _ _
        clear_value v20
        refine Keeps.ite (fun _ => ?_) (fun _ => ?_)
        · exact Keeps.refl _ _
        · refine Keeps.ite (fun _ => ?_) (fun _ => ?_)
          · refine Keeps.step (State.passEnd_keeps ..) rfl ?_
            exact h21
          · refine Keeps.ite (fun _ => ?_) (fun _ => ?_)
            · refine Keeps.step (State.directEnd_keeps ..) rfl ?_
              exact h21
            · refine Keeps.ite (fun _ => ?_) (fun _ => ?_)
              · refine Keeps.step (State.vecEnd_keeps ..) rfl ?_
                exact h21
              · refine Keeps.step (State.completeAt_keeps ..) rfl ?_
                exact h21

end Sys2Proof.Machine
end

