-- ==== Sys2Proof/Laws/KeepsExecTile.lean ====
section
/-! SUPPORT. The frame of every function of Machine/ExecTile.lean: what it may change, and that it keeps the canonical forms and
the waiting commands. -/
namespace Sys2Proof.Machine

set_option Elab.async false

theorem execNop_keeps (t : Fin 64) (s : State) :
    KeepsR mask490 s (execNop t s) := by
  unfold execNop
  refine KeepsR.next ?_
  refine State.offers_keeps rfl ?_ ?_
  · exact Keeps.refl _ _
  · intro x1
    intro x2
    refine Keeps.step (State.nop_keeps ..) rfl ?_
    exact x2

theorem execLdv_keeps (t : Fin 64) (ch : Bool) (n : Fin 4097) (s : State) :
    KeepsR mask491 s (execLdv t ch n s) := by
  unfold execLdv
  refine KeepsR.next ?_
  refine State.acts_keeps rfl ?_ ?_
  · exact Keeps.refl _ _
  · intro x1
    intro x2
    refine Keeps.step (State.powerSettle_keeps ..) rfl ?_
    refine Keeps.step (State.ladle_keeps ..) rfl ?_
    exact x2

theorem execStv_keeps (t : Fin 64) (ch : Bool) (n : Fin 4097) (s : State) :
    KeepsR mask491 s (execStv t ch n s) := by
  unfold execStv
  refine KeepsR.next ?_
  refine State.acts_keeps rfl ?_ ?_
  · exact Keeps.refl _ _
  · intro x1
    intro x2
    refine Keeps.step (State.powerSettle_keeps ..) rfl ?_
    refine Keeps.step (State.ladle_keeps ..) rfl ?_
    exact x2

theorem execSld_keeps (t : Fin 64) (s : State) :
    KeepsR mask492 s (execSld t s) := by
  unfold execSld
  refine KeepsR.next ?_
  refine State.offers_keeps rfl ?_ ?_
  · exact Keeps.refl _ _
  · intro x1
    intro x2
    refine Keeps.step (State.sld_keeps ..) rfl ?_
    exact x2

theorem execMpass_keeps (t : Fin 64) (n : Fin 4097) (s : State) :
    KeepsR mask492 s (execMpass t n s) := by
  unfold execMpass
  refine KeepsR.next ?_
  refine State.offers_keeps rfl ?_ ?_
  · exact Keeps.refl _ _
  · intro x1
    intro x2
    refine Keeps.step (State.mpass_keeps ..) rfl ?_
    exact x2

theorem execRbset_keeps (t : Fin 64) (s : State) :
    KeepsR mask490 s (execRbset t s) := by
  unfold execRbset
  refine KeepsR.next ?_
  refine State.offers_keeps rfl ?_ ?_
  · exact Keeps.refl _ _
  · intro x1
    intro x2
    refine Keeps.step (State.rbset_keeps ..) rfl ?_
    exact x2

theorem execVop_keeps (t : Fin 64) (n : Fin 4097) (s : State) :
    KeepsR mask490 s (execVop t n s) := by
  unfold execVop
  refine KeepsR.next ?_
  refine State.offers_keeps rfl ?_ ?_
  · exact Keeps.refl _ _
  · intro x1
    intro x2
    refine Keeps.step (State.vector_keeps ..) rfl ?_
    exact x2

theorem execVred_keeps (t : Fin 64) (n : Fin 4097) (s : State) :
    KeepsR mask490 s (execVred t n s) := by
  unfold execVred
  refine KeepsR.next ?_
  refine State.offers_keeps rfl ?_ ?_
  · exact Keeps.refl _ _
  · intro x1
    intro x2
    refine Keeps.step (State.vector_keeps ..) rfl ?_
    exact x2

theorem execVcvt_keeps (t : Fin 64) (n : Fin 4097) (s : State) :
    KeepsR mask490 s (execVcvt t n s) := by
  unfold execVcvt
  refine KeepsR.next ?_
  refine State.offers_keeps rfl ?_ ?_
  · exact Keeps.refl _ _
  · intro x1
    intro x2
    refine Keeps.step (State.vector_keeps ..) rfl ?_
    exact x2

theorem execVtopk_keeps (t : Fin 64) (n : Fin 4097) (s : State) :
    KeepsR mask490 s (execVtopk t n s) := by
  unfold execVtopk
  refine KeepsR.next ?_
  refine State.offers_keeps rfl ?_ ?_
  · exact Keeps.refl _ _
  · intro x1
    intro x2
    refine Keeps.step (State.vector_keeps ..) rfl ?_
    exact x2

theorem execXsig_keeps (t : Fin 64) (s : State) :
    KeepsR mask493 s (execXsig t s) := by
  unfold execXsig
  refine KeepsR.next ?_
  refine State.acts_keeps rfl ?_ ?_
  · exact Keeps.refl _ _
  · intro x1
    intro x2
    refine Keeps.step (State.powerSettle_keeps ..) rfl ?_
    refine Keeps.step (State.xsig_keeps ..) rfl ?_
    exact x2

theorem execBar_keeps (t : Fin 64) (s : State) :
    KeepsR mask490 s (execBar t s) := by
  unfold execBar
  refine KeepsR.next ?_
  refine State.offers_keeps rfl ?_ ?_
  · exact Keeps.refl _ _
  · intro x1
    intro x2
    refine Keeps.step (State.barrier_keeps ..) rfl ?_
    exact x2

theorem execTclr_keeps (t : Fin 64) (s : State) :
    KeepsR mask490 s (execTclr t s) := by
  unfold execTclr
  refine KeepsR.next ?_
  refine State.offers_keeps rfl ?_ ?_
  · exact Keeps.refl _ _
  · intro x1
    intro x2
    refine Keeps.step (State.tclr_keeps ..) rfl ?_
    exact x2

theorem execLoop_keeps (t : Fin 64) (s : State) :
    KeepsR mask490 s (execLoop t s) := by
  unfold execLoop
  refine KeepsR.next ?_
  refine State.offers_keeps rfl ?_ ?_
  · exact Keeps.refl _ _
  · intro x1
    intro x2
    refine Keeps.step (State.loopOpen_keeps ..) rfl ?_
    exact x2

theorem execCpl_keeps (t : Fin 64) (s : State) :
    KeepsR mask494 s (execCpl t s) := by
  unfold execCpl
  refine KeepsR.next ?_
  refine State.acts_keeps rfl ?_ ?_
  · exact Keeps.refl _ _
  · intro x1
    intro x2
    refine Keeps.step (State.powerSettle_keeps ..) rfl ?_
    refine Keeps.step (State.cpl_keeps ..) rfl ?_
    exact x2

theorem execHmsg_keeps (t : Fin 64) (rep : PailRep) (s : State) :
    KeepsR mask492 s (execHmsg t rep s) := by
  unfold execHmsg
  refine KeepsR.next ?_
  refine State.offers_keeps rfl ?_ ?_
  · exact Keeps.refl _ _
  · intro x1
    intro x2
    refine Keeps.step (State.hmsg_keeps ..) rfl ?_
    exact x2

theorem execXsigDeliver_keeps (t : Fin 64) (s : State) :
    KeepsR mask493 s (execXsigDeliver t s) := by
  unfold execXsigDeliver
  refine KeepsR.next ?_
  refine State.acts_keeps rfl ?_ ?_
  · exact Keeps.refl _ _
  · intro x1
    intro x2
    refine Keeps.step (State.powerSettle_keeps ..) rfl ?_
    refine Keeps.step (State.xsigDeliver_keeps ..) rfl ?_
    exact x2

theorem execBarrierComplete_keeps (p : Fin 16) (b : Fin 16) (s : State) :
    KeepsR mask490 s (execBarrierComplete p b s) := by
  unfold execBarrierComplete
  refine KeepsR.next ?_
  refine State.offers_keeps rfl ?_ ?_
  · exact Keeps.refl _ _
  · intro x1
    intro x2
    refine Keeps.step (State.barComplete_keeps ..) rfl ?_
    exact x2

theorem execInstructionComplete_keeps (t : Fin 64) (i : Fin 32) (rep : PailRep) (s : State) :
    KeepsR mask495 s (execInstructionComplete t i rep s) := by
  unfold execInstructionComplete
  refine KeepsR.next ?_
  refine State.acts_keeps rfl ?_ ?_
  · exact Keeps.refl _ _
  · intro x1
    intro x2
    refine Keeps.step (State.powerSettle_keeps ..) rfl ?_
    refine Keeps.step (State.instrComplete_keeps ..) rfl ?_
    exact x2

theorem execShadowLoadDone_keeps (t : Fin 64) (rep : PailRep) (s : State) :
    KeepsR mask492 s (execShadowLoadDone t rep s) := by
  unfold execShadowLoadDone
  refine KeepsR.next ?_
  refine State.offers_keeps rfl ?_ ?_
  · exact Keeps.refl _ _
  · intro x1
    intro x2
    refine Keeps.step (State.shadowLoadDone_keeps ..) rfl ?_
    exact x2

theorem execRampDown_keeps (t : Fin 64) (s : State) :
    KeepsR 0x1000 s (execRampDown t s) := by
  unfold execRampDown
  refine KeepsR.next ?_
  refine State.runs_keeps rfl ?_ ?_
  · exact Keeps.refl _ _
  · intro x4
    intro x6
    refine Keeps.step (State.rampDown_keeps ..) rfl ?_
    exact x6

theorem execRampGrant_keeps (t : Fin 64) (s : State) :
    KeepsR mask113 s (execRampGrant t s) := by
  unfold execRampGrant
  refine KeepsR.next ?_
  refine State.runs_keeps rfl ?_ ?_
  · exact Keeps.refl _ _
  · intro x4
    intro x6
    refine Keeps.step (State.rampGrant_keeps ..) rfl ?_
    exact x6

theorem execRingFetch_keeps (p : Fin 16) (t : Fin 64) (s : State) :
    KeepsR mask496 s (execRingFetch p t s) := by
  unfold execRingFetch
  refine KeepsR.next ?_
  refine State.acts_keeps rfl ?_ ?_
  · exact Keeps.refl _ _
  · intro x1
    intro x2
    refine Keeps.step (State.powerSettle_keeps ..) rfl ?_
    refine Keeps.step (State.ringFetch_keeps ..) rfl ?_
    exact x2

theorem execRfence_keeps (p : Fin 16) (r : Fin 8) (s : State) :
    KeepsR mask496 s (execRfence p r s) := by
  unfold execRfence
  refine KeepsR.next ?_
  refine State.acts_keeps rfl ?_ ?_
  · exact Keeps.refl _ _
  · intro x1
    intro x2
    refine Keeps.step (State.powerSettle_keeps ..) rfl ?_
    refine Keeps.step (State.rfence_keeps ..) rfl ?_
    exact x2

theorem execPreemptionResume_keeps (t : Fin 64) (s : State) :
    KeepsR mask490 s (execPreemptionResume t s) := by
  unfold execPreemptionResume
  refine KeepsR.next ?_
  refine State.offers_keeps rfl ?_ ?_
  · exact Keeps.refl _ _
  · intro x1
    intro x2
    refine Keeps.step (State.resume_keeps ..) rfl ?_
    exact x2

theorem execTelemetryPeriod_keeps (p : Fin 16) (count : BitVec 64) (s : State) :
    KeepsR mask221 s (execTelemetryPeriod p count s) := by
  unfold execTelemetryPeriod
  refine KeepsR.next ?_
  refine State.runs_keeps rfl ?_ ?_
  · exact Keeps.refl _ _
  · intro x4
    intro x6
    refine Keeps.step (State.telemetry_keeps ..) rfl ?_
    exact x6

end Sys2Proof.Machine
end

