-- ==== Sys2Proof/Laws/KeepsIdle.lean ====
section
/-! SUPPORT. The frame of every function of Machine/Idle.lean: what it may change, and that it keeps the canonical forms and
the waiting commands. -/
namespace Sys2Proof.Machine

set_option Elab.async false

theorem State.stuffCount_keeps (s : State) (k : Nat) (n : Nat) (bad : Nat) :
    Keeps mask497 s (State.stuffCount s k n bad) := by
  unfold State.stuffCount
  refine Keeps.count rfl ?_
  exact Keeps.refl _ _

theorem State.rxData_keeps (s : State) (k : Nat) (n : Nat) (r : Taken) :
    Keeps mask498 s (State.rxData s k n r) := by
  unfold State.rxData
  extract_lets v1 v2 v3 v4
  have h5 : Keeps mask498 s v4 := by
    unfold v4
    refine Keeps.step (State.setLine_keeps ..) rfl ?_
    exact Keeps.refl _ _
  clear_value v4
  refine Keeps.ite (fun _ => ?_) (fun _ => ?_)
  · refine Keeps.putBitOf rfl ?_
    refine Keeps.count rfl ?_
    exact h5
  · exact h5

theorem State.rxMarker_keeps (s : State) (k : Nat) (n : Nat) (r : Taken) :
    Keeps mask168 s (State.rxMarker s k n r) := by
  unfold State.rxMarker
  extract_lets v1 v2 v3 v4 v5
  have h6 : Keeps mask168 s v4 := by
    unfold v4
    refine Keeps.step (State.setLine_keeps ..) rfl ?_
    exact Keeps.refl _ _
  clear_value v4
  have h7 : Keeps mask168 s v5 := by
    unfold v5
    refine Keeps.ite (fun _ => ?_) (fun _ => ?_)
    · refine Keeps.count rfl ?_
      exact h6
    · exact h6
  clear_value v5
  refine Keeps.ite (fun _ => ?_) (fun _ => ?_)
  · refine Keeps.step (State.alignLost_keeps ..) rfl ?_
    exact h7
  · exact h7

theorem State.rxBlock_keeps (s : State) (k : Nat) (n : Nat) (xs : List Bool) :
    Keeps mask499 s (State.rxBlock s k n xs).2 := by
  unfold State.rxBlock
  extract_lets v1 v2 v3 v4
  refine Keeps.iteSnd (fun _ => ?_) (fun _ => ?_)
  · dsimp only
    refine Keeps.step (State.stuffCount_keeps ..) rfl ?_
    refine Keeps.step (State.setLine_keeps ..) rfl ?_
    exact Keeps.refl _ _
  · refine Keeps.iteSnd (fun _ => ?_) (fun _ => ?_)
    · dsimp only
      refine Keeps.step (State.rxData_keeps ..) rfl ?_
      refine Keeps.step (State.stuffCount_keeps ..) rfl ?_
      exact Keeps.refl _ _
    · dsimp only
      refine Keeps.step (State.rxMarker_keeps ..) rfl ?_
      refine Keeps.step (State.stuffCount_keeps ..) rfl ?_
      exact Keeps.refl _ _

theorem State.rxLooped_keeps (s : State) (k : Nat) (n : Nat) (xs : List Bool) :
    Keeps mask499 s (State.rxLooped s k n xs) := by
  unfold State.rxLooped
  refine Keeps.ite (fun _ => ?_) (fun _ => ?_)
  · exact Keeps.refl _ _
  · extract_lets v1
    have h2 : Keeps mask499 s v1.2 := by
      unfold v1
      refine Keeps.step (State.rxBlock_keeps ..) rfl ?_
      exact Keeps.refl _ _
    clear_value v1
    refine Keeps.ite (fun _ => ?_) (fun _ => ?_)
    · exact h2
    · refine Keeps.step (State.rxBlock_keeps ..) rfl ?_
      exact h2

theorem State.rxTime_keeps (s : State) (k : Nat) :
    Keeps mask500 s (State.rxTime s k) := by
  unfold State.rxTime
  refine Keeps.ite (fun _ => ?_) (fun _ => ?_)
  · exact Keeps.refl _ _
  · refine Keeps.foldl _ ?_ (fun a1 b2 k3 => ?_)
    · exact Keeps.refl _ _
    · refine Keeps.ite (fun _ => ?_) (fun _ => ?_)
      · extract_lets v4
        have h5 : Keeps mask500 s v4.2 := by
          unfold v4
          refine Keeps.step (State.free_keeps ..) rfl ?_
          exact k3
        clear_value v4
        refine Keeps.step (State.rxBlock_keeps ..) rfl ?_
        exact h5
      · exact k3

theorem State.portTime_keeps (s : State) (k : Nat) :
    Keeps mask499 s (State.portTime s k) := by
  unfold State.portTime
  extract_lets v1
  have h2 : Keeps mask499 s v1 := by
    unfold v1
    refine Keeps.step (State.txTime_keeps ..) rfl ?_
    exact Keeps.refl _ _
  clear_value v1
  refine Keeps.ite (fun _ => ?_) (fun _ => ?_)
  · refine Keeps.foldl _ ?_ (fun a3 b4 k5 => ?_)
    · exact h2
    · extract_lets v6
      refine Keeps.ite (fun _ => ?_) (fun _ => ?_)
      · refine Keeps.step (State.rxLooped_keeps ..) rfl ?_
        exact k5
      · exact k5
  · exact h2

theorem State.dfeTime_keeps (s : State) (k : Nat) (n : Nat) :
    Keeps mask501 s (State.dfeTime s k n) := by
  unfold State.dfeTime
  refine Keeps.ite (fun _ => ?_) (fun _ => ?_)
  · refine Keeps.foldl _ ?_ (fun a1 b2 k3 => ?_)
    · exact Keeps.refl _ _
    · extract_lets v4 v5
      have h6 : Keeps mask501 s v4.2 := by
        unfold v4
        refine Keeps.step (State.free_keeps ..) rfl ?_
        exact k3
      clear_value v4
      refine Keeps.put (tapField_in rfl _) ?_
      exact h6
  · exact Keeps.refl _ _

theorem State.skewTime_keeps (s : State) (k : Nat) (n : Nat) (d : Nat) :
    Keeps mask167 s (State.skewTime s k n d) := by
  unfold State.skewTime
  refine Keeps.ite (fun _ => ?_) (fun _ => ?_)
  · extract_lets v1 v2
    have h3 : Keeps mask167 s v2 := by
      unfold v2
      refine Keeps.step (State.setLine_keeps ..) rfl ?_
      exact Keeps.refl _ _
    clear_value v2
    refine Keeps.ite (fun _ => ?_) (fun _ => ?_)
    · exact h3
    · refine Keeps.step (State.alignLost_keeps ..) rfl ?_
      exact h3
  · exact Keeps.refl _ _

theorem State.d2dTime_keeps (s : State) (k : Nat) :
    Keeps mask502 s (State.d2dTime s k) := by
  unfold State.d2dTime
  refine Keeps.ite (fun _ => ?_) (fun _ => ?_)
  · extract_lets v1 v2
    have h3 : Keeps mask502 s v1.2 := by
      unfold v1
      refine Keeps.step (State.free_keeps ..) rfl ?_
      exact Keeps.refl _ _
    clear_value v1
    have h4 : Keeps mask502 s v2.2 := by
      unfold v2
      refine Keeps.step (State.free_keeps ..) rfl ?_
      exact h3
    clear_value v2
    refine Keeps.ite (fun _ => ?_) (fun _ => ?_)
    · exact h4
    · refine Keeps.step (State.pyuEv_keeps ..) rfl ?_
      refine Keeps.count rfl ?_
      exact h4
  · exact Keeps.refl _ _

theorem State.errTime_keeps (s : State) (u : Nat) (kind : Nat) :
    Keeps 0x8000 s (State.errTime s u kind) := by
  unfold State.errTime
  refine Keeps.ite (fun _ => ?_) (fun _ => ?_)
  · exact Keeps.refl _ _
  · refine Keeps.step (State.vplant_keeps ..) rfl ?_
    exact Keeps.refl _ _

theorem State.trainTime_keeps (s : State) (n : Nat) :
    Keeps mask114 s (State.trainTime s n) := by
  unfold State.trainTime
  refine Keeps.ite (fun _ => ?_) (fun _ => ?_)
  · refine Keeps.ite (fun _ => ?_) (fun _ => ?_)
    · refine Keeps.step (State.coreEv_keeps ..) rfl ?_
      exact Keeps.refl _ _
    · exact Keeps.refl _ _
  · refine Keeps.ite (fun _ => ?_) (fun _ => ?_)
    · refine Keeps.step (State.pkmEv_keeps ..) rfl ?_
      exact Keeps.refl _ _
    · exact Keeps.refl _ _

theorem State.laneTime_keeps (s : State) (what : Nat) (k : Nat) (n : Nat) (d : Nat) :
    Keeps mask503 s (State.laneTime s what k n d) := by
  unfold State.laneTime
  refine Keeps.ite (fun _ => ?_) (fun _ => ?_)
  · refine Keeps.ite (fun _ => ?_) (fun _ => ?_)
    · exact Keeps.refl _ _
    · refine Keeps.step (State.rxTime_keeps ..) rfl ?_
      exact Keeps.refl _ _
  · refine Keeps.ite (fun _ => ?_) (fun _ => ?_)
    · refine Keeps.ite (fun _ => ?_) (fun _ => ?_)
      · refine Keeps.step (State.portTime_keeps ..) rfl ?_
        exact Keeps.refl _ _
      · refine Keeps.ite (fun _ => ?_) (fun _ => ?_)
        · refine Keeps.step (State.probeTime_keeps ..) rfl ?_
          exact Keeps.refl _ _
        · exact Keeps.refl _ _
    · refine Keeps.ite (fun _ => ?_) (fun _ => ?_)
      · refine Keeps.step (State.dfeTime_keeps ..) rfl ?_
        exact Keeps.refl _ _
      · refine Keeps.ite (fun _ => ?_) (fun _ => ?_)
        · refine Keeps.step (State.skewTime_keeps ..) rfl ?_
          exact Keeps.refl _ _
        · refine Keeps.ite (fun _ => ?_) (fun _ => ?_)
          · refine Keeps.step (State.d2dTime_keeps ..) rfl ?_
            exact Keeps.refl _ _
          · refine Keeps.ite (fun _ => ?_) (fun _ => ?_)
            · refine Keeps.step (State.errTime_keeps ..) rfl ?_
              exact Keeps.refl _ _
            · refine Keeps.ite (fun _ => ?_) (fun _ => ?_)
              · refine Keeps.step (State.trainTime_keeps ..) rfl ?_
                exact Keeps.refl _ _
              · refine Keeps.ite (fun _ => ?_) (fun _ => ?_)
                · refine Keeps.step (State.tryLight_keeps ..) rfl ?_
                  exact Keeps.refl _ _
                · exact Keeps.refl _ _

theorem State.idleStep_keeps (s : State) :
    Keeps mask504 s (State.idleStep s) := by
  unfold State.idleStep
  refine State.acts_keeps rfl ?_ ?_
  · exact Keeps.refl _ _
  · intro x1
    intro x2
    refine Keeps.ite (fun _ => ?_) (fun _ => ?_)
    · extract_lets v3 v4
      have h5 : Keeps mask504 s v3.2 := by
        unfold v3
        refine Keeps.step (State.free_keeps ..) rfl ?_
        exact x2
      clear_value v3
      have h6 : Keeps mask504 s v4.2 := by
        unfold v4
        refine Keeps.step (State.free_keeps ..) rfl ?_
        exact h5
      clear_value v4
      refine Keeps.step (State.laneTime_keeps ..) rfl ?_
      exact h6
    · exact x2

end Sys2Proof.Machine
end

