-- ==== Sys2Proof/Laws/KeepsAll.lean ====
section
/-! SUPPORT. The frame of a command: what `exec` may change, as a mask of Laws/Keeps, for every command, and of a step. -/
namespace Sys2Proof.Machine
set_option Elab.async false

/-- What a command may change. -/
def execMask : Instr → Nat
  | .auxPowerUp => 0xb5ffffff
  | .resetEnd => mask312
  | .auxDropInReset => 0xb5ffffff
  | .auxPowerFailWarning => mask456
  | .holdupEnd .. => 0xbfffffff
  | .inputsStageEnd .. => mask457
  | .recorderScanDone => mask458
  | .mainFeedLost .. => mask459
  | .mainOkRestored => mask265
  | .aonPdReqWrite .. => mask449
  | .domainReady .. => mask460
  | .domainOff .. => mask461
  | .coreRailDischarged => mask222
  | .tgIdleExpiry .. => mask462
  | .engIdleExpiry .. => mask463
  | .recorderIdleOff => 0x1
  | .herdGatedWake => mask314
  | .clkTgFreqWrite .. => mask449
  | .freqStepDone .. => mask260
  | .ck00Fail => mask464
  | .ck00Recover => 0x1
  | .ck08Fail => mask465
  | .ck09Fail => mask466
  | .ck10Overfreq => mask466
  | .tgClockOverfreq .. => mask467
  | .tgRailOvervoltage .. => mask467
  | .coreJunctionTrip .. => mask468
  | .thermalDiodeRead .. => mask469
  | .supJunctionTrip .. => mask470
  | .supJunctionRelease .. => mask275
  | .safetyInputDemand .. => mask473
  | .safetyInputClear .. => mask474
  | .inputShort .. => mask475
  | .inputCross .. => mask475
  | .inputDiscrepancy .. => mask473
  | .svcKeyChange .. => mask478
  | .wakeInChange .. => mask479
  | .lightChange .. => mask480
  | .lscPresChange .. => mask481
  | .fieldConnectorChange .. => mask482
  | .batteryHarnessChange .. => mask483
  | .copperCableChange .. => mask321
  | .nidStrapChange .. => 0x1
  | .fltWireSet .. => mask484
  | .fltWireClear .. => mask323
  | .qualSelftestDone .. => mask471
  | .qualRampDone .. => mask472
  | .tWidenExpiry .. => mask426
  | .decisionTick => mask446
  | .frameReceive .. => mask447
  | .hello .. => mask449
  | .caps .. => mask449
  | .regRead .. => mask449
  | .regWrite .. => mask449
  | .timeRead .. => mask449
  | .recordRead .. => mask449
  | .safetyCfgRead .. => mask449
  | .stewardClaim .. => mask449
  | .stewardRenew .. => mask449
  | .stewardRelease .. => mask449
  | .leaseExpiry => mask448
  | .wake .. => mask449
  | .sleepHint .. => mask449
  | .contactorCmd .. => mask449
  | .lswCmd .. => mask449
  | .loopSet .. => mask449
  | .powerShareSet .. => mask449
  | .limitsetLoad .. => mask449
  | .modelLoad .. => mask449
  | .safetyCfgLoad .. => mask449
  | .faultAck .. => mask449
  | .mgtPlcaWrite .. => mask449
  | .plcaFail => mask4
  | .mgtKeyCommit .. => mask449
  | .mgtKeyErase .. => mask449
  | .mirrorWrite .. => mask418
  | .rsLowRead .. => 0x2000020
  | .partitionOpen .. => mask418
  | .partitionReclaim .. => mask418
  | .ptTilesWrite .. => mask418
  | .pageOwnWrite .. => mask418
  | .pageClearDone .. => mask418
  | .tileZeroingDone .. => mask418
  | .ptPortsWrite .. => mask418
  | .sepPcAdmit .. => mask418
  | .sepStwProve .. => mask418
  | .rd .. => mask418
  | .wr .. => mask418
  | .fadd64 .. => mask418
  | .cas64 .. => mask418
  | .rdRsp .. => 0x100
  | .wrRsp .. => 0x100
  | .atomRsp .. => 0x100
  | .lnkEnWrite .. => mask418
  | .lnkRetrainWrite .. => mask418
  | .lnkLoopReqWrite .. => mask418
  | .flitReceive .. => mask419
  | .nakTimeout .. => 0x100
  | .replayTimeout .. => mask420
  | .init .. => mask421
  | .tInitExpiry .. => mask422
  | .widthReq .. => 0x20000100
  | .widthAck .. => 0x100
  | .widthSwitch .. => mask423
  | .remapReq .. => mask153
  | .remapRdy .. => 0x20000300
  | .remapSw .. => 0x100
  | .remapSwitch .. => mask424
  | .remapAbort .. => mask41
  | .loopReq .. => 0x100
  | .loopAck .. => mask425
  | .retrain .. => mask426
  | .tAcqExpiry .. => mask427
  | .tAlignExpiry .. => mask24
  | .tLmExpiry .. => mask428
  | .tRemapExpiry .. => mask41
  | .tRetryExpiry .. => mask24
  | .laneLos .. => mask429
  | .laneLosClear .. => mask430
  | .laneLock .. => mask431
  | .laneLockLoss .. => mask432
  | .fwdClockLockLoss .. => mask433
  | .markerAligned .. => mask434
  | .markerAlignmentLoss .. => mask435
  | .losBlankingEnd .. => mask24
  | .lnkTxeqWrite .. => mask418
  | .lnkSscWrite .. => mask418
  | .dfeReset .. => mask418
  | .dfeFreezeWrite .. => mask418
  | .dfeTapSaturated .. => mask160
  | .pyuReset .. => mask418
  | .engineResetDone .. => mask37
  | .lscReadyTimeout .. => mask436
  | .bankLock .. => mask437
  | .bankFault .. => mask438
  | .laserFailDeclare .. => mask439
  | .ringCalibrationDone .. => mask150
  | .spareRecalTimer .. => mask440
  | .rotationStart .. => mask41
  | .ringRangeEnd .. => mask441
  | .lambda16Los .. => mask442
  | .probeBurst .. => mask280
  | .probeBurstEnd .. => mask281
  | .lenDrop .. => mask443
  | .lscPoll .. => mask444
  | .lscWinWrite .. => mask418
  | .lscFrameDone .. => mask445
  | .nop .. => mask490
  | .ldv .. => mask491
  | .stv .. => mask491
  | .sld .. => mask492
  | .mpass .. => mask492
  | .rbset .. => mask490
  | .vop .. => mask490
  | .vred .. => mask490
  | .vcvt .. => mask490
  | .vtopk .. => mask490
  | .xsig .. => mask493
  | .xsigDeliver .. => mask493
  | .bar .. => mask490
  | .barrierComplete .. => mask490
  | .tclr .. => mask490
  | .loop .. => mask490
  | .rfence .. => mask496
  | .cpl .. => mask494
  | .hmsg .. => mask492
  | .instructionComplete .. => mask495
  | .shadowLoadDone .. => mask492
  | .rampDown .. => 0x1000
  | .rampGrant .. => mask113
  | .ringFetch .. => mask496
  | .preemptionResume .. => mask490
  | .sepRingEnWrite .. => mask418
  | .sepRingDb .. => mask418
  | .sepCqEnWrite .. => mask418
  | .sepCqConsWrite .. => mask418
  | .perfClear .. => mask418
  | .telemetryPeriod .. => mask221
  | .vatPcKeyWrite .. => mask418
  | .keyCommit .. => mask418
  | .scrubBurst .. => mask450
  | .forcedScrub .. => mask450
  | .governorUpdate .. => mask451
  | .assistLost => mask452
  | .overBudget => mask453
  | .idleTrip => mask454
  | .idleTripRelease => mask455
  | .milkRoundStart .. => mask384
  | .syncMeasure .. => 0x80000
  | .read .. => mask385
  | .data .. => mask386
  | .responseTimeout .. => mask387
  | .echoTimeout => mask388
  | .milkRoundComplete .. => mask389
  | .enum .. => mask385
  | .enumRsp .. => mask390
  | .setup .. => mask391
  | .resetMon .. => mask385
  | .sleep .. => mask385
  | .ping .. => mask392
  | .enumeration => mask67
  | .hrdEnumWrite .. => mask449
  | .hrdRunWrite .. => mask449
  | .monitorStandby .. => 0x80000
  | .monitorSleep .. => 0x80000
  | .monitorWake .. => 0x80000
  | .isoDwellEnd => mask394
  | .autoGainUp => 0x100000
  | .pkmCfgWrite .. => mask449
  | .syncSampleTimeout .. => mask49
  | .conditionConfirm .. => mask395
  | .brkWaitExpiry => mask396
  | .chargeOnlyOvercurrent => mask397
  | .sohReset .. => mask449
  | .socReinit .. => mask449
  | .estimationStateRecord => mask4
  | .auxContactChange .. => mask398
  | .testWindowExpiry => mask399
  | .prechargeTimeout => mask400
  | .coilPeakEnd .. => mask83
  | .coilShort .. => mask401
  | .coilOpen .. => mask401
  | .auxMismatch .. => mask402
  | .weldCheck .. => mask399
  | .doubleWeldCheck => mask403
  | .dropout => mask404
  | .coolDownEnd => mask99
  | .lswOvercurrentLatch .. => mask405
  | .lswThermalLatch .. => mask405
  | .blankingEnd .. => 0x800000
  | .openLoadSet .. => mask406
  | .openLoadClear .. => mask406
  | .vfldUndervoltage .. => mask407
  | .vfldRestore => mask178
  | .loopCompliance .. => mask408
  | .lisFoldback .. => mask409
  | .lisRetry .. => mask186
  | .touchKeyTouch .. => mask410
  | .touchKeyRelease .. => mask411
  | .touchKeyStuck .. => mask412
  | .stoOffPulse .. => mask476
  | .stoReset .. => mask449
  | .stoOnRequest .. => mask449
  | .stoEnergise .. => mask476
  | .crossLinkLoss => mask477
  | .channelFault => mask477
  | .configCrcCheck .. => mask477
  | .quietExpiry .. => mask485
  | .fltAckWrite .. => mask418
  | .shadowEnd .. => mask486
  | .pageProgramStart => mask487
  | .pageProgramDone .. => mask488
  | .sectorEraseDone .. => mask489
  | .timeStoreWrite => 0x20
  | .gcOverflow .. => mask9
  | .timGcLdhi .. => mask449
  | .timGcLdlo .. => mask449
  | .packSample .. => mask393
  | .ck08Recover => 0x1
  | .plcaStatusChange .. => mask349
  | .stoReadbackFault .. => mask476
  | .stoCurrentLimit .. => mask476
  | .balTimeExpiry .. => 0x80000
  | .loopMeasurement .. => mask183
  | .copperAcquireWait .. => mask23

/-- Everything that a command's next state can differ in. -/
theorem exec_keeps : ∀ (c : Instr) (s : State), KeepsR (execMask c) s (exec c s)
  | .auxPowerUp, s => execAuxPowerUp_keeps s
  | .resetEnd, s => execResetEnd_keeps s
  | .auxDropInReset, s => execAuxDropInReset_keeps s
  | .auxPowerFailWarning, s => execAuxPowerFailWarning_keeps s
  | .holdupEnd a0, s => execHoldupEnd_keeps a0 s
  | .inputsStageEnd a0, s => execInputsStageEnd_keeps a0 s
  | .recorderScanDone, s => execRecorderScanDone_keeps s
  | .mainFeedLost a0, s => execMainFeedLost_keeps a0 s
  | .mainOkRestored, s => execMainOkRestored_keeps s
  | .aonPdReqWrite a0 a1, s => execAonPdReqWrite_keeps a0 a1 s
  | .domainReady a0, s => execDomainReady_keeps a0 s
  | .domainOff a0, s => execDomainOff_keeps a0 s
  | .coreRailDischarged, s => execCoreRailDischarged_keeps s
  | .tgIdleExpiry a0, s => execTgIdleExpiry_keeps a0 s
  | .engIdleExpiry a0, s => execEngIdleExpiry_keeps a0 s
  | .recorderIdleOff, s => execRecorderIdleOff_keeps s
  | .herdGatedWake, s => execHerdGatedWake_keeps s
  | .clkTgFreqWrite a0 a1 a2, s => execClkTgFreqWrite_keeps a0 a1 a2 s
  | .freqStepDone a0, s => execFreqStepDone_keeps a0 s
  | .ck00Fail, s => execCk00Fail_keeps s
  | .ck00Recover, s => execCk00Recover_keeps s
  | .ck08Fail, s => execCk08Fail_keeps s
  | .ck09Fail, s => execCk09Fail_keeps s
  | .ck10Overfreq, s => execCk10Overfreq_keeps s
  | .tgClockOverfreq a0, s => execTgClockOverfreq_keeps a0 s
  | .tgRailOvervoltage a0, s => execTgRailOvervoltage_keeps a0 s
  | .coreJunctionTrip a0, s => execCoreJunctionTrip_keeps a0 s
  | .thermalDiodeRead a0 a1 a2 a3 a4, s => execThermalDiodeRead_keeps a0 a1 a2 a3 a4 s
  | .supJunctionTrip a0, s => execSupJunctionTrip_keeps a0 s
  | .supJunctionRelease a0, s => execSupJunctionRelease_keeps a0 s
  | .safetyInputDemand a0 a1, s => execSafetyInputDemand_keeps a0 a1 s
  | .safetyInputClear a0, s => execSafetyInputClear_keeps a0 s
  | .inputShort a0 a1, s => execInputShort_keeps a0 a1 s
  | .inputCross a0 a1, s => execInputCross_keeps a0 a1 s
  | .inputDiscrepancy a0, s => execInputDiscrepancy_keeps a0 s
  | .svcKeyChange a0, s => execSvcKeyChange_keeps a0 s
  | .wakeInChange a0, s => execWakeInChange_keeps a0 s
  | .lightChange a0 a1, s => execLightChange_keeps a0 a1 s
  | .lscPresChange a0, s => execLscPresChange_keeps a0 s
  | .fieldConnectorChange a0, s => execFieldConnectorChange_keeps a0 s
  | .batteryHarnessChange a0 a1, s => execBatteryHarnessChange_keeps a0 a1 s
  | .copperCableChange a0 a1, s => execCopperCableChange_keeps a0 a1 s
  | .nidStrapChange a0, s => execNidStrapChange_keeps a0 s
  | .fltWireSet a0, s => execFltWireSet_keeps a0 s
  | .fltWireClear a0, s => execFltWireClear_keeps a0 s
  | .qualSelftestDone a0 a1 a2, s => execQualSelftestDone_keeps a0 a1 a2 s
  | .qualRampDone a0 a1, s => execQualRampDone_keeps a0 a1 s
  | .tWidenExpiry a0, s => execTWidenExpiry_keeps a0 s
  | .decisionTick, s => execDecisionTick_keeps s
  | .frameReceive a0 a1 a2 a3 a4, s => execFrameReceive_keeps a0 a1 a2 a3 a4 s
  | .hello a0 a1 a2, s => execHello_keeps a0 a1 a2 s
  | .caps a0, s => execCaps_keeps a0 s
  | .regRead a0 a1 a2, s => execRegRead_keeps a0 a1 a2 s
  | .regWrite a0 a1 a2, s => execRegWrite_keeps a0 a1 a2 s
  | .timeRead a0, s => execTimeRead_keeps a0 s
  | .recordRead a0 a1 a2, s => execRecordRead_keeps a0 a1 a2 s
  | .safetyCfgRead a0, s => execSafetyCfgRead_keeps a0 s
  | .stewardClaim a0 a1, s => execStewardClaim_keeps a0 a1 s
  | .stewardRenew a0, s => execStewardRenew_keeps a0 s
  | .stewardRelease a0, s => execStewardRelease_keeps a0 s
  | .leaseExpiry, s => execLeaseExpiry_keeps s
  | .wake a0 a1, s => execWake_keeps a0 a1 s
  | .sleepHint a0 a1 a2 a3, s => execSleepHint_keeps a0 a1 a2 a3 s
  | .contactorCmd a0 a1 a2 a3, s => execContactorCmd_keeps a0 a1 a2 a3 s
  | .lswCmd a0 a1 a2 a3 a4 a5, s => execLswCmd_keeps a0 a1 a2 a3 a4 a5 s
  | .loopSet a0 a1 a2, s => execLoopSet_keeps a0 a1 a2 s
  | .powerShareSet a0 a1 a2, s => execPowerShareSet_keeps a0 a1 a2 s
  | .limitsetLoad a0 a1, s => execLimitsetLoad_keeps a0 a1 s
  | .modelLoad a0 a1, s => execModelLoad_keeps a0 a1 s
  | .safetyCfgLoad a0 a1, s => execSafetyCfgLoad_keeps a0 a1 s
  | .faultAck a0 a1 a2, s => execFaultAck_keeps a0 a1 a2 s
  | .mgtPlcaWrite a0 a1, s => execMgtPlcaWrite_keeps a0 a1 s
  | .plcaFail, s => execPlcaFail_keeps s
  | .mgtKeyCommit a0 a1 a2 a3, s => execMgtKeyCommit_keeps a0 a1 a2 a3 s
  | .mgtKeyErase a0 a1, s => execMgtKeyErase_keeps a0 a1 s
  | .mirrorWrite a0 a1, s => execMirrorWrite_keeps a0 a1 s
  | .rsLowRead a0 a1 a2, s => execRsLowRead_keeps a0 a1 a2 s
  | .partitionOpen a0 a1, s => execPartitionOpen_keeps a0 a1 s
  | .partitionReclaim a0 a1, s => execPartitionReclaim_keeps a0 a1 s
  | .ptTilesWrite a0 a1, s => execPtTilesWrite_keeps a0 a1 s
  | .pageOwnWrite a0 a1, s => execPageOwnWrite_keeps a0 a1 s
  | .pageClearDone a0, s => execPageClearDone_keeps a0 s
  | .tileZeroingDone a0, s => execTileZeroingDone_keeps a0 s
  | .ptPortsWrite a0 a1, s => execPtPortsWrite_keeps a0 a1 s
  | .sepPcAdmit a0, s => execSepPcAdmit_keeps a0 s
  | .sepStwProve a0, s => execSepStwProve_keeps a0 s
  | .rd a0 a1, s => execRd_keeps a0 a1 s
  | .wr a0 a1 a2 a3, s => execWr_keeps a0 a1 a2 a3 s
  | .fadd64 a0 a1, s => execFadd64_keeps a0 a1 s
  | .cas64 a0 a1 a2, s => execCas64_keeps a0 a1 a2 s
  | .rdRsp a0 a1, s => execRdRsp_keeps a0 a1 s
  | .wrRsp a0 a1, s => execWrRsp_keeps a0 a1 s
  | .atomRsp a0 a1, s => execAtomRsp_keeps a0 a1 s
  | .lnkEnWrite a0 a1, s => execLnkEnWrite_keeps a0 a1 s
  | .lnkRetrainWrite a0 a1, s => execLnkRetrainWrite_keeps a0 a1 s
  | .lnkLoopReqWrite a0 a1, s => execLnkLoopReqWrite_keeps a0 a1 s
  | .flitReceive a0 a1, s => execFlitReceive_keeps a0 a1 s
  | .nakTimeout a0, s => execNakTimeout_keeps a0 s
  | .replayTimeout a0, s => execReplayTimeout_keeps a0 s
  | .init a0 a1, s => execInit_keeps a0 a1 s
  | .tInitExpiry a0, s => execTInitExpiry_keeps a0 s
  | .widthReq a0 a1 a2 a3, s => execWidthReq_keeps a0 a1 a2 a3 s
  | .widthAck a0 a1 a2 a3, s => execWidthAck_keeps a0 a1 a2 a3 s
  | .widthSwitch a0 a1, s => execWidthSwitch_keeps a0 a1 s
  | .remapReq a0 a1 a2 a3 a4 a5, s => execRemapReq_keeps a0 a1 a2 a3 a4 a5 s
  | .remapRdy a0 a1 a2 a3 a4, s => execRemapRdy_keeps a0 a1 a2 a3 a4 s
  | .remapSw a0 a1 a2 a3 a4, s => execRemapSw_keeps a0 a1 a2 a3 a4 s
  | .remapSwitch a0 a1, s => execRemapSwitch_keeps a0 a1 s
  | .remapAbort a0 a1 a2 a3, s => execRemapAbort_keeps a0 a1 a2 a3 s
  | .loopReq a0, s => execLoopReq_keeps a0 s
  | .loopAck a0 a1, s => execLoopAck_keeps a0 a1 s
  | .retrain a0 a1, s => execRetrain_keeps a0 a1 s
  | .tAcqExpiry a0, s => execTAcqExpiry_keeps a0 s
  | .tAlignExpiry a0, s => execTAlignExpiry_keeps a0 s
  | .tLmExpiry a0 a1, s => execTLmExpiry_keeps a0 a1 s
  | .tRemapExpiry a0 a1, s => execTRemapExpiry_keeps a0 a1 s
  | .tRetryExpiry a0, s => execTRetryExpiry_keeps a0 s
  | .laneLos a0 a1, s => execLaneLos_keeps a0 a1 s
  | .laneLosClear a0 a1, s => execLaneLosClear_keeps a0 a1 s
  | .laneLock a0 a1, s => execLaneLock_keeps a0 a1 s
  | .laneLockLoss a0 a1, s => execLaneLockLoss_keeps a0 a1 s
  | .fwdClockLockLoss a0, s => execFwdClockLockLoss_keeps a0 s
  | .markerAligned a0 a1, s => execMarkerAligned_keeps a0 a1 s
  | .markerAlignmentLoss a0 a1, s => execMarkerAlignmentLoss_keeps a0 a1 s
  | .losBlankingEnd a0 a1, s => execLosBlankingEnd_keeps a0 a1 s
  | .lnkTxeqWrite a0 a1, s => execLnkTxeqWrite_keeps a0 a1 s
  | .lnkSscWrite a0 a1, s => execLnkSscWrite_keeps a0 a1 s
  | .dfeReset a0 a1, s => execDfeReset_keeps a0 a1 s
  | .dfeFreezeWrite a0 a1, s => execDfeFreezeWrite_keeps a0 a1 s
  | .dfeTapSaturated a0 a1 a2, s => execDfeTapSaturated_keeps a0 a1 a2 s
  | .pyuReset a0 a1, s => execPyuReset_keeps a0 a1 s
  | .engineResetDone a0, s => execEngineResetDone_keeps a0 s
  | .lscReadyTimeout a0 a1, s => execLscReadyTimeout_keeps a0 a1 s
  | .bankLock a0 a1, s => execBankLock_keeps a0 a1 s
  | .bankFault a0, s => execBankFault_keeps a0 s
  | .laserFailDeclare a0 a1, s => execLaserFailDeclare_keeps a0 a1 s
  | .ringCalibrationDone a0 a1 a2, s => execRingCalibrationDone_keeps a0 a1 a2 s
  | .spareRecalTimer a0 a1 a2, s => execSpareRecalTimer_keeps a0 a1 a2 s
  | .rotationStart a0 a1 a2, s => execRotationStart_keeps a0 a1 a2 s
  | .ringRangeEnd a0 a1 a2, s => execRingRangeEnd_keeps a0 a1 a2 s
  | .lambda16Los a0, s => execLambda16Los_keeps a0 s
  | .probeBurst a0, s => execProbeBurst_keeps a0 s
  | .probeBurstEnd a0, s => execProbeBurstEnd_keeps a0 s
  | .lenDrop a0, s => execLenDrop_keeps a0 s
  | .lscPoll a0, s => execLscPoll_keeps a0 s
  | .lscWinWrite a0, s => execLscWinWrite_keeps a0 s
  | .lscFrameDone a0 a1, s => execLscFrameDone_keeps a0 a1 s
  | .nop a0, s => execNop_keeps a0 s
  | .ldv a0 a1 a2, s => execLdv_keeps a0 a1 a2 s
  | .stv a0 a1 a2, s => execStv_keeps a0 a1 a2 s
  | .sld a0, s => execSld_keeps a0 s
  | .mpass a0 a1, s => execMpass_keeps a0 a1 s
  | .rbset a0, s => execRbset_keeps a0 s
  | .vop a0 a1, s => execVop_keeps a0 a1 s
  | .vred a0 a1, s => execVred_keeps a0 a1 s
  | .vcvt a0 a1, s => execVcvt_keeps a0 a1 s
  | .vtopk a0 a1, s => execVtopk_keeps a0 a1 s
  | .xsig a0, s => execXsig_keeps a0 s
  | .xsigDeliver a0, s => execXsigDeliver_keeps a0 s
  | .bar a0, s => execBar_keeps a0 s
  | .barrierComplete a0 a1, s => execBarrierComplete_keeps a0 a1 s
  | .tclr a0, s => execTclr_keeps a0 s
  | .loop a0, s => execLoop_keeps a0 s
  | .rfence a0 a1, s => execRfence_keeps a0 a1 s
  | .cpl a0, s => execCpl_keeps a0 s
  | .hmsg a0 a1, s => execHmsg_keeps a0 a1 s
  | .instructionComplete a0 a1 a2, s => execInstructionComplete_keeps a0 a1 a2 s
  | .shadowLoadDone a0 a1, s => execShadowLoadDone_keeps a0 a1 s
  | .rampDown a0, s => execRampDown_keeps a0 s
  | .rampGrant a0, s => execRampGrant_keeps a0 s
  | .ringFetch a0 a1, s => execRingFetch_keeps a0 a1 s
  | .preemptionResume a0, s => execPreemptionResume_keeps a0 s
  | .sepRingEnWrite a0 a1, s => execSepRingEnWrite_keeps a0 a1 s
  | .sepRingDb a0 a1, s => execSepRingDb_keeps a0 a1 s
  | .sepCqEnWrite a0, s => execSepCqEnWrite_keeps a0 s
  | .sepCqConsWrite a0, s => execSepCqConsWrite_keeps a0 s
  | .perfClear a0, s => execPerfClear_keeps a0 s
  | .telemetryPeriod a0 a1, s => execTelemetryPeriod_keeps a0 a1 s
  | .vatPcKeyWrite a0 a1, s => execVatPcKeyWrite_keeps a0 a1 s
  | .keyCommit a0, s => execKeyCommit_keeps a0 s
  | .scrubBurst a0 a1 a2 a3 a4, s => execScrubBurst_keeps a0 a1 a2 a3 a4 s
  | .forcedScrub a0 a1 a2 a3 a4, s => execForcedScrub_keeps a0 a1 a2 a3 a4 s
  | .governorUpdate a0 a1 a2, s => execGovernorUpdate_keeps a0 a1 a2 s
  | .assistLost, s => execAssistLost_keeps s
  | .overBudget, s => execOverBudget_keeps s
  | .idleTrip, s => execIdleTrip_keeps s
  | .idleTripRelease, s => execIdleTripRelease_keeps s
  | .milkRoundStart a0 a1, s => execMilkRoundStart_keeps a0 a1 s
  | .syncMeasure a0 a1 a2 a3 a4, s => execSyncMeasure_keeps a0 a1 a2 a3 a4 s
  | .read a0 a1 a2, s => execRead_keeps a0 a1 a2 s
  | .data a0 a1, s => execData_keeps a0 a1 s
  | .responseTimeout a0, s => execResponseTimeout_keeps a0 s
  | .echoTimeout, s => execEchoTimeout_keeps s
  | .milkRoundComplete a0, s => execMilkRoundComplete_keeps a0 s
  | .enum a0 a1, s => execEnum_keeps a0 a1 s
  | .enumRsp a0 a1, s => execEnumRsp_keeps a0 a1 s
  | .setup a0 a1 a2 a3, s => execSetup_keeps a0 a1 a2 a3 s
  | .resetMon a0 a1, s => execResetMon_keeps a0 a1 s
  | .sleep a0 a1, s => execSleep_keeps a0 a1 s
  | .ping a0, s => execPing_keeps a0 s
  | .enumeration, s => execEnumeration_keeps s
  | .hrdEnumWrite a0 a1, s => execHrdEnumWrite_keeps a0 a1 s
  | .hrdRunWrite a0 a1, s => execHrdRunWrite_keeps a0 a1 s
  | .monitorStandby a0, s => execMonitorStandby_keeps a0 s
  | .monitorSleep a0, s => execMonitorSleep_keeps a0 s
  | .monitorWake a0 a1 a2 a3, s => execMonitorWake_keeps a0 a1 a2 a3 s
  | .isoDwellEnd, s => execIsoDwellEnd_keeps s
  | .autoGainUp, s => execAutoGainUp_keeps s
  | .pkmCfgWrite a0 a1 a2, s => execPkmCfgWrite_keeps a0 a1 a2 s
  | .syncSampleTimeout a0, s => execSyncSampleTimeout_keeps a0 s
  | .conditionConfirm a0, s => execConditionConfirm_keeps a0 s
  | .brkWaitExpiry, s => execBrkWaitExpiry_keeps s
  | .chargeOnlyOvercurrent, s => execChargeOnlyOvercurrent_keeps s
  | .sohReset a0, s => execSohReset_keeps a0 s
  | .socReinit a0, s => execSocReinit_keeps a0 s
  | .estimationStateRecord, s => execEstimationStateRecord_keeps s
  | .auxContactChange a0 a1, s => execAuxContactChange_keeps a0 a1 s
  | .testWindowExpiry, s => execTestWindowExpiry_keeps s
  | .prechargeTimeout, s => execPrechargeTimeout_keeps s
  | .coilPeakEnd a0, s => execCoilPeakEnd_keeps a0 s
  | .coilShort a0, s => execCoilShort_keeps a0 s
  | .coilOpen a0, s => execCoilOpen_keeps a0 s
  | .auxMismatch a0, s => execAuxMismatch_keeps a0 s
  | .weldCheck a0, s => execWeldCheck_keeps a0 s
  | .doubleWeldCheck, s => execDoubleWeldCheck_keeps s
  | .dropout, s => execDropout_keeps s
  | .coolDownEnd, s => execCoolDownEnd_keeps s
  | .lswOvercurrentLatch a0, s => execLswOvercurrentLatch_keeps a0 s
  | .lswThermalLatch a0, s => execLswThermalLatch_keeps a0 s
  | .blankingEnd a0, s => execBlankingEnd_keeps a0 s
  | .openLoadSet a0, s => execOpenLoadSet_keeps a0 s
  | .openLoadClear a0, s => execOpenLoadClear_keeps a0 s
  | .vfldUndervoltage a0, s => execVfldUndervoltage_keeps a0 s
  | .vfldRestore, s => execVfldRestore_keeps s
  | .loopCompliance a0, s => execLoopCompliance_keeps a0 s
  | .lisFoldback a0, s => execLisFoldback_keeps a0 s
  | .lisRetry a0 a1, s => execLisRetry_keeps a0 a1 s
  | .touchKeyTouch a0, s => execTouchKeyTouch_keeps a0 s
  | .touchKeyRelease a0, s => execTouchKeyRelease_keeps a0 s
  | .touchKeyStuck a0, s => execTouchKeyStuck_keeps a0 s
  | .stoOffPulse a0 a1 a2, s => execStoOffPulse_keeps a0 a1 a2 s
  | .stoReset a0 a1, s => execStoReset_keeps a0 a1 s
  | .stoOnRequest a0 a1, s => execStoOnRequest_keeps a0 a1 s
  | .stoEnergise a0 a1, s => execStoEnergise_keeps a0 a1 s
  | .crossLinkLoss, s => execCrossLinkLoss_keeps s
  | .channelFault, s => execChannelFault_keeps s
  | .configCrcCheck a0, s => execConfigCrcCheck_keeps a0 s
  | .quietExpiry a0 a1, s => execQuietExpiry_keeps a0 a1 s
  | .fltAckWrite a0 a1 a2, s => execFltAckWrite_keeps a0 a1 a2 s
  | .shadowEnd a0 a1 a2, s => execShadowEnd_keeps a0 a1 a2 s
  | .pageProgramStart, s => execPageProgramStart_keeps s
  | .pageProgramDone a0, s => execPageProgramDone_keeps a0 s
  | .sectorEraseDone a0, s => execSectorEraseDone_keeps a0 s
  | .timeStoreWrite, s => execTimeStoreWrite_keeps s
  | .gcOverflow a0, s => execGcOverflow_keeps a0 s
  | .timGcLdhi a0 a1 a2, s => execTimGcLdhi_keeps a0 a1 a2 s
  | .timGcLdlo a0 a1 a2, s => execTimGcLdlo_keeps a0 a1 a2 s
  | .packSample a0 a1 a2 a3 a4 a5 a6 a7, s => execPackSample_keeps a0 a1 a2 a3 a4 a5 a6 a7 s
  | .ck08Recover, s => execCk08Recover_keeps s
  | .plcaStatusChange a0, s => execPlcaStatusChange_keeps a0 s
  | .stoReadbackFault a0 a1, s => execStoReadbackFault_keeps a0 a1 s
  | .stoCurrentLimit a0, s => execStoCurrentLimit_keeps a0 s
  | .balTimeExpiry a0, s => execBalTimeExpiry_keeps a0 s
  | .loopMeasurement a0 a1 a2 a3 a4 a5 a6 a7, s => execLoopMeasurement_keeps a0 a1 a2 a3 a4 a5 a6 a7 s
  | .copperAcquireWait a0, s => execCopperAcquireWait_keeps a0 s

theorem exec_next {c : Instr} {s t : State} (h : exec c s = .next t) : Keeps (execMask c) s t := (exec_keeps c s).of t h

/-- What a step on an empty queue may change: the time of the lanes. -/
abbrev idleMask : Nat := mask504

/-- A step that goes on is the front command on the rest of the queue, or lets time pass on an empty queue. -/
theorem step_cases {s t : State} (h : step s = .next t) :
    (s.pending = [] ∧ t = s.idleStep) ∨ ∃ c rest, s.pending = c :: rest ∧ exec c (s.withPending rest) = .next t := by
  unfold step at h
  split at h
  · rename_i e; cases h; exact .inl ⟨e, rfl⟩
  · rename_i c rest e; exact .inr ⟨c, rest, e, h⟩

end Sys2Proof.Machine
end

