-- ==== Sys2Proof/Laws/Regs.lean ====
section
/-! SUPPORT. Laws of register fields: a field read after a field written (00 R7), and what a write of a field leaves. -/
namespace Sys2Proof.Machine

/-! ### The parts of the state that a write of a field leaves -/

@[simp] theorem State.put_pow (s : State) (f : RField) (v i j : Nat) : (s.put f v i j).pow = s.pow := rfl
@[simp] theorem State.put_qual (s : State) (f : RField) (v i j : Nat) : (s.put f v i j).qual = s.qual := rfl
@[simp] theorem State.put_flt (s : State) (f : RField) (v i j : Nat) : (s.put f v i j).flt = s.flt := rfl
@[simp] theorem State.put_shadows (s : State) (f : RField) (v i j : Nat) : (s.put f v i j).shadows = s.shadows := rfl
@[simp] theorem State.put_rcd (s : State) (f : RField) (v i j : Nat) : (s.put f v i j).rcd = s.rcd := rfl
@[simp] theorem State.put_tim (s : State) (f : RField) (v i j : Nat) : (s.put f v i j).tim = s.tim := rfl
@[simp] theorem State.put_mgt (s : State) (f : RField) (v i j : Nat) : (s.put f v i j).mgt = s.mgt := rfl
@[simp] theorem State.put_lease (s : State) (f : RField) (v i j : Nat) : (s.put f v i j).lease = s.lease := rfl
@[simp] theorem State.put_ports (s : State) (f : RField) (v i j : Nat) : (s.put f v i j).ports = s.ports := rfl
@[simp] theorem State.put_rings (s : State) (f : RField) (v i j : Nat) : (s.put f v i j).rings = s.rings := rfl
@[simp] theorem State.put_engs (s : State) (f : RField) (v i j : Nat) : (s.put f v i j).engs = s.engs := rfl
@[simp] theorem State.put_lsc (s : State) (f : RField) (v i j : Nat) : (s.put f v i j).lsc = s.lsc := rfl
@[simp] theorem State.put_tiles (s : State) (f : RField) (v i j : Nat) : (s.put f v i j).tiles = s.tiles := rfl
@[simp] theorem State.put_parts (s : State) (f : RField) (v i j : Nat) : (s.put f v i j).parts = s.parts := rfl
@[simp] theorem State.put_pages (s : State) (f : RField) (v i j : Nat) : (s.put f v i j).pages = s.pages := rfl
@[simp] theorem State.put_vmem (s : State) (f : RField) (v i j : Nat) : (s.put f v i j).vmem = s.vmem := rfl
@[simp] theorem State.put_idle (s : State) (f : RField) (v i j : Nat) : (s.put f v i j).idle = s.idle := rfl
@[simp] theorem State.put_rot (s : State) (f : RField) (v i j : Nat) : (s.put f v i j).rot = s.rot := rfl
@[simp] theorem State.put_gov (s : State) (f : RField) (v i j : Nat) : (s.put f v i j).gov = s.gov := rfl
@[simp] theorem State.put_herd (s : State) (f : RField) (v i j : Nat) : (s.put f v i j).herd = s.herd := rfl
@[simp] theorem State.put_pack (s : State) (f : RField) (v i j : Nat) : (s.put f v i j).pack = s.pack := rfl
@[simp] theorem State.put_est (s : State) (f : RField) (v i j : Nat) : (s.put f v i j).est = s.est := rfl
@[simp] theorem State.put_ctr (s : State) (f : RField) (v i j : Nat) : (s.put f v i j).ctr = s.ctr := rfl
@[simp] theorem State.put_field (s : State) (f : RField) (v i j : Nat) : (s.put f v i j).field = s.field := rfl
@[simp] theorem State.put_rnd (s : State) (f : RField) (v i j : Nat) : (s.put f v i j).rnd = s.rnd := rfl
@[simp] theorem State.put_freeIx (s : State) (f : RField) (v i j : Nat) : (s.put f v i j).freeIx = s.freeIx := rfl
@[simp] theorem State.put_pending (s : State) (f : RField) (v i j : Nat) : (s.put f v i j).pending = s.pending := rfl

/-! ### The field just written, and every other -/

/-- The field just written shows the low bits of the value. -/
theorem State.fld_put_same (s : State) (f : RField) (v i j : Nat) : (s.put f v i j).fld f i j = v % 2 ^ f.width :=
  Tab.get_set_same _ _ _ _

/-- Another field, or another instance, shows what it showed. -/
theorem State.fld_put_ne (s : State) {f g : RField} (v : Nat) {i j i' j' : Nat} (h : g.key i' j' ≠ f.key i j) :
    (s.put f v i j).fld g i' j' = s.fld g i' j' := Tab.get_set_ne h _ _ _ _

/-- A field of another name. -/
theorem State.fld_put_id (s : State) {f g : RField} (v i j i' j' : Nat) (h : g.id ≠ f.id) :
    (s.put f v i j).fld g i' j' = s.fld g i' j' :=
  State.fld_put_ne s v fun e => h (congrArg Key.a e)

/-- Another instance of the field. -/
theorem State.fld_put_ix (s : State) (f : RField) (v j : Nat) {i i' : Nat} (h : i' ≠ i) (j' : Nat) :
    (s.put f v i j).fld f i' j' = s.fld f i' j' :=
  State.fld_put_ne s v fun e => h (congrArg Key.b e)

/-- A value that fits is what the field then shows. -/
theorem State.fld_put (s : State) (f : RField) {v : Nat} (h : v < 2 ^ f.width) (i j : Nat) :
    (s.put f v i j).fld f i j = v := by rw [State.fld_put_same, Nat.mod_eq_of_lt h]

theorem State.flag_putFlag (s : State) (f : RField) (v : Bool) (i j : Nat) (h : f.width ≠ 0) :
    (s.putFlag f v i j).flag f i j = v := by
  have g : b2n v < 2 ^ f.width := by
    have := Nat.pow_le_pow_right (n := 2) (by omega) (Nat.one_le_iff_ne_zero.mpr h)
    cases v <;> simp [b2n] <;> omega
  unfold State.flag State.putFlag
  rw [State.fld_put s f g]
  cases v <;> rfl

theorem State.flag_put (s : State) (f : RField) {v : Nat} (h : v < 2 ^ f.width) (i j : Nat) :
    (s.put f v i j).flag f i j = (v == 1) := by unfold State.flag; rw [State.fld_put s f h]

theorem State.flag_put_id (s : State) {f g : RField} (v i j i' j' : Nat) (h : g.id ≠ f.id) :
    (s.put f v i j).flag g i' j' = s.flag g i' j' := by unfold State.flag; rw [State.fld_put_id s v i j i' j' h]

theorem State.bit_put_id (s : State) {f g : RField} (v n i j i' j' : Nat) (h : g.id ≠ f.id) :
    (s.put f v i j).bit g n i' j' = s.bit g n i' j' := by unfold State.bit; rw [State.fld_put_id s v i j i' j' h]

theorem State.putFlag_eq (s : State) (f : RField) (v : Bool) (i j : Nat) : s.putFlag f v i j = s.put f (b2n v) i j := rfl

theorem State.putBitOf_eq (s : State) (f : RField) (n : Nat) (v : Bool) (i j : Nat) :
    s.putBitOf f n v i j = s.put f (putBit (s.fld f i j) n v) i j := rfl

theorem State.count_eq (s : State) (f : RField) (n i j : Nat) : s.count f n i j = s.put f (addSat f.width (s.fld f i j) n) i j :=
  rfl

/-- Bits of a mask after one of them is set. -/
theorem State.bit_putBitOf (s : State) (f : RField) (n m : Nat) (v : Bool) (i j : Nat) (h : m < f.width) :
    (s.putBitOf f n v i j).bit f m i j = if m = n then v else s.bit f m i j := by
  unfold State.bit State.putBitOf
  rw [State.fld_put_same, hasBit_low h (Nat.mod_mod _ _), hasBit_putBit]

/-- A count that saturates. -/
theorem State.fld_count (s : State) (f : RField) (n i j : Nat) : (s.count f n i j).fld f i j = addSat f.width (s.fld f i j) n := by
  refine State.fld_put s f ?_ i j
  have : 0 < 2 ^ f.width := Nat.two_pow_pos _
  unfold addSat; split <;> omega

/-- A field set back reads its reset value. -/
theorem State.fld_clr (s : State) (f : RField) (i j : Nat) (h : f.resetAt i < 2 ^ f.width) : (s.clr f i j).fld f i j = f.resetAt i :=
  State.fld_put s f h i j

end Sys2Proof.Machine
end

