-- ==== Sys2Proof/Laws/State.lean ====
section
/-! SUPPORT. Laws of the state: for each update, one lemma for every part it leaves, and what it leaves at its index and at
every other, so that no proof unfolds the update of a record. -/
namespace Sys2Proof.Machine

theorem Key.ne_of {k k' : Nat} (h : k' ≠ k) : (⟨k', 0, 0⟩ : Key) ≠ ⟨k, 0, 0⟩ := fun e => h (congrArg Key.a e)

/-! ### withPending -/

@[simp] theorem State.withPending_regs (s : State) (q : List Instr) : (s.withPending q).regs = s.regs := rfl
@[simp] theorem State.withPending_pow (s : State) (q : List Instr) : (s.withPending q).pow = s.pow := rfl
@[simp] theorem State.withPending_qual (s : State) (q : List Instr) : (s.withPending q).qual = s.qual := rfl
@[simp] theorem State.withPending_flt (s : State) (q : List Instr) : (s.withPending q).flt = s.flt := rfl
@[simp] theorem State.withPending_shadows (s : State) (q : List Instr) : (s.withPending q).shadows = s.shadows := rfl
@[simp] theorem State.withPending_rcd (s : State) (q : List Instr) : (s.withPending q).rcd = s.rcd := rfl
@[simp] theorem State.withPending_tim (s : State) (q : List Instr) : (s.withPending q).tim = s.tim := rfl
@[simp] theorem State.withPending_mgt (s : State) (q : List Instr) : (s.withPending q).mgt = s.mgt := rfl
@[simp] theorem State.withPending_lease (s : State) (q : List Instr) : (s.withPending q).lease = s.lease := rfl
@[simp] theorem State.withPending_ports (s : State) (q : List Instr) : (s.withPending q).ports = s.ports := rfl
@[simp] theorem State.withPending_rings (s : State) (q : List Instr) : (s.withPending q).rings = s.rings := rfl
@[simp] theorem State.withPending_engs (s : State) (q : List Instr) : (s.withPending q).engs = s.engs := rfl
@[simp] theorem State.withPending_lsc (s : State) (q : List Instr) : (s.withPending q).lsc = s.lsc := rfl
@[simp] theorem State.withPending_tiles (s : State) (q : List Instr) : (s.withPending q).tiles = s.tiles := rfl
@[simp] theorem State.withPending_parts (s : State) (q : List Instr) : (s.withPending q).parts = s.parts := rfl
@[simp] theorem State.withPending_pages (s : State) (q : List Instr) : (s.withPending q).pages = s.pages := rfl
@[simp] theorem State.withPending_vmem (s : State) (q : List Instr) : (s.withPending q).vmem = s.vmem := rfl
@[simp] theorem State.withPending_idle (s : State) (q : List Instr) : (s.withPending q).idle = s.idle := rfl
@[simp] theorem State.withPending_rot (s : State) (q : List Instr) : (s.withPending q).rot = s.rot := rfl
@[simp] theorem State.withPending_gov (s : State) (q : List Instr) : (s.withPending q).gov = s.gov := rfl
@[simp] theorem State.withPending_herd (s : State) (q : List Instr) : (s.withPending q).herd = s.herd := rfl
@[simp] theorem State.withPending_pack (s : State) (q : List Instr) : (s.withPending q).pack = s.pack := rfl
@[simp] theorem State.withPending_est (s : State) (q : List Instr) : (s.withPending q).est = s.est := rfl
@[simp] theorem State.withPending_ctr (s : State) (q : List Instr) : (s.withPending q).ctr = s.ctr := rfl
@[simp] theorem State.withPending_field (s : State) (q : List Instr) : (s.withPending q).field = s.field := rfl
@[simp] theorem State.withPending_rnd (s : State) (q : List Instr) : (s.withPending q).rnd = s.rnd := rfl
@[simp] theorem State.withPending_freeIx (s : State) (q : List Instr) : (s.withPending q).freeIx = s.freeIx := rfl
@[simp] theorem State.withPending_lines (s : State) (q : List Instr) : (s.withPending q).lines = s.lines := rfl
@[simp] theorem State.withPending_fused (s : State) (q : List Instr) : (s.withPending q).fused = s.fused := rfl
@[simp] theorem State.withPending_fld (s : State) (q : List Instr) (f : RField) (i j : Nat) :
    (s.withPending q).fld f i j = s.fld f i j := rfl

/-! ### setPort -/

@[simp] theorem State.setPort_regs (s : State) (k : Nat) (x : Port) : (s.setPort k x).regs = s.regs := rfl
@[simp] theorem State.setPort_pow (s : State) (k : Nat) (x : Port) : (s.setPort k x).pow = s.pow := rfl
@[simp] theorem State.setPort_qual (s : State) (k : Nat) (x : Port) : (s.setPort k x).qual = s.qual := rfl
@[simp] theorem State.setPort_flt (s : State) (k : Nat) (x : Port) : (s.setPort k x).flt = s.flt := rfl
@[simp] theorem State.setPort_shadows (s : State) (k : Nat) (x : Port) : (s.setPort k x).shadows = s.shadows := rfl
@[simp] theorem State.setPort_rcd (s : State) (k : Nat) (x : Port) : (s.setPort k x).rcd = s.rcd := rfl
@[simp] theorem State.setPort_tim (s : State) (k : Nat) (x : Port) : (s.setPort k x).tim = s.tim := rfl
@[simp] theorem State.setPort_mgt (s : State) (k : Nat) (x : Port) : (s.setPort k x).mgt = s.mgt := rfl
@[simp] theorem State.setPort_lease (s : State) (k : Nat) (x : Port) : (s.setPort k x).lease = s.lease := rfl
@[simp] theorem State.setPort_rings (s : State) (k : Nat) (x : Port) : (s.setPort k x).rings = s.rings := rfl
@[simp] theorem State.setPort_engs (s : State) (k : Nat) (x : Port) : (s.setPort k x).engs = s.engs := rfl
@[simp] theorem State.setPort_lsc (s : State) (k : Nat) (x : Port) : (s.setPort k x).lsc = s.lsc := rfl
@[simp] theorem State.setPort_tiles (s : State) (k : Nat) (x : Port) : (s.setPort k x).tiles = s.tiles := rfl
@[simp] theorem State.setPort_parts (s : State) (k : Nat) (x : Port) : (s.setPort k x).parts = s.parts := rfl
@[simp] theorem State.setPort_pages (s : State) (k : Nat) (x : Port) : (s.setPort k x).pages = s.pages := rfl
@[simp] theorem State.setPort_vmem (s : State) (k : Nat) (x : Port) : (s.setPort k x).vmem = s.vmem := rfl
@[simp] theorem State.setPort_idle (s : State) (k : Nat) (x : Port) : (s.setPort k x).idle = s.idle := rfl
@[simp] theorem State.setPort_rot (s : State) (k : Nat) (x : Port) : (s.setPort k x).rot = s.rot := rfl
@[simp] theorem State.setPort_gov (s : State) (k : Nat) (x : Port) : (s.setPort k x).gov = s.gov := rfl
@[simp] theorem State.setPort_herd (s : State) (k : Nat) (x : Port) : (s.setPort k x).herd = s.herd := rfl
@[simp] theorem State.setPort_pack (s : State) (k : Nat) (x : Port) : (s.setPort k x).pack = s.pack := rfl
@[simp] theorem State.setPort_est (s : State) (k : Nat) (x : Port) : (s.setPort k x).est = s.est := rfl
@[simp] theorem State.setPort_ctr (s : State) (k : Nat) (x : Port) : (s.setPort k x).ctr = s.ctr := rfl
@[simp] theorem State.setPort_field (s : State) (k : Nat) (x : Port) : (s.setPort k x).field = s.field := rfl
@[simp] theorem State.setPort_rnd (s : State) (k : Nat) (x : Port) : (s.setPort k x).rnd = s.rnd := rfl
@[simp] theorem State.setPort_freeIx (s : State) (k : Nat) (x : Port) : (s.setPort k x).freeIx = s.freeIx := rfl
@[simp] theorem State.setPort_lines (s : State) (k : Nat) (x : Port) : (s.setPort k x).lines = s.lines := rfl
@[simp] theorem State.setPort_fused (s : State) (k : Nat) (x : Port) : (s.setPort k x).fused = s.fused := rfl
@[simp] theorem State.setPort_pending (s : State) (k : Nat) (x : Port) : (s.setPort k x).pending = s.pending := rfl
@[simp] theorem State.setPort_fld (s : State) (k : Nat) (x : Port) (f : RField) (i j : Nat) :
    (s.setPort k x).fld f i j = s.fld f i j := rfl
/-- What was set is there. -/
@[simp] theorem State.setPort_port (s : State) (k : Nat) (x : Port) : (s.setPort k x).port k = x := Tab.get_set_same _ _ _ _
/-- Every other index is as it was. -/
theorem State.setPort_port_ne (s : State) (k : Nat) (x : Port) {k' : Nat} (h : k' ≠ k) :
    (s.setPort k x).port k' = s.port k' := Tab.get_set_ne (Key.ne_of h) _ _ _ _

/-! ### setTile -/

@[simp] theorem State.setTile_regs (s : State) (k : Nat) (x : Tile) : (s.setTile k x).regs = s.regs := rfl
@[simp] theorem State.setTile_pow (s : State) (k : Nat) (x : Tile) : (s.setTile k x).pow = s.pow := rfl
@[simp] theorem State.setTile_qual (s : State) (k : Nat) (x : Tile) : (s.setTile k x).qual = s.qual := rfl
@[simp] theorem State.setTile_flt (s : State) (k : Nat) (x : Tile) : (s.setTile k x).flt = s.flt := rfl
@[simp] theorem State.setTile_shadows (s : State) (k : Nat) (x : Tile) : (s.setTile k x).shadows = s.shadows := rfl
@[simp] theorem State.setTile_rcd (s : State) (k : Nat) (x : Tile) : (s.setTile k x).rcd = s.rcd := rfl
@[simp] theorem State.setTile_tim (s : State) (k : Nat) (x : Tile) : (s.setTile k x).tim = s.tim := rfl
@[simp] theorem State.setTile_mgt (s : State) (k : Nat) (x : Tile) : (s.setTile k x).mgt = s.mgt := rfl
@[simp] theorem State.setTile_lease (s : State) (k : Nat) (x : Tile) : (s.setTile k x).lease = s.lease := rfl
@[simp] theorem State.setTile_ports (s : State) (k : Nat) (x : Tile) : (s.setTile k x).ports = s.ports := rfl
@[simp] theorem State.setTile_rings (s : State) (k : Nat) (x : Tile) : (s.setTile k x).rings = s.rings := rfl
@[simp] theorem State.setTile_engs (s : State) (k : Nat) (x : Tile) : (s.setTile k x).engs = s.engs := rfl
@[simp] theorem State.setTile_lsc (s : State) (k : Nat) (x : Tile) : (s.setTile k x).lsc = s.lsc := rfl
@[simp] theorem State.setTile_parts (s : State) (k : Nat) (x : Tile) : (s.setTile k x).parts = s.parts := rfl
@[simp] theorem State.setTile_pages (s : State) (k : Nat) (x : Tile) : (s.setTile k x).pages = s.pages := rfl
@[simp] theorem State.setTile_vmem (s : State) (k : Nat) (x : Tile) : (s.setTile k x).vmem = s.vmem := rfl
@[simp] theorem State.setTile_idle (s : State) (k : Nat) (x : Tile) : (s.setTile k x).idle = s.idle := rfl
@[simp] theorem State.setTile_rot (s : State) (k : Nat) (x : Tile) : (s.setTile k x).rot = s.rot := rfl
@[simp] theorem State.setTile_gov (s : State) (k : Nat) (x : Tile) : (s.setTile k x).gov = s.gov := rfl
@[simp] theorem State.setTile_herd (s : State) (k : Nat) (x : Tile) : (s.setTile k x).herd = s.herd := rfl
@[simp] theorem State.setTile_pack (s : State) (k : Nat) (x : Tile) : (s.setTile k x).pack = s.pack := rfl
@[simp] theorem State.setTile_est (s : State) (k : Nat) (x : Tile) : (s.setTile k x).est = s.est := rfl
@[simp] theorem State.setTile_ctr (s : State) (k : Nat) (x : Tile) : (s.setTile k x).ctr = s.ctr := rfl
@[simp] theorem State.setTile_field (s : State) (k : Nat) (x : Tile) : (s.setTile k x).field = s.field := rfl
@[simp] theorem State.setTile_rnd (s : State) (k : Nat) (x : Tile) : (s.setTile k x).rnd = s.rnd := rfl
@[simp] theorem State.setTile_freeIx (s : State) (k : Nat) (x : Tile) : (s.setTile k x).freeIx = s.freeIx := rfl
@[simp] theorem State.setTile_lines (s : State) (k : Nat) (x : Tile) : (s.setTile k x).lines = s.lines := rfl
@[simp] theorem State.setTile_fused (s : State) (k : Nat) (x : Tile) : (s.setTile k x).fused = s.fused := rfl
@[simp] theorem State.setTile_pending (s : State) (k : Nat) (x : Tile) : (s.setTile k x).pending = s.pending := rfl
@[simp] theorem State.setTile_fld (s : State) (k : Nat) (x : Tile) (f : RField) (i j : Nat) :
    (s.setTile k x).fld f i j = s.fld f i j := rfl
/-- What was set is there. -/
@[simp] theorem State.setTile_tile (s : State) (k : Nat) (x : Tile) : (s.setTile k x).tile k = x := Tab.get_set_same _ _ _ _
/-- Every other index is as it was. -/
theorem State.setTile_tile_ne (s : State) (k : Nat) (x : Tile) {k' : Nat} (h : k' ≠ k) :
    (s.setTile k x).tile k' = s.tile k' := Tab.get_set_ne (Key.ne_of h) _ _ _ _

/-! ### setPage -/

@[simp] theorem State.setPage_regs (s : State) (k : Nat) (x : PageEnt) : (s.setPage k x).regs = s.regs := rfl
@[simp] theorem State.setPage_pow (s : State) (k : Nat) (x : PageEnt) : (s.setPage k x).pow = s.pow := rfl
@[simp] theorem State.setPage_qual (s : State) (k : Nat) (x : PageEnt) : (s.setPage k x).qual = s.qual := rfl
@[simp] theorem State.setPage_flt (s : State) (k : Nat) (x : PageEnt) : (s.setPage k x).flt = s.flt := rfl
@[simp] theorem State.setPage_shadows (s : State) (k : Nat) (x : PageEnt) : (s.setPage k x).shadows = s.shadows := rfl
@[simp] theorem State.setPage_rcd (s : State) (k : Nat) (x : PageEnt) : (s.setPage k x).rcd = s.rcd := rfl
@[simp] theorem State.setPage_tim (s : State) (k : Nat) (x : PageEnt) : (s.setPage k x).tim = s.tim := rfl
@[simp] theorem State.setPage_mgt (s : State) (k : Nat) (x : PageEnt) : (s.setPage k x).mgt = s.mgt := rfl
@[simp] theorem State.setPage_lease (s : State) (k : Nat) (x : PageEnt) : (s.setPage k x).lease = s.lease := rfl
@[simp] theorem State.setPage_ports (s : State) (k : Nat) (x : PageEnt) : (s.setPage k x).ports = s.ports := rfl
@[simp] theorem State.setPage_rings (s : State) (k : Nat) (x : PageEnt) : (s.setPage k x).rings = s.rings := rfl
@[simp] theorem State.setPage_engs (s : State) (k : Nat) (x : PageEnt) : (s.setPage k x).engs = s.engs := rfl
@[simp] theorem State.setPage_lsc (s : State) (k : Nat) (x : PageEnt) : (s.setPage k x).lsc = s.lsc := rfl
@[simp] theorem State.setPage_tiles (s : State) (k : Nat) (x : PageEnt) : (s.setPage k x).tiles = s.tiles := rfl
@[simp] theorem State.setPage_parts (s : State) (k : Nat) (x : PageEnt) : (s.setPage k x).parts = s.parts := rfl
@[simp] theorem State.setPage_vmem (s : State) (k : Nat) (x : PageEnt) : (s.setPage k x).vmem = s.vmem := rfl
@[simp] theorem State.setPage_idle (s : State) (k : Nat) (x : PageEnt) : (s.setPage k x).idle = s.idle := rfl
@[simp] theorem State.setPage_rot (s : State) (k : Nat) (x : PageEnt) : (s.setPage k x).rot = s.rot := rfl
@[simp] theorem State.setPage_gov (s : State) (k : Nat) (x : PageEnt) : (s.setPage k x).gov = s.gov := rfl
@[simp] theorem State.setPage_herd (s : State) (k : Nat) (x : PageEnt) : (s.setPage k x).herd = s.herd := rfl
@[simp] theorem State.setPage_pack (s : State) (k : Nat) (x : PageEnt) : (s.setPage k x).pack = s.pack := rfl
@[simp] theorem State.setPage_est (s : State) (k : Nat) (x : PageEnt) : (s.setPage k x).est = s.est := rfl
@[simp] theorem State.setPage_ctr (s : State) (k : Nat) (x : PageEnt) : (s.setPage k x).ctr = s.ctr := rfl
@[simp] theorem State.setPage_field (s : State) (k : Nat) (x : PageEnt) : (s.setPage k x).field = s.field := rfl
@[simp] theorem State.setPage_rnd (s : State) (k : Nat) (x : PageEnt) : (s.setPage k x).rnd = s.rnd := rfl
@[simp] theorem State.setPage_freeIx (s : State) (k : Nat) (x : PageEnt) : (s.setPage k x).freeIx = s.freeIx := rfl
@[simp] theorem State.setPage_lines (s : State) (k : Nat) (x : PageEnt) : (s.setPage k x).lines = s.lines := rfl
@[simp] theorem State.setPage_fused (s : State) (k : Nat) (x : PageEnt) : (s.setPage k x).fused = s.fused := rfl
@[simp] theorem State.setPage_pending (s : State) (k : Nat) (x : PageEnt) : (s.setPage k x).pending = s.pending := rfl
@[simp] theorem State.setPage_fld (s : State) (k : Nat) (x : PageEnt) (f : RField) (i j : Nat) :
    (s.setPage k x).fld f i j = s.fld f i j := rfl
/-- What was set is there. -/
@[simp] theorem State.setPage_page (s : State) (k : Nat) (x : PageEnt) : (s.setPage k x).page k = x := Tab.get_set_same _ _ _ _
/-- Every other index is as it was. -/
theorem State.setPage_page_ne (s : State) (k : Nat) (x : PageEnt) {k' : Nat} (h : k' ≠ k) :
    (s.setPage k x).page k' = s.page k' := Tab.get_set_ne (Key.ne_of h) _ _ _ _

/-! ### setPart -/

@[simp] theorem State.setPart_regs (s : State) (k : Nat) (x : Part) : (s.setPart k x).regs = s.regs := rfl
@[simp] theorem State.setPart_pow (s : State) (k : Nat) (x : Part) : (s.setPart k x).pow = s.pow := rfl
@[simp] theorem State.setPart_qual (s : State) (k : Nat) (x : Part) : (s.setPart k x).qual = s.qual := rfl
@[simp] theorem State.setPart_flt (s : State) (k : Nat) (x : Part) : (s.setPart k x).flt = s.flt := rfl
@[simp] theorem State.setPart_shadows (s : State) (k : Nat) (x : Part) : (s.setPart k x).shadows = s.shadows := rfl
@[simp] theorem State.setPart_rcd (s : State) (k : Nat) (x : Part) : (s.setPart k x).rcd = s.rcd := rfl
@[simp] theorem State.setPart_tim (s : State) (k : Nat) (x : Part) : (s.setPart k x).tim = s.tim := rfl
@[simp] theorem State.setPart_mgt (s : State) (k : Nat) (x : Part) : (s.setPart k x).mgt = s.mgt := rfl
@[simp] theorem State.setPart_lease (s : State) (k : Nat) (x : Part) : (s.setPart k x).lease = s.lease := rfl
@[simp] theorem State.setPart_ports (s : State) (k : Nat) (x : Part) : (s.setPart k x).ports = s.ports := rfl
@[simp] theorem State.setPart_rings (s : State) (k : Nat) (x : Part) : (s.setPart k x).rings = s.rings := rfl
@[simp] theorem State.setPart_engs (s : State) (k : Nat) (x : Part) : (s.setPart k x).engs = s.engs := rfl
@[simp] theorem State.setPart_lsc (s : State) (k : Nat) (x : Part) : (s.setPart k x).lsc = s.lsc := rfl
@[simp] theorem State.setPart_tiles (s : State) (k : Nat) (x : Part) : (s.setPart k x).tiles = s.tiles := rfl
@[simp] theorem State.setPart_pages (s : State) (k : Nat) (x : Part) : (s.setPart k x).pages = s.pages := rfl
@[simp] theorem State.setPart_vmem (s : State) (k : Nat) (x : Part) : (s.setPart k x).vmem = s.vmem := rfl
@[simp] theorem State.setPart_idle (s : State) (k : Nat) (x : Part) : (s.setPart k x).idle = s.idle := rfl
@[simp] theorem State.setPart_rot (s : State) (k : Nat) (x : Part) : (s.setPart k x).rot = s.rot := rfl
@[simp] theorem State.setPart_gov (s : State) (k : Nat) (x : Part) : (s.setPart k x).gov = s.gov := rfl
@[simp] theorem State.setPart_herd (s : State) (k : Nat) (x : Part) : (s.setPart k x).herd = s.herd := rfl
@[simp] theorem State.setPart_pack (s : State) (k : Nat) (x : Part) : (s.setPart k x).pack = s.pack := rfl
@[simp] theorem State.setPart_est (s : State) (k : Nat) (x : Part) : (s.setPart k x).est = s.est := rfl
@[simp] theorem State.setPart_ctr (s : State) (k : Nat) (x : Part) : (s.setPart k x).ctr = s.ctr := rfl
@[simp] theorem State.setPart_field (s : State) (k : Nat) (x : Part) : (s.setPart k x).field = s.field := rfl
@[simp] theorem State.setPart_rnd (s : State) (k : Nat) (x : Part) : (s.setPart k x).rnd = s.rnd := rfl
@[simp] theorem State.setPart_freeIx (s : State) (k : Nat) (x : Part) : (s.setPart k x).freeIx = s.freeIx := rfl
@[simp] theorem State.setPart_lines (s : State) (k : Nat) (x : Part) : (s.setPart k x).lines = s.lines := rfl
@[simp] theorem State.setPart_fused (s : State) (k : Nat) (x : Part) : (s.setPart k x).fused = s.fused := rfl
@[simp] theorem State.setPart_pending (s : State) (k : Nat) (x : Part) : (s.setPart k x).pending = s.pending := rfl
@[simp] theorem State.setPart_fld (s : State) (k : Nat) (x : Part) (f : RField) (i j : Nat) :
    (s.setPart k x).fld f i j = s.fld f i j := rfl
/-- What was set is there. -/
@[simp] theorem State.setPart_part (s : State) (k : Nat) (x : Part) : (s.setPart k x).part k = x := Tab.get_set_same _ _ _ _
/-- Every other index is as it was. -/
theorem State.setPart_part_ne (s : State) (k : Nat) (x : Part) {k' : Nat} (h : k' ≠ k) :
    (s.setPart k x).part k' = s.part k' := Tab.get_set_ne (Key.ne_of h) _ _ _ _

/-! ### setEng -/

@[simp] theorem State.setEng_regs (s : State) (k : Nat) (x : Eng) : (s.setEng k x).regs = s.regs := rfl
@[simp] theorem State.setEng_pow (s : State) (k : Nat) (x : Eng) : (s.setEng k x).pow = s.pow := rfl
@[simp] theorem State.setEng_qual (s : State) (k : Nat) (x : Eng) : (s.setEng k x).qual = s.qual := rfl
@[simp] theorem State.setEng_flt (s : State) (k : Nat) (x : Eng) : (s.setEng k x).flt = s.flt := rfl
@[simp] theorem State.setEng_shadows (s : State) (k : Nat) (x : Eng) : (s.setEng k x).shadows = s.shadows := rfl
@[simp] theorem State.setEng_rcd (s : State) (k : Nat) (x : Eng) : (s.setEng k x).rcd = s.rcd := rfl
@[simp] theorem State.setEng_tim (s : State) (k : Nat) (x : Eng) : (s.setEng k x).tim = s.tim := rfl
@[simp] theorem State.setEng_mgt (s : State) (k : Nat) (x : Eng) : (s.setEng k x).mgt = s.mgt := rfl
@[simp] theorem State.setEng_lease (s : State) (k : Nat) (x : Eng) : (s.setEng k x).lease = s.lease := rfl
@[simp] theorem State.setEng_ports (s : State) (k : Nat) (x : Eng) : (s.setEng k x).ports = s.ports := rfl
@[simp] theorem State.setEng_rings (s : State) (k : Nat) (x : Eng) : (s.setEng k x).rings = s.rings := rfl
@[simp] theorem State.setEng_lsc (s : State) (k : Nat) (x : Eng) : (s.setEng k x).lsc = s.lsc := rfl
@[simp] theorem State.setEng_tiles (s : State) (k : Nat) (x : Eng) : (s.setEng k x).tiles = s.tiles := rfl
@[simp] theorem State.setEng_parts (s : State) (k : Nat) (x : Eng) : (s.setEng k x).parts = s.parts := rfl
@[simp] theorem State.setEng_pages (s : State) (k : Nat) (x : Eng) : (s.setEng k x).pages = s.pages := rfl
@[simp] theorem State.setEng_vmem (s : State) (k : Nat) (x : Eng) : (s.setEng k x).vmem = s.vmem := rfl
@[simp] theorem State.setEng_idle (s : State) (k : Nat) (x : Eng) : (s.setEng k x).idle = s.idle := rfl
@[simp] theorem State.setEng_rot (s : State) (k : Nat) (x : Eng) : (s.setEng k x).rot = s.rot := rfl
@[simp] theorem State.setEng_gov (s : State) (k : Nat) (x : Eng) : (s.setEng k x).gov = s.gov := rfl
@[simp] theorem State.setEng_herd (s : State) (k : Nat) (x : Eng) : (s.setEng k x).herd = s.herd := rfl
@[simp] theorem State.setEng_pack (s : State) (k : Nat) (x : Eng) : (s.setEng k x).pack = s.pack := rfl
@[simp] theorem State.setEng_est (s : State) (k : Nat) (x : Eng) : (s.setEng k x).est = s.est := rfl
@[simp] theorem State.setEng_ctr (s : State) (k : Nat) (x : Eng) : (s.setEng k x).ctr = s.ctr := rfl
@[simp] theorem State.setEng_field (s : State) (k : Nat) (x : Eng) : (s.setEng k x).field = s.field := rfl
@[simp] theorem State.setEng_rnd (s : State) (k : Nat) (x : Eng) : (s.setEng k x).rnd = s.rnd := rfl
@[simp] theorem State.setEng_freeIx (s : State) (k : Nat) (x : Eng) : (s.setEng k x).freeIx = s.freeIx := rfl
@[simp] theorem State.setEng_lines (s : State) (k : Nat) (x : Eng) : (s.setEng k x).lines = s.lines := rfl
@[simp] theorem State.setEng_fused (s : State) (k : Nat) (x : Eng) : (s.setEng k x).fused = s.fused := rfl
@[simp] theorem State.setEng_pending (s : State) (k : Nat) (x : Eng) : (s.setEng k x).pending = s.pending := rfl
@[simp] theorem State.setEng_fld (s : State) (k : Nat) (x : Eng) (f : RField) (i j : Nat) :
    (s.setEng k x).fld f i j = s.fld f i j := rfl
/-- What was set is there. -/
@[simp] theorem State.setEng_eng (s : State) (k : Nat) (x : Eng) : (s.setEng k x).eng k = x := Tab.get_set_same _ _ _ _
/-- Every other index is as it was. -/
theorem State.setEng_eng_ne (s : State) (k : Nat) (x : Eng) {k' : Nat} (h : k' ≠ k) :
    (s.setEng k x).eng k' = s.eng k' := Tab.get_set_ne (Key.ne_of h) _ _ _ _

/-! ### setHost -/

@[simp] theorem State.setHost_regs (s : State) (k : Nat) (x : HostSt) : (s.setHost k x).regs = s.regs := rfl
@[simp] theorem State.setHost_pow (s : State) (k : Nat) (x : HostSt) : (s.setHost k x).pow = s.pow := rfl
@[simp] theorem State.setHost_qual (s : State) (k : Nat) (x : HostSt) : (s.setHost k x).qual = s.qual := rfl
@[simp] theorem State.setHost_flt (s : State) (k : Nat) (x : HostSt) : (s.setHost k x).flt = s.flt := rfl
@[simp] theorem State.setHost_shadows (s : State) (k : Nat) (x : HostSt) : (s.setHost k x).shadows = s.shadows := rfl
@[simp] theorem State.setHost_rcd (s : State) (k : Nat) (x : HostSt) : (s.setHost k x).rcd = s.rcd := rfl
@[simp] theorem State.setHost_tim (s : State) (k : Nat) (x : HostSt) : (s.setHost k x).tim = s.tim := rfl
@[simp] theorem State.setHost_lease (s : State) (k : Nat) (x : HostSt) : (s.setHost k x).lease = s.lease := rfl
@[simp] theorem State.setHost_ports (s : State) (k : Nat) (x : HostSt) : (s.setHost k x).ports = s.ports := rfl
@[simp] theorem State.setHost_rings (s : State) (k : Nat) (x : HostSt) : (s.setHost k x).rings = s.rings := rfl
@[simp] theorem State.setHost_engs (s : State) (k : Nat) (x : HostSt) : (s.setHost k x).engs = s.engs := rfl
@[simp] theorem State.setHost_lsc (s : State) (k : Nat) (x : HostSt) : (s.setHost k x).lsc = s.lsc := rfl
@[simp] theorem State.setHost_tiles (s : State) (k : Nat) (x : HostSt) : (s.setHost k x).tiles = s.tiles := rfl
@[simp] theorem State.setHost_parts (s : State) (k : Nat) (x : HostSt) : (s.setHost k x).parts = s.parts := rfl
@[simp] theorem State.setHost_pages (s : State) (k : Nat) (x : HostSt) : (s.setHost k x).pages = s.pages := rfl
@[simp] theorem State.setHost_vmem (s : State) (k : Nat) (x : HostSt) : (s.setHost k x).vmem = s.vmem := rfl
@[simp] theorem State.setHost_idle (s : State) (k : Nat) (x : HostSt) : (s.setHost k x).idle = s.idle := rfl
@[simp] theorem State.setHost_rot (s : State) (k : Nat) (x : HostSt) : (s.setHost k x).rot = s.rot := rfl
@[simp] theorem State.setHost_gov (s : State) (k : Nat) (x : HostSt) : (s.setHost k x).gov = s.gov := rfl
@[simp] theorem State.setHost_herd (s : State) (k : Nat) (x : HostSt) : (s.setHost k x).herd = s.herd := rfl
@[simp] theorem State.setHost_pack (s : State) (k : Nat) (x : HostSt) : (s.setHost k x).pack = s.pack := rfl
@[simp] theorem State.setHost_est (s : State) (k : Nat) (x : HostSt) : (s.setHost k x).est = s.est := rfl
@[simp] theorem State.setHost_ctr (s : State) (k : Nat) (x : HostSt) : (s.setHost k x).ctr = s.ctr := rfl
@[simp] theorem State.setHost_field (s : State) (k : Nat) (x : HostSt) : (s.setHost k x).field = s.field := rfl
@[simp] theorem State.setHost_rnd (s : State) (k : Nat) (x : HostSt) : (s.setHost k x).rnd = s.rnd := rfl
@[simp] theorem State.setHost_freeIx (s : State) (k : Nat) (x : HostSt) : (s.setHost k x).freeIx = s.freeIx := rfl
@[simp] theorem State.setHost_lines (s : State) (k : Nat) (x : HostSt) : (s.setHost k x).lines = s.lines := rfl
@[simp] theorem State.setHost_fused (s : State) (k : Nat) (x : HostSt) : (s.setHost k x).fused = s.fused := rfl
@[simp] theorem State.setHost_pending (s : State) (k : Nat) (x : HostSt) : (s.setHost k x).pending = s.pending := rfl
@[simp] theorem State.setHost_fld (s : State) (k : Nat) (x : HostSt) (f : RField) (i j : Nat) :
    (s.setHost k x).fld f i j = s.fld f i j := rfl
/-- What was set is there. -/
@[simp] theorem State.setHost_host (s : State) (k : Nat) (x : HostSt) : (s.setHost k x).host k = x := Tab.get_set_same _ _ _ _
/-- Every other index is as it was. -/
theorem State.setHost_host_ne (s : State) (k : Nat) (x : HostSt) {k' : Nat} (h : k' ≠ k) :
    (s.setHost k x).host k' = s.host k' := Tab.get_set_ne (Key.ne_of h) _ _ _ _

/-! ### setMon -/

@[simp] theorem State.setMon_regs (s : State) (k : Nat) (x : Mon) : (s.setMon k x).regs = s.regs := rfl
@[simp] theorem State.setMon_pow (s : State) (k : Nat) (x : Mon) : (s.setMon k x).pow = s.pow := rfl
@[simp] theorem State.setMon_qual (s : State) (k : Nat) (x : Mon) : (s.setMon k x).qual = s.qual := rfl
@[simp] theorem State.setMon_flt (s : State) (k : Nat) (x : Mon) : (s.setMon k x).flt = s.flt := rfl
@[simp] theorem State.setMon_shadows (s : State) (k : Nat) (x : Mon) : (s.setMon k x).shadows = s.shadows := rfl
@[simp] theorem State.setMon_rcd (s : State) (k : Nat) (x : Mon) : (s.setMon k x).rcd = s.rcd := rfl
@[simp] theorem State.setMon_tim (s : State) (k : Nat) (x : Mon) : (s.setMon k x).tim = s.tim := rfl
@[simp] theorem State.setMon_mgt (s : State) (k : Nat) (x : Mon) : (s.setMon k x).mgt = s.mgt := rfl
@[simp] theorem State.setMon_lease (s : State) (k : Nat) (x : Mon) : (s.setMon k x).lease = s.lease := rfl
@[simp] theorem State.setMon_ports (s : State) (k : Nat) (x : Mon) : (s.setMon k x).ports = s.ports := rfl
@[simp] theorem State.setMon_rings (s : State) (k : Nat) (x : Mon) : (s.setMon k x).rings = s.rings := rfl
@[simp] theorem State.setMon_engs (s : State) (k : Nat) (x : Mon) : (s.setMon k x).engs = s.engs := rfl
@[simp] theorem State.setMon_lsc (s : State) (k : Nat) (x : Mon) : (s.setMon k x).lsc = s.lsc := rfl
@[simp] theorem State.setMon_tiles (s : State) (k : Nat) (x : Mon) : (s.setMon k x).tiles = s.tiles := rfl
@[simp] theorem State.setMon_parts (s : State) (k : Nat) (x : Mon) : (s.setMon k x).parts = s.parts := rfl
@[simp] theorem State.setMon_pages (s : State) (k : Nat) (x : Mon) : (s.setMon k x).pages = s.pages := rfl
@[simp] theorem State.setMon_vmem (s : State) (k : Nat) (x : Mon) : (s.setMon k x).vmem = s.vmem := rfl
@[simp] theorem State.setMon_idle (s : State) (k : Nat) (x : Mon) : (s.setMon k x).idle = s.idle := rfl
@[simp] theorem State.setMon_rot (s : State) (k : Nat) (x : Mon) : (s.setMon k x).rot = s.rot := rfl
@[simp] theorem State.setMon_gov (s : State) (k : Nat) (x : Mon) : (s.setMon k x).gov = s.gov := rfl
@[simp] theorem State.setMon_pack (s : State) (k : Nat) (x : Mon) : (s.setMon k x).pack = s.pack := rfl
@[simp] theorem State.setMon_est (s : State) (k : Nat) (x : Mon) : (s.setMon k x).est = s.est := rfl
@[simp] theorem State.setMon_ctr (s : State) (k : Nat) (x : Mon) : (s.setMon k x).ctr = s.ctr := rfl
@[simp] theorem State.setMon_field (s : State) (k : Nat) (x : Mon) : (s.setMon k x).field = s.field := rfl
@[simp] theorem State.setMon_rnd (s : State) (k : Nat) (x : Mon) : (s.setMon k x).rnd = s.rnd := rfl
@[simp] theorem State.setMon_freeIx (s : State) (k : Nat) (x : Mon) : (s.setMon k x).freeIx = s.freeIx := rfl
@[simp] theorem State.setMon_lines (s : State) (k : Nat) (x : Mon) : (s.setMon k x).lines = s.lines := rfl
@[simp] theorem State.setMon_fused (s : State) (k : Nat) (x : Mon) : (s.setMon k x).fused = s.fused := rfl
@[simp] theorem State.setMon_pending (s : State) (k : Nat) (x : Mon) : (s.setMon k x).pending = s.pending := rfl
@[simp] theorem State.setMon_fld (s : State) (k : Nat) (x : Mon) (f : RField) (i j : Nat) :
    (s.setMon k x).fld f i j = s.fld f i j := rfl
/-- What was set is there. -/
@[simp] theorem State.setMon_mon (s : State) (k : Nat) (x : Mon) : (s.setMon k x).mon k = x := Tab.get_set_same _ _ _ _
/-- Every other index is as it was. -/
theorem State.setMon_mon_ne (s : State) (k : Nat) (x : Mon) {k' : Nat} (h : k' ≠ k) :
    (s.setMon k x).mon k' = s.mon k' := Tab.get_set_ne (Key.ne_of h) _ _ _ _

/-! ### setDom -/

@[simp] theorem State.setDom_regs (s : State) (k : Nat) (x : PdSt) : (s.setDom k x).regs = s.regs := rfl
@[simp] theorem State.setDom_qual (s : State) (k : Nat) (x : PdSt) : (s.setDom k x).qual = s.qual := rfl
@[simp] theorem State.setDom_flt (s : State) (k : Nat) (x : PdSt) : (s.setDom k x).flt = s.flt := rfl
@[simp] theorem State.setDom_shadows (s : State) (k : Nat) (x : PdSt) : (s.setDom k x).shadows = s.shadows := rfl
@[simp] theorem State.setDom_rcd (s : State) (k : Nat) (x : PdSt) : (s.setDom k x).rcd = s.rcd := rfl
@[simp] theorem State.setDom_tim (s : State) (k : Nat) (x : PdSt) : (s.setDom k x).tim = s.tim := rfl
@[simp] theorem State.setDom_mgt (s : State) (k : Nat) (x : PdSt) : (s.setDom k x).mgt = s.mgt := rfl
@[simp] theorem State.setDom_lease (s : State) (k : Nat) (x : PdSt) : (s.setDom k x).lease = s.lease := rfl
@[simp] theorem State.setDom_ports (s : State) (k : Nat) (x : PdSt) : (s.setDom k x).ports = s.ports := rfl
@[simp] theorem State.setDom_rings (s : State) (k : Nat) (x : PdSt) : (s.setDom k x).rings = s.rings := rfl
@[simp] theorem State.setDom_engs (s : State) (k : Nat) (x : PdSt) : (s.setDom k x).engs = s.engs := rfl
@[simp] theorem State.setDom_lsc (s : State) (k : Nat) (x : PdSt) : (s.setDom k x).lsc = s.lsc := rfl
@[simp] theorem State.setDom_tiles (s : State) (k : Nat) (x : PdSt) : (s.setDom k x).tiles = s.tiles := rfl
@[simp] theorem State.setDom_parts (s : State) (k : Nat) (x : PdSt) : (s.setDom k x).parts = s.parts := rfl
@[simp] theorem State.setDom_pages (s : State) (k : Nat) (x : PdSt) : (s.setDom k x).pages = s.pages := rfl
@[simp] theorem State.setDom_vmem (s : State) (k : Nat) (x : PdSt) : (s.setDom k x).vmem = s.vmem := rfl
@[simp] theorem State.setDom_idle (s : State) (k : Nat) (x : PdSt) : (s.setDom k x).idle = s.idle := rfl
@[simp] theorem State.setDom_rot (s : State) (k : Nat) (x : PdSt) : (s.setDom k x).rot = s.rot := rfl
@[simp] theorem State.setDom_gov (s : State) (k : Nat) (x : PdSt) : (s.setDom k x).gov = s.gov := rfl
@[simp] theorem State.setDom_herd (s : State) (k : Nat) (x : PdSt) : (s.setDom k x).herd = s.herd := rfl
@[simp] theorem State.setDom_pack (s : State) (k : Nat) (x : PdSt) : (s.setDom k x).pack = s.pack := rfl
@[simp] theorem State.setDom_est (s : State) (k : Nat) (x : PdSt) : (s.setDom k x).est = s.est := rfl
@[simp] theorem State.setDom_ctr (s : State) (k : Nat) (x : PdSt) : (s.setDom k x).ctr = s.ctr := rfl
@[simp] theorem State.setDom_field (s : State) (k : Nat) (x : PdSt) : (s.setDom k x).field = s.field := rfl
@[simp] theorem State.setDom_rnd (s : State) (k : Nat) (x : PdSt) : (s.setDom k x).rnd = s.rnd := rfl
@[simp] theorem State.setDom_freeIx (s : State) (k : Nat) (x : PdSt) : (s.setDom k x).freeIx = s.freeIx := rfl
@[simp] theorem State.setDom_lines (s : State) (k : Nat) (x : PdSt) : (s.setDom k x).lines = s.lines := rfl
@[simp] theorem State.setDom_fused (s : State) (k : Nat) (x : PdSt) : (s.setDom k x).fused = s.fused := rfl
@[simp] theorem State.setDom_pending (s : State) (k : Nat) (x : PdSt) : (s.setDom k x).pending = s.pending := rfl
@[simp] theorem State.setDom_fld (s : State) (k : Nat) (x : PdSt) (f : RField) (i j : Nat) :
    (s.setDom k x).fld f i j = s.fld f i j := rfl
/-- What was set is there. -/
@[simp] theorem State.setDom_dom (s : State) (k : Nat) (x : PdSt) : (s.setDom k x).dom k = x := Tab.get_set_same _ _ _ _
/-- Every other index is as it was. -/
theorem State.setDom_dom_ne (s : State) (k : Nat) (x : PdSt) {k' : Nat} (h : k' ≠ k) :
    (s.setDom k x).dom k' = s.dom k' := Tab.get_set_ne (Key.ne_of h) _ _ _ _

/-! ### setQual -/

@[simp] theorem State.setQual_regs (s : State) (k : Nat) (x : QualSt) : (s.setQual k x).regs = s.regs := rfl
@[simp] theorem State.setQual_pow (s : State) (k : Nat) (x : QualSt) : (s.setQual k x).pow = s.pow := rfl
@[simp] theorem State.setQual_flt (s : State) (k : Nat) (x : QualSt) : (s.setQual k x).flt = s.flt := rfl
@[simp] theorem State.setQual_shadows (s : State) (k : Nat) (x : QualSt) : (s.setQual k x).shadows = s.shadows := rfl
@[simp] theorem State.setQual_rcd (s : State) (k : Nat) (x : QualSt) : (s.setQual k x).rcd = s.rcd := rfl
@[simp] theorem State.setQual_tim (s : State) (k : Nat) (x : QualSt) : (s.setQual k x).tim = s.tim := rfl
@[simp] theorem State.setQual_mgt (s : State) (k : Nat) (x : QualSt) : (s.setQual k x).mgt = s.mgt := rfl
@[simp] theorem State.setQual_lease (s : State) (k : Nat) (x : QualSt) : (s.setQual k x).lease = s.lease := rfl
@[simp] theorem State.setQual_ports (s : State) (k : Nat) (x : QualSt) : (s.setQual k x).ports = s.ports := rfl
@[simp] theorem State.setQual_rings (s : State) (k : Nat) (x : QualSt) : (s.setQual k x).rings = s.rings := rfl
@[simp] theorem State.setQual_engs (s : State) (k : Nat) (x : QualSt) : (s.setQual k x).engs = s.engs := rfl
@[simp] theorem State.setQual_lsc (s : State) (k : Nat) (x : QualSt) : (s.setQual k x).lsc = s.lsc := rfl
@[simp] theorem State.setQual_tiles (s : State) (k : Nat) (x : QualSt) : (s.setQual k x).tiles = s.tiles := rfl
@[simp] theorem State.setQual_parts (s : State) (k : Nat) (x : QualSt) : (s.setQual k x).parts = s.parts := rfl
@[simp] theorem State.setQual_pages (s : State) (k : Nat) (x : QualSt) : (s.setQual k x).pages = s.pages := rfl
@[simp] theorem State.setQual_vmem (s : State) (k : Nat) (x : QualSt) : (s.setQual k x).vmem = s.vmem := rfl
@[simp] theorem State.setQual_idle (s : State) (k : Nat) (x : QualSt) : (s.setQual k x).idle = s.idle := rfl
@[simp] theorem State.setQual_rot (s : State) (k : Nat) (x : QualSt) : (s.setQual k x).rot = s.rot := rfl
@[simp] theorem State.setQual_gov (s : State) (k : Nat) (x : QualSt) : (s.setQual k x).gov = s.gov := rfl
@[simp] theorem State.setQual_herd (s : State) (k : Nat) (x : QualSt) : (s.setQual k x).herd = s.herd := rfl
@[simp] theorem State.setQual_pack (s : State) (k : Nat) (x : QualSt) : (s.setQual k x).pack = s.pack := rfl
@[simp] theorem State.setQual_est (s : State) (k : Nat) (x : QualSt) : (s.setQual k x).est = s.est := rfl
@[simp] theorem State.setQual_ctr (s : State) (k : Nat) (x : QualSt) : (s.setQual k x).ctr = s.ctr := rfl
@[simp] theorem State.setQual_field (s : State) (k : Nat) (x : QualSt) : (s.setQual k x).field = s.field := rfl
@[simp] theorem State.setQual_rnd (s : State) (k : Nat) (x : QualSt) : (s.setQual k x).rnd = s.rnd := rfl
@[simp] theorem State.setQual_freeIx (s : State) (k : Nat) (x : QualSt) : (s.setQual k x).freeIx = s.freeIx := rfl
@[simp] theorem State.setQual_lines (s : State) (k : Nat) (x : QualSt) : (s.setQual k x).lines = s.lines := rfl
@[simp] theorem State.setQual_fused (s : State) (k : Nat) (x : QualSt) : (s.setQual k x).fused = s.fused := rfl
@[simp] theorem State.setQual_pending (s : State) (k : Nat) (x : QualSt) : (s.setQual k x).pending = s.pending := rfl
@[simp] theorem State.setQual_fld (s : State) (k : Nat) (x : QualSt) (f : RField) (i j : Nat) :
    (s.setQual k x).fld f i j = s.fld f i j := rfl
/-- What was set is there. -/
@[simp] theorem State.setQual_qualOf (s : State) (k : Nat) (x : QualSt) : (s.setQual k x).qualOf k = x := Tab.get_set_same _ _ _ _
/-- Every other index is as it was. -/
theorem State.setQual_qualOf_ne (s : State) (k : Nat) (x : QualSt) {k' : Nat} (h : k' ≠ k) :
    (s.setQual k x).qualOf k' = s.qualOf k' := Tab.get_set_ne (Key.ne_of h) _ _ _ _

/-! ### setCell -/

@[simp] theorem State.setCell_regs (s : State) (k : Nat) (x : EstCell) : (s.setCell k x).regs = s.regs := rfl
@[simp] theorem State.setCell_pow (s : State) (k : Nat) (x : EstCell) : (s.setCell k x).pow = s.pow := rfl
@[simp] theorem State.setCell_qual (s : State) (k : Nat) (x : EstCell) : (s.setCell k x).qual = s.qual := rfl
@[simp] theorem State.setCell_flt (s : State) (k : Nat) (x : EstCell) : (s.setCell k x).flt = s.flt := rfl
@[simp] theorem State.setCell_shadows (s : State) (k : Nat) (x : EstCell) : (s.setCell k x).shadows = s.shadows := rfl
@[simp] theorem State.setCell_rcd (s : State) (k : Nat) (x : EstCell) : (s.setCell k x).rcd = s.rcd := rfl
@[simp] theorem State.setCell_tim (s : State) (k : Nat) (x : EstCell) : (s.setCell k x).tim = s.tim := rfl
@[simp] theorem State.setCell_mgt (s : State) (k : Nat) (x : EstCell) : (s.setCell k x).mgt = s.mgt := rfl
@[simp] theorem State.setCell_lease (s : State) (k : Nat) (x : EstCell) : (s.setCell k x).lease = s.lease := rfl
@[simp] theorem State.setCell_ports (s : State) (k : Nat) (x : EstCell) : (s.setCell k x).ports = s.ports := rfl
@[simp] theorem State.setCell_rings (s : State) (k : Nat) (x : EstCell) : (s.setCell k x).rings = s.rings := rfl
@[simp] theorem State.setCell_engs (s : State) (k : Nat) (x : EstCell) : (s.setCell k x).engs = s.engs := rfl
@[simp] theorem State.setCell_lsc (s : State) (k : Nat) (x : EstCell) : (s.setCell k x).lsc = s.lsc := rfl
@[simp] theorem State.setCell_tiles (s : State) (k : Nat) (x : EstCell) : (s.setCell k x).tiles = s.tiles := rfl
@[simp] theorem State.setCell_parts (s : State) (k : Nat) (x : EstCell) : (s.setCell k x).parts = s.parts := rfl
@[simp] theorem State.setCell_pages (s : State) (k : Nat) (x : EstCell) : (s.setCell k x).pages = s.pages := rfl
@[simp] theorem State.setCell_vmem (s : State) (k : Nat) (x : EstCell) : (s.setCell k x).vmem = s.vmem := rfl
@[simp] theorem State.setCell_idle (s : State) (k : Nat) (x : EstCell) : (s.setCell k x).idle = s.idle := rfl
@[simp] theorem State.setCell_rot (s : State) (k : Nat) (x : EstCell) : (s.setCell k x).rot = s.rot := rfl
@[simp] theorem State.setCell_gov (s : State) (k : Nat) (x : EstCell) : (s.setCell k x).gov = s.gov := rfl
@[simp] theorem State.setCell_herd (s : State) (k : Nat) (x : EstCell) : (s.setCell k x).herd = s.herd := rfl
@[simp] theorem State.setCell_pack (s : State) (k : Nat) (x : EstCell) : (s.setCell k x).pack = s.pack := rfl
@[simp] theorem State.setCell_ctr (s : State) (k : Nat) (x : EstCell) : (s.setCell k x).ctr = s.ctr := rfl
@[simp] theorem State.setCell_field (s : State) (k : Nat) (x : EstCell) : (s.setCell k x).field = s.field := rfl
@[simp] theorem State.setCell_rnd (s : State) (k : Nat) (x : EstCell) : (s.setCell k x).rnd = s.rnd := rfl
@[simp] theorem State.setCell_freeIx (s : State) (k : Nat) (x : EstCell) : (s.setCell k x).freeIx = s.freeIx := rfl
@[simp] theorem State.setCell_lines (s : State) (k : Nat) (x : EstCell) : (s.setCell k x).lines = s.lines := rfl
@[simp] theorem State.setCell_fused (s : State) (k : Nat) (x : EstCell) : (s.setCell k x).fused = s.fused := rfl
@[simp] theorem State.setCell_pending (s : State) (k : Nat) (x : EstCell) : (s.setCell k x).pending = s.pending := rfl
@[simp] theorem State.setCell_fld (s : State) (k : Nat) (x : EstCell) (f : RField) (i j : Nat) :
    (s.setCell k x).fld f i j = s.fld f i j := rfl
/-- What was set is there. -/
@[simp] theorem State.setCell_cell (s : State) (k : Nat) (x : EstCell) : (s.setCell k x).cell k = x := Tab.get_set_same _ _ _ _
/-- Every other index is as it was. -/
theorem State.setCell_cell_ne (s : State) (k : Nat) (x : EstCell) {k' : Nat} (h : k' ≠ k) :
    (s.setCell k x).cell k' = s.cell k' := Tab.get_set_ne (Key.ne_of h) _ _ _ _

/-! ### setCond -/

@[simp] theorem State.setCond_regs (s : State) (k : Nat) (x : Cond) : (s.setCond k x).regs = s.regs := rfl
@[simp] theorem State.setCond_pow (s : State) (k : Nat) (x : Cond) : (s.setCond k x).pow = s.pow := rfl
@[simp] theorem State.setCond_qual (s : State) (k : Nat) (x : Cond) : (s.setCond k x).qual = s.qual := rfl
@[simp] theorem State.setCond_flt (s : State) (k : Nat) (x : Cond) : (s.setCond k x).flt = s.flt := rfl
@[simp] theorem State.setCond_shadows (s : State) (k : Nat) (x : Cond) : (s.setCond k x).shadows = s.shadows := rfl
@[simp] theorem State.setCond_rcd (s : State) (k : Nat) (x : Cond) : (s.setCond k x).rcd = s.rcd := rfl
@[simp] theorem State.setCond_tim (s : State) (k : Nat) (x : Cond) : (s.setCond k x).tim = s.tim := rfl
@[simp] theorem State.setCond_mgt (s : State) (k : Nat) (x : Cond) : (s.setCond k x).mgt = s.mgt := rfl
@[simp] theorem State.setCond_lease (s : State) (k : Nat) (x : Cond) : (s.setCond k x).lease = s.lease := rfl
@[simp] theorem State.setCond_ports (s : State) (k : Nat) (x : Cond) : (s.setCond k x).ports = s.ports := rfl
@[simp] theorem State.setCond_rings (s : State) (k : Nat) (x : Cond) : (s.setCond k x).rings = s.rings := rfl
@[simp] theorem State.setCond_engs (s : State) (k : Nat) (x : Cond) : (s.setCond k x).engs = s.engs := rfl
@[simp] theorem State.setCond_lsc (s : State) (k : Nat) (x : Cond) : (s.setCond k x).lsc = s.lsc := rfl
@[simp] theorem State.setCond_tiles (s : State) (k : Nat) (x : Cond) : (s.setCond k x).tiles = s.tiles := rfl
@[simp] theorem State.setCond_parts (s : State) (k : Nat) (x : Cond) : (s.setCond k x).parts = s.parts := rfl
@[simp] theorem State.setCond_pages (s : State) (k : Nat) (x : Cond) : (s.setCond k x).pages = s.pages := rfl
@[simp] theorem State.setCond_vmem (s : State) (k : Nat) (x : Cond) : (s.setCond k x).vmem = s.vmem := rfl
@[simp] theorem State.setCond_idle (s : State) (k : Nat) (x : Cond) : (s.setCond k x).idle = s.idle := rfl
@[simp] theorem State.setCond_rot (s : State) (k : Nat) (x : Cond) : (s.setCond k x).rot = s.rot := rfl
@[simp] theorem State.setCond_gov (s : State) (k : Nat) (x : Cond) : (s.setCond k x).gov = s.gov := rfl
@[simp] theorem State.setCond_herd (s : State) (k : Nat) (x : Cond) : (s.setCond k x).herd = s.herd := rfl
@[simp] theorem State.setCond_pack (s : State) (k : Nat) (x : Cond) : (s.setCond k x).pack = s.pack := rfl
@[simp] theorem State.setCond_ctr (s : State) (k : Nat) (x : Cond) : (s.setCond k x).ctr = s.ctr := rfl
@[simp] theorem State.setCond_field (s : State) (k : Nat) (x : Cond) : (s.setCond k x).field = s.field := rfl
@[simp] theorem State.setCond_rnd (s : State) (k : Nat) (x : Cond) : (s.setCond k x).rnd = s.rnd := rfl
@[simp] theorem State.setCond_freeIx (s : State) (k : Nat) (x : Cond) : (s.setCond k x).freeIx = s.freeIx := rfl
@[simp] theorem State.setCond_lines (s : State) (k : Nat) (x : Cond) : (s.setCond k x).lines = s.lines := rfl
@[simp] theorem State.setCond_fused (s : State) (k : Nat) (x : Cond) : (s.setCond k x).fused = s.fused := rfl
@[simp] theorem State.setCond_pending (s : State) (k : Nat) (x : Cond) : (s.setCond k x).pending = s.pending := rfl
@[simp] theorem State.setCond_fld (s : State) (k : Nat) (x : Cond) (f : RField) (i j : Nat) :
    (s.setCond k x).fld f i j = s.fld f i j := rfl
/-- What was set is there. -/
@[simp] theorem State.setCond_cond (s : State) (k : Nat) (x : Cond) : (s.setCond k x).cond k = x := Tab.get_set_same _ _ _ _
/-- Every other index is as it was. -/
theorem State.setCond_cond_ne (s : State) (k : Nat) (x : Cond) {k' : Nat} (h : k' ≠ k) :
    (s.setCond k x).cond k' = s.cond k' := Tab.get_set_ne (Key.ne_of h) _ _ _ _

/-! ### setBlk -/

@[simp] theorem State.setBlk_regs (s : State) (c i : Nat) (x : FltBlk) : (s.setBlk c i x).regs = s.regs := rfl
@[simp] theorem State.setBlk_pow (s : State) (c i : Nat) (x : FltBlk) : (s.setBlk c i x).pow = s.pow := rfl
@[simp] theorem State.setBlk_qual (s : State) (c i : Nat) (x : FltBlk) : (s.setBlk c i x).qual = s.qual := rfl
@[simp] theorem State.setBlk_shadows (s : State) (c i : Nat) (x : FltBlk) : (s.setBlk c i x).shadows = s.shadows := rfl
@[simp] theorem State.setBlk_rcd (s : State) (c i : Nat) (x : FltBlk) : (s.setBlk c i x).rcd = s.rcd := rfl
@[simp] theorem State.setBlk_tim (s : State) (c i : Nat) (x : FltBlk) : (s.setBlk c i x).tim = s.tim := rfl
@[simp] theorem State.setBlk_mgt (s : State) (c i : Nat) (x : FltBlk) : (s.setBlk c i x).mgt = s.mgt := rfl
@[simp] theorem State.setBlk_lease (s : State) (c i : Nat) (x : FltBlk) : (s.setBlk c i x).lease = s.lease := rfl
@[simp] theorem State.setBlk_ports (s : State) (c i : Nat) (x : FltBlk) : (s.setBlk c i x).ports = s.ports := rfl
@[simp] theorem State.setBlk_rings (s : State) (c i : Nat) (x : FltBlk) : (s.setBlk c i x).rings = s.rings := rfl
@[simp] theorem State.setBlk_engs (s : State) (c i : Nat) (x : FltBlk) : (s.setBlk c i x).engs = s.engs := rfl
@[simp] theorem State.setBlk_lsc (s : State) (c i : Nat) (x : FltBlk) : (s.setBlk c i x).lsc = s.lsc := rfl
@[simp] theorem State.setBlk_tiles (s : State) (c i : Nat) (x : FltBlk) : (s.setBlk c i x).tiles = s.tiles := rfl
@[simp] theorem State.setBlk_parts (s : State) (c i : Nat) (x : FltBlk) : (s.setBlk c i x).parts = s.parts := rfl
@[simp] theorem State.setBlk_pages (s : State) (c i : Nat) (x : FltBlk) : (s.setBlk c i x).pages = s.pages := rfl
@[simp] theorem State.setBlk_vmem (s : State) (c i : Nat) (x : FltBlk) : (s.setBlk c i x).vmem = s.vmem := rfl
@[simp] theorem State.setBlk_idle (s : State) (c i : Nat) (x : FltBlk) : (s.setBlk c i x).idle = s.idle := rfl
@[simp] theorem State.setBlk_rot (s : State) (c i : Nat) (x : FltBlk) : (s.setBlk c i x).rot = s.rot := rfl
@[simp] theorem State.setBlk_gov (s : State) (c i : Nat) (x : FltBlk) : (s.setBlk c i x).gov = s.gov := rfl
@[simp] theorem State.setBlk_herd (s : State) (c i : Nat) (x : FltBlk) : (s.setBlk c i x).herd = s.herd := rfl
@[simp] theorem State.setBlk_pack (s : State) (c i : Nat) (x : FltBlk) : (s.setBlk c i x).pack = s.pack := rfl
@[simp] theorem State.setBlk_est (s : State) (c i : Nat) (x : FltBlk) : (s.setBlk c i x).est = s.est := rfl
@[simp] theorem State.setBlk_ctr (s : State) (c i : Nat) (x : FltBlk) : (s.setBlk c i x).ctr = s.ctr := rfl
@[simp] theorem State.setBlk_field (s : State) (c i : Nat) (x : FltBlk) : (s.setBlk c i x).field = s.field := rfl
@[simp] theorem State.setBlk_rnd (s : State) (c i : Nat) (x : FltBlk) : (s.setBlk c i x).rnd = s.rnd := rfl
@[simp] theorem State.setBlk_freeIx (s : State) (c i : Nat) (x : FltBlk) : (s.setBlk c i x).freeIx = s.freeIx := rfl
@[simp] theorem State.setBlk_lines (s : State) (c i : Nat) (x : FltBlk) : (s.setBlk c i x).lines = s.lines := rfl
@[simp] theorem State.setBlk_fused (s : State) (c i : Nat) (x : FltBlk) : (s.setBlk c i x).fused = s.fused := rfl
@[simp] theorem State.setBlk_pending (s : State) (c i : Nat) (x : FltBlk) : (s.setBlk c i x).pending = s.pending := rfl
@[simp] theorem State.setBlk_fld (s : State) (c i : Nat) (x : FltBlk) (f : RField) (i j : Nat) :
    (s.setBlk c i x).fld f i j = s.fld f i j := rfl

/-! ### setRing -/

@[simp] theorem State.setRing_regs (s : State) (k : Nat) (rx : Bool) (n : Nat) (x : Ring) : (s.setRing k rx n x).regs = s.regs := rfl
@[simp] theorem State.setRing_pow (s : State) (k : Nat) (rx : Bool) (n : Nat) (x : Ring) : (s.setRing k rx n x).pow = s.pow := rfl
@[simp] theorem State.setRing_qual (s : State) (k : Nat) (rx : Bool) (n : Nat) (x : Ring) : (s.setRing k rx n x).qual = s.qual := rfl
@[simp] theorem State.setRing_flt (s : State) (k : Nat) (rx : Bool) (n : Nat) (x : Ring) : (s.setRing k rx n x).flt = s.flt := rfl
@[simp] theorem State.setRing_shadows (s : State) (k : Nat) (rx : Bool) (n : Nat) (x : Ring) : (s.setRing k rx n x).shadows = s.shadows := rfl
@[simp] theorem State.setRing_rcd (s : State) (k : Nat) (rx : Bool) (n : Nat) (x : Ring) : (s.setRing k rx n x).rcd = s.rcd := rfl
@[simp] theorem State.setRing_tim (s : State) (k : Nat) (rx : Bool) (n : Nat) (x : Ring) : (s.setRing k rx n x).tim = s.tim := rfl
@[simp] theorem State.setRing_mgt (s : State) (k : Nat) (rx : Bool) (n : Nat) (x : Ring) : (s.setRing k rx n x).mgt = s.mgt := rfl
@[simp] theorem State.setRing_lease (s : State) (k : Nat) (rx : Bool) (n : Nat) (x : Ring) : (s.setRing k rx n x).lease = s.lease := rfl
@[simp] theorem State.setRing_ports (s : State) (k : Nat) (rx : Bool) (n : Nat) (x : Ring) : (s.setRing k rx n x).ports = s.ports := rfl
@[simp] theorem State.setRing_engs (s : State) (k : Nat) (rx : Bool) (n : Nat) (x : Ring) : (s.setRing k rx n x).engs = s.engs := rfl
@[simp] theorem State.setRing_lsc (s : State) (k : Nat) (rx : Bool) (n : Nat) (x : Ring) : (s.setRing k rx n x).lsc = s.lsc := rfl
@[simp] theorem State.setRing_tiles (s : State) (k : Nat) (rx : Bool) (n : Nat) (x : Ring) : (s.setRing k rx n x).tiles = s.tiles := rfl
@[simp] theorem State.setRing_parts (s : State) (k : Nat) (rx : Bool) (n : Nat) (x : Ring) : (s.setRing k rx n x).parts = s.parts := rfl
@[simp] theorem State.setRing_pages (s : State) (k : Nat) (rx : Bool) (n : Nat) (x : Ring) : (s.setRing k rx n x).pages = s.pages := rfl
@[simp] theorem State.setRing_vmem (s : State) (k : Nat) (rx : Bool) (n : Nat) (x : Ring) : (s.setRing k rx n x).vmem = s.vmem := rfl
@[simp] theorem State.setRing_idle (s : State) (k : Nat) (rx : Bool) (n : Nat) (x : Ring) : (s.setRing k rx n x).idle = s.idle := rfl
@[simp] theorem State.setRing_rot (s : State) (k : Nat) (rx : Bool) (n : Nat) (x : Ring) : (s.setRing k rx n x).rot = s.rot := rfl
@[simp] theorem State.setRing_gov (s : State) (k : Nat) (rx : Bool) (n : Nat) (x : Ring) : (s.setRing k rx n x).gov = s.gov := rfl
@[simp] theorem State.setRing_herd (s : State) (k : Nat) (rx : Bool) (n : Nat) (x : Ring) : (s.setRing k rx n x).herd = s.herd := rfl
@[simp] theorem State.setRing_pack (s : State) (k : Nat) (rx : Bool) (n : Nat) (x : Ring) : (s.setRing k rx n x).pack = s.pack := rfl
@[simp] theorem State.setRing_est (s : State) (k : Nat) (rx : Bool) (n : Nat) (x : Ring) : (s.setRing k rx n x).est = s.est := rfl
@[simp] theorem State.setRing_ctr (s : State) (k : Nat) (rx : Bool) (n : Nat) (x : Ring) : (s.setRing k rx n x).ctr = s.ctr := rfl
@[simp] theorem State.setRing_field (s : State) (k : Nat) (rx : Bool) (n : Nat) (x : Ring) : (s.setRing k rx n x).field = s.field := rfl
@[simp] theorem State.setRing_rnd (s : State) (k : Nat) (rx : Bool) (n : Nat) (x : Ring) : (s.setRing k rx n x).rnd = s.rnd := rfl
@[simp] theorem State.setRing_freeIx (s : State) (k : Nat) (rx : Bool) (n : Nat) (x : Ring) : (s.setRing k rx n x).freeIx = s.freeIx := rfl
@[simp] theorem State.setRing_lines (s : State) (k : Nat) (rx : Bool) (n : Nat) (x : Ring) : (s.setRing k rx n x).lines = s.lines := rfl
@[simp] theorem State.setRing_fused (s : State) (k : Nat) (rx : Bool) (n : Nat) (x : Ring) : (s.setRing k rx n x).fused = s.fused := rfl
@[simp] theorem State.setRing_pending (s : State) (k : Nat) (rx : Bool) (n : Nat) (x : Ring) : (s.setRing k rx n x).pending = s.pending := rfl
@[simp] theorem State.setRing_fld (s : State) (k : Nat) (rx : Bool) (n : Nat) (x : Ring) (f : RField) (i j : Nat) :
    (s.setRing k rx n x).fld f i j = s.fld f i j := rfl

/-! ### setLine -/

@[simp] theorem State.setLine_regs (s : State) (k : Nat) (rx : Bool) (n : Nat) (x : Line) : (s.setLine k rx n x).regs = s.regs := rfl
@[simp] theorem State.setLine_pow (s : State) (k : Nat) (rx : Bool) (n : Nat) (x : Line) : (s.setLine k rx n x).pow = s.pow := rfl
@[simp] theorem State.setLine_qual (s : State) (k : Nat) (rx : Bool) (n : Nat) (x : Line) : (s.setLine k rx n x).qual = s.qual := rfl
@[simp] theorem State.setLine_flt (s : State) (k : Nat) (rx : Bool) (n : Nat) (x : Line) : (s.setLine k rx n x).flt = s.flt := rfl
@[simp] theorem State.setLine_shadows (s : State) (k : Nat) (rx : Bool) (n : Nat) (x : Line) : (s.setLine k rx n x).shadows = s.shadows := rfl
@[simp] theorem State.setLine_rcd (s : State) (k : Nat) (rx : Bool) (n : Nat) (x : Line) : (s.setLine k rx n x).rcd = s.rcd := rfl
@[simp] theorem State.setLine_tim (s : State) (k : Nat) (rx : Bool) (n : Nat) (x : Line) : (s.setLine k rx n x).tim = s.tim := rfl
@[simp] theorem State.setLine_mgt (s : State) (k : Nat) (rx : Bool) (n : Nat) (x : Line) : (s.setLine k rx n x).mgt = s.mgt := rfl
@[simp] theorem State.setLine_lease (s : State) (k : Nat) (rx : Bool) (n : Nat) (x : Line) : (s.setLine k rx n x).lease = s.lease := rfl
@[simp] theorem State.setLine_ports (s : State) (k : Nat) (rx : Bool) (n : Nat) (x : Line) : (s.setLine k rx n x).ports = s.ports := rfl
@[simp] theorem State.setLine_engs (s : State) (k : Nat) (rx : Bool) (n : Nat) (x : Line) : (s.setLine k rx n x).engs = s.engs := rfl
@[simp] theorem State.setLine_lsc (s : State) (k : Nat) (rx : Bool) (n : Nat) (x : Line) : (s.setLine k rx n x).lsc = s.lsc := rfl
@[simp] theorem State.setLine_tiles (s : State) (k : Nat) (rx : Bool) (n : Nat) (x : Line) : (s.setLine k rx n x).tiles = s.tiles := rfl
@[simp] theorem State.setLine_parts (s : State) (k : Nat) (rx : Bool) (n : Nat) (x : Line) : (s.setLine k rx n x).parts = s.parts := rfl
@[simp] theorem State.setLine_pages (s : State) (k : Nat) (rx : Bool) (n : Nat) (x : Line) : (s.setLine k rx n x).pages = s.pages := rfl
@[simp] theorem State.setLine_vmem (s : State) (k : Nat) (rx : Bool) (n : Nat) (x : Line) : (s.setLine k rx n x).vmem = s.vmem := rfl
@[simp] theorem State.setLine_idle (s : State) (k : Nat) (rx : Bool) (n : Nat) (x : Line) : (s.setLine k rx n x).idle = s.idle := rfl
@[simp] theorem State.setLine_rot (s : State) (k : Nat) (rx : Bool) (n : Nat) (x : Line) : (s.setLine k rx n x).rot = s.rot := rfl
@[simp] theorem State.setLine_gov (s : State) (k : Nat) (rx : Bool) (n : Nat) (x : Line) : (s.setLine k rx n x).gov = s.gov := rfl
@[simp] theorem State.setLine_herd (s : State) (k : Nat) (rx : Bool) (n : Nat) (x : Line) : (s.setLine k rx n x).herd = s.herd := rfl
@[simp] theorem State.setLine_pack (s : State) (k : Nat) (rx : Bool) (n : Nat) (x : Line) : (s.setLine k rx n x).pack = s.pack := rfl
@[simp] theorem State.setLine_est (s : State) (k : Nat) (rx : Bool) (n : Nat) (x : Line) : (s.setLine k rx n x).est = s.est := rfl
@[simp] theorem State.setLine_ctr (s : State) (k : Nat) (rx : Bool) (n : Nat) (x : Line) : (s.setLine k rx n x).ctr = s.ctr := rfl
@[simp] theorem State.setLine_field (s : State) (k : Nat) (rx : Bool) (n : Nat) (x : Line) : (s.setLine k rx n x).field = s.field := rfl
@[simp] theorem State.setLine_rnd (s : State) (k : Nat) (rx : Bool) (n : Nat) (x : Line) : (s.setLine k rx n x).rnd = s.rnd := rfl
@[simp] theorem State.setLine_freeIx (s : State) (k : Nat) (rx : Bool) (n : Nat) (x : Line) : (s.setLine k rx n x).freeIx = s.freeIx := rfl
@[simp] theorem State.setLine_rings (s : State) (k : Nat) (rx : Bool) (n : Nat) (x : Line) : (s.setLine k rx n x).rings = s.rings := rfl
@[simp] theorem State.setLine_fused (s : State) (k : Nat) (rx : Bool) (n : Nat) (x : Line) : (s.setLine k rx n x).fused = s.fused := rfl
@[simp] theorem State.setLine_pending (s : State) (k : Nat) (rx : Bool) (n : Nat) (x : Line) : (s.setLine k rx n x).pending = s.pending := rfl
@[simp] theorem State.setLine_fld (s : State) (k : Nat) (rx : Bool) (n : Nat) (x : Line) (f : RField) (i j : Nat) :
    (s.setLine k rx n x).fld f i j = s.fld f i j := rfl

/-! ### setVat -/

@[simp] theorem State.setVat_regs (s : State) (x : VatSt) : (s.setVat x).regs = s.regs := rfl
@[simp] theorem State.setVat_qual (s : State) (x : VatSt) : (s.setVat x).qual = s.qual := rfl
@[simp] theorem State.setVat_flt (s : State) (x : VatSt) : (s.setVat x).flt = s.flt := rfl
@[simp] theorem State.setVat_shadows (s : State) (x : VatSt) : (s.setVat x).shadows = s.shadows := rfl
@[simp] theorem State.setVat_rcd (s : State) (x : VatSt) : (s.setVat x).rcd = s.rcd := rfl
@[simp] theorem State.setVat_tim (s : State) (x : VatSt) : (s.setVat x).tim = s.tim := rfl
@[simp] theorem State.setVat_mgt (s : State) (x : VatSt) : (s.setVat x).mgt = s.mgt := rfl
@[simp] theorem State.setVat_lease (s : State) (x : VatSt) : (s.setVat x).lease = s.lease := rfl
@[simp] theorem State.setVat_ports (s : State) (x : VatSt) : (s.setVat x).ports = s.ports := rfl
@[simp] theorem State.setVat_rings (s : State) (x : VatSt) : (s.setVat x).rings = s.rings := rfl
@[simp] theorem State.setVat_engs (s : State) (x : VatSt) : (s.setVat x).engs = s.engs := rfl
@[simp] theorem State.setVat_lsc (s : State) (x : VatSt) : (s.setVat x).lsc = s.lsc := rfl
@[simp] theorem State.setVat_tiles (s : State) (x : VatSt) : (s.setVat x).tiles = s.tiles := rfl
@[simp] theorem State.setVat_parts (s : State) (x : VatSt) : (s.setVat x).parts = s.parts := rfl
@[simp] theorem State.setVat_pages (s : State) (x : VatSt) : (s.setVat x).pages = s.pages := rfl
@[simp] theorem State.setVat_vmem (s : State) (x : VatSt) : (s.setVat x).vmem = s.vmem := rfl
@[simp] theorem State.setVat_idle (s : State) (x : VatSt) : (s.setVat x).idle = s.idle := rfl
@[simp] theorem State.setVat_rot (s : State) (x : VatSt) : (s.setVat x).rot = s.rot := rfl
@[simp] theorem State.setVat_gov (s : State) (x : VatSt) : (s.setVat x).gov = s.gov := rfl
@[simp] theorem State.setVat_herd (s : State) (x : VatSt) : (s.setVat x).herd = s.herd := rfl
@[simp] theorem State.setVat_pack (s : State) (x : VatSt) : (s.setVat x).pack = s.pack := rfl
@[simp] theorem State.setVat_est (s : State) (x : VatSt) : (s.setVat x).est = s.est := rfl
@[simp] theorem State.setVat_ctr (s : State) (x : VatSt) : (s.setVat x).ctr = s.ctr := rfl
@[simp] theorem State.setVat_field (s : State) (x : VatSt) : (s.setVat x).field = s.field := rfl
@[simp] theorem State.setVat_rnd (s : State) (x : VatSt) : (s.setVat x).rnd = s.rnd := rfl
@[simp] theorem State.setVat_freeIx (s : State) (x : VatSt) : (s.setVat x).freeIx = s.freeIx := rfl
@[simp] theorem State.setVat_lines (s : State) (x : VatSt) : (s.setVat x).lines = s.lines := rfl
@[simp] theorem State.setVat_fused (s : State) (x : VatSt) : (s.setVat x).fused = s.fused := rfl
@[simp] theorem State.setVat_pending (s : State) (x : VatSt) : (s.setVat x).pending = s.pending := rfl
@[simp] theorem State.setVat_fld (s : State) (x : VatSt) (f : RField) (i j : Nat) :
    (s.setVat x).fld f i j = s.fld f i j := rfl

/-! ### The queue -/

/-- Setting the queue sets it. -/
@[simp] theorem State.pending_withPending (s : State) (q : List Instr) : (s.withPending q).pending = q := rfl
/-- The last queue set is the one that stays. -/
@[simp] theorem State.withPending_withPending (s : State) (p q : List Instr) : (s.withPending p).withPending q = s.withPending q := rfl
/-- What was set is there. -/
@[simp] theorem State.setVat_vat (s : State) (x : VatSt) : (s.setVat x).pow.vat = x := rfl
@[simp] theorem State.setBlk_blk (s : State) (c i : Nat) (x : FltBlk) : (s.setBlk c i x).blk c i = x := Tab.get_set_same _ _ _ _
/-- Every other block is as it was. -/
theorem State.setBlk_blk_ne (s : State) (c i : Nat) (x : FltBlk) {c' i' : Nat} (h : c' ≠ c ∨ i' ≠ i) :
    (s.setBlk c i x).blk c' i' = s.blk c' i' :=
  Tab.get_set_ne (fun e => h.elim (fun a => a (congrArg Key.a e)) fun a => a (congrArg Key.b e)) _ _ _ _
@[simp] theorem State.setRing_ring (s : State) (k : Nat) (rx : Bool) (n : Nat) (x : Ring) :
    (s.setRing k rx n x).ring k rx n = x := Tab.get_set_same _ _ _ _

@[simp] theorem State.setLine_line (s : State) (k : Nat) (rx : Bool) (n : Nat) (x : Line) :
    (s.setLine k rx n x).line k rx n = x := Tab.get_set_same _ _ _ _

end Sys2Proof.Machine
end

