-- ==== Sys2Proof/Tests/Slice0.lean ====
section
/-! SUPPORT. Tests: a concrete state for every case of every statement that has hypotheses, an ill-formed term for every
check of WellFormed, and values computed by hand from the specification's examples. -/
namespace Sys2Proof.Tests
open Sys2Proof Sys2Proof.Machine
set_option Elab.async false

/-! ### Small states -/

/-- The supervisor runs, and nothing more than after reset. -/
def wS : State := { pow := { phase := .s } }
/-- The inputs stage is over, the field is mated and the safety inputs are closed. -/
def wR : State := (((wS.put F.RND_STAT_STATE 1).putFlag F.AON_CONN_STAT_FLD_PRES true).putFlag F.AON_PIN_PHASE_FIELD_EN true)
/-- Domain `d` is on. -/
def wOn (d : Nat) : State := wS.setDom d .on
/-- The Separator is on and has been ready. -/
def wGv : State := let s := wOn 8; { s with pow := { s.pow with ready := 2 ^ 8 } }
/-- Domain `d` is waking. -/
def wWk (d : Nat) : State := wS.setDom d .waking
/-- Domain `d` is falling. -/
def wFl (d : Nat) : State := wS.setDom d .falling
/-- Hold-up: the module is up, and what the reset sets back is not at its reset value. -/
def wHu : State := (wR.putFlag F.AON_PIN_PHASE_HOLDUP true).put F.LSW_STAT_ON 0xFFFF
/-- A frame of host 2. -/
def wH : Hdr := ⟨2, 9, 3⟩
/-- The node answers, and host 2 has said HELLO with every feature and minor 3. -/
def wHb : State :=
  let s := (wR.putFlag F.MGT_STAT_ACTIVE true).put F.MGT_NEG_MINOR2 3
  (s.setHost 2 { feat := 0xFFFF }).put F.MGT_STW_ELIG_ELIG 0xFFFF
/-- Host 2 has a key too. -/
def wM : State := { wHb with mgt := { wHb.mgt with keys := ({} : Tab Bytes).set [] ⟨2, 0, 0⟩ (List.replicate 32 7) } }
/-- The inputs stage has not ended. -/
def wWt : State := { wS with rnd := { waits := true } }
/-- Host 2 is Steward. -/
def wT : State := { wM with lease := { held := true, holder := 2 } }
/-- Steward host 2, and a module whose main feed, harness and cartridge are there. -/
def wF : State := ((((wT.putFlag F.AON_SUP_STAT_MAIN_OK true).putFlag F.LSC_STAT_PRES true).putFlag F.AON_CONN_STAT_BJL_PRES true).putFlag
  F.AON_CONN_STAT_HPRES true).putFlag F.AON_SVC_STAT_CHAIN_READY true
/-- The core is up: port 0 carries transactions, is bound to every partition and holds a proof. -/
def wC : State :=
  let s := (((wOn 8).setDom 10 .on).put F.LNK_STAT_STATE lnkUp 0).put F.SEP_STW_PORTS_PORTS 0x3FFFF
  { (s.put F.SEP_PT_PORTS_ACTIVE 1 3).put F.SEP_PT_PORTS_ACTIVE 1 0 with pow := { s.pow with vat := .on } }
/-- Port 0 gives partition 3 a write of `d`. -/
def wW (d : Nat) : CoreWr := ⟨0, 3, 5, 255, BitVec.ofNat 64 d⟩
/-- Partition 3 is SEALED, and its P-page 0 lies in page 1. -/
def wV : State := ((wC.put F.SEP_PT_CTL_STATE ptSealed 3).setPage 1 { st := .mapped, valid := true, part := 3, ppage := 0 })
/-- Partition 3 is OPEN. -/
def wP : State := wC.put F.SEP_PT_CTL_STATE ptOpen 3
/-- A request of port 0 for partition 3 at `a`. -/
def wQ (a : Nat) : QHdr := ⟨0, 3, 7, BitVec.ofNat 64 a⟩

/-- A flit: eight bytes of header `w`, the payload, and the CRC. -/
def wFlit (w : Nat) (b : List Byte) : List Byte :=
  let c := leBytes 8 w ++ (b ++ List.replicate 116 0).take 116
  c ++ leBytes 4 (crc32 c)
/-- Host 2 has a key. -/
def wKy : State := wM
/-- A frame of host 2 under that key. -/
def wFrame : List Byte :=
  let h := [0x13, 0x01, 1, 2] ++ leBytes 4 9 ++ leBytes 4 0 ++ leBytes 4 0
  h ++ (hmac (List.replicate 32 7) h).take 16
/-- Port 0 with the state `p`. -/
def wN (p : Port) : State := wC.setPort 0 p
/-- Port `k` in state `x`. -/
def wLk (k x : Nat) : State := wC.put F.LNK_STAT_STATE x k
/-- Engine 0 is on. -/
def wE : State := wC.setDom 10 .on
/-- Port 0 is enabled in state `x`, and its engine's bank is lit. -/
def wPr (x : Nat) : State :=
  ((wE.putFlag F.LNK_CTL_EN true 0).put F.LNK_STAT_STATE x 0).setEng 0 { wE.eng 0 with bankOk := true }
/-- An instruction without tokens. -/
def wI (o r : Nat) : W128 := BitVec.ofNat 128 (o * 2 ^ 120 + (2 ^ 18 - 1) * 2 ^ 102 + r)
/-- An entry of the Parlour. -/
def wEnt (o r : Nat) : PEnt := { word := wI o r, ring := 7, idx := 0, slot := 0, lvl := 0 }
/-- One that has issued. -/
def wIss (o r d : Nat) : PEnt := { wEnt o r with issued := true, taken := true, done := d }
/-- Tile 63 of partition 3, in the state `x`. -/
def wTl (x : Tile) : State :=
  (((wV.setDom 22 .on).put F.SEP_PT_TILES_TILES (2 ^ 63) 3).put F.AON_SVC_STAT_COMPUTE 2).setTile 63 { x with groups := 255 }
/-- Tile 63 with entries `es`. -/
def wTe (es : List PEnt) : State := wTl { ents := es }
/-- Tile 63 in the state `x`, none of whose column groups is on. -/
def wTg (x : Tile) : State := (wTl x).setTile 63 { x with groups := 0 }
/-- A Pail report without an error. -/
def wRep : PailRep := ⟨0, 0, 0, false⟩
/-- Ring 7 of partition 3 holds one bundle for tile 63, at address 4096, with `b` there. -/
def wRg (b : Nat) (f : SubRing) : State :=
  let s := (((((wTe []).put F.SEP_RING_CFG_EN 1 7 3).put F.SEP_RING_CFG_SIZE 6 7 3).put F.SEP_RING_STAT_TAIL 1 7 3).put F.SEP_RING_BASE_BASE 1 7 3)
  (s.vwrite [] 4096 (pageSize + 4096) (leBytes 16 b)).setSring 3 7 { f with segs := [⟨63, 1⟩] }
/-- The string's domains are on, the chain stage has begun, and the chain stands at `h`. -/
def wHd (h : Herd) : State :=
  { ((wOn 4).setDom 5 .on).putFlag F.HRD_CTL_RUN true with herd := { h with stage := true }, tim := { optime := 600 } }
/-- A chain of 12 monitors, each awake and addressed by its position, with the chain at `h`. -/
def wCh (h : Herd) : State :=
  (List.range 12).foldl (fun s i => s.setMon (i + 1) { awake := true, addr := i + 1, hopA := i, hopB := 11 - i }) (wHd h)
/-- A whole line of 12 monitors, on which nothing else moves. -/
def wLn : MilkLine := ⟨12, 0, none, 0⟩
/-- A command of the Herd with SEQ 9, and an answer to it. -/
def wCmd (typ addr n : Nat) : MilkFrame := ⟨typ, addr, 9, List.replicate n 3⟩
def wAns (typ addr n : Nat) : List Byte := MilkFrame.bytes ⟨0x80 + typ, addr, 9, List.replicate n 5⟩
/-- Address 12 waits for SETUP, the last of a ring. -/
def wUp : Herd := { ph := .setup, todo := [12], k := 12, ring := true }
/-- The pack monitor samples every channel. -/
def wPk : State := (List.range 6).foldl (fun s c => s.putFlag F.PKM_CFG_EN true c) (wOn 5)
/-- A sequence stands at step `q`. -/
def wSq (q : Nat) : State := { (wR.put F.CTR_STAT_SEQ q) with ctr := { auxAt := some 0 } }
/-- The field works, and switch `n` is on. -/
def wSw (n : Nat) : State := (wR.putBitOf F.LSW_STAT_ON n true)

/-- A key holds switch 15 off. -/
def wHo : State := ((wT.put F.TCH_CFG_FN 2 3).put F.TCH_CFG_TGT 15 3).putBitOf F.AON_FRONT_STAT_TK_ACTIVE 3 true
/-- The MAC address of a node, that of the hosts' end of it, and the check sequence of host 2's frame to it. -/
def wMac : BitVec 48 := BitVec.ofNat 48 wKy.macAddr
def wFcs : BitVec 32 := BitVec.ofNat 32 (macFcs (macBody wMac.toNat 5 0x88B5 wFrame))
/-- A frame of host 2 waits for its decision. -/
def wDu : State := match exec (.frameReceive wMac 5 0x88B5 wFrame wFcs) wKy with
  | .next t => t
  | _ => wKy
/-- Host 3 has a key and every feature too, and may order switch 15 as host 2 may. -/
def wM2 : State :=
  let s := ((wM.setHost 3 { feat := 0xFFFF }).put F.MGT_NEG_MINOR3 3).putBitOf F.MGT_RIGHTS_LSW 15 true 3 |>.putBitOf F.MGT_RIGHTS_LSW 15 true 2
  { s with mgt := { s.mgt with keys := s.mgt.keys.set [] ⟨3, 0, 0⟩ (List.replicate 32 8) } }
/-- Of these, host 2 is Steward. -/
def wT2 : State := { wM2 with lease := { held := true, holder := 2 } }
/-- The lease of host 2 runs out in this tick. -/
def wLt : State := { wT with tim := { optime := 3000 } }

/-! ### Hand calculation from the specification -/

/-- 11 Example 11-2: the bytes of a slot, lowest first, and the fields they hold. -/
def exWord : W128 := BitVec.ofNat 128 0x28FFF140093FF1000040000002000000
theorem test_example_11_2_bytes : leBytes 16 exWord.toNat =
    [0x00, 0x00, 0x00, 0x02, 0x00, 0x00, 0x40, 0x00, 0x00, 0xF1, 0x3F, 0x09, 0x40, 0xF1, 0xFF, 0x28] := by decide +kernel
theorem test_example_11_2_fields : wOpc exWord = oMPASS ∧ wW0 exWord = 0x3F ∧ wW1 exWord = 0x3F ∧ wSg exWord = 5 ∧
    (passOf exWord).shape = 0 ∧ (passOf exWord).fmt = 0 ∧ (passOf exWord).sr = 0 ∧ (passOf exWord).acc = true ∧
    (passOf exWord).swp = true ∧ (passOf exWord).m = 1024 ∧ (passOf exWord).aadr = 64 * 0x1000 ∧ (passOf exWord).astr = 256 ∧
    (passOf exWord).crow = 0 ∧ (passOf exWord).pmask = 1 ∧ (passOf exWord).oadr = 0 ∧ (passOf exWord).rinc = false := by
  decide +kernel

/-- 10 Example 10-1: a = 0.75 gives the scale 124. -/
theorem test_example_10_1_scale : b4Scale 3 (-2) = 124 := by decide +kernel
/-- 10 Example 10-1: the elements 6, 2, -1 and 0 and their codes. -/
theorem test_example_10_1_codes : fE2M1.convert .rne (.fin false 6 0) = 7 ∧ fE2M1.convert .rne (.fin false 2 0) = 4 ∧
    fE2M1.convert .rne (.fin true 1 0) = 10 ∧ fE2M1.convert .rne (.fin false 0 0) = 0 := by decide +kernel

/-- 17 Example 17-1: one round of one cell. -/
def exModel : Model :=
  { id := 1, qnom := 360000, tbp := []
    ocv := List.replicate 72 0 ++ [52960, 52992] ++ List.replicate 73 0
    rs := List.replicate 77 300, rp := List.replicate 77 200, cp := List.replicate 77 15000 }
theorem test_example_17_1 :
    (stepCell exModel (3, 0) 20000 2000000 100000 (some 52480) { init := true, soc := 0x80000000 }).soc = 2144859320 ∧
    (stepCell exModel (3, 0) 20000 2000000 100000 (some 52480) { init := true, soc := 0x80000000 }).vp = 13760 := by
  decide +kernel

/-! ### Ill-formed commands, one for each check of WellFormed -/

theorem test_illFormed_payload : (Instr.frameReceive 0 0 0x88B5 (List.replicate 1501 0) 0).wellFormed = false := by decide +kernel
theorem test_illFormed_limits : (Instr.limitsetLoad wH (List.replicate 1469 0)).wellFormed = false := by decide +kernel
theorem test_illFormed_model : (Instr.modelLoad wH (List.replicate 1469 0)).wellFormed = false := by decide +kernel
theorem test_illFormed_safety : (Instr.safetyCfgLoad wH (List.replicate 1469 0)).wellFormed = false := by decide +kernel
theorem test_illFormed_key : (Instr.mgtKeyCommit wH true (List.replicate 31 0) 2).wellFormed = false := by decide +kernel
theorem test_illFormed_requester : (Instr.rsLowRead false 16 0x300).wellFormed = false := by decide +kernel
theorem test_illFormed_data : dataFits (List.replicate 65536 0) = false := by decide +kernel
theorem test_illFormed_flit : (Instr.flitReceive 0 (List.replicate 127 0)).wellFormed = false := by decide +kernel
theorem test_illFormed_lane : (Instr.laneLos 16 8).wellFormed = false ∧ (Instr.laneLosClear 16 8).wellFormed = false ∧
    (Instr.laneLock 17 8).wellFormed = false ∧ (Instr.laneLockLoss 17 8).wellFormed = false ∧
    (Instr.markerAligned 16 19).wellFormed = false ∧ (Instr.markerAlignmentLoss 16 19).wellFormed = false := by decide +kernel
theorem test_illFormed_tap : (Instr.dfeTapSaturated 0 0 2).wellFormed = false := by decide +kernel
theorem test_illFormed_measure : (Instr.syncMeasure 0 [] (List.replicate 4 0) false false).wellFormed = false := by
  decide +kernel
theorem test_illFormed_block : (Instr.quietExpiry 24 0).wellFormed = false ∧ (Instr.quietExpiry 18 8).wellFormed = false := by
  decide +kernel

/-! ### Witnesses of the whole-machine rules -/

theorem test_witness_StepTakesTheFrontCommand :
    (∃ (s : State) (c : Instr) (rest : List Instr), s.pending = c :: rest) ∧ (∃ s : State, s.pending = []) ∧
    (∃ s : State, s.pending = [] ∧ s.up = true ∧ s.dom 8 = .on) ∧ (∃ s : State, s.up = false ∨ s.dom 8 ≠ .on) :=
  ⟨⟨wS.withPending [.decisionTick], _, _, rfl⟩, ⟨wS, rfl⟩, ⟨wC, by decide +kernel⟩, ⟨wS, by decide +kernel⟩⟩
theorem test_witness_StepLeavesTheRestOfTheQueue : ∃ s t : State, step s = .next t ∧ s.pending.length = 2 :=
  ⟨wC.withPending [.laneLos 0 3, .decisionTick], _, rfl, rfl⟩
theorem test_witness_WellFormedCommandsGoOn :
    (∃ c : Instr, c.wellFormed = true) ∧ (∃ c : Instr, c.wellFormed = false) :=
  ⟨⟨.decisionTick, rfl⟩, ⟨.laneLos 16 8, by decide +kernel⟩⟩
theorem test_witness_StepKeepsCanonical : ∃ s t : State, s.canonical ∧ step s = .next t :=
  ⟨State.reset.withPending [.resetEnd], _, ⟨rfl, rfl, rfl, fun _ => ⟨rfl, rfl, rfl, rfl⟩⟩, rfl⟩
theorem test_witness_IdentificationRegistersNeverChange : ∃ s t : State, s.identified ∧ step s = .next t :=
  ⟨wS.withPending [.decisionTick], _, ⟨rfl, rfl, .inl rfl, rfl⟩, rfl⟩
theorem test_witness_UnpoweredModuleKeepsItsState :
    ∃ (s : State) (c : Instr), s.up = false ∧ c.wellFormed = true ∧ actsUnpowered c = false :=
  ⟨State.reset, .decisionTick, rfl, rfl, rfl⟩
theorem test_witness_frames :
    (∃ (c : Instr) (s t : State), familyOf c = .power ∧ exec c s = .next t) ∧
    (∃ (c : Instr) (s t : State), familyOf c = .safety ∧ exec c s = .next t) ∧
    (∃ (c : Instr) (s t : State), familyOf c = .pins ∧ exec c s = .next t) ∧
    (∃ (c : Instr) (s t : State), familyOf c = .recorder ∧ exec c s = .next t) ∧
    (∃ (c : Instr) (s t : State), familyOf c = .field ∧ exec c s = .next t) ∧
    (∃ (c : Instr) (s t : State), familyOf c = .ticks ∧ exec c s = .next t) ∧
    (∃ (c : Instr) (s t : State), familyOf c = .mailbox ∧ exec c s = .next t) ∧
    (∃ (c : Instr) (s t : State), familyOf c = .separator ∧ exec c s = .next t) ∧
    (∃ (c : Instr) (s t : State), familyOf c = .links ∧ exec c s = .next t) ∧
    (∃ (c : Instr) (s t : State), familyOf c = .tiles ∧ exec c s = .next t) ∧
    (∃ (c : Instr) (s t : State), familyOf c = .string ∧ exec c s = .next t) ∧
    (∃ (c : Instr) (s t : State), familyOf c = .reset ∧ exec c s = .next t ∧ s.lswOn 15 = true ∧ t.lswOn 15 = false) :=
  ⟨⟨.ck00Fail, wS, _, rfl, rfl⟩, ⟨.channelFault, wR, _, rfl, rfl⟩, ⟨.svcKeyChange true, wS, _, rfl, rfl⟩,
    ⟨.timeStoreWrite, wS, _, rfl, rfl⟩, ⟨.vfldRestore, wR, _, rfl, rfl⟩, ⟨.decisionTick, wS, _, rfl, rfl⟩,
    ⟨.caps wH, wM, _, rfl, rfl⟩, ⟨.wr (wQ 128) 15 15 (List.replicate 8 1), wV, _, rfl, rfl⟩, ⟨.retrain 0 7, wC, _, rfl, rfl⟩,
    ⟨.nop 63, wTe [wEnt oNOP 0], _, rfl, rfl⟩, ⟨.dropout, wSq 7, _, rfl, rfl⟩, ⟨.holdupEnd true, wHu, _, rfl, rfl, by decide +kernel, by decide +kernel⟩⟩
/-- A write of the Vat that changes bytes, in a page of partition 3. -/
theorem test_witness_RequestsReachOnlyTheirPartition :
    (∃ (q : QHdr) (s t : State), q.addr.toNat < globBase ∧ exec (.wr q 15 15 (List.replicate 8 1)) s = .next t ∧
      cellGet 0 (pageSize + 128) t.vmem.mem = 1) ∧
    (∃ (q : QHdr) (s t : State), q.addr.toNat < globBase ∧ exec (.rd q 64) s = .next t) :=
  ⟨⟨wQ 128, wV, _, by decide +kernel, rfl, by decide +kernel⟩, ⟨wQ 64, wV, _, by decide +kernel, rfl⟩⟩
theorem test_witness_TilesReachOnlyTheirPartition :
  (∃ s t : State, exec (.ldv 63 false 0) s = .next t) ∧
  (∃ s t : State, exec (.stv 63 true 1) s = .next t) ∧
  (∃ s t : State, exec (.cpl 63) s = .next t) ∧
  (∃ s t : State, exec (.ringFetch 3 63) s = .next t) ∧
  (∃ s t : State, exec (.rfence 3 7) s = .next t) :=
  ⟨⟨wTe [wEnt 0x10 0], _, rfl⟩,
  ⟨wTe [wIss 0x11 (2 ^ 101) 0], _, rfl⟩,
  ⟨wTe [wEnt oCPL 0], _, rfl⟩,
  ⟨wRg 0 {}, _, rfl⟩,
  ⟨wRg 0 { fenced := true }, _, rfl⟩⟩

/-! ### Witnesses: for each statement, each of its cases has a state that meets its hypotheses -/

theorem test_witness_AuxPowerAndPhases :
  (∃ (s : State), s.pow.phase = .u) ∧
  (∃ (s : State), s.pow.phase = .x) ∧
  (∃ (s : State), s.pow.phase = .x) ∧
  (∃ (s : State), s.up = true ∧ s.holdup = false) ∧
  (∃ (s : State) (high : Bool), s.holdup = true) ∧
  (∃ (s : State), s.up = true ∧ s.rnd.waits = true) ∧
  (∃ (s : State), s.up = true ∧ s.rnd.waits = true) ∧
  (∃ (s : State) (ok : Bool), s.up = true ∧ s.rnd.waits = false) ∧
  (∃ (s : State), s.up = true ∧ s.flag F.AON_SVC_STAT_REC_READY = false) :=
  ⟨⟨{ pow := { phase := .u } }, by decide +kernel⟩,
  ⟨State.reset, by decide +kernel⟩,
  ⟨State.reset, by decide +kernel⟩,
  ⟨wS, by decide +kernel⟩,
  ⟨wS.putFlag F.AON_PIN_PHASE_HOLDUP true, true, by decide +kernel⟩,
  ⟨wWt, by decide +kernel⟩,
  ⟨wWt, by decide +kernel⟩,
  ⟨wS, false, by decide +kernel⟩,
  ⟨wS, by decide +kernel⟩⟩

theorem test_witness_FeedAndDomainRowsTakeEffect :
  (∃ (s : State), s.up = true ∧ s.mainOk = true) ∧
  (∃ (s : State), s.up = true) ∧
  (∃ (s : State), s.up = true) ∧
  (∃ (s : State), s.up = true) ∧
  (∃ (s : State) (g : Fin 8), s.up = true ∧ s.fld F.AON_PD_CFG_TG_IDLE ≠ 0 ∧ s.tgReq g = true ∧ s.dom (15 + g) = .on ∧ s.groupIdle g = true ∧ s.held g = false) ∧
  (∃ (s : State) (e : Fin 4), s.up = true ∧ s.fld F.AON_PD_CFG_ENG_IDLE ≠ 0 ∧ s.engReq e = true ∧ (∀ k ∈ portsOf e, s.lnk k = lnkDown)) ∧
  (∃ (s : State), s.up = true ∧ s.dom 3 = .on ∧ s.recWanted = false) ∧
  (∃ (s : State), s.up = true ∧ s.herdDown = true ∧ s.flag F.AON_WAKE_CFG_MILK_EN = true ∧ s.dom 4 = .off ∧ s.gateOk = true) ∧
  (∃ (s : State), s.up = true ∧ s.herdDown = true ∧ s.flag F.AON_WAKE_CFG_MILK_EN = true ∧ s.dom 4 = .falling) ∧
  (∃ (s : State) (g : Fin 8), s.up = true ∧ s.dom (15 + g) = .on) :=
  ⟨⟨wS.putFlag F.AON_SUP_STAT_MAIN_OK true, by decide +kernel⟩,
  ⟨wS, by decide +kernel⟩,
  ⟨wS, by decide +kernel⟩,
  ⟨wS, by decide +kernel⟩,
  ⟨((wOn 22).put F.AON_PD_REQ_TG_REQ 128), 7, by decide +kernel⟩,
  ⟨wS.put F.AON_PD_REQ_ENG_REQ 8, 3, by decide +kernel⟩,
  ⟨wS.putFlag F.AON_SVC_STAT_REC_READY true, by decide +kernel⟩,
  ⟨((wS.setDom 4 .off).putFlag F.AON_WAKE_CFG_MILK_EN true).putFlag F.AON_PD_CFG_HERD_GATE true, by decide +kernel⟩,
  ⟨(((wOn 5).setDom 4 .falling).setDom 5 .falling).putFlag F.AON_WAKE_CFG_MILK_EN true, by decide +kernel⟩,
  ⟨wOn 15, 0, by decide +kernel⟩⟩

theorem test_witness_MonitorsAndLimitsTakeEffect :
  (∃ (s : State), s.up = true ∧ s.pow.slow = false) ∧
  (∃ (s : State), s.up = true) ∧
  (∃ (s : State), s.up = true ∧ s.pow.xsFail = false) ∧
  (∃ (s : State), s.up = true) ∧
  (∃ (s : State), s.up = true ∧ s.dom 8 = .on ∧ s.aonShadowed 0x03 = false) ∧
  (∃ (s : State), s.up = true ∧ s.dom 8 = .on ∧ s.aonShadowed 0x04 = false) ∧
  (∃ (s : State) (g : Fin 8), s.up = true ∧ s.dom (15 + g) = .on ∧ s.aonShadowed 0x05 = false) ∧
  (∃ (s : State) (g : Fin 8), s.up = true ∧ s.dom (15 + g) = .on ∧ s.aonShadowed 0x06 = false) ∧
  (∃ (s : State), s.up = true ∧ s.dom 8 = .on ∧ s.pow.hold = false) ∧
  (∃ (s : State), s.up = true ∧ s.dom 8 = .off) ∧
  (∃ (s : State), s.up = true ∧ s.pow.supHot = false) ∧
  (∃ (s : State), s.up = true ∧ s.pow.supHot = true) :=
  ⟨⟨wS, by decide +kernel⟩,
  ⟨wS, by decide +kernel⟩,
  ⟨wS, by decide +kernel⟩,
  ⟨wS, by decide +kernel⟩,
  ⟨wOn 8, by decide +kernel⟩,
  ⟨wOn 8, by decide +kernel⟩,
  ⟨wOn 22, 7, by decide +kernel⟩,
  ⟨wOn 15, 0, by decide +kernel⟩,
  ⟨wOn 8, by decide +kernel⟩,
  ⟨wS, by decide +kernel⟩,
  ⟨wS, by decide +kernel⟩,
  ⟨{ pow := { phase := .s, supHot := true } }, by decide +kernel⟩⟩

theorem test_witness_DomainsComeUpAndGoDown :
  (∃ (s : State) (g : Fin 8) (d : Fin 23), s.up = true ∧ d.val = 15 + g.val ∧ s.dom d = .waking ∧ hasBit s.qual.requal g = false ∧ s.held g = false) ∧
  (∃ (s : State) (g : Fin 8) (d : Fin 23), s.up = true ∧ d.val = 15 + g.val ∧ s.dom d = .falling) ∧
  (∃ (s : State), s.up = true ∧ s.dom 8 = .waking) ∧
  (∃ (s : State), s.up = true ∧ s.dom 8 = .falling ∧ s.depsOff = true) ∧
  (∃ (s : State), s.up = true ∧ s.dom 14 = .falling) :=
  ⟨⟨wWk 22, 7, 22, by decide +kernel⟩,
  ⟨wFl 15, 0, 15, by decide +kernel⟩,
  ⟨wWk 8, by decide +kernel⟩,
  ⟨wFl 8, by decide +kernel⟩,
  ⟨wFl 14, by decide +kernel⟩⟩

theorem test_witness_QualificationRowsTakeEffect :
  (∃ (s : State) (g : Fin 8) (rows : BitVec 32) (cols : BitVec 32), s.up = true ∧ s.qualOf g = .selftest ∧ s.dom (15 + g) = .on ∧ (∃ j : Fin 8, s.fused.contains (8 * g + j) = false ∧ (4 < bitField rows.toNat (4 * j) 4 ∨ 4 < bitField cols.toNat (4 * j) 4))) ∧
  (∃ (s : State) (g : Fin 8) (rows : BitVec 32) (cols : BitVec 32), s.up = true ∧ s.qualOf g = .selftest ∧ s.dom (15 + g) = .on ∧ (∀ j : Fin 8, s.fused.contains (8 * g + j) = false → bitField rows.toNat (4 * j) 4 ≤ 4 ∧ bitField cols.toNat (4 * j) 4 ≤ 4)) ∧
  (∃ (s : State) (g : Fin 8), s.up = true ∧ s.qualOf g = .ramping ∧ s.dom (15 + g) = .on) ∧
  (∃ (s : State) (g : Fin 8), s.up = true ∧ s.qualOf g = .ramping ∧ s.dom (15 + g) = .on) :=
  ⟨⟨{ wOn 15 with qual := { st := ({} : Tab QualSt).set .idle ⟨0, 0, 0⟩ .selftest } }, 0, 5, 0, by decide +kernel⟩,
  ⟨{ wOn 22 with qual := { st := ({} : Tab QualSt).set .idle ⟨7, 0, 0⟩ .selftest }, fused := [56] }, 7, 0x4444444F, 4, by decide +kernel⟩,
  ⟨{ wOn 15 with qual := { st := ({} : Tab QualSt).set .idle ⟨0, 0, 0⟩ .ramping } }, 0, by decide +kernel⟩,
  ⟨{ wOn 22 with qual := { st := ({} : Tab QualSt).set .idle ⟨7, 0, 0⟩ .ramping } }, 7, by decide +kernel⟩⟩

theorem test_witness_SafetyInputRowsTakeEffect :
  (∃ (s : State) (n : Fin 8), s.up = true ∧ s.flag F.AON_CONN_STAT_FLD_PRES = true ∧ s.fld F.RND_STAT_STATE ≠ 0 ∧ s.siType n ≠ 0) ∧
  (∃ (s : State) (n : Fin 8), s.up = true ∧ s.flag F.AON_CONN_STAT_FLD_PRES = true ∧ s.fld F.RND_STAT_STATE ≠ 0 ∧ s.flag F.RND_STAT_CFG_BAD = false ∧ s.siFault n = false) ∧
  (∃ (s : State) (n : Fin 8), s.up = true ∧ s.siType n ≠ 0 ∧ s.bit F.RND_SI_FLT_SHORT n = false ∧ s.fld F.RND_STAT_STATE ≠ 0) ∧
  (∃ (s : State) (n : Fin 8), s.up = true ∧ s.siType n ≠ 0 ∧ s.bit F.RND_SI_FLT_CROSS n = false ∧ s.fld F.RND_STAT_STATE ≠ 0) ∧
  (∃ (s : State) (n : Fin 8), s.up = true ∧ s.siType n ≠ 0 ∧ s.contactDemand n false ≠ s.contactDemand n true ∧ s.bit F.RND_SI_FLT_DISCREP n = false ∧ s.fld F.RND_STAT_STATE ≠ 0) ∧
  (∃ (s : State), s.up = true ∧ s.rindSafe = false) ∧
  (∃ (s : State), s.up = true ∧ s.rindSafe = false) ∧
  (∃ (s : State), s.up = true ∧ s.rindSafe = false) :=
  ⟨⟨wR, 7, by decide +kernel⟩,
  ⟨wR, 0, by decide +kernel⟩,
  ⟨wR, 0, by decide +kernel⟩,
  ⟨wR, 7, by decide +kernel⟩,
  ⟨(wR.put F.RND_SI_STAT_CA 1).put F.RND_SI_STAT_CB 0, 0, by decide +kernel⟩,
  ⟨wR, by decide +kernel⟩,
  ⟨wR, by decide +kernel⟩,
  ⟨wR, by decide +kernel⟩⟩

theorem test_witness_StoRowsTakeEffect :
  (∃ (s : State) (k : Fin 2) (e : Fin 3), s.up = true ∧ s.bit F.RND_STO_STAT_ON k = true ∧ ((e.val = 2 → s.bit F.RND_STO_STAT_MODE k = false)) ∧ s.bit F.RND_STO_STAT_STO_FLT k = false) ∧
  (∃ (s : State) (k : Fin 2), s.up = true ∧ s.bit F.RND_STO_STAT_ON k = false) ∧
  (∃ (s : State) (k : Fin 2), s.up = true ∧ s.bit F.RND_STO_STAT_ON k = false) ∧
  (∃ (s : State) (k : Fin 2), s.up = true ∧ s.bit F.RND_STO_STAT_ON k = true ∧ s.bit F.RND_STO_STAT_STO_FLT k = false) ∧
  (∃ (s : State) (k : Fin 2), s.up = true ∧ s.fld F.RND_STAT_STATE = 1 ∧ s.bit F.RND_ACT_FUNC k = false ∧ s.bit F.RND_STO_STAT_STO_FLT k = false ∧ s.bit F.RND_STO_STAT_PERM k = true ∧ s.bit F.AON_STO_REQ_ON k = true ∧ s.flag F.AON_PIN_PHASE_FIELD_EN = true ∧ s.holdup = false ∧ s.bit F.RND_STO_STAT_ON k = false) :=
  ⟨⟨wR.put F.RND_STO_STAT_ON 2, 1, 2, by decide +kernel⟩,
  ⟨wR, 0, by decide +kernel⟩,
  ⟨wR, 1, by decide +kernel⟩,
  ⟨wR.put F.RND_STO_STAT_ON 1, 0, by decide +kernel⟩,
  ⟨(wR.put F.RND_STO_STAT_PERM 2).put F.AON_STO_REQ_ON 2, 1, by decide +kernel⟩⟩

theorem test_witness_PinRowsTakeEffect :
  (∃ (s : State) (read : BitVec 2), s.up = true ∧ read.toNat ≠ s.pairDriven ∧ s.flag F.AON_CONN_STAT_FLT_WIRE = false) ∧
  (∃ (s : State) (read : BitVec 2), s.up = true ∧ read.toNat = s.pairDriven) :=
  ⟨⟨wS, 0, by decide +kernel⟩,
  ⟨wS, BitVec.ofNat 2 wS.pairDriven, by decide +kernel⟩⟩

theorem test_witness_RecorderAndTimeRowsTakeEffect :
  (∃ (s : State), s.up = true ∧ s.canProg = true) ∧
  (∃ (s : State), s.up = true ∧ s.rcd.prog.isSome = true) ∧
  (∃ (s : State), s.up = true ∧ s.rcd.erase.isSome = true) ∧
  (∃ (s : State) (e : Nat), s.up = true ∧ s.rcd.erase = some e ∧ s.rcd.eraseRetry = false) ∧
  (∃ (s : State), s.up = true ∧ s.tim.optime % 600000 = 0 ∧ s.tim.optime ≠ 0) ∧
  (∃ (s : State) (n : Fin 4), s.up = true ∧ s.fld F.TIM_GC_CFG_SRC n ≠ 0 ∧ s.gc n = 2 ^ 48 - 1) ∧
  (∃ (s : State), s.up = true) :=
  ⟨⟨{ wS.putFlag F.AON_SVC_STAT_REC_READY true with rcd := { queue := [⟨0, 0, 1, 0, 3, []⟩] } }, by decide +kernel⟩,
  ⟨{ wS with rcd := { prog := some (0, [(0, ⟨0, 0, 1, 0, 3, []⟩)]) } }, by decide +kernel⟩,
  ⟨{ wS with rcd := { erase := some 3 } }, by decide +kernel⟩,
  ⟨{ wS with rcd := { erase := some 3 } }, 3, by decide +kernel⟩,
  ⟨{ wS with tim := { optime := 600000 } }, by decide +kernel⟩,
  ⟨{ wS.put F.TIM_GC_CFG_SRC 1 3 with tim := { gc := ({} : Tab Nat).set 0 ⟨3, 0, 0⟩ (2 ^ 48 - 1) } }, 3, by decide +kernel⟩,
  ⟨wS, by decide +kernel⟩⟩

theorem test_witness_ReadMessagesAnswer :
  (∃ (s : State) (h : Hdr), s.hears h .caps) ∧
  (∃ (s : State) (h : Hdr), s.hears h .timeRead) ∧
  (∃ (s : State) (h : Hdr), s.hearsBare h) ∧
  (∃ (s : State) (h : Hdr) (idx : BitVec 16) (n : Byte), 1 ≤ n.toNat ∧ n.toNat ≤ 64 ∧ idx.toNat + n.toNat ≤ 0xFFFF ∧ s.hears h (.regRead idx.toNat n.toNat)) ∧
  (∃ (s : State) (h : Hdr) (start : BitVec 32) (n : Byte), 1 ≤ n.toNat ∧ n.toNat ≤ 20 ∧ s.hears h (.recordRead start.toNat n.toNat) ∧ s.flag F.AON_SVC_STAT_REC_READY = true) ∧
  (∃ (s : State) (h : Hdr), s.hears h .safetyCfgRead) :=
  ⟨⟨wM, wH, by constructor <;> decide +kernel⟩,
  ⟨wM, wH, by constructor <;> decide +kernel⟩,
  ⟨wHb, wH, by constructor <;> decide +kernel⟩,
  ⟨wM, wH, 0xFFFE, 1, by decide +kernel, by decide +kernel, by decide +kernel, by constructor <;> decide +kernel⟩,
  ⟨wM.putFlag F.AON_SVC_STAT_REC_READY true, wH, 0, 20, by decide +kernel, by decide +kernel, by constructor <;> decide +kernel, by decide +kernel⟩,
  ⟨wM, wH, by constructor <;> decide +kernel⟩⟩

theorem test_witness_LeaseRowsTakeEffect :
  (∃ (s : State) (h : Hdr), s.hears h (.claim false) ∧ s.claimOk h.host false = true ∧ s.lease.held = false) ∧
  (∃ (s : State) (h : Hdr), s.hears h (.claim true) ∧ 1 ≤ s.minorFor h ∧ s.claimOk h.host true = true) ∧
  (∃ (s : State) (h : Hdr), s.hears h (.claim false) ∧ s.claimOk h.host false = true ∧ s.lease.held = true ∧ s.lease.holder ≠ h.host) ∧
  (∃ (s : State) (h : Hdr), s.hears h (.claim false) ∧ s.claimOk h.host false = false) ∧
  (∃ (s : State) (h : Hdr), s.hears h .renew ∧ s.isSteward h.host = true) ∧
  (∃ (s : State) (h : Hdr), s.hears h .renew ∧ s.isSteward h.host = false) ∧
  (∃ (s : State) (h : Hdr), s.hears h .release ∧ s.isSteward h.host = true) ∧
  (∃ (s : State) (h : Hdr), s.up = true ∧ s.nodeUp = true ∧ (s.keyOf h.host).isEmpty = true ∧ (s.host h.host).authReplied = false ∧ s.mgt.rxq.length < 64) ∧
  (∃ (s : State), s.up = true ∧ s.lease.held = true) :=
  ⟨⟨wM, wH, by constructor <;> decide +kernel, by decide +kernel, by decide +kernel⟩,
  ⟨wM.putFlag F.AON_FRONT_STAT_SVC_KEY true, wH, by constructor <;> decide +kernel, by decide +kernel, by decide +kernel⟩,
  ⟨{ wM with lease := { held := true, holder := 3 } }, wH, by constructor <;> decide +kernel, by decide +kernel, by decide +kernel, by decide +kernel⟩,
  ⟨wM.put F.MGT_STW_ELIG_ELIG 0, wH, by constructor <;> decide +kernel, by decide +kernel⟩,
  ⟨wT, wH, by constructor <;> decide +kernel, by decide +kernel⟩,
  ⟨wM, wH, by constructor <;> decide +kernel, by decide +kernel⟩,
  ⟨wT, wH, by constructor <;> decide +kernel, by decide +kernel⟩,
  ⟨wHb, wH, by decide +kernel⟩,
  ⟨wT, by decide +kernel⟩⟩

theorem test_witness_PowerAndLoadMessagesTakeEffect :
  (∃ (s : State) (h : Hdr) (feat : BitVec 128), s.hears h (.hello feat.toNat)) ∧
  (∃ (s : State) (h : Hdr) (mask : BitVec 32), s.hears h (.wake mask.toNat) ∧ s.isSteward h.host = true ∧ s.coreRefused = false ∧ s.engRefused = false ∧ (∀ n : Fin 23, s.hadRefused n = false)) ∧
  (∃ (s : State) (h : Hdr) (mask : BitVec 32), s.hears h (.wake mask.toNat) ∧ s.isSteward h.host = true ∧ hasBit mask.toNat 8 = true ∧ (s.coreRefused = true ∨ (∀ n : Fin 23, 8 ≤ n.val → n.val ≠ 14 → s.hadRefused n = true))) ∧
  (∃ (s : State) (h : Hdr) (mask : BitVec 32) (vat : Byte), vat.toNat ≤ 2 ∧ s.hears h (.sleepHint mask.toNat vat.toNat false) ∧ s.isSteward h.host = true) ∧
  (∃ (s : State) (h : Hdr) (p : BitVec 16) (r : BitVec 16), p.toNat ≤ 420 ∧ s.hears h (.powerShare (10 * p.toNat) r.toNat) ∧ s.isSteward h.host = true) ∧
  (∃ (s : State) (h : Hdr) (b : List Byte), bodyFits b = true ∧ s.hears h (.limitsetLoad b) ∧ s.isSteward h.host = true ∧ s.flag F.AON_SVC_STAT_CHAIN_READY = true) ∧
  (∃ (s : State) (h : Hdr) (b : List Byte), bodyFits b = true ∧ s.hears h (.modelLoad b) ∧ s.isSteward h.host = true ∧ s.flag F.AON_SVC_STAT_CHAIN_READY = true) ∧
  (∃ (s : State) (h : Hdr) (b : List Byte), bodyFits b = true ∧ s.hears h (.safetyCfgLoad b) ∧ s.isSteward h.host = true) :=
  ⟨⟨wM, wH, 511, by constructor <;> decide +kernel⟩,
  ⟨wF, wH, 0xFFFFFFFF, by constructor <;> decide +kernel, by decide +kernel, by decide +kernel, by decide +kernel, by decide +kernel⟩,
  ⟨wT, wH, 0x100, by constructor <;> decide +kernel, by decide +kernel, by decide +kernel, by decide +kernel⟩,
  ⟨wT, wH, 0x100, 2, by decide +kernel, by constructor <;> decide +kernel, by decide +kernel⟩,
  ⟨wT, wH, 420, 0xFFFF, by decide +kernel, by constructor <;> decide +kernel, by decide +kernel⟩,
  ⟨wF, wH, [1], by decide +kernel, by constructor <;> decide +kernel, by decide +kernel, by decide +kernel⟩,
  ⟨wF, wH, [1], by decide +kernel, by constructor <;> decide +kernel, by decide +kernel, by decide +kernel⟩,
  ⟨wT, wH, [1], by decide +kernel, by constructor <;> decide +kernel, by decide +kernel⟩⟩

theorem test_witness_OutputOrdersTakeEffect :
  (∃ (s : State) (h : Hdr) (force : Bool), s.hears h (mkContactor (s.minorFor h) 3 0 force) ∧ (s.isSteward h.host = true ∨ s.bit F.MGT_RIGHTS_CT 3 h.host = true)) ∧
  (∃ (s : State) (h : Hdr) (c : Fin 4), c.val < 3 ∧ 1 ≤ s.minorFor h ∧ s.hears h (.contactorCmd c false true) ∧ s.isSteward h.host = true) ∧
  (∃ (s : State) (h : Hdr) (c : Fin 4), c.val < 3 ∧ s.hears h (.contactorCmd c false false) ∧ (s.isSteward h.host = true ∨ s.bit F.MGT_RIGHTS_CT c h.host = true) ∧ s.seq = 7 ∧ s.pack.iMean.natAbs ≤ 1000 * s.est.lim.breakLim) ∧
  (∃ (s : State) (h : Hdr) (c : Fin 4), c.val < 3 ∧ s.hears h (.contactorCmd c false false) ∧ (s.isSteward h.host = true ∨ s.bit F.MGT_RIGHTS_CT c h.host = true) ∧ s.seq = 7 ∧ 1000 * s.est.lim.breakLim < s.pack.iMean.natAbs ∧ s.est.lim.brkWait ≠ 0) ∧
  (∃ (s : State) (h : Hdr) (c : Fin 4) (force : Bool), c.val < 3 ∧ s.hears h (mkContactor (s.minorFor h) c 1 force) ∧ (s.isSteward h.host = true ∨ s.bit F.MGT_RIGHTS_CT c h.host = true) ∧ s.flag F.AON_SVC_STAT_CHAIN_READY = true ∧ s.closeRefusal c = none ∧ s.seq = 0 ∧ s.dom 4 = .on ∧ s.fld F.CTR_STAT_AUX = 0) ∧
  (∃ (s : State) (h : Hdr) (n : Fin 16) (ilim : BitVec 16) (blank : Byte), s.hears h (mkLsw (s.minorFor h) n 0 false ilim.toNat blank.toNat) ∧ (s.isSteward h.host = true ∨ s.bit F.MGT_RIGHTS_LSW n h.host = true)) ∧
  (∃ (s : State) (h : Hdr) (n : Fin 16) (ilim : BitVec 16) (blank : Byte), 2 ≤ s.minorFor h ∧ s.hears h (.lswCmd n true true ilim.toNat blank.toNat) ∧ (s.isSteward h.host = true ∨ s.bit F.MGT_RIGHTS_LSW n h.host = true) ∧ s.flag F.AON_PIN_PHASE_FIELD_EN = true ∧ s.lswHeld n = false ∧ s.flag F.AON_CONN_STAT_FLD_PRES = true ∧ s.heldOff n = false ∧ hasBit s.field.thermal n = false ∧ s.lswOn n = false ∧ s.flag F.LSW_SUP_STAT_VFLD_UV = false ∧ s.supHeld = false) ∧
  (∃ (s : State) (h : Hdr) (n : Fin 4) (ua : BitVec 32), s.hears h (.loopSet n ua.toNat) ∧ (s.isSteward h.host = true ∨ s.bit F.MGT_RIGHTS_LOOP n h.host = true) ∧ s.flag F.AON_PIN_PHASE_FIELD_EN = true ∧ s.flag F.AON_CONN_STAT_FLD_PRES = true ∧ s.supHeld = false) ∧
  (∃ (s : State) (h : Hdr) (n : Fin 16) (cfg : Bool) (ilim : BitVec 16) (blank : Byte), s.hears h (mkLsw (s.minorFor h) n 1 cfg ilim.toNat blank.toNat) ∧ (s.isSteward h.host = true ∨ s.bit F.MGT_RIGHTS_LSW n h.host = true) ∧ s.lswHeld n = false ∧ s.supHeld = true) ∧
  (∃ (s : State) (h : Hdr) (n : Fin 4) (ua : BitVec 32), s.hears h (.loopSet n ua.toNat) ∧ (s.isSteward h.host = true ∨ s.bit F.MGT_RIGHTS_LOOP n h.host = true) ∧ s.supHeld = true) ∧
  (∃ (s : State) (h : Hdr), s.hears h (.faultAck bCTR 0) ∧ s.isSteward h.host = true ∧ (s.flag F.CTR_EVT_DOUBLE_WELD = false ∨ s.iNow.natAbs ≤ 2000)) ∧
  (∃ (s : State) (h : Hdr) (code : Byte) (inst : Byte), s.hears h (.faultAck code.toNat inst.toNat) ∧ s.blockExists code.toNat inst.toNat = true ∧ s.isSteward h.host = false) :=
  ⟨⟨wT, wH, true, by constructor <;> decide +kernel, by decide +kernel⟩,
  ⟨wT, wH, 2, by decide +kernel, by decide +kernel, by constructor <;> decide +kernel, by decide +kernel⟩,
  ⟨wT.put F.CTR_STAT_SEQ 7, wH, 0, by decide +kernel, by constructor <;> decide +kernel, by decide +kernel, by decide +kernel, by decide +kernel⟩,
  ⟨{ wT.put F.CTR_STAT_SEQ 7 with pack := { iMean := -70000 }, est := { lim := { wT.est.lim with breakLim := 5, brkWait := 100 } } }, wH, 0, by decide +kernel, by constructor <;> decide +kernel, by decide +kernel, by decide +kernel, by decide +kernel, by decide +kernel⟩,
  ⟨{ (wF.setDom 4 .on).put F.PKM_SAMP_WORD (mkWord stVALID 0) 2 with ctr := { inhibit := 0 } }, wH, 2, false, by decide +kernel, by constructor <;> decide +kernel, by decide +kernel, by decide +kernel, by decide +kernel, by decide +kernel, by decide +kernel, by decide +kernel⟩,
  ⟨wT, wH, 15, 3, 4, by constructor <;> decide +kernel, by decide +kernel⟩,
  ⟨wT, wH, 15, 200, 250, by decide +kernel, by constructor <;> decide +kernel, by decide +kernel, by decide +kernel, by decide +kernel, by decide +kernel, by decide +kernel, by decide +kernel, by decide +kernel, by decide +kernel, by decide +kernel⟩,
  ⟨wT, wH, 3, 50000, by constructor <;> decide +kernel, by decide +kernel, by decide +kernel, by decide +kernel, by decide +kernel⟩,
  ⟨{ wT.putFlag F.AON_PIN_PHASE_FIELD_EN false with pow := { wT.pow with supHot := true } }, wH, 15, true, 200, 250, by constructor <;> decide +kernel, by decide +kernel, by decide +kernel, by decide +kernel⟩,
  ⟨{ wT.putFlag F.AON_PIN_PHASE_FIELD_EN false with pow := { wT.pow with supHot := true } }, wH, 3, 50000, by constructor <;> decide +kernel, by decide +kernel, by decide +kernel⟩,
  ⟨wT, wH, by constructor <;> decide +kernel, by decide +kernel, by decide +kernel⟩,
  ⟨wM, wH, 23, 63, by constructor <;> decide +kernel, by decide +kernel, by decide +kernel⟩⟩

theorem test_witness_RegisterWritesTakeEffect :
  (∃ (s : State) (h : Hdr) (host : Fin 16) (v : BitVec 32), s.hears h (.regWrite (0x1420 + host) [v]) ∧ s.isSteward h.host = true) ∧
  (∃ (s : State) (h : Hdr) (v : BitVec 32), s.hears h (.regWrite 0x101 [v]) ∧ s.isSteward h.host = true ∧ s.coreRefused = false ∧ s.engRefused = false ∧ (∀ n : Fin 23, s.hadRefused n = false)) ∧
  (∃ (s : State) (h : Hdr) (g : Fin 8) (v : BitVec 32), s.hears h (.regWrite (0x200 + g) [v]) ∧ s.isSteward h.host = true) ∧
  (∃ (s : State) (h : Hdr) (v : BitVec 32), s.hears h (.regWrite 0x1401 [v]) ∧ s.isSteward h.host = true) ∧
  (∃ (s : State) (h : Hdr) (idx : BitVec 16) (vs : List (BitVec 32)), 1 ≤ vs.length ∧ vs.length ≤ 64 ∧ idx.toNat + vs.length ≤ 0xFFFF ∧ keyTouch idx.toNat vs.length = false ∧ s.hears h (.regWrite idx.toNat vs) ∧ s.isSteward h.host = false) ∧
  (∃ (s : State) (h : Hdr) (auth : Bool) (key : List Byte), key.length = 32 ∧ s.hears h (.regWrite 0x1440 (loadWords key h.host)) auth ∧ (auth = false → s.flag F.AON_FRONT_STAT_SVC_KEY = true) ∧ s.mgt.keyNext = [] ∧ auth = true) ∧
  (∃ (s : State) (h : Hdr) (auth : Bool) (key : List Byte), key.length = 32 ∧ s.hears h (.regWrite 0x1440 (loadWords key h.host)) auth ∧ (auth = false → s.flag F.AON_FRONT_STAT_SVC_KEY = true) ∧ s.mgt.keyNext = [] ∧ auth = false) ∧
  (∃ (s : State) (h : Hdr) (slot : Fin 16), s.hears h (.regWrite 0x1448 [BitVec.ofNat 32 (slot.val * 2 ^ 16 + 2)]) ∧ s.isSteward h.host = true ∧ s.flag F.AON_FRONT_STAT_SVC_KEY = true ∧ s.mgt.keyNext = []) ∧
  (∃ (s : State) (h : Hdr) (v : BitVec 32), s.hears h (.regWrite 0x800 [v]) ∧ s.isSteward h.host = true) ∧
  (∃ (s : State) (h : Hdr) (v : BitVec 32), s.hears h (.regWrite 0x800 [v]) ∧ s.isSteward h.host = true) ∧
  (∃ (s : State) (h : Hdr) (c : Fin 6) (v : BitVec 32), s.hears h (.regWrite (0xA00 + c) [v]) ∧ s.isSteward h.host = true) ∧
  (∃ (s : State) (h : Hdr), s.hears h (.regWrite 0xC17 [1]) ∧ s.isSteward h.host = true) ∧
  (∃ (s : State) (h : Hdr), s.hears h (.regWrite 0xC17 [2]) ∧ s.isSteward h.host = true) ∧
  (∃ (s : State) (h : Hdr) (on : BitVec 2), s.hears h (.regWrite 0x150 [BitVec.ofNat 32 on.toNat]) ∧ s.isSteward h.host = true) ∧
  (∃ (s : State) (h : Hdr) (k : Fin 2), s.hears h (.regWrite 0x150 [BitVec.ofNat 32 ((2 ^ k.val) * 4 + s.fld F.AON_STO_REQ_ON)]) ∧ s.isSteward h.host = true ∧ s.rnd.cfg.rstSrc = 0 ∧ s.fld F.RND_STAT_STATE = 1 ∧ s.funcHeld k = false ∧ s.bit F.RND_STO_STAT_STO_FLT k = false ∧ s.bit F.AON_STO_REQ_ON k = true) ∧
  (∃ (s : State) (h : Hdr) (n : Fin 4) (v : BitVec 32), s.hears h (.regWrite (0x323 + 4 * n) [v]) ∧ s.isSteward h.host = true) ∧
  (∃ (s : State) (h : Hdr) (n : Fin 4) (v : BitVec 32), s.hears h (.regWrite (0x322 + 4 * n) [v]) ∧ s.isSteward h.host = true) :=
  ⟨⟨wT, wH, 15, 0x12345678, by constructor <;> decide +kernel, by decide +kernel⟩,
  ⟨wF, wH, 0xFFFFFFFF, by constructor <;> decide +kernel, by decide +kernel, by decide +kernel, by decide +kernel, by decide +kernel⟩,
  ⟨wT, wH, 7, 3, by constructor <;> decide +kernel, by decide +kernel⟩,
  ⟨wT, wH, 0x12345600, by constructor <;> decide +kernel, by decide +kernel⟩,
  ⟨wM, wH, 0x1420, [1], by decide +kernel, by decide +kernel, by decide +kernel, by decide +kernel, by constructor <;> decide +kernel, by decide +kernel⟩,
  ⟨wM, wH, true, List.replicate 32 9, by decide +kernel, by constructor <;> decide +kernel, by decide +kernel, by decide +kernel, rfl⟩,
  ⟨wHb.putFlag F.AON_FRONT_STAT_SVC_KEY true, wH, false, List.replicate 32 9, by decide +kernel, by constructor <;> decide +kernel, by decide +kernel, by decide +kernel, rfl⟩,
  ⟨wT.putFlag F.AON_FRONT_STAT_SVC_KEY true, wH, 15, by constructor <;> decide +kernel, by decide +kernel, by decide +kernel, by decide +kernel⟩,
  ⟨wT, wH, 2, by constructor <;> decide +kernel, by decide +kernel⟩,
  ⟨wT, wH, 1, by constructor <;> decide +kernel, by decide +kernel⟩,
  ⟨wT, wH, 5, 0x137, by constructor <;> decide +kernel, by decide +kernel⟩,
  ⟨wT, wH, by constructor <;> decide +kernel, by decide +kernel⟩,
  ⟨wT, wH, by constructor <;> decide +kernel, by decide +kernel⟩,
  ⟨wT, wH, 3, by constructor <;> decide +kernel, by decide +kernel⟩,
  ⟨wT.put F.AON_STO_REQ_ON 3, wH, 1, by constructor <;> decide +kernel, by decide +kernel, by decide +kernel, by decide +kernel, by decide +kernel, by decide +kernel, by decide +kernel⟩,
  ⟨wT, wH, 3, 0x1234, by constructor <;> decide +kernel, by decide +kernel⟩,
  ⟨wT, wH, 0, 0x1234, by constructor <;> decide +kernel, by decide +kernel⟩⟩

theorem test_witness_SeparatorRowsTakeEffect :
  (∃ (s : State) (w : CoreWr) (p : Fin 16), s.coreServes w (globBase + 0x10000 + 0x100 * p) ∧ s.ptState p = ptDisabled ∧ bitField w.data.toNat F.SEP_PT_CTL_OPEN.lsb 1 = 1) ∧
  (∃ (s : State) (w : CoreWr) (p : Fin 16), s.coreServes w (globBase + 0x10000 + 0x100 * p) ∧ (s.ptState p = ptOpen ∨ s.ptState p = ptSealed) ∧ bitField w.data.toNat F.SEP_PT_CTL_RECLAIM.lsb 1 = 1) ∧
  (∃ (s : State) (w : CoreWr) (p : Fin 16), s.coreServes w (globBase + 0x10000 + 0x100 * p + 8) ∧ s.ptState p ≠ ptReclaim) ∧
  (∃ (s : State) (w : CoreWr) (p : Fin 16), s.coreServes w (globBase + 0x10000 + 0x100 * p + 0x18)) ∧
  (∃ (s : State) (w : CoreWr) (i : Fin 147456), s.coreServes w (globBase + 0x100000 + 8 * i) ∧ (s.page i).valid = false ∧ (s.page i).st = .free ∧ (s.page i).clean = true ∧ hasBit w.data.toNat 63 = true ∧ s.entryBad i (bitField w.data.toNat 48 4) (bitField w.data.toNat 0 18) = false ∧ s.ptState (bitField w.data.toNat 48 4) ≠ ptReclaim) ∧
  (∃ (s : State) (w : CoreWr), s.coreServes w (globBase + 0x100) ∧ s.lease.held = true ∧ w.data.toNat = s.proofOf w.port) ∧
  (∃ (s : State) (w : CoreWr), s.coreServes w (globBase + 0x100) ∧ (s.lease.held = false ∨ w.data.toNat ≠ s.proofOf w.port)) ∧
  (∃ (s : State) (w : CoreWr) (port : Fin 18), s.coreServes w (partBase + 0x2008) ∧ s.ptState w.part = ptSealed ∧ bitField w.data.toNat F.SEP_PC_ADMIT_PORT.lsb F.SEP_PC_ADMIT_PORT.width = port ∧ s.bit F.SEP_PT_PORTS_REQ port w.part = true) ∧
  (∃ (s : State) (i : Fin 147456), s.up = true ∧ s.pow.vat = .on ∧ s.vmem.clears.head? = some i.val ∧ s.waiting = [] ∧ s.badUnits i = []) ∧
  (∃ (s : State) (n : Fin 64), s.up = true ∧ (s.tile n).zeroing = true ∧ s.waiting = []) ∧
  (∃ (s : State) (w : CoreWr) (idx : BitVec 16), s.up = true ∧ s.live w.port = true ∧ w.be = 255 ∧ idx.toNat < 0x10000 ∧ s.qRefused w.port (coreReq w (globBase + 0x440000 + 8 * idx.toNat)) = 0 ∧ (s.port w.port).reqs.any (·.stalled) = false) ∧
  (∃ (s : State) (w : CoreWr) (code : Byte) (inst : Byte), blockNamed code inst = true ∧ 16 ≤ code.toNat ∧ s.coreServes w (fltAddr code.toNat inst.toNat) ∧ hasBit w.data.toNat 7 = true ∧ ((code.toNat = bPC → inst.toNat = w.part.val)) ∧ ((code.toNat = bTIL → (s.tile inst.toNat).zeroing = false))) :=
  ⟨⟨wC, wW 256, 15, by constructor <;> decide +kernel, by decide +kernel, by decide +kernel⟩,
  ⟨wP, wW 4096, 3, by constructor <;> decide +kernel, by decide +kernel, by decide +kernel⟩,
  ⟨wP, wW (2 ^ 64 - 1), 3, by constructor <;> decide +kernel, by decide +kernel⟩,
  ⟨wP, wW 0x3FFFF, 3, by constructor <;> decide +kernel⟩,
  ⟨wP.setPage 147455 { clean := true }, wW (2 ^ 63 + 3 * 2 ^ 48), 147455, by constructor <;> decide +kernel, by decide +kernel, by decide +kernel, by decide +kernel, by decide +kernel, by decide +kernel, by decide +kernel⟩,
  ⟨{ wC with lease := { held := true } }, wW (({ wC with lease := { held := true } } : State).proofOf 0), by constructor <;> decide +kernel, by decide +kernel, by decide +kernel⟩,
  ⟨wC, wW 1, by constructor <;> decide +kernel, by decide +kernel⟩,
  ⟨((wV.put F.SEP_PT_PORTS_REQ 0x20000 3)), wW 17, 17, by constructor <;> decide +kernel, by decide +kernel, by decide +kernel, by decide +kernel⟩,
  ⟨{ wC with vmem := { wC.vmem with clears := [147455] } }, 147455, by decide +kernel⟩,
  ⟨wC.setTile 63 { zeroing := true }, 63, by decide +kernel⟩,
  ⟨wC, wW 1, 0xFFFF, by decide +kernel⟩,
  ⟨wC, wW 128, 16, 0, by decide +kernel, by decide +kernel, by constructor <;> decide +kernel, by decide +kernel, by decide +kernel, by decide +kernel⟩⟩

theorem test_witness_RequestsOfTheVatTakeEffect :
  (∃ (s : State) (q : QHdr) (len : BitVec 16) (x : Nat), s.up = true ∧ s.live q.port = true ∧ q.addr.toNat < globBase ∧ s.qRefused q.port (reqOf q (.rd len.toNat)) = 0 ∧ (s.port q.port).reqs.any (·.stalled) = false ∧ s.vloc q.part q.addr.toNat = .phys x ∧ s.sound x len.toNat) ∧
  (∃ (s : State) (a : Nat) (n : Nat), ∀ u ∈ unitsOf a n, s.isClean u = true) ∧
  (∃ (s : State) (q : QHdr), s.up = true ∧ s.live q.port = true ∧ globBase ≤ q.addr.toNat ∧ q.addr.toNat % 8 = 0 ∧ s.qRefused q.port (reqOf q (.rd 8)) = 0 ∧ (s.port q.port).reqs.any (·.stalled) = false) ∧
  (∃ (s : State) (q : QHdr) (b1 : BitVec 4) (b2 : BitVec 4) (data : List Byte) (x : Nat), s.up = true ∧ s.live q.port = true ∧ q.addr.toNat < globBase ∧ dataFits data = true ∧ s.qRefused q.port (reqOf q (.wr b1.toNat b2.toNat data)) = 0 ∧ (s.port q.port).reqs.any (·.stalled) = false ∧ s.vloc q.part q.addr.toNat = .phys x ∧ s.sound x data.length) ∧
  (∃ (s : State) (q : QHdr) (v : BitVec 64) (x : Nat), s.up = true ∧ s.live q.port = true ∧ q.addr.toNat < globBase ∧ s.qRefused q.port (reqOf q (.fadd v.toNat)) = 0 ∧ (s.port q.port).reqs.any (·.stalled) = false ∧ s.vloc q.part q.addr.toNat = .phys x ∧ s.sound x 8) ∧
  (∃ (s : State) (q : QHdr) (c : BitVec 64) (w : BitVec 64) (x : Nat), s.up = true ∧ s.live q.port = true ∧ q.addr.toNat < globBase ∧ s.qRefused q.port (reqOf q (.cas c.toNat w.toNat)) = 0 ∧ (s.port q.port).reqs.any (·.stalled) = false ∧ s.vloc q.part q.addr.toNat = .phys x ∧ s.sound x 8) ∧
  (∃ (s : State) (q : QHdr) (len : BitVec 16), s.up = true ∧ s.live q.port = true ∧ s.qRefused q.port (reqOf q (.rd len.toNat)) ≠ 0) ∧
  (∃ (s : State) (k : Fin 18) (tag : BitVec 16) (r : Req) (rest : List Req), s.up = true ∧ (s.port k).reqs = r :: rest ∧ r.tag = tag.toNat ∧ r.stalled = false ∧ r.dead = false ∧ r.op.isRd = true) ∧
  (∃ (s : State) (k : Fin 18) (tag : BitVec 16) (r : Req) (rest : List Req), s.up = true ∧ (s.port k).reqs = r :: rest ∧ r.tag = tag.toNat ∧ r.stalled = false ∧ r.dead = false ∧ r.op.isWr = true) ∧
  (∃ (s : State) (k : Fin 18) (tag : BitVec 16) (r : Req) (rest : List Req), s.up = true ∧ (s.port k).reqs = r :: rest ∧ r.tag = tag.toNat ∧ r.stalled = false ∧ r.dead = false ∧ r.op.isAtom = true) :=
  ⟨⟨wV, wQ 64, 64, pageSize + 64, by decide +kernel⟩,
  ⟨wV.vclear 1, pageSize, 64, by decide +kernel⟩,
  ⟨wC, wQ (globBase + 0x300008), by decide +kernel⟩,
  ⟨wV, wQ 128, 3, 15, List.replicate 8 1, pageSize + 128, by decide +kernel⟩,
  ⟨wV, wQ 8, 5, pageSize + 8, by decide +kernel⟩,
  ⟨wV, wQ 8, 0, 1, pageSize + 8, by decide +kernel⟩,
  ⟨wV, wQ (2 ^ 40), 8, by decide +kernel⟩,
  ⟨wC.setPort 17 { reqs := [{ part := 3, tag := 7, addr := 0, op := .rd 8 }] }, 17, 7, { part := 3, tag := 7, addr := 0, op := .rd 8 }, [], by decide +kernel⟩,
  ⟨wC.setPort 0 { reqs := [{ part := 3, tag := 7, addr := 0, op := .wr 15 15 [] }] }, 0, 7, { part := 3, tag := 7, addr := 0, op := .wr 15 15 [] }, [], by decide +kernel⟩,
  ⟨wC.setPort 0 { reqs := [{ part := 3, tag := 7, addr := 0, op := .fadd 1 }] }, 0, 7, { part := 3, tag := 7, addr := 0, op := .fadd 1 }, [], by decide +kernel⟩⟩

theorem test_witness_PartitionControlRowsTakeEffect :
  (∃ (s : State) (w : CoreWr) (r : Fin 8), s.coreServes w (partBase + 0x1008 + 0x40 * r)) ∧
  (∃ (s : State) (w : CoreWr) (r : Fin 8), s.coreServes w (partBase + 0x1010 + 0x40 * r) ∧ s.dbOk w.part r (bitField w.data.toNat 32 6) (bitField w.data.toNat 0 17) = true ∧ s.rTail w.part r ≠ bitField w.data.toNat 0 17) ∧
  (∃ (s : State) (w : CoreWr) (r : Fin 8), s.coreServes w (partBase + 0x1010 + 0x40 * r) ∧ s.dbOk w.part r (bitField w.data.toNat 32 6) (bitField w.data.toNat 0 17) = false ∧ s.rTail w.part r ≠ bitField w.data.toNat 0 17) ∧
  (∃ (s : State) (w : CoreWr), s.coreServes w (partBase + 0x1208)) ∧
  (∃ (s : State) (w : CoreWr), s.coreServes w (partBase + 0x1218)) ∧
  (∃ (s : State) (w : CoreWr), s.coreServes w (partBase + 0x2280) ∧ hasBit w.data.toNat 0 = true) ∧
  (∃ (s : State) (w : CoreWr) (m : Fin 8), s.coreServes w (partBase + 0x2400 + 8 * m) ∧ s.ptState w.part ≠ ptSealed ∧ s.ptState w.part ≠ ptReclaim) ∧
  (∃ (s : State) (w : CoreWr), s.coreServes w (partBase + 0x2440) ∧ hasBit w.data.toNat 0 = true ∧ s.commitReason w.part w.port = 0) ∧
  (∃ (s : State) (w : CoreWr), s.coreServes w (partBase + 0x2440) ∧ hasBit w.data.toNat 0 = true ∧ s.commitReason w.part w.port ≠ 0) :=
  ⟨⟨wV, wW 0x60301, 7, by constructor <;> decide +kernel⟩,
  ⟨((wV.put F.SEP_RING_CFG_EN 1 7 3).put F.SEP_PT_TILES_TILES (2 ^ 63) 3).put F.SEP_RING_CFG_SIZE 6 7 3, wW (63 * 2 ^ 32 + 64), 7, by constructor <;> decide +kernel, by decide +kernel, by decide +kernel⟩,
  ⟨wV, wW 1, 0, by constructor <;> decide +kernel, by decide +kernel, by decide +kernel⟩,
  ⟨wV, wW 1, by constructor <;> decide +kernel⟩,
  ⟨wV, wW 0, by constructor <;> decide +kernel⟩,
  ⟨wV, wW 1, by constructor <;> decide +kernel, by decide +kernel⟩,
  ⟨wP, wW 5, 7, by constructor <;> decide +kernel, by decide +kernel, by decide +kernel⟩,
  ⟨(List.range 8).foldl (fun a m => a.setPart 3 { a.part 3 with stage := (a.part 3).stage.set none ⟨m, 0, 0⟩ (some (m, 0)) }) wP, wW 1, by constructor <;> decide +kernel, by decide +kernel, by decide +kernel⟩,
  ⟨wP, wW 1, by constructor <;> decide +kernel, by decide +kernel, by decide +kernel⟩⟩

theorem test_witness_ScrubAndGovernorRowsTakeEffect :
  (∃ (s : State), s.up = true ∧ s.pow.vat = .on ∧ s.flag F.VAT_SCRUB_CFG_EN = true) ∧
  (∃ (s : State), s.up = true ∧ s.pow.vat = .on ∧ s.flag F.VAT_SCRUB_CFG_EN = true) ∧
  (∃ (s : State), s.up = true ∧ s.govRuns = true) ∧
  (∃ (s : State), s.up = true ∧ s.govRuns = true ∧ s.gov.live = true) ∧
  (∃ (s : State), s.up = true ∧ s.govRuns = true ∧ s.fld F.GOV_STAT_LEVEL = 64 ∧ s.fld F.GOV_STAT_BUDGET < s.fld F.GOV_STAT_P_MEAS) ∧
  (∃ (s : State), s.up = true ∧ s.govRuns = true ∧ s.fld F.GOV_STAT_LEVEL = 64 ∧ 4200 < s.fld F.GOV_STAT_P_MEAS ∧ s.idle.trip = false) ∧
  (∃ (s : State), s.up = true ∧ s.govRuns = true ∧ s.fld F.GOV_STAT_P_MEAS ≤ 4000 ∧ s.idle.trip = true) :=
  ⟨⟨wC, by decide +kernel⟩,
  ⟨wC, by decide +kernel⟩,
  ⟨wGv, by decide +kernel⟩,
  ⟨{ wGv with gov := { live := true, assist := 9 } }, by decide +kernel⟩,
  ⟨(((wGv).put F.GOV_STAT_LEVEL 64).put F.GOV_STAT_P_MEAS 1001).put F.GOV_STAT_BUDGET 1000, by decide +kernel⟩,
  ⟨((wGv).put F.GOV_STAT_LEVEL 64).put F.GOV_STAT_P_MEAS 4201, by decide +kernel⟩,
  ⟨{ (wGv).put F.GOV_STAT_P_MEAS 4000 with idle := { trip := true } }, by decide +kernel⟩⟩

theorem test_witness_LinkMessagesTakeEffect :
  (∃ (s : State) (k : Fin 18) (b : List Byte), flitFits b = true ∧ s.up = true ∧ s.live k = true ∧ flitOk b = false) ∧
  (∃ (s : State) (k : Fin 18) (b : List Byte), flitFits b = true ∧ s.up = true ∧ s.live k = true ∧ flitOk b = true ∧ (flitHdr b).ft = 1 ∧ (flitHdr b).seq = ((s.port k).ack + 1) % 4096 ∧ (flitHdr b).cls = 0 ∧ (flitHdr b).last = false ∧ (flitHdr b).nak = false) ∧
  (∃ (s : State) (k : Fin 18), s.up = true ∧ s.live k = true ∧ (s.port k).nak = true) ∧
  (∃ (s : State) (k : Fin 18), s.up = true ∧ s.live k = true ∧ (s.port k).unacked ≠ [] ∧ (s.port k).stuck < 4) ∧
  (∃ (s : State) (k : Fin 18) (m : InitMsg), s.up = true ∧ s.lnk k = lnkAlign ∧ m.version = 1 ∧ m.role ≠ 0 ∧ 3 ≤ m.s.toNat ∧ 4 ≤ m.m.toNat ∧ m.q = 0 ∧ (s.port k).initSentAckd = false) ∧
  (∃ (s : State) (k : Fin 18), s.up = true ∧ s.lnk k = lnkAlign ∧ (s.port k).deskewed = true ∧ (s.port k).initGot = false ∧ (s.port k).initSentAckd = false) ∧
  (∃ (s : State) (k : Fin 18), s.up = true ∧ s.live k = true) ∧
  (∃ (s : State) (k : Fin 18) (x : Byte) (h : WidthHs), s.up = true ∧ s.live k = true ∧ (s.port k).wRx = some h ∧ h.txid = x.toNat) ∧
  (∃ (s : State) (k : Fin 18) (rx : Bool) (h : WidthHs), s.up = true ∧ s.live k = true ∧ (if rx then (s.port k).dueRx else (s.port k).dueTx).head?.or (if rx then (s.port k).wRx else (s.port k).wTx) = some h ∧ h.m.isSome = true ∧ activeOf k h.mask ≠ 0 ∧ ((s.port k).recentRetrains s.tim.optime).length < 3) ∧
  (∃ (s : State) (k : Fin 18) (lane : Byte) (b : Byte), s.up = true ∧ s.live k = true ∧ optical k = true ∧ (s.port k).rTx = none ∧ (s.spares k false).contains b.toNat = true ∧ lane.toNat < 16) ∧
  (∃ (s : State) (k : Fin 18) (x : Byte) (lane : Byte) (b : Byte) (sent : Byte) (h : RemapHs), s.up = true ∧ s.live k = true ∧ (s.port k).rTx = some h ∧ h.txid = x.toNat ∧ h.lane = lane.toNat ∧ h.b = b.toNat ∧ (s.ring k false b.toNat).st ≠ 4) ∧
  (∃ (s : State) (k : Fin 18) (x : Byte) (lane : Byte) (b : Byte) (h : RemapHs), s.up = true ∧ s.live k = true ∧ (s.port k).rRx = some h ∧ h.txid = x.toNat ∧ h.lane = lane.toNat ∧ h.b = b.toNat ∧ h.rdy = true) ∧
  (∃ (s : State) (k : Fin 18) (rx : Bool) (h : RemapHs), s.up = true ∧ s.live k = true ∧ s.remapHs k rx = some h ∧ h.m.isSome = true ∧ h.lane < 16 ∧ ((if rx then (s.port k).dueRx else (s.port k).dueTx).head?.or (if rx then (s.port k).wRx else (s.port k).wTx)).any (fun w => w.m == h.m) = false) ∧
  (∃ (s : State) (k : Fin 18) (x : Byte) (lane : Byte) (h : RemapHs), s.up = true ∧ s.live k = true ∧ (s.port k).rTx = some h ∧ h.txid = x.toNat ∧ h.lane = lane.toNat ∧ s.driveable k = fullSet k) ∧
  (∃ (s : State) (k : Fin 18) (h : LoopHs), s.up = true ∧ s.live k = true ∧ (s.port k).loop = some h) ∧
  (∃ (s : State) (k : Fin 18) (x : Byte) (h : LoopHs), s.up = true ∧ s.live k = true ∧ (s.port k).loop = some h ∧ h.txid = x.toNat) ∧
  (∃ (s : State) (k : Fin 18), s.up = true ∧ s.live k = true) :=
  ⟨⟨wC, 0, List.replicate 128 0, by decide +kernel⟩,
  ⟨wC, 0, wFlit (2 ^ 60 + 2 ^ 32) [1, 2, 3], by decide +kernel⟩,
  ⟨wN { nak := true }, 0, by decide +kernel⟩,
  ⟨wN { unacked := [⟨0, 1, true, true, []⟩] }, 0, by decide +kernel⟩,
  ⟨wLk 17 lnkAlign, 17, ⟨1, 1, 1, 0, false, false, 0, 3, 4, 0, 4095⟩, by decide +kernel⟩,
  ⟨(wLk 17 lnkAlign).setPort 17 { deskewed := true }, 17, by decide +kernel⟩,
  ⟨wC, 0, by decide +kernel⟩,
  ⟨wN { wRx := some { txid := 5, mask := 3 } }, 0, 5, { txid := 5, mask := 3 }, by decide +kernel⟩,
  ⟨wN { wRx := some { txid := 5, mask := 0xFF, m := some 3 } }, 0, true, { txid := 5, mask := 0xFF, m := some 3 }, by decide +kernel⟩,
  ⟨wC, 0, 15, 19, by decide +kernel⟩,
  ⟨wN { rTx := some { txid := 5, own := false, fail := false, lane := 15, b := 19 } }, 0, 5, 15, 19, 2, { txid := 5, own := false, fail := false, lane := 15, b := 19 }, by decide +kernel⟩,
  ⟨wN { rRx := some { txid := 5, own := true, fail := false, lane := 15, b := 19, rdy := true } }, 0, 5, 15, 19, { txid := 5, own := true, fail := false, lane := 15, b := 19, rdy := true }, by decide +kernel⟩,
  ⟨wN { rRx := some { txid := 5, own := true, fail := false, lane := 15, b := 19, rdy := true, m := some 3 } }, 0, true, { txid := 5, own := true, fail := false, lane := 15, b := 19, rdy := true, m := some 3 }, by decide +kernel⟩,
  ⟨wN { rTx := some { txid := 5, own := true, fail := false, lane := 15, b := 19 } }, 0, 5, 15, { txid := 5, own := true, fail := false, lane := 15, b := 19 }, by decide +kernel⟩,
  ⟨wN { loop := some { txid := 9 } }, 0, { txid := 9 }, by decide +kernel⟩,
  ⟨wN { loop := some { txid := 9 } }, 0, 9, { txid := 9 }, by decide +kernel⟩,
  ⟨wC, 0, by decide +kernel⟩⟩

theorem test_witness_LinkRegisterRowsTakeEffect :
  (∃ (s : State) (w : CoreWr) (k : Fin 18), s.coreServes w (globBase + 0x300000 + 0x100 * k)) ∧
  (∃ (s : State) (w : CoreWr) (k : Fin 18), s.coreServes w (globBase + 0x300000 + 0x100 * k) ∧ s.live k = true ∧ hasBit w.data.toNat 0 = true ∧ hasBit w.data.toNat 1 = true ∧ bitField w.data.toNat 2 2 = s.fld F.LNK_CTL_LOOP_REQ k) ∧
  (∃ (s : State) (w : CoreWr) (k : Fin 18) (v : Nat), s.coreServes w (globBase + 0x300000 + 0x100 * k) ∧ s.live k = true ∧ hasBit w.data.toNat 0 = true ∧ hasBit w.data.toNat 1 = false ∧ bitField w.data.toNat 2 2 = v ∧ (v ≠ 0 ∨ v ≠ s.fld F.LNK_CTL_LOOP_REQ k)) ∧
  (∃ (s : State) (w : CoreWr) (k : Fin 18), s.coreServes w (globBase + 0x300060 + 0x100 * k)) ∧
  (∃ (s : State) (w : CoreWr) (k : Fin 18), s.coreServes w (globBase + 0x300068 + 0x100 * k) ∧ hasBit w.data.toNat 1 = true) ∧
  (∃ (s : State) (w : CoreWr) (k : Fin 18), s.coreServes w (globBase + 0x300068 + 0x100 * k)) ∧
  (∃ (s : State) (w : CoreWr) (k : Fin 18), s.coreServes w (globBase + 0x300070 + 0x100 * k) ∧ optical k = false) :=
  ⟨⟨wC, wW 1, 17, by constructor <;> decide +kernel⟩,
  ⟨wC, wW 3, 0, by constructor <;> decide +kernel, by decide +kernel, by decide +kernel, by decide +kernel, by decide +kernel⟩,
  ⟨wC, wW 9, 0, 2, by constructor <;> decide +kernel, by decide +kernel, by decide +kernel, by decide +kernel, by decide +kernel, by decide +kernel⟩,
  ⟨wC, wW 0xFFFF, 17, by constructor <;> decide +kernel⟩,
  ⟨wC, wW 2, 0, by constructor <;> decide +kernel, by decide +kernel⟩,
  ⟨wC, wW 1, 0, by constructor <;> decide +kernel⟩,
  ⟨wC, wW 0xFFFFFF, 17, by constructor <;> decide +kernel, by decide +kernel⟩⟩

theorem test_witness_LinkTimersTakeEffect :
  (∃ (s : State) (k : Fin 16), s.up = true ∧ s.live k = true ∧ (s.port k).firstUp = true) ∧
  (∃ (s : State) (k : Fin 18), s.up = true ∧ s.lnk k = lnkAcquire) ∧
  (∃ (s : State) (k : Fin 18), s.up = true ∧ s.lnk k = lnkAlign) ∧
  (∃ (s : State) (k : Fin 18) (h : WidthHs), s.up = true ∧ s.live k = true ∧ (s.port k).wRx = some h ∧ h.m = none ∧ h.tries < 3) ∧
  (∃ (s : State) (k : Fin 18) (h : WidthHs), s.up = true ∧ s.live k = true ∧ (s.port k).wRx = some h ∧ h.m = none ∧ 3 ≤ h.tries ∧ ((s.port k).recentRetrains s.tim.optime).length < 3) ∧
  (∃ (s : State) (k : Fin 18) (h : RemapHs), s.up = true ∧ (s.port k).rRx = some h ∧ h.rdy = true ∧ h.m = none) ∧
  (∃ (s : State) (k : Fin 18) (h : LoopHs), s.up = true ∧ s.live k = true ∧ (s.port k).loop = some h) ∧
  (∃ (s : State) (k : Fin 18) (rx : Bool) (h : RemapHs), s.up = true ∧ s.remapHs k rx = some h ∧ h.rdy = false ∧ (rx = false → s.driveable k = fullSet k)) ∧
  (∃ (s : State) (k : Fin 18), s.up = true ∧ optical k = false ∧ s.lnk k = lnkDown) ∧
  (∃ (s : State) (k : Fin 18), s.up = true ∧ optical k = false ∧ s.lnk k = lnkAcquire ∧ s.lockedLanes k % 16 = 15) :=
  ⟨⟨wN { firstUp := true }, 0, by decide +kernel⟩,
  ⟨wLk 17 lnkAcquire, 17, by decide +kernel⟩,
  ⟨wLk 17 lnkAlign, 17, by decide +kernel⟩,
  ⟨wN { wRx := some { txid := 5, mask := 3 } }, 0, { txid := 5, mask := 3 }, by decide +kernel⟩,
  ⟨wN { wRx := some { txid := 5, mask := 3, tries := 3 } }, 0, { txid := 5, mask := 3, tries := 3 }, by decide +kernel⟩,
  ⟨wN { rRx := some { txid := 5, own := true, fail := false, lane := 15, b := 19, rdy := true } }, 0, { txid := 5, own := true, fail := false, lane := 15, b := 19, rdy := true }, by decide +kernel⟩,
  ⟨wN { loop := some { txid := 9, tries := 3 } }, 0, { txid := 9, tries := 3 }, by decide +kernel⟩,
  ⟨wN { rRx := some { txid := 5, own := true, fail := false, lane := 15, b := 19 } }, 0, true, { txid := 5, own := true, fail := false, lane := 15, b := 19 }, by decide +kernel⟩,
  ⟨wC, 16, by decide +kernel⟩,
  ⟨(((wLk 17 lnkAcquire).put F.LNK_LANE_STAT_LOS 0 17).put F.LNK_LANE_STAT_LOL 0 17), 17, by decide +kernel⟩⟩

theorem test_witness_LaneRowsTakeEffect :
  (∃ (s : State) (k : Fin 18) (n : Fin 20), laneExists k n = true ∧ s.up = true) ∧
  (∃ (s : State) (k : Fin 18) (n : Fin 20), laneExists k n = true ∧ s.up = true) ∧
  (∃ (s : State) (k : Fin 18) (n : Fin 20), laneExists k n = true ∧ s.up = true) ∧
  (∃ (s : State) (k : Fin 18) (n : Fin 20), laneExists k n = true ∧ s.up = true) ∧
  (∃ (s : State) (k : Fin 18) (n : Fin 20), laneExists k n = true ∧ s.up = true) ∧
  (∃ (s : State) (k : Fin 18) (n : Fin 20), laneExists k n = true ∧ s.up = true) ∧
  (∃ (s : State) (k : Fin 18), s.up = true ∧ optical k = true ∧ s.flag F.LNK_LANE_STAT_CLK_LOL k = false) ∧
  (∃ (s : State) (k : Fin 16), s.up = true ∧ (s.port k).blank = true) ∧
  (∃ (s : State) (k : Fin 18) (n : Fin 20) (j : Fin 5), laneExists k n = true ∧ tapExists k j = true ∧ s.up = true ∧ s.locked k n = true) :=
  ⟨⟨wC, 0, 19, by decide +kernel⟩,
  ⟨wC, 17, 7, by decide +kernel⟩,
  ⟨wC, 0, 16, by decide +kernel⟩,
  ⟨wC, 0, 19, by decide +kernel⟩,
  ⟨wC, 15, 19, by decide +kernel⟩,
  ⟨wC, 17, 0, by decide +kernel⟩,
  ⟨wC.putFlag F.LNK_LANE_STAT_CLK_LOL false 0, 0, by decide +kernel⟩,
  ⟨wN { blank := true }, 0, by decide +kernel⟩,
  ⟨((wC.put F.LNK_LANE_STAT_LOS 0 17).put F.LNK_LANE_STAT_LOL 0 17), 17, 7, 4, by decide +kernel⟩⟩

theorem test_witness_EngineRowsTakeEffect :
  (∃ (s : State) (w : CoreWr) (e : Fin 4), s.coreServes w (globBase + 0x340000 + 0x1000 * e) ∧ hasBit w.data.toNat 0 = true ∧ s.dom (10 + e) = .on) ∧
  (∃ (s : State) (e : Fin 4), s.up = true ∧ (s.eng e).resetting = true) ∧
  (∃ (s : State) (e : Fin 4) (c : BitVec 16), s.up = true ∧ s.dom (10 + e) = .waking ∧ ¬(s.flag F.LSC_STAT_CAR_READY = true ∧ s.carConst 0 c.toNat / 16 = 0x014)) ∧
  (∃ (s : State) (e : Fin 4) (c : BitVec 16), s.up = true ∧ s.dom (10 + e) = .waking ∧ ¬(s.flag F.LSC_STAT_CAR_READY = true ∧ s.carConst 0 c.toNat / 16 = 0x014) ∧ s.flag F.LSC_STAT_CAR_READY = true) ∧
  (∃ (s : State) (e : Fin 4), s.up = true ∧ s.dom (10 + e) = .waking ∧ s.bit F.LSC_STAT_BANK_ON e = true) ∧
  (∃ (s : State), s.up = true) ∧
  (∃ (s : State) (e : Fin 4) (n : Fin 20), s.up = true ∧ s.bit F.PYU_STAT_FAIL n e = false ∧ s.dom (10 + e) ≠ .off) ∧
  (∃ (s : State) (k : Fin 16) (rx : Bool) (n : Fin 20), s.up = true ∧ (s.ring k rx n).st = 4 ∧ (s.ring k rx n).due = false ∧ (s.lnk k ≠ lnkDown ∨ s.bit F.LNK_LANE_STAT_LOS 16 k = true)) ∧
  (∃ (s : State) (k : Fin 16) (rx : Bool) (n : Fin 20), s.up = true ∧ s.engReady (engOf k) = true ∧ (s.spares k rx).contains n.val = true ∧ (s.ring k rx n).st = 0 ∧ ((List.range 20).filter fun m => (s.ring k rx m).st == 4).length < 5) ∧
  (∃ (s : State) (k : Fin 16) (rx : Bool) (b : Nat) (l : List Nat), s.up = true ∧ s.rotOk k rx = true ∧ s.spares k rx = b :: l) ∧
  (∃ (s : State), s.up = true) ∧
  (∃ (s : State) (k : Fin 16), s.up = true ∧ s.bit F.LNK_LANE_STAT_LOS 16 k = true ∧ (s.port k).blank = false ∧ s.lnk k ≠ lnkDown) ∧
  (∃ (s : State) (k : Fin 16), s.up = true ∧ s.lnk k = lnkDown ∧ s.flag F.PYU_PORT_STAT_PROBE k = true ∧ s.flag F.PYU_PORT_STAT_SHUTTER k = false ∧ s.probeOk k = true) ∧
  (∃ (s : State) (k : Fin 16), s.up = true ∧ s.lnk k = lnkDown ∧ s.flag F.PYU_PORT_STAT_SHUTTER k = true) :=
  ⟨⟨wE, wW 1, 0, by constructor <;> decide +kernel, by decide +kernel, by decide +kernel⟩,
  ⟨wE.setEng 0 { resetting := true }, 0, by decide +kernel⟩,
  ⟨wC.setDom 13 .waking, 3, 0x0120, by decide +kernel⟩,
  ⟨{ (wC.setDom 13 .waking).putFlag F.LSC_STAT_CAR_READY true with lsc := { ids := ({} : Tab Nat).set 0 ⟨0, 0, 0⟩ 0x0121 } }, 3, 0x0140, by decide +kernel⟩,
  ⟨(wC.setDom 13 .waking).putBitOf F.LSC_STAT_BANK_ON 3 true, 3, by decide +kernel⟩,
  ⟨wE, by decide +kernel⟩,
  ⟨wE, 0, 19, by decide +kernel⟩,
  ⟨wE.setRing 0 true 19 { st := 4 }, 0, true, 19, by decide +kernel⟩,
  ⟨wE, 0, false, 19, by decide +kernel⟩,
  ⟨((wE.put F.LNK_STAT_RXSET 0xFFFF 0).putFlag F.PYU_CTL_ROT_EN true 0), 0, true, 17, [18, 19], by decide +kernel⟩,
  ⟨wE, by decide +kernel⟩,
  ⟨wC.putBitOf F.LNK_LANE_STAT_LOS 16 true 0, 0, by decide +kernel⟩,
  ⟨wE.put F.LNK_STAT_STATE 0 0 |>.putFlag F.PYU_PORT_STAT_PROBE true 0, 0, by decide +kernel⟩,
  ⟨wE.put F.LNK_STAT_STATE 0 0 |>.putFlag F.PYU_PORT_STAT_SHUTTER true 0, 0, by decide +kernel⟩⟩

theorem test_witness_CartridgeRowsTakeEffect :
  (∃ (s : State), s.up = true) ∧
  (∃ (s : State), s.up = true ∧ s.dom 14 = .on) ∧
  (∃ (s : State) (w : CoreWr), s.coreServes w (globBase + 0x380008) ∧ winOk (hasBit w.data.toNat 31) (bitField w.data.toNat 16 15) = true) ∧
  (∃ (s : State) (w : CoreWr), s.coreServes w (globBase + 0x380008) ∧ winOk (hasBit w.data.toNat 31) (bitField w.data.toNat 16 15) = false) ∧
  (∃ (s : State) (stat : BitVec 16) (data : BitVec 16) (a : Nat) (d : Nat), s.up = true ∧ s.dom 14 = .on ∧ s.lsc.frame = some (false, a, d) ∧ a ≠ 0x10) ∧
  (∃ (s : State) (stat : BitVec 16) (data : BitVec 16) (a : Nat) (d : Nat), s.up = true ∧ s.dom 14 = .on ∧ s.lsc.frame = some (false, a, d) ∧ a = 0x10) ∧
  (∃ (s : State) (a : Nat) (d : Nat), s.up = true ∧ s.dom 14 = .on ∧ s.lsc.frame = some (true, a, d)) :=
  ⟨⟨wE.put F.AON_PD_REQ_ENG_REQ 1, by decide +kernel⟩,
  ⟨wC.setDom 14 .on, by decide +kernel⟩,
  ⟨wC, wW (2 ^ 31 + 0x173 * 2 ^ 16 + 60), by constructor <;> decide +kernel, by decide +kernel⟩,
  ⟨wC, wW (2 ^ 31 + 0x174 * 2 ^ 16 + 60), by constructor <;> decide +kernel, by decide +kernel⟩,
  ⟨{ wC.setDom 14 .on with lsc := { frame := some (false, 0x173, 0) } }, 0, 0, 0x173, 0, by decide +kernel⟩,
  ⟨{ wC.setDom 14 .on with lsc := { frame := some (false, 0x10, 0) } }, 0x000F, 0, 0x10, 0, by decide +kernel⟩,
  ⟨{ wC.setDom 14 .on with lsc := { frame := some (true, 0x173, 61) } }, 0x173, 61, by decide +kernel⟩⟩

theorem test_witness_ControlInstructionsTakeEffect :
  (∃ (s : State) (t : Fin 64) (i : Nat) (e : PEnt), s.issues t i e ∧ wOpc e.word = oNOP) ∧
  (∃ (s : State) (t : Fin 64) (i : Nat) (e : PEnt), s.issues t i e ∧ wOpc e.word = oXSIG ∧ stvOlder s t i = false ∧ s.noneEnters t = true ∧ wXtile e.word ≠ t.val ∧ s.tileOn (wXtile e.word) = true ∧ ((s.tile (wXtile e.word)).tok (wXtok e.word)).count < 15) ∧
  (∃ (s : State) (t : Fin 64) (i : Nat) (e : PEnt), s.issues t i e ∧ wOpc e.word = oXSIG ∧ stvOlder s t i = false ∧ s.tileOn (wXtile e.word) = false ∧ s.coreRefused = true) ∧
  (∃ (s : State) (t : Fin 64) (i : Nat) (e : PEnt), s.issues t i e ∧ wOpc e.word = oXSIG ∧ stvOlder s t i = false ∧ s.tileOn (wXtile e.word) = false ∧ s.holdup = false ∧ s.coreRefused = false) ∧
  (∃ (s : State) (t : Fin 64) (i : Nat) (p : Nat) (e : PEnt), s.issues t i e ∧ wOpc e.word = oBAR ∧ s.ownerOf t = some p ∧ barDyn s t i e = .go) ∧
  (∃ (s : State) (t : Fin 64) (i : Nat) (e : PEnt), s.issues t i e ∧ wOpc e.word = oTCLR ∧ tclrDyn s t i e = .go ∧ s.noneEnters t = true) ∧
  (∃ (s : State) (t : Fin 64) (e : PEnt) (y : Tile), s.up = true ∧ s.tileLive t = true ∧ (s.tile t).back = [] ∧ (s.tile t).loop = none ∧ (s.tile t).takeSlot = some (e, y) ∧ y.inb = [] ∧ e.nests = true) ∧
  (∃ (s : State) (t : Fin 64) (p : Nat) (e : PEnt), s.issues t 0 e ∧ wOpc e.word = oCPL ∧ s.ownerOf t = some p ∧ cplDyn s t 0 e = .go ∧ s.noneEnters t = true ∧ (s.part p).posted = [] ∧ (∀ x, s.vloc p (s.cqAddr p (s.fld F.SEP_CQ_PROD_RSV 0 p)) = .phys x → s.sound x 16)) ∧
  (∃ (s : State) (t : Fin 64) (p : Nat) (e : PEnt), s.issues t 0 e ∧ wOpc e.word = oCPL ∧ s.ownerOf t = some p ∧ cplDyn s t 0 e = .go ∧ s.noneEnters t = true ∧ (s.part p).posted = [] ∧ (∀ x, s.vloc p (s.cqAddr p (s.fld F.SEP_CQ_PROD_RSV 0 p)) = .phys x → s.sound x 16) ∧ s.flag F.SEP_CQ_CFG_EN 0 p = true ∧ s.vloc p (s.fld F.SEP_CQ_BASE_BASE 0 p * 4096 + 16 * (s.fld F.SEP_CQ_PROD_RSV 0 p % 2 ^ s.fld F.SEP_CQ_CFG_SIZE 0 p)) = .phys pageSize) ∧
  (∃ (s : State) (t : Fin 64) (i : Nat) (p : Nat) (k : Nat) (e : PEnt) (r : PailRep), s.issues t i e ∧ wOpc e.word = oHMSG ∧ s.ownerOf t = some p ∧ stvOlder s t i = false ∧ s.mRoom p 1 = true ∧ r.ue = false ∧ s.msgPort p = some k ∧ (s.port k).mCred = 0 ∧ s.noneEnters t = true) :=
  ⟨⟨wTe [wEnt 0 0], 63, 0, wEnt 0 0, by constructor <;> decide +kernel, by decide +kernel⟩,
  ⟨(wTe [wEnt 0x60 (62 * 2 ^ 96 + 31 * 2 ^ 91)]).put F.SEP_PT_TILES_TILES (3 * 2 ^ 62) 3, 63, 0, wEnt 0x60 (62 * 2 ^ 96 + 31 * 2 ^ 91), by constructor <;> decide +kernel, by decide +kernel, by decide +kernel, by decide +kernel, by decide +kernel, by decide +kernel, by decide +kernel⟩,
  ⟨(wTe [wEnt 0x60 (0 * 2 ^ 96 + 31 * 2 ^ 91)]).put F.SEP_PT_TILES_TILES (2 ^ 63 + 1) 3, 63, 0, wEnt 0x60 (0 * 2 ^ 96 + 31 * 2 ^ 91), by constructor <;> decide +kernel, by decide +kernel, by decide +kernel, by decide +kernel, by decide +kernel⟩,
  ⟨((wTe [wEnt 0x60 (0 * 2 ^ 96 + 31 * 2 ^ 91)]).put F.SEP_PT_TILES_TILES (2 ^ 63 + 1) 3).putFlag F.AON_SUP_STAT_MAIN_OK true, 63, 0, wEnt 0x60 (0 * 2 ^ 96 + 31 * 2 ^ 91), by constructor <;> decide +kernel, by decide +kernel, by decide +kernel, by decide +kernel, by decide +kernel, by decide +kernel⟩,
  ⟨wTe [wEnt 0x61 (15 * 2 ^ 98 + 2 ^ 91)], 63, 0, 3, wEnt 0x61 (15 * 2 ^ 98 + 2 ^ 91), by constructor <;> decide +kernel, by decide +kernel, by decide +kernel, by decide +kernel⟩,
  ⟨wTe [wEnt 0x62 ((2 ^ 32 - 1) * 2 ^ 70)], 63, 0, wEnt 0x62 ((2 ^ 32 - 1) * 2 ^ 70), by constructor <;> decide +kernel, by decide +kernel, by decide +kernel, by decide +kernel⟩,
  ⟨wTl { inb := [[wEnt 0x68 0]] }, 63, wEnt 0x68 0, { inb := [], groups := 255 }, by decide +kernel⟩,
  ⟨wTe [wEnt 0x78 0], 63, 3, wEnt 0x78 0, by constructor <;> decide +kernel, by decide +kernel, by decide +kernel, by decide +kernel, by decide +kernel, by decide +kernel, fun x h => by rw [← VLoc.phys.inj ((show _ = VLoc.phys pageSize by decide +kernel).symm.trans h)]; decide +kernel⟩,
  ⟨(wTe [wEnt 0x78 0]).putFlag F.SEP_CQ_CFG_EN true 0 3, 63, 3, wEnt 0x78 0, by constructor <;> decide +kernel, by decide +kernel, by decide +kernel, by decide +kernel, by decide +kernel, by decide +kernel, fun x h => by rw [← VLoc.phys.inj ((show _ = VLoc.phys pageSize by decide +kernel).symm.trans h)]; decide +kernel, by decide +kernel, by decide +kernel⟩,
  ⟨wTe [wEnt 0x79 (2 * 2 ^ 100)], 63, 0, 3, 0, wEnt 0x79 (2 * 2 ^ 100), wRep, by constructor <;> decide +kernel, by decide +kernel, by decide +kernel, by decide +kernel, by decide +kernel, by decide +kernel, by decide +kernel, by decide +kernel, by decide +kernel⟩⟩

theorem test_witness_DataInstructionsTakeEffect :
  (∃ (s : State) (t : Fin 64) (ch : Bool) (i : Nat) (e : PEnt), s.issues t i e ∧ queueOf e.word = (if ch then .ladle1 else .ladle0) ∧ posOf (ladleOpen (queueOf e.word)) 0 (s.tile t).ents = none ∧ wOpc e.word = oLDV) ∧
  (∃ (s : State) (t : Fin 64) (ch : Bool) (i : Nat) (e : PEnt), s.issues t i e ∧ queueOf e.word = (if ch then .ladle1 else .ladle0) ∧ posOf (ladleOpen (queueOf e.word)) 0 (s.tile t).ents = none ∧ wOpc e.word = oSTV) ∧
  (∃ (s : State) (t : Fin 64) (ch : Bool) (i : Nat) (p : Nat) (a : Nat) (x : Nat) (e : PEnt), s.up = true ∧ s.tileLive t = true ∧ posOf (ladleOpen (if ch then .ladle1 else .ladle0)) 0 (s.tile t).ents = some i ∧ (s.tile t).ents[i]? = some e ∧ s.ownerOf t = some p ∧ e.part = 0 ∧ a = (ladleOf e.word).vadr + e.done * (ladleOf e.word).vstr ∧ 0 < (ladleOf e.word).rlen ∧ a % pageSize + (ladleOf e.word).rlen ≤ pageSize ∧ s.vloc p a = .phys x ∧ wOpc e.word = oLDV ∧ s.sound x (ladleOf e.word).rlen) ∧
  (∃ (s : State) (t : Fin 64) (ch : Bool) (i : Nat) (p : Nat) (a : Nat) (x : Nat) (e : PEnt), s.up = true ∧ s.tileLive t = true ∧ posOf (ladleOpen (if ch then .ladle1 else .ladle0)) 0 (s.tile t).ents = some i ∧ (s.tile t).ents[i]? = some e ∧ s.ownerOf t = some p ∧ e.part = 0 ∧ a = (ladleOf e.word).vadr + e.done * (ladleOf e.word).vstr ∧ 0 < (ladleOf e.word).rlen ∧ a % pageSize + (ladleOf e.word).rlen ≤ pageSize ∧ s.vloc p a = .phys x ∧ wOpc e.word = oSTV) ∧
  (∃ (s : State) (t : Fin 64) (i : Nat) (e : PEnt), s.issues t i e ∧ wOpc e.word = oSLD ∧ sldDyn s t i e = .go ∧ (s.tile t).groups ≠ 0) ∧
  (∃ (s : State) (t : Fin 64) (i : Nat) (e : PEnt), s.issues t i e ∧ wOpc e.word = oMPASS ∧ posOf passOpen 0 (s.tile t).ents = none ∧ mpassDyn s t i e = .go ∧ (s.tile t).groups ≠ 0) ∧
  (∃ (s : State) (t : Fin 64) (i : Nat) (e : PEnt), s.issues t i e ∧ (s.tile t).groups = 0 ∧ s.gov.ramps.contains t.val = false ∧ wOpc e.word = oSLD ∧ sldDyn s t i e = .go) ∧
  (∃ (s : State) (t : Fin 64) (i : Nat) (e : PEnt), s.issues t i e ∧ (s.tile t).groups = 0 ∧ s.gov.ramps.contains t.val = false ∧ wOpc e.word = oMPASS ∧ posOf passOpen 0 (s.tile t).ents = none ∧ mpassDyn s t i e = .go) ∧
  (∃ (s : State) (t : Fin 64) (i : Nat) (e : PEnt), s.up = true ∧ s.tileLive t = true ∧ posOf passOpen 0 (s.tile t).ents = some i ∧ (s.tile t).ents[i]? = some e ∧ e.done < (passOf e.word).m) ∧
  (∃ (s : State) (t : Fin 64) (i : Nat) (e : PEnt), s.issues t i e ∧ wOpc e.word = oRBSET ∧ redOlder ((s.tile t).ents.take i) = false) ∧
  (∃ (s : State) (t : Fin 64) (i : Nat) (e : PEnt), s.issues t i e ∧ posOf vecOpen 0 (s.tile t).ents = none ∧ vecDyn s t i e = .go ∧ wOpc e.word = oVOP) ∧
  (∃ (s : State) (t : Fin 64) (i : Nat) (e : PEnt), s.issues t i e ∧ posOf vecOpen 0 (s.tile t).ents = none ∧ vecDyn s t i e = .go ∧ wOpc e.word = oVRED) ∧
  (∃ (s : State) (t : Fin 64) (i : Nat) (e : PEnt), s.issues t i e ∧ posOf vecOpen 0 (s.tile t).ents = none ∧ vecDyn s t i e = .go ∧ wOpc e.word = oVCVT) ∧
  (∃ (s : State) (t : Fin 64) (i : Nat) (e : PEnt), s.issues t i e ∧ posOf vecOpen 0 (s.tile t).ents = none ∧ vecDyn s t i e = .go ∧ wOpc e.word = oVTOPK ∧ (vtopkOf e.word).init = false) ∧
  (∃ (s : State) (t : Fin 64) (i : Nat) (e : PEnt), s.issues t i e ∧ posOf vecOpen 0 (s.tile t).ents = none ∧ vecDyn s t i e = .go ∧ wOpc e.word = oVTOPK ∧ (vtopkOf e.word).init = true) ∧
  (∃ (s : State) (t : Fin 64) (i : Nat) (e : PEnt), s.up = true ∧ s.tileLive t = true ∧ posOf vecOpen 0 (s.tile t).ents = some i ∧ (s.tile t).ents[i]? = some e ∧ (s.tile t).vpend = [] ∧ (s.tile t).notReadable i (vecReads e.word e.done) = false ∧ wOpc e.word = oVOP) ∧
  (∃ (s : State) (t : Fin 64) (i : Nat) (e : PEnt), s.up = true ∧ s.tileLive t = true ∧ posOf vecOpen 0 (s.tile t).ents = some i ∧ (s.tile t).ents[i]? = some e ∧ (s.tile t).vpend = [] ∧ (s.tile t).notReadable i (vecReads e.word e.done) = false ∧ wOpc e.word = oVRED) ∧
  (∃ (s : State) (t : Fin 64) (i : Nat) (e : PEnt), s.up = true ∧ s.tileLive t = true ∧ posOf vecOpen 0 (s.tile t).ents = some i ∧ (s.tile t).ents[i]? = some e ∧ (s.tile t).vpend = [] ∧ (s.tile t).notReadable i (vecReads e.word e.done) = false ∧ wOpc e.word = oVCVT) ∧
  (∃ (s : State) (t : Fin 64) (i : Nat) (e : PEnt), s.up = true ∧ s.tileLive t = true ∧ posOf vecOpen 0 (s.tile t).ents = some i ∧ (s.tile t).ents[i]? = some e ∧ (s.tile t).vpend = [] ∧ (s.tile t).notReadable i (vecReads e.word e.done) = false ∧ wOpc e.word = oVTOPK) :=
  ⟨⟨wTe [wEnt 0x10 0], 63, false, 0, wEnt 0x10 0, by constructor <;> decide +kernel, by decide +kernel, by decide +kernel, by decide +kernel⟩,
  ⟨wTe [wEnt 0x11 (2 ^ 101)], 63, true, 0, wEnt 0x11 (2 ^ 101), by constructor <;> decide +kernel, by decide +kernel, by decide +kernel, by decide +kernel⟩,
  ⟨wTe [wIss 0x10 0 0], 63, false, 0, 3, 0, pageSize, wIss 0x10 0 0, by decide +kernel⟩,
  ⟨wTe [wIss 0x11 (2 ^ 101) 0], 63, true, 0, 3, 0, pageSize, wIss 0x11 (2 ^ 101) 0, by decide +kernel⟩,
  ⟨wTe [wEnt 0x20 (3 * 2 ^ 93)], 63, 0, wEnt 0x20 (3 * 2 ^ 93), by constructor <;> decide +kernel, by decide +kernel, by decide +kernel, by decide +kernel⟩,
  ⟨wTl { ents := [wEnt 0x28 (3 * 2 ^ 95 + 2 ^ 25)], act := { fmt := 3 } }, 63, 0, wEnt 0x28 (3 * 2 ^ 95 + 2 ^ 25), by constructor <;> decide +kernel, by decide +kernel, by decide +kernel, by decide +kernel, by decide +kernel⟩,
  ⟨wTg { ents := [wEnt 0x20 (3 * 2 ^ 93)] }, 63, 0, wEnt 0x20 (3 * 2 ^ 93), by constructor <;> decide +kernel, by decide +kernel, by decide +kernel, by decide +kernel, by decide +kernel⟩,
  ⟨wTg { ents := [wEnt 0x28 (3 * 2 ^ 95 + 2 ^ 25)], act := { fmt := 3 } }, 63, 0, wEnt 0x28 (3 * 2 ^ 95 + 2 ^ 25), by constructor <;> decide +kernel, by decide +kernel, by decide +kernel, by decide +kernel, by decide +kernel, by decide +kernel⟩,
  ⟨wTe [wIss 0x28 (3 * 2 ^ 95 + 2 ^ 25) 0], 63, 0, wIss 0x28 (3 * 2 ^ 95 + 2 ^ 25) 0, by decide +kernel⟩,
  ⟨wTe [wEnt 0x2C 7], 63, 0, wEnt 0x2C 7, by constructor <;> decide +kernel, by decide +kernel, by decide +kernel⟩,
  ⟨wTe [wEnt 0x40 0], 63, 0, wEnt 0x40 0, by constructor <;> decide +kernel, by decide +kernel, by decide +kernel, by decide +kernel⟩,
  ⟨wTe [wEnt 0x44 0], 63, 0, wEnt 0x44 0, by constructor <;> decide +kernel, by decide +kernel, by decide +kernel, by decide +kernel⟩,
  ⟨wTe [wEnt 0x48 0], 63, 0, wEnt 0x48 0, by constructor <;> decide +kernel, by decide +kernel, by decide +kernel, by decide +kernel⟩,
  ⟨wTe [wEnt 0x4C 0], 63, 0, wEnt 0x4C 0, by constructor <;> decide +kernel, by decide +kernel, by decide +kernel, by decide +kernel, by decide +kernel⟩,
  ⟨wTe [wEnt 0x4C (2 ^ 97)], 63, 0, wEnt 0x4C (2 ^ 97), by constructor <;> decide +kernel, by decide +kernel, by decide +kernel, by decide +kernel, by decide +kernel⟩,
  ⟨wTe [wIss 0x40 0 0], 63, 0, wIss 0x40 0 0, by decide +kernel⟩,
  ⟨wTe [wIss 0x44 0 0], 63, 0, wIss 0x44 0 0, by decide +kernel⟩,
  ⟨wTe [wIss 0x48 0 0], 63, 0, wIss 0x48 0 0, by decide +kernel⟩,
  ⟨wTe [wIss 0x4C 0 0], 63, 0, wIss 0x4C 0 0, by decide +kernel⟩⟩

theorem test_witness_TileFollowUpsTakeEffect :
  (∃ (s : State) (t : Fin 64), s.up = true ∧ s.tileOn t = true ∧ (s.tile t).zeroing = false) ∧
  (∃ (s : State) (t : Fin 64) (k : Nat) (x : Xsig), s.up = true ∧ s.tileOn t = true ∧ (s.tile t).zeroing = false ∧ (s.tile t).xsigs = [x] ∧ x.tok = k ∧ x.poison = true ∧ ((s.tile t).tok k).count < 15) ∧
  (∃ (s : State) (p : Fin 16) (b : Fin 16) (g : List (Nat × Bool)) (rest : List (List (Nat × Bool))), s.up = true ∧ (s.bar p b).full = g :: rest) ∧
  (∃ (s : State) (p : Fin 16) (b : Fin 16) (t : Nat) (i : Nat) (rest : List (List (Nat × Bool))), s.up = true ∧ (s.bar p b).full = [(t, false)] :: rest ∧ ((s.bar p b).tiles ≠ [] ∨ (s.bar p b).cnt = 0) ∧ s.noneEnters t = true ∧ posOf (fun e => e.issued && wOpc e.word == oBAR && wBid e.word == b) 0 (s.tile t).ents = some i) ∧
  (∃ (s : State) (t : Fin 64) (i : Fin 32) (e : PEnt) (r : PailRep), s.up = true ∧ s.tileLive t = true ∧ (s.tile t).ents[i.val]? = some e ∧ e.issued = true ∧ workDone e = true ∧ r.ue = false) ∧
  (∃ (s : State) (t : Fin 64) (r : PailRep) (i : Nat), s.up = true ∧ s.tileLive t = true ∧ (s.tile t).shdSt = .loading ∧ posOf shadowLoader 0 (s.tile t).ents = some i ∧ r.ue = false) ∧
  (∃ (s : State) (t : Fin 64), s.up = true ∧ s.tileOn t = true ∧ (s.tile t).groups = 0xFF ∧ (s.tile t).ents = []) ∧
  (∃ (s : State) (t : Fin 64) (i : Nat) (e : PEnt) (r : List Nat), s.gov.ramps = t.val :: r ∧ s.issues t i e ∧ wOpc e.word = oSLD ∧ sldDyn s t i e = .go ∧ (s.tile t).loadsDirect (loadOf e.word) = false) ∧
  (∃ (s : State) (t : Fin 64) (i : Nat) (e : PEnt) (r : List Nat), s.gov.ramps = t.val :: r ∧ s.issues t i e ∧ wOpc e.word = oMPASS ∧ mpassDyn s t i e = .go) ∧
  (∃ (s : State) (t : Fin 64) (r : List Nat), s.up = true ∧ s.tileLive t = true ∧ s.gov.ramps = t.val :: r ∧ (s.tile t).head .array = none) :=
  ⟨⟨wTe [], 63, by decide +kernel⟩,
  ⟨wTl { xsigs := [⟨31, true, 0, 0, 0⟩] }, 63, 31, ⟨31, true, 0, 0, 0⟩, by decide +kernel⟩,
  ⟨wV.setBar 3 15 { full := [[(63, true)]] }, 3, 15, [(63, true)], [], by decide +kernel⟩,
  ⟨(wTe [wIss 0x61 (15 * 2 ^ 98 + 2 ^ 91) 0]).setBar 3 15 { full := [[(63, false)], [(62, true)]] }, 3, 15, 63, 0, [[(62, true)]], by decide +kernel⟩,
  ⟨wTe [wIss 0x10 0 1], 63, 0, wIss 0x10 0 1, wRep, by decide +kernel⟩,
  ⟨wTl { shdSt := .loading, ents := [wIss 0x20 (3 * 2 ^ 93) 0] }, 63, wRep, 0, by decide +kernel⟩,
  ⟨wTe [], 63, by decide +kernel⟩,
  ⟨{ wTg { ents := [wEnt 0x20 (3 * 2 ^ 93)] } with gov := { ramps := [63, 4] } }, 63, 0, wEnt 0x20 (3 * 2 ^ 93), [4], by decide +kernel, by constructor <;> decide +kernel, by decide +kernel, by decide +kernel, by decide +kernel⟩,
  ⟨{ wTg { ents := [wEnt 0x28 (3 * 2 ^ 95 + 2 ^ 25)], act := { fmt := 3 } } with gov := { ramps := [63, 4] } }, 63, 0, wEnt 0x28 (3 * 2 ^ 95 + 2 ^ 25), [4], by decide +kernel, by constructor <;> decide +kernel, by decide +kernel, by decide +kernel⟩,
  ⟨{ wTl { rampDown := true } with gov := { ramps := [63] } }, 63, [], by decide +kernel⟩⟩

theorem test_witness_RingRowsTakeEffect :
  (∃ (s : State) (p : Fin 16) (t : Fin 64) (r : Nat) (x : Nat), s.up = true ∧ s.fetchOn p = true ∧ s.ringFor p t = some r ∧ s.tileGone p t = false ∧ s.canTake t (s.rPrio p r) = true ∧ s.vloc p (s.bundleAddr p r (s.rHead p r)) = .phys x ∧ (unitsOf x 64).any s.unitBad = false ∧ ¬(wOpc (s.bundleWord p r x 0) = oRFENCE ∧ fieldBad (s.bundleWord p r x 0) = false) ∧ s.noneEnters t = true ∧ (∀ k : Fin 4, wOpc (s.bundleWord p r x k) ≠ oLOOP) ∧ ((∀ l, (s.tile t).level = some l → s.rPrio p r ≤ l)) ∧ (s.tile t).savedLevels = [] ∧ (s.tile t).ents.length ≤ 28) ∧
  (∃ (s : State) (p : Fin 16) (t : Fin 64) (r : Nat) (x : Nat), s.up = true ∧ s.fetchOn p = true ∧ s.ringFor p t = some r ∧ s.tileGone p t = false ∧ s.canTake t (s.rPrio p r) = true ∧ s.vloc p (s.bundleAddr p r (s.rHead p r)) = .phys x ∧ (unitsOf x 64).any s.unitBad = false ∧ ¬(wOpc (s.bundleWord p r x 0) = oRFENCE ∧ fieldBad (s.bundleWord p r x 0) = false) ∧ wOpc (s.bundleWord p r x 0) = oRFENCE) ∧
  (∃ (s : State) (p : Fin 16) (t : Fin 64) (r : Nat) (x : Nat), s.up = true ∧ s.fetchOn p = true ∧ s.ringFor p t = some r ∧ s.tileGone p t = false ∧ s.canTake t (s.rPrio p r) = true ∧ s.vloc p (s.bundleAddr p r (s.rHead p r)) = .phys x ∧ (unitsOf x 64).any s.unitBad = false ∧ wOpc (s.bundleWord p r x 0) = oRFENCE ∧ fieldBad (s.bundleWord p r x 0) = false) ∧
  (∃ (s : State) (p : Fin 16) (t : Fin 64) (r : Nat), s.up = true ∧ s.fetchOn p = true ∧ s.ringFor p t = some r ∧ s.tileGone p t = false ∧ s.canTake t (s.rPrio p r) = true ∧ s.vloc p (s.bundleAddr p r (s.rHead p r)) = .gone) ∧
  (∃ (s : State) (p : Fin 16) (t : Fin 64) (r : Nat) (x : Nat), s.up = true ∧ s.fetchOn p = true ∧ s.ringFor p t = some r ∧ s.tileGone p t = false ∧ s.canTake t (s.rPrio p r) = true ∧ s.vloc p (s.bundleAddr p r (s.rHead p r)) = .phys x ∧ (unitsOf x 64).any s.unitBad = true) ∧
  (∃ (s : State) (p : Fin 16) (r : Fin 8) (g : Seg) (gs : List Seg) (x : Nat), s.up = true ∧ (s.sring p r).segs = g :: gs ∧ s.fetchOn p = true ∧ (s.sring p r).fenced = true ∧ (s.sring p r).fence.any (fun f => s.earlier p f.1 f.2) = false ∧ s.entriesDue p (s.sring p r) = false ∧ s.tileGone p g.tile = false ∧ s.canTake g.tile (s.rPrio p r) = true ∧ s.vloc p (s.bundleAddr p r (s.rHead p r)) = .phys x ∧ (unitsOf x 64).any s.unitBad = false) ∧
  (∃ (s : State) (t : Fin 64) (l : Nat) (p : Nat), s.up = true ∧ (s.tile t).topSaved = some l ∧ s.ownerOf t = some p ∧ ((s.tile t).liveEnts.any fun e => l < e.lvl) = false ∧ ((List.range 8).any fun r => l < s.rPrio p r && (s.sring p r).segs.any fun g => g.tile == t.val) = false ∧ s.tileLive t = true ∧ ((s.tile t).ents.any fun e => e.lvl == l && e.cut) = false) ∧
  (∃ (s : State) (p : Fin 16) (n : BitVec 64), s.up = true ∧ s.flag F.SEP_PC_PERF_CTL_TEL_EN 0 p = true ∧ s.dom 8 = .on ∧ s.msgPort p = none ∧ (∀ j : Fin 18, (s.port j).bq = [])) ∧
  (∃ (s : State) (p : Fin 16) (k : Nat), s.up = true ∧ s.flag F.SEP_PC_PERF_CTL_TEL_EN 0 p = true ∧ s.dom 8 = .on ∧ s.msgPort p = some k ∧ (∀ j : Fin 18, (s.port j).bq = [])) :=
  ⟨⟨wRg 0 {}, 3, 63, 7, pageSize + 4096, by decide +kernel, by decide +kernel, by decide +kernel, by decide +kernel, by decide +kernel, by decide +kernel, by decide +kernel, by decide +kernel, by decide +kernel, by decide +kernel, fun l h => absurd h (by rw [show ((wRg 0 {}).tile (63 : Fin 64)).level = none by decide +kernel]; simp), by decide +kernel, by decide +kernel⟩,
  ⟨wRg (0x70 * 2 ^ 120 + (2 ^ 18 - 1) * 2 ^ 102 + 1) {}, 3, 63, 7, pageSize + 4096, by decide +kernel⟩,
  ⟨wRg (0x70 * 2 ^ 120 + (2 ^ 18 - 1) * 2 ^ 102) {}, 3, 63, 7, pageSize + 4096, by decide +kernel⟩,
  ⟨(wRg 0 {}).setPage 1 { st := .mapped, valid := true, part := 3, ppage := 5 }, 3, 63, 7, by decide +kernel⟩,
  ⟨(wRg 0 {}).vpoison ((pageSize + 4096) / 64), 3, 63, 7, pageSize + 4096, by decide +kernel⟩,
  ⟨wRg 0 { fenced := true }, 3, 7, ⟨63, 1⟩, [], pageSize + 4096, by decide +kernel⟩,
  ⟨wTl { saved := ({} : Tab PassRec).set {} ⟨2, 0, 0⟩ { ents := [wEnt 0 0] } }, 63, 2, 3, by decide +kernel⟩,
  ⟨(wTe [] |>.putFlag F.SEP_PC_PERF_CTL_TEL_EN true 0 3).put F.SEP_PT_PORTS_ACTIVE 0 3, 3, 7, by decide +kernel⟩,
  ⟨wTe [] |>.putFlag F.SEP_PC_PERF_CTL_TEL_EN true 0 3, 3, 0, by decide +kernel⟩⟩

theorem test_witness_ChainRowsTakeEffect :
  (∃ (f : MilkFrame), f.typ < 256 ∧ f.addr < 256 ∧ f.seq < 256 ∧ f.payload.length ≤ 64) ∧
  (∃ (s : State) (lo : MilkLine) (lr : MilkLine) (n : Nat), s.up = true ∧ s.roundDue = some n ∧ s.herdRuns = true ∧ s.herd.startAt ≠ s.tim.optime + 1 ∧ s.herd.ph = .idle ∧ s.herd.needWake = false ∧ s.tim.optime < s.herd.lastTx + 500 ∧ s.herd.needEnum = false) ∧
  (∃ (s : State) (lo : MilkLine) (lr : MilkLine) (n : Nat) (p : Fin 12), s.up = true ∧ s.roundDue = some n ∧ s.herdRuns = true ∧ s.herd.startAt ≠ s.tim.optime + 1 ∧ s.herd.ph = .idle ∧ s.herd.needWake = false ∧ s.tim.optime < s.herd.lastTx + 500 ∧ s.herd.needEnum = false ∧ s.fld F.HRD_STAT_MODE = 3 ∧ CleanLine lo ∧ s.reaches false lo (p.val + 1) = true ∧ (s.mon (p.val + 1)).awake = true ∧ (s.mon (p.val + 1)).hopA ≠ 255) ∧
  (∃ (s : State) (lo : MilkLine) (lr : MilkLine) (n : Nat), s.up = true ∧ s.roundDue = some n ∧ s.herdRuns = true ∧ s.herd.startAt ≠ s.tim.optime + 1 ∧ s.herd.ph = .idle ∧ s.herd.needWake = true) ∧
  (∃ (s : State) (p : Fin 12) (cells : List (BitVec 16)) (temps : List (BitVec 16)) (aper : Nat) (round : Nat), measFits cells temps = true ∧ (s.mon (p.val + 1)).due = some (aper, round)) ∧
  (∃ (s : State) (ret : Bool), s.up = true ∧ s.herd.ph = .round ∧ (s.herd.side ret).cur ≠ 0 ∧ (s.herd.side ret).cmd = none) ∧
  (∃ (s : State) (ret : Bool) (l : MilkLine) (p : Fin 12), s.up = true ∧ s.herd.ph = .round ∧ (s.herd.side ret).cmd = none ∧ CleanLine l ∧ s.reaches ret l (p.val + 1) = true ∧ (s.mon (p.val + 1)).awake = true ∧ (s.mon (p.val + 1)).addr = (s.herd.side ret).cur ∧ 1 ≤ (s.herd.side ret).cur ∧ (s.herd.side ret).cur ≤ 12 ∧ (∀ q : Fin 12, q ≠ p → (s.mon (q + 1)).addr ≠ (s.herd.side ret).cur)) ∧
  (∃ (s : State) (ret : Bool) (rx : Option (List Byte)) (b : List Byte) (c : MilkFrame) (x : MilkFrame) (a : Fin 12), s.up = true ∧ s.herd.ph = .round ∧ (s.herd.side ret).cmd = some c ∧ c.addr = a.val + 1 ∧ (match rx with | some b => some b | none => (s.herd.side ret).ans) = some b ∧ milkTake b = some x ∧ x.answers c = true ∧ x.payload.length = 52) ∧
  (∃ (s : State) (ret : Bool) (b : List Byte) (c : MilkFrame), s.up = true ∧ s.herd.ph = .round ∧ (s.herd.side ret).cur ≠ 0 ∧ (s.herd.side ret).cmd = some c ∧ (s.herd.side ret).retry = false ∧ milkTake b = none) ∧
  (∃ (s : State) (ret : Bool) (b : List Byte) (c : MilkFrame) (x : MilkFrame), s.up = true ∧ s.herd.ph = .round ∧ (s.herd.side ret).cur ≠ 0 ∧ (s.herd.side ret).cmd = some c ∧ (s.herd.side ret).retry = false ∧ milkTake b = some x ∧ (x.answers c = false ∨ x.payload.length ≠ 52)) ∧
  (∃ (s : State) (ret : Bool) (c : MilkFrame), s.up = true ∧ s.herd.ph = .round ∧ (s.herd.side ret).cur ≠ 0 ∧ (s.herd.side ret).cmd = some c ∧ (s.herd.side ret).retry = false) ∧
  (∃ (s : State), s.up = true ∧ s.fld F.HRD_STAT_MODE = 3 ∧ s.herd.ph = .round ∧ s.herd.echo ≠ .intact) ∧
  (∃ (s : State), s.up = true ∧ s.roundOver = true) ∧
  (∃ (s : State) (ret : Bool) (na : Nat) (hop : Nat), s.up = true ∧ s.herd.asks ret = some (na, hop) ∧ (s.herd.side ret).cmd = none) ∧
  (∃ (s : State) (ret : Bool) (l : MilkLine) (na : Nat) (hop : Nat) (p : Fin 12), s.up = true ∧ s.herd.asks ret = some (na, hop) ∧ (s.herd.side ret).cmd = none ∧ CleanLine l ∧ na ≠ 0 ∧ na < 256 ∧ hop < 256 ∧ s.reaches ret l (p.val + 1) = true ∧ (s.mon (p.val + 1)).awake = true ∧ (s.mon (p.val + 1)).addr = 0) ∧
  (∃ (s : State) (rx : Option (List Byte)) (b : List Byte) (c : MilkFrame) (x : MilkFrame), s.up = true ∧ s.herd.ph = .enumOut ∧ s.herd.out.cmd = some c ∧ (match rx with | some b => some b | none => s.herd.out.ans) = some b ∧ milkTake b = some x ∧ x.answers c = true ∧ x.payload.length = 8 ∧ s.herd.k < 12) ∧
  (∃ (s : State) (a : Fin 12) (ha : Nat) (hb : Nat) (c : MilkFrame), s.up = true ∧ s.herd.ph = .setup ∧ s.herd.todo.contains (a.val + 1) = true ∧ s.herd.out.cmd = none ∧ s.herd.ret.cmd = none ∧ ha = (if a.val + 1 ≤ s.herd.k then a.val else 255) ∧ hb = (if s.herd.ring then s.herd.k - (a.val + 1) else if a.val + 1 ≤ s.herd.k then 255 else s.herd.c - (a.val + 1)) ∧ c = s.herd.frame 0x04 (a.val + 1) (leBytes 1 ha ++ leBytes 1 hb)) ∧
  (∃ (s : State) (a : Fin 12) (l : MilkLine) (ha : Nat) (hb : Nat) (c : MilkFrame) (p : Fin 12), s.up = true ∧ s.herd.ph = .setup ∧ s.herd.todo.contains (a.val + 1) = true ∧ s.herd.out.cmd = none ∧ s.herd.ret.cmd = none ∧ ha = (if a.val + 1 ≤ s.herd.k then a.val else 255) ∧ hb = (if s.herd.ring then s.herd.k - (a.val + 1) else if a.val + 1 ≤ s.herd.k then 255 else s.herd.c - (a.val + 1)) ∧ c = s.herd.frame 0x04 (a.val + 1) (leBytes 1 ha ++ leBytes 1 hb) ∧ CleanLine l ∧ s.reaches (!decide (a.val + 1 ≤ s.herd.k)) l (p.val + 1) = true ∧ (s.mon (p.val + 1)).awake = true ∧ (s.mon (p.val + 1)).addr = a.val + 1) ∧
  (∃ (s : State) (a : Fin 12) (rx : Option (List Byte)) (ha : Nat) (hb : Nat) (c : MilkFrame) (b : List Byte) (x : MilkFrame), s.up = true ∧ s.herd.ph = .setup ∧ s.herd.todo.contains (a.val + 1) = true ∧ s.herd.out.cmd = none ∧ s.herd.ret.cmd = none ∧ ha = (if a.val + 1 ≤ s.herd.k then a.val else 255) ∧ hb = (if s.herd.ring then s.herd.k - (a.val + 1) else if a.val + 1 ≤ s.herd.k then 255 else s.herd.c - (a.val + 1)) ∧ c = s.herd.frame 0x04 (a.val + 1) (leBytes 1 ha ++ leBytes 1 hb) ∧ rx = some b ∧ milkTake b = some x ∧ x.answers c = true ∧ x.payload = []) ∧
  (∃ (s : State), s.up = true ∧ s.herd.ph = .reset) ∧
  (∃ (s : State) (lo : MilkLine) (lr : MilkLine) (p : Fin 12), s.up = true ∧ s.herd.ph = .reset ∧ CleanLine lo ∧ CleanLine lr ∧ s.reaches false lo (p.val + 1) = true ∧ (s.mon (p.val + 1)).awake = true) ∧
  (∃ (s : State), s.up = true ∧ s.herd.sleepDue = true) ∧
  (∃ (s : State) (lo : MilkLine) (lr : MilkLine) (p : Fin 12), s.up = true ∧ s.herd.sleepDue = true ∧ CleanLine lo ∧ CleanLine lr ∧ s.reaches false lo (p.val + 1) = true ∧ (s.mon (p.val + 1)).awake = true) ∧
  (∃ (s : State) (l : MilkLine), s.up = true ∧ (s.herd.ph = .ping ∨ s.herd.ph = .probe) ∧ CleanLine l ∧ s.herd.ph = .ping) ∧
  (∃ (s : State) (l : MilkLine), s.up = true ∧ (s.herd.ph = .ping ∨ s.herd.ph = .probe) ∧ CleanLine l ∧ s.herd.ph = .probe) ∧
  (∃ (s : State) (l : MilkLine) (i : Fin 13) (bs : List Byte), s.up = true ∧ (s.herd.ph = .ping ∨ s.herd.ph = .probe) ∧ l.cut = 0 ∧ l.busy = 0 ∧ l.hit = some (i, bs) ∧ i.val = l.n ∧ milkTake bs = none ∧ ((List.range l.n).all fun i => s.repeats l (i + 1)) = true) ∧
  (∃ (s : State), s.up = true ∧ s.dom 4 = .on ∧ s.dom 5 = .on ∧ s.herd.ph = .due) ∧
  (∃ (s : State) (p : Fin 12), (s.mon (p.val + 1)).awake = true) ∧
  (∃ (s : State) (p : Fin 12), (s.mon (p.val + 1)).awake = true ∧ (s.mon (p.val + 1)).standby = true) ∧
  (∃ (s : State) (p : Fin 12), (s.mon (p.val + 1)).awake = false) :=
  ⟨⟨⟨255, 255, 255, List.replicate 64 255⟩, by decide +kernel⟩,
  ⟨wHd { lastTx := 590 }, wLn, wLn, 20, by decide +kernel⟩,
  ⟨(wCh { lastTx := 590 }).put F.HRD_STAT_MODE 3, wLn, wLn, 20, 11, by decide +kernel, by decide +kernel, by decide +kernel, by decide +kernel, by decide +kernel, by decide +kernel, by decide +kernel, by decide +kernel, by decide +kernel, ⟨rfl, rfl, rfl⟩, by decide +kernel, by decide +kernel, by decide +kernel⟩,
  ⟨wHd { needWake := true }, wLn, wLn, 20, by decide +kernel⟩,
  ⟨wS.setMon 12 { awake := true, addr := 12, hopA := 0, due := some (9, 30) }, 11, List.replicate 20 0xFFFF, List.replicate 4 0, 9, 30, by decide +kernel⟩,
  ⟨wHd { ph := .round, out := { cur := 5 } }, false, by decide +kernel⟩,
  ⟨wCh { ph := .round, ret := { cur := 12 } }, true, wLn, 11, by decide +kernel, by decide +kernel, by decide +kernel, ⟨rfl, rfl, rfl⟩, by decide +kernel, by decide +kernel, by decide +kernel, by decide +kernel, by decide +kernel, by decide +kernel⟩,
  ⟨wHd { ph := .round, out := { cur := 12, cmd := some (wCmd 2 12 5), ans := some (wAns 2 12 52) } }, false, none, wAns 2 12 52, wCmd 2 12 5, ⟨0x82, 12, 9, List.replicate 52 5⟩, 11, by decide +kernel⟩,
  ⟨wHd { ph := .round, ret := { cur := 12, cmd := some (wCmd 2 12 5) } }, true, [1], wCmd 2 12 5, by decide +kernel⟩,
  ⟨wHd { ph := .round, ret := { cur := 12, cmd := some (wCmd 2 12 5) } }, true, wAns 2 11 52, wCmd 2 12 5, ⟨0x82, 11, 9, List.replicate 52 5⟩, by decide +kernel⟩,
  ⟨wHd { ph := .round, ret := { cur := 12, cmd := some (wCmd 2 12 5) } }, true, wCmd 2 12 5, by decide +kernel⟩,
  ⟨(wHd { ph := .round }).put F.HRD_STAT_MODE 3, by decide +kernel⟩,
  ⟨(wHd { ph := .round }).put F.HRD_STAT_MODE 3, by decide +kernel⟩,
  ⟨wHd { ph := .enumRet, c := 12, j := 3 }, true, 9, 3, by decide +kernel⟩,
  ⟨(wCh { ph := .enumOut, k := 11 }).setMon 12 { awake := true, uid := 7 }, false, wLn, 12, 11, 11, by decide +kernel, by decide +kernel, by decide +kernel, ⟨rfl, rfl, rfl⟩, by decide +kernel, by decide +kernel, by decide +kernel, by decide +kernel, by decide +kernel, by decide +kernel⟩,
  ⟨wHd { ph := .enumOut, k := 11, out := { cmd := some (wCmd 3 0x3F 2) } }, some (wAns 3 0 8), wAns 3 0 8, wCmd 3 0x3F 2, ⟨0x83, 0, 9, List.replicate 8 5⟩, by decide +kernel⟩,
  ⟨wHd wUp, 11, 11, 0, wUp.frame 4 12 [11, 0], by decide +kernel⟩,
  ⟨wCh wUp, 11, wLn, 11, 0, wUp.frame 4 12 [11, 0], 11, by decide +kernel, by decide +kernel, by decide +kernel, by decide +kernel, by decide +kernel, by decide +kernel, by decide +kernel, by decide +kernel, ⟨rfl, rfl, rfl⟩, by decide +kernel, by decide +kernel, by decide +kernel⟩,
  ⟨wHd { wUp with seq := 9 }, 11, some (wAns 4 12 0), 11, 0, ⟨4, 12, 9, [11, 0]⟩, wAns 4 12 0, ⟨0x84, 12, 9, []⟩, by decide +kernel⟩,
  ⟨wHd { ph := .reset }, by decide +kernel⟩,
  ⟨wCh { ph := .reset }, wLn, wLn, 11, by decide +kernel, by decide +kernel, ⟨rfl, rfl, rfl⟩, ⟨rfl, rfl, rfl⟩, by decide +kernel, by decide +kernel⟩,
  ⟨wHd { sleepDue := true }, by decide +kernel⟩,
  ⟨wCh { sleepDue := true }, wLn, wLn, 11, by decide +kernel, by decide +kernel, ⟨rfl, rfl, rfl⟩, ⟨rfl, rfl, rfl⟩, by decide +kernel, by decide +kernel⟩,
  ⟨wCh { ph := .ping }, wLn, by decide +kernel, by decide +kernel, ⟨rfl, rfl, rfl⟩, by decide +kernel⟩,
  ⟨wCh { ph := .probe }, wLn, by decide +kernel, by decide +kernel, ⟨rfl, rfl, rfl⟩, by decide +kernel⟩,
  ⟨wCh { ph := .ping }, ⟨12, 0, some (12, [1]), 0⟩, 12, [1], by decide +kernel⟩,
  ⟨wHd { ph := .due }, by decide +kernel⟩,
  ⟨wS.setMon 12 { awake := true, bal := 3 }, 11, by decide +kernel⟩,
  ⟨wS.setMon 12 { awake := true, standby := true }, 11, by decide +kernel⟩,
  ⟨wS, 11, by decide +kernel⟩⟩

theorem test_witness_PackRowsTakeEffect :
  (∃ (s : State) (c : Fin 6), s.up = true ∧ s.dom 5 = .on ∧ s.flag F.PKM_CFG_EN c = true ∧ c.val ≠ 1) ∧
  (∃ (s : State) (c : Fin 6), s.up = true ∧ s.dom 5 = .on ∧ s.flag F.PKM_CFG_EN c = true ∧ c.val ≠ 1) ∧
  (∃ (s : State) (c : Fin 6), s.up = true ∧ s.dom 5 = .on ∧ s.flag F.PKM_CFG_EN c = true ∧ c.val = 1 ∧ s.fld F.PKM_HALL_SCALE_SCALE ≠ 0) ∧
  (∃ (s : State) (c : Fin 6), s.up = true ∧ s.dom 5 = .on ∧ s.flag F.PKM_CFG_EN c = true ∧ c.val ≠ 1) ∧
  (∃ (s : State), s.up = true ∧ s.dom 5 = .on ∧ s.flag F.PKM_ISO_CFG_ISO_EN = true) ∧
  (∃ (s : State), s.up = true ∧ s.dom 5 = .on ∧ s.fld F.PKM_CFG_GAIN 0 = 3 ∧ s.pack.gain < 2 ∧ (∃ c, s.pack.calm = some c ∧ c + 10 ≤ s.tim.optime)) ∧
  (∃ (s : State) (c : Fin 6), s.up = true ∧ hasBit s.pack.syncWait c = true) :=
  ⟨⟨wPk, 5, by decide +kernel⟩,
  ⟨wPk, 0, by decide +kernel⟩,
  ⟨wPk.put F.PKM_HALL_SCALE_SCALE 100, 1, by decide +kernel⟩,
  ⟨wPk, 0, by decide +kernel⟩,
  ⟨wPk.putFlag F.PKM_ISO_CFG_ISO_EN true, by decide +kernel⟩,
  ⟨{ wPk.put F.PKM_CFG_GAIN 3 0 with pack := { calm := some 3 }, tim := { optime := 13 } }, by decide +kernel, by decide +kernel, by decide +kernel, by decide +kernel, 3, by decide +kernel⟩,
  ⟨{ wPk with pack := { syncWait := 63 } }, 5, by decide +kernel⟩⟩

theorem test_witness_ContactorRowsTakeEffect :
  (∃ (s : State) (n : Fin 21), s.up = true ∧ (s.cond n).since.isSome = true ∧ s.bit F.EST_COND_CONF_CONF n = false ∧ (n.val = 20 ∨ s.condDue n = true)) ∧
  (∃ (s : State) (cause : Nat) (at_ : Nat), s.up = true ∧ s.ctr.wait = some (cause, at_)) ∧
  (∃ (s : State), s.up = true ∧ s.fld F.EST_DISC_STATE = 4) ∧
  (∃ (s : State), s.up = true) ∧
  (∃ (s : State), s.up = true ∧ (s.seq = 1 ∨ s.seq = 3) ∧ s.ctr.auxAt.isSome = true ∧ s.ctr.passed = false ∧ s.flag F.CTR_SEQ_RES_WELD_SKIP = true) ∧
  (∃ (s : State), s.up = true ∧ (s.seq = 1 ∨ s.seq = 3) ∧ s.ctr.auxAt.isSome = true ∧ s.ctr.passed = false ∧ s.flag F.CTR_SEQ_RES_WELD_SKIP = false ∧ s.ctr.risen = true) ∧
  (∃ (s : State), s.up = true ∧ s.seq = 4 ∧ s.stepPassed = false) ∧
  (∃ (s : State) (c : Fin 4), s.up = true ∧ hasBit s.ctr.peak c = true) ∧
  (∃ (s : State) (c : Fin 4), s.up = true ∧ s.coil c = true) ∧
  (∃ (s : State) (c : Fin 4), s.up = true ∧ s.coil c = true) ∧
  (∃ (s : State) (c : Fin 4), s.up = true ∧ s.aux c ≠ s.coil c) ∧
  (∃ (s : State) (c : Fin 4), s.up = true ∧ s.aux c = true ∧ s.coil c = false) ∧
  (∃ (s : State), s.up = true ∧ s.ctr.check = true) ∧
  (∃ (s : State), s.up = true ∧ (s.seq = 7 ∨ s.seq = 8)) ∧
  (∃ (s : State), s.up = true) :=
  ⟨⟨wS.setCond 20 { since := some 0, runs := 2 }, 20, by decide +kernel⟩,
  ⟨{ wR with ctr := { wait := some (1, 0) } }, 1, 0, by decide +kernel⟩,
  ⟨wR.put F.EST_DISC_STATE 4, by decide +kernel⟩,
  ⟨wS, by decide +kernel⟩,
  ⟨(wSq 3).putFlag F.CTR_SEQ_RES_WELD_SKIP true, by decide +kernel⟩,
  ⟨{ wSq 1 with ctr := { auxAt := some 0, risen := true } }, by decide +kernel⟩,
  ⟨wSq 4, by decide +kernel⟩,
  ⟨{ wS with ctr := { peak := 15 } }, 3, by decide +kernel⟩,
  ⟨wS.putBitOf F.CTR_STAT_COIL 3 true, 3, by decide +kernel⟩,
  ⟨wS.putBitOf F.CTR_STAT_COIL 3 true, 3, by decide +kernel⟩,
  ⟨wS.putBitOf F.CTR_STAT_COIL 3 true, 3, by decide +kernel⟩,
  ⟨wS.putBitOf F.CTR_STAT_AUX 0 true, 0, by decide +kernel⟩,
  ⟨{ wS with ctr := { check := true } }, by decide +kernel⟩,
  ⟨wSq 8, by decide +kernel⟩,
  ⟨wS.putFlag F.CTR_STAT_COOL true, by decide +kernel⟩⟩

theorem test_witness_FieldRowsTakeEffect :
  (∃ (s : State) (n : Fin 16), s.up = true ∧ s.lswOn n = true ∧ hasBit s.field.blank n = false) ∧
  (∃ (s : State) (n : Fin 16), s.up = true ∧ s.lswOn n = true) ∧
  (∃ (s : State), s.up = true) ∧
  (∃ (s : State) (n : Fin 16), s.up = true ∧ s.olRuns n = true) ∧
  (∃ (s : State) (n : Fin 16), s.up = true ∧ s.olRuns n = true) ∧
  (∃ (s : State), s.up = true ∧ s.flag F.LSW_SUP_STAT_VFLD_UV = false) ∧
  (∃ (s : State), s.up = true ∧ s.flag F.LSW_SUP_STAT_VFLD_UV = true) ∧
  (∃ (s : State), s.up = true) ∧
  (∃ (s : State) (n : Fin 4), s.up = true ∧ s.field.bad.get 0 ⟨n, 0, 0⟩ = 21 ∧ hasBit s.field.fired n = false ∧ s.bit F.LOOP_STAT_FALLBACK n = false) ∧
  (∃ (s : State) (n : Fin 4), s.up = true ∧ s.lisOn n = true ∧ s.bit F.LIS_CTL_LIS_OC n = false) ∧
  (∃ (s : State) (n : Fin 4), s.up = true ∧ s.lisOn n = true) ∧
  (∃ (s : State) (k : Fin 4), s.up = true ∧ s.bit F.AON_FRONT_STAT_TK_ACTIVE k = false) ∧
  (∃ (s : State) (k : Fin 4), s.up = true ∧ (s.bit F.TCH_STAT_STUCK k = true ∨ s.bit F.AON_FRONT_STAT_TK_ACTIVE k = true)) ∧
  (∃ (s : State) (k : Fin 4), s.up = true ∧ s.bit F.AON_FRONT_STAT_TK_ACTIVE k = true) :=
  ⟨⟨wSw 15, 15, by decide +kernel⟩,
  ⟨wSw 15, 15, by decide +kernel⟩,
  ⟨wSw 15, by decide +kernel⟩,
  ⟨wS.putBitOf F.LSW_OL_OL_EN 15 true, 15, by decide +kernel⟩,
  ⟨wS.putBitOf F.LSW_OL_OL_EN 15 true, 15, by decide +kernel⟩,
  ⟨wSw 15, by decide +kernel⟩,
  ⟨wR.putFlag F.LSW_SUP_STAT_VFLD_UV true, by decide +kernel⟩,
  ⟨wR, by decide +kernel⟩,
  ⟨{ wR with field := { bad := ({} : Tab Nat).set 0 ⟨3, 0, 0⟩ 21 } }, 3, by decide +kernel⟩,
  ⟨wR.putBitOf F.LIS_CTL_LIS_EN 3 true, 3, by decide +kernel⟩,
  ⟨wR.putBitOf F.LIS_CTL_LIS_EN 3 true, 3, by decide +kernel⟩,
  ⟨wS, 3, by decide +kernel⟩,
  ⟨wS.putBitOf F.TCH_STAT_STUCK 3 true, 3, by decide +kernel⟩,
  ⟨wS.putBitOf F.AON_FRONT_STAT_TK_ACTIVE 3 true, 3, by decide +kernel⟩⟩

theorem test_witness_TickAndFrameRowsTakeEffect :
  (∃ (s : State) (code : Byte) (inst : Byte), blockNamed code inst = true ∧ s.up = true ∧ (s.blk code.toNat inst.toNat).active = true ∧ (s.blk code.toNat inst.toNat).latched = false ∧ s.condHolds code.toNat inst.toNat = false ∧ s.blkPowered code.toNat inst.toNat = true) ∧
  (∃ (s : State) (kind : Fin 6) (inst : Byte) (still : List DetRef), s.up = true ∧ (s.shadows.find? fun x => x.key == ⟨kind.val, inst.toNat⟩).isSome = true ∧ (∀ d ∈ still, levelDet ⟨d.code.toNat, d.inst.toNat, d.typ.toNat⟩ = false)) ∧
  (∃ (s : State), s.up = true) ∧
  (∃ (s : State) (f : Frame) (g : Frame) (n : Fin 16) (cf : Bool) (cg : Bool) (i : Nat) (j : Nat) (b : Nat) (c : Nat), s.up = true ∧ s.nodeUp = true ∧ s.waitBoth f g ∧ f.order = .lswCmd n false cf i b ∧ g.order = .lswCmd n true cg j c ∧ s.mayOrder f ∧ s.mayOrder g ∧ s.flag F.AON_PIN_PHASE_FIELD_EN = true ∧ s.lswHeld n = false ∧ s.supHeld = false) ∧
  (∃ (s : State) (f : Frame) (g : Frame) (n : Fin 16) (i : Nat) (j : Nat) (b : Nat) (c : Nat), s.up = true ∧ s.nodeUp = true ∧ s.waitBoth f g ∧ f.order = .lswCmd n false true i b ∧ g.order = .lswCmd n false true j c ∧ (i ≠ j ∨ b ≠ c) ∧ s.mayOrder f ∧ s.mayOrder g ∧ s.isSteward f.host = true ∧ s.isSteward g.host = false ∧ s.lease.lost = false ∧ s.tim.optime + 1 < s.lease.since + 3000) ∧
  (∃ (s : State) (f : Frame) (g : Frame) (n : Fin 16) (i : Nat) (j : Nat) (b : Nat) (c : Nat), s.up = true ∧ s.nodeUp = true ∧ s.waitTurn f g ∧ f.order = .lswCmd n false true i b ∧ g.order = .lswCmd n false true j c ∧ s.mayOrder f ∧ s.mayOrder g ∧ s.lease.held = false) ∧
  (∃ (s : State) (f : Frame) (g : Frame) (n : Fin 16) (i : Nat) (j : Nat) (b : Nat) (c : Nat), s.up = true ∧ s.nodeUp = true ∧ s.waitTurn f g ∧ f.order = .lswCmd n false true i b ∧ g.order = .lswCmd n false true j c ∧ s.mayOrder f ∧ s.mayOrder g ∧ s.lease.held = false) ∧
  (∃ (s : State) (f : Frame) (g : Frame), s.up = true ∧ s.nodeUp = true ∧ s.waitBoth f g ∧ f.order = .claim false ∧ g.order = .release ∧ s.mayOrder f ∧ s.mayOrder g ∧ s.isSteward g.host = true ∧ s.claimOk f.host false = true ∧ s.lease.lost = false) ∧
  (∃ (s : State) (f : Frame) (g : Frame) (k : Fin 16) (v : BitVec 32), s.up = true ∧ s.nodeUp = true ∧ s.waitBoth f g ∧ f.order = .regRead (0x1420 + k) 1 ∧ g.order = .regWrite (0x1420 + k) [v] ∧ s.mayOrder f ∧ s.mayOrder g ∧ s.isSteward g.host = true ∧ s.lease.lost = false ∧ s.tim.optime + 1 < s.lease.since + 3000) ∧
  (∃ (s : State) (f : Frame) (g : Frame) (k : Fin 16) (v : BitVec 32) (w : BitVec 32), s.up = true ∧ s.nodeUp = true ∧ s.waitTurn f g ∧ f.order = .regWrite (0x1420 + k) [v] ∧ g.order = .regWrite (0x1420 + k) [w] ∧ s.mayOrder f ∧ s.mayOrder g ∧ s.isSteward f.host = true ∧ g.host = f.host ∧ s.lease.lost = false ∧ s.tim.optime + 1 < s.lease.since + 3000) ∧
  (∃ (s : State) (dst : BitVec 48) (src : BitVec 48) (et : BitVec 16) (b : List Byte) (fcs : BitVec 32), payloadFits b = true ∧ s.up = true ∧ s.nodeUp = true ∧ s.macAccepts dst.toNat src.toNat et.toNat b fcs.toNat = true ∧ 16 ≤ b.length ∧ (rawFrame b).ver / 16 = 1 ∧ (rawFrame b).malformed b.length = false ∧ (rawFrame b).auth = true ∧ s.authentic (rawFrame b) b = true ∧ s.judge (rawFrame b).host (rawFrame b).seq = .new ∧ s.mailRoom (rawFrame b).host = true ∧ (rawFrame b).typ ≠ 2 ∧ (rawFrame b).typ ≠ 5) ∧
  (∃ (s : State) (dst : BitVec 48) (src : BitVec 48) (et : BitVec 16) (b : List Byte) (fcs : BitVec 32), payloadFits b = true ∧ s.up = true ∧ s.macAccepts dst.toNat src.toNat et.toNat b fcs.toNat = false) ∧
  (∃ (o : OutFrame) (sess : Nat), o.minor < 16 ∧ o.typ < 256 ∧ o.host < 16 ∧ o.seq < 2 ^ 32 ∧ sess < 2 ^ 32 ∧ o.body.length ≤ 1468) ∧
  (∃ (s : State) (o : OutFrame) (sess : Nat), s.keyOf o.host ≠ [] ∧ o.key = some (s.keyOf o.host) ∧ sess = s.fld F.MGT_SESS_SESS) ∧
  (∃ (s : State), s.up = true ∧ s.nodeUp = true) ∧
  (∃ (s : State), s.up = true ∧ s.fld F.MGT_STAT_PLCA = 1) ∧
  (∃ (s : State), s.up = true) :=
  ⟨⟨wS.setBlk 7 0 { active := true }, 7, 0, by decide +kernel⟩,
  ⟨{ wS with shadows := [{ key := ⟨5, 0⟩, fid := 7, dets := [⟨11, 0, 1⟩] }] }, 5, 0, [⟨11, 0, 1, 0⟩], by decide +kernel⟩,
  ⟨wS, by decide +kernel⟩,
  ⟨{ wT2 with mgt := { wT2.mgt with rxq := [⟨2, 5, 3, true, 7, .lswCmd 15 false true 50 9, none⟩, ⟨3, 5, 3, true, 7, .lswCmd 15 true true 60 9, none⟩] } }, ⟨2, 5, 3, true, 7, .lswCmd 15 false true 50 9, none⟩, ⟨3, 5, 3, true, 7, .lswCmd 15 true true 60 9, none⟩, 15, true, true, 50, 60, 9, 9, by decide +kernel, by decide +kernel, .inl rfl, rfl, rfl, by constructor <;> decide +kernel, by constructor <;> decide +kernel, by decide +kernel, by decide +kernel, by decide +kernel⟩,
  ⟨{ wT2 with mgt := { wT2.mgt with rxq := [⟨2, 5, 3, true, 7, .lswCmd 15 false true 50 9, none⟩, ⟨3, 5, 3, true, 7, .lswCmd 15 false true 60 9, none⟩] } }, ⟨2, 5, 3, true, 7, .lswCmd 15 false true 50 9, none⟩, ⟨3, 5, 3, true, 7, .lswCmd 15 false true 60 9, none⟩, 15, 50, 60, 9, 9, by decide +kernel, by decide +kernel, .inl rfl, rfl, rfl, by decide +kernel, by constructor <;> decide +kernel, by constructor <;> decide +kernel, by decide +kernel, by decide +kernel, by decide +kernel, by decide +kernel⟩,
  ⟨{ wM2 with mgt := { wM2.mgt with rxq := [⟨2, 5, 3, true, 7, .lswCmd 15 false true 50 9, none⟩, ⟨3, 5, 3, true, 7, .lswCmd 15 false true 60 9, none⟩] } }, ⟨2, 5, 3, true, 7, .lswCmd 15 false true 50 9, none⟩, ⟨3, 5, 3, true, 7, .lswCmd 15 false true 60 9, none⟩, 15, 50, 60, 9, 9, by decide +kernel, by decide +kernel, rfl, rfl, rfl, by constructor <;> decide +kernel, by constructor <;> decide +kernel, by decide +kernel⟩,
  ⟨{ wM2 with mgt := { wM2.mgt with rxq := [⟨2, 5, 3, true, 7, .lswCmd 15 false true 50 9, none⟩, ⟨3, 5, 3, true, 7, .lswCmd 15 false true 50 9, none⟩] } }, ⟨2, 5, 3, true, 7, .lswCmd 15 false true 50 9, none⟩, ⟨3, 5, 3, true, 7, .lswCmd 15 false true 50 9, none⟩, 15, 50, 50, 9, 9, by decide +kernel, by decide +kernel, rfl, rfl, rfl, by constructor <;> decide +kernel, by constructor <;> decide +kernel, by decide +kernel⟩,
  ⟨{ wT2 with mgt := { wT2.mgt with rxq := [⟨3, 5, 3, true, 7, .claim false, none⟩, ⟨2, 5, 3, true, 7, .release, none⟩] } }, ⟨3, 5, 3, true, 7, .claim false, none⟩, ⟨2, 5, 3, true, 7, .release, none⟩, by decide +kernel, by decide +kernel, .inl rfl, rfl, rfl, by constructor <;> decide +kernel, by constructor <;> decide +kernel, by decide +kernel, by decide +kernel, by decide +kernel⟩,
  ⟨{ wT2 with mgt := { wT2.mgt with rxq := [⟨3, 5, 3, true, 7, .regRead (0x1420 + 15) 1, none⟩, ⟨2, 5, 3, true, 7, .regWrite (0x1420 + 15) [0x12345678], none⟩] } }, ⟨3, 5, 3, true, 7, .regRead (0x1420 + 15) 1, none⟩, ⟨2, 5, 3, true, 7, .regWrite (0x1420 + 15) [0x12345678], none⟩, 15, 0x12345678, by decide +kernel, by decide +kernel, .inl rfl, rfl, rfl, by constructor <;> decide +kernel, by constructor <;> decide +kernel, by decide +kernel, by decide +kernel, by decide +kernel⟩,
  ⟨{ wT2 with mgt := { wT2.mgt with rxq := [⟨2, 5, 3, true, 7, .regWrite (0x1420 + 15) [0x12345678], none⟩, ⟨2, 6, 3, true, 7, .regWrite (0x1420 + 15) [0x87654321], none⟩] } }, ⟨2, 5, 3, true, 7, .regWrite (0x1420 + 15) [0x12345678], none⟩, ⟨2, 6, 3, true, 7, .regWrite (0x1420 + 15) [0x87654321], none⟩, 15, 0x12345678, 0x87654321, by decide +kernel, by decide +kernel, rfl, rfl, rfl, by constructor <;> decide +kernel, by constructor <;> decide +kernel, by decide +kernel, by decide +kernel, by decide +kernel, by decide +kernel⟩,
  ⟨wKy, wMac, 5, 0x88B5, wFrame, wFcs, by decide +kernel⟩,
  ⟨wKy, wMac, 5, 0x88B5, wFrame, wFcs + 1, by decide +kernel⟩,
  ⟨⟨5, 15, 0xFF, 15, 2 ^ 32 - 1, 3, 4, List.replicate 1468 7, some (List.replicate 32 7)⟩, 2 ^ 32 - 1, by decide +kernel⟩,
  ⟨wKy, ⟨5, 3, 9, 2, 7, 0, 0, [1], some (List.replicate 32 7)⟩, 0, by decide +kernel⟩,
  ⟨{ wM with mgt := { wM.mgt with txq := [⟨2, 9, 3, true, 0, 0, [1], 5, 3, [7]⟩] } }, by decide +kernel⟩,
  ⟨wS.put F.MGT_STAT_PLCA 1, by decide +kernel⟩,
  ⟨wS, by decide +kernel⟩⟩

theorem test_witness_StrapsAreSampledAtPowerUp :
  ∃ (s : State), s.pow.phase = .x ∧ s.pow.nid < 16 :=
  ⟨{ pow := { phase := .x, nid := 15 } }, by decide +kernel⟩

theorem test_witness_LateAdmissionHasNoEffect :
  ∃ (s : State) (w : CoreWr), s.coreServes w (partBase + 0x2008) ∧ s.bit F.SEP_PT_PORTS_REQ (bitField w.data.toNat F.SEP_PC_ADMIT_PORT.lsb F.SEP_PC_ADMIT_PORT.width) w.part = false :=
  ⟨wV, wW 17, by constructor <;> decide +kernel, by decide +kernel⟩

theorem test_witness_UnknownOpcodesRaiseOPCODE :
  (∃ (s : State) (t : Fin 64) (i : Nat) (e : PEnt), s.up = true ∧ s.tileLive t = true ∧ (s.tile t).head .control = some i ∧ (s.tile t).ents[i]? = some e ∧ e.taken = false ∧ (s.tile t).ready e.word = true ∧ ((s.tile t).consume e.word).2 = false ∧ (s.tile t).outrun i e = false ∧ wOpc e.word ∉ opcodes) ∧
  (∃ (e : PEnt), wOpc e.word ∉ opcodes) ∧
  (∃ (e : PEnt), wOpc e.word ∈ opcodes) :=
  ⟨⟨wTe [wEnt 0x7E 0], 63, 0, wEnt 0x7E 0, by decide +kernel⟩,
  ⟨wEnt 0x7E 0, by decide +kernel⟩,
  ⟨wEnt oNOP 0, by decide +kernel⟩⟩

theorem test_witness_HeldOffSwitchesStayOff :
  (∃ (s : State) (h : Hdr) (n : Fin 16) (cfg : Bool) (ilim : BitVec 16) (blank : Byte), (s.isSteward h.host = true ∨ s.bit F.MGT_RIGHTS_LSW n h.host = true) ∧ s.hears h (mkLsw (s.minorFor h) n 1 cfg ilim.toNat blank.toNat) ∧ s.flag F.AON_PIN_PHASE_FIELD_EN = true ∧ s.lswHeld n = false ∧ s.flag F.AON_CONN_STAT_FLD_PRES = true ∧ s.lswOn n = false ∧ s.heldOff n = true) ∧
  (∃ (s : State) (h : Hdr) (n : Fin 16) (cfg : Bool) (ilim : BitVec 16) (blank : Byte), (s.isSteward h.host = true ∨ s.bit F.MGT_RIGHTS_LSW n h.host = true) ∧ s.hears h (mkLsw (s.minorFor h) n 1 cfg ilim.toNat blank.toNat) ∧ s.flag F.AON_PIN_PHASE_FIELD_EN = true ∧ s.lswHeld n = false ∧ s.flag F.AON_CONN_STAT_FLD_PRES = true ∧ s.lswOn n = false ∧ s.heldOff n = false ∧ hasBit s.field.thermal n = false ∧ s.flag F.LSW_SUP_STAT_VFLD_UV = false) ∧
  (∃ (s : State) (h : Hdr) (n : Fin 16) (cfg : Bool) (ilim : BitVec 16) (blank : Byte), (s.isSteward h.host = true ∨ s.bit F.MGT_RIGHTS_LSW n h.host = true) ∧ s.hears h (mkLsw (s.minorFor h) n 0 cfg ilim.toNat blank.toNat)) :=
  ⟨⟨wHo, wH, 15, true, 200, 250, by decide +kernel, by constructor <;> decide +kernel, by decide +kernel, by decide +kernel, by decide +kernel, by decide +kernel, by decide +kernel⟩,
  ⟨wT, wH, 15, true, 200, 250, by decide +kernel, by constructor <;> decide +kernel, by decide +kernel, by decide +kernel, by decide +kernel, by decide +kernel, by decide +kernel, by decide +kernel, by decide +kernel⟩,
  ⟨wHo, wH, 15, false, 3, 4, by decide +kernel, by constructor <;> decide +kernel⟩⟩

theorem test_witness_DuplicateOfAWaitingFrameIsDiscarded :
  ∃ (s : State) (dst : BitVec 48) (src : BitVec 48) (et : BitVec 16) (b : List Byte) (fcs : BitVec 32), payloadFits b = true ∧ s.up = true ∧ s.nodeUp = true ∧ s.macAccepts dst.toNat src.toNat et.toNat b fcs.toNat = true ∧ 16 ≤ b.length ∧ (rawFrame b).ver / 16 = 1 ∧ (rawFrame b).malformed b.length = false ∧ (rawFrame b).auth = true ∧ s.authentic (rawFrame b) b = true ∧ s.judge (rawFrame b).host (rawFrame b).seq = .undecided ∧ (rawFrame b).typ ≠ 2 ∧ (rawFrame b).typ ≠ 5 :=
  ⟨wDu, wMac, 5, 0x88B5, wFrame, wFcs, by decide +kernel⟩

theorem test_witness_LateMessagesOfTheStewardAreRefused :
  (∃ (s : State) (h : Hdr) (p : BitVec 16) (r : BitVec 16), s.isSteward h.host = true ∧ s.hearsLate h (mkShare p.toNat r.toNat)) ∧
  (∃ (s : State) (h : Hdr) (b : List Byte), bodyFits b = true ∧ s.isSteward h.host = true ∧ s.hearsLate h (.limitsetLoad b)) ∧
  (∃ (s : State) (h : Hdr) (b : List Byte), bodyFits b = true ∧ s.isSteward h.host = true ∧ s.hearsLate h (.modelLoad b)) ∧
  (∃ (s : State) (h : Hdr) (b : List Byte), bodyFits b = true ∧ s.isSteward h.host = true ∧ s.hearsLate h (.safetyCfgLoad b)) ∧
  (∃ (s : State) (h : Hdr) (code : Byte) (inst : Byte), s.isSteward h.host = true ∧ s.blockExists code.toNat inst.toNat = true ∧ s.hearsLate h (.faultAck code.toNat inst.toNat)) :=
  ⟨⟨wLt, wH, 420, 0xFFFF, by decide +kernel, by constructor <;> decide +kernel⟩,
  ⟨wLt, wH, [1], by decide +kernel, by decide +kernel, by constructor <;> decide +kernel⟩,
  ⟨wLt, wH, [1], by decide +kernel, by decide +kernel, by constructor <;> decide +kernel⟩,
  ⟨wLt, wH, [1], by decide +kernel, by decide +kernel, by constructor <;> decide +kernel⟩,
  ⟨wLt, wH, 7, 0, by decide +kernel, by decide +kernel, by constructor <;> decide +kernel⟩⟩

theorem test_witness_GroupsLoseTheirImages :
  (∃ (s : State) (g : Fin 8) (n : Nat) (d : Fin 23), d.val = 15 + g.val ∧ s.up = true ∧ s.dom d = .falling ∧ n ∈ s.groupTiles g ∧ ∀ m ∈ s.groupTiles g, (s.tile m).ents = []) ∧
  (∃ (s : State) (g : Fin 8) (d : Fin 23), d.val = 15 + g.val ∧ s.up = true ∧ s.dom d = .waking) :=
  ⟨⟨(wFl 22).setTile 63 { zeroing := true, xsigs := [⟨3, false, 0, 0, 0⟩] }, 7, 63, 22, by decide +kernel⟩,
  ⟨wWk 22, 7, 22, by decide +kernel⟩⟩

/-! ### Cases that the conclusions of some clauses split -/

theorem test_witness_cases_of_lanes :
    (∃ (s : State) (k : Fin 18) (n : Fin 20), n.val = 16 ∧ (s.port k).blank = true ∧ laneExists k n = true ∧ s.up = true) ∧
    (∃ (s : State) (k : Fin 18), k.val < 16 ∧ s.lnk k = lnkDown ∧ s.probeOk k = true ∧ (s.port k).blank = false ∧ (s.ring k true 16).st = 0 ∧ s.up = true) ∧
    (∃ (s : State) (k : Fin 18), s.up = true ∧ s.lnk k = lnkAlign ∧ s.bit F.LNK_LANE_STAT_MALIGN 19 k = true) ∧
    (∃ (s : State) (k : Fin 18) (n : Fin 20), s.up = true ∧ s.locked k n = true ∧ s.dfeHeld k n = true) ∧
    (∃ (s : State) (k : Fin 18), s.up = true ∧ s.lnk k = lnkAcquire ∧ s.probeOk k = true ∧ s.bit F.LNK_LANE_STAT_LOS 16 k = false ∧
      (s.ring k true 16).st ≠ 4) :=
  ⟨⟨wN { blank := true }, 0, 16, by decide +kernel⟩, ⟨wPr lnkDown, 0, by decide +kernel⟩,
    ⟨(wLk 0 lnkAlign).put F.LNK_LANE_STAT_MALIGN (2 ^ 19) 0, 0, by decide +kernel⟩,
    ⟨(((wC.put F.LNK_LANE_STAT_LOS 0 17).put F.LNK_LANE_STAT_LOL 0 17)).putFlag F.LNK_RXCTL_DFE_FREEZE true 17, 17, 7, by decide +kernel⟩,
    ⟨(wPr lnkAcquire).put F.LNK_LANE_STAT_LOS 0 0, 0, by decide +kernel⟩⟩
/-- A dropout that is shadowed. -/
theorem test_witness_cases_of_dropout : ∃ s : State, s.up = true ∧ (s.seq = 7 ∨ s.seq = 8) ∧ (s.shadowOf ⟨bCTR, 0, 0x06⟩).isSome = true :=
  ⟨{ wSq 8 with shadows := [{ key := ⟨4, 0⟩, fid := 7, dets := [⟨bCTR, 0, 6⟩] }] }, by decide +kernel⟩
theorem test_witness_cases_of_engines :
    (∃ (s : State) (e : Fin 4), s.up = true ∧ (s.eng e).resetting = true ∧ ∃ k ∈ portsOf e, s.flag F.LNK_CTL_EN k = true ∧
      s.bit F.LNK_LANE_STAT_LOS 16 k = false ∧ (s.port k).blank = false ∧ s.lnk k = lnkDown ∧ (s.eng e).bankOk = true ∧ (s.port k).held = false ∧ s.dom (10 + e) = .on) ∧
    (∃ (s : State) (e : Fin 4), s.up = true ∧ (s.eng e).resetting = true ∧ ∃ k ∈ portsOf e, s.bit F.LNK_LANE_STAT_LOS 16 k = true) :=
  ⟨⟨((wPr lnkDown).put F.LNK_LANE_STAT_LOS 0 0).setEng 0 { ((wPr lnkDown).eng 0) with resetting := true }, 0, by decide +kernel, by decide +kernel,
      0, by decide +kernel, by decide +kernel⟩,
    ⟨wE.setEng 0 { resetting := true }, 0, by decide +kernel, by decide +kernel, 0, by decide +kernel, by decide +kernel⟩⟩
theorem test_witness_cases_of_barriers :
    (∃ (s : State) (p : Nat) (e : PEnt), wOpc e.word = oBAR ∧ (s.bar p (wBid e.word)).tiles.isEmpty = true ∧ wf e.word 91 7 = 1) ∧
    (∃ (s : State) (p : Nat) (e : PEnt), wOpc e.word = oBAR ∧ (s.bar p (wBid e.word)).tiles.length + 1 < (s.bar p (wBid e.word)).cnt) :=
  ⟨⟨wV, 3, wEnt 0x61 (15 * 2 ^ 98 + 2 ^ 91), by decide +kernel⟩,
    ⟨wV.setBar 3 15 { cnt := 3, tiles := [(62, false)] }, 3, wEnt 0x61 (15 * 2 ^ 98 + 3 * 2 ^ 91), by decide +kernel⟩⟩

/-! ### A module with fused tiles (00 R3, R4) -/

/-- A BX48 without group 1 and without the last tile of every other group but 0. -/
def wG : State := { wS with fused := (List.range 8).map (8 + ·) ++ [23, 31, 39, 47, 55, 63, 62, 54] }
theorem test_grade_bx48 : wG.tileCount = 48 ∧ wG.groupOf 7 = 0 ∧ wG.groupOf 8 = 2 ∧ wG.groupOf 47 = 7 ∧ wG.groupTiles 1 = [] := by decide +kernel

end Sys2Proof.Tests
end

/-! PROOFS. The node ID straps (02 R54): which commands may change `MGT_NID`, and what RESET_END puts there. -/
namespace Sys2Proof.Machine

/-! ### The commands that may change MGT_NID -/

/-- The mask of a command holds `MGT_NID` only for the resets and RESET_END. -/
theorem execMask_nid (c : Instr) : familyOf c = .reset ∨ c = .resetEnd ∨
    ((execMask c).testBit 31 = false ∧ (execMask c).testBit (32 + F.AON_CONN_STAT_MGT_NID.id) = false) := by
  cases c with
  | auxPowerUp => exact .inl rfl
  | auxDropInReset => exact .inl rfl
  | holdupEnd => exact .inl rfl
  | resetEnd => exact .inr (.inl rfl)
  | _ => simp only [execMask]; exact .inr (.inr ⟨rfl, rfl⟩)

theorem exec_fld_nid {c : Instr} {s t : State} (hc : familyOf c ≠ .reset) (he : c ≠ .resetEnd) (h : exec c s = .next t) :
    t.fld F.AON_CONN_STAT_MGT_NID = s.fld F.AON_CONN_STAT_MGT_NID := by
  obtain ⟨hall, hnid⟩ := ((execMask_nid c).resolve_left hc).resolve_left he
  exact (exec_next h).fld _ 0 0 hall hnid

/-! ### RESET_END -/

/-- The first act of the end of phase X: phase S begins and the straps are sampled. -/
def State.sampleStraps (s : State) : State :=
  State.put { s with pow := { s.pow with phase := .s }, rnd := { s.rnd with cfg := {} } } F.AON_CONN_STAT_MGT_NID (1 + s.pow.nid)

theorem State.sampleStraps_fld {s : State} (h : s.pow.nid < 16) :
    s.sampleStraps.fld F.AON_CONN_STAT_MGT_NID = 1 + s.pow.nid :=
  State.fld_put _ _ (show 1 + s.pow.nid < 32 by omega) 0 0

/-- What the end of phase X may change after the straps are sampled: what it may change at all, but `MGT_NID`. -/
abbrev afterStrapsMask : Nat := mask311 - 2 ^ (32 + F.AON_CONN_STAT_MGT_NID.id)

/-- The rest of the end of phase X leaves the sampled value. -/
theorem State.leaveReset_keeps_sample (s : State) : Keeps afterStrapsMask s.sampleStraps s.leaveReset := by
  have htime : Keeps afterStrapsMask s.sampleStraps s.sampleStraps.timeRestore := (State.timeRestore_keeps _).mono rfl
  have hdraw := (State.free_keeps _).step rfl ((State.free_keeps _).step rfl htime)
  refine (State.chainStage_keeps _).step rfl ?_
  refine (State.tchBegin_keeps _).step rfl ?_
  refine (State.packRestart_keeps _).step rfl ?_
  refine (State.rindSettle_keeps _ _).step rfl ?_
  refine (State.safetyCheck_keeps _).step rfl (Keeps.setRnd _ rfl ?_)
  exact Keeps.put rfl (Keeps.put rfl (Keeps.putFlag rfl (Keeps.put rfl (Keeps.put rfl hdraw))))

theorem State.leaveReset_fld_nid {s : State} (h : s.pow.nid < 16) :
    s.leaveReset.fld F.AON_CONN_STAT_MGT_NID = 1 + s.pow.nid :=
  ((State.leaveReset_keeps_sample s).fld _ 0 0 rfl rfl).trans (State.sampleStraps_fld h)

theorem State.resetEnd_fld_nid {s : State} (hx : s.pow.phase = .x) (h : s.pow.nid < 16) :
    s.resetEnd.fld F.AON_CONN_STAT_MGT_NID = 1 + s.pow.nid := by
  have hsampled : s.recsIn.leaveReset.fld F.AON_CONN_STAT_MGT_NID = 1 + s.pow.nid :=
    State.leaveReset_fld_nid (s := s.recsIn) h
  unfold State.resetEnd
  rw [if_pos hx, (State.recsOut_keeps _).fld F.AON_CONN_STAT_MGT_NID 0 0 rfl rfl, hsampled]

/-! ### The statement -/

/-- Settles O54: the frame of every command, and the sampling at the end of phase X. -/
theorem strapsAreSampledAtPowerUp : Obligations.StrapsAreSampledAtPowerUp := by
  unfold Obligations.StrapsAreSampledAtPowerUp
  refine ⟨?change, ?frame, ?sample⟩
  case change => intro s nid; rfl
  case frame => intro c s t hc he h; exact exec_fld_nid hc he h
  case sample => intro s hx hn; exact ⟨s.resetEnd, rfl, State.resetEnd_fld_nid hx hn⟩

end Sys2Proof.Machine

/-! PROOFS. A late admission (05 R124): what the write of a whole register comes to when it is served at once, and why
LateAdmissionHasNoEffect fails in a state that already counts records as offered. -/
namespace Sys2Proof.Machine

/-! ### The bytes of a write of a whole register -/

/-- Little-endian bytes spell the low bytes of the number they were made of. -/
theorem leNat_leBytes (k n : Nat) : leNat (leBytes k n) = n % 256 ^ k := by
  induction k generalizing n with
  | zero => simp [leBytes, leNat, Nat.mod_one]
  | succ k ih =>
    have hbyte : (BitVec.ofNat 8 n).toNat = n % 256 := BitVec.toNat_ofNat n 8
    rw [leBytes, leNat, ih, hbyte, Nat.pow_succ', Nat.mod_mul]

theorem length_leBytes (k n : Nat) : (leBytes k n).length = k := by
  induction k generalizing n with
  | zero => rfl
  | succ k ih => rw [leBytes, List.length_cons, ih]

theorem leNat_concat (l : Bytes) (b : Byte) : leNat (l ++ [b]) = leNat l + b.toNat * 256 ^ l.length := by
  induction l with
  | nil => simp [leNat]
  | cons c l ih => simp only [List.cons_append, leNat, ih, List.length_cons]; ring

/-- The bits from `lsb` on, taken one by one, make up the field of `m` bits. -/
theorem foldl_putBit_bitField (x lsb m : Nat) :
    (List.range m).foldl (fun a b => putBit a b (hasBit x (lsb + b))) 0 = bitField x lsb m := by
  induction m with
  | zero => simp [bitField, Nat.mod_one]
  | succ m ih =>
    have hlow : bitField x lsb m < 2 ^ m := Nat.mod_lt _ (Nat.two_pow_pos m)
    have hclear : hasBit (bitField x lsb m) m = false := by simp [hasBit, Nat.div_eq_of_lt hlow]
    have hnext : bitField x lsb (m + 1) = bitField x lsb m + 2 ^ m * (x / 2 ^ (lsb + m) % 2) := by
      unfold bitField
      rw [Nat.mod_pow_succ, Nat.div_div_eq_div_mul, ← Nat.pow_add]
    rw [List.range_succ, List.foldl_append, ih, hnext]
    have hbit : hasBit x (lsb + m) = (x / 2 ^ (lsb + m) % 2 == 1) := rfl
    rcases Nat.mod_two_eq_zero_or_one (x / 2 ^ (lsb + m)) with h | h <;> simp [putBit, hclear, hbit, h]

/-- With every bit enabled a field takes the bits of the word at its place. -/
theorem wroteFld_whole (f : RField) (v : Nat) (hf : f.lsb + f.width ≤ 64) :
    wroteFld f (2 ^ 64 - 1) v = bitField v f.lsb f.width := by
  have hall : ∀ n < 64, hasBit (2 ^ 64 - 1) n = true := by decide
  rw [← foldl_putBit_bitField]
  unfold wroteFld
  refine List.foldl_ext _ _ _ fun a b hb => ?_
  rw [if_pos (hall _ (by have := List.mem_range.mp hb; omega))]

/-- The WR of a register with all its bytes enabled. -/
theorem coreReq_whole {w : CoreWr} (a : Nat) (h : w.be = 255) : coreReq w a =
    { part := w.part, tag := w.tag.toNat, addr := a, op := .wr 15 15 (leBytes 8 w.data.toNat) } := by
  unfold coreReq; rw [h]; rfl

theorem wrBytes_whole (n : Nat) : wrBytes 15 15 (leBytes 8 n) = (leBytes 8 n).map fun b => (b, true) := by
  simp [leBytes, wrBytes, hasBit]

/-- Byte `j` of `bs`, enabled, joins the enabled bits and the value of its register. -/
def addByte (bs : Bytes) (x : Nat × Nat) (j : Nat) : Nat × Nat := (x.1 + 255 * 256 ^ j, x.2 + (bs.getD j 0).toNat * 256 ^ j)

theorem foldl_addByte (bs : Bytes) {m : Nat} (h : m ≤ bs.length) :
    (List.range m).foldl (addByte bs) (0, 0) = (256 ^ m - 1, leNat (bs.take m)) := by
  induction m with
  | zero => rfl
  | succ m ih =>
    have hpow : 256 ^ m - 1 + 255 * 256 ^ m = 256 ^ (m + 1) - 1 := by
      have := Nat.one_le_pow m 256 (by decide)
      rw [Nat.pow_succ]; omega
    rw [List.range_succ, List.foldl_append, ih (by omega), List.take_succ_eq_append_getElem h, leNat_concat,
      List.length_take_of_le (by omega)]
    simp [addByte, hpow, List.getElem?_eq_getElem h]

/-- All bits are enabled in the register that such a WR writes, and the value is what the bytes spell. -/
theorem regPart_whole (a : Nat) {bs : Bytes} (h : bs.length = 8) :
    regPart a a (bs.map fun b => (b, true)) = (2 ^ 64 - 1, leNat bs) := by
  have hbytes : regPart a a (bs.map fun b => (b, true)) = (List.range 8).foldl (addByte bs) (0, 0) := by
    unfold regPart
    refine List.foldl_ext _ _ _ fun x j hj => ?_
    have hlt : j < bs.length := h ▸ List.mem_range.mp hj
    simp [addByte, hlt]
  rw [hbytes, foldl_addByte bs h.ge, List.take_of_length_le h.le]
  rfl

theorem regParts_whole {a : Nat} (ha : a % 8 = 0) {bs : Bytes} (h : bs.length = 8) :
    regParts a (bs.map fun b => (b, true)) = [(a, 2 ^ 64 - 1, leNat bs)] := by
  have hone : (a + 8 + 7) / 8 - a / 8 = 1 := by omega
  have hbase : a / 8 * 8 = a := by omega
  simp [regParts, h, hone, hbase, regPart_whole]

/-- Such a write acts once, at the register's place. -/
theorem State.writeRegs_whole {s : State} {a : Nat} (k p : Nat) (v : BitVec 64) (ha : a % 8 = 0)
    (ht : s.dropsAt (placeOf a) = false) :
    s.writeRegs k p a (wrBytes 15 15 (leBytes 8 v.toNat)) = s.placeWrite k p (placeOf a) (2 ^ 64 - 1) v.toNat := by
  have hv : leNat (leBytes 8 v.toNat) = v.toNat := by rw [leNat_leBytes]; exact Nat.mod_eq_of_lt v.isLt
  unfold State.writeRegs
  rw [wrBytes_whole, regParts_whole ha (length_leBytes 8 _), hv]
  simp [ht]

/-! ### A write that is served when it comes -/

/-- Nothing that `coreServes` asks for changes as a command begins. -/
theorem State.coreServes.recsIn {s : State} {w : CoreWr} {a : Nat} (h : s.coreServes w a) : s.recsIn.coreServes w a :=
  ⟨h.up, h.live, h.full, h.ok, h.first, h.takes⟩

/-- Where no request of the port waits, none holds another one back (06 R147). -/
theorem State.reqHeld_of_none_stalled {s : State} {k : Nat} (h : (s.port k).reqs.any (·.stalled) = false) (r : Req) :
    s.reqHeld k r = false := by
  unfold State.reqHeld
  rw [List.any_eq_false] at h ⊢
  intro q hq
  simp [h q hq]

/-- Requests to partition control and to global space never wait: they are served at their registers. -/
theorem State.serve_register {s : State} {r : Req} (k : Nat)
    (h : ∃ off, placeOf r.addr = .part off ∨ placeOf r.addr = .glob off) :
    s.serve k r = s.serveReg k r := by
  unfold State.serve
  obtain ⟨off, h | h⟩ := h <;> rw [h]

/-- The request of `w`, with whatever it has been given on its way, is served by one write at its place. -/
theorem State.serve_whole {s : State} {r : Req} {w : CoreWr} {a : Nat} (k : Nat) (haddr : r.addr = a)
    (hop : r.op = .wr 15 15 (leBytes 8 w.data.toNat)) (ha : a % 8 = 0)
    (hpl : ∃ off, placeOf a = .part off ∨ placeOf a = .glob off) (ht : s.dropsAt (placeOf a) = false) :
    s.serve k r = (.done 0 0 [], s.placeWrite k r.part (placeOf a) (2 ^ 64 - 1) w.data.toNat) := by
  subst haddr
  rw [State.serve_register k hpl]
  unfold State.serveReg
  rw [hop]
  exact congrArg (Served.done 0 0 [], ·) (State.writeRegs_whole k r.part w.data ha ht)

/-- A request that is done as it is served is answered at once, and its buffers are free. -/
theorem State.serveAdd_of_done {s t : State} {k : Nat} {r0 : Req} {st why : Nat} {d : Bytes}
    (hfirst : (s.port k).reqs.any (·.stalled) = false)
    (h : State.serve { s with vmem := { s.vmem with arrived := s.vmem.arrived + 1 } } k (s.taken r0) = (.done st why d, t)) :
    s.serveAdd k r0 = (t.addReq k { s.taken r0 with status := st, reason := why, data := d, held := 0 }).credit k r0.held := by
  have hheld := State.reqHeld_of_none_stalled
    (s := { s with vmem := { s.vmem with arrived := s.vmem.arrived + 1 } }) (k := k) hfirst (s.taken r0)
  unfold State.taken at *
  simp only [State.serveAdd, hheld, h]
  rfl

/-- A register of partition control or global space is written at its place and the WR then answered, where it is served when it
comes (05 R106, 06 R146). -/
theorem State.qArrive_of_serves {s : State} {w : CoreWr} {a : Nat} (h : s.coreServes w a) (ha : a % 8 = 0)
    (hpl : ∃ off, placeOf a = .part off ∨ placeOf a = .glob off) :
    s.qArrive w.port (coreReq w a) =
      s.served ((s.arrived w.port 1).placeWrite w.port w.part (placeOf a) (2 ^ 64 - 1) w.data.toNat) w a := by
  obtain ⟨-, hlive, hfull, hok, hfirst, htakes⟩ := h
  unfold State.served
  rw [coreReq_whole a hfull] at hok ⊢
  unfold State.qArrive
  rw [if_pos hlive]
  unfold State.qServe
  refine (if_pos hok).trans ?_
  have hserve := State.serve_whole (s := s.arrived w.port 1) w.port
    (r := s.taken { part := w.part, tag := w.tag.toNat, addr := a, op := .wr 15 15 (leBytes 8 w.data.toNat), held := 1 })
    rfl rfl ha hpl htakes
  exact State.serveAdd_of_done (by rw [State.setPort_port]; exact hfirst) hserve

/-- A register write of a row leaves what follows the state that its request comes to. -/
theorem State.acts_coreWr {s b : State} {w : CoreWr} {a : Nat} (hup : s.up = true)
    (h : s.recsIn.qArrive w.port (coreReq w a) = b) : s.acts (fun x => x.coreWr w a) = s.recsIn.followed b := by
  subst h
  exact if_pos hup

/-! ### An admission of a port whose REQ bit is clear -/

/-- `SEP_PC_ADMIT` acts on no port but one that is asked for (05 R111). -/
theorem State.admitPort_of_req_clear {s : State} {p port : Nat} (h : s.bit F.SEP_PT_PORTS_REQ port p = false) :
    s.admitPort p port = s := by
  unfold State.admitPort
  exact if_neg fun ⟨_, _, hreq⟩ => by simp [h] at hreq

theorem placeOf_admit : placeOf (partBase + 0x2008) = .part 0x2008 := by decide

theorem State.placeWrite_admit (s : State) (k p : Nat) (v : Nat) :
    s.placeWrite k p (.part 0x2008) (2 ^ 64 - 1) v =
      s.admitPort p (bitField v F.SEP_PC_ADMIT_PORT.lsb F.SEP_PC_ADMIT_PORT.width) := by
  rw [← wroteFld_whole F.SEP_PC_ADMIT_PORT v (by decide)]
  rfl

/-- What a late admission does (05 R124), from the state in which the command has begun: its request arrives, and waits for its
response. -/
theorem exec_sepPcAdmit_of_req_clear {s : State} {w : CoreWr} (h : s.coreServes w (partBase + 0x2008))
    (hreq : s.bit F.SEP_PT_PORTS_REQ (bitField w.data.toNat F.SEP_PC_ADMIT_PORT.lsb F.SEP_PC_ADMIT_PORT.width) w.part = false) :
    exec (.sepPcAdmit w) s =
      .next (s.recsIn.followed (s.recsIn.served (s.recsIn.arrived w.port 1) w (partBase + 0x2008))) := by
  have hwrite := State.qArrive_of_serves h.recsIn (by decide) ⟨_, .inl placeOf_admit⟩
  have hnone := State.admitPort_of_req_clear (s := s.recsIn.arrived w.port 1) hreq
  rw [placeOf_admit, State.placeWrite_admit, hnone] at hwrite
  exact congrArg Host.Outcome.next (State.acts_coreWr h.up hwrite)

/-- No record counts as offered any more once the records of a command stand in the queue (22 R595). -/
theorem State.recsOut_fresh (s : State) : s.recsOut.rcd.fresh = 0 := by
  unfold State.recsOut
  split
  next h => exact h
  next => rfl

/-- 05 R124 as the statement has it, where no record counts as offered, as none does after a command (`State.recsOut_fresh`). -/
theorem exec_sepPcAdmit_late {s : State} {w : CoreWr} (hfresh : s.rcd.fresh = 0) (h : s.coreServes w (partBase + 0x2008))
    (hreq : s.bit F.SEP_PT_PORTS_REQ (bitField w.data.toNat F.SEP_PC_ADMIT_PORT.lsb F.SEP_PC_ADMIT_PORT.width) w.part = false) :
    exec (.sepPcAdmit w) s = .next (s.followed (s.served (s.arrived w.port 1) w (partBase + 0x2008))) := by
  have hin : s.recsIn = s := by unfold State.recsIn; rw [← hfresh]
  have hlate := exec_sepPcAdmit_of_req_clear h hreq
  rwa [hin] at hlate

/-- Port 0 is up and bound to partition 0, and two records out of the order of R595 count as offered by a running command. -/
def recordsOffered : State :=
  { (({ pow := { phase := .s } } : State).put F.LNK_STAT_STATE lnkUp).put F.SEP_PT_PORTS_ACTIVE 1 with
    rcd := { queue := [⟨0, 0, bMGT, 0, 0, []⟩, ⟨0, 0, bAON, 0, 0, []⟩], fresh := 2 } }

/-- Port 0 admits port 0 to partition 0. -/
def admitPort0 : CoreWr := ⟨0, 0, 0, 255, 0⟩

theorem recordsOffered_serves : recordsOffered.coreServes admitPort0 (partBase + 0x2008) := by
  constructor <;> decide +kernel

/-- Refutes O55: the statement leaves out that a command begins with no record offered (`State.recsIn`).  In a state that counts
records as offered, the admission leaves them as they stand, and the state that the statement names has put them in order. -/
theorem not_lateAdmissionHasNoEffect : ¬ Obligations.LateAdmissionHasNoEffect := by
  unfold Obligations.LateAdmissionHasNoEffect
  intro h
  have hreq : recordsOffered.bit F.SEP_PT_PORTS_REQ 0 0 = false := by decide +kernel
  have hclaim := h recordsOffered admitPort0 recordsOffered_serves hreq
  rw [exec_sepPcAdmit_of_req_clear recordsOffered_serves hreq] at hclaim
  have hqueue := congrArg (·.rcd.queue) (Host.Outcome.next.inj hclaim)
  revert hqueue
  decide +kernel

end Sys2Proof.Machine

/-! PROOFS. A tile group that powers off (09 R250): the sequencer brings no domain on, what a group's tiles hold is lost, and the
group's next power-up leaves them so. -/
namespace Sys2Proof.Machine

/-! ### A command that acts: what follows its action leaves the tiles and the domains -/

theorem State.acts_keeps_action {s : State} (f : State → State) (hup : s.up = true) : Keeps mask4 (f s.recsIn) (s.acts f) := by
  unfold State.acts
  rw [if_pos hup]
  exact (State.recsOut_keeps _).step rfl (State.serviced_keeps rfl (Keeps.refl _ _))

theorem Keeps.dom {M : Nat} {s t : State} (h : Keeps M s t) (hpow : M.testBit 0 = false) (d : Nat) : t.dom d = s.dom d := by
  unfold State.dom
  rw [h.pow hpow]

theorem Keeps.tile {M : Nat} {s t : State} (h : Keeps M s t) (htiles : M.testBit 12 = false) (n : Nat) : t.tile n = s.tile n := by
  unfold State.tile
  rw [h.tiles htiles]

theorem Keeps.groupTiles {M : Nat} {s t : State} (h : Keeps M s t) (g : Nat) : t.groupTiles g = s.groupTiles g := by
  unfold State.groupTiles State.tileList State.tileCount State.groupOf State.enabled
  rw [h.fused]

/-! ### The sequencer turns no domain ON: it starts wakes and falls, which end by DOMAIN_READY and DOMAIN_OFF (03 R55) -/

section NotOn
variable {s : State} {d : Nat}

theorem Keeps.dom_ne_on {M : Nat} {t : State} (h : Keeps M s t) (hpow : M.testBit 0 = false) (hd : s.dom d ≠ .on) :
    t.dom d ≠ .on := by
  rwa [h.dom hpow]

@[simp] theorem State.rail_dom (s : State) (k : Nat) (above : Bool) (d : Nat) : (s.rail k above).dom d = s.dom d := rfl

theorem State.setDom_dom_ne_on {k : Nat} {x : PdSt} (hx : x ≠ .on) (hd : s.dom d ≠ .on) : (s.setDom k x).dom d ≠ .on := by
  by_cases hk : d = k
  · subst hk
    rwa [State.setDom_dom]
  · rwa [State.setDom_dom_ne s k x hk]

theorem State.engFall_dom_ne_on (fid e : Nat) (hd : s.dom d ≠ .on) : (s.engFall fid e).dom d ≠ .on := by
  unfold State.engFall
  split
  · exact (State.engineDark_keeps _ e fid).dom_ne_on rfl (State.setDom_dom_ne_on (by decide) hd)
  · exact hd

theorem State.lscFall_dom_ne_on (hd : s.dom d ≠ .on) : s.lscFall.dom d ≠ .on := by
  unfold State.lscFall
  split
  · exact (State.lenSettle_keeps _).dom_ne_on rfl (State.setDom_dom_ne_on (by decide) hd)
  · exact hd

/-- PD09 has a state of its own, so its transitions leave those of the other domains. -/
theorem State.vatSettle_dom (s : State) (d : Nat) : s.vatSettle.dom d = s.dom d := by
  unfold State.vatSettle
  extract_lets r
  split
  case h_1 => split <;> rfl
  case h_2 => split_ifs <;> rfl
  case h_3 => split_ifs <;> rfl
  case h_4 => rfl

theorem State.engSettle_dom_ne_on (e : Nat) (hd : s.dom d ≠ .on) : (s.engSettle e).dom d ≠ .on := by
  unfold State.engSettle
  split
  case h_1 =>
    split
    · exact State.setDom_dom_ne_on (k := 10 + e) (x := .waking) (by decide) hd
    · exact hd
  case h_2 =>
    split
    · exact hd
    · exact State.engFall_dom_ne_on 0 e hd
  case h_3 =>
    split
    · exact State.engFall_dom_ne_on 0 e hd
    · exact hd
  case h_4 => exact hd

theorem State.lscSettle_dom_ne_on (hd : s.dom d ≠ .on) : s.lscSettle.dom d ≠ .on := by
  unfold State.lscSettle
  extract_lets busy gone
  split
  case h_1 =>
    split
    · exact State.setDom_dom_ne_on (k := 14) (x := .waking) (by decide) hd
    · exact hd
  case h_2 =>
    split
    · exact State.lscFall_dom_ne_on hd
    · exact hd
  case h_3 =>
    split
    · exact State.lscFall_dom_ne_on hd
    · exact hd
  case h_4 => exact hd

theorem State.tgSettle_dom_ne_on (g : Nat) (hd : s.dom d ≠ .on) : (s.tgSettle g).dom d ≠ .on := by
  unfold State.tgSettle
  extract_lets fail want
  split
  case h_1 =>
    split
    · exact State.setDom_dom_ne_on (k := 15 + g) (x := .waking) (by decide) hd
    · exact hd
  case h_2 =>
    split
    · exact State.setDom_dom_ne_on (by decide) hd
    · exact hd
  case h_3 => exact hd

theorem State.sepSettle_dom_ne_on (hd : s.dom d ≠ .on) : s.sepSettle.dom d ≠ .on := by
  unfold State.sepSettle
  split
  case h_1 =>
    split
    · exact State.setDom_dom_ne_on (k := 8) (x := .waking) (by decide) hd
    · exact hd
  case h_2 =>
    split
    · refine List.foldlRecOn (motive := fun a => State.dom a d ≠ .on) _ _ (State.setDom_dom_ne_on (by decide) hd) ?_
      intro a ha k _
      split
      · exact ha
      · exact (State.enterDown_keeps a k).dom_ne_on rfl ha
    · exact hd
  case h_3 => exact hd

@[simp] theorem State.wakeOver_dom (s : State) (d : Nat) : s.wakeOver.dom d = s.dom d := by
  unfold State.wakeOver
  split <;> rfl

theorem State.gateSettle_dom_ne_on (hd : s.dom d ≠ .on) : s.gateSettle.dom d ≠ .on := by
  unfold State.gateSettle
  refine List.foldlRecOn (motive := fun a => State.dom a d ≠ .on) _ _ (by rwa [State.wakeOver_dom]) ?_
  intro a ha k _
  have hfall := State.setDom_dom_ne_on (k := k) (x := .falling) (by decide) ha
  have hwake := State.setDom_dom_ne_on (k := k) (x := .waking) (by decide) ha
  split
  · split <;> assumption
  · split <;> assumption

theorem State.powerSettle_dom_ne_on (hd : s.dom d ≠ .on) : s.powerSettle.dom d ≠ .on := by
  unfold State.powerSettle
  split
  · have hvat : s.vatSettle.dom d ≠ .on := by rwa [State.vatSettle_dom]
    have heng := List.foldlRecOn (motive := fun a => State.dom a d ≠ .on) (List.range 4) _ hvat
      fun a ha e _ => State.engSettle_dom_ne_on e ha
    have htg := List.foldlRecOn (motive := fun a => State.dom a d ≠ .on) (List.range 8) _ (State.lscSettle_dom_ne_on heng)
      fun a ha g _ => State.tgSettle_dom_ne_on g ha
    exact State.gateSettle_dom_ne_on (State.sepSettle_dom_ne_on htg)
  · exact hd

end NotOn

/-! ### Instructions taken back: other tiles lose at most increments that wait -/

theorem dropFirst_eq_eraseP {α : Type} (p : α → Bool) (l : List α) : dropFirst p l = l.eraseP p := by
  induction l with
  | nil => rfl
  | cons x l ih => rw [dropFirst, List.eraseP_cons, ih, Bool.cond_eq_ite]

/-- Tile `y` is `x`, but for waiting increments that were taken back. -/
structure Tile.Unsent (x y : Tile) : Prop where
  rest : y = { x with xsigs := y.xsigs }
  xsigs : y.xsigs ⊆ x.xsigs

theorem Tile.Unsent.refl (x : Tile) : x.Unsent x := ⟨rfl, List.Subset.refl _⟩

theorem Tile.Unsent.of_eq {x y : Tile} (h : y = x) : x.Unsent y := h ▸ .refl x

theorem Tile.Unsent.trans {x y z : Tile} (h : x.Unsent y) (g : y.Unsent z) : x.Unsent z where
  rest := by rw [g.rest, h.rest]
  xsigs := List.Subset.trans g.xsigs h.xsigs

theorem Tile.Unsent.zeroing {x y : Tile} (h : x.Unsent y) : y.zeroing = x.zeroing := by rw [h.rest]

theorem State.unsend_unsent (s : State) (t : Nat) (e : PEnt) (n : Nat) : (s.tile n).Unsent ((s.unsend t e).tile n) := by
  unfold State.unsend
  split
  · by_cases hn : n = wXtile e.word
    · subst hn
      simp only [State.setTile_tile]
      exact ⟨rfl, by rw [dropFirst_eq_eraseP]; exact List.eraseP_subset⟩
    · exact .of_eq (State.setTile_tile_ne _ _ _ hn)
  · exact .refl _

theorem State.retract_unsent (s : State) (t n : Nat) : (s.tile n).Unsent ((s.retract t).tile n) := by
  unfold State.retract
  refine List.foldlRecOn (motive := fun a => (s.tile n).Unsent (State.tile a n)) _ _ (.refl _) ?_
  intro a ha e _
  have hunbar : (a.unbar t e).tile n = a.tile n := (State.unbar_keeps a t e).tile rfl n
  exact ha.trans (hunbar ▸ State.unsend_unsent (a.unbar t e) t e n)

theorem State.retract_of_no_ents {s : State} {t : Nat} (h : (s.tile t).ents = []) : s.retract t = s := by
  unfold State.retract
  rw [h]
  rfl

/-! ### Tiles that lose power -/

/-- Tile `y` is what a loss of power leaves of tile `x`: the initial tile, but for a zeroing in progress and waiting increments. -/
structure Tile.Lost (x y : Tile) : Prop where
  initial : y = { zeroing := x.zeroing, xsigs := y.xsigs }
  xsigs : y.xsigs ⊆ x.xsigs

theorem Tile.Lost.of_unsent {x y z : Tile} (h : x.Unsent y) (g : y.Lost z) : x.Lost z where
  initial := by rw [← h.zeroing]; exact g.initial
  xsigs := List.Subset.trans g.xsigs h.xsigs

theorem Tile.Lost.unsent {x y z : Tile} (h : x.Lost y) (g : y.Unsent z) : x.Lost z where
  initial := by rw [g.rest, h.initial]
  xsigs := List.Subset.trans g.xsigs h.xsigs

theorem Tile.Lost.trans {x y z : Tile} (h : x.Lost y) (g : y.Lost z) : x.Lost z where
  initial := by rw [g.initial, h.initial]
  xsigs := List.Subset.trans g.xsigs h.xsigs

theorem State.tileLost_tile_same (s : State) (t : Nat) :
    (s.tileLost t).tile t = { zeroing := (s.tile t).zeroing, xsigs := ((s.retract t).tile t).xsigs } :=
  State.setTile_tile _ _ _

theorem State.tileLost_tile_ne (s : State) {t n : Nat} (h : n ≠ t) : (s.tileLost t).tile n = (s.retract t).tile n :=
  State.setTile_tile_ne _ _ _ h

theorem State.tileLost_lost (s : State) (t : Nat) : (s.tile t).Lost ((s.tileLost t).tile t) := by
  rw [State.tileLost_tile_same]
  exact ⟨rfl, (State.retract_unsent s t t).xsigs⟩

theorem State.tileLost_unsent (s : State) {t n : Nat} (h : n ≠ t) : (s.tile n).Unsent ((s.tileLost t).tile n) := by
  rw [State.tileLost_tile_ne s h]
  exact State.retract_unsent s t n

/-- A tile without instructions takes no increments back as it loses power. -/
theorem State.tileLost_idle {s : State} {t : Nat} (h : (s.tile t).ents = []) (n : Nat) :
    ((s.tileLost t).tile n).xsigs = (s.tile n).xsigs ∧ ((s.tile n).ents = [] → ((s.tileLost t).tile n).ents = []) := by
  by_cases hn : n = t
  · subst hn
    rw [State.tileLost_tile_same, State.retract_of_no_ents h]
    exact ⟨rfl, fun _ => rfl⟩
  · rw [State.tileLost_tile_ne s hn, State.retract_of_no_ents h]
    exact ⟨rfl, id⟩

theorem foldl_tileLost_unsent {n : Nat} {l : List Nat} (h : n ∉ l) (s : State) :
    (s.tile n).Unsent ((l.foldl State.tileLost s).tile n) := by
  refine List.foldlRecOn (motive := fun a => (s.tile n).Unsent (State.tile a n)) _ _ (.refl _) ?_
  intro a ha m hm
  exact ha.trans (State.tileLost_unsent a fun e => h (e ▸ hm))

theorem foldl_tileLost_lost {n : Nat} {l : List Nat} (h : n ∈ l) (s : State) :
    (s.tile n).Lost ((l.foldl State.tileLost s).tile n) := by
  induction l generalizing s with
  | nil => cases h
  | cons m l ih =>
    rw [List.foldl_cons]
    by_cases hl : n ∈ l
    · by_cases hm : n = m
      · subst hm
        exact (State.tileLost_lost s n).trans (ih hl _)
      · exact .of_unsent (State.tileLost_unsent s hm) (ih hl _)
    · obtain rfl : n = m := (List.mem_cons.mp h).resolve_right hl
      exact (State.tileLost_lost s n).unsent (foldl_tileLost_unsent hl _)

theorem foldl_tileLost_idle {l : List Nat} {s : State} (h : ∀ m ∈ l, (s.tile m).ents = []) (n : Nat) :
    ((l.foldl State.tileLost s).tile n).xsigs = (s.tile n).xsigs := by
  induction l generalizing s with
  | nil => rfl
  | cons m l ih =>
    have hm := h m List.mem_cons_self
    have hl : ∀ k ∈ l, ((s.tileLost m).tile k).ents = [] := fun k hk =>
      (State.tileLost_idle hm k).2 (h k (List.mem_cons_of_mem m hk))
    exact (ih hl).trans (State.tileLost_idle hm n).1

/-! ### A tile group goes off -/

/-- The supply of group `g` is gone, and its tiles have not yet lost what they hold. -/
def State.groupUnpowered (s : State) (g : Nat) : State := ((s.coreHeld (15 + g)).setDom (15 + g) .off).rail (15 + g) true

theorem State.groupOff_eq (s : State) (g : Nat) :
    s.groupOff g = (((s.groupUnpowered g).groupLost g).put F.CLK_TG_FREQ_ACT 0 g).freqAim g 0 := rfl

/-- What the records of held blocks, the domain's state and its rail may change. -/
theorem State.groupUnpowered_keeps (s : State) (g : Nat) : Keeps (mask3 ||| mask222 ||| 1) s (s.groupUnpowered g) :=
  (State.rail_keeps _ _ _).step rfl ((State.setDom_keeps _ _ _).step rfl ((State.coreHeld_keeps s _).mono rfl))

theorem State.groupOff_dom (s : State) (g : Nat) : (s.groupOff g).dom (15 + g) = .off := by
  have hlost : ((s.groupUnpowered g).groupLost g).dom (15 + g) = (s.groupUnpowered g).dom (15 + g) :=
    (State.groupLost_keeps _ g).dom rfl _
  have hoff : (s.groupUnpowered g).dom (15 + g) = .off := by
    unfold State.groupUnpowered
    rw [State.rail_dom, State.setDom_dom]
  exact hlost.trans hoff

theorem State.groupOff_tile (s : State) (g n : Nat) :
    (s.groupOff g).tile n = ((s.groupTiles g).foldl State.tileLost (s.groupUnpowered g)).tile n := by
  rw [State.groupOff_eq, ← (s.groupUnpowered_keeps g).groupTiles g]
  rfl

theorem State.groupOff_lost {s : State} {g n : Nat} (h : n ∈ s.groupTiles g) : (s.tile n).Lost ((s.groupOff g).tile n) := by
  rw [State.groupOff_tile, ← (s.groupUnpowered_keeps g).tile rfl n]
  exact foldl_tileLost_lost h _

theorem State.groupOff_idle {s : State} {g : Nat} (h : ∀ m ∈ s.groupTiles g, (s.tile m).ents = []) (n : Nat) :
    ((s.groupOff g).tile n).xsigs = (s.tile n).xsigs := by
  have htile := (s.groupUnpowered_keeps g).tile rfl
  rw [State.groupOff_tile, ← htile n]
  exact foldl_tileLost_idle (fun m hm => by rw [htile m]; exact h m hm) n

/-! ### DOMAIN_OFF and DOMAIN_READY of a tile group -/

theorem State.domOff_group {s : State} {g : Nat} (h : s.dom (15 + g) = .falling) :
    s.domOff (15 + g) = (s.groupOff g).powerSettle := by
  have hlow : ¬ 15 + g < 8 ∧ ¬ 15 + g ≤ 13 := by omega
  have hne : 15 + g ≠ 9 ∧ 15 + g ≠ 8 ∧ 15 + g ≠ 14 := by omega
  simp [State.domOff, h, hlow, hne]

theorem State.domReady_group {s : State} {g : Nat} (h : s.dom (15 + g) = .waking) :
    s.domReady (15 + g) = (s.groupReady g).powerSettle := by
  have hhigh : ¬ 15 + g ≤ 13 ∧ 15 ≤ 15 + g := by omega
  have hne : 15 + g ≠ 9 ∧ 15 + g ≠ 3 ∧ 15 + g ≠ 4 ∧ 15 + g ≠ 5 ∧ 15 + g ≠ 8 ∧ 15 + g ≠ 14 := by omega
  simp [State.domReady, h, hhigh, hne]

theorem exec_domainOff {d : Fin 23} (hd : d.val ≠ 9) (s : State) :
    exec (.domainOff d) s = .next (s.acts fun a => a.domOff d.val) := by
  change Host.Outcome.next (s.acts fun a => if d.val = 9 then (a.domOff d.val).retryAll.powerSettle else a.domOff d.val) = _
  simp only [if_neg hd]

theorem exec_domainReady {d : Fin 23} (hd : d.val ≠ 9) (s : State) :
    exec (.domainReady d) s = .next (s.acts fun a => a.domReady d.val) := by
  change Host.Outcome.next (s.acts fun a => if d.val = 9 then (a.domReady d.val).retryAll.powerSettle else a.domReady d.val) = _
  simp only [if_neg hd]

/-- DOMAIN_OFF of a falling group takes it off, after which the sequencer and the records follow. -/
theorem exec_domainOff_group {s : State} {g : Nat} {d : Fin 23} (hd : d.val = 15 + g) (hup : s.up = true)
    (h : s.dom d = .falling) :
    ∃ t, exec (.domainOff d) s = .next t ∧ Keeps mask4 (s.recsIn.groupOff g).powerSettle t := by
  refine ⟨_, exec_domainOff (by omega) s, ?_⟩
  rw [hd] at h ⊢
  have hoff : s.recsIn.domOff (15 + g) = (s.recsIn.groupOff g).powerSettle := State.domOff_group h
  exact hoff ▸ State.acts_keeps_action (fun a => a.domOff (15 + g)) hup

/-- DOMAIN_READY of a waking group brings it on, after which the sequencer and the records follow. -/
theorem exec_domainReady_group {s : State} {g : Nat} {d : Fin 23} (hd : d.val = 15 + g) (hup : s.up = true)
    (h : s.dom d = .waking) :
    ∃ t, exec (.domainReady d) s = .next t ∧ Keeps mask4 (s.recsIn.groupReady g).powerSettle t := by
  refine ⟨_, exec_domainReady (by omega) s, ?_⟩
  rw [hd] at h ⊢
  have hready : s.recsIn.domReady (15 + g) = (s.recsIn.groupReady g).powerSettle := State.domReady_group h
  exact hready ▸ State.acts_keeps_action (fun a => a.domReady (15 + g)) hup

/-! ### The statement -/

/-- Settles O60: the tiles of the group that goes off are initial but for what other tiles and a zeroing left with them, its domain
can at most wake again, and DOMAIN_READY changes no tile. -/
theorem groupsLoseTheirImages : Obligations.GroupsLoseTheirImages := by
  unfold Obligations.GroupsLoseTheirImages
  refine ⟨?off, ?ready⟩
  case off =>
    intro s g n d hd hup hfall hn
    obtain ⟨t, hexec, hafter⟩ := exec_domainOff_group hd hup hfall
    have hoff : (s.recsIn.groupOff g).dom d ≠ .on := by
      rw [hd, State.groupOff_dom]
      decide
    have htile : t.tile n = (s.recsIn.groupOff g).tile n :=
      (hafter.tile rfl n).trans ((State.powerSettle_keeps _).tile rfl n)
    obtain ⟨hinitial, hsub⟩ : (s.tile n).Lost (t.tile n) := htile ▸ State.groupOff_lost (s := s.recsIn) hn
    refine ⟨t, hexec, hafter.dom_ne_on rfl (State.powerSettle_dom_ne_on hoff), hinitial, fun x hx => hsub hx, fun hidle => ?_⟩
    rw [htile]
    exact State.groupOff_idle (s := s.recsIn) hidle n
  case ready =>
    intro s g d hd hup hwake
    obtain ⟨t, hexec, hafter⟩ := exec_domainReady_group hd hup hwake
    exact ⟨t, hexec, (hafter.tiles rfl).trans
      (((State.powerSettle_keeps _).tiles rfl).trans ((State.groupReady_keeps _ g).tiles rfl))⟩

end Sys2Proof.Machine

/-! PROOFS. Load-switch orders (19 R516): what the decision of a tick with one order alone comes to (05 R118 to R121), what a
LSW_CMD then does to its switch, and that a touched HOLD_OFF key keeps the switch off. -/
namespace Sys2Proof.Machine

/-! ### An order alone in its tick: no claim, no renewal and no read takes part (05 R120) -/

/-- An order whose admission is step 5's alone, and that acts at once: no claim, renewal, read, HELLO or WAKE, and no closing of a
contactor of the string. -/
structure Order.Plain (o : Order) : Prop where
  lease : leaseTyp (orderTyp o) = false
  read : readTyp (orderTyp o) = false
  hello : orderTyp o ≠ 1
  wake : orderTyp o ≠ 0x18
  string : stringOrder false o = false

section Sole
variable {s : State} {i : Item}

theorem decidePre_passes {w : Work} (hstored : i.f.stored = none) (hwake : orderTyp i.f.order ≠ 0x18)
    (hpre : w.1.preAns i.f.host i.f.order = none) : decidePre w i = w := by
  unfold decidePre
  rw [hstored]
  extract_lets src
  have hsrc : src = w.1 := by
    unfold src
    split
    next e => exact absurd (congrArg orderTyp e) hwake
    next => rfl
  rw [hsrc, hpre]

theorem live_sole (hstored : i.f.stored = none) : live (s, []) [i] = [i] := by
  simp [live, hstored, ansOf]

theorem decideExpiry_running {w : Work} (l : List Item) (h : w.1.leaseOver = false) : decideExpiry w l = w := by
  simp [decideExpiry, h]

theorem State.leaseDefaults_kept (h : s.lease.lost = false) : s.leaseDefaults = s := by
  simp [State.leaseDefaults, h]

section NotLease
variable (hlease : leaseTyp (orderTyp i.f.order) = false)
include hlease

theorem decideRelease_other (w : Work) : decideRelease w i = w := by
  unfold decideRelease
  split
  next e => rw [e] at hlease; cases hlease
  next => rfl

theorem decideRenew_other (w : Work) : decideRenew w i = w := by
  unfold decideRenew
  split
  next e => rw [e] at hlease; cases hlease
  next => rfl

theorem decideClaim_other (g : Option (Item × Bool)) (w : Work) : decideClaim g w i = w := by
  unfold decideClaim
  split
  next e => rw [e] at hlease; cases hlease
  next => rfl

theorem State.isClaim_other (s : State) (force : Bool) : s.isClaim force i = false := by
  unfold State.isClaim
  split
  next e => rw [e] at hlease; cases hlease
  next => rfl

theorem decideClaims_other (w : Work) : decideClaims w [i] = w := by
  have hnone : w.1.granted [i] = none := by
    simp [State.granted, State.isClaim_other hlease]
  unfold decideClaims
  rw [hnone]
  exact decideClaim_other hlease none w

end NotLease

/-- Steps 1 to 5 of R120 leave an order alone in its tick to the contests of step 5. -/
theorem decideSteps_plain (hplain : i.f.order.Plain) (hstored : i.f.stored = none)
    (hpre : s.preAns i.f.host i.f.order = none) (hover : s.leaseOver = false) (hlost : s.lease.lost = false) :
    decideSteps s [i] = decideOrders (s, []) [i] := by
  simp [decideSteps, decidePre_passes (w := (s, [])) hstored hplain.wake hpre, live_sole hstored,
    decideRelease_other hplain.lease, decideExpiry_running (w := (s, [])) [i] hover, decideClaims_other hplain.lease,
    decideRenew_other hplain.lease, State.leaseDefaults_kept hlost, hplain.read]

end Sole

/-! ### A candidate without rivals loses nothing (05 R119) -/

section NoRivals
variable (c : Cand)

theorem Cand.lostTo_sole (r : Nat) : c.lostTo [c] r = none := by
  unfold Cand.lostTo
  cases h : c.askOf r with
  | none => rfl
  | some a => simp [rivals, winner, h]

theorem Cand.losses_sole : c.losses [c] = [] := by
  simp [Cand.losses, c.lostTo_sole]

theorem State.arbLast_sole (s : State) : s.arbLast [c] = s := by
  unfold State.arbLast
  refine List.foldlRecOn (motive := (· = s)) _ _ rfl ?_
  intro a ha r _
  simp [c.lostTo_sole, ha]

/-- Where rule 1 refuses nothing, a candidate asks for each resource that it names. -/
theorem Cand.askOf_isSome {c : Cand} (hno : c.no = []) {a : Ask} (ha : a ∈ c.asks) : (c.askOf a.res).isSome = true := by
  simp only [Cand.askOf, hno, List.any_nil, Bool.false_eq_true, if_false, List.find?_isSome]
  exact ⟨a, ha, by simp⟩

/-- A candidate that rule 1 refuses nothing is carried out for all that it names, and answered as that answers. -/
theorem decideCand_sole {c : Cand} {s : State} {r : State × Ans} (hno : c.no = [])
    (hstring : stringOrder false c.i.f.order = false)
    (hdo : s.orderDo c.i.f.host c.st (fun n => (c.askOf n).isSome) c.i.f.order = r) (hstatus : r.2.status ≠ 1) :
    decideCand [c] (s, []) c = (r.1, [(c.i.ix, r.2)]) := by
  have hgo : (c.asks.isEmpty || c.asks.any fun a => (c.askOf a.res).isSome) = true := by
    cases h : c.asks with
    | nil => rfl
    | cons a l => simp [Cand.askOf_isSome hno (a := a) (by simp [h])]
  have hbits : s.refusalBits c = s := by simp [State.refusalBits, hno]
  simp [decideCand, c.losses_sole, hgo, hbits, hstring, hdo, Cand.answer, hno, hstatus, Work.say]

end NoRivals

/-! ### The decision of such an order, and its reply -/

section Decision

theorem Keeps.nodeUp {M : Nat} {s t : State} (h : Keeps M s t) (hall : M.testBit 31 = false)
    (hactive : M.testBit (32 + F.MGT_STAT_ACTIVE.id) = false) (hpow : M.testBit 0 = false) : t.nodeUp = s.nodeUp := by
  unfold State.nodeUp
  rw [h.flag _ 0 0 hall hactive, h.pow hpow]

@[simp] theorem State.storeReply_txq (s : State) (r : Reply) : (s.storeReply r).mgt.txq = s.mgt.txq := by
  unfold State.storeReply
  split <;> rfl

theorem State.pushReply_txq {s : State} (r : Reply) (h : s.nodeUp = true) : (s.pushReply r).mgt.txq = s.mgt.txq ++ [r] := by
  unfold State.pushReply
  rw [if_pos h]

@[simp] theorem State.keysApply_txq (s : State) : s.keysApply.mgt.txq = s.mgt.txq := by
  unfold State.keysApply
  exact List.foldlRecOn (motive := fun a : State => a.mgt.txq = s.mgt.txq) _ _ rfl fun a ha x _ => ha

/-- What the reply to a frame, and what follows it to the end of its command, may change. -/
abbrev afterReplyMask : Nat := 0x4000040 ||| mask366 ||| mask244 ||| mask4

/-- From `u`, where its order has been carried out, to `t`, frame `f` is answered `a`, and its command ends. -/
structure Replied (f : Frame) (a : Ans) (u t : State) : Prop where
  keeps : Keeps afterReplyMask u t
  txq : u.nodeUp = true → u.mgt.txq = [] → t.mgt.txq = [u.mkReply f a]

/-- The tail of a command that acts changes neither replies nor what the reply leaves. -/
theorem Replied.step {f : Frame} {a : Ans} {u t v : State} {m : Nat} (h : Replied f a u t)
    (hm : m ||| afterReplyMask = afterReplyMask)
    (hmail : m.testBit 26 = false) (g : Keeps m t v) : Replied f a u v where
  keeps := g.step hm h.keeps
  txq hnode hempty := (g.txq hmail).trans (h.txq hnode hempty)

theorem sendReply_sole {u : State} {f : Frame} {a : Ans} (hstored : f.stored = none) :
    Replied f a u (sendReply [(0, a)] u ⟨0, f⟩).keysApply where
  keeps := (State.keysApply_keeps _).step rfl ((sendReply_keeps _ _ _).mono rfl)
  txq hnode hempty := by
    have hnode' : (u.storeReply (u.mkReply f a)).nodeUp = true :=
      ((State.storeReply_keeps u _).nodeUp rfl rfl rfl).trans hnode
    have hsend : sendReply [(0, a)] u ⟨0, f⟩ = (u.storeReply (u.mkReply f a)).pushReply (u.mkReply f a) := by
      simp [sendReply, hstored, ansOf]
    rw [State.keysApply_txq, hsend, State.pushReply_txq _ hnode', State.storeReply_txq, hempty, List.nil_append]

theorem helloApply_other {l : List (Nat × Ans)} {s : State} {i : Item} (h : orderTyp i.f.order ≠ 1) : helloApply l s i = s := by
  unfold helloApply
  split
  next e _ => exact absurd (congrArg orderTyp e) h
  next => rfl

variable {s : State} {f : Frame}

/-- A plain order alone in its tick that is admitted, and that rule 1 refuses nothing, is carried out and answered so. -/
theorem State.decide_sole {r : State × Ans} (hplain : f.order.Plain) (hstored : f.stored = none)
    (hpre : s.preAns f.host f.order = none) (hover : s.leaseOver = false) (hlost : s.lease.lost = false)
    (hadmit : s.admitAns f.host (s.isSteward f.host) f.order = none) (hno : (s.cand ⟨0, f⟩).no = [])
    (hdo : s.orderDo f.host (s.isSteward f.host) (fun n => ((s.cand ⟨0, f⟩).askOf n).isSome) f.order = r)
    (hstatus : r.2.status ≠ 1) : Replied f r.2 r.1 (s.decide [f]) := by
  have hcand := decideCand_sole (c := s.cand ⟨0, f⟩) hno hplain.string hdo hstatus
  have horders : decideOrders (s, []) [⟨0, f⟩] = (r.1, [(0, r.2)]) := by
    have hsame : (s.cand ⟨0, f⟩).i.f.order = f.order := rfl
    cases hlast : opensLast f.order <;>
      simp [decideOrders, decideAdmit, hplain.lease, hplain.read, hadmit, State.arbLast_sole, hsame, hlast, hcand] <;> rfl
  have hsteps : decideSteps s [⟨0, f⟩] = (r.1, [(0, r.2)]) :=
    (decideSteps_plain (i := ⟨0, f⟩) hplain hstored hpre hover hlost).trans horders
  have hdecide : s.decide [f] = (sendReply [(0, r.2)] r.1 ⟨0, f⟩).keysApply.powerSettle.gateSettle := by
    simp [State.decide, items, hsteps, helloApply_other (i := ⟨0, f⟩) hplain.hello]
  rw [hdecide]
  exact ((sendReply_sole hstored).step rfl rfl (State.powerSettle_keeps _)).step rfl rfl (State.gateSettle_keeps _)

end Decision

/-! ### A message that is heard (23 R609, R610) -/

/-- What the acceptance of a frame may change. -/
abbrev heardMask : Nat := 0x4000040 ||| 1 <<< (32 + F.MGT_CNT2_RX.id)

theorem State.heard_keeps (s : State) (h : Hdr) : Keeps heardMask s (s.heard h) :=
  .count rfl ((State.seqTake_keeps _ _ _).step rfl ((State.repliesLeave_keeps s).mono rfl))

theorem State.heard_txq (s : State) (h : Hdr) : (s.heard h).mgt.txq = [] := rfl

theorem State.preAns_congr {s t : State} {n : Nat} (hfeat : (t.host n).feat = (s.host n).feat) (hholdup : t.holdup = s.holdup)
    (o : Order) : t.preAns n o = s.preAns n o := by
  unfold State.preAns
  rw [hfeat, hholdup]

theorem State.heard_feat (s : State) (h : Hdr) : ((s.heard h).host h.host).feat = (s.host h.host).feat :=
  (congrArg HostSt.feat (State.setHost_host s.repliesLeave h.host _)).trans rfl

theorem State.heard_preAns (s : State) (h : Hdr) (o : Order) : (s.heard h).preAns h.host o = s.preAns h.host o :=
  State.preAns_congr (s.heard_feat h) ((s.heard_keeps h).flag F.AON_PIN_PHASE_HOLDUP 0 0 rfl rfl) o

theorem State.heard_leaseOver (s : State) (h : Hdr) : (s.heard h).leaseOver = s.leaseOver := by
  unfold State.leaseOver
  rw [(s.heard_keeps h).lease rfl, (s.heard_keeps h).tim rfl]

/-- The frame that a message row stands for. -/
def State.mailFrame (s : State) (h : Hdr) (o : Order) : Frame :=
  { host := h.host, seq := h.seq.toNat, minor := h.minor, auth := true, addr := (s.host h.host).addr, order := o }

/-- Nothing that `hears` asks for changes as a command begins. -/
theorem State.hears.recsIn {s : State} {h : Hdr} {o : Order} (hh : s.hears h o) : s.recsIn.hears h o :=
  ⟨hh.up, hh.node, hh.key, hh.new, hh.room, hh.roomHost, hh.pre, hh.lease, hh.kept⟩

/-- A frame that is heard is accepted, and decided alone. -/
theorem State.mail_of_hears {s : State} {h : Hdr} {o : Order} (hh : s.hears h o) :
    s.mail h o = (s.heard h).decide [s.mailFrame h o] := by
  have hkey : (s.repliesLeave.keyOf h.host).isEmpty = false := hh.key
  have hnew : s.repliesLeave.judge h.host h.seq.toNat = .new := hh.new
  have hroom : s.repliesLeave.mailRoom h.host = true := by
    have hall : s.repliesLeave.mgt.rxq.length < 64 := hh.room
    have hhost : (s.repliesLeave.mgt.rxq.filter fun f => f.host == h.host.val).length < 16 := hh.roomHost
    have hsent : s.repliesLeave.mgt.txq = [] := rfl
    simp [State.mailRoom, hall, hhost, hsent]
  have haccept : s.repliesLeave.accept (s.mailFrame h o) = (s.heard h, some (s.mailFrame h o)) := by
    unfold State.accept
    exact (congrArg (s.repliesLeave.acceptAs (s.mailFrame h o)) hnew).trans (if_pos hroom)
  simp only [State.mailFrame] at haccept ⊢
  simp [State.mail, State.mailAt, hh.node, hkey, haccept]

/-- A message that is heard, as a command that acts: its order is carried out on the state that has heard it, and replied to. -/
theorem State.acts_mail_of_hears {s : State} {h : Hdr} {o : Order} {r : State × Ans} (hh : s.hears h o) (hplain : o.Plain)
    (hadmit : (s.recsIn.heard h).admitAns h.host ((s.recsIn.heard h).isSteward h.host) o = none)
    (hno : ((s.recsIn.heard h).cand ⟨0, s.recsIn.mailFrame h o⟩).no = [])
    (hdo : (s.recsIn.heard h).orderDo h.host ((s.recsIn.heard h).isSteward h.host)
      (fun n => (((s.recsIn.heard h).cand ⟨0, s.recsIn.mailFrame h o⟩).askOf n).isSome) o = r)
    (hstatus : r.2.status ≠ 1) : Replied (s.recsIn.mailFrame h o) r.2 r.1 (s.acts fun a => a.mail h o) := by
  have hkeeps := s.recsIn.heard_keeps h
  have hreplied := State.decide_sole (f := s.recsIn.mailFrame h o) hplain rfl ((s.recsIn.heard_preAns h o).trans hh.pre)
    ((s.recsIn.heard_leaseOver h).trans hh.lease) ((congrArg Lease.lost (hkeeps.lease rfl)).trans hh.kept) hadmit hno hdo hstatus
  rw [← State.mail_of_hears hh.recsIn] at hreplied
  exact hreplied.step rfl rfl (State.acts_keeps_action (fun a => a.mail h o) hh.up)

/-- The reply to a message row is its answer, where the order left the node running and sent nothing itself. -/
theorem Replied.answers {s u t : State} {h : Hdr} {o : Order} {a : Ans} (hr : Replied (s.mailFrame h o) a u t)
    (hnode : u.nodeUp = true) (hempty : u.mgt.txq = []) : t.answers h a.status a.reason :=
  ⟨_, hr.txq hnode hempty, rfl, rfl, rfl, rfl, trivial⟩

/-! ### What a LSW_CMD does to its switch (19 R502, R503, R516) -/

section Switch
variable {s : State} {n : Nat} (c : Option (Nat × Nat))

theorem Keeps.lswOn {M : Nat} {t : State} (h : Keeps M s t) (hall : M.testBit 31 = false)
    (hon : M.testBit (32 + F.LSW_STAT_ON.id) = false) (n : Nat) : t.lswOn n = s.lswOn n :=
  h.bit _ n 0 0 hall hon

theorem State.bit_put (s : State) (f : RField) (v i j : Nat) {m : Nat} (h : m < f.width) :
    (s.put f v i j).bit f m i j = hasBit v m := by
  unfold State.bit
  rw [State.fld_put_same, hasBit_low h (Nat.mod_mod _ _)]

theorem State.lswOff_lswOn {mask : Nat} (hn : n < 16) (hmask : hasBit mask n = true) : (s.lswOff mask).lswOn n = false := by
  have hoff : (s.lswOff mask).lswOn n = (s.put F.LSW_STAT_ON (maskOf 16 fun n => s.lswOn n && !hasBit mask n)).lswOn n := rfl
  rw [hoff, State.lswOn, State.bit_put _ _ _ _ _ hn, hasBit_maskOf]
  simp [hmask]

theorem State.lswStart_lswOn (hn : n < 16) : (s.lswStart n).lswOn n = true := by
  have hon : (s.lswStart n).lswOn n = (s.putBitOf F.LSW_STAT_ON n true).lswOn n := rfl
  rw [hon, State.lswOn, State.bit_putBitOf _ _ _ _ _ _ _ hn, if_pos rfl]

theorem hasBit_two_pow (n : Nat) : hasBit (2 ^ n) n = true := by
  simp [hasBit, Nat.div_self (Nat.two_pow_pos n)]

theorem State.lswOrder_off_lswOn (hn : n < 16) : (s.lswOrder n false c).lswOn n = false := by
  cases c <;> exact State.lswOff_lswOn hn (hasBit_two_pow n)

/-- Where the supply is not low, an on-order has the switch on. -/
theorem State.lswOrder_on_lswOn (hn : n < 16) (huv : s.flag F.LSW_SUP_STAT_VFLD_UV = false) :
    (s.lswOrder n true c).lswOn n = true := by
  have hcfg : ∃ s1, Keeps mask172 s s1 ∧ s.lswOrder n true c =
      if (s1.lswDecide n).lswOn n || (s1.lswDecide n).flag F.LSW_SUP_STAT_VFLD_UV then s1.lswDecide n
      else (s1.lswDecide n).lswStart n := by
    cases c with
    | none => exact ⟨s, .refl _ _, rfl⟩
    | some c => exact ⟨s.lswCfg n c.1 c.2, State.lswCfg_keeps s n c.1 c.2, rfl⟩
  obtain ⟨s1, hkeeps, horder⟩ := hcfg
  have huv' : (s1.lswDecide n).flag F.LSW_SUP_STAT_VFLD_UV = false :=
    ((State.lswDecide_keeps s1 n).flag _ 0 0 rfl rfl).trans ((hkeeps.flag _ 0 0 rfl rfl).trans huv)
  rw [horder, huv', Bool.or_false]
  split
  next hon => exact hon
  next => exact State.lswStart_lswOn hn

/-- No Rind reaction, no stage not reached and no hard limit turns an on-order for the switch away (19 R518, 04 Table 4-3, 05 R121). -/
structure State.lswFree (s : State) (n : Nat) : Prop where
  field : s.flag F.AON_PIN_PHASE_FIELD_EN = true
  rind : s.lswHeld n = false
  sup : s.supHeld = false

/-! What the conditions of a LSW_CMD read stays as its frame is accepted. -/

theorem State.heard_lswFree (h : Hdr) (hfree : s.lswFree n) : (s.heard h).lswFree n := by
  have hkeeps := s.heard_keeps h
  refine ⟨(hkeeps.flag _ 0 0 rfl rfl).trans hfree.field, ?rind, ?sup⟩
  case rind =>
    unfold State.lswHeld
    rw [hkeeps.bit _ n 0 0 rfl rfl, hkeeps.rnd rfl]
    exact hfree.rind
  case sup =>
    unfold State.supHeld
    rw [hkeeps.pow rfl]
    exact hfree.sup

theorem State.heard_heldOff (s : State) (h : Hdr) (n : Nat) : (s.heard h).heldOff n = s.heldOff n := by
  have hkeeps := s.heard_keeps h
  have hkey (k : Nat) : (s.heard h).bit F.AON_FRONT_STAT_TK_ACTIVE k = s.bit F.AON_FRONT_STAT_TK_ACTIVE k :=
    hkeeps.bit _ k 0 0 rfl rfl
  have hfn (k : Nat) : (s.heard h).fld F.TCH_CFG_FN k = s.fld F.TCH_CFG_FN k := hkeeps.fld _ k 0 rfl rfl
  have htgt (k : Nat) : (s.heard h).fld F.TCH_CFG_TGT k = s.fld F.TCH_CFG_TGT k := hkeeps.fld _ k 0 rfl rfl
  simp only [State.heldOff, hkey, hfn, htgt]

theorem State.heard_mayLsw {k : Nat} (h : Hdr) (hright : s.isSteward k = true ∨ s.bit F.MGT_RIGHTS_LSW n k = true) :
    (s.heard h).isSteward k = true ∨ (s.heard h).bit F.MGT_RIGHTS_LSW n k = true := by
  unfold State.isSteward
  rw [(s.heard_keeps h).lease rfl, (s.heard_keeps h).bit _ n k 0 rfl rfl]
  exact hright

/-- 19 R516: an on-order for a held-off switch is BUSY, and does nothing. -/
theorem State.lswDo_heldOff (hfree : s.lswFree n) (h : s.heldOff n = true) : s.lswDo n true c = (s, { status := 2 }) := by
  have hrefusal : s.lswRefusal n = (some (2, 0), s) := by simp [State.lswRefusal, hfree.rind, h]
  simp [State.lswDo, hrefusal]

theorem State.lswDo_released (hfree : s.lswFree n) (hpres : s.flag F.AON_CONN_STAT_FLD_PRES = true) (h : s.heldOff n = false)
    (hcool : hasBit s.field.thermal n = false) : s.lswDo n true c = (s.lswOrder n true c, {}) := by
  have hrefusal : s.lswRefusal n = (none, s) := by simp [State.lswRefusal, hfree.rind, hfree.field, hpres, h, hcool]
  simp [State.lswDo, hrefusal]

end Switch

/-! ### A LSW_CMD that is heard -/

section LswCmd
variable {s : State} {h : Hdr} {n : Fin 16} {on : Bool}

theorem lswCmd_plain (n : Nat) (on c : Bool) (i b : Nat) : (Order.lswCmd n on c i b).Plain :=
  ⟨rfl, rfl, by simp [orderTyp], by simp [orderTyp], rfl⟩

/-- The body of a LSW_CMD row is well formed; below minor 2 it configures nothing (23 R613). -/
theorem mkLsw_lswCmd (m : Nat) (n : Fin 16) (on cfg : Bool) (ilim blank : Nat) :
    ∃ c i b, mkLsw m n (b2n on) cfg ilim blank = .lswCmd n on c i b := by
  have hrange : n.val ≤ 15 ∧ b2n on ≤ 1 := ⟨by omega, by cases on <;> decide⟩
  have hon : (b2n on == 1) = on := by cases on <;> rfl
  unfold mkLsw
  rw [if_pos hrange, hon]
  split <;> exact ⟨_, _, _, rfl⟩

theorem State.admitAns_lswCmd {k : Nat} {st : Bool} (c : Bool) (i b : Nat)
    (hright : st = true ∨ s.bit F.MGT_RIGHTS_LSW n k = true)
    (hfree : on = true → s.lswFree n) : s.admitAns k st (.lswCmd n on c i b) = none := by
  have hmay : (!st && !s.hasRight k (.lswCmd n on c i b)) = false := by
    rcases hright with h | h <;> simp [State.hasRight, h]
  have hstage : s.stageBusy (.lswCmd n on c i b) = false := by
    cases on with
    | false => rfl
    | true => simp [State.stageBusy, (hfree rfl).field]
  simp [State.admitAns, hmay, hstage, stewardTyp, orderTyp]

theorem State.ruleOne_switch {o : Order} {a : Ask} (hres : a.res < 0x10) : s.ruleOne o a =
    if a.rank = 1 then (if s.lswHeld a.res then some 1 else if s.supHeld then some 2 else none) else none := by
  unfold State.ruleOne
  exact if_pos hres

theorem State.ruleOne_lswCmd {o : Order} (p : List Nat) (hfree : on = true → s.lswFree n) :
    s.ruleOne o ⟨n, b2n on, p⟩ = none := by
  rw [State.ruleOne_switch n.isLt]
  cases on with
  | false => rfl
  | true => simp [(hfree rfl).rind, (hfree rfl).sup]

theorem State.cand_lswCmd_no {i : Item} {c : Bool} {l b : Nat} (horder : i.f.order = .lswCmd n on c l b)
    (hfree : on = true → s.lswFree n) : (s.cand i).no = [] := by
  have hasks : s.asks i.f.host (s.isSteward i.f.host) i.f.order = [⟨n, b2n on, if c then [1, l, b] else [0]⟩] := by
    rw [horder]
    rfl
  unfold State.cand
  simp only [hasks, List.filterMap_cons, List.filterMap_nil, State.ruleOne_lswCmd _ hfree, Option.map_none]

/-- What a LSW_CMD of a host with the right comes to, where what it does in the state that has heard it is known. -/
theorem exec_lswCmd_of_hears {cfg x : Bool} {ilim : BitVec 16} {blank : Byte} {st why : Nat}
    (hright : s.isSteward h.host = true ∨ s.bit F.MGT_RIGHTS_LSW n h.host = true)
    (hh : s.hears h (mkLsw (s.minorFor h) n (b2n on) cfg ilim.toNat blank.toNat))
    (hfree : on = true → (s.recsIn.heard h).lswFree n)
    (hdo : ∀ c, ∃ u, (s.recsIn.heard h).lswDo n on c = (u, { status := st, reason := why }) ∧ u.lswOn n = x)
    (hst : st ≠ 1) :
    ∃ t, exec (.lswCmd h n on cfg ilim blank) s = .next t ∧ t.answers h st why ∧ t.lswOn n = x := by
  obtain ⟨c, i, b, horder⟩ := mkLsw_lswCmd (s.minorFor h) n on cfg ilim.toNat blank.toNat
  obtain ⟨u, hlsw, hx⟩ := hdo (if c then some (i, b) else none)
  have hreplied : Replied _ { status := st, reason := why } u (s.acts fun a => a.mail h (.lswCmd n on c i b)) :=
    State.acts_mail_of_hears (horder ▸ hh) (lswCmd_plain ..)
      (State.admitAns_lswCmd c i b (State.heard_mayLsw (s := s.recsIn) h hright) hfree) (State.cand_lswCmd_no rfl hfree) hlsw hst
  have hdone : Keeps mask352 (s.recsIn.heard h) u := by
    have hkeeps := State.lswDo_keeps (s.recsIn.heard h) n on (if c then some (i, b) else none)
    rwa [hlsw] at hkeeps
  have hnode : u.nodeUp = true :=
    (hdone.nodeUp rfl rfl rfl).trans (((s.recsIn.heard_keeps h).nodeUp rfl rfl rfl).trans hh.node)
  have hempty : u.mgt.txq = [] := (hdone.txq rfl).trans (s.recsIn.heard_txq h)
  refine ⟨_, ?_, hreplied.answers hnode hempty, (hreplied.keeps.lswOn rfl rfl n).trans hx⟩
  rw [← horder]
  rfl

end LswCmd

/-! ### The statement -/

/-- Settles O57: a LSW_CMD that is heard is decided alone in its tick, so what it does is what `lswDo` does to its switch. -/
theorem heldOffSwitchesStayOff : Obligations.HeldOffSwitchesStayOff := by
  unfold Obligations.HeldOffSwitchesStayOff
  intro s h n cfg ilim blank hright
  have hkeeps := s.recsIn.heard_keeps h
  refine ⟨fun hh hen hrind hpres hoff hsup => ?on, fun hh => ?off⟩
  case on =>
    have hfree : (s.recsIn.heard h).lswFree n := State.heard_lswFree h ⟨hen, hrind, hsup⟩
    have hheld : (s.recsIn.heard h).heldOff n = s.heldOff n := State.heard_heldOff _ h n
    refine ⟨fun htouched => ?busy, fun hreleased hcool huv => ?ok⟩
    case busy =>
      exact exec_lswCmd_of_hears hright hh (fun _ => hfree)
        (fun c => ⟨_, State.lswDo_heldOff c hfree (hheld.trans htouched), (hkeeps.lswOn rfl rfl n).trans hoff⟩) (by decide)
    case ok =>
      have hpres' : (s.recsIn.heard h).flag F.AON_CONN_STAT_FLD_PRES = true := (hkeeps.flag _ 0 0 rfl rfl).trans hpres
      have huv' : (s.recsIn.heard h).flag F.LSW_SUP_STAT_VFLD_UV = false := (hkeeps.flag _ 0 0 rfl rfl).trans huv
      have hcool' : hasBit (s.recsIn.heard h).field.thermal n = false := by
        rw [hkeeps.field rfl]
        exact hcool
      exact exec_lswCmd_of_hears hright hh (fun _ => hfree)
        (fun c => ⟨_, State.lswDo_released c hfree hpres' (hheld.trans hreleased) hcool',
          State.lswOrder_on_lswOn c n.isLt huv'⟩)
        (by decide)
  case off =>
    exact exec_lswCmd_of_hears hright hh (fun e => Bool.noConfusion e)
      (fun c => ⟨_, rfl, State.lswOrder_off_lswOn c n.isLt⟩) (by decide)

end Sys2Proof.Machine

/-! PROOFS. How fields are read after a write, and after what keeps them. -/
namespace Sys2Proof.Machine

/-! ### Fields of another name -/

section Accessors
variable (s : State) {f g : RField} (n m v : Nat) (b : Bool) (i j i' j' : Nat)

theorem State.bit_putBitOf_same {n : Nat} (h : n < f.width) : (s.putBitOf f n b i j).bit f n i j = b := by
  rw [State.bit_putBitOf _ _ _ _ _ _ _ h, if_pos rfl]

variable (h : g.id ≠ f.id)
include h

theorem State.fld_putBitOf_id : (s.putBitOf f n b i j).fld g i' j' = s.fld g i' j' := State.fld_put_id _ _ _ _ _ _ h
theorem State.flag_putBitOf_id : (s.putBitOf f n b i j).flag g i' j' = s.flag g i' j' := State.flag_put_id _ _ _ _ _ _ h
theorem State.bit_putBitOf_id : (s.putBitOf f n b i j).bit g m i' j' = s.bit g m i' j' := State.bit_put_id _ _ _ _ _ _ _ h
theorem State.fld_putFlag_id : (s.putFlag f b i j).fld g i' j' = s.fld g i' j' := State.fld_put_id _ _ _ _ _ _ h
theorem State.flag_putFlag_id : (s.putFlag f b i j).flag g i' j' = s.flag g i' j' := State.flag_put_id _ _ _ _ _ _ h
theorem State.bit_putFlag_id : (s.putFlag f b i j).bit g m i' j' = s.bit g m i' j' := State.bit_put_id _ _ _ _ _ _ _ h

end Accessors

/-! ### What a row's action leaves is what the row leaves -/

section
variable {M : Nat} {s t : State}

/-- Mask `M` stands for states whose registers stay, field `f` included. -/
def spares (M : Nat) (f : RField) : Bool := !M.testBit 31 && !M.testBit (32 + f.id)

section
variable {f : RField} {n i j : Nat} (h : Keeps M s t)
include h

theorem Keeps.fld_eq (hf : spares M f = true) : t.fld f i j = s.fld f i j := by
  simp only [spares, Bool.and_eq_true, Bool.not_eq_true'] at hf
  exact h.fld f i j hf.1 hf.2

theorem Keeps.fld_trans {v : Nat} (hf : spares M f = true) (hs : s.fld f i j = v) : t.fld f i j = v := (h.fld_eq hf).trans hs

theorem Keeps.flag_eq (hf : spares M f = true) : t.flag f i j = s.flag f i j := by
  unfold State.flag
  rw [h.fld_eq hf]

theorem Keeps.flag_trans {v : Bool} (hf : spares M f = true) (hs : s.flag f i j = v) : t.flag f i j = v := (h.flag_eq hf).trans hs

theorem Keeps.bit_eq (hf : spares M f = true) : t.bit f n i j = s.bit f n i j := by
  unfold State.bit
  rw [h.fld_eq hf]

theorem Keeps.bit_trans {v : Bool} (hf : spares M f = true) (hs : s.bit f n i j = v) : t.bit f n i j = v := (h.bit_eq hf).trans hs

end

theorem State.runs_up {s : State} (hup : s.up = true) (f : State → State) : s.runs f = f s := if_pos hup

theorem State.offers_keeps_action {s : State} (f : State → State) (hup : s.up = true) : Keeps mask4 (f s.recsIn) (s.offers f) := by
  unfold State.offers
  rw [if_pos hup]
  exact State.recsOut_keeps _

end

end Sys2Proof.Machine

/-! PROOFS. Frames: what each command may change (every row of spec/opcode_table.json), and what only a few commands change. -/
namespace Sys2Proof.Machine

/-! ### A frame by mask read as a frame by name -/

/-- The mask of the parts of a list, with the bits that stand for no part (Laws/Keeps). -/
def partsMask : List Sect → Nat
  | [] => 0x1c000000
  | x :: xs => Nat.lor (Nat.shiftLeft 1 x.ix) (partsMask xs)

/-- The mask of the register fields of a list. -/
def fieldsMask : List RField → Nat
  | [] => 0
  | f :: fs => Nat.lor (Nat.shiftLeft 1 (32 + f.id)) (fieldsMask fs)

/-- The bits of a mask are those of the parts and fields listed. -/
def maskUnder (M : Nat) (parts : List Sect) (fields : List RField) : Bool :=
  Nat.beq (Nat.lor M (Nat.lor (partsMask parts) (fieldsMask fields))) (Nat.lor (partsMask parts) (fieldsMask fields))

theorem testBit_lor_shiftLeft_one (m k i : Nat) : (Nat.lor (Nat.shiftLeft 1 k) m).testBit i = (k == i || m.testBit i) := by
  have h : (1 <<< k ||| m).testBit i = (decide (k = i) || m.testBit i) := by
    rw [Nat.testBit_or, Nat.one_shiftLeft, Nat.testBit_two_pow]
  exact h.trans (by rw [beq_eq_decide])

theorem testBit_partsMask (parts : List Sect) (i : Nat) :
    (partsMask parts).testBit i = ((0x1c000000 : Nat).testBit i || parts.any fun x => x.ix == i) := by
  induction parts with
  | nil => rw [List.any_nil, Bool.or_false]; rfl
  | cons x xs ih => rw [partsMask, testBit_lor_shiftLeft_one, ih, List.any_cons, Bool.or_left_comm]

theorem testBit_fieldsMask (fields : List RField) (i : Nat) :
    (fieldsMask fields).testBit i = fields.any fun f => 32 + f.id == i := by
  induction fields with
  | nil => exact Nat.zero_testBit i
  | cons f fs ih => rw [fieldsMask, testBit_lor_shiftLeft_one, ih, List.any_cons]

theorem Sect.ix_injective : Function.Injective Sect.ix := by
  intro x y h
  revert h
  cases x <;> cases y <;> decide

theorem Sect.ix_lt (x : Sect) : x.ix < 30 ∧ (0x1c000000 : Nat).testBit x.ix = false := by cases x <;> decide

/-- A bit that neither a part nor a field of the lists stands for is not in a mask under them. -/
theorem testBit_of_maskUnder {M : Nat} {parts : List Sect} {fields : List RField} (h : maskUnder M parts fields = true)
    {i : Nat} (hp : (partsMask parts).testBit i = false) (hf : (fieldsMask fields).testBit i = false) : M.testBit i = false := by
  refine testBit_sub (M := partsMask parts ||| fieldsMask fields) (Nat.eq_of_beq_eq_true h) ?_
  rw [Nat.testBit_or, hp, hf]; rfl

theorem Keeps.onlyIn_of_maskUnder {M : Nat} {s t : State} (h : Keeps M s t) {parts : List Sect} {fields : List RField}
    (g : maskUnder M parts fields = true) : s.onlyIn t parts fields := by
  have hlow (i : Nat) (hi : i < 32) : (fieldsMask fields).testBit i = false := by
    rw [testBit_fieldsMask, List.any_eq_false]
    intro f _
    simp only [beq_iff_eq]
    omega
  have hhigh (i : Nat) (hi : 31 ≤ i) : (partsMask parts).testBit i = false := by
    have hconst : (0x1c000000 : Nat).testBit i = false :=
      Nat.testBit_lt_two_pow (Nat.lt_of_lt_of_le (by decide) (Nat.pow_le_pow_right (by decide) hi))
    rw [testBit_partsMask, hconst, Bool.false_or, List.any_eq_false]
    intro x _
    have := x.ix_lt.1
    simp only [beq_iff_eq]
    omega
  have hregs : M.testBit 31 = false := testBit_of_maskUnder g (hhigh 31 (by decide)) (hlow 31 (by decide))
  refine ⟨fun x hx => h.sect x ?_, fun f i j hf => h.fld f i j hregs ?_, h.pending, h.fused⟩
  · refine testBit_of_maskUnder g ?_ (hlow _ (Nat.lt_trans x.ix_lt.1 (by decide)))
    rw [testBit_partsMask, x.ix_lt.2, Bool.false_or, List.any_eq_false]
    intro y hy
    rw [beq_iff_eq]
    exact fun e => hx (Sect.ix_injective e ▸ hy)
  · refine testBit_of_maskUnder g (hhigh _ (by omega)) ?_
    rw [testBit_fieldsMask, List.any_eq_false]
    intro y hy
    rw [beq_iff_eq]
    exact fun e => hf (List.mem_map.mpr ⟨y, hy, Nat.add_left_cancel e⟩)

/-! ### The frames of the commands -/

/-- The mask of a command is under the frame that Safety lists for it. -/
theorem execMask_under (c : Instr) :
    familyOf c = .reset ∨ maskUnder (execMask c) (frameParts c) (frameFields c) = true := by
  cases c with
  | auxPowerUp => exact .inl rfl
  | auxDropInReset => exact .inl rfl
  | holdupEnd => exact .inl rfl
  | _ => right; simp only [execMask, frameParts, frameFields]; decide +kernel

theorem exec_onlyIn {c : Instr} {s t : State} (hc : familyOf c ≠ .reset) (h : exec c s = .next t) :
    s.onlyIn t (frameParts c) (frameFields c) :=
  (exec_next h).onlyIn_of_maskUnder ((execMask_under c).resolve_left hc)

/-- The frame of a command of a family that is not that of the resets. -/
theorem exec_onlyIn_of_family {c : Instr} {s t : State} {k : Family} (hk : k ≠ .reset) (hc : familyOf c = k)
    (h : exec c s = .next t) : s.onlyIn t (frameParts c) (frameFields c) :=
  exec_onlyIn (hc ▸ hk) h

/-- Settles O41. -/
theorem powerCommandsFrame : Obligations.PowerCommandsFrame :=
  fun _ _ _ hc h => exec_onlyIn_of_family (by decide) hc h

/-- Settles O42. -/
theorem safetyAndPinCommandsFrame : Obligations.SafetyAndPinCommandsFrame := fun _ _ _ hc h =>
  hc.elim (exec_onlyIn_of_family (by decide) · h) (exec_onlyIn_of_family (by decide) · h)

/-- Settles O43. -/
theorem recorderFieldAndTickCommandsFrame : Obligations.RecorderFieldAndTickCommandsFrame := by
  intro c s t hc h
  rcases hc with hc | hc | hc
  · exact exec_onlyIn_of_family (by decide) hc h
  · exact exec_onlyIn_of_family (by decide) hc h
  · exact exec_onlyIn_of_family (by decide) hc h

/-- Settles O44. -/
theorem mailboxCommandsFrame : Obligations.MailboxCommandsFrame :=
  fun _ _ _ hc h => exec_onlyIn_of_family (by decide) hc h

/-- Settles O45. -/
theorem separatorCommandsFrame : Obligations.SeparatorCommandsFrame :=
  fun _ _ _ hc h => exec_onlyIn_of_family (by decide) hc h

/-- Settles O46. -/
theorem linkCommandsFrame : Obligations.LinkCommandsFrame :=
  fun _ _ _ hc h => exec_onlyIn_of_family (by decide) hc h

/-- Settles O47. -/
theorem tileCommandsFrame : Obligations.TileCommandsFrame :=
  fun _ _ _ hc h => exec_onlyIn_of_family (by decide) hc h

/-- Settles O48. -/
theorem stringCommandsFrame : Obligations.StringCommandsFrame :=
  fun _ _ _ hc h => exec_onlyIn_of_family (by decide) hc h

/-! ### Rules over all commands that the masks decide -/

/-- Bits of a mask that a command's mask does not hold. -/
theorem testBit_of_land_eq_zero {M N : Nat} (h : M &&& N = 0) {i : Nat} (hi : N.testBit i = true) : M.testBit i = false := by
  have hbit : (M &&& N).testBit i = false := by rw [h, Nat.zero_testBit]
  rwa [Nat.testBit_and, hi, Bool.and_true] at hbit

/-- The bits of the outputs: contactor, field and Rind state, the fields that drive outputs, and the bit of every field. -/
def outputMask : Nat := 0x81c00000 ||| fieldsMask outputFields

theorem execMask_outputs (c : Instr) :
    (familyOf c ≠ .separator ∧ familyOf c ≠ .links ∧ familyOf c ≠ .tiles) ∨ Nat.beq (Nat.land (execMask c) outputMask) 0 = true := by
  cases c with
  | _ => simp only [execMask, familyOf]; decide +kernel

/-- Settles O51. -/
theorem coreCommandsNeverMoveOutputs : Obligations.CoreCommandsNeverMoveOutputs := by
  intro c s t hc h
  have hmask : execMask c &&& outputMask = 0 := by
    rcases execMask_outputs c with ⟨hsep, hlinks, htiles⟩ | hland
    · rcases hc with hc | hc | hc
      · exact absurd hc hsep
      · exact absurd hc hlinks
      · exact absurd hc htiles
    · exact Nat.eq_of_beq_eq_true hland
  have hk := exec_next h
  refine ⟨hk.field ?_, hk.ctr ?_, hk.rnd ?_, fun f hf i j => hk.fld f i j ?_ ?_⟩
  · exact testBit_of_land_eq_zero hmask (by decide +kernel)
  · exact testBit_of_land_eq_zero hmask (by decide +kernel)
  · exact testBit_of_land_eq_zero hmask (by decide +kernel)
  · exact testBit_of_land_eq_zero hmask (by decide +kernel)
  · refine testBit_of_land_eq_zero hmask ?_
    rw [outputMask, Nat.testBit_or, testBit_fieldsMask, Bool.or_eq_true, List.any_eq_true]
    exact .inr ⟨f, hf, beq_self_eq_true _⟩

theorem execMask_stored (c : Instr) : familyOf c = .reset ∨ c = .recorderScanDone ∨ c = .pageProgramStart ∨
    (∃ ok, c = .pageProgramDone ok) ∨ (∃ ok, c = .sectorEraseDone ok) ∨ (execMask c).testBit 27 = false := by
  cases c with
  | auxPowerUp => exact .inl rfl
  | auxDropInReset => exact .inl rfl
  | holdupEnd => exact .inl rfl
  | recorderScanDone => exact .inr (.inl rfl)
  | pageProgramStart => exact .inr (.inr (.inl rfl))
  | pageProgramDone ok => exact .inr (.inr (.inr (.inl ⟨ok, rfl⟩)))
  | sectorEraseDone ok => exact .inr (.inr (.inr (.inr (.inl ⟨ok, rfl⟩))))
  | _ => simp only [execMask]; exact .inr (.inr (.inr (.inr (.inr rfl))))

theorem execMask_clock (c : Instr) : familyOf c = .reset ∨ c = .resetEnd ∨ c = .recorderScanDone ∨ c = .decisionTick ∨
    (execMask c).testBit 28 = false := by
  cases c with
  | auxPowerUp => exact .inl rfl
  | auxDropInReset => exact .inl rfl
  | holdupEnd => exact .inl rfl
  | resetEnd => exact .inr (.inl rfl)
  | recorderScanDone => exact .inr (.inr (.inl rfl))
  | decisionTick => exact .inr (.inr (.inr (.inl rfl)))
  | _ => simp only [execMask]; exact .inr (.inr (.inr (.inr rfl)))

theorem execMask_mail (c : Instr) : c = .decisionTick ∨ c = .ck08Fail ∨
    (familyOf c = .reset ∨ familyOf c = .mailbox ∨ (execMask c).testBit 26 = false) := by
  cases c with
  | decisionTick => exact .inl rfl
  | ck08Fail => exact .inr (.inl rfl)
  | _ => right; right; simp only [execMask, familyOf]; decide +kernel

theorem execMask_cfgId (c : Instr) : familyOf c = .reset ∨ c = .resetEnd ∨ (∃ on, c = .svcKeyChange on) ∨
    ((execMask c).testBit 31 = false ∧ (execMask c).testBit (32 + F.RND_CFG_ID_CFG_ID.id) = false) := by
  cases c with
  | auxPowerUp => exact .inl rfl
  | auxDropInReset => exact .inl rfl
  | holdupEnd => exact .inl rfl
  | resetEnd => exact .inr (.inl rfl)
  | svcKeyChange on => exact .inr (.inr (.inl ⟨on, rfl⟩))
  | _ => simp only [execMask]; exact .inr (.inr (.inr ⟨rfl, rfl⟩))

/-- Settles O50. -/
theorem storedContentsChangeOnlyBy : Obligations.StoredContentsChangeOnlyBy := by
  intro c s t hc h
  have hk := exec_next h
  refine ⟨fun h1 h2 h3 h4 => ?_, fun h1 h2 h3 => ?_, fun h1 h2 h3 => ?_, fun h1 h2 => ?_⟩
  · rcases execMask_stored c with e | e | e | ⟨_, e⟩ | ⟨_, e⟩ | e
    · exact absurd e hc
    · exact absurd e h1
    · exact absurd e h2
    · exact absurd e (h3 _)
    · exact absurd e (h4 _)
    · exact hk.stored e
  · rcases execMask_clock c with e | e | e | e | e
    · exact absurd e hc
    · exact absurd e h1
    · exact absurd e h2
    · exact absurd e h3
    · exact hk.clock e
  · rcases execMask_mail c with e | e | e | e | e
    · exact absurd e h2
    · exact absurd e h3
    · exact absurd e hc
    · exact absurd e h1
    · exact hk.keys e
  · rcases execMask_cfgId c with e | e | ⟨_, e⟩ | ⟨hall, hid⟩
    · exact absurd e hc
    · exact absurd e h1
    · exact absurd e (h2 _)
    · exact hk.fld _ 0 0 hall hid

end Sys2Proof.Machine

/-! PROOFS. Rules over every command and every step: what a step takes and leaves, refusals by name, reset, the identification
registers, and the states without power. -/
namespace Sys2Proof.Machine

/-! ### A step and its frame -/

/-- Settles O35. -/
theorem stepLeavesTheRestOfTheQueue : Obligations.StepLeavesTheRestOfTheQueue := by
  intro s t h
  rcases step_cases h with ⟨hnil, rfl⟩ | ⟨c, rest, hcons, hexec⟩
  · rw [(State.idleStep_keeps s).pending, hnil]; rfl
  · rw [(exec_next hexec).pending, hcons]; rfl

theorem State.canonical.withPending {s : State} (h : s.canonical) (q : List Instr) : (s.withPending q).canonical :=
  ⟨h.regs, h.pages, h.vat, h.tiles⟩

/-- Settles O38: each function of the model keeps the canonical forms (Laws/Keeps*.lean). -/
theorem stepKeepsCanonical : Obligations.StepKeepsCanonical := by
  intro s t hs h
  rcases step_cases h with ⟨-, rfl⟩ | ⟨c, rest, -, hexec⟩
  · exact (State.idleStep_keeps s).canon hs
  · exact (exec_next hexec).canon (hs.withPending rest)

/-! ### A command that finds records counted as offered -/

/-- The supervisor runs, and one record counts as offered by a running command. -/
def oneRecordOffered : State := { pow := { phase := .s }, rcd := { fresh := 1 } }

theorem State.acts_fresh {s : State} (hup : s.up = true) (f : State → State) : (s.acts f).rcd.fresh = 0 := by
  unfold State.acts
  rw [if_pos hup]
  exact State.recsOut_fresh _

theorem State.offers_fresh {s : State} (hup : s.up = true) (f : State → State) : (s.offers f).rcd.fresh = 0 := by
  unfold State.offers
  rw [if_pos hup]
  exact State.recsOut_fresh _

/-- A command that takes back the count of offered records does not leave a state as it is that counts one. -/
theorem ne_oneRecordOffered {t : State} (h : t.rcd.fresh = 0) : t ≠ oneRecordOffered := by
  rintro rfl
  exact absurd h (by decide)

/-- Refutes O34: on an empty queue with PD08 off the idle step takes back the count of offered records, which the state may hold. -/
theorem not_stepTakesTheFrontCommand : ¬ Obligations.StepTakesTheFrontCommand := by
  rintro ⟨-, -, -, h⟩
  exact ne_oneRecordOffered (State.acts_fresh rfl _) (h oneRecordOffered (.inr (by decide)))

/-- Refutes O6: a passed check takes back the count of offered records, which the state may hold. -/
theorem not_safetyInputRowsTakeEffect : ¬ Obligations.SafetyInputRowsTakeEffect := by
  rintro ⟨-, -, -, -, -, -, -, -, h⟩
  exact ne_oneRecordOffered (State.acts_fresh rfl _) (Host.Outcome.next.inj (h oneRecordOffered))

/-- Refutes O7: a passed off-pulse takes back the count of offered records, which the state may hold. -/
theorem not_stoRowsTakeEffect : ¬ Obligations.StoRowsTakeEffect := by
  rintro ⟨-, h, -⟩
  exact ne_oneRecordOffered (State.offers_fresh rfl _) (Host.Outcome.next.inj (h oneRecordOffered 0 0))

/-- The state of `recordsOffered`, with port 0 in `SEP_STW_PORTS`. -/
def recordsOfferedSteward : State := recordsOffered.put F.SEP_STW_PORTS_PORTS 1

/-- The records that wait for the recorder in what a command answers. -/
def queueAfter : Result → List LogRec
  | .next t => t.rcd.queue
  | _ => []

/-- Refutes O15: MIRROR_WRITE takes back the count of offered records before its own; the state that the statement names has put
the records that were counted in order. -/
theorem not_separatorRowsTakeEffect : ¬ Obligations.SeparatorRowsTakeEffect := by
  rintro ⟨-, -, -, -, -, -, -, -, -, -, hmirror, -⟩
  have hclaim := hmirror recordsOfferedSteward admitPort0 0 (by decide +kernel) (by decide +kernel) (by decide +kernel)
    (by decide +kernel) (by decide +kernel) (by decide +kernel)
  have hqueue := congrArg queueAfter hclaim
  revert hqueue
  decide +kernel

/-! ### Commands that are refused, and commands without power -/

theorem wfElse_true {m : String} {t : State} : wfElse true m t = .next t := rfl
theorem wfElse_false {m : String} {t : State} : wfElse false m t = .refused (.illFormed m) := rfl

/-- A command that is checked goes on or is refused by name as the check says. -/
theorem wfElse_iff {ok : Bool} {m : String} {t : State} :
    (ok = true → ∃ u, wfElse ok m t = .next u) ∧ (ok = false → ∃ n, wfElse ok m t = .refused (.illFormed n)) :=
  ⟨fun h => ⟨t, by rw [h, wfElse_true]⟩, fun h => ⟨m, by rw [h, wfElse_false]⟩⟩

/-- Settles O36. -/
theorem wellFormedCommandsGoOn : Obligations.WellFormedCommandsGoOn := by
  intro c s
  cases c with
  | frameReceive | limitsetLoad | modelLoad | safetyCfgLoad | mgtKeyCommit | rsLowRead | wr | flitReceive | laneLos | laneLosClear
  | laneLock | laneLockLoss | markerAligned | markerAlignmentLoss | dfeTapSaturated | syncMeasure | quietExpiry | fltAckWrite =>
    exact wfElse_iff
  | _ => exact ⟨fun _ => ⟨_, rfl⟩, fun h => nomatch h⟩

theorem State.runs_unpowered {s : State} (h : s.up = false) (f : State → State) : s.runs f = s := if_neg (by simp [h])
theorem State.offers_unpowered {s : State} (h : s.up = false) (f : State → State) : s.offers f = s := if_neg (by simp [h])
theorem State.acts_unpowered {s : State} (h : s.up = false) (f : State → State) : s.acts f = s := if_neg (by simp [h])

theorem next_runs_unpowered {s : State} (h : s.up = false) (f : State → State) : Host.Outcome.next (s.runs f) = (.next s : Result) :=
  congrArg _ (State.runs_unpowered h f)
theorem next_offers_unpowered {s : State} (h : s.up = false) (f : State → State) : Host.Outcome.next (s.offers f) = (.next s : Result) :=
  congrArg _ (State.offers_unpowered h f)
theorem next_acts_unpowered {s : State} (h : s.up = false) (f : State → State) : Host.Outcome.next (s.acts f) = (.next s : Result) :=
  congrArg _ (State.acts_unpowered h f)

end Sys2Proof.Machine

/-! PROOFS. Reset, the auxiliary resets, the identification registers, and the module without power. -/
namespace Sys2Proof.Machine

/-! ### Without power -/

/-- Monitor 1 of the chain has taken a SYNC_MEASURE whose results are not ready yet; the supervisor is without power. -/
def monitorMeasures : State := State.reset.setMon 1 { awake := true, due := some (1, 1) }

/-- The monitor's results become ready. -/
def measureEnds : Instr := .syncMeasure 0 (List.replicate 20 0) (List.replicate 4 0) false false

/-- The SYNC_MEASURE that monitor 1 works on in what a command answers. -/
def dueAfter : Result → Option (Nat × Nat)
  | .next t => (t.mon 1).due
  | _ => none

/-- Refutes O40: the row in which the results of a SYNC_MEASURE are ready acts in the chain's monitor without the supervisor, and
is none of the rows that the statement lets act there. -/
theorem not_unpoweredModuleKeepsItsState : ¬ Obligations.UnpoweredModuleKeepsItsState := by
  intro h
  have hdue := congrArg dueAfter (h monitorMeasures measureEnds (by decide) (by decide) (by decide))
  revert hdue
  decide +kernel

/-! ### Fields after an auxiliary reset -/

/-- Fields written one after another leave every field of another name. -/
theorem State.fld_foldl_put_of_not_mem (v : RField → Nat) {f : RField} (l : List RField) (h : f.id ∉ l.map (·.id)) (s : State)
    (i j : Nat) : (l.foldl (fun a g => a.put g (v g)) s).fld f i j = s.fld f i j := by
  induction l generalizing s with
  | nil => rfl
  | cons g l ih =>
    rw [List.map_cons, List.mem_cons, not_or] at h
    rw [List.foldl_cons, ih h.2, State.fld_put_id _ _ _ _ _ _ h.1]

/-- Fields of different names, written one after another, show what was written. -/
theorem State.fld_foldl_put_of_mem (v : RField → Nat) {f : RField} (l : List RField) (hl : (l.map (·.id)).Nodup) (hf : f ∈ l)
    (s : State) : (l.foldl (fun a g => a.put g (v g)) s).fld f = v f % 2 ^ f.width := by
  induction l generalizing s with
  | nil => exact absurd hf List.not_mem_nil
  | cons g l ih =>
    rw [List.map_cons, List.nodup_cons] at hl
    rw [List.foldl_cons]
    rcases List.mem_cons.mp hf with rfl | hmem
    · rw [State.fld_foldl_put_of_not_mem v l hl.1, State.fld_put_same]
    · exact ih hl.2 hmem _

/-- What an auxiliary reset leaves beside the levels at the pins: non-volatile cells, the chain's monitors, and the queue. -/
def State.resetBase (s : State) (ph : PinPhase) : State where
  pow := { phase := ph, nid := s.pow.nid }
  rcd := { pages := s.rcd.pages, skipped := s.rcd.skipped }
  tim := { store := s.tim.store, pcyc := s.tim.pcyc }
  mgt := { keys := s.mgt.keys }
  herd := { mons := s.herd.mons }
  rnd := { copyA := s.rnd.copyA, copyB := s.rnd.copyB, cfg := s.rnd.cfg }
  fused := s.fused
  qual := { fuse := s.qual.fuse }
  freeIx := s.freeIx
  pending := s.pending

theorem State.auxReset_eq (s : State) (ph : PinPhase) :
    s.auxReset ph = pinFields.foldl (fun a f => a.put f (s.fld f)) (s.resetBase ph) := rfl

theorem nodup_pinFields : (pinFields.map (·.id)).Nodup := by decide

/-- An auxiliary reset leaves the levels at the pins. -/
theorem State.auxReset_fld_pin (s : State) (ph : PinPhase) {f : RField} (hf : f ∈ pinFields) :
    (s.auxReset ph).fld f = s.fld f % 2 ^ f.width := by
  rw [State.auxReset_eq, State.fld_foldl_put_of_mem (fun g => s.fld g) pinFields nodup_pinFields hf]

/-- Every other field reads its reset value. -/
theorem State.auxReset_fld (s : State) (ph : PinPhase) {f : RField} (hf : f.id ∉ pinFields.map (·.id)) (i j : Nat) :
    (s.auxReset ph).fld f i j = f.resetAt i := by
  rw [State.auxReset_eq, State.fld_foldl_put_of_not_mem (fun g => s.fld g) pinFields hf]
  rfl

/-! ### What an auxiliary reset leaves -/

theorem foldl_put_eq {α : Type} (p : State → α) (hp : ∀ (s : State) (f : RField) (v : Nat), p (s.put f v) = p s)
    (v : RField → Nat) (l : List RField) (s : State) : p (l.foldl (fun a g => a.put g (v g)) s) = p s := by
  induction l generalizing s with
  | nil => rfl
  | cons g l ih => rw [List.foldl_cons, ih, hp]

theorem State.pinFields_foldl {α : Type} (p : State → α) (hp : ∀ (s : State) (f : RField) (v : Nat), p (s.put f v) = p s)
    (s : State) (ph : PinPhase) : p (s.auxReset ph) = p (s.resetBase ph) := by
  rw [State.auxReset_eq, foldl_put_eq p hp]

/-- What the non-volatile cells hold, and what lives from the pins and the cells of the chain. -/
structure State.sameStored (s t : State) : Prop where
  keys : t.mgt.keys = s.mgt.keys
  skipped : t.rcd.skipped = s.rcd.skipped
  copyA : t.rnd.copyA = s.rnd.copyA
  copyB : t.rnd.copyB = s.rnd.copyB
  fused : t.fused = s.fused
  fuse : t.qual.fuse = s.qual.fuse
  mons : t.herd.mons = s.herd.mons
  nid : t.pow.nid = s.pow.nid
  pending : t.pending = s.pending

theorem State.sameStored.refl (s : State) : s.sameStored s := ⟨rfl, rfl, rfl, rfl, rfl, rfl, rfl, rfl, rfl⟩

theorem State.sameStored.trans {s t u : State} (h : s.sameStored t) (g : t.sameStored u) : s.sameStored u :=
  ⟨g.keys.trans h.keys, g.skipped.trans h.skipped, g.copyA.trans h.copyA, g.copyB.trans h.copyB, g.fused.trans h.fused,
    g.fuse.trans h.fuse, g.mons.trans h.mons, g.nid.trans h.nid, g.pending.trans h.pending⟩

theorem State.auxReset_sameStored (s : State) (ph : PinPhase) : s.sameStored (s.auxReset ph) where
  keys := pinFields_foldl (·.mgt.keys) (fun _ _ _ => rfl) s ph
  skipped := pinFields_foldl (·.rcd.skipped) (fun _ _ _ => rfl) s ph
  copyA := pinFields_foldl (·.rnd.copyA) (fun _ _ _ => rfl) s ph
  copyB := pinFields_foldl (·.rnd.copyB) (fun _ _ _ => rfl) s ph
  fused := pinFields_foldl (·.fused) (fun _ _ _ => rfl) s ph
  fuse := pinFields_foldl (·.qual.fuse) (fun _ _ _ => rfl) s ph
  mons := pinFields_foldl (·.herd.mons) (fun _ _ _ => rfl) s ph
  nid := pinFields_foldl (·.pow.nid) (fun _ _ _ => rfl) s ph
  pending := pinFields_foldl (·.pending) (fun _ _ _ => rfl) s ph

theorem State.auxReset_pages (s : State) (ph : PinPhase) : (s.auxReset ph).rcd.pages = s.rcd.pages :=
  pinFields_foldl (·.rcd.pages) (fun _ _ _ => rfl) s ph

theorem State.auxReset_store (s : State) (ph : PinPhase) : (s.auxReset ph).tim.store = s.tim.store :=
  pinFields_foldl (·.tim.store) (fun _ _ _ => rfl) s ph

theorem State.auxReset_queue (s : State) (ph : PinPhase) : (s.auxReset ph).rcd.queue = [] :=
  pinFields_foldl (·.rcd.queue) (fun _ _ _ => rfl) s ph

theorem State.auxReset_phase (s : State) (ph : PinPhase) : (s.auxReset ph).pow.phase = ph :=
  pinFields_foldl (·.pow.phase) (fun _ _ _ => rfl) s ph

/-- A program cut short touches the recorder's pages alone. -/
theorem State.progCut_sameStored (s : State) (cut : Nat) : s.sameStored (s.progCut cut) := by
  unfold State.progCut
  split
  · dsimp only
    split <;> exact ⟨rfl, rfl, rfl, rfl, rfl, rfl, rfl, rfl, rfl⟩
  · exact .refl s

theorem State.timeCut_sameStored (s : State) : s.sameStored s.timeCut := by
  unfold State.timeCut
  split
  · split
    · exact ⟨rfl, rfl, rfl, rfl, rfl, rfl, rfl, rfl, rfl⟩
    · exact .refl s
  · exact .refl s

theorem State.progCut_pages_of_none {s : State} (h : s.rcd.prog = none) (cut : Nat) : (s.progCut cut) = s := by
  unfold State.progCut
  rw [h]

/-- The entry that the warning wrote may be cut; the others stay, and so does what it says of the time. -/
structure State.sameTimes (s t : State) : Prop where
  times : t.tim.store.map (fun e => (e.optime, e.pcyc, e.kind)) = s.tim.store.map (fun e => (e.optime, e.pcyc, e.kind))
  tail : t.tim.store.tail = s.tim.store.tail
  whole : (∀ e, s.tim.store.head? = some e → ¬(e.kind = 2 ∧ e.optime = s.tim.optime ∧ e.pcyc = s.tim.pcyc)) →
    t.tim.store = s.tim.store

theorem State.sameTimes.of_eq {s t : State} (h : t.tim.store = s.tim.store) : s.sameTimes t :=
  ⟨by rw [h], by rw [h], fun _ => h⟩

theorem State.timeCut_sameTimes (s : State) : s.sameTimes s.timeCut := by
  unfold State.timeCut
  split
  next e l hstore =>
    split
    next hcut => exact ⟨by simp [hstore], by simp [hstore], fun h => absurd hcut (h e (by rw [hstore]; rfl))⟩
    next => exact .of_eq rfl
  next => exact .of_eq rfl

/-- The state that the end of hold-up resets: the entry and the program of the moment cut. -/
def State.holdupCut (s : State) : State := s.timeCut.free.2.progCut (s.timeCut.free.1 % 1024)

theorem State.holdupOver_eq {s : State} (h : s.holdup = true) (high : Bool) :
    s.holdupOver high = s.holdupCut.auxReset (if high then .x else .u) := if_pos h

theorem State.holdupCut_sameStored (s : State) : s.sameStored s.holdupCut :=
  s.timeCut_sameStored.trans (State.sameStored.trans (t := s.timeCut.free.2) ⟨rfl, rfl, rfl, rfl, rfl, rfl, rfl, rfl, rfl⟩ (State.progCut_sameStored _ _))

theorem State.progCut_tim (s : State) (cut : Nat) : (s.progCut cut).tim = s.tim := (State.progCut_keeps s cut).tim rfl

theorem State.holdupCut_sameTimes (s : State) : s.sameTimes s.holdupCut := by
  have h : s.holdupCut.tim.store = s.timeCut.tim.store := congrArg (·.store) (State.progCut_tim _ _)
  obtain ⟨htimes, htail, hwhole⟩ := s.timeCut_sameTimes
  exact ⟨by rw [h, htimes], by rw [h, htail], fun hw => h.trans (hwhole hw)⟩

theorem State.timeCut_rcd (s : State) : s.timeCut.rcd = s.rcd := (State.timeCut_keeps s).rcd rfl

theorem State.holdupCut_pages {s : State} (h : s.rcd.prog = none) : s.holdupCut.rcd.pages = s.rcd.pages := by
  unfold State.holdupCut
  rw [State.progCut_pages_of_none (by show s.timeCut.rcd.prog = none; rw [State.timeCut_rcd, h])]
  exact congrArg (·.pages) (State.timeCut_rcd s)

theorem State.holdupCut_fld (s : State) (f : RField) (i j : Nat) : s.holdupCut.fld f i j = s.fld f i j :=
  ((State.progCut_keeps _ _).fld f i j rfl (Nat.testBit_lt_two_pow (Nat.lt_of_lt_of_le (by decide)
    (Nat.pow_le_pow_right (by decide) (Nat.le_add_right 32 f.id))))).trans
    ((State.timeCut_keeps s).fld f i j rfl (Nat.testBit_lt_two_pow (Nat.lt_of_lt_of_le (by decide)
    (Nat.pow_le_pow_right (by decide) (Nat.le_add_right 32 f.id)))))

/-- What a command of the resets leaves (09 R242, 20 R545, 22 R579, R588, R599, 23 R618). -/
structure State.resetKeeps (s t : State) : Prop where
  stored : s.sameStored t
  times : s.sameTimes t
  pages : s.rcd.prog = none → t.rcd.pages = s.rcd.pages
  pins : ∀ f ∈ pinFields, s.fld f < 2 ^ f.width → t.fld f = s.fld f

theorem State.resetKeeps.refl (s : State) : s.resetKeeps s := ⟨.refl s, .of_eq rfl, fun _ => rfl, fun _ _ _ => rfl⟩

theorem State.auxReset_resetKeeps (s : State) (ph : PinPhase) : s.resetKeeps (s.auxReset ph) where
  stored := s.auxReset_sameStored ph
  times := .of_eq (s.auxReset_store ph)
  pages _ := s.auxReset_pages ph
  pins _ hf hfit := (s.auxReset_fld_pin ph hf).trans (Nat.mod_eq_of_lt hfit)

theorem State.holdupOver_resetKeeps (s : State) (high : Bool) : s.resetKeeps (s.holdupOver high) := by
  cases hh : s.holdup with
  | false => rw [show s.holdupOver high = s from if_neg (by simp [hh])]; exact .refl s
  | true =>
    rw [State.holdupOver_eq hh]
    have hstore := State.auxReset_store s.holdupCut (if high then .x else .u)
    obtain ⟨htimes, htail, hwhole⟩ := s.holdupCut_sameTimes
    exact {
      stored := s.holdupCut_sameStored.trans (State.auxReset_sameStored _ _)
      times := ⟨by rw [hstore, htimes], by rw [hstore, htail], fun h => hstore.trans (hwhole h)⟩
      pages := fun h => (State.auxReset_pages _ _).trans (State.holdupCut_pages h)
      pins := fun f hf hfit => by
        rw [State.auxReset_fld_pin _ _ hf, State.holdupCut_fld, Nat.mod_eq_of_lt hfit] }

/-- The commands of the resets answer a reset state or, where their phase is another, the state as it is. -/
theorem exec_reset_cases {c : Instr} {s t : State} (hc : familyOf c = .reset) (h : exec c s = .next t) :
    t = s ∨ (∃ ph, t = s.auxReset ph) ∨ ∃ high, t = s.holdupOver high := by
  have hother : familyOf c ≠ .reset → t = s ∨ (∃ ph, t = s.auxReset ph) ∨ ∃ high, t = s.holdupOver high := fun hn => absurd hc hn
  cases c with
  | auxPowerUp =>
    cases h
    show s.auxUp = s ∨ _
    unfold State.auxUp
    split
    · exact .inr (.inl ⟨_, rfl⟩)
    · exact .inl rfl
  | auxDropInReset =>
    cases h
    show s.auxDrop = s ∨ _
    unfold State.auxDrop
    split
    · exact .inr (.inl ⟨_, rfl⟩)
    · exact .inl rfl
  | holdupEnd high => cases h; exact .inr (.inr ⟨high, rfl⟩)
  | _ => exact hother nofun

/-- Settles O49. -/
theorem resetsKeepStoredContents : Obligations.ResetsKeepStoredContents := by
  intro c s t hc h
  have hkeeps : s.resetKeeps t := by
    rcases exec_reset_cases hc h with rfl | ⟨ph, rfl⟩ | ⟨high, rfl⟩
    · exact .refl _
    · exact s.auxReset_resetKeeps ph
    · exact s.holdupOver_resetKeeps high
  obtain ⟨hs, ht, hpages, hpins⟩ := hkeeps
  exact ⟨hs.keys, hs.skipped, hs.copyA, ht.times, ht.tail, ht.whole, hs.fused, hs.fuse, hs.copyB, hs.mons, hs.nid, hs.pending,
    hpages, hpins⟩

/-! ### The identification registers (00 R15) -/

/-- The fields of the identification registers. -/
def idFields : List RField := [F.ID_DEVICE_VENDOR, F.ID_DEVICE_PART, F.ID_STEPPING_STEP]

theorem State.identified_iff (s : State) : s.identified ↔
    s.fld F.ID_DEVICE_VENDOR * 2 ^ 16 + s.fld F.ID_DEVICE_PART = 0x4854B064 ∧ s.gradeOk ∧ s.fld F.ID_STEPPING_STEP = 0xB0 := by
  have hdevice : s.supWord 0x000 = s.fld F.ID_DEVICE_VENDOR * 2 ^ 16 + (s.fld F.ID_DEVICE_PART * 2 ^ 0 + 0) := rfl
  have hstep : s.supWord 0x002 = s.fld F.ID_STEPPING_STEP * 2 ^ 0 + 0 := rfl
  have htiles : s.supWord 0x001 = s.tileCount := rfl
  unfold State.identified
  rw [hdevice, hstep, htiles]
  simp only [pow_zero, mul_one, add_zero, true_and]

/-- States with the same tiles and the same identification fields are identified alike. -/
theorem State.identified_of_same {s t : State} (hfused : t.fused = s.fused) (hf : ∀ f ∈ idFields, t.fld f = s.fld f)
    (h : s.identified) : t.identified := by
  have hcount : t.tileCount = s.tileCount := by unfold State.tileCount State.enabled; rw [hfused]
  rw [State.identified_iff] at h ⊢
  unfold State.gradeOk at *
  rw [hf _ (by simp [idFields]), hf _ (by simp [idFields]), hf _ (by simp [idFields]), hcount]
  exact h

/-- A reset gives the identification registers their values, with the tiles that the part has. -/
theorem State.auxReset_identified {s : State} (ph : PinPhase) (h : s.identified) : (s.auxReset ph).identified := by
  rw [State.identified_iff] at h ⊢
  have hcount : (s.auxReset ph).tileCount = s.tileCount := by
    unfold State.tileCount State.enabled; rw [(s.auxReset_sameStored ph).fused]
  unfold State.gradeOk at *
  rw [State.auxReset_fld _ _ (by decide), State.auxReset_fld _ _ (by decide), State.auxReset_fld _ _ (by decide), hcount]
  exact ⟨rfl, h.2.1, rfl⟩

theorem State.holdupOver_identified {s : State} (high : Bool) (h : s.identified) : (s.holdupOver high).identified := by
  cases hh : s.holdup with
  | false => rwa [show s.holdupOver high = s from if_neg (by simp [hh])]
  | true =>
    rw [State.holdupOver_eq hh]
    exact State.auxReset_identified _ (State.identified_of_same s.holdupCut_sameStored.fused (fun f _ => s.holdupCut_fld f 0 0) h)

/-- The bits of the identification fields, and of every field. -/
def idMask : Nat := 0x80000000 ||| fieldsMask idFields

theorem execMask_id (c : Instr) : familyOf c = .reset ∨ Nat.beq (Nat.land (execMask c) idMask) 0 = true := by
  cases c with
  | auxPowerUp => exact .inl rfl
  | auxDropInReset => exact .inl rfl
  | holdupEnd => exact .inl rfl
  | _ => right; simp only [execMask]; decide +kernel

theorem Keeps.fld_of_idMask {M : Nat} {s t : State} (h : Keeps M s t) (hm : Nat.beq (Nat.land M idMask) 0 = true) :
    ∀ f ∈ idFields, t.fld f = s.fld f := by
  intro f hf
  have hzero : M &&& idMask = 0 := Nat.eq_of_beq_eq_true hm
  refine h.fld f 0 0 (testBit_of_land_eq_zero hzero (by decide +kernel)) (testBit_of_land_eq_zero hzero ?_)
  rw [idMask, Nat.testBit_or, testBit_fieldsMask, Bool.or_eq_true, List.any_eq_true]
  exact .inr ⟨f, hf, beq_self_eq_true _⟩

theorem exec_identified {c : Instr} {s t : State} (h : exec c s = .next t) (hs : s.identified) : t.identified := by
  rcases execMask_id c with hc | hm
  · rcases exec_reset_cases hc h with rfl | ⟨ph, rfl⟩ | ⟨high, rfl⟩
    · exact hs
    · exact State.auxReset_identified ph hs
    · exact State.holdupOver_identified high hs
  · exact State.identified_of_same (exec_next h).fused ((exec_next h).fld_of_idMask hm) hs

theorem step_fused {s t : State} (h : step s = .next t) : t.fused = s.fused := by
  rcases step_cases h with ⟨-, rfl⟩ | ⟨c, rest, -, hexec⟩
  · exact (State.idleStep_keeps s).fused
  · exact (exec_next hexec).fused

theorem step_identified {s t : State} (h : step s = .next t) (hs : s.identified) : t.identified := by
  rcases step_cases h with ⟨-, rfl⟩ | ⟨c, rest, -, hexec⟩
  · exact State.identified_of_same (State.idleStep_keeps s).fused ((State.idleStep_keeps s).fld_of_idMask (by decide +kernel)) hs
  · exact exec_identified hexec (State.identified_of_same (t := s.withPending rest) rfl (fun _ _ => rfl) hs)

theorem State.reset_identified : State.reset.identified := by
  rw [State.identified_iff]
  exact ⟨rfl, .inl rfl, rfl⟩

/-- Settles O39. -/
theorem identificationRegistersNeverChange : Obligations.IdentificationRegistersNeverChange := by
  refine ⟨State.reset_identified, fun s t h => ⟨step_identified h, ?_, fun n => ?_⟩⟩
  · unfold State.tileCount State.enabled; rw [step_fused h]
  · unfold State.groupOf State.enabled; rw [step_fused h]

/-! ### The state after reset -/

theorem State.reset_fld (f : RField) (i j : Nat) : State.reset.fld f i j = f.resetAt i := rfl

/-- Only PD03 to PD05 are on after reset (03 Table 3-10). -/
theorem State.reset_dom {d : Nat} (h : 8 ≤ d) : State.reset.dom d = .off := by
  have h3 : 3 ≠ d := by omega
  have h4 : 4 ≠ d := by omega
  have h5 : 5 ≠ d := by omega
  simp [State.dom, State.reset, Tab.get, findKey, h3, h4, h5]

/-- Settles O37: reset lists nothing, so every table reads its default everywhere. -/
theorem resetState : Obligations.ResetState := by
  refine ⟨⟨rfl, rfl, rfl, fun _ => ⟨rfl, rfl, rfl, rfl⟩⟩, rfl, rfl, rfl, State.reset_fld, ?outputs, fun _ => State.reset_dom, rfl, fun _ => rfl,
    rfl, State.reset_identified⟩
  intro f hf hne i
  have hzero : ∀ g ∈ outputFields, g ≠ F.LIS_CTL_LIS_EN → g.resetLo = 0 ∧ g.resetHi = 0 := by decide
  obtain ⟨hlo, hhi⟩ := hzero f hf hne
  rw [State.reset_fld, RField.resetAt, hlo, hhi, ite_self]

end Sys2Proof.Machine

/-! PROOFS. Which bytes of the Vat a request, a tile or a ring can change (05 R106 to R109): a write reaches the units of one
page, the page is one that the table gives to the partition and that is mapped, and nothing else writes bytes. -/
namespace Sys2Proof.Machine

/-! ### Bytes that change lie in pages of partitions with `P` -/

/-- From `s` to `t` the page table and the tiles of the partitions stay, and bytes of the Vat change, if any do, only for a partition
with `P`, and in mapped pages of it. -/
structure State.Reaches (P : Nat → Prop) (s t : State) : Prop where
  pages : t.pages = s.pages
  tiles : ∀ p, t.fld F.SEP_PT_TILES_TILES p = s.fld F.SEP_PT_TILES_TILES p
  touched : t.vmem.mem = s.vmem.mem ∨ ∃ p, P p
  bytes : ∀ y, cellGet 0 y t.vmem.mem ≠ cellGet 0 y s.vmem.mem → ∃ p, P p ∧ s.inMapped p y

section
variable {P : Nat → Prop} {s t u : State}

theorem State.inMapped_congr (h : t.pages = s.pages) (p y : Nat) : t.inMapped p y ↔ s.inMapped p y := by
  unfold State.inMapped State.pageOf State.page
  rw [h]

/-- A step that leaves the bytes, the pages and the tiles. -/
theorem State.Reaches.of_mem (hpages : t.pages = s.pages)
    (htiles : ∀ p, t.fld F.SEP_PT_TILES_TILES p = s.fld F.SEP_PT_TILES_TILES p) (hmem : t.vmem.mem = s.vmem.mem) :
    s.Reaches P t :=
  ⟨hpages, htiles, .inl hmem, fun y hy => absurd (by rw [hmem]) hy⟩

theorem State.Reaches.refl (s : State) : s.Reaches P s := .of_mem rfl (fun _ => rfl) rfl

theorem State.Reaches.trans (h : s.Reaches P t) (g : t.Reaches P u) : s.Reaches P u where
  pages := g.pages.trans h.pages
  tiles p := (g.tiles p).trans (h.tiles p)
  touched := by
    rcases h.touched with hm | hp
    · rcases g.touched with gm | gp
      · exact .inl (gm.trans hm)
      · exact .inr gp
    · exact .inr hp
  bytes y hy := by
    by_cases hg : cellGet 0 y u.vmem.mem = cellGet 0 y t.vmem.mem
    · exact h.bytes y (hg ▸ hy)
    · obtain ⟨p, hp, hin⟩ := g.bytes y hg
      exact ⟨p, hp, (State.inMapped_congr h.pages p y).mp hin⟩

/-- A step under a frame without the Vat, its pages and the tables of tiles. -/
theorem Keeps.reaches {M : Nat} (h : Keeps M s t) (hM : (!M.testBit 14 && !M.testBit 15 && spares M F.SEP_PT_TILES_TILES) = true) :
    s.Reaches P t := by
  simp only [Bool.and_eq_true, Bool.not_eq_true'] at hM
  obtain ⟨⟨hpages, hvmem⟩, htiles⟩ := hM
  exact .of_mem (h.pages hpages) (fun p => h.fld_eq htiles) (by rw [h.vmem hvmem])

theorem Keeps.reaches_trans {M : Nat} (h : Keeps M s t) (hM : (!M.testBit 14 && !M.testBit 15 && spares M F.SEP_PT_TILES_TILES) = true)
    (g : t.Reaches P u) : s.Reaches P u := (h.reaches hM).trans g

theorem State.Reaches.foldl {α : Type} {f : State → α → State} {l : List α} {s : State}
    (h : ∀ a : State, a.pages = s.pages → ∀ x ∈ l, a.Reaches P (f a x)) : s.Reaches P (l.foldl f s) := by
  induction l generalizing s with
  | nil => exact .refl s
  | cons x l ih =>
    have hx := h s rfl x (by simp)
    exact hx.trans (ih fun a ha y hy => h a (ha.trans hx.pages) y (by simp [hy]))

theorem State.Reaches.ite {c : Prop} [Decidable c] (h : c → s.Reaches P t) (g : ¬ c → s.Reaches P u) :
    s.Reaches P (if c then t else u) := by
  split
  next hc => exact h hc
  next hc => exact g hc

theorem State.Reaches.ownerOf (h : s.Reaches P t) (n : Nat) : t.ownerOf n = s.ownerOf n := by
  unfold State.ownerOf State.owns State.bit
  simp only [h.tiles]

end

/-! ### A write of the Vat -/

theorem length_xorBytes_le (a b : Bytes) : (xorBytes a b).length ≤ b.length := by
  induction a generalizing b with
  | nil => simp [xorBytes]
  | cons x a ih =>
    cases b with
    | nil => simp [xorBytes]
    | cons y b => simpa [xorBytes] using ih b

theorem length_xtsBlocks_le (f : Bytes → Bytes) (n t : Nat) (bs : Bytes) : (xtsBlocks f n t bs).length ≤ 16 * n := by
  induction n generalizing t bs with
  | zero => simp [xtsBlocks]
  | succ n ih =>
    have hblock := length_xorBytes_le (f (xorBytes (bs.take 16) (leBytes 16 t))) (leBytes 16 t)
    rw [length_leBytes] at hblock
    have hrest := ih (xtsDouble t) (bs.drop 16)
    simp only [xtsBlocks, List.length_append]
    omega

/-- A stored unit takes no more than its 64 bytes. -/
theorem length_xtsEnc_le (key : Bytes) (u : Nat) {bs : Bytes} (h : bs.length ≤ 64) : (xtsEnc key u bs).length ≤ 64 := by
  unfold xtsEnc
  split
  · exact h
  · exact length_xtsBlocks_le _ 4 _ _

section
variable {P : Nat → Prop} {s : State}

/-- A write of a unit reaches its 64 bytes. -/
theorem State.unitWrite_reaches (s : State) (key : Bytes) (pu u : Nat) {ws : List (Option Byte)} (hws : ws.length ≤ 64)
    (h : ∀ y, 64 * u ≤ y → y < 64 * u + 64 → ∃ p, P p ∧ s.inMapped p y) : s.Reaches P (s.unitWrite key pu u ws) := by
  unfold State.unitWrite
  split
  · refine ⟨rfl, fun _ => rfl, .inr ((h (64 * u) (by omega) (by omega)).imp fun _ => And.left), fun y hy => ?_⟩
    have hdata : (xtsEnc key pu ((ws.zip (s.unitPlain key pu u)).map fun x => x.1.getD x.2)).length ≤ 64 :=
      length_xtsEnc_le _ _ (by simp; omega)
    by_contra hno
    refine hy (cellGet_memWrite_out _ _ _ _ _ ?_)
    by_contra hin
    exact hno (h y (by omega) (by omega))
  · exact .refl s

/-- A write within one page reaches that page alone. -/
theorem State.vwriteOn_reaches {p a : Nat} {bs : List (Byte × Bool)} (key : Bytes) (pa : Nat) (hp : P p)
    (hin : s.inMapped p a) (hfit : a % pageSize + bs.length ≤ pageSize) : s.Reaches P (s.vwriteOn key pa a bs) := by
  refine .foldl fun b hb u hu => State.unitWrite_reaches b _ _ _ (by simp [unitPart]) fun y hlow hhigh => ⟨p, hp, ?_⟩
  rw [State.inMapped_congr hb]
  have hpage : y / pageSize = a / pageSize := by
    simp only [unitsOf, List.mem_map, List.mem_range] at hu
    obtain ⟨j, hj, rfl⟩ := hu
    unfold pageSize at *
    omega
  unfold State.inMapped at *
  rwa [hpage]

theorem State.vwrite_reaches {p a : Nat} {bs : Bytes} (key : Bytes) (pa : Nat) (hp : P p)
    (hin : s.inMapped p a) (hfit : a % pageSize + bs.length ≤ pageSize) : s.Reaches P (s.vwrite key pa a bs) :=
  State.vwriteOn_reaches key pa hp hin (by simpa using hfit)

/-- Where a P-address lies at a physical one, it is in a mapped page of the partition, at the same place in it. -/
theorem State.inMapped_of_vloc {p a x : Nat} (h : s.vloc p a = .phys x) :
    s.inMapped p x ∧ x % pageSize = a % pageSize ∧ a / pageSize < s.npages p := by
  unfold State.vloc at h
  split at h
  next => cases h
  next hrange =>
    split at h
    next => cases h
    next i hi =>
      split at h
      next hmapped =>
        cases h
        have hdiv : (i * pageSize + a % pageSize) / pageSize = i := by unfold pageSize; omega
        have hmod : (i * pageSize + a % pageSize) % pageSize = a % pageSize := by unfold pageSize; omega
        refine ⟨⟨⟨a / pageSize, ?_⟩, ?_⟩, hmod, by omega⟩
        · rw [hdiv]; exact hi
        · rw [hdiv]; exact hmapped.2
      next => cases h

end

/-! ### What changes the Vat's metadata, or who waits for it, and no byte -/

section
variable {P : Nat → Prop}

theorem State.vatUe_reaches (s : State) (u kind id part : Nat) : s.Reaches P (s.vatUe u kind id part) :=
  have hpoison : s.Reaches P (s.vpoison u) := .of_mem rfl (fun _ => rfl) rfl
  hpoison.trans ((State.ueReport_keeps ..).reaches rfl)

theorem State.count_coreEv_reaches (s : State) (f : RField) (n i : Nat) (e : Ev)
    (h : f.id ≠ F.SEP_PT_TILES_TILES.id) : s.Reaches P ((s.count f n i).coreEv e) := by
  have hcount : s.Reaches P (s.count f n i) :=
    .of_mem rfl (fun p => by rw [State.count_eq, State.fld_put_id _ _ _ _ _ _ h.symm]) rfl
  exact hcount.trans ((State.coreEv_keeps ..).reaches rfl)

theorem State.unitRead_reaches (s : State) (u kind id part : Nat) : s.Reaches P (s.unitRead u kind id part) := by
  unfold State.unitRead
  extract_lets st x s1 s2
  have h1 : s.Reaches P s1 := .ite (fun _ => State.count_coreEv_reaches _ _ _ _ _ (by decide)) fun _ => .refl s
  have h2 : s1.Reaches P s2 := .of_mem rfl (fun _ => rfl) rfl
  refine .ite (fun _ => h1.trans (State.vatUe_reaches ..)) fun _ => .ite (fun _ => h1) fun _ => (h1.trans h2).trans ?_
  exact .ite (fun _ => .refl s2) fun _ => State.count_coreEv_reaches _ _ _ _ _ (by decide)

theorem State.unitsRead_reaches (s : State) (us : List Nat) (kind id part : Nat) : s.Reaches P (s.unitsRead us kind id part) :=
  .foldl fun a _ u _ => State.unitRead_reaches a u kind id part

theorem State.vatSettle_reaches (s : State) : s.Reaches P s.vatSettle := by
  have hrail (a : State) : a.Reaches P (a.rail 9 false) := ((State.rail_keeps ..).reaches rfl)
  have hleave (a : State) (x : VatSt) : a.Reaches P (a.vatLeave x) := .of_mem rfl (fun _ => rfl) rfl
  unfold State.vatSettle
  extract_lets r
  split
  · have hwake : s.Reaches P (s.sleepEnd.setVat .wakeFromOff) := .of_mem rfl (fun _ => rfl) rfl
    exact .ite (fun _ => hwake.trans (hrail _)) fun _ => .refl s
  · exact .ite (fun _ => .of_mem rfl (fun _ => rfl) rfl) fun _ =>
      .ite (fun _ => .of_mem rfl (fun _ => rfl) rfl) fun _ => .refl s
  · refine .ite (fun _ => .of_mem rfl (fun _ => rfl) rfl) fun _ => .ite (fun _ => .refl s) fun _ => ?_
    exact .ite (fun _ => .of_mem rfl (fun _ => rfl) rfl) fun _ => .of_mem rfl (fun _ => rfl) rfl
  · exact .refl s

theorem State.powerSettle_reaches (s : State) : s.Reaches P s.powerSettle := by
  unfold State.powerSettle
  extract_lets s1 s2 s3
  refine .ite (fun _ => ?_) fun _ => .refl s
  have h2 : s1.Reaches P s2 := .foldl fun _ _ e _ => ((State.engSettle_keeps _ e).reaches rfl)
  have h3 : s2.lscSettle.Reaches P s3 := .foldl fun _ _ g _ => ((State.tgSettle_keeps _ g).reaches rfl)
  exact (State.vatSettle_reaches s).trans <| h2.trans <| (State.lscSettle_keeps s2).reaches_trans rfl <| h3.trans <|
    (State.sepSettle_keeps s3).reaches_trans rfl ((State.gateSettle_keeps _).reaches rfl)

/-- A command that acts reaches what its action does. -/
theorem State.acts_reaches {s : State} {f : State → State} (h : s.recsIn.Reaches P (f s.recsIn)) :
    s.Reaches P (s.acts f) := by
  unfold State.acts
  refine .ite (fun _ => ?_) fun _ => .refl s
  have hbegin : s.Reaches P s.recsIn := .of_mem rfl (fun _ => rfl) rfl
  exact (hbegin.trans h).trans ((State.serviced_keeps rfl (Keeps.refl mask6 _)).reaches_trans rfl ((State.recsOut_keeps _).reaches rfl))

end

/-! ### Q requests -/

section
variable {P : Nat → Prop} {s : State} {k : Nat} {r : Req}

theorem placeOf_vat {a : Nat} (h : a < globBase) : placeOf a = .vat a := by
  have hbase : globBase ≤ partBase := by decide
  unfold placeOf
  rw [if_neg (by omega), if_neg (by omega)]

/-- A request that keeps the rules of Table 6-9 stays within a page. -/
theorem QOp.okAt_fits {op : QOp} {a : Nat} (h : op.okAt a = true) : a % pageSize + op.len ≤ pageSize := by
  unfold pageSize
  cases op <;> simp only [QOp.okAt, qSpan, Bool.and_eq_true, beq_iff_eq, decide_eq_true_eq] at h <;> simp only [QOp.len] <;> omega

/-- A request served at a physical address writes, if it writes, at that address. -/
theorem State.servePhys_reaches {x : Nat} (hP : r.op.writes = true → P r.part) (hin : s.inMapped r.part x)
    (hfit : x % pageSize + r.op.len ≤ pageSize) : s.Reaches P (s.servePhys k r x).2 := by
  unfold State.servePhys
  extract_lets us s1
  have hread : s.Reaches P s1 := State.unitsRead_reaches ..
  have hin1 : s1.inMapped r.part x := (State.inMapped_congr hread.pages _ _).mpr hin
  have hword (y : Nat) (hw : r.op.writes = true) (hlen : r.op.len = 8) :
      s1.Reaches P (s1.vwrite r.key r.addr x (leBytes 8 y)) :=
    State.vwrite_reaches _ _ (hP hw) hin1 (by rw [length_leBytes, ← hlen]; exact hfit)
  split
  next => exact hread
  next =>
    cases hop : r.op with
    | rd n => exact hread
    | wr b1 b2 d =>
      rw [hop] at hP hfit
      exact hread.trans (State.vwriteOn_reaches _ _ (hP rfl) hin1 (by simpa [wrBytes, QOp.len] using hfit))
    | fadd v => exact hread.trans (hword _ (by rw [hop]; rfl) (by rw [hop]; rfl))
    | cas c w =>
      dsimp only [QOp.atomic]
      split
      next y _ => exact hread.trans (hword y (by rw [hop]; rfl) (by rw [hop]; rfl))
      next => exact hread

/-- A request of the Vat that is served reaches pages of its partition. -/
theorem State.serve_reaches (hP : r.op.writes = true → P r.part) (ha : r.addr < globBase)
    (hok : r.op.okAt r.addr = true) : s.Reaches P (s.serve k r).2 := by
  unfold State.serve
  rw [placeOf_vat ha]
  dsimp only
  split
  next => exact ((State.vatWake_keeps s).reaches rfl)
  next => exact .refl s
  next => exact .refl s
  next x hx =>
    obtain ⟨hin, hmod, -⟩ := State.inMapped_of_vloc hx
    exact State.servePhys_reaches hP hin (hmod ▸ QOp.okAt_fits hok)

theorem State.addReq_credit_reaches (s : State) (k n : Nat) (r : Req) : s.Reaches P ((s.addReq k r).credit k n) :=
  (State.addReq_keeps s k r).reaches_trans rfl ((State.credit_keeps _ k n).reaches rfl)

theorem State.serveAdd_reaches (hP : r.op.writes = true → P r.part) (ha : r.addr < globBase)
    (hok : r.op.okAt r.addr = true) : s.Reaches P (s.serveAdd k r) := by
  unfold State.serveAdd
  extract_lets r1 v1 s1 x
  have hnext : s.Reaches P s1 := .of_mem rfl (fun _ => rfl) rfl
  have hserve : s1.Reaches P x.2 := State.serve_reaches (r := r1) hP ha hok
  refine .ite (fun _ => hnext.trans ((State.addReq_keeps ..).reaches rfl)) fun _ => (hnext.trans hserve).trans ?_
  split
  · exact ((State.addReq_keeps ..).reaches rfl)
  · exact State.addReq_credit_reaches ..

/-- An accepted request of the Vat keeps the rules of Table 6-9, and comes from a port that is ACTIVE in a SEALED partition (05
R106). -/
theorem State.accepted_of_qRefused (ha : r.addr < globBase) (h : s.qRefused k r = 0) :
    r.op.okAt r.addr = true ∧ s.bit F.SEP_PT_PORTS_ACTIVE k r.part = true ∧ s.ptState r.part = ptSealed := by
  have hproves : r.proves = false := by
    unfold Req.proves
    split
    · simp; omega
    · rfl
  unfold State.qRefused State.qBound State.qPlace State.strayGlobal at h
  rw [placeOf_vat ha, hproves] at h
  split at h
  next => omega
  next hok =>
    simp only [Bool.false_eq_true, if_false] at h
    split at h
    next => omega
    next hbound =>
      split at h
      next hplace => exact ⟨by simpa using hok, by simpa [Nat.not_le.mpr ha] using hbound, hplace.1⟩
      next => omega

/-- A request of the Vat that arrives reaches pages of its partition, and writes only from a port ACTIVE in a SEALED one. -/
theorem State.qArrive_reaches (ha : r.addr < globBase)
    (hP : r.op.writes = true → s.bit F.SEP_PT_PORTS_ACTIVE k r.part = true → s.ptState r.part = ptSealed → P r.part) :
    s.Reaches P (s.qArrive k r) := by
  unfold State.qArrive
  extract_lets p n
  have hack : s.Reaches P (s.setPort k { p with ack := (p.ack + n) % 4096 }) := ((State.setPort_keeps ..).reaches rfl)
  refine .ite (fun _ => hack.trans ?_) fun _ => .refl s
  unfold State.qServe
  extract_lets why s1
  refine .ite (fun hwhy => ?_) fun _ => ?_
  · obtain ⟨hok, hactive, hsealed⟩ := State.accepted_of_qRefused (r := { r with held := n }) ha hwhy
    exact State.serveAdd_reaches (fun hw => hP hw hactive hsealed) ha hok
  · exact .trans (.ite (fun _ => ((State.sepEv_keeps ..).reaches rfl)) fun _ => ((State.pcEv_keeps ..).reaches rfl))
      (State.addReq_credit_reaches ..)

/-- A row of a Q request of the Vat. -/
theorem State.acts_qRow_reaches {s : State} {q : QHdr} {op : QOp} (ha : q.addr.toNat < globBase)
    (hP : op.writes = true → s.bit F.SEP_PT_PORTS_ACTIVE q.port q.part = true → s.ptState q.part = ptSealed → P q.part) :
    s.Reaches P (s.acts fun a => a.qRow q op) :=
  State.acts_reaches ((State.qArrive_reaches (s := s.recsIn) (r := reqOf q op) ha hP).trans (State.powerSettle_reaches _))

end

theorem eq_of_wfElse {ok : Bool} {m : String} {t u : State} (h : wfElse ok m t = .next u) : t = u := by
  unfold wfElse at h
  split at h
  · exact Host.Outcome.next.inj h
  · cases h

/-- The partition of a request that writes: bound to its port and SEALED. -/
def State.writesFor (s : State) (q : QHdr) (p : Nat) : Prop :=
  p = q.part.val ∧ s.bit F.SEP_PT_PORTS_ACTIVE q.port q.part = true ∧ s.ptState q.part = ptSealed

/-- A row that writes reaches only pages of its partition, and only for an ACTIVE port of a SEALED one. -/
theorem exec_qRow_within {s t : State} {q : QHdr} {op : QOp} (ha : q.addr.toNat < globBase)
    (h : (s.acts fun a => a.qRow q op) = t) :
    s.vatWithin t q.part ∧
      (t.vmem.mem ≠ s.vmem.mem → s.bit F.SEP_PT_PORTS_ACTIVE q.port q.part = true ∧ s.ptState q.part = ptSealed) := by
  have hreach : s.Reaches (s.writesFor q) t := h ▸ State.acts_qRow_reaches ha fun _ hactive hsealed => ⟨rfl, hactive, hsealed⟩
  refine ⟨fun y hy => ?_, fun hmem => ?_⟩
  · obtain ⟨p, ⟨rfl, -⟩, hin⟩ := hreach.bytes y hy
    exact hin
  · obtain hsame | ⟨p, -, hbound⟩ := hreach.touched
    · exact absurd hsame hmem
    · exact hbound

/-- Settles O52: a byte changes only where a request is served, and there it is written in units of the page that `vloc` finds for
its P-address. -/
theorem requestsReachOnlyTheirPartition : Obligations.RequestsReachOnlyTheirPartition := by
  unfold Obligations.RequestsReachOnlyTheirPartition
  intro q s t ha
  refine ⟨?_, fun n h => ?_⟩
  · rintro (⟨b1, b2, d, h⟩ | ⟨v, h⟩ | ⟨x, y, h⟩)
    · exact exec_qRow_within ha (eq_of_wfElse h)
    · exact exec_qRow_within ha (Host.Outcome.next.inj h)
    · exact exec_qRow_within ha (Host.Outcome.next.inj h)
  · have hreach : s.Reaches (fun _ => False) t := by
      rw [← Host.Outcome.next.inj h]
      exact State.acts_qRow_reaches ha fun hw => by simp [QOp.writes] at hw
    exact hreach.touched.resolve_right fun ⟨_, hnone⟩ => hnone

/-! ### The Ladle (11 R286, R287, R305) -/

section
variable {P : Nat → Prop} {s : State}

theorem State.setTile_reaches (s : State) (t : Nat) (x : Tile) : s.Reaches P (s.setTile t x) :=
  .of_mem rfl (fun _ => rfl) rfl

/-- The head of a queue that does not issue reaches nothing; one that does, what its action reaches. -/
theorem State.issueHead_reaches {t : Nat} {q : Queue} {isOp : Nat → Bool} {dyn : State → Nat → PEnt → Dyn}
    {act : State → Nat → PEnt → State} (h : ∀ a i e, s.Reaches P a → a.Reaches P (act a i e)) :
    s.Reaches P (s.issueHead t q isOp dyn act) := by
  unfold State.issueHead
  split
  next => exact .refl s
  next x i k _ => exact (State.setTile_reaches s t x).trans ((State.abortEnter_keeps ..).reaches rfl)
  next x i e po _ =>
    extract_lets e1
    have hissued : s.Reaches P ((s.setTile t { x with ents := setNth x.ents i e1 }).tilePerf t pfISSUED) :=
      (State.setTile_reaches s t _).trans ((State.tilePerf_keeps ..).reaches rfl)
    exact hissued.trans (h _ i e hissued)

/-- A piece of a row lies at a physical address in one mapped page of the partition. -/
def State.pieceIn (s : State) (p : Nat) (x : Nat × Nat × Nat × Nat) : Prop :=
  s.inMapped p x.2.1 ∧ x.2.1 % pageSize + x.2.2.2 ≤ pageSize

theorem vatPieces_fit (k a n : Nat) : ∀ x ∈ vatPieces k a n, x.1 % pageSize + x.2 ≤ pageSize := by
  induction k generalizing a n with
  | zero => simp [vatPieces]
  | succ k ih =>
    unfold vatPieces
    split
    · simp
    · have hmod : a % pageSize < pageSize := Nat.mod_lt _ (by decide)
      intro x hx
      rcases List.mem_cons.mp hx with rfl | hx
      · dsimp only; omega
      · exact ih _ _ x hx

theorem State.rowPieces_in (s : State) (p : Nat) (e : PEnt) (n : Nat) : ∀ x ∈ s.rowPieces p e n, s.pieceIn p x := by
  intro x hx
  simp only [State.rowPieces, List.mem_filterMap] at hx
  obtain ⟨y, hy, hloc⟩ := hx
  have hfit := vatPieces_fit _ _ _ y hy
  split at hloc
  next z hz =>
    obtain ⟨hin, hmod, -⟩ := State.inMapped_of_vloc hz
    cases hloc
    exact ⟨hin, by rw [hmod]; exact hfit⟩
  next => cases hloc

theorem length_memRead (d : Byte) (m : List Host.Cell) (a n : Nat) : (memRead d m a n).length = n := by
  induction n generalizing a with
  | zero => rfl
  | succ n ih => rw [memRead, List.length_cons, ih]

theorem State.copyPieces_reaches {t p : Nat} {e : PEnt} {ps : List (Nat × Nat × Nat × Nat)} (hp : P p)
    (h : ∀ x ∈ ps, s.pieceIn p x) : s.Reaches P (s.copyPieces t p e ps) := by
  unfold State.copyPieces
  extract_lets l pa key
  refine .foldl fun a ha x hx => .ite (fun _ => State.setTile_reaches ..) fun _ => ?_
  obtain ⟨hin, hfit⟩ := h x hx
  exact State.vwrite_reaches _ _ hp ((State.inMapped_congr ha _ _).mpr hin) (by rw [length_memRead]; exact hfit)

theorem State.pieceIn_congr {t : State} (h : t.pages = s.pages) {p : Nat} {x : Nat × Nat × Nat × Nat} :
    s.pieceIn p x → t.pieceIn p x :=
  fun ⟨hin, hfit⟩ => ⟨(State.inMapped_congr h p _).mpr hin, hfit⟩

theorem State.rowCut_reaches (s : State) {t p : Nat} {e : PEnt} (hp : P p) : s.Reaches P (s.rowCut t p e) := by
  unfold State.rowCut
  extract_lets ps us s1
  have hread : s.Reaches P s1 := State.unitsRead_reaches ..
  have hcopy : s1.Reaches P (s1.copyPieces t p e ps) :=
    State.copyPieces_reaches hp fun x hx => State.pieceIn_congr hread.pages (State.rowPieces_in s p e _ x hx)
  exact hread.trans (.ite (fun _ => .refl s1) fun _ => hcopy.trans ((State.tilePerf_keeps ..).reaches rfl))

theorem State.rowWaits_reaches (s : State) (t i n : Nat) : s.Reaches P (s.rowWaits t i n) := by
  unfold State.rowWaits
  split
  next e _ =>
    have hset (f : PEnt → PEnt) : s.Reaches P (s.setEnt t i f) := ((State.setEnt_keeps ..).reaches rfl)
    exact .ite (fun _ => (hset fun x => { x with part := n, seq := s.vmem.arrived + 1 }).trans (.of_mem rfl (fun _ => rfl) rfl))
      fun _ => hset _
  next => exact .refl s

/-- The state that copying a row comes to. -/
def RowRes.state : RowRes → State
  | .done s => s
  | .wait s => s
  | .fault s _ => s

theorem State.ladleRow_reaches (s : State) {t p i : Nat} {e : PEnt} (hp : P p) :
    s.Reaches P (s.ladleRow t p i e).state := by
  unfold State.ladleRow
  extract_lets l xs at_ ps us s1
  have hread : s.Reaches P s1 := State.unitsRead_reaches ..
  have hcopy : s1.Reaches P (s1.copyPieces t p e ps) :=
    State.copyPieces_reaches hp fun x hx => State.pieceIn_congr hread.pages (State.rowPieces_in s p e _ x hx)
  split
  · exact .refl s
  split
  · exact State.rowCut_reaches s hp
  split
  · exact (State.vatWake_keeps s).reaches_trans rfl (State.rowWaits_reaches ..)
  split
  · exact hread
  · exact hread.trans hcopy

/-- Rows of a Ladle instruction reach pages of the owner of its tile. -/
theorem State.ladleRows_reaches {t i : Nat} (n : Nat) {s : State} (hP : ∀ p, s.ownerOf t = some p → P p) :
    s.Reaches P (State.ladleRows t i n s) := by
  induction n generalizing s with
  | zero => exact .refl s
  | succ n ih =>
    unfold State.ladleRows
    split
    next e p _ hp =>
      refine .ite (fun _ => ?_) fun _ => .refl s
      have hrow : s.Reaches P (s.ladleRow t p i e).state := State.ladleRow_reaches s (hP p hp)
      cases hres : s.ladleRow t p i e with
      | wait s1 => rw [hres] at hrow; exact hrow
      | fault s1 c =>
        rw [hres] at hrow
        refine hrow.trans ?_
        simp only [RowRes.state, State.ladleNext]
        split
        · exact ((State.abortEnter_keeps ..).reaches rfl)
        · exact .refl s1
      | done s1 =>
        rw [hres] at hrow
        simp only [RowRes.state] at hrow
        have hcount : s.Reaches P ((s1.setEnt t i fun x => { x with done := x.done + 1, part := 0, seq := 0 }).tilePerf t
            pfLADLE_BYTES (ladleOf e.word).rlen) :=
          hrow.trans ((State.setEnt_keeps ..).reaches_trans rfl ((State.tilePerf_keeps ..).reaches rfl))
        exact hcount.trans (ih fun p hp => hP p (hcount.ownerOf t ▸ hp))
    next => exact .refl s

theorem State.ladle_reaches {t : Nat} {ch : Bool} {opc n : Nat} (hP : ∀ p, s.ownerOf t = some p → P p) :
    s.Reaches P (s.ladle t ch opc n) := by
  unfold State.ladle
  extract_lets q
  split
  · split
    · exact .ite (fun _ => State.ladleRows_reaches n hP) fun _ => .refl s
    · exact .refl s
  · exact State.issueHead_reaches fun a i _ ha => State.ladleRows_reaches n fun p hp => hP p (ha.ownerOf t ▸ hp)

/-! ### Completion entries (13 R346, R347) -/

theorem State.cqStore_reaches {p a : Nat} {w : Posted} (hp : P p) (hloc : s.vloc p (s.cqAddr p w.n) = .phys a) :
    s.Reaches P (s.cqStore p a w) := by
  obtain ⟨hin, hmod, -⟩ := State.inMapped_of_vloc hloc
  unfold State.cqStore
  extract_lets bs us s1
  have hread : s.Reaches P s1 := State.unitsRead_reaches ..
  have hlen : bs.length = 16 := by simp [bs, CqEnt.bytes, length_leBytes]
  have hfit : a % pageSize + bs.length ≤ pageSize := by
    rw [hmod, hlen]
    unfold State.cqAddr pageSize
    omega
  refine hread.trans (.ite (fun _ => .refl s1) fun _ => ?_)
  exact (State.vwrite_reaches _ _ hp ((State.inMapped_congr hread.pages _ _).mpr hin) hfit).trans ((State.perf_keeps ..).reaches rfl)

theorem State.put_reaches (s : State) {f : RField} (v i j : Nat) (h : f.id ≠ F.SEP_PT_TILES_TILES.id) :
    s.Reaches P (s.put f v i j) :=
  .of_mem rfl (fun _ => State.fld_put_id _ _ _ _ _ _ h.symm) rfl

theorem State.cqEntry_reaches {p : Nat} {w : Posted} {rest : List Posted} (hp : P p) :
    s.Reaches P (s.cqEntry p w rest) := by
  unfold State.cqEntry
  extract_lets s1 v2 s2 s3
  have h1 : s.Reaches P s1 := by
    unfold s1
    split
    next a ha => exact State.cqStore_reaches hp ha
    next => exact .refl s
  have h2 : s1.Reaches P s2 := ((State.setPart_keeps ..).reaches rfl)
  have h3 : s2.Reaches P s3 := State.put_reaches _ _ _ _ (by decide)
  exact (h1.trans (h2.trans h3)).trans (.ite (fun _ => ((State.cqNotify_keeps ..).reaches rfl)) fun _ => .refl s3)

theorem State.cqFlush_reaches {p : Nat} (hp : P p) (n : Nat) (s : State) : s.Reaches P (State.cqFlush p n s) := by
  induction n generalizing s with
  | zero => exact .refl s
  | succ n ih =>
    unfold State.cqFlush
    split
    · exact .refl s
    · exact .ite (fun _ => ((State.vatWake_keeps s).reaches rfl)) fun _ => (State.cqEntry_reaches hp).trans (ih _)

theorem State.cqWrite_reaches {p : Nat} {c : CqEnt} {notify : Bool} {born : Nat} (hp : P p) :
    s.Reaches P (s.cqWrite p c notify born) := by
  unfold State.cqWrite
  extract_lets n x s1
  have hreserve : s.Reaches P s1 := (State.setPart_keeps ..).reaches_trans rfl (State.put_reaches _ _ _ _ (by decide))
  have hnext : s1.Reaches P { s1 with vmem := { s1.vmem with arrived := s1.vmem.arrived + 1 } } := .of_mem rfl (fun _ => rfl) rfl
  exact (hreserve.trans hnext).trans (State.cqFlush_reaches hp _ _)

theorem State.cpl_reaches {t : Nat} (hP : ∀ p, s.ownerOf t = some p → P p) : s.Reaches P (s.cpl t) := by
  unfold State.cpl
  refine State.issueHead_reaches fun a i e ha => ?_
  split
  next => exact .refl a
  next p hp =>
    extract_lets x c a1 a2
    have h1 : a.Reaches P a1 := State.setTile_reaches ..
    have h2 : a1.Reaches P a2 := .ite (fun _ => State.cqWrite_reaches (hP p (ha.ownerOf t ▸ hp))) fun _ => .refl a1
    exact (h1.trans h2).trans ((State.completeAt_keeps ..).reaches rfl)

/-! ### Rings (13 R343 to R345) -/

theorem State.endGone_reaches {p t : Nat} {e : PEnt} (hp : P p) : s.Reaches P (s.endGone p t e) := by
  unfold State.endGone
  extract_lets w x n s1 y
  have hcount : s.Reaches P s1 := (State.setPart_keeps ..).reaches_trans rfl ((State.perf_keeps ..).reaches rfl)
  refine hcount.trans (.ite (fun _ => ?_) fun _ => .ite (fun _ => ((State.send_keeps ..).reaches rfl)) fun _ => .refl s1)
  exact (State.setPart_keeps ..).reaches_trans rfl (State.cqWrite_reaches hp)

theorem State.endBundle_reaches {p r t : Nat} {bs : Bytes} (hp : P p) {s1 : State} (h : s.Reaches P s1) :
    s.Reaches P (s.endBundle s1 p r t bs) := by
  unfold State.endBundle
  refine .ite (fun _ => .refl s) fun _ => h.trans ?_
  exact (State.advanceRing_keeps ..).reaches_trans rfl (.foldl fun _ _ _ _ => State.endGone_reaches hp)

theorem State.deliver_reaches (s : State) (p r t : Nat) (bs : Bytes) : s.Reaches P (s.deliver p r t bs) := by
  unfold State.deliver
  extract_lets lvl slots s1 x
  have h1 : s.Reaches P s1 := (State.advanceRing_keeps ..).reaches_trans rfl ((State.preempt_keeps ..).reaches rfl)
  exact h1.trans ((State.setTile_reaches ..).trans ((State.enter_keeps ..).reaches rfl))

theorem State.bundleRead_reaches (s : State) (p r a x : Nat) : s.Reaches P (s.bundleRead p r a x).2 := by
  unfold State.bundleRead
  extract_lets us
  split
  · exact (State.ringError_keeps ..).reaches_trans rfl (State.unitsRead_reaches ..)
  · exact State.unitsRead_reaches ..

theorem State.setSring_reaches (s : State) (p r : Nat) (x : SubRing) : s.Reaches P (s.setSring p r x) :=
  ((State.setSring_keeps ..).reaches rfl)

theorem State.ringFetch_reaches (s : State) {p t : Nat} (hp : P p) : s.Reaches P (s.ringFetch p t) := by
  unfold State.ringFetch
  refine .ite (fun _ => .refl s) fun _ => ?_
  split
  next => exact .refl s
  next r _ =>
    extract_lets gone a
    refine .ite (fun _ => .refl s) fun _ => ?_
    split
    next => exact ((State.vatWake_keeps s).reaches rfl)
    next => exact ((State.ringError_keeps ..).reaches rfl)
    next => exact ((State.ringError_keeps ..).reaches rfl)
    next x _ =>
      have hread : s.Reaches P (s.bundleRead p r a x).2 := State.bundleRead_reaches ..
      split
      next s1 h1 => rwa [h1] at hread
      next bs s1 h1 =>
        rw [h1] at hread
        extract_lets w0 f
        refine hread.trans (.ite (fun _ => State.setSring_reaches ..) fun _ => ?_)
        exact .ite (fun _ => State.endBundle_reaches hp (.refl s1)) fun _ => State.deliver_reaches ..

theorem State.rfence_reaches (s : State) {p r : Nat} (hp : P p) : s.Reaches P (s.rfence p r) := by
  unfold State.rfence
  extract_lets x a
  split
  next => exact .refl s
  next g _ _ =>
    extract_lets t gone
    refine .ite (fun _ => .refl s) fun _ => ?_
    split
    next y _ =>
      have hread : s.Reaches P (s.bundleRead p r a y).2 := State.bundleRead_reaches ..
      split
      next s1 h1 => rwa [h1] at hread
      next bs s1 h1 =>
        rw [h1] at hread
        extract_lets v2 s2
        have hfence : s1.Reaches P s2 := State.setSring_reaches ..
        exact hread.trans (.ite (fun _ => State.endBundle_reaches hp hfence) fun _ => hfence.trans (State.deliver_reaches ..))
    next => exact ((State.vatWake_keeps s).reaches rfl)
    next => exact ((State.ringError_keeps ..).reaches rfl)

end

/-- What a tile reaches, it reaches for its owner. -/
theorem State.Reaches.tile_within {s t : State} {n : Nat} (h : s.Reaches (fun p => s.ownerOf n = some p) t) :
    t.vmem.mem = s.vmem.mem ∨ ∃ p, s.ownerOf n = some p ∧ s.vatWithin t p := by
  refine h.touched.imp id fun ⟨p, hp⟩ => ⟨p, hp, fun y hy => ?_⟩
  obtain ⟨q, hq, hin⟩ := h.bytes y hy
  exact Option.some.inj (hp.symm.trans hq) ▸ hin

/-- What is reached for one partition lies in its pages. -/
theorem State.Reaches.part_within {s t : State} {p : Nat} (h : s.Reaches (· = p) t) : s.vatWithin t p := by
  intro y hy
  obtain ⟨q, rfl, hin⟩ := h.bytes y hy
  exact hin

/-- Settles O53: a row, a completion entry and a bundle's completion entries are written where `vloc` finds their P-addresses, for
the owner of the tile or the partition of the ring. -/
theorem tilesReachOnlyTheirPartition : Obligations.TilesReachOnlyTheirPartition := by
  unfold Obligations.TilesReachOnlyTheirPartition
  refine ⟨fun n s t h => State.Reaches.tile_within ?_, fun p s t h => State.Reaches.part_within ?_⟩
  · have hladle (ch : Bool) (opc k : Nat) : s.Reaches (fun p => s.ownerOf n = some p)
        (s.acts fun a => (a.ladle n ch opc k).powerSettle) :=
      State.acts_reaches ((State.ladle_reaches (s := s.recsIn) fun _ hp => hp).trans (State.powerSettle_reaches _))
    rcases h with ⟨ch, k, h⟩ | ⟨ch, k, h⟩ | h
    · exact Host.Outcome.next.inj h ▸ hladle ch _ _
    · exact Host.Outcome.next.inj h ▸ hladle ch _ _
    · exact Host.Outcome.next.inj h ▸
        State.acts_reaches ((State.cpl_reaches (s := s.recsIn) fun _ hp => hp).trans (State.powerSettle_reaches _))
  · rcases h with ⟨n, h⟩ | ⟨r, h⟩
    · exact Host.Outcome.next.inj h ▸
        State.acts_reaches ((State.ringFetch_reaches (P := (· = p.val)) s.recsIn rfl).trans (State.powerSettle_reaches _))
    · exact Host.Outcome.next.inj h ▸
        State.acts_reaches ((State.rfence_reaches (P := (· = p.val)) s.recsIn rfl).trans (State.powerSettle_reaches _))

end Sys2Proof.Machine

/-! PROOFS. The lease rows (05 R113 to R116).  The statement has the power sequencer follow a frame that fails to authenticate; the
row does not run it, so LeaseRowsTakeEffect fails in a state in which the sequencer has work to do. -/
namespace Sys2Proof.Machine

/-! ### What the sequencer leaves of PD04 -/

/-- PD04 stays off only where it may be gated (03 R58). -/
def State.herdSettled (s : State) : Prop := s.dom 4 = .off → s.gateOk = true

theorem State.setDom_gateOk (s : State) {d : Nat} (hd : d ≠ 8) (x : PdSt) : (s.setDom d x).gateOk = s.gateOk := by
  unfold State.gateOk
  rw [State.setDom_dom_ne s d x (Ne.symm hd)]
  rfl

theorem State.gateSettle_herdSettled (s : State) : s.gateSettle.herdSettled := by
  unfold State.gateSettle State.herdSettled
  extract_lets a
  simp only [List.foldl_cons, List.foldl_nil]
  cases hok : a.gateOk with
  | true =>
    intro _
    simp only [if_true]
    split <;> split <;> simp [State.setDom_gateOk, hok]
  | false =>
    intro hoff
    exfalso
    revert hoff
    simp only [Bool.false_eq_true, if_false]
    by_cases h4 : a.dom 4 = .off
    · simp only [if_pos h4]
      split <;> simp [State.setDom_dom_ne]
    · simp only [if_neg h4]
      split <;> simp [h4, State.setDom_dom_ne]

theorem State.powerSettle_herdSettled {s : State} (hup : s.up = true) : s.powerSettle.herdSettled := by
  unfold State.powerSettle
  rw [if_pos hup]
  exact State.gateSettle_herdSettled _

/-- What follows the sequencer in a command leaves the parts that gating depends on. -/
theorem State.herdSettled_congr {s t : State} {M : Nat} (h : Keeps M s t) (hpow : M.testBit 0 = false)
    (hherd : M.testBit 19 = false) (hctr : M.testBit 22 = false) (hregs : M.testBit 31 = false)
    (hgate : M.testBit (32 + F.AON_PD_CFG_HERD_GATE.id) = false)
    (hcoil : M.testBit (32 + F.CTR_STAT_COIL.id) = false)
    (hseq : M.testBit (32 + F.CTR_STAT_SEQ.id) = false) (hs : s.herdSettled) : t.herdSettled := by
  unfold State.herdSettled State.gateOk State.dom at *
  rw [h.pow hpow, h.herd hherd, h.ctr hctr, h.flag _ _ _ hregs hgate, h.fld F.CTR_STAT_COIL 0 0 hregs hcoil,
    h.fld F.CTR_STAT_SEQ 0 0 hregs hseq]
  exact hs

/-- Where the supervisor runs, what follows a state leaves PD04 settled. -/
theorem State.followed_herdSettled {s a : State} (hup : (s.followed a).up = true) : (s.followed a).herdSettled := by
  have hsvc : Keeps mask6 a.powerSettle (State.serviced s a.powerSettle) := State.serviced_keeps rfl (Keeps.refl _ _)
  have hout := State.recsOut_keeps (State.serviced s a.powerSettle)
  have hpow : (s.followed a).pow = a.powerSettle.pow := (hout.pow rfl).trans (hsvc.pow rfl)
  have hsettled : a.powerSettle.herdSettled := by
    cases ha : a.up with
    | true => exact State.powerSettle_herdSettled ha
    | false =>
      have hstays : a.powerSettle = a := by unfold State.powerSettle; exact if_neg (by simp [ha])
      rw [State.up, hpow, hstays, ← State.up, ha] at hup
      cases hup
  exact State.herdSettled_congr hout rfl rfl rfl rfl rfl rfl rfl
    (State.herdSettled_congr hsvc rfl rfl rfl rfl rfl rfl rfl hsettled)

/-! ### A renewal without a key -/

/-- The supervisor and the mailbox node run, no host has a key, and PD04 is off although nothing gates it. -/
def keylessNode : State := (({ pow := { phase := .s } } : State).putFlag F.MGT_STAT_ACTIVE true).setDom 4 .off

/-- A frame of host 0. -/
def hostZero : Hdr := ⟨0, 0, 1⟩

/-- Refutes O11, in its seventh clause: the row of a renewal that does not authenticate leaves PD04 as it was, off, where the power
sequencer would wake it. -/
theorem not_leaseRowsTakeEffect : ¬ Obligations.LeaseRowsTakeEffect := by
  unfold Obligations.LeaseRowsTakeEffect
  rintro ⟨-, -, -, -, -, -, hkeyless, -, -⟩
  obtain ⟨a, hexec, -⟩ := hkeyless keylessNode hostZero (by decide +kernel) (by decide +kernel) (by decide +kernel)
    (by decide +kernel) (by decide +kernel)
  have hstate : keylessNode.acts (fun a => a.mail hostZero .renew) = keylessNode.followed a := Host.Outcome.next.inj hexec
  have hoff : (keylessNode.acts fun a => a.mail hostZero .renew).dom 4 = .off := by decide +kernel
  have hwanted : (keylessNode.acts fun a => a.mail hostZero .renew).gateOk = false := by decide +kernel
  have hup : (keylessNode.acts fun a => a.mail hostZero .renew).up = true := by decide +kernel
  rw [hstate] at hoff hwanted hup
  exact Bool.false_ne_true (hwanted.symm.trans (State.followed_herdSettled hup hoff))

end Sys2Proof.Machine

/-! PROOFS. The feed, the domains and their qualification (03 R55 to R73, 04 R86 to R88): each row's action, what follows it, and
the field it leaves. -/
namespace Sys2Proof.Machine

/-! ### The main feed -/

/-- What follows the loss of the feed. -/
theorem State.feedLost_keeps (s : State) (cause rs fid : Nat) (d : Bytes) :
    Keeps (mask2 ||| mask263 ||| mask244) s ((((s.powerRec cause).notify 5 bAON 0 0 0 rs d).coreDead fid).powerSettle) :=
  (State.powerSettle_keeps _).step rfl <| (State.coreDead_keeps ..).step rfl <| (State.notify_keeps ..).step rfl <|
    (State.powerRec_keeps ..).step rfl (Keeps.refl _ _)

/-- A loss of the main feed shows in `MAIN_OK`, and an under-voltage in its event. -/
theorem State.mainLost_false {s : State} (hok : s.mainOk = true) :
    (s.mainLost false).mainOk = false ∧ (s.mainLost false).flag F.AON_HARD_EVT_MAIN_UV = true := by
  unfold State.mainLost
  simp only [hok, if_true, Bool.false_eq_true, if_false]
  refine ⟨(State.feedLost_keeps ..).flag_trans rfl (State.flag_putFlag _ _ _ _ _ (by decide)),
    (State.feedLost_keeps ..).flag_trans rfl ?_⟩
  rw [State.putFlag_eq, State.flag_put_id _ _ _ _ _ _ (by decide)]
  exact State.flag_putFlag _ _ _ _ _ (by decide)

/-- The state in which the over-voltage of the main feed has shown. -/
def State.mainOver (s : State) : State := (s.putFlag F.AON_HARD_EVT_MAIN_OV true).putFlag F.AON_SUP_STAT_MAIN_OV true

theorem State.mainOver_flags (s : State) : s.mainOver.flag F.AON_HARD_EVT_MAIN_OV = true ∧
    s.mainOver.flag F.AON_SUP_STAT_MAIN_OV = true ∧ s.mainOver.mainOk = s.mainOk := by
  unfold State.mainOver
  refine ⟨?_, State.flag_putFlag _ _ _ _ _ (by decide), ?_⟩
  · rw [State.putFlag_eq, State.flag_put_id _ _ _ _ _ _ (by decide)]
    exact State.flag_putFlag _ _ _ _ _ (by decide)
  · unfold State.mainOk
    rw [State.putFlag_eq, State.flag_put_id _ _ _ _ _ _ (by decide), State.putFlag_eq, State.flag_put_id _ _ _ _ _ _ (by decide)]

theorem State.mainLost_true (s : State) : (s.mainLost true).mainOk = false ∧
    (s.mainLost true).flag F.AON_HARD_EVT_MAIN_OV = true ∧ (s.mainLost true).flag F.AON_SUP_STAT_MAIN_OV = true := by
  obtain ⟨hevt, hstat, hok⟩ := s.mainOver_flags
  have hev : Keeps mask3 s.mainOver (s.mainOver.aonEv 0x09 lSevere) := State.aonEv_keeps ..
  unfold State.mainLost
  simp only [if_true]
  cases h : s.mainOk with
  | true =>
    simp only [if_true]
    refine ⟨(State.feedLost_keeps ..).flag_trans rfl (State.flag_putFlag _ _ _ _ _ (by decide)),
      (State.feedLost_keeps ..).flag_trans rfl ?_, (State.feedLost_keeps ..).flag_trans rfl ?_⟩
    · rw [State.putFlag_eq, State.flag_put_id _ _ _ _ _ _ (by decide)]
      exact hev.flag_trans rfl hevt
    · rw [State.putFlag_eq, State.flag_put_id _ _ _ _ _ _ (by decide)]
      exact hev.flag_trans rfl hstat
  | false =>
    simp only [Bool.false_eq_true, if_false]
    exact ⟨hev.flag_trans rfl (hok.trans h), hev.flag_trans rfl hevt, hev.flag_trans rfl hstat⟩

/-- The return of the feed changes two flags. -/
theorem State.mainBack_mainOk (s : State) : s.mainBack.mainOk = true ∧ s.mainBack.flag F.AON_SUP_STAT_MAIN_OV = false := by
  unfold State.mainBack
  refine ⟨?_, State.flag_putFlag _ _ _ _ _ (by decide)⟩
  unfold State.mainOk
  rw [State.putFlag_eq, State.flag_put_id _ _ _ _ _ _ (by decide)]
  exact State.flag_putFlag _ _ _ _ _ (by decide)

/-! ### Idle timers, the recorder's domain and the Herd's wake -/

theorem State.tgIdle_tgReq {s : State} {g : Fin 8} (hcfg : s.fld F.AON_PD_CFG_TG_IDLE ≠ 0) (hreq : s.tgReq g = true)
    (hon : s.dom (15 + g) = .on) (hidle : s.groupIdle g = true) (hheld : s.held g = false) : (s.tgIdle g).tgReq g = false := by
  unfold State.tgIdle
  rw [if_pos ⟨hcfg, hreq, hon, hidle, hheld⟩]
  unfold State.tgReq
  rw [State.bit_putBitOf _ _ _ _ _ _ _ g.isLt, if_pos rfl]

theorem State.engIdle_engReq {s : State} {e : Fin 4} (hcfg : s.fld F.AON_PD_CFG_ENG_IDLE ≠ 0) (hreq : s.engReq e = true)
    (hdown : ∀ k ∈ portsOf e, s.lnk k = lnkDown) : (s.engIdle e).engReq e = false := by
  have hall : (portsOf e).all (fun k => s.lnk k == lnkDown) = true := by simpa [List.all_eq_true] using hdown
  unfold State.engIdle
  rw [if_pos ⟨hcfg, hreq, hall⟩]
  refine (State.powerSettle_keeps _).bit_trans rfl ?_
  rw [State.bit_putBitOf _ _ _ _ _ _ _ e.isLt, if_pos rfl]

/-- A gated PD04 is woken by the round timer. -/
theorem State.herdWake_dom {s : State} (hoff : s.dom 4 = .off) (hok : s.gateOk = true) : s.herdWake.dom 4 = .waking := by
  unfold State.herdWake
  rw [if_pos hok]
  set a : State := { s with pow := { s.pow with roundWake := true } } with ha
  have hdom : a.dom 4 = .off := hoff
  have hstay : a.wakeOver = a := by
    unfold State.wakeOver
    exact if_neg (by simp [hdom])
  have hgate : a.gateOk = false := by simp [State.gateOk, ha]
  unfold State.gateSettle
  simp only [hstay, List.foldl_cons, List.foldl_nil, hgate, Bool.false_eq_true, if_false, hdom, if_true]
  split <;> simp [State.setDom_dom_ne]

theorem State.milkWake_bit {s : State} (hdown : s.herdDown = true) (hen : s.flag F.AON_WAKE_CFG_MILK_EN = true) :
    s.milkWake.bit F.AON_WAKE_SRC_SRC 4 = true ∧ (s.dom 4 = .off → s.gateOk = true → s.milkWake.dom 4 = .waking) := by
  unfold State.milkWake
  rw [if_pos (by simp [hdown, hen])]
  refine ⟨?_, fun hoff hok => State.herdWake_dom hoff ?_⟩
  · refine (State.herdWake_keeps _).bit_trans rfl ?_
    unfold State.wakeSrc
    rw [State.bit_putBitOf _ _ _ _ _ _ _ (by decide), if_pos rfl]
  · rw [← hok]
    unfold State.gateOk State.wakeSrc
    rw [State.putBitOf_eq, State.flag_put_id _ _ _ _ _ _ (by decide), State.fld_put_id _ _ _ _ _ _ (by decide),
      State.fld_put_id _ _ _ _ _ _ (by decide)]
    rfl

/-! ### The feed and domain rows -/

/-- Settles O2, row by row: each action sets what the row names, and what follows the action leaves those fields. -/
theorem feedAndDomainRowsTakeEffect : Obligations.FeedAndDomainRowsTakeEffect := by
  unfold Obligations.FeedAndDomainRowsTakeEffect
  refine ⟨fun s hup hok => ⟨_, rfl, ?_⟩, fun s hup => ⟨_, rfl, ?_⟩, fun s hup => ⟨_, rfl, ?_⟩, fun s hup => ⟨_, rfl, ?_⟩,
    fun s g hup hcfg hreq hon hidle hheld => ⟨_, rfl, ?_⟩, fun s e hup hcfg hreq hdown => ⟨_, rfl, ?_⟩,
    fun s hup hon hwant => ⟨_, rfl, ?_⟩, fun s hup hdown hen => ⟨_, rfl, ?_⟩, fun s g hup hon => ⟨_, rfl, ?_⟩⟩
  · obtain ⟨hmain, huv⟩ := State.mainLost_false (s := s.recsIn) hok
    have hend := State.acts_keeps_action (fun a => a.mainLost false) hup
    exact ⟨hend.flag_trans rfl hmain, hend.flag_trans rfl huv⟩
  · obtain ⟨hmain, hevt, hstat⟩ := s.recsIn.mainLost_true
    have hend := State.acts_keeps_action (fun a => a.mainLost true) hup
    exact ⟨hend.flag_trans rfl hmain, hend.flag_trans rfl hevt, hend.flag_trans rfl hstat⟩
  · rw [State.runs_up hup]
    exact ⟨s.mainBack_mainOk.1, s.mainBack_mainOk.2, rfl⟩
  · rw [State.runs_up hup]
    exact ⟨rfl, State.flag_putFlag _ _ _ _ _ (by decide)⟩
  · exact (State.acts_keeps_action (fun a => a.tgIdle g) hup).bit_trans rfl
      (State.tgIdle_tgReq (s := s.recsIn) hcfg hreq hon hidle hheld)
  · exact (State.acts_keeps_action (fun a => a.engIdle e) hup).bit_trans rfl
      (State.engIdle_engReq (s := s.recsIn) hcfg hreq hdown)
  · rw [State.runs_up hup, State.recOff, if_pos ⟨hon, hwant⟩]
    simp
  · rw [State.runs_up hup]
    exact State.milkWake_bit hdown hen
  · rw [State.runs_up hup, State.freqStep]
    exact (congrArg (State.fld · _ _ _) (if_pos hon)).trans (State.fld_put_same _ _ _ _ _)

end Sys2Proof.Machine

/-! PROOFS. Domains that come up and go down, and the qualification of a tile group (03 R55, R62, R66, R81, 04 R86 to R88). -/
namespace Sys2Proof.Machine

/-! ### The Separator and the cartridge's domain -/

theorem State.phaseSettle_corePhase {s : State} (h : 2 ≤ s.fld F.AON_PIN_PHASE_CORE_PHASE) :
    2 ≤ s.phaseSettle.fld F.AON_PIN_PHASE_CORE_PHASE := by
  unfold State.phaseSettle
  rw [((State.computeSettle_keeps _).fld_eq rfl)]
  split_ifs
  · rw [State.fld_put_same]
    decide
  · exact h

theorem State.sepReady_corePhase (s : State) : 2 ≤ s.sepReady.fld F.AON_PIN_PHASE_CORE_PHASE := by
  unfold State.sepReady
  extract_lets s0 s1 p2 s2 s3
  have h2 : s2.fld F.AON_PIN_PHASE_CORE_PHASE = 2 := State.fld_put_same _ _ _ _ _
  have h3 : Keeps (0x100 ||| mask114 ||| mask24 ||| mask235) s2 ((s3.tryCopper 16).tryCopper 17).qualStart :=
    (State.qualStart_keeps _).step rfl <| (State.tryCopper_keeps ..).step rfl <| (State.tryCopper_keeps ..).step rfl <|
      (State.idleCause_keeps ..).step rfl <| (State.portsFresh_keeps _).step rfl (Keeps.refl _ _)
  exact State.phaseSettle_corePhase (by rw [(h3.fld_eq rfl), h2])

theorem State.sepOff_corePhase (s : State) : s.sepOff.fld F.AON_PIN_PHASE_CORE_PHASE = 1 := by
  unfold State.sepOff
  extract_lets s1 v1 s2
  have h2 : s2.fld F.AON_PIN_PHASE_CORE_PHASE = 1 := State.fld_put_same _ _ _ _ _
  have h3 : Keeps (0x102 ||| mask114 ||| mask232) s2 ((s2.qualStop.portsFresh).idleCause fun x => { x with shut := false }).computeSettle :=
    (State.computeSettle_keeps _).step rfl <| (State.idleCause_keeps ..).step rfl <| (State.portsFresh_keeps _).step rfl <|
      (State.qualStop_keeps _).step rfl (Keeps.refl _ _)
  rw [(h3.fld_eq rfl), h2]

theorem State.lscOff_lsc (s : State) : s.lscOff.lsc = { ids := s.lsc.ids } ∧
    s.lscOff.flag F.LSC_STAT_CAR_READY = false ∧ s.lscOff.flag F.LSC_WIN_BUSY = false := by
  unfold State.lscOff
  extract_lets s1 s2
  refine ⟨(State.lenSettle_keeps _).lsc rfl, (State.lenSettle_keeps _).flag_trans rfl ?_,
    (State.lenSettle_keeps _).flag_trans rfl (State.flag_putFlag _ _ _ _ _ (by decide))⟩
  rw [State.putFlag_eq, State.flag_put_id _ _ _ _ _ _ (by decide), State.flag_put_id _ _ _ _ _ _ (by decide),
    State.flag_put_id _ _ _ _ _ _ (by decide)]
  exact State.flag_putFlag _ _ _ _ _ (by decide)

theorem State.domReady_sep {s : State} (h : s.dom 8 = .waking) : s.domReady 8 = s.sepReady.powerSettle := by
  simp [State.domReady, h]

theorem State.domOff_sep {s : State} (h : s.dom 8 = .falling) (hdeps : s.depsOff = true) : s.domOff 8 = s.sepOff.powerSettle := by
  simp [State.domOff, h, hdeps]

theorem State.domOff_lsc {s : State} (h : s.dom 14 = .falling) : s.domOff 14 = s.lscOff.powerSettle := by
  simp [State.domOff, h]

/-- A group that comes up outside a qualification runs at its `SET` frequency. -/
theorem State.groupReady_freq {s : State} {g : Nat} (hheld : s.held g = false) (hrequal : hasBit s.qual.requal g = false) :
    (s.groupReady g).fld F.CLK_TG_FREQ_ACT g = s.setFreq g % 256 := by
  unfold State.groupReady
  extract_lets s1 s2
  have hs1 : s1.qual = s.qual := ((State.blocksReset_keeps ..).qual rfl).trans ((State.setDom_keeps ..).qual rfl)
  have hs2 : s2 = s1 := if_neg (by simp [hs1, hrequal])
  have hh : s2.held g = false := by
    rw [hs2]
    unfold State.held State.qualOf
    rw [hs1]
    exact hheld
  have hf : s2.setFreq g = s.setFreq g := by
    rw [hs2]
    unfold State.setFreq
    rw [((State.blocksReset_keeps (s.setDom (15 + g) .on) (15 + g)).fld_eq rfl)]
    rfl
  rw [hh, hf]
  exact State.fld_put_same _ _ _ _ _

/-- Settles O4: each domain's own transition leaves the field named, and the sequencer, which follows it, keeps that field. -/
theorem domainsComeUpAndGoDown : Obligations.DomainsComeUpAndGoDown := by
  unfold Obligations.DomainsComeUpAndGoDown
  refine ⟨fun s g d hup hd hwake hrequal hheld => ?_, fun s g d hup hd hfall => ?_, fun s hup hwake => ⟨_, exec_domainReady (by decide) s, ?_⟩,
    fun s hup hfall hdeps => ⟨_, exec_domainOff (by decide) s, ?_⟩, fun s hup hfall => ⟨_, exec_domainOff (by decide) s, ?_⟩⟩
  · obtain ⟨t, hexec, hafter⟩ := exec_domainReady_group hd hup hwake
    exact ⟨t, hexec, hafter.fld_trans rfl <| (State.powerSettle_keeps _).fld_trans rfl <|
      State.groupReady_freq (s := s.recsIn) hheld hrequal⟩
  · obtain ⟨t, hexec, hafter⟩ := exec_domainOff_group hd hup hfall
    exact ⟨t, hexec, hafter.fld_trans rfl <| (State.powerSettle_keeps _).fld_trans rfl <| State.fld_put_same _ _ _ _ _⟩
  · have hafter := State.acts_keeps_action (fun a => a.domReady 8) hup
    rw [State.domReady_sep (s := s.recsIn) hwake] at hafter
    exact (State.sepReady_corePhase s.recsIn).trans_eq (((State.powerSettle_keeps _).fld_eq rfl).symm.trans (hafter.fld_eq rfl).symm)
  · have hafter := State.acts_keeps_action (fun a => a.domOff 8) hup
    rw [State.domOff_sep (s := s.recsIn) hfall hdeps] at hafter
    exact hafter.fld_trans rfl ((State.powerSettle_keeps _).fld_trans rfl (State.sepOff_corePhase _))
  · have hafter := State.acts_keeps_action (fun a => a.domOff 14) hup
    rw [State.domOff_lsc (s := s.recsIn) hfall] at hafter
    obtain ⟨hlsc, hready, hbusy⟩ := s.recsIn.lscOff_lsc
    exact ⟨(hafter.lsc rfl).trans (((State.powerSettle_keeps _).lsc rfl).trans hlsc),
      hafter.flag_trans rfl ((State.powerSettle_keeps _).flag_trans rfl hready),
      hafter.flag_trans rfl ((State.powerSettle_keeps _).flag_trans rfl hbusy)⟩

/-! ### Qualification -/

theorem State.groupFail_bit (s : State) (g : Fin 8) : (s.groupFail g).bit F.AON_QUAL_QUAL_FAIL g = true := by
  unfold State.groupFail
  extract_lets s1 q2 s2 s3 s4
  have h1 : s1.bit F.AON_QUAL_QUAL_FAIL g = true := by
    refine (State.setQual_keeps _ _ _).bit_trans rfl ?_
    rw [State.bit_putBitOf _ _ _ _ _ _ _ g.isLt, if_pos rfl]
  have h3 : Keeps mask113 s2 s3 := Keeps.foldl _ (Keeps.refl _ _) fun a t ha => (State.tilEv_keeps ..).step rfl ha
  have h4 : Keeps 1 s3 s4 := Keeps.ite (fun _ => State.setDom_keeps ..) (fun _ => Keeps.refl _ _)
  exact (State.phaseSettle_keeps _).bit_trans rfl <| (State.qualNext_keeps _).bit_trans rfl <| h4.bit_trans rfl <| h3.bit_trans rfl h1

/-- A failing group's QUAL_DONE bits stay as they are (log entry 44). -/
theorem State.groupFail_done (s : State) (g : Nat) : (s.groupFail g).fld F.AON_QUAL_QUAL_DONE = s.fld F.AON_QUAL_QUAL_DONE :=
  ((State.groupFail_keeps s g).fld_eq rfl)

/-- The turn of the next group changes no mark and no Skim group. -/
theorem State.nextGroup_keeps (s : State) : Keeps (mask234 ||| mask233) s s.qualNext.phaseSettle :=
  (State.phaseSettle_keeps _).step rfl ((State.qualNext_keeps _).mono rfl)

section
variable {s : State} {g : Fin 8} {rows cols : Nat} (hst : s.qualOf g = .selftest) (hon : s.dom (15 + g) = .on)
include hst hon

/-- Some enabled tile of the group needs more spare rows or columns than a tile has. -/
theorem State.selftestDone_of_bad (hbad : ∃ j : Fin 8, s.fused.contains (8 * g + j) = false ∧
    (4 < bitField rows (4 * j) 4 ∨ 4 < bitField cols (4 * j) 4)) : s.selftestDone g rows cols = s.groupFail g := by
  obtain ⟨j, hj, hneed⟩ := hbad
  unfold State.selftestDone
  rw [if_pos ⟨hst, hon⟩]
  refine if_pos (List.any_eq_true.mpr ⟨j.val, List.mem_range.mpr j.isLt, ?_⟩)
  simpa only [hj, Bool.not_false, Bool.true_and, Bool.or_eq_true, decide_eq_true_eq] using hneed

theorem State.selftestDone_of_good (hgood : ∀ j : Fin 8, s.fused.contains (8 * g + j) = false →
    bitField rows (4 * j) 4 ≤ 4 ∧ bitField cols (4 * j) 4 ≤ 4) :
    (s.selftestDone g rows cols).fld F.AON_QUAL_QUAL_FAIL = s.fld F.AON_QUAL_QUAL_FAIL ∧
    (s.qual.running = true → s.qual.skimHeld = false → hasBit s.qual.requal g = false → s.qual.done = false →
      (s.selftestDone g rows cols).fld F.AON_QUAL_SKIM_GRP = g) := by
  have hnot : ¬ ((List.range 8).any fun j => !s.fused.contains (8 * g + j) &&
      (4 < bitField rows (4 * j) 4 || 4 < bitField cols (4 * j) 4)) = true := by
    simp only [List.any_eq_true, List.mem_range, not_exists, not_and]
    intro j hj
    cases hf : s.fused.contains (8 * g + j) with
    | true => simp
    | false => simp [hgood ⟨j, hj⟩ hf]
  unfold State.selftestDone
  rw [if_pos ⟨hst, hon⟩]
  extract_lets need soft q1 s1 s2
  rw [if_neg hnot]
  refine ⟨?_, fun hrun hheld hreq hdone => ?_⟩
  · split
    · exact (State.nextGroup_keeps _).fld_trans rfl (State.fld_put_id _ _ _ _ _ _ (by decide))
    · rfl
  · rw [if_pos (by simp [s1, q1, hrun, hheld, hreq, hdone])]
    refine (State.nextGroup_keeps _).fld_trans rfl ((State.fld_put_same _ _ _ _ _).trans (Nat.mod_eq_of_lt ?_))
    exact g.isLt
end

section
variable {s : State} {g : Fin 8} (hst : s.qualOf g = .ramping) (hon : s.dom (15 + g) = .on)
include hst hon

theorem State.rampEnd_false : s.rampEnd g false = s.groupFail g := by
  unfold State.rampEnd
  rw [if_pos ⟨hst, hon⟩]
  exact if_neg (by decide)

theorem State.rampEnd_true : (s.rampEnd g true).bit F.AON_QUAL_QUAL_DONE g = true ∧
    (s.rampEnd g true).fld F.AON_QUAL_QUAL_FAIL = s.fld F.AON_QUAL_QUAL_FAIL := by
  unfold State.rampEnd
  rw [if_pos ⟨hst, hon⟩, if_pos rfl]
  extract_lets s1 q2 s2
  have hend : Keeps (1 ||| mask234 ||| mask233) s2 ((s2.freqAim g (s2.setFreq g)).qualNext).phaseSettle :=
    (State.phaseSettle_keeps _).step rfl <| (State.qualNext_keeps _).step rfl <| (State.freqAim_keeps ..).step rfl (Keeps.refl _ _)
  constructor
  · refine hend.bit_trans rfl ((State.bit_put_id _ _ _ _ _ _ _ (by decide)).trans ((State.setQual_keeps _ _ _).bit_trans rfl ?_))
    rw [State.bit_putBitOf _ _ _ _ _ _ _ g.isLt, if_pos rfl]
  · refine hend.fld_trans rfl ((State.fld_put_id _ _ _ _ _ _ (by decide)).trans ((State.setQual_keeps _ _ _).fld_trans rfl ?_))
    rw [State.putBitOf_eq]
    exact State.fld_put_id _ _ _ _ _ _ (by decide)
end

theorem exec_qualSelftestDone {s : State} (hup : s.up = true) (g : Fin 8) (rows cols : BitVec 32) :
    ∃ t, exec (.qualSelftestDone g rows cols) s = .next t ∧
      Keeps (mask4 ||| mask244) (s.recsIn.selftestDone g rows.toNat cols.toNat) t :=
  ⟨_, rfl, (State.acts_keeps_action (fun a => (a.selftestDone g rows.toNat cols.toNat).powerSettle) hup).step rfl
    ((State.powerSettle_keeps _).mono rfl)⟩

theorem exec_qualRampDone {s : State} (hup : s.up = true) (g : Fin 8) (pass : Bool) :
    ∃ t, exec (.qualRampDone g pass) s = .next t ∧ Keeps (mask4 ||| mask244) (s.recsIn.rampEnd g pass) t :=
  ⟨_, rfl, (State.acts_keeps_action (fun a => (a.rampEnd g pass).powerSettle) hup).step rfl ((State.powerSettle_keeps _).mono rfl)⟩

/-- Settles O5: a self-test or ramp sets its mark, and what follows it (the next group's turn, the sequencer) leaves the marks. -/
theorem qualificationRowsTakeEffect : Obligations.QualificationRowsTakeEffect := by
  unfold Obligations.QualificationRowsTakeEffect
  refine ⟨fun s g rows cols hup hst hon hbad => ?_, fun s g rows cols hup hst hon hgood => ?_,
    fun s g hup hst hon => ?_, fun s g hup hst hon => ?_⟩
  · obtain ⟨t, hexec, hafter⟩ := exec_qualSelftestDone hup g rows cols
    rw [State.selftestDone_of_bad (s := s.recsIn) hst hon hbad] at hafter
    exact ⟨t, hexec, hafter.bit_trans rfl (State.groupFail_bit _ g)⟩
  · obtain ⟨t, hexec, hafter⟩ := exec_qualSelftestDone hup g rows cols
    obtain ⟨hfail, hskim⟩ := State.selftestDone_of_good (s := s.recsIn) hst hon hgood
    exact ⟨t, hexec, hafter.fld_trans rfl hfail, fun hrun hheld hreq hdone => hafter.fld_trans rfl (hskim hrun hheld hreq hdone)⟩
  · obtain ⟨t, hexec, hafter⟩ := exec_qualRampDone hup g true
    obtain ⟨hdone, hfail⟩ := State.rampEnd_true (s := s.recsIn) hst hon
    exact ⟨t, hexec, hafter.bit_trans rfl hdone, hafter.fld_trans rfl hfail⟩
  · obtain ⟨t, hexec, hafter⟩ := exec_qualRampDone hup g false
    rw [State.rampEnd_false (s := s.recsIn) hst hon] at hafter
    exact ⟨t, hexec, hafter.bit_trans rfl (State.groupFail_bit _ g), hafter.fld_trans rfl (State.groupFail_done _ g)⟩

end Sys2Proof.Machine

/-! PROOFS. Pins (01 R21, 02 R41, R49 to R54): the level shows, and what it brings about leaves it. -/
namespace Sys2Proof.Machine

theorem State.atPins_keeps_action (s : State) (f : State → State) : Keeps mask4 (f s.recsIn) (s.atPins f) := by
  unfold State.atPins
  extract_lets t
  exact Keeps.ite (fun _ => (State.recsOut_keeps _).step rfl (State.serviced_keeps rfl (Keeps.refl _ _))) (fun _ => Keeps.refl _ _)

theorem State.svcKey_shows (s : State) (on : Bool) : (s.svcKey on).flag F.AON_FRONT_STAT_SVC_KEY = on := by
  have hend : Keeps (mask8 ||| mask308) (s.putFlag F.AON_FRONT_STAT_SVC_KEY on) (s.svcKey on) := by
    unfold State.svcKey
    extract_lets was s1 s2
    have hreport : Keeps (mask8 ||| mask308) s1 s2 := (State.frontReport_keeps ..).mono rfl
    exact Keeps.ite (fun _ => Keeps.ite (fun _ => (State.safetyCommit_keeps _).step rfl hreport) fun _ => hreport) fun _ => Keeps.refl _ _
  exact hend.flag_trans rfl (State.flag_putFlag _ _ _ _ _ (by decide))

/-- What a wake source asks for. -/
theorem State.woken_keeps (s : State) (n : Nat) (a b : Bool) (e g : Nat) :
    Keeps (mask223 ||| mask34 ||| mask244) s (((s.wakeSrc n).request a b e g).powerSettle) :=
  (State.powerSettle_keeps _).step rfl <| (State.request_keeps ..).step rfl <| (State.wakeSrc_keeps ..).step rfl (Keeps.refl _ _)

theorem State.wakeIn_shows (s : State) (on : Bool) : (s.wakeIn on).flag F.AON_FRONT_STAT_WAKE_IN = on := by
  have hend : Keeps (mask8 ||| mask223 ||| mask34 ||| mask244) (s.putFlag F.AON_FRONT_STAT_WAKE_IN on) (s.wakeIn on) := by
    unfold State.wakeIn
    extract_lets s1 s2
    have hreport : Keeps (mask8 ||| mask223 ||| mask34 ||| mask244) s1 s2 := (State.frontReport_keeps ..).mono rfl
    exact Keeps.ite (fun _ => Keeps.ite (fun _ => (State.woken_keeps ..).step rfl hreport) fun _ => hreport) fun _ => Keeps.refl _ _
  exact hend.flag_trans rfl (State.flag_putFlag _ _ _ _ _ (by decide))

theorem State.lightChange_shows (s : State) (p : Fin 16) (on : Bool) : (s.lightChange p on).bit F.AON_FRONT_STAT_LIGHT p = on := by
  have hend : Keeps (mask8 ||| mask223 ||| mask34 ||| mask244) (s.putBitOf F.AON_FRONT_STAT_LIGHT p on) (s.lightChange p on) := by
    unfold State.lightChange
    extract_lets s1 s2
    have hreport : Keeps (mask8 ||| mask223 ||| mask34 ||| mask244) s1 s2 := (State.frontReport_keeps ..).mono rfl
    exact Keeps.ite (fun _ => Keeps.ite (fun _ => (State.woken_keeps ..).step rfl hreport) fun _ => hreport) fun _ => Keeps.refl _ _
  refine hend.bit_trans rfl ?_
  rw [State.bit_putBitOf _ _ _ _ _ _ _ p.isLt, if_pos rfl]

theorem State.lscPres_shows (s : State) (mated : Bool) : (s.lscPres mated).flag F.LSC_STAT_PRES = mated := by
  unfold State.lscPres
  extract_lets was l0 s0 s1 s2 v2 p2 latch s3
  have h1 : s1.flag F.LSC_STAT_PRES = mated := State.flag_putFlag _ _ _ _ _ (by decide)
  have h2 : s2.flag F.LSC_STAT_PRES = mated := (State.frontReport_keeps ..).flag_trans rfl h1
  have h3 : s3.flag F.LSC_STAT_PRES = mated := (State.lasersOff_keeps ..).flag_trans rfl h2
  split_ifs
  · exact h2
  · refine (State.lenSettle_keeps _).flag_trans rfl ?_
    exact (State.flag_put_id _ _ _ _ _ _ (by decide)).trans h2
  · exact (State.powerSettle_keeps _).flag_trans rfl ((State.lscEv_keeps ..).flag_trans rfl h3)
  · exact (State.powerSettle_keeps _).flag_trans rfl h3
  · exact h2
  · exact h1

theorem State.fieldConn_shows (s : State) (mated : Bool) : (s.fieldConn mated).flag F.AON_CONN_STAT_FLD_PRES = mated := by
  unfold State.fieldConn
  extract_lets s1 s2
  have h1 : s1.flag F.AON_CONN_STAT_FLD_PRES = mated := State.flag_putFlag _ _ _ _ _ (by decide)
  have h2 : s2.flag F.AON_CONN_STAT_FLD_PRES = mated :=
    (State.flag_put_id _ _ _ _ _ _ (by decide)).trans ((State.flag_put_id _ _ _ _ _ _ (by decide)).trans h1)
  have hgone : Keeps (mask294 ||| mask293 ||| mask195) s2 (s2.runs fun a =>
      (((List.range 8).foldl (fun b n => b.siTrack n) a).rindSettle).fieldGone) :=
    State.runs_keeps rfl (Keeps.refl _ _) fun t ht => (State.fieldGone_keeps _).step rfl <| (State.rindSettle_keeps ..).step rfl <|
      Keeps.foldl _ ht fun a n ha => (State.siTrack_keeps ..).step rfl ha
  split_ifs
  · exact h1
  · exact hgone.flag_trans rfl h2

theorem State.harness_shows (s : State) (hpres bjl : Bool) : (s.harness hpres bjl).flag F.AON_CONN_STAT_HPRES = hpres ∧
    (s.harness hpres bjl).flag F.AON_CONN_STAT_BJL_PRES = bjl := by
  unfold State.harness
  extract_lets s1
  have hlost : Keeps mask87 s1 (s1.runs fun a => if hpres && bjl then a else a.coilsLost 6) :=
    State.runs_keeps rfl (Keeps.refl _ _) fun t ht => Keeps.ite (fun _ => ht) fun _ => (State.coilsLost_keeps ..).step rfl ht
  refine ⟨hlost.flag_trans rfl ?_, hlost.flag_trans rfl (State.flag_putFlag _ _ _ _ _ (by decide))⟩
  exact (State.flag_put_id _ _ _ _ _ _ (by decide)).trans (State.flag_putFlag _ _ _ _ _ (by decide))

theorem State.cableChange_shows (s : State) (c : Fin 2) (present : Bool) :
    (s.cableChange c present).bit F.AON_CONN_STAT_CPRES c = present := by
  unfold State.cableChange
  extract_lets s1
  have htry : Keeps mask24 s1 (s1.runs fun a => if present then a.lmClear (16 + c) |>.tryCopper (16 + c) else a) :=
    State.runs_keeps rfl (Keeps.refl _ _) fun t ht =>
      Keeps.ite (fun _ => (State.tryCopper_keeps ..).step rfl ((State.lmClear_keeps ..).step rfl ht)) fun _ => ht
  refine htry.bit_trans rfl ?_
  rw [State.bit_putBitOf _ _ _ _ _ _ _ c.isLt, if_pos rfl]

theorem State.fltWire_shows {s : State} {read : BitVec 2} (hne : read.toNat ≠ s.pairDriven)
    (hwire : s.flag F.AON_CONN_STAT_FLT_WIRE = false) : (s.fltWire read.toNat).flag F.AON_CONN_STAT_FLT_WIRE = true ∧
    (s.fltWire read.toNat).fld F.AON_CONN_STAT_FLT_READ = read.toNat := by
  unfold State.fltWire
  rw [if_neg hne, if_neg (by simp [hwire])]
  exact ⟨(State.aonEv_keeps ..).flag_trans rfl <| (State.flag_put_id _ _ _ _ _ _ (by decide)).trans <|
      State.flag_putFlag _ _ _ _ _ (by decide),
    (State.aonEv_keeps ..).fld_trans rfl (State.fld_put _ _ read.isLt _ _)⟩

theorem State.fltWireEnd_shows {s : State} {read : BitVec 2} (heq : read.toNat = s.pairDriven) :
    (s.fltWireEnd read.toNat).flag F.AON_CONN_STAT_FLT_WIRE = false ∧
    (s.fltWireEnd read.toNat).fld F.AON_CONN_STAT_FLT_READ = read.toNat := by
  unfold State.fltWireEnd
  rw [if_pos heq]
  exact ⟨(State.flag_put_id _ _ _ _ _ _ (by decide)).trans (State.flag_putFlag _ _ _ _ _ (by decide)),
    State.fld_put _ _ read.isLt _ _⟩

/-- Settles O8: each row shows the level in its field, and nothing that follows writes the field again. -/
theorem pinRowsTakeEffect : Obligations.PinRowsTakeEffect := by
  unfold Obligations.PinRowsTakeEffect
  refine ⟨fun s on => ⟨_, rfl, ?_⟩, fun s on => ⟨_, rfl, ?_⟩, fun s p on => ⟨_, rfl, ?_⟩, fun s mated => ⟨_, rfl, ?_⟩,
    fun s mated => ⟨_, rfl, ?_⟩, fun s hpres bjl => ⟨_, rfl, ?_⟩, fun s c present => ⟨_, rfl, s.cableChange_shows c present⟩,
    fun s nid => ⟨_, rfl, rfl, rfl⟩, fun s read hup hne hwire => ⟨_, rfl, ?_⟩, fun s read hup heq => ⟨_, rfl, ?_⟩⟩
  · exact (s.atPins_keeps_action fun a => a.svcKey on).flag_trans rfl (s.recsIn.svcKey_shows on)
  · exact (s.atPins_keeps_action fun a => a.wakeIn on).flag_trans rfl (s.recsIn.wakeIn_shows on)
  · exact (s.atPins_keeps_action fun a => a.lightChange p on).bit_trans rfl (s.recsIn.lightChange_shows p on)
  · exact (s.atPins_keeps_action fun a => a.lscPres mated).flag_trans rfl (s.recsIn.lscPres_shows mated)
  · exact (s.atPins_keeps_action fun a => a.fieldConn mated).flag_trans rfl (s.recsIn.fieldConn_shows mated)
  · have hend := s.atPins_keeps_action fun a => a.harness hpres bjl
    obtain ⟨h1, h2⟩ := s.recsIn.harness_shows hpres bjl
    exact ⟨hend.flag_trans rfl h1, hend.flag_trans rfl h2⟩
  · have hend := State.offers_keeps_action (fun a => a.fltWire read.toNat) hup
    obtain ⟨h1, h2⟩ := State.fltWire_shows (s := s.recsIn) hne hwire
    exact ⟨hend.flag_trans rfl h1, hend.fld_trans rfl h2⟩
  · rw [State.runs_up hup]
    exact State.fltWireEnd_shows heq

end Sys2Proof.Machine

/-! PROOFS. Frames that join no queue (23 R620). -/
namespace Sys2Proof.Machine

theorem State.recsOut_of_fresh {s : State} (h : s.rcd.fresh = 0) : s.recsOut = s := if_pos h

/-- An action that offers no record is all that its row does. -/
theorem State.offers_of_fresh {s t : State} {f : State → State} (hup : s.up = true) (hact : f s.recsIn = t)
    (hfresh : t.rcd.fresh = 0) : s.offers f = t := by
  unfold State.offers
  simp only [hup, if_true, hact]
  exact State.recsOut_of_fresh hfresh

theorem exec_frameReceive {dst src : BitVec 48} {et : BitVec 16} {b : Bytes} {fcs : BitVec 32} (hfits : payloadFits b = true) (s : State) :
    exec (.frameReceive dst src et b fcs) s =
      .next (s.offers fun a => a.frameIn dst.toNat src.toNat et.toNat b fcs.toNat) := by
  change wfElse (payloadFits b) _ _ = _
  rw [hfits]
  rfl

section
variable {s : State} {b : Bytes} {src : Nat}

theorem State.frameIn_of_good {dst et fcs : Nat} (hnode : s.nodeUp = true) (hmac : s.macAccepts dst src et b fcs = true)
    (hlen : 16 ≤ b.length) (hver : (rawFrame b).ver / 16 = 1) (hform : (rawFrame b).malformed b.length = false) :
    s.frameIn dst src et b fcs = s.goodFrame (rawFrame b) b src := by
  unfold State.frameIn
  simp [hnode, hmac, Nat.not_lt.mpr hlen, hver, hform]

/-- An authentic frame whose SEQ waits undecided is only counted. -/
theorem State.goodFrame_undecided (hauth : (rawFrame b).auth = true) (hkey : s.authentic (rawFrame b) b = true)
    (hwait : s.judge (rawFrame b).host (rawFrame b).seq = .undecided) :
    s.goodFrame (rawFrame b) b src = s.count F.MGT_CNT_RETRY := by
  unfold State.goodFrame
  extract_lets m o f x
  rw [if_pos hauth, if_pos hkey]
  have haccept : x = (s.count F.MGT_CNT_RETRY, none) := by
    change s.accept f = _
    unfold State.accept
    rw [show s.judge f.host f.seq = .undecided from hwait]
    rfl
  rw [haccept]

end

/-- Settles O58: such a frame only counts as a retry, and offers no record. -/
theorem duplicateOfAWaitingFrameIsDiscarded : Obligations.DuplicateOfAWaitingFrameIsDiscarded := by
  unfold Obligations.DuplicateOfAWaitingFrameIsDiscarded
  intro s dst src et b fcs hfits hup hnode hmac hlen hver hform hauth hkey hwait _ _
  have hin : s.recsIn.frameIn dst.toNat src.toNat et.toNat b fcs.toNat = s.recsIn.count F.MGT_CNT_RETRY :=
    (State.frameIn_of_good (s := s.recsIn) hnode hmac hlen hver hform).trans
      (State.goodFrame_undecided (s := s.recsIn) hauth hkey hwait)
  have hcount := State.offers_of_fresh (f := fun a => a.frameIn dst.toNat src.toNat et.toNat b fcs.toNat) hup hin rfl
  exact ⟨_, exec_frameReceive hfits s, congrArg (fun t => t.mgt.rxq) hcount, congrArg (fun t => t.mgt.txq) hcount⟩

end Sys2Proof.Machine

/-! PROOFS. Orders of a Steward whose lease runs out in their tick (23 R625, 05 R120). -/
namespace Sys2Proof.Machine

/-! ### The end of a lease leaves what was loaded (05 R116) -/

/-- What the Steward's loads and its power share left: the sets that wait for their round, the reserve and the pending safety record. -/
def State.loads (s : State) : Option Limits × Option Model × Nat × Option Bytes :=
  (s.est.limNext, s.est.modelNext, s.gov.reserve, s.rnd.pend)

theorem Keeps.loads {M : Nat} {s t : State} (h : Keeps M s t) (hM : (!M.testBit 18 && !M.testBit 21 && !M.testBit 24) = true) :
    t.loads = s.loads := by
  simp only [Bool.and_eq_true, Bool.not_eq_true'] at hM
  obtain ⟨⟨hgov, hest⟩, hrnd⟩ := hM
  unfold State.loads
  rw [h.gov hgov, h.est hest, h.rnd hrnd]

theorem Keeps.loads_trans {M : Nat} {s t : State} {v} (h : Keeps M s t)
    (hM : (!M.testBit 18 && !M.testBit 21 && !M.testBit 24) = true) (hs : s.loads = v) : t.loads = v := (h.loads hM).trans hs

theorem State.estOpened_loads (s : State) (cause : Nat) : (s.estOpened cause).loads = s.loads := by
  unfold State.estOpened
  extract_lets st
  split
  · rfl
  · split <;> rfl

theorem State.isolate_loads (s : State) (cause fid : Nat) (all : Bool) : (s.isolate cause fid all).loads = s.loads := by
  unfold State.isolate
  extract_lets a runs any x s1 c2 s2 s3 s4
  have h1 : s1.loads = s.loads := (State.openCoils_keeps ..).loads_trans rfl ((State.declareShadow_keeps ..).loads rfl)
  have h3 : s3.loads = s.loads := (State.estOpened_loads _ _).trans h1
  have h4 : s4.loads = s.loads := by
    unfold s4
    split
    · exact (State.seqEnd_keeps _ _).loads_trans rfl h3
    · exact h3
  have hassist : Keeps (mask5 ||| mask55) s4 (s4.withSvc fun a => a.assistSettle) :=
    State.withSvc_keeps rfl (Keeps.refl _ _) fun t ht => (State.assistSettle_keeps _).step rfl ht
  exact hassist.loads_trans rfl h4

theorem State.isolateWait_loads (s : State) (cause fid : Nat) : (s.isolateWait cause fid).loads = s.loads := by
  unfold State.isolateWait
  split_ifs
  · rfl
  · rfl
  · exact s.isolate_loads cause fid false

theorem State.waitTick_loads (s : State) : s.waitTick.loads = s.loads := by
  unfold State.waitTick
  split
  · split_ifs
    · exact s.isolate_loads _ _ false
    · exact State.isolate_loads _ _ _ false
    · rfl
  · rfl

theorem State.leaseDefaults_loads (s : State) : s.leaseDefaults.loads = s.loads := by
  unfold State.leaseDefaults
  split
  · extract_lets l1 s1 g2 s2 s3 s4
    have h3 : s3.loads = s.loads := by
      unfold s3
      split
      · exact (State.waitTick_loads _).trans (State.isolateWait_loads _ _ _)
      · rfl
    have h4 : s4.loads = s.loads := by
      unfold s4
      split
      · exact (State.lswOff_keeps _ _).loads_trans rfl h3
      · exact h3
    split_ifs
    · rfl
    · exact (State.loopsFallback_keeps _).loads_trans rfl h4
    · exact h4
  · rfl

/-- What follows the expiry of a lease leaves it free. -/
theorem State.leaseDefaults_held (s : State) : s.leaseDefaults.lease.held = s.lease.held := by
  unfold State.leaseDefaults
  split
  · extract_lets l1 s1 g2 s2 s3 s4
    have h3 : Keeps mask88 s2 s3 := Keeps.ite (fun _ => (State.waitTick_keeps _).step rfl ((State.isolateWait_keeps ..).mono rfl)) (fun _ => Keeps.refl _ _)
    have h4 : Keeps (mask88 ||| mask169) s2 s4 := Keeps.ite (fun _ => (State.lswOff_keeps ..).step rfl (h3.mono rfl)) (fun _ => h3.mono rfl)
    split_ifs
    · rfl
    · refine (congrArg Lease.held (((State.loopsFallback_keeps _).lease rfl).trans (h4.lease rfl))).trans ?_
      rfl
    · refine (congrArg Lease.held (h4.lease rfl)).trans ?_
      rfl
  · rfl

theorem State.leaseEnd_held (s : State) (ev : Nat) : (s.leaseEnd ev).lease.held = false := by
  unfold State.leaseEnd State.leaseReport
  extract_lets h s1 v e
  exact congrArg Lease.held (((State.notify_keeps ..).lease rfl).trans ((State.offer_keeps ..).lease rfl))

theorem State.leaseEnd_loads (s : State) (ev : Nat) : (s.leaseEnd ev).loads = s.loads := ((State.leaseEnd_keeps s ev).loads rfl)

/-- The state in which the lease has run out and the defaults apply. -/
def State.leaseGone (s : State) : State := (s.leaseEnd 3).leaseDefaults

theorem State.leaseGone_held (s : State) : s.leaseGone.lease.held = false :=
  (State.leaseDefaults_held _).trans (State.leaseEnd_held _ _)

theorem State.leaseGone_loads (s : State) : s.leaseGone.loads = s.loads :=
  (State.leaseDefaults_loads _).trans (State.leaseEnd_loads _ _)

theorem State.leaseGone_keeps (s : State) : Keeps (mask357 ||| mask358) s s.leaseGone :=
  (State.leaseDefaults_keeps _).step rfl ((State.leaseEnd_keeps _ _).mono rfl)

/-! ### The decision -/

section Sole
variable {s : State} {i : Item} (hplain : i.f.order.Plain)
include hplain

theorem State.keepsLease_other : s.keepsLease i = false := by
  have hlease := hplain.lease
  unfold State.keepsLease
  split
  next e => rw [e] at hlease; cases hlease
  next e => rw [e] at hlease; cases hlease
  next => exact Bool.and_false _

/-- Steps 1 to 4 of R120 in the tick of the expiry. -/
theorem decideSteps_late (hstored : i.f.stored = none) (hpre : s.preAns i.f.host i.f.order = none) (hover : s.leaseOver = true) :
    decideSteps s [i] = decideOrders (s.leaseGone, []) [i] := by
  have hend : decideExpiry (s, []) [i] = (s.leaseEnd 3, []) := by
    simp [decideExpiry, hover, State.keepsLease_other hplain]
  simp [decideSteps, decidePre_passes (w := (s, [])) hstored hplain.wake hpre, live_sole hstored,
    decideRelease_other hplain.lease, hend, decideClaims_other hplain.lease,
    decideRenew_other hplain.lease, hplain.read, State.leaseGone]

/-- An order that is not admitted is answered, and nothing else comes of it. -/
theorem decideOrders_refused {a : Ans} (ha : s.admitAns i.f.host (s.isSteward i.f.host) i.f.order = some a) :
    decideOrders (s, []) [i] = (s, [(i.ix, a)]) := by
  have hnone : s.arbLast [] = s := by
    unfold State.arbLast
    exact List.foldlRecOn (motive := (· = s)) _ _ rfl fun b hb r _ => hb
  simp [decideOrders, hplain.lease, hplain.read, decideAdmit, ha, hnone]

end Sole

/-- An order for the Steward alone is plain. -/
theorem Order.plain_of_steward {o : Order} (h : stewardTyp (orderTyp o) = true) (hstring : stringOrder false o = false) : o.Plain := by
  have htyp : orderTyp o ∈ [0x19, 0x23, 0x28, 0x29, 0x2A, 0x30] := by
    simpa [stewardTyp, or_assoc] using h
  have hall : ∀ t ∈ [0x19, 0x23, 0x28, 0x29, 0x2A, 0x30], leaseTyp t = false ∧ readTyp t = false ∧ t ≠ 1 ∧ t ≠ 0x18 := by decide
  obtain ⟨hlease, hread, hhello, hwake⟩ := hall _ htyp
  exact ⟨hlease, hread, hhello, hwake, hstring⟩

section Late
variable {s : State} {f : Frame} (hplain : f.order.Plain) (hstored : f.stored = none)
  (hsteward : stewardTyp (orderTyp f.order) = true)
include hplain hstored hsteward

/-- An order for the Steward alone that comes in the tick of the expiry is refused NOT_STEWARD. -/
theorem State.decide_late (hpre : s.preAns f.host f.order = none) (hover : s.leaseOver = true) :
    Replied f { status := 3, reason := 4 } s.leaseGone (s.decide [f]) := by
  have hnot : s.leaseGone.isSteward f.host = false := by simp [State.isSteward, State.leaseGone_held]
  have hadmit : s.leaseGone.admitAns f.host (s.leaseGone.isSteward f.host) f.order = some { status := 3, reason := 4 } := by
    unfold State.admitAns
    exact if_pos (by simp [hsteward, hnot])
  have hsteps : decideSteps s [⟨0, f⟩] = (s.leaseGone, [(0, { status := 3, reason := 4 })]) :=
    (decideSteps_late (i := ⟨0, f⟩) hplain hstored hpre hover).trans (decideOrders_refused (i := ⟨0, f⟩) hplain hadmit)
  have hdecide : s.decide [f] =
      (sendReply [(0, { status := 3, reason := 4 })] s.leaseGone ⟨0, f⟩).keysApply.powerSettle.gateSettle := by
    simp [State.decide, items, hsteps, helloApply_other (i := ⟨0, f⟩) hplain.hello]
  rw [hdecide]
  exact ((sendReply_sole hstored).step rfl rfl (State.powerSettle_keeps _)).step rfl rfl (State.gateSettle_keeps _)

end Late

/-! ### The rows -/

theorem State.mail_of_hearsLate {s : State} {h : Hdr} {o : Order} (hh : s.hearsLate h o) :
    s.mail h o = (s.heard h).decide [s.mailFrame h o] := by
  have hkey : (s.repliesLeave.keyOf h.host).isEmpty = false := hh.key
  have hnew : s.repliesLeave.judge h.host h.seq.toNat = .new := hh.new
  have hroom : s.repliesLeave.mailRoom h.host = true := by
    have hall : s.repliesLeave.mgt.rxq.length < 64 := hh.room
    have hhost : (s.repliesLeave.mgt.rxq.filter fun f => f.host == h.host.val).length < 16 := hh.roomHost
    simp [State.mailRoom, hall, hhost, show s.repliesLeave.mgt.txq = [] from rfl]
  have haccept : s.repliesLeave.accept (s.mailFrame h o) = (s.heard h, some (s.mailFrame h o)) := by
    unfold State.accept
    exact (congrArg (s.repliesLeave.acceptAs (s.mailFrame h o)) hnew).trans (if_pos hroom)
  simp only [State.mailFrame] at haccept ⊢
  simp [State.mail, State.mailAt, hh.node, hkey, haccept]

/-- A message for the Steward alone that is heard as the lease runs out: refused, and what was loaded stays. -/
theorem State.acts_mail_late {s : State} {h : Hdr} {o : Order} (hsteward : stewardTyp (orderTyp o) = true) (hstring : stringOrder false o = false)
    (hh : s.hearsLate h o) : (s.acts fun a => a.mail h o).answers h 3 4 ∧ (s.acts fun a => a.mail h o).lease.held = false ∧
      (s.acts fun a => a.mail h o).loads = s.loads := by
  have hheard := s.recsIn.heard_keeps h
  have hmail : s.recsIn.mail h o = (s.recsIn.heard h).decide [s.recsIn.mailFrame h o] :=
    State.mail_of_hearsLate ⟨hh.up, hh.node, hh.key, hh.new, hh.room, hh.roomHost, hh.pre, hh.ovr, hh.kept⟩
  have hreplied := State.decide_late (s := s.recsIn.heard h) (f := s.recsIn.mailFrame h o)
    (Order.plain_of_steward hsteward hstring) rfl hsteward
    ((s.recsIn.heard_preAns h o).trans hh.pre) ((s.recsIn.heard_leaseOver h).trans hh.ovr)
  rw [← hmail] at hreplied
  have hrow : Replied _ _ (s.recsIn.heard h).leaseGone (s.acts fun a => a.mail h o) :=
    hreplied.step rfl rfl (State.acts_keeps_action (fun a => a.mail h o) hh.up)
  have hgone := (s.recsIn.heard h).leaseGone_keeps
  refine ⟨hrow.answers ?_ ?_, ?_, ?_⟩
  · exact (hgone.nodeUp rfl rfl rfl).trans ((hheard.nodeUp rfl rfl rfl).trans hh.node)
  · exact (hgone.txq rfl).trans (s.recsIn.heard_txq h)
  · exact (congrArg Lease.held (hrow.keeps.lease rfl)).trans (State.leaseGone_held _)
  · exact hrow.keeps.loads_trans rfl ((State.leaseGone_loads _).trans (hheard.loads rfl))

/-- A share out of range is a malformed message of the same type. -/
theorem orderTyp_mkShare (p r : Nat) : orderTyp (mkShare p r) = 0x23 ∧ stringOrder false (mkShare p r) = false := by
  unfold mkShare
  split <;> exact ⟨rfl, rfl⟩

/-- Settles O59: such an order is decided after the lease is gone, so it is refused NOT_STEWARD and never carried out. -/
theorem lateMessagesOfTheStewardAreRefused : Obligations.LateMessagesOfTheStewardAreRefused := by
  unfold Obligations.LateMessagesOfTheStewardAreRefused
  refine ⟨fun s h p r _ hh => ?_, fun s h b hfits _ => ⟨fun hh => ?_, fun hh => ?_, fun hh => ?_⟩, fun s h code inst _ _ hh => ?_⟩
  · obtain ⟨hans, hheld, hloads⟩ := State.acts_mail_late (by rw [(orderTyp_mkShare _ _).1]; rfl) (orderTyp_mkShare _ _).2 hh
    exact ⟨_, rfl, hans, hheld, congrArg (·.2.2.1) hloads⟩
  · obtain ⟨hans, hheld, hloads⟩ := State.acts_mail_late rfl rfl hh
    exact ⟨_, if_pos hfits, hans, hheld, congrArg (·.1) hloads⟩
  · obtain ⟨hans, hheld, hloads⟩ := State.acts_mail_late rfl rfl hh
    exact ⟨_, if_pos hfits, hans, hheld, congrArg (·.2.1) hloads⟩
  · obtain ⟨hans, hheld, hloads⟩ := State.acts_mail_late rfl rfl hh
    exact ⟨_, if_pos hfits, hans, hheld, congrArg (·.2.2.2) hloads⟩
  · obtain ⟨hans, hheld, -⟩ := State.acts_mail_late rfl rfl hh
    exact ⟨_, rfl, hans, hheld⟩

end Sys2Proof.Machine

/-! PROOFS. Words with an opcode that Table 12-1 does not list (11 R274, 12 R309). -/
namespace Sys2Proof.Machine

section
variable {s : State} {t i : Nat} {e : PEnt}

theorem wordExc_unknown (h : wOpc e.word ∉ opcodes) (owned : Nat → Bool) (n : Nat) : wordExc e owned n = xOPCODE := by
  unfold wordExc
  exact if_pos (by simp [h])

/-- The later exceptions of a word have other codes. -/
theorem wordExc_known (h : wOpc e.word ∈ opcodes) (owned : Nat → Bool) (n : Nat) : wordExc e owned n ≠ xOPCODE := by
  unfold wordExc
  extract_lets w o p
  rw [if_neg (by simpa [o, w] using h)]
  split_ifs <;> decide

/-- The head of the control queue with an unknown opcode ends with OPCODE. -/
theorem State.headRes_unknown (hlive : s.tileLive t = true) (hhead : (s.tile t).head .control = some i)
    (hplace : (s.tile t).ents[i]? = some e) (htaken : e.taken = false) (hready : (s.tile t).ready e.word = true)
    (hclean : ((s.tile t).consume e.word).2 = false) (hfirst : (s.tile t).outrun i e = false) (hopc : wOpc e.word ∉ opcodes)
    (dyn : State → Nat → PEnt → Dyn) :
    s.headRes t .control isNop dyn = .ends ((s.tile t).consume e.word).1 i xOPCODE := by
  have hnop : isNop (wOpc e.word) = true := by simp [isNop, hopc]
  have hbar : wOpc e.word ≠ oBAR := fun h => hopc (h ▸ by decide)
  have hcode : xOPCODE ≠ 0 := by decide
  unfold State.headRes
  simp only [hhead, hplace, hnop, hlive, htaken, hready, hfirst, wordExc_unknown hopc, if_neg hbar]
  simp [hclean, hcode]

end

/-- Settles O56: the word's exceptions are looked at before its conditions, and an unknown opcode is the first of them. -/
theorem unknownOpcodesRaiseOPCODE : Obligations.UnknownOpcodesRaiseOPCODE := by
  unfold Obligations.UnknownOpcodesRaiseOPCODE
  refine ⟨?issue, fun s t e h => wordExc_unknown h _ _, fun s t e h => wordExc_known h _ _⟩
  intro s t i e hup hlive hhead hplace htaken hready hclean hfirst hopc
  have hres := State.headRes_unknown (s := s.recsIn) hlive hhead hplace htaken hready hclean hfirst hopc fun _ _ _ => .go
  have hnop : s.recsIn.nop t = (s.recsIn.setTile t ((s.tile t).consume e.word).1).abortEnter t i xOPCODE := by
    unfold State.nop State.issueHead
    rw [hres]
    rfl
  change Host.Outcome.next (s.offers fun a => a.nop t) = _
  unfold State.offers
  simp only [hup, if_true, hnop]

end Sys2Proof.Machine

/-! PROOFS. The recorder's programs and erases, the time store, the counters and their snapshots (21 R568, 22 R581 to R593). -/
namespace Sys2Proof.Machine

/-! ### Programs -/

/-- The records that join the queue as a page's records leave it change nothing of the program. -/
theorem State.refill_prog (s : State) : (s.dropRec).setDrain.rcd.prog = s.rcd.prog ∧ (s.dropRec).setDrain.rcd.fresh = s.rcd.fresh := by
  have hdrain : s.dropRec.setDrain.rcd.prog = s.dropRec.rcd.prog ∧ s.dropRec.setDrain.rcd.fresh = s.dropRec.rcd.fresh := ⟨rfl, rfl⟩
  have hdrop : s.dropRec.rcd.prog = s.rcd.prog ∧ s.dropRec.rcd.fresh = s.rcd.fresh := by
    unfold State.dropRec
    split <;> exact ⟨rfl, rfl⟩
  exact ⟨hdrain.1.trans hdrop.1, hdrain.2.trans hdrop.2⟩

theorem State.refill_keeps (s : State) : Keeps 0x10 s (s.dropRec).setDrain :=
  (State.setDrain_keeps _).step rfl (State.dropRec_keeps _)

theorem State.sectorOpen_fresh (s : State) (q : Nat) : (s.sectorOpen q).rcd.fresh = s.rcd.fresh := by
  unfold State.sectorOpen State.eraseStart
  extract_lets n r1 s1 first
  split <;> rfl

theorem State.pageProg_effect (s : State) (q : Nat) (l : List LogRec) : (s.pageProg q l).rcd.prog.isSome = true ∧
    (s.pageProg q l).rcd.fresh = s.rcd.fresh ∧ (s.pageProg q l).fld F.REC_HEAD_HEAD = (q + l.length - 1) % 2 ^ 32 := by
  unfold State.pageProg
  extract_lets s1 rs pages r2 s2
  refine ⟨rfl, ?_, State.fld_put_same _ _ _ _ _⟩
  change s1.rcd.fresh = _
  unfold s1
  split
  · exact State.sectorOpen_fresh s q
  · rfl

/-- A program begins with the records at the front, and `HEAD` stands at the last of them. -/
theorem State.progStart_effect {s : State} (hcan : s.canProg = true) : s.progStart.rcd.prog.isSome = true ∧
    s.progStart.rcd.fresh = s.rcd.fresh ∧
    s.progStart.fld F.REC_HEAD_HEAD = (unskipped s.rcd.skipped 1024 s.rcd.next +
      (s.rcd.queue.take (4 - unskipped s.rcd.skipped 1024 s.rcd.next % 4)).length - 1) % 2 ^ 32 := by
  unfold State.progStart
  rw [if_pos hcan]
  extract_lets q now s1 r1
  obtain ⟨hprog, hfresh, hhead⟩ := s.pageProg_effect q now
  exact ⟨(congrArg Option.isSome (State.refill_prog _).1).trans hprog, (State.refill_prog _).2.trans hfresh,
    (State.refill_keeps _).fld_trans rfl hhead⟩

theorem State.progDone_true {s : State} (hprog : s.rcd.prog.isSome = true) :
    (s.progDone true).rcd = { s.rcd with prog := none } := by
  obtain ⟨⟨p, rs⟩, h⟩ := Option.isSome_iff_exists.mp hprog
  unfold State.progDone
  rw [h]
  simp only [if_true]
  exact (State.gcSrcN_keeps _ _ _).rcd rfl

/-! ### Erases -/

theorem State.eraseDone_true {s : State} (herase : s.rcd.erase.isSome = true) :
    s.eraseDone true = { s with rcd := { s.rcd with erase := none, eraseRetry := false } } := by
  obtain ⟨e, h⟩ := Option.isSome_iff_exists.mp herase
  unfold State.eraseDone
  rw [h]
  rfl

theorem State.eraseDone_false {s : State} {e : Nat} (herase : s.rcd.erase = some e) (hretry : s.rcd.eraseRetry = false) :
    s.eraseDone false = s.eraseStart e true := by
  unfold State.eraseDone
  simp [herase, hretry]

/-! ### Counters -/

theorem State.gcWraps_effect {s : State} {n : Fin 4} (hsrc : s.fld F.TIM_GC_CFG_SRC n ≠ 0) (hfull : s.gc n = 2 ^ 48 - 1) :
    (s.gcWraps n).gc n = 0 ∧ (s.gcWraps n).bit F.TIM_GC_EVT_OVF n = true := by
  unfold State.gcWraps
  rw [if_pos ⟨hsrc, hfull⟩]
  unfold State.gcOne
  extract_lets v g1 s1
  have hv : v = 2 ^ 48 := by simp [v, hfull]
  rw [if_pos hv]
  constructor
  · have hgc : s1.gc n = 0 := by
      change (s.tim.gc.set 0 ⟨n, 0, 0⟩ (v % 2 ^ 48)).get 0 ⟨n, 0, 0⟩ = 0
      rw [Tab.get_set_same, hv, Nat.mod_self]
    unfold State.gc at hgc ⊢
    rw [(State.notify_keeps ..).tim rfl]
    exact hgc
  · refine (State.notify_keeps ..).bit_trans rfl ?_
    rw [State.bit_putBitOf _ _ _ _ _ _ _ n.isLt, if_pos rfl]

/-- A read of the low word of counter `n` latches the high word with OVF for its requester. -/
theorem State.supRead_gcLow (s : State) (who : Nat) (n : Fin 4) :
    (s.supRead who (0x320 + 4 * n.val)).2.tim.snaps.get 0 ⟨who, 0x321 + 4 * n.val, 0⟩ =
      b2n (s.bit F.TIM_GC_EVT_OVF n) * 2 ^ 16 + s.gc n / 2 ^ 32 + 1 := by
  have hlow : s.highReset (0x320 + 4 * n.val) = none := by
    unfold State.highReset
    rw [if_neg (by omega), if_neg (by omega)]
    have hflt : ∀ k : Fin 4, supFlt (0x320 + 4 * k.val) = none := by decide
    rw [hflt n]
  have hhighs : s.highs (0x320 + 4 * n.val) =
      [(0x321 + 4 * n.val, b2n (s.bit F.TIM_GC_EVT_OVF n) * 2 ^ 16 + s.gc n / 2 ^ 32)] := by
    have hnum : (0x320 + 4 * n.val - 0x320) / 4 = n.val := by omega
    unfold State.highs
    rw [if_neg (by omega), if_pos (by omega), hnum]
    simp only [show 0x320 + 4 * n.val + 1 = 0x321 + 4 * n.val by omega]
  have hmeasured : s.measured (0x320 + 4 * n.val) = false := by
    simp only [State.measured, Bool.or_eq_false_iff, beq_eq_false_iff_ne, Bool.and_eq_false_iff, decide_eq_false_iff_not]
    omega
  unfold State.supRead
  rw [hlow]
  simp only [hhighs]
  split
  · next h =>
    have hm : s.measured (0x320 + 4 * n.val) = true := h
    rw [hmeasured] at hm
    cases hm
  · exact Tab.get_set_same s.tim.snaps 0 (b2n (s.bit F.TIM_GC_EVT_OVF n) * 2 ^ 16 + s.gc n / 2 ^ 32 + 1) ⟨who, 0x321 + 4 * n.val, 0⟩

/-- Settles O9: each row does what its action does, offers no record, and the action's effect is read off its definition. -/
theorem recorderAndTimeRowsTakeEffect : Obligations.RecorderAndTimeRowsTakeEffect := by
  unfold Obligations.RecorderAndTimeRowsTakeEffect
  refine ⟨fun s hup hcan => ⟨_, rfl, ?_⟩, fun s hup hprog => ⟨_, rfl, ?_⟩, fun s hup herase => ⟨_, rfl, ?_⟩,
    fun s e hup herase hretry => ⟨_, rfl, ?_⟩, fun s hup hmod hne => ⟨_, rfl, ?_⟩, fun s n hup hsrc hfull => ⟨_, rfl, ?_⟩,
    fun s h n hup => ⟨_, if_pos (by simp [requesterExists]), ?_⟩⟩
  · obtain ⟨hprog, hfresh, hhead⟩ := State.progStart_effect (s := s.recsIn) hcan
    rw [State.offers_of_fresh hup rfl hfresh]
    exact ⟨hprog, hhead⟩
  · have hrcd := State.progDone_true (s := s.recsIn) hprog
    rw [State.offers_of_fresh hup rfl (by rw [hrcd]; rfl), hrcd]
    exact ⟨rfl, rfl, rfl⟩
  · rw [State.offers_of_fresh hup (State.eraseDone_true (s := s.recsIn) herase) rfl]
    exact ⟨rfl, rfl, rfl⟩
  · rw [State.offers_of_fresh hup (State.eraseDone_false (s := s.recsIn) herase hretry) rfl]
    exact ⟨rfl, rfl⟩
  · rw [State.runs_up hup, State.timeStore]
    cases hlast : s.tim.store.head?.any fun e => e.optime == s.tim.optime && e.pcyc == s.tim.pcyc && e.kind == 2 with
    | true => simp
    | false => rw [if_pos ⟨hmod, hne, rfl⟩]; rfl
  · rw [State.runs_up hup]
    exact State.gcWraps_effect hsrc hfull
  · rw [State.runs_up hup]
    have hidx : (BitVec.ofNat 16 (0x320 + 4 * n.val)).toNat = 0x320 + 4 * n.val := by
      rw [BitVec.toNat_ofNat]
      omega
    simp only [hidx]
    exact State.supRead_gcLow s h n

end Sys2Proof.Machine

/-! PROOFS. Pack measurement (16 R433 to R440). -/
namespace Sys2Proof.Machine

/-! ### Sample words -/

/-- A word that is delivered shows, and nothing behind its channel writes it again. -/
theorem State.packWord_shows (s : State) (c w : Nat) : (s.packWord c w).fld F.PKM_SAMP_WORD c = w % 2 ^ 32 := by
  unfold State.packWord
  extract_lets s1 p2 s2 o was p3 s3
  have h1 : s1.fld F.PKM_SAMP_WORD c = w % 2 ^ 32 := State.fld_put_same _ _ _ _ _
  have h2 : s2.fld F.PKM_SAMP_WORD c = w % 2 ^ 32 := by
    unfold s2
    split
    · exact (State.fld_put_id _ _ _ _ _ _ (by decide)).trans h1
    · exact h1
  split
  · exact (State.overEv_keeps _ _).fld_trans rfl h2
  · exact h2

theorem State.packUse_shows {s : State} {c w : Nat} (st : Nat) (v : Int) (n : Nat) (hall half : Bool) :
    ((s.packWord c w).packUse c st v n hall half).fld F.PKM_SAMP_WORD c = w % 2 ^ 32 :=
  (State.packUse_keeps ..).fld_trans rfl (State.packWord_shows s c w)

section
variable {s : State} {c : Nat} {raw : Int} {n : Nat} {hall early half : Bool} (hdom : s.dom 5 = .on)
  (hen : s.flag F.PKM_CFG_EN c = true)
include hdom hen

/-- A sample that passes the link check. -/
theorem State.packSample_shows {ovr : Bool} {v : Int} (hv : (if c = 1 then s.hallCurrent raw else (raw, s)) = (v, s)) :
    (s.packSample c raw ovr false n hall early half).fld F.PKM_SAMP_WORD c =
      mkWord (s.freshSt c ovr early half) (if ovr then (if raw < 0 then (packRange c s.pack.gain).1 else (packRange c s.pack.gain).2) else v)
        % 2 ^ 32 := by
  unfold State.packSample
  rw [if_pos ⟨hdom, hen⟩, hv]
  simp only [Bool.false_eq_true, if_false]
  rw [State.packUse_shows]

/-- A sample that fails it holds the last value. -/
theorem State.packSample_stale {ovr : Bool} (hc : c ≠ 1) :
    (s.packSample c raw ovr true n hall early half).fld F.PKM_SAMP_WORD c = mkWord stSTALE (wordVal (s.samp c)) % 2 ^ 32 := by
  unfold State.packSample
  rw [if_pos ⟨hdom, hen⟩, if_neg hc]
  simp only [if_true]
  rw [State.packUse_shows]
  split <;> rfl

end

/-- What follows a sample leaves its word. -/
theorem State.packIn_word (s : State) (c : Nat) (raw : Int) (ovr bad : Bool) (n : Nat) (hall early half : Bool) :
    (s.packIn c raw ovr bad n hall early half).fld F.PKM_SAMP_WORD c =
      (s.packSample c raw ovr bad n hall early half).fld F.PKM_SAMP_WORD c := by
  unfold State.packIn
  extract_lets t
  split
  · exact ((State.measCond_keeps _ _).fld_eq rfl)
  · rfl

/-! ### Isolation, gain and synchronised samples -/

theorem State.isoEnd_effect {s : State} (hdom : s.dom 5 = .on) (hen : s.flag F.PKM_ISO_CFG_ISO_EN = true) :
    s.isoEnd.fld F.PKM_ISO_STAT_STATE = (s.fld F.PKM_ISO_STAT_STATE + 1) % 4 ∧ s.isoEnd.pack.isoNum = 0 := by
  unfold State.isoEnd
  rw [if_pos ⟨hdom, hen⟩]
  extract_lets m a p p1 v1 s1 vp r x
  have hstate : s1.fld F.PKM_ISO_STAT_STATE = (m + 1) % 4 := State.fld_put_same _ _ _ _ _
  have hnum : s1.pack.isoNum = 0 := rfl
  have hx : Keeps 0x2000000 s1 x.2 := by
    unfold x
    split
    · exact State.free_keeps _
    · exact Keeps.refl _ _
  split
  · refine ⟨?_, (congrArg Pack.isoNum (hx.pack rfl)).trans hnum⟩
    rw [State.fld_put_id _ _ _ _ _ _ (by decide), State.fld_put_id _ _ _ _ _ _ (by decide), (hx.fld_eq rfl), hstate]
  · exact ⟨hstate, hnum⟩

theorem State.isoStep_effect {s : State} (hdom : s.dom 5 = .on) (hen : s.flag F.PKM_ISO_CFG_ISO_EN = true) :
    s.isoStep.fld F.PKM_ISO_STAT_STATE = (s.fld F.PKM_ISO_STAT_STATE + 1) % 4 ∧ s.isoStep.pack.isoNum = 0 := by
  obtain ⟨hstate, hnum⟩ := State.isoEnd_effect hdom hen
  have hconds := State.isoConds_keeps s.isoEnd
  unfold State.isoStep
  extract_lets last
  split
  · exact ⟨hconds.fld_trans rfl hstate, (congrArg Pack.isoNum (hconds.pack rfl)).trans hnum⟩
  · exact ⟨hstate, hnum⟩

theorem State.gainUp_effect {s : State} (hdom : s.dom 5 = .on) (hauto : s.fld F.PKM_CFG_GAIN 0 = 3) (hlow : s.pack.gain < 2)
    (hcalm : ∃ c, s.pack.calm = some c ∧ c + 10 ≤ s.tim.optime) :
    s.gainUp.pack.gain = s.pack.gain + 1 ∧ 3 ≤ s.gainUp.pack.owed 0 := by
  obtain ⟨c, hc, hlate⟩ := hcalm
  have hup : s.gainUp = s.setGain (s.pack.gain + 1) := by
    unfold State.gainUp
    rw [hc]
    exact if_pos ⟨hdom, hauto, hlow, hlate⟩
  rw [hup, State.setGain, if_neg (by omega)]
  refine ⟨rfl, ?_⟩
  simp [Pack.settleFor, Pack.owed]

theorem State.syncTimeout_effect {s : State} {c : Fin 6} (hwait : hasBit s.pack.syncWait c = true) :
    (s.syncTimeout c).fld F.PKM_SYNCS_WORD c = mkWord stSTALE (wordVal (s.samp c)) % 2 ^ 32 ∧
    hasBit (s.syncTimeout c).pack.syncWait c = false := by
  unfold State.syncTimeout
  rw [if_pos hwait]
  refine ⟨State.fld_put_same _ _ _ _ _, ?_⟩
  change hasBit (putBit s.pack.syncWait c false) c = false
  rw [hasBit_putBit, if_pos rfl]

/-- Settles O30: each sample's word is shown as `packSample` computes it, and the other rows do what their actions do. -/
theorem packRowsTakeEffect : Obligations.PackRowsTakeEffect := by
  unfold Obligations.PackRowsTakeEffect
  refine ⟨fun s c raw n hall early half hup hdom hen => ?_, fun s hup hdom hen => ⟨_, rfl, ?_⟩,
    fun s hup hdom hauto hlow hcalm => ⟨_, rfl, ?_⟩, fun s c hup hwait => ⟨_, rfl, ?_⟩⟩
  · have hrow (ovr bad : Bool) : ∃ t, exec (.packSample c raw ovr bad n hall early half) s = .next t ∧
        t.fld F.PKM_SAMP_WORD c = (s.recsIn.packSample c raw.toInt ovr bad n.toNat hall early half).fld F.PKM_SAMP_WORD c :=
      ⟨_, rfl, (State.offers_keeps_action (fun a => a.packIn c raw.toInt ovr bad n.toNat hall early half) hup).fld_trans rfl
        (State.packIn_word _ _ _ _ _ _ _ _ _)⟩
    refine ⟨fun hc => ?fresh, fun hc => ?high, fun hc hscale => ?hall, fun hc ovr => ?stale⟩
    case fresh =>
      obtain ⟨t, hexec, ht⟩ := hrow false false
      exact ⟨t, hexec, ht.trans (State.packSample_shows (s := s.recsIn) hdom hen (if_neg hc))⟩
    case high =>
      obtain ⟨t, hexec, ht⟩ := hrow true false
      exact ⟨t, hexec, ht.trans (State.packSample_shows (s := s.recsIn) hdom hen (if_neg hc))⟩
    case hall =>
      obtain ⟨t, hexec, ht⟩ := hrow false false
      exact ⟨t, hexec, ht.trans (State.packSample_shows (s := s.recsIn) hdom hen ((if_pos hc).trans (if_neg hscale)))⟩
    case stale =>
      obtain ⟨t, hexec, ht⟩ := hrow ovr true
      exact ⟨t, hexec, ht.trans (State.packSample_stale (s := s.recsIn) hdom hen hc)⟩
  · have hend := State.acts_keeps_action (fun a => a.isoStep) hup
    obtain ⟨hstate, hnum⟩ := State.isoStep_effect (s := s.recsIn) hdom hen
    exact ⟨hend.fld_trans rfl hstate, (congrArg Pack.isoNum (hend.pack rfl)).trans hnum⟩
  · rw [State.runs_up hup]
    exact State.gainUp_effect hdom hauto hlow hcalm
  · rw [State.runs_up hup]
    exact State.syncTimeout_effect hwait

end Sys2Proof.Machine

/-! PROOFS. Load switches, loops, loop supplies and touch keys (19 R501 to R515).  `COMP_I` is a field of 16 bits, and the statement
has it show whatever `DELIV` reads, in states too whose `DELIV` holds more than 16 bits. -/
namespace Sys2Proof.Machine

/-- The supervisor runs; loop output 0 has been off its command for 20 ms, and its `DELIV` holds a value of 17 bits. -/
def wideDelivery : State :=
  { pow := { phase := .s }
    field := { bad := ⟨[(⟨0, 0, 0⟩, 21)]⟩ }
    regs := ⟨[(F.LOOP_DEL_DELIV.key 0 0, 2 ^ 16)]⟩ }

/-- What a command's answer shows as the current at which the compliance of output 0 was lost. -/
def complianceCurrentAfter : Result → Nat
  | .next t => t.fld F.LOOP_DEL_COMP_I 0
  | _ => 0

/-- Refutes O32, in its seventh clause: the compliance event stores the low 16 bits of what was delivered. -/
theorem not_fieldRowsTakeEffect : ¬ Obligations.FieldRowsTakeEffect := by
  rintro ⟨-, -, -, -, -, -, hcompliance, -⟩
  obtain ⟨t, hexec, -, -, hcurrent, -⟩ := hcompliance wideDelivery 0 (by decide +kernel) (by decide +kernel) (by decide +kernel)
    (by decide +kernel)
  have hshown : complianceCurrentAfter (exec (.loopCompliance 0) wideDelivery) = 0 := by decide +kernel
  have hdeliv : wideDelivery.fld F.LOOP_DEL_DELIV 0 = 2 ^ 16 := by decide +kernel
  rw [hexec] at hshown
  exact absurd (hshown.symm.trans (hcurrent.trans hdeliv)) (by decide)

end Sys2Proof.Machine

/-! PROOFS. Data instructions (11 R286 to R305).  A Ladle row that ends takes its place in the order of arrival back, and the
statement keeps it. -/
namespace Sys2Proof.Machine

/-- STV of one row of 64 bytes, from the start of the A-Pail to P-address 0. -/
def storeWord : W128 := 0x11000000000000000000000000000000#128

/-- An issued STV whose row has waited for the Vat, as the first access to arrive. -/
def waitingStore : PEnt := { word := storeWord, ring := 0, idx := 0, slot := 0, lvl := 0, issued := true, taken := true, seq := 1 }

/-- Tile 0 of partition 0 holds that instruction, and its page is mapped now. -/
def storeReady : State :=
  State.put { pow := { phase := .s, pd := ⟨[(⟨15, 0, 0⟩, .on)]⟩, vat := .on }
              pages := ⟨[(⟨0, 0, 0⟩, { valid := true, st := .mapped })]⟩
              tiles := ⟨[(⟨0, 0, 0⟩, { ents := [waitingStore] })]⟩ } F.SEP_PT_TILES_TILES 1 0

/-- The place in the order of arrival that the oldest entry of tile 0 has in what a command answers. -/
def arrivalAfter : Result → Option Nat
  | .next t => ((t.tile 0).ents[0]?).map (·.seq)
  | _ => none

/-- Refutes O26, in its second clause: the row that has waited is copied, and its entry stands without a place among the arrivals. -/
theorem not_dataInstructionsTakeEffect : ¬ Obligations.DataInstructionsTakeEffect := by
  rintro ⟨-, hrow, -⟩
  obtain ⟨-, hstore⟩ := hrow storeReady 0 false 0 0 0 0 waitingStore (by decide +kernel) (by decide +kernel) (by decide +kernel)
    (by decide +kernel) (by decide +kernel) (by decide +kernel) (by decide +kernel) (by decide +kernel) (by decide +kernel)
    (by decide +kernel)
  obtain ⟨t, hexec, hentry, -⟩ := hstore (by decide +kernel)
  have hplace : arrivalAfter (exec (.stv 0 false 1) storeReady) = some 0 := by decide +kernel
  rw [hexec] at hplace
  have hkept : arrivalAfter (.next t) = some 1 := congrArg (Option.map PEnt.seq) hentry
  exact absurd (hplace.symm.trans hkept) (by decide)

end Sys2Proof.Machine

/-! PROOFS. What the power sequencer leaves of a port: the filter, and the requests, but for those that it takes from a port it puts
in DOWN (06 R139, 08 R207). -/
namespace Sys2Proof.Machine

/-- From `p` to `q` a port has kept its filter and its requests, or has gone to DOWN, where no request is left that would be answered. -/
structure Port.Settled (p q : Port) : Prop where
  fir : q.fir = p.fir
  txeqPend : q.txeqPend = p.txeqPend
  reqs : q.reqs = p.reqs ∨ ∀ r ∈ q.reqs, r.dead = true

theorem Port.Settled.refl (p : Port) : p.Settled p := ⟨rfl, rfl, .inl rfl⟩

theorem Port.Settled.trans {p q r : Port} (h : p.Settled q) (g : q.Settled r) : p.Settled r where
  fir := g.fir.trans h.fir
  txeqPend := g.txeqPend.trans h.txeqPend
  reqs := g.reqs.elim (fun e => h.reqs.imp e.trans (fun hd => e ▸ hd)) .inr

/-- So has every port from `s` to `t`. -/
def State.portsSettled (s t : State) : Prop := ∀ k, (s.port k).Settled (t.port k)

theorem State.portsSettled.trans {s t u : State} (h : s.portsSettled t) (g : t.portsSettled u) : s.portsSettled u :=
  fun k => (h k).trans (g k)

theorem State.portsSettled_of_eq {s t : State} (h : t.ports = s.ports) : s.portsSettled t := fun k => by
  unfold State.port
  rw [h]
  exact .refl _

theorem Keeps.portsSettled {M : Nat} {s t : State} (h : Keeps M s t) (hM : M.testBit 8 = false) : s.portsSettled t := State.portsSettled_of_eq (h.ports hM)

theorem State.setPort_portsSettled {s : State} {k : Nat} {p : Port} (h : (s.port k).Settled p) : s.portsSettled (s.setPort k p) := fun j => by
  by_cases hj : j = k
  · subst hj
    rw [State.setPort_port]
    exact h
  · rw [State.setPort_port_ne _ _ _ hj]
    exact .refl _

section
variable {s0 s : State} {f : RField} {v i j : Nat} {b : Bool} (h : s0.portsSettled s)
include h

theorem State.portsSettled.put : s0.portsSettled (s.put f v i j) := h.trans (State.portsSettled_of_eq rfl)
theorem State.portsSettled.putFlag : s0.portsSettled (s.putFlag f b i j) := h.put
theorem State.portsSettled.count : s0.portsSettled (s.count f v i j) := h.put

end

theorem foldl_portsSettled {α : Type} {f : State → α → State} (h : ∀ a x, State.portsSettled a (f a x)) (l : List α) (s : State) :
    s.portsSettled (l.foldl f s) := by
  induction l generalizing s with
  | nil => exact fun _ => .refl _
  | cons x l ih => exact (h s x).trans (ih _)

theorem State.partEvent_portsSettled (s : State) (p code lvl addr : Nat) : s.portsSettled (s.partEvent p code lvl addr) := by
  unfold State.partEvent State.mPush
  split
  · split
    · exact State.setPort_portsSettled ⟨rfl, rfl, .inl rfl⟩
    · exact (Keeps.refl 0 _).portsSettled rfl
  · exact (Keeps.refl 0 _).portsSettled rfl

theorem State.event_portsSettled (s : State) (e : Ev) : s.portsSettled (s.event e) := by
  unfold State.event
  split
  · exact (State.shadowed_keeps ..).portsSettled rfl
  · extract_lets b v b1 fid rs writes s1 s2 s3
    have h2 : s.portsSettled s2 := by
      simp only [s2]
      split
      · exact (show s1.portsSettled _ from (State.offer_keeps ..).portsSettled rfl)
      · exact State.portsSettled_of_eq rfl
    split
    · have h3 : s.portsSettled s3 := h2.trans ((State.notify_keeps ..).portsSettled rfl)
      split
      · exact h3.trans (State.partEvent_portsSettled _ _ _ _ _)
      · exact h3
    · exact h2

theorem State.linkFresh_portsSettled (s : State) (k : Nat) : s.portsSettled (s.linkFresh k) :=
  State.setPort_portsSettled ⟨rfl, rfl, .inr fun r hr => by
    obtain ⟨q, -, rfl⟩ := List.mem_map.mp hr
    rfl⟩

theorem State.enterDown_portsSettled (s : State) (k : Nat) : s.portsSettled (s.enterDown k) := by
  unfold State.enterDown
  extract_lets was p q s2 s3 s4 s5 s6 s7
  have h2 : s.portsSettled s2 := by
    refine State.setPort_portsSettled ?_
    exact ⟨rfl, rfl, .inl rfl⟩
  have h3 : s.portsSettled s3 := h2.put.put.put.put
  clear_value s3
  have h4 : s.portsSettled s4 := h3.putFlag.trans (State.linkFresh_portsSettled _ _)
  clear_value s4
  have h5 : s.portsSettled s5 := by
    unfold s5
    split
    · refine State.portsSettled.trans ?_ ((State.ringsSettle_keeps _ k).portsSettled rfl)
      exact h4.putFlag.putFlag.trans ((State.rotShow_keeps _ k).portsSettled rfl)
    · exact h4
  clear_value s5
  have h6 : s.portsSettled s6 := by
    unfold s6
    split
    · exact h5
    · exact h5.count
  clear_value s6
  have h7 : s.portsSettled s7 := by
    unfold s7
    split
    · exact h6.trans (State.event_portsSettled _ _)
    · exact h6
  clear_value s7
  split
  · exact h7.put.trans ((State.svcSettle_keeps _).portsSettled rfl)
  · exact h7

theorem State.engineDark_portsSettled (s : State) (e fid : Nat) : s.portsSettled (s.engineDark e fid) := by
  unfold State.engineDark
  extract_lets s1 s2
  have h1 : s.portsSettled s1 := (State.declareShadow_keeps ..).portsSettled rfl
  clear_value s1
  have h2 : s.portsSettled s2 := (h1.trans (foldl_portsSettled State.enterDown_portsSettled (portsOf e) s1)).trans
    ((State.bankOff_keeps _ e).portsSettled rfl)
  clear_value s2
  exact h2.trans (foldl_portsSettled (fun a k => ((State.ringsOff_keeps a k).portsSettled rfl).putFlag) _ _)

theorem State.engFall_portsSettled (s : State) (fid e : Nat) : s.portsSettled (s.engFall fid e) := by
  unfold State.engFall
  split
  · exact State.engineDark_portsSettled (s.setDom (10 + e) .falling) e fid
  · exact fun _ => .refl _

theorem State.engSettle_portsSettled (s : State) (e : Nat) : s.portsSettled (s.engSettle e) := by
  unfold State.engSettle
  split
  · split
    · exact fun _ => .refl _
    · exact fun _ => .refl _
  · split
    · exact fun _ => .refl _
    · exact State.engFall_portsSettled _ _ _
  · split
    · exact State.engFall_portsSettled _ _ _
    · exact fun _ => .refl _
  · exact fun _ => .refl _

theorem State.sepSettle_portsSettled (s : State) : s.portsSettled s.sepSettle := by
  unfold State.sepSettle
  split
  · split
    · exact fun _ => .refl _
    · exact fun _ => .refl _
  · split
    · refine (show s.portsSettled (s.setDom 8 .falling) from fun _ => .refl _).trans (foldl_portsSettled (fun a k => ?_) _ _)
      split
      · exact fun _ => .refl _
      · exact State.enterDown_portsSettled _ _
    · exact fun _ => .refl _
  · exact fun _ => .refl _

theorem State.powerSettle_portsSettled (s : State) : s.portsSettled s.powerSettle := by
  unfold State.powerSettle
  split
  · have h1 := (State.vatSettle_keeps s).portsSettled rfl
    have h2 := h1.trans (foldl_portsSettled (fun a e => State.engSettle_portsSettled a e) (List.range 4) _)
    have h3 := h2.trans ((State.lscSettle_keeps _).portsSettled rfl)
    have h4 := h3.trans (foldl_portsSettled (fun a g => (State.tgSettle_keeps a g).portsSettled rfl) (List.range 8) _)
    exact (h4.trans (State.sepSettle_portsSettled _)).trans ((State.gateSettle_keeps _).portsSettled rfl)
  · exact fun _ => .refl _

theorem State.overflows_portsSettled (n : Nat) (s : State) : s.portsSettled (State.overflows n s) := by
  induction n generalizing s with
  | zero => exact fun _ => .refl _
  | succ n ih => exact (State.event_portsSettled _ _).trans (ih _)

theorem State.recsTrim_portsSettled (n : Nat) (s : State) : s.portsSettled (State.recsTrim n s) := by
  induction n generalizing s with
  | zero => exact State.portsSettled_of_eq rfl
  | succ n ih =>
    unfold State.recsTrim
    extract_lets r m lost at_ t s1
    split
    · exact fun _ => .refl _
    · have h1 : s.portsSettled s1 := State.portsSettled_of_eq rfl
      exact (h1.trans (State.overflows_portsSettled _ _)).trans (ih _)

theorem State.recsOut_portsSettled (s : State) : s.portsSettled s.recsOut := by
  unfold State.recsOut
  split
  · exact fun _ => .refl _
  · exact (State.portsSettled_of_eq (t := s.recsOrder) rfl).trans <|
      (State.recsTrim_portsSettled 8 _).trans (State.portsSettled_of_eq rfl)

/-- What follows a command leaves the ports as the sequencer does. -/
theorem State.followed_portsSettled (s a : State) : a.portsSettled (s.followed a) :=
  (State.powerSettle_portsSettled a).trans <| ((State.serviced_keeps rfl (Keeps.refl mask6 _)).portsSettled rfl).trans
    (State.recsOut_portsSettled _)

end Sys2Proof.Machine

/-! PROOFS. Q requests (05 R106, R109, 06 R146).  Core space from `globBase` up holds the tiles too, and a read of a tile that is being
zeroed waits, which the clause on register reads leaves out. -/
namespace Sys2Proof.Machine

/-- Port 0 is up and bound to partition 0, whose tile 0 is being zeroed. -/
def tileInZeroing : State :=
  ((State.put { pow := { phase := .s }, tiles := ⟨[(⟨0, 0, 0⟩, { zeroing := true })]⟩ } F.LNK_STAT_STATE lnkUp).put
    F.SEP_PT_PORTS_ACTIVE 1).put F.SEP_PT_TILES_TILES 1

/-- The first register of that tile. -/
def tileRegister : QHdr := ⟨0, 0, 0, 0x7F0000010000⟩

/-- Whether the newest request of port 0 waits, and is to be answered, in what a command answers. -/
def newestWaits : Result → Option (Bool × Bool)
  | .next t => (t.port 0).reqs.getLast?.map fun r => (r.stalled, r.dead)
  | _ => none

/-- Refutes O16, in its third clause: a read of a tile that is being zeroed waits. -/
theorem not_requestsOfTheVatTakeEffect : ¬ Obligations.RequestsOfTheVatTakeEffect := by
  rintro ⟨-, -, hread, -⟩
  obtain ⟨a, hexec, hlast⟩ := hread tileInZeroing tileRegister (by decide +kernel) (by decide +kernel) (by decide +kernel)
    (by decide +kernel) (by decide +kernel) (by decide +kernel)
  have hwaits : newestWaits (exec (.rd tileRegister 8) tileInZeroing) = some (true, false) := by decide +kernel
  rw [hexec] at hwaits
  obtain ⟨r, hr, hflags⟩ := Option.map_eq_some_iff.mp hwaits
  obtain ⟨hstalled, hdead⟩ := Prod.mk.inj hflags
  rcases (State.followed_portsSettled tileInZeroing a 0).reqs with heq | hall
  · rw [heq, show (a.port 0).reqs.getLast? = _ from hlast] at hr
    exact absurd (hstalled.symm.trans (congrArg Req.stalled (Option.some.inj hr).symm)) (by simp [State.taken, reqOf])
  · exact absurd (hdead.symm.trans (hall r (List.mem_of_getLast? hr))) (by decide)

end Sys2Proof.Machine

/-! PROOFS. Lane detectors (08 R202, R204).  `MALIGN` is a field of 20 bits, and the statement asks the 20 wavelengths alone to stand at
one place; a bit of it beyond them may name what lane 0 is mapped to. -/
namespace Sys2Proof.Machine

/-- Port 16 in ALIGN; its lanes 1 to 4 are locked, and 1 to 3 are aligned at one place.  Lane 0 is mapped to 25, which bits of `LOS` and
`MALIGN` beyond their 20 show as without light, and as aligned far from them. -/
def strayMarker : State :=
  ({ pow := { phase := .s }
     lines := ⟨[(⟨16, 1, 25⟩, { blocks := 1000 })]⟩
     regs := ⟨[(F.LNK_LANE_STAT_MALIGN.key 16 0, 2 + 4 + 8 + 2 ^ 25), (F.LNK_LANE_STAT_LOS.key 16 0, 0xFFFE1 + 2 ^ 25)]⟩ } : State).put F.LNK_STAT_STATE lnkAlign 16
    |>.put F.LNK_LANE_STAT_LOL 0 16 |>.setMap 16 true 0 25

/-- `MALIGN` of pair 4 of port 16 in what a command answers. -/
def alignedAfter : Result → Bool
  | .next t => t.bit F.LNK_LANE_STAT_MALIGN 4 16
  | _ => true

/-- Refutes O22, in the clause on MARKER_ALIGNED: pair 4 takes the place of the markers of lane 0, and loses its alignment again, as it
lies beyond the deskew buffer of the others. -/
theorem not_laneRowsTakeEffect : ¬ Obligations.LaneRowsTakeEffect := by
  rintro ⟨hlane, -⟩
  obtain ⟨-, -, -, -, -, ⟨t, hexec, haligned⟩, -⟩ := hlane strayMarker 16 4 (by decide +kernel) (by decide +kernel)
  have hlost : alignedAfter (exec (.markerAligned 16 4) strayMarker) = false := by decide +kernel
  have hplaces : ∀ a b : Fin 20, strayMarker.bit F.LNK_LANE_STAT_MALIGN a 16 = true →
      strayMarker.bit F.LNK_LANE_STAT_MALIGN b 16 = true → (strayMarker.line 16 true a).place = (strayMarker.line 16 true b).place := by
    decide +kernel
  rw [hexec] at hlost
  exact Bool.false_ne_true (hlost.symm.trans (haligned (.inr hplaces)))

end Sys2Proof.Machine

/-! PROOFS. Engines, rings and probes (07 R177).  The end of a calibration may lead a port from ALIGN to UP, where the lane maps go
back to the identity and a ring that carried a lane becomes a spare, to be calibrated. -/
namespace Sys2Proof.Machine

/-- Port 0 in ALIGN, its INIT exchange done; ring 19, to which receive lane 0 is mapped, is under calibration. -/
def mappedRingCalibrates : State :=
  (({ pow := { phase := .s }
      ports := ⟨[(⟨0, 0, 0⟩, { initAckd := true, initSentAckd := true })]⟩
      rings := ⟨[(⟨0, 1, 19⟩, { st := 4 })]⟩ } : State).put F.LNK_STAT_STATE lnkAlign).setMap 0 true 0 19

/-- The state of receive ring 19 of port 0 in what a command answers. -/
def mappedRingAfter : Result → Nat
  | .next t => (t.ring 0 true 19).st
  | _ => 0

/-- Refutes O23, in the clause on RING_CALIBRATION_DONE: the ring is a spare once the port is UP, and is calibrated again. -/
theorem not_engineRowsTakeEffect : ¬ Obligations.EngineRowsTakeEffect := by
  rintro ⟨-, -, -, -, -, -, hdone, -⟩
  obtain ⟨t, hexec, hst, -⟩ := hdone mappedRingCalibrates 0 true 19 (by decide +kernel) (by decide +kernel) (by decide +kernel)
    (.inl (by decide +kernel))
  have hagain : mappedRingAfter (exec (.ringCalibrationDone 0 true 19) mappedRingCalibrates) = 4 := by decide +kernel
  rw [hexec] at hagain
  exact hst hagain

end Sys2Proof.Machine

/-! PROOFS. Control instructions (12 R320 to R329).  A LOOP that opens takes what follows it at once (R324), from the slots of a
resumed level first (13 R353), and the statement sets only the inbound buffer to empty. -/
namespace Sys2Proof.Machine

/-- A slot that holds LOOP of one instruction, passed once. -/
def loopSlot : PEnt := { word := 0x68ffffc0000000000000000000000000#128, ring := 0, idx := 0, slot := 0, lvl := 0 }

/-- A slot that holds NOP, behind it. -/
def nopSlot : PEnt := { word := 0#128, ring := 0, idx := 0, slot := 1, lvl := 0 }

/-- Tile 0 with both slots of a resumed level. -/
def resumedLoop : Tile := { again := [loopSlot, nopSlot] }

/-- That tile runs. -/
def loopReady : State := { pow := { phase := .s, pd := ⟨[(⟨15, 0, 0⟩, .on)]⟩ }, tiles := ⟨[(⟨0, 0, 0⟩, resumedLoop)]⟩ }

/-- How many slots of a resumed level wait at tile 0 in what a command answers. -/
def resumedAfter : Result → Option Nat
  | .next t => some (t.tile 0).again.length
  | _ => none

/-- Refutes O25, in its clause of LOOP: the slot behind the LOOP does not stay where it was. -/
theorem not_controlInstructionsTakeEffect : ¬ Obligations.ControlInstructionsTakeEffect := by
  rintro ⟨-, -, -, -, -, hloop, -⟩
  obtain ⟨t, hexec, htile⟩ := hloop loopReady 0 loopSlot { resumedLoop with again := [nopSlot] } (by decide +kernel) (by decide +kernel)
    (by decide +kernel) (by decide +kernel) (by decide +kernel) (by decide +kernel) (by decide +kernel)
  have htaken : resumedAfter (exec (.loop 0) loopReady) = some 0 := by decide +kernel
  rw [hexec] at htaken
  have hleft : resumedAfter (.next t) = some 1 := congrArg (fun x : Tile => some x.again.length) htile
  exact absurd (htaken.symm.trans hleft) (by decide)

end Sys2Proof.Machine

/-! PROOFS. Ring fetches (13 R343).  The units of a bundle are read before it enters; what they are found with is an event, and the
order of compute to idle follows its causes at each event of the core (13 R356): a tile that it stops is empty when the bundle enters. -/
namespace Sys2Proof.Machine

/-- An older instruction, of ring 7. -/
def olderNop : PEnt := { word := 0#128, ring := 7, idx := 0, slot := 0, lvl := 0, ord := 1 }

/-- Ring 0 of partition 0 holds one bundle for tile 0, whose unit holds one wrong byte; a cause of compute to idle stands that has yet
to act. -/
def correctableBundle : State :=
  ((((State.put { pow := { phase := .s, pd := ⟨[(⟨8, 0, 0⟩, .on), (⟨15, 0, 0⟩, .on)]⟩, vat := .on }
                  idle := { trip := true }
                  pages := ⟨[(⟨0, 0, 0⟩, { valid := true, st := .mapped })]⟩
                  vmem := { errs := ⟨[(⟨0, 0, 0⟩, { bytes := 1 })]⟩ }
                  parts := ⟨[(⟨0, 0, 0⟩, { rings := ⟨[(⟨0, 0, 0⟩, { segs := [⟨0, 1⟩] })]⟩ })]⟩
                  tiles := ⟨[(⟨0, 0, 0⟩, { ents := [olderNop] })]⟩ }
    F.SEP_PT_TILES_TILES 1).put F.SEP_PT_CTL_STATE ptSealed).put F.SEP_RING_CFG_EN 1).put F.AON_SVC_STAT_COMPUTE 2)

/-- The ring of the oldest instruction of tile 0 in what a command answers. -/
def oldestRingAfter : Result → Option Nat
  | .next t => ((t.tile 0).ents[0]?).map (·.ring)
  | _ => none

/-- Refutes O28, in its first clause: the older instruction has ended before the bundle enters. -/
theorem not_ringRowsTakeEffect : ¬ Obligations.RingRowsTakeEffect := by
  rintro ⟨hfetch, -⟩
  obtain ⟨t, hexec, -, -, -, henters⟩ := hfetch correctableBundle 0 0 0 0 (by decide +kernel) (by decide +kernel) (by decide +kernel)
    (by decide +kernel) (by decide +kernel) (by decide +kernel) (by decide +kernel) (by decide +kernel)
  obtain ⟨-, hbehind⟩ := henters (by decide +kernel) (by decide +kernel)
  obtain ⟨es, hents, -⟩ := hbehind (fun l hl => Nat.le_trans (by decide +kernel) (Nat.zero_le l)) (by decide +kernel) (by decide +kernel)
  have hfirst : oldestRingAfter (exec (.ringFetch 0 0) correctableBundle) = some 0 := by decide +kernel
  rw [hexec] at hfirst
  have hkept : oldestRingAfter (.next t) = some 7 := congrArg (fun l => (l[0]?).map PEnt.ring) hents
  exact absurd (hfirst.symm.trans hkept) (by decide)

end Sys2Proof.Machine

/-! PROOFS. The decision tick (05 R118, 23 R602).  A waiting write of MGT_PLCA takes effect as the tick begins; one that the tick itself
decides waits for the next. -/
namespace Sys2Proof.Machine

/-! ### Replies leave what waits as it is -/

section Replies
variable (l : List (Nat × Ans)) (s : State)

theorem State.pushReply_plcaNext (r : Reply) : (s.pushReply r).mgt.plcaNext = s.mgt.plcaNext := by
  unfold State.pushReply
  split <;> rfl

theorem State.storeReply_plcaNext (r : Reply) : (s.storeReply r).mgt.plcaNext = s.mgt.plcaNext := by
  unfold State.storeReply
  split <;> rfl

theorem sendReply_plcaNext (i : Item) : (sendReply l s i).mgt.plcaNext = s.mgt.plcaNext := by
  unfold sendReply
  split
  · exact s.pushReply_plcaNext _
  · split
    · rfl
    · exact (State.pushReply_plcaNext _ _).trans (s.storeReply_plcaNext _)

theorem helloApply_plcaNext (i : Item) : (helloApply l s i).mgt.plcaNext = s.mgt.plcaNext := by
  unfold helloApply
  split
  · split <;> rfl
  · rfl

theorem State.keysApply_plcaNext : s.keysApply.mgt.plcaNext = s.mgt.plcaNext := by
  unfold State.keysApply
  exact List.foldlRecOn (motive := fun a : State => a.mgt.plcaNext = s.mgt.plcaNext) _ _ rfl fun a ha x _ => ha

/-- Of the decision of a tick, its five steps alone have a write of MGT_PLCA wait. -/
theorem State.decide_plcaNext (fs : List Frame) :
    (s.decide fs).mgt.plcaNext = (decideSteps s (items 0 fs)).1.mgt.plcaNext := by
  unfold State.decide
  extract_lets l w s1 s2
  have h1 : s1.mgt.plcaNext = w.1.mgt.plcaNext :=
    List.foldlRecOn (motive := fun a : State => a.mgt.plcaNext = w.1.mgt.plcaNext) _ _ rfl fun a ha i _ =>
      (sendReply_plcaNext w.2 a i).trans ha
  have h2 : s2.mgt.plcaNext = w.1.mgt.plcaNext :=
    List.foldlRecOn (motive := fun a : State => a.mgt.plcaNext = w.1.mgt.plcaNext) _ _ h1 fun a ha i _ =>
      (helloApply_plcaNext w.2 a i).trans ha
  exact ((State.gateSettle_keeps _).plcaNext rfl).trans (((State.powerSettle_keeps _).plcaNext rfl).trans
    (s2.keysApply_plcaNext.trans h2))

end Replies

/-! ### A tick with one such write -/

/-- Host 0 writes MGT_PLCA. -/
def plcaFrame : Frame := { host := 0, seq := 1, minor := 0, auth := true, addr := 0, order := .regWrite 0x1401 [0] }

/-- Host 0 is the Steward, and that frame waits. -/
def plcaWaits : State := { pow := { phase := .s }, lease := { held := true }, mgt := { rxq := [plcaFrame] } }

theorem plcaFrame_plain : plcaFrame.order.Plain := by constructor <;> decide

/-- The state once that write waits. -/
def State.plcaPut (s : State) : State := { s with mgt := { s.mgt with plcaNext := some 1 } }

/-- The Steward's write of MGT_PLCA, alone in its tick, waits for the next. -/
theorem State.decide_plcaFrame {s : State} (hfeat : hasBit (s.host 0).feat 0 = true) (hholdup : s.holdup = false)
    (hsteward : s.isSteward 0 = true) (hover : s.leaseOver = false) (hlost : s.lease.lost = false) :
    (s.decide [plcaFrame]).mgt.plcaNext = some 1 := by
  have hpre : s.preAns plcaFrame.host plcaFrame.order = none := by
    simp [State.preAns, plcaFrame, orderTyp, featBit, hfeat, hholdup, orderForce]
  have hadmit : s.admitAns plcaFrame.host (s.isSteward plcaFrame.host) plcaFrame.order = none := by
    simp [plcaFrame, hsteward, State.admitAns, State.regWriteAns, orderTyp, stewardTyp, State.stageBusy, keyTouch]
  have hcand : decideCand [s.cand ⟨0, plcaFrame⟩] (s, []) (s.cand ⟨0, plcaFrame⟩) = (s.plcaPut, [(0, {})]) :=
    decideCand_sole (c := s.cand ⟨0, plcaFrame⟩) (r := (s.plcaPut, {})) rfl rfl rfl Nat.zero_ne_one
  have horders : decideOrders (s, []) [⟨0, plcaFrame⟩] = (s.plcaPut, [(0, {})]) := by
    have hsame : (s.cand ⟨0, plcaFrame⟩).i.f.order = plcaFrame.order := rfl
    have hlast : opensLast plcaFrame.order = false := rfl
    simp [decideOrders, decideAdmit, plcaFrame_plain.lease, plcaFrame_plain.read, hadmit, State.arbLast_sole, hsame, hlast, hcand]
  rw [State.decide_plcaNext, items, items, decideSteps_plain (i := ⟨0, plcaFrame⟩) plcaFrame_plain rfl hpre hover hlost, horders]
  rfl

/-- The state whose queue a tick has taken up. -/
def State.emptied (s : State) : State := { s with mgt := { s.mgt with rxq := [] } }

/-- The scan of the touch keys changes nothing that the decision looks at. -/
theorem State.decide_scanned {s : State} (hfeat : hasBit (s.host 0).feat 0 = true) (hholdup : s.holdup = false)
    (hsteward : s.isSteward 0 = true) (hover : s.leaseOver = false) (hlost : s.lease.lost = false) :
    (s.tchScan.emptied.decide [plcaFrame]).mgt.plcaNext = some 1 := by
  have hscan := State.tchScan_keeps s
  have hlease : s.tchScan.emptied.lease = s.lease := hscan.lease rfl
  have htim : s.tchScan.emptied.tim = s.tim := hscan.tim rfl
  have hhost : s.tchScan.host 0 = s.host 0 := congrArg (fun m : Mgt => m.hosts.get {} ⟨0, 0, 0⟩) (hscan.mgt rfl)
  have hbit : hasBit (s.tchScan.host 0).feat 0 = true := hhost ▸ hfeat
  refine State.decide_plcaFrame hbit ((hscan.flag F.AON_PIN_PHASE_HOLDUP 0 0 rfl rfl).trans hholdup) ?_ ?_ (hlease ▸ hlost)
  · rw [State.isSteward, hlease]
    exact hsteward
  · rw [State.leaseOver, hlease, htim]
    exact hover

/-- The state of a tick before its scan of the touch keys. -/
def State.ticking (s : State) : State :=
  s.plcaApply.mailTick.clockTick.packTick.estTick.waitTick.riseWatch.seqTick.closeTick.restoreNext

theorem plcaWaits_ticking_rxq : plcaWaits.recsIn.ticking.tchScan.mgt.rxq = [plcaFrame] :=
  (congrArg Mgt.rxq ((State.tchScan_keeps _).mgt rfl)).trans (by decide +kernel)

/-- The write still waits when its tick is over. -/
theorem plcaWaits_tick : plcaWaits.recsIn.tick.mgt.plcaNext = some 1 := by
  have htick : plcaWaits.recsIn.tick =
      (plcaWaits.recsIn.ticking.tchScan.emptied.decide plcaWaits.recsIn.ticking.tchScan.mgt.rxq).delivery.idleCutEnd.heldAnew := rfl
  rw [htick, (State.heldAnew_keeps _).plcaNext rfl, (State.idleCutEnd_keeps _).plcaNext rfl, (State.delivery_keeps _).plcaNext rfl,
    plcaWaits_ticking_rxq]
  exact State.decide_scanned (by decide +kernel) (by decide +kernel) (by decide +kernel) (by decide +kernel) (by decide +kernel)

/-- Refutes O33, in its third clause: the write that the tick decides waits after it. -/
theorem not_tickAndFrameRowsTakeEffect : ¬ Obligations.TickAndFrameRowsTakeEffect := by
  rintro ⟨-, -, htick, -⟩
  obtain ⟨t, hexec, -, -, hnone⟩ := htick plcaWaits (by decide +kernel)
  have hwaits : (plcaWaits.acts fun a => a.tick).mgt.plcaNext = some 1 :=
    ((State.acts_keeps_action (fun a => a.tick) (by decide +kernel)).plcaNext rfl).trans plcaWaits_tick
  have heq : exec .decisionTick plcaWaits = .next (plcaWaits.acts fun a => a.tick) := rfl
  injection hexec.symm.trans heq with hsame
  rw [hsame, hwaits] at hnone
  cases hnone

end Sys2Proof.Machine

/-! PROOFS. Frames of the Milk chain (16 R414, R421).  The place behind the last monitor is the far end: a frame that reaches it has
come back, and reaches no monitor there. -/
namespace Sys2Proof.Machine

/-- A chain without a monitor. -/
def emptyLine : MilkLine := ⟨0, 0, none, 0⟩

/-- SLEEP is due, and a monitor is awake at position 1, where no chain leads. -/
def wakefulMonitor : State := { pow := { phase := .s }, herd := { sleepDue := true, mons := ⟨[(⟨1, 0, 0⟩, { awake := true })]⟩ } }

/-- Whether the monitor at position 1 is awake in what a command answers. -/
def awakeAfter : Result → Option Bool
  | .next t => some (t.mon 1).awake
  | _ => none

/-- Refutes O29, in its clause of SLEEP: the far end of an empty chain is position 1, where the frame comes back. -/
theorem not_chainRowsTakeEffect : ¬ Obligations.ChainRowsTakeEffect := by
  rintro ⟨-, -, -, -, -, -, -, -, -, -, -, -, -, -, -, hsleep, -⟩
  obtain ⟨t, hexec, -, hall⟩ := hsleep wakefulMonitor emptyLine emptyLine (by decide +kernel) (by decide +kernel)
  have hmon := hall ⟨rfl, rfl, rfl⟩ ⟨rfl, rfl, rfl⟩ 0 (by decide +kernel) (by decide +kernel)
  have hawake : awakeAfter (exec (.sleep emptyLine emptyLine) wakefulMonitor) = some true := by decide +kernel
  rw [hexec] at hawake
  have hasleep : awakeAfter (.next t) = some false := congrArg (fun m : Mon => some m.awake) hmon
  exact absurd (hawake.symm.trans hasleep) (by decide)

end Sys2Proof.Machine

/-! PROOFS. Conditions, break waits, sequences, coils and contacts (17 R465 to R468, 18 R480 to R486). -/
namespace Sys2Proof.Machine

/-! ### The records of a command keep the number of the last set of estimation records -/

theorem State.shadowed_setNo (s : State) (e : Ev) (d : Det) (sh : Shadow) : (s.shadowed e d sh).rcd.setNo = s.rcd.setNo := by
  unfold State.shadowed
  extract_lets b s1 first
  split <;> rfl

theorem State.event_setNo (s : State) (e : Ev) : (s.event e).rcd.setNo = s.rcd.setNo := by
  unfold State.event
  split
  · exact s.shadowed_setNo _ _ _
  · extract_lets b v b1 fid rs writes s1 s2 s3
    have h2 : s2.rcd.setNo = s.rcd.setNo := by
      unfold s2
      split <;> rfl
    have h3 : s3.rcd.setNo = s.rcd.setNo := (congrArg Rec.setNo ((State.notify_keeps ..).rcd rfl)).trans h2
    split
    · split
      · exact (congrArg Rec.setNo ((State.partEvent_keeps ..).rcd rfl)).trans h3
      · exact h3
    · exact h2

theorem State.overflows_setNo (n : Nat) (s : State) : (State.overflows n s).rcd.setNo = s.rcd.setNo := by
  induction n generalizing s with
  | zero => rfl
  | succ n ih => exact (ih _).trans (s.event_setNo _)

theorem State.recsTrim_setNo (n : Nat) (s : State) : (State.recsTrim n s).rcd.setNo = s.rcd.setNo := by
  induction n generalizing s with
  | zero => rfl
  | succ n ih =>
    rw [State.recsTrim]
    split
    · rfl
    · exact (ih _).trans (State.overflows_setNo _ _)

theorem State.recsOut_setNo (s : State) : s.recsOut.rcd.setNo = s.rcd.setNo := by
  unfold State.recsOut
  split
  · rfl
  · exact State.recsTrim_setNo 8 _

/-! ### Coils switched off -/

theorem State.setCoilI_keeps_coil (s : State) (c v d : Nat) : (s.setCoilI c v).coil d = s.coil d :=
  (State.setCoilI_keeps s c v).bit_eq rfl

theorem State.coilOff_coil (s : State) (c : Nat) {d : Nat} (hd : d < 4) : (s.coilOff c).coil d = if d = c then false else s.coil d := by
  unfold State.coilOff
  rw [State.setCoilI_keeps_coil]
  exact State.bit_putBitOf _ _ _ _ _ _ _ hd

theorem foldl_coilOff_coil (l : List Nat) (s : State) {d : Nat} (hd : d < 4) (h : d ∈ l ∨ s.coil d = false) :
    (l.foldl (fun a c => a.coilOff c) s).coil d = false := by
  induction l generalizing s with
  | nil => exact h.resolve_left (List.not_mem_nil)
  | cons c l ih =>
    refine ih _ ?_
    rw [State.coilOff_coil s c hd]
    by_cases hdc : d = c
    · exact .inr (if_pos hdc)
    · rw [if_neg hdc]
      exact h.imp_left fun hm => (List.mem_cons.mp hm).resolve_left hdc

/-- What follows the coils of an opening leaves them as they are. -/
theorem State.openCoils_coil (s : State) (mask cause : Nat) {d : Nat} (hd : d < 4) (hmask : hasBit mask d = true) :
    (s.openCoils mask cause).coil d = false := by
  unfold State.openCoils
  extract_lets on main i emerg s1 s2 s3
  have hon : hasBit on d = s.coil d := by
    unfold on
    rw [hasBit_maskOf]
    simp [hd, hmask]
  have h1 : s1.coil d = false := by
    refine foldl_coilOff_coil _ _ hd ?_
    by_cases hc : s.coil d = true
    · exact .inl (List.mem_filter.mpr ⟨List.mem_range.mpr hd, hon.trans hc⟩)
    · exact .inr (Bool.eq_false_iff.mpr hc)
  have h2 : s2.coil d = false := by
    refine Eq.trans ?_ h1
    exact ((State.bit_put_id _ _ _ _ _ _ _ (by decide)).trans (State.bit_putFlag_id _ _ _ _ _ _ _ (by decide))).trans
      ((State.bit_put_id _ _ _ _ _ _ _ (by decide)).trans (State.bit_put_id _ _ _ _ _ _ _ (by decide)))
  have h3 : s3.coil d = false := by
    unfold s3
    split
    · refine List.foldlRecOn (motive := fun a : State => a.coil d = false) _ _ ?_ fun a ha c _ =>
        (State.bit_put_id _ _ _ _ _ _ _ (by decide)).trans ha
      exact (State.gcSrc_keeps _ _).bit_trans rfl ((State.bit_putFlag_id _ _ _ _ _ _ _ (by decide)).trans h2)
    · exact h2
  split
  next h0 =>
    rw [← hon, h0]
    simp [hasBit]
  next =>
    exact List.foldlRecOn (motive := fun a : State => a.coil d = false) _ _ h3 fun a ha c _ => (State.ctrRec_keeps a 2).bit_trans rfl ha

/-! ### String isolate (R488, R493) -/

/-- The string is open: no coil of it is on, and no sequence stands. -/
structure StringOpen (t : State) : Prop where
  seq : t.seq = 0
  ctp : t.coil 0 = false
  ctn : t.coil 1 = false
  ctc : t.coil 2 = false

theorem StringOpen.keeps {M : Nat} {s t : State} (h : StringOpen s) (hk : Keeps M s t) (hseq : spares M F.CTR_STAT_SEQ = true)
    (hcoil : spares M F.CTR_STAT_COIL = true) : StringOpen t :=
  ⟨hk.fld_trans hseq h.seq, hk.bit_trans hcoil h.ctp, hk.bit_trans hcoil h.ctn, hk.bit_trans hcoil h.ctc⟩

/-- Battery assist follows the contactors in the service registers alone. -/
theorem State.assist_keeps (s : State) : Keeps (mask5 ||| mask55) s (s.withSvc fun a => a.assistSettle) :=
  State.withSvc_keeps rfl (Keeps.refl _ _) fun _ h => Keeps.step (State.assistSettle_keeps _) rfl h

theorem hasBit_string {x : Nat} {d : Nat} (hd : d < 3) : hasBit (7 + 8 * x) d = true := by
  have hlow : (7 + 8 * x) % 2 ^ 3 = 7 % 2 ^ 3 := by omega
  rw [hasBit_low hd hlow]
  match d, hd with
  | 0, _ => rfl
  | 1, _ => rfl
  | 2, _ => rfl

theorem State.isolate_opens (s : State) (cause fid : Nat) (all : Bool) :
    StringOpen (s.isolate cause fid all) ∧ (s.isolate cause fid all).ctr.wait = none := by
  unfold State.isolate
  extract_lets s0 runs any x s1 c s2 s3 s4
  have hcoil : ∀ d, d < 3 → s2.coil d = false := fun d hd => s0.openCoils_coil _ _ (by omega) (hasBit_string hd)
  have h2 : StringOpen (s2.put F.CTR_STAT_SEQ 0) := by
    refine ⟨State.fld_put_same .., ?_, ?_, ?_⟩ <;>
      exact (State.bit_put_id _ _ _ _ _ _ _ (by decide)).trans (hcoil _ (by decide))
  have hopened := State.estOpened_keeps (s2.put F.CTR_STAT_SEQ 0) cause
  have h3 : StringOpen s3 := h2.keeps hopened rfl rfl
  have hwait3 : s3.ctr.wait = none := congrArg Ctr.wait (hopened.ctr rfl)
  have h4 : StringOpen s4 ∧ s4.ctr.wait = none := by
    unfold s4
    split
    · exact ⟨h3.keeps (State.seqEnd_keeps _ _) rfl rfl, (congrArg Ctr.wait ((State.seqEnd_keeps _ _).ctr rfl)).trans hwait3⟩
    · exact ⟨h3, hwait3⟩
  exact ⟨h4.1.keeps (State.assist_keeps _) rfl rfl, (congrArg Ctr.wait ((State.assist_keeps _).ctr rfl)).trans h4.2⟩

theorem State.estOpened_overAt {s : State} (cause : Nat) (h : s.est.overAt = none) : (s.estOpened cause).est.overAt = none := by
  unfold State.estOpened
  extract_lets st
  split
  · exact h
  · split
    · rfl
    · exact h

theorem State.isolate_overAt {s : State} (cause fid : Nat) (all : Bool) (h : s.est.overAt = none) :
    (s.isolate cause fid all).est.overAt = none := by
  unfold State.isolate
  extract_lets s0 runs any x s1 c s2 s3 s4
  have h1 : s1.est.overAt = none := (congrArg Est.overAt ((State.openCoils_keeps _ _ _).est rfl)).trans
    ((congrArg Est.overAt ((State.declareShadow_keeps s 4 0 fid isolateDets).est rfl)).trans h)
  have h3 : s3.est.overAt = none := State.estOpened_overAt cause h1
  have h4 : s4.est.overAt = none := by
    unfold s4
    split
    · exact (congrArg Est.overAt ((State.seqEnd_keeps _ _).est rfl)).trans h3
    · exact h3
  exact (congrArg Est.overAt ((State.assist_keeps _).est rfl)).trans h4

theorem State.isolateWait_overAt {s : State} (cause fid : Nat) (h : s.est.overAt = none) :
    (s.isolateWait cause fid).est.overAt = none := by
  unfold State.isolateWait
  split
  · exact h
  · split
    · exact h
    · exact State.isolate_overAt cause fid false h

/-! ### Sequences that fail, and welds (R484, R485) -/

/-- What a failed pre-charge changes after its sequence has ended. -/
abbrev prechargeMask : Nat := mask3 ||| 0x400000 ||| 1 <<< (32 + F.CTR_EVT_PC_FAIL.id) ||| 1 <<< (32 + F.CTR_STAT_COOL.id) |||
  1 <<< (32 + F.CTR_STAT_PC_LOCK.id)

theorem State.seqEnd_result (s : State) (result : Nat) :
    (s.seqEnd result).fld F.CTR_SEQ_RES_RESULT = result % 2 ^ F.CTR_SEQ_RES_RESULT.width := by
  unfold State.seqEnd
  extract_lets d s1 s2
  refine (State.notify_keeps ..).fld_trans rfl ((State.ctrRec_keeps _ _).fld_trans rfl ?_)
  rw [State.fld_put_id _ _ _ _ _ _ (by decide), State.fld_put_same]

theorem State.seqFail_effect (s : State) (result cause : Nat) :
    StringOpen (s.seqFail result cause) ∧ (s.seqFail result cause).fld F.CTR_SEQ_RES_RESULT = result % 2 ^ F.CTR_SEQ_RES_RESULT.width ∧
      (4 ≤ result → result ≤ 6 → (s.seqFail result cause).flag F.CTR_STAT_COOL = true) := by
  unfold State.seqFail
  extract_lets s1 s2 s4 n c a s5
  have hcoil : ∀ d, d < 3 → s1.coil d = false := fun d hd => s.openCoils_coil _ _ (by omega) (hasBit_string (x := 0) hd)
  have h2 : StringOpen s2 := by
    refine ⟨State.fld_put_same .., ?_, ?_, ?_⟩ <;>
      exact (State.bit_put_id _ _ _ _ _ _ _ (by decide)).trans (hcoil _ (by decide))
  have ha : Keeps prechargeMask s4 a := .putFlag rfl (.putFlag rfl (.setCtr _ rfl (.refl _ _)))
  have hcool : a.flag F.CTR_STAT_COOL = true := State.flag_putFlag _ _ _ _ _ (by decide)
  have h5 : Keeps prechargeMask s4 s5 ∧ (4 ≤ result → result ≤ 6 → s5.flag F.CTR_STAT_COOL = true) := by
    unfold s5
    split
    · refine ⟨.step (State.ctrEv_keeps ..) rfl ?_, fun _ _ => (State.ctrEv_keeps ..).flag_trans rfl ?_⟩ <;> split
      · exact .putFlag rfl ha
      · exact ha
      · exact (State.flag_putFlag_id _ _ _ _ _ _ (by decide)).trans hcool
      · exact hcool
    next hno =>
      refine ⟨.refl _ _, fun hlo hhi => absurd ?_ hno⟩
      simp [hlo, hhi]
  have hassist := State.assist_keeps s5
  exact ⟨((h2.keeps (State.seqEnd_keeps _ _) rfl rfl).keeps h5.1 rfl rfl).keeps hassist rfl rfl,
    hassist.fld_trans rfl (h5.1.fld_trans rfl (s2.seqEnd_result result)),
    fun hlo hhi => hassist.flag_trans rfl (h5.2 hlo hhi)⟩

theorem State.weld_effect (s : State) {c : Nat} (hc : c < 4) :
    (s.weld c).bit F.CTR_EVT_WELD c = true ∧ (s.weld c).flag F.CTR_STAT_WELD_LATCH = true := by
  unfold State.weld
  extract_lets s1
  have hbit : s1.bit F.CTR_EVT_WELD c = true :=
    (State.ctrEv_keeps ..).bit_trans rfl ((State.bit_putFlag_id _ _ _ _ _ _ _ (by decide)).trans (State.bit_putBitOf_same _ _ _ _ hc))
  have hlatch : s1.flag F.CTR_STAT_WELD_LATCH = true := (State.ctrEv_keeps ..).flag_trans rfl (State.flag_putFlag _ _ _ _ _ (by decide))
  split
  · exact ⟨hbit, hlatch⟩
  · exact ⟨(State.isolate_keeps ..).bit_trans rfl hbit, (State.isolate_keeps ..).flag_trans rfl hlatch⟩

/-- A weld of a contactor of the string opens it. -/
theorem State.weld_opens (s : State) {c : Nat} (hc : c ≠ 3) : StringOpen (s.weld c) := by
  unfold State.weld
  extract_lets s1
  rw [if_neg fun h => hc h.1]
  exact (s1.isolate_opens 10 _ true).1

theorem State.seqWeld_effect (s : State) (result : Nat) {c : Nat} (hc : c < 3) :
    StringOpen (s.seqWeld result c) ∧ (s.seqWeld result c).flag F.CTR_STAT_WELD_LATCH = true :=
  ⟨State.weld_opens _ (by omega), (State.weld_effect _ (by omega)).2⟩

/-! ### The rows -/

theorem State.condConfirm_effect {s : State} {n : Nat} (hn : n < 21) (hsince : (s.cond n).since.isSome = true)
    (hconf : s.bit F.EST_COND_CONF_CONF n = false) (hdue : n = 20 ∨ s.condDue n = true) :
    (s.condConfirm n).bit F.EST_COND_CONF_CONF n = true ∧ (s.condConfirm n).bit F.EST_COND_EVT_EVT n = true := by
  unfold State.condConfirm
  rw [if_pos (by simpa [hsince, hconf] using hdue)]
  have hreact := State.condReact_keeps (M := mask138)
    (x := ((s.putBitOf F.EST_COND_CONF_CONF n true).putBitOf F.EST_COND_EVT_EVT n true, [n])) rfl (.refl _ _)
  exact ⟨hreact.bit_trans rfl ((State.bit_putBitOf_id _ _ _ _ _ _ _ _ (by decide)).trans (State.bit_putBitOf_same _ _ _ _ hn)),
    hreact.bit_trans rfl (State.bit_putBitOf_same _ _ _ _ hn)⟩

theorem State.brkExpiry_effect {s : State} {cause at_ : Nat} (hwait : s.ctr.wait = some (cause, at_)) :
    StringOpen s.brkExpiry ∧ s.brkExpiry.ctr.wait = none ∧
      s.brkExpiry.fld F.EST_CNT_BRK_FORCED = addSat 8 (s.fld F.EST_CNT_BRK_FORCED) 1 := by
  unfold State.brkExpiry
  rw [hwait]
  obtain ⟨hopen, hnone⟩ := (s.count F.EST_CNT_BRK_FORCED).isolate_opens cause s.ctr.waitFid false
  exact ⟨hopen, hnone, (State.isolate_keeps ..).fld_trans rfl (State.fld_count ..)⟩

theorem State.softDisc_effect (s : State) (n : Nat) (hstate : s.fld F.EST_DISC_STATE = 4) (hover : s.est.overAt = none) :
    (s.softDisc n).fld F.EST_DISC_CAUSE = n % 2 ^ F.EST_DISC_CAUSE.width ∧
      (s.softDisc n).fld F.EST_CNT_SOFT_DISC = addSat 16 (s.fld F.EST_CNT_SOFT_DISC) 1 ∧ (s.softDisc n).est.overAt = none := by
  unfold State.softDisc
  extract_lets s1 s2 s3
  have hstate1 : s1.fld F.EST_DISC_STATE = 4 := (State.fld_put_id _ _ _ _ _ _ (by decide)).trans hstate
  have hcause : s2.fld F.EST_DISC_CAUSE = n % 2 ^ F.EST_DISC_CAUSE.width := State.fld_put_same ..
  have hcount : s2.fld F.EST_CNT_SOFT_DISC = addSat 16 (s.fld F.EST_CNT_SOFT_DISC) 1 :=
    (State.fld_put_id _ _ _ _ _ _ (by decide)).trans (State.fld_count ..)
  have hev : ∀ v, Keeps (mask3 ||| 1 <<< (32 + F.EST_DISC_STATE.id)) s2 ((s2.put F.EST_DISC_STATE v).estEv 0x03 lDegrade n) := fun v =>
    .step (State.estEv_keeps ..) rfl (.put rfl (.refl _ _))
  rw [if_neg (by rw [hstate1]; decide)]
  split
  · have hwait := State.isolateWait_keeps s3 4 (s3.lastFid bEST 0)
    exact ⟨hwait.fld_trans rfl ((hev 1).fld_trans rfl hcause), hwait.fld_trans rfl ((hev 1).fld_trans rfl hcount),
      State.isolateWait_overAt _ _ ((congrArg Est.overAt ((hev 1).est rfl)).trans hover)⟩
  · exact ⟨(hev 2).fld_trans rfl hcause, (hev 2).fld_trans rfl hcount, (congrArg Est.overAt ((hev 2).est rfl)).trans hover⟩

theorem State.chargeOver_effect {s : State} (hstate : s.fld F.EST_DISC_STATE = 4) :
    s.chargeOver.fld F.EST_DISC_CAUSE = 3 ∧ s.chargeOver.fld F.EST_CNT_SOFT_DISC = addSat 16 (s.fld F.EST_CNT_SOFT_DISC) 1 ∧
      s.chargeOver.est.overAt = none := by
  unfold State.chargeOver
  rw [if_pos hstate]
  exact State.softDisc_effect _ 3 hstate rfl

/-- What a tick sees of V_bus leaves the test window as it is. -/
theorem State.riseWatch_window (s : State) : s.riseWatch.ctr.auxAt = s.ctr.auxAt ∧ s.riseWatch.ctr.passed = s.ctr.passed ∧
    (s.ctr.risen = true → s.riseWatch.ctr.risen = true) := by
  unfold State.riseWatch
  extract_lets soon c c'
  split
  · exact ⟨rfl, rfl, fun h => by simp [c', h]⟩
  · exact ⟨rfl, rfl, id⟩

/-- A step whose weld tests are informative passes by its window. -/
theorem State.windowEnd_skips {s : State} (hseq : s.seq = 1 ∨ s.seq = 3) (haux : s.ctr.auxAt.isSome = true)
    (hpassed : s.ctr.passed = false) (hskip : s.flag F.CTR_SEQ_RES_WELD_SKIP = true) :
    s.windowEnd.ctr.passed = true ∧ s.windowEnd.seq = s.seq := by
  have hwatch := s.riseWatch_keeps
  have hseq' : s.riseWatch.seq = s.seq := hwatch.fld_eq rfl
  obtain ⟨haux', hpassed', -⟩ := s.riseWatch_window
  unfold State.windowEnd
  simp only [hseq', haux', haux, hpassed', hpassed, hwatch.flag_trans rfl hskip, Bool.true_or, if_true]
  rw [if_pos ⟨hseq, trivial, trivial⟩]
  exact ⟨rfl, hseq'⟩

/-- One whose voltage has risen has found a weld. -/
theorem State.windowEnd_welded {s : State} (hseq : s.seq = 1 ∨ s.seq = 3) (haux : s.ctr.auxAt.isSome = true)
    (hpassed : s.ctr.passed = false) (hskip : s.flag F.CTR_SEQ_RES_WELD_SKIP = false) (hrisen : s.ctr.risen = true) :
    StringOpen s.windowEnd ∧ s.windowEnd.flag F.CTR_STAT_WELD_LATCH = true := by
  have hwatch := s.riseWatch_keeps
  have hseq' : s.riseWatch.seq = s.seq := hwatch.fld_eq rfl
  obtain ⟨haux', hpassed', hrisen'⟩ := s.riseWatch_window
  unfold State.windowEnd
  simp only [hseq', haux', haux, hpassed', hpassed, hwatch.flag_trans rfl hskip, hrisen' hrisen, Bool.not_true, Bool.or_self, Bool.false_eq_true,
    if_false]
  rw [if_pos ⟨hseq, trivial, trivial⟩]
  split
  · exact State.seqWeld_effect _ 7 (by decide)
  · split
    · exact State.seqWeld_effect _ 8 (by decide)
    · exact State.seqWeld_effect _ 9 (by decide)

theorem State.peakEnd_effect {s : State} {c : Nat} (hpeak : hasBit s.ctr.peak c = true) :
    hasBit (s.peakEnd c).ctr.peak c = false ∧ (s.peakEnd c).freeIx = s.freeIx + 1 := by
  unfold State.peakEnd
  rw [if_pos hpeak]
  extract_lets f u x
  have hcoil := State.setCoilI_keeps { f.2 with ctr := { x with peak := putBit x.peak c false } } c (30 + f.1 % 6)
  refine ⟨(congrArg (fun y : Ctr => hasBit y.peak c) (hcoil.ctr rfl)).trans ?_, (hcoil.freeIx rfl).trans rfl⟩
  exact (hasBit_putBit _ _ _ _).trans (if_pos rfl)

/-- What follows the event of a coil fault opens coils alone. -/
theorem State.coilFault_effect {s : State} {c : Nat} (hc : c < 4) (short : Bool) (hcoil : s.coil c = true) :
    (s.coilFault c short).coil c = false ∧
      (s.coilFault c short).flag (if short then F.CTR_EVT_COIL_SHORT else F.CTR_EVT_COIL_OPEN) = true := by
  unfold State.coilFault
  rw [if_pos hcoil]
  extract_lets s1 str s2 s3
  have h1 : s1.flag (if short then F.CTR_EVT_COIL_SHORT else F.CTR_EVT_COIL_OPEN) = true := by
    unfold s1
    cases short <;> exact State.flag_putFlag _ _ _ _ _ (by decide)
  have h3 : s3.flag (if short then F.CTR_EVT_COIL_SHORT else F.CTR_EVT_COIL_OPEN) = true ∧ (c ≠ 3 → s3.coil c = false) := by
    have h2 : s2.flag (if short then F.CTR_EVT_COIL_SHORT else F.CTR_EVT_COIL_OPEN) = true :=
      (State.ctrEv_keeps ..).flag_trans (by cases short <;> rfl) h1
    unfold s3
    split
    · refine ⟨(State.isolate_keeps ..).flag_trans (by cases short <;> rfl) h2, fun hne => ?_⟩
      obtain ⟨hopen, -⟩ := s2.isolate_opens 10 (s2.lastFid bCTR 0) false
      match c, hc, hne with
      | 0, _, _ => exact hopen.ctp
      | 1, _, _ => exact hopen.ctn
      | 2, _, _ => exact hopen.ctc
      | 3, _, h => exact absurd rfl h
    next hno =>
      refine ⟨h2, fun hne => absurd ?_ hno⟩
      simp [str, hne]
  split
  next h =>
    exact ⟨h ▸ s3.openCoils_coil 8 10 (by decide) (by decide), (State.openCoils_keeps ..).flag_trans (by cases short <;> rfl) h3.1⟩
  next hne => exact ⟨h3.2 hne, h3.1⟩

theorem State.auxMismatch_effect {s : State} {c : Nat} (hc : c < 4) (hdiff : s.aux c ≠ s.coil c) :
    (s.auxMismatch c).bit F.CTR_EVT_AUX_MIS c = true ∧ (s.auxMismatch c).aux c = s.aux c := by
  refine ⟨?_, (s.auxMismatch_keeps c).bit_eq rfl⟩
  unfold State.auxMismatch
  rw [if_neg hdiff]
  extract_lets s1
  have h1 : s1.bit F.CTR_EVT_AUX_MIS c = true := (State.ctrEv_keeps ..).bit_trans rfl (State.bit_putBitOf_same _ _ _ _ hc)
  split
  · exact (State.seqFail_keeps ..).bit_trans rfl h1
  · split
    · exact (State.openCoils_keeps ..).bit_trans rfl h1
    · exact h1

theorem State.weldCheck_effect {s : State} {c : Nat} (hc : c < 4) (haux : s.aux c = true) (hcoil : s.coil c = false) :
    (s.weldCheck c).bit F.CTR_EVT_WELD c = true ∧ (s.weldCheck c).flag F.CTR_STAT_WELD_LATCH = true := by
  unfold State.weldCheck
  rw [if_pos (by simp [haux, hcoil])]
  split
  · exact State.weld_effect _ hc
  · exact State.weld_effect _ hc

theorem State.doubleWeld_effect {s : State} (hcheck : s.ctr.check = true) :
    s.doubleWeld.ctr.check = false ∧
      (2000 < s.iNow.natAbs → s.doubleWeld.ctr.dw = true ∧ s.doubleWeld.flag F.CTR_EVT_DOUBLE_WELD = true) := by
  unfold State.doubleWeld
  rw [if_pos hcheck]
  extract_lets c s1 c1
  split
  · exact ⟨congrArg Ctr.check ((State.ctrEv_keeps ..).ctr rfl), fun _ =>
      ⟨congrArg Ctr.dw ((State.ctrEv_keeps ..).ctr rfl), (State.ctrEv_keeps ..).flag_trans rfl (State.flag_putFlag _ _ _ _ _ (by decide))⟩⟩
  next hno => exact ⟨rfl, fun h => absurd h hno⟩

/-- A dropout of a connected string opens it, unless its detector is shadowed. -/
theorem State.dropout_effect {s : State} (hseq : s.seq = 7 ∨ s.seq = 8) :
    s.dropout.flag F.CTR_EVT_DROPOUT = true ∧ (s.shadowOf ⟨bCTR, 0, 0x06⟩ = none → StringOpen s.dropout) ∧
      ((s.shadowOf ⟨bCTR, 0, 0x06⟩).isSome = true →
        s.dropout.seq = s.seq ∧ s.dropout.fld F.CTR_STAT_COIL = s.fld F.CTR_STAT_COIL) := by
  unfold State.dropout State.dropoutWith
  rw [if_pos hseq]
  extract_lets s1 s2
  have hev : Keeps (mask3 ||| 1 <<< (32 + F.CTR_EVT_DROPOUT.id)) s s1 := .step (State.ctrEv_keeps ..) rfl (.putFlag rfl (.refl _ _))
  have hflag : s1.flag F.CTR_EVT_DROPOUT = true := (State.ctrEv_keeps ..).flag_trans rfl (State.flag_putFlag _ _ _ _ _ (by decide))
  cases hshadow : s.shadowOf ⟨bCTR, 0, 0x06⟩ with
  | none =>
    simp only [Option.isSome_none, Bool.false_eq_true, if_false]
    exact ⟨(State.isolate_keeps ..).flag_trans rfl hflag, fun _ => (s2.isolate_opens 11 _ false).1, fun h => h.elim⟩
  | some e => exact ⟨hflag, fun h => (by cases h), fun _ => ⟨hev.fld_eq rfl, hev.fld_eq rfl⟩⟩

theorem State.auxChange_aux (s : State) {c : Nat} (hc : c < 4) (closed : Bool) : (s.auxChange c closed).aux c = closed := by
  unfold State.auxChange
  extract_lets s0 s2 s1
  have h0 : s0.aux c = closed := State.bit_putBitOf_same _ _ _ _ hc
  have h2 : s2.aux c = closed := by
    unfold s2
    split
    · exact (State.closed_keeps ..).bit_trans rfl h0
    · exact h0
  have h1 : s1.aux c = closed := by
    unfold s1
    split
    · exact (State.dropoutWith_keeps (M := mask100 ||| mask101) rfl (.refl _ _) fun _ h => .step (State.auxLate_keeps ..) rfl h).bit_trans rfl h2
    · exact (State.auxLate_keeps ..).bit_trans rfl h2
  split
  · split
    · exact h1
    · exact h1
  · exact h1

theorem State.auxPin_aux (s : State) {c : Nat} (hc : c < 4) (closed : Bool) : (s.auxPin c closed).aux c = closed := by
  unfold State.auxPin
  split
  · exact s.auxChange_aux hc closed
  · exact State.bit_putBitOf_same _ _ _ _ hc

/-- Settles O31: what each row's action leaves, its end keeps. -/
theorem contactorRowsTakeEffect : Obligations.ContactorRowsTakeEffect := by
  have hacts : ∀ {s : State} (f : State → State), s.up = true → Keeps mask4 (f s.recsIn) (s.acts f) := fun f h =>
    State.acts_keeps_action f h
  have hctr : ∀ {s t : State}, Keeps mask4 s t → t.ctr = s.ctr := fun h => h.ctr rfl
  refine ⟨fun s n hup hsince hconf hdue => ⟨_, rfl, ?_⟩, fun s cause at_ hup hwait => ⟨_, rfl, ?_⟩, fun s hup hstate => ⟨_, rfl, ?_⟩,
    fun s hup => ⟨_, rfl, ?_⟩, fun s c closed => ⟨_, rfl, ?_⟩, fun s hup hseq haux hpassed hskip => ⟨_, rfl, ?_⟩,
    fun s hup hseq haux hpassed hskip hrisen => ⟨_, rfl, ?_⟩, fun s hup hseq hstep => ⟨_, rfl, ?_⟩, fun s c hup hpeak => ⟨_, rfl, ?_⟩,
    fun s c hup hcoil => ⟨⟨_, rfl, ?_⟩, ⟨_, rfl, ?_⟩⟩, fun s c hup hdiff => ⟨_, rfl, ?_⟩, fun s c hup haux hcoil => ⟨_, rfl, ?_⟩,
    fun s hup hcheck => ⟨_, rfl, ?_⟩, fun s hup hseq => ⟨_, rfl, ?_⟩, fun s hup => ⟨_, rfl, ?_⟩⟩
  · have hk := hacts (fun a => a.condConfirm n) hup
    obtain ⟨hset, hevt⟩ := State.condConfirm_effect (s := s.recsIn) n.isLt hsince hconf hdue
    exact ⟨hk.bit_trans rfl hset, hk.bit_trans rfl hevt⟩
  · have hk := hacts (fun a => a.brkExpiry) hup
    obtain ⟨hopen, hnone, hcount⟩ := State.brkExpiry_effect (s := s.recsIn) hwait
    have hopen' := hopen.keeps hk rfl rfl
    exact ⟨hopen'.seq, hopen'.ctp, hopen'.ctn, hopen'.ctc, (congrArg Ctr.wait (hctr hk)).trans hnone, hk.fld_trans rfl hcount⟩
  · have hk := hacts (fun a => a.chargeOver) hup
    obtain ⟨hcause, hcount, hover⟩ := State.chargeOver_effect (s := s.recsIn) hstate
    exact ⟨hk.fld_trans rfl hcause, hk.fld_trans rfl hcount, (congrArg Est.overAt (hk.est rfl)).trans hover⟩
  · unfold State.offers
    rw [if_pos hup]
    exact State.recsOut_setNo _
  · exact (State.atPins_keeps_action s fun a => a.auxPin c closed).bit_trans rfl (s.recsIn.auxPin_aux c.isLt closed)
  · have hk := hacts (fun a => a.windowEnd) hup
    obtain ⟨hpass, hsame⟩ := State.windowEnd_skips (s := s.recsIn) hseq haux hpassed hskip
    exact ⟨(congrArg Ctr.passed (hctr hk)).trans hpass, hk.fld_trans rfl hsame⟩
  · have hk := hacts (fun a => a.windowEnd) hup
    obtain ⟨hopen, hlatch⟩ := State.windowEnd_welded (s := s.recsIn) hseq haux hpassed hskip hrisen
    have hopen' := hopen.keeps hk rfl rfl
    exact ⟨hopen'.seq, hk.flag_trans rfl hlatch, hopen'.ctp, hopen'.ctn, hopen'.ctc⟩
  · have hk := hacts (fun a => a.pcTimeout) hup
    have hfail : s.recsIn.pcTimeout = s.recsIn.seqFail 4 9 := if_pos ⟨hseq, hstep⟩
    obtain ⟨hopen, hresult, hcool⟩ := s.recsIn.seqFail_effect 4 9
    rw [← hfail] at hopen hresult hcool
    have hopen' := hopen.keeps hk rfl rfl
    exact ⟨hopen'.seq, hk.fld_trans rfl hresult, hk.flag_trans rfl (hcool (by decide) (by decide)), hopen'.ctp, hopen'.ctn, hopen'.ctc⟩
  · rw [State.runs_up hup]
    exact State.peakEnd_effect hpeak
  · have hk := hacts (fun a => a.coilFault c true) hup
    obtain ⟨hoff, hflag⟩ := State.coilFault_effect (s := s.recsIn) c.isLt true hcoil
    exact ⟨hk.bit_trans rfl hoff, hk.flag_trans rfl hflag⟩
  · have hk := hacts (fun a => a.coilFault c false) hup
    obtain ⟨hoff, hflag⟩ := State.coilFault_effect (s := s.recsIn) c.isLt false hcoil
    exact ⟨hk.bit_trans rfl hoff, hk.flag_trans rfl hflag⟩
  · have hk := hacts (fun a => a.auxMismatch c) hup
    obtain ⟨hbit, haux⟩ := State.auxMismatch_effect (s := s.recsIn) c.isLt hdiff
    exact ⟨hk.bit_trans rfl hbit, hk.bit_trans rfl haux⟩
  · have hk := hacts (fun a => a.weldCheck c) hup
    obtain ⟨hbit, hlatch⟩ := State.weldCheck_effect (s := s.recsIn) c.isLt haux hcoil
    exact ⟨hk.bit_trans rfl hbit, hk.flag_trans rfl hlatch⟩
  · have hk := State.offers_keeps_action (fun a => a.doubleWeld) hup
    obtain ⟨hdone, hdw⟩ := State.doubleWeld_effect (s := s.recsIn) hcheck
    exact ⟨(congrArg Ctr.check (hctr hk)).trans hdone, fun h => ⟨(congrArg Ctr.dw (hctr hk)).trans (hdw h).1, hk.flag_trans rfl (hdw h).2⟩⟩
  · have hk := hacts (fun a => a.dropout) hup
    obtain ⟨hflag, hopen, hkept⟩ := State.dropout_effect (s := s.recsIn) hseq
    refine ⟨hk.flag_trans rfl hflag, fun h => ?_, fun h => ⟨hk.fld_trans rfl (hkept h).1, hk.fld_trans rfl (hkept h).2⟩⟩
    have hopen' := (hopen h).keeps hk rfl rfl
    exact ⟨hopen'.seq, hopen'.ctp, hopen'.ctn, hopen'.ctc⟩
  · rw [State.runs_up hup]
    exact State.flag_putFlag _ _ _ _ _ (by decide)

end Sys2Proof.Machine

/-! PROOFS. The laser source cartridge (07 R168 to R184).  A status word can bring an event of the cartridge to HALT, which takes the
lasers off (21 Table 21-4) before the frame that it came with completes. -/
namespace Sys2Proof.Machine

/-- Engine 0 is on, bank 0 with it; an event of type 0x05 has yet to be acknowledged, and a read of `CAR_CTL` is under way. -/
def banksRead : State :=
  State.put { pow := { phase := .s, pd := ⟨[(⟨10, 0, 0⟩, .on), (⟨14, 0, 0⟩, .on)]⟩ }
              flt := ⟨[(⟨bLSC, 0, 0⟩, { unack := 2 ^ 5 })]⟩
              lsc := { frame := some (false, 0x10, 0) } } F.LSC_STAT_BANK_ON 1

/-- What the register window shows in what a command answers. -/
def windowAfter : Result → Option Nat
  | .next t => some (t.fld F.LSC_WIN_DATA)
  | _ => none

/-- Refutes O24, in its fifth clause: the bank has gone dark when the frame shows the register. -/
theorem not_cartridgeRowsTakeEffect : ¬ Obligations.CartridgeRowsTakeEffect := by
  rintro ⟨-, -, -, -, hread, -⟩
  obtain ⟨t, hexec, -, hbanks, -⟩ := hread banksRead 1 0 0x10 0 (by decide +kernel) (by decide +kernel) (by decide +kernel)
  have hdark : windowAfter (exec (.lscFrameDone 1 0) banksRead) = some 0 := by decide +kernel
  rw [hexec] at hdark
  have hlit : banksRead.fld F.LSC_STAT_BANK_ON % 2 ^ 16 = 1 := by decide +kernel
  have hshown : windowAfter (.next t) = some 1 := congrArg some ((hbanks rfl (by decide)).trans hlit)
  exact absurd (hdark.symm.trans hshown) (by decide)

end Sys2Proof.Machine

/-! PROOFS. How a port moves between its states, and what it keeps as it does (06 R126, R134 to R139). -/
namespace Sys2Proof.Machine

/-! ### Reports leave the ports -/

theorem Keeps.port {M : Nat} {s t : State} (h : Keeps M s t) (hM : M.testBit 8 = false) (k : Nat) : t.port k = s.port k := by
  unfold State.port
  rw [h.ports hM]

theorem Keeps.ring {M : Nat} {s t : State} (h : Keeps M s t) (hM : M.testBit 9 = false) (k : Nat) (rx : Bool) (n : Nat) :
    t.ring k rx n = s.ring k rx n := by
  unfold State.ring
  rw [h.rings hM]

theorem State.partOfBlock_eq_none (s : State) {code : Nat} (inst : Nat) (h : code ≠ bPC ∧ code ≠ bTIL) : s.partOfBlock code inst = none := by
  unfold State.partOfBlock
  rw [if_neg h.1, if_neg h.2]

theorem State.event_ports (s : State) {e : Ev} (h : e.code ≠ bPC ∧ e.code ≠ bTIL) : (s.event e).ports = s.ports := by
  unfold State.event
  split
  · exact (State.shadowed_keeps ..).ports rfl
  · extract_lets b v b1 fid rs writes s1 s2 s3
    have h2 : s2.ports = s.ports := by
      unfold s2
      split
      · exact (State.offer_keeps s1 _ _ _ _).ports rfl
      · rfl
    split
    · rw [State.partOfBlock_eq_none _ _ h]
      exact ((State.notify_keeps ..).ports rfl).trans h2
    · exact h2

theorem State.lnkEv_port (s : State) (k typ lvl n : Nat) : (s.lnkEv k typ lvl).port n = s.port n := by
  unfold State.port
  rw [State.lnkEv, State.event_ports _ (by decide : bLNK ≠ bPC ∧ bLNK ≠ bTIL)]

theorem State.overflows_ports (n : Nat) (s : State) : (State.overflows n s).ports = s.ports := by
  induction n generalizing s with
  | zero => rfl
  | succ n ih => exact (ih _).trans (s.event_ports (by decide))

theorem State.recsTrim_ports (n : Nat) (s : State) : (State.recsTrim n s).ports = s.ports := by
  induction n generalizing s with
  | zero => rfl
  | succ n ih =>
    rw [State.recsTrim]
    split
    · rfl
    · exact (ih _).trans (State.overflows_ports _ _)

theorem State.recsOut_ports (s : State) : s.recsOut.ports = s.ports := by
  unfold State.recsOut
  split
  · rfl
  · exact State.recsTrim_ports 8 _

theorem State.acts_port {s : State} (f : State → State) (hup : s.up = true) (k : Nat) : (s.acts f).port k = (f s.recsIn).port k := by
  unfold State.acts State.port
  rw [if_pos hup, State.recsOut_ports]
  exact congrArg (fun p : Tab Port => p.get {} ⟨k, 0, 0⟩) ((State.serviced_keeps rfl (Keeps.refl mask6 (f s.recsIn))).ports rfl)

theorem State.acts_lnk {s : State} (f : State → State) (hup : s.up = true) (k : Nat) : (s.acts f).lnk k = (f s.recsIn).lnk k :=
  (State.acts_keeps_action f hup).fld_eq rfl

/-! ### A step on a port begins -/

@[simp] theorem State.lmClear_port (s : State) (k : Nat) : (s.lmClear k).port k = { s.port k with lmOut := [] } := s.setPort_port _ _
@[simp] theorem State.lm_port (s : State) (k : Nat) (b : Bytes) : (s.lm k b).port k = { s.port k with lmOut := (s.port k).lmOut ++ [b] } :=
  s.setPort_port _ _
@[simp] theorem State.newTxid_port (s : State) (k : Nat) :
    ((s.newTxid k).2).port k = { s.port k with txid := ((s.port k).txid + 1) % 256 } := s.setPort_port _ _

theorem State.put_lnk (s : State) (k : Nat) {v : Nat} (h : v < 8) : (s.put F.LNK_STAT_STATE v k).lnk k = v := State.fld_put _ _ h _ _

theorem State.live_iff {s : State} {k : Nat} : s.live k = true ↔ s.lnk k = lnkUp ∨ s.lnk k = lnkDegraded := by
  simp [State.live]

/-! ### Entry to ALIGN -/

/-- The open handshakes of a port, and the messages of its step. -/
def Port.handshakes (p : Port) : Option WidthHs × Option RemapHs × Option RemapHs × Option LoopHs × List Bytes :=
  (p.wRx, p.rTx, p.rRx, p.loop, p.lmOut)

/-- What a port waits for. -/
def Port.waits (p : Port) : Bool × Bool × Bool × Bool := (p.retry, p.waited, p.blank, p.held)

theorem State.tryDeskew_port (s : State) (k : Nat) : ((s.tryDeskew k).port k).handshakes = (s.port k).handshakes ∧
    ((s.tryDeskew k).port k).waits = (s.port k).waits := by
  unfold State.tryDeskew
  split
  · extract_lets ls need kept far
    split
    · split
      · rw [State.setPort_port]
        exact ⟨rfl, rfl⟩
      · exact List.foldlRecOn (motive := fun a : State => (a.port k).handshakes = (s.port k).handshakes ∧
          (a.port k).waits = (s.port k).waits) _ _ ⟨rfl, rfl⟩ fun a ha n _ => ha
    · exact ⟨rfl, rfl⟩
  · exact ⟨rfl, rfl⟩

theorem State.tryDeskew_lnk (s : State) (k : Nat) : (s.tryDeskew k).lnk k = s.lnk k := (State.tryDeskew_keeps s k).fld_eq rfl

theorem State.enterAlign_lnk (s : State) (k : Nat) : (s.enterAlign k).lnk k = lnkAlign :=
  (State.tryDeskew_lnk _ k).trans (State.put_lnk _ _ (by decide))

theorem State.enterAlign_waits (s : State) (k : Nat) : ((s.enterAlign k).port k).waits = (s.port k).waits := by
  unfold State.enterAlign
  extract_lets p
  rw [(State.tryDeskew_port _ k).2]
  exact (congrArg Port.waits (s.setPort_port k _)).trans rfl

theorem State.tryAlign_copper {s : State} {k : Nat} (hk : optical k = false) (h : s.lnk k = lnkAcquire) : s.tryAlign k =
    if s.lockedLanes k % 256 = 255 ∨ (s.lockedLanes k % 16 = 15 ∧ (s.port k).waited = true) then s.enterAlign k else s := by
  unfold State.tryAlign
  rw [if_pos h, hk]
  rfl

/-- The lowest eight bits of a mask are all set. -/
theorem hasBit_eight_iff (x : Nat) : (∀ l : Fin 8, hasBit x l = true) ↔ x % 256 = 255 := by
  have h : ∀ y : Fin 256, (∀ l : Fin 8, hasBit y l = true) ↔ y.val = 255 := by decide +kernel
  rw [← h ⟨x % 256, Nat.mod_lt _ (by decide)⟩]
  exact forall_congr' fun l => by rw [hasBit_low (n := 8) l.isLt (Nat.mod_mod x 256)]

/-! ### Entry to ACQUIRE -/

theorem State.linkFresh_waits (s : State) (k : Nat) : ((s.linkFresh k).port k).waits = (s.port k).waits := by
  unfold State.linkFresh
  extract_lets p s1
  exact (congrArg Port.waits (s.setPort_port k _)).trans rfl

/-- What entry to ACQUIRE writes of an optical port once its state is written. -/
def acquireMask : Nat := mask24 ^^^ fieldsMask [F.LNK_STAT_STATE]

theorem State.enterAcquire_optical (s : State) {k : Nat} (hk : optical k = true) : (s.enterAcquire k).lnk k = lnkAcquire := by
  unfold State.enterAcquire
  extract_lets p q s1 s2 s3 s4 s5 s6
  have h2 : Keeps acquireMask (s1.put F.LNK_STAT_STATE lnkAcquire k) s2 := ((Keeps.refl _ _).put rfl |>.put rfl).put rfl
  have h3 : Keeps acquireMask (s1.put F.LNK_STAT_STATE lnkAcquire k) s3 :=
    .put rfl <| .step (State.linkFresh_keeps ..) rfl <| .step (State.mapsReset_keeps ..) rfl h2
  clear_value s3
  have h4 : Keeps acquireMask (s1.put F.LNK_STAT_STATE lnkAcquire k) s4 := .foldl _ h3 fun a n ha =>
    .step (State.setLine_keeps ..) rfl <| .step (State.setLine_keeps ..) rfl <| .put rfl <| .put rfl <| .put rfl <| .put rfl <|
      .step (State.dfeZero_keeps ..) rfl ha
  clear_value s4
  have h6 : Keeps acquireMask (s1.put F.LNK_STAT_STATE lnkAcquire k) s6 :=
    .putFlag rfl <| .putBitOf rfl <| .step (State.rotShow_keeps ..) rfl <| .putFlag rfl <| .putFlag rfl <| .put rfl h4
  clear_value s6
  rw [if_pos hk]
  exact (Keeps.step (State.ringsSettle_keeps ..) rfl <| .step (State.calStart_keeps ..) rfl <|
    .step (State.calStart_keeps ..) rfl h6).fld_trans rfl (State.put_lnk _ _ (by decide))

/-- What entry to ACQUIRE writes of a copper port once its link state is fresh, before the port goes on to ALIGN. -/
def copperMask : Nat :=
  acquireMask ^^^ (2 ^ 8 ||| fieldsMask [F.LNK_LANE_STAT_LOS, F.LNK_LANE_STAT_LOL, F.LNK_TXMAP0_MAP, F.LNK_RXMAP0_MAP])

/-- Port `k` of `u` is a copper port that has entered ACQUIRE, its receivers as they were in `s`. -/
structure CopperStart (s u : State) (k : Nat) : Prop where
  lnk : u.lnk k = lnkAcquire
  waits : (u.port k).waits = ((s.port k).retry, false, false, (s.port k).held)
  map : u.fld F.LNK_RXMAP0_MAP k = F.LNK_RXMAP0_MAP.resetHi
  locked : ∀ n, u.locked k n = s.locked k n

theorem State.mapIdentity_map (s : State) (k : Nat) : (s.mapIdentity k).fld F.LNK_RXMAP0_MAP k = F.LNK_RXMAP0_MAP.resetHi :=
  (State.fld_put_id _ _ _ _ _ _ (by decide)).trans (State.fld_clr _ _ _ _ (by decide : F.LNK_RXMAP0_MAP.resetHi < _))

theorem State.enterAcquire_copper (s : State) {k : Nat} (hk : optical k = false) :
    ∃ u, s.enterAcquire k = u.tryAlign k ∧ CopperStart s u k := by
  unfold State.enterAcquire
  extract_lets p q s1 s2 s3 s4 s5 s6
  rw [if_neg (by simp [hk])]
  refine ⟨s5, rfl, ?_⟩
  have hmaps : s2.mapsReset k = s2.mapIdentity k := if_neg (by simp [hk])
  have h2 : Keeps (fieldsMask [F.LNK_STAT_WIDTH, F.LNK_STAT_TXSET, F.LNK_STAT_RXSET] ||| mask10 ||| mask19)
      (s1.put F.LNK_STAT_STATE lnkAcquire k) ((s2.mapsReset k).linkFresh k) := by
    rw [hmaps]
    exact .step (State.linkFresh_keeps ..) rfl <| .step (State.mapIdentity_keeps ..) rfl <| .put rfl <| .put rfl <| .put rfl <| .refl _ _
  have h3 : Keeps copperMask ((s2.mapsReset k).linkFresh k) s3 := (Keeps.refl _ _).put rfl
  clear_value s3
  have h4 : Keeps copperMask ((s2.mapsReset k).linkFresh k) s4 := .foldl _ h3 fun a n ha =>
    .step (State.setLine_keeps ..) rfl <| .step (State.setLine_keeps ..) rfl <| .put rfl <| .put rfl <| .put rfl <| .put rfl <|
      .step (State.dfeZero_keeps ..) rfl ha
  clear_value s4
  have h5 : Keeps copperMask ((s2.mapsReset k).linkFresh k) s5 := .put rfl h4
  clear_value s5
  constructor
  · exact h5.fld_trans rfl (h2.fld_trans rfl (State.put_lnk s1 k (by decide)))
  · rw [h5.port rfl, State.linkFresh_waits, hmaps, (State.mapIdentity_keeps s2 k).port rfl]
    refine (congrArg Port.waits (s.setPort_port k _)).trans ?_
    rw [Port.waits, hk]
    rfl
  · refine h5.fld_trans rfl ((State.linkFresh_keeps _ k).fld_trans rfl ?_)
    rw [hmaps]
    exact s2.mapIdentity_map k
  · intro n
    have hlos : s5.bit F.LNK_LANE_STAT_LOS n k = s.bit F.LNK_LANE_STAT_LOS n k :=
      h5.bit_trans rfl (h2.bit_trans rfl (State.bit_put_id _ _ _ _ _ _ _ (by decide)))
    have hlol : s5.bit F.LNK_LANE_STAT_LOL n k = s.bit F.LNK_LANE_STAT_LOL n k :=
      h5.bit_trans rfl (h2.bit_trans rfl (State.bit_put_id _ _ _ _ _ _ _ (by decide)))
    unfold State.locked
    rw [hk, hlos, hlol]
    rfl

/-- All eight pairs of a copper port are locked. -/
theorem CopperStart.lockedLanes {s u : State} {k : Nat} (h : CopperStart s u k) (hk : optical k = false) :
    u.lockedLanes k % 256 = 255 ↔ ∀ n : Fin 8, s.locked k n = true := by
  have hmap : ∀ l : Fin 8, u.mapOf k true l = l := by
    intro l
    have hl : (if true = true then (if (l : Nat) < 8 then F.LNK_RXMAP0_MAP else F.LNK_RXMAP1_MAP)
        else (if (l : Nat) < 8 then F.LNK_TXMAP0_MAP else F.LNK_TXMAP1_MAP)) = F.LNK_RXMAP0_MAP := by simp
    unfold State.mapOf
    rw [hl, h.map]
    revert l
    decide
  have hbit : ∀ l : Fin 8, hasBit (u.lockedLanes k) l = s.locked k l := by
    intro l
    unfold State.lockedLanes
    rw [hasBit_maskOf, hmap, h.locked, show lanesOf k = 8 by simp [lanesOf, hk]]
    simp
  rw [← hasBit_eight_iff]
  simp only [hbit]

theorem State.enterAcquire_lnk_copper (s : State) {k : Nat} (hk : optical k = false) :
    (s.enterAcquire k).lnk k = (if ∀ n : Fin 8, s.locked k n = true then lnkAlign else lnkAcquire) ∧
    ((s.enterAcquire k).port k).retry = (s.port k).retry := by
  obtain ⟨u, hu, hstart⟩ := s.enterAcquire_copper hk
  have hwaited : (u.port k).waited = false := congrArg (fun w => w.2.1) hstart.waits
  have hretry : (u.port k).retry = (s.port k).retry := congrArg (fun w => w.1) hstart.waits
  rw [hu, State.tryAlign_copper hk hstart.lnk, hwaited]
  simp only [hstart.lockedLanes hk, Bool.false_eq_true, and_false, or_false]
  split
  · exact ⟨State.enterAlign_lnk _ _, (congrArg (fun w => w.1) (State.enterAlign_waits u k)).trans hretry⟩
  · exact ⟨hstart.lnk, hretry⟩

theorem State.tryCopper_lnk {s : State} {k : Nat} (hk : optical k = false) (hdown : s.lnk k = lnkDown) (hretry : (s.port k).retry = true) :
    ((s.tryCopper k).port k).retry = true ∧ (s.tryCopper k).lnk k =
      (if s.dom 8 = .on ∧ s.flag F.LNK_CTL_EN k = true ∧ s.bit F.AON_CONN_STAT_CPRES (k - 16) = true ∧ (s.port k).held = false
        then (if ∀ n : Fin 8, s.locked k n = true then lnkAlign else lnkAcquire) else lnkDown) := by
  have hcond : (!optical k && s.lnk k == lnkDown && s.dom 8 == .on && s.flag F.LNK_CTL_EN k && s.bit F.AON_CONN_STAT_CPRES (k - 16) &&
      (s.port k).retry && !(s.port k).held) = true ↔ s.dom 8 = .on ∧ s.flag F.LNK_CTL_EN k = true ∧
      s.bit F.AON_CONN_STAT_CPRES (k - 16) = true ∧ (s.port k).held = false := by
    simp [hk, hdown, hretry, and_assoc]
  unfold State.tryCopper
  simp only [hcond]
  split
  · exact ⟨(State.enterAcquire_lnk_copper s hk).2.trans hretry, (State.enterAcquire_lnk_copper s hk).1⟩
  · exact ⟨hretry, hdown⟩

/-! ### Entry to DOWN, and out of it -/

theorem State.tryLight_lnk {s : State} {k : Nat} (hdown : s.lnk k = lnkDown) :
    (s.tryLight k).lnk k = if s.probeOk k = true ∧ s.lit k = true then lnkAcquire else lnkDown := by
  unfold State.tryLight
  simp only [hdown, beq_self_eq_true, Bool.true_and, Bool.and_eq_true]
  split
  next h =>
    refine State.enterAcquire_optical s ?_
    have hprobe := h.1
    simp only [State.probeOk, Bool.and_eq_true] at hprobe
    exact hprobe.1.1.1.1
  next => exact hdown

/-- What entry to DOWN writes once the state of the port is written. -/
def downMask : Nat := mask21 ^^^ fieldsMask [F.LNK_STAT_STATE]

theorem State.enterDown_lnk (s : State) (k : Nat) : (s.enterDown k).lnk k = lnkDown := by
  unfold State.enterDown
  extract_lets was p q s1 s2 s3 s4 s5 s6
  have h2 : Keeps downMask (s1.put F.LNK_STAT_STATE lnkDown k) s2 := ((Keeps.refl _ _).put rfl |>.put rfl).put rfl
  have h3 : Keeps downMask (s1.put F.LNK_STAT_STATE lnkDown k) s3 := .step (State.linkFresh_keeps ..) rfl <| .putFlag rfl h2
  clear_value s3
  have h4 : Keeps downMask (s1.put F.LNK_STAT_STATE lnkDown k) s4 := .ite
    (fun _ => .step (State.ringsSettle_keeps ..) rfl <| .step (State.rotShow_keeps ..) rfl <| .putFlag rfl <| .putFlag rfl h3) fun _ => h3
  clear_value s4
  have h5 : Keeps downMask (s1.put F.LNK_STAT_STATE lnkDown k) s5 := .ite (fun _ => h4) fun _ => .count rfl h4
  clear_value s5
  have h6 : Keeps downMask (s1.put F.LNK_STAT_STATE lnkDown k) s6 := .ite (fun _ => .step (State.lnkEv_keeps ..) rfl h5) fun _ => h5
  clear_value s6
  refine Keeps.fld_trans (M := downMask) (.ite (fun _ => ?_) fun _ => h6) rfl (State.put_lnk s1 k (by decide))
  exact State.withSvc_keeps rfl h6 fun _ h => .putBitOf rfl h

theorem State.setRing_ring_ne (s : State) {k n k' n' : Nat} {rx rx' : Bool} (x : Ring) (h : (k', b2n rx', n') ≠ (k, b2n rx, n)) :
    (s.setRing k rx n x).ring k' rx' n' = s.ring k' rx' n' :=
  Tab.get_set_ne (fun e => h (Prod.ext (congrArg Key.a e) (Prod.ext (congrArg Key.b e) (congrArg Key.c e)))) _ _ _ _

theorem State.ringSt_lost (s : State) (k : Nat) (rx : Bool) (n st : Nat) (k' : Nat) (rx' : Bool) (n' : Nat) :
    ((s.ringSt k rx n st).ring k' rx' n').lost = (s.ring k' rx' n').lost := by
  unfold State.ringSt
  by_cases h : (k', b2n rx', n') = (k, b2n rx, n)
  · obtain ⟨rfl, hrx, rfl⟩ : k' = k ∧ b2n rx' = b2n rx ∧ n' = n := by simpa using h
    have hrx' : rx' = rx := by
      revert hrx
      cases rx' <;> cases rx <;> decide
    subst hrx'
    rw [State.setRing_ring]
  · rw [State.setRing_ring_ne _ _ h]

theorem State.ringsSettle_lost (s : State) (k k' : Nat) (rx : Bool) (n : Nat) :
    ((s.ringsSettle k).ring k' rx n).lost = (s.ring k' rx n).lost := by
  unfold State.ringsSettle
  split
  · refine List.foldlRecOn (motive := fun a : State => (a.ring k' rx n).lost = (s.ring k' rx n).lost) _ _ rfl fun a ha m _ => ?_
    refine List.foldlRecOn (motive := fun a : State => (a.ring k' rx n).lost = (s.ring k' rx n).lost) _ _ ha fun b hb d _ => ?_
    split
    · exact hb
    · exact (State.ringSt_lost ..).trans hb
  · rfl

/-- One ring of a port takes the state that its part in `s0` asks for. -/
def State.ringSettle (s0 s : State) (k : Nat) (rx : Bool) (n : Nat) : State :=
  if (s.ring k rx n).st = 4 then s else s.ringSt k rx n (s0.ringRole k rx n)

theorem State.ringsSettle_eq (s : State) {k : Nat} (hk : optical k = true) : s.ringsSettle k =
    (List.range 20).foldl (fun a n => s.ringSettle (s.ringSettle a k false n) k true n) s := by
  unfold State.ringsSettle
  rw [if_pos hk]
  exact congrArg (fun f => List.foldl f s (List.range 20)) (funext₂ fun a n => rfl)

theorem State.ringSettle_ring_ne (s0 s : State) {k n n' : Nat} {rx rx' : Bool} (h : (b2n rx', n') ≠ (b2n rx, n)) :
    (s0.ringSettle s k rx n).ring k rx' n' = s.ring k rx' n' := by
  unfold State.ringSettle
  split
  · rfl
  · exact State.setRing_ring_ne _ _ fun e => h (Prod.ext (congrArg (·.2.1) e) (congrArg (·.2.2) e))

theorem State.ringSettle_same (s0 s : State) (k : Nat) (rx : Bool) (n : Nat) :
    ((s0.ringSettle s k rx n).ring k rx n).st = if (s.ring k rx n).st = 4 then 4 else s0.ringRole k rx n := by
  unfold State.ringSettle
  split
  next h => exact h
  next => rw [State.ringSt, State.setRing_ring]

theorem State.ringsSettle_st (s : State) {k n : Nat} (hk : optical k = true) (hn : n < 20) (rx : Bool) :
    ((s.ringsSettle k).ring k rx n).st = if (s.ring k rx n).st = 4 then 4 else s.ringRole k rx n := by
  have hother : ∀ l : List Nat, n ∉ l → ∀ a : State,
      (l.foldl (fun a n => s.ringSettle (s.ringSettle a k false n) k true n) a).ring k rx n = a.ring k rx n := by
    intro l hl a
    refine List.foldlRecOn (motive := fun b : State => b.ring k rx n = a.ring k rx n) _ _ rfl fun b hb m hm => ?_
    have hne : ∀ d, (b2n rx, n) ≠ (b2n d, m) := fun d e => hl (by rw [show n = m from congrArg Prod.snd e]; exact hm)
    rw [State.ringSettle_ring_ne _ _ (hne _), State.ringSettle_ring_ne _ _ (hne _), hb]
  have hstep : ∀ a : State, ((s.ringSettle (s.ringSettle a k false n) k true n).ring k rx n).st =
      if (a.ring k rx n).st = 4 then 4 else s.ringRole k rx n := by
    intro a
    cases rx
    · rw [State.ringSettle_ring_ne _ _ (by simp [b2n]), State.ringSettle_same]
    · rw [State.ringSettle_same, State.ringSettle_ring_ne _ _ (by simp [b2n])]
  obtain ⟨l, m, hsplit⟩ := List.append_of_mem (List.mem_range.mpr hn)
  have hnodup : (l ++ n :: m).Nodup := hsplit ▸ List.nodup_range
  rw [List.nodup_append, List.nodup_cons] at hnodup
  obtain ⟨-, ⟨hm, -⟩, hdisj⟩ := hnodup
  have hl : n ∉ l := fun h => hdisj n h n List.mem_cons_self rfl
  rw [State.ringsSettle_eq s hk, hsplit, List.foldl_append, List.foldl_cons, hother _ hm, hstep, hother _ hl]

/-- In DOWN a receive ring that is not under calibration goes to STANDBY. -/
theorem State.ringsSettle_standby {s : State} {k : Nat} (hk : optical k = true) (hdown : s.lnk k = lnkDown) :
    ((s.ringsSettle k).ring k true 16).st = if (s.ring k true 16).st = 4 then 4 else 0 := by
  have hrole : s.ringRole k true 16 = 0 := by
    unfold State.ringRole
    simp [hdown]
  rw [State.ringsSettle_st s hk (by decide), hrole]

theorem Keeps.probeOk {M : Nat} {s t : State} (h : Keeps M s t) (hM : (!M.testBit 0 && !M.testBit 10 && spares M F.LNK_CTL_EN) = true)
    {k : Nat} (hheld : (t.port k).held = (s.port k).held) : t.probeOk k = s.probeOk k := by
  simp only [Bool.and_eq_true, Bool.not_eq_true'] at hM
  obtain ⟨⟨hpow, hengs⟩, hen⟩ := hM
  unfold State.probeOk State.engReady State.eng
  rw [h.flag_eq hen, h.dom hpow, h.engs hengs, hheld]

theorem State.enterDown_lit {s : State} {k : Nat} (hk : optical k = true) (hlnk : s.lnk k = lnkAcquire) :
    ((s.enterDown k).port k).blank = (s.port k).blank ∧ ((s.enterDown k).port k).held = (s.port k).held ∧
    ((s.enterDown k).ring k true 16).st = if (s.ring k true 16).st = 4 then 4 else 0 := by
  unfold State.enterDown
  extract_lets was p q s1 s2 s3 s4 s5 s6
  have hwas : was = lnkAcquire := hlnk
  have h3 : (s3.port k).waits = (false, (s.port k).waited, (s.port k).blank, (s.port k).held) := by
    refine (State.linkFresh_waits _ k).trans ?_
    exact (congrArg Port.waits (s.setPort_port k _)).trans rfl
  have hdown3 : s3.lnk k = lnkDown := by
    refine (State.linkFresh_keeps _ k).fld_trans rfl ?_
    exact Keeps.fld_trans (s := s1.put F.LNK_STAT_STATE lnkDown k)
      (M := fieldsMask [F.LNK_STAT_WIDTH, F.LNK_STAT_TXSET, F.LNK_STAT_RXSET, F.LNK_SSC_PENDING])
      ((((Keeps.refl _ _).put rfl).put rfl |>.put rfl).putFlag rfl) rfl (State.put_lnk s1 k (by decide))
  have hring3 : s3.ring k true 16 = s.ring k true 16 := rfl
  clear_value s3
  have h4 : (s4.port k).waits = (s3.port k).waits ∧ (s4.ring k true 16).st = if (s.ring k true 16).st = 4 then 4 else 0 := by
    unfold s4
    rw [if_pos hk]
    refine ⟨congrArg Port.waits (((State.ringsSettle_keeps _ k).port rfl k).trans ((State.rotShow_keeps _ k).port rfl k)), ?_⟩
    rw [State.ringsSettle_standby hk]
    · exact (congrArg (fun r : Ring => if r.st = 4 then 4 else 0) hring3)
    · refine (State.rotShow_keeps _ k).fld_trans rfl ?_
      exact (State.fld_putFlag_id _ _ _ _ _ _ (by decide)).trans ((State.fld_putFlag_id _ _ _ _ _ _ (by decide)).trans hdown3)
  clear_value s4
  have h6 : s6.port k = s4.port k ∧ s6.ring k true 16 = s4.ring k true 16 := by
    unfold s6 s5
    rw [hwas]
    exact ⟨rfl, rfl⟩
  have hsvc : Keeps (mask5 ||| fieldsMask [F.AON_SVC_STAT_OPT_NARROW]) s6
      (s6.withSvc fun a => a.putBitOf F.AON_SVC_STAT_OPT_NARROW k false) := State.withSvc_keeps rfl (.refl _ _) fun _ h => .putBitOf rfl h
  have hwaits := h4.1.trans h3
  rw [if_pos hk, hsvc.port rfl, hsvc.ring rfl, h6.1, h6.2]
  exact ⟨congrArg (·.2.2.1) hwaits, congrArg (·.2.2.2) hwaits, h4.2⟩

/-! ### A retrain -/

theorem State.retrain_aligns {s : State} {k : Nat} (hlive : s.live k = true)
    (hfew : ((s.port k).recentRetrains s.tim.optime).length < 3) :
    (s.retrain k).lnk k = lnkAlign ∧ ((s.retrain k).port k).handshakes = (none, none, none, none, (s.port k).lmOut) := by
  unfold State.retrain
  rw [if_pos hlive]
  extract_lets p recent q s1 s2 s3 s4
  have h1 : (s1.port k).handshakes = (none, none, none, none, (s.port k).lmOut) :=
    (congrArg Port.handshakes (s.setPort_port k _)).trans rfl
  have h2 : s2.lnk k = lnkAlign := (State.fld_put_id _ _ _ _ _ _ (by decide)).trans (State.put_lnk _ _ (by decide))
  have h2p : s2.port k = s1.port k := rfl
  clear_value s1 s2
  have hsvc : Keeps (mask5 ||| fieldsMask [F.AON_SVC_STAT_OPT_NARROW]) (s2.lnkEv k 0x02 lNote) s3 :=
    State.withSvc_keeps rfl (.refl _ _) fun _ h => .ite (fun _ => .putBitOf rfl h) fun _ => h
  have h3 : s3.lnk k = lnkAlign ∧ s3.port k = s2.port k :=
    ⟨hsvc.fld_trans rfl ((State.lnkEv_keeps ..).fld_trans rfl h2), (hsvc.port rfl k).trans (State.lnkEv_port ..)⟩
  clear_value s3
  have h4 : s4.lnk k = lnkAlign ∧ s4.port k = s3.port k :=
    ⟨(State.ringsSettle_keeps _ k).fld_trans rfl ((State.rotShow_keeps _ k).fld_trans rfl h3.1),
      ((State.ringsSettle_keeps _ k).port rfl k).trans ((State.rotShow_keeps _ k).port rfl k)⟩
  have hrecent : ¬ recent.length ≥ 3 := Nat.not_le.mpr hfew
  rw [if_neg hrecent]
  refine ⟨(State.tryDeskew_lnk _ k).trans h4.1, (State.tryDeskew_port _ k).1.trans ?_⟩
  rw [h4.2, h3.2, h2p, h1]

/-! ### Widths -/

theorem State.widthState_firstUp (s : State) (k : Nat) (h : (s.port k).firstUp = false) : ((s.widthState k).port k).firstUp = false := by
  unfold State.widthState
  split
  · extract_lets tx rx full s1 p
    split
    · refine (congrArg Port.firstUp ((State.withSvc_keeps (M := mask5 ||| fieldsMask [F.AON_SVC_STAT_OPT_NARROW]) rfl (.refl _ _)
        fun _ h => .ite (fun _ => .putBitOf rfl h) fun _ => h).port rfl k)).trans ?_
      exact (congrArg Port.firstUp (s1.setPort_port k _)).trans rfl
    · split
      · exact h
      · exact h
  · exact h

theorem State.widthState_narrow (s : State) {k : Nat} (hk : k < 16) (h : s.bit F.AON_SVC_STAT_OPT_NARROW k = false) :
    (s.widthState k).bit F.AON_SVC_STAT_OPT_NARROW k = false := by
  unfold State.widthState
  split
  · extract_lets tx rx full s1 p
    have h1 : s1.bit F.AON_SVC_STAT_OPT_NARROW k = false := (State.bit_put_id _ _ _ _ _ _ _ (by decide)).trans h
    split
    · refine (State.svcSettle_keeps _).bit_trans rfl ?_
      simp only [show optical k = true by simp [optical, hk], if_true]
      exact State.bit_putBitOf_same _ _ _ _ hk
    · split
      · exact h1
      · exact (State.bit_put_id _ _ _ _ _ _ _ (by decide)).trans h1
  · exact h

theorem State.widthReqOwn_keeps_narrow {s : State} {k mask : Nat} (hfour : 4 ≤ popCount mask 16) :
    ((s.widthReqOwn k mask).port k).firstUp = (s.port k).firstUp ∧
    (s.widthReqOwn k mask).bit F.AON_SVC_STAT_OPT_NARROW k = s.bit F.AON_SVC_STAT_OPT_NARROW k := by
  unfold State.widthReqOwn
  split
  · rw [if_neg (Nat.not_lt.mpr hfour)]
    constructor
    · simp
    · rfl
  · exact ⟨rfl, rfl⟩

end Sys2Proof.Machine

/-! PROOFS. The ends of the timers of a port (06 Table 6-4, R134 to R142). -/
namespace Sys2Proof.Machine

section
variable {s : State} {k : Nat}

theorem State.tWiden_effect (hk : k < 16) (hlive : s.live k = true) (hfirst : (s.port k).firstUp = true) :
    ((s.tWiden k).port k).firstUp = false ∧ (s.tWiden k).bit F.AON_SVC_STAT_OPT_NARROW k = false := by
  unfold State.tWiden
  rw [if_pos (by rw [hlive, hfirst]; rfl)]
  extract_lets p s1 s2 m
  have h1 : (s1.port k).firstUp = false ∧ s1.bit F.AON_SVC_STAT_OPT_NARROW k = false := by
    refine ⟨(congrArg Port.firstUp ((State.svcSettle_keeps _).port rfl k)).trans ?_, (State.svcSettle_keeps _).bit_trans rfl ?_⟩
    · exact (congrArg Port.firstUp (s.setPort_port k _)).trans rfl
    · exact State.bit_putBitOf_same _ _ _ _ hk
  have h2 : (s2.port k).firstUp = false ∧ s2.bit F.AON_SVC_STAT_OPT_NARROW k = false :=
    ⟨s1.widthState_firstUp k h1.1, s1.widthState_narrow hk h1.2⟩
  split
  next h =>
    obtain ⟨hport, hbit⟩ := State.widthReqOwn_keeps_narrow (s := s2) (k := k) h.2.1
    exact ⟨hport.trans h2.1, hbit.trans h2.2⟩
  next => exact h2

theorem State.tAcq_lnk (hlnk : s.lnk k = lnkAcquire) : (s.tAcq k).lnk k =
    (if s.probeOk k = true ∧ s.bit F.LNK_LANE_STAT_LOS 16 k = false ∧ (s.port k).blank = false ∧ (s.ring k true 16).st ≠ 4
      then lnkAcquire else lnkDown) := by
  unfold State.tAcq
  rw [if_pos hlnk, State.tryLight_lnk (State.enterDown_lnk s k)]
  cases hk : optical k
  · have hprobe : ∀ a : State, a.probeOk k = false := fun a => by simp [State.probeOk, hk]
    simp [hprobe]
  · obtain ⟨hblank, hheld, hring⟩ := State.enterDown_lit hk hlnk
    have hprobe : (s.enterDown k).probeOk k = s.probeOk k := (State.enterDown_keeps s k).probeOk rfl hheld
    have hlos : (s.enterDown k).bit F.LNK_LANE_STAT_LOS 16 k = s.bit F.LNK_LANE_STAT_LOS 16 k := (State.enterDown_keeps s k).bit_eq rfl
    have hlit : (s.enterDown k).lit k = true ↔
        s.bit F.LNK_LANE_STAT_LOS 16 k = false ∧ (s.port k).blank = false ∧ (s.ring k true 16).st ≠ 4 := by
      unfold State.lit
      rw [hlos, hblank, hring]
      by_cases h4 : (s.ring k true 16).st = 4 <;> simp [h4]
    rw [hprobe]
    simp only [hlit]

theorem State.tAlign_lnk (hlnk : s.lnk k = lnkAlign) : (s.tAlign k).lnk k =
    (if optical k = false ∧ ∀ n : Fin 8, s.locked k n = true then lnkAlign else lnkAcquire) := by
  unfold State.tAlign
  rw [if_pos hlnk]
  cases hk : optical k
  · rw [(State.enterAcquire_lnk_copper s hk).1]
    simp
  · rw [State.enterAcquire_optical s hk]
    simp

theorem State.tLmWidth_again {h : WidthHs} (hlive : s.live k = true) (hw : (s.port k).wRx = some h) (hm : h.m = none) (htries : h.tries < 3) :
    (s.tLmWidth k).port k = { s.port k with
      wRx := some { h with tries := h.tries + 1 }
      lmOut := (s.port k).lmOut ++ [lmBytes 2 h.txid 0 0 (h.mask % 256) (h.mask / 256) 0 0] } := by
  unfold State.tLmWidth
  simp only [hw, hm, hlive, htries]
  simp

theorem State.tLmWidth_retrains {h : WidthHs} (hlive : s.live k = true) (hw : (s.port k).wRx = some h) (hm : h.m = none) (htries : 3 ≤ h.tries)
    (hfew : ((s.port k).recentRetrains s.tim.optime).length < 3) :
    (s.tLmWidth k).lnk k = lnkAlign ∧ ((s.tLmWidth k).port k).handshakes =
      (none, none, none, none, (s.port k).lmOut ++ [lmBytes 10 (s.port k).txid 0 0 0 0 0 0]) := by
  have heq : s.tLmWidth k = s.retrainOwn k := by
    unfold State.tLmWidth
    simp only [hw, hm, hlive]
    simp [Nat.not_lt.mpr htries]
  have hlm : ((s.newTxid k).2.lm k (lmBytes 0x0A (s.port k).txid 0 0 0 0 0 0)).port k = { s.port k with
      txid := ((s.port k).txid + 1) % 256, lmOut := (s.port k).lmOut ++ [lmBytes 10 (s.port k).txid 0 0 0 0 0 0] } := by
    simp
  have hretrain := State.retrain_aligns (s := (s.newTxid k).2.lm k (lmBytes 0x0A (s.port k).txid 0 0 0 0 0 0)) (k := k) hlive
    (by rw [hlm]; exact hfew)
  rw [hlm] at hretrain
  rw [heq, State.retrainOwn, if_pos hlive]
  exact hretrain

theorem State.remapAbortOwn_effect {h : RemapHs} {rx : Bool} {reason : Nat} (hh : s.remapHs k rx = some h) :
    (s.remapAbortOwn k rx reason).remapHs k rx = none ∧
    ((s.remapAbortOwn k rx reason).port k).lmOut = (s.port k).lmOut ++ [lmBytes 7 h.txid 0 0 h.lane 0 0 reason] := by
  unfold State.remapAbortOwn
  extract_lets p s1
  rw [show (if rx = true then p.rRx else p.rTx) = some h from hh]
  have hport : ((((s1.lm k (lmBytes 7 h.txid 0 0 h.lane 0 0 reason)).rotShow k).ringsSettle k).port k) =
      (s1.lm k (lmBytes 7 h.txid 0 0 h.lane 0 0 reason)).port k :=
    ((State.ringsSettle_keeps _ k).port rfl k).trans ((State.rotShow_keeps _ k).port rfl k)
  unfold State.remapHs
  simp only [hport, State.lm_port, s1, State.setPort_port]
  cases rx <;> exact ⟨rfl, rfl⟩

theorem State.txDead_remapAbortOwn (rx : Bool) (reason n : Nat) : (s.remapAbortOwn k rx reason).txDead k n = s.txDead k n := by
  unfold State.txDead
  rw [(State.remapAbortOwn_keeps s k rx reason).bit_eq rfl]
  congr 2
  unfold State.remapAbortOwn
  extract_lets p s1
  split
  · rfl
  · exact (State.ringsSettle_lost ..).trans (congrArg Ring.lost ((State.rotShow_keeps _ k).ring rfl k false n))

theorem Keeps.mapOf {M : Nat} {s t : State} (h : Keeps M s t) (hM : (spares M F.LNK_TXMAP0_MAP && spares M F.LNK_TXMAP1_MAP &&
    spares M F.LNK_RXMAP0_MAP && spares M F.LNK_RXMAP1_MAP) = true) (k : Nat) (rx : Bool) (l : Nat) : t.mapOf k rx l = s.mapOf k rx l := by
  simp only [Bool.and_eq_true] at hM
  obtain ⟨⟨⟨htx0, htx1⟩, hrx0⟩, hrx1⟩ := hM
  have hfld : ∀ f ∈ [F.LNK_TXMAP0_MAP, F.LNK_TXMAP1_MAP, F.LNK_RXMAP0_MAP, F.LNK_RXMAP1_MAP], t.fld f k = s.fld f k := by
    simp only [List.forall_mem_cons]
    exact ⟨h.fld_eq htx0, h.fld_eq htx1, h.fld_eq hrx0, h.fld_eq hrx1, nofun⟩
  unfold State.mapOf
  rw [hfld _ (by split <;> split <;> simp)]

/-- A port that can drive every lane asks for no remap. -/
theorem State.failRemap_driveable {a : State} (hall : a.driveable k = fullSet k) (hdead : ∀ l, s.txDead k (s.mapOf k false l) = a.txDead k (a.mapOf k false l))
    (skip : Option Nat) : s.failRemap k skip = s := by
  unfold State.failRemap
  split
  next h =>
    simp only [Bool.and_eq_true] at h
    have hlanes : lanesOf k = 16 := by simp [lanesOf, h.1.1]
    have halive : ∀ l < 16, a.txDead k (a.mapOf k false l) = false := by
      intro l hl
      have hbit : hasBit (a.driveable k) l = true := by
        rw [hall, fullSet, hlanes]
        exact (by decide : ∀ l : Fin 16, hasBit (2 ^ 16 - 1) l = true) ⟨l, hl⟩
      rw [State.driveable, hasBit_maskOf] at hbit
      simp only [Bool.and_eq_true, Bool.not_eq_true'] at hbit
      exact hbit.2
    have hgone : ((List.range 16).filter fun l => !s.bit F.LNK_STAT_TXSET l k && s.txDead k (s.mapOf k false l) && skip != some l) = [] := by
      refine List.filter_eq_nil_iff.mpr fun l hl => ?_
      rw [hdead, halive l (List.mem_range.mp hl)]
      simp
    rw [hgone]
  next => rfl

theorem State.tRemap_effect {h : RemapHs} {rx : Bool} (hh : s.remapHs k rx = some h) (hrdy : h.rdy = false)
    (hall : rx = false → s.driveable k = fullSet k) : s.tRemap k rx = s.remapAbortOwn k rx 3 := by
  unfold State.tRemap
  rw [hh]
  simp only [hrdy, Bool.false_eq_true, if_false]
  cases rx
  · refine State.failRemap_driveable (hall rfl) (fun l => ?_) _
    rw [State.txDead_remapAbortOwn, (State.remapAbortOwn_keeps s k false 3).mapOf rfl]
  · rfl

theorem State.tLmLoop_effect {h : LoopHs} (hlive : s.live k = true) (hh : (s.port k).loop = some h) :
      ((s.tLmLoop k).port k).loop = (if h.tries < 3 then some { h with tries := h.tries + 1 } else none) ∧
      ((s.tLmLoop k).port k).lmOut = (s.port k).lmOut ++ (if h.tries < 3 then [lmBytes 8 h.txid 1 0 0 0 0 0] else []) ∧
      (3 ≤ h.tries → (s.tLmLoop k).flag F.LNK_LOOP_STAT_LOOP_FAIL k = true) := by
  unfold State.tLmLoop
  simp only [hh, hlive]
  by_cases htries : h.tries < 3
  · simp [htries]
  · have hport : ((s.setPort k { s.port k with loop := none }).putFlag F.LNK_LOOP_STAT_LOOP_FAIL true k).port k =
        { s.port k with loop := none } := s.setPort_port _ _
    simp only [htries, State.lnkEv_port, hport, Bool.not_true, Bool.false_eq_true, if_false]
    exact ⟨trivial, (List.append_nil _).symm, fun _ => (State.lnkEv_keeps ..).flag_trans rfl (State.flag_putFlag _ _ _ _ _ (by decide))⟩

theorem State.tRetry_effect (hk : optical k = false) (hlnk : s.lnk k = lnkDown) :
    ((s.tRetry k).port k).retry = true ∧ (s.tRetry k).lnk k =
      (if s.dom 8 = .on ∧ s.flag F.LNK_CTL_EN k = true ∧ s.bit F.AON_CONN_STAT_CPRES (k - 16) = true ∧ (s.port k).held = false
        then (if ∀ n : Fin 8, s.locked k n = true then lnkAlign else lnkAcquire) else lnkDown) := by
  unfold State.tRetry
  rw [if_pos (by simp [hk, hlnk])]
  have hport : (s.setPort k { s.port k with retry := true }).port k = { s.port k with retry := true } := s.setPort_port _ _
  have h := State.tryCopper_lnk (s := s.setPort k { s.port k with retry := true }) hk hlnk (by rw [hport])
  rw [hport] at h
  exact h

theorem State.copperWait_effect (hk : optical k = false) (hlnk : s.lnk k = lnkAcquire) (hfour : s.lockedLanes k % 16 = 15) :
    ((s.copperWait k).port k).waited = true ∧ (s.copperWait k).lnk k = lnkAlign := by
  unfold State.copperWait
  rw [if_pos (by simp [hk, hlnk])]
  have hport : (s.setPort k { s.port k with waited := true }).port k = { s.port k with waited := true } := s.setPort_port _ _
  have halign := State.tryAlign_copper (s := s.setPort k { s.port k with waited := true }) hk hlnk
  rw [if_pos (.inr ⟨hfour, by rw [hport]⟩)] at halign
  rw [halign]
  refine ⟨?_, State.enterAlign_lnk _ _⟩
  refine (congrArg (·.2.1) (State.enterAlign_waits (s.setPort k { s.port k with waited := true }) k)).trans ?_
  rw [hport]
  rfl

end

/-- The port at the start of a step on it, its messages gone. -/
theorem State.lmClear_recsIn_port (s : State) (k : Nat) : (s.recsIn.lmClear k).port k = { s.port k with lmOut := [] } :=
  s.recsIn.setPort_port k _

/-- Settles O21: each timer's row, from the lemmas above on the port whose messages of the last step have gone. -/
theorem linkTimersTakeEffect : Obligations.LinkTimersTakeEffect := by
  unfold Obligations.LinkTimersTakeEffect
  refine ⟨fun s k hup hlive hfirst => ⟨_, rfl, ?_⟩, fun s k hup hlnk => ⟨_, rfl, ?_⟩, fun s k hup hlnk => ⟨_, rfl, ?_⟩,
    fun s k h hup hlive hw hm htries => ⟨_, rfl, ?_⟩, fun s k h hup hlive hw hm htries hfew => ⟨_, rfl, ?_⟩,
    fun s k h hup hr hrdy hm => ⟨_, rfl, ?_⟩, fun s k h hup hlive hl => ⟨_, rfl, ?_⟩,
    fun s k rx h hup hr hrdy hall => ⟨_, rfl, ?_⟩, fun s k hup hk hlnk => ⟨_, rfl, ?_⟩,
    fun s k hup hk hlnk hfour => ⟨_, rfl, ?_⟩⟩
  · rw [State.acts_port _ hup]
    have heff := State.tWiden_effect (s := s.recsIn.lmClear k) k.isLt hlive (by rw [s.lmClear_recsIn_port]; exact hfirst)
    exact ⟨heff.1, (State.acts_keeps_action _ hup).bit_trans rfl heff.2⟩
  · rw [State.acts_lnk _ hup, State.tAcq_lnk (s := s.recsIn.lmClear k) hlnk]
    have hprobe : (s.recsIn.lmClear k).probeOk k = s.probeOk k := (State.setPort_keeps s.recsIn k _).probeOk rfl (by rw [s.recsIn.setPort_port])
    rw [hprobe, s.lmClear_recsIn_port]
    rfl
  · rw [State.runs_up hup]
    exact State.tAlign_lnk (s := s.lmClear k) hlnk
  · rw [State.acts_port _ hup]
    have heff := State.tLmWidth_again (s := s.recsIn.lmClear k) (k := k) (h := h) hlive (by rw [s.lmClear_recsIn_port]; exact hw) hm htries
    rw [s.lmClear_recsIn_port] at heff
    exact ⟨(congrArg Port.wRx heff).trans rfl, (congrArg Port.lmOut heff).trans rfl⟩
  · rw [State.acts_port _ hup, State.acts_lnk _ hup]
    have heff := State.tLmWidth_retrains (s := s.recsIn.lmClear k) (k := k) (h := h) hlive (by rw [s.lmClear_recsIn_port]; exact hw) hm htries
      (by rw [s.lmClear_recsIn_port]; exact hfew)
    rw [s.lmClear_recsIn_port] at heff
    exact ⟨heff.1, (congrArg (·.1) heff.2).trans rfl, (congrArg (·.2.2.2.2) heff.2).trans rfl⟩
  · rw [State.acts_port _ hup]
    have hrx : (s.recsIn.lmClear k).remapHs k true = some h := by
      rw [State.remapHs, s.lmClear_recsIn_port]
      exact hr
    have heff := State.remapAbortOwn_effect (reason := 3) hrx
    have hrow : (s.recsIn.lmClear k).tLmRemap k = (s.recsIn.lmClear k).remapAbortOwn k true 3 := by
      unfold State.tLmRemap
      rw [show ((s.recsIn.lmClear k).port k).rRx = some h from hrx]
      simp only [hrdy, hm]
      rfl
    rw [s.lmClear_recsIn_port] at heff
    show (State.port ((s.recsIn.lmClear k).tLmRemap k) k).rRx = none ∧ (State.port ((s.recsIn.lmClear k).tLmRemap k) k).lmOut = _
    rw [hrow]
    exact heff
  · rw [State.acts_port _ hup]
    have heff := State.tLmLoop_effect (s := s.recsIn.lmClear k) (k := k) (h := h) hlive (by rw [s.lmClear_recsIn_port]; exact hl)
    rw [s.lmClear_recsIn_port] at heff
    exact ⟨heff.1, heff.2.1, fun h3 => (State.acts_keeps_action _ hup).flag_trans rfl (heff.2.2 h3)⟩
  · rw [State.runs_up hup]
    have hrx : (s.lmClear k).remapHs k rx = some h := by
      rw [State.remapHs, s.lmClear_port]
      cases rx <;> exact hr
    rw [State.tRemap_effect hrx hrdy hall]
    have heff := State.remapAbortOwn_effect (reason := 3) hrx
    rw [s.lmClear_port] at heff
    exact heff
  · rw [State.runs_up hup]
    have heff := State.tRetry_effect (s := s.lmClear k) hk hlnk
    rw [s.lmClear_port] at heff
    exact heff
  · rw [State.runs_up hup]
    exact State.copperWait_effect (s := s.lmClear k) hk hlnk hfour

end Sys2Proof.Machine

/-! PROOFS. What a write of a whole register of the core leaves in its fields, and what its answer leaves of the port that it came
through (05 R106, 06 R144, R146). -/
namespace Sys2Proof.Machine

theorem State.fld_writeFields_id {s : State} {i j en v : Nat} {f : RField} {fs : List RField} (hf : f.id ∉ fs.map RField.id) (i' j' : Nat) :
    (s.writeFields i j en v fs).fld f i' j' = s.fld f i' j' := by
  induction fs generalizing s with
  | nil => rfl
  | cons g t ih =>
    rw [List.map_cons, List.mem_cons, not_or] at hf
    refine (ih hf.2).trans ?_
    split
    · exact State.fld_put_id _ _ _ _ _ _ hf.1
    · exact State.fld_put_id _ _ _ _ _ _ hf.1
    · rfl

/-- A field that only the hardware writes. -/
theorem State.fld_writeFields_ro {s : State} {i j en v : Nat} {f : RField} {fs : List RField}
    (hf : ∀ g ∈ fs, g.id = f.id → g.acc = .ro ∨ g.acc = .wo) (i' j' : Nat) :
    (s.writeFields i j en v fs).fld f i' j' = s.fld f i' j' := by
  induction fs generalizing s with
  | nil => rfl
  | cons g t ih =>
    refine (ih fun x hx => hf x (List.mem_cons_of_mem _ hx)).trans ?_
    split
    · next hacc => exact State.fld_put_id _ _ _ _ _ _ fun e => by simpa [hacc] using hf g List.mem_cons_self e.symm
    · next hacc => exact State.fld_put_id _ _ _ _ _ _ fun e => by simpa [hacc] using hf g List.mem_cons_self e.symm
    · rfl

theorem hasBit_eq_testBit (x n : Nat) : hasBit x n = x.testBit n := by
  simp [hasBit, Nat.testBit_eq_decide_div_mod_eq, beq_eq_decide]

theorem hasBit_foldl_putBit (old x w n : Nat) :
    hasBit ((List.range w).foldl (fun a b => putBit a b (hasBit x b)) old) n = if n < w then hasBit x n else hasBit old n := by
  induction w with
  | zero => simp
  | succ w ih =>
    rw [List.range_succ, List.foldl_append, List.foldl_cons, List.foldl_nil, hasBit_putBit, ih]
    by_cases h : n = w
    · simp [h]
    · have hw : n < w + 1 ↔ n < w := by omega
      simp only [h, hw, if_false]

/-- With every bit enabled a mask takes the bits of another one. -/
theorem foldl_putBit_mod (old x w : Nat) :
    (List.range w).foldl (fun a b => putBit a b (hasBit x b)) old % 2 ^ w = x % 2 ^ w := by
  refine Nat.eq_of_testBit_eq fun n => ?_
  rw [Nat.testBit_mod_two_pow, Nat.testBit_mod_two_pow, ← hasBit_eq_testBit, ← hasBit_eq_testBit, hasBit_foldl_putBit]
  by_cases h : n < w <;> simp [h]

/-- With every byte enabled a field takes the bits of the word at its place. -/
theorem State.fld_writeFields {s : State} {i j v : Nat} {f : RField} {fs : List RField} (hf : f ∈ fs) (hrw : f.acc = .rw)
    (hfit : f.lsb + f.width ≤ 64) (hids : (fs.map RField.id).Nodup) :
    (s.writeFields i j (2 ^ 64 - 1) v fs).fld f i j = bitField v f.lsb f.width := by
  induction fs generalizing s with
  | nil => exact absurd hf (List.not_mem_nil)
  | cons g t ih =>
    rw [List.map_cons, List.nodup_cons] at hids
    rcases List.mem_cons.mp hf with rfl | hmem
    · refine (State.fld_writeFields_id hids.1 i j).trans ?_
      have hall : ∀ b < f.width, hasBit (bitField (2 ^ 64 - 1) f.lsb f.width) b = true := by
        intro b hb
        rw [hasBit_eq_testBit, bitField, Nat.testBit_mod_two_pow, Nat.testBit_div_two_pow, Nat.testBit_two_pow_sub_one]
        simp [hb]
        omega
      have hfold : ∀ old, (List.range f.width).foldl (fun a b => if hasBit (bitField (2 ^ 64 - 1) f.lsb f.width) b then
            putBit a b (hasBit (bitField v f.lsb f.width) b) else a) old =
          (List.range f.width).foldl (fun a b => putBit a b (hasBit (bitField v f.lsb f.width) b)) old := fun old =>
        List.foldl_ext _ _ _ fun a b hb => if_pos (hall b (List.mem_range.mp hb))
      rw [hrw]
      refine (State.fld_put_same ..).trans ?_
      rw [hfold, foldl_putBit_mod]
      exact Nat.mod_mod _ _
    · exact ih hmem hids.2

/-- What the answer of a register write leaves of the ports: the requests and the credits of its own have changed. -/
theorem State.served_port (s b : State) (w : CoreWr) (a k : Nat) :
    ∃ rs c, (s.served b w a).port k = { b.port k with reqs := rs, ccq := c } := by
  unfold State.served State.credit State.addReq State.setReqs
  by_cases hk : k = w.port
  · subst hk
    rw [State.setPort_port, State.setPort_port]
    exact ⟨_, _, rfl⟩
  · rw [State.setPort_port_ne _ _ _ hk, State.setPort_port_ne _ _ _ hk]
    exact ⟨_, _, rfl⟩

theorem State.served_keeps (s b : State) (w : CoreWr) (a : Nat) : Keeps 0x100 b (s.served b w a) :=
  (State.credit_keeps ..).step rfl (State.addReq_keeps ..)

end Sys2Proof.Machine

/-! PROOFS. Writes of the registers of a port (06 Table 6-14, 08 R206 to R218). -/
namespace Sys2Proof.Machine

/-- The registers of a port whose writes act. -/
def lnkCtlReg : RegDesc := ⟨0x300000, 256, 18, [F.LNK_CTL_LOOP_REQ, F.LNK_CTL_RETRAIN, F.LNK_CTL_EN]⟩
def lnkTxeqReg : RegDesc := ⟨0x300060, 256, 18, [F.LNK_TXEQ_MAIN, F.LNK_TXEQ_POST, F.LNK_TXEQ_PRE]⟩
def lnkRxctlReg : RegDesc := ⟨0x300068, 256, 18, [F.LNK_RXCTL_DFE_RESET, F.LNK_RXCTL_DFE_FREEZE]⟩
def lnkSscReg : RegDesc := ⟨0x300070, 256, 18, [F.LNK_SSC_FREQ, F.LNK_SSC_DEPTH, F.LNK_SSC_PENDING, F.LNK_SSC_SSC_EN]⟩
def lnkRegs : List RegDesc := [lnkCtlReg, lnkTxeqReg, lnkRxctlReg, lnkSscReg]

/-- Where `globWrite` finds register `d` of port `k`. -/
structure LnkPlace (d : RegDesc) (k : Nat) : Prop where
  reg : findReg (d.base + 0x100 * k) globRegs = some (d, k)
  flt : globFlt (d.base + 0x100 * k) = none
  place : placeOf (globBase + d.base + 0x100 * k) = .glob (d.base + 0x100 * k)
  aligned : (globBase + d.base + 0x100 * k) % 8 = 0
  within : 0x300000 ≤ d.base + 0x100 * k ∧ d.base + 0x100 * k < 0x302000

theorem lnkPlace {d : RegDesc} (hd : d ∈ lnkRegs) (k : Fin 18) : LnkPlace d k := by
  have h : ∀ d ∈ lnkRegs, ∀ k : Fin 18, findReg (d.base + 0x100 * k) globRegs = some (d, k.val) ∧ globFlt (d.base + 0x100 * k) = none ∧
      placeOf (globBase + d.base + 0x100 * k) = .glob (d.base + 0x100 * k) ∧ (globBase + d.base + 0x100 * k) % 8 = 0 ∧
      0x300000 ≤ d.base + 0x100 * k ∧ d.base + 0x100 * k < 0x302000 := by decide +kernel
  obtain ⟨hreg, hflt, hplace, haligned, hwithin⟩ := h d hd k
  exact ⟨hreg, hflt, hplace, haligned, hwithin⟩

/-- The fields of register `d` of port `k` as a write whose request has arrived leaves them. -/
def State.lnkStored (s : State) (w : CoreWr) (d : RegDesc) (k : Nat) : State :=
  (s.recsIn.arrived w.port 1).writeFields k 0 (2 ^ 64 - 1) w.data.toNat d.fields

/-- The state that a served write of register `d` of port `k` leaves, before its answer. -/
def State.lnkWritten (s : State) (w : CoreWr) (d : RegDesc) (k : Nat) : State :=
  State.globActs (s.recsIn.arrived w.port 1) (s.lnkStored w d k) d.base k (2 ^ 64 - 1) w.data.toNat

theorem State.acts_lnkReg {s : State} {w : CoreWr} {d : RegDesc} (hd : d ∈ lnkRegs) {k : Fin 18}
    (h : s.coreServes w (globBase + d.base + 0x100 * k)) (hssc : d.base = 0x300070 → optical k = false) :
    s.acts (fun x => x.coreWr w (globBase + d.base + 0x100 * k)) =
      s.followed (s.recsIn.served (s.lnkWritten w d k) w (globBase + d.base + 0x100 * k)) := by
  obtain ⟨hreg, hflt, hplace, haligned, hwithin⟩ := lnkPlace hd k
  have hwrite := State.qArrive_of_serves h.recsIn haligned ⟨_, .inr hplace⟩
  rw [State.acts_coreWr h.up hwrite, hplace]
  have hglob : ∀ a : State, a.placeWrite w.port w.part (.glob (d.base + 0x100 * k)) (2 ^ 64 - 1) w.data.toNat =
      a.globActs (a.writeFields k 0 (2 ^ 64 - 1) w.data.toNat d.fields) d.base k (2 ^ 64 - 1) w.data.toNat := by
    intro a
    show a.globWrite w.port w.part (d.base + 0x100 * k) (2 ^ 64 - 1) w.data.toNat = _
    unfold State.globWrite
    simp only [hflt, hreg]
    rw [if_neg (by omega), if_neg (by unfold pageCount; omega), if_neg (by omega), if_neg (by omega), if_neg (fun e => by simp [hssc e.1] at e)]
  rw [hglob]
  rfl

/-! ### LNK_CTL -/

theorem State.live_false {s : State} {k : Nat} (h : s.lnk k ≠ lnkUp ∧ s.lnk k ≠ lnkDegraded) : s.live k = false := by
  simp [State.live, h.1, h.2]

theorem Keeps.live {M : Nat} {s t : State} (h : Keeps M s t) (hM : spares M F.LNK_STAT_STATE = true) (k : Nat) : t.live k = s.live k := by
  unfold State.live State.lnk
  rw [h.fld_eq hM]

theorem State.retrainOwn_idle {s : State} {k : Nat} (h : s.live k = false) : s.retrainOwn k = s := by
  unfold State.retrainOwn
  rw [if_neg (by simp [h])]

theorem State.loopReqChanged_idle {s : State} {k : Nat} (h : s.live k = false) (hv : s.fld F.LNK_CTL_LOOP_REQ k ≠ 0) : s.loopReqChanged k = s := by
  unfold State.loopReqChanged
  extract_lets v
  rw [if_neg hv, if_neg (by simp [h])]

theorem State.loopReqChanged_down {s : State} {k : Nat} (h : s.lnk k = lnkDown) : (s.loopReqChanged k).lnk k = lnkDown := by
  by_cases hv : s.fld F.LNK_CTL_LOOP_REQ k = 0
  · unfold State.loopReqChanged
    extract_lets v
    rw [if_pos hv, if_neg (by simp [h, lnkDown, lnkLoop])]
    exact h
  · rw [State.loopReqChanged_idle (State.live_false (by rw [h]; decide)) hv]
    exact h

/-- What keeps a live port up leaves it so. -/
theorem State.comeUp_live {s : State} {k : Nat} (hlive : s.live k = true) : Keeps (fieldsMask [F.PYU_PORT_STAT_PROBE]) s (s.comeUp k) := by
  have hdown : s.lnk k ≠ lnkDown := fun h => by simp [State.live, h, lnkDown, lnkUp, lnkDegraded] at hlive
  unfold State.comeUp
  split
  · have hp : (s.putFlag F.PYU_PORT_STAT_PROBE (s.lnk k == lnkDown && s.probeOk k) k).lnk k = s.lnk k :=
      State.fld_putFlag_id _ _ _ _ _ _ (by decide)
    unfold State.tryLight
    rw [hp, if_neg (by simp [hdown])]
    exact .putFlag rfl (.refl _ _)
  · unfold State.tryCopper
    rw [if_neg (by simp [hdown])]
    exact .refl _ _

theorem State.lnkHold_down {s : State} {k : Nat} (h : s.lnk k = lnkDown) : (s.lnkHold k).lnk k = lnkDown := by
  unfold State.lnkHold
  extract_lets b
  split
  · exact State.enterDown_lnk _ k
  · exact h

theorem State.retrain_down {s : State} {k : Nat} (hlive : s.live k = true)
    (hmany : 3 ≤ ((s.port k).recentRetrains s.tim.optime).length) : (s.retrain k).lnk k = lnkDown := by
  unfold State.retrain
  rw [if_pos hlive]
  extract_lets p recent q s1 s2 s3 s4
  have hrecent : recent.length ≥ 3 := hmany
  rw [if_pos hrecent]
  exact State.lnkHold_down (State.enterDown_lnk _ k)

/-- What a retrain writes beside the count of retrains. -/
def retrainMask : Nat := mask25 ^^^ fieldsMask [F.LNK_ERRCNT_RETRAINS]

theorem State.retrain_count {s : State} {k : Nat} (hlive : s.live k = true) :
    (s.retrain k).fld F.LNK_ERRCNT_RETRAINS k = addSat 8 (s.fld F.LNK_ERRCNT_RETRAINS k) 1 := by
  unfold State.retrain
  rw [if_pos hlive]
  extract_lets p recent q s1 s2 s3 s4
  have h1 : s1.fld F.LNK_ERRCNT_RETRAINS k = addSat 8 (s.fld F.LNK_ERRCNT_RETRAINS k) 1 := State.fld_count _ _ _ _ _
  have h3 : Keeps retrainMask s1 s3 := State.withSvc_keeps rfl (.step (State.lnkEv_keeps ..) rfl <| .put rfl <| .put rfl <| .refl _ _)
    fun _ h => .ite (fun _ => .putBitOf rfl h) fun _ => h
  have h4 : Keeps retrainMask s1 s4 := .step (State.ringsSettle_keeps ..) rfl <| .step (State.rotShow_keeps ..) rfl h3
  clear_value s1 s3 s4
  refine Keeps.fld_trans (M := retrainMask) ?_ rfl h1
  exact .ite (fun _ => .step (State.lnkHold_keeps ..) rfl <| .step (State.enterDown_keeps ..) rfl <| .step (State.lnkEv_keeps ..) rfl h4)
    fun _ => .step (State.tryDeskew_keeps ..) rfl h4

theorem State.retrainOwn_effect {s : State} {k : Nat} (hlive : s.live k = true) :
    (s.retrainOwn k).fld F.LNK_ERRCNT_RETRAINS k = addSat 8 (s.fld F.LNK_ERRCNT_RETRAINS k) 1 ∧
    (s.retrainOwn k).lnk k = (if ((s.port k).recentRetrains s.tim.optime).length < 3 then lnkAlign else lnkDown) := by
  have hlm : (((s.newTxid k).2.lm k (lmBytes 0x0A (s.port k).txid 0 0 0 0 0 0)).port k).recentRetrains s.tim.optime =
      (s.port k).recentRetrains s.tim.optime := by
    simp [Port.recentRetrains]
  have hown : s.retrainOwn k = ((s.newTxid k).2.lm k (lmBytes 0x0A (s.port k).txid 0 0 0 0 0 0)).retrain k := by
    unfold State.retrainOwn
    rw [if_pos hlive]
    rfl
  rw [hown]
  refine ⟨State.retrain_count (s := (s.newTxid k).2.lm k (lmBytes 0x0A (s.port k).txid 0 0 0 0 0 0)) hlive, ?_⟩
  split
  next hfew => exact (State.retrain_aligns (s := (s.newTxid k).2.lm k (lmBytes 0x0A (s.port k).txid 0 0 0 0 0 0)) hlive (hlm ▸ hfew)).1
  next hmany =>
    exact State.retrain_down (s := (s.newTxid k).2.lm k (lmBytes 0x0A (s.port k).txid 0 0 0 0 0 0)) hlive (hlm ▸ Nat.not_lt.mp hmany)

theorem State.lnkCtlActs_off {s0 s : State} {k : Nat} {r : Bool} (hen : s.flag F.LNK_CTL_EN k = false) :
    (s0.lnkCtlActs s k r).lnk k = lnkDown := by
  unfold State.lnkCtlActs
  extract_lets s1 s2 v
  have h1 : s1.lnk k = lnkDown := by
    unfold s1
    rw [if_neg (by simp [hen])]
    exact State.enterDown_lnk s k
  have h2 : s2.lnk k = lnkDown := by
    unfold s2
    rw [State.retrainOwn_idle (State.live_false (by rw [h1]; decide)), ite_self]
    exact h1
  split
  · exact h2
  · exact State.loopReqChanged_down h2

theorem State.lnkCtlActs_retrain {s0 s : State} {k : Nat} (hen : s.flag F.LNK_CTL_EN k = true) (hlive : s.live k = true)
    (hsame : s.fld F.LNK_CTL_LOOP_REQ k = s0.fld F.LNK_CTL_LOOP_REQ k) :
    s0.lnkCtlActs s k true = (s.comeUp k).retrainOwn k := by
  unfold State.lnkCtlActs
  extract_lets s1 s2 v
  have h2 : s2 = (s.comeUp k).retrainOwn k := by
    unfold s2 s1
    rw [if_pos hen, if_pos rfl]
  split
  next => exact h2
  next hv =>
    have hloop : s2.fld F.LNK_CTL_LOOP_REQ k = v := by
      rw [h2]
      exact (State.retrainOwn_keeps _ k).fld_trans rfl ((State.comeUp_live hlive).fld_eq rfl)
    have hidle : s2.live k = false := by
      rw [h2]
      refine State.live_false ?_
      rw [(State.retrainOwn_effect (((State.comeUp_live hlive).live rfl k).trans hlive)).2]
      split <;> decide
    rw [State.loopReqChanged_idle hidle (fun h0 => hv ⟨hsame, hloop.symm.trans h0⟩), h2]

theorem State.lnkCtlActs_loop {s0 s : State} {k : Nat} (hen : s.flag F.LNK_CTL_EN k = true)
    (hchange : s.fld F.LNK_CTL_LOOP_REQ k ≠ 0 ∨ s.fld F.LNK_CTL_LOOP_REQ k ≠ s0.fld F.LNK_CTL_LOOP_REQ k) :
    s0.lnkCtlActs s k false = (s.comeUp k).loopReqChanged k := by
  unfold State.lnkCtlActs
  extract_lets s1 s2 v
  rw [if_neg (fun h => hchange.elim (· h.2) (· h.1))]
  unfold s2 s1
  rw [if_pos hen, if_neg (by decide)]

/-- What entry to LOOP writes once the state of the port is written. -/
def loopMask : Nat := mask147 ^^^ fieldsMask [F.LNK_STAT_STATE]

theorem State.enterLoop_lnk (s : State) (k : Nat) : (s.enterLoop k).lnk k = lnkLoop := by
  unfold State.enterLoop
  extract_lets q s1 s2 s3 s4 s5
  have h2 : Keeps loopMask s1 s2 := .foldl _ (.refl _ _) fun a n ha => .put rfl ha
  clear_value s2
  have h4 : Keeps loopMask s1 s4 := .ite
    (fun _ => .putFlag rfl <| .step (State.rotShow_keeps ..) rfl <| .put rfl <| .put rfl h2)
    fun _ => .step (State.rotShow_keeps ..) rfl <| .put rfl <| .put rfl h2
  have h5 : Keeps loopMask s1 s5 := .foldl _ h4 fun a n ha => .step (State.setLine_keeps ..) rfl <| .step (State.setLine_keeps ..) rfl ha
  clear_value s5
  refine Keeps.fld_trans (M := loopMask) (s := s1) ?_ rfl (State.put_lnk _ _ (by decide))
  exact State.withSvc_keeps rfl (.step (State.ringsSettle_keeps ..) rfl h5) fun _ h => .ite (fun _ => .putBitOf rfl h) fun _ => h

theorem State.loopAsk_effect (s : State) (k : Nat) : ((s.loopAsk k).port k).loop = some { txid := (s.port k).txid } ∧
    (s.loopAsk k).flag F.LNK_LOOP_STAT_LOOP_FAIL k = false := by
  generalize hasked : (s.newTxid k).2.setPort k { (s.newTxid k).2.port k with loop := some { txid := (s.port k).txid } } = a
  have hport : a.port k = { (s.newTxid k).2.port k with loop := some { txid := (s.port k).txid } } := by
    rw [← hasked]
    exact State.setPort_port _ _ _
  have hask : s.loopAsk k = (a.putFlag F.LNK_LOOP_STAT_LOOP_FAIL false k).lm k (lmBytes 0x08 (s.port k).txid 1 0 0 0 0 0) := by
    rw [← hasked]
    rfl
  rw [hask, State.lm_port]
  refine ⟨(congrArg Port.loop hport).trans rfl, ?_⟩
  exact (State.lm_keeps ..).flag_trans rfl (State.flag_putFlag _ _ _ _ _ (by decide))

theorem State.loopReqChanged_effect {s : State} {k v : Nat} (hlive : s.live k = true) (hv : s.fld F.LNK_CTL_LOOP_REQ k = v) :
    (v = 1 ∨ v = 2 → (s.loopReqChanged k).lnk k = lnkLoop) ∧
    (v = 3 → ((s.loopReqChanged k).port k).loop = some { txid := (s.port k).txid } ∧
      (s.loopReqChanged k).flag F.LNK_LOOP_STAT_LOOP_FAIL k = false) ∧
    (v = 0 → ((s.loopReqChanged k).port k).loop = none) := by
  unfold State.loopReqChanged
  extract_lets x
  have hx : x = v := hv
  refine ⟨fun h => ?_, fun h => ?_, fun h => ?_⟩
  · rw [if_neg (by omega), if_pos hlive, if_neg (by omega)]
    exact State.enterLoop_lnk s k
  · rw [if_neg (by omega), if_pos hlive, if_pos (by omega)]
    exact State.loopAsk_effect s k
  · have hloop : s.lnk k ≠ lnkLoop := by
      rcases State.live_iff.mp hlive with h | h <;> rw [h] <;> decide
    rw [if_pos (hx.trans h), if_neg hloop]
    exact (congrArg Port.loop (s.setPort_port k _)).trans rfl

/-! ### The equaliser and the spread-spectrum clock -/

theorem State.txeqActs_effect (s : State) (k : Nat) (hpre : s.fld F.LNK_TXEQ_PRE k < 16) (hpost : s.fld F.LNK_TXEQ_POST k < 32) :
    (s.txeqActs k).fld F.LNK_TXEQ_PRE k = min (s.fld F.LNK_TXEQ_PRE k) (if optical k then 8 else 12) ∧
    (s.txeqActs k).fld F.LNK_TXEQ_POST k = min (s.fld F.LNK_TXEQ_POST k) (if optical k then 16 else 24) ∧
    (s.txeqActs k).fld F.LNK_TXEQ_MAIN k = s.fld F.LNK_TXEQ_MAIN k ∧
    ((s.txeqActs k).port k).fir = (s.port k).fir ∧ ((s.txeqActs k).port k).txeqPend = true := by
  unfold State.txeqActs
  extract_lets s1 s2
  have h1 : s1.fld F.LNK_TXEQ_POST k = s.fld F.LNK_TXEQ_POST k := State.fld_put_id _ _ _ _ _ _ (by decide)
  have hport : (s2.setPort k { s2.port k with txeqPend := true }).port k = { s2.port k with txeqPend := true } := s2.setPort_port _ _
  rw [hport]
  refine ⟨?_, ?_, ?_, rfl, rfl⟩
  · refine (State.fld_put_id (f := F.LNK_TXEQ_POST) s1 _ _ _ _ _ (by decide)).trans (State.fld_put _ _ ?_ _ _)
    exact lt_of_le_of_lt (Nat.min_le_left _ _) hpre
  · refine State.fld_put s1 F.LNK_TXEQ_POST ?_ k 0
    exact lt_of_le_of_lt (Nat.min_le_left _ _) (h1 ▸ hpost)
  · exact (State.fld_put_id (f := F.LNK_TXEQ_POST) s1 _ _ _ _ _ (by decide)).trans (State.fld_put_id _ _ _ _ _ _ (by decide))

theorem State.sscActs_effect (s : State) (k : Nat) :
    (s.sscActs k).fld F.LNK_SSC_FREQ k = clampN 30 33 (s.fld F.LNK_SSC_FREQ k) ∧
    (s.sscActs k).fld F.LNK_SSC_DEPTH k = min 50 (s.fld F.LNK_SSC_DEPTH k) ∧
    (s.sscActs k).flag F.LNK_SSC_SSC_EN k = s.flag F.LNK_SSC_SSC_EN k ∧
    (s.lnk k ≠ lnkDown → (s.sscActs k).flag F.LNK_SSC_PENDING k = true ∧ ((s.sscActs k).port k).ssc = (s.port k).ssc) ∧
    (s.lnk k = lnkDown → ((s.sscActs k).port k).ssc =
      (clampN 30 33 (s.fld F.LNK_SSC_FREQ k), min 50 (s.fld F.LNK_SSC_DEPTH k), s.fld F.LNK_SSC_SSC_EN k)) := by
  unfold State.sscActs
  extract_lets s1
  have hfreq : clampN 30 33 (s.fld F.LNK_SSC_FREQ k) < 2 ^ 8 := by
    unfold clampN
    split
    · decide
    · split <;> omega
  have hdepth : min 50 (s.fld F.LNK_SSC_DEPTH k) < 2 ^ 8 := lt_of_le_of_lt (Nat.min_le_left _ _) (by decide)
  have h1 : s1.fld F.LNK_SSC_FREQ k = clampN 30 33 (s.fld F.LNK_SSC_FREQ k) ∧ s1.fld F.LNK_SSC_DEPTH k = min 50 (s.fld F.LNK_SSC_DEPTH k) ∧
      s1.fld F.LNK_SSC_SSC_EN k = s.fld F.LNK_SSC_SSC_EN k := by
    refine ⟨?_, ?_, ?_⟩
    · exact (State.fld_put_id _ _ _ _ _ _ (by decide)).trans (State.fld_put _ _ hfreq _ _)
    · exact State.fld_put _ _ hdepth _ _
    · exact (State.fld_put_id _ _ _ _ _ _ (by decide)).trans (State.fld_put_id _ _ _ _ _ _ (by decide))
  have hlnk : s1.lnk k = s.lnk k := (State.fld_put_id _ _ _ _ _ _ (by decide)).trans (State.fld_put_id _ _ _ _ _ _ (by decide))
  have hen : s1.flag F.LNK_SSC_SSC_EN k = s.flag F.LNK_SSC_SSC_EN k := by
    unfold State.flag
    rw [h1.2.2]
  have hport : s1.port k = s.port k := rfl
  clear_value s1
  by_cases hdown : s.lnk k = lnkDown
  · rw [if_pos (hlnk.trans hdown)]
    refine ⟨h1.1, h1.2.1, hen, fun h => absurd hdown h, fun _ => ?_⟩
    refine (congrArg Port.ssc (s1.setPort_port k _)).trans ?_
    rw [h1.1, h1.2.1, h1.2.2]
  · rw [if_neg (hlnk ▸ hdown)]
    refine ⟨?_, ?_, ?_, fun _ => ⟨State.flag_putFlag _ _ _ _ _ (by decide), congrArg Port.ssc hport⟩, fun h => absurd h hdown⟩
    · exact (State.fld_putFlag_id _ _ _ _ _ _ (by decide)).trans h1.1
    · exact (State.fld_putFlag_id _ _ _ _ _ _ (by decide)).trans h1.2.1
    · exact (State.flag_putFlag_id _ _ _ _ _ _ (by decide)).trans hen

/-! ### The decision feedback equaliser -/

/-- The taps of a lane and their mark read 0. -/
def State.dfeClear (s : State) (k n : Nat) : Prop :=
  s.fld F.LNK_DFE_H1 k n = 0 ∧ s.fld F.LNK_DFE_H2 k n = 0 ∧ s.fld F.LNK_DFE_H3 k n = 0 ∧ s.fld F.LNK_DFE_H4 k n = 0 ∧
    s.fld F.LNK_DFE_H5 k n = 0 ∧ s.fld F.LNK_DFE_SAT k n = 0

theorem State.dfeZero_clear (s : State) (k n : Nat) : (s.dfeZero k n).dfeClear k n := by
  unfold State.dfeZero State.dfeClear
  refine ⟨?_, ?_, ?_, ?_, ?_, State.fld_put _ _ (by decide) _ _⟩ <;>
    simp (disch := decide) only [State.fld_put_id, State.fld_put]

theorem State.dfeZero_clear_mono {s : State} {k n m : Nat} (h : s.dfeClear k n) : (s.dfeZero k m).dfeClear k n := by
  by_cases hn : n = m
  · subst hn
    exact s.dfeZero_clear k n
  · have hkeep : ∀ f : RField, (s.dfeZero k m).fld f k n = s.fld f k n := by
      intro f
      have hkey : ∀ g : RField, f.key k n ≠ g.key k m := fun g e => hn (congrArg Key.c e)
      unfold State.dfeZero
      simp only [State.fld_put_ne _ _ (hkey _)]
    simp only [State.dfeClear, hkeep]
    exact h

/-- A lane's lock is that of its detectors and its ring. -/
theorem Keeps.locked {M : Nat} {s t : State} (h : Keeps M s t)
    (hM : (!M.testBit 9 && spares M F.LNK_LANE_STAT_LOS && spares M F.LNK_LANE_STAT_LOL && spares M F.LNK_LANE_STAT_CLK_LOL) = true) (k n : Nat) :
    t.locked k n = s.locked k n := by
  simp only [Bool.and_eq_true, Bool.not_eq_true'] at hM
  obtain ⟨⟨⟨hrings, hlos⟩, hlol⟩, hclk⟩ := hM
  unfold State.locked
  rw [h.bit_eq hlos, h.bit_eq hlol, h.flag_eq hclk, h.ring hrings]

theorem State.dfeResetActs_clear (s : State) (k : Nat) {n : Nat} (hn : n < 20) (h : s.locked k n = true) : (s.dfeResetActs k).dfeClear k n := by
  unfold State.dfeResetActs
  have hfold : ∀ (l : List Nat) (a : State), a.locked k n = true → a.dfeClear k n ∨ n ∈ l →
      (l.foldl (fun a n => if a.locked k n then a.dfeZero k n else a) a).dfeClear k n := by
    intro l
    induction l with
    | nil => exact fun a _ hc => hc.elim id fun hm => absurd hm List.not_mem_nil
    | cons m l ih =>
      intro a hlock hc
      refine ih _ ?_ ?_
      · dsimp only
        split
        · exact ((State.dfeZero_keeps a k m).locked rfl k n).trans hlock
        · exact hlock
      · by_cases hm : n = m
        · subst hm
          left
          dsimp only
          rw [if_pos hlock]
          exact a.dfeZero_clear k n
        · refine hc.imp (fun hclear => ?_) fun hmem => (List.mem_cons.mp hmem).resolve_left hm
          dsimp only
          split
          · exact State.dfeZero_clear_mono hclear
          · exact hclear
  exact hfold _ s h (.inr (List.mem_range.mpr hn))

theorem State.rxctlActs_clear (s0 s : State) (k : Nat) {n : Nat} (hn : n < 20) (h : s.locked k n = true) :
    (s0.rxctlActs s k true).dfeClear k n := by
  unfold State.rxctlActs
  extract_lets s1
  rw [if_pos rfl]
  refine State.dfeResetActs_clear s1 k hn ?_
  unfold s1
  split
  · exact ((State.adaptEnd_keeps s k).locked rfl k n).trans h
  · exact h

/-! ### The rows -/

/-- What follows a command that has come to `a`. -/
theorem State.followed_keeps (s a : State) : Keeps (mask244 ||| mask6 ||| mask4) a (s.followed a) :=
  (State.recsOut_keeps _).step rfl (State.serviced_keeps rfl ((State.powerSettle_keeps a).mono rfl))

theorem State.dfeClear_of_keeps {M : Nat} {s t : State} (h : Keeps M s t)
    (hM : ([F.LNK_DFE_H1, F.LNK_DFE_H2, F.LNK_DFE_H3, F.LNK_DFE_H4, F.LNK_DFE_H5, F.LNK_DFE_SAT].all (Sys2Proof.Machine.spares M)) = true) {k n : Nat}
    (hc : s.dfeClear k n) : t.dfeClear k n := by
  simp only [List.all_cons, List.all_nil, Bool.and_eq_true, Bool.and_true] at hM
  obtain ⟨m1, m2, m3, m4, m5, m6⟩ := hM
  obtain ⟨h1, h2, h3, h4, h5, h6⟩ := hc
  exact ⟨h.fld_trans m1 h1, h.fld_trans m2 h2, h.fld_trans m3 h3, h.fld_trans m4 h4, h.fld_trans m5 h5, h.fld_trans m6 h6⟩

theorem State.arrived_port (s : State) (k n j : Nat) : ∃ x, (s.arrived k n).port j = { s.port j with ack := x } := by
  by_cases hj : j = k
  · subst hj
    exact ⟨_, s.setPort_port j _⟩
  · exact ⟨_, s.setPort_port_ne k _ hj⟩

section
variable (s : State) (w : CoreWr) (k : Nat)

/-- The fields that the writes store. -/
def lnkStoredMask : Nat := fieldsMask [F.LNK_CTL_LOOP_REQ, F.LNK_CTL_EN, F.LNK_TXEQ_POST, F.LNK_TXEQ_PRE, F.LNK_RXCTL_DFE_FREEZE,
  F.LNK_SSC_FREQ, F.LNK_SSC_DEPTH, F.LNK_SSC_SSC_EN]

theorem State.lnkStored_fld {d : RegDesc} (hd : d ∈ lnkRegs) {f : RField} (hf : f ∈ d.fields) (hrw : f.acc = .rw) :
    (s.lnkStored w d k).fld f k = bitField w.data.toNat f.lsb f.width := by
  have hall : ∀ d ∈ lnkRegs, (d.fields.map RField.id).Nodup ∧ ∀ f ∈ d.fields, f.lsb + f.width ≤ 64 := by decide
  exact State.fld_writeFields hf hrw ((hall d hd).2 f hf) (hall d hd).1

theorem State.lnkStored_flag {d : RegDesc} (hd : d ∈ lnkRegs) {f : RField} (hf : f ∈ d.fields) (hrw : f.acc = .rw) (hw : f.width = 1) :
    (s.lnkStored w d k).flag f k = hasBit w.data.toNat f.lsb := by
  unfold State.flag
  rw [s.lnkStored_fld w k hd hf hrw, hw]
  rfl

theorem State.lnkStored_keeps {d : RegDesc} (hd : d ∈ lnkRegs) :
    Keeps lnkStoredMask (s.recsIn.arrived w.port 1) (s.lnkStored w d k) := by
  have hall : ∀ d ∈ lnkRegs, (d.fields.all fun f => !f.writes || lnkStoredMask.testBit (32 + f.id)) = true := by decide
  exact Keeps.writeFields _ (hall d hd) (.refl _ _)

theorem State.lnkStored_port {d : RegDesc} (hd : d ∈ lnkRegs) : ∃ x, (s.lnkStored w d k).port k = { s.port k with ack := x } := by
  obtain ⟨x, hx⟩ := s.recsIn.arrived_port w.port 1 k
  exact ⟨x, ((s.lnkStored_keeps w k hd).port rfl k).trans hx⟩

theorem State.lnkStored_live {d : RegDesc} (hd : d ∈ lnkRegs) : (s.lnkStored w d k).live k = s.live k :=
  (s.lnkStored_keeps w k hd).live rfl k

end

/-- The port as it stands once the answer of a write to it waits, but for what answers change. -/
theorem State.served_port_of {α : Type} {s b : State} {w : CoreWr} {a k : Nat} (g : Port → α)
    (hg : ∀ p rs c, g { p with reqs := rs, ccq := c } = g p) : g ((s.served b w a).port k) = g (b.port k) := by
  obtain ⟨rs, c, h⟩ := State.served_port s b w a k
  rw [h, hg]

/-- What a register write leaves after what it has done. -/
theorem State.answered_keeps (s b : State) (w : CoreWr) (a : Nat) :
    Keeps (mask244 ||| mask6 ||| mask4) b (s.followed (s.recsIn.served b w a)) :=
  (State.followed_keeps ..).step rfl ((State.served_keeps ..).mono rfl)

theorem State.answered_fir (s b : State) (w : CoreWr) (a k : Nat) :
    ((s.followed (s.recsIn.served b w a)).port k).fir = (b.port k).fir ∧
    ((s.followed (s.recsIn.served b w a)).port k).txeqPend = (b.port k).txeqPend := by
  have hsettled := State.followed_portsSettled s (s.recsIn.served b w a) k
  exact ⟨hsettled.fir.trans (State.served_port_of Port.fir fun _ _ _ => rfl),
    hsettled.txeqPend.trans (State.served_port_of Port.txeqPend fun _ _ _ => rfl)⟩

/-- Settles O20. -/
theorem linkRegisterRowsTakeEffect : Obligations.LinkRegisterRowsTakeEffect := by
  unfold Obligations.LinkRegisterRowsTakeEffect
  refine ⟨fun s w k hw => ?_, fun s w k hw hlive hen hretrain hloop => ?_, fun s w k v hw hlive hen hretrain hloop hchange => ?_,
    fun s w k hw => ?_, fun s w k hw hreset => ?_, fun s w k hw => ?_, fun s w k hw hk => ?_⟩
  · have hact := State.acts_lnkReg (d := lnkCtlReg) (by decide) hw (fun e => absurd e (by decide))
    have hflag := s.lnkStored_flag w k (d := lnkCtlReg) (by decide) (f := F.LNK_CTL_EN) (by decide) rfl rfl
    refine ⟨_, congrArg Host.Outcome.next hact, ?_, fun h0 => ?_⟩
    · exact (State.served_keeps ..).flag_trans rfl ((State.lnkCtlActs_keeps _ (s.lnkStored w lnkCtlReg k) k _).flag_trans rfl hflag)
    · exact (State.served_keeps ..).fld_trans rfl (State.lnkCtlActs_off (s := s.lnkStored w lnkCtlReg k) (hflag.trans h0))
  · have hact := State.acts_lnkReg (d := lnkCtlReg) (by decide) hw (fun e => absurd e (by decide))
    have hflag := s.lnkStored_flag w k (d := lnkCtlReg) (by decide) (f := F.LNK_CTL_EN) (by decide) rfl rfl
    have hreq := s.lnkStored_fld w k (d := lnkCtlReg) (by decide) (f := F.LNK_CTL_LOOP_REQ) (by decide) rfl
    have hup := ((s.lnkStored_live w k (d := lnkCtlReg) (by decide)).trans hlive)
    have hcome := State.comeUp_live hup
    have heq : s.lnkWritten w lnkCtlReg k = ((s.lnkStored w lnkCtlReg k).comeUp k).retrainOwn k := by
      have hwrote : (wroteFld F.LNK_CTL_RETRAIN (2 ^ 64 - 1) w.data.toNat == 1) = true := by
        rw [wroteFld_whole F.LNK_CTL_RETRAIN _ (by decide)]
        exact hretrain
      refine (congrArg (State.lnkCtlActs _ (s.lnkStored w lnkCtlReg k) k) hwrote).trans ?_
      exact State.lnkCtlActs_retrain (hflag.trans hen) hup (hreq.trans hloop)
    obtain ⟨x, hport⟩ := s.lnkStored_port w k (d := lnkCtlReg) (by decide)
    have heff := State.retrainOwn_effect ((hcome.live rfl k).trans hup)
    refine ⟨_, congrArg Host.Outcome.next hact, ?_, ?_⟩
    · refine (State.served_keeps ..).fld_trans rfl ?_
      rw [heq, heff.1, hcome.fld_eq rfl, (s.lnkStored_keeps w k (by decide)).fld_eq rfl]
      rfl
    · refine (State.served_keeps ..).fld_trans rfl ?_
      show (s.lnkWritten w lnkCtlReg k).lnk k = _
      rw [heq, heff.2, hcome.port rfl, hport, hcome.tim rfl, (s.lnkStored_keeps w k (by decide)).tim rfl]
      rfl
  · have hact := State.acts_lnkReg (d := lnkCtlReg) (by decide) hw (fun e => absurd e (by decide))
    have hflag := s.lnkStored_flag w k (d := lnkCtlReg) (by decide) (f := F.LNK_CTL_EN) (by decide) rfl rfl
    have hreq := (s.lnkStored_fld w k (d := lnkCtlReg) (by decide) (f := F.LNK_CTL_LOOP_REQ) (by decide) rfl).trans hloop
    have hup := ((s.lnkStored_live w k (d := lnkCtlReg) (by decide)).trans hlive)
    have hcome := State.comeUp_live hup
    have heq : s.lnkWritten w lnkCtlReg k = ((s.lnkStored w lnkCtlReg k).comeUp k).loopReqChanged k := by
      have hwrote : (wroteFld F.LNK_CTL_RETRAIN (2 ^ 64 - 1) w.data.toNat == 1) = false := by
        rw [wroteFld_whole F.LNK_CTL_RETRAIN _ (by decide)]
        exact hretrain
      refine (congrArg (State.lnkCtlActs _ (s.lnkStored w lnkCtlReg k) k) hwrote).trans ?_
      refine State.lnkCtlActs_loop (hflag.trans hen) ?_
      rw [hreq]
      exact hchange
    obtain ⟨x, hport⟩ := s.lnkStored_port w k (d := lnkCtlReg) (by decide)
    obtain ⟨hloop12, hloop3, hloop0⟩ := State.loopReqChanged_effect ((hcome.live rfl k).trans hup) (hcome.fld_trans rfl hreq)
    rw [hcome.port rfl, hport] at hloop3
    rw [← heq] at hloop12 hloop3 hloop0
    refine ⟨_, congrArg Host.Outcome.next hact, ?_, fun h => ?_, fun h => ⟨?_, ?_⟩, fun h => ?_⟩
    · exact (State.served_keeps ..).fld_trans rfl ((State.lnkCtlActs_keeps _ (s.lnkStored w lnkCtlReg k) k _).fld_trans rfl hreq)
    · exact (State.served_keeps ..).fld_trans rfl (hloop12 h)
    · exact (State.served_port_of Port.loop fun _ _ _ => rfl).trans (hloop3 h).1
    · exact (State.served_keeps ..).flag_trans rfl (hloop3 h).2
    · exact (State.served_port_of Port.loop fun _ _ _ => rfl).trans (hloop0 h)
  · have hact := State.acts_lnkReg (d := lnkTxeqReg) (by decide) hw (fun e => absurd e (by decide))
    have hpre := s.lnkStored_fld w k (d := lnkTxeqReg) (by decide) (f := F.LNK_TXEQ_PRE) (by decide) rfl
    have hpost := s.lnkStored_fld w k (d := lnkTxeqReg) (by decide) (f := F.LNK_TXEQ_POST) (by decide) rfl
    obtain ⟨x, hport⟩ := s.lnkStored_port w k (d := lnkTxeqReg) (by decide)
    obtain ⟨hpre', hpost', hmain, hfir, hpend⟩ := State.txeqActs_effect (s.lnkStored w lnkTxeqReg k) k
      (hpre ▸ Nat.mod_lt _ (by decide)) (hpost ▸ Nat.mod_lt _ (by decide))
    have hend := State.answered_keeps s (s.lnkWritten w lnkTxeqReg k) w (globBase + 0x300060 + 0x100 * k)
    obtain ⟨hend1, hend2⟩ := State.answered_fir s (s.lnkWritten w lnkTxeqReg k) w (globBase + 0x300060 + 0x100 * k) k
    refine ⟨_, congrArg Host.Outcome.next hact, ?_, ?_, ?_, ?_, ?_⟩
    · exact hend.fld_trans rfl (hpre'.trans (by rw [hpre]; rfl))
    · exact hend.fld_trans rfl (hpost'.trans (by rw [hpost]; rfl))
    · exact hend.fld_trans rfl (hmain.trans ((s.lnkStored_keeps w k (by decide)).fld_eq rfl))
    · exact hend1.trans (hfir.trans (by rw [hport]))
    · exact hend2.trans hpend
  · have hact := State.acts_lnkReg (d := lnkRxctlReg) (by decide) hw (fun e => absurd e (by decide))
    have hend := State.answered_keeps s (s.lnkWritten w lnkRxctlReg k) w (globBase + 0x300068 + 0x100 * k)
    have heq : s.lnkWritten w lnkRxctlReg k = (s.recsIn.arrived w.port 1).rxctlActs (s.lnkStored w lnkRxctlReg k) k true := by
      have hwrote : (wroteFld F.LNK_RXCTL_DFE_RESET (2 ^ 64 - 1) w.data.toNat == 1) = true := by
        rw [wroteFld_whole F.LNK_RXCTL_DFE_RESET _ (by decide)]
        exact hreset
      exact congrArg (State.rxctlActs _ (s.lnkStored w lnkRxctlReg k) k) hwrote
    refine ⟨_, congrArg Host.Outcome.next hact, fun n hlock => State.dfeClear_of_keeps hend rfl ?_⟩
    rw [heq]
    exact State.rxctlActs_clear _ _ _ n.isLt (((s.lnkStored_keeps w k (by decide)).locked rfl k n).trans hlock)
  · have hact := State.acts_lnkReg (d := lnkRxctlReg) (by decide) hw (fun e => absurd e (by decide))
    have hflag := s.lnkStored_flag w k (d := lnkRxctlReg) (by decide) (f := F.LNK_RXCTL_DFE_FREEZE) (by decide) rfl rfl
    refine ⟨_, congrArg Host.Outcome.next hact, ?_⟩
    exact (State.answered_keeps ..).flag_trans rfl ((State.rxctlActs_keeps _ (s.lnkStored w lnkRxctlReg k) k _).flag_trans rfl hflag)
  · have hact := State.acts_lnkReg (d := lnkSscReg) (by decide) hw (fun _ => hk)
    have hfreq := s.lnkStored_fld w k (d := lnkSscReg) (by decide) (f := F.LNK_SSC_FREQ) (by decide) rfl
    have hdepth := s.lnkStored_fld w k (d := lnkSscReg) (by decide) (f := F.LNK_SSC_DEPTH) (by decide) rfl
    have hen := s.lnkStored_fld w k (d := lnkSscReg) (by decide) (f := F.LNK_SSC_SSC_EN) (by decide) rfl
    have hflag := s.lnkStored_flag w k (d := lnkSscReg) (by decide) (f := F.LNK_SSC_SSC_EN) (by decide) rfl rfl
    obtain ⟨x, hport⟩ := s.lnkStored_port w k (d := lnkSscReg) (by decide)
    have hlnk : (s.lnkStored w lnkSscReg k).lnk k = s.lnk k := (s.lnkStored_keeps w k (by decide)).fld_eq rfl
    obtain ⟨hfreq', hdepth', hflag', hpend, hdown⟩ := State.sscActs_effect (s.lnkStored w lnkSscReg k) k
    have heq : s.lnkWritten w lnkSscReg k = (s.lnkStored w lnkSscReg k).sscActs k := rfl
    have hssc : s.lnk k = lnkDown → ((s.lnkWritten w lnkSscReg k).port k).ssc =
        (clampN 30 33 (bitField w.data.toNat 16 8), min 50 (bitField w.data.toNat 8 8), bitField w.data.toNat 0 1) := by
      rw [hlnk, hfreq, hdepth, hen] at hdown
      rw [heq]
      exact hdown
    rw [← heq] at hfreq' hdepth' hflag' hpend
    rw [hlnk] at hpend
    rw [hfreq] at hfreq'
    rw [hdepth] at hdepth'
    refine ⟨_, congrArg Host.Outcome.next hact, ?_, ?_, ?_, fun h => ⟨?_, ?_⟩, fun h => ?_⟩
    · exact (State.served_keeps ..).fld_trans rfl hfreq'
    · exact (State.served_keeps ..).fld_trans rfl hdepth'
    · exact (State.served_keeps ..).flag_trans rfl (hflag'.trans hflag)
    · exact (State.served_keeps ..).flag_trans rfl (hpend h).1
    · exact (State.served_port_of Port.ssc fun _ _ _ => rfl).trans ((hpend h).2.trans (by rw [hport]))
    · exact (State.served_port_of Port.ssc fun _ _ _ => rfl).trans (hssc h)

end Sys2Proof.Machine

/-! PROOFS. Flits and LM messages that a port receives, and the marks at which its handshakes take effect (06 R129 to R142). -/
namespace Sys2Proof.Machine

section
variable {s : State} {k : Nat}

/-! ### Flits -/

theorem State.seqError_port (s : State) (k : Nat) : ((s.seqError k).port k).nak = true ∧ ((s.seqError k).port k).ack = (s.port k).ack ∧
    ((s.seqError k).port k).rxMsg = (s.port k).rxMsg := by
  unfold State.seqError
  extract_lets p
  split
  next h => exact ⟨h, rfl, rfl⟩
  next =>
    rw [State.setPort_port]
    exact ⟨rfl, rfl, rfl⟩

theorem State.flit_bad {b : Bytes} (hlive : s.live k = true) (hbad : flitOk b = false) :
    s.flit k b = (s.count F.LNK_ERRCNT_CRC_ERR 1 k).seqError k := by
  unfold State.flit
  simp only [hlive, hbad, Bool.not_false, if_true]

theorem State.takeHeader_port (s : State) (k ack ccs ccm : Nat) : ((s.takeHeader k ack ccs ccm false).port k).ack = (s.port k).ack ∧
    ((s.takeHeader k ack ccs ccm false).port k).nak = (s.port k).nak ∧ ((s.takeHeader k ack ccs ccm false).port k).rxHeld = (s.port k).rxHeld ∧
    ((s.takeHeader k ack ccs ccm false).port k).ccq = (s.port k).ccq ∧ ((s.takeHeader k ack ccs ccm false).port k).rxMsg = (s.port k).rxMsg := by
  unfold State.takeHeader
  extract_lets p o p1 p2 s1
  have hs1 : s1.port k = p2 := s.setPort_port k p2
  rw [if_neg (by decide), hs1]
  have hp1 : p1.ack = p.ack ∧ p1.nak = p.nak ∧ p1.rxHeld = p.rxHeld ∧ p1.ccq = p.ccq ∧ p1.rxMsg = p.rxMsg := by
    unfold p1
    split <;> exact ⟨rfl, rfl, rfl, rfl, rfl⟩
  exact hp1

/-- A middle or first flit of a message of class Q. -/
theorem State.flit_more {b : Bytes} (hlive : s.live k = true) (hok : flitOk b = true) (hft : (flitHdr b).ft = 1)
    (hseq : (flitHdr b).seq = ((s.port k).ack + 1) % 4096) (hcls : (flitHdr b).cls = 0) (hlast : (flitHdr b).last = false)
    (hnak : (flitHdr b).nak = false) :
    ((s.flit k b).port k).ack = (flitHdr b).seq ∧ ((s.flit k b).port k).nak = false ∧
      ((s.flit k b).port k).rxHeld = (if (flitHdr b).first then 1 else (s.port k).rxHeld + 1) ∧
      ((s.flit k b).port k).ccq = ((s.port k).ccq + (if (flitHdr b).first then (s.port k).rxHeld else 0)) % 256 ∧
      ((s.flit k b).port k).rxMsg =
        (if (flitHdr b).first then [] else (s.port k).rxMsg) ++ (((b.drop 8).take 116).take (4 * (flitHdr b).len)) := by
  have hflit : s.flit k b = s.txnFlit k (flitHdr b) ((b.drop 8).take 116) := by
    unfold State.flit
    simp only [hlive, hok, hft, if_true, Bool.not_true, Bool.false_eq_true, if_false]
    rw [if_pos hseq]
  rw [hflit]
  generalize flitHdr b = h at *
  generalize (b.drop 8).take 116 = body
  unfold State.txnFlit
  extract_lets p s1
  rw [if_pos hcls]
  have htake : s1 = (s.setPort k { s.port k with ack := h.seq, nak := false, naks := 0 }).takeHeader k h.ack h.ccs h.ccm false :=
    congrArg (State.takeHeader _ k h.ack h.ccs h.ccm) hnak
  have hset : (s.setPort k { s.port k with ack := h.seq, nak := false, naks := 0 }).port k =
      { s.port k with ack := h.seq, nak := false, naks := 0 } := s.setPort_port _ _
  obtain ⟨hack, hnak', hheld, hccq, hmsg⟩ :=
    State.takeHeader_port (s.setPort k { s.port k with ack := h.seq, nak := false, naks := 0 }) k h.ack h.ccs h.ccm
  rw [← htake, hset] at hack hnak' hheld hccq hmsg
  clear_value s1
  unfold State.qFlit
  simp only [hlast, Bool.false_eq_true, if_false, State.setPort_port]
  rw [hccq, hheld, hmsg]
  refine ⟨hack, hnak', rfl, rfl, ?_⟩
  cases h.first <;> rfl

/-! ### Replays -/

theorem State.replayDue_effect (hlive : s.live k = true) (hun : (s.port k).unacked ≠ []) (hstuck : (s.port k).stuck < 4) :
    ((s.replayDue k).port k).replaying = some (s.port k).peerAck ∧ ((s.replayDue k).port k).stuck = (s.port k).stuck + 1 ∧
    (s.replayDue k).fld F.LNK_ERRCNT_REPLAYS k = addSat 14 (s.fld F.LNK_ERRCNT_REPLAYS k) 1 := by
  have hempty : (s.port k).unacked.isEmpty = false := by simpa [List.isEmpty_eq_false_iff] using hun
  unfold State.replayDue
  rw [if_pos (by simp [hlive, hempty])]
  unfold State.startReplay
  extract_lets p
  rw [if_neg (Nat.not_le.mpr hstuck), if_neg (by simp [p, hempty])]
  refine ⟨(congrArg Port.replaying (s.setPort_port k _)).trans rfl, (congrArg Port.stuck (s.setPort_port k _)).trans rfl, ?_⟩
  exact State.fld_count _ _ _ _ _

/-! ### INIT -/

theorem State.tryUp_waits (h : (s.port k).initAckd = false ∨ (s.port k).initSentAckd = false) : s.tryUp k = s := by
  unfold State.tryUp
  rcases h with h | h <;> simp [h]

theorem State.gotInit_effect {m : InitMsg} (hlnk : s.lnk k = lnkAlign) (hver : m.version = 1) (hrole : m.role ≠ 0) (hs : 3 ≤ m.s.toNat)
    (hm : 4 ≤ m.m.toNat) (hq : m.q = 0) (hsent : (s.port k).initSentAckd = false) :
    (s.gotInit k m).fld F.LNK_CREDIT_S_PEER k = m.s.toNat ∧ (s.gotInit k m).fld F.LNK_CREDIT_M_PEER k = m.m.toNat ∧
      ((s.gotInit k m).port k).initGot = true ∧ ((s.gotInit k m).port k).initAckd = ((s.port k).initAckd || m.ackd) ∧
      ((s.gotInit k m).port k).peer = (m.resume, m.next.toNat % 4096, m.ack.toNat % 4096) := by
  have hvalid : m.version.toNat = 1 ∧ m.role.toNat ≠ 0 ∧ m.s.toNat ≥ 3 ∧ m.m.toNat ≥ 4 ∧ m.q.toNat = 0 := by
    refine ⟨by rw [hver]; rfl, fun h => hrole (BitVec.eq_of_toNat_eq h), hs, hm, by rw [hq]; rfl⟩
  unfold State.gotInit
  rw [if_pos hlnk, if_pos hvalid]
  extract_lets s1 p
  rw [State.tryUp_waits (.inr (by rw [State.setPort_port]; exact hsent)), State.setPort_port]
  refine ⟨?_, ?_, rfl, rfl, rfl⟩
  · exact (State.fld_put_id (f := F.LNK_CREDIT_M_PEER) _ _ _ _ _ _ (by decide)).trans (State.fld_put _ _ m.s.isLt _ _)
  · exact State.fld_put _ _ m.m.isLt _ _

theorem Keeps.initBytes {M : Nat} {s t : State} (h : Keeps M s t) (hM : (spares M F.LNK_TXMAP0_MAP && spares M F.LNK_TXMAP1_MAP &&
    spares M F.LNK_RXMAP0_MAP && spares M F.LNK_RXMAP1_MAP) = true) {k : Nat}
    (hport : ((t.port k).txid, (t.port k).resume, (t.port k).next, (t.port k).ack) =
      ((s.port k).txid, (s.port k).resume, (s.port k).next, (s.port k).ack)) (ackd : Bool) : t.initBytes k ackd = s.initBytes k ackd := by
  simp only [Prod.mk.injEq] at hport
  obtain ⟨htxid, hresume, hnext, hack⟩ := hport
  unfold State.initBytes
  simp only [h.mapOf hM, htxid, hresume, hnext, hack]

/-- A try to deskew ends in a port that has deskewed, or is as it was. -/
theorem State.tryDeskew_deskewed (s : State) (k : Nat) : (s.tryDeskew k).port k = s.port k ∨
    (s.tryDeskew k).port k = { s.port k with deskewed := true } := by
  unfold State.tryDeskew
  split
  · extract_lets ls need kept far
    split
    · split
      · exact .inr (s.setPort_port _ _)
      · exact .inl (List.foldlRecOn (motive := fun a : State => a.port k = s.port k) _ _ rfl fun a ha n _ => ha)
    · exact .inl rfl
  · exact .inl rfl

theorem State.sendInit_lmOut (hlnk : s.lnk k = lnkAlign) (hdesk : (s.port k).deskewed = true) (hgot : (s.port k).initGot = false)
    (hsent : (s.port k).initSentAckd = false) : ((s.sendInit k).port k).lmOut = (s.port k).lmOut ++ [s.initBytes k false] := by
  have hport : (s.tryDeskew k).port k = s.port k := by
    rcases s.tryDeskew_deskewed k with h | h
    · exact h
    · rw [h, ← hdesk]
  have hbytes : (s.tryDeskew k).initBytes k false = s.initBytes k false := (State.tryDeskew_keeps s k).initBytes rfl (by rw [hport]) false
  unfold State.sendInit
  extract_lets a p s1 q
  rw [if_pos (by simp [a, p, hport, hdesk, (State.tryDeskew_lnk s k).trans hlnk])]
  have hs1 : s1.port k = { s.port k with lmOut := (s.port k).lmOut ++ [s.initBytes k false] } := by
    unfold s1
    rw [State.lm_port, hport, show p.initGot = false from (congrArg Port.initGot hport).trans hgot, hbytes]
  clear_value s1
  have hidle : (q.initSentAckd || q.initGot) = false := by
    rw [show q.initSentAckd = false from (congrArg Port.initSentAckd hs1).trans hsent,
      show q.initGot = false from (congrArg Port.initGot hs1).trans hgot]
    rfl
  rw [State.tryUp_waits (.inr ?_), State.setPort_port]
  · exact (congrArg Port.lmOut hs1).trans rfl
  · rw [State.setPort_port]
    exact hidle

/-! ### Widths -/

theorem State.markPassed_port (s : State) (k : Nat) (rx : Bool) (m : Nat) (n : Nat) : (s.markPassed k rx m).port n = s.port n :=
  (State.markPassed_keeps ..).port rfl n

theorem State.gotWidthReq_effect (hlive : s.live k = true) (txid mask sent : Nat) :
    let use := maskOf (lanesOf k) fun l => hasBit mask l && hasBit (s.driveable k) l
    ((s.gotWidthReq k txid mask sent).port k).lmOut =
      (s.port k).lmOut ++ [lmBytes 3 txid 0 0 (use % 256) (use / 256) ((sent + 2) % 256) 0] ∧
    ((s.gotWidthReq k txid mask sent).port k).wTx = some { txid := txid, mask := use, m := some ((sent + 2) % 256) } := by
  intro use
  unfold State.gotWidthReq
  rw [if_pos hlive]
  extract_lets m a p due
  have hp : p.lmOut = (s.port k).lmOut := congrArg Port.lmOut (State.markPassed_port ..)
  rw [State.lm_port, State.setPort_port]
  exact ⟨congrArg (· ++ [lmBytes 3 txid 0 0 (use % 256) (use / 256) m 0]) hp, rfl⟩

theorem State.gotWidthAck_wRx {h : WidthHs} (hlive : s.live k = true) (hw : (s.port k).wRx = some h) (mask m : Nat) :
    ((s.gotWidthAck k h.txid mask m).port k).wRx = some { h with mask := mask, m := some m } := by
  unfold State.gotWidthAck
  simp only [hw, hlive, beq_self_eq_true, Bool.and_self, if_true, State.setPort_port]

/-! ### Remaps and loops -/

theorem Keeps.spares {M : Nat} {s t : State} (h : Keeps M s t) (hM : (Sys2Proof.Machine.spares M F.LNK_TXMAP0_MAP &&
    Sys2Proof.Machine.spares M F.LNK_TXMAP1_MAP && Sys2Proof.Machine.spares M F.LNK_RXMAP0_MAP &&
    Sys2Proof.Machine.spares M F.LNK_RXMAP1_MAP && Sys2Proof.Machine.spares M F.PYU_STAT_FAIL) = true) {k : Nat}
    (htx : (t.port k).failTx = (s.port k).failTx) (hrx : (t.port k).failRx = (s.port k).failRx) (rx : Bool) :
    t.spares k rx = s.spares k rx := by
  rw [Bool.and_eq_true] at hM
  unfold State.spares
  simp only [h.mapOf hM.1, h.bit_eq hM.2, htx, hrx]

/-- What a transmit ring that carries no lane sends in a live port: what an open remap has it send. -/
theorem State.ringRole_spare {b : Nat} (hlive : s.live k = true) (hb : (s.spares k false).contains b = true) :
    s.ringRole k false b = match (s.port k).rTx with
      | some h => if h.b = b then (if h.fail then 3 else 1) else 0
      | none => 0 := by
  have hdown : s.lnk k ≠ lnkDown := by
    rcases State.live_iff.mp hlive with h | h <;> rw [h] <;> decide
  have hmem : b ∈ s.spares k false := List.contains_iff_mem.mp hb
  unfold State.spares at hmem
  simp only [List.mem_filter, Bool.and_eq_true, Bool.not_eq_true', bne_iff_ne] at hmem
  obtain ⟨-, ⟨⟨hne, -⟩, hfail⟩, hmap⟩ := hmem
  have hlane : ((List.range 16).filter fun l => s.mapOf k false l == b).head? = none := by
    rw [List.head?_eq_none_iff, List.filter_eq_nil_iff]
    exact fun l hl => by simpa using List.any_eq_false.mp hmap l hl
  unfold State.ringRole
  extract_lets p fail lane
  rw [if_neg hdown, if_neg (by decide), if_neg hne, if_neg (by simp [fail, hfail]), show lane = none from hlane] <;> rfl

theorem State.spares_lt {b : Nat} {rx : Bool} (hb : (s.spares k rx).contains b = true) : b < 20 := by
  have hmem : b ∈ s.spares k rx := List.contains_iff_mem.mp hb
  unfold State.spares at hmem
  exact List.mem_range.mp (List.mem_filter.mp hmem).1

theorem State.gotRemapReq_effect {txid l b : Nat} {fail : Bool} (hlive : s.live k = true) (hk : optical k = true)
    (hfree : (s.port k).rTx = none) (hb : (s.spares k false).contains b = true) (hl : l < 16) :
    ((s.gotRemapReq k txid true fail l b).port k).rTx = some { txid := txid, own := false, fail := fail, lane := l, b := b } ∧
    ((s.gotRemapReq k txid true fail l b).ring k false b).st =
      (if (s.ring k false b).st = 4 then 4 else if fail then 3 else 1) := by
  generalize hh : ({ txid := txid, own := false, fail := fail, lane := l, b := b } : RemapHs) = h
  have hstart : s.gotRemapReq k txid true fail l b = (s.setPort k { s.port k with rTx := some h }).remapStart k false b := by
    unfold State.gotRemapReq
    rw [if_pos (by simp [hlive, hk]), ← hh]
    simp only [hfree, hb, hl]
    rfl
  have hopen : ∀ x : Nat, (((s.setPort k { s.port k with rTx := some h }).lineStart k b x).port k) = { s.port k with rTx := some h } := fun x =>
    ((State.lineStart_keeps ..).port rfl k).trans (s.setPort_port k _)
  rw [hstart, State.remapStart, if_neg (by decide)]
  generalize hu : (s.setPort k { s.port k with rTx := some h }).lineStart k b _ = u
  have hport : u.port k = { s.port k with rTx := some h } := hu ▸ hopen _
  have hkeeps : Keeps 0x20000100 s u := hu ▸ (State.lineStart_keeps ..).step rfl (.step (State.setPort_keeps ..) rfl (.refl _ _))
  have hspare : (u.spares k false).contains b = true := by
    rw [hkeeps.spares rfl (by rw [hport]) (by rw [hport])]
    exact hb
  refine ⟨?_, ?_⟩
  · rw [(State.ringsSettle_keeps u k).port rfl, hport]
  · rw [State.ringsSettle_st u hk (State.spares_lt hb), State.ringRole_spare ((hkeeps.live rfl k).trans hlive) hspare, hport,
      hkeeps.ring rfl, ← hh]
    simp

theorem State.gotRemapRdy_effect {h : RemapHs} (hlive : s.live k = true) (hr : (s.port k).rTx = some h)
    (hcal : (s.ring k false h.b).st ≠ 4) (sent : Nat) :
    ((s.gotRemapRdy k h.txid h.lane h.b sent).port k).rTx = some { h with rdy := true, m := some ((sent + 2) % 256) } ∧
    ((s.gotRemapRdy k h.txid h.lane h.b sent).port k).lmOut =
      (s.port k).lmOut ++ [lmBytes 6 h.txid 0 0 h.lane h.b ((sent + 2) % 256) 0] := by
  unfold State.gotRemapRdy
  extract_lets p
  simp only [show p.rTx = some h from hr, hlive, beq_self_eq_true, Bool.and_self, Bool.true_and]
  rw [if_pos (by simpa using hcal)]
  rw [State.lm_port, State.setPort_port]
  exact ⟨rfl, rfl⟩

theorem State.gotRemapSw_rRx {h : RemapHs} (hlive : s.live k = true) (hr : (s.port k).rRx = some h) (hrdy : h.rdy = true) (m : Nat) :
    ((s.gotRemapSw k h.txid h.lane h.b m).port k).rRx = some { h with m := some m } := by
  unfold State.gotRemapSw
  simp only [hr, hlive, hrdy, beq_self_eq_true, Bool.and_self, if_true, State.setPort_port]

theorem State.gotRemapAbort_effect {h : RemapHs} (hlive : s.live k = true) (hr : (s.port k).rTx = some h) (hall : s.driveable k = fullSet k) :
    ((s.gotRemapAbort k h.txid h.lane).port k).rTx = none ∧
    (optical k = true → (s.spares k false).contains h.b = true → (s.ring k false h.b).st ≠ 4 →
      ((s.gotRemapAbort k h.txid h.lane).ring k false h.b).st = 0) := by
  generalize hu : (s.setPort k { s.port k with rTx := none }).rotShow k = u
  have hport : u.port k = { s.port k with rTx := none } := by
    rw [← hu]
    exact ((State.rotShow_keeps _ k).port rfl k).trans (s.setPort_port k _)
  have hkeeps : Keeps (0x100 ||| mask20) s u := hu ▸ (State.rotShow_keeps ..).step rfl (.step (State.setPort_keeps ..) rfl (.refl _ _))
  have habort : s.gotRemapAbort k h.txid h.lane = u.ringsSettle k := by
    have hdead : ∀ n, (u.ringsSettle k).txDead k n = s.txDead k n := fun n => by
      unfold State.txDead
      rw [(State.ringsSettle_keeps u k).bit_eq rfl, State.ringsSettle_lost, hkeeps.bit_eq rfl, hkeeps.ring rfl]
    have hmap : ∀ l, (u.ringsSettle k).mapOf k false l = s.mapOf k false l := fun l =>
      ((State.ringsSettle_keeps u k).mapOf rfl k false l).trans (hkeeps.mapOf rfl k false l)
    unfold State.gotRemapAbort
    extract_lets p hit
    rw [if_pos (by simp [hit, p, hr]), hu]
    exact State.failRemap_driveable hall (fun l => by rw [hdead, hmap]) _
  rw [habort]
  refine ⟨?_, fun hk hb hcal => ?_⟩
  · rw [(State.ringsSettle_keeps u k).port rfl, hport]
  · have hspare : (u.spares k false).contains h.b = true := by
      rw [hkeeps.spares rfl (by rw [hport]) (by rw [hport])]
      exact hb
    rw [State.ringsSettle_st u hk (State.spares_lt hb), State.ringRole_spare ((hkeeps.live rfl k).trans hlive) hspare, hport,
      hkeeps.ring rfl, if_neg hcal]

theorem State.loopResend_lmOut {h : LoopHs} (hlive : s.live k = true) (hl : (s.port k).loop = some h) :
    ((s.loopResend k).port k).lmOut = (s.port k).lmOut ++ [lmBytes 8 h.txid 1 0 0 0 0 0] := by
  unfold State.loopResend
  simp only [hl, hlive, if_true, State.lm_port]

theorem State.gotLoopAck_lnk {h : LoopHs} (hlive : s.live k = true) (hl : (s.port k).loop = some h) : (s.gotLoopAck k h.txid).lnk k = lnkLoop := by
  unfold State.gotLoopAck
  simp only [hl, hlive, beq_self_eq_true, Bool.and_self, if_true, State.enterLoop_lnk]

end

end Sys2Proof.Machine

/-! PROOFS. The marks at which width changes and remaps take effect (06 R137, R140). -/
namespace Sys2Proof.Machine

section
variable {s : State} {k : Nat}

/-! ### A remap at its mark -/

theorem bitField_replace (old c : Nat) {lsb w : Nat} (h : lsb + 5 ≤ w) (hc : c < 32) :
    bitField ((old - bitField old lsb 5 * 2 ^ lsb + c * 2 ^ lsb) % 2 ^ w) lsb 5 = c := by
  have hp : 0 < 2 ^ lsb := Nat.two_pow_pos _
  have hdiv : (old - bitField old lsb 5 * 2 ^ lsb + c * 2 ^ lsb) / 2 ^ lsb = old / 2 ^ lsb - bitField old lsb 5 + c := by
    rw [Nat.add_mul_div_right _ _ hp, Nat.mul_comm (bitField old lsb 5), Nat.sub_mul_div]
  have hw : 2 ^ w = 2 ^ lsb * 2 ^ (w - lsb) := by rw [← Nat.pow_add]; congr 1; omega
  have h32 : (2 : Nat) ^ 5 ∣ 2 ^ (w - lsb) := Nat.pow_dvd_pow 2 (by omega)
  have hb : bitField old lsb 5 = old / 2 ^ lsb % 32 := rfl
  have hle : old / 2 ^ lsb % 32 ≤ old / 2 ^ lsb := Nat.mod_le _ _
  unfold bitField at *
  rw [hw, Nat.mod_mul_right_div_self, Nat.mod_mod_of_dvd _ h32, hdiv]
  omega

theorem State.setMap_mapOf (s : State) (k : Nat) (rx : Bool) (l b : Nat) : (s.setMap k rx l b).mapOf k rx l = b % 32 := by
  unfold State.setMap State.mapOf
  extract_lets f old
  have hwidth : f.width = 40 := by
    unfold f
    split <;> split <;> rfl
  rw [State.fld_put_same, hwidth]
  exact bitField_replace old (b % 32) (by omega) (Nat.mod_lt _ (by decide))

/-- What follows the new map of a remap writes. -/
def switchMask : Nat := mask25 ||| mask41 ||| mask12 ||| mask20 ||| fieldsMask [F.PYU_PORT_STAT_CAL_BUSY, F.PYU_PORT_STAT_ROTATIONS]

theorem State.remapSwitched_mapOf {rx : Bool} {h : RemapHs} (hlive : s.live k = true) (hh : s.remapHs k rx = some h) (hm : h.m.isSome = true)
    (hclash : ((if rx then (s.port k).dueRx else (s.port k).dueTx).head?.or
      (if rx then (s.port k).wRx else (s.port k).wTx)).any (fun w => w.m == h.m) = false) :
    (s.remapSwitched k rx).mapOf k rx h.lane = h.b % 32 := by
  unfold State.remapSwitched
  extract_lets p
  split
  next h' e =>
    obtain rfl : h' = h := Option.some.inj (e.symm.trans hh)
    rw [if_pos (by rw [hm, hlive]; rfl), if_neg (by rw [hclash]; decide)]
    extract_lets old s0 s00 p0 s1 q s2 s3 s4
    have h1 : s1.mapOf k rx h'.lane = h'.b % 32 :=
      ((State.calStop_keeps _ k rx h'.b).mapOf rfl k rx h'.lane).trans (State.setMap_mapOf _ k rx h'.lane h'.b)
    clear_value s1
    have h2 : Keeps switchMask s1 s2 := .ite (fun _ => .step (State.ringsSettle_keeps ..) rfl <| .step (State.setPort_keeps ..) rfl <| .refl _ _)
      fun _ => .step (State.switchRings_keeps ..) rfl <| .refl _ _
    have h4 : Keeps switchMask s1 s4 := .ite
      (fun _ => .count rfl <| .step (State.calShow_keeps ..) rfl <| .step (State.rotShow_keeps ..) rfl h2)
      fun _ => .step (State.calShow_keeps ..) rfl <| .step (State.rotShow_keeps ..) rfl h2
    have hend : Keeps switchMask s1 (if rx then (s4.adaptEnd k).widenIfReady k else s4.failRemap k) := .ite
      (fun _ => .step (State.widenIfReady_keeps ..) rfl <| .step (State.adaptEnd_keeps ..) rfl h4)
      fun _ => .step (State.failRemap_keeps ..) rfl h4
    exact (hend.mapOf rfl k rx h'.lane).trans h1
  next e => exact absurd (e.symm.trans hh) (by simp)

/-! ### A width at its mark -/

/-- A switch of the direction `rx` sets the active set `act` of a port, and the count of its retrains stands. -/
structure WidthSet (s t : State) (k : Nat) (rx : Bool) (act : Nat) : Prop where
  set : t.fld (if rx then F.LNK_STAT_RXSET else F.LNK_STAT_TXSET) k = act % 2 ^ 16
  retrains : (t.port k).retrains = (s.port k).retrains
  tim : t.tim = s.tim

/-- What keeps the active sets and the retrains. -/
theorem WidthSet.keeps {M : Nat} {s t u : State} {rx : Bool} {act : Nat} (h : WidthSet s t k rx act) (hk : Keeps M t u)
    (hM : (spares M F.LNK_STAT_RXSET && spares M F.LNK_STAT_TXSET && !M.testBit 5) = true)
    (hport : (u.port k).retrains = (t.port k).retrains) : WidthSet s u k rx act := by
  simp only [Bool.and_eq_true, Bool.not_eq_true'] at hM
  obtain ⟨⟨hrx, htx⟩, htim⟩ := hM
  refine ⟨?_, hport.trans h.retrains, (hk.tim htim).trans h.tim⟩
  cases rx
  · exact (hk.fld_eq htx).trans h.set
  · exact (hk.fld_eq hrx).trans h.set

theorem State.widthState_retrains (s : State) (k : Nat) : ((s.widthState k).port k).retrains = (s.port k).retrains := by
  unfold State.widthState
  split
  · extract_lets tx rx full s1 p
    split
    · refine (congrArg Port.retrains ((State.withSvc_keeps (M := mask5 ||| fieldsMask [F.AON_SVC_STAT_OPT_NARROW]) rfl (.refl _ _)
        fun _ h => .ite (fun _ => .putBitOf rfl h) fun _ => h).port rfl k)).trans ?_
      exact (congrArg Port.retrains (s1.setPort_port k _)).trans rfl
    · split <;> rfl
  · rfl

theorem State.applyWidth_set (s : State) (k : Nat) (rx : Bool) {mask : Nat} (hact : activeOf k mask ≠ 0) :
    WidthSet s (s.applyWidth k rx mask) k rx (activeOf k mask) := by
  unfold State.applyWidth
  extract_lets f act old s1 p s2
  rw [if_neg hact]
  have h1 : WidthSet s s1 k rx act := by
    refine ⟨?_, rfl, rfl⟩
    refine (State.fld_put_same ..).trans ?_
    cases rx <;> rfl
  have h2 : WidthSet s s2 k rx act := by
    unfold s2
    split
    · have hkeep : Keeps (mask5 ||| fieldsMask [F.AON_SVC_STAT_OPT_NARROW]) (s1.setPort k { p with firstUp := false })
          ((s1.setPort k { p with firstUp := false }).withSvc fun a =>
            if optical k then a.putBitOf F.AON_SVC_STAT_OPT_NARROW k false else a) :=
        State.withSvc_keeps rfl (.refl _ _) fun _ h => .ite (fun _ => .putBitOf rfl h) fun _ => h
      have hport := (congrArg Port.retrains ((hkeep.port rfl k).trans (s1.setPort_port k _))).trans rfl
      exact h1.keeps (M := mask5 ||| fieldsMask [F.AON_SVC_STAT_OPT_NARROW] ||| 0x100)
        (.trans ((State.setPort_keeps ..).mono rfl) (hkeep.mono rfl)) rfl hport
    · exact h1
  exact h2.keeps (State.widthState_keeps s2 k) rfl (State.widthState_retrains s2 k)

/-- What a retrain within RETRAIN_MAX writes: the active sets stand. -/
def alignMask : Nat := mask25 ^^^ fieldsMask [F.LNK_STAT_RXSET, F.LNK_STAT_TXSET]

theorem State.retrain_few (hfew : ((s.port k).recentRetrains s.tim.optime).length < 3) : Keeps alignMask s (s.retrain k) := by
  unfold State.retrain
  refine .ite (fun _ => ?_) fun _ => .refl _ _
  extract_lets p recent q s1 s2 s3 s4
  have h2 : Keeps alignMask s s2 := .put rfl <| .put rfl <| .count rfl <| .step (State.setPort_keeps ..) rfl <| .refl _ _
  have h3 : Keeps alignMask s s3 := State.withSvc_keeps rfl (.step (State.lnkEv_keeps ..) rfl h2)
    fun _ h => .ite (fun _ => .putBitOf rfl h) fun _ => h
  have h4 : Keeps alignMask s s4 := .step (State.ringsSettle_keeps ..) rfl <| .step (State.rotShow_keeps ..) rfl h3
  have hrecent : ¬ recent.length ≥ 3 := Nat.not_le.mpr hfew
  rw [if_neg hrecent]
  exact .step (State.tryDeskew_keeps ..) rfl h4

theorem State.retrainOwn_few (hfew : ((s.port k).recentRetrains s.tim.optime).length < 3) : Keeps alignMask s (s.retrainOwn k) := by
  have hlm : (((s.newTxid k).2.lm k (lmBytes 0x0A (s.port k).txid 0 0 0 0 0 0)).port k).recentRetrains s.tim.optime =
      (s.port k).recentRetrains s.tim.optime := by
    simp [Port.recentRetrains]
  unfold State.retrainOwn
  refine .ite (fun _ => ?_) fun _ => .refl _ _
  exact .trans (.step (State.lm_keeps ..) rfl <| (State.setPort_keeps ..).mono rfl)
    (State.retrain_few (s := (s.newTxid k).2.lm k (lmBytes 0x0A (s.port k).txid 0 0 0 0 0 0)) (hlm ▸ hfew))

theorem State.widthReqOwn_few (hfew : ((s.port k).recentRetrains s.tim.optime).length < 3) (mask : Nat) :
    Keeps alignMask s (s.widthReqOwn k mask) := by
  unfold State.widthReqOwn
  refine .ite (fun _ => .ite (fun _ => State.retrainOwn_few hfew) fun _ => ?_) fun _ => .refl _ _
  exact .step (State.lm_keeps ..) rfl <| .step (State.setPort_keeps ..) rfl <| (State.setPort_keeps ..).mono rfl

theorem State.widthFollow_few (hfew : ((s.port k).recentRetrains s.tim.optime).length < 3) : Keeps alignMask s (s.widthFollow k) := by
  unfold State.widthFollow State.widenIfReady
  exact .ite (fun _ => State.widthReqOwn_few hfew _) fun _ => .ite (fun _ => State.widthReqOwn_few hfew _) fun _ => .refl _ _

theorem State.flitEnd_retrains (n : Nat) (s : State) (k : Nat) : ((State.flitEnd n s k).port k).retrains = (s.port k).retrains := by
  induction n generalizing s with
  | zero => rfl
  | succ n ih =>
    unfold State.flitEnd
    extract_lets p w
    split
    · rfl
    · rw [ih, (State.sendBlocks_keeps ..).port rfl, State.setPort_port]

theorem State.remapAbortOwn_retrains (s : State) (k : Nat) (rx : Bool) (reason : Nat) :
    ((s.remapAbortOwn k rx reason).port k).retrains = (s.port k).retrains := by
  unfold State.remapAbortOwn
  extract_lets p s1
  split
  · rfl
  · rw [(State.ringsSettle_keeps ..).port rfl, (State.rotShow_keeps ..).port rfl, State.lm_port, State.setPort_port]
    cases rx <;> rfl

theorem State.widthSwitched_set {rx : Bool} {h : WidthHs} (hlive : s.live k = true)
    (hh : (if rx then (s.port k).dueRx else (s.port k).dueTx).head?.or (if rx then (s.port k).wRx else (s.port k).wTx) = some h)
    (hm : h.m.isSome = true) (hact : activeOf k h.mask ≠ 0) (hfew : ((s.port k).recentRetrains s.tim.optime).length < 3) :
    (s.widthSwitched k rx).fld (if rx then F.LNK_STAT_RXSET else F.LNK_STAT_TXSET) k = activeOf k h.mask % 2 ^ 16 := by
  unfold State.widthSwitched
  extract_lets p due rm s0 q s1
  split
  next h' e =>
    obtain rfl : h' = h := Option.some.inj (e.symm.trans hh)
    rw [if_pos (by rw [hm, hlive]; rfl)]
    extract_lets clash s2 s3 s4
    have h1 : (s1.port k).retrains = (s.port k).retrains := by
      unfold s1
      rw [State.setPort_port]
      have hq : q.retrains = (s.port k).retrains := (congrArg Port.retrains (s.setPort_port k _)).trans rfl
      cases due <;> cases rx <;> exact hq
    have h2 : (s2.port k).retrains = (s.port k).retrains := (congrArg Port.retrains (State.markPassed_port ..)).trans h1
    have h2t : s2.tim = s.tim := (State.markPassed_keeps ..).tim rfl
    clear_value s1 s2
    have hset : ∀ a : State, (a.port k).retrains = (s.port k).retrains → a.tim = s.tim →
        WidthSet s ((a.applyWidth k rx h'.mask).ringsSettle k) k rx (activeOf k h'.mask) := by
      intro a hport htim
      have happ := State.applyWidth_set a k rx hact
      have hport' := happ.retrains.trans hport
      refine WidthSet.keeps ⟨happ.set, hport', happ.tim.trans htim⟩ (State.ringsSettle_keeps _ k) rfl ?_
      rw [(State.ringsSettle_keeps _ k).port rfl]
    have h3 : WidthSet s s3 k rx (activeOf k h'.mask) := by
      refine hset _ ?_ ?_
      · split
        · exact h2
        · exact (State.flitEnd_retrains 16 s2 k).trans h2
      · split
        · exact h2t
        · exact ((State.flitEnd_keeps 16 s2 k).tim rfl).trans h2t
    clear_value s3
    have h4 : WidthSet s s4 k rx (activeOf k h'.mask) := by
      unfold s4
      split
      · exact h3.keeps (State.remapAbortOwn_keeps ..) rfl (State.remapAbortOwn_retrains ..)
      · exact h3
    clear_value s4
    cases rx
    · exact (State.failRemap_keeps s4 k none).fld_trans rfl h4.set
    · have hadapt : Keeps 0x20000000 s4 (s4.adaptEnd k) := State.adaptEnd_keeps s4 k
      refine (State.widthFollow_few (s := s4.adaptEnd k) ?_).fld_trans rfl (hadapt.fld_trans rfl h4.set)
      rw [hadapt.port rfl, hadapt.tim rfl, Port.recentRetrains, h4.retrains, h4.tim]
      exact hfew
  next e => exact absurd (e.symm.trans hh) (by simp)

end

/-- A row of `runs` on a port whose messages of the last step have gone. -/
theorem State.lmClear_hs (s : State) (k : Nat) (rx : Bool) : (s.lmClear k).remapHs k rx = s.remapHs k rx := by
  unfold State.remapHs
  rw [s.lmClear_port]

theorem State.lmClear_spares (s : State) (k : Nat) (rx : Bool) : (s.lmClear k).spares k rx = s.spares k rx :=
  (State.setPort_keeps s k { s.port k with lmOut := [] }).spares rfl (by rw [s.setPort_port]) (by rw [s.setPort_port]) rx

theorem exec_flitReceive {s : State} (k : Fin 18) {b : Bytes} (hfits : flitFits b = true) (hup : s.up = true) :
    exec (.flitReceive k b) s = .next (s.followed ((s.recsIn.lmClear k).flit k b)) := by
  show wfElse (flitFits b) "FLIT_RECEIVE" (s.acts fun a => ((a.lmClear k).flit k b).powerSettle) = _
  rw [hfits, wfElse_true]
  exact congrArg Host.Outcome.next (if_pos hup)

/-- Settles O19: each row, from the lemmas on the port whose messages of the last step have gone. -/
theorem linkMessagesTakeEffect : Obligations.LinkMessagesTakeEffect := by
  unfold Obligations.LinkMessagesTakeEffect
  refine ⟨fun s k b hfits hup hlive hbad => ?_, fun s k b hfits hup hlive hok hft hseq hcls hlast hnak => ?_,
    fun s k hup hlive hnak => ⟨_, rfl, ?_⟩, fun s k hup hlive hun hstuck => ⟨_, rfl, ?_⟩,
    fun s k m hup hlnk hver hrole hs hm hq hsent => ⟨_, rfl, ?_⟩, fun s k hup hlnk hdesk hgot hsent => ⟨_, rfl, ?_⟩,
    fun s k x mask sent hup hlive => ⟨_, _, rfl, rfl, ?_⟩, fun s k x mask m h hup hlive hw hx => ⟨_, rfl, ?_⟩,
    fun s k rx h hup hlive hh hm hact hfew => ⟨_, rfl, ?_⟩, fun s k x lane b fail hup hlive hk hfree hb hl => ⟨_, rfl, ?_⟩,
    fun s k x lane b sent h hup hlive hr hx hl hb hcal => ⟨_, rfl, ?_⟩, fun s k x lane b m h hup hlive hr hx hl hb hrdy => ⟨_, rfl, ?_⟩,
    fun s k rx h hup hlive hh hm hl hclash => ⟨_, rfl, ?_⟩, fun s k x lane r h hup hlive hr hx hl hall => ⟨_, rfl, ?_⟩,
    fun s k h hup hlive hloop => ⟨_, rfl, ?_⟩, fun s k x h hup hlive hloop hx => ⟨_, rfl, ?_⟩, fun s k x hup hlive => ⟨_, rfl, ?_⟩⟩
  · refine ⟨_, exec_flitReceive k hfits hup, ?_⟩
    rw [State.flit_bad (s := s.recsIn.lmClear k) hlive hbad]
    have hport : ((s.recsIn.lmClear k).count F.LNK_ERRCNT_CRC_ERR 1 k).port k = { s.port k with lmOut := [] } := s.lmClear_recsIn_port k
    obtain ⟨hnak, hack, hmsg⟩ := State.seqError_port ((s.recsIn.lmClear k).count F.LNK_ERRCNT_CRC_ERR 1 k) k
    rw [hport] at hack hmsg
    exact ⟨(State.seqError_keeps _ k).fld_trans rfl (State.fld_count _ _ _ _ _), hnak, hack, hmsg⟩
  · refine ⟨_, exec_flitReceive k hfits hup, ?_⟩
    have heff := State.flit_more (s := s.recsIn.lmClear k) hlive hok hft (by rw [s.lmClear_recsIn_port]; exact hseq) hcls hlast hnak
    rw [s.lmClear_recsIn_port] at heff
    exact heff
  · rw [State.runs_up hup]
    have hport := s.lmClear_port k
    have hrow : (s.lmClear k).nakAgain k = (s.lmClear k).setPort k { (s.lmClear k).port k with naks := ((s.lmClear k).port k).naks + 1 } := by
      unfold State.nakAgain
      exact if_pos (by rw [hport]; exact (congrArg₂ (· && ·) hlive hnak).trans rfl)
    rw [hrow, State.setPort_port, hport]
  · rw [State.acts_port _ hup]
    have heff := State.replayDue_effect (s := s.recsIn.lmClear k) hlive (by rw [s.lmClear_recsIn_port]; exact hun)
      (by rw [s.lmClear_recsIn_port]; exact hstuck)
    rw [s.lmClear_recsIn_port] at heff
    exact ⟨heff.1, heff.2.1, (State.acts_keeps_action _ hup).fld_trans rfl heff.2.2⟩
  · rw [State.acts_port _ hup]
    have heff := State.gotInit_effect (s := s.recsIn.lmClear k) hlnk hver hrole hs hm hq (by rw [s.lmClear_recsIn_port]; exact hsent)
    rw [s.lmClear_recsIn_port] at heff
    exact ⟨(State.acts_keeps_action _ hup).fld_trans rfl heff.1, (State.acts_keeps_action _ hup).fld_trans rfl heff.2.1, heff.2.2⟩
  · rw [State.acts_port _ hup]
    have heff := State.sendInit_lmOut (s := s.recsIn.lmClear k) hlnk (by rw [s.lmClear_recsIn_port]; exact hdesk)
      (by rw [s.lmClear_recsIn_port]; exact hgot) (by rw [s.lmClear_recsIn_port]; exact hsent)
    have hbytes : (s.recsIn.lmClear k).initBytes k false = s.initBytes k false :=
      (State.setPort_keeps s k _).initBytes rfl (by rw [s.setPort_port]; rfl) false
    rw [s.lmClear_recsIn_port, hbytes] at heff
    exact heff
  · rw [State.runs_up hup]
    have heff := State.gotWidthReq_effect (s := s.lmClear k) hlive x.toNat mask.toNat sent.toNat
    rw [s.lmClear_port] at heff
    exact heff
  · rw [State.runs_up hup]
    rw [← hx]
    exact State.gotWidthAck_wRx (s := s.lmClear k) hlive (by rw [s.lmClear_port]; exact hw) mask.toNat m.toNat
  · refine (State.acts_keeps_action _ hup).fld_trans (by cases rx <;> rfl) ?_
    exact State.widthSwitched_set (s := s.recsIn.lmClear k) hlive (by rw [s.lmClear_recsIn_port]; exact hh) hm hact
      (by rw [s.lmClear_recsIn_port]; exact hfew)
  · rw [State.runs_up hup]
    have hspare : ((s.lmClear k).spares k false).contains b.toNat = true := by
      rw [s.lmClear_spares]
      exact hb
    exact State.gotRemapReq_effect (s := s.lmClear k) hlive hk (by rw [s.lmClear_port]; exact hfree) hspare hl
  · rw [State.runs_up hup]
    have heff := State.gotRemapRdy_effect (s := s.lmClear k) (h := h) hlive (by rw [s.lmClear_port]; exact hr) (by rw [hb]; exact hcal) sent.toNat
    rw [s.lmClear_port] at heff
    rw [← hx, ← hl, ← hb]
    exact heff
  · rw [State.runs_up hup]
    rw [← hx, ← hl, ← hb]
    exact State.gotRemapSw_rRx (s := s.lmClear k) hlive (by rw [s.lmClear_port]; exact hr) hrdy m.toNat
  · refine ((State.acts_keeps_action _ hup).mapOf rfl k rx h.lane).trans ?_
    refine State.remapSwitched_mapOf (s := s.recsIn.lmClear k) hlive (hh := ?_) hm ?_
    · exact (s.recsIn.lmClear_hs k rx).trans hh
    · rw [s.lmClear_recsIn_port]
      exact hclash
  · rw [State.runs_up hup]
    have heff := State.gotRemapAbort_effect (s := s.lmClear k) (h := h) hlive (by rw [s.lmClear_port]; exact hr) hall
    rw [hx, hl, s.lmClear_spares] at heff
    exact heff
  · rw [State.runs_up hup]
    have heff := State.loopResend_lmOut (s := s.lmClear k) (h := h) hlive (by rw [s.lmClear_port]; exact hloop)
    rw [s.lmClear_port] at heff
    exact heff
  · rw [State.acts_lnk _ hup]
    have heff := State.gotLoopAck_lnk (s := s.recsIn.lmClear k) (h := h) hlive (by rw [s.lmClear_recsIn_port]; exact hloop)
    rw [hx] at heff
    exact heff
  · rw [State.acts_lnk _ hup]
    have hlive' : (s.recsIn.lmClear k).live k = true := hlive
    refine ⟨(State.acts_keeps_action _ hup).fld_trans rfl (State.retrain_count hlive'), ?_⟩
    have hrec : ((s.recsIn.lmClear k).port k).recentRetrains s.tim.optime = (s.port k).recentRetrains s.tim.optime := by
      rw [s.lmClear_recsIn_port]
      rfl
    split
    next hfew => exact (State.retrain_aligns hlive' (hrec ▸ hfew)).1
    next hmany => exact State.retrain_down hlive' (hrec ▸ Nat.not_lt.mp hmany)

end Sys2Proof.Machine

/-! PROOFS. Writes of the control space of a partition: rings, completion queue, counters and keys (13 R339 to R361, 14 R377 to R380). -/
namespace Sys2Proof.Machine

/-- The state in which a write whose request has arrived is taken. -/
def State.coreAt (s : State) (w : CoreWr) : State := s.recsIn.arrived w.port 1

/-- What a served write of the register at `off` of the control space of its partition leaves, before its answer. -/
def State.partWritten (s : State) (w : CoreWr) (off : Nat) : State :=
  (s.coreAt w).partWrite w.port w.part off (2 ^ 64 - 1) w.data.toNat

theorem State.acts_partReg {s : State} {w : CoreWr} {a off : Nat} (h : s.coreServes w a) (haligned : a % 8 = 0) (hplace : placeOf a = .part off) :
    s.acts (fun x => x.coreWr w a) = s.followed (s.recsIn.served (s.partWritten w off) w a) := by
  rw [State.acts_coreWr h.up (State.qArrive_of_serves h.recsIn haligned ⟨_, .inl hplace⟩), hplace]
  rfl

/-- A register of ring `r` of the control space. -/
theorem placeOf_ring (o : Nat) (ho : o = 0x1008 ∨ o = 0x1010) (r : Fin 8) :
    (partBase + o + 0x40 * r) % 8 = 0 ∧ placeOf (partBase + o + 0x40 * r) = .part (o + 0x40 * r) := by
  rcases ho with rfl | rfl <;> revert r <;> decide

theorem State.ringWritten_eq (s : State) (w : CoreWr) (o : Nat) (ho : o < 0x40) (r : Fin 8) :
    s.partWritten w (0x1000 + o + 0x40 * r) = (s.coreAt w).ringWrite w.port w.part r o (2 ^ 64 - 1) w.data.toNat := by
  unfold State.partWritten State.partWrite
  rw [if_pos (by omega), show (0x1000 + o + 0x40 * r.val - 0x1000) / 0x40 = r by omega,
    show (0x1000 + o + 0x40 * r.val) % 0x40 = o by omega]

theorem Keeps.part {M : Nat} {s t : State} (h : Keeps M s t) (hM : M.testBit 13 = false) (p : Nat) : t.part p = s.part p := by
  unfold State.part
  rw [h.parts hM]

theorem Keeps.sring {M : Nat} {s t : State} (h : Keeps M s t) (hM : M.testBit 13 = false) (p r : Nat) : t.sring p r = s.sring p r := by
  unfold State.sring
  rw [h.part hM]

/-! ### Rings -/

theorem State.setSring_sring (s : State) (p r : Nat) (x : SubRing) : (s.setSring p r x).sring p r = x := by
  unfold State.sring State.setSring
  rw [State.setPart_part]
  exact Tab.get_set_same _ _ _ _

theorem State.ringEn_effect (s : State) (p r : Nat) (was : Bool) :
    Keeps (partsMask [.parts] ||| fieldsMask [F.SEP_RING_STAT_HEAD, F.SEP_RING_STAT_TAIL]) s (s.ringEn p r was true) ∧
    (s.rEn p r = true → (s.ringEn p r was true).rHead p r = 0 ∧ (s.ringEn p r was true).rTail p r = 0 ∧
      ((s.ringEn p r was true).sring p r).segs = []) := by
  unfold State.ringEn
  rw [if_pos rfl]
  split
  · refine ⟨.put rfl <| .put rfl <| .setParts _ rfl <| .refl _ _, fun _ => ⟨?_, State.fld_put _ _ (by decide) _ _, ?_⟩⟩
    · exact (State.fld_put_id _ _ _ _ _ _ (by decide)).trans (State.fld_put _ _ (by decide) _ _)
    · refine (congrArg SubRing.segs (State.setSring_sring s p r _)).trans ?_
      split <;> rfl
  next hen =>
    refine ⟨.ite (fun _ => .setParts _ rfl <| .refl _ _) fun _ => .refl _ _, fun h => absurd h hen⟩

theorem State.doorbell_takes {s : State} {p r t tail port : Nat} (hnew : s.rTail p r ≠ tail) (hok : s.dbOk p r t tail = true)
    (htail : tail < 2 ^ 17) :
    (s.doorbell p r t tail port).rTail p r = tail ∧
    Keeps (partsMask [.parts] ||| fieldsMask [F.SEP_RING_STAT_TAIL] ||| mask214) s (s.doorbell p r t tail port) := by
  unfold State.doorbell
  rw [if_neg hnew, if_pos hok]
  exact ⟨(State.dbWake_keeps _ p).fld_trans rfl (State.fld_put _ _ htail _ _),
    .step (State.dbWake_keeps ..) rfl <| .put rfl <| .setParts _ rfl <| .refl _ _⟩

theorem State.doorbell_drops {s : State} {p r t tail port : Nat} (hnew : s.rTail p r ≠ tail) (hok : s.dbOk p r t tail = false) :
    (s.doorbell p r t tail port).flag F.SEP_RING_STAT_DB_DROP r p = true ∧
    (s.doorbell p r t tail port).rTail p r = s.rTail p r := by
  unfold State.doorbell
  rw [if_neg hnew, if_neg (by simp [hok])]
  unfold State.dbDrop
  have hperf : Keeps (fieldsMask [F.SEP_PC_PERF_COUNT]) (s.putFlag F.SEP_RING_STAT_DB_DROP true r p)
      ((s.putFlag F.SEP_RING_STAT_DB_DROP true r p).perf p pfDB_DROP) := (State.perf_keeps ..).mono rfl
  refine ⟨(State.pcEv_keeps ..).flag_trans rfl (hperf.flag_trans rfl (State.flag_putFlag _ _ _ _ _ (by decide))), ?_⟩
  exact (State.pcEv_keeps ..).fld_trans rfl (hperf.fld_trans rfl (State.fld_putFlag_id _ _ _ _ _ _ (by decide)))

/-! ### The completion queue -/

theorem State.cqEn_effect (s : State) (p : Nat) :
    Keeps (partsMask [.parts] ||| fieldsMask [F.SEP_CQ_PROD_RSV, F.SEP_CQ_PROD_PROD, F.SEP_CQ_CONS_CONS]) s (s.cqEn p false) ∧
    (s.flag F.SEP_CQ_CFG_EN 0 p = true → (s.cqEn p false).fld F.SEP_CQ_PROD_RSV 0 p = 0 ∧
      (s.cqEn p false).fld F.SEP_CQ_PROD_PROD 0 p = 0 ∧ (s.cqEn p false).fld F.SEP_CQ_CONS_CONS 0 p = 0) := by
  unfold State.cqEn
  split
  · refine ⟨.setParts _ rfl <| .put rfl <| .put rfl <| .put rfl <| .refl _ _, fun _ => ⟨?_, ?_, State.fld_put _ _ (by decide) _ _⟩⟩
    · refine (State.fld_put_id _ _ _ _ _ _ (by decide)).trans ((State.fld_put_id _ _ _ _ _ _ (by decide)).trans ?_)
      exact State.fld_put _ _ (by decide) _ _
    · exact (State.fld_put_id _ _ _ _ _ _ (by decide)).trans (State.fld_put _ _ (by decide) _ _)
  next hoff => exact ⟨.refl _ _, fun h => absurd (by simp [h]) hoff⟩

theorem State.cqEn_was (s : State) (p : Nat) : s.cqEn p true = s := by
  unfold State.cqEn
  rw [if_neg (by simp)]

theorem State.cqCons_effect (s : State) {p v : Nat} (port : Nat) (hv : v < 2 ^ 17) :
    (s.cqCons p v port).fld F.SEP_CQ_CONS_CONS 0 p =
      if (s.fld F.SEP_CQ_PROD_PROD 0 p + ringMod - v) % ringMod ≤ 2 ^ s.fld F.SEP_CQ_CFG_SIZE 0 p then v else s.fld F.SEP_CQ_CONS_CONS 0 p := by
  unfold State.cqCons
  extract_lets prod left
  split
  · exact State.fld_put _ _ hv _ _
  · exact (State.pcEv_keeps ..).fld_eq rfl

/-! ### The counters -/

theorem State.perfClear_effect (s : State) (p : Nat) :
    Keeps (fieldsMask [F.SEP_PC_PERF_COUNT]) s (s.perfClear p) ∧ ∀ i < 12, (s.perfClear p).fld F.SEP_PC_PERF_COUNT i p = 0 := by
  refine ⟨.foldl _ (.refl _ _) fun a i ha => .put rfl ha, fun i hi => ?_⟩
  have hfold : ∀ (l : List Nat) (a : State), a.fld F.SEP_PC_PERF_COUNT i p = 0 ∨ i ∈ l →
      (l.foldl (fun a i => a.put F.SEP_PC_PERF_COUNT 0 i p) a).fld F.SEP_PC_PERF_COUNT i p = 0 := by
    intro l
    induction l with
    | nil => exact fun a h => h.elim id fun hm => absurd hm List.not_mem_nil
    | cons j l ih =>
      intro a h
      refine ih _ ?_
      by_cases hj : i = j
      · subst hj
        exact .inl (State.fld_put _ _ (by decide) _ _)
      · refine h.imp (fun h0 => ?_) fun hm => (List.mem_cons.mp hm).resolve_left hj
        exact (State.fld_put_ne _ _ (fun e => hj (congrArg Key.b e))).trans h0
  exact hfold _ s (.inr (List.mem_range.mpr hi))

/-! ### Keys -/

/-- No partition's key differs. -/
def State.SameKeys (s t : State) : Prop := ∀ p, (t.part p).key = (s.part p).key

theorem State.SameKeys.trans {s t u : State} (h : s.SameKeys t) (g : t.SameKeys u) : s.SameKeys u := fun p => (g p).trans (h p)

theorem Keeps.sameKeys {M : Nat} {s t : State} (h : Keeps M s t) (hM : M.testBit 13 = false) : s.SameKeys t :=
  fun p => congrArg Part.key (h.part hM p)

theorem State.setPart_sameKeys (s : State) (p : Nat) {x : Part} (hx : x.key = (s.part p).key) : s.SameKeys (s.setPart p x) := by
  intro q
  by_cases hq : q = p
  · subst hq
    rw [State.setPart_part, hx]
  · rw [State.setPart_part_ne _ _ _ hq]

theorem State.sameKeys_foldl {α : Type} {f : State → α → State} (hf : ∀ a x, State.SameKeys a (f a x)) (l : List α) (s : State) :
    s.SameKeys (l.foldl f s) := by
  induction l generalizing s with
  | nil => exact fun _ => rfl
  | cons x l ih => exact (hf s x).trans (ih _)

theorem State.unbar_sameKeys (s : State) (t : Nat) (e : PEnt) : s.SameKeys (s.unbar t e) := by
  unfold State.unbar
  split
  · split
    · exact State.setPart_sameKeys s _ rfl
    · exact fun _ => rfl
  · exact fun _ => rfl

theorem State.endAborted_sameKeys (s : State) (t : Nat) (e : PEnt) (code : Nat) : s.SameKeys (s.endAborted t e code) := by
  unfold State.endAborted
  extract_lets s1 x s2 s3
  have h1 : s.SameKeys s1 := by
    unfold s1
    split
    · exact fun _ => rfl
    · exact (State.tilExc_keeps ..).sameKeys rfl
  have h2 : s.SameKeys s2 := h1.trans fun _ => rfl
  have h3 : s.SameKeys s3 := ((h2.trans ((State.tilePerf_keeps ..).sameKeys rfl)).trans ((State.rowsLost_keeps ..).sameKeys rfl)).trans
    ((State.unbar_sameKeys _ t e).trans ((State.signalSg_keeps ..).sameKeys rfl))
  split
  · exact h3.trans ((State.xsigAbort_keeps ..).sameKeys rfl)
  · exact h3

theorem State.tileStop_sameKeys (s : State) (t : Nat) : s.SameKeys (s.tileStop t) := by
  have hstart : s.SameKeys ((s.setTile t (s.tile t).emptied).unramp t) := fun _ => rfl
  exact hstart.trans (State.sameKeys_foldl (fun a e => State.endAborted_sameKeys a t e 0) _ _)

theorem State.pcEv_sameKeys (s : State) (p typ lvl addr kind id : Nat) : s.SameKeys (s.pcEv p typ lvl addr kind id) := by
  unfold State.pcEv
  extract_lets ev l s1
  have h1 : s.SameKeys s1 := (State.event_keeps s ev).sameKeys rfl
  split
  · exact h1.trans (State.sameKeys_foldl State.tileStop_sameKeys _ _)
  · exact h1

theorem hasBit_foldl_whole (v : Nat) (hv : v < 2 ^ 64) :
    (List.range 64).foldl (fun a b => if hasBit (2 ^ 64 - 1) b then putBit a b (hasBit v b) else a) 0 = v := by
  have hall : ∀ b < 64, hasBit (2 ^ 64 - 1) b = true := by decide
  rw [List.foldl_ext _ (fun a b => putBit a b (hasBit v b)) _ fun a b hb => if_pos (hall b (List.mem_range.mp hb))]
  refine Nat.eq_of_testBit_eq fun n => ?_
  rw [← hasBit_eq_testBit, hasBit_foldl_putBit, ← hasBit_eq_testBit]
  split
  · rfl
  next hn => rw [hasBit_eq_testBit, hasBit_eq_testBit, Nat.zero_testBit, Nat.testBit_lt_two_pow (hv.trans_le (Nat.pow_le_pow_right (by decide) (Nat.not_lt.mp hn)))]

theorem State.keyWrite_effect {s : State} {p m port v : Nat} (hm : m < 8) (hv : v < 2 ^ 64) (hsealed : s.ptState p ≠ ptSealed)
    (hreclaim : s.ptState p ≠ ptReclaim) :
    (s.keyWrite p m port (2 ^ 64 - 1) v).staged p m = some (v, port) ∧
    (s.keyWrite p m port (2 ^ 64 - 1) v).bit F.VAT_PC_KEY_STAT_STAGED m 0 p = true := by
  unfold State.keyWrite
  rw [if_neg (fun h => h.elim hsealed hreclaim)]
  extract_lets x q
  have hx : x = v := hasBit_foldl_whole v hv
  clear_value x
  subst hx
  refine ⟨?_, State.bit_putBitOf_same _ _ _ _ hm⟩
  unfold State.staged
  show (((s.setPart p { q with stage := q.stage.set none ⟨m, 0, 0⟩ (some (x, port)) }).part p).stage.get none ⟨m, 0, 0⟩) = _
  rw [State.setPart_part]
  exact Tab.get_set_same _ _ _ _

theorem State.keyCommit_seals {s : State} {p port : Nat} (h : s.commitReason p port = 0) :
    (s.keyCommit p port).ptState p = ptSealed ∧
    ((s.keyCommit p port).part p).key = s.stagedKey p 0 ++ s.stagedKey p 4 ∧
    (s.keyCommit p port).fld F.VAT_PC_KEY_STAT_KCV 0 p = kcvOf (s.stagedKey p 0) % 2 ^ 32 ∧
    (s.keyCommit p port).fld F.VAT_PC_KEY_STAT_STAGED 0 p = 0 := by
  unfold State.keyCommit
  extract_lets r k1 s1 s2
  rw [if_pos h]
  refine ⟨?_, (congrArg Part.key (s1.setPart_part p _)).trans rfl, ?_, ?_⟩
  · refine (State.fld_put_id _ _ _ _ _ _ (by decide)).trans ((State.fld_put_id _ _ _ _ _ _ (by decide)).trans ?_)
    exact State.fld_put _ _ (by decide) _ _
  · exact (State.fld_put_id _ _ _ _ _ _ (by decide)).trans (State.fld_put_same ..)
  · refine (State.fld_put_id _ _ _ _ _ _ (by decide)).trans ((State.fld_put_id _ _ _ _ _ _ (by decide)).trans ?_)
    refine (State.fld_put_id _ _ _ _ _ _ (by decide)).trans ?_
    exact State.fld_put _ _ (by decide) _ _

theorem State.commitReason_lt (s : State) (p port : Nat) : s.commitReason p port < 8 := by
  unfold State.commitReason
  extract_lets st
  repeat' split
  all_goals decide

theorem State.keyCommit_refuses {s : State} {p port : Nat} (h : s.commitReason p port ≠ 0) :
    (s.keyCommit p port).ptState p = s.ptState p ∧ s.SameKeys (s.keyCommit p port) ∧
    (s.keyCommit p port).fld F.VAT_PC_KEY_STAT_REFUSE 0 p = s.commitReason p port ∧
    (s.keyCommit p port).fld F.VAT_PC_KEY_STAT_STAGED 0 p = 0 := by
  have heq : s.keyCommit p port = ((s.stageClear p).put F.VAT_PC_KEY_STAT_REFUSE (s.commitReason p port) 0 p).pcEv p 0x04 lNote 0x7F0000002440 1 port := by
    unfold State.keyCommit
    extract_lets r
    rw [if_neg h]
  have hclear : (s.stageClear p).SameKeys ((s.stageClear p).put F.VAT_PC_KEY_STAT_REFUSE (s.commitReason p port) 0 p) := fun _ => rfl
  have hstage : s.SameKeys (s.stageClear p) := State.setPart_sameKeys s p rfl
  rw [heq]
  refine ⟨?_, (hstage.trans hclear).trans (State.pcEv_sameKeys _ p _ _ _ _ _), ?_, ?_⟩
  · exact (State.pcEv_keeps ..).fld_trans rfl ((State.fld_put_id _ _ _ _ _ _ (by decide)).trans ((State.stageClear_keeps s p).fld_eq rfl))
  · exact (State.pcEv_keeps ..).fld_trans rfl (State.fld_put _ _ (s.commitReason_lt p port) _ _)
  · refine (State.pcEv_keeps ..).fld_trans rfl ((State.fld_put_id _ _ _ _ _ _ (by decide)).trans ?_)
    exact State.fld_put _ _ (by decide) _ _

/-! ### The rows -/

theorem placeOf_key (m : Fin 8) :
    (partBase + 0x2400 + 8 * m.val) % 8 = 0 ∧ placeOf (partBase + 0x2400 + 8 * m.val) = .part (0x2400 + 8 * m.val) := by
  revert m
  decide

section
variable (s : State) (w : CoreWr)

theorem State.wrote_keeps (a off : Nat) :
    Keeps (mask244 ||| mask6 ||| mask4) (s.partWritten w off) (s.followed (s.recsIn.served (s.partWritten w off) w a)) :=
  State.answered_keeps ..

theorem State.doorbellWritten_eq (r : Fin 8) : s.partWritten w (0x1010 + 0x40 * r) =
    (s.coreAt w).doorbell w.part r (bitField w.data.toNat 32 6) (bitField w.data.toNat 0 17) w.port := by
  have htile : wroteFld F.SEP_RING_DB_TILE (2 ^ 64 - 1) w.data.toNat = bitField w.data.toNat 32 6 := wroteFld_whole _ _ (by decide)
  have htail : wroteFld F.SEP_RING_DB_TAIL (2 ^ 64 - 1) w.data.toNat = bitField w.data.toNat 0 17 := wroteFld_whole _ _ (by decide)
  rw [← htile, ← htail]
  exact s.ringWritten_eq w 0x10 (by decide) r

theorem State.keyWritten_eq (m : Fin 8) :
    s.partWritten w (0x2400 + 8 * m) = (s.coreAt w).keyWrite w.part m w.port (2 ^ 64 - 1) w.data.toNat := by
  unfold State.partWritten State.partWrite
  rw [if_neg (by omega), if_neg (by omega), if_neg (by omega), if_neg (by omega), if_neg (by omega), if_neg (by omega), if_pos (by omega),
    show (0x2400 + 8 * m.val - 0x2400) / 8 = m by omega]

theorem State.commitWritten_eq (h : hasBit w.data.toNat 0 = true) : s.partWritten w 0x2440 = (s.coreAt w).keyCommit w.part w.port := by
  have hcommit : wroteFld F.VAT_PC_KEY_CTL_COMMIT (2 ^ 64 - 1) w.data.toNat = 1 := by
    rw [wroteFld_whole _ _ (by decide)]
    exact beq_iff_eq.mp h
  exact if_pos hcommit

/-- The fields of a ring's configuration as a write leaves them. -/
theorem State.ringCfgWritten_effect (r : Fin 8) :
    (s.partWritten w (0x1008 + 0x40 * r)).rEn w.part r = hasBit w.data.toNat 0 ∧
    (s.partWritten w (0x1008 + 0x40 * r)).rPrio w.part r = bitField w.data.toNat 8 3 ∧
    (s.partWritten w (0x1008 + 0x40 * r)).fld F.SEP_RING_CFG_SIZE r w.part =
      (if s.rEn w.part r then s.fld F.SEP_RING_CFG_SIZE r w.part else clampN 6 16 (bitField w.data.toNat 16 4)) % 16 ∧
    (hasBit w.data.toNat 0 = true → (s.partWritten w (0x1008 + 0x40 * r)).rHead w.part r = 0 ∧
      (s.partWritten w (0x1008 + 0x40 * r)).rTail w.part r = 0 ∧ ((s.partWritten w (0x1008 + 0x40 * r)).sring w.part r).segs = []) := by
  generalize hstored : (s.coreAt w).writeFields r w.part (2 ^ 64 - 1) w.data.toNat
    [F.SEP_RING_CFG_SIZE, F.SEP_RING_CFG_PRIO, F.SEP_RING_CFG_PCLASS, F.SEP_RING_CFG_EN] = b
  have hsize : b.fld F.SEP_RING_CFG_SIZE r w.part = bitField w.data.toNat 16 4 := hstored ▸ State.fld_writeFields (by decide) rfl (by decide) (by decide)
  have hprio : b.fld F.SEP_RING_CFG_PRIO r w.part = bitField w.data.toNat 8 3 := hstored ▸ State.fld_writeFields (by decide) rfl (by decide) (by decide)
  have hen : b.fld F.SEP_RING_CFG_EN r w.part = bitField w.data.toNat 0 1 := hstored ▸ State.fld_writeFields (by decide) rfl (by decide) (by decide)
  generalize hput : b.put F.SEP_RING_CFG_SIZE (ringSize (s.rEn w.part r) (s.fld F.SEP_RING_CFG_SIZE r w.part) (bitField w.data.toNat 16 4)) r w.part = c
  have hcen : c.rEn w.part r = hasBit w.data.toNat 0 := by
    unfold State.rEn State.flag
    rw [← hput, State.fld_put_id _ _ _ _ _ _ (by decide), hen]
    rfl
  have heq : s.partWritten w (0x1008 + 0x40 * r) = c.ringEn w.part r (s.rEn w.part r) true := by
    rw [← hput, ← hsize, ← hstored]
    exact s.ringWritten_eq w 8 (by decide) r
  obtain ⟨hkeeps, hempty⟩ := State.ringEn_effect c w.part r (s.rEn w.part r)
  rw [heq]
  refine ⟨hkeeps.flag_trans rfl hcen, hkeeps.fld_trans rfl ?_, hkeeps.fld_trans rfl ?_, fun h => hempty (hcen.trans h)⟩
  · rw [← hput, State.fld_put_id _ _ _ _ _ _ (by decide), hprio]
  · rw [← hput]
    exact State.fld_put_same ..

theorem State.cqCfgWritten_effect :
    (s.partWritten w 0x1208).flag F.SEP_CQ_CFG_EN 0 w.part = hasBit w.data.toNat 0 ∧
    (s.flag F.SEP_CQ_CFG_EN 0 w.part = false → hasBit w.data.toNat 0 = true →
      (s.partWritten w 0x1208).fld F.SEP_CQ_PROD_RSV 0 w.part = 0 ∧ (s.partWritten w 0x1208).fld F.SEP_CQ_PROD_PROD 0 w.part = 0 ∧
      (s.partWritten w 0x1208).fld F.SEP_CQ_CONS_CONS 0 w.part = 0) := by
  generalize hstored : (s.coreAt w).writeFields 0 w.part (2 ^ 64 - 1) w.data.toNat [F.SEP_CQ_CFG_SIZE, F.SEP_CQ_CFG_EN] = b
  have hen : b.fld F.SEP_CQ_CFG_EN 0 w.part = bitField w.data.toNat 0 1 := hstored ▸ State.fld_writeFields (by decide) rfl (by decide) (by decide)
  generalize hput : b.put F.SEP_CQ_CFG_SIZE (ringSize (s.flag F.SEP_CQ_CFG_EN 0 w.part) (s.fld F.SEP_CQ_CFG_SIZE 0 w.part)
    (b.fld F.SEP_CQ_CFG_SIZE 0 w.part)) 0 w.part = c
  have hcen : c.flag F.SEP_CQ_CFG_EN 0 w.part = hasBit w.data.toNat 0 := by
    unfold State.flag
    rw [← hput, State.fld_put_id _ _ _ _ _ _ (by decide), hen]
    rfl
  have heq : s.partWritten w 0x1208 = c.cqEn w.part (s.flag F.SEP_CQ_CFG_EN 0 w.part) := by
    rw [← hput, ← hstored]
    rfl
  rw [heq]
  cases hwas : s.flag F.SEP_CQ_CFG_EN 0 w.part with
  | true =>
    rw [c.cqEn_was]
    exact ⟨hcen, fun h => absurd h (by decide)⟩
  | false => exact ⟨(c.cqEn_effect w.part).1.flag_trans rfl hcen, fun _ h => (c.cqEn_effect w.part).2 (hcen.trans h)⟩

theorem State.cqConsWritten_effect : (s.partWritten w 0x1218).fld F.SEP_CQ_CONS_CONS 0 w.part =
    (if (s.fld F.SEP_CQ_PROD_PROD 0 w.part + 2 ^ 17 - bitField w.data.toNat 0 17) % 2 ^ 17 ≤ 2 ^ s.fld F.SEP_CQ_CFG_SIZE 0 w.part
     then bitField w.data.toNat 0 17 else s.fld F.SEP_CQ_CONS_CONS 0 w.part) := by
  have hstored : ((s.coreAt w).writeFields 0 w.part (2 ^ 64 - 1) w.data.toNat [F.SEP_CQ_CONS_CONS]).fld F.SEP_CQ_CONS_CONS 0 w.part =
      bitField w.data.toNat 0 17 := State.fld_writeFields (by decide) rfl (by decide) (by decide)
  have heq : s.partWritten w 0x1218 = (s.coreAt w).cqCons w.part (bitField w.data.toNat 0 17) w.port := by
    rw [← hstored]
    rfl
  rw [heq]
  exact State.cqCons_effect _ _ (Nat.mod_lt _ (by decide))

theorem State.perfWritten_effect (hclear : hasBit w.data.toNat 0 = true) :
    (∀ i : Fin 12, (s.partWritten w 0x2280).fld F.SEP_PC_PERF_COUNT i w.part = 0) ∧
    (s.partWritten w 0x2280).flag F.SEP_PC_PERF_CTL_FREEZE 0 w.part = hasBit w.data.toNat 1 := by
  generalize hstored : (s.coreAt w).writeFields 0 w.part (2 ^ 64 - 1) w.data.toNat
    [F.SEP_PC_PERF_CTL_TPER, F.SEP_PC_PERF_CTL_TEL_EN, F.SEP_PC_PERF_CTL_FREEZE] = b
  have hfreeze : b.fld F.SEP_PC_PERF_CTL_FREEZE 0 w.part = bitField w.data.toNat 1 1 := hstored ▸ State.fld_writeFields (by decide) rfl (by decide) (by decide)
  generalize hput : b.put F.SEP_PC_PERF_CTL_TPER (clampN 10 65535 (b.fld F.SEP_PC_PERF_CTL_TPER 0 w.part)) 0 w.part = c
  have hcfreeze : c.flag F.SEP_PC_PERF_CTL_FREEZE 0 w.part = hasBit w.data.toNat 1 := by
    unfold State.flag
    rw [← hput, State.fld_put_id _ _ _ _ _ _ (by decide), hfreeze]
    rfl
  have hwrote : wroteFld F.SEP_PC_PERF_CTL_CLEAR (2 ^ 64 - 1) w.data.toNat = 1 := by
    rw [wroteFld_whole _ _ (by decide)]
    exact beq_iff_eq.mp hclear
  have heq : s.partWritten w 0x2280 = c.perfClear w.part := by
    rw [← hput, ← hstored]
    exact if_pos hwrote
  obtain ⟨hkeeps, hzero⟩ := c.perfClear_effect w.part
  rw [heq]
  exact ⟨fun i => hzero i i.isLt, hkeeps.flag_trans rfl hcfreeze⟩

end

/-- Settles O17: each row is the write of one register, and what follows a write leaves the fields and the staged words. -/
theorem partitionControlRowsTakeEffect : Obligations.PartitionControlRowsTakeEffect := by
  unfold Obligations.PartitionControlRowsTakeEffect
  refine ⟨fun s w r hw => ?_, fun s w r hw hok hnew => ?_, fun s w r hw hok hnew => ?_, fun s w hw => ?_, fun s w hw => ?_,
    fun s w hw hclear => ?_, fun s w m hw hsealed hreclaim => ?_, fun s w hw hcommit hr => ?_, fun s w hw hcommit hr => ?_⟩
  · obtain ⟨haligned, hplace⟩ := placeOf_ring 0x1008 (.inl rfl) r
    obtain ⟨hen, hprio, hsize, hempty⟩ := s.ringCfgWritten_effect w r
    have hend := s.wrote_keeps w (partBase + 0x1008 + 0x40 * r) (0x1008 + 0x40 * r)
    refine ⟨_, congrArg Host.Outcome.next (State.acts_partReg hw haligned hplace), hend.flag_trans rfl hen, hend.fld_trans rfl hprio,
      hend.fld_trans rfl hsize, fun h => ?_⟩
    obtain ⟨hhead, htail, hsegs⟩ := hempty h
    refine ⟨hend.fld_trans rfl hhead, hend.fld_trans rfl htail, ?_⟩
    rw [hend.sring rfl]
    exact hsegs
  · obtain ⟨haligned, hplace⟩ := placeOf_ring 0x1010 (.inr rfl) r
    obtain ⟨htail, hkeeps⟩ := State.doorbell_takes (s := s.coreAt w) (port := w.port) hnew hok (Nat.mod_lt _ (by decide))
    have hend := s.wrote_keeps w (partBase + 0x1010 + 0x40 * r) (0x1010 + 0x40 * r)
    rw [← s.doorbellWritten_eq w r] at htail hkeeps
    exact ⟨_, congrArg Host.Outcome.next (State.acts_partReg hw haligned hplace), hend.fld_trans rfl htail,
      hend.fld_trans rfl (hkeeps.fld_eq rfl), hend.flag_trans rfl (hkeeps.flag_eq rfl)⟩
  · obtain ⟨haligned, hplace⟩ := placeOf_ring 0x1010 (.inr rfl) r
    obtain ⟨hdrop, htail⟩ := State.doorbell_drops (s := s.coreAt w) (port := w.port) hnew hok
    have hend := s.wrote_keeps w (partBase + 0x1010 + 0x40 * r) (0x1010 + 0x40 * r)
    rw [← s.doorbellWritten_eq w r] at htail hdrop
    exact ⟨_, congrArg Host.Outcome.next (State.acts_partReg hw haligned hplace), hend.fld_trans rfl htail, hend.flag_trans rfl hdrop⟩
  · obtain ⟨hen, hempty⟩ := s.cqCfgWritten_effect w
    have hend := s.wrote_keeps w (partBase + 0x1208) 0x1208
    refine ⟨_, congrArg Host.Outcome.next (State.acts_partReg (off := 0x1208) hw rfl rfl), hend.flag_trans rfl hen, fun hwas h => ?_⟩
    obtain ⟨hrsv, hprod, hcons⟩ := hempty hwas h
    exact ⟨hend.fld_trans rfl hrsv, hend.fld_trans rfl hprod, hend.fld_trans rfl hcons⟩
  · exact ⟨_, congrArg Host.Outcome.next (State.acts_partReg (off := 0x1218) hw rfl rfl),
      (s.wrote_keeps w (partBase + 0x1218) 0x1218).fld_trans rfl (s.cqConsWritten_effect w)⟩
  · obtain ⟨hcount, hfreeze⟩ := s.perfWritten_effect w hclear
    have hend := s.wrote_keeps w (partBase + 0x2280) 0x2280
    exact ⟨_, congrArg Host.Outcome.next (State.acts_partReg (off := 0x2280) hw rfl rfl), fun i => hend.fld_trans rfl (hcount i),
      hend.flag_trans rfl hfreeze⟩
  · obtain ⟨haligned, hplace⟩ := placeOf_key m
    obtain ⟨hstaged, hbit⟩ := State.keyWrite_effect (s := s.coreAt w) (port := w.port) m.isLt w.data.isLt hsealed hreclaim
    have hend := s.wrote_keeps w (partBase + 0x2400 + 8 * m.val) (0x2400 + 8 * m)
    rw [← s.keyWritten_eq w m] at hstaged hbit
    refine ⟨_, congrArg Host.Outcome.next (State.acts_partReg hw haligned hplace), ?_, hend.bit_trans rfl hbit⟩
    unfold State.staged
    rw [hend.part rfl]
    exact hstaged
  · obtain ⟨hstate, hkey, hkcv, hstaged⟩ := State.keyCommit_seals (s := s.coreAt w) hr
    have hend := s.wrote_keeps w (partBase + 0x2440) 0x2440
    rw [← s.commitWritten_eq w hcommit] at hstate hkey hkcv hstaged
    refine ⟨_, congrArg Host.Outcome.next (State.acts_partReg (off := 0x2440) hw rfl rfl), hend.fld_trans rfl hstate, ?_,
      hend.fld_trans rfl hkcv, hend.fld_trans rfl hstaged⟩
    rw [hend.part rfl]
    exact hkey
  · obtain ⟨hstate, hkeys, hrefuse, hstaged⟩ := State.keyCommit_refuses (s := s.coreAt w) hr
    have hend := s.wrote_keeps w (partBase + 0x2440) 0x2440
    rw [← s.commitWritten_eq w hcommit] at hstate hkeys hrefuse hstaged
    refine ⟨_, congrArg Host.Outcome.next (State.acts_partReg (off := 0x2440) hw rfl rfl), hend.fld_trans rfl hstate, ?_,
      hend.fld_trans rfl hrefuse, hend.fld_trans rfl hstaged⟩
    rw [hend.part rfl]
    exact hkeys w.part

end Sys2Proof.Machine

/-! PROOFS. What follows the issue of tile instructions: deliveries, barriers, completions, shadow loads and ramps (09 R227 to R240,
11 R277, 12 R322, R334, 15 R404). -/
namespace Sys2Proof.Machine

/-! ### What the entry of slots leaves -/

/-- What an instruction that ends, and the slots that enter behind it, leave of the tiles and barriers: entries come last, the shadows
stay, a powered tile gets no waiting increment, and complete generations stay open. -/
structure State.Enters (s s' : State) : Prop where
  on : ∀ u, s'.tileOn u = s.tileOn u
  ents : ∀ u, ∃ more, (s'.tile u).ents = (s.tile u).ents ++ more
  shdSt : ∀ u, (s'.tile u).shdSt = (s.tile u).shdSt
  shd : ∀ u, (s'.tile u).shd = (s.tile u).shd
  xsigs : ∀ u, s.tileOn u = true → (s.tile u).xsigs = [] → (s'.tile u).xsigs = []
  bars : ∀ p b, (s'.bar p b).full.length = (s.bar p b).full.length

theorem State.Enters.refl (s : State) : s.Enters s :=
  ⟨fun _ => rfl, fun _ => ⟨[], (List.append_nil _).symm⟩, fun _ => rfl, fun _ => rfl, fun _ _ h => h, fun _ _ => rfl⟩

theorem State.Enters.trans {s t u : State} (h : s.Enters t) (g : t.Enters u) : s.Enters u := by
  refine ⟨fun n => (g.on n).trans (h.on n), fun n => ?_, fun n => (g.shdSt n).trans (h.shdSt n), fun n => (g.shd n).trans (h.shd n),
    fun n hon he => g.xsigs n ((h.on n).trans hon) (h.xsigs n hon he), fun p b => (g.bars p b).trans (h.bars p b)⟩
  obtain ⟨m1, h1⟩ := h.ents n
  obtain ⟨m2, h2⟩ := g.ents n
  exact ⟨m1 ++ m2, by rw [h2, h1, List.append_assoc]⟩

theorem Keeps.bar {M : Nat} {s t : State} (h : Keeps M s t) (hM : M.testBit 13 = false) (p b : Nat) : t.bar p b = s.bar p b := by
  unfold State.bar
  rw [h.part hM]

theorem Keeps.tileOn {M : Nat} {s t : State} (h : Keeps M s t) (hM : M.testBit 0 = false) (u : Nat) : t.tileOn u = s.tileOn u := by
  unfold State.tileOn State.groupOf State.enabled
  rw [h.dom hM, h.fused]

theorem Keeps.enters {M : Nat} {s t : State} (h : Keeps M s t) (hM : (!M.testBit 0 && !M.testBit 12 && !M.testBit 13) = true) : s.Enters t := by
  simp only [Bool.and_eq_true, Bool.not_eq_true'] at hM
  obtain ⟨⟨hpow, htiles⟩, hparts⟩ := hM
  have htile := h.tile htiles
  exact ⟨h.tileOn hpow, fun u => ⟨[], by rw [htile, List.append_nil]⟩, fun u => by rw [htile], fun u => by rw [htile],
    fun u _ he => by rw [htile, he], fun p b => by rw [h.bar hparts]⟩

/-- A change of one tile that its other entries may follow. -/
theorem State.enters_setTile {s : State} {t : Nat} {x : Tile} (hents : ∃ more, x.ents = (s.tile t).ents ++ more)
    (hst : x.shdSt = (s.tile t).shdSt) (hshd : x.shd = (s.tile t).shd)
    (hx : s.tileOn t = true → (s.tile t).xsigs = [] → x.xsigs = []) : s.Enters (s.setTile t x) := by
  have hother : ∀ u, u ≠ t → (s.setTile t x).tile u = s.tile u := fun u hu => State.setTile_tile_ne s t x hu
  refine ⟨fun _ => rfl, fun u => ?_, fun u => ?_, fun u => ?_, fun u hon he => ?_, fun _ _ => rfl⟩ <;> by_cases hu : u = t
  · subst hu
    rw [State.setTile_tile]
    exact hents
  · rw [hother u hu]
    exact ⟨[], (List.append_nil _).symm⟩
  · subst hu
    rw [State.setTile_tile, hst]
  · rw [hother u hu]
  · subst hu
    rw [State.setTile_tile, hshd]
  · rw [hother u hu]
  · subst hu
    rw [State.setTile_tile]
    exact hx hon he
  · rw [hother u hu, he]

/-- A change of one tile in what enters do not concern. -/
theorem State.enters_setTile_same {s : State} {t : Nat} {x : Tile} (hents : x.ents = (s.tile t).ents) (hst : x.shdSt = (s.tile t).shdSt)
    (hshd : x.shd = (s.tile t).shd) (hx : x.xsigs = (s.tile t).xsigs) : s.Enters (s.setTile t x) :=
  State.enters_setTile ⟨[], by rw [hents, List.append_nil]⟩ hst hshd fun _ he => hx.trans he

theorem State.tilExc_enters (s : State) (t : Nat) (e : PEnt) (code : Nat) : s.Enters (s.tilExc t e code) := by
  unfold State.tilExc
  extract_lets x s1
  have h1 : s.Enters s1 := State.enters_setTile_same rfl rfl rfl rfl
  clear_value s1
  exact h1.trans ((State.event_keeps ..).enters rfl)

theorem State.signal_enters (s : State) (t k : Nat) (poison : Bool) (it : Nat) (e : PEnt) : s.Enters (s.signal t k poison it e) := by
  unfold State.signal
  extract_lets x v
  split
  · exact State.enters_setTile_same rfl rfl rfl rfl
  · have h1 : s.Enters (s.setTile t (x.setTok k { count := 15, poison := true })) := State.enters_setTile_same rfl rfl rfl rfl
    exact h1.trans (State.tilExc_enters ..)

theorem State.signalSg_enters (s : State) (t : Nat) (e : PEnt) (poison : Bool) : s.Enters (s.signalSg t e poison) := by
  unfold State.signalSg
  split
  · exact State.signal_enters ..
  · exact .refl s

theorem dropFirst_nil {α : Type} (p : α → Bool) : dropFirst p [] = [] := rfl

theorem State.unsend_enters (s : State) (t : Nat) (e : PEnt) : s.Enters (s.unsend t e) := by
  unfold State.unsend
  split
  · refine State.enters_setTile ⟨[], (List.append_nil _).symm⟩ rfl rfl fun _ he => ?_
    dsimp only
    rw [he]
    rfl
  · exact .refl s

theorem State.send_enters (s : State) (t : Nat) (e : PEnt) (poison : Bool) : s.Enters (s.send t e poison) := by
  unfold State.send
  extract_lets g x
  split
  · exact State.signal_enters ..
  next hoff =>
    have hwait : s.Enters (s.setTile g { x with xsigs := x.xsigs ++ [⟨wXtok e.word, poison, t, e.word, e.idx⟩] }) :=
      State.enters_setTile ⟨[], (List.append_nil _).symm⟩ rfl rfl fun hon _ => absurd hon hoff
    exact hwait.trans ((State.request_keeps ..).enters rfl)

theorem State.xsigAbort_enters (s : State) (t : Nat) (e : PEnt) : s.Enters (s.xsigAbort t e) := by
  unfold State.xsigAbort
  split
  · split
    · exact (State.unsend_enters ..).trans (State.send_enters ..)
    · exact .refl s
  · exact .refl s

theorem State.setBar_bar (s : State) (p b : Nat) (x : Barrier) :
    (s.setBar p b x).bar p b = if x.tiles.isEmpty then { full := x.full } else x := by
  unfold State.bar State.setBar
  rw [State.setPart_part]
  exact Tab.get_set_same _ _ _ _

theorem State.setBar_bar_full (s : State) (p b : Nat) (x : Barrier) : ((s.setBar p b x).bar p b).full = x.full := by
  rw [State.setBar_bar]
  split <;> rfl

theorem State.setBar_bar_ne {s : State} {p b p' b' : Nat} (x : Barrier) (h : p' = p → b' ≠ b) : (s.setBar p b x).bar p' b' = s.bar p' b' := by
  unfold State.bar State.setBar
  by_cases hp : p' = p
  · subst hp
    rw [State.setPart_part]
    exact Tab.get_set_ne (fun e => h rfl (congrArg Key.a e)) _ _ _ _
  · rw [State.setPart_part_ne _ _ _ hp]

theorem State.withdraw_enters (s : State) (p b t : Nat) : s.Enters (s.withdraw p b t) := by
  unfold State.withdraw
  extract_lets x
  refine ⟨fun _ => rfl, fun _ => ⟨[], (List.append_nil _).symm⟩, fun _ => rfl, fun _ => rfl, fun _ _ h => h, fun p' b' => ?_⟩
  by_cases h : p' = p ∧ b' = b
  · obtain ⟨rfl, rfl⟩ := h
    rw [State.setBar_bar_full]
    exact List.length_map _
  · rw [State.setBar_bar_ne _ fun hp hb => h ⟨hp, hb⟩]

theorem State.unbar_enters (s : State) (t : Nat) (e : PEnt) : s.Enters (s.unbar t e) := by
  unfold State.unbar
  split
  · split
    · exact State.withdraw_enters ..
    · exact .refl s
  · exact .refl s

theorem State.endAborted_enters (s : State) (t : Nat) (e : PEnt) (code : Nat) : s.Enters (s.endAborted t e code) := by
  unfold State.endAborted
  extract_lets s1 x s2 s3
  have h1 : s.Enters s1 := by
    unfold s1
    split
    · exact .refl s
    · exact State.tilExc_enters ..
  have h2 : s.Enters s2 := h1.trans (State.enters_setTile_same rfl rfl rfl rfl)
  clear_value s2
  have h3 : s.Enters s3 := ((h2.trans ((State.tilePerf_keeps ..).enters rfl)).trans ((State.rowsLost_keeps ..).enters rfl)).trans
    ((State.unbar_enters ..).trans (State.signalSg_enters ..))
  split
  · exact h3.trans (State.xsigAbort_enters ..)
  · exact h3

theorem State.enters_foldl {α : Type} {f : State → α → State} (hf : ∀ a x, State.Enters a (f a x)) (l : List α) (s : State) :
    s.Enters (l.foldl f s) := by
  induction l generalizing s with
  | nil => exact .refl s
  | cons x l ih => exact (hf s x).trans (ih _)

theorem State.abortAll_enters (s : State) (t code : Nat) (es : List PEnt) : s.Enters (s.abortAll t code es) :=
  State.enters_foldl (fun a e => State.endAborted_enters a t e code) es s

/-- A tile that differs in nothing that enters leave alone. -/
structure Tile.Alike (x y : Tile) : Prop where
  ents : y.ents = x.ents
  shdSt : y.shdSt = x.shdSt
  shd : y.shd = x.shd
  xsigs : y.xsigs = x.xsigs

theorem Tile.Alike.enters {s : State} {t : Nat} {y : Tile} (h : (s.tile t).Alike y) : s.Enters (s.setTile t y) :=
  State.enters_setTile_same h.ents h.shdSt h.shd h.xsigs

theorem Tile.takeSlot_alike {x y : Tile} {e : PEnt} (h : x.takeSlot = some (e, y)) : x.Alike y := by
  unfold Tile.takeSlot at h
  split at h
  · obtain ⟨-, rfl⟩ := Prod.mk.inj (Option.some.inj h)
    exact ⟨rfl, rfl, rfl, rfl⟩
  · obtain ⟨z, -, hz⟩ := Option.map_eq_some_iff.mp h
    obtain ⟨-, rfl⟩ := Prod.mk.inj hz
    exact ⟨rfl, rfl, rfl, rfl⟩

theorem Tile.Alike.letIn {s : State} {t : Nat} {y : Tile} (h : (s.tile t).Alike y) (e : PEnt) : s.Enters (s.setTile t (y.letIn e)) := by
  unfold Tile.letIn
  split
  · exact State.enters_setTile ⟨_, by rw [← h.ents]⟩ h.shdSt h.shd fun _ he => h.xsigs.trans he
  · exact State.enters_setTile ⟨_, by rw [← h.ents]⟩ h.shdSt h.shd fun _ he => h.xsigs.trans he

theorem Tile.Alike.endAborted {s : State} {t : Nat} {y : Tile} (h : (s.tile t).Alike y) (e : PEnt) (code : Nat) :
    s.Enters ((s.setTile t y).endAborted t e code) :=
  h.enters.trans (State.endAborted_enters ..)

theorem Tile.Alike.abortAll {s : State} {t : Nat} {y : Tile} (h : (s.tile t).Alike y) (code : Nat) (es : List PEnt) :
    s.Enters ((s.setTile t y).abortAll t code es) :=
  h.enters.trans (State.abortAll_enters ..)

theorem Tile.Alike.withLoop {x y : Tile} (h : x.Alike y) (l : Option LoopBuf) : x.Alike { y with loop := l } :=
  ⟨h.ents, h.shdSt, h.shd, h.xsigs⟩

theorem State.enterOne_enters {s s' : State} {t : Nat} (h : s.enterOne t = some s') : s.Enters s' := by
  have hback : ∀ r, (s.tile t).Alike { s.tile t with back := r } := fun _ => ⟨rfl, rfl, rfl, rfl⟩
  have hloop : ∀ l, (s.tile t).Alike { s.tile t with loop := l } := fun _ => ⟨rfl, rfl, rfl, rfl⟩
  unfold State.enterOne at h
  simp only [] at h
  split at h
  · -- a stopped instruction re-enters
    rw [Option.ite_none_right_eq_some] at h
    exact Option.some.inj h.2 ▸ (hback _).letIn _
  · split at h
    · -- a loop buffer fills or runs
      split at h
      · split at h
        · exact Option.some.inj h ▸ (hloop _).enters
        · split at h
          · exact absurd h nofun
          · split at h
            · exact Option.some.inj h ▸ (hloop _).endAborted _ _
            · rw [Option.ite_none_right_eq_some] at h
              exact Option.some.inj h.2 ▸ (hloop _).letIn _
      · split at h
        · exact absurd h nofun
        next hslot =>
          have hy := Tile.takeSlot_alike hslot
          split at h
          · exact Option.some.inj h ▸ (hy.withLoop _).enters
          · split at h
            · exact Option.some.inj h ▸ (hy.withLoop _).abortAll _ _
            · exact Option.some.inj h ▸ (hy.withLoop _).enters
    · -- a slot enters
      split at h
      · exact absurd h nofun
      next hslot =>
        split at h
        · exact absurd h nofun
        · rw [Option.ite_none_right_eq_some] at h
          exact Option.some.inj h.2 ▸ (Tile.takeSlot_alike hslot).letIn _

theorem State.enter_enters (s : State) (t : Nat) : s.Enters (s.enter t) := by
  have hslots : ∀ (n : Nat) (a : State), a.Enters (State.enterSlots t n a) := by
    intro n
    induction n with
    | zero => exact fun a => .refl a
    | succ n ih =>
      intro a
      unfold State.enterSlots
      split
      next a1 h1 => exact (State.enterOne_enters h1).trans (ih a1)
      next => exact .refl a
  exact hslots 128 s

/-- Nothing enters where nothing waits. -/
theorem State.enter_of_noneEnters {s : State} {t : Nat} (h : s.noneEnters t = true) : s.enter t = s := by
  unfold State.noneEnters at h
  simp only [Bool.and_eq_true, List.isEmpty_iff, Option.isNone_iff_eq_none] at h
  obtain ⟨⟨⟨hback, hloop⟩, hagain⟩, hinb⟩ := h
  have hone : s.enterOne t = none := by
    unfold State.enterOne Tile.takeSlot
    simp only [hback, hloop, hagain, hinb, firstSlot, Option.map_none]
  unfold State.enter
  rw [State.enterSlots, hone]

/-- A change of a tile in nothing that waits to enter. -/
theorem State.setTile_noneEnters {s : State} {t : Nat} {x : Tile} (u : Nat) (hback : x.back = (s.tile t).back) (hloop : x.loop = (s.tile t).loop)
    (hagain : x.again = (s.tile t).again) (hinb : x.inb = (s.tile t).inb) : (s.setTile t x).noneEnters u = s.noneEnters u := by
  unfold State.noneEnters
  by_cases hu : u = t
  · subst hu
    rw [State.setTile_tile, hback, hloop, hagain, hinb]
  · rw [State.setTile_tile_ne _ _ _ hu]

theorem State.tilExc_noneEnters (s : State) (t : Nat) (e : PEnt) (code u : Nat) : (s.tilExc t e code).noneEnters u = s.noneEnters u := by
  unfold State.tilExc
  extract_lets x s1
  have h1 : s1.noneEnters u = s.noneEnters u := State.setTile_noneEnters u rfl rfl rfl rfl
  clear_value s1
  rw [← h1]
  unfold State.noneEnters
  rw [(State.event_keeps s1 _).tile rfl]

theorem State.signalSg_noneEnters (s : State) (t : Nat) (e : PEnt) (poison : Bool) (u : Nat) :
    (s.signalSg t e poison).noneEnters u = s.noneEnters u := by
  unfold State.signalSg
  split
  · unfold State.signal
    extract_lets x v
    split
    · exact State.setTile_noneEnters u rfl rfl rfl rfl
    · exact (State.tilExc_noneEnters ..).trans (State.setTile_noneEnters u rfl rfl rfl rfl)
  · rfl

/-- An entry that completes leaves, and others may enter behind the last. -/
theorem State.completeAt_eq {s : State} {t i : Nat} {e : PEnt} (h : (s.tile t).ents[i]? = some e) :
    s.completeAt t i = ((s.setTile t { s.tile t with ents := dropAt i (s.tile t).ents }).signalSg t e false).enter t := by
  unfold State.completeAt
  simp only [h]

theorem State.completeAt_enters {s : State} {t i : Nat} {e : PEnt} (h : (s.tile t).ents[i]? = some e) :
    (s.setTile t { s.tile t with ents := dropAt i (s.tile t).ents }).Enters (s.completeAt t i) := by
  rw [State.completeAt_eq h]
  exact (State.signalSg_enters ..).trans (State.enter_enters ..)

theorem posOf_some {p : PEnt → Bool} {n i : Nat} {l : List PEnt} (h : posOf p n l = some i) : ∃ e, n ≤ i ∧ l[i - n]? = some e ∧ p e = true := by
  induction l generalizing n with
  | nil => exact absurd h nofun
  | cons x l ih =>
    unfold posOf at h
    split at h
    next hx =>
      obtain rfl := Option.some.inj h
      exact ⟨x, le_refl _, by simp, hx⟩
    next =>
      obtain ⟨e, hn, hplace, he⟩ := ih h
      refine ⟨e, by omega, ?_, he⟩
      rw [show i - n = i - (n + 1) + 1 by omega, List.getElem?_cons_succ]
      exact hplace

/-- The first entry with a property stands at its place. -/
theorem posOf_zero {p : PEnt → Bool} {i : Nat} {l : List PEnt} (h : posOf p 0 l = some i) : ∃ e, l[i]? = some e ∧ p e = true := by
  obtain ⟨e, -, hplace, he⟩ := posOf_some h
  exact ⟨e, hplace, he⟩

/-! ### Deliveries -/

/-- Tile `t` is powered and no increment waits for its power-up. -/
def State.quiet (s : State) (t : Nat) : Prop := s.tileOn t = true ∧ (s.tile t).xsigs = []

theorem State.Enters.quiet {s s' : State} (h : s.Enters s') {t : Nat} (hq : s.quiet t) : s'.quiet t :=
  ⟨(h.on t).trans hq.1, h.xsigs t hq.1 hq.2⟩

theorem State.completeAt_quiet {s : State} {t : Nat} (hq : s.quiet t) (u i : Nat) : (s.completeAt u i).quiet t := by
  unfold State.completeAt
  simp only []
  split
  next e h =>
    have hdrop : (s.setTile u { s.tile u with ents := dropAt i (s.tile u).ents }).quiet t := by
      refine ⟨hq.1, ?_⟩
      by_cases hu : t = u
      · subst hu
        rw [State.setTile_tile]
        exact hq.2
      · rw [State.setTile_tile_ne _ _ _ hu]
        exact hq.2
    exact (State.enter_enters ..).quiet ((State.signalSg_enters ..).quiet hdrop)
  next => exact hq

theorem State.deliverXsigs_quiet {s : State} {t : Nat} (hq : s.quiet t) (l : List Xsig) : (State.deliverXsigs t l s).quiet t := by
  induction l generalizing s with
  | nil => exact hq
  | cons y r ih =>
    unfold State.deliverXsigs
    refine ih ?_
    split
    · exact (State.signal_enters ..).quiet hq
    · split
      · split
        · exact State.completeAt_quiet ((State.signal_enters ..).quiet hq) _ _
        · exact hq
      · exact hq

theorem State.xsigDeliver_eq {s : State} {t : Nat} (hon : s.tileOn t = true) (hz : (s.tile t).zeroing = false) :
    s.xsigDeliver t = State.deliverXsigs t (s.tile t).xsigs (s.setTile t { s.tile t with xsigs := [] }) := by
  unfold State.xsigDeliver
  rw [if_pos ⟨hon, hz⟩]

theorem Tile.setTok_tok (x : Tile) (k : Nat) (v : Token) : (x.setTok k v).tok k = v := Tab.get_set_same _ _ _ _

theorem State.signal_tok {s : State} {t k : Nat} {poison : Bool} {it : Nat} {e : PEnt} (h : ((s.tile t).tok k).count < 15) :
    ((s.signal t k poison it e).tile t).tok k =
      { count := ((s.tile t).tok k).count + 1, poison := ((s.tile t).tok k).poison || poison } := by
  unfold State.signal
  extract_lets x v
  rw [if_pos h, State.setTile_tile, Tile.setTok_tok]

/-! ### Barriers -/

/-- As many complete generations stand open at every barrier. -/
def State.sameFull (s s' : State) : Prop := ∀ p b, (s'.bar p b).full.length = (s.bar p b).full.length

theorem State.sameFull.trans {s t u : State} (h : s.sameFull t) (g : t.sameFull u) : s.sameFull u := fun p b => (g p b).trans (h p b)

theorem State.completeAt_sameFull (s : State) (t i : Nat) : s.sameFull (s.completeAt t i) := by
  unfold State.completeAt
  simp only []
  split
  · have hdrop : s.sameFull (s.setTile t { s.tile t with ents := dropAt i (s.tile t).ents }) := fun _ _ => rfl
    exact hdrop.trans ((State.signalSg_enters ..).trans (State.enter_enters ..)).bars
  · exact fun _ _ => rfl

theorem State.abortOne_sameFull (s : State) (t i code : Nat) : s.sameFull (s.abortOne t i code) := by
  unfold State.abortOne
  simp only []
  split
  next e _ =>
    have hdrop : s.sameFull (s.setTile t { (s.tile t).quench e with ents := dropAt i (s.tile t).ents }) := fun _ _ => rfl
    exact hdrop.trans (State.endAborted_enters ..).bars
  · exact fun _ _ => rfl

/-- An entry without followers ends alone. -/
theorem State.abortEnter_eq {s : State} {t i : Nat} {e : PEnt} (h : (s.tile t).ents[i]? = some e) (hop : wOpc e.word ≠ oMPASS) (code : Nat) :
    s.abortEnter t i code = (s.abortOne t i code).enter t := by
  unfold State.abortEnter State.abortAt
  simp only [h, if_neg hop]

theorem State.barEnd_sameFull (s : State) (b : Nat) (poison : Bool) (g : List (Nat × Bool)) : s.sameFull (State.barEnd b poison g s) := by
  induction g generalizing s with
  | nil => exact fun _ _ => rfl
  | cons y r ih =>
    unfold State.barEnd
    refine State.sameFull.trans ?_ (ih _)
    split
    next i hi =>
      obtain ⟨e, hplace, he⟩ := posOf_zero hi
      simp only [Bool.and_eq_true, beq_iff_eq] at he
      split
      · rw [State.abortEnter_eq hplace (by rw [he.1.2]; decide)]
        exact State.sameFull.trans (State.abortOne_sameFull _ _ _ _) (State.enter_enters ..).bars
      · exact State.completeAt_sameFull _ _ _
    next => exact fun _ _ => rfl

theorem State.barComplete_full {s : State} {p b : Nat} {g : List (Nat × Bool)} {rest : List (List (Nat × Bool))}
    (h : (s.bar p b).full = g :: rest) : ((s.barComplete p b).bar p b).full.length = rest.length := by
  unfold State.barComplete
  simp only [h]
  rw [State.barEnd_sameFull, State.setBar_bar_full]

/-! ### Completions -/

/-- Where nothing waits to enter, a completion leaves the barriers. -/
theorem State.completeAt_bar {s : State} {t i : Nat} {e : PEnt} (h : (s.tile t).ents[i]? = some e) (hnone : s.noneEnters t = true) (p b : Nat) :
    (s.completeAt t i).bar p b = s.bar p b := by
  have hdrop : (s.setTile t { s.tile t with ents := dropAt i (s.tile t).ents }).noneEnters t = s.noneEnters t :=
    State.setTile_noneEnters t rfl rfl rfl rfl
  rw [State.completeAt_eq h, State.enter_of_noneEnters]
  · exact (State.signalSg_keeps ..).bar rfl p b
  · rw [State.signalSg_noneEnters, hdrop, hnone]

theorem State.completeAt_ents {s : State} {t i : Nat} {e : PEnt} (h : (s.tile t).ents[i]? = some e) :
    ∃ more, ((s.completeAt t i).tile t).ents = dropAt i (s.tile t).ents ++ more := by
  obtain ⟨more, hmore⟩ := (State.completeAt_enters h).ents t
  rw [State.setTile_tile] at hmore
  exact ⟨more, hmore⟩

theorem State.completeAt_shadow {s : State} {t i : Nat} {e : PEnt} (h : (s.tile t).ents[i]? = some e) :
    ((s.completeAt t i).tile t).shdSt = (s.tile t).shdSt ∧ ((s.completeAt t i).tile t).shd = (s.tile t).shd := by
  have hgo := State.completeAt_enters h
  rw [hgo.shdSt, hgo.shd, State.setTile_tile]
  exact ⟨rfl, rfl⟩

/-- A completion after a change of the tile that leaves its entries. -/
theorem State.completeAt_leaves {s : State} {t i : Nat} {e : PEnt} (y : Tile) (h : (s.tile t).ents[i]? = some e)
    (hy : y.ents = (s.tile t).ents) : s.entLeaves ((s.setTile t y).completeAt t i) t i := by
  have hents : ((s.setTile t y).tile t).ents = (s.tile t).ents := by rw [State.setTile_tile, hy]
  obtain ⟨more, hmore⟩ := State.completeAt_ents (s := s.setTile t y) (by rw [hents]; exact h)
  exact ⟨more, by rw [hmore, hents]⟩

/-- A generation of one tile completes its BAR. -/
theorem State.barComplete_one {s : State} {p b t i : Nat} {rest : List (List (Nat × Bool))} (hfull : (s.bar p b).full = [(t, false)] :: rest)
    (hpos : posOf (fun e => e.issued && wOpc e.word == oBAR && wBid e.word == b) 0 (s.tile t).ents = some i) :
    s.barComplete p b = (s.setBar p b { s.bar p b with full := rest }).completeAt t i := by
  have hpos' : posOf (fun e => e.issued && wOpc e.word == oBAR && wBid e.word == b) 0
      ((s.setBar p b { s.bar p b with full := rest }).tile t).ents = some i := hpos
  unfold State.barComplete
  simp only [hfull, State.barEnd, hpos', List.any_cons, List.any_nil, Bool.or_self, Bool.false_eq_true, if_false]

/-- A barrier with an open generation, or with none counted, is set as it is written. -/
theorem State.setBar_bar_open (s : State) (p b : Nat) {x : Barrier} (h : x.tiles ≠ [] ∨ x.cnt = 0) : (s.setBar p b x).bar p b = x := by
  rw [State.setBar_bar]
  split
  next hempty =>
    have htiles : x.tiles = [] := List.isEmpty_iff.mp hempty
    have hcnt : x.cnt = 0 := h.resolve_left (· htiles)
    cases x
    simp_all
  next => rfl

theorem Tile.vflush_ents (x : Tile) : x.vflush.ents = x.ents := by
  unfold Tile.vflush
  have hput : ∀ (y : Tile) (sp a : Nat) (bs : Bytes), (y.put sp a bs).ents = y.ents := by
    intro y sp a bs
    unfold Tile.put Tile.setSpace
    split_ifs <;> rfl
  refine List.foldlRecOn (motive := fun y : Tile => y.ents = x.ents) _ _ rfl fun y hy w _ => ?_
  exact (hput ..).trans hy

theorem State.instrComplete_leaves {s : State} {t i : Nat} {e : PEnt} {r : PailRep} (hlive : s.tileLive t = true)
    (h : (s.tile t).ents[i]? = some e) (hissued : e.issued = true) (hdone : workDone e = true) (hue : r.ue = false) :
    s.entLeaves (s.instrComplete t i r) t i := by
  unfold State.instrComplete
  simp only [h, hissued, hlive, hue, hdone]
  have hrep : ((s.tile t).reported r).ents = (s.tile t).ents := rfl
  generalize hs1 : s.setTile t ((s.tile t).reported r) = s1
  have h1 : (s1.tile t).ents = (s.tile t).ents := by rw [← hs1, State.setTile_tile, hrep]
  have hplace1 : (s1.tile t).ents[i]? = some e := h1 ▸ h
  have hleaves : ∀ y : Tile, y.ents = (s1.tile t).ents → s.entLeaves ((s1.setTile t y).completeAt t i) t i := by
    intro y hy
    obtain ⟨more, hmore⟩ := State.completeAt_leaves y hplace1 hy
    exact ⟨more, hmore.trans (by rw [h1])⟩
  simp only [Bool.not_true, Bool.or_self, Bool.false_eq_true, if_false]
  split
  · -- a pass
    unfold State.passEnd
    simp only []
    refine hleaves _ ?_
    split
    · rfl
    · split <;> rfl
  · split
    · exact hleaves _ rfl
    · split
      · -- a vector instruction
        unfold State.vecEnd
        simp only []
        refine hleaves _ ?_
        split
        · exact Tile.vflush_ents _
        · exact Tile.vflush_ents _
      · obtain ⟨more, hmore⟩ := State.completeAt_ents hplace1
        exact ⟨more, hmore.trans (by rw [h1])⟩

/-- A loaded shadow is shown, with the image that it holds. -/
theorem State.shadowLoadDone_loaded {s : State} {t i : Nat} {r : PailRep} (hlive : s.tileLive t = true) (hst : (s.tile t).shdSt = .loading)
    (hpos : posOf shadowLoader 0 (s.tile t).ents = some i) (hue : r.ue = false) :
    ((s.shadowLoadDone t r).tile t).shdSt = .loaded ∧ ((s.shadowLoadDone t r).tile t).shd = (s.tile t).shd := by
  obtain ⟨e, hplace, -⟩ := posOf_zero hpos
  unfold State.shadowLoadDone
  simp only [hst, hlive, hpos, hue, hplace, and_self, if_true, Bool.false_eq_true, if_false, State.setTile_tile]
  generalize hs2 : (s.setTile t ((s.tile t).reported r)).setTile t { (s.tile t).reported r with shdSt := .loaded } = s2
  have h2 : s2.tile t = { (s.tile t).reported r with shdSt := .loaded } := by rw [← hs2, State.setTile_tile]
  split
  · have hplace2 : (s2.tile t).ents[i]? = some e := by
      rw [h2]
      exact hplace
    obtain ⟨hst2, hshd2⟩ := State.completeAt_shadow hplace2
    rw [hst2, hshd2, h2]
    exact ⟨rfl, rfl⟩
  · rw [h2]
    exact ⟨rfl, rfl⟩

/-! ### Ramps -/

theorem State.rampDown_highest {s : State} {t : Nat} (hon : s.tileOn t = true) (hgroups : (s.tile t).groups = 0xFF)
    (hents : (s.tile t).ents = []) : s.rampDown t = s.setTile t { s.tile t with groups := 0x7F, rampDown := true } := by
  have hmask : (maskOf 8 fun j => hasBit 0xFF j && (List.range 8).any fun k => j < k && hasBit 0xFF k) = 0x7F := by decide
  unfold State.rampDown
  extract_lets x g
  rw [if_pos ⟨hon, by rw [show x.groups = 0xFF from hgroups]; decide, by rw [show x.ents = [] from hents]; rfl⟩]
  have hg : g = 0x7F := by
    unfold g
    rw [show x.groups = 0xFF from hgroups]
    exact hmask
  rw [hg]
  rfl

theorem Tile.consume_alike (x : Tile) (w : W128) : x.Alike (x.consume w).1 := by
  unfold Tile.consume
  refine List.foldlRecOn (motive := fun a : Tile × Bool => x.Alike a.1) _ _ ⟨rfl, rfl, rfl, rfl⟩ fun a ha k _ => ?_
  exact ⟨ha.ents, ha.shdSt, ha.shd, ha.xsigs⟩

/-- The head of its queue that nothing holds back goes. -/
theorem State.issues.headRes {s : State} {t i : Nat} {e : PEnt} (h : s.issues t i e) {q : Queue} {isOp : Nat → Bool}
    {dyn : State → Nat → PEnt → Dyn} (hq : queueOf e.word = q) (hop : isOp (wOpc e.word) = true) (hbar : wOpc e.word ≠ oBAR)
    (hgo : dyn s i e = .go) : ∃ y, (s.tile t).Alike y ∧ s.headRes t q isOp dyn = .goes y i e false := by
  subst hq
  have hhead := h.head
  have hplace := h.place
  have hfirst := h.first
  have hfree := h.free
  have hlive := h.live
  rcases h.admitted with htaken | ⟨hready, hclean, hword⟩
  · refine ⟨s.tile t, ⟨rfl, rfl, rfl, rfl⟩, ?_⟩
    unfold State.headRes
    simp [hhead, hplace, hop, hlive, htaken, hfirst, hfree, hgo, hbar]
  · cases htaken : e.taken with
    | true =>
      refine ⟨s.tile t, ⟨rfl, rfl, rfl, rfl⟩, ?_⟩
      unfold State.headRes
      simp [hhead, hplace, hop, hlive, htaken, hfirst, hfree, hgo, hbar]
    | false =>
      refine ⟨((s.tile t).consume e.word).1, Tile.consume_alike .., ?_⟩
      unfold State.wordFault at hword
      unfold State.headRes
      simp [hhead, hplace, hop, hlive, htaken, hready, hclean, hfirst, hfree, hgo, hbar]
      exact hword

/-- What an issued head does acts on a tile that holds it started, with the shadow as it was. -/
theorem State.issues.issueHead {s : State} {t i : Nat} {e : PEnt} (h : s.issues t i e) {q : Queue} {isOp : Nat → Bool}
    {dyn : State → Nat → PEnt → Dyn} (hq : queueOf e.word = q) (hop : isOp (wOpc e.word) = true) (hbar : wOpc e.word ≠ oBAR)
    (hgo : dyn s i e = .go) (act : State → Nat → PEnt → State) :
    ∃ a : State, s.issueHead t q isOp dyn act = act a i e ∧ (a.tile t).ents[i]? = some e.started ∧
      (a.tile t).shdSt = (s.tile t).shdSt ∧ a.gov = s.gov := by
  obtain ⟨y, hy, hres⟩ := h.headRes hq hop hbar hgo
  have hlen : i < y.ents.length := by
    rw [hy.ents]
    exact (List.getElem?_eq_some_iff.mp h.place).1
  generalize ha : (s.setTile t { y with ents := setNth y.ents i { e with issued := true, taken := true, poisoned := e.poisoned || false } }) = b
  have hperf := State.tilePerf_keeps b t pfISSUED 1
  have htile : (b.tilePerf t pfISSUED).tile t = { y with ents := setNth y.ents i { e with issued := true, taken := true, poisoned := e.poisoned || false } } := by
    rw [hperf.tile rfl, ← ha, State.setTile_tile]
  refine ⟨b.tilePerf t pfISSUED, ?_, ?_, ?_, ?_⟩
  · unfold State.issueHead
    rw [hres, ← ha]
  · rw [htile]
    show (y.ents.set i _)[i]? = _
    rw [List.getElem?_set_self hlen, Bool.or_false]
    rfl
  · rw [htile]
    exact hy.shdSt
  · rw [hperf.gov rfl, ← ha]
    rfl

theorem State.sldAct_shadow {a : State} {t : Nat} (i : Nat) {e : PEnt} (h : (a.tile t).loadsDirect (loadOf e.word) = false) :
    ((a.sldAct t i e).tile t).groups = 0xFF ∧ ((a.sldAct t i e).tile t).rampDown = false ∧
    ((a.sldAct t i e).tile t).ents = (a.tile t).ents ∧ ((a.sldAct t i e).tile t).shdSt = .loading ∧ (a.sldAct t i e).gov = a.gov := by
  unfold State.sldAct
  simp only [h, Bool.false_eq_true, if_false, State.setTile_tile]
  exact ⟨rfl, rfl, rfl, trivial, rfl⟩

theorem State.setEnt_tile {s : State} {t i : Nat} {v : PEnt} (f : PEnt → PEnt) (h : (s.tile t).ents[i]? = some v) :
    (s.setEnt t i f).tile t = { s.tile t with ents := setNth (s.tile t).ents i (f v) } ∧
    ((s.setEnt t i f).tile t).ents[i]? = some (f v) ∧ (s.setEnt t i f).gov = s.gov := by
  have htile : (s.setEnt t i f).tile t = { s.tile t with ents := setNth (s.tile t).ents i (f v) } := by
    unfold State.setEnt
    simp only [h, State.setTile_tile]
  refine ⟨htile, ?_, ?_⟩
  · rw [htile]
    exact List.getElem?_set_self (List.getElem?_eq_some_iff.mp h).1
  · unfold State.setEnt
    simp only [h]
    rfl

theorem State.mpassAct_effect {a : State} {t i : Nat} {e v : PEnt} (h : (a.tile t).ents[i]? = some v) :
    ((a.mpassAct t i e).tile t).groups = 0xFF ∧ ((a.mpassAct t i e).tile t).rampDown = false ∧ (a.mpassAct t i e).gov = a.gov ∧
    ∃ e', ((a.mpassAct t i e).tile t).ents[i]? = some e' ∧ e'.issued = v.issued ∧ e'.word = v.word ∧ e'.done = v.done := by
  unfold State.mpassAct
  extract_lets x p im sub y0 y z
  have hz : z.groups = 0xFF ∧ z.rampDown = false ∧ z.ents = (a.tile t).ents := by
    unfold z
    split
    · exact ⟨rfl, rfl, rfl⟩
    · split <;> exact ⟨rfl, rfl, rfl⟩
  clear_value z
  have hplace : ((a.setTile t z).tile t).ents[i]? = some v := by
    rw [State.setTile_tile, hz.2.2]
    exact h
  obtain ⟨htile, hent, hgov⟩ := State.setEnt_tile (fun v : PEnt => { v with img := some im.1, sub := sub, red := if p.red then p.reduceStart x.c else {} }) hplace
  refine ⟨?_, ?_, hgov, _, hent, rfl, rfl, rfl⟩
  · rw [htile, State.setTile_tile]
    exact hz.1
  · rw [htile, State.setTile_tile]
    exact hz.2.1

/-- A granted ramp issues the head that asked for it. -/
theorem State.rampGrant_issues {s : State} {t i : Nat} {e : PEnt} {r : List Nat} (hramps : s.gov.ramps = t :: r) (h : s.issues t i e)
    (hop : wOpc e.word = oSLD ∨ wOpc e.word = oMPASS) (hgo : arrayDyn t s i e = .go) :
    ∃ a : State, s.rampGrant t = (if wOpc e.word = oSLD then a.sldAct t i e else a.mpassAct t i e) ∧
      (a.tile t).ents[i]? = some e.started ∧ (a.tile t).shdSt = (s.tile t).shdSt ∧ a.gov.ramps = r := by
  have hq : queueOf e.word = .array := by
    unfold queueOf
    rcases hop with hop | hop <;> rw [hop] <;> rfl
  have h1 : State.issues { s with gov := { s.gov with ramps := r } } t i e := ⟨h.up, h.live, h.place, h.head, h.admitted, h.first, h.bar, h.free⟩
  have hisOp : (wOpc e.word == oSLD || wOpc e.word == oMPASS) = true := by simpa using hop
  have hbar : wOpc e.word ≠ oBAR := by rcases hop with hop | hop <;> rw [hop] <;> decide
  obtain ⟨y, -, hres⟩ := h1.headRes (isOp := fun o => o == oSLD || o == oMPASS) (dyn := arrayDyn t) hq hisOp hbar hgo
  obtain ⟨a, hact, hent, hst, hgov⟩ := h1.issueHead (isOp := fun o => o == oSLD || o == oMPASS) (dyn := arrayDyn t) hq hisOp hbar hgo
    fun a i e => if wOpc e.word = oSLD then a.sldAct t i e else a.mpassAct t i e
  refine ⟨a, ?_, hent, hst, by rw [hgov]⟩
  unfold State.rampGrant
  simp only [hramps, h.live, and_self, if_true]
  rw [hres]
  exact hact

theorem State.rampGrant_none {s : State} {t : Nat} {r : List Nat} (hlive : s.tileLive t = true) (hramps : s.gov.ramps = t :: r)
    (hhead : (s.tile t).head .array = none) : s.rampGrant t = { s with gov := { s.gov with ramps := r } } := by
  have hres : ∀ isOp dyn, State.headRes { s with gov := { s.gov with ramps := r } } t .array isOp dyn = .waits := by
    intro isOp dyn
    unfold State.headRes
    simp only [show (State.tile { s with gov := { s.gov with ramps := r } } t).head .array = none from hhead]
  unfold State.rampGrant
  simp only [hramps, hlive, and_self, if_true, hres]

/-! ### The rows -/

/-- What follows a command of a tile leaves the tiles and the partitions. -/
theorem State.settled_keeps {s : State} (f : State → State) (hup : s.up = true) :
    Keeps (mask244 ||| mask4) (f s.recsIn) (s.acts fun a => (f a).powerSettle) :=
  .step (State.acts_keeps_action _ hup) rfl ((State.powerSettle_keeps _).mono rfl)

theorem State.entLeaves_of_keeps {M : Nat} {s a s' : State} {t i : Nat} (h : Keeps M a s') (hM : M.testBit 12 = false) (ha : s.entLeaves a t i) :
    s.entLeaves s' t i := by
  unfold State.entLeaves
  rw [h.tile hM]
  exact ha

/-- Settles O27. -/
theorem tileFollowUpsTakeEffect : Obligations.TileFollowUpsTakeEffect := by
  unfold Obligations.TileFollowUpsTakeEffect
  refine ⟨fun s t hup hon hz => ⟨_, rfl, ?_⟩, fun s t k x hup hon hz hx hk hpoison hcount => ⟨_, rfl, ?_⟩,
    fun s p b g rest hup hfull => ⟨_, rfl, ?_⟩, fun s p b t i rest hup hfull hopen hnone hpos => ?_,
    fun s t i e r hup hlive hplace hissued hdone hue => ⟨_, rfl, ?_⟩, fun s t r i hup hlive hst hpos hue => ⟨_, rfl, ?_⟩,
    fun s t hup hon hgroups hents => ⟨_, rfl, ?_⟩, fun s t i e r hramps h => ⟨fun hop hgo hshadow => ⟨_, rfl, ?_⟩, fun hop hgo => ?_⟩,
    fun s t r hup hlive hramps hhead => ⟨_, rfl, ?_⟩⟩
  · have hq : ((s.recsIn.setTile t { s.recsIn.tile t with xsigs := [] })).quiet t := ⟨hon, by rw [State.setTile_tile]⟩
    rw [(State.settled_keeps (fun a => a.xsigDeliver t) hup).tile rfl, State.xsigDeliver_eq (s := s.recsIn) hon hz]
    exact (State.deliverXsigs_quiet hq _).2
  · rw [(State.settled_keeps (fun a => a.xsigDeliver t) hup).tile rfl, State.xsigDeliver_eq (s := s.recsIn) hon hz]
    have hxs : (s.recsIn.tile t).xsigs = [x] := hx
    have htok : ∀ k, ((s.recsIn.setTile t { s.recsIn.tile t with xsigs := [] }).tile t).tok k = (s.tile t).tok k := by
      intro k
      rw [State.setTile_tile]
      rfl
    rw [hxs, State.deliverXsigs, State.deliverXsigs, if_pos hpoison, hk, State.signal_tok (by rw [htok]; exact hcount), htok, Bool.or_true]
  · rw [(State.offers_keeps_action (fun a => a.barComplete p b) hup).bar rfl]
    exact State.barComplete_full (s := s.recsIn) hfull
  · obtain ⟨e, hplace, -⟩ := posOf_zero hpos
    have hend := State.offers_keeps_action (fun a => a.barComplete p b) hup
    have hone : s.recsIn.barComplete p b = (s.recsIn.setBar p b { s.bar p b with full := rest }).completeAt t i := State.barComplete_one hfull hpos
    refine ⟨_, rfl, State.entLeaves_of_keeps hend rfl ?_, ?_⟩
    · exact hone ▸ State.completeAt_ents (s := s.recsIn.setBar p b { s.bar p b with full := rest }) hplace
    · rw [hend.bar rfl, hone, State.completeAt_bar (s := s.recsIn.setBar p b { s.bar p b with full := rest }) hplace hnone]
      exact State.setBar_bar_open _ _ _ hopen
  · exact State.entLeaves_of_keeps (State.settled_keeps (fun a => a.instrComplete t i r) hup) rfl
      (State.instrComplete_leaves (s := s.recsIn) hlive hplace hissued hdone hue)
  · rw [(State.offers_keeps_action (fun a => a.shadowLoadDone t r) hup).tile rfl]
    exact State.shadowLoadDone_loaded (s := s.recsIn) hlive hst hpos hue
  · rw [State.runs_up hup, State.rampDown_highest hon hgroups hents, State.setTile_tile]
  · obtain ⟨a, hact, hent, hst, hgov⟩ := State.rampGrant_issues hramps h (.inl hop) (by unfold arrayDyn; rw [if_pos hop]; exact hgo)
    have hload : (a.tile t).loadsDirect (loadOf e.word) = false := by
      unfold Tile.loadsDirect
      rw [hst]
      exact hshadow
    obtain ⟨hgroups, hramp, hents, hloading, hkept⟩ := State.sldAct_shadow i hload
    rw [State.runs_up h.up, hact, if_pos hop]
    exact ⟨by rw [hkept, hgov], hgroups, hramp, by rw [hents, hent], hloading⟩
  · have hsld : wOpc e.word ≠ oSLD := by rw [hop]; decide
    obtain ⟨a, hact, hent, -, hgov⟩ := State.rampGrant_issues hramps h (.inr hop) (by unfold arrayDyn; rw [if_neg hsld]; exact hgo)
    obtain ⟨hgroups, hramp, hkept, e', hent', hissued, hword, hdone⟩ := State.mpassAct_effect (e := e) hent
    refine ⟨_, e', congrArg Host.Outcome.next ((State.runs_up h.up _).trans (hact.trans (if_neg hsld))), by rw [hkept, hgov], hgroups, hramp,
      hent', hissued, hword, hdone⟩
  · rw [State.runs_up hup, State.rampGrant_none hlive hramps hhead]
    exact ⟨rfl, rfl⟩

end Sys2Proof.Machine

/-! PROOFS. Patrol scrub and the power-credit governor (14 R381 to R385, 15 R395 to R403). -/
namespace Sys2Proof.Machine

/-! ### Reads of units -/

/-- Unit `u` with the errors `x` in it is uncorrectable, or poisoned. -/
def State.uncorrectable (s : State) (u : Nat) (x : UnitErrs) : Bool := s.isPoisoned u || 4 ≤ x.bytes

/-- From `s` to `s'` unit `u` has been read, with the errors `x` in it: it is mended or poisoned and counted, and no other unit and no
byte of the Vat changes. -/
structure State.UnitRead (s s' : State) (u : Nat) (x : UnitErrs) : Prop where
  errs : ∀ v, s'.unitErrs v = if v = u then {} else s.unitErrs v
  poison : ∀ v, s'.isPoisoned v = if v = u then s.uncorrectable u x else s.isPoisoned v
  mem : s'.vmem.mem = s.vmem.mem
  burst : s'.vmem.burst = s.vmem.burst
  ce : s'.fld F.VAT_ECC_CNT_CE_CTL (stackOf (64 * u)) =
    if !s.uncorrectable u x && x.bytes != 0 then addSat 24 (s.fld F.VAT_ECC_CNT_CE_CTL (stackOf (64 * u))) 1
    else s.fld F.VAT_ECC_CNT_CE_CTL (stackOf (64 * u))
  ue : s'.fld F.VAT_ECC_CNT_UE (stackOf (64 * u)) =
    if s.uncorrectable u x then addSat 16 (s.fld F.VAT_ECC_CNT_UE (stackOf (64 * u))) 1
    else s.fld F.VAT_ECC_CNT_UE (stackOf (64 * u))

theorem Keeps.unitErrs {M : Nat} {s t : State} (h : Keeps M s t) (hM : M.testBit 15 = false) (u : Nat) : t.unitErrs u = s.unitErrs u := by
  unfold State.unitErrs
  rw [h.vmem hM]

theorem Keeps.isPoisoned {M : Nat} {s t : State} (h : Keeps M s t) (hM : M.testBit 15 = false) (u : Nat) :
    t.isPoisoned u = s.isPoisoned u := by
  unfold State.isPoisoned State.unitMeta
  rw [h.vmem hM]

theorem State.vplant_unitErrs (s : State) (u : Nat) (x : UnitErrs) (v : Nat) :
    (s.vplant u x).unitErrs v = if v = u then x else s.unitErrs v := by
  unfold State.unitErrs State.vplant
  split
  next h =>
    subst h
    exact Tab.get_set_same _ _ _ _
  next h => exact Tab.get_set_ne (fun e => h (congrArg Key.a e)) _ _ _ _

theorem State.vpoison_unitErrs (s : State) (u v : Nat) : (s.vpoison u).unitErrs v = if v = u then {} else s.unitErrs v :=
  s.vplant_unitErrs u {} v

theorem State.vpoison_isPoisoned (s : State) (u v : Nat) : (s.vpoison u).isPoisoned v = if v = u then true else s.isPoisoned v := by
  unfold State.isPoisoned State.unitMeta State.vpoison
  split
  next h =>
    subst h
    dsimp only
    rw [Tab.get_set_same]
    rfl
  next h =>
    dsimp only
    rw [Tab.get_set_ne (fun e => h (congrArg Key.a e))]

/-- What a report of an uncorrectable unit writes beside its count. -/
def ueMask : Nat := mask115 ^^^ fieldsMask [F.VAT_ECC_CNT_UE]

theorem State.ueReport_effect (s : State) (u kind id part : Nat) :
    Keeps ueMask (s.count F.VAT_ECC_CNT_UE 1 (stackOf (64 * u))) (s.ueReport u kind id part) := by
  unfold State.ueReport
  extract_lets st ev l s1 s2
  refine .step (State.idleSettle_keeps _) rfl ?_
  have h1 : Keeps ueMask (s.count F.VAT_ECC_CNT_UE 1 st) s1 := .step (State.event_keeps ..) rfl (.refl _ _)
  clear_value s1
  unfold s2
  split
  · exact .step (State.partEvent_keeps ..) rfl h1
  · exact h1

theorem State.unitRead_bad {s : State} {u kind id part : Nat} (h : s.unitBad u = true) :
    s.UnitRead (s.unitRead u kind id part) u (s.unitErrs u) := by
  have hbad : s.uncorrectable u (s.unitErrs u) = true := h
  unfold State.unitRead
  extract_lets st x s1 s2
  have h1 : Keeps (mask114 ||| fieldsMask [F.VAT_ECC_CNT_CE_STACK]) s s1 := .ite (fun _ => .step (State.coreEv_keeps ..) rfl (.count rfl (.refl _ _))) fun _ => .refl _ _
  clear_value s1
  rw [if_pos h]
  have hend : Keeps ueMask ((s1.vpoison u).count F.VAT_ECC_CNT_UE 1 st) (s1.vatUe u kind id part) := State.ueReport_effect ..
  refine ⟨fun v => ?_, fun v => ?_, ?_, ?_, ?_, ?_⟩
  · rw [hend.unitErrs rfl, ← h1.unitErrs rfl]
    exact s1.vpoison_unitErrs u v
  · rw [hend.isPoisoned rfl, hbad, ← h1.isPoisoned rfl]
    exact s1.vpoison_isPoisoned u v
  · rw [hend.vmem rfl, ← h1.vmem rfl]
    rfl
  · rw [hend.vmem rfl, ← h1.vmem rfl]
    rfl
  · rw [hbad]
    refine hend.fld_trans rfl ((State.fld_put_id _ _ _ _ _ _ (by decide)).trans ?_)
    exact h1.fld_eq rfl
  · rw [hbad]
    refine hend.fld_trans rfl ((State.fld_count _ _ _ _ _).trans ?_)
    exact congrArg (addSat 16 · 1) (h1.fld_eq rfl)

theorem State.unitRead_good {s : State} {u kind id part : Nat} (h : s.unitBad u = false) :
    s.UnitRead (s.unitRead u kind id part) u (s.unitErrs u) := by
  have hgood : s.uncorrectable u (s.unitErrs u) = false := h
  have hclean : s.isPoisoned u = false := (Bool.or_eq_false_iff.mp hgood).1
  have hpoison : ∀ v, s.isPoisoned v = if v = u then false else s.isPoisoned v := by
    intro v
    split
    next hv => rw [hv, hclean]
    next => rfl
  unfold State.unitRead
  extract_lets st x s1 s2
  have h1 : Keeps (mask114 ||| fieldsMask [F.VAT_ECC_CNT_CE_STACK]) s s1 := .ite (fun _ => .step (State.coreEv_keeps ..) rfl (.count rfl (.refl _ _))) fun _ => .refl _ _
  have hx : s.unitErrs u = x := rfl
  rw [if_neg (by simp [h])]
  rw [hx] at hgood ⊢
  clear_value s1 x
  split
  next hnone =>
    subst hnone
    refine ⟨fun v => ?_, fun v => ?_, ?_, ?_, ?_, ?_⟩
    · rw [h1.unitErrs rfl]
      split
      next hv => rw [hv, hx]
      next => rfl
    · rw [h1.isPoisoned rfl, hgood]
      exact hpoison v
    · rw [h1.vmem rfl]
    · rw [h1.vmem rfl]
    · rw [hgood]
      exact h1.fld_eq rfl
    · rw [hgood]
      exact h1.fld_eq rfl
  next =>
    have hfixed : ∀ v, s2.unitErrs v = if v = u then {} else s.unitErrs v := fun v => by
      rw [← h1.unitErrs rfl]
      exact s1.vplant_unitErrs u {} v
    have hkept : ∀ v, s2.isPoisoned v = if v = u then false else s.isPoisoned v := fun v => by
      rw [← hpoison, ← h1.isPoisoned rfl v]
      rfl
    have hmem : s2.vmem.mem = s.vmem.mem ∧ s2.vmem.burst = s.vmem.burst := by
      rw [← h1.vmem rfl]
      exact ⟨rfl, rfl⟩
    have hfld : s2.fld F.VAT_ECC_CNT_CE_CTL st = s.fld F.VAT_ECC_CNT_CE_CTL st ∧ s2.fld F.VAT_ECC_CNT_UE st = s.fld F.VAT_ECC_CNT_UE st :=
      ⟨h1.fld_eq rfl, h1.fld_eq rfl⟩
    clear_value s2
    split
    next hbytes =>
      refine ⟨hfixed, fun v => by rw [hgood, hkept], hmem.1, hmem.2, ?_, ?_⟩
      · rw [hgood, hbytes]
        exact hfld.1
      · rw [hgood]
        exact hfld.2
    next hbytes =>
      have hend : Keeps mask114 (s2.count F.VAT_ECC_CNT_CE_CTL 1 st) ((s2.count F.VAT_ECC_CNT_CE_CTL 1 st).coreEv ⟨bVAT, st, 0x01, lNote, 64 * u, kind, id, part⟩) :=
        State.coreEv_keeps ..
      refine ⟨fun v => ?_, fun v => ?_, ?_, ?_, ?_, ?_⟩
      · rw [hend.unitErrs rfl]
        exact hfixed v
      · rw [hend.isPoisoned rfl, hgood]
        exact hkept v
      · rw [hend.vmem rfl]
        exact hmem.1
      · rw [hend.vmem rfl]
        exact hmem.2
      · refine hend.fld_trans rfl ((State.fld_count _ _ _ _ _).trans ?_)
        rw [hgood, hfld.1]
        simp [hbytes]
        rfl
      · rw [hgood]
        exact hend.fld_trans rfl ((State.fld_put_id _ _ _ _ _ _ (by decide)).trans hfld.2)

theorem State.unitRead_effect (s : State) (u kind id part : Nat) : s.UnitRead (s.unitRead u kind id part) u (s.unitErrs u) := by
  cases h : s.unitBad u with
  | true => exact State.unitRead_bad h
  | false => exact State.unitRead_good h

/-- A scrub meets the errors of the command with those that stand in the unit. -/
theorem State.scrubUnit_effect (s : State) (u : Nat) (e : UnitErr) : s.UnitRead (s.scrubUnit u e) u ((s.unitErrs u).with e) := by
  have h := (s.vplant u ((s.unitErrs u).with e)).unitRead_effect u 0 0 255
  have herrs := s.vplant_unitErrs u ((s.unitErrs u).with e)
  rw [herrs u, if_pos rfl] at h
  refine ⟨fun v => ?_, h.poison, h.mem, h.burst, h.ce, h.ue⟩
  refine (h.errs v).trans ?_
  split
  · rfl
  next hv => exact (herrs v).trans (if_neg hv)

/-! ### Bursts -/

/-- Scrub reads of consecutive units. -/
def State.scrubUnits (s : State) (u : Nat) : List UnitErr → State
  | [] => s
  | e :: es => (s.scrubUnit u e).scrubUnits (u + 1) es

theorem State.foldl_scrubUnit (s : State) (u n : Nat) (es : List UnitErr) :
    (es.zipIdx n).foldl (fun a x => a.scrubUnit (u + x.2) x.1) s = s.scrubUnits (u + n) es := by
  induction es generalizing s n with
  | nil => rfl
  | cons e es ih =>
    rw [List.zipIdx_cons]
    exact ih _ _

/-- Every unit of a burst of channel `q` lies in its stack (14 R372, R384). -/
theorem stackOf_burst (q : Fin 128) (k : Nat) {j : Nat} (hj : j < 4) : stackOf (64 * (burstAddr q k / 64 + j)) = q / 16 := by
  unfold stackOf burstAddr pageSize
  simp only []
  generalize k / 64 = i
  have hm : k % 64 < 64 := Nat.mod_lt _ (by decide)
  generalize k % 64 = m at hm
  have hc : (q.val + 128 - i % 128) % 128 < 128 := Nat.mod_lt _ (by decide)
  have hq : ((q.val + 128 - i % 128) % 128 + i) % 128 = q := by omega
  generalize (q.val + 128 - i % 128) % 128 = c at hc hq
  have haddr : 64 * ((i * 2097152 + 256 * (c + 128 * m)) / 64 + j) = i * 2097152 + 256 * (c + 128 * m) + 64 * j := by omega
  have hpage : (i * 2097152 + 256 * (c + 128 * m) + 64 * j) / 2097152 = i := by omega
  have hburst : (i * 2097152 + 256 * (c + 128 * m) + 64 * j) % 2097152 / 256 = c + 128 * m := by omega
  rw [haddr, hpage, hburst, show (c + 128 * m + i) % 128 = (c + i) % 128 by omega, hq]

/-- Scrub reads of consecutive units of one stack: each unit is mended or poisoned and counted by what stood in it before. -/
structure State.UnitsRead (s s' : State) (u st : Nat) (es : List UnitErr) : Prop where
  other : ∀ v, v < u ∨ u + es.length ≤ v → s'.unitErrs v = s.unitErrs v ∧ s'.isPoisoned v = s.isPoisoned v
  each : ∀ j < es.length, s'.unitErrs (u + j) = {} ∧
    s'.isPoisoned (u + j) = s.uncorrectable (u + j) ((s.unitErrs (u + j)).with (es.getD j .clean))
  mem : s'.vmem.mem = s.vmem.mem
  burst : s'.vmem.burst = s.vmem.burst
  ce : s'.fld F.VAT_ECC_CNT_CE_CTL st = ((List.range es.length).filter fun j =>
      !s.uncorrectable (u + j) ((s.unitErrs (u + j)).with (es.getD j .clean)) && ((s.unitErrs (u + j)).with (es.getD j .clean)).bytes != 0).foldl
    (fun n _ => addSat 24 n 1) (s.fld F.VAT_ECC_CNT_CE_CTL st)
  ue : s'.fld F.VAT_ECC_CNT_UE st = ((List.range es.length).filter fun j =>
      s.uncorrectable (u + j) ((s.unitErrs (u + j)).with (es.getD j .clean))).foldl
    (fun n _ => addSat 16 n 1) (s.fld F.VAT_ECC_CNT_UE st)

/-- Counting where a property of the first place holds, and then where it holds of the places behind it. -/
theorem foldl_filter_range_succ {β : Type} (f : β → β) (p : Nat → Bool) (n : Nat) (b : β) :
    ((List.range (n + 1)).filter p).foldl (fun a _ => f a) b =
      ((List.range n).filter fun j => p (j + 1)).foldl (fun a _ => f a) (if p 0 then f b else b) := by
  have htail : ∀ c, (((List.range n).map Nat.succ).filter p).foldl (fun a _ => f a) c =
      ((List.range n).filter fun j => p (j + 1)).foldl (fun a _ => f a) c := by
    intro c
    rw [List.filter_map, List.foldl_map]
    rfl
  rw [List.range_succ_eq_map, List.filter_cons]
  split
  · rw [List.foldl_cons, htail]
  · exact htail b

theorem State.scrubUnits_effect (s : State) (u st : Nat) (es : List UnitErr) (hst : ∀ j < es.length, stackOf (64 * (u + j)) = st) :
    s.UnitsRead (s.scrubUnits u es) u st es := by
  induction es generalizing s u with
  | nil => exact ⟨fun _ _ => ⟨rfl, rfl⟩, fun j hj => absurd hj (Nat.not_lt_zero j), rfl, rfl, rfl, rfl⟩
  | cons e es ih =>
    have h1 := s.scrubUnit_effect u e
    have h2 := ih (s.scrubUnit u e) (u + 1) fun j hj => by
      rw [show u + 1 + j = u + (j + 1) by omega]
      exact hst (j + 1) (Nat.succ_lt_succ hj)
    have hu : stackOf (64 * u) = st := hst 0 (Nat.zero_lt_succ _)
    have hce1 := h1.ce
    have hue1 := h1.ue
    rw [hu] at hce1 hue1
    have hshift : ∀ j, u + 1 + j = u + (j + 1) := fun j => by omega
    have herrs : ∀ j, (s.scrubUnit u e).unitErrs (u + (j + 1)) = s.unitErrs (u + (j + 1)) := fun j => by
      rw [h1.errs, if_neg (by omega)]
    have hpoison : ∀ j, (s.scrubUnit u e).isPoisoned (u + (j + 1)) = s.isPoisoned (u + (j + 1)) := fun j => by
      rw [h1.poison, if_neg (by omega)]
    have hunc : ∀ j x, (s.scrubUnit u e).uncorrectable (u + (j + 1)) x = s.uncorrectable (u + (j + 1)) x := fun j x => by
      unfold State.uncorrectable
      rw [hpoison]
    refine ⟨fun v hv => ?_, fun j hj => ?_, h2.mem.trans h1.mem, h2.burst.trans h1.burst, ?_, ?_⟩
    · obtain ⟨he, hp⟩ := h2.other v (by rw [List.length_cons] at hv; omega)
      rw [List.length_cons] at hv
      exact ⟨he.trans ((h1.errs v).trans (if_neg (by omega))), hp.trans ((h1.poison v).trans (if_neg (by omega)))⟩
    · cases j with
      | zero =>
        obtain ⟨he, hp⟩ := h2.other u (by omega)
        exact ⟨he.trans ((h1.errs u).trans (if_pos rfl)), hp.trans ((h1.poison u).trans (if_pos rfl))⟩
      | succ j =>
        have hj2 := h2.each j (Nat.lt_of_succ_lt_succ hj)
        rw [hshift, hunc, herrs] at hj2
        exact hj2
    · rw [List.length_cons, foldl_filter_range_succ (addSat 24 · 1)]
      have hce := h2.ce
      simp only [hshift, hunc, herrs, hce1] at hce
      exact hce
    · rw [List.length_cons, foldl_filter_range_succ (addSat 16 · 1)]
      have hue := h2.ue
      simp only [hshift, hunc, herrs, hue1] at hue
      exact hue

theorem State.scrubUnits_keeps (s : State) (u : Nat) (es : List UnitErr) : Keeps mask117 s (s.scrubUnits u es) := by
  induction es generalizing s u with
  | nil => exact .refl _ _
  | cons e es ih => exact ((State.scrubUnit_keeps s u e).mono rfl).trans (ih _ _)

/-- The first four units of a burst are read; the place of the channel moves on, and a forced burst is counted. -/
theorem State.scrub_effect {s : State} {q : Fin 128} (e0 e1 e2 e3 : UnitErr) (forced : Bool) (hvat : s.pow.vat = .on)
    (hen : s.flag F.VAT_SCRUB_CFG_EN = true) :
    (s.scrub q [e0, e1, e2, e3] forced).vmem.burst.get 0 ⟨q, 0, 0⟩ =
      (if s.vmem.burst.get 0 ⟨q, 0, 0⟩ + 1 < burstCount then s.vmem.burst.get 0 ⟨q, 0, 0⟩ + 1 else 0) ∧
    (s.scrub q [e0, e1, e2, e3] forced).fld F.VAT_SCRUB_STAT_FORCED (q / 16) =
      (if forced then addSat 16 (s.fld F.VAT_SCRUB_STAT_FORCED (q / 16)) 1 else s.fld F.VAT_SCRUB_STAT_FORCED (q / 16)) ∧
    s.scrubbed (s.scrub q [e0, e1, e2, e3] forced) q [e0, e1, e2, e3] := by
  unfold State.scrub
  rw [if_pos ⟨hvat, hen⟩]
  extract_lets k u s1 next v0 v w s2 st chans pos passes s3
  have hunit : ∀ j, s.burstUnit q j = u + j := fun _ => rfl
  have hbadUnit : ∀ j, s.burstBad q [e0, e1, e2, e3] j =
      s.uncorrectable (u + j) ((s.unitErrs (u + j)).with ([e0, e1, e2, e3].getD j .clean)) := fun _ => rfl
  have hmendUnit : ∀ j, s.burstMended q [e0, e1, e2, e3] j = (!s.burstBad q [e0, e1, e2, e3] j &&
      ((s.unitErrs (u + j)).with ([e0, e1, e2, e3].getD j .clean)).bytes != 0) := fun _ => rfl
  have hstack : ∀ j < 4, stackOf (64 * (u + j)) = st := fun j hj => stackOf_burst q k hj
  have hs1 : s1 = s.scrubUnits (u + 0) [e0, e1, e2, e3] := s.foldl_scrubUnit u 0 _
  rw [Nat.add_zero] at hs1
  have hread : s.UnitsRead s1 u st [e0, e1, e2, e3] := hs1 ▸ s.scrubUnits_effect u st _ hstack
  have hkeeps : Keeps mask117 s s1 := hs1 ▸ s.scrubUnits_keeps u _
  clear_value s1 u
  have hw : w.burst = s1.vmem.burst.set 0 ⟨q, 0, 0⟩ next ∧ w.errs = s1.vmem.errs ∧ w.mdata = s1.vmem.mdata ∧ w.mem = s1.vmem.mem := by
    unfold w
    split <;> exact ⟨rfl, rfl, rfl, rfl⟩
  generalize hend : (if forced = true then s3.count F.VAT_SCRUB_STAT_FORCED 1 st else s3) = t
  have ht : Keeps (fieldsMask [F.VAT_SCRUB_STAT_POSITION, F.VAT_SCRUB_STAT_PASSES, F.VAT_SCRUB_STAT_FORCED]) s2 t :=
    hend ▸ .ite (fun _ => .count rfl <| .put rfl <| .put rfl <| .refl _ _) fun _ => .put rfl <| .put rfl <| .refl _ _
  have hvmem : t.vmem = w := ht.vmem rfl
  have herrs : ∀ n, t.unitErrs n = s1.unitErrs n := fun n => by
    unfold State.unitErrs
    rw [hvmem, hw.2.1]
  have hpoison : ∀ n, t.isPoisoned n = s1.isPoisoned n := fun n => by
    unfold State.isPoisoned State.unitMeta
    rw [hvmem, hw.2.2.1]
  refine ⟨?_, ?_, fun j hgood => ?_, fun j hbad => ?_, ht.fld_trans rfl ?_, ht.fld_trans rfl ?_, ?_⟩
  · rw [hvmem, hw.1]
    exact Tab.get_set_same _ _ _ _
  · have h3 : s3.fld F.VAT_SCRUB_STAT_FORCED st = s.fld F.VAT_SCRUB_STAT_FORCED st :=
      (State.fld_put_id _ _ _ _ _ _ (by decide)).trans ((State.fld_put_id _ _ _ _ _ _ (by decide)).trans (hkeeps.fld_eq rfl))
    rw [← hend, ← h3]
    split
    · exact State.fld_count _ _ _ _ _
    · rfl
  · obtain ⟨he, hp⟩ := hread.each j j.isLt
    rw [hunit]
    exact ⟨(herrs _).trans he, (hpoison _).trans (hp.trans ((hbadUnit j).symm.trans hgood))⟩
  · rw [hunit]
    exact (hpoison _).trans ((hread.each j j.isLt).2.trans ((hbadUnit j).symm.trans hbad))
  · rw [funext hmendUnit, funext hbadUnit]
    exact hread.ce
  · rw [funext hbadUnit]
    exact hread.ue
  · rw [hvmem, hw.2.2.2]
    exact hread.mem

theorem State.scrubbed.of_keeps {M : Nat} {s a t : State} {q : Nat} {es : List UnitErr} (ha : s.scrubbed a q es) (h : Keeps M a t)
    (hM : (!M.testBit 15 && Sys2Proof.Machine.spares M F.VAT_ECC_CNT_CE_CTL && Sys2Proof.Machine.spares M F.VAT_ECC_CNT_UE) = true) : s.scrubbed t q es := by
  simp only [Bool.and_eq_true, Bool.not_eq_true'] at hM
  obtain ⟨⟨hvmem, hce⟩, hue⟩ := hM
  refine ⟨fun j hj => ?_, fun j hj => ?_, h.fld_trans hce ha.ce, h.fld_trans hue ha.ue, (congrArg Vat.mem (h.vmem hvmem)).trans ha.kept⟩
  · rw [h.unitErrs hvmem, h.isPoisoned hvmem]
    exact ha.mended j hj
  · rw [h.isPoisoned hvmem]
    exact ha.poisoned j hj

theorem State.scrubbed.of_recsIn {s t : State} {q : Nat} {es : List UnitErr} (h : s.recsIn.scrubbed t q es) : s.scrubbed t q es :=
  ⟨h.mended, h.poisoned, h.ce, h.ue, h.kept⟩

theorem addSat_lt (w x y : Nat) : addSat w x y < 2 ^ w := by
  unfold addSat
  split
  · assumption
  · exact Nat.sub_lt (Nat.two_pow_pos w) Nat.one_pos

/-! ### The governor -/

/-- The assist of the governor, whether deliveries come, and the trip stand as they did. -/
structure State.SameCredit (s t : State) : Prop where
  assist : t.gov.assist = s.gov.assist
  live : t.gov.live = s.gov.live
  trip : t.idle.trip = s.idle.trip

theorem State.SameCredit.trans {s t u : State} (h : s.SameCredit t) (g : t.SameCredit u) : s.SameCredit u :=
  ⟨g.assist.trans h.assist, g.live.trans h.live, g.trip.trans h.trip⟩

theorem Keeps.sameCredit {M : Nat} {s t : State} (h : Keeps M s t) (hM : (!M.testBit 16 && !M.testBit 18) = true) : s.SameCredit t := by
  simp only [Bool.and_eq_true, Bool.not_eq_true'] at hM
  exact ⟨by rw [h.gov hM.2], by rw [h.gov hM.2], by rw [h.idle hM.1]⟩

theorem State.sameCredit_foldl {α : Type} {f : State → α → State} (hf : ∀ a x, State.SameCredit a (f a x)) (l : List α) (s : State) :
    s.SameCredit (l.foldl f s) := by
  induction l generalizing s with
  | nil => exact ⟨rfl, rfl, rfl⟩
  | cons x l ih => exact (hf s x).trans (ih _)

theorem State.tileStop_sameCredit (s : State) (t : Nat) : s.SameCredit (s.tileStop t) := by
  have hstart : s.SameCredit ((s.setTile t (s.tile t).emptied).unramp t) := ⟨rfl, rfl, rfl⟩
  exact hstart.trans (State.sameCredit_foldl (fun a e => (State.endAborted_keeps a t e 0).sameCredit rfl) _ _)

theorem State.idleSettle_sameCredit (s : State) : s.SameCredit s.idleSettle := by
  unfold State.idleSettle
  extract_lets w i s1 s2
  split
  · exact ⟨rfl, rfl, rfl⟩
  · have h1 : s.SameCredit s1 := ⟨rfl, rfl, rfl⟩
    have h2 : s.SameCredit s2 := by
      unfold s2
      split
      · refine h1.trans (State.sameCredit_foldl (fun a t => ?_) _ _)
        split
        · exact State.tileStop_sameCredit a t
        · exact ⟨rfl, rfl, rfl⟩
      · exact h1
    refine h2.trans (State.sameCredit_foldl (fun a p => ?_) _ _)
    split
    · exact ⟨rfl, rfl, rfl⟩
    · exact (State.partEvent_keeps ..).sameCredit rfl

theorem State.govEv_sameCredit (s : State) (typ lvl : Nat) : s.SameCredit (s.govEv typ lvl) :=
  ((State.event_keeps s _).sameCredit rfl).trans (State.idleSettle_sameCredit _)

theorem toSigned_toNat {w : Nat} (x : BitVec (w + 1)) : toSigned (w + 1) x.toNat = x.toInt := by
  unfold toSigned
  extract_lets y
  have hy : y = x.toNat := Nat.mod_eq_of_lt x.isLt
  rw [hy, BitVec.toInt_eq_toNat_cond, Nat.add_sub_cancel]
  have hiff : x.toNat < 2 ^ w ↔ 2 * x.toNat < 2 ^ (w + 1) := by
    rw [pow_succ]
    omega
  simp only [hiff]

/-- The terms of a budget as an update shows them. -/
theorem State.govTerms_effect (s : State) :
    let th := pThermal (toSigned 16 (s.fld F.AON_TEMP_TJ_CORE)) (s.fld F.GOV_CFG_TKNEE) (s.fld F.GOV_CFG_TSLOPE)
    s.govTerms.fld F.GOV_INPUTS_P_SHARE = s.gov.share % 2 ^ 16 ∧ s.govTerms.fld F.GOV_INPUTS_P_ASSIST = s.gov.assist % 2 ^ 16 ∧
    s.govTerms.fld F.GOV_INPUTS_P_THERMAL = th % 2 ^ 16 ∧ s.govTerms.fld F.GOV_INPUTS_P_CAP = s.gov.cap % 2 ^ 16 ∧
    s.govTerms.fld F.GOV_STAT_BUDGET = min (min (s.gov.share + s.gov.assist) th) (min s.gov.cap 4200) % 2 ^ 16 := by
  intro th
  unfold State.govTerms
  extract_lets s1 s2 b
  refine ⟨?_, ?_, ?_, ?_, ?_⟩
  · exact (State.fld_put_id _ _ _ _ _ _ (by decide)).trans ((State.fld_put_id _ _ _ _ _ _ (by decide)).trans
      ((State.fld_put_id _ _ _ _ _ _ (by decide)).trans ((State.fld_put_id _ _ _ _ _ _ (by decide)).trans
      ((State.fld_put_id _ _ _ _ _ _ (by decide)).trans (State.fld_put_same ..)))))
  · exact (State.fld_put_id _ _ _ _ _ _ (by decide)).trans ((State.fld_put_id _ _ _ _ _ _ (by decide)).trans
      ((State.fld_put_id _ _ _ _ _ _ (by decide)).trans ((State.fld_put_id _ _ _ _ _ _ (by decide)).trans (State.fld_put_same ..))))
  · exact (State.fld_put_id _ _ _ _ _ _ (by decide)).trans ((State.fld_put_id _ _ _ _ _ _ (by decide)).trans
      ((State.fld_put_id _ _ _ _ _ _ (by decide)).trans (State.fld_put_same ..)))
  · exact (State.fld_put_id _ _ _ _ _ _ (by decide)).trans ((State.fld_put_id _ _ _ _ _ _ (by decide)).trans (State.fld_put_same ..))
  · exact (State.fld_put_id _ _ _ _ _ _ (by decide)).trans (State.fld_put_same ..)

/-- The level rule in whole numbers (15 R401). -/
theorem nextLevel_eq (p b margin hyst up level : Nat) :
    nextLevel p b margin hyst up level =
      (if 4200 < (p : Int) then 64
        else if (b : Int) - 10 * margin < p then min 64 (level + up)
        else if (p : Int) < b - 10 * margin - hyst then level - 1 else level) := by
  unfold nextLevel fusedW
  rw [Int.mul_comm 10]
  simp only [show (4200 < (p : Int)) ↔ 4200 < p by omega]

/-- What an update writes once its terms are taken. -/
def govMask : Nat := mask114 ||| partsMask [.gov] ||| fieldsMask [F.GOV_STAT_P_MEAS, F.GOV_ASSIST_AGE, F.GOV_EVT_MEAS_FAIL, F.GOV_EVT_HARD_TRIP,
  F.GOV_CNT_HARD_TRIPS]

theorem State.govUpdate_effect {s : State} {sample tj : Nat} (fails : Bool) (hruns : s.govRuns = true) (hsample : sample < 2 ^ 16) :
    let a := (s.put F.AON_TEMP_TJ_CORE tj).govTerms
    let t := s.govUpdate sample tj fails
    let p := if fails then 4200 else sample
    Keeps (govMask ||| fieldsMask [F.GOV_STAT_LEVEL]) a t ∧ t.fld F.GOV_STAT_P_MEAS = p ∧
    t.flag F.GOV_EVT_MEAS_FAIL = (fails || s.flag F.GOV_EVT_MEAS_FAIL) ∧
    t.fld F.GOV_STAT_LEVEL = (if s.si0 then 64 else
      nextLevel p (a.fld F.GOV_STAT_BUDGET) (s.fld F.GOV_CFG_MARGIN) (s.fld F.GOV_CFG_HYST) (s.fld F.GOV_CFG_UP_STEP) (s.fld F.GOV_STAT_LEVEL)) % 2 ^ 7 := by
  intro a t p
  have hp : p < 2 ^ 16 := by
    unfold p
    split
    · decide
    · exact hsample
  have ha : Keeps (mask198 ||| fieldsMask [F.AON_TEMP_TJ_CORE]) s a := .step (State.govTerms_keeps _) rfl (.put rfl (.refl _ _))
  have ht : s.govUpdate sample tj fails = t := rfl
  unfold State.govUpdate at ht
  rw [if_neg (by simp [hruns])] at ht
  extract_lets p' g0 g s2 s3 s4 l at ht
  have hp' : p = p' := rfl
  clear_value t a p p'
  subst hp'
  have h2 : Keeps (partsMask [.gov] ||| fieldsMask [F.GOV_STAT_P_MEAS, F.GOV_ASSIST_AGE]) a s2 := .put rfl <| .put rfl <| .setGov _ rfl <| .refl _ _
  have hmeas2 : s2.fld F.GOV_STAT_P_MEAS = p := (State.fld_put_id _ _ _ _ _ _ (by decide)).trans (State.fld_put _ _ hp _ _)
  clear_value s2
  have h3 : Keeps (mask114 ||| fieldsMask [F.GOV_EVT_MEAS_FAIL]) s2 s3 :=
    .ite (fun _ => .step (State.govEv_keeps ..) rfl <| .putFlag rfl <| .refl _ _) fun _ => .refl _ _
  have hflag3 : s3.flag F.GOV_EVT_MEAS_FAIL = (fails || s.flag F.GOV_EVT_MEAS_FAIL) := by
    unfold s3
    cases fails with
    | true => exact (State.govEv_keeps ..).flag_trans rfl (State.flag_putFlag _ _ _ _ _ (by decide))
    | false => exact h2.flag_trans rfl (ha.flag_eq rfl)
  clear_value s3
  have h4 : Keeps (fieldsMask [F.GOV_EVT_HARD_TRIP, F.GOV_CNT_HARD_TRIPS]) s3 s4 := .ite (fun _ => .count rfl <| .putFlag rfl <| .refl _ _) fun _ => .refl _ _
  clear_value s4
  have h24 : Keeps govMask a s4 := .step h4 rfl <| .step h3 rfl (h2.mono rfl)
  have hs4 : Keeps (govMask ||| mask198 ||| fieldsMask [F.AON_TEMP_TJ_CORE]) s s4 := .step h24 rfl (ha.mono rfl)
  subst ht
  refine ⟨.put rfl (h24.mono rfl), ?_, ?_, ?_⟩
  · exact (State.fld_put_id _ _ _ _ _ _ (by decide)).trans (h4.fld_trans rfl (h3.fld_trans rfl hmeas2))
  · exact (State.flag_put_id _ _ _ _ _ _ (by decide)).trans (h4.flag_trans rfl hflag3)
  · refine (State.fld_put_same ..).trans ?_
    have hsi : s4.si0 = s.si0 := hs4.bit_eq rfl
    unfold l
    rw [hsi, h24.fld_eq rfl, hs4.fld_eq rfl, hs4.fld_eq rfl, hs4.fld_eq rfl, hs4.fld_eq rfl]
    rfl

/-- Settles O18: a scrub reads each unit once, and an update takes the terms before the level follows. -/
theorem scrubAndGovernorRowsTakeEffect : Obligations.ScrubAndGovernorRowsTakeEffect := by
  unfold Obligations.ScrubAndGovernorRowsTakeEffect
  refine ⟨fun s q e0 e1 e2 e3 hup hvat hen => ⟨⟨_, rfl, ?_⟩, ⟨_, rfl, ?_⟩⟩, fun s sample tj fails hup hruns => ⟨_, rfl, ?_⟩,
    fun s hup hruns hlive => ⟨_, rfl, ?_⟩, fun s hup hruns hlevel hover => ⟨_, rfl, ?_⟩, fun s hup hruns hlevel hover htrip => ⟨_, rfl, ?_⟩,
    fun s hup hruns hcool htrip => ⟨_, rfl, ?_⟩⟩
  · have hend := State.offers_keeps_action (s := s) (fun a => a.scrub q.val [e0, e1, e2, e3] false) hup
    obtain ⟨hburst, hforced, hscrub⟩ := State.scrub_effect (s := s.recsIn) (q := q) e0 e1 e2 e3 false hvat hen
    exact ⟨(congrArg (·.burst.get 0 ⟨q, 0, 0⟩) (hend.vmem rfl)).trans hburst, hend.fld_trans rfl hforced,
      (hscrub.of_keeps hend rfl).of_recsIn⟩
  · have hend := State.offers_keeps_action (s := s) (fun a => a.scrub q.val [e0, e1, e2, e3] true) hup
    obtain ⟨hburst, hforced, hscrub⟩ := State.scrub_effect (s := s.recsIn) (q := q) e0 e1 e2 e3 true hvat hen
    refine ⟨(congrArg (·.burst.get 0 ⟨q, 0, 0⟩) (hend.vmem rfl)).trans hburst, hend.fld_trans rfl (hforced.trans ?_),
      (hscrub.of_keeps hend rfl).of_recsIn⟩
    exact (Nat.mod_eq_of_lt (addSat_lt 16 _ _)).symm
  · have hend := State.offers_keeps_action (s := s) (fun a => a.govUpdate sample.toNat tj.toNat fails) hup
    obtain ⟨hkeeps, hmeas, hfail, hlevel⟩ := State.govUpdate_effect (s := s.recsIn) (tj := tj.toNat) fails hruns sample.isLt
    have htj : (s.recsIn.put F.AON_TEMP_TJ_CORE tj.toNat).fld F.AON_TEMP_TJ_CORE = tj.toNat := State.fld_put _ _ tj.isLt _ _
    obtain ⟨hshare, hassist, hthermal, hcap, hbudget⟩ := State.govTerms_effect (s.recsIn.put F.AON_TEMP_TJ_CORE tj.toNat)
    rw [htj, toSigned_toNat tj, State.fld_put_id _ _ _ _ _ _ (by decide), State.fld_put_id _ _ _ _ _ _ (by decide)] at hthermal hbudget
    have hbudgetEnd := hend.fld_trans rfl (hkeeps.fld_trans rfl hbudget)
    refine ⟨hend.fld_trans rfl (hkeeps.fld_trans rfl ((State.govTerms_keeps _).fld_trans rfl htj)), hend.fld_trans rfl hmeas,
      hend.fld_trans rfl (hkeeps.fld_trans rfl hshare), hend.fld_trans rfl (hkeeps.fld_trans rfl hassist),
      hend.fld_trans rfl (hkeeps.fld_trans rfl hthermal), hend.fld_trans rfl (hkeeps.fld_trans rfl hcap), hbudgetEnd,
      hend.flag_trans rfl hfail, fun hsi => hend.fld_trans rfl (hlevel.trans (congrArg (· % 2 ^ 7) (if_pos hsi))), ?_⟩
    intro hsi p m hp hm
    refine hend.fld_trans rfl (hlevel.trans ?_)
    rw [hend.fld_trans rfl hmeas] at hp
    rw [if_neg (by simp [show s.recsIn.si0 = false from hsi]), hm, hp, nextLevel_eq, hend.fld_eq rfl, hkeeps.fld_eq rfl]
    rfl
  · have hend := State.offers_keeps_action (s := s) (fun a => a.assistLost) hup
    have heq : s.recsIn.assistLost = ((State.putFlag { s.recsIn with gov := { s.gov with assist := 0, live := false } } F.GOV_EVT_ASSIST_LOST true).count
        F.GOV_CNT_ASSIST_LOST).govEv 0x01 lDegrade := if_pos ⟨hruns, hlive⟩
    have hsame := State.govEv_sameCredit ((State.putFlag { s.recsIn with gov := { s.gov with assist := 0, live := false } } F.GOV_EVT_ASSIST_LOST true).count
        F.GOV_CNT_ASSIST_LOST) 0x01 lDegrade
    rw [← heq] at hsame
    refine ⟨(congrArg Gov.assist (hend.gov rfl)).trans hsame.assist, (congrArg Gov.live (hend.gov rfl)).trans hsame.live, hend.flag_trans rfl ?_⟩
    rw [heq]
    exact (State.govEv_keeps ..).flag_trans rfl ((State.flag_put_id _ _ _ _ _ _ (by decide)).trans (State.flag_putFlag _ _ _ _ _ (by decide)))
  · have hend := State.offers_keeps_action (s := s) (fun a => a.overBudget) hup
    have heq : s.recsIn.overBudget = (s.recsIn.putFlag F.GOV_EVT_OVER_BUDGET true).govEv 0x03 lDegrade := if_pos ⟨hruns, hlevel, hover⟩
    refine hend.flag_trans rfl ?_
    rw [heq]
    exact (State.govEv_keeps ..).flag_trans rfl (State.flag_putFlag _ _ _ _ _ (by decide))
  · have hend := State.offers_keeps_action (s := s) (fun a => a.idleTrip) hup
    generalize hc : (s.recsIn.putFlag F.GOV_EVT_IDLE_TRIP true) = c at *
    have heq : s.recsIn.idleTrip = (c.idleCause fun x => { x with trip := true }).govEv 0x04 lHalt := hc ▸ if_pos ⟨hruns, hlevel, hover, htrip⟩
    have hcause : (c.idleCause fun x => { x with trip := true }).idle.trip = true := (State.idleSettle_sameCredit _).trip
    refine ⟨hend.flag_trans rfl ?_, (congrArg Idle.trip (hend.idle rfl)).trans ?_⟩
    · rw [heq]
      refine (State.govEv_keeps ..).flag_trans rfl ((State.idleSettle_keeps _).flag_trans rfl ?_)
      exact hc ▸ State.flag_putFlag _ _ _ _ _ (by decide)
    · rw [heq]
      exact (State.govEv_sameCredit ..).trip.trans hcause
  · have hend := State.offers_keeps_action (s := s) (fun a => a.idleRelease) hup
    have heq : s.recsIn.idleRelease = s.recsIn.idleCause fun x => { x with trip := false } := if_pos ⟨hruns, hcool, htrip⟩
    refine (congrArg Idle.trip (hend.idle rfl)).trans ?_
    rw [heq]
    exact (State.idleSettle_sameCredit _).trip

end Sys2Proof.Machine

/-! PROOFS. What the power sequencer, a core shutdown and the reactions of Rind leave of the power state: the pin phase, the
supervisor's trip, and the Inputs stage (02 R42, 03 R74, 20 R526). -/
namespace Sys2Proof.Machine

/-- The pin phase, the trip of the supervisor's junction and the wait for the Inputs stage stand as they did. -/
structure State.Steady (s t : State) : Prop where
  phase : t.pow.phase = s.pow.phase
  supHot : t.pow.supHot = s.pow.supHot
  waits : t.rnd.waits = s.rnd.waits

theorem State.Steady.refl (s : State) : s.Steady s := ⟨rfl, rfl, rfl⟩

theorem State.Steady.trans {s t u : State} (h : s.Steady t) (g : t.Steady u) : s.Steady u :=
  ⟨g.phase.trans h.phase, g.supHot.trans h.supHot, g.waits.trans h.waits⟩

theorem Keeps.steady {M : Nat} {s t : State} (h : Keeps M s t) (hM : (!M.testBit 0 && !M.testBit 24) = true) : s.Steady t := by
  simp only [Bool.and_eq_true, Bool.not_eq_true'] at hM
  exact ⟨by rw [h.pow hM.1], by rw [h.pow hM.1], by rw [h.rnd hM.2]⟩

theorem State.Steady.foldl {α : Type} {f : State → α → State} (hf : ∀ a x, State.Steady a (f a x)) (l : List α) (s : State) :
    s.Steady (l.foldl f s) := by
  induction l generalizing s with
  | nil => exact .refl s
  | cons x l ih => exact (hf s x).trans (ih _)

/-- A step behind a steady way. -/
theorem State.Steady.step {s a b : State} (h : a.Steady b) (k : s.Steady a) : s.Steady b := k.trans h

theorem State.Steady.ite {s t u : State} {c : Prop} [Decidable c] (h : c → s.Steady t) (g : ¬ c → s.Steady u) :
    s.Steady (if c then t else u) := by
  split
  next hc => exact h hc
  next hc => exact g hc

/-! ### Domains -/

theorem State.setDom_steady (s : State) (d : Nat) (x : PdSt) : s.Steady (s.setDom d x) := ⟨rfl, rfl, rfl⟩
theorem State.setVat_steady (s : State) (x : VatSt) : s.Steady (s.setVat x) := ⟨rfl, rfl, rfl⟩
theorem State.vatLeave_steady (s : State) (x : VatSt) : s.Steady (s.vatLeave x) := ⟨rfl, rfl, rfl⟩
theorem State.limitActs_steady (s : State) (mask : Nat) : s.Steady (s.limitActs mask) := ⟨rfl, rfl, rfl⟩
theorem State.put_steady (s : State) (f : RField) (v i j : Nat) : s.Steady (s.put f v i j) := ⟨rfl, rfl, rfl⟩
theorem State.reqClear_steady (s : State) : s.Steady s.reqClear := ⟨rfl, rfl, rfl⟩
theorem State.setInhibit_steady (s : State) (mask : Nat) : s.Steady (s.setInhibit mask) := ⟨rfl, rfl, rfl⟩

theorem State.engFall_steady (s : State) (fid e : Nat) : s.Steady (s.engFall fid e) := by
  unfold State.engFall
  split
  · exact (State.setDom_steady ..).trans ((State.engineDark_keeps ..).steady rfl)
  · exact .refl s

theorem State.lscFall_steady (s : State) : s.Steady s.lscFall := by
  unfold State.lscFall
  split
  · exact (State.setDom_steady ..).trans ((State.lenSettle_keeps _).steady rfl)
  · exact .refl s

theorem State.vatSettle_steady (s : State) : s.Steady s.vatSettle := by
  unfold State.vatSettle
  extract_lets r
  split
  · exact .ite (fun _ => ⟨rfl, rfl, rfl⟩) fun _ => .refl s
  · exact .ite (fun _ => ⟨rfl, rfl, rfl⟩) fun _ => .ite (fun _ => ⟨rfl, rfl, rfl⟩) fun _ => .refl s
  · refine .ite (fun _ => ⟨rfl, rfl, rfl⟩) fun _ => .ite (fun _ => .refl s) fun _ => ?_
    exact .ite (fun _ => ⟨rfl, rfl, rfl⟩) fun _ => ⟨rfl, rfl, rfl⟩
  · exact .refl s

theorem State.engSettle_steady (s : State) (e : Nat) : s.Steady (s.engSettle e) := by
  unfold State.engSettle
  split
  · exact .ite (fun _ => ⟨rfl, rfl, rfl⟩) fun _ => .refl s
  · exact .ite (fun _ => .refl s) fun _ => State.engFall_steady ..
  · exact .ite (fun _ => State.engFall_steady ..) fun _ => .refl s
  · exact .refl s

theorem State.lscSettle_steady (s : State) : s.Steady s.lscSettle := by
  unfold State.lscSettle
  extract_lets busy gone
  split
  · exact .ite (fun _ => ⟨rfl, rfl, rfl⟩) fun _ => .refl s
  · exact .ite (fun _ => State.lscFall_steady s) fun _ => .refl s
  · exact .ite (fun _ => State.lscFall_steady s) fun _ => .refl s
  · exact .refl s

theorem State.tgSettle_steady (s : State) (g : Nat) : s.Steady (s.tgSettle g) := by
  unfold State.tgSettle
  extract_lets fail want
  split
  · exact .ite (fun _ => ⟨rfl, rfl, rfl⟩) fun _ => .refl s
  · exact .ite (fun _ => ⟨rfl, rfl, rfl⟩) fun _ => .refl s
  · exact .refl s

/-- The copper ports go down where they are not. -/
theorem State.copperDown_steady (s : State) : s.Steady s.copperDown :=
  .foldl (fun a _ => .ite (fun _ => .refl a) fun _ => (State.enterDown_keeps ..).steady rfl) _ _

theorem State.sepSettle_steady (s : State) : s.Steady s.sepSettle := by
  unfold State.sepSettle
  split
  · exact .ite (fun _ => ⟨rfl, rfl, rfl⟩) fun _ => .refl s
  · exact .ite (fun _ => (State.setDom_steady ..).trans (State.copperDown_steady _)) fun _ => .refl s
  · exact .refl s

theorem State.gateSettle_steady (s : State) : s.Steady s.gateSettle := by
  have hover : s.Steady s.wakeOver := by
    unfold State.wakeOver
    exact .ite (fun _ => ⟨rfl, rfl, rfl⟩) fun _ => .refl s
  refine hover.trans (.foldl (fun a d => ?_) _ _)
  exact .ite (fun _ => .ite (fun _ => ⟨rfl, rfl, rfl⟩) fun _ => .refl a) fun _ => .ite (fun _ => ⟨rfl, rfl, rfl⟩) fun _ => .refl a

theorem State.powerSettle_steady (s : State) : s.Steady s.powerSettle := by
  unfold State.powerSettle
  refine .ite (fun _ => ?_) fun _ => .refl s
  refine .step (State.gateSettle_steady _) <| .step (State.sepSettle_steady _) ?_
  refine .trans ?_ (.foldl State.tgSettle_steady _ _)
  refine .step (State.lscSettle_steady _) ?_
  exact (State.vatSettle_steady s).trans (.foldl State.engSettle_steady _ _)

/-! ### A core shutdown -/

theorem State.shutting_steady (s : State) : s.Steady s.shutting := by
  unfold State.shutting
  refine .ite (fun _ => .refl s) fun _ => ?_
  have h1 : s.Steady { s with pow := { s.pow with shut := true } } := ⟨rfl, rfl, rfl⟩
  exact h1.trans ((State.idleCause_keeps ..).steady rfl)

theorem State.vatDown_steady (s : State) : s.Steady s.vatDown := by
  unfold State.vatDown
  split
  · exact State.vatLeave_steady ..
  · exact .refl s
  · exact State.setVat_steady ..

theorem State.tgFall_steady (s : State) (g : Nat) : s.Steady (s.tgFall g) := by
  unfold State.tgFall
  exact .ite (fun _ => State.setDom_steady ..) fun _ => .refl s

theorem State.sepAbandon_steady (s : State) : s.Steady s.sepAbandon := by
  unfold State.sepAbandon
  exact .ite (fun _ => State.setDom_steady ..) fun _ => .refl s

theorem State.domainsDown_steady (s : State) (fid : Nat) : s.Steady (s.domainsDown fid) := by
  unfold State.domainsDown
  extract_lets s1 s2
  have h1 : s.Steady s1 := .foldl State.tgFall_steady _ _
  have h2 : s.Steady s2 := h1.trans (.foldl (fun a e => State.engFall_steady a fid e) _ _)
  exact .step (State.sepAbandon_steady _) <| .step (State.copperDown_steady _) <| .step (State.vatDown_steady _) h2

theorem State.coreShutdown_steady (s : State) (fid : Nat) : s.Steady (s.coreShutdown fid) := by
  unfold State.coreShutdown
  extract_lets s1 s2
  have h1 : s.Steady s1 := ⟨rfl, rfl, rfl⟩
  have h2 : s1.Steady s2 := ⟨rfl, rfl, rfl⟩
  clear_value s1 s2
  refine .ite (fun _ => h1.trans (State.powerSettle_steady _)) fun _ => ?_
  exact .step (State.powerSettle_steady _) <| .step (State.domainsDown_steady ..) <| .step (State.reqClear_steady _) <|
    .step (State.shutting_steady _) (h1.trans h2)

/-! ### Rind -/

theorem State.stoOff_steady (s : State) (mask : Nat) : s.Steady (s.stoOff mask) := by
  unfold State.stoOff
  refine .foldl (fun a k => ?_) _ _
  exact ⟨rfl, rfl, rfl⟩

theorem State.lenSettle_steady (s : State) : s.Steady s.lenSettle := (State.lenSettle_keeps s).steady rfl

theorem State.engStop_steady (s : State) (fid : Nat) : s.Steady (s.engStop fid) := by
  unfold State.engStop
  extract_lets s1
  have h1 : s.Steady s1 := .ite (fun _ => ⟨rfl, rfl, rfl⟩) fun _ => .refl _
  exact .trans (.step (State.put_steady ..) h1) (.foldl (fun a e => State.engFall_steady a fid e) _ _)

theorem State.lasersOff_steady (s : State) (fid : Nat) : s.Steady (s.lasersOff fid) :=
  .step (State.engStop_steady ..) <| .step (State.put_steady ..) (State.lenSettle_steady s)

theorem State.fnIso_steady (s : State) (on : Bool) (fid : Nat) : s.Steady (s.fnIso on fid) := by
  unfold State.fnIso
  exact .ite (fun _ => .step ((State.isolate_keeps ..).steady rfl) (State.setInhibit_steady ..)) fun _ => State.setInhibit_steady ..

theorem State.fnLaser_steady (s : State) (on : Bool) (fid : Nat) : s.Steady (s.fnLaser on fid) := by
  unfold State.fnLaser
  exact .ite (fun _ => State.lasersOff_steady ..) fun _ => State.lenSettle_steady s

theorem State.fnSto_steady (s : State) (f : Nat) : s.Steady (s.fnSto f) := .step (State.put_steady ..) (State.stoOff_steady ..)

theorem State.fnCap_steady (s : State) (on : Bool) : s.Steady (s.fnCap on) := ⟨rfl, rfl, rfl⟩

theorem State.fnSettle_steady (s : State) (f0 f fid : Nat) : s.Steady (s.fnSettle f0 f fid) := by
  unfold State.fnSettle
  extract_lets ed s1 s2 s3 s4
  have hed : ∀ (a : State) (n : Nat) (g : State → Bool → State), (∀ on, a.Steady (g a on)) → a.Steady (ed a n g) := fun a n g hg =>
    .ite (fun _ => .refl a) fun _ => hg _
  clear_value ed
  have h1 : s.Steady s1 := (State.fnSto_steady s f).trans (hed _ _ _ fun on => State.fnIso_steady ..)
  have h2 : s.Steady s2 := h1.trans (hed _ _ _ fun on => State.fnLaser_steady ..)
  have h3 : s.Steady s3 := h2.trans (hed _ _ _ fun on => (State.idleCause_keeps ..).steady rfl)
  have h4 : s.Steady s4 := h3.trans (hed _ _ _ fun on => .ite (fun _ => State.coreShutdown_steady ..) fun _ => .refl _)
  exact h4.trans (State.fnCap_steady ..)

theorem State.siReport_steady (s : State) (d0 d at_ : Nat) : s.Steady (s.siReport d0 d at_) := by
  unfold State.siReport
  extract_lets x n b p0 s1 s2
  have h1 : s.Steady s1 := ⟨rfl, rfl, rfl⟩
  clear_value s1
  have h2 : s.Steady s2 := h1.trans (.ite (fun _ => ⟨rfl, rfl, rfl⟩) fun _ => .refl _)
  exact .step ((State.notify_keeps ..).steady rfl) (.step ((State.offerAt_keeps ..).steady rfl) h2)

theorem State.siReports_steady (s : State) (d0 d : Nat) : s.Steady (s.siReports d0 d) := by
  unfold State.siReports
  extract_lets early s1
  have h1 : s.Steady s1 := .ite (fun _ => .refl s) fun _ => State.siReport_steady ..
  exact .ite (fun _ => h1) fun _ => .step (State.siReport_steady ..) h1

theorem State.herdWake_steady (s : State) : s.Steady s.herdWake := by
  unfold State.herdWake
  refine .ite (fun _ => ?_) fun _ => .refl s
  have h1 : s.Steady { s with pow := { s.pow with roundWake := true } } := ⟨rfl, rfl, rfl⟩
  exact h1.trans (State.gateSettle_steady _)

theorem State.rindFollow_steady (s : State) (fid : Nat) : s.Steady (s.rindFollow fid) := by
  unfold State.rindFollow
  extract_lets d0 d f0 f l0 l rises r0 s0 s1 s2 s3 s4 r5 s5
  have h1 : s.Steady (s1.count F.RND_CNT_DEMANDS (popCount rises 8)) := ⟨rfl, rfl, rfl⟩
  have h2 : s.Steady s2 := .step (State.fnSettle_steady ..) h1
  clear_value s2
  have h3 : s.Steady s3 := .step ((State.fnLsw_keeps ..).steady rfl) h2
  have h4 : s.Steady s4 := .step ((State.gcSrcN_keeps ..).steady rfl) h3
  clear_value s4
  have h5 : s.Steady s5 := h4.trans (.ite (fun _ => ⟨rfl, rfl, rfl⟩) fun _ => .refl _)
  clear_value s5
  exact .ite (fun _ => h5) fun _ => .step (State.herdWake_steady _) <| .step ((State.wakeSrc_keeps ..).steady rfl) <|
    .step (State.siReports_steady ..) h5

theorem State.rindSettle_steady (s : State) (fid : Nat) : s.Steady (s.rindSettle fid) :=
  (State.rindFollow_steady s fid).trans (State.powerSettle_steady _)

/-- The outputs of the supervisor go off (02 R47, 03 R75). -/
theorem State.outputsOff_steady (s : State) (cause fid : Nat) : s.Steady (s.outputsOff cause fid) := by
  unfold State.outputsOff
  extract_lets s1 s2
  have h1 : s.Steady s1 := .step ((State.lswShadow_keeps ..).steady rfl) ((State.fieldOff_keeps s).steady rfl)
  have h2 : s.Steady s2 := .step (State.setInhibit_steady ..) <| .step (State.stoOff_steady ..) <| .step ((State.coilsLost_keeps ..).steady rfl) h1
  exact .step (State.put_steady ..) <| .step (State.lenSettle_steady _) h2

end Sys2Proof.Machine

/-! PROOFS. Clock, rail and junction monitors (03 R68, R75). -/
namespace Sys2Proof.Machine

section
variable {s : State}

/-! ### Clocks and rails -/

theorem State.slowFail_effect (h : s.pow.slow = false) : s.slowFail.pow.slow = true ∧ s.slowFail.flag F.CLK_MON_EVT_SLOW_FAIL = true := by
  unfold State.slowFail
  rw [if_neg (by simp [h])]
  generalize hset : State.putFlag { s with pow := { s.pow with slow := true } } F.CLK_MON_EVT_SLOW_FAIL true = a
  have hend : Keeps (mask3 ||| mask4) a ((a.aonEv 0x01 lDegrade).powerRec 2) := .step (State.powerRec_keeps ..) rfl <| .step (State.aonEv_keeps ..) rfl (.refl _ _)
  refine ⟨(congrArg Pow.slow (hend.pow rfl)).trans ?_, hend.flag_trans rfl ?_⟩
  · rw [← hset]
    rfl
  · exact hset ▸ State.flag_putFlag _ _ _ _ _ (by decide)

theorem State.xsFail_effect (h : s.pow.xsFail = false) : s.xsFail.pow.xsFail = true ∧ s.xsFail.flag F.CLK_MON_EVT_XS_FAIL = true := by
  unfold State.xsFail
  rw [if_neg (by simp [h])]
  extract_lets s0 p0 m0 s1
  have hend : Keeps (mask3 ||| mask4) (s1.putFlag F.CLK_MON_EVT_XS_FAIL true) (((s1.putFlag F.CLK_MON_EVT_XS_FAIL true).aonEv 0x02 lSevere).powerRec 2) :=
    .step (State.powerRec_keeps ..) rfl <| .step (State.aonEv_keeps ..) rfl (.refl _ _)
  exact ⟨(congrArg Pow.xsFail (hend.pow rfl)).trans rfl, hend.flag_trans rfl (State.flag_putFlag _ _ _ _ _ (by decide))⟩

/-- No core request is left. -/
def State.noRequests (s : State) : Prop :=
  s.fld F.AON_PD_REQ_ENG_REQ = 0 ∧ s.flag F.AON_PD_REQ_SEP_REQ = false ∧ s.fld F.AON_PD_REQ_TG_REQ = 0

theorem State.reqClear_noRequests (s : State) : s.reqClear.noRequests := by
  unfold State.reqClear State.noRequests
  refine ⟨?_, ?_, State.fld_put _ _ (by decide) _ _⟩
  · exact (State.fld_put_id _ _ _ _ _ _ (by decide)).trans (State.fld_put _ _ (by decide) _ _)
  · refine (State.flag_put_id _ _ _ _ _ _ (by decide)).trans ((State.flag_put_id _ _ _ _ _ _ (by decide)).trans ?_)
    unfold State.flag
    rw [State.fld_put _ _ (by decide)]
    rfl

theorem Keeps.noRequests {M : Nat} {t : State} (h : Keeps M s t) (hM : (Sys2Proof.Machine.spares M F.AON_PD_REQ_ENG_REQ &&
    Sys2Proof.Machine.spares M F.AON_PD_REQ_SEP_REQ && Sys2Proof.Machine.spares M F.AON_PD_REQ_TG_REQ) = true) (hs : s.noRequests) : t.noRequests := by
  simp only [Bool.and_eq_true] at hM
  obtain ⟨⟨heng, hsep⟩, htg⟩ := hM
  obtain ⟨h1, h2, h3⟩ := hs
  exact ⟨h.fld_trans heng h1, h.flag_trans hsep h2, h.fld_trans htg h3⟩

/-- The death of a core that is up clears its requests. -/
theorem State.coreDead_noRequests (hon : s.dom 8 = .on) (fid : Nat) : (s.coreDead fid).noRequests := by
  unfold State.coreDead
  extract_lets up s1 s2 s3 s4 s5 s6 s7 s8
  have hup : up = true := by simp [up, State.coreUp, hon]
  rw [if_pos hup]
  exact State.reqClear_noRequests _

/-- A monitor that takes the core down clears its requests and shows in its event. -/
theorem State.clockLost_effect {f : RField} {typ : Nat} (hon : s.dom 8 = .on) (hshadow : s.aonShadowed typ = false) (hw : f.width ≠ 0)
    (hf : Sys2Proof.Machine.spares (mask2 ||| mask3 ||| mask4 ||| mask263 ||| mask244) f = true) :
    (s.clockLost f typ).noRequests ∧ (s.clockLost f typ).flag f = true := by
  unfold State.clockLost
  rw [if_neg (by simp [hon]), if_neg (by simp [hshadow])]
  extract_lets s1 fid rs s2
  have h1 : Keeps (mask2 ||| mask3 ||| mask4) (s.putFlag f true) s1 := .step (State.aonEv_keeps ..) rfl (.refl _ _)
  have h2dom : Keeps (mask2 ||| mask3 ||| mask4) (s.putFlag f true) s2 :=
    .step (State.notify_keeps ..) rfl <| .step (State.powerRec_keeps ..) rfl <| .step (State.powerRec_keeps ..) rfl h1
  have h2 : Keeps (mask2 ||| mask3 ||| mask4 ||| mask263 ||| mask244) (s.putFlag f true) s2 := h2dom.mono rfl
  have hon2 : s2.dom 8 = .on := by
    rw [h2dom.dom rfl]
    exact hon
  clear_value s1 s2
  refine ⟨(State.powerSettle_keeps _).noRequests rfl (State.coreDead_noRequests hon2 fid), ?_⟩
  refine Keeps.flag_trans (.step (State.powerSettle_keeps _) rfl <| .step (State.coreDead_keeps ..) rfl h2) hf ?_
  exact State.flag_putFlag _ _ _ _ _ hw

theorem State.groupCut_tgReq (s : State) {g : Nat} (hg : g < 8) (fid : Nat) : (s.groupCut g fid).tgReq g = false := by
  unfold State.groupCut
  extract_lets tiles s1 s2 q was s3
  have h2 : s2.tgReq g = false := State.bit_putBitOf_same _ _ _ _ hg
  have h3 : s3.tgReq g = false := h2
  exact Keeps.bit_trans (M := 1) (.ite (fun _ => .step (State.setDom_keeps ..) rfl (.refl _ _)) fun _ => .refl _ _) rfl h3

/-- What follows the cut of a group. -/
def tripMask : Nat := mask233 ||| mask234 ||| mask244 ||| partsMask [.pow]

/-- The state in which a monitor of group `g` has shown. -/
def State.tgShown (s : State) (g : Nat) (rail : Bool) : State :=
  if rail then s.putFlag F.AON_HARD_EVT_VTG_OV true else s.putBitOf F.CLK_MON_EVT_TG_OVF g true

theorem State.tgTrip_effect {g : Fin 8} {rail : Bool} (hon : s.dom (15 + g) = .on)
    (hshadow : s.aonShadowed (if rail then 0x06 else 0x05) = false) :
    Keeps (tripMask ||| mask3 ||| mask4 ||| mask231) (s.tgShown g rail) (s.tgTrip g rail) ∧ (s.tgTrip g rail).tgReq g = false := by
  unfold State.tgTrip
  extract_lets typ s1 s2 fid
  rw [if_neg (by simp [hon]), if_neg (by simp [typ, hshadow])]
  have h2 : Keeps (tripMask ||| mask3 ||| mask4 ||| mask231) (s.tgShown g rail) (s2.powerRec (if rail then 3 else 2)) :=
    .step (State.powerRec_keeps ..) rfl <| .step (State.aonEv_keeps ..) rfl (.refl _ _)
  generalize s2.powerRec (if rail then 3 else 2) = a at h2 ⊢
  have hend : Keeps tripMask (a.groupCut g fid) ((((a.groupCut g fid).limitActs (2 ^ (15 + g.val))).qualNext).phaseSettle).powerSettle :=
    .step (State.powerSettle_keeps _) rfl <| .step (State.phaseSettle_keeps _) rfl <| .step (State.qualNext_keeps _) rfl <|
      .step (State.limitActs_keeps ..) rfl (.refl _ _)
  exact ⟨.step hend rfl <| .step (State.groupCut_keeps ..) rfl h2, hend.bit_trans rfl (State.groupCut_tgReq a g.isLt fid)⟩

/-! ### Temperatures -/

theorem State.coreTrip_effect (tj : BitVec 16) (hon : s.dom 8 = .on) (hhold : s.pow.hold = false) :
    (s.coreTrip tj.toNat).fld F.AON_TEMP_TJ_CORE = tj.toNat ∧ (s.coreTrip tj.toNat).flag F.AON_HARD_EVT_TJ_CORE_TRIP = true ∧
    (s.coreTrip tj.toNat).fld F.AON_QUAL_QUAL_DONE = 0 := by
  unfold State.coreTrip
  rw [if_neg (by simp [hon, hhold])]
  extract_lets s1 s2 fid s3 p4 q4 s4
  have h3 : Keeps (mask3 ||| mask4 ||| partsMask [.pow, .qual]) s1 s3 := .step (State.powerRec_keeps ..) rfl <| .step (State.aonEv_keeps ..) rfl (.refl _ _)
  have h4 : Keeps (mask3 ||| mask4 ||| partsMask [.pow, .qual]) s1 s4 := .setQual (s := { s3 with pow := { s3.pow with hold := true } }) { s3.qual with done := false } rfl <|
    .setPow _ rfl h3
  have htj : s1.fld F.AON_TEMP_TJ_CORE = tj.toNat := (State.fld_putFlag_id _ _ _ _ _ _ (by decide)).trans (State.fld_put _ _ tj.isLt _ _)
  have htrip : s1.flag F.AON_HARD_EVT_TJ_CORE_TRIP = true := State.flag_putFlag _ _ _ _ _ (by decide)
  clear_value s1 s4
  have hend : Keeps (mask247 ||| partsMask [.pow]) (s4.put F.AON_QUAL_QUAL_DONE 0) (((s4.put F.AON_QUAL_QUAL_DONE 0).limitActs coreMask).coreShutdown fid) :=
    .step (State.coreShutdown_keeps ..) rfl <| .step (State.limitActs_keeps ..) rfl (.refl _ _)
  refine ⟨hend.fld_trans rfl ?_, hend.flag_trans rfl ?_, hend.fld_trans rfl (State.fld_put _ _ (by decide) _ _)⟩
  · exact (State.fld_put_id _ _ _ _ _ _ (by decide)).trans (h4.fld_trans rfl htj)
  · exact (State.flag_put_id _ _ _ _ _ _ (by decide)).trans (h4.flag_trans rfl htrip)

theorem maxZ_mem (d : Int) {l : List Int} (h : l ≠ []) : maxZ d l ∈ l := by
  induction l with
  | nil => exact absurd rfl h
  | cons x t ih =>
    cases t with
    | nil => exact List.mem_singleton.mpr rfl
    | cons y t =>
      have hrest := ih (List.cons_ne_nil y t)
      show (if x < maxZ d (y :: t) then maxZ d (y :: t) else x) ∈ x :: y :: t
      split
      · exact List.mem_cons_of_mem x hrest
      · exact List.mem_cons_self

theorem le_maxZ (d : Int) {l : List Int} {x : Int} (h : x ∈ l) : x ≤ maxZ d l := by
  induction l with
  | nil => exact absurd h List.not_mem_nil
  | cons z t ih =>
    cases t with
    | nil => exact le_of_eq (List.mem_singleton.mp h)
    | cons y t =>
      show x ≤ if z < maxZ d (y :: t) then maxZ d (y :: t) else z
      rcases List.mem_cons.mp h with rfl | hmem
      · split <;> omega
      · have hle := ih hmem
        split <;> omega

theorem ofSigned_toInt (x : BitVec 16) : ofSigned 16 x.toInt = x.toNat := by
  have h := congrArg BitVec.toNat (BitVec.ofInt_toInt (x := x))
  rw [BitVec.toNat_ofInt] at h
  exact h

/-- The hottest of the diodes shows. -/
theorem State.diodes_hottest {l : List (BitVec 16)} (hl : l ≠ []) (hoff : s.dom 8 = .off) :
    ∃ m ∈ l, (s.diodes (l.map BitVec.toInt)).fld F.AON_TEMP_TJ_CORE = m.toNat ∧ ∀ x ∈ l, x.toInt ≤ m.toInt := by
  obtain ⟨m, hm, hmax⟩ := List.mem_map.mp (maxZ_mem 0 (l := l.map BitVec.toInt) (by simpa using hl))
  refine ⟨m, hm, ?_, fun x hx => hmax ▸ le_maxZ 0 (List.mem_map_of_mem hx)⟩
  unfold State.diodes
  extract_lets m' s1
  have h1 : s1.fld F.AON_TEMP_TJ_CORE = m.toNat := by
    have hput : s1 = s.put F.AON_TEMP_TJ_CORE (ofSigned 16 m') := if_pos hoff
    rw [hput, show m' = m.toInt from hmax.symm, ofSigned_toInt]
    exact State.fld_put _ _ m.isLt _ _
  clear_value s1
  exact Keeps.fld_trans (M := mask244 ||| partsMask [.pow])
    (.ite (fun _ => .step (State.powerSettle_keeps _) rfl <| .setPow _ rfl <| .refl _ _) fun _ => .refl _ _) rfl h1

theorem State.supTrip_effect (tj : BitVec 16) (hcool : s.pow.supHot = false) :
    (s.supTrip tj.toNat).pow.supHot = true ∧ (s.supTrip tj.toNat).fld F.AON_TEMP_TJ_SUP = tj.toNat ∧
    (s.supTrip tj.toNat).flag F.AON_HARD_EVT_TJ_SUP_TRIP = true ∧
    (s.supTrip tj.toNat).flag F.AON_PIN_PHASE_FIELD_EN = (s.holdup && s.flag F.AON_PIN_PHASE_FIELD_EN) := by
  unfold State.supTrip
  extract_lets s0 s1 fid r2 p2 s2
  rw [if_neg (by simp [hcool])]
  have htj : (s0.putFlag F.AON_HARD_EVT_TJ_SUP_TRIP true).fld F.AON_TEMP_TJ_SUP = tj.toNat :=
    (State.fld_putFlag_id _ _ _ _ _ _ (by decide)).trans (State.fld_put _ _ tj.isLt _ _)
  have htrip : (s0.putFlag F.AON_HARD_EVT_TJ_SUP_TRIP true).flag F.AON_HARD_EVT_TJ_SUP_TRIP = true := State.flag_putFlag _ _ _ _ _ (by decide)
  have hshown : Keeps (fieldsMask [F.AON_TEMP_TJ_SUP, F.AON_HARD_EVT_TJ_SUP_TRIP]) s (s0.putFlag F.AON_HARD_EVT_TJ_SUP_TRIP true) :=
    .putFlag rfl <| .put rfl <| .refl _ _
  have h2 : Keeps (mask3 ||| mask4 ||| partsMask [.pow]) (s0.putFlag F.AON_HARD_EVT_TJ_SUP_TRIP true) s2 := .setPow _ rfl <| .step (State.powerRec_keeps ..) rfl <| .step (State.aonEv_keeps ..) rfl (.refl _ _)
  have hhot : s2.pow.supHot = true := rfl
  have hholdup : s2.holdup = s.holdup := h2.flag_trans rfl (hshown.flag_eq rfl)
  have hfield : s2.flag F.AON_PIN_PHASE_FIELD_EN = s.flag F.AON_PIN_PHASE_FIELD_EN := h2.flag_trans rfl (hshown.flag_eq rfl)
  clear_value s2
  cases hup : s.holdup with
  | true =>
    rw [if_pos (hholdup.trans hup)]
    exact ⟨hhot, h2.fld_trans rfl htj, h2.flag_trans rfl htrip, hfield⟩
  | false =>
    rw [if_neg (by simp [hholdup, hup])]
    have hend : Keeps (mask247 ||| partsMask [.pow]) ((s2.outputsOff 7 fid).putFlag F.AON_PIN_PHASE_FIELD_EN false)
        ((((s2.outputsOff 7 fid).putFlag F.AON_PIN_PHASE_FIELD_EN false).limitActs (coreMask + 2 ^ 23)).coreShutdown fid) :=
      .step (State.coreShutdown_keeps ..) rfl <| .step (State.limitActs_keeps ..) rfl (.refl _ _)
    have hsteady : s2.Steady ((((s2.outputsOff 7 fid).putFlag F.AON_PIN_PHASE_FIELD_EN false).limitActs (coreMask + 2 ^ 23)).coreShutdown fid) :=
      .step (State.coreShutdown_steady ..) <| .step (State.limitActs_steady ..) <| .step (State.put_steady ..) (State.outputsOff_steady ..)
    refine ⟨hsteady.supHot.trans hhot, hend.fld_trans rfl ?_, hend.flag_trans rfl ?_, hend.flag_trans rfl (State.flag_putFlag _ _ _ _ _ (by decide))⟩
    · exact (State.fld_putFlag_id _ _ _ _ _ _ (by decide)).trans ((State.outputsOff_keeps ..).fld_trans rfl (h2.fld_trans rfl htj))
    · exact (State.flag_putFlag_id _ _ _ _ _ _ (by decide)).trans ((State.outputsOff_keeps ..).flag_trans rfl (h2.flag_trans rfl htrip))

theorem State.supRelease_effect (tj : BitVec 16) (hhot : s.pow.supHot = true) :
    (s.supRelease tj.toNat).pow.supHot = false ∧ (s.supRelease tj.toNat).fld F.AON_TEMP_TJ_SUP = tj.toNat ∧
    (s.holdup = false → (s.supRelease tj.toNat).fld F.AON_STO_REQ_ON = 0 ∧ (s.supRelease tj.toNat).flag F.AON_PIN_PHASE_FIELD_EN = s.rindFree) ∧
    (s.holdup = true → (s.supRelease tj.toNat).fld F.AON_STO_REQ_ON = s.fld F.AON_STO_REQ_ON ∧
      (s.supRelease tj.toNat).flag F.AON_PIN_PHASE_FIELD_EN = s.flag F.AON_PIN_PHASE_FIELD_EN) := by
  unfold State.supRelease
  extract_lets s0 p1 s1 s2
  rw [if_pos hhot]
  have h1 : Keeps (fieldsMask [F.AON_TEMP_TJ_SUP] ||| partsMask [.pow]) s s1 := .setPow _ rfl <| .put rfl <| .refl _ _
  have htj : s1.fld F.AON_TEMP_TJ_SUP = tj.toNat := State.fld_put _ _ tj.isLt _ _
  have hcool : s1.pow.supHot = false := rfl
  have hholdup : s1.holdup = s.holdup := h1.flag_eq rfl
  have h2 : Keeps (mask194 ||| partsMask [.ctr]) s1 s2 := .step (State.setInhibit_keeps ..) rfl <| .step (State.fieldOff_keeps _) rfl (.refl _ _)
  have hfree : s2.rindFree = s.rindFree := by
    unfold State.rindFree
    rw [h2.fld_eq rfl, h1.fld_eq rfl, h2.rnd rfl, h1.rnd rfl]
  clear_value s1 s2
  cases hup : s.holdup with
  | true =>
    rw [if_pos (hholdup.trans hup)]
    exact ⟨hcool, htj, fun h => absurd h (by decide), fun _ => ⟨h1.fld_eq rfl, h1.flag_eq rfl⟩⟩
  | false =>
    rw [if_neg (by simp [hholdup, hup])]
    have hend := State.lenSettle_keeps ((s2.put F.AON_STO_REQ_ON 0).putFlag F.AON_PIN_PHASE_FIELD_EN s2.fieldFree)
    have hfield : s2.fieldFree = s.rindFree := by
      unfold State.fieldFree
      rw [hfree, h2.pow rfl, hcool, show s2.holdup = false from (h2.flag_eq rfl).trans (hholdup.trans hup)]
      simp
    refine ⟨(congrArg Pow.supHot ((hend.pow rfl).trans (h2.pow rfl))).trans hcool, hend.fld_trans rfl ?_, fun _ => ⟨hend.fld_trans rfl ?_, hend.flag_trans rfl ?_⟩,
      fun h => absurd h (by decide)⟩
    · exact (State.fld_putFlag_id _ _ _ _ _ _ (by decide)).trans ((State.fld_put_id _ _ _ _ _ _ (by decide)).trans (h2.fld_trans rfl htj))
    · exact (State.fld_putFlag_id _ _ _ _ _ _ (by decide)).trans (State.fld_put _ _ (by decide) _ _)
    · exact (State.flag_putFlag _ _ _ _ _ (by decide)).trans hfield

end

/-- Settles O3. -/
theorem monitorsAndLimitsTakeEffect : Obligations.MonitorsAndLimitsTakeEffect := by
  unfold Obligations.MonitorsAndLimitsTakeEffect
  refine ⟨fun s hup hslow => ⟨_, rfl, ?_⟩, fun s hup => ⟨_, congrArg Host.Outcome.next (State.runs_up hup _), rfl, rfl⟩,
    fun s hup hfail => ⟨_, rfl, ?_⟩, fun s hup => ⟨_, congrArg Host.Outcome.next (State.runs_up hup _), rfl, rfl⟩,
    fun s hup hon hshadow => ⟨_, rfl, ?_⟩, fun s hup hon hshadow => ⟨_, rfl, ?_⟩, fun s g hup hon hshadow => ⟨_, rfl, ?_⟩,
    fun s g hup hon hshadow => ⟨_, rfl, ?_⟩, fun s tj hup hon hhold => ⟨_, rfl, ?_⟩, fun s t0 t1 t2 t3 t4 hup hoff => ⟨_, rfl, ?_⟩,
    fun s tj hup hcool => ⟨_, rfl, ?_⟩, fun s tj hup hhot => ⟨_, congrArg Host.Outcome.next (State.runs_up hup _), State.supRelease_effect tj hhot⟩⟩
  · have hend := State.offers_keeps_action (fun a => a.slowFail) hup
    obtain ⟨hpow, hflag⟩ := State.slowFail_effect (s := s.recsIn) hslow
    exact ⟨(congrArg Pow.slow (hend.pow rfl)).trans hpow, hend.flag_trans rfl hflag⟩
  · have hend := State.offers_keeps_action (fun a => a.xsFail) hup
    obtain ⟨hpow, hflag⟩ := State.xsFail_effect (s := s.recsIn) hfail
    exact ⟨(congrArg Pow.xsFail (hend.pow rfl)).trans hpow, hend.flag_trans rfl hflag⟩
  · have hend := State.acts_keeps_action (fun a => a.clockLost F.CLK_MON_EVT_REF_FAIL 0x03) hup
    obtain ⟨⟨heng, hsep, -⟩, hflag⟩ := State.clockLost_effect (s := s.recsIn) (f := F.CLK_MON_EVT_REF_FAIL) (typ := 0x03) hon hshadow (by decide) rfl
    exact ⟨hend.flag_trans rfl hflag, hend.fld_trans rfl heng, hend.flag_trans rfl hsep⟩
  · have hend := State.acts_keeps_action (fun a => a.clockLost F.CLK_MON_EVT_SEP_OVF 0x04) hup
    obtain ⟨⟨heng, hsep, -⟩, hflag⟩ := State.clockLost_effect (s := s.recsIn) (f := F.CLK_MON_EVT_SEP_OVF) (typ := 0x04) hon hshadow (by decide) rfl
    exact ⟨hend.flag_trans rfl hflag, hend.fld_trans rfl heng, hend.flag_trans rfl hsep⟩
  · have hend := State.acts_keeps_action (fun a => a.tgTrip g false) hup
    obtain ⟨hkeeps, hreq⟩ := State.tgTrip_effect (s := s.recsIn) (g := g) (rail := false) hon hshadow
    exact ⟨hend.bit_trans rfl (hkeeps.bit_trans rfl (State.bit_putBitOf_same _ _ _ _ g.isLt)), hend.bit_trans rfl hreq⟩
  · have hend := State.acts_keeps_action (fun a => a.tgTrip g true) hup
    obtain ⟨hkeeps, hreq⟩ := State.tgTrip_effect (s := s.recsIn) (g := g) (rail := true) hon hshadow
    exact ⟨hend.flag_trans rfl (hkeeps.flag_trans rfl (State.flag_putFlag _ _ _ _ _ (by decide))), hend.bit_trans rfl hreq⟩
  · have hend := State.acts_keeps_action (fun a => a.coreTrip tj.toNat) hup
    obtain ⟨htj, htrip, hdone⟩ := State.coreTrip_effect (s := s.recsIn) tj hon hhold
    exact ⟨hend.fld_trans rfl htj, hend.flag_trans rfl htrip, hend.fld_trans rfl hdone⟩
  · have hend := State.acts_keeps_action (fun a => a.diodes [t0.toInt, t1.toInt, t2.toInt, t3.toInt, t4.toInt]) hup
    obtain ⟨m, hm, htj, hmax⟩ := State.diodes_hottest (s := s.recsIn) (l := [t0, t1, t2, t3, t4]) (List.cons_ne_nil _ _) hoff
    exact ⟨m, hm, hend.fld_trans rfl htj, hmax⟩
  · have hend := State.acts_keeps_action (fun a => a.supTrip tj.toNat) hup
    obtain ⟨hpow, htj, htrip, hfield⟩ := State.supTrip_effect (s := s.recsIn) tj hcool
    exact ⟨(congrArg Pow.supHot (hend.pow rfl)).trans hpow, hend.fld_trans rfl htj, hend.flag_trans rfl htrip, hend.flag_trans rfl hfield⟩

end Sys2Proof.Machine

/-! PROOFS. Auxiliary power, the end of reset, the hold-up and the Inputs stage (02 R42, R46, R47, 04 R84, 22 R590). -/
namespace Sys2Proof.Machine

section
variable {s : State}

/-! ### The resets -/

theorem State.auxUp_eq (h : s.pow.phase = .u) : s.auxUp = s.auxReset .x := if_pos h

theorem State.auxDrop_eq (h : s.pow.phase = .x) : s.auxDrop = s.auxReset .u := if_pos h

theorem State.auxReset_keys (s : State) (ph : PinPhase) : (s.auxReset ph).mgt.keys = s.mgt.keys := (State.auxReset_sameStored s ph).keys

/-- The management port stands idle after a reset. -/
theorem State.auxReset_mgtIdle (s : State) (ph : PinPhase) : (s.auxReset ph).flag F.MGT_STAT_ACTIVE = false := by
  unfold State.flag
  rw [State.auxReset_fld s ph (by decide)]
  rfl

/-! ### RESET_END -/

/-- The end of phase X leaves the straps' address in any case. -/
theorem State.leaveReset_nid (s : State) : s.leaveReset.fld F.AON_CONN_STAT_MGT_NID = (1 + s.pow.nid) % 32 :=
  (State.leaveReset_keeps_sample s).fld_trans rfl (State.fld_put_same ..)

theorem State.leaveReset_effect (s : State) : s.leaveReset.pow.phase = .s ∧ s.leaveReset.flag F.MGT_STAT_ACTIVE = true := by
  unfold State.leaveReset
  extract_lets v1 v2 v3 v4 v5 v6 v7 v8 v9 v10
  have h3 : v3.pow.phase = .s := rfl
  clear_value v3
  have h6 : v6.pow.phase = .s ∧ v6.flag F.MGT_STAT_ACTIVE = true := by
    have hkeep : Keeps (mask310 ||| 0x2000000) v3 v5.2 := .step (State.free_keeps _) rfl <| .step (State.free_keeps _) rfl <|
      .step (State.timeRestore_keeps _) rfl (.refl _ _)
    refine ⟨?_, State.flag_putFlag _ _ _ _ _ (by decide)⟩
    exact ((hkeep.steady rfl).phase).trans h3
  clear_value v6
  have h10 : v10.pow.phase = .s ∧ v10.flag F.MGT_STAT_ACTIVE = true := ⟨h6.1, by
    refine (State.flag_put_id _ _ _ _ _ _ (by decide)).trans ((State.flag_put_id _ _ _ _ _ _ (by decide)).trans h6.2)⟩
  clear_value v10
  have hsafe : v10.safetyCheck.pow.phase = .s := ((congrArg Pow.phase ((State.safetyCheck_keeps _).pow rfl))).trans h10.1
  have hend : Keeps (mask190 ||| mask67 ||| 0x100000) (v10.safetyCheck.rindSettle) (v10.safetyCheck.rindSettle.packRestart.tchBegin.chainStage) :=
    .step (State.chainStage_keeps _) rfl <| .step (State.tchBegin_keeps _) rfl <| .step (State.packRestart_keeps _) rfl (.refl _ _)
  refine ⟨?_, ?_⟩
  · exact ((hend.steady rfl).phase).trans (((State.rindSettle_steady _ _).phase).trans hsafe)
  · exact hend.flag_trans rfl <| (State.rindSettle_keeps _ _).flag_trans rfl <| (State.safetyCheck_keeps _).flag_trans rfl h10.2

theorem State.resetEnd_effect (h : s.pow.phase = .x) : s.resetEnd.pow.phase = .s ∧ s.resetEnd.flag F.MGT_STAT_ACTIVE = true ∧
    s.resetEnd.fld F.AON_CONN_STAT_MGT_NID = (1 + s.pow.nid) % 32 := by
  have heq : s.resetEnd = s.recsIn.leaveReset.recsOut := if_pos h
  have hout : Keeps mask4 s.recsIn.leaveReset s.resetEnd := heq ▸ State.recsOut_keeps _
  obtain ⟨hphase, hactive⟩ := State.leaveReset_effect s.recsIn
  exact ⟨((hout.steady rfl).phase).trans hphase, hout.flag_trans rfl hactive, hout.fld_trans rfl (State.leaveReset_nid s.recsIn)⟩

/-! ### The hold-up -/

/-- What the warning may change behind its two flags. -/
def warningMask : Nat := mask224 ||| mask247 ||| mask273 ||| mask67 ||| mask6 ||| partsMask [.rcd, .tim]

theorem State.auxWarning_effect (h : s.holdup = false) :
    s.auxWarning.flag F.AON_PIN_PHASE_HOLDUP = true ∧ s.auxWarning.flag F.AON_SUP_STAT_AUX_OK = false := by
  unfold State.auxWarning
  rw [if_neg (by simp [h])]
  extract_lets v1 v2 v3 v4 v5 v6 v7 v8 v9
  have h1 : v1.flag F.AON_PIN_PHASE_HOLDUP = true ∧ v1.flag F.AON_SUP_STAT_AUX_OK = false :=
    ⟨(State.flag_putFlag_id _ _ _ _ _ _ (by decide)).trans (State.flag_putFlag _ _ _ _ _ (by decide)), State.flag_putFlag _ _ _ _ _ (by decide)⟩
  clear_value v1
  have h4 : Keeps warningMask v1 v4 := .ite (fun _ => .setTim _ rfl (.refl _ _)) fun _ => .refl _ _
  clear_value v4
  have h5 : Keeps warningMask v1 v5 := .step (State.lastGasp_keeps _) rfl <| .step (State.timeWrite_keeps ..) rfl h4
  have h6 : Keeps warningMask v1 v6 := State.serviced_keeps rfl <| .step (State.chainSilent_keeps ..) rfl <|
    .step (State.coreShutdown_keeps ..) rfl <| .step (State.outputsOff_keeps ..) rfl h5
  clear_value v6
  have h9 : Keeps warningMask v1 v9 := .setRcd _ rfl id h6
  clear_value v9
  have hend : Keeps warningMask v1 v9.pd3On := .step (State.pd3On_keeps _) rfl h9
  exact ⟨hend.flag_trans rfl h1.1, hend.flag_trans rfl h1.2⟩

theorem State.holdupOver_effect (high : Bool) (h : s.holdup = true) : (s.holdupOver high).pow.phase = (if high then .x else .u) ∧
    (s.holdupOver high).rcd.queue = [] ∧ (s.holdupOver high).mgt.keys = s.mgt.keys := by
  rw [State.holdupOver_eq h]
  exact ⟨State.auxReset_phase .., State.auxReset_queue .., (State.auxReset_keys ..).trans s.holdupCut_sameStored.keys⟩

/-! ### The Inputs stage -/

/-- The stage that ends well releases the field outputs. -/
theorem State.inputsEnd_true_effect (h : s.rnd.waits = true) : (s.inputsEnd true).rnd.waits = false ∧
    (s.inputsEnd true).fld F.RND_STAT_STATE = (if s.rindSafe then s.fld F.RND_STAT_STATE else 1) ∧
    (s.inputsEnd true).flag F.AON_PIN_PHASE_FIELD_EN = (!s.pow.supHot && !s.holdup) := by
  unfold State.inputsEnd
  rw [if_pos h]
  extract_lets r1 s1 s2 s3
  have hsafe : s1.rindSafe = s.rindSafe := rfl
  have h2 : s1.Steady s2 ∧ s2.fld F.RND_STAT_STATE = (if s.rindSafe then s.fld F.RND_STAT_STATE else 1) ∧ s2.holdup = s.holdup ∧
      s2.rnd.failed = false := by
    unfold s2
    rw [hsafe]
    split
    · exact ⟨.refl _, rfl, rfl, rfl⟩
    · exact ⟨State.put_steady .., State.fld_put _ _ (by decide) _ _, State.flag_put_id _ _ _ _ _ _ (by decide), rfl⟩
  obtain ⟨hsteady, hstate, hhold, hfailed⟩ := h2
  have hsup : s2.pow.supHot = s.pow.supHot := hsteady.supHot
  have hwaits : s2.rnd.waits = false := hsteady.waits
  have h3 : Keeps (mask194 ||| 0x400000) s2 s3 := .step (State.setInhibit_keeps ..) rfl <| .step (State.fieldOff_keeps _) rfl (.refl _ _)
  have hne : s2.fld F.RND_STAT_STATE ≠ 0 := by
    rw [hstate]
    split
    next hs =>
      have : s.fld F.RND_STAT_STATE = 2 := by simpa [State.rindSafe] using hs
      omega
    next => decide
  have hfree : s3.fieldFree = (!s.pow.supHot && !s.holdup) := by
    have hrind : s3.rindFree = true := by simp [State.rindFree, h3.fld_eq (f := F.RND_STAT_STATE) rfl, h3.rnd rfl, hne, hwaits, hfailed]
    have hhold3 : s3.holdup = s.holdup := h3.flag_trans rfl hhold
    simp [State.fieldFree, hrind, hhold3, h3.pow rfl, hsup]
  have hstate3 : s3.fld F.RND_STAT_STATE = (if s.rindSafe then s.fld F.RND_STAT_STATE else 1) := h3.fld_trans rfl hstate
  have hwaits3 : s3.rnd.waits = false := by rw [h3.rnd rfl, hwaits]
  clear_value s3
  rw [if_pos rfl]
  have hend : Keeps (mask35 ||| mask293) (s3.putFlag F.AON_PIN_PHASE_FIELD_EN s3.fieldFree)
      ((s3.putFlag F.AON_PIN_PHASE_FIELD_EN s3.fieldFree).lenSettle).rindSettle :=
    .step (State.rindSettle_keeps ..) rfl <| .step (State.lenSettle_keeps _) rfl (.refl _ _)
  refine ⟨?_, ?_, ?_⟩
  · exact ((State.lenSettle_steady _).trans (State.rindSettle_steady _ _)).waits.trans hwaits3
  · exact hend.fld_trans rfl ((State.fld_putFlag_id _ _ _ _ _ _ (by decide)).trans hstate3)
  · exact hend.flag_trans rfl ((State.flag_putFlag _ _ _ _ _ (by decide)).trans hfree)

/-- A self-test that failed leaves the outputs off. -/
theorem State.inputsEnd_false_effect (h : s.rnd.waits = true) : (s.inputsEnd false).rnd.waits = false ∧
    (s.inputsEnd false).fld F.RND_STAT_STATE = s.fld F.RND_STAT_STATE ∧ (s.inputsEnd false).rnd.failed = true ∧
    (s.inputsEnd false).flag F.AON_PIN_PHASE_FIELD_EN = s.flag F.AON_PIN_PHASE_FIELD_EN := by
  unfold State.inputsEnd
  rw [if_pos h, if_neg (by decide)]
  have hev := State.rndEv_keeps { s with rnd := { s.rnd with waits := false, failed := !false } } 0x05 lHalt
  exact ⟨by rw [hev.rnd rfl], hev.fld_eq rfl, by rw [hev.rnd rfl]; rfl, hev.flag_eq rfl⟩

/-- The stage ends once. -/
theorem State.inputsEnd_again (ok : Bool) (h : s.rnd.waits = false) : s.inputsEnd ok = s := if_neg (by simp [h])

/-! ### The recorder's scan -/

theorem State.scanEnd_ready (h : s.flag F.AON_SVC_STAT_REC_READY = false) : s.scanEnd.flag F.AON_SVC_STAT_REC_READY = true := by
  unfold State.scanEnd State.scanDone
  rw [if_neg (by simp [h])]
  extract_lets v1 v2 v3 v4 v5 v6 v7 v8 v9 v10 v11 v12 v13 v14 v15 v16 v17 v18 v19 v20 v21
  have hev : Keeps mask3 (State.putFlag (State.scanWrite 65 (v8 ++ [v9]) v17) F.AON_SVC_STAT_REC_READY true) v18 :=
    .foldl _ (.refl _ _) fun _ _ k => .step (State.event_keeps ..) rfl k
  exact hev.flag_trans rfl (State.flag_putFlag _ _ _ _ _ (by decide))

end

/-! ### The statement -/

/-- Settles O1. -/
theorem auxPowerAndPhases : Obligations.AuxPowerAndPhases := by
  unfold Obligations.AuxPowerAndPhases
  refine ⟨fun s h => ⟨_, rfl, ?up⟩, fun s h => ⟨_, rfl, ?drop⟩, fun s h => ⟨_, rfl, State.resetEnd_effect h⟩,
    fun s hup h => ⟨_, rfl, ?warning⟩, fun s high h => ⟨_, rfl, State.holdupOver_effect high h⟩, fun s hup h => ⟨_, rfl, ?well⟩,
    fun s hup h => ⟨_, rfl, ?failed⟩, fun s ok hup h => ⟨_, rfl, ?again⟩, fun s hup h => ⟨_, rfl, ?scan⟩⟩
  case up =>
    rw [State.auxUp_eq h]
    exact ⟨State.auxReset_phase .., State.auxReset_pages .., State.auxReset_keys .., State.auxReset_store .., State.auxReset_queue ..,
      State.auxReset_mgtIdle ..⟩
  case drop =>
    rw [State.auxDrop_eq h]
    exact ⟨State.auxReset_phase .., State.auxReset_pages .., State.auxReset_keys .., State.auxReset_store ..⟩
  case warning =>
    have hout := State.offers_keeps_action (fun a => a.auxWarning) hup
    obtain ⟨hhold, haux⟩ := State.auxWarning_effect (s := s.recsIn) h
    exact ⟨hout.flag_trans rfl hhold, hout.flag_trans rfl haux⟩
  case well =>
    have hout := State.acts_keeps_action (fun a => a.inputsEnd true) hup
    obtain ⟨hwaits, hstate, hfield⟩ := State.inputsEnd_true_effect (s := s.recsIn) h
    exact ⟨(hout.steady rfl).waits.trans hwaits, hout.fld_trans rfl hstate, hout.flag_trans rfl hfield⟩
  case failed =>
    have hout := State.acts_keeps_action (fun a => a.inputsEnd false) hup
    obtain ⟨hwaits, hstate, hfailed, hfield⟩ := State.inputsEnd_false_effect (s := s.recsIn) h
    exact ⟨(hout.steady rfl).waits.trans hwaits, hout.fld_trans rfl hstate, (congrArg RindSt.failed (hout.rnd rfl)).trans hfailed,
      hout.flag_trans rfl hfield⟩
  case again =>
    have hout := State.acts_keeps_action (fun a => a.inputsEnd ok) hup
    rw [State.inputsEnd_again ok (s := s.recsIn) h] at hout
    exact ⟨hout.fld_eq rfl, hout.flag_eq rfl⟩
  case scan =>
    exact (State.offers_keeps_action (fun a => a.scanEnd) hup).flag_trans rfl (State.scanEnd_ready (s := s.recsIn) h)

end Sys2Proof.Machine

/-! PROOFS. A message alone in its tick: how its order is decided, and what its row leaves (05 R119, R120, 23 R609). -/
namespace Sys2Proof.Machine

/-! ### One order in step 5 -/

/-- An order that steps 1 to 4 of R120 leave alone, and that is no read. -/
structure Order.Decided (o : Order) : Prop where
  lease : leaseTyp (orderTyp o) = false
  read : readTyp (orderTyp o) = false

/-- What is done before the decision of an order: a WAKE latches its source (03 R69). -/
def State.sourced (s : State) : Order → State
  | .wake _ => s.wakeSrc 0
  | _ => s

theorem State.sourced_keeps (s : State) (o : Order) : Keeps mask223 s (s.sourced o) := by
  unfold State.sourced
  split
  · exact State.wakeSrc_keeps ..
  · exact .refl _ _

theorem State.sourced_preAns (s : State) (o : Order) (k : Nat) : (s.sourced o).preAns k o = s.preAns k o := by
  have hkeeps := s.sourced_keeps o
  have hhost : (s.sourced o).host k = s.host k := by
    unfold State.host
    rw [hkeeps.mgt rfl]
  exact State.preAns_congr (congrArg HostSt.feat hhost) (hkeeps.flag_eq rfl) o

section Steps
variable {s : State} {i : Item} (hdecided : i.f.order.Decided) (hstored : i.f.stored = none) (hpre : s.preAns i.f.host i.f.order = none)
include hdecided hstored hpre

theorem decideSteps_alone (hover : s.leaseOver = false) (hlost : s.lease.lost = false) :
    decideSteps s [i] = decideOrders (s.sourced i.f.order, []) [i] := by
  have hbefore : decidePre (s, []) i = (s.sourced i.f.order, []) := by
    unfold decidePre
    rw [hstored]
    change (match (s.sourced i.f.order).preAns i.f.host i.f.order with
      | some a => Work.say (s, []) (if a.status = 3 then s else s.sourced i.f.order) i a
      | none => (s.sourced i.f.order, [])) = _
    rw [State.sourced_preAns, hpre]
  have hlease : (s.sourced i.f.order).lease = s.lease := (s.sourced_keeps _).lease rfl
  have htim : (s.sourced i.f.order).tim = s.tim := (s.sourced_keeps _).tim rfl
  have hrun : (s.sourced i.f.order).leaseOver = false := by
    unfold State.leaseOver at hover ⊢
    rw [hlease, htim]
    exact hover
  simp [decideSteps, hbefore, live_sole hstored, decideRelease_other hdecided.lease,
    decideExpiry_running (w := (s.sourced i.f.order, [])) [i] hrun, decideClaims_other hdecided.lease,
    decideRenew_other hdecided.lease, State.leaseDefaults_kept (s := s.sourced i.f.order) (hlease ▸ hlost), hdecided.read]

end Steps

section One
variable {s : State} {f : Frame} (hdecided : f.order.Decided)
include hdecided

/-- An order that is admitted is the one candidate. -/
theorem decideOrders_alone {w : Work} (hadmit : s.admitAns f.host (s.isSteward f.host) f.order = none)
    (hcand : decideCand [s.cand ⟨0, f⟩] (s, []) (s.cand ⟨0, f⟩) = w) : decideOrders (s, []) [⟨0, f⟩] = w := by
  have hsame : (s.cand ⟨0, f⟩).i.f.order = f.order := rfl
  cases hlast : opensLast f.order <;>
    simp [decideOrders, decideAdmit, hdecided.lease, hdecided.read, hadmit, State.arbLast_sole, hsame, hlast, hcand]

end One

/-! ### One candidate -/

section Candidate
variable {c : Cand} {s : State}

/-- A close of the string beside which nothing opens it starts its sequence. -/
theorem stringOrder_alone (h : stringOrder false c.i.f.order = true) : opensString [c] = false := by
  have hother : stringOrder true c.i.f.order = false := by
    cases ho : c.i.f.order with
    | contactorCmd n close force =>
      rw [ho] at h
      cases close <;> simp [stringOrder] at h ⊢
    | _ => rfl
  simp [opensString, hother]

/-- A candidate that rule 1 refuses nothing is carried out for all that it names. -/
theorem decideCand_done {r : State × Ans} (hno : c.no = [])
    (hdo : s.orderDo c.i.f.host c.st (fun n => (c.askOf n).isSome) c.i.f.order = r) (hstatus : r.2.status ≠ 1) :
    decideCand [c] (s, []) c = (r.1, [(c.i.ix, r.2)]) := by
  have hgo : (c.asks.isEmpty || c.asks.any fun a => (c.askOf a.res).isSome) = true := by
    cases h : c.asks with
    | nil => rfl
    | cons a l => simp [Cand.askOf_isSome hno (a := a) (by simp [h])]
  have hbits : s.refusalBits c = s := by simp [State.refusalBits, hno]
  have hstring : (stringOrder false c.i.f.order && opensString [c]) = false := by
    cases h : stringOrder false c.i.f.order with
    | false => rfl
    | true => rw [stringOrder_alone h, Bool.and_false]
  simp only [Bool.and_eq_false_iff] at hstring
  rcases hstring with h | h <;>
    simp [decideCand, c.losses_sole, hgo, hbits, h, hdo, Cand.answer, hno, hstatus, Work.say]

/-- The answer to a candidate that rule 1 refuses. -/
def Cand.refusal (c : Cand) : Ans :=
  { status := 3, reason := if c.no.any (fun x => x.2 == 1) then 1 else 2, winner := 255, res := lowest (c.no.map (·.1)) }

/-- A candidate that rule 1 refuses all that it names is answered so, and not carried out. -/
theorem decideCand_refused (hall : ∀ a ∈ c.asks, c.no.any (fun x => x.1 == a.res) = true) (hasks : c.asks ≠ []) (hno : c.no ≠ [])
    (htyp : orderTyp c.i.f.order ≠ 4) : decideCand [c] (s, []) c = (s.refusalBits c, [(c.i.ix, c.refusal)]) := by
  have hgo : (c.asks.isEmpty || c.asks.any (fun a => (c.askOf a.res).isSome) || (orderTyp c.i.f.order == 4)) = false := by
    simp only [Bool.or_eq_false_iff, List.isEmpty_eq_false_iff, beq_eq_false_iff_ne]
    refine ⟨⟨hasks, ?_⟩, htyp⟩
    simp only [List.any_eq_false]
    intro a ha
    simp [Cand.askOf, hall a ha]
  simp [decideCand, c.losses_sole, hgo, Cand.answer, hno, Work.say, Cand.refusal]

end Candidate

/-- The candidate that an order makes is refused whatever rule 1 refuses it. -/
theorem State.cand_no_any {s : State} {i : Item} {a : Ask} {r : Nat} (ha : a ∈ (s.cand i).asks) (hr : s.ruleOne i.f.order a = some r) :
    (s.cand i).no.any (fun x => x.1 == a.res) = true := by
  refine List.any_eq_true.mpr ⟨(a.res, r), ?_, by simp⟩
  exact List.mem_filterMap.mpr ⟨a, ha, by simp [hr]⟩

theorem State.cand_no_of_free {s : State} {i : Item} (h : ∀ a ∈ (s.cand i).asks, s.ruleOne i.f.order a = none) : (s.cand i).no = [] := by
  refine List.filterMap_eq_nil_iff.mpr fun a ha => ?_
  rw [h a ha]
  rfl

/-! ### The row of a message -/

section Row
variable {s : State} {h : Hdr} {o : Order} {u : State} {a : Ans}

/-- The state in which the order of a message is decided. -/
def State.hearing (s : State) (h : Hdr) (o : Order) : State := (s.recsIn.heard h).sourced o

theorem State.hearing_keeps (s : State) (h : Hdr) (o : Order) : Keeps (heardMask ||| mask223) s.recsIn (s.hearing h o) :=
  .step (State.sourced_keeps ..) rfl ((s.recsIn.heard_keeps h).mono rfl)

/-- The decision of a message as it is heard. -/
def State.decides (s : State) (h : Hdr) (o : Order) (u : State) (a : Ans) : Prop :=
  decideOrders (s.hearing h o, []) [⟨0, s.recsIn.mailFrame h o⟩] = (u, [(0, a)])

/-- What its decision leaves, the row of a message leaves, and it answers as it was decided. -/
theorem State.acts_mail_decided (hh : s.hears h o) (hdecided : o.Decided) (hhello : orderTyp o ≠ 1) (hdec : s.decides h o u a) :
    Replied (s.recsIn.mailFrame h o) a u (s.acts fun b => b.mail h o) := by
  have hkeeps := s.recsIn.heard_keeps h
  have hsteps : decideSteps (s.recsIn.heard h) [⟨0, s.recsIn.mailFrame h o⟩] = (u, [(0, a)]) :=
    (decideSteps_alone (i := ⟨0, s.recsIn.mailFrame h o⟩) hdecided rfl ((s.recsIn.heard_preAns h o).trans hh.pre)
      ((s.recsIn.heard_leaseOver h).trans hh.lease) ((congrArg Lease.lost (hkeeps.lease rfl)).trans hh.kept)).trans hdec
  have hdecide : (s.recsIn.heard h).decide [s.recsIn.mailFrame h o] =
      (sendReply [(0, a)] u ⟨0, s.recsIn.mailFrame h o⟩).keysApply.powerSettle.gateSettle := by
    simp [State.decide, items, hsteps, helloApply_other (i := ⟨0, s.recsIn.mailFrame h o⟩) hhello]
  have hreplied : Replied (s.recsIn.mailFrame h o) a u (s.recsIn.mail h o) := by
    rw [State.mail_of_hears hh.recsIn, hdecide]
    exact ((sendReply_sole rfl).step rfl rfl (State.powerSettle_keeps _)).step rfl rfl (State.gateSettle_keeps _)
  exact hreplied.step rfl rfl (State.acts_keeps_action (fun b => b.mail h o) hh.up)

theorem State.hearing_nodeUp (hh : s.hears h o) : (s.hearing h o).nodeUp = true :=
  ((s.hearing_keeps h o).nodeUp rfl rfl rfl).trans hh.node

theorem State.hearing_txq (s : State) (h : Hdr) (o : Order) : (s.hearing h o).mgt.txq = [] :=
  ((State.sourced_keeps _ o).txq rfl).trans (s.recsIn.heard_txq h)

/-- The row of a message that is heard, and whose order leaves the node up: its answer, and all that the decision left but what the
reply changes. -/
theorem State.acts_mail_answers (hh : s.hears h o) (hdecided : o.Decided) (hhello : orderTyp o ≠ 1) (hdec : s.decides h o u a)
    (hnode : u.nodeUp = true) (htxq : u.mgt.txq = []) :
    (s.acts fun b => b.mail h o).answers h a.status a.reason ∧ Keeps afterReplyMask u (s.acts fun b => b.mail h o) := by
  have hreplied := State.acts_mail_decided hh hdecided hhello hdec
  exact ⟨hreplied.answers hnode htxq, hreplied.keeps⟩

/-- Nothing of the mask touches the node and its replies. -/
def leavesNode (M : Nat) : Bool := !M.testBit 0 && !M.testBit 26 && !M.testBit 31 && !M.testBit (32 + F.MGT_STAT_ACTIVE.id)

theorem State.acts_mail_quiet {M : Nat} (hh : s.hears h o) (hdecided : o.Decided) (hhello : orderTyp o ≠ 1) (hdec : s.decides h o u a)
    (hdone : Keeps M (s.hearing h o) u) (hM : leavesNode M = true) :
    (s.acts fun b => b.mail h o).answers h a.status a.reason ∧ Keeps afterReplyMask u (s.acts fun b => b.mail h o) := by
  simp only [leavesNode, Bool.and_eq_true, Bool.not_eq_true'] at hM
  obtain ⟨⟨⟨hpow, hmail⟩, hall⟩, hactive⟩ := hM
  exact State.acts_mail_answers hh hdecided hhello hdec ((hdone.nodeUp hall hactive hpow).trans (State.hearing_nodeUp hh))
    ((hdone.txq hmail).trans (s.hearing_txq h o))

theorem State.hearing_isSteward (s : State) (h : Hdr) (o : Order) (k : Nat) : (s.hearing h o).isSteward k = s.isSteward k := by
  unfold State.isSteward
  rw [(s.hearing_keeps h o).lease rfl]
  rfl

/-- What a message asks for as it is decided. -/
def State.named (s : State) (h : Hdr) (o : Order) : List Ask := (s.hearing h o).asks h.host (s.isSteward h.host) o

/-- The asks name a resource. -/
def names (l : List Ask) (n : Nat) : Bool := l.any fun a => a.res == n

theorem Cand.askOf_of_free {c : Cand} (hno : c.no = []) (n : Nat) : (c.askOf n).isSome = names c.asks n := by
  rw [Bool.eq_iff_iff]
  simp [Cand.askOf, hno, names]

theorem State.cand_asks (s : State) (h : Hdr) (o : Order) :
    ((s.hearing h o).cand ⟨0, s.recsIn.mailFrame h o⟩).asks = s.named h o := by
  unfold State.named
  rw [← s.hearing_isSteward h o]
  rfl

/-- An order that is admitted, and that rule 1 refuses nothing, is carried out. -/
theorem State.decides_done (hdecided : o.Decided)
    (hadmit : (s.hearing h o).admitAns h.host (s.isSteward h.host) o = none)
    (hfree : ∀ x ∈ s.named h o, (s.hearing h o).ruleOne o x = none)
    (hdo : (s.hearing h o).orderDo h.host (s.isSteward h.host) (names (s.named h o)) o = (u, a)) (hstatus : a.status ≠ 1) :
    s.decides h o u a := by
  have hst := s.hearing_isSteward h o h.host
  have hno : ((s.hearing h o).cand ⟨0, s.recsIn.mailFrame h o⟩).no = [] :=
    State.cand_no_of_free fun x hx => hfree x (s.cand_asks h o ▸ hx)
  refine decideOrders_alone (f := s.recsIn.mailFrame h o) hdecided (hst ▸ hadmit) (decideCand_done (r := (u, a)) hno ?_ hstatus)
  have hwon : (fun n => (((s.hearing h o).cand ⟨0, s.recsIn.mailFrame h o⟩).askOf n).isSome) = names (s.named h o) := by
    funext n
    rw [Cand.askOf_of_free hno, s.cand_asks]
  rw [hwon]
  exact (congrArg (fun st => (s.hearing h o).orderDo h.host st _ o) hst).trans hdo

/-- An order that is admitted, and that rule 1 refuses all that it names, is refused. -/
theorem State.decides_refused (hdecided : o.Decided) (htyp : orderTyp o ≠ 4)
    (hadmit : (s.hearing h o).admitAns h.host (s.isSteward h.host) o = none) (hasks : s.named h o ≠ [])
    (hall : ∀ x ∈ s.named h o, ((s.hearing h o).ruleOne o x).isSome = true) :
    s.decides h o ((s.hearing h o).refusalBits ((s.hearing h o).cand ⟨0, s.recsIn.mailFrame h o⟩))
      ((s.hearing h o).cand ⟨0, s.recsIn.mailFrame h o⟩).refusal := by
  have hst := s.hearing_isSteward h o h.host
  refine decideOrders_alone (f := s.recsIn.mailFrame h o) hdecided (hst ▸ hadmit) (decideCand_refused ?_ ?_ ?_ htyp)
  · intro x hx
    obtain ⟨r, hr⟩ := Option.isSome_iff_exists.mp (hall x (s.cand_asks h o ▸ hx))
    exact State.cand_no_any hx hr
  · exact fun he => hasks ((s.cand_asks h o).symm.trans he)
  · intro he
    obtain ⟨x, hx⟩ := List.exists_mem_of_ne_nil _ hasks
    obtain ⟨r, hr⟩ := Option.isSome_iff_exists.mp (hall x hx)
    have hany := State.cand_no_any (i := ⟨0, s.recsIn.mailFrame h o⟩) ((s.cand_asks h o).symm ▸ hx) hr
    rw [he] at hany
    exact absurd hany (by simp)

/-- An order that is not admitted is answered, and does nothing. -/
theorem State.decides_turned {a : Ans} (hplain : o.Plain)
    (hadmit : (s.hearing h o).admitAns h.host (s.isSteward h.host) o = some a) : s.decides h o (s.hearing h o) a :=
  decideOrders_refused (i := ⟨0, s.recsIn.mailFrame h o⟩) hplain (s.hearing_isSteward h o h.host ▸ hadmit)

end Row

end Sys2Proof.Machine

/-! PROOFS. Orders to outputs: contactors, load switches, loops, and the acknowledgement of their block (18 R482 to R498, 19 R502 to
R509, 21 R561). -/
namespace Sys2Proof.Machine

section
variable {s : State} {h : Hdr} {o : Order}

/-- What the state in which an order is decided may hold other than the state that it comes to. -/
abbrev hearMask : Nat := heardMask ||| mask223

/-! ### Who may give an order -/

theorem State.hearing_right (f : RField) (n : Nat) (hf : Sys2Proof.Machine.spares hearMask f = true) :
    (s.hearing h o).bit f n h.host = s.bit f n h.host := (s.hearing_keeps h o).bit_eq hf

theorem State.hearing_supHeld (s : State) (h : Hdr) (o : Order) : (s.hearing h o).supHeld = s.supHeld := by
  unfold State.supHeld
  rw [(s.hearing_keeps h o).pow rfl]
  rfl

/-! ### Contactors: admission -/

theorem contactor_decided (c : Nat) (close force : Bool) : (Order.contactorCmd c close force).Decided := ⟨rfl, rfl⟩

theorem mkContactor_eq (m : Nat) (c : Fin 4) (close force : Bool) :
    mkContactor m c (b2n close) force = .contactorCmd c close (force && decide (1 ≤ m)) := by
  have hbounds : c.val ≤ 3 ∧ b2n close ≤ 1 := ⟨by omega, by cases close <;> decide⟩
  unfold mkContactor
  rw [if_pos hbounds]
  cases close <;> rfl

theorem State.admit_contactor {c : Fin 4} {close force : Bool} (hright : s.isSteward h.host = true ∨ s.bit F.MGT_RIGHTS_CT c h.host = true)
    (hchain : close = true → s.flag F.AON_SVC_STAT_CHAIN_READY = true) :
    (s.hearing h o).admitAns h.host (s.isSteward h.host) (.contactorCmd c close force) = none := by
  have hkeeps := s.hearing_keeps h o
  have hmay : (!s.isSteward h.host && !(s.hearing h o).hasRight h.host (.contactorCmd c close force)) = false := by
    rcases hright with hs | hr
    · simp [hs]
    · have hbit : (s.hearing h o).hasRight h.host (.contactorCmd c close force) = true := (State.hearing_right F.MGT_RIGHTS_CT c rfl).trans hr
      simp [hbit]
  have hstage : (s.hearing h o).stageBusy (.contactorCmd c close force) = false := by
    cases close with
    | false => rfl
    | true => simp [State.stageBusy, hkeeps.flag_trans rfl (hchain rfl)]
  simp [State.admitAns, hmay, hstage, stewardTyp, orderTyp]

/-- Rule 1 looks at the closes of contactors alone. -/
theorem State.ruleOne_contactor (b : State) (o : Order) {a : Ask} (hlo : 0x20 ≤ a.res) (hhi : a.res < 0x24) :
    b.ruleOne o a = if a.rank = 1 then b.closeForbidden (a.res - 0x20) else none := by
  unfold State.ruleOne
  rw [if_neg (by omega), if_neg (by omega)]
  exact if_pos ⟨hlo, hhi⟩

theorem State.ruleOne_open (b : State) (o : Order) {c : Nat} (hc : c < 4) (p : List Nat) : b.ruleOne o ⟨0x20 + c, 0, p⟩ = none := by
  rw [State.ruleOne_contactor b o (by simp) (by simp; omega)]
  rfl

theorem State.ruleOne_close (b : State) (o : Order) {c : Nat} (hc : c < 4) (p : List Nat) :
    b.ruleOne o ⟨0x20 + c, 1, p⟩ = b.closeForbidden c := by
  rw [State.ruleOne_contactor b o (by simp) (by simp; omega)]
  simp

/-- The row of an order to open a contactor: the order is carried out, and answered OK. -/
theorem exec_contactor_open {c : Fin 4} {force : Bool} (hh : s.hears h (mkContactor (s.minorFor h) c 0 force))
    (hright : s.isSteward h.host = true ∨ s.bit F.MGT_RIGHTS_CT c h.host = true) :
    ∃ t b, exec (.contactorCmd h c false force) s = .next t ∧ t.answers h 0 0 ∧ Keeps hearMask s.recsIn b ∧
      Keeps afterReplyMask (b.openOrder c (force && decide (1 ≤ s.minorFor h) && s.isSteward h.host)) t := by
  have horder := mkContactor_eq (s.minorFor h) c false force
  obtain ⟨x, hx⟩ : ∃ x, x = (force && decide (1 ≤ s.minorFor h)) := ⟨_, rfl⟩
  rw [← hx] at horder ⊢
  rw [show (0 : Nat) = b2n false from rfl, horder] at hh
  have hdec : s.decides h (.contactorCmd c false x) ((s.hearing h (.contactorCmd c false x)).openOrder c (x && s.isSteward h.host)) {} :=
    State.decides_done (contactor_decided ..) (State.admit_contactor hright (fun e => Bool.noConfusion e))
      (fun a ha => List.mem_singleton.mp ha ▸ State.ruleOne_open _ _ c.isLt _) rfl (by decide)
  obtain ⟨hans, hkeeps⟩ := State.acts_mail_quiet hh (contactor_decided ..) (by simp [orderTyp]) hdec (State.openOrder_keeps ..) rfl
  refine ⟨_, _, ?_, hans, s.hearing_keeps h _, hkeeps⟩
  rw [← horder]
  rfl

/-! ### What an order to open does -/

theorem State.openOrder_ctx (b : State) (force : Bool) : (b.openOrder 3 force).coil 3 = false :=
  State.openCoils_coil _ 8 _ (by decide) rfl

theorem StringOpen.coil {t : State} (ht : StringOpen t) (k : Fin 3) : t.coil k = false := by
  match k with
  | 0 => exact ht.ctp
  | 1 => exact ht.ctn
  | 2 => exact ht.ctc

theorem State.openOrder_forced (b : State) {c : Nat} (hc : c < 3) : StringOpen (b.openOrder c true) := by
  have heq : b.openOrder c true = b.isolate 2 := (if_neg (by omega)).trans (if_pos rfl)
  rw [heq]
  exact (State.isolate_opens ..).1

theorem State.waitTick_low {b : State} {cause at_ : Nat} (hwait : b.ctr.wait = some (cause, at_))
    (hlow : b.pack.iMean.natAbs ≤ 1000 * b.est.lim.breakLim) : b.waitTick = b.isolate cause b.ctr.waitFid := by
  unfold State.waitTick
  rw [hwait]
  exact if_pos hlow

theorem State.waitTick_waits {b : State} {cause : Nat} (hwait : b.ctr.wait = some (cause, b.tim.optime))
    (hhigh : 1000 * b.est.lim.breakLim < b.pack.iMean.natAbs) (hbrk : b.est.lim.brkWait ≠ 0) : b.waitTick = b := by
  unfold State.waitTick
  rw [hwait]
  exact (if_neg (by omega)).trans (if_neg (by omega))

/-- An order to open the string of a connected pack begins its break wait. -/
theorem State.openOrder_connected {b : State} {c : Nat} (hc : c < 3) (hseq : b.seq = 7) :
    (b.pack.iMean.natAbs ≤ 1000 * b.est.lim.breakLim → StringOpen (b.openOrder c false)) ∧
    (1000 * b.est.lim.breakLim < b.pack.iMean.natAbs → b.est.lim.brkWait ≠ 0 →
      (b.openOrder c false).seq = 8 ∧ (b.openOrder c false).ctr.wait = some (1, b.tim.optime) ∧
      ∀ k, (b.openOrder c false).coil k = b.coil k) := by
  have heq : b.openOrder c false = (b.isolateWait 1).waitTick := (if_neg (by omega)).trans (if_neg (by decide))
  have hbegun : b.isolateWait 1 = State.put { b with ctr := { b.ctr with wait := some (1, b.tim.optime), waitFid := 0, closeDue := false } }
      F.CTR_STAT_SEQ 8 := if_pos hseq
  have hwait : (b.isolateWait 1).ctr.wait = some (1, b.tim.optime) := congrArg (·.ctr.wait) hbegun
  have hkeeps : Keeps mask87 b (b.isolateWait 1) := State.isolateWait_keeps ..
  have hest : (b.isolateWait 1).est = b.est := congrArg (·.est) hbegun
  have hpack : (b.isolateWait 1).pack = b.pack := hkeeps.pack rfl
  rw [heq]
  refine ⟨fun hlow => ?_, fun hhigh hbrk => ?_⟩
  · rw [State.waitTick_low hwait (by rw [hest, hpack]; exact hlow)]
    exact (State.isolate_opens ..).1
  · have htim : (b.isolateWait 1).tim = b.tim := congrArg (·.tim) hbegun
    rw [State.waitTick_waits (htim ▸ hwait) (by rw [hest, hpack]; exact hhigh) (by rw [hest]; exact hbrk), hbegun]
    exact ⟨State.fld_put_same .., rfl, fun k => State.bit_put_id _ _ _ _ _ _ _ (by decide)⟩

/-! ### A close of the string -/

/-- What a close reads stays as its frame is heard. -/
theorem State.hearing_closeRefusal (s : State) (h : Hdr) (o : Order) (c : Nat) : (s.hearing h o).closeRefusal c = s.closeRefusal c := by
  have k := s.hearing_keeps h o
  have hsamp : ∀ n, (s.hearing h o).samp n = s.samp n := fun n => k.fld_eq rfl
  have hcell : ∀ n, (s.hearing h o).fld F.HRD_CELL_WORD n = s.fld F.HRD_CELL_WORD n := fun n => k.fld_eq rfl
  have hherd : (s.hearing h o).herd = s.herd := k.herd rfl
  have hrnd : (s.hearing h o).rnd = s.rnd := k.rnd rfl
  have hctr : (s.hearing h o).ctr = s.ctr := k.ctr rfl
  have hfunc : (s.hearing h o).funcHeld 2 = s.funcHeld 2 := by
    unfold State.funcHeld
    rw [k.bit_eq rfl, hrnd]
    rfl
  have hvolts : (s.hearing h o).voltsOk = s.voltsOk := by
    unfold State.voltsOk State.cellsValid State.cellSum State.vPack State.addrList
    simp only [hsamp, hcell, hherd]
  have hverdict : (s.hearing h o).closeVerdict = s.closeVerdict := by
    unfold State.closeVerdict
    rw [k.fld_eq (f := F.EST_COND_ACT_ACT) rfl, k.flag_eq (f := F.EST_DISC_HARD_LATCH) rfl]
    rfl
  have hforbidden : (s.hearing h o).closeForbidden c = s.closeForbidden c := by
    unfold State.closeForbidden State.isoDemand
    rw [s.hearing_supHeld h o, hfunc, hverdict, hctr, k.fld_eq (f := F.RND_STAT_STATE) rfl, k.flag_eq (f := F.CTR_CFG_X_ISO) rfl]
    rfl
  have hseq : (s.hearing h o).seq = s.seq := k.fld_eq rfl
  unfold State.closeRefusal State.seqRuns
  rw [hforbidden, hvolts, hseq, k.flag_eq (f := F.AON_CONN_STAT_BJL_PRES) rfl, k.flag_eq (f := F.AON_CONN_STAT_HPRES) rfl,
    k.flag_eq (f := F.CTR_STAT_WELD_LATCH) rfl, k.flag_eq (f := F.CTR_STAT_PC_LOCK) rfl, k.flag_eq (f := F.CTR_STAT_COOL) rfl]
  rfl

theorem State.closeForbidden_of_refusal {b : State} {c : Nat} (hfree : b.closeRefusal c = none) : b.closeForbidden c = none := by
  cases he : b.closeForbidden c with
  | none => rfl
  | some r =>
    unfold State.closeRefusal at hfree
    simp [he] at hfree

/-- The start of the sequence energises CTC. -/
theorem State.seqStart_effect {b : State} (haux : b.fld F.CTR_STAT_AUX = 0) :
    b.seqStart.seq = 1 ∧ b.seqStart.coil 2 = true ∧ b.seqStart.ctr.start = b.tim.optime := by
  unfold State.seqStart
  extract_lets skip c0 c s1
  have haux1 : s1.fld F.CTR_STAT_AUX = 0 := (State.fld_putFlag_id _ _ _ _ _ _ (by decide)).trans haux
  have hstart : s1.ctr.start = b.tim.optime := rfl
  clear_value s1
  rw [if_pos haux1]
  refine ⟨(State.energise_keeps ..).fld_trans rfl (State.fld_put_same ..), ?_, ?_⟩
  · unfold State.energise
    extract_lets f s2
    rw [State.setCoilI_keeps_coil]
    exact State.bit_putBitOf_same _ _ _ _ (by decide)
  · exact hstart

theorem State.closeOrder_starts {b : State} {c : Nat} (hc : c < 3) (hseq : b.seq = 0) (hon : b.dom 4 = .on) (haux : b.fld F.CTR_STAT_AUX = 0) :
    (b.closeOrder c).seq = 1 ∧ (b.closeOrder c).coil 2 = true ∧ (b.closeOrder c).ctr.start = b.tim.optime := by
  unfold State.closeOrder
  rw [if_neg (by omega), if_neg (by simp [State.seqRuns, hseq])]
  extract_lets c0 s1
  have hon1 : s1.dom 4 = .on := hon
  rw [if_pos hon1]
  exact State.seqStart_effect (b := s1) haux

/-! ### Load switches -/

theorem lswCmd_decided (n : Nat) (on cfg : Bool) (ilim blank : Nat) : (Order.lswCmd n on cfg ilim blank).Decided := ⟨rfl, rfl⟩

theorem State.admit_lswCmd {n : Fin 16} {on cfg : Bool} {ilim blank : Nat}
    (hright : s.isSteward h.host = true ∨ s.bit F.MGT_RIGHTS_LSW n h.host = true)
    (hstage : on = true → s.flag F.AON_PIN_PHASE_FIELD_EN = true ∨ s.supHeld = true) :
    (s.hearing h o).admitAns h.host (s.isSteward h.host) (.lswCmd n on cfg ilim blank) = none := by
  have hmay : (!s.isSteward h.host && !(s.hearing h o).hasRight h.host (.lswCmd n on cfg ilim blank)) = false := by
    rcases hright with hs | hr
    · simp [hs]
    · have hbit : (s.hearing h o).hasRight h.host (.lswCmd n on cfg ilim blank) = true := (State.hearing_right F.MGT_RIGHTS_LSW n rfl).trans hr
      simp [hbit]
  have hready : (s.hearing h o).stageBusy (.lswCmd n on cfg ilim blank) = false := by
    unfold State.stageBusy
    cases on with
    | false => rfl
    | true =>
      rcases hstage rfl with hen | hsup
      · simp [(s.hearing_keeps h o).flag_trans rfl hen]
      · simp [s.hearing_supHeld h o, hsup]
  simp [State.admitAns, hmay, hready, stewardTyp, orderTyp]

/-- The body of a LSW_CMD row that is heard. -/
theorem exec_lswCmd_eq {h : Hdr} {n : Fin 16} {on cfg : Bool} {ilim : BitVec 16} {blank : Byte} {o : Order}
    (horder : mkLsw (s.minorFor h) n (b2n on) cfg ilim.toNat blank.toNat = o) :
    exec (.lswCmd h n on cfg ilim blank) s = .next (s.acts fun a => a.mail h o) := by
  subst horder
  rfl

theorem State.ruleOne_lsw_off (b : State) (o : Order) (n : Fin 16) (p : List Nat) : b.ruleOne o ⟨n, 0, p⟩ = none := by
  rw [State.ruleOne_switch n.isLt]
  rfl

theorem State.hearing_lswHeld (s : State) (h : Hdr) (o : Order) (n : Nat) : (s.hearing h o).lswHeld n = s.lswHeld n := by
  unfold State.lswHeld
  rw [(s.hearing_keeps h o).bit_eq rfl, (s.hearing_keeps h o).rnd rfl]
  rfl

/-- An off-order switches its switch off, and no other. -/
theorem State.lswOrder_off_others (b : State) (n : Fin 16) (cfg : Option (Nat × Nat)) (k : Fin 16) :
    (b.lswOrder n false cfg).lswOn k = (b.lswOn k && k != n) := by
  have hoff : ∀ x : State, (x.lswOff (2 ^ n.val)).lswOn k = (x.lswOn k && k != n) := by
    intro x
    have hput : (x.lswOff (2 ^ n.val)).lswOn k = (x.put F.LSW_STAT_ON (maskOf 16 fun m => x.lswOn m && !hasBit (2 ^ n.val) m)).lswOn k := rfl
    have hne : (!hasBit (2 ^ n.val) k) = (k != n) := by
      rw [hasBit_eq_testBit, Nat.testBit_two_pow]
      by_cases hk : k = n
      · simp [hk]
      · have hval : n.val ≠ k.val := fun e => hk (Fin.ext e.symm)
        simp [hk, hval]
    rw [hput, State.lswOn, State.bit_put _ _ _ _ _ k.isLt, hasBit_maskOf, hne]
    simp
  cases cfg with
  | none => exact hoff b
  | some c => exact (hoff _).trans (congrArg (· && k != n) ((State.lswCfg_keeps b n c.1 c.2).bit_eq rfl))

/-- An on-order with a configuration. -/
theorem State.lswOrder_on_effect {b : State} (n : Fin 16) (ilim blank : Nat) (hoff : b.lswOn n = false)
    (huv : b.flag F.LSW_SUP_STAT_VFLD_UV = false) :
    (b.lswOrder n true (some (ilim, blank))).lswOn n = true ∧ (b.lswOrder n true (some (ilim, blank))).bit F.LSW_STAT_LATCHED n = false ∧
    (b.lswOrder n true (some (ilim, blank))).fld F.LSW_CFG_ILIM n = clampN 2 (if n.val < 8 then 40 else 120) ilim ∧
    (b.lswOrder n true (some (ilim, blank))).fld F.LSW_CFG_BLANK n = min 100 blank := by
  have hilim : (b.lswCfg n ilim blank).fld F.LSW_CFG_ILIM n = clampN 2 (if n.val < 8 then 40 else 120) ilim := by
    have hlt : clampN 2 (if n.val < 8 then 40 else 120) ilim < 2 ^ F.LSW_CFG_ILIM.width := by
      show _ < 128
      unfold clampN
      split_ifs <;> omega
    exact (State.fld_put_id _ _ _ _ _ _ (by decide)).trans (State.fld_put _ _ hlt _ _)
  have hblank : (b.lswCfg n ilim blank).fld F.LSW_CFG_BLANK n = min 100 blank :=
    State.fld_put _ _ (show min 100 blank < 128 by omega) _ _
  have hcfg := State.lswCfg_keeps b n ilim blank
  have hdecide := State.lswDecide_keeps (b.lswCfg n ilim blank) n
  have heq : b.lswOrder n true (some (ilim, blank)) = ((b.lswCfg n ilim blank).lswDecide n).lswStart n := by
    have hoff' : ((b.lswCfg n ilim blank).lswDecide n).lswOn n = false := hdecide.bit_trans rfl (hcfg.bit_trans rfl hoff)
    have huv' : ((b.lswCfg n ilim blank).lswDecide n).flag F.LSW_SUP_STAT_VFLD_UV = false := hdecide.flag_trans rfl (hcfg.flag_trans rfl huv)
    unfold State.lswOrder
    simp [hoff', huv']
  have hstart := State.lswStart_keeps ((b.lswCfg n ilim blank).lswDecide n) n
  rw [heq]
  refine ⟨State.lswStart_lswOn n.isLt, hstart.bit_trans rfl ?_, hstart.fld_trans rfl (hdecide.fld_trans rfl hilim),
    hstart.fld_trans rfl (hdecide.fld_trans rfl hblank)⟩
  exact State.bit_putBitOf_same _ _ _ _ n.isLt

/-! ### Refusals of rule 1 -/

/-- The refusal of an order that names one resource. -/
theorem State.refusal_one {x : Ask} (hasks : s.named h o = [x]) (hrule : (s.hearing h o).ruleOne o x = some 2) :
    ((s.hearing h o).cand ⟨0, s.recsIn.mailFrame h o⟩).refusal.status = 3 ∧
    ((s.hearing h o).cand ⟨0, s.recsIn.mailFrame h o⟩).refusal.reason = 2 := by
  have hno : ((s.hearing h o).cand ⟨0, s.recsIn.mailFrame h o⟩).no = [(x.res, 2)] := by
    change (((s.hearing h o).cand ⟨0, s.recsIn.mailFrame h o⟩).asks.filterMap fun a => ((s.hearing h o).ruleOne o a).map fun r => (a.res, r)) = _
    rw [s.cand_asks, hasks]
    simp [hrule]
  simp [Cand.refusal, hno]

/-- An order that names one resource, and that the supervisor's junction limit refuses, does nothing (05 R121). -/
theorem State.acts_mail_limited {x : Ask} (hh : s.hears h o) (hdecided : o.Decided) (hhello : orderTyp o ≠ 1) (htyp : orderTyp o ≠ 4)
    (hadmit : (s.hearing h o).admitAns h.host (s.isSteward h.host) o = none) (hasks : s.named h o = [x])
    (hrule : (s.hearing h o).ruleOne o x = some 2) :
    (s.acts fun a => a.mail h o).answers h 3 2 ∧ Keeps (hearMask ||| mask32 ||| afterReplyMask) s.recsIn (s.acts fun a => a.mail h o) := by
  obtain ⟨hstatus, hreason⟩ := State.refusal_one hasks hrule
  have hdec := State.decides_refused hdecided htyp hadmit (by rw [hasks]; simp)
    (fun y hy => by
      rw [hasks] at hy
      rw [List.mem_singleton.mp hy, hrule]
      rfl)
  obtain ⟨hans, hkeeps⟩ := State.acts_mail_quiet hh hdecided hhello hdec (State.refusalBits_keeps ..) rfl
  rw [hstatus, hreason] at hans
  exact ⟨hans, .step hkeeps rfl <| .step (State.refusalBits_keeps ..) rfl ((s.hearing_keeps h o).mono rfl)⟩

/-! ### Loops -/

theorem loopSet_decided (n ua : Nat) : (Order.loopSet n ua).Decided := ⟨rfl, rfl⟩

theorem exec_loopSet_eq (s : State) (h : Hdr) (n : Fin 4) (ua : BitVec 32) :
    exec (.loopSet h n ua) s = .next (s.acts fun a => a.mail h (.loopSet n ua.toNat)) := by
  have horder : mkLoop n ua.toNat = .loopSet n ua.toNat := if_pos (by omega)
  rw [← horder]
  rfl

theorem State.admit_loopSet {n : Fin 4} {ua : Nat}
    (hright : s.isSteward h.host = true ∨ s.bit F.MGT_RIGHTS_LOOP n h.host = true)
    (hstage : s.flag F.AON_PIN_PHASE_FIELD_EN = true ∨ s.supHeld = true) :
    (s.hearing h o).admitAns h.host (s.isSteward h.host) (.loopSet n ua) = none := by
  have hmay : (!s.isSteward h.host && !(s.hearing h o).hasRight h.host (.loopSet n ua)) = false := by
    rcases hright with hs | hr
    · simp [hs]
    · have hbit : (s.hearing h o).hasRight h.host (.loopSet n ua) = true := (State.hearing_right F.MGT_RIGHTS_LOOP n rfl).trans hr
      simp [hbit]
  have hready : (s.hearing h o).stageBusy (.loopSet n ua) = false := by
    unfold State.stageBusy
    rcases hstage with hen | hsup
    · simp [(s.hearing_keeps h o).flag_trans rfl hen]
    · simp [s.hearing_supHeld h o, hsup]
  simp [State.admitAns, hmay, hready, stewardTyp, orderTyp]

theorem State.ruleOne_loop (b : State) (o : Order) (n : Fin 4) (ua : Nat) (p : List Nat) :
    b.ruleOne o ⟨0x10 + n, ua, p⟩ = if b.supHeld then some 2 else none := by
  unfold State.ruleOne
  rw [if_neg (by simp)]
  exact if_pos (by simp; omega)

theorem State.loopSet_effect (b : State) (n : Fin 4) (ua : Nat) :
    (b.loopSet n ua).fld F.LOOP_CMD_CMD n = min 24000 ua ∧ (b.loopSet n ua).bit F.LOOP_STAT_FALLBACK n = false := by
  unfold State.loopSet
  extract_lets s1 s2
  have hcmd : s1.fld F.LOOP_CMD_CMD n = min 24000 ua := State.fld_put _ _ (show min 24000 ua < 65536 by omega) _ _
  clear_value s1
  have h2 : s2.fld F.LOOP_CMD_CMD n = min 24000 ua ∧ s2.bit F.LOOP_STAT_FALLBACK n = false := by
    unfold s2
    split
    · exact ⟨(State.fld_put_id _ _ _ _ _ _ (by decide)).trans ((State.fld_put_id _ _ _ _ _ _ (by decide)).trans hcmd),
        (State.bit_putBitOf_id _ _ _ _ _ _ _ _ (by decide)).trans (State.bit_putBitOf_same _ _ _ _ (show n.val < 4 from n.isLt))⟩
    · next hno => exact ⟨hcmd, Bool.eq_false_iff.mpr hno⟩
  exact ⟨(State.loopRestart_keeps ..).fld_trans rfl h2.1, (State.loopRestart_keeps ..).bit_trans rfl h2.2⟩

/-! ### Acknowledgements -/

theorem faultAck_decided (c i : Nat) : (Order.faultAck c i).Decided := ⟨rfl, rfl⟩

theorem State.admit_faultAck {c i : Nat} (hst : s.isSteward h.host = true) (hexists : (s.hearing h o).blockExists c i = true) :
    (s.hearing h o).admitAns h.host (s.isSteward h.host) (.faultAck c i) = none := by
  simp [State.admitAns, hst, State.stageBusy, hexists]

/-- The acknowledgement of the contactor block clears its latches. -/
theorem State.faultAck_ctr {b : State} (hmay : b.flag F.CTR_EVT_DOUBLE_WELD = false ∨ b.iNow.natAbs ≤ 2000) :
    ∃ u, b.faultAck bCTR 0 = some u ∧ Keeps (mask106 ||| mask324) b u ∧ u.flag F.CTR_STAT_WELD_LATCH = false ∧
      u.flag F.CTR_STAT_PC_LOCK = false := by
  have hfree : (b.flag F.CTR_EVT_DOUBLE_WELD && Decidable.decide (2000 < b.iNow.natAbs)) = false := by
    rcases hmay with hw | hi
    · simp [hw]
    · simp [hi]
  have hack : b.ctrAck = some { ((b.putFlag F.CTR_STAT_WELD_LATCH false).putFlag F.CTR_STAT_PC_LOCK false) with
      ctr := { b.ctr with dw := false } } := by
    unfold State.ctrAck
    rw [hfree]
    rfl
  have hkeeps := State.ctrAck_keeps b
  rw [hack] at hkeeps
  generalize hu : ({ ((b.putFlag F.CTR_STAT_WELD_LATCH false).putFlag F.CTR_STAT_PC_LOCK false) with
      ctr := { b.ctr with dw := false } } : State) = u at hack hkeeps
  have hweld : u.flag F.CTR_STAT_WELD_LATCH = false := by
    rw [← hu]
    exact (State.flag_putFlag_id _ _ _ _ _ _ (by decide)).trans (State.flag_putFlag _ _ _ _ _ (by decide))
  have hlock : u.flag F.CTR_STAT_PC_LOCK = false := by
    rw [← hu]
    exact State.flag_putFlag _ _ _ _ _ (by decide)
  have hflt := State.fltAck_keeps u bCTR 0
  refine ⟨u.fltAck bCTR 0, ?_, .step hflt rfl ((hkeeps.of u rfl).mono rfl), hflt.flag_trans rfl hweld, hflt.flag_trans rfl hlock⟩
  have hlatch : b.latchAck bCTR = some u := (if_neg (by decide)).trans ((if_pos rfl).trans hack)
  unfold State.faultAck
  rw [hlatch]
  rfl

end

/-! ### The gates of the Herd leave the node -/

/-- Gating PD04 and PD05 leaves CK08 as it is. -/
theorem State.gateSettle_nodeUp (s : State) : s.gateSettle.nodeUp = s.nodeUp := by
  have hover : s.wakeOver.pow.xsFail = s.pow.xsFail := by
    unfold State.wakeOver
    split <;> rfl
  have hpow : s.gateSettle.pow.xsFail = s.pow.xsFail := by
    unfold State.gateSettle
    refine List.foldlRecOn (motive := fun a : State => a.pow.xsFail = s.pow.xsFail) _ _ hover fun a ha d _ => Eq.trans ?_ ha
    repeat' split
    all_goals rfl
  unfold State.nodeUp
  rw [hpow, (State.gateSettle_keeps s).flag_eq rfl]

/-! ### The rows -/

section
variable {s : State} {h : Hdr}

/-- A close of the string that nothing refuses begins the sequence. -/
theorem exec_contactor_close {c : Fin 4} {force : Bool} (hc : c.val < 3) (hh : s.hears h (mkContactor (s.minorFor h) c 1 force))
    (hright : s.isSteward h.host = true ∨ s.bit F.MGT_RIGHTS_CT c h.host = true) (hchain : s.flag F.AON_SVC_STAT_CHAIN_READY = true)
    (hfree : s.closeRefusal c = none) (hseq : s.seq = 0) (hon : s.dom 4 = .on) (haux : s.fld F.CTR_STAT_AUX = 0) :
    ∃ t, exec (.contactorCmd h c true force) s = .next t ∧ t.answers h 0 0 ∧ t.seq = 1 ∧ t.coil 2 = true ∧ t.ctr.start = s.tim.optime := by
  have horder := mkContactor_eq (s.minorFor h) c true force
  obtain ⟨x, hx⟩ : ∃ x, x = (force && decide (1 ≤ s.minorFor h)) := ⟨_, rfl⟩
  rw [← hx] at horder
  rw [show (1 : Nat) = b2n true from rfl, horder] at hh
  obtain ⟨b, hb⟩ : ∃ b, b = s.hearing h (.contactorCmd c true x) := ⟨_, rfl⟩
  have hkeeps : Keeps hearMask s.recsIn b := hb ▸ s.hearing_keeps h _
  have hfree' : b.closeRefusal c = none := by rw [hb, State.hearing_closeRefusal, hfree]
  have hdo : b.orderDo h.host (s.isSteward h.host) (names (s.named h (.contactorCmd c true x))) (.contactorCmd c true x) =
      ((b.closeOrder c).gateSettle, {}) := by
    unfold State.orderDo State.contactorDo
    simp [hfree']
  have hdec : s.decides h (.contactorCmd c true x) (b.closeOrder c).gateSettle {} := by
    refine State.decides_done (contactor_decided ..) (State.admit_contactor hright fun _ => hchain) (fun a ha => ?_) (hb ▸ hdo) (by decide)
    rw [List.mem_singleton.mp ha, ← hb]
    exact (State.ruleOne_close _ _ c.isLt _).trans (State.closeForbidden_of_refusal hfree')
  have hclose := State.closeOrder_keeps b c
  have hnode : (b.closeOrder c).gateSettle.nodeUp = true := by
    rw [State.gateSettle_nodeUp, hclose.nodeUp rfl rfl rfl, hb]
    exact State.hearing_nodeUp hh
  have htxq : (b.closeOrder c).gateSettle.mgt.txq = [] := by
    rw [(State.gateSettle_keeps _).txq rfl, hclose.txq rfl, hb]
    exact s.hearing_txq h _
  obtain ⟨hans, hrow⟩ := State.acts_mail_answers hh (contactor_decided ..) (by simp [orderTyp]) hdec hnode htxq
  obtain ⟨hseq1, hcoil, hstart⟩ := State.closeOrder_starts (b := b) hc (hkeeps.fld_trans rfl hseq) ((hkeeps.dom rfl 4).trans hon)
    (hkeeps.fld_trans rfl haux)
  have hend : Keeps (0x1 ||| afterReplyMask) (b.closeOrder c) (s.acts fun a => a.mail h (.contactorCmd c true x)) :=
    .step hrow rfl ((State.gateSettle_keeps _).mono rfl)
  refine ⟨_, ?_, hans, hend.fld_trans rfl hseq1, hend.bit_trans rfl hcoil, ?_⟩
  · rw [← horder]
    rfl
  · exact (congrArg Ctr.start (hend.ctr rfl)).trans (hstart.trans (congrArg Tim.optime (hkeeps.tim rfl)))

/-- An off-order of a switch is carried out in any stage. -/
theorem exec_lsw_off {n : Fin 16} {ilim : BitVec 16} {blank : Byte} (hh : s.hears h (mkLsw (s.minorFor h) n 0 false ilim.toNat blank.toNat))
    (hright : s.isSteward h.host = true ∨ s.bit F.MGT_RIGHTS_LSW n h.host = true) :
    ∃ t, exec (.lswCmd h n false false ilim blank) s = .next t ∧ t.answers h 0 0 ∧ ∀ k : Fin 16, t.lswOn k = (s.lswOn k && k != n) := by
  obtain ⟨c, i, b, horder⟩ := mkLsw_lswCmd (s.minorFor h) n false false ilim.toNat blank.toNat
  rw [show (0 : Nat) = b2n false from rfl, horder] at hh
  have hdec : s.decides h (.lswCmd n false c i b) ((s.hearing h (.lswCmd n false c i b)).lswOrder n false (if c then some (i, b) else none)) {} :=
    State.decides_done (lswCmd_decided ..) (State.admit_lswCmd hright fun e => Bool.noConfusion e)
      (fun a ha => List.mem_singleton.mp ha ▸ State.ruleOne_lsw_off ..) rfl (by decide)
  obtain ⟨hans, hrow⟩ := State.acts_mail_quiet hh (lswCmd_decided ..) (by simp [orderTyp]) hdec (State.lswOrder_keeps ..) rfl
  refine ⟨_, exec_lswCmd_eq horder, hans, fun k => hrow.bit_trans rfl ?_⟩
  exact (State.lswOrder_off_others _ n _ k).trans (congrArg (· && k != n) ((s.hearing_keeps h _).bit_eq rfl))

/-- An on-order with a configuration that nothing turns away. -/
theorem exec_lsw_on {n : Fin 16} {ilim : BitVec 16} {blank : Byte} (hminor : 2 ≤ s.minorFor h)
    (hh : s.hears h (.lswCmd n true true ilim.toNat blank.toNat))
    (hright : s.isSteward h.host = true ∨ s.bit F.MGT_RIGHTS_LSW n h.host = true) (hfree : s.lswFree n)
    (hpres : s.flag F.AON_CONN_STAT_FLD_PRES = true) (hheld : s.heldOff n = false) (hcool : hasBit s.field.thermal n = false)
    (hoff : s.lswOn n = false) (huv : s.flag F.LSW_SUP_STAT_VFLD_UV = false) :
    ∃ t, exec (.lswCmd h n true true ilim blank) s = .next t ∧ t.answers h 0 0 ∧ t.lswOn n = true ∧
      t.bit F.LSW_STAT_LATCHED n = false ∧ t.fld F.LSW_CFG_ILIM n = clampN 2 (if n.val < 8 then 40 else 120) ilim.toNat ∧
      t.fld F.LSW_CFG_BLANK n = min 100 blank.toNat := by
  have horder : mkLsw (s.minorFor h) n (b2n true) true ilim.toNat blank.toNat = .lswCmd n true true ilim.toNat blank.toNat := by
    unfold mkLsw
    rw [if_pos ⟨by omega, by decide⟩, if_pos (by simp [hminor])]
    rfl
  have hkeeps := s.hearing_keeps h (.lswCmd n true true ilim.toNat blank.toNat)
  have hfree' : (s.recsIn.heard h).lswFree n := State.heard_lswFree (s := s.recsIn) h ⟨hfree.field, hfree.rind, hfree.sup⟩
  have hcool' : hasBit (s.recsIn.heard h).field.thermal n = false := by
    rw [(s.recsIn.heard_keeps h).field rfl]
    exact hcool
  have hdo := State.lswDo_released (some (ilim.toNat, blank.toNat)) hfree' ((s.recsIn.heard_keeps h).flag_trans rfl hpres)
    ((State.heard_heldOff s.recsIn h n).trans hheld) hcool'
  have hdec : s.decides h (.lswCmd n true true ilim.toNat blank.toNat)
      ((s.recsIn.heard h).lswOrder n true (some (ilim.toNat, blank.toNat))) {} := by
    refine State.decides_done (lswCmd_decided ..) (State.admit_lswCmd hright fun _ => .inl hfree.field) (fun a ha => ?_) hdo (by decide)
    rw [List.mem_singleton.mp ha]
    exact State.ruleOne_lswCmd (on := true) _ fun _ => hfree'
  have hlsw := State.lswOrder_keeps (s.recsIn.heard h) n true (some (ilim.toNat, blank.toNat))
  obtain ⟨hans, hrow⟩ := State.acts_mail_quiet hh (lswCmd_decided ..) (by simp [orderTyp]) hdec hlsw rfl
  obtain ⟨hon, hlatched, hilim, hblank⟩ := State.lswOrder_on_effect (b := s.recsIn.heard h) n ilim.toNat blank.toNat
    (hkeeps.bit_trans rfl hoff) (hkeeps.flag_trans rfl huv)
  exact ⟨_, exec_lswCmd_eq horder, hans, hrow.bit_trans rfl hon, hrow.bit_trans rfl hlatched, hrow.fld_trans rfl hilim,
    hrow.fld_trans rfl hblank⟩

/-- Under the supervisor's junction limit an on-order of a switch is refused. -/
theorem exec_lsw_limited {n : Fin 16} {cfg : Bool} {ilim : BitVec 16} {blank : Byte}
    (hh : s.hears h (mkLsw (s.minorFor h) n 1 cfg ilim.toNat blank.toNat))
    (hright : s.isSteward h.host = true ∨ s.bit F.MGT_RIGHTS_LSW n h.host = true) (hrind : s.lswHeld n = false) (hsup : s.supHeld = true) :
    ∃ t, exec (.lswCmd h n true cfg ilim blank) s = .next t ∧ t.answers h 3 2 ∧ ∀ k : Fin 16, t.lswOn k = s.lswOn k := by
  obtain ⟨c, i, b, horder⟩ := mkLsw_lswCmd (s.minorFor h) n true cfg ilim.toNat blank.toNat
  rw [show (1 : Nat) = b2n true from rfl, horder] at hh
  have hrule : (s.hearing h (.lswCmd n true c i b)).ruleOne (.lswCmd n true c i b) ⟨n, b2n true, if c then [1, i, b] else [0]⟩ = some 2 := by
    rw [State.ruleOne_switch n.isLt, s.hearing_lswHeld h _ n, s.hearing_supHeld h _, hrind, hsup]
    rfl
  obtain ⟨hans, hrow⟩ := State.acts_mail_limited hh (lswCmd_decided ..) (by simp [orderTyp]) (by simp [orderTyp])
    (State.admit_lswCmd hright fun _ => .inr hsup) rfl hrule
  exact ⟨_, exec_lswCmd_eq horder, hans, fun k => hrow.bit_eq rfl⟩

theorem exec_loop_set {n : Fin 4} {ua : BitVec 32} (hh : s.hears h (.loopSet n ua.toNat))
    (hright : s.isSteward h.host = true ∨ s.bit F.MGT_RIGHTS_LOOP n h.host = true) (hen : s.flag F.AON_PIN_PHASE_FIELD_EN = true)
    (hpres : s.flag F.AON_CONN_STAT_FLD_PRES = true) (hsup : s.supHeld = false) :
    ∃ t, exec (.loopSet h n ua) s = .next t ∧ t.answers h 0 0 ∧ t.fld F.LOOP_CMD_CMD n = min 24000 ua.toNat ∧
      t.bit F.LOOP_STAT_FALLBACK n = false := by
  obtain ⟨b, hb⟩ : ∃ b, b = s.hearing h (.loopSet n ua.toNat) := ⟨_, rfl⟩
  have hpres' : b.flag F.AON_CONN_STAT_FLD_PRES = true := by
    rw [hb]
    exact (s.hearing_keeps h _).flag_trans rfl hpres
  have hdec : s.decides h (.loopSet n ua.toNat) (b.loopSet n ua.toNat) {} := by
    refine State.decides_done (loopSet_decided ..) (State.admit_loopSet hright (.inl hen)) (fun a ha => ?_) (hb ▸ if_pos hpres') (by decide)
    rw [List.mem_singleton.mp ha, State.ruleOne_loop, s.hearing_supHeld h _, hsup]
    rfl
  have hset : Keeps mask179 (s.hearing h (.loopSet n ua.toNat)) (b.loopSet n ua.toNat) := hb ▸ State.loopSet_keeps b n ua.toNat
  obtain ⟨hans, hrow⟩ := State.acts_mail_quiet hh (loopSet_decided ..) (by simp [orderTyp]) hdec hset rfl
  obtain ⟨hcmd, hfall⟩ := b.loopSet_effect n ua.toNat
  exact ⟨_, exec_loopSet_eq s h n ua, hans, hrow.fld_trans rfl hcmd, hrow.bit_trans rfl hfall⟩

theorem exec_loop_limited {n : Fin 4} {ua : BitVec 32} (hh : s.hears h (.loopSet n ua.toNat))
    (hright : s.isSteward h.host = true ∨ s.bit F.MGT_RIGHTS_LOOP n h.host = true) (hsup : s.supHeld = true) :
    ∃ t, exec (.loopSet h n ua) s = .next t ∧ t.answers h 3 2 ∧ t.fld F.LOOP_CMD_CMD n = s.fld F.LOOP_CMD_CMD n := by
  have hrule : (s.hearing h (.loopSet n ua.toNat)).ruleOne (.loopSet n ua.toNat) ⟨0x10 + n, ua.toNat, []⟩ = some 2 := by
    rw [State.ruleOne_loop, s.hearing_supHeld h _, hsup]
    rfl
  obtain ⟨hans, hrow⟩ := State.acts_mail_limited hh (loopSet_decided ..) (by simp [orderTyp]) (by simp [orderTyp])
    (State.admit_loopSet hright (.inr hsup)) rfl hrule
  exact ⟨_, exec_loopSet_eq s h n ua, hans, hrow.fld_eq rfl⟩

theorem exec_ack_contactors (hh : s.hears h (.faultAck bCTR 0)) (hst : s.isSteward h.host = true)
    (hmay : s.flag F.CTR_EVT_DOUBLE_WELD = false ∨ s.iNow.natAbs ≤ 2000) :
    ∃ t, exec (.faultAck h 0x07 0) s = .next t ∧ t.answers h 0 0 ∧ t.flag F.CTR_STAT_WELD_LATCH = false ∧
      t.flag F.CTR_STAT_PC_LOCK = false := by
  have hkeeps := s.hearing_keeps h (.faultAck bCTR 0)
  have hnow : (s.hearing h (.faultAck bCTR 0)).iNow = s.iNow := by
    have hsamp : ∀ n, (s.hearing h (.faultAck bCTR 0)).samp n = s.samp n := fun n => hkeeps.fld_eq rfl
    unfold State.iNow
    simp only [hsamp]
  have hmay' : (s.hearing h (.faultAck bCTR 0)).flag F.CTR_EVT_DOUBLE_WELD = false ∨ (s.hearing h (.faultAck bCTR 0)).iNow.natAbs ≤ 2000 :=
    hmay.imp (hkeeps.flag_trans rfl) fun hi => hnow ▸ hi
  obtain ⟨u, hack, hdone, hweld, hlock⟩ := State.faultAck_ctr hmay'
  have hdec : s.decides h (.faultAck bCTR 0) u {} := by
    refine State.decides_done (faultAck_decided ..) (State.admit_faultAck hst rfl) (fun a ha => absurd ha (List.not_mem_nil)) ?_ (by decide)
    unfold State.orderDo
    simp only [hack]
  obtain ⟨hans, hrow⟩ := State.acts_mail_quiet hh (faultAck_decided ..) (by simp [orderTyp]) hdec hdone rfl
  exact ⟨_, rfl, hans, hrow.flag_trans rfl hweld, hrow.flag_trans rfl hlock⟩

theorem exec_ack_tenant {code inst : Byte} (hh : s.hears h (.faultAck code.toNat inst.toNat)) (hst : s.isSteward h.host = false) :
    ∃ t, exec (.faultAck h code inst) s = .next t ∧ t.answers h 3 4 := by
  have hdec : s.decides h (.faultAck code.toNat inst.toNat) _ { status := 3, reason := 4 } :=
    State.decides_turned (Order.plain_of_steward rfl rfl) (by simp [State.admitAns, hst, stewardTyp, orderTyp])
  exact ⟨_, rfl, (State.acts_mail_quiet hh (faultAck_decided ..) (by simp [orderTyp]) hdec (.refl 0 _) rfl).1⟩

end

/-! ### The statement -/

/-- Settles O13: each order is heard and decided alone in its tick. -/
theorem outputOrdersTakeEffect : Obligations.OutputOrdersTakeEffect := by
  unfold Obligations.OutputOrdersTakeEffect
  refine ⟨?ctx, ?forced, ?connected, fun s h c force hc hh hright hchain hfree hseq hon haux =>
      exec_contactor_close hc hh hright hchain hfree hseq hon haux, fun s h n ilim blank hh hright => exec_lsw_off hh hright, ?on,
    fun s h n ua hh hright hen hpres hsup => exec_loop_set hh hright hen hpres hsup,
    fun s h n cfg ilim blank hh hright hrind hsup => exec_lsw_limited hh hright hrind hsup,
    fun s h n ua hh hright hsup => exec_loop_limited hh hright hsup, fun s h hh hst hmay => exec_ack_contactors hh hst hmay,
    fun s h code inst hh _ hst => exec_ack_tenant hh hst⟩
  case ctx =>
    intro s h force hh hright
    obtain ⟨t, b, hexec, hans, -, hrow⟩ := exec_contactor_open (c := 3) hh hright
    exact ⟨t, hexec, hans, hrow.bit_trans rfl (b.openOrder_ctx _)⟩
  case forced =>
    intro s h c hc hminor hh hst
    have horder : mkContactor (s.minorFor h) c 0 true = .contactorCmd c false true := by
      rw [show (0 : Nat) = b2n false from rfl, mkContactor_eq]
      simp [hminor]
    obtain ⟨t, b, hexec, hans, -, hrow⟩ := exec_contactor_open (c := c) (force := true) (horder ▸ hh) (.inl hst)
    rw [hst, show (true && decide (1 ≤ s.minorFor h) && true) = true by simp [hminor]] at hrow
    have hopen : StringOpen t := (b.openOrder_forced hc).keeps hrow rfl rfl
    exact ⟨t, hexec, hans, hopen.seq, hopen.coil⟩
  case connected =>
    intro s h c hc hh hright hseq
    have horder : mkContactor (s.minorFor h) c 0 false = .contactorCmd c false false :=
      mkContactor_eq (s.minorFor h) c false false
    obtain ⟨t, b, hexec, hans, hkeeps, hrow⟩ := exec_contactor_open (c := c) (force := false) (horder ▸ hh) hright
    obtain ⟨hlow, hhigh⟩ := State.openOrder_connected (b := b) hc (hkeeps.fld_trans rfl hseq)
    have hest : b.est = s.est := hkeeps.est rfl
    have hpack : b.pack = s.pack := hkeeps.pack rfl
    rw [hest, hpack] at hlow hhigh
    refine ⟨t, hexec, hans, fun hi => ?_, fun hi hbrk => ?_⟩
    · have hopen : StringOpen t := (hlow hi).keeps hrow rfl rfl
      exact ⟨hopen.seq, hopen.coil⟩
    · obtain ⟨hseq8, hwait, hcoil⟩ := hhigh hi hbrk
      refine ⟨hrow.fld_trans rfl hseq8, (congrArg Ctr.wait (hrow.ctr rfl)).trans ?_, fun k => hrow.bit_trans rfl ((hcoil k).trans (hkeeps.bit_eq rfl))⟩
      exact hwait.trans (congrArg (fun x : Tim => some (1, x.optime)) (hkeeps.tim rfl))
  case on =>
    intro s h n ilim blank hminor hh hright hen hrind hpres hheld hcool hoff huv hsup
    exact exec_lsw_on hminor hh hright ⟨hen, hrind, hsup⟩ hpres hheld hcool hoff huv

end Sys2Proof.Machine

/-! PROOFS. HELLO, WAKE, SLEEP_HINT, POWER_SHARE_SET and the loads (03 R69, R71, 15 R395, 17 R452, 20 R543, 23 R614). -/
namespace Sys2Proof.Machine

section
variable {s : State} {h : Hdr}

/-! ### Orders of the Steward that name nothing Table 5-3 contests -/

theorem stewardOrder_admitted {b : State} {k : Nat} {o : Order} (hstage : b.stageBusy o = false) (hwrite : orderTyp o ≠ 4)
    (hack : orderTyp o ≠ 0x30) : b.admitAns k true o = none := by
  cases o <;> simp_all [State.admitAns, orderTyp]

theorem share_decided (p r : Nat) : (Order.powerShare p r).Decided := ⟨rfl, rfl⟩

theorem State.shareSet_effect (b : State) (p r : Nat) :
    (b.shareSet p r).gov.share = p ∧ (b.shareSet p r).gov.reserve = r ∧ (b.shareSet p r).gov.shared = true := by
  have hkeeps : Keeps (mask5 ||| mask55) { b with gov := { b.gov with share := p, reserve := r, shared := true } } (b.shareSet p r) :=
    State.withSvc_keeps rfl (.refl _ _) fun _ k => .step (State.assistSettle_keeps _) rfl k
  rw [hkeeps.gov rfl]
  exact ⟨rfl, rfl, rfl⟩

theorem exec_share {p r : BitVec 16} (hp : p.toNat ≤ 420) (hh : s.hears h (.powerShare (10 * p.toNat) r.toNat)) (hst : s.isSteward h.host = true) :
    ∃ t, exec (.powerShareSet h p r) s = .next t ∧ t.answers h 0 0 ∧ t.gov.share = 10 * p.toNat ∧ t.gov.reserve = r.toNat ∧
      t.gov.shared = true := by
  have horder : mkShare p.toNat r.toNat = .powerShare (10 * p.toNat) r.toNat := if_pos hp
  have hdec : s.decides h (.powerShare (10 * p.toNat) r.toNat) _ {} :=
    State.decides_done (share_decided ..) (hst ▸ stewardOrder_admitted rfl (by simp [orderTyp]) (by simp [orderTyp]))
      (fun a ha => List.mem_singleton.mp ha ▸ rfl) rfl (by decide)
  obtain ⟨hans, hrow⟩ := State.acts_mail_quiet hh (share_decided ..) (by simp [orderTyp]) hdec (State.shareSet_keeps ..) rfl
  refine ⟨_, ?_, hans, ?_⟩
  · rw [← horder]
    rfl
  · rw [hrow.gov rfl]
    exact State.shareSet_effect ..

/-! ### Loads -/

/-- The row of an order of the Steward that names no resource: it is carried out, and answered so. -/
theorem State.acts_mail_bare {M : Nat} {o : Order} {u : State} {a : Ans} (hh : s.hears h o) (hdecided : o.Decided) (hhello : orderTyp o ≠ 1)
    (hwrite : orderTyp o ≠ 4) (hack : orderTyp o ≠ 0x30) (hst : s.isSteward h.host = true) (hstage : (s.hearing h o).stageBusy o = false)
    (hasks : s.named h o = []) (hdo : ∀ won, (s.hearing h o).orderDo h.host true won o = (u, a)) (hstatus : a.status ≠ 1)
    (hdone : Keeps M (s.hearing h o) u) (hM : leavesNode M = true) :
    (s.acts fun b => b.mail h o).answers h a.status a.reason ∧ Keeps afterReplyMask u (s.acts fun b => b.mail h o) := by
  have hdec : s.decides h o u a := State.decides_done hdecided (hst ▸ stewardOrder_admitted hstage hwrite hack)
    (fun x hx => by simp [hasks] at hx) (hst ▸ hdo _) hstatus
  exact State.acts_mail_quiet hh hdecided hhello hdec hdone hM

theorem exec_load {c : Instr} {name : String} {u : State} {fits : Bool} (hfits : fits = true) (hexec : exec c s = wfElse fits name u) :
    exec c s = .next u := by
  rw [hexec, hfits]
  rfl

theorem exec_limits {b : List Byte} (hfits : bodyFits b = true) (hh : s.hears h (.limitsetLoad b)) (hst : s.isSteward h.host = true)
    (hchain : s.flag F.AON_SVC_STAT_CHAIN_READY = true) :
    ∃ t, exec (.limitsetLoad h b) s = .next t ∧
      match parseLimits b with
      | .ok l => t.est.limNext = some l ∧ t.answers h 0 0
      | .error n => t.est = s.est ∧ t.answers h 3 (0x10 + n) := by
  have hkeeps := s.hearing_keeps h (.limitsetLoad b)
  have hstage : (s.hearing h (.limitsetLoad b)).stageBusy (.limitsetLoad b) = false := by
    simp [State.stageBusy, hkeeps.flag_trans rfl hchain]
  refine ⟨_, exec_load hfits rfl, ?_⟩
  cases hparse : parseLimits b with
  | ok l =>
    obtain ⟨hans, hrow⟩ := State.acts_mail_bare (u := { (s.hearing h (.limitsetLoad b)) with est := { (s.hearing h (.limitsetLoad b)).est with limNext := some l } })
      (a := {}) hh ⟨rfl, rfl⟩ (by simp [orderTyp]) (by simp [orderTyp]) (by simp [orderTyp]) hst hstage rfl
      (fun won => by simp [State.orderDo, State.limitLoad, hparse, loadAns]) (by decide) (.setEst (M := mask146) _ rfl (.refl _ _)) rfl
    exact ⟨by rw [hrow.est rfl], hans⟩
  | error n =>
    obtain ⟨hans, hrow⟩ := State.acts_mail_bare (u := (s.hearing h (.limitsetLoad b)).put F.EST_LOAD_STAT_LIM_REFUSE n)
      (a := { status := 3, reason := 0x10 + n }) hh ⟨rfl, rfl⟩ (by simp [orderTyp]) (by simp [orderTyp]) (by simp [orderTyp]) hst hstage rfl
      (fun won => by simp [State.orderDo, State.limitLoad, hparse, loadAns]) (by simp) (.put (M := mask146) rfl (.refl _ _)) rfl
    exact ⟨(hrow.est rfl).trans (hkeeps.est rfl), hans⟩

theorem exec_model {b : List Byte} (hfits : bodyFits b = true) (hh : s.hears h (.modelLoad b)) (hst : s.isSteward h.host = true)
    (hchain : s.flag F.AON_SVC_STAT_CHAIN_READY = true) :
    ∃ t, exec (.modelLoad h b) s = .next t ∧
      match parseModel b with
      | .ok m => t.est.modelNext = some m ∧ t.answers h 0 0
      | .error n => t.est = s.est ∧ t.answers h 3 (0x10 + n) := by
  have hkeeps := s.hearing_keeps h (.modelLoad b)
  have hstage : (s.hearing h (.modelLoad b)).stageBusy (.modelLoad b) = false := by
    simp [State.stageBusy, hkeeps.flag_trans rfl hchain]
  refine ⟨_, exec_load hfits rfl, ?_⟩
  cases hparse : parseModel b with
  | ok m =>
    obtain ⟨hans, hrow⟩ := State.acts_mail_bare (u := { (s.hearing h (.modelLoad b)) with est := { (s.hearing h (.modelLoad b)).est with modelNext := some m } })
      (a := {}) hh ⟨rfl, rfl⟩ (by simp [orderTyp]) (by simp [orderTyp]) (by simp [orderTyp]) hst hstage rfl
      (fun won => by simp [State.orderDo, State.modelLoad, hparse, loadAns]) (by decide) (.setEst (M := mask145) _ rfl (.refl _ _)) rfl
    exact ⟨by rw [hrow.est rfl], hans⟩
  | error n =>
    obtain ⟨hans, hrow⟩ := State.acts_mail_bare (u := (s.hearing h (.modelLoad b)).put F.EST_LOAD_STAT_MOD_REFUSE n)
      (a := { status := 3, reason := 0x10 + n }) hh ⟨rfl, rfl⟩ (by simp [orderTyp]) (by simp [orderTyp]) (by simp [orderTyp]) hst hstage rfl
      (fun won => by simp [State.orderDo, State.modelLoad, hparse, loadAns]) (by simp) (.put (M := mask145) rfl (.refl _ _)) rfl
    exact ⟨(hrow.est rfl).trans (hkeeps.est rfl), hans⟩

/-- A safety record without the service key is refused, and nothing of Rind changes. -/
theorem State.acts_safety_unkeyed {b : List Byte} (hh : s.hears h (.safetyCfgLoad b)) (hst : s.isSteward h.host = true)
    (hkey : s.flag F.AON_FRONT_STAT_SVC_KEY = false) :
    (s.acts fun a => a.mail h (.safetyCfgLoad b)).rnd = s.rnd ∧ (s.acts fun a => a.mail h (.safetyCfgLoad b)).answers h 3 0x11 := by
  have hkeeps := s.hearing_keeps h (.safetyCfgLoad b)
  have hkey' : (s.hearing h (.safetyCfgLoad b)).flag F.AON_FRONT_STAT_SVC_KEY = false := hkeeps.flag_trans rfl hkey
  obtain ⟨hans, hrow⟩ := State.acts_mail_bare (u := (s.hearing h (.safetyCfgLoad b)).put F.RND_CFG_STAT_LOAD_REFUSE 1)
    (a := { status := 3, reason := 0x11 }) hh ⟨rfl, rfl⟩ (by simp [orderTyp]) (by simp [orderTyp]) (by simp [orderTyp]) hst rfl rfl
    (fun won => by simp [State.orderDo, State.safetyLoad, hkey', loadAns]) (by decide) (.put (M := mask307) rfl (.refl _ _)) rfl
  exact ⟨(hrow.rnd rfl).trans (hkeeps.rnd rfl), hans⟩

/-- A good safety record under the service key waits for its commit. -/
theorem State.acts_safety_keyed {b : List Byte} {c : SafetyCfg} (hh : s.hears h (.safetyCfgLoad b)) (hst : s.isSteward h.host = true)
    (hkey : s.flag F.AON_FRONT_STAT_SVC_KEY = true) (hparse : parseSafety b = .ok c) :
    (s.acts fun a => a.mail h (.safetyCfgLoad b)).rnd.pend = some b ∧
    (s.acts fun a => a.mail h (.safetyCfgLoad b)).flag F.RND_STAT_PENDING = true ∧
    (s.acts fun a => a.mail h (.safetyCfgLoad b)).answers h 0 0 := by
  have hkeeps := s.hearing_keeps h (.safetyCfgLoad b)
  have hkey' : (s.hearing h (.safetyCfgLoad b)).flag F.AON_FRONT_STAT_SVC_KEY = true := hkeeps.flag_trans rfl hkey
  obtain ⟨u, hu⟩ : ∃ u, u = State.putFlag { (s.hearing h (.safetyCfgLoad b)) with
      rnd := { (s.hearing h (.safetyCfgLoad b)).rnd with pend := some b } } F.RND_STAT_PENDING true := ⟨_, rfl⟩
  have hdone : Keeps mask307 (s.hearing h (.safetyCfgLoad b)) u := hu ▸ .putFlag rfl (.setRnd _ rfl (.refl _ _))
  obtain ⟨hans, hrow⟩ := State.acts_mail_bare (a := {}) hh ⟨rfl, rfl⟩ (by simp [orderTyp]) (by simp [orderTyp]) (by simp [orderTyp]) hst rfl rfl
    (fun won => by simp [State.orderDo, State.safetyLoad, hkey', hparse, loadAns, hu]) (by decide) hdone rfl
  refine ⟨by rw [hrow.rnd rfl, hu]; rfl, hrow.flag_trans rfl ?_, hans⟩
  rw [hu]
  exact State.flag_putFlag _ _ _ _ _ (by decide)

end


section
variable {s : State} {h : Hdr}

/-! ### Requests of domains -/

theorem hasBit_bitField (x l w : Nat) {e : Nat} (he : e < w) : hasBit (bitField x l w) e = hasBit x (l + e) := by
  unfold bitField
  rw [hasBit_low he (Nat.mod_mod _ _), Nat.add_comm, hasBit_step]

theorem hasBit_or (x y n : Nat) : hasBit (x ||| y) n = (hasBit x n || hasBit y n) := by
  simp only [hasBit_eq_testBit, Nat.testBit_or]

theorem hasBit_and (x y n : Nat) : hasBit (x &&& y) n = (hasBit x n && hasBit y n) := by
  simp only [hasBit_eq_testBit, Nat.testBit_and]

/-- The domains that a request may name. -/
abbrev requestable (n : Nat) : Prop := 8 ≤ n ∧ n ≤ 22 ∧ n ≠ 14

theorem mem_pdAsks {rank : Nat → Option Nat} {a : Ask} : a ∈ pdAsks rank ↔ ∃ n r, requestable n ∧ rank n = some r ∧ a = ⟨0x40 + n, r, []⟩ := by
  have hdom : ∀ n, n ∈ ([8, 9, 10, 11, 12, 13, 15, 16, 17, 18, 19, 20, 21, 22] : List Nat) ↔ requestable n := by
    intro n
    simp only [List.mem_cons, List.not_mem_nil, or_false, requestable]
    omega
  unfold pdAsks
  simp only [List.mem_filterMap, hdom, Option.map_eq_some_iff]
  constructor
  · rintro ⟨n, hn, r, hr, rfl⟩
    exact ⟨n, r, hn, hr, rfl⟩
  · rintro ⟨n, r, hn, hr, rfl⟩
    exact ⟨n, hn, r, hr, rfl⟩

/-- A domain is among those that the asks name. -/
theorem names_pdAsks {rank : Nat → Option Nat} {n : Nat} (hn : requestable n) : names (pdAsks rank) (0x40 + n) = (rank n).isSome := by
  unfold names
  rw [Bool.eq_iff_iff, List.any_eq_true, Option.isSome_iff_exists]
  constructor
  · rintro ⟨a, ha, hres⟩
    obtain ⟨m, r, -, hr, rfl⟩ := mem_pdAsks.mp ha
    have hm : m = n := by
      have := eq_of_beq hres
      simp only at this
      omega
    exact ⟨r, hm ▸ hr⟩
  · rintro ⟨r, hr⟩
    exact ⟨_, mem_pdAsks.mpr ⟨n, r, hn, hr, rfl⟩, by simp⟩

theorem hasBit_wonMask (won : Nat → Bool) {n : Nat} (hn : n < 23) : hasBit (wonMask won) n = won (0x40 + n) := by
  unfold wonMask
  rw [hasBit_maskOf]
  simp [hn]

theorem hasBit_wakeMask {n : Nat} (hn : requestable n) : hasBit wakeMask n = true := by
  have hall : ∀ k : Fin 23, 8 ≤ k.val → k.val ≠ 14 → hasBit wakeMask k = true := by decide
  obtain ⟨hlo, hhi, hne⟩ := hn
  exact hall ⟨n, by omega⟩ hlo hne

/-- Domain `n` is turned away. -/
def State.turnedAway (b : State) (n : Nat) : Bool :=
  b.coreRefused || (Decidable.decide (10 ≤ n) && Decidable.decide (n < 14) && b.engRefused) || b.hadRefused n

theorem State.ruleOne_domain (b : State) {o : Order} (ho : orderTyp o ≠ 4) {n r : Nat} (hn : requestable n) :
    b.ruleOne o ⟨0x40 + n, r, []⟩ =
      if (if n = 9 then r == 2 else r == 1) && b.turnedAway n then some (b.hadReason n) else none := by
  obtain ⟨hlo, hhi, hne⟩ := hn
  unfold State.ruleOne
  extract_lets isWrite m eng want
  have hm : m = n := by
    change 0x40 + n - 0x40 = n
    omega
  have hwrite : isWrite = false := by
    unfold isWrite
    split
    · exact absurd rfl ho
    · rfl
  simp only [want, eng, hwrite, hm, State.turnedAway]
  rw [if_neg (by omega), if_neg (by omega), if_neg (by omega), if_pos (by omega)]
  simp

/-! ### What a request reads stays as its frame is heard -/

section Hearing
variable (s) (h) (o : Order)

theorem State.hearing_funcHeld (f : Nat) : (s.hearing h o).funcHeld f = s.funcHeld f := by
  unfold State.funcHeld
  rw [(s.hearing_keeps h o).bit_eq rfl, (s.hearing_keeps h o).rnd rfl]
  rfl

theorem State.hearing_coreRefused : (s.hearing h o).coreRefused = s.coreRefused := by
  have k := s.hearing_keeps h o
  unfold State.coreRefused State.mainOk State.si0
  rw [k.flag_eq rfl, k.bit_eq rfl, k.pow rfl]
  rfl

theorem State.hearing_engRefused : (s.hearing h o).engRefused = s.engRefused := by
  have k := s.hearing_keeps h o
  unfold State.engRefused State.si4 State.lscThere State.lscHalt State.blk
  rw [k.bit_eq rfl, k.flag_eq rfl, k.pow rfl, k.flt rfl]
  rfl

theorem State.hearing_hadRefused (n : Nat) : (s.hearing h o).hadRefused n = s.hadRefused n := by
  unfold State.hadRefused
  rw [s.hearing_funcHeld h o, s.hearing_funcHeld h o, (s.hearing_keeps h o).pow rfl]
  rfl

theorem State.hearing_turnedAway (n : Nat) : (s.hearing h o).turnedAway n = s.turnedAway n := by
  unfold State.turnedAway
  rw [s.hearing_coreRefused h o, s.hearing_engRefused h o, s.hearing_hadRefused h o]

end Hearing

/-! ### WAKE -/

theorem wake_decided (mask : Nat) : (Order.wake mask).Decided := ⟨rfl, rfl⟩

/-- What a WAKE of the Steward asks of a domain. -/
def wakeRank (mask n : Nat) : Option Nat := if hasBit (mask &&& wakeMask) n then some (if n = 9 then 2 else 1) else none

theorem State.named_wake (hst : s.isSteward h.host = true) (mask : Nat) : s.named h (.wake mask) = pdAsks (wakeRank mask) := by
  unfold State.named State.asks State.wakeNames
  rw [hst]
  rfl

theorem wakeRank_isSome (mask : Nat) {n : Nat} (hn : requestable n) : (wakeRank mask n).isSome = hasBit mask n := by
  unfold wakeRank
  rw [hasBit_and, hasBit_wakeMask hn, Bool.and_true]
  cases hasBit mask n <;> rfl

/-- The rule for a domain that a WAKE asks for. -/
theorem State.ruleOne_wake (b : State) {mask n r : Nat} (hn : requestable n) (hr : wakeRank mask n = some r) :
    b.ruleOne (.wake mask) ⟨0x40 + n, r, []⟩ = if b.turnedAway n then some (b.hadReason n) else none := by
  rw [State.ruleOne_domain b (by simp [orderTyp]) hn]
  have hwant : (if n = 9 then r == 2 else r == 1) = true := by
    unfold wakeRank at hr
    split at hr
    · obtain rfl := Option.some.inj hr
      split <;> simp_all
    · exact absurd hr (by simp)
  rw [hwant, Bool.true_and]

theorem State.admit_wake (b : State) (k : Nat) (st : Bool) (mask : Nat) : b.admitAns k st (.wake mask) = none := by
  simp [State.admitAns, stewardTyp, orderTyp, State.hasRight, State.stageBusy]

/-- What the requests of the domains read after a WAKE. -/
theorem State.wakeSet_effect (b : State) (m : Nat) :
    (∀ e : Fin 4, (b.wakeSet m).engReq e = (b.engReq e || hasBit m (10 + e))) ∧
    (∀ g : Fin 8, (b.wakeSet m).tgReq g = (b.tgReq g || hasBit m (15 + g))) ∧
    (b.wakeSet m).flag F.AON_PD_REQ_SEP_REQ = (b.flag F.AON_PD_REQ_SEP_REQ || hasBit m 8) ∧
    (b.wakeSet m).vatReq = if hasBit m 9 then 2 else b.vatReq := by
  unfold State.wakeSet
  extract_lets s1 s2
  have h1 : s1.flag F.AON_PD_REQ_SEP_REQ = (b.flag F.AON_PD_REQ_SEP_REQ || hasBit m 8) ∧ s1.vatReq = b.vatReq ∧
      s1.fld F.AON_PD_REQ_ENG_REQ = b.fld F.AON_PD_REQ_ENG_REQ ∧ s1.fld F.AON_PD_REQ_TG_REQ = b.fld F.AON_PD_REQ_TG_REQ := by
    unfold s1
    split
    next h8 =>
      rw [h8, Bool.or_true]
      exact ⟨State.flag_putFlag _ _ _ _ _ (by decide), State.fld_putFlag_id _ _ _ _ _ _ (by decide),
        State.fld_putFlag_id _ _ _ _ _ _ (by decide), State.fld_putFlag_id _ _ _ _ _ _ (by decide)⟩
    next h8 =>
      rw [Bool.eq_false_iff.mpr h8, Bool.or_false]
      exact ⟨rfl, rfl, rfl, rfl⟩
  obtain ⟨hsep1, hvat1, heng1, htg1⟩ := h1
  have h2 : s2.flag F.AON_PD_REQ_SEP_REQ = (b.flag F.AON_PD_REQ_SEP_REQ || hasBit m 8) ∧ s2.vatReq = (if hasBit m 9 then 2 else b.vatReq) ∧
      s2.fld F.AON_PD_REQ_ENG_REQ = b.fld F.AON_PD_REQ_ENG_REQ ∧ s2.fld F.AON_PD_REQ_TG_REQ = b.fld F.AON_PD_REQ_TG_REQ := by
    unfold s2
    split
    · exact ⟨(State.flag_put_id _ _ _ _ _ _ (by decide)).trans hsep1, State.fld_put _ _ (by decide) _ _,
        (State.fld_put_id _ _ _ _ _ _ (by decide)).trans heng1, (State.fld_put_id _ _ _ _ _ _ (by decide)).trans htg1⟩
    · exact ⟨hsep1, hvat1, heng1, htg1⟩
  obtain ⟨hsep, hvat, heng, htg⟩ := h2
  clear_value s1 s2
  refine ⟨fun e => ?_, fun g => ?_, ?_, ?_⟩
  · refine (State.bit_put_id _ _ _ _ _ _ _ (by decide)).trans ((State.bit_put _ _ _ _ _ (show e.val < 4 from e.isLt)).trans ?_)
    rw [hasBit_or, hasBit_bitField _ _ _ e.isLt, heng]
    rfl
  · refine (State.bit_put _ _ _ _ _ (show g.val < 8 from g.isLt)).trans ?_
    rw [hasBit_or, hasBit_bitField _ _ _ g.isLt, htg]
    rfl
  · exact (State.flag_put_id _ _ _ _ _ _ (by decide)).trans ((State.flag_put_id _ _ _ _ _ _ (by decide)).trans hsep)
  · exact (State.fld_put_id _ _ _ _ _ _ (by decide)).trans ((State.fld_put_id _ _ _ _ _ _ (by decide)).trans hvat)

/-- The domains that a WAKE of the Steward wins where nothing is turned away. -/
theorem hasBit_wakeWon (mask : Nat) {n : Nat} (hn : requestable n) :
    hasBit ((mask &&& wakeMask) &&& wonMask (names (pdAsks (wakeRank mask)))) n = hasBit mask n := by
  have hlt : n < 23 := by
    obtain ⟨-, hhi, -⟩ := hn
    omega
  rw [hasBit_and, hasBit_and, hasBit_wakeMask hn, hasBit_wonMask _ hlt, names_pdAsks hn, wakeRank_isSome mask hn]
  simp

theorem exec_wake {mask : BitVec 32} (hh : s.hears h (.wake mask.toNat)) (hst : s.isSteward h.host = true) (hcore : s.coreRefused = false)
    (heng : s.engRefused = false) (hhad : ∀ n : Fin 23, s.hadRefused n = false) :
    ∃ t, exec (.wake h mask) s = .next t ∧ t.answers h 0 0 ∧ t.bit F.AON_WAKE_SRC_SRC 0 = true ∧
      (∀ e : Fin 4, t.engReq e = (s.engReq e || hasBit mask.toNat (10 + e))) ∧
      (∀ g : Fin 8, t.tgReq g = (s.tgReq g || hasBit mask.toNat (15 + g))) ∧
      t.flag F.AON_PD_REQ_SEP_REQ = (s.flag F.AON_PD_REQ_SEP_REQ || hasBit mask.toNat 8) ∧
      t.vatReq = (if hasBit mask.toNat 9 then 2 else s.vatReq) := by
  obtain ⟨m, hm⟩ : ∃ m, m = (mask.toNat &&& wakeMask) &&& wonMask (names (pdAsks (wakeRank mask.toNat))) := ⟨_, rfl⟩
  have hkeeps := s.hearing_keeps h (.wake mask.toNat)
  have hdec : s.decides h (.wake mask.toNat) ((s.hearing h (.wake mask.toNat)).wakeSet m) { body := leBytes 4 m } := by
    refine State.decides_done (wake_decided _) (State.admit_wake ..) (fun a ha => ?_) ?_ (by simp)
    · rw [State.named_wake hst] at ha
      obtain ⟨n, r, hn, hr, rfl⟩ := mem_pdAsks.mp ha
      have hlt : n < 23 := by
        obtain ⟨-, hhi, -⟩ := hn
        omega
      rw [State.ruleOne_wake _ hn hr, s.hearing_turnedAway]
      simp [State.turnedAway, hcore, heng, hhad ⟨n, hlt⟩]
    · rw [State.named_wake hst, hst, hm]
      rfl
  have hset := State.wakeSet_keeps (s.hearing h (.wake mask.toNat)) m
  obtain ⟨hans, hrow⟩ := State.acts_mail_quiet hh (wake_decided _) (by simp [orderTyp]) hdec hset rfl
  obtain ⟨he, hg, hsep, hvat⟩ := (s.hearing h (.wake mask.toNat)).wakeSet_effect m
  have hbit : ∀ n, requestable n → hasBit m n = hasBit mask.toNat n := fun n hn => hm ▸ hasBit_wakeWon _ hn
  have hsrc : (s.hearing h (.wake mask.toNat)).bit F.AON_WAKE_SRC_SRC 0 = true := State.bit_putBitOf_same _ _ _ _ (by decide)
  rw [hbit 8 (by decide)] at hsep
  rw [hbit 9 (by decide)] at hvat
  refine ⟨_, rfl, hans, hrow.bit_trans rfl (hset.bit_trans rfl hsrc), fun e => hrow.bit_trans rfl ?_, fun g => hrow.bit_trans rfl ?_,
    hrow.flag_trans rfl ?_, hrow.fld_trans rfl ?_⟩
  · refine (he e).trans ?_
    rw [hbit _ ⟨by omega, by omega, by omega⟩]
    exact congrArg (· || _) (hkeeps.bit_eq rfl)
  · refine (hg g).trans ?_
    rw [hbit _ ⟨by omega, by omega, by omega⟩]
    exact congrArg (· || _) (hkeeps.bit_eq rfl)
  · exact hsep.trans (congrArg (· || _) (hkeeps.flag_eq rfl))
  · exact hvat.trans (congrArg (fun v => if hasBit mask.toNat 9 then 2 else v) (hkeeps.fld_eq (f := F.AON_PD_REQ_VAT_REQ) rfl))

/-! ### A WAKE that is refused -/

/-- What a WAKE is refused, where all that it asks for is turned away: one reason for each domain. -/
theorem State.wake_no {mask : Nat} (hst : s.isSteward h.host = true)
    (haway : ∀ n r, requestable n → wakeRank mask n = some r → s.turnedAway n = true) :
    ∀ x ∈ ((s.hearing h (.wake mask)).cand ⟨0, s.recsIn.mailFrame h (.wake mask)⟩).no,
      ∃ n, requestable n ∧ hasBit mask n = true ∧ x.2 = (s.hearing h (.wake mask)).hadReason n := by
  intro x hx
  obtain ⟨a, ha, hrule⟩ := List.mem_filterMap.mp hx
  have ha' : a ∈ s.named h (.wake mask) := s.cand_asks h (.wake mask) ▸ ha
  rw [State.named_wake hst] at ha'
  obtain ⟨n, r, hn, hr, rfl⟩ := mem_pdAsks.mp ha'
  have hbit : hasBit mask n = true := by
    rw [← wakeRank_isSome mask hn, hr]
    rfl
  refine ⟨n, hn, hbit, ?_⟩
  have hrule' : (s.hearing h (.wake mask)).ruleOne (.wake mask) ⟨0x40 + n, r, []⟩ = some ((s.hearing h (.wake mask)).hadReason n) := by
    rw [State.ruleOne_wake _ hn hr, s.hearing_turnedAway, haway n r hn hr]
    rfl
  rw [show (⟨0, s.recsIn.mailFrame h (.wake mask)⟩ : Item).f.order = .wake mask from rfl, hrule'] at hrule
  exact (congrArg Prod.snd (Option.some.inj hrule)).symm

/-- The reason of a refusal that gives one reason throughout. -/
theorem Cand.refusal_reason {c : Cand} {r : Nat} (hne : c.no ≠ []) (hr : r = 1 ∨ r = 2) (hall : ∀ x ∈ c.no, x.2 = r) : c.refusal.reason = r := by
  obtain ⟨x, hx⟩ := List.exists_mem_of_ne_nil _ hne
  have hany : c.no.any (fun x => x.2 == 1) = (r == 1) := by
    rw [Bool.eq_iff_iff, List.any_eq_true]
    constructor
    · rintro ⟨y, hy, hy1⟩
      rw [← hall y hy]
      exact hy1
    · intro h1
      exact ⟨x, hx, by rw [hall x hx]; exact h1⟩
  unfold Cand.refusal
  simp only [hany]
  rcases hr with rfl | rfl <;> rfl

theorem exec_wake_refused {mask : BitVec 32} (hh : s.hears h (.wake mask.toNat)) (hst : s.isSteward h.host = true)
    (hsep : hasBit mask.toNat 8 = true)
    (haway : s.coreRefused = true ∨ (∀ n : Fin 23, 8 ≤ n.val → n.val ≠ 14 → s.hadRefused n = true)) :
    ∃ t, exec (.wake h mask) s = .next t ∧ (t.answers h 3 1 ∨ t.answers h 3 2) ∧
      ((∀ e : Fin 4, hasBit mask.toNat (10 + e) = false) → t.answers h 3 (if s.funcHeld 5 then 1 else 2)) ∧
      t.fld F.AON_PD_REQ_SEP_REQ ≤ s.fld F.AON_PD_REQ_SEP_REQ ∧ (∀ e : Fin 4, t.engReq e = true → s.engReq e = true) ∧
      (∀ g : Fin 8, t.tgReq g = true → s.tgReq g = true) := by
  have hturned : ∀ n, requestable n → s.turnedAway n = true := by
    rintro n ⟨hlo, hhi, hne⟩
    unfold State.turnedAway
    rcases haway with hcore | hhad
    · simp [hcore]
    · simp [hhad ⟨n, by omega⟩ hlo hne]
  obtain ⟨c, hc⟩ : ∃ c, c = (s.hearing h (.wake mask.toNat)).cand ⟨0, s.recsIn.mailFrame h (.wake mask.toNat)⟩ := ⟨_, rfl⟩
  have hno : ∀ x ∈ c.no, ∃ n, requestable n ∧ hasBit mask.toNat n = true ∧ x.2 = (s.hearing h (.wake mask.toNat)).hadReason n :=
    hc ▸ State.wake_no hst fun n _ hn _ => hturned n hn
  have h8 : (⟨0x40 + 8, 1, []⟩ : Ask) ∈ s.named h (.wake mask.toNat) := by
    rw [State.named_wake hst]
    refine mem_pdAsks.mpr ⟨8, 1, by decide, ?_, rfl⟩
    unfold wakeRank
    rw [hasBit_and, hsep, hasBit_wakeMask (by decide)]
    rfl
  have hrules : ∀ x ∈ s.named h (.wake mask.toNat), ((s.hearing h (.wake mask.toNat)).ruleOne (.wake mask.toNat) x).isSome = true := by
    intro x hx
    rw [State.named_wake hst] at hx
    obtain ⟨n, r, hn, hr, rfl⟩ := mem_pdAsks.mp hx
    rw [State.ruleOne_wake _ hn hr, s.hearing_turnedAway, hturned n hn]
    rfl
  have hne : c.no ≠ [] := by
    intro he
    obtain ⟨r, hr⟩ := Option.isSome_iff_exists.mp (hrules _ h8)
    have hany := State.cand_no_any (s := s.hearing h (.wake mask.toNat)) (i := ⟨0, s.recsIn.mailFrame h (.wake mask.toNat)⟩)
      ((s.cand_asks h (.wake mask.toNat)).symm ▸ h8) hr
    rw [← hc, he] at hany
    exact absurd hany (by simp)
  have hdec := State.decides_refused (wake_decided _) (by simp [orderTyp]) (State.admit_wake ..) (List.ne_nil_of_mem h8) hrules
  rw [← hc] at hdec
  have hbits := State.refusalBits_keeps (s.hearing h (.wake mask.toNat)) c
  obtain ⟨hans, hrow⟩ := State.acts_mail_quiet hh (wake_decided _) (by simp [orderTyp]) hdec hbits rfl
  have hstatus : c.refusal.status = 3 := rfl
  rw [hstatus] at hans
  have hend : Keeps (hearMask ||| mask32 ||| afterReplyMask) s.recsIn (s.acts fun a => a.mail h (.wake mask.toNat)) :=
    .step hrow rfl <| .step hbits rfl ((s.hearing_keeps h _).mono rfl)
  refine ⟨_, rfl, ?_, fun hnoeng => ?_, (hend.fld_eq rfl).le, fun e he => ?_, fun g hg => ?_⟩
  · have hcases : c.refusal.reason = 1 ∨ c.refusal.reason = 2 := by
      unfold Cand.refusal
      dsimp only
      split
      · exact .inl rfl
      · exact .inr rfl
    rcases hcases with h1 | h2
    · exact .inl (h1 ▸ hans)
    · exact .inr (h2 ▸ hans)
  · have hreason : c.refusal.reason = if s.funcHeld 5 then 1 else 2 := by
      refine Cand.refusal_reason hne (by split <;> simp) fun x hx => ?_
      obtain ⟨n, ⟨hlo, hhi, hn14⟩, hbit, hr⟩ := hno x hx
      have heng : ¬ (10 ≤ n ∧ n < 14) := by
        rintro ⟨h10, h13⟩
        have := hnoeng ⟨n - 10, by omega⟩
        rw [show 10 + (n - 10) = n by omega, hbit] at this
        exact Bool.noConfusion this
      have hflag : (decide (10 ≤ n) && decide (n < 14)) = false := by simpa using heng
      rw [hr]
      unfold State.hadReason
      simp [hflag, s.hearing_funcHeld h _ 5]
    exact hreason ▸ hans
  · exact (hend.bit_eq (f := F.AON_PD_REQ_ENG_REQ) rfl).symm.trans he
  · exact (hend.bit_eq (f := F.AON_PD_REQ_TG_REQ) rfl).symm.trans hg

/-! ### SLEEP_HINT -/

theorem sleep_decided (mask vat : Nat) : (Order.sleepHint mask vat false).Decided := ⟨rfl, rfl⟩

/-- What a SLEEP_HINT of single domains asks of a domain. -/
def sleepRank (mask vat n : Nat) : Option Nat :=
  if n = 9 then (if vat = 1 then some 1 else if vat = 2 then some 0 else none) else if false || hasBit mask n then some 0 else none

theorem State.named_sleep (s : State) (h : Hdr) (mask vat : Nat) : s.named h (.sleepHint mask vat false) = pdAsks (sleepRank mask vat) := rfl

theorem State.ruleOne_sleep (b : State) {mask vat n r : Nat} (hn : requestable n) (hr : sleepRank mask vat n = some r) :
    b.ruleOne (.sleepHint mask vat false) ⟨0x40 + n, r, []⟩ = none := by
  rw [State.ruleOne_domain b (by simp [orderTyp]) hn]
  have hwant : (if n = 9 then r == 2 else r == 1) = false := by
    unfold sleepRank at hr
    split
    next h9 =>
      rw [if_pos h9] at hr
      split at hr
      · exact (Option.some.inj hr) ▸ rfl
      · split at hr
        · exact (Option.some.inj hr) ▸ rfl
        · exact absurd hr (by simp)
    next h9 =>
      rw [if_neg h9] at hr
      split at hr
      · exact (Option.some.inj hr) ▸ rfl
      · exact absurd hr (by simp)
  rw [hwant]
  rfl

/-- The domains that a SLEEP_HINT wins. -/
theorem hasBit_sleepWon (mask vat : Nat) {n : Nat} (hn : requestable n) :
    hasBit (wonMask (names (pdAsks (sleepRank mask vat)))) n = (sleepRank mask vat n).isSome := by
  have hlt : n < 23 := by
    obtain ⟨-, hhi, -⟩ := hn
    omega
  rw [hasBit_wonMask _ hlt, names_pdAsks hn]

theorem sleepRank_isSome (mask vat : Nat) {n : Nat} (hn : n ≠ 9) : (sleepRank mask vat n).isSome = hasBit mask n := by
  unfold sleepRank
  rw [if_neg hn, Bool.false_or]
  cases hasBit mask n <;> rfl

/-- What the requests of the domains read after a SLEEP_HINT. -/
theorem State.sleepSet_effect (b : State) (m vat : Nat) :
    (∀ e : Fin 4, (b.sleepSet m vat).engReq e = (b.engReq e && !hasBit m (10 + e))) ∧
    (∀ g : Fin 8, (b.sleepSet m vat).tgReq g = (b.tgReq g && !hasBit m (15 + g))) ∧
    (b.sleepSet m vat).flag F.AON_PD_REQ_SEP_REQ = (b.flag F.AON_PD_REQ_SEP_REQ && !hasBit m 8) ∧
    (b.sleepSet m vat).vatReq = if hasBit m 9 then (if vat = 1 then 1 else 0) else b.vatReq := by
  unfold State.sleepSet
  extract_lets s1 s2
  have h1 : s1.flag F.AON_PD_REQ_SEP_REQ = (b.flag F.AON_PD_REQ_SEP_REQ && !hasBit m 8) ∧ s1.vatReq = b.vatReq ∧
      s1.fld F.AON_PD_REQ_ENG_REQ = b.fld F.AON_PD_REQ_ENG_REQ ∧ s1.fld F.AON_PD_REQ_TG_REQ = b.fld F.AON_PD_REQ_TG_REQ := by
    unfold s1
    split
    next h8 =>
      rw [h8, Bool.not_true, Bool.and_false]
      exact ⟨State.flag_putFlag _ _ _ _ _ (by decide), State.fld_putFlag_id _ _ _ _ _ _ (by decide),
        State.fld_putFlag_id _ _ _ _ _ _ (by decide), State.fld_putFlag_id _ _ _ _ _ _ (by decide)⟩
    next h8 =>
      rw [Bool.eq_false_iff.mpr h8, Bool.not_false, Bool.and_true]
      exact ⟨rfl, rfl, rfl, rfl⟩
  obtain ⟨hsep1, hvat1, heng1, htg1⟩ := h1
  have h2 : s2.flag F.AON_PD_REQ_SEP_REQ = (b.flag F.AON_PD_REQ_SEP_REQ && !hasBit m 8) ∧
      s2.vatReq = (if hasBit m 9 then (if vat = 1 then 1 else 0) else b.vatReq) ∧
      s2.fld F.AON_PD_REQ_ENG_REQ = b.fld F.AON_PD_REQ_ENG_REQ ∧ s2.fld F.AON_PD_REQ_TG_REQ = b.fld F.AON_PD_REQ_TG_REQ := by
    unfold s2
    split
    · exact ⟨(State.flag_put_id _ _ _ _ _ _ (by decide)).trans hsep1,
        State.fld_put _ _ (show (if vat = 1 then 1 else 0) < 4 by split <;> omega) _ _,
        (State.fld_put_id _ _ _ _ _ _ (by decide)).trans heng1, (State.fld_put_id _ _ _ _ _ _ (by decide)).trans htg1⟩
    · exact ⟨hsep1, hvat1, heng1, htg1⟩
  obtain ⟨hsep, hvat, heng, htg⟩ := h2
  have hengReq : ∀ e, s2.engReq e = b.engReq e := fun e => congrArg (fun v => hasBit v e) heng
  have htgReq : ∀ g, s2.tgReq g = b.tgReq g := fun g => congrArg (fun v => hasBit v g) htg
  clear_value s1 s2
  refine ⟨fun e => ?_, fun g => ?_, ?_, ?_⟩
  · refine (State.bit_put_id _ _ _ _ _ _ _ (by decide)).trans ((State.bit_put _ _ _ _ _ (show e.val < 4 from e.isLt)).trans ?_)
    rw [hasBit_maskOf, hengReq]
    simp
  · refine (State.bit_put _ _ _ _ _ (show g.val < 8 from g.isLt)).trans ?_
    rw [hasBit_maskOf, htgReq]
    simp
  · exact (State.flag_put_id _ _ _ _ _ _ (by decide)).trans ((State.flag_put_id _ _ _ _ _ _ (by decide)).trans hsep)
  · exact (State.fld_put_id _ _ _ _ _ _ (by decide)).trans ((State.fld_put_id _ _ _ _ _ _ (by decide)).trans hvat)

theorem exec_sleep {mask : BitVec 32} {vat : Byte} (hvat : vat.toNat ≤ 2) (hh : s.hears h (.sleepHint mask.toNat vat.toNat false))
    (hst : s.isSteward h.host = true) :
    ∃ t, exec (.sleepHint h mask vat false) s = .next t ∧ t.answers h 0 0 ∧
      (∀ e : Fin 4, t.engReq e = (s.engReq e && !hasBit mask.toNat (10 + e))) ∧
      (∀ g : Fin 8, t.tgReq g = (s.tgReq g && !hasBit mask.toNat (15 + g))) ∧
      t.flag F.AON_PD_REQ_SEP_REQ = (s.flag F.AON_PD_REQ_SEP_REQ && !hasBit mask.toNat 8) ∧
      t.vatReq = (if vat = 1 then 1 else if vat = 2 then 0 else s.vatReq) := by
  obtain ⟨m, hm⟩ : ∃ m, m = wonMask (names (pdAsks (sleepRank mask.toNat vat.toNat))) := ⟨_, rfl⟩
  have horder : mkSleep mask.toNat vat.toNat false = .sleepHint mask.toNat vat.toNat false := if_pos hvat
  have hkeeps := s.hearing_keeps h (.sleepHint mask.toNat vat.toNat false)
  have hdec : s.decides h (.sleepHint mask.toNat vat.toNat false) ((s.hearing h (.sleepHint mask.toNat vat.toNat false)).sleepSet m vat.toNat) {} := by
    refine State.decides_done (sleep_decided ..) (hst ▸ stewardOrder_admitted rfl (by simp [orderTyp]) (by simp [orderTyp])) (fun a ha => ?_) ?_
      (by decide)
    · rw [State.named_sleep] at ha
      obtain ⟨n, r, hn, hr, rfl⟩ := mem_pdAsks.mp ha
      exact State.ruleOne_sleep _ hn hr
    · rw [State.named_sleep, hm]
      rfl
  have hset := State.sleepSet_keeps (s.hearing h (.sleepHint mask.toNat vat.toNat false)) m vat.toNat
  obtain ⟨hans, hrow⟩ := State.acts_mail_quiet hh (sleep_decided ..) (by simp [orderTyp]) hdec hset rfl
  obtain ⟨he, hg, hsep, hv⟩ := (s.hearing h (.sleepHint mask.toNat vat.toNat false)).sleepSet_effect m vat.toNat
  have hbit : ∀ n, requestable n → n ≠ 9 → hasBit m n = hasBit mask.toNat n := fun n hn h9 =>
    hm ▸ (hasBit_sleepWon _ _ hn).trans (sleepRank_isSome _ _ h9)
  have h9 : hasBit m 9 = (sleepRank mask.toNat vat.toNat 9).isSome := hm ▸ hasBit_sleepWon _ _ (by decide)
  rw [hbit 8 (by decide) (by decide)] at hsep
  refine ⟨_, ?_, hans, fun e => hrow.bit_trans rfl ?_, fun g => hrow.bit_trans rfl ?_, hrow.flag_trans rfl ?_, hrow.fld_trans rfl ?_⟩
  · rw [← horder]
    rfl
  · refine (he e).trans ?_
    rw [hbit _ ⟨by omega, by omega, by omega⟩ (by omega)]
    exact congrArg (· && _) (hkeeps.bit_eq rfl)
  · refine (hg g).trans ?_
    rw [hbit _ ⟨by omega, by omega, by omega⟩ (by omega)]
    exact congrArg (· && _) (hkeeps.bit_eq rfl)
  · exact hsep.trans (congrArg (· && _) (hkeeps.flag_eq rfl))
  · refine hv.trans ?_
    have hreq : (s.hearing h (.sleepHint mask.toNat vat.toNat false)).vatReq = s.vatReq := hkeeps.fld_eq rfl
    have hone : vat = 1 ↔ vat.toNat = 1 := by bv_omega
    have htwo : vat = 2 ↔ vat.toNat = 2 := by bv_omega
    rw [h9, hreq]
    simp only [sleepRank, hone, htwo]
    by_cases h1 : vat.toNat = 1
    · simp [h1]
    · by_cases h2 : vat.toNat = 2
      · simp [h2]
      · simp [h1, h2]

/-! ### HELLO -/

/-- The frame that a HELLO row stands for: it comes from the address that it gives. -/
def helloFrame (h : Hdr) (feat src : Nat) : Frame :=
  { host := h.host, seq := h.seq.toNat, minor := h.minor, auth := true, addr := src, order := .hello feat }

theorem State.mailAt_hello {feat src : Nat} (hh : s.hears h (.hello feat)) :
    s.mailAt h true src (.hello feat) = (s.heard h).decide [helloFrame h feat src] := by
  have hkey : (s.repliesLeave.keyOf h.host).isEmpty = false := hh.key
  have hnew : s.repliesLeave.judge h.host h.seq.toNat = .new := hh.new
  have hroom : s.repliesLeave.mailRoom h.host = true := by
    have hall : s.repliesLeave.mgt.rxq.length < 64 := hh.room
    have hhost : (s.repliesLeave.mgt.rxq.filter fun f => f.host == h.host.val).length < 16 := hh.roomHost
    simp [State.mailRoom, hall, hhost, show s.repliesLeave.mgt.txq = [] from rfl]
  have haccept : s.repliesLeave.accept (helloFrame h feat src) = (s.heard h, some (helloFrame h feat src)) := by
    unfold State.accept
    exact (congrArg (s.repliesLeave.acceptAs (helloFrame h feat src)) hnew).trans (if_pos hroom)
  simp only [helloFrame] at haccept ⊢
  simp [State.mailAt, hh.node, hkey, haccept]

/-- The field in which the minor of a host stands. -/
def negField (k : Nat) : RField := negFields.getD (k % 8) F.MGT_NEG_MINOR0

theorem negField_cases (p : RField → Prop) (hp : ∀ f ∈ negFields, p f) (k : Nat) : p (negField k) := by
  refine hp _ ?_
  unfold negField
  rw [List.getD_eq_getElem _ _ (show k % 8 < negFields.length from Nat.mod_lt _ (by decide))]
  exact List.getElem_mem _

/-- What a HELLO that is accepted leaves of its host. -/
theorem helloApply_effect {b : State} {feat src : Nat} :
    (helloApply [(0, {})] b ⟨0, helloFrame h feat src⟩).bit F.MGT_HELLO_DONE h.host = true ∧
    (helloApply [(0, {})] b ⟨0, helloFrame h feat src⟩).minorOf h.host = min 3 h.minor.val ∧
    (helloApply [(0, {})] b ⟨0, helloFrame h feat src⟩).mgt.txq = b.mgt.txq := by
  obtain ⟨a, ha⟩ : ∃ a : State, a = (b.setHost h.host { b.host h.host with feat := feat &&& moduleFeat, addr := src, evCount := 0 }).putBitOf
      F.MGT_HELLO_DONE h.host true := ⟨_, rfl⟩
  have heq : helloApply [(0, {})] b ⟨0, helloFrame h feat src⟩ = a.put (negField h.host) (min 3 h.minor.val) (h.host / 8) := by
    rw [ha]
    rfl
  have hdone : a.bit F.MGT_HELLO_DONE h.host = true := ha ▸ State.bit_putBitOf_same _ _ _ _ (show h.host.val < 16 from h.host.isLt)
  have hwidth : (negField h.host).width = 4 := negField_cases (fun f => f.width = 4) (by decide) _
  have hid : F.MGT_HELLO_DONE.id ≠ (negField h.host).id := negField_cases (fun f => F.MGT_HELLO_DONE.id ≠ f.id) (by decide) _
  rw [heq]
  refine ⟨(State.bit_put_id _ _ _ _ _ _ _ hid).trans hdone, ?_, ?_⟩
  · exact State.fld_put _ _ (by rw [hwidth]; omega) _ _
  · rw [ha]
    rfl

/-- A HELLO is answered with what both sides have, and applies behind its reply. -/
theorem State.decide_hello {b : State} {feat src : Nat} (hpre : b.preAns h.host (.hello feat) = none) (hover : b.leaseOver = false)
    (hlost : b.lease.lost = false) : b.decide [helloFrame h feat src] =
      ((helloApply [(0, {})] (sendReply [(0, {})] b ⟨0, helloFrame h feat src⟩) ⟨0, helloFrame h feat src⟩).keysApply.powerSettle).gateSettle := by
  have hdecided : (helloFrame h feat src).order.Decided := ⟨rfl, rfl⟩
  have hadmit : b.admitAns h.host (b.isSteward h.host) (.hello feat) = none := by
    simp [State.admitAns, stewardTyp, orderTyp, State.hasRight, State.stageBusy]
  have horders : decideOrders (b, []) [⟨0, helloFrame h feat src⟩] = (b, [(0, {})]) :=
    decideOrders_alone hdecided hadmit (decideCand_done (r := (b, {})) rfl rfl (by simp))
  have hsteps : decideSteps b [⟨0, helloFrame h feat src⟩] = (b, [(0, {})]) :=
    (decideSteps_alone (i := ⟨0, helloFrame h feat src⟩) hdecided rfl hpre hover hlost).trans horders
  simp [State.decide, items, hsteps]

theorem exec_hello {feat : BitVec 128} {src : BitVec 48} (hh : s.hears h (.hello feat.toNat)) :
    ∃ t, exec (.hello h feat src) s = .next t ∧ t.bit F.MGT_HELLO_DONE h.host = true ∧ t.minorOf h.host = min 3 h.minor.val ∧
      t.answers h 0 0 (· = leBytes 16 (feat.toNat &&& 0xFF) ++ [BitVec.ofNat 8 (min 3 h.minor.val)]) := by
  obtain ⟨b, hb⟩ : ∃ b, b = s.recsIn.heard h := ⟨_, rfl⟩
  obtain ⟨f, hf⟩ : ∃ f, f = helloFrame h feat.toNat src.toNat := ⟨_, rfl⟩
  have hkeeps : Keeps heardMask s.recsIn b := hb ▸ s.recsIn.heard_keeps h
  have hnode : b.nodeUp = true := (hkeeps.nodeUp rfl rfl rfl).trans hh.node
  have hmail : s.recsIn.mailAt h true src.toNat (.hello feat.toNat) =
      ((helloApply [(0, {})] (sendReply [(0, {})] b ⟨0, f⟩) ⟨0, f⟩).keysApply.powerSettle).gateSettle := by
    rw [State.mailAt_hello hh.recsIn, hf, hb]
    exact State.decide_hello ((s.recsIn.heard_preAns h _).trans hh.pre) ((s.recsIn.heard_leaseOver h).trans hh.lease)
      ((congrArg Lease.lost ((s.recsIn.heard_keeps h).lease rfl)).trans hh.kept)
  have hsent : (sendReply [(0, {})] b ⟨0, f⟩).mgt.txq = [b.mkReply f {}] := by
    have hup : (b.storeReply (b.mkReply f {})).nodeUp = true := ((State.storeReply_keeps b _).nodeUp rfl rfl rfl).trans hnode
    have hsend : sendReply [(0, {})] b ⟨0, f⟩ = (b.storeReply (b.mkReply f {})).pushReply (b.mkReply f {}) := by
      rw [hf]
      rfl
    rw [hsend, State.pushReply_txq _ hup, State.storeReply_txq, hb, s.recsIn.heard_txq h, List.nil_append]
  obtain ⟨hdone, hminor, htxq⟩ := helloApply_effect (h := h) (b := sendReply [(0, {})] b ⟨0, f⟩) (feat := feat.toNat) (src := src.toNat)
  rw [← hf] at hdone hminor htxq
  obtain ⟨a, ha⟩ : ∃ a, a = helloApply [(0, {})] (sendReply [(0, {})] b ⟨0, f⟩) ⟨0, f⟩ := ⟨_, rfl⟩
  rw [← ha] at hdone hminor htxq hmail
  have hacts : Keeps mask4 (s.recsIn.mailAt h true src.toNat (.hello feat.toNat)) (s.acts fun x => x.mailAt h true src.toNat (.hello feat.toNat)) :=
    State.acts_keeps_action (fun x => x.mailAt h true src.toNat (.hello feat.toNat)) hh.up
  rw [hmail] at hacts
  have hrest : Keeps (mask244 ||| mask4 ||| 0x1) a.keysApply (s.acts fun x => x.mailAt h true src.toNat (.hello feat.toNat)) :=
    .step hacts rfl <| .step (State.gateSettle_keeps _) rfl <| .step (State.powerSettle_keeps _) rfl (.refl _ _)
  have hend : Keeps afterReplyMask a (s.acts fun x => x.mailAt h true src.toNat (.hello feat.toNat)) :=
    .step hrest rfl ((State.keysApply_keeps a).mono rfl)
  have hspare : spares afterReplyMask (negField h.host) = true := negField_cases (fun f => spares afterReplyMask f = true) (by decide) _
  refine ⟨_, rfl, hend.bit_trans rfl hdone, hend.fld_trans hspare hminor, b.mkReply f {}, ?_, ?_⟩
  · rw [hrest.txq rfl, State.keysApply_txq, htxq, hsent]
  · rw [hf]
    exact ⟨rfl, rfl, rfl, rfl, rfl⟩

end

/-! ### The statement -/

/-- Settles O12: each message is heard and decided alone in its tick. -/
theorem powerAndLoadMessagesTakeEffect : Obligations.PowerAndLoadMessagesTakeEffect := by
  unfold Obligations.PowerAndLoadMessagesTakeEffect
  refine ⟨fun s h feat src hh => exec_hello hh, fun s h mask hh hst hcore heng hhad => exec_wake hh hst hcore heng hhad,
    fun s h mask hh hst hsep haway => exec_wake_refused hh hst hsep haway, fun s h mask vat hvat hh hst => exec_sleep hvat hh hst,
    fun s h p r hp hh hst => exec_share hp hh hst, fun s h b hfits hh hst hchain => exec_limits hfits hh hst hchain,
    fun s h b hfits hh hst hchain => exec_model hfits hh hst hchain, fun s h b hfits hh hst => ?safety⟩
  case safety =>
    refine ⟨_, exec_load hfits rfl, fun hkey => State.acts_safety_unkeyed hh hst hkey, fun c hkey hparse => ?_⟩
    exact State.acts_safety_keyed hh hst hkey hparse

end Sys2Proof.Machine
